-- ==== Sys2Proof/Word.lean ====
section
/-! DEFINITION. The word types of the SL-1 and their plainest arithmetic. -/
set_option Elab.async false
namespace Sys2Proof

/-- A byte, the smallest addressable unit of every memory of the SL-1. -/
abbrev Byte := BitVec 8
/-- A 16-bit halfword. -/
abbrev Half := BitVec 16
/-- A 32-bit word: every register of the SL-1. -/
abbrev Word := BitVec 32
/-- A 64-bit doubleword. -/
abbrev DWord := BitVec 64

end Sys2Proof
end

