-- ==== Sys2Proof/Syntax.lean ====
section
/-! DEFINITION. The commands of the SL-1 as a block: one constructor for each row of the table of operations and events, with the
operands the row's rule gives it.  A command stands for one whole and indivisible step of the part. -/
set_option Elab.async false
namespace Sys2Proof

/-- What a memory access finds at a word's check bits (R186, R199). -/
inductive Ecc where
  | clean
  | corrected
  | uncorrectable
  deriving DecidableEq, Repr

/-- What a weight write is for (R51, R52, R53). -/
inductive WriteKind where
  /-- A husk segment of a plot in LOADING. -/
  | husk
  /-- A repair of a logical slot into the group's spare. -/
  | repair
  /-- The reference image into the group's spare. -/
  | reference
  /-- A harrow's zeros. -/
  | harrow
  deriving DecidableEq, Repr

/-- Where a bundle slot's operation issues: the tile, the bundle's index, the schedule cycle at which the sequencer presents it, and what
the ECC of the scratchpad words it reads reports. -/
structure Slot where
  tile : Fin 128
  pc : BitVec 14
  cyc : Nat
  ecc : Ecc := .clean
  deriving DecidableEq, Repr

/-- The VEC slot's fields below the operation code (R122). -/
structure VecOp where
  w : BitVec 2
  ef : BitVec 3
  rnd : Bool
  ovf : Bool
  vd : Fin 32
  va : Fin 32
  vb : Fin 32
  vc : Fin 32
  imm : BitVec 29
  deriving DecidableEq, Repr

/-- The sources of host-memory requests (Table HIF-5). -/
inductive HostSource where
  /-- Storage channel n. -/
  | storage (n : Nat)
  /-- Work or completion ring of plot p. -/
  | ring (p : Nat)
  /-- Context backing store: the context index. -/
  | backing (cid : Nat)
  /-- Feed window k. -/
  | feed (k : Nat)
  deriving DecidableEq, Repr

/-- Who accesses a register, as far as write permissions depend on it (R6, R285, R313, R353, R397). -/
inductive Master where
  | pf
  | vf (p : Fin 12)
  | core (c : Fin 24)
  deriving DecidableEq, Repr

/-- The requester of an LPDDR5X access (R196, Table MEM-6). -/
inductive Requester where
  /-- Plot p or an engine acting for it. -/
  | plot (p : Fin 12)
  /-- The weight loader acting for plot p (R422), and the region named by the message it serves. -/
  | loader (p : Fin 12) (serving : Option (Fin 32))
  /-- A host BAR2 access. -/
  | host
  /-- Firmware component n or an engine acting for it, and the region named by the message it serves. -/
  | component (n : Fin 6) (serving : Option (Fin 32))
  deriving DecidableEq, Repr

/-- What the training of an LPDDR5X controller meets (R197): the reading of the nearest base-die sensor, °C + 64; whether the verify pass meets the saved eye margins; whether a
full training succeeds, and the number of the values that it gives. -/
structure TrainRun where
  sensor : Byte
  verified : Bool
  succeeds : Bool
  values : Nat
  deriving DecidableEq, Repr

/-- One 4 KiB frame of an image as it arrives at a receiver (R250). -/
structure BcastFrame where
  index : Nat
  data : List Byte
  deriving DecidableEq, Repr

/-- What the rounds of repair bring (R250): for each round, the frames that arrive by unicast and at which receivers; and the images that arrive once more, whole. -/
structure RepairRun where
  rounds : List (List (Nat × BcastFrame))
  whole : List (Nat × List Byte)
  deriving DecidableEq, Repr

/-- A core's execution of one instruction: the core, what the ECC of the SRAM words it uses reports, the cycles it stalls, whether a
reserved field of its encoding is not 0 (R228), the region named by the message that its firmware serves (R196), and how many SRAM words ECC corrects (R213). -/
structure Nvc where
  core : Fin 24
  ecc : Ecc := .clean
  stall : Nat := 0
  reserved : Bool := false
  serving : Option (Fin 32) := none
  words : Nat := 1
  deriving DecidableEq, Repr

/-- Operands of format R (Table NVC-9). -/
structure AluR where
  rd : Fin 16
  ra : Fin 16
  rb : Fin 16
  nd : Bool := false
  s : Bool := false
  deriving DecidableEq, Repr

/-- Operands of format I. -/
structure AluI where
  rd : Fin 16
  ra : Fin 16
  nd : Bool := false
  s : Bool := false
  imm : BitVec 16
  deriving DecidableEq, Repr

/-- Operands of format M. -/
structure MemM where
  rd : Fin 16
  p : Fin 8
  am : BitVec 2
  imm : BitVec 17
  deriving DecidableEq, Repr

/-- The header of a mailbox request (Table FWM-4) as far as the rules use it: the owner of the mailbox (0 PF, 1 to 12 the VF of plot f − 1, 13
the management port), SEQ, VERSION, PLOT (none: 0xFF, the module) and payload length. -/
structure Msg where
  owner : Fin 14
  seq : BitVec 32
  version : Nat
  plot : Option (Fin 12)
  length : Nat
  deriving DecidableEq, Repr
/-- An Omfemos packet (Tables RMA-1 and RMA-2), its operation code apart.  `reserved` says that a field the tables reserve is not 0. -/
structure OmfPkt where
  ver : Byte
  kphase : Bool := false
  first : Bool := true
  last : Bool := true
  ackreq : Bool := false
  cid : BitVec 16
  ctag : BitVec 16
  pctr : DWord
  psn : Word
  rkey : Word := 0
  roff : DWord := 0
  oplen : Word := 0
  etime : Word := 0
  imm : DWord := 0
  data : List Byte := []
  reserved : Bool := false
  deriving DecidableEq, Repr

/-- An Omfemos packet as it reaches the remote-memory engine: the packet, whether it authenticates under the key of its KPHASE (R296), its
classifier stamp (R305), the plot its rule named, what the memory it touches reports, for a crossing the receiver's elapsed time, ns, and the stall
cycles of a tile whose held operation it lets go. -/
structure Arrival where
  pkt : OmfPkt
  auth : Bool
  stamp : Nat
  plot : Fin 13
  ecc : Ecc := .clean
  readyNs : Nat := 0
  waited : Nat := 0
  deriving DecidableEq, Repr

/-- A connection set-up packet (R292): the version range, the sender's context and tag, its nonce, the long-term key, its MSS offer, and whether its
CMAC verifies; for an OPEN_REQ also where it came from. -/
structure OpenPkt where
  vmin : Byte
  vmax : Byte
  peerCid : BitVec 16
  peerTag : BitVec 16
  nonce : BitVec 128
  keyId : Word
  mss : Nat
  macOk : Bool
  addr : BitVec 128 := 0
  port : BitVec 16 := 0
  ipv6 : Bool := true
  deriving DecidableEq, Repr

/-- What a layout record or PLT_DEFINE gives a plot (R384): tiles, base and size of its region in 16 MiB units, classifier and meter ranges as first and count, egress queues
as (port, first, last), storage channels. -/
structure PlotDef where
  tiles : BitVec 128
  base : Nat
  size : Nat
  entries : Nat × Nat
  meters : Nat × Nat
  queues : List (Nat × (Nat × Nat))
  channels : List Nat
  deriving DecidableEq, Repr

/-- A sheaf as it lies in storage (R428, Tables CKP-1 and CKP-2): header and trailer of 4,096 bytes and one record of 65,568 bytes for each page. -/
structure Sheaf where
  header : List Byte
  trailer : List Byte
  records : List (List Byte)
  deriving DecidableEq, Repr

/-- Where an object too long for a message lies (R381): a host region, 12 + slot, at an offset, or the management staging buffer at an offset. -/
inductive SecBuf where
  | host (slot : Fin 4) (off : Nat)
  | staging (off : Nat)
  deriving DecidableEq, Repr

/-- Where HUSK_LOAD finds the husk (R374): an offset of a region that the loader reads, or a storage binding and LBA, whose bytes the privileged channel brings. -/
inductive HuskSource where
  | region (r : Fin 16) (off : Nat)
  | storage (binding : Byte) (lba : DWord) (bytes : List Byte)
  deriving DecidableEq, Repr

/-- What a TLS record of the management port turns out to be (R378, R379): the end of a handshake under the PSK of an identity, a mailbox message (its header and TYPE), or
one of the causes that close the session. -/
inductive MgmtRecord where
  | handshake (identity : BitVec 128)
  | mailbox (m : Msg) (type : BitVec 16)
  | alert
  | badAuth
  | unsupported
  | malformed
  deriving DecidableEq, Repr

/-- A frame on the management port outside TLS records (R378). -/
inductive MgmtFrame where
  | arp (target : Word)
  | ndp (target : BitVec 128)
  | echo4 (dest : Word) (data : List Byte)
  | echo6 (dest : BitVec 128) (data : List Byte)
  | tcp4 (dest : Word) (port : BitVec 16)
  | tcp6 (dest : BitVec 128) (port : BitVec 16)
  deriving DecidableEq, Repr

/-- Who asks for a reset (Table RST-5): a host register write, a message, the warden, or the headland hardware watchdog. -/
inductive ResetBy where
  | host
  | message (m : Msg)
  | warden
  | watchdog
  deriving DecidableEq, Repr

/-- A field of a function's configuration space that the spec's rules read (R331 to R351). -/
inductive CfgField where
  /-- Memory Space Enable. -/
  | memory (on : Bool)
  /-- Device Control: Enable Relaxed Ordering, Max_Payload_Size and Max_Read_Request_Size in bytes. -/
  | device (relaxed : Bool) (mps mrrs : Nat)
  /-- MSI-X Enable and Function Mask. -/
  | msix (enable mask : Bool)
  /-- ATS Enable. -/
  | ats (on : Bool)
  /-- PME_En, and a 1 written to PME_Status. -/
  | pme (enable clear : Bool)
  /-- Ones written to the AER status bits, by the row of Table HIF-6. -/
  | aerClear (rows : List Nat)
  /-- VF Enable and NumVFs, of the PF. -/
  | sriov (enable : Bool) (vfs : Nat)
  /-- The ROM BAR's enable bit, of the PF. -/
  | rom (on : Bool)
  deriving DecidableEq, Repr

/-- What a register write names: an offset of the master's BAR0 (of PF BAR0, for a core), or a field of a function's configuration space. -/
inductive RegTarget where
  | bar (off : Nat)
  | config (f : Fin 13) (x : CfgField)
  deriving DecidableEq, Repr

/-- The commands of the block: one constructor per row of the table of operations and events. -/
inductive Instr where
  /-- LASER_LOSS (R14): Received laser power from a laser input falls below the lock threshold; the four ports it feeds report link down and one event is recorded. -/
  | laserLoss (input : Fin 4)
  /-- SUPPLY_WARNING (R170): A monitored rail stays below 95 % of nominal for 200 ns; the rail is logged, the die's tiles stall under SUPPLY and its budget is halved within 1 µs. -/
  | supplyWarning (rail : Fin 24) (stallNs : Nat)
  /-- HALVING_END (R171): Both rails of a halved die have held at or above 97 % for HOLD_US; the die is no longer halved and its tiles regain the unhalved budget at the next step boundary. -/
  | halvingEnd (die : Fin 8)
  /-- SUPPLY_RESET (R172): A rail stays below 90 % of nominal for 1 µs; its domain is reset and PWR_RSTLOG records the rail. -/
  | supplyReset (rail : Fin 24) (deep : Bool)
  /-- RETENTION_LOSS (R56): The CIM array supply of a compute die falls below its retention minimum; VALID clears for every slot of the die, RET_LOSS is set and in-flight lanes read VOID. -/
  | retentionLoss (die : Fin 8)
  /-- THERMAL_LEVEL_CHANGE (R174): Each 1 ms with a die at or above THR, or below THR − 5 °C, its thermal level rises or falls by 1 and its budget cap follows. -/
  | thermalLevelChange (die : Fin 8)
  /-- HOT (R174): A die reaches 100 °C; at the next step boundary its tiles drop to the lowest frequency of their window. -/
  | hot (die : Fin 8)
  /-- HOT_END (R174): A HOT die has stayed below 95 °C for 1 ms; at a step boundary the voltage is raised and the committed frequencies are restored. -/
  | hotEnd (die : Fin 8)
  /-- THERMAL_TRIP (R175): A sensor reaches 110 °C; THERMTRIP_N goes low within 10 µs and the thermal-trip reset source is asserted. -/
  | thermalTrip (die : Fin 9)
  /-- THERMTRIP_RELEASE (R175): Every sensor reads below 90 °C; THERMTRIP_N is released. -/
  | thermtripRelease
  /-- REFERENCE_LOST (R161): A reference input shows no edge for 2 µs; the SL-1 switches to the backup oscillator or drops clock-ready of the islands the reference feeds. -/
  | referenceLost (k : Fin 3)
  /-- REFERENCE_BACK (R161): OSC25 has been present for 10 ms; the headland switches back from the backup oscillator glitch-free. -/
  | referenceBack
  /-- CLOCK_READY_DROP (R412): Clock-ready of a released island drops; its crossings are marked not ready, the island is reset and released again as a warm reset. -/
  | clockReadyDrop (i : Fin 192)
  /-- AVS_ACK (R163): The VTILEd regulator acknowledges a voltage request; a pending frequency rise may then take effect. -/
  | avsAck (die : Fin 8)
  /-- AVS_TIMEOUT (R163): A voltage request stays unacknowledged for 100 µs; the lower frequency stays in force and PWR_DIE.AVSFAIL is set. -/
  | avsTimeout (die : Fin 8)
  /-- LPX_RATE_CHANGE (R164): The power core switches the fabric and LPDDR5X islands between their low and full rates using saved training, within 50 µs. -/
  | lpxRateChange (toFull done : Bool)
  /-- WAKE_GRANT (R167): A waiting tile wake takes a token from the wake token bucket, in increasing tile order, and its group starts waking. -/
  | wakeGrant (t : Fin 128) (delayNs : Nat)
  /-- WAKE_TOKEN_RETURN (R167): A token taken WIN_US earlier returns to the wake token bucket. -/
  | wakeTokenReturn
  /-- GROUP_AWAKE (R54): A waking group reaches AWAKE; held launches and waiting weight-write opens on it may proceed. -/
  | groupAwake (t : Fin 128) (g : Fin 32) (waited : Nat)
  /-- LOADIV (R31): ARR slot operation: fill an input register from 512 scratchpad bytes over eight schedule cycles. -/
  | loadiv (sl : Slot) (iv : Fin 8) (bank : Fin 4) (line : BitVec 14)
  /-- LAUNCH (R33): ARR slot operation: start an MVM on a logical array, copying the input register into its row latches. -/
  | launch (sl : Slot) (larray : BitVec 9) (iv : Fin 8) (desc : Fin 64)
  /-- RLAUNCH (R46): ARR slot operation: launch the group's reference array, or a skipped reference launch timed as though it converts. -/
  | rlaunch (sl : Slot) (group : Fin 32) (iv : Fin 8) (desc : Fin 64)
  /-- COLLECT (R39): ARR slot operation: pass the latched result lanes of an MVM to column post-processing. -/
  | collect (sl : Slot) (larray : BitVec 9) (desc : Fin 64)
  /-- RCOLLECT (R46): ARR slot operation: collect the lanes of a reference launch. -/
  | rcollect (sl : Slot) (group : Fin 32) (desc : Fin 64)
  /-- MVM_COMPLETE (R41): The last conversion phase of an MVM ends; codes latch, the array becomes inactive and ACTIVE falls, releasing held launches and pending fallow requests. -/
  | mvmComplete (t : Fin 128) (g : Fin 32) (slot : Fin 17) (waited : Nat)
  /-- WEIGHT_WRITE_OPEN (R51): The weight loader opens a physical slot, clearing VALID, after waking the group if it is fallow, or is refused. -/
  | weightWriteOpen (t : Fin 128) (g : Fin 32) (slot : Fin 17) (mode : Fin 3) (target : Fin 16) (kind : WriteKind)
  /-- WEIGHT_ROW_WRITE (R51): One 256-byte row is written through the write port and read back for comparison, with one retry on mismatch. -/
  | weightRowWrite (t : Fin 128) (g : Fin 32) (slot : Fin 17) (row : BitVec 2048) (bad : Fin 3)
  /-- WEIGHT_WRITE_CLOSE (R51): The close sets VALID and records the mode; a spare being programmed becomes READY. -/
  | weightWriteClose (t : Fin 128) (g : Fin 32) (slot : Fin 17)
  /-- FALLOW_REQ (R55): A write of ARR_GRP.FALLOW_REQ requests fallow or wake of a group. -/
  | fallowReq (t : Fin 128) (g : Fin 32) (v : Bool)
  /-- RETIRED_NEXT (R45): A write of ARR_GRP.RETIRED_NEXT names the slot to retire, ignored unless the spare is REFERENCE or EMPTY. -/
  | retiredNext (t : Fin 128) (g : Fin 32) (v : BitVec 5)
  /-- VEC_FMA (R76): VEC operation: lane-wise fused multiply-add rounded once. -/
  | vecFma (sl : Slot) (o : VecOp)
  /-- VEC_ADD (R76): VEC operation: lane-wise addition. -/
  | vecAdd (sl : Slot) (o : VecOp)
  /-- VEC_MUL (R76): VEC operation: lane-wise multiplication. -/
  | vecMul (sl : Slot) (o : VecOp)
  /-- MAX (R459): VEC operation: lane-wise maximum under the stated order. -/
  | max (sl : Slot) (o : VecOp)
  /-- MIN (R459): VEC operation: lane-wise minimum under the stated order. -/
  | min (sl : Slot) (o : VecOp)
  /-- CVT (R76): VEC operation: convert VA to the format in IMM. -/
  | cvt (sl : Slot) (o : VecOp)
  /-- FUNC (R78): VEC operation: evaluate exp, rcp, rsqrt, tanh, GELU or SiLU in the function units. -/
  | func (sl : Slot) (o : VecOp)
  /-- RSUM (R77): VEC operation: fixed-order tree sum of VA into lane 0 of VD. -/
  | rsum (sl : Slot) (o : VecOp)
  /-- RMAX (R77): VEC operation: tree maximum of VA into lane 0 of VD. -/
  | rmax (sl : Slot) (o : VecOp)
  /-- MXENC (R73): VEC operation: encode 32 FP32 values as an MX block. -/
  | mxenc (sl : Slot) (o : VecOp)
  /-- MXDEC (R72): VEC operation: decode MX elements exactly to FP32. -/
  | mxdec (sl : Slot) (o : VecOp)
  /-- ROUTE (R80): VEC operation: select the top-k experts per token and write indices and weights, occupying the vector unit. -/
  | route (sl : Slot) (o : VecOp)
  /-- SAMPLE (R123): VEC operation: sample one token ID for a sequence slot from logits under its seed. -/
  | sample (sl : Slot) (o : VecOp)
  /-- MMA (R81): DMX operation: accumulate A × B into a DMX accumulator set. -/
  | mma (sl : Slot) (set : Fin 2) (ddesc : Fin 64)
  /-- MMAZ (R81): DMX operation: load A × B into a DMX accumulator set. -/
  | mmaz (sl : Slot) (set : Fin 2) (ddesc : Fin 64)
  /-- DRAIN (R124): DMX operation: drain an accumulator set through format conversion into vector registers. -/
  | drain (sl : Slot) (set : Fin 2) (fmt : BitVec 4) (vd : Fin 32) (rnd : Bool)
  /-- LD (R125): MOV operation: load 64 scratchpad bytes into a quarter of a vector register. -/
  | ld (sl : Slot) (bank : Fin 4) (addr : BitVec 20) (vr : Fin 32) (part : Fin 4)
  /-- ST (R125): MOV operation: store a quarter of a vector register to scratchpad. -/
  | st (sl : Slot) (bank : Fin 4) (addr : BitVec 20) (vr : Fin 32) (part : Fin 4)
  /-- CPY (R125): MOV operation: copy 64 bytes to a scratchpad line. -/
  | cpy (sl : Slot) (sbank : Fin 4) (saddr : BitVec 20) (dbank : Fin 4) (dline : BitVec 14)
  /-- CTL_WAIT (R120): CTL operation: N empty schedule cycles after the bundle. -/
  | ctlWait (sl : Slot) (n : BitVec 24)
  /-- LOOP (R120): CTL operation: open a counted loop. -/
  | loop (sl : Slot) (count : BitVec 20)
  /-- ENDLOOP (R120): CTL operation: close the innermost loop, repeating its body until the count is exhausted. -/
  | endloop (sl : Slot)
  /-- SEEDLD (R83): CTL operation: load the step seed from scratchpad. -/
  | seedld (sl : Slot) (bank : Fin 4) (line : BitVec 14) (word : Fin 8)
  /-- FALLOW (R120): CTL operation: write FALLOW_REQ for a range of groups. -/
  | fallow (sl : Slot) (wake : Bool) (last first : Fin 32)
  /-- END (R129): CTL operation: last bundle of the step; the tile enters ENDED and latches its step stall counts. -/
  | endOp (sl : Slot)
  /-- SEND (R126): XNG operation: start one crossing instance, reading its source lines from bank 2. -/
  | send (sl : Slot) (xid : BitVec 12)
  /-- XNG_WAIT (R126): XNG operation: consume the oldest arrived instance of a crossing. -/
  | xngWait (sl : Slot) (xid : BitVec 12)
  /-- LREAD (R126): XNG operation: start one LPDDR5X read crossing instance. -/
  | lread (sl : Slot) (xid : BitVec 12)
  /-- FREE (R126): XNG operation: free the oldest consumed receive buffer. -/
  | free (sl : Slot) (xid : BitVec 12)
  /-- CROSSING_READY (R131): A crossing instance's handshake reports it ready at the receiver; latency is measured. -/
  | crossingReady (p : Fin 12) (xid : BitVec 12) (ns waited : Nat) (ecc : Ecc)
  /-- STEP_START (R136): A plot starts its next step once its tiles have ended and its timing or marker condition holds, applying boundary changes. -/
  | stepStart (p : Fin 12) (sinceNs markerNs lateNs : Nat)
  /-- LEADER_START (R137): The leader, once its tiles have ended and STEP_NS − MARKER_DLY_NS has elapsed, sends START to every follower, or STOP when holding or faulted. -/
  | leaderStart (p : Fin 12) (sinceNs : Nat)
  /-- MARKER_START_RECEIVED (R138): A follower receives a START marker; it starts the named step or faults with MARKER if the step is not its next. -/
  | markerStartReceived (p : Fin 12) (job step : DWord)
  /-- MARKER_STOP_RECEIVED (R139): A plot receives STOP with cause HOLD or FAULT; it ends its current step and then issues nothing. -/
  | markerStopReceived (p : Fin 12) (job : DWord) (fault : Bool)
  /-- MARKER_TIMEOUT (R138): A follower has received no marker WDOG_NS after STEP_NS from its step start; it faults with MARKER. -/
  | markerTimeout (p : Fin 12) (sinceNs : Nat)
  /-- FAULT_NOTICE (R147): The leader receives a fault notice from a plot of its job and will send STOP with cause FAULT. -/
  | faultNotice (p : Fin 12) (job : DWord)
  /-- STEP_WATCHDOG (R141): One continuous non-DEBUG stall lasts longer than WDOG_NS; the tile faults with WDOG. -/
  | stepWatchdog (t : Fin 128) (waited : Nat)
  /-- HOLD (R139): A write of SCH_PCTRL.HOLD = 1 holds the whole job after the step in progress. -/
  | hold (p : Fin 12) (forwarded : Bool)
  /-- HOLD_RESUME (R139): A write of HOLD = 0 on the leader resumes the job with START after MARKER_DLY_NS. -/
  | holdResume (p : Fin 12)
  /-- HALT (R127): A write of SCH_PCTRL.HALT under a PLOTHALT debug session sets or releases the DEBUG stall of the plot. -/
  | halt (p : Fin 12) (v : Bool)
  /-- FG_REQ (R94): CAL_CTRL.FG_REQ starts foreground calibration of the masked groups outside serving plots. -/
  | fgReq (t : Fin 128)
  /-- RECAL_REQ (R99): CAL_CTRL.RECAL_REQ puts the masked serving groups into RECAL. -/
  | recalReq (t : Fin 128)
  /-- FOREGROUND_CAL_COMPLETE (R95): Foreground calibration of a group ends; trims and correction entries are written and the filter seeded. -/
  | foregroundCalComplete (t : Fin 128) (g : Fin 32) (zSlot : Fin 17)
  /-- FALLOW_WINDOW (R144): A fallow-slot window opens in a step and the calibration engine measures its masked groups. -/
  | fallowWindow (t : Fin 128) (entry : Nat) (opens : Bool)
  /-- MEASUREMENT_SET (R98): A complete measurement set of a group ends and the drift filter is updated and checked against its limits. -/
  | measurementSet (t : Fin 128) (g : Fin 32) (zSlot : Fin 17)
  /-- GROUP_STALE (R97): A group's last complete set becomes older than 100 ms; it turns STALE and CAL_STALECNT counts it. -/
  | groupStale (t : Fin 128) (g : Fin 32)
  /-- PROBATION_SET (R102): Outside steps the engine runs its own complete set of a group every 1 ms. -/
  | probationSet (t : Fin 128) (g : Fin 32) (zSlot : Fin 17)
  /-- PROBATION_END (R102): The 200 ms of probation end; a group with a complete set and no hard excursion becomes ADMITTED. -/
  | probationEnd (t : Fin 128) (g : Fin 32)
  /-- REPAIR_START (R108): Firmware reacts to a flagged slot by writing RETIRED_NEXT and requesting a repair write of the logical slot. -/
  | repairStart (t : Fin 128) (g : Fin 32) (slot : Fin 16)
  /-- REPAIR_SEGMENT_READ (R108): The husk segment of a repair has been read and its tag verified, so its rows may be written to the spare. -/
  | repairSegmentRead (t : Fin 128) (g : Fin 32) (src : HuskSource)
  /-- CALSTORE_SAVE (R105): A save command snapshots every tile at a step boundary and writes the older calibration store copy. -/
  | calstoreSave (m : Msg) (type : BitVec 16)
  /-- TILE_DEGRADED_HOLD (R110): Management firmware holds a plot with a DEGRADED tile and loads and starts its alternate. -/
  | tileDegradedHold (t : Fin 128)
  /-- SCRATCHPAD_DM_ACCESS (R183): A fabric DMA access to a scratchpad bank is arbitrated on port A and checked against its region registers. -/
  | scratchpadDmAccess (t : Fin 128) (addr : BitVec 22) (len : Fin 65) (wdata : Option (List Byte)) (ecc : Ecc)
  /-- APERTURE_ACCESS (R190): A 4- or 8-byte access through the TIL scratchpad aperture waits for port A at FW priority and is checked as an FW access. -/
  | apertureAccess (m : Master) (t : Fin 128) (off : BitVec 12) (eight : Bool) (wdata : Option DWord) (ecc : Ecc)
  /-- APERTURE_TIMEOUT (R185): An FW access has waited 50 µs; it completes without access and APT_TIMEOUT is set. -/
  | apertureTimeout (t : Fin 128) (read : Bool)
  /-- REGION_REGISTER_WRITE (R189): A write to a TIL_RGN register is accepted only from permitted masters and takes effect at once or at the plot's next step boundary. -/
  | regionRegisterWrite (m : Master) (t : Fin 128) (master : Fin 5) (r : Fin 16) (v : Word)
  /-- LPX_REQUEST (R196): An LPDDR5X request is checked against region ownership and keys, then performed with XTS and ECC, marking pages dirty. -/
  | lpxRequest (req : Requester) (addr : Nat) (len : Nat) (wdata : Option (List Byte)) (ecc : Ecc)
  /-- REGION_ENABLE (R194): Setting LPX_RGNCTL.ENABLE enables a region with a fresh key, or is refused on overlap or size. -/
  | regionEnable (m : Master) (n : Fin 32)
  /-- REGION_DISABLE (R195): Clearing LPX_RGNCTL.ENABLE erases the region's key slot. -/
  | regionDisable (m : Master) (n : Fin 32)
  /-- PATROL_READ (R199): The patrol engine reads and corrects a line in its periodic sweep. -/
  | patrolRead (line : Nat) (ecc : Ecc)
  /-- DQS_TRACKING (R192): DQS oscillator tracking runs every 100 ms on each controller. -/
  | dqsTracking (c : Fin 16)
  /-- BAR2_READ (R207): A BAR2 read reaches a host region, or is answered UR or Completer Abort. -/
  | bar2Read (off : BitVec 34) (len : Nat) (ecc : Ecc)
  /-- BAR2_WRITE (R207): A posted BAR2 write is performed in a host region in arrival order. -/
  | bar2Write (off : BitVec 34) (bytes : List Byte) (ecc : Ecc)
  /-- ADD (R229): Novdy instruction: add. -/
  | add (k : Nvc) (o : AluR)
  /-- ADC (R229): Novdy instruction: add with carry. -/
  | adc (k : Nvc) (o : AluR)
  /-- SUB (R229): Novdy instruction: subtract. -/
  | sub (k : Nvc) (o : AluR)
  /-- SBC (R229): Novdy instruction: subtract with borrow. -/
  | sbc (k : Nvc) (o : AluR)
  /-- AND (R229): Novdy instruction: bitwise and. -/
  | and (k : Nvc) (o : AluR)
  /-- OR (R229): Novdy instruction: bitwise or. -/
  | or (k : Nvc) (o : AluR)
  /-- XOR (R229): Novdy instruction: bitwise exclusive or. -/
  | xor (k : Nvc) (o : AluR)
  /-- ANDN (R229): Novdy instruction: and with complement. -/
  | andn (k : Nvc) (o : AluR)
  /-- SHL (R229): Novdy instruction: shift left. -/
  | shl (k : Nvc) (o : AluR)
  /-- SHR (R229): Novdy instruction: logical shift right. -/
  | shr (k : Nvc) (o : AluR)
  /-- SAR (R229): Novdy instruction: arithmetic shift right. -/
  | sar (k : Nvc) (o : AluR)
  /-- ROR (R229): Novdy instruction: rotate right. -/
  | ror (k : Nvc) (o : AluR)
  /-- MUL (R229): Novdy instruction: low 32 bits of a product. -/
  | mul (k : Nvc) (o : AluR)
  /-- MULHU (R229): Novdy instruction: high 32 bits of an unsigned product. -/
  | mulhu (k : Nvc) (o : AluR)
  /-- MULHS (R229): Novdy instruction: high 32 bits of a signed product. -/
  | mulhs (k : Nvc) (o : AluR)
  /-- MOV (R229): Novdy instruction: register move. -/
  | mov (k : Nvc) (o : AluR)
  /-- ADDI (R229): Novdy instruction: add sign-extended immediate. -/
  | addi (k : Nvc) (o : AluI)
  /-- SUBI (R229): Novdy instruction: subtract sign-extended immediate. -/
  | subi (k : Nvc) (o : AluI)
  /-- ANDI (R229): Novdy instruction: and with zero-extended immediate. -/
  | andi (k : Nvc) (o : AluI)
  /-- ORI (R229): Novdy instruction: or with zero-extended immediate. -/
  | ori (k : Nvc) (o : AluI)
  /-- XORI (R229): Novdy instruction: exclusive or with zero-extended immediate. -/
  | xori (k : Nvc) (o : AluI)
  /-- SHI (R229): Novdy instruction: shift or rotate by an immediate amount. -/
  | shi (k : Nvc) (o : AluI)
  /-- MOVI (R229): Novdy instruction: load a sign-extended immediate. -/
  | movi (k : Nvc) (o : AluI)
  /-- MOVHI (R229): Novdy instruction: load the upper halfword. -/
  | movhi (k : Nvc) (o : AluI)
  /-- LDW (R230): Novdy instruction: load a word. -/
  | ldw (k : Nvc) (o : MemM)
  /-- LDH (R230): Novdy instruction: load a zero-extended halfword. -/
  | ldh (k : Nvc) (o : MemM)
  /-- LDHS (R230): Novdy instruction: load a sign-extended halfword. -/
  | ldhs (k : Nvc) (o : MemM)
  /-- LDB (R230): Novdy instruction: load a zero-extended byte. -/
  | ldb (k : Nvc) (o : MemM)
  /-- LDBS (R230): Novdy instruction: load a sign-extended byte. -/
  | ldbs (k : Nvc) (o : MemM)
  /-- STW (R230): Novdy instruction: store a word. -/
  | stw (k : Nvc) (o : MemM)
  /-- STH (R230): Novdy instruction: store a halfword. -/
  | sth (k : Nvc) (o : MemM)
  /-- STB (R230): Novdy instruction: store a byte. -/
  | stb (k : Nvc) (o : MemM)
  /-- PSET (R218): Novdy instruction: set a pointer field. -/
  | pset (k : Nvc) (w : Fin 16) (p : Fin 8) (f : BitVec 3)
  /-- PGET (R218): Novdy instruction: read a pointer field. -/
  | pget (k : Nvc) (w : Fin 16) (p : Fin 8) (f : BitVec 3)
  /-- PADD (R218): Novdy instruction: post-modify a pointer without access. -/
  | padd (k : Nvc) (p : Fin 8)
  /-- MOVP (R218): Novdy instruction: copy a word between pointers and post-modify both. -/
  | movp (k : Nvc) (pd ps : Fin 8)
  /-- PUSH (R219): Novdy instruction: push one register on the data stack. -/
  | push (k : Nvc) (w : Fin 16)
  /-- PUSHM (R219): Novdy instruction: push the registers of a mask, checked as a whole. -/
  | pushm (k : Nvc) (mask : BitVec 16)
  /-- POP (R219): Novdy instruction: pop one register from the data stack. -/
  | pop (k : Nvc) (w : Fin 16)
  /-- POPM (R219): Novdy instruction: pop the registers of a mask, checked as a whole. -/
  | popm (k : Nvc) (mask : BitVec 16)
  /-- B (R229): Novdy instruction: conditional relative branch. -/
  | b (k : Nvc) (cond : BitVec 4) (off : BitVec 22)
  /-- CALL (R220): Novdy instruction: push a call entry and branch relative. -/
  | call (k : Nvc) (off : BitVec 26)
  /-- CALLR (R220): Novdy instruction: push a call entry and jump to a register. -/
  | callr (k : Nvc) (w : Fin 16)
  /-- JMPR (R230): Novdy instruction: jump to a register. -/
  | jmpr (k : Nvc) (w : Fin 16)
  /-- RET (R220): Novdy instruction: pop a call entry and return. -/
  | ret (k : Nvc)
  /-- RETI (R220): Novdy instruction: pop a handler entry and restore PC, flags, IE, LVL and any repeat. -/
  | reti (k : Nvc)
  /-- JMP (R230): Novdy instruction: unconditional relative jump. -/
  | jmp (k : Nvc) (off : BitVec 26)
  /-- REP (R223): Novdy prefix: repeat the next instruction COUNT times with interrupts deferred. -/
  | rep (k : Nvc) (src : Bool) (w : Fin 16) (count : BitVec 16)
  /-- REPI (R224): Novdy prefix: repeat the next instruction with interrupts taken between iterations. -/
  | repi (k : Nvc) (src : Bool) (w : Fin 16) (count : BitVec 16)
  /-- MFC (R216): Novdy instruction: read a control register. -/
  | mfc (k : Nvc) (w : Fin 16) (index : BitVec 6)
  /-- MTC (R216): Novdy instruction: write a control register. -/
  | mtc (k : Nvc) (w : Fin 16) (index : BitVec 6)
  /-- TRAP (R225): Novdy instruction: raise exception 7 with a code. -/
  | trap (k : Nvc) (code : Byte)
  /-- WFI (R227): Novdy instruction: halt fetch until an enabled interrupt is pending. -/
  | wfi (k : Nvc)
  /-- WFI_RESUME (R227): An enabled interrupt becomes pending during WFI; the interrupt is taken or execution continues. -/
  | wfiResume (c : Fin 24)
  /-- FENCE (R214): Novdy instruction: issue only when every earlier store has reached its target. -/
  | fence (k : Nvc)
  /-- SPILL (R221): Novdy instruction: move the oldest return-stack entry to the spill area. -/
  | spill (k : Nvc)
  /-- FILL (R221): Novdy instruction: move an entry back from the spill area. -/
  | fill (k : Nvc)
  /-- CUSTOM (R232): Novdy instruction: run the microcode of a decode-table entry. -/
  | custom (k : Nvc) (index rd ra rb : Fin 16) (imm : BitVec 10)
  /-- NOP (R228): Novdy instruction: no operation. -/
  | nop (k : Nvc)
  /-- INTERRUPT_ENTRY (R226): The lowest eligible interrupt vector is taken: handler entry pushed, LVL set, IE cleared. -/
  | interruptEntry (c : Fin 24)
  /-- WATCHDOG_WARNING (R235): Half the watchdog period passes without a kick; vector 9 becomes pending. -/
  | watchdogWarning (c : Fin 24)
  /-- WATCHDOG_EXPIRY (R235): The full watchdog period passes; the core halts with HALTCAUSE 1 and the warden is interrupted. -/
  | watchdogExpiry (c : Fin 24)
  /-- WARDEN_HALT_RESPONSE (R236): The warden handles a halted core by a core reset and reload or an island reset, within 1 ms. -/
  | wardenHaltResponse (c : Fin 24)
  /-- MAILBOX_REQUEST (R244): An advance of MBX_TFPI delivers a request to firmware, or to the hardware responder while management firmware is down. -/
  | mailboxRequest (m : Msg) (type : BitVec 16)
  /-- MBX_FFCI (R244): The host advances MBX_FFCI, freeing from-firmware slots for held responses. -/
  | mbxFfci (owner : Fin 14) (index : BitVec 16)
  /-- MBX_RESET (R247): MBX_CTRL.RESET empties both rings and zeroes the indices, entering heartbeat loss if armed. -/
  | mbxReset (owner : Fin 14)
  /-- HELLO (R247): Agrees version and features and issues a new host generation. -/
  | hello (m : Msg) (features : BitVec 256) (vmax vmin : Byte)
  /-- FW_STAGE (R249): Copies a component image into the firmware staging region and verifies it. -/
  | fwStage (m : Msg) (region : Fin 32) (off len : Word)
  /-- FW_ACTIVATE (R249): Distributes the staged component to its receivers and starts the takeover. -/
  | fwActivate (m : Msg)
  /-- FW_QUERY (R254): Returns component versions, digests and update state. -/
  | fwQuery (m : Msg)
  /-- LIVE_UPDATE_SWITCH (R249): A receiver reaches its quiescent point and the loader switches it to the new component. -/
  | liveUpdateSwitch (receiver : Nat)
  /-- LIVE_UPDATE_TIMEOUT (R249): A receiver misses its quiescent point for 100 ms; the update ends TIMEOUT. -/
  | liveUpdateTimeout (receiver : Nat)
  /-- FABRIC_BROADCAST_FRAME (R250): A receiver takes a 4 KiB broadcast frame of an image into its bitmap. -/
  | fabricBroadcastFrame (receiver : Nat) (frame : BcastFrame)
  /-- FABRIC_BROADCAST_REPAIR (R250): After the last frame the sender collects bitmaps, resends missing frames and receivers check the digest. -/
  | fabricBroadcastRepair (run : RepairRun)
  /-- DIST_JOIN (R252): Joins a multicast session to receive a drill image. -/
  | distJoin (m : Msg) (session : Fin 64) (digest : BitVec 256) (region : Fin 32) (off size : Word)
  /-- DIST_SEND (R252): Sources a drill image by multicast at a named rate. -/
  | distSend (m : Msg) (session : Fin 64) (region : Fin 32) (off len : Word) (rate : Nat) (queue : Fin 8192)
  /-- DIST_STATUS (R252): Reports session state. -/
  | distStatus (m : Msg) (session : Fin 64)
  /-- DIST_LEAVE (R252): Ends a session and releases its region space. -/
  | distLeave (m : Msg) (session : Fin 64)
  /-- DIST_SOURCE_SEND (R252): A source sends its next SEG or repeated END at its paced rate. -/
  | distSourceSend (session : Fin 64)
  /-- DIST_SEG (R252): A SEG frame arrives and its segment is verified against the manifest. -/
  | distSeg (digest : BitVec 128) (peer index total : Nat) (data : List Byte)
  /-- DIST_END (R252): An END frame arrives and starts the gap holdoff. -/
  | distEnd (digest : BitVec 128)
  /-- DIST_NACK (R252): A NACK arrives at a module holding the session complete and is answered by unicast SEGs. -/
  | distNack (digest : BitVec 128) (ranges : List (Nat × Nat))
  /-- DIST_HAVE (R252): A HAVE arrives, marking its sender as a peer for REQs. -/
  | distHave (digest : BitVec 128) (peer : Nat)
  /-- DIST_REQ (R252): A REQ arrives at a complete module and is answered by unicast SEGs. -/
  | distReq (digest : BitVec 128) (ranges : List (Nat × Nat))
  /-- DIST_GAP_TIMER (R252): The holdoff or 5 ms repeat ends; the receiver sends REQ or NACK, or reports REFUSED after 8 rounds. -/
  | distGapTimer (session : Fin 64)
  /-- DIST_ANSWER_WINDOW_END (R252): 2 s after completion the module stops answering REQs for the session. -/
  | distAnswerWindowEnd (session : Fin 64)
  /-- FRAME_RECEIVE (R263): A frame passing the MAC is buffered, parsed, classified, metered, acted on and handed to its destination. -/
  | frameReceive (port : Fin 16) (sub : Fin 4) (bytes : List Byte) (fcsOk room : Bool) (ns : Nat)
  /-- LANE_FAIL (R260): A lane loses alignment lock for 1 ms or exceeds the in-service BER; it is disabled and its sub-port narrows or goes down. -/
  | laneFail (port : Fin 16) (lane : Fin 4)
  /-- LANE_REENABLE (R260): A 0 written to an LDIS bit starts the lane's BER check. -/
  | laneReenable (m : Master) (port : Fin 16) (lane : Fin 4)
  /-- LANE_CHECK_DONE (R407): A lane's BER check ends; the lane is used or disabled. -/
  | laneCheckDone (port : Fin 16) (lane : Fin 4) (pass : Bool)
  /-- SUBPORT_RETRAIN_DONE (R261): A sub-port finishes retraining at its new width and comes up. -/
  | subportRetrainDone (port : Fin 16) (sub : Fin 4)
  /-- EGRESS_SCHEDULE (R278): A sub-port's scheduler picks and sends the next eligible head frame by priority, DRR and shaping. -/
  | egressSchedule (port : Fin 16) (sub : Fin 4) (ns : Nat)
  /-- QUEUE_SAMPLE (R283): Each PERIOD_NS every enabled queue's depth and head delay are sampled and averaged. -/
  | queueSample (ns : Nat)
  /-- QUEUE_FLUSH (R282): TMS_QCFG.FLUSH discards a queue's frames and zeroes its deficit. -/
  | queueFlush (m : Master)
  /-- QAVG_CLEAR (R283): TMS_QAVG.CLEAR makes the next sample seed both averages. -/
  | qavgClear (m : Master)
  /-- PRS_READ (R287): PRS_CMD read of an entry, guard, meter, hash mask, indirection entry or template into PRS_DATA. -/
  | prsRead (m : Master) (cmd : Word)
  /-- PRS_WRITE (R269): PRS_CMD write replaces a classifier object whole between lookups, or is refused. -/
  | prsWrite (m : Master) (cmd : Word)
  /-- OMF_WRITE (R304): A WRITE packet is authenticated, ordered by PSN, checked against its region and written. -/
  | omfWrite (a : Arrival)
  /-- OMF_WRITE_IMM (R299): A WRITE_IMM is written and its immediate delivered per DELIVER. -/
  | omfWriteImm (a : Arrival)
  /-- OMF_READ_REQ (R297): A READ_REQ is checked and answered with READ_RESP data. -/
  | omfReadReq (a : Arrival)
  /-- OMF_READ_RESP (R297): READ_RESP data arrives and is written to the initiator's buffer. -/
  | omfReadResp (a : Arrival)
  /-- OMF_SEND (R299): A SEND is delivered to the receive ring or crossing, or answered NAK RNR. -/
  | omfSend (a : Arrival)
  /-- OMF_FADD (R298): An atomic 64-bit fetch-add is performed and its old value returned. -/
  | omfFadd (a : Arrival)
  /-- OMF_CSWAP (R298): An atomic 64-bit compare-and-swap is performed and its old value returned. -/
  | omfCswap (a : Arrival)
  /-- OMF_ATOMIC_RESP (R298): An ATOMIC_RESP arrives and completes its atomic at the initiator. -/
  | omfAtomicResp (a : Arrival)
  /-- OMF_ACK (R297): A cumulative ACK arrives and completes every covered operation. -/
  | omfAck (a : Arrival)
  /-- OMF_NAK (R307): A NAK arrives and completes the operation with its reason, or delays a resend for RNR. -/
  | omfNak (a : Arrival)
  /-- OMF_RNR (R301): A clear-text RNR arrives and is honoured only if it echoes a recent PCTR. -/
  | omfRnr (a : Arrival)
  /-- OPEN_REQ (R292): A connection set-up request is checked by CMAC and answered OPEN_ACK or CLOSE. -/
  | openReq (q : OpenPkt) (plot : Fin 13)
  /-- OPEN_ACK (R292): A set-up answer arrives; both ends derive the data keys and the connection opens. -/
  | openAck (cid ctag : BitVec 16) (ver : Byte) (q : OpenPkt)
  /-- OMF_CLOSE (R309): A CLOSE arrives and the context enters CLOSED, completing outstanding operations. -/
  | omfClose (a : Arrival)
  /-- REKEY (R295): A REKEY exchanges nonces for the next key epoch. -/
  | rekey (a : Arrival)
  /-- REKEY_ACK (R295): A REKEY_ACK arrives; the sender switches key, flips KPHASE and restarts PCTR. -/
  | rekeyAck (a : Arrival)
  /-- BLOCK_VERB (R316): A block verb arriving at the SL-1 is answered NAK BAD_OP as a violation. -/
  | blockVerb (code : Fin 4) (a : Arrival)
  /-- ACK_TIMER (R297): 2 µs after an unacknowledged packet the target sends an ACK. -/
  | ackTimer (cid : BitVec 16)
  /-- RETRANSMIT_TIMEOUT (R297): RTO_US passes without progress; the initiator retransmits, or after RETRY fails the operations and the connection. -/
  | retransmitTimeout (cid : BitVec 16)
  /-- RNR_RESEND (R299): RNR_US after an RNR the initiator resends the operation from its first PSN. -/
  | rnrResend (cid : BitVec 16)
  /-- REKEY_TIMEOUT (R294): 10 ms after a direction stops at its counter limit without rekey, operations complete COUNTER and the connection enters ERROR. -/
  | rekeyTimeout (cid : BitVec 16)
  /-- KPHASE_WINDOW_END (R295): 1 ms after the first new-phase packet the receiver stops accepting the old phase. -/
  | kphaseWindowEnd (cid : BitVec 16)
  /-- CONTEXT_FETCH_DONE (R302): A context fetch completes and its parked frames leave parking in order. -/
  | contextFetchDone (cid : BitVec 16)
  /-- CONTEXT_FETCH_FAIL (R302): A fetch has not completed after 1 ms; its parked frames are dropped. -/
  | contextFetchFail (cid : BitVec 16)
  /-- REVOKE_COMPLETE (R305): Every packet admitted before a revocation stamp has been settled; the revoke response is posted. -/
  | revokeComplete (index : BitVec 18)
  /-- WORK_REQUEST (R306): An advance of RMA_WQPI makes the engine take work requests and start operations. -/
  | workRequest (m : Master) (p : Fin 12) (index : BitVec 16)
  /-- OPERATION_SLOT_GRANT (R306): A source held for want of an operation slot takes a freed slot and starts its operation. -/
  | operationSlotGrant
  /-- RMA_CQCI (R312): An advance of RMA_CQCI frees completion-ring entries for held completions. -/
  | rmaCqci (m : Master) (p : Fin 12) (index : BitVec 16)
  /-- RMA_OPEN (R292): Message: allocate a context and set up a connection. -/
  | rmaOpen (m : Msg) (addr : BitVec 128) (port : BitVec 16) (keyId : Word) (deliver : Fin 4) (recvKey : Word) (hostStore ipv6 : Bool)
  /-- RMA_CLOSE (R291): Message: close a connection and free its context. -/
  | rmaClose (m : Msg) (dcid : Word)
  /-- RMA_REKEY (R295): Message: start a rekey of a connection. -/
  | rmaRekey (m : Msg) (dcid : Word)
  /-- RMA_REG (R303): Message: register a region and return its key. -/
  | rmaReg (m : Msg) (base len : Nat) (read write atomic : Bool)
  /-- RMA_REVOKE (R305): Message: admit a region revocation with a classifier stamp. -/
  | rmaRevoke (m : Msg) (key : Word)
  /-- RMA_READ_CONTEXT (R311): RMA_CMD: read a context into RMA_DATA. -/
  | rmaReadContext (m : Master) (index : BitVec 18)
  /-- RMA_WRITE_CONTEXT (R311): RMA_CMD: write a context from RMA_DATA. -/
  | rmaWriteContext (m : Master) (index : BitVec 18)
  /-- RMA_READ_REGION (R311): RMA_CMD: read a region entry. -/
  | rmaReadRegion (m : Master) (index : BitVec 18)
  /-- RMA_WRITE_REGION (R303): RMA_CMD: write a region entry, raising its TAG. -/
  | rmaWriteRegion (m : Master) (index : BitVec 18)
  /-- RMA_PIN (R300): RMA_CMD: pin a context in the cache, refused beyond 2,048. -/
  | rmaPin (m : Master) (index : BitVec 18)
  /-- RMA_UNPIN (R300): RMA_CMD: unpin a context. -/
  | rmaUnpin (m : Master) (index : BitVec 18)
  /-- STG_READ (R317): Storage command: check and issue a BREAD of BLKS blocks into the buffer. -/
  | stgRead (m : Master) (n : Fin 64) (irq : Bool) (nsb : Byte) (tag : Half)
  /-- STG_WRITE (R317): Storage command: check and issue a BWRITE from the buffer. -/
  | stgWrite (m : Master) (n : Fin 64) (irq : Bool) (nsb : Byte) (tag : Half)
  /-- STG_FLUSH (R319): Storage command: issue a BFLUSH making earlier writes durable. -/
  | stgFlush (m : Master) (n : Fin 64) (irq : Bool) (nsb : Byte) (tag : Half)
  /-- STG_DEALLOC (R317): Storage command: issue a BDEALLOC of a block range. -/
  | stgDealloc (m : Master) (n : Fin 64) (irq : Bool) (nsb : Byte) (tag : Half)
  /-- STG_ABORT (R323): STG_CTL.ABORT asks the command with a matching tag to end ABORTED. -/
  | stgAbort (m : Master) (n : Fin 64) (atag : Half)
  /-- CHANNEL_RESET (R324): STG_CTL.RESET ends a busy command RESET and returns the task registers to reset. -/
  | channelReset (m : Master) (n : Fin 64) 
  /-- ABORT_SETTLE_TIMEOUT (R323): A sent packet of an aborting command stays unanswered for RTO_US and is settled. -/
  | abortSettleTimeout (n : Fin 64)
  /-- CHANNEL_POWER_ON (R326): A write of PWR ON makes a channel ready within 10 µs. -/
  | channelPowerOn (m : Master) (n : Fin 64)
  /-- CHANNEL_POWER_OFF (R327): A write of PWR OFF turns an ordinary channel off, after any running command. -/
  | channelPowerOff (m : Master) (n : Fin 64)
  /-- CHANNEL_DOZE (R326): A channel idle for IDLE_US enters DOZE. -/
  | channelDoze (n : Fin 64)
  /-- STG_BIND (R315): Message: make a namespace binding. -/
  | stgBind (m : Msg) (dcid : Word) (nsid : Word) (capacity : Nat) (readOnly : Bool) (owner : Fin 16)
  /-- STG_UNBIND (R315): Message: remove a binding after its last command ends. -/
  | stgUnbind (m : Msg) (index : Byte)
  /-- STG_QUERY (R315): Message: return a binding's fields and users. -/
  | stgQuery (m : Msg) (index : Byte)
  /-- LINK_UP (R332): The PCIe link comes up. -/
  | linkUp (rate : Fin 7) (width : Fin 17) (flit : Bool)
  /-- LINK_DOWN (R332): The PCIe link goes down and every function enters heartbeat loss. -/
  | linkDown
  /-- HEARTBEAT (R347): A write to HIF_HB restarts the watch and arms it after HELLO. -/
  | heartbeat (f : Fin 13) (v : Word)
  /-- HEARTBEAT_LOSS (R348): TIMEOUT_MS passes without a HIF_HB write; the function stops host traffic, drops ATC entries and discards MSI-X. -/
  | heartbeatLoss (f : Fin 13)
  /-- FLR (R351): Function-level reset enters heartbeat loss and resets the function's configuration and heartbeat registers. -/
  | flr (f : Fin 13)
  /-- D_STATE_CHANGE (R345): A function's power state changes, holding or resuming its originated traffic. -/
  | dStateChange (f : Fin 13) (d : Fin 5)
  /-- INVALIDATION_REQUEST (R342): An Invalidation Request stops use of covered ATC entries; the completion is sent when covered traffic drains. -/
  | invalidationRequest (f : Fin 13) (tag page pages : Nat)
  /-- INVALIDATION_TIMEOUT (R342): 1 ms after an Invalidation Request the completion is sent and outstanding reads fail. -/
  | invalidationTimeout (f : Fin 13) (tag : Nat)
  /-- TRANSLATION_COMPLETION (R341): A Translation Completion fills an ATC entry and releases waiting requests. -/
  | translationCompletion (f : Fin 13) (page : Nat) (grant : Option (Nat × Nat))
  /-- HOST_ACCESS_ERROR (R343): A host access fails by error completion or timeout; HIF_HAERR rises and the issuing source reacts. -/
  | hostAccessError (tag : Option Nat) (src : HostSource)
  /-- EXPANSION_ROM_READ (R336): An expansion ROM read is served from the SRAM copy. -/
  | expansionRomRead (off len : Nat)
  /-- RECEIVED_TLP_FAULT (R344): A received faulty or unsupported TLP is answered UR, CA or dropped and logged in AER. -/
  | receivedTlpFault (f : Fin 13) (row : Fin 9) (posted : Bool)
  /-- SEC_REPORT (R369): Produces a signed full or compact attestation report. -/
  | secReport (m : Msg) (full : Bool) (nonce : BitVec 256) (buf : SecBuf) (dual : Fin 3)
  /-- SEC_KEYLOAD (R371): Checks a release message and places the unwrapped key in a general slot. -/
  | secKeyload (m : Msg) (buf : SecBuf) (owner : Fin 13) (mask : BitVec 12) (dual : Fin 3)
  /-- SEC_KEYSTORE (R361): Produces a storage blob of a CONN or MGMT slot. -/
  | secKeystore (m : Msg) (slot : Fin 256) (dual : Fin 3)
  /-- SEC_KEYDROP (R360): Erases one general key slot. -/
  | secKeydrop (m : Msg) (slot : Fin 256)
  /-- HUSK_LOAD (R374): Verifies a husk and drill image and writes the plot's weight segments. -/
  | huskLoad (m : Msg) (slot : Fin 256) (src : HuskSource) (imgRegion : Fin 32) (imgOff : Nat) (range : Option (Nat × Nat)) (keep : Option Nat) (bad : List (Nat × Nat))
  /-- SEC_NEWEPOCH (R367): Resets the security island and so starts a new boot epoch. -/
  | secNewepoch (m : Msg)
  /-- SEC_XFER (R381): Reads or fills the management staging buffer. -/
  | secXfer (m : Msg) (off : BitVec 16) (len : Nat) (data : Option (List Byte))
  /-- SEC_PROVISION (R357): Blows the owner key digest, model digest and CONFIG at provisioning. -/
  | secProvision (m : Msg) (key : List Byte) (model : BitVec 256) (config : Word) (sig : List Byte) (supply : Bool)
  /-- FUSE_CLASS (R358): SEC_FUSE operation CLASS: blow a new layout class. -/
  | fuseClass (m : Msg) (v : BitVec 4) (block : List Byte) (supply : Bool)
  /-- FUSE_FLOOR (R358): SEC_FUSE operation FLOOR: raise the SVN floor. -/
  | fuseFloor (m : Msg) (v : Nat) (block : List Byte) (supply : Bool)
  /-- FUSE_COMPACT_OFF (R358): SEC_FUSE operation COMPACT_OFF: blow COMPACT_OFF. -/
  | fuseCompactOff (m : Msg) (block : List Byte) (supply : Bool)
  /-- FUSE_PERMLOCK (R358): SEC_FUSE operation PERMLOCK: blow DBG_PERMLOCK. -/
  | fusePermlock (m : Msg) (block : List Byte) (supply : Bool)
  /-- FUSE_DBGOWNER (R358): SEC_FUSE operation DBGOWNER: blow DBG_OWNER. -/
  | fuseDbgowner (m : Msg) (block : List Byte) (supply : Bool)
  /-- DBG_CHALLENGE (R377): Returns a 32-byte debug nonce valid for 60 s. -/
  | dbgChallenge (m : Msg)
  /-- DBG_NONCE_EXPIRY (R377): A debug nonce expires after 60 s. -/
  | dbgNonceExpiry
  /-- DBG_UNLOCK (R377): Opens a debug session from a signed token when no weight or model key is held. -/
  | dbgUnlock (m : Msg) (token : List Byte)
  /-- DBG_CORE_HALT (R377): DBG_CORE: halt a core with HALTCAUSE 5 under COREHALT. -/
  | dbgCoreHalt (m : Msg) (c : Fin 24)
  /-- DBG_CORE_RELEASE (R377): DBG_CORE: release a debug-halted core. -/
  | dbgCoreRelease (m : Msg) (c : Fin 24)
  /-- SECURITY_ALARM (R364): An alarm condition erases every key within 1 µs and puts security firmware in RECOVERY. -/
  | securityAlarm (kind : Fin 5) (lasts : Bool)
  /-- ALARM_RECOVERY (R364): Every alarm has been clear for 10 ms; self-test runs, DEVICE keys are derived and a new epoch starts. -/
  | alarmRecovery
  /-- BOTTOM_TREE_READY (R366): The bottom-level tree and ML-KEM key pair are complete; waiting reports may be signed. -/
  | bottomTreeReady
  /-- MGMT_RECORD (R378): A TLS record arrives on the management port and its mailbox message is handled. -/
  | mgmtRecord (k : Fin 2) (r : MgmtRecord)
  /-- MGMT_SESSION_TIMEOUT (R379): 300 s without a record closes a management session. -/
  | mgmtSessionTimeout (k : Fin 2)
  /-- PLT_LOAD (R386): Puts a plot into LOADING. -/
  | pltLoad (m : Msg)
  /-- PLT_COMMIT (R117): Checks and commits a drill image to a plot, making it READY. -/
  | pltCommit (m : Msg) (region : Fin 32) (off : Nat)
  /-- PLT_START (R118): Starts a READY plot at a named step after power admission. -/
  | pltStart (m : Msg) (step : DWord)
  /-- PLT_ABORT (R389): Aborts a plot: idle requests, forced reset, generation rise and cleanup. -/
  | pltAbort (m : Msg)
  /-- ABORT_BLOCKS_IDLE (R389): Every block of an aborting plot reports idle and the abort proceeds to its generation rise. -/
  | abortBlocksIdle (p : Fin 12)
  /-- ABORT_IDLE_TIMEOUT (R389): 1 ms after the idle requests, blocks not idle are force-reset and marked in FORCED. -/
  | abortIdleTimeout (p : Fin 12)
  /-- ABORT_RATE_WAIT_END (R390): An abort waiting for the 100 µs spacing begins. -/
  | abortRateWaitEnd (p : Fin 12)
  /-- PLT_HARROW (R392): Aborts a plot and scrubs everything its user left. -/
  | pltHarrow (m : Msg)
  /-- HARROW_COMPLETE (R393): The last harrow action ends and the plot becomes IDLE. -/
  | harrowComplete (p : Fin 12)
  /-- FILL_COMPLETE (R391): A whole-region fill ends; FILLING and OVF clear. -/
  | fillComplete (p : Fin 12)
  /-- QUARANTINE_RELEASE (R388): A quarantined slot's request resolves and the slot returns to use. -/
  | quarantineRelease (slot : Nat)
  /-- PLT_DEFINE (R385): Defines a plot in layout class Open. -/
  | pltDefine (m : Msg) (d : PlotDef)
  /-- PLT_UNDEFINE (R385): Undefines an IDLE harrowed plot in layout class Open. -/
  | pltUndefine (m : Msg)
  /-- PLT_QUERY (R396): Returns a plot's state, generation and resources. -/
  | pltQuery (m : Msg)
  /-- POWER_ON_RESET (R398): VAON rises or falls below 90 % for 1 µs; every island is reset and bring-up restarts from S0. -/
  | powerOnReset
  /-- RST_GATE (R405): Writes gate n, starting stage n or leaving it pending. -/
  | rstGate (m : Option Msg) (n : BitVec 3)
  /-- STAGE_BEGIN (R405): A stage begins once its gate is written or auto-advance holds and the previous stage is complete. -/
  | stageBegin (n : Fin 7) (median : Byte)
  /-- STAGE_COMPLETE (R404): A stage's completion condition holds and it is marked COMPLETE. -/
  | stageComplete (n : Fin 7) (layout : List (Fin 12 × PlotDef))
  /-- STAGE_STOP (R404): A stage cannot complete within its bound and stops with its code. -/
  | stageStop (n : Fin 7) (code : Byte)
  /-- XSPI_RELEASE (R403): 10 ms after a stop in S1 the xSPI lands go to high impedance. -/
  | xspiRelease
  /-- TRIM_LOAD_COMMIT (R410): A trim or option record's CRC matches and its shadows commit, or the load is repeated. -/
  | trimLoadCommit (i : Fin 192) (ok : Bool)
  /-- ISLAND_RELEASE (R411): An island leaves reset once its records, rails and clock-ready are in order. -/
  | islandRelease (i : Fin 192) (train : TrainRun)
  /-- PLL_LOCK_TIMEOUT (R411): Clock-ready has not risen 1 ms after PLL start; the PLL restarts or the release fails. -/
  | pllLockTimeout (i : Fin 192)
  /-- RESET_IDLE_TIMEOUT (R414): IDLE_US passes during an idle-first reset and reset is asserted. -/
  | resetIdleTimeout
  /-- MANAGEMENT_ISLAND_RESET (R417): Reset of the management island, requested by command or by the warden. -/
  | managementIslandReset (by_ : ResetBy)
  /-- HEADLAND_RESET (R416): Reset of cores 0 and 1 with reload from headland SRAM. -/
  | headlandReset (by_ : ResetBy)
  /-- MODULE_RESET (R414): Cold reset of the whole module with bring-up from S0. -/
  | moduleReset (by_ : ResetBy)
  /-- PERST_N (R414): PERST_N assertion or deassertion resets the PCIe island and starts link training. -/
  | perstN (asserted : Bool)
  /-- HOT_RESET (R414): A PCIe hot reset resets the PCIe island. -/
  | hotReset
  /-- SEED_WRITE (R418): Writes data into the inactive seedbed slot. -/
  | seedWrite (m : Msg) (off : Nat) (src : SecBuf) (len : Nat)
  /-- SEED_COMMIT (R418): Verifies the inactive slot and writes its header. -/
  | seedCommit (m : Msg) (header : List Byte)
  /-- SEED_QUERY (R420): Returns SEQ, validity and digest of both slots. -/
  | seedQuery (m : Msg)
  /-- CKP_ARM (R425): Arms a plot for a checkpoint at a hold step. -/
  | ckpArm (m : Msg) (full : Bool) (ckptId hstep : DWord) (slot : Fin 256) (binding : Fin 256) (lba : Nat) (region : Fin 32) (off cap : Nat)
  /-- CKP_DISARM (R425): Cancels an arm not yet cut. -/
  | ckpDisarm (m : Msg)
  /-- CKP_RESTORE (R432): Verifies sheaf chains and restores a plot to step S. -/
  | ckpRestore (m : Msg) (step : DWord) (slot : Fin 256) (chains : List (Fin 12 × List Sheaf))
  /-- CKP_QUERY (R425): Returns checkpoint state, base CKPT_ID and counts. -/
  | ckpQuery (m : Msg)
  /-- CHECKPOINT_CUT (R426): A held armed plot with its traffic settled copies the captured set into P and clears D. -/
  | checkpointCut (p : Fin 12)
  /-- SNAPSHOT_COMPLETE (R427): The scratchpad snapshot completes and the plot may start its next step. -/
  | snapshotComplete (p : Fin 12)
  /-- COPY_BEFORE_WRITE (R430): A pending page is copied to staging and the held write proceeds. -/
  | copyBeforeWrite (p : Fin 12) (page : Nat) (waitNs : Nat)
  /-- RESTORE_COMPLETE (R434): A restore finishes writing pages and seeds, or ends FAILED with INCOMPLETE. -/
  | restoreComplete (p : Fin 12) (reads : Option Nat)
  /-- EVENT_RECORD_WRITE (R438): The recorder writes the next queued event as a record with a new SEQ. -/
  | eventRecordWrite
  /-- EVR_CURSOR_WRITE (R440): A write of EVR_CUR_LO moves the reader's window. -/
  | evrCursorWrite (reader : Fin 14) (lo : Word)
  /-- TEL_SNAP (R444): TEL_SNAP.GO latches the selected counter groups into the snapshot store. -/
  | telSnap (groups : Byte)
  /-- TEL_SUBSCRIBE (R445): Sets up periodic telemetry export. -/
  | telSubscribe (m : Msg) (period : Nat) (groups : Byte) (ring : Option (Fin 32 × Word)) (slots size : Nat)
  /-- TEL_EXPORT (R445): Each period management firmware takes a snapshot and exports it. -/
  | telExport (sub : Fin 4) (done : Bool)
  /-- CLK_FSEL (R178): A write of CLK_FSEL starts a frequency measurement of the selected island. -/
  | clkFsel (island : BitVec 8) (cycles : Nat)
  /-- ARR_CONV_LO_READ (R57): A read of ARR_CONV_LO latches the high word into ARR_CONV_HI. -/
  | arrConvLoRead (t : Fin 128)
  /-- TIL_SEED_LO_READ (R87): A read of TIL_SEED_LO latches the high word into TIL_SEED_HI. -/
  | tilSeedLoRead (t : Fin 128)
  /-- SCH_PSTEP_LO_READ (R149): A read of SCH_PSTEP_LO latches the high word into SCH_PSTEP_HI. -/
  | schPstepLoRead (p : Fin 12)
  /-- NET_CNT_LOW_READ (R286): A read of a NET counter's low word latches its high word. -/
  | netCntLowRead (port : Fin 16) (i : Fin 11)
  /-- NET_CNT_LOW_WRITE (R286): A write of a NET counter's low word sets the whole count with the high word 0. -/
  | netCntLowWrite (m : Master) (port : Fin 16) (i : Fin 11) (v : Word)
  /-- EVR_HEAD_LO_READ (R446): A read of EVR_HEAD_LO latches the high SEQ bits into EVR_HEAD_HI. -/
  | evrHeadLoRead (reader : Fin 14)
  /-- CKP_STEPLO_READ (R436): A read of CKP_STEPLO latches the high word into CKP_STEPHI. -/
  | ckpSteploRead (p : Fin 12)
  /-- REGISTER_WRITE (R10): A write to a register with no row of its own, under its access codes and range checks. -/
  | registerWrite (m : Master) (target : RegTarget) (v : Word)
  /-- LASER_RETURN (R14): Laser power returns above the lock threshold on a laser input, and the lanes it feeds stop reading DARK. -/
  | laserReturn (input : Fin 4)
  /-- REFCLK_RETURN (R161): REFCLK156 or REFCLK100 is detected again, so its OK bit sets, its islands may relock, and a stage stopped with NOREF156 resumes. -/
  | refclkReturn (k : Fin 3)
  /-- RAIL_WARNING_END (R170): A rail in warning rises back above its warning level, so its PWR_STATUS.WARN bit clears and PWR_ALERT_N may be released. -/
  | railWarningEnd (rail : Fin 24)
  /-- RAMP_GUARD_RELEASE (R168): An earlier rise in ACTIVE ages out of the 1 µs ramp window, so a launch held by the ramp guard may issue. -/
  | rampGuardRelease (t : Fin 128) (n : Nat) (waited delayNs : Nat)
  /-- SENSOR_SAMPLE (R174): Every 10 µs each temperature sensor is sampled, updating ARR_TEMP, TEMP_OOR and PWR_TEMP for the governor. -/
  | sensorSample (die : Fin 8) (cim : Vector Byte 16) (dieTemp baseTemp : Byte)
  /-- CORE_TIMER_EXPIRY (R225): A core's timer expires and vector 8 becomes pending. -/
  | coreTimerExpiry (c : Fin 24)
  /-- HOST_READ_COMPLETION (R338): A PCIe completion returns data for a read of host memory that the SL-1 issued, such as storage WRITE data or work-ring entries. -/
  | hostReadCompletion (tag : Nat) (bytes : List Byte)
  /-- MANAGEMENT_PORT_FRAME (R378): An ARP, NDP, ICMP echo or TCP frame arrives on the management port and management firmware answers it. -/
  | managementPortFrame (f : MgmtFrame)
  deriving DecidableEq, Repr

end Sys2Proof
end

