-- ==== Sys2Proof/Decode.lean ====
section
/-! DEFINITION. The table's words.  No row of the table of operations and events gives any bits: commands are not encoded in words. -/
set_option Elab.async false
namespace Sys2Proof

/-- The command that a word of a row's bits spells: none, for no row has bits. -/
def decodeTableWord (_nbits _w : Nat) : Option Instr := none

end Sys2Proof
end

