-- ==== Sys2Proof/Config.lean ====
section
/-! DEFINITION. What the spec leaves open: free values, as constants without a body.  A claim holds whatever they are.  The first argument
of each is the count of free values drawn, so that every use may differ. -/
set_option Elab.async false
namespace Sys2Proof

/-- What a byte of LPDDR5X reads as while nothing has written it since its region's key was generated (R195). -/
opaque Config.lpxUnwritten : Nat → Nat → Byte

/-- AES-XTS-256 of one 64-byte line (R193): the region's key pair, by the draw that made it (R195), the data-unit number, the plaintext. -/
opaque Config.xts : Nat → Nat → BitVec 512 → BitVec 512

/-- The component, less 1, that firmware sets as the owner of a firmware region (R242): by draw and region. -/
opaque Config.regionOwner : Nat → Nat → Nat

/-- The vector, less 13, that tells a component of an uncorrectable error in its region: Table FWM-19 names none (R202). -/
opaque Config.memoryVector : Nat → Nat

/-- The analog terms of a conversion that the spec bounds and does not give (R49, Table ARR-11), each fixed per column between calibration updates.
Gain and offset of a converter before its trims: by tile, group, converter and calibration update; the offset in units of FS / 2,048. -/
opaque Config.convGain : Nat → Nat → Nat → Nat → Rat
opaque Config.convOffset : Nat → Nat → Nat → Nat → Rat
/-- What an array adds to them: by tile, 17 × group + slot, column and calibration update. -/
opaque Config.arrayGain : Nat → Nat → Nat → Nat → Rat
opaque Config.arrayOffset : Nat → Nat → Nat → Nat → Rat
/-- Integral non-linearity, in column units, with the range code and the column's ideal value. -/
opaque Config.nonLinearity : Nat → Nat → Nat → Nat → Nat → Int → Rat
/-- The random error of one column in one conversion, in units of σ_a: by draw and position in the draw. -/
opaque Config.analogNoise : Nat → Nat → Rat
/-- The shift of a held MVM's offset, as a fraction of its bound (R49): by draw and lane. -/
opaque Config.holdShift : Nat → Nat → Rat

/-- The function units' own FP32 result (R78): by function code of Table SCH-10 and FP32 input, within Table SHL-8. -/
opaque Config.funcUnit : Nat → Word → Word

/-- The scale code of an MX block in a vector register that no MX operation has written: no rule says where block scales lie (R76). -/
opaque Config.mxScale : Nat → Nat → Byte

/-- What a ROUTE or SAMPLE gives where a master has overwritten its inputs during its occupancy (R122). -/
opaque Config.undefinedChoice : Nat → Nat → Word

/-- What a bitcell row holds after its array supply fell below the retention minimum (R56, R173): by draw and row. -/
opaque Config.lostCells : Nat → Nat → BitVec 2048

/-- The factory records (R91): the 64-bit identifiers of compute die d and of the CIM die of its layer L, and that CIM die's gain temperature coefficient in ppm per °C. -/
opaque Config.cdieId : Nat → DWord
opaque Config.cimId : Nat → Nat → DWord
opaque Config.kTppm : Nat → Nat → Rat

/-- The mode registers MR5 to MR8 of controller c's package, MR5 lowest (R197). -/
opaque Config.lpxModeRegs : Nat → Word

/-- The boot ROM's component (R239): entry address, MPU regions and code in mask ROM. -/
opaque Config.romEntry : Nat
opaque Config.romMpu : List (Word × Word)
opaque Config.romCode : List Byte

/-- Where what core c stores in its mailbox range at an offset arrives: core, less multiples of 24, and offset there.  No rule lays the core mailboxes out (R212, R242). -/
opaque Config.mailboxPeer : Nat → Nat → Nat × Nat
/-- The store at this offset completes a message; the load at this offset frees space (Table NVC-7). -/
opaque Config.mailboxArrives : Nat → Nat → Bool
opaque Config.mailboxFrees : Nat → Nat → Bool
/-- The interrupt sources of core c that an access to this address of its clears (R226, R257): bit v for vector v. -/
opaque Config.clearsSource : Nat → Nat → Word

/-- The load of core c at this offset of its private registers takes the head frame of its punt ring, or of the firmware delivery ring of this number less 1 (R272, R276). -/
opaque Config.takesPunt : Nat → Nat → Bool
opaque Config.takesRing : Nat → Nat → Nat

/-- What a read of a private register of a core's island gives (Table FWM-18): no rule lays these registers out. -/
opaque Config.privateReg : Nat → Nat → Nat → Word

/-- The egress queue, of the 8,192, that network firmware uses for a connection without a flow. -/
opaque Config.omfQueue : Nat → Nat

/-- The reason codes of a CLOSE: 0 VERSION, 1 VIOLATIONS, 2 a request of this end.  No rule gives their numbers. -/
opaque Config.closeReason : Nat → Word

/-- The primitives of the key engine, each of a standard that Table SEC-3 names; none of their results is written out here.  AES-CMAC under a 256-bit key: key, message; the
first byte of the code in the low bits. -/
opaque Config.aesCmac : List Byte → List Byte → BitVec 128
/-- AES-256-GCM: byte i of the key stream under a key and an IV, and the tag over the additional data and the ciphertext, its first byte in the low bits. -/
opaque Config.gcmStream : List Byte → List Byte → Nat → Byte
opaque Config.gcmTag : List Byte → List Byte → List Byte → List Byte → BitVec 128
/-- AES-KWP: key, data; the unwrap gives none where its integrity check fails. -/
opaque Config.kwpWrap : List Byte → List Byte → List Byte
opaque Config.kwpUnwrap : List Byte → List Byte → Option (List Byte)
/-- ML-KEM-1024: the encapsulation key of the pair generated by a draw, and Decaps of a ciphertext with it (none where it fails). -/
opaque Config.kemPk : Nat → List Byte
opaque Config.kemDecaps : Nat → List Byte → Option (List Byte)
/-- The seed and the identifier of the bottom tree that the DRBG gives, by draw (R366). -/
opaque Config.lowSeed : Nat → List Byte
opaque Config.lowIdent : Nat → List Byte
/-- LMS with LMOTS_SHA256_N32_W4: the root of the tree of a height, seed and identifier, and the signature by a leaf over a message. -/
opaque Config.lmsRoot : Nat → List Byte → List Byte → List Byte
opaque Config.lmsSign : Nat → List Byte → List Byte → Nat → List Byte → List Byte
/-- HSS/LMS verification (RFC 8554) of a message under a public key and a signature; every level of the signature keeps to the parameters of R375. -/
opaque Config.hssVerifies : List Byte → List Byte → List Byte → Bool
/-- A nonce from the DRBG, by draw (R377). -/
opaque Config.nonce : Nat → List Byte

/-- PHASE of the records of a completion ring's first pass (R306). -/
opaque Config.firstPhase : Bool

end Sys2Proof
end

