-- ==== Sys2Proof/Machine/Bits.lean ====
section
/-! DEFINITION. Bit fields of words, byte order, and saturating counters. -/
set_option Elab.async false
namespace Sys2Proof.Machine

/-- Field [hi:lo] of a word, as a number. -/
def fld (w : Word) (hi lo : Nat) : Nat := w.toNat / 2 ^ lo % 2 ^ (hi + 1 - lo)

/-- The word with field [hi:lo] replaced by the low bits of a number. -/
def setFld (w : Word) (hi lo v : Nat) : Word :=
  BitVec.ofNat 32 (w.toNat - fld w hi lo * 2 ^ lo + v % 2 ^ (hi + 1 - lo) * 2 ^ lo)

/-- Bit i of a word. -/
def bit (w : Word) (i : Nat) : Bool := w.toNat.testBit i

/-- The word with bit i set to a value. -/
def setBit (w : Word) (i : Nat) (b : Bool) : Word := setFld w i i (if b then 1 else 0)

/-- A count raised by n, saturating at 0xFFFF_FFFF. -/
def satAdd (w : Word) (n : Nat) : Word := BitVec.ofNat 32 (min (w.toNat + n) 0xFFFFFFFF)

/-- A number cut to at most `m` (the saturating fields of a record). -/
def satNat (n m : Nat) : Nat := if n ≤ m then n else m

/-- 1 for true, 0 for false. -/
def boolNat (b : Bool) : Nat := if b then 1 else 0

/-- The low 32 bits of a doubleword. -/
def lo32 (d : DWord) : Word := BitVec.ofNat 32 d.toNat
/-- The high 32 bits of a doubleword. -/
def hi32 (d : DWord) : Word := BitVec.ofNat 32 (d.toNat / 2 ^ 32)
/-- The doubleword of two words. -/
def dword (hi lo : Word) : DWord := BitVec.ofNat 64 (hi.toNat * 2 ^ 32 + lo.toNat)

/-- A little-endian byte string as a number: the byte at the lower address is the less significant. -/
def leNat : List Byte → Nat
  | [] => 0
  | b :: rest => b.toNat + 256 * leNat rest

/-- The little-endian byte string of a number, n bytes long. -/
def leBytes : Nat → Nat → List Byte
  | 0, _ => []
  | n + 1, v => BitVec.ofNat 8 v :: leBytes n (v / 256)

/-- A little-endian number of n bytes at an offset of a byte string. -/
def leAt (bs : List Byte) (off n : Nat) : Nat := leNat ((bs.drop off).take n)

/-- The sum of a list of numbers. -/
def sumNat : List Nat → Nat
  | [] => 0
  | x :: rest => x + sumNat rest

/-- The largest of a list of numbers, 0 for none. -/
def maxNat : List Nat → Nat
  | [] => 0
  | x :: rest => max x (maxNat rest)

/-- The quotient rounded up. -/
def ceilDiv (a b : Nat) : Nat := (a + b - 1) / b

/-- A signed number from the low `n` bits of a number, in two's complement. -/
def sext (n v : Nat) : Int := if v % 2 ^ n < 2 ^ (n - 1) then (v % 2 ^ n : Nat) else (v % 2 ^ n : Nat) - 2 ^ n

end Sys2Proof.Machine
end

