-- ==== Sys2Proof/Machine/Sha.lean ====
section
/-! DEFINITION. SHA-256 (FIPS 180-4) and CRC-32C, the digests the spec's rules compute. -/
set_option Elab.async false
namespace Sys2Proof.Machine

/-- The integer root of degree k by bits: the largest r + d with d below 2^n whose k-th power is at most v. -/
def rootOf (k : Nat) : Nat → Nat → Nat → Nat
  | 0, _, r => r
  | n + 1, v, r => rootOf k n v (if (r + 2 ^ n) ^ k ≤ v then r + 2 ^ n else r)

/-- The first 32 bits of the fraction of the root of degree k of a prime: how FIPS 180-4 defines the constants of SHA-256. -/
def rootBits32 (k p : Nat) : Word := BitVec.ofNat 32 (rootOf k 38 (p * 2 ^ (32 * k)) 0)

/-- The primes below 312: the first 64. -/
def primes : List Nat :=
  let small := [2, 3, 5, 7, 11, 13, 17]
  small ++ (List.range 294).filterMap (fun i => if small.all (fun d => (i + 18) % d != 0) then some (i + 18) else none)

/-- The 64 round constants: from the cube roots of the primes. -/
def roundConstants : List Word := primes.map (rootBits32 3)

/-- The chaining value of SHA-256: eight words, which a round takes as the working variables a to h. -/
structure Chain where
  a : Word
  b : Word
  c : Word
  d : Word
  e : Word
  f : Word
  g : Word
  h : Word
  deriving DecidableEq, Repr

/-- The value before the first block: from the square roots of the first eight primes. -/
def chainStart : Chain :=
  let r := rootBits32 2
  { a := r 2, b := r 3, c := r 5, d := r 7, e := r 11, f := r 13, g := r 17, h := r 19 }

/-- Word-wise sum: the value after a block is the value before it plus the working variables. -/
def Chain.plus (x y : Chain) : Chain :=
  { a := x.a + y.a, b := x.b + y.b, c := x.c + y.c, d := x.d + y.d, e := x.e + y.e, f := x.f + y.f, g := x.g + y.g, h := x.h + y.h }

/-- The words of a chaining value, in order. -/
def Chain.words (x : Chain) : List Word := [x.a, x.b, x.c, x.d, x.e, x.f, x.g, x.h]

/-- Three rotations of a word, joined by exclusive or. -/
def spin (w : Word) (i j k : Nat) : Word := w.rotateRight i ^^^ w.rotateRight j ^^^ w.rotateRight k

/-- A choice by bits, and the majority of three words. -/
def shaChoose (sel yes no : Word) : Word := (sel &&& yes) ||| (~~~sel &&& no)
def majority (x y z : Word) : Word := (x &&& (y ||| z)) ||| (y &&& z)

/-- One round, with the sum of its constant and its schedule word. -/
def Chain.round (x : Chain) (kw : Word) : Chain :=
  let up := x.h + spin x.e 6 11 25 + shaChoose x.e x.f x.g + kw
  { a := up + spin x.a 2 13 22 + majority x.a x.b x.c, b := x.a, c := x.b, d := x.c, e := x.d + up, f := x.e, g := x.f, h := x.g }

/-- The schedule of a block, latest word first, grown by n words. -/
def shaSchedule : Nat → List Word → List Word
  | 0, ws => ws
  | n + 1, ws =>
    let back := fun (i : Nat) => ws.getD (i - 1) 0
    let near := (back 2).rotateRight 17 ^^^ (back 2).rotateRight 19 ^^^ (back 2 >>> 10)
    let far := (back 15).rotateRight 7 ^^^ (back 15).rotateRight 18 ^^^ (back 15 >>> 3)
    shaSchedule n ((back 16 + far + back 7 + near) :: ws)

/-- Big-endian bytes as words. -/
def beWords : List Byte → List Word
  | a :: b :: c :: d :: rest => (a ++ b ++ c ++ d) :: beWords rest
  | _ => []

/-- The bytes of a word, most significant first. -/
def beBytes (w : Word) : List Byte := (leBytes 4 w.toNat).reverse

/-- Blocks of 16 words in turn, at most n. -/
def digestBlocks : Nat → Chain → List Word → Chain
  | 0, x, _ => x
  | n + 1, x, ws =>
    if ws.isEmpty then x
    else
      let sched := (shaSchedule 48 (ws.take 16).reverse).reverse
      digestBlocks n (x.plus ((List.zipWith (· + ·) roundConstants sched).foldl Chain.round x)) (ws.drop 16)

/-- A message with its padding: a 1 bit, zeros, and its length in bits as 64, big-endian. -/
def shaPadded (m : List Byte) : List Byte :=
  m ++ [0x80] ++ List.replicate ((119 - m.length % 64) % 64) 0 ++ (leBytes 8 (8 * m.length)).reverse

/-- SHA-256 of a byte string. -/
def sha256 (m : List Byte) : List Byte :=
  let p := shaPadded m
  (digestBlocks (p.length / 64) chainStart (beWords p)).words.flatMap beBytes

/-- CRC-32C (reflected polynomial 0x82F63B78), one bit at a time. -/
def crcBits : Nat → Word → Word
  | 0, c => c
  | n + 1, c => crcBits n (if c.toNat.testBit 0 then (c >>> 1) ^^^ 0x82F63B78 else c >>> 1)

/-- CRC-32C of a byte string. -/
def crc32c (m : List Byte) : Word := ~~~(m.foldl (fun c b => crcBits 8 (c ^^^ b.setWidth 32)) 0xFFFFFFFF)

end Sys2Proof.Machine
end

