-- ==== Sys2Proof/Machine/Crypto.lean ====
section
/-! DEFINITION. The key engine's constructions over the primitives that Table SEC-3 names: key derivation (R359), GCM opening, public keys and signatures of the identity (R366),
and the parameters of the signatures that are verified (R375).  The primitives themselves are free functions of Config. -/
set_option Elab.async false
namespace Sys2Proof.Machine

/-- A byte string cut or zero-padded to n bytes. -/
def fitBytes (n : Nat) (bs : List Byte) : List Byte := (bs ++ List.replicate (n - bs.length) 0).take n

/-- Big-endian bytes of a number. -/
def bigEndian (n v : Nat) : List Byte := (leBytes n v).reverse

/-- A big-endian number of n bytes at an offset of a byte string. -/
def beAt (bs : List Byte) (off n : Nat) : Nat := leNat ((bs.drop off).take n).reverse

/-- The characters of a label as bytes. -/
def labelBytes (l : String) : List Byte := l.toList.map (fun c => BitVec.ofNat 8 c.toNat)

/-- The input of block i of a derivation of `bits` bits (R359): [i]32 ‖ label ‖ 0x00 ‖ context ‖ [L]32, both counts big-endian: PRESUMED, log entry 135. -/
def kdfInput (i : Nat) (label : String) (context : List Byte) (bits : Nat) : List Byte :=
  bigEndian 4 i ++ labelBytes label ++ [0] ++ context ++ bigEndian 4 bits

/-- The counter-mode KDF with AES-CMAC (R359): blocks from 1 on, cut to `bits` bits. -/
def kdf (key : List Byte) (label : String) (context : List Byte) (bits : Nat) : List Byte :=
  ((List.range (ceilDiv bits 128)).flatMap (fun i => leBytes 16 (Config.aesCmac key (kdfInput (i + 1) label context bits)).toNat)).take (bits / 8)

/-- A 256-bit key derived. -/
def kdfKey (key : List Byte) (label : String) (context : List Byte) : List Byte := kdf key label context 256

/-- AES-256-GCM opening (R373, R428): none where the tag does not verify. -/
def gcmOpen (key iv aad ct tag : List Byte) : Option (List Byte) :=
  if leBytes 16 (Config.gcmTag key iv aad ct).toNat = tag then some (ct.zipIdx.map (fun e => e.1 ^^^ Config.gcmStream key iv e.2)) else none

/-- AES-256-GCM sealing: ciphertext, then tag. -/
def gcmSeal (key iv aad pt : List Byte) : List Byte × List Byte :=
  let ct := pt.zipIdx.map (fun e => e.1 ^^^ Config.gcmStream key iv e.2)
  (ct, leBytes 16 (Config.gcmTag key iv aad ct).toNat)

/-- DEVICE_ID of a root secret (R360). -/
def deviceIdOf (root : List Byte) : List Byte := (kdfKey root "IDTOPI" []).take 16

/-- ROOT_CHK of a root secret (Table SEC-1). -/
def rootChkOf (root : List Byte) : Word := BitVec.ofNat 32 (leNat ((kdfKey root "ROOTCHK" []).take 4))

/-- An LMS public key in its RFC 8554 serialisation: type, LM-OTS type, identifier, root; the tree is given by its height, seed and identifier. -/
def lmsPublic (type height : Nat) (seed ident : List Byte) : List Byte :=
  bigEndian 4 type ++ bigEndian 4 3 ++ fitBytes 16 ident ++ fitBytes 32 (Config.lmsRoot height seed ident)

/-- IDPK (R366): the top level, LMS_SHA256_M32_H15, from the seed "IDTOP" and DEVICE_ID. -/
def idpkOf (root : List Byte) : List Byte := lmsPublic 7 15 (kdfKey root "IDTOP" []) (deviceIdOf root)

/-- A top-level signature by a leaf (R368). -/
def topSigOf (root : List Byte) (leaf : Nat) (msg : List Byte) : List Byte := Config.lmsSign 15 (kdfKey root "IDTOP" []) (deviceIdOf root) leaf msg

/-- LOWPK of the bottom tree of a draw (R366): LMS_SHA256_M32_H20 from a seed and an identifier of the DRBG. -/
def lowPkOf (tree : Nat) : List Byte := lmsPublic 8 20 (Config.lowSeed tree) (Config.lowIdent tree)

/-- A bottom-level signature by a leaf (R369). -/
def lowSigOf (tree leaf : Nat) (msg : List Byte) : List Byte := Config.lmsSign 20 (Config.lowSeed tree) (Config.lowIdent tree) leaf msg

/-- The parameters that the SL-1 verifies (R375): HSS levels 1 to 4, LMS types M32 H5 to H25, LM-OTS types N32 W1 to W8, in the codes of RFC 8554: PRESUMED, log entry 136. -/
def hssParams (pk : List Byte) : Bool :=
  decide (1 ≤ beAt pk 0 4) && decide (beAt pk 0 4 ≤ 4) && decide (5 ≤ beAt pk 4 4) && decide (beAt pk 4 4 ≤ 9) && decide (1 ≤ beAt pk 8 4) && decide (beAt pk 8 4 ≤ 4)

/-- An HSS signature over a message verifies under a public key (R375). -/
def hssAccepts (msg pk sig : List Byte) : Bool := hssParams pk && Config.hssVerifies msg pk sig

end Sys2Proof.Machine
end

