-- ==== Sys2Proof/Machine/Regs.lean ====
section
/-! DEFINITION. The registers of the SL-1, one constructor for each register name of the spec's register headers, with
the indices the name carries (a tile, a plot, a function, ...).  `regAccess` and `regReset` are the headers' access codes and
reset values; where a register lies is in Machine/RegMap.lean. -/
set_option Elab.async false
namespace Sys2Proof.Machine

/-- A register, by the spec's name (R11).  `t` is a tile, `p` a plot or port, `o` a mailbox owner (0 the PF, 1 to 12 the VFs, 13 the
management port), `f` a function (0 the PF, 1 to 12 the VFs), `e` an event reader (0 the PF, 1 to 12 the VFs, 13 management firmware). -/
inductive Reg where
  /-- HIF_IDENT (00_scope.md, R2). -/
  | hifIdent
  /-- ARR_TIMING (02_analog_arrays.md, R57). -/
  | arrTiming (t : Nat)
  /-- ARR_STATUS (02_analog_arrays.md, R57). -/
  | arrStatus (t : Nat)
  /-- ARR_ERR (02_analog_arrays.md, R57). -/
  | arrErr (t : Nat)
  /-- ARR_ERRINFO (02_analog_arrays.md, R57). -/
  | arrErrinfo (t : Nat)
  /-- ARR_TEMP (02_analog_arrays.md, R57). -/
  | arrTemp (t : Nat)
  /-- ARR_CONV_LO (02_analog_arrays.md, R57). -/
  | arrConvLo (t : Nat)
  /-- ARR_CONV_HI (02_analog_arrays.md, R57). -/
  | arrConvHi (t : Nat)
  /-- ARR_REFSKIP (02_analog_arrays.md, R57). -/
  | arrRefskip (t : Nat)
  /-- ARR_STRETCH (02_analog_arrays.md, R57). -/
  | arrStretch (t : Nat)
  /-- ARR_LDESCk (02_analog_arrays.md, R57). -/
  | arrLdesc (t k : Nat)
  /-- ARR_GRPg (02_analog_arrays.md, R57). -/
  | arrGrp (t g : Nat)
  /-- ARR_MODEg (02_analog_arrays.md, R57). -/
  | arrMode (t g : Nat)
  /-- ARR_VALIDg (02_analog_arrays.md, R57). -/
  | arrValid (t g : Nat)
  /-- ARR_SATCNTg (02_analog_arrays.md, R57). -/
  | arrSatcnt (t g : Nat)
  /-- TIL_PPDAk (03_digital_shell.md, R87). -/
  | tilPpda (t k : Nat)
  /-- TIL_PPDBk (03_digital_shell.md, R87). -/
  | tilPpdb (t k : Nat)
  /-- TIL_SHERR (03_digital_shell.md, R87). -/
  | tilSherr (t : Nat)
  /-- TIL_SHERRINFO (03_digital_shell.md, R87). -/
  | tilSherrinfo (t : Nat)
  /-- TIL_ACCSAT (03_digital_shell.md, R87). -/
  | tilAccsat (t : Nat)
  /-- TIL_MXNAN (03_digital_shell.md, R87). -/
  | tilMxnan (t : Nat)
  /-- TIL_NOSAMPLE (03_digital_shell.md, R87). -/
  | tilNosample (t : Nat)
  /-- TIL_SEED_LO (03_digital_shell.md, R87). -/
  | tilSeedLo (t : Nat)
  /-- TIL_SEED_HI (03_digital_shell.md, R87). -/
  | tilSeedHi (t : Nat)
  /-- TIL_SCALEi (03_digital_shell.md, R87). -/
  | tilScale (t i : Nat)
  /-- CAL_CTRL (04_calibration_repair.md, R112). -/
  | calCtrl (t : Nat)
  /-- CAL_GMASK (04_calibration_repair.md, R112). -/
  | calGmask (t : Nat)
  /-- CAL_TRIMSEL (04_calibration_repair.md, R112). -/
  | calTrimsel (t : Nat)
  /-- CAL_TRIMDATA (04_calibration_repair.md, R112). -/
  | calTrimdata (t : Nat)
  /-- CAL_RECALCNT (04_calibration_repair.md, R112). -/
  | calRecalcnt (t : Nat)
  /-- CAL_STALECNT (04_calibration_repair.md, R112). -/
  | calStalecnt (t : Nat)
  /-- CAL_SOFTCNT (04_calibration_repair.md, R112). -/
  | calSoftcnt (t : Nat)
  /-- CAL_GSTATg (04_calibration_repair.md, R112). -/
  | calGstat (t g : Nat)
  /-- CAL_FLAGg (04_calibration_repair.md, R112). -/
  | calFlag (t g : Nat)
  /-- SCH_STATUS (05_schedule_contract.md, R148). -/
  | schStatus (t : Nat)
  /-- SCH_CYCLE (05_schedule_contract.md, R148). -/
  | schCycle (t : Nat)
  /-- SCH_LEN (05_schedule_contract.md, R148). -/
  | schLen (t : Nat)
  /-- SCH_ERR (05_schedule_contract.md, R148). -/
  | schErr (t : Nat)
  /-- SCH_ERRINFO (05_schedule_contract.md, R148). -/
  | schErrinfo (t : Nat)
  /-- SCH_SLACKCNT (05_schedule_contract.md, R148). -/
  | schSlackcnt (t : Nat)
  /-- SCH_SLACKINFO (05_schedule_contract.md, R148). -/
  | schSlackinfo (t : Nat)
  /-- SCH_MAXWAIT (05_schedule_contract.md, R148). -/
  | schMaxwait (t : Nat)
  /-- SCH_STALLs (05_schedule_contract.md, R148). -/
  | schStall (t i : Nat)
  /-- SCH_LSTALLs (05_schedule_contract.md, R148). -/
  | schLstall (t i : Nat)
  /-- TIL_SPERR (08_memory.md, R208). -/
  | tilSperr (t : Nat)
  /-- TIL_SPERRINFO (08_memory.md, R208). -/
  | tilSperrinfo (t : Nat)
  /-- TIL_SPCECNT (08_memory.md, R208). -/
  | tilSpcecnt (t : Nat)
  /-- TIL_SPAPBASE (08_memory.md, R208). -/
  | tilSpapbase (t : Nat)
  /-- TIL_RGNm_r (08_memory.md, R208). -/
  | tilRgn (t m r : Nat)
  /-- SCH_PCTRL (05_schedule_contract.md, R149). -/
  | schPctrl (p : Nat)
  /-- SCH_PSTAT (05_schedule_contract.md, R149). -/
  | schPstat (p : Nat)
  /-- SCH_PSTEP_LO (05_schedule_contract.md, R149). -/
  | schPstepLo (p : Nat)
  /-- SCH_PSTEP_HI (05_schedule_contract.md, R149). -/
  | schPstepHi (p : Nat)
  /-- SCH_POVRCNT (05_schedule_contract.md, R149). -/
  | schPovrcnt (p : Nat)
  /-- SCH_PLATE (05_schedule_contract.md, R149). -/
  | schPlate (p : Nat)
  /-- PWR_CTRL (07_clocks_power.md, R177). -/
  | pwrCtrl
  /-- PWR_WAKE (07_clocks_power.md, R177). -/
  | pwrWake
  /-- PWR_CAP (07_clocks_power.md, R177). -/
  | pwrCap
  /-- PWR_FIXED (07_clocks_power.md, R177). -/
  | pwrFixed
  /-- PWR_STATUS (07_clocks_power.md, R177). -/
  | pwrStatus
  /-- PWR_WARNLOG (07_clocks_power.md, R177). -/
  | pwrWarnlog
  /-- PWR_RSTLOG (07_clocks_power.md, R177). -/
  | pwrRstlog
  /-- PWR_DIE (07_clocks_power.md, R177). -/
  | pwrDie
  /-- PWR_TEMP (07_clocks_power.md, R177). -/
  | pwrTemp
  /-- PWR_ADMIT (07_clocks_power.md, R177). -/
  | pwrAdmit
  /-- PWR_WARNCNT (07_clocks_power.md, R177). -/
  | pwrWarncnt
  /-- PWR_WAKEDLY (07_clocks_power.md, R177). -/
  | pwrWakedly
  /-- PWR_THRCNT (07_clocks_power.md, R177). -/
  | pwrThrcnt
  /-- CLK_REFSTAT (07_clocks_power.md, R178). -/
  | clkRefstat
  /-- CLK_RDYw (07_clocks_power.md, R178). -/
  | clkRdy (w : Nat)
  /-- CLK_FSEL (07_clocks_power.md, R178). -/
  | clkFsel
  /-- CLK_FMEAS (07_clocks_power.md, R178). -/
  | clkFmeas
  /-- CLK_LOSSCNT (07_clocks_power.md, R178). -/
  | clkLosscnt
  /-- LPX_STATUS (08_memory.md, R209). -/
  | lpxStatus
  /-- LPX_TRAIN (08_memory.md, R209). -/
  | lpxTrain
  /-- LPX_FREEZE (08_memory.md, R209). -/
  | lpxFreeze
  /-- LPX_UECNT (08_memory.md, R209). -/
  | lpxUecnt
  /-- LPX_PATROL (08_memory.md, R209). -/
  | lpxPatrol
  /-- LPX_CECNTc (08_memory.md, R209). -/
  | lpxCecnt (c : Nat)
  /-- LPX_ULOGn (08_memory.md, R209). -/
  | lpxUlog (n : Nat)
  /-- LPX_RGNBASEn (08_memory.md, R209). -/
  | lpxRgnbase (n : Nat)
  /-- LPX_RGNSIZEn (08_memory.md, R209). -/
  | lpxRgnsize (n : Nat)
  /-- LPX_RGNCTLn (08_memory.md, R209). -/
  | lpxRgnctl (n : Nat)
  /-- NVC_STATUSc (09_novdy_core.md, R238). -/
  | nvcStatus (c : Nat)
  /-- NVC_WDOGc (09_novdy_core.md, R238). -/
  | nvcWdog (c : Nat)
  /-- NVC_XCNTc (09_novdy_core.md, R238). -/
  | nvcXcnt (c : Nat)
  /-- NVC_CECNTc (09_novdy_core.md, R238). -/
  | nvcCecnt (c : Nat)
  /-- NVC_HALTPCc (09_novdy_core.md, R238). -/
  | nvcHaltpc (c : Nat)
  /-- FWM_VERn (10_firmware.md, R254). -/
  | fwmVer (n : Nat)
  /-- FWM_STATEn (10_firmware.md, R254). -/
  | fwmState (n : Nat)
  /-- FWM_DIGn_k (10_firmware.md, R254). -/
  | fwmDig (n k : Nat)
  /-- FWM_UPD (10_firmware.md, R254). -/
  | fwmUpd
  /-- FWM_FEATk (10_firmware.md, R254). -/
  | fwmFeat (k : Nat)
  /-- FWM_HGENf (10_firmware.md, R254). -/
  | fwmHgen (f : Nat)
  /-- MBX_CTRL (10_firmware.md, R255). -/
  | mbxCtrl (o : Nat)
  /-- MBX_TFPI (10_firmware.md, R255). -/
  | mbxTfpi (o : Nat)
  /-- MBX_TFCI (10_firmware.md, R255). -/
  | mbxTfci (o : Nat)
  /-- MBX_FFPI (10_firmware.md, R255). -/
  | mbxFfpi (o : Nat)
  /-- MBX_FFCI (10_firmware.md, R255). -/
  | mbxFfci (o : Nat)
  /-- NET_PCFGp (11_network.md, R286). -/
  | netPcfg (p : Nat)
  /-- NET_PSTATp (11_network.md, R286). -/
  | netPstat (p : Nat)
  /-- NET_CNTp_i low (11_network.md, R286). -/
  | netCntLo (p i : Nat)
  /-- NET_CNTp_i high (11_network.md, R286). -/
  | netCntHi (p i : Nat)
  /-- NET_BERCFG (11_network.md, R286). -/
  | netBercfg
  /-- PRS_CMD (11_network.md, R287). -/
  | prsCmd
  /-- PRS_DATAk (11_network.md, R287). -/
  | prsData (k : Nat)
  /-- PRS_PARTq (11_network.md, R287). -/
  | prsPart (q : Nat)
  /-- PRS_MPARTq (11_network.md, R287). -/
  | prsMpart (q : Nat)
  /-- PRS_XTRp_k (11_network.md, R287). -/
  | prsXtr (p k : Nat)
  /-- PRS_PUNTr (11_network.md, R287). -/
  | prsPunt (r : Nat)
  /-- PRS_NOMATCH (11_network.md, R287). -/
  | prsNomatch
  /-- PRS_PARSEFAIL (11_network.md, R287). -/
  | prsParsefail
  /-- PRS_METERDROP (11_network.md, R287). -/
  | prsMeterdrop
  /-- PRS_DESTDROP (11_network.md, R287). -/
  | prsDestdrop
  /-- PRS_PUNTDROPr (11_network.md, R287). -/
  | prsPuntdrop (r : Nat)
  /-- TMS_QSEL (11_network.md, R288). -/
  | tmsQsel
  /-- TMS_PORTp (11_network.md, R288). -/
  | tmsPort (p : Nat)
  /-- TMS_SAMPLE (11_network.md, R288). -/
  | tmsSample
  /-- TMS_QCFG (of queue q) (11_network.md, R288). -/
  | tmsQcfg (q : Nat)
  /-- TMS_QSHAPE (of queue q) (11_network.md, R288). -/
  | tmsQshape (q : Nat)
  /-- TMS_QSTAT (of queue q) (11_network.md, R288). -/
  | tmsQstat (q : Nat)
  /-- TMS_QAVG (of queue q) (11_network.md, R288). -/
  | tmsQavg (q : Nat)
  /-- TMS_QDROP (of queue q) (11_network.md, R288). -/
  | tmsQdrop (q : Nat)
  /-- RMA_CFG (12_remote_memory.md, R311). -/
  | rmaCfg
  /-- RMA_TIMERS (12_remote_memory.md, R311). -/
  | rmaTimers
  /-- RMA_PARK (12_remote_memory.md, R311). -/
  | rmaPark
  /-- RMA_CMD (12_remote_memory.md, R311). -/
  | rmaCmd
  /-- RMA counters (AUTHFAIL REPLAY BADCID PARKDROP FETCHFAIL VIOL RETX CTRSTOP MISS) (12_remote_memory.md, R311). -/
  | rmaCnt (i : Nat)
  /-- RMA_DATAk (12_remote_memory.md, R311). -/
  | rmaData (k : Nat)
  /-- RMA_RBASE_LO (12_remote_memory.md, R312). -/
  | rmaRbaseLo (p : Nat)
  /-- RMA_RBASE_HI (12_remote_memory.md, R312). -/
  | rmaRbaseHi (p : Nat)
  /-- RMA_RCTL (12_remote_memory.md, R312). -/
  | rmaRctl (p : Nat)
  /-- RMA_WQPI (12_remote_memory.md, R312). -/
  | rmaWqpi (p : Nat)
  /-- RMA_WQCI (12_remote_memory.md, R312). -/
  | rmaWqci (p : Nat)
  /-- RMA_CQPI (12_remote_memory.md, R312). -/
  | rmaCqpi (p : Nat)
  /-- RMA_CQCI (12_remote_memory.md, R312). -/
  | rmaCqci (p : Nat)
  /-- STG_CMDn (13_storage_channels.md, R330). -/
  | stgCmd (n : Nat)
  /-- STG_LBALOn (13_storage_channels.md, R330). -/
  | stgLbalo (n : Nat)
  /-- STG_LBAHIn (13_storage_channels.md, R330). -/
  | stgLbahi (n : Nat)
  /-- STG_BLKSn (13_storage_channels.md, R330). -/
  | stgBlks (n : Nat)
  /-- STG_BUFLOn (13_storage_channels.md, R330). -/
  | stgBuflo (n : Nat)
  /-- STG_BUFHIn (13_storage_channels.md, R330). -/
  | stgBufhi (n : Nat)
  /-- STG_BUFCTLn (13_storage_channels.md, R330). -/
  | stgBufctl (n : Nat)
  /-- STG_STATUSn (13_storage_channels.md, R330). -/
  | stgStatus (n : Nat)
  /-- STG_DONEn (13_storage_channels.md, R330). -/
  | stgDone (n : Nat)
  /-- STG_CTLn (13_storage_channels.md, R330). -/
  | stgCtl (n : Nat)
  /-- STG_CFG (13_storage_channels.md, R330). -/
  | stgCfg
  /-- STG_CPEND_LO/HI (13_storage_channels.md, R330). -/
  | stgCpend (h : Nat)
  /-- STG_XERR (13_storage_channels.md, R330). -/
  | stgXerr
  /-- STG_ABORTMISS (13_storage_channels.md, R330). -/
  | stgAbortmiss
  /-- STG_REFUSED (13_storage_channels.md, R330). -/
  | stgRefused
  /-- HIF_LINK (14_host_interface.md, R353). -/
  | hifLink
  /-- HIF_HB (14_host_interface.md, R353). -/
  | hifHb (f : Nat)
  /-- HIF_HBCFG (14_host_interface.md, R353). -/
  | hifHbcfg (f : Nat)
  /-- HIF_HSTAT (14_host_interface.md, R353). -/
  | hifHstat (f : Nat)
  /-- HIF_B2CTL (14_host_interface.md, R353). -/
  | hifB2ctl
  /-- HIF_URCNT (14_host_interface.md, R353). -/
  | hifUrcnt
  /-- HIF_MALCNT (14_host_interface.md, R353). -/
  | hifMalcnt
  /-- HIF_HAERR (14_host_interface.md, R353). -/
  | hifHaerr
  /-- HIF_INVCNT (14_host_interface.md, R353). -/
  | hifInvcnt
  /-- HIF_FEEDDROP (14_host_interface.md, R353). -/
  | hifFeeddrop
  /-- HIF_FWINk_BASELO (14_host_interface.md, R353). -/
  | hifFwinBaselo (k : Nat)
  /-- HIF_FWINk_BASEHI (14_host_interface.md, R353). -/
  | hifFwinBasehi (k : Nat)
  /-- HIF_FWINk_SIZE (14_host_interface.md, R353). -/
  | hifFwinSize (k : Nat)
  /-- HIF_FWINk_CTL (14_host_interface.md, R353). -/
  | hifFwinCtl (k : Nat)
  /-- SEC_STATUS (15_security.md, R382). -/
  | secStatus
  /-- SEC_EPOCH (15_security.md, R382). -/
  | secEpoch
  /-- SEC_LOWLEFT (15_security.md, R382). -/
  | secLowleft
  /-- SEC_ALARM (15_security.md, R382). -/
  | secAlarm
  /-- SEC_DBG (15_security.md, R382). -/
  | secDbg
  /-- SEC_ALARMCNT (15_security.md, R382). -/
  | secAlarmcnt
  /-- SEC_DUALFAIL (15_security.md, R382). -/
  | secDualfail
  /-- SEC_HUSKFAIL (15_security.md, R382). -/
  | secHuskfail
  /-- SEC_RELFAIL (15_security.md, R382). -/
  | secRelfail
  /-- SEC_FUSEWk (15_security.md, R382). -/
  | secFusew (k : Nat)
  /-- PLT_CMD (16_plots.md, R397). -/
  | pltCmd
  /-- PLT_CFG (16_plots.md, R397). -/
  | pltCfg
  /-- PLT_PSTATp (16_plots.md, R397). -/
  | pltPstat (p : Nat)
  /-- PLT_GENp (16_plots.md, R397). -/
  | pltGen (p : Nat)
  /-- PLT_TILESp_k (16_plots.md, R397). -/
  | pltTiles (p k : Nat)
  /-- RST_STAGE (17_bringup_reset.md, R421). -/
  | rstStage
  /-- RST_GATE (17_bringup_reset.md, R421). -/
  | rstGate
  /-- RST_BOOT (17_bringup_reset.md, R421). -/
  | rstBoot
  /-- RST_CMD (17_bringup_reset.md, R421). -/
  | rstCmd
  /-- RST_CFG (17_bringup_reset.md, R421). -/
  | rstCfg
  /-- RST_CAUSE (17_bringup_reset.md, R421). -/
  | rstCause
  /-- RST_ILDCNT (17_bringup_reset.md, R421). -/
  | rstIldcnt
  /-- RST_RERESET (17_bringup_reset.md, R421). -/
  | rstRereset
  /-- RST_SEEDSEQ (17_bringup_reset.md, R421). -/
  | rstSeedseq
  /-- RST_INRSTw (17_bringup_reset.md, R421). -/
  | rstInrst (w : Nat)
  /-- RST_TILEFAILk (17_bringup_reset.md, R421). -/
  | rstTilefail (k : Nat)
  /-- CKP_PSTATp (18_checkpoint.md, R436). -/
  | ckpPstat (p : Nat)
  /-- CKP_PENDp (18_checkpoint.md, R436). -/
  | ckpPend (p : Nat)
  /-- CKP_SEALEDp (18_checkpoint.md, R436). -/
  | ckpSealed (p : Nat)
  /-- CKP_COWp (18_checkpoint.md, R436). -/
  | ckpCow (p : Nat)
  /-- CKP_COWMAXp (18_checkpoint.md, R436). -/
  | ckpCowmax (p : Nat)
  /-- CKP_STEPLOp (18_checkpoint.md, R436). -/
  | ckpSteplo (p : Nat)
  /-- CKP_STEPHIp (18_checkpoint.md, R436). -/
  | ckpStephi (p : Nat)
  /-- CKP_CFG (18_checkpoint.md, R436). -/
  | ckpCfg
  /-- EVR_HEAD_LO (19_events_telemetry.md, R446). -/
  | evrHeadLo
  /-- EVR_HEAD_HI (19_events_telemetry.md, R446). -/
  | evrHeadHi (e : Nat)
  /-- EVR_CUR_LO (19_events_telemetry.md, R446). -/
  | evrCurLo (e : Nat)
  /-- EVR_CUR_HI (19_events_telemetry.md, R446). -/
  | evrCurHi (e : Nat)
  /-- EVR_IRQ (19_events_telemetry.md, R446). -/
  | evrIrq (e : Nat)
  /-- EVR_DROPCNT (19_events_telemetry.md, R446). -/
  | evrDropcnt
  /-- TEL_SNAP (19_events_telemetry.md, R446). -/
  | telSnap
  /-- TEL_PSTALLp_s (19_events_telemetry.md, R446). -/
  | telPstall (p i : Nat)
  /-- TEL_PSLACKp (19_events_telemetry.md, R446). -/
  | telPslack (p : Nat)
  /-- TEL_PWORSTp (19_events_telemetry.md, R446). -/
  | telPworst (p : Nat)
  deriving DecidableEq, Repr

/-- The bits a bus write reaches, by access code (Table SCP-8): `rw` plain writes, `w1c` cleared by writing 1, `rwl` writable until the
owning block's configuration commit.  Every other bit is read-only or reserved. -/
structure RegAccess where
  rw  : Word := 0
  w1c : Word := 0
  rwl : Word := 0
  deriving DecidableEq, Repr

/-- Access codes of each register, from its header. -/
def regAccess : Reg → RegAccess
  | .hifIdent => {}
  | .arrTiming _ => { rwl := 0x0000001F }
  | .arrStatus _ => {}
  | .arrErr _ => { w1c := 0x000003FF }
  | .arrErrinfo _ => {}
  | .arrTemp _ => {}
  | .arrConvLo _ => {}
  | .arrConvHi _ => {}
  | .arrRefskip _ => { rw := 0xFFFFFFFF }
  | .arrStretch _ => { rw := 0xFFFFFFFF }
  | .arrLdesc _ _ => { rwl := 0x000FF31F }
  | .arrGrp _ _ => { rw := 0x00401F00 }
  | .arrMode _ _ => {}
  | .arrValid _ _ => {}
  | .arrSatcnt _ _ => { rw := 0xFFFFFFFF }
  | .tilPpda _ _ => { rwl := 0xFFFE0FFF }
  | .tilPpdb _ _ => { rwl := 0x00003FFF }
  | .tilSherr _ => { w1c := 0x0000007F }
  | .tilSherrinfo _ => {}
  | .tilAccsat _ => { rw := 0xFFFFFFFF }
  | .tilMxnan _ => { rw := 0xFFFFFFFF }
  | .tilNosample _ => { rw := 0xFFFFFFFF }
  | .tilSeedLo _ => {}
  | .tilSeedHi _ => {}
  | .tilScale _ _ => { rwl := 0xFFFFFFFF }
  | .calCtrl _ => { rw := 0x00001F00 }
  | .calGmask _ => { rw := 0xFFFFFFFF }
  | .calTrimsel _ => { rw := 0x001F03FF }
  | .calTrimdata _ => {}
  | .calRecalcnt _ => { rw := 0xFFFFFFFF }
  | .calStalecnt _ => { rw := 0xFFFFFFFF }
  | .calSoftcnt _ => { rw := 0xFFFFFFFF }
  | .calGstat _ _ => {}
  | .calFlag _ _ => { w1c := 0x8001FFFF }
  | .schStatus _ => {}
  | .schCycle _ => {}
  | .schLen _ => {}
  | .schErr _ => { w1c := 0x000003FF }
  | .schErrinfo _ => {}
  | .schSlackcnt _ => { rw := 0xFFFFFFFF }
  | .schSlackinfo _ => {}
  | .schMaxwait _ => { rw := 0xFFFFFFFF }
  | .schStall _ _ => { rw := 0xFFFFFFFF }
  | .schLstall _ _ => {}
  | .tilSperr _ => { w1c := 0x00000007 }
  | .tilSperrinfo _ => {}
  | .tilSpcecnt _ => { rw := 0xFFFFFFFF }
  | .tilSpapbase _ => { rw := 0x000003FF }
  | .tilRgn _ _ _ => { rw := 0xFFFFFFFF }
  | .schPctrl _ => { rw := 0x00000003 }
  | .schPstat _ => {}
  | .schPstepLo _ => {}
  | .schPstepHi _ => {}
  | .schPovrcnt _ => { rw := 0xFFFFFFFF }
  | .schPlate _ => {}
  | .pwrCtrl => { rwl := 0x3FFFFFFF }
  | .pwrWake => { rwl := 0x03FF000F }
  | .pwrCap => { rwl := 0x0003FFFF }
  | .pwrFixed => { rwl := 0x0003FFFF }
  | .pwrStatus => {}
  | .pwrWarnlog => { w1c := 0x00FFFFFF }
  | .pwrRstlog => { w1c := 0x00FFFFFF }
  | .pwrDie => {}
  | .pwrTemp => {}
  | .pwrAdmit => {}
  | .pwrWarncnt => { rw := 0xFFFFFFFF }
  | .pwrWakedly => { rw := 0xFFFFFFFF }
  | .pwrThrcnt => { rw := 0xFFFFFFFF }
  | .clkRefstat => { w1c := 0x00000700 }
  | .clkRdy _ => {}
  | .clkFsel => { rw := 0x000000FF }
  | .clkFmeas => {}
  | .clkLosscnt => { rw := 0xFFFFFFFF }
  | .lpxStatus => {}
  | .lpxTrain => {}
  | .lpxFreeze => {}
  | .lpxUecnt => { rw := 0xFFFFFFFF }
  | .lpxPatrol => { rw := 0x000000FF }
  | .lpxCecnt _ => { rw := 0xFFFFFFFF }
  | .lpxUlog _ => {}
  | .lpxRgnbase _ => { rw := 0x00003FFF }
  | .lpxRgnsize _ => { rw := 0x00003FFF }
  | .lpxRgnctl _ => { rw := 0x80000000 }
  | .nvcStatus _ => {}
  | .nvcWdog _ => {}
  | .nvcXcnt _ => { rw := 0xFFFFFFFF }
  | .nvcCecnt _ => { rw := 0xFFFFFFFF }
  | .nvcHaltpc _ => {}
  | .fwmVer _ => {}
  | .fwmState _ => {}
  | .fwmDig _ _ => {}
  | .fwmUpd => {}
  | .fwmFeat _ => {}
  | .fwmHgen _ => {}
  | .mbxCtrl _ => {}
  | .mbxTfpi _ => { rw := 0x0000FFFF }
  | .mbxTfci _ => {}
  | .mbxFfpi _ => {}
  | .mbxFfci _ => { rw := 0x0000FFFF }
  | .netPcfg _ => { rw := 0xFFFC0F03 }
  | .netPstat _ => {}
  | .netCntLo _ _ => { rw := 0xFFFFFFFF }
  | .netCntHi _ _ => {}
  | .netBercfg => { rw := 0x0F0F0F0F }
  | .prsCmd => { rw := 0x1FE00FFF, w1c := 0x20000000 }
  | .prsData _ => { rw := 0xFFFFFFFF }
  | .prsPart _ => { rw := 0x1FFF0FFF }
  | .prsMpart _ => { rw := 0x1FFF0FFF }
  | .prsXtr _ _ => { rw := 0xFFFFFFFF }
  | .prsPunt _ => { rw := 0xFFFFFFFF }
  | .prsNomatch => { rw := 0xFFFFFFFF }
  | .prsParsefail => { rw := 0xFFFFFFFF }
  | .prsMeterdrop => { rw := 0xFFFFFFFF }
  | .prsDestdrop => { rw := 0xFFFFFFFF }
  | .prsPuntdrop _ => { rw := 0xFFFFFFFF }
  | .tmsQsel => { rw := 0x00003DFF }
  | .tmsPort _ => { rw := 0x0000003F }
  | .tmsSample => { rw := 0x01FFFF0F }
  | .tmsQcfg _ => { rw := 0x1FF0FFFF, w1c := 0x40000000 }
  | .tmsQshape _ => { rw := 0xFFFFFFFF }
  | .tmsQstat _ => {}
  | .tmsQavg _ => {}
  | .tmsQdrop _ => { rw := 0xFFFFFFFF }
  | .rmaCfg => { rw := 0xFF3FFFFF }
  | .rmaTimers => { rw := 0xFFFFFFFF }
  | .rmaPark => { rw := 0xFFF00000 }
  | .rmaCmd => { rw := 0x1C03FFFF, w1c := 0x20000000 }
  | .rmaCnt _ => { rw := 0xFFFFFFFF }
  | .rmaData _ => { rw := 0xFFFFFFFF }
  | .rmaRbaseLo _ => { rw := 0xFFFFFFFF }
  | .rmaRbaseHi _ => { rw := 0xFFFFFFFF }
  | .rmaRctl _ => { rw := 0xC000000F }
  | .rmaWqpi _ => { rw := 0x0000FFFF }
  | .rmaWqci _ => {}
  | .rmaCqpi _ => {}
  | .rmaCqci _ => { rw := 0x0000FFFF }
  | .stgCmd _ => { rw := 0x78FFFFFF }
  | .stgLbalo _ => { rw := 0xFFFFFFFF }
  | .stgLbahi _ => { rw := 0x0000FFFF }
  | .stgBlks _ => { rw := 0x00001FFF }
  | .stgBuflo _ => { rw := 0xFFFFFFFF }
  | .stgBufhi _ => { rw := 0xFFFFFFFF }
  | .stgBufctl _ => { rw := 0x00000001 }
  | .stgStatus _ => {}
  | .stgDone _ => {}
  | .stgCtl _ => { rw := 0x3000FFFF }
  | .stgCfg => { rw := 0x000003FF }
  | .stgCpend _ => { w1c := 0xFFFFFFFF }
  | .stgXerr => { rw := 0xFFFFFFFF }
  | .stgAbortmiss => { rw := 0xFFFFFFFF }
  | .stgRefused => { rw := 0xFFFFFFFF }
  | .hifLink => {}
  | .hifHb _ => { rw := 0xFFFFFFFF }
  | .hifHbcfg _ => { rw := 0x0000FFFF }
  | .hifHstat _ => {}
  | .hifB2ctl => { rw := 0x80000000 }
  | .hifUrcnt => { rw := 0xFFFFFFFF }
  | .hifMalcnt => { rw := 0xFFFFFFFF }
  | .hifHaerr => { rw := 0xFFFFFFFF }
  | .hifInvcnt => { rw := 0xFFFFFFFF }
  | .hifFeeddrop => { rw := 0xFFFFFFFF }
  | .hifFwinBaselo _ => { rw := 0xFFFFF000 }
  | .hifFwinBasehi _ => { rw := 0xFFFFFFFF }
  | .hifFwinSize _ => { rw := 0x0FFFFFFF }
  | .hifFwinCtl _ => { rw := 0xFE000000 }
  | .secStatus => {}
  | .secEpoch => {}
  | .secLowleft => {}
  | .secAlarm => { w1c := 0x0000001F }
  | .secDbg => {}
  | .secAlarmcnt => { rw := 0xFFFFFFFF }
  | .secDualfail => { rw := 0xFFFFFFFF }
  | .secHuskfail => { rw := 0xFFFFFFFF }
  | .secRelfail => { rw := 0xFFFFFFFF }
  | .secFusew _ => {}
  | .pltCmd => { rw := 0x1C00000F, w1c := 0x20000000 }
  | .pltCfg => { rw := 0x000007FF }
  | .pltPstat _ => {}
  | .pltGen _ => {}
  | .pltTiles _ _ => {}
  | .rstStage => {}
  | .rstGate => { w1c := 0x00000100 }
  | .rstBoot => {}
  | .rstCmd => { rw := 0x03000000, w1c := 0x20000000 }
  | .rstCfg => { rw := 0x03FFFFFF }
  | .rstCause => { w1c := 0x000007FF }
  | .rstIldcnt => { rw := 0xFFFFFFFF }
  | .rstRereset => { rw := 0xFFFFFFFF }
  | .rstSeedseq => {}
  | .rstInrst _ => {}
  | .rstTilefail _ => {}
  | .ckpPstat _ => {}
  | .ckpPend _ => {}
  | .ckpSealed _ => {}
  | .ckpCow _ => { rw := 0xFFFFFFFF }
  | .ckpCowmax _ => { rw := 0xFFFFFFFF }
  | .ckpSteplo _ => {}
  | .ckpStephi _ => {}
  | .ckpCfg => { rw := 0x000007FF }
  | .evrHeadLo => {}
  | .evrHeadHi _ => {}
  | .evrCurLo _ => { rw := 0xFFFFFFFF }
  | .evrCurHi _ => { rw := 0x0000FFFF }
  | .evrIrq _ => { rw := 0x00000003, w1c := 0x80000000 }
  | .evrDropcnt => { rw := 0xFFFFFFFF }
  | .telSnap => { rw := 0x000000FF }
  | .telPstall _ _ => {}
  | .telPslack _ => {}
  | .telPworst _ => {}

/-- Reset value of each register, from its header. -/
def regReset : Reg → Word
  | .hifIdent => 0x5C1AA000
  | .arrTiming _ => 0x0000000A
  | .arrStatus _ => 0x00000000
  | .arrErr _ => 0x00000000
  | .arrErrinfo _ => 0x00000000
  | .arrTemp _ => 0x00000000
  | .arrConvLo _ => 0x00000000
  | .arrConvHi _ => 0x00000000
  | .arrRefskip _ => 0x00000000
  | .arrStretch _ => 0x00000000
  | .arrLdesc _ _ => 0x00000000
  | .arrGrp _ _ => 0x00401010
  | .arrMode _ _ => 0x00000000
  | .arrValid _ _ => 0x00000000
  | .arrSatcnt _ _ => 0x00000000
  | .tilPpda _ _ => 0x00000000
  | .tilPpdb _ _ => 0x00000000
  | .tilSherr _ => 0x00000000
  | .tilSherrinfo _ => 0x00000000
  | .tilAccsat _ => 0x00000000
  | .tilMxnan _ => 0x00000000
  | .tilNosample _ => 0x00000000
  | .tilSeedLo _ => 0x00000000
  | .tilSeedHi _ => 0x00000000
  | .tilScale _ _ => 0x00000000
  | .calCtrl _ => 0x00001000
  | .calGmask _ => 0x00000000
  | .calTrimsel _ => 0x00000000
  | .calTrimdata _ => 0x00004000
  | .calRecalcnt _ => 0x00000000
  | .calStalecnt _ => 0x00000000
  | .calSoftcnt _ => 0x00000000
  | .calGstat _ _ => 0x00000000
  | .calFlag _ _ => 0x00000000
  | .schStatus _ => 0x00000000
  | .schCycle _ => 0x00000000
  | .schLen _ => 0x00000000
  | .schErr _ => 0x00000000
  | .schErrinfo _ => 0x00000000
  | .schSlackcnt _ => 0x00000000
  | .schSlackinfo _ => 0x00000000
  | .schMaxwait _ => 0x00000000
  | .schStall _ _ => 0x00000000
  | .schLstall _ _ => 0x00000000
  | .tilSperr _ => 0x00000000
  | .tilSperrinfo _ => 0x00000000
  | .tilSpcecnt _ => 0x00000000
  | .tilSpapbase _ => 0x00000000
  | .tilRgn _ _ _ => 0x00000000
  | .schPctrl _ => 0x00000000
  | .schPstat _ => 0x00000000
  | .schPstepLo _ => 0x00000000
  | .schPstepHi _ => 0x00000000
  | .schPovrcnt _ => 0x00000000
  | .schPlate _ => 0x00000000
  | .pwrCtrl => 0x064B4694
  | .pwrWake => 0x00050008
  | .pwrCap => 0x00021340
  | .pwrFixed => 0x0000DEA8
  | .pwrStatus => 0x08000000
  | .pwrWarnlog => 0x00000000
  | .pwrRstlog => 0x00000000
  | .pwrDie => 0x00000000
  | .pwrTemp => 0x00000000
  | .pwrAdmit => 0x00000000
  | .pwrWarncnt => 0x00000000
  | .pwrWakedly => 0x00000000
  | .pwrThrcnt => 0x00000000
  | .clkRefstat => 0x00000000
  | .clkRdy _ => 0x00000000
  | .clkFsel => 0x00000000
  | .clkFmeas => 0x00000000
  | .clkLosscnt => 0x00000000
  | .lpxStatus => 0x00000000
  | .lpxTrain => 0x00000000
  | .lpxFreeze => 0x00000000
  | .lpxUecnt => 0x00000000
  | .lpxPatrol => 0x00000018
  | .lpxCecnt _ => 0x00000000
  | .lpxUlog _ => 0x00000000
  | .lpxRgnbase _ => 0x00000000
  | .lpxRgnsize _ => 0x00000000
  | .lpxRgnctl _ => 0x00000000
  | .nvcStatus _ => 0x00000000
  | .nvcWdog _ => 0x00002710
  | .nvcXcnt _ => 0x00000000
  | .nvcCecnt _ => 0x00000000
  | .nvcHaltpc _ => 0x00000000
  | .fwmVer _ => 0x00000000
  | .fwmState _ => 0x00000000
  | .fwmDig _ _ => 0x00000000
  | .fwmUpd => 0x00000000
  | .fwmFeat _ => 0x00000000
  | .fwmHgen _ => 0x00000000
  | .mbxCtrl _ => 0x00000000
  | .mbxTfpi _ => 0x00000000
  | .mbxTfci _ => 0x00000000
  | .mbxFfpi _ => 0x00000000
  | .mbxFfci _ => 0x00000000
  | .netPcfg _ => 0x90000000
  | .netPstat _ => 0x00000000
  | .netCntLo _ _ => 0x00000000
  | .netCntHi _ _ => 0x00000000
  | .netBercfg => 0x01050106
  | .prsCmd => 0x00000000
  | .prsData _ => 0x00000000
  | .prsPart _ => 0x00000000
  | .prsMpart _ => 0x00000000
  | .prsXtr _ _ => 0x00000000
  | .prsPunt r => match r with | 0 => 0x01900400 | 1 => 0x00640100 | 2 => 0x01900400 | _ => 0x00640100
  | .prsNomatch => 0x00000000
  | .prsParsefail => 0x00000000
  | .prsMeterdrop => 0x00000000
  | .prsDestdrop => 0x00000000
  | .prsPuntdrop _ => 0x00000000
  | .tmsQsel => 0x00000000
  | .tmsPort _ => 0x00000014
  | .tmsSample => 0x0003E804
  | .tmsQcfg _ => 0x18000600
  | .tmsQshape _ => 0x00000000
  | .tmsQstat _ => 0x00000000
  | .tmsQavg _ => 0x00000000
  | .tmsQdrop _ => 0x00000000
  | .rmaCfg => 0x10274D46
  | .rmaTimers => 0x01470032
  | .rmaPark => 0x80000000
  | .rmaCmd => 0x00000000
  | .rmaCnt _ => 0x00000000
  | .rmaData _ => 0x00000000
  | .rmaRbaseLo _ => 0x00000000
  | .rmaRbaseHi _ => 0x00000000
  | .rmaRctl _ => 0x00000000
  | .rmaWqpi _ => 0x00000000
  | .rmaWqci _ => 0x00000000
  | .rmaCqpi _ => 0x00000000
  | .rmaCqci _ => 0x00000000
  | .stgCmd _ => 0x00000000
  | .stgLbalo _ => 0x00000000
  | .stgLbahi _ => 0x00000000
  | .stgBlks _ => 0x00000000
  | .stgBuflo _ => 0x00000000
  | .stgBufhi _ => 0x00000000
  | .stgBufctl _ => 0x00000000
  | .stgStatus _ => 0x00000000
  | .stgDone _ => 0x00000000
  | .stgCtl n => if n ≤ 3 then 0x000F0000 else 0x000E0000
  | .stgCfg => 0x00000064
  | .stgCpend _ => 0x00000000
  | .stgXerr => 0x00000000
  | .stgAbortmiss => 0x00000000
  | .stgRefused => 0x00000000
  | .hifLink => 0x00000000
  | .hifHb _ => 0x00000000
  | .hifHbcfg _ => 0x000001F4
  | .hifHstat _ => 0x00000000
  | .hifB2ctl => 0x00000000
  | .hifUrcnt => 0x00000000
  | .hifMalcnt => 0x00000000
  | .hifHaerr => 0x00000000
  | .hifInvcnt => 0x00000000
  | .hifFeeddrop => 0x00000000
  | .hifFwinBaselo _ => 0x00000000
  | .hifFwinBasehi _ => 0x00000000
  | .hifFwinSize _ => 0x00000000
  | .hifFwinCtl _ => 0x00000000
  | .secStatus => 0x00000000
  | .secEpoch => 0x00000000
  | .secLowleft => 0x00000000
  | .secAlarm => 0x00000000
  | .secDbg => 0x00000000
  | .secAlarmcnt => 0x00000000
  | .secDualfail => 0x00000000
  | .secHuskfail => 0x00000000
  | .secRelfail => 0x00000000
  | .secFusew _ => 0x00000000
  | .pltCmd => 0x00000000
  | .pltCfg => 0x000000C8
  | .pltPstat _ => 0x00000000
  | .pltGen _ => 0x00000000
  | .pltTiles _ _ => 0x00000000
  | .rstStage => 0x00000000
  | .rstGate => 0x00000000
  | .rstBoot => 0x00000000
  | .rstCmd => 0x00000000
  | .rstCfg => 0x006403E8
  | .rstCause => 0x00000001
  | .rstIldcnt => 0x00000000
  | .rstRereset => 0x00000000
  | .rstSeedseq => 0x00000000
  | .rstInrst w => if w = 0 then 0xFFFFFF3F else if w = 1 then 0x000000FF else 0xFFFFFFFF
  | .rstTilefail _ => 0x00000000
  | .ckpPstat _ => 0x00000000
  | .ckpPend _ => 0x00000000
  | .ckpSealed _ => 0x00000000
  | .ckpCow _ => 0x00000000
  | .ckpCowmax _ => 0x00000000
  | .ckpSteplo _ => 0x00000000
  | .ckpStephi _ => 0x00000000
  | .ckpCfg => 0x00000064
  | .evrHeadLo => 0x00000001
  | .evrHeadHi _ => 0x00000000
  | .evrCurLo _ => 0x00000000
  | .evrCurHi _ => 0x00000000
  | .evrIrq _ => 0x00000002
  | .evrDropcnt => 0x00000000
  | .telSnap => 0x00000000
  | .telPstall _ _ => 0x00000000
  | .telPslack _ => 0x00000000
  | .telPworst _ => 0x00000000

/-- The island that holds each register, by its index in Table PWR-1 (R255, R286, R311, R353, and the like rules of the other maps): 0 the headland, 3 the
fabric, 4 the packet engine, 5 PCIe, 64 + t tile t.  No rule names an island for the per-plot SCH registers: they stand with the headland (log entry 41). -/
def regIsland : Reg → Nat
  | .hifIdent => 5
  | .arrTiming t => 64 + t
  | .arrStatus t => 64 + t
  | .arrErr t => 64 + t
  | .arrErrinfo t => 64 + t
  | .arrTemp t => 64 + t
  | .arrConvLo t => 64 + t
  | .arrConvHi t => 64 + t
  | .arrRefskip t => 64 + t
  | .arrStretch t => 64 + t
  | .arrLdesc t _ => 64 + t
  | .arrGrp t _ => 64 + t
  | .arrMode t _ => 64 + t
  | .arrValid t _ => 64 + t
  | .arrSatcnt t _ => 64 + t
  | .tilPpda t _ => 64 + t
  | .tilPpdb t _ => 64 + t
  | .tilSherr t => 64 + t
  | .tilSherrinfo t => 64 + t
  | .tilAccsat t => 64 + t
  | .tilMxnan t => 64 + t
  | .tilNosample t => 64 + t
  | .tilSeedLo t => 64 + t
  | .tilSeedHi t => 64 + t
  | .tilScale t _ => 64 + t
  | .calCtrl t => 64 + t
  | .calGmask t => 64 + t
  | .calTrimsel t => 64 + t
  | .calTrimdata t => 64 + t
  | .calRecalcnt t => 64 + t
  | .calStalecnt t => 64 + t
  | .calSoftcnt t => 64 + t
  | .calGstat t _ => 64 + t
  | .calFlag t _ => 64 + t
  | .schStatus t => 64 + t
  | .schCycle t => 64 + t
  | .schLen t => 64 + t
  | .schErr t => 64 + t
  | .schErrinfo t => 64 + t
  | .schSlackcnt t => 64 + t
  | .schSlackinfo t => 64 + t
  | .schMaxwait t => 64 + t
  | .schStall t _ => 64 + t
  | .schLstall t _ => 64 + t
  | .tilSperr t => 64 + t
  | .tilSperrinfo t => 64 + t
  | .tilSpcecnt t => 64 + t
  | .tilSpapbase t => 64 + t
  | .tilRgn t _ _ => 64 + t
  | .schPctrl _ => 0
  | .schPstat _ => 0
  | .schPstepLo _ => 0
  | .schPstepHi _ => 0
  | .schPovrcnt _ => 0
  | .schPlate _ => 0
  | .pwrCtrl => 0
  | .pwrWake => 0
  | .pwrCap => 0
  | .pwrFixed => 0
  | .pwrStatus => 0
  | .pwrWarnlog => 0
  | .pwrRstlog => 0
  | .pwrDie => 0
  | .pwrTemp => 0
  | .pwrAdmit => 0
  | .pwrWarncnt => 0
  | .pwrWakedly => 0
  | .pwrThrcnt => 0
  | .clkRefstat => 0
  | .clkRdy _ => 0
  | .clkFsel => 0
  | .clkFmeas => 0
  | .clkLosscnt => 0
  | .lpxStatus => 3
  | .lpxTrain => 3
  | .lpxFreeze => 3
  | .lpxUecnt => 3
  | .lpxPatrol => 3
  | .lpxCecnt _ => 3
  | .lpxUlog _ => 3
  | .lpxRgnbase _ => 3
  | .lpxRgnsize _ => 3
  | .lpxRgnctl _ => 3
  | .nvcStatus _ => 0
  | .nvcWdog _ => 0
  | .nvcXcnt _ => 0
  | .nvcCecnt _ => 0
  | .nvcHaltpc _ => 0
  | .fwmVer _ => 0
  | .fwmState _ => 0
  | .fwmDig _ _ => 0
  | .fwmUpd => 0
  | .fwmFeat _ => 0
  | .fwmHgen _ => 0
  | .mbxCtrl _ => 5
  | .mbxTfpi _ => 5
  | .mbxTfci _ => 5
  | .mbxFfpi _ => 5
  | .mbxFfci _ => 5
  | .netPcfg _ => 4
  | .netPstat _ => 4
  | .netCntLo _ _ => 4
  | .netCntHi _ _ => 4
  | .netBercfg => 4
  | .prsCmd => 4
  | .prsData _ => 4
  | .prsPart _ => 4
  | .prsMpart _ => 4
  | .prsXtr _ _ => 4
  | .prsPunt _ => 4
  | .prsNomatch => 4
  | .prsParsefail => 4
  | .prsMeterdrop => 4
  | .prsDestdrop => 4
  | .prsPuntdrop _ => 4
  | .tmsQsel => 4
  | .tmsPort _ => 4
  | .tmsSample => 4
  | .tmsQcfg _ => 4
  | .tmsQshape _ => 4
  | .tmsQstat _ => 4
  | .tmsQavg _ => 4
  | .tmsQdrop _ => 4
  | .rmaCfg => 4
  | .rmaTimers => 4
  | .rmaPark => 4
  | .rmaCmd => 4
  | .rmaCnt _ => 4
  | .rmaData _ => 4
  | .rmaRbaseLo _ => 4
  | .rmaRbaseHi _ => 4
  | .rmaRctl _ => 4
  | .rmaWqpi _ => 4
  | .rmaWqci _ => 4
  | .rmaCqpi _ => 4
  | .rmaCqci _ => 4
  | .stgCmd _ => 4
  | .stgLbalo _ => 4
  | .stgLbahi _ => 4
  | .stgBlks _ => 4
  | .stgBuflo _ => 4
  | .stgBufhi _ => 4
  | .stgBufctl _ => 4
  | .stgStatus _ => 4
  | .stgDone _ => 4
  | .stgCtl _ => 4
  | .stgCfg => 4
  | .stgCpend _ => 4
  | .stgXerr => 4
  | .stgAbortmiss => 4
  | .stgRefused => 4
  | .hifLink => 5
  | .hifHb _ => 5
  | .hifHbcfg _ => 5
  | .hifHstat _ => 5
  | .hifB2ctl => 5
  | .hifUrcnt => 5
  | .hifMalcnt => 5
  | .hifHaerr => 5
  | .hifInvcnt => 5
  | .hifFeeddrop => 5
  | .hifFwinBaselo _ => 5
  | .hifFwinBasehi _ => 5
  | .hifFwinSize _ => 5
  | .hifFwinCtl _ => 5
  | .secStatus => 0
  | .secEpoch => 0
  | .secLowleft => 0
  | .secAlarm => 0
  | .secDbg => 0
  | .secAlarmcnt => 0
  | .secDualfail => 0
  | .secHuskfail => 0
  | .secRelfail => 0
  | .secFusew _ => 0
  | .pltCmd => 0
  | .pltCfg => 0
  | .pltPstat _ => 0
  | .pltGen _ => 0
  | .pltTiles _ _ => 0
  | .rstStage => 0
  | .rstGate => 0
  | .rstBoot => 0
  | .rstCmd => 0
  | .rstCfg => 0
  | .rstCause => 0
  | .rstIldcnt => 0
  | .rstRereset => 0
  | .rstSeedseq => 0
  | .rstInrst _ => 0
  | .rstTilefail _ => 0
  | .ckpPstat _ => 3
  | .ckpPend _ => 3
  | .ckpSealed _ => 3
  | .ckpCow _ => 3
  | .ckpCowmax _ => 3
  | .ckpSteplo _ => 3
  | .ckpStephi _ => 3
  | .ckpCfg => 3
  | .evrHeadLo => 0
  | .evrHeadHi _ => 0
  | .evrCurLo _ => 0
  | .evrCurHi _ => 0
  | .evrIrq _ => 0
  | .evrDropcnt => 0
  | .telSnap => 0
  | .telPstall _ _ => 0
  | .telPslack _ => 0
  | .telPworst _ => 0

end Sys2Proof.Machine
end

