-- ==== Sys2Proof/Machine/RegMap.lean ====
section
/-! DEFINITION. Where the registers lie (R11, R17, R205, R206): the rows of the spec's register maps, and the register at an offset. -/
set_option Elab.async false
namespace Sys2Proof.Machine

/-- One row of a register map: a base offset, the (stride, count) of each index in turn, and the register those indices name. -/
structure RegRow where
  base : Nat
  dims : List (Nat × Nat)
  reg  : List Nat → Option Reg

/-- The indices that an offset beyond a row's base spells, where it falls on one of the row's registers. -/
def regIndices : Nat → List (Nat × Nat) → Option (List Nat)
  | rem, [] => if rem = 0 then some [] else none
  | rem, (stride, count) :: rest =>
    if rem / stride < count then (regIndices (rem % stride) rest).map (fun l => rem / stride :: l) else none

/-- The register of a row at an offset of the row's space. -/
def RegRow.at (row : RegRow) (off : Nat) : Option Reg :=
  if row.base ≤ off then (regIndices (off - row.base) row.dims).bind row.reg else none

/-- The registers of one TIL window, by offset within it (Table MEM-10a). (part 0) -/
def tilRows0 (t : Nat) : List RegRow := [
  ⟨0x4000, [], fun _ => some (.arrTiming t)⟩,
  ⟨0x4004, [], fun _ => some (.arrStatus t)⟩,
  ⟨0x4008, [], fun _ => some (.arrErr t)⟩,
  ⟨0x400C, [], fun _ => some (.arrErrinfo t)⟩,
  ⟨0x4010, [], fun _ => some (.arrTemp t)⟩,
  ⟨0x4014, [], fun _ => some (.arrConvLo t)⟩,
  ⟨0x4018, [], fun _ => some (.arrConvHi t)⟩,
  ⟨0x401C, [], fun _ => some (.arrRefskip t)⟩,
  ⟨0x4020, [], fun _ => some (.arrStretch t)⟩,
  ⟨0x4100, [(4, 64)], fun | [k] => some (.arrLdesc t k) | _ => none⟩,
  ⟨0x4200, [(4, 32)], fun | [g] => some (.arrGrp t g) | _ => none⟩,
  ⟨0x4280, [(4, 32)], fun | [g] => some (.arrMode t g) | _ => none⟩,
  ⟨0x4300, [(4, 32)], fun | [g] => some (.arrValid t g) | _ => none⟩,
  ⟨0x4380, [(4, 32)], fun | [g] => some (.arrSatcnt t g) | _ => none⟩,
  ⟨0x5000, [(8, 64)], fun | [k] => some (.tilPpda t k) | _ => none⟩,
  ⟨0x5004, [(8, 64)], fun | [k] => some (.tilPpdb t k) | _ => none⟩,
  ⟨0x5200, [], fun _ => some (.tilSherr t)⟩,
  ⟨0x5204, [], fun _ => some (.tilSherrinfo t)⟩,
  ⟨0x5208, [], fun _ => some (.tilAccsat t)⟩,
  ⟨0x520C, [], fun _ => some (.tilMxnan t)⟩,
  ⟨0x5210, [], fun _ => some (.tilNosample t)⟩,
  ⟨0x5214, [], fun _ => some (.tilSeedLo t)⟩,
  ⟨0x5218, [], fun _ => some (.tilSeedHi t)⟩,
  ⟨0x8000, [(4, 4096)], fun | [i] => some (.tilScale t i) | _ => none⟩,
  ⟨0x6000, [], fun _ => some (.calCtrl t)⟩]

/-- The registers of one TIL window, by offset within it (Table MEM-10a). (part 1) -/
def tilRows1 (t : Nat) : List RegRow := [
  ⟨0x6004, [], fun _ => some (.calGmask t)⟩,
  ⟨0x6010, [], fun _ => some (.calTrimsel t)⟩,
  ⟨0x6014, [], fun _ => some (.calTrimdata t)⟩,
  ⟨0x6020, [], fun _ => some (.calRecalcnt t)⟩,
  ⟨0x6024, [], fun _ => some (.calStalecnt t)⟩,
  ⟨0x6028, [], fun _ => some (.calSoftcnt t)⟩,
  ⟨0x6100, [(4, 32)], fun | [g] => some (.calGstat t g) | _ => none⟩,
  ⟨0x6180, [(4, 32)], fun | [g] => some (.calFlag t g) | _ => none⟩,
  ⟨0x7000, [], fun _ => some (.schStatus t)⟩,
  ⟨0x7004, [], fun _ => some (.schCycle t)⟩,
  ⟨0x7008, [], fun _ => some (.schLen t)⟩,
  ⟨0x700C, [], fun _ => some (.schErr t)⟩,
  ⟨0x7010, [], fun _ => some (.schErrinfo t)⟩,
  ⟨0x7014, [], fun _ => some (.schSlackcnt t)⟩,
  ⟨0x7018, [], fun _ => some (.schSlackinfo t)⟩,
  ⟨0x701C, [], fun _ => some (.schMaxwait t)⟩,
  ⟨0x7020, [(4, 5)], fun | [i] => some (.schStall t i) | _ => none⟩,
  ⟨0x7040, [(4, 5)], fun | [i] => some (.schLstall t i) | _ => none⟩,
  ⟨0x3000, [], fun _ => some (.tilSperr t)⟩,
  ⟨0x3004, [], fun _ => some (.tilSperrinfo t)⟩,
  ⟨0x3008, [], fun _ => some (.tilSpcecnt t)⟩,
  ⟨0x300C, [], fun _ => some (.tilSpapbase t)⟩,
  ⟨0x3100, [(64, 5), (4, 16)], fun | [m, r] => some (.tilRgn t m r) | _ => none⟩]

/-- The registers of one TIL window, by offset within it (Table MEM-10a). -/
def tilRows (t : Nat) : List RegRow :=
  tilRows0 t ++ tilRows1 t

/-- The registers of PF BAR0 outside the TIL windows (Table MEM-9). (part 0) -/
def pfRows0 : List RegRow := [
  ⟨0x0, [], fun _ => some .hifIdent⟩,
  ⟨0x1800000, [(256, 12)], fun | [p] => some (.schPctrl p) | _ => none⟩,
  ⟨0x1800004, [(256, 12)], fun | [p] => some (.schPstat p) | _ => none⟩,
  ⟨0x1800008, [(256, 12)], fun | [p] => some (.schPstepLo p) | _ => none⟩,
  ⟨0x180000C, [(256, 12)], fun | [p] => some (.schPstepHi p) | _ => none⟩,
  ⟨0x1800010, [(256, 12)], fun | [p] => some (.schPovrcnt p) | _ => none⟩,
  ⟨0x1800014, [(256, 12)], fun | [p] => some (.schPlate p) | _ => none⟩,
  ⟨0x101000, [], fun _ => some .pwrCtrl⟩,
  ⟨0x101004, [], fun _ => some .pwrWake⟩,
  ⟨0x101008, [], fun _ => some .pwrCap⟩,
  ⟨0x10100C, [], fun _ => some .pwrFixed⟩,
  ⟨0x101010, [], fun _ => some .pwrStatus⟩,
  ⟨0x101014, [], fun _ => some .pwrWarnlog⟩,
  ⟨0x101018, [], fun _ => some .pwrRstlog⟩,
  ⟨0x10101C, [], fun _ => some .pwrDie⟩,
  ⟨0x101020, [], fun _ => some .pwrTemp⟩,
  ⟨0x101024, [], fun _ => some .pwrAdmit⟩,
  ⟨0x101028, [], fun _ => some .pwrWarncnt⟩,
  ⟨0x10102C, [], fun _ => some .pwrWakedly⟩,
  ⟨0x101030, [], fun _ => some .pwrThrcnt⟩,
  ⟨0x102000, [], fun _ => some .clkRefstat⟩,
  ⟨0x102010, [(4, 6)], fun | [w] => some (.clkRdy w) | _ => none⟩,
  ⟨0x102030, [], fun _ => some .clkFsel⟩,
  ⟨0x102034, [], fun _ => some .clkFmeas⟩,
  ⟨0x102038, [], fun _ => some .clkLosscnt⟩]

/-- The registers of PF BAR0 outside the TIL windows (Table MEM-9). (part 1) -/
def pfRows1 : List RegRow := [
  ⟨0xC00000, [], fun _ => some .lpxStatus⟩,
  ⟨0xC00004, [], fun _ => some .lpxTrain⟩,
  ⟨0xC00008, [], fun _ => some .lpxFreeze⟩,
  ⟨0xC0000C, [], fun _ => some .lpxUecnt⟩,
  ⟨0xC00010, [], fun _ => some .lpxPatrol⟩,
  ⟨0xC00040, [(4, 16)], fun | [c] => some (.lpxCecnt c) | _ => none⟩,
  ⟨0xC00100, [(4, 64)], fun | [n] => some (.lpxUlog n) | _ => none⟩,
  ⟨0xC00200, [(16, 32)], fun | [n] => some (.lpxRgnbase n) | _ => none⟩,
  ⟨0xC00204, [(16, 32)], fun | [n] => some (.lpxRgnsize n) | _ => none⟩,
  ⟨0xC00208, [(16, 32)], fun | [n] => some (.lpxRgnctl n) | _ => none⟩,
  ⟨0x480000, [(64, 24)], fun | [c] => some (.nvcStatus c) | _ => none⟩,
  ⟨0x480004, [(64, 24)], fun | [c] => some (.nvcWdog c) | _ => none⟩,
  ⟨0x480008, [(64, 24)], fun | [c] => some (.nvcXcnt c) | _ => none⟩,
  ⟨0x48000C, [(64, 24)], fun | [c] => some (.nvcCecnt c) | _ => none⟩,
  ⟨0x480010, [(64, 24)], fun | [c] => some (.nvcHaltpc c) | _ => none⟩,
  ⟨0x400000, [(64, 6)], fun | [n] => some (.fwmVer n) | _ => none⟩,
  ⟨0x400004, [(64, 6)], fun | [n] => some (.fwmState n) | _ => none⟩,
  ⟨0x400010, [(64, 6), (4, 8)], fun | [n, k] => some (.fwmDig n k) | _ => none⟩,
  ⟨0x400200, [], fun _ => some .fwmUpd⟩,
  ⟨0x400220, [(4, 8)], fun | [k] => some (.fwmFeat k) | _ => none⟩,
  ⟨0x400300, [(4, 14)], fun | [f] => some (.fwmHgen f) | _ => none⟩,
  ⟨0x800000, [(512, 16)], fun | [p] => some (.netPcfg p) | _ => none⟩,
  ⟨0x800004, [(512, 16)], fun | [p] => some (.netPstat p) | _ => none⟩,
  ⟨0x800040, [(512, 16), (8, 11)], fun | [p, i] => some (.netCntLo p i) | _ => none⟩,
  ⟨0x800044, [(512, 16), (8, 11)], fun | [p, i] => some (.netCntHi p i) | _ => none⟩]

/-- The registers of PF BAR0 outside the TIL windows (Table MEM-9). (part 2) -/
def pfRows2 : List RegRow := [
  ⟨0x804000, [], fun _ => some .netBercfg⟩,
  ⟨0x900000, [], fun _ => some .prsCmd⟩,
  ⟨0x900100, [(4, 42)], fun | [k] => some (.prsData k) | _ => none⟩,
  ⟨0x900200, [(4, 13)], fun | [q] => some (.prsPart q) | _ => none⟩,
  ⟨0x900240, [(4, 13)], fun | [q] => some (.prsMpart q) | _ => none⟩,
  ⟨0x900400, [(16, 16), (4, 4)], fun | [p, k] => some (.prsXtr p k) | _ => none⟩,
  ⟨0x900600, [(4, 4)], fun | [r] => some (.prsPunt r) | _ => none⟩,
  ⟨0x900700, [], fun _ => some .prsNomatch⟩,
  ⟨0x900704, [], fun _ => some .prsParsefail⟩,
  ⟨0x900708, [], fun _ => some .prsMeterdrop⟩,
  ⟨0x90070C, [], fun _ => some .prsDestdrop⟩,
  ⟨0x900710, [(4, 4)], fun | [r] => some (.prsPuntdrop r) | _ => none⟩,
  ⟨0xA00000, [], fun _ => some .tmsQsel⟩,
  ⟨0xA00100, [(4, 16)], fun | [p] => some (.tmsPort p) | _ => none⟩,
  ⟨0xA00200, [], fun _ => some .tmsSample⟩,
  ⟨0x600000, [], fun _ => some .rmaCfg⟩,
  ⟨0x600004, [], fun _ => some .rmaTimers⟩,
  ⟨0x600008, [], fun _ => some .rmaPark⟩,
  ⟨0x60000C, [], fun _ => some .rmaCmd⟩,
  ⟨0x600040, [(4, 9)], fun | [i] => some (.rmaCnt i) | _ => none⟩,
  ⟨0x600100, [(4, 64)], fun | [k] => some (.rmaData k) | _ => none⟩,
  ⟨0x601000, [(64, 12)], fun | [p] => some (.rmaRbaseLo p) | _ => none⟩,
  ⟨0x601004, [(64, 12)], fun | [p] => some (.rmaRbaseHi p) | _ => none⟩,
  ⟨0x601008, [(64, 12)], fun | [p] => some (.rmaRctl p) | _ => none⟩,
  ⟨0x60100C, [(64, 12)], fun | [p] => some (.rmaWqpi p) | _ => none⟩]

/-- The registers of PF BAR0 outside the TIL windows (Table MEM-9). (part 3) -/
def pfRows3 : List RegRow := [
  ⟨0x601010, [(64, 12)], fun | [p] => some (.rmaWqci p) | _ => none⟩,
  ⟨0x601014, [(64, 12)], fun | [p] => some (.rmaCqpi p) | _ => none⟩,
  ⟨0x601018, [(64, 12)], fun | [p] => some (.rmaCqci p) | _ => none⟩,
  ⟨0x500000, [(64, 64)], fun | [n] => some (.stgCmd n) | _ => none⟩,
  ⟨0x500004, [(64, 64)], fun | [n] => some (.stgLbalo n) | _ => none⟩,
  ⟨0x500008, [(64, 64)], fun | [n] => some (.stgLbahi n) | _ => none⟩,
  ⟨0x50000C, [(64, 64)], fun | [n] => some (.stgBlks n) | _ => none⟩,
  ⟨0x500010, [(64, 64)], fun | [n] => some (.stgBuflo n) | _ => none⟩,
  ⟨0x500014, [(64, 64)], fun | [n] => some (.stgBufhi n) | _ => none⟩,
  ⟨0x500018, [(64, 64)], fun | [n] => some (.stgBufctl n) | _ => none⟩,
  ⟨0x50001C, [(64, 64)], fun | [n] => some (.stgStatus n) | _ => none⟩,
  ⟨0x500020, [(64, 64)], fun | [n] => some (.stgDone n) | _ => none⟩,
  ⟨0x500024, [(64, 64)], fun | [n] => some (.stgCtl n) | _ => none⟩,
  ⟨0x502000, [], fun _ => some .stgCfg⟩,
  ⟨0x502010, [(4, 2)], fun | [h] => some (.stgCpend h) | _ => none⟩,
  ⟨0x502040, [], fun _ => some .stgXerr⟩,
  ⟨0x502044, [], fun _ => some .stgAbortmiss⟩,
  ⟨0x502048, [], fun _ => some .stgRefused⟩,
  ⟨0x4, [], fun _ => some .hifLink⟩,
  ⟨0x14, [], fun _ => some .hifB2ctl⟩,
  ⟨0x20, [], fun _ => some .hifUrcnt⟩,
  ⟨0x24, [], fun _ => some .hifMalcnt⟩,
  ⟨0x28, [], fun _ => some .hifHaerr⟩,
  ⟨0x2C, [], fun _ => some .hifInvcnt⟩,
  ⟨0x30, [], fun _ => some .hifFeeddrop⟩]

/-- The registers of PF BAR0 outside the TIL windows (Table MEM-9). (part 4) -/
def pfRows4 : List RegRow := [
  ⟨0x100, [(16, 8)], fun | [k] => some (.hifFwinBaselo k) | _ => none⟩,
  ⟨0x104, [(16, 8)], fun | [k] => some (.hifFwinBasehi k) | _ => none⟩,
  ⟨0x108, [(16, 8)], fun | [k] => some (.hifFwinSize k) | _ => none⟩,
  ⟨0x10C, [(16, 8)], fun | [k] => some (.hifFwinCtl k) | _ => none⟩,
  ⟨0x200000, [], fun _ => some .secStatus⟩,
  ⟨0x200004, [], fun _ => some .secEpoch⟩,
  ⟨0x200008, [], fun _ => some .secLowleft⟩,
  ⟨0x20000C, [], fun _ => some .secAlarm⟩,
  ⟨0x200010, [], fun _ => some .secDbg⟩,
  ⟨0x200020, [], fun _ => some .secAlarmcnt⟩,
  ⟨0x200024, [], fun _ => some .secDualfail⟩,
  ⟨0x200028, [], fun _ => some .secHuskfail⟩,
  ⟨0x20002C, [], fun _ => some .secRelfail⟩,
  ⟨0x200400, [(4, 256)], fun | [k] => some (.secFusew k) | _ => none⟩,
  ⟨0x1000000, [], fun _ => some .pltCmd⟩,
  ⟨0x1000004, [], fun _ => some .pltCfg⟩,
  ⟨0x1000100, [(32, 12)], fun | [p] => some (.pltPstat p) | _ => none⟩,
  ⟨0x1000104, [(32, 12)], fun | [p] => some (.pltGen p) | _ => none⟩,
  ⟨0x1000110, [(32, 12), (4, 4)], fun | [p, k] => some (.pltTiles p k) | _ => none⟩,
  ⟨0x100000, [], fun _ => some .rstStage⟩,
  ⟨0x100004, [], fun _ => some .rstGate⟩,
  ⟨0x100008, [], fun _ => some .rstBoot⟩,
  ⟨0x10000C, [], fun _ => some .rstCmd⟩,
  ⟨0x100010, [], fun _ => some .rstCfg⟩,
  ⟨0x100014, [], fun _ => some .rstCause⟩]

/-- The registers of PF BAR0 outside the TIL windows (Table MEM-9). (part 5) -/
def pfRows5 : List RegRow := [
  ⟨0x100018, [], fun _ => some .rstIldcnt⟩,
  ⟨0x10001C, [], fun _ => some .rstRereset⟩,
  ⟨0x100020, [], fun _ => some .rstSeedseq⟩,
  ⟨0x100040, [(4, 6)], fun | [w] => some (.rstInrst w) | _ => none⟩,
  ⟨0x100060, [(4, 4)], fun | [k] => some (.rstTilefail k) | _ => none⟩,
  ⟨0x3000000, [(64, 12)], fun | [p] => some (.ckpPstat p) | _ => none⟩,
  ⟨0x3000004, [(64, 12)], fun | [p] => some (.ckpPend p) | _ => none⟩,
  ⟨0x3000008, [(64, 12)], fun | [p] => some (.ckpSealed p) | _ => none⟩,
  ⟨0x300000C, [(64, 12)], fun | [p] => some (.ckpCow p) | _ => none⟩,
  ⟨0x3000010, [(64, 12)], fun | [p] => some (.ckpCowmax p) | _ => none⟩,
  ⟨0x3000014, [(64, 12)], fun | [p] => some (.ckpSteplo p) | _ => none⟩,
  ⟨0x3000018, [(64, 12)], fun | [p] => some (.ckpStephi p) | _ => none⟩,
  ⟨0x3001000, [], fun _ => some .ckpCfg⟩,
  ⟨0x300000, [], fun _ => some .evrHeadLo⟩,
  ⟨0x300014, [], fun _ => some .evrDropcnt⟩,
  ⟨0x301000, [], fun _ => some .telSnap⟩,
  ⟨0x301100, [(32, 12), (4, 5)], fun | [p, i] => some (.telPstall p i) | _ => none⟩,
  ⟨0x301114, [(32, 12)], fun | [p] => some (.telPslack p) | _ => none⟩,
  ⟨0x301118, [(32, 12)], fun | [p] => some (.telPworst p) | _ => none⟩]

/-- The registers of PF BAR0 outside the TIL windows (Table MEM-9). -/
def pfRows : List RegRow :=
  pfRows0 ++ pfRows1 ++ pfRows2 ++ pfRows3 ++ pfRows4 ++ pfRows5

/-- The function-private HIF registers, by offset (Table HIF-13). -/
def hifRows (f : Nat) : List RegRow := [
  ⟨0x8, [], fun _ => some (.hifHb f)⟩,
  ⟨0xC, [], fun _ => some (.hifHbcfg f)⟩,
  ⟨0x10, [], fun _ => some (.hifHstat f)⟩]

/-- The per-reader event registers, by offset from the EVR block (Table EVR-3). -/
def evrRows (e : Nat) : List RegRow := [
  ⟨0x4, [], fun _ => some (.evrHeadHi e)⟩,
  ⟨0x8, [], fun _ => some (.evrCurLo e)⟩,
  ⟨0xC, [], fun _ => some (.evrCurHi e)⟩,
  ⟨0x10, [], fun _ => some (.evrIrq e)⟩]

/-- The mailbox registers, by offset within a mailbox (R255). -/
def mbxRows (o : Nat) : List RegRow := [
  ⟨0x0, [], fun _ => some (.mbxCtrl o)⟩,
  ⟨0x4, [], fun _ => some (.mbxTfpi o)⟩,
  ⟨0x8, [], fun _ => some (.mbxTfci o)⟩,
  ⟨0xC, [], fun _ => some (.mbxFfpi o)⟩,
  ⟨0x10, [], fun _ => some (.mbxFfci o)⟩]

/-- The first row that holds a register at the offset. -/
def findReg : List RegRow → Nat → Option Reg
  | [], _ => none
  | row :: rest, off => match row.at off with
    | some r => some r
    | none => findReg rest off

end Sys2Proof.Machine
end

