-- ==== Sys2Proof/Machine/Map.lean ====
section
/-! DEFINITION. Sparse maps from numbers to values, held as lists of pairs in one canonical form: keys strictly rising and,
for a map with a default, no entry equal to what an unlisted key reads as.  Equal maps are equal lists. -/
set_option Elab.async false
namespace Sys2Proof.Machine

/-- The value listed at a key. -/
def mapFind {α : Type} : List (Nat × α) → Nat → Option α
  | [], _ => none
  | (k, v) :: rest, i => if k = i then some v else mapFind rest i

/-- The map with no entry at the key. -/
def mapErase {α : Type} : List (Nat × α) → Nat → List (Nat × α)
  | [], _ => []
  | (k, v) :: rest, i => if k = i then mapErase rest i else (k, v) :: mapErase rest i

/-- The map with one entry at the key, in key order. -/
def mapInsert {α : Type} : List (Nat × α) → Nat → α → List (Nat × α)
  | [], i, v => [(i, v)]
  | (k, w) :: rest, i, v =>
    if i < k then (i, v) :: (k, w) :: rest
    else if i = k then (i, v) :: rest
    else (k, w) :: mapInsert rest i v

/-- What the map reads as at a key, where an unlisted key reads as `d`. -/
def mapGet {α : Type} (d : α) (m : List (Nat × α)) (i : Nat) : α := (mapFind m i).getD d

/-- The map with the key set; setting the default removes the entry. -/
def mapSet {α : Type} [DecidableEq α] (d : α) (m : List (Nat × α)) (i : Nat) (v : α) : List (Nat × α) :=
  if v = d then mapErase m i else mapInsert m i v

/-- The canonical form: keys strictly rising from above `lo`. -/
def mapRising {α : Type} : List (Nat × α) → Bool
  | [] => true
  | [_] => true
  | (k, _) :: (j, w) :: rest => decide (k < j) && mapRising ((j, w) :: rest)

/-- Replace the element at a position of a list; beyond the end nothing changes. -/
def listSet {α : Type} : List α → Nat → α → List α
  | [], _, _ => []
  | _ :: rest, 0, v => v :: rest
  | x :: rest, i + 1, v => x :: listSet rest i v

end Sys2Proof.Machine
end

