-- ==== Sys2Proof/Machine/StateCore.lean ====
section
/-! DEFINITION. The state of one Novdy core beyond its NVC registers (R211, R215, R216). -/
set_option Elab.async false
namespace Sys2Proof.Machine

/-- One pointer register (R215). -/
structure Pointer where
  pa : Word := 0
  pm : Word := 0
  pb : Word := 0
  pl : Word := 0
  mode : Nat := 0
  deriving DecidableEq, Repr

/-- A return-stack entry (Table NVC-6). -/
structure RsEntry where
  handler : Bool
  rep : Bool
  repi : Bool
  count : Nat
  lvl : Nat
  ie : Bool
  /-- N, Z, C, V as bits 3 to 0. -/
  flags : Nat
  pcw : Nat
  deriving DecidableEq, Repr

/-- The state of one Novdy core. -/
structure CoreState where
  /-- w0 to w15; unlisted 0. -/
  w : List (Nat × Word) := []
  /-- p0 to p7. -/
  ptr : List (Nat × Pointer) := []
  pc : Word := 0
  /-- STATUS flags (Table NVC-4). -/
  n : Bool := false
  z : Bool := false
  c : Bool := false
  v : Bool := false
  ie : Bool := false
  /-- LVL: 32 when no handler is active. -/
  lvl : Nat := 32
  /-- A repeat is in progress (REPON), its kind (true REPI) and the repeats still to run (RPTCNT). -/
  rep : Bool := false
  repi : Bool := false
  rptcnt : Nat := 0
  dsp : Word := 0
  dslim : Word := 0
  dstop : Word := 0
  rshi : Nat := 28
  rsbase : Word := 0
  rslen : Nat := 0
  rsspill : Nat := 0
  xcause : Nat := 0
  xaddr : Word := 0
  vbase : Word := 0
  imask : Word := 0
  /-- Pending interrupt vectors, bit v for vector v (R226). -/
  pend : Word := 0
  /-- CYCLO and CYCHI: the count, and the high word as latched. -/
  cyc : DWord := 0
  cychi : Word := 0
  fabbase : Nat := 0
  /-- The return stack, newest entry first (R220). -/
  rs : List RsEntry := []
  /-- Vectors of the active handlers, newest first (R221). -/
  handlers : List Nat := []
  /-- Instruction SRAM, data SRAM and mailbox range, by offset; unlisted bytes 0. -/
  imem : List (Nat × Byte) := []
  dmem : List (Nat × Byte) := []
  mbox : List (Nat × Byte) := []
  /-- MPUSk and MPUEk. -/
  mpu : List (Nat × (Word × Word)) := []
  /-- Decode table and microcode RAM (R231). -/
  decode : List (Nat × Word) := []
  micro : List (Nat × DWord) := []
  /-- Half the watchdog period has passed without a kick (R235). -/
  wdogHalf : Bool := false
  /-- Entry address of the component last loaded. -/
  entry : Nat := 0
  deriving DecidableEq, Repr

end Sys2Proof.Machine
end

