-- ==== Sys2Proof/Machine/StateFw.lean ====
section
/-! DEFINITION. The state of the mailboxes, of the firmware components and of image distribution (R239 to R257). -/
set_option Elab.async false
namespace Sys2Proof.Machine

/-- A request of a to-firmware ring that is not answered: its TYPE and SEQ, whether firmware has taken it, and its PLOT byte. -/
structure Request where
  type : Nat
  seq : Word
  taken : Bool
  plot : Nat
  deriving DecidableEq, Repr

/-- A message of a from-firmware ring (Table FWM-4): TYPE, SEQ, UNSOL, STATUS code and detail, VERSION, PLOT and payload. -/
structure Response where
  type : Nat
  seq : Word
  unsol : Bool
  status : Nat
  detail : Nat
  version : Nat
  plot : Nat
  payload : List Byte
  deriving DecidableEq, Repr

/-- One mailbox (R243, R244). -/
structure MailboxState where
  /-- Requests of the to-firmware ring not yet answered, oldest first. -/
  requests : List Request := []
  /-- Messages posted and not yet read, oldest first. -/
  posted : List Response := []
  /-- Responses held while the from-firmware ring is full. -/
  held : List Response := []
  /-- A mailbox reset awaits HELLO (R246). -/
  noHello : Bool := false
  /-- A HELLO that waits for the loss actions to complete (R350): SEQ, agreed version and features. -/
  helloDue : Option (Word × Nat × List Byte) := none
  /-- VERSION agreed by HELLO; 0 before the first. -/
  version : Nat := 0
  /-- Common feature subset. -/
  features : List Byte := []
  /-- The to-firmware and from-firmware rings as bytes, by offset in the ring: slots of 1,024 bytes (R243). -/
  tf : List (Nat × Byte) := []
  ff : List (Nat × Byte) := []
  deriving DecidableEq, Repr

/-- A component image (R240), as parsed from its bytes. -/
structure Component where
  comp : Nat
  version : Word
  svn : Nat
  entry : Nat
  wdog : Nat
  /-- MPUSk and MPUEk, k = 0 to 15. -/
  mpu : List (Word × Word)
  code : List Byte
  data : List Byte
  /-- Decode-table entries and microwords; none when absent. -/
  custom : Option (List Byte)
  digest : List Byte
  deriving DecidableEq, Repr

/-- A live update in progress (R249). -/
structure Update where
  comp : Component
  /-- The bytes that the component digest covers, as the frames carry them (R240, R250). -/
  image : List Byte
  /-- Who asked: owner, SEQ, VERSION. -/
  owner : Nat
  seq : Word
  version : Nat
  /-- Receivers that have not switched, in switching order: core numbers, or 64 + t for the engine of tile t. -/
  left : List Nat
  /-- Receivers that have switched. -/
  switched : List Nat
  deriving DecidableEq, Repr

/-- One multicast session (R251, R252). -/
structure DistSession where
  /-- Receiving (true) or sourcing only. -/
  receiving : Bool
  digest : List Byte
  owner : Nat
  /-- Device address at which the image is assembled, and its capacity. -/
  base : Nat
  total : Nat
  /-- Segments held and verified, or held until the manifest is verified. -/
  held : List (Nat × List Byte)
  /-- The manifest has been verified. -/
  manifest : Bool
  peers : List Nat
  barred : List Nat
  rounds : Nat
  holdoff : Bool
  complete : Bool
  answering : Bool
  /-- DIST_SEND: next segment to send, ENDs sent, rate in Gb/s, egress queue. -/
  next : Nat
  ends : Nat
  rate : Nat
  queue : Nat
  failed : Bool
  deriving DecidableEq, Repr

/-- Firmware. -/
structure FwState where
  /-- Mailboxes by owner: 0 PF, 1 to 12 VF, 13 management port. -/
  boxes : List (Nat × MailboxState) := []
  /-- The retained copies of the running components (R415). -/
  running : List (Nat × Component) := []
  /-- Components whose copy in LPDDR5X is lost (R415). -/
  lostCopies : List Nat := []
  /-- The firmware staging region, and the component staged there (R249). -/
  staging : List Byte := []
  staged : Option Component := none
  update : Option Update := none
  /-- The microcode store of each calibration engine, by tile (R240). -/
  engines : List (Nat × List Byte) := []
  /-- Frames of the distribution in progress held by each receiver (R250), and the image's frame count. -/
  frames : List (Nat × List (Nat × List Byte)) := []
  frameCount : Nat := 0
  /-- Management firmware runs and serves mailboxes. -/
  up : Bool := false
  /-- Ticks of each component's halts within the last 60 s (R241). -/
  halts : List (Nat × List Nat) := []
  sessions : List (Nat × DistSession) := []
  /-- Bytes of the firmware region left for sessions. -/
  free : Nat := 0x80000000
  /-- Distribution frames dropped for unknown sessions (R253). -/
  distDropped : Nat := 0
  /-- Ticks of the headland resets within the last 60 s (R416). -/
  headlandResets : List Nat := []
  deriving DecidableEq, Repr

end Sys2Proof.Machine
end

