-- ==== Sys2Proof/Machine/StateHost.lean ====
section
/-! DEFINITION. The state of the host endpoint beyond its HIF registers (R331 to R353). -/
set_option Elab.async false
namespace Sys2Proof.Machine

/-- One request to host memory that waits for a translation, a D-state or a completion (R338, R341, R345). -/
structure HostReq where
  /-- Governing function (Table HIF-5). -/
  fn : Nat
  /-- Generation of its plot at its start (R387), 0 for none. -/
  gen : Nat
  /-- Host generation at issue (R349). -/
  hgen : Nat
  write : Bool
  addr : Nat
  bytes : List Byte
  len : Nat
  /-- Issuing source (Table HIF-5). -/
  source : HostSource
  /-- Request tag of a read; of a feed write, the instance it belongs to.  Then its place in the whole transfer. -/
  tag : Nat
  off : Nat
  /-- Relaxed Ordering asked for (data writes). -/
  relaxed : Bool
  /-- The ATC entry's untranslated page in use, if translated. -/
  page : Option Nat
  deriving DecidableEq, Repr

/-- One entry of the address translation cache (R341). -/
structure AtcEntry where
  fn : Nat
  page : Nat
  /-- Size in 4 KiB pages. -/
  pages : Nat
  target : Nat
  /-- Stopped by an Invalidation Request (R342). -/
  stopped : Bool
  /-- Draw order of its last use. -/
  lastUse : Nat
  deriving DecidableEq, Repr

/-- An Invalidation Request not yet answered (R342). -/
structure Invalidation where
  fn : Nat
  tag : Nat
  page : Nat
  pages : Nat
  deriving DecidableEq, Repr

/-- What one function holds in its configuration space and MSI-X structures, as far as the spec's rules use it. -/
structure FnState where
  /-- Power state: 0 D0, 1 D1, 2 D2, 3 D3hot, 4 D3cold (Table HIF-7). -/
  dstate : Nat := 0
  msixEnable : Bool := false
  msixFnMask : Bool := false
  /-- Vectors whose table entry has Mask 0. -/
  unmasked : List Nat := []
  /-- Message address and data of each vector's table entry. -/
  table : List (Nat × (DWord × Word)) := []
  /-- Pending bits: vectors. -/
  pba : List Nat := []
  /-- Signals held outside D0 (Table HIF-7). -/
  heldVectors : List Nat := []
  atsEnable : Bool := false
  relaxed : Bool := false
  memEnable : Bool := false
  pmeEn : Bool := false
  pmeStatus : Bool := false
  /-- AER conditions logged (Table HIF-6), by their row's number. -/
  aer : List Nat := []
  /-- Max_Payload_Size and Max_Read_Request_Size as programmed. -/
  mps : Nat := 128
  mrrs : Nat := 512
  /-- HELLO has been answered since the last loss, so that a HIF_HB write arms (R347). -/
  hello : Bool := false
  deriving DecidableEq, Repr

/-- The state of the endpoint. -/
structure HostState where
  fns : List (Nat × FnState) := []
  vfEnable : Bool := false
  numVfs : Nat := 0
  romEnable : Bool := false
  /-- The expansion ROM copy in base-die SRAM; none where no usable partition exists (R336). -/
  rom : Option (List Byte) := none
  atc : List AtcEntry := []
  /-- Translations granted that wait for a free entry of the cache. -/
  granted : List AtcEntry := []
  /-- Requests waiting for a translation. -/
  waiting : List HostReq := []
  /-- Reads issued and not completed. -/
  reads : List HostReq := []
  /-- Requests held by a D-state. -/
  held : List HostReq := []
  invalidations : List Invalidation := []
  /-- Tick of the last feed-drop event of each window (R340). -/
  feedEvent : List (Nat × Nat) := []
  /-- How many times the ATC has been used, and the translations asked for: function and page. -/
  uses : Nat := 0
  translating : List (Nat × Nat) := []
  /-- WAKE_N is driven low (R346). -/
  wakeLow : Bool := false
  /-- PERST_N is asserted. -/
  perst : Bool := false
  deriving DecidableEq, Repr

end Sys2Proof.Machine
end

