-- ==== Sys2Proof/Machine/StatePlot.lean ====
section
/-! DEFINITION. The state of the plots beyond their registers: the committed image, crossings, stepping and markers; and of the event
recorder. -/
set_option Elab.async false
namespace Sys2Proof.Machine

/-- One tile's record of a drill image (Table SCH-4), with its stream. -/
structure TileCfg where
  tile : Nat
  phaseCyc : Nat
  tbudget : Nat
  freq : Nat
  len : Nat
  streamOff : Nat
  nbundles : Nat
  ldesc : List Word
  ppdesc : List (Word × Word)
  dmx : List DWord
  scale : List Word
  stream : List (BitVec 256)
  deriving DecidableEq, Repr

/-- One crossing declaration (Table SCH-15). -/
structure XDecl where
  xid : Nat
  cls : Nat
  nbuf : Nat
  /-- Class 3: 0 send, 1 receive. -/
  dir : Nat
  /-- Class 1: a write to LPDDR5X. -/
  lpx : Bool
  src : Nat
  dst : Nat
  srcLine : Nat
  dstLine : Nat
  lines : Nat
  count : Nat
  maxNs : Nat
  ext : DWord
  pathNs : Nat
  deriving DecidableEq, Repr

/-- One segment of the power profile (Table SCH-19). -/
structure PowerSeg where
  startNs : Nat
  active : Nat
  wakes : Nat
  pwrMw : Nat
  deriving DecidableEq, Repr

/-- One entry of the fallow-slot plan (Table SCH-20). -/
structure FallowEnt where
  tile : Nat
  period : Nat
  phase : Nat
  groups : Word
  start : Nat
  length : Nat
  deriving DecidableEq, Repr

/-- One entry of the flow plan (Table SCH-21). -/
structure FlowEnt where
  flow : Nat
  port : Nat
  altport : Nat
  queue : Nat
  rateMbps : Nat
  conn : Nat
  deriving DecidableEq, Repr

/-- One entry of the array table (Table SCH-5). -/
structure ArrEnt where
  tile : Nat
  larray : Nat
  mode : Nat
  sub : Nat
  segment : Nat
  deriving DecidableEq, Repr

/-- A drill image (R114 to R116), as read from its bytes. -/
structure Image where
  format : Nat
  compiler : Word
  layoutClass : Nat
  size : Nat
  flags : Nat
  digest : List Byte
  modelId : BitVec 128
  job : DWord
  plotIndex : Nat
  jobPlots : Nat
  stepNs : Nat
  wdogNs : Nat
  markerDly : Nat
  ntiles : Nat
  altTile : Nat
  lpxGbps : Nat
  tiles : List TileCfg
  arrtab : List ArrEnt
  xdecl : List XDecl
  power : List PowerSeg
  fallow : List FallowEnt
  flow : List FlowEnt
  /-- The alternates: byte offset within the image and length (R118). -/
  alts : List (Nat × Nat)
  deriving DecidableEq, Repr

/-- One crossing instance on its way: its number in the step and its lines. -/
structure XInst where
  inst : Nat
  lines : List (BitVec 512)
  /-- The step that issued it (R461). -/
  step : DWord := 0
  /-- The instance has left for a network or host and awaits its acknowledgement. -/
  sent : Bool := false
  deriving DecidableEq, Repr

/-- The run-time state of one crossing (R126): instances started in the step, instances not yet ready, and the receive buffers held by
arrived and by consumed instances, oldest first. -/
structure Xing where
  started : Nat := 0
  flight : List XInst := []
  arrived : List Nat := []
  consumed : List Nat := []
  /-- Instances received from another module, which number a class-3 receive crossing's instances. -/
  rx : Nat := 0
  deriving DecidableEq, Repr

/-- The phases of an abort or harrow (R389, R392). -/
inductive AbortPhase where
  | none
  /-- Waiting for the 100 µs spacing of aborts (R390). -/
  | rate
  /-- Idle requests sent; blocks not yet idle (R389). -/
  | idle
  /-- Generation raised; a whole-region fill runs (R391). -/
  | fill
  deriving DecidableEq, Repr

/-- The state of one plot beyond its registers. -/
structure PlotState where
  /-- The committed image (R118). -/
  image : Option Image := none
  /-- The alternates of the image committed from a message, which firmware holds (R118). -/
  alts : List Image := []
  /-- The plot has left IDLE since its definition or its last harrow (R385). -/
  used : Bool := false
  /-- Model identifier of the weights the plot holds or is loading (code 0x0F of Table SCH-6). -/
  modelId : Option (BitVec 128) := none
  /-- 64-bit step number (R149). -/
  step : DWord := 0
  /-- The named first step, before the first STEP_START (R118). -/
  started : Bool := false
  /-- The plot has started one step since its last start, hold or resume. -/
  inStep : Bool := false
  /-- A hold has been asked for on the job, waiting for the step's end (R139). -/
  holdDue : Bool := false
  /-- The leader has received a fault notice, or is faulted, and owes STOP with cause FAULT (R147). -/
  faultDue : Bool := false
  /-- STOP received or sent: the plot issues nothing after its step (R139). -/
  stopped : Bool := false
  /-- The leader has sent START for the next step; it starts MARKER_DLY_NS later (R137). -/
  startSent : Bool := false
  /-- A follower holds a START marker for its next step (R137). -/
  startHeld : Bool := false
  /-- A VOID lane or uncorrectable error freezes the plot at its step boundary (R63, R200). -/
  freezeDue : Bool := false
  /-- An alternate is committed, or being loaded, for this lost tile (R110). -/
  altOf : Option Nat := none
  /-- The plot has no usable alternate and reports reload required, until its weights are loaded again (R111). -/
  reload : Bool := false
  /-- The husk that its weights came from: its kept copy, or the source of its last load (R108, R110). -/
  husk : Option HuskSource := none
  /-- Bytes [255:0] of that husk's header, which KEEP does not copy (Table SEC-11). -/
  huskHead : List Byte := []
  /-- Flows that firmware has moved to their ALTPORT (R145). -/
  moved : List Nat := []
  /-- The run-time state of its crossings, by XID. -/
  xings : List (Nat × Xing) := []
  /-- Where its abort or harrow stands. -/
  abort : AbortPhase := .none
  /-- The abort is a harrow (R392). -/
  harrow : Bool := false
  /-- Tick of the start of its last abort (R390). -/
  lastAbort : Option Nat := none
  /-- A start that waits for the full rates (R164): owner, SEQ, VERSION and first step. -/
  startDue : Option (Nat × Nat × Nat × DWord) := none
  /-- After a restore PLT_START accepts only this step (R434). -/
  onlyStep : Option DWord := none
  /-- The responses owed to the requesters of the abort or harrow: owner, SEQ, VERSION and message type; owner 14 is PLT_CMD. -/
  owed : List (Nat × Nat × Nat × Nat) := []
  deriving DecidableEq, Repr

/-- One event as its source queued it (Table EVR-1). -/
structure Event where
  code : Nat
  plot : Nat
  sev : Nat
  dropped : Bool
  island : Nat
  tick : Nat
  object : Nat
  value : Word
  extra : DWord
  deriving DecidableEq, Repr

/-- A source's queue of at most four events, and how many it has dropped since its last record (R438). -/
structure EventQueue where
  events : List Event := []
  dropped : Nat := 0
  deriving DecidableEq, Repr

/-- The event recorder (R437): the ring of 4,096 records by slot with their SEQ, the SEQ of the next record, and the source queues in the
order the events entered them. -/
structure Recorder where
  ring : List (Nat × (Nat × Event)) := []
  next : Nat := 1
  queues : List (Nat × EventQueue) := []
  /-- The islands of queued events, in order of entry. -/
  order : List Nat := []
  /-- Window position of each reader, 48 bits (R440). -/
  cursors : List (Nat × Nat) := []
  deriving DecidableEq, Repr

/-- A telemetry subscription (R445). -/
structure Subscription where
  owner : Nat
  /-- Period, ms. -/
  period : Nat
  /-- Group mask (Table TEL-1). -/
  groups : Nat
  /-- Host region 12 to 15 and offset of its ring, or none for TEL_DATA messages. -/
  ring : Option (Nat × Nat)
  slots : Nat
  /-- Bytes of a slot. -/
  size : Nat
  nextSlot : Nat
  /-- Periods skipped since the last header. -/
  skipped : Nat
  /-- The last export has not finished. -/
  busy : Bool
  deriving DecidableEq, Repr

/-- Telemetry (R444, R445). -/
structure Telemetry where
  /-- The snapshot store: PF BAR0 offset and value of each latched counter. -/
  snapshot : List (Nat × DWord) := []
  number : Nat := 0
  subs : List Subscription := []
  deriving DecidableEq, Repr

end Sys2Proof.Machine
end

