-- ==== Sys2Proof/Machine/StateMem.lean ====
section
/-! DEFINITION. The state of the memory system beyond its registers and bytes, of the checkpoint path, and of the security island. -/
set_option Elab.async false
namespace Sys2Proof.Machine

/-- A group record of the calibration store (Table CAL-8): its converter entries as GT, OT and KCOL (Table CAL-9). -/
structure CalGroupRec where
  retired : Nat
  spareBad : Bool
  refBad : Bool
  lost : Bool
  present : Bool
  karr : List Nat
  conv : List (BitVec 6 × BitVec 6 × Half)
  deriving DecidableEq, Repr

/-- A tile record (Table CAL-7). -/
structure CalTileRec where
  tile : Nat
  /-- Identifiers of the compute die and of the four CIM dies, layer 0 first. -/
  cdieId : DWord
  cimIds : List DWord
  /-- Layer temperatures at save, °C + 64. -/
  temps : List Nat
  groups : List CalGroupRec
  cmac : BitVec 128
  deriving DecidableEq, Repr

/-- One copy of the store (R103, Table CAL-6): its header, and its tile records by tile.  A copy that has never been written has no MAGIC. -/
structure CalCopy where
  magic : Word := 0
  format : Nat := 0
  seq : Nat := 0
  ntiles : Nat := 0
  trecSize : Nat := 0
  cmac : BitVec 128 := 0
  tiles : List (Nat × CalTileRec) := []
  deriving DecidableEq, Repr

/-- A save of the stores in progress (R105): whom it answers, the tiles that still wait for a step boundary, and the records taken. -/
structure CalSave where
  owner : Nat
  seq : Word
  version : Nat
  type : Nat
  due : List Nat
  tiles : List (Nat × CalTileRec)
  deriving DecidableEq, Repr

/-- What the training of an LPDDR5X controller has given (R197): the package's MR5 to MR8, the nearest base-die sensor's reading (°C + 64), and the trained values with
their eye margins, which the spec does not lay out: the number of the training that gave them. -/
structure TrainRec where
  mr : Word
  temp : Nat
  values : Nat
  deriving DecidableEq, Repr

/-- One copy of the training store (R197), its records by controller. -/
structure TrainCopy where
  seq : Nat := 0
  recs : List (Nat × TrainRec) := []
  cmac : BitVec 128 := 0
  deriving DecidableEq, Repr

/-- The LPDDR5X controllers and regions. -/
structure MemState where
  /-- Component set as the owner of each firmware region, 16 to 31 (R242). -/
  owner : List (Nat × Nat) := []
  /-- The key pair in a region's key slot, as the draw that made it (R195). -/
  keys : List (Nat × Nat) := []
  /-- LPDDR5X lines (device address / 64) that hold an uncorrectable error. -/
  bad : List Nat := []
  /-- Controllers whose DQS tracking waits for a rate change to end (R203). -/
  trackDue : List Nat := []
  /-- BAR2 accesses that wait for a rate change to end (R164). -/
  bar2Waits : List Instr := []
  /-- Writes to region pages of a pending checkpoint, held until the page is copied (R430): plot, device address, bytes. -/
  held : List (Nat × (Nat × List Byte)) := []
  /-- Copies A and B of the calibration store in NVM. -/
  calA : CalCopy := {}
  calB : CalCopy := {}
  /-- A save in progress (R105). -/
  saving : Option CalSave := none
  /-- Copies of the training store in NVM, and what each controller is trained to (R197). -/
  trainA : TrainCopy := {}
  trainB : TrainCopy := {}
  trained : List (Nat × TrainRec) := []
  deriving DecidableEq, Repr

/-- One plot's side of the checkpoint path (R423 to R436). -/
structure CkpState where
  /-- Job-wide step at which the plot holds itself, CKPT_ID and kind, as armed. -/
  hstep : DWord := 0
  ckptId : DWord := 0
  full : Bool := false
  /-- Base checkpoint of the delta set. -/
  base : DWord := 0
  /-- The pending set P at the cut; its region pages not yet sealed or staged; its staged pages with their copies. -/
  pset : List Nat := []
  pages : List Nat := []
  staged : List (Nat × List Byte) := []
  /-- Staging area: device address and capacity in pages. -/
  stageAt : Nat := 0
  cap : Nat := 0
  /-- The scratchpad snapshot is complete (R427). -/
  snapped : Bool := false
  /-- The plot has a complete checkpoint (R425). -/
  complete : Bool := false
  /-- Bytes [4079:0] of the sheaf's header, as the cut gives them (Table CKP-1), and the sheaf as far as it has been sealed (R428). -/
  head : List Byte := []
  stream : List Byte := []
  /-- Block ranges of the sheaf, first and past the last, whose WRITE has ended OK. -/
  written : List (Nat × Nat) := []
  /-- Blocks of the sheaf, from its first, that have been written without a gap. -/
  front : Nat := 0
  /-- Sheaf destination: binding and first block. -/
  dest : Nat × Nat := (0, 0)
  /-- FIRST_CTR of the sheaf: the first counter it uses of the CKPT key's pages (Table SEC-6). -/
  counter : Nat := 0
  /-- Attempts of the sheaf's storage commands that have failed, by first block (R431). -/
  attempts : List (Nat × Nat) := []
  /-- STEP of the last cut or restore (Table CKP-9). -/
  step : DWord := 0
  /-- CKPT key slot. -/
  slot : Nat := 0
  /-- The plot was HELD already when it was armed: it has not become HELD since (R426). -/
  heldAtArm : Bool := false
  /-- A restore in progress (R432 to R434): its step, the chain, the generation of its page writes (R387), and the requester of the response owed. -/
  target : DWord := 0
  chain : List Sheaf := []
  gen : Nat := 0
  owed : Option (Nat × Nat × Nat) := none
  deriving DecidableEq, Repr

/-- A general key slot (R360, R371): its kind, its attributes, and its key, which never leaves the part (R3). -/
structure KeySlot where
  /-- 1 MODEL, 2 CKPT, 3 CONN, 4 MGMT (Table SEC-4). -/
  kind : Nat
  /-- BIND and KEY_ID of the release message (Table SEC-9). -/
  ident : BitVec 128
  keyId : Word := 0
  /-- Owner: a plot, or 12. -/
  owner : Nat := 12
  /-- Plot mask. -/
  plots : Nat
  key : List Byte
  /-- Page counter of sheaf sealing under a CKPT key (Table SEC-6). -/
  counter : Nat := 0
  deriving DecidableEq, Repr

/-- A report request that waits for the epoch's certificate (R368): the request, its profile and nonce, and its buffer: host region and offset, or the
staging buffer. -/
structure ReportReq where
  owner : Nat
  seq : Word
  version : Nat
  full : Bool
  nonce : BitVec 256
  buf : SecBuf
  deriving DecidableEq, Repr

/-- A husk load that waits for its groups to wake (R55, R374): whom it answers, its plot and key slot, the husk, what it still fills. -/
structure HuskWait where
  owner : Nat
  seq : Word
  version : Nat
  plot : Nat
  slot : Nat
  src : HuskSource
  keep : Option Nat
  bad : List (Nat × Nat)
  ents : List ArrEnt
  segs : List Nat
  /-- Tiles every array of which the load fills. -/
  whole : List Nat
  deriving DecidableEq, Repr

/-- The security island. -/
structure SecState where
  /-- Fuse words (Table SEC-1); unlisted 0. -/
  fuses : List (Nat × Word) := []
  /-- LAYOUT_CLASS as of the last power-on (R358). -/
  layoutClass : Nat := 0
  /-- General key slots in use. -/
  slots : List (Nat × KeySlot) := []
  /-- Blown bits of the epoch counter (R367). -/
  epoch : Nat := 0
  /-- The draw from which the epoch's bottom tree and ML-KEM key pair came (R366, R367). -/
  tree : Nat := 0
  /-- Digests of the last 16 reports of the epoch, newest first (Table SEC-10). -/
  reports : List (List Byte) := []
  /-- Body bytes [927:16] and the MEAS of the epoch's certificate, once signed (R368, R369). -/
  cert : Option (List Byte × List Byte) := none
  /-- Reports that wait for the bottom tree. -/
  reportsDue : List ReportReq := []
  /-- Debug nonces drawn, and whether the last is outstanding (R377). -/
  nonces : Nat := 0
  nonce : Bool := false
  /-- Scope mask of the open debug session. -/
  dbgScope : Option Nat := none
  /-- The keys are erased and recovery has not ended (R364). -/
  erasing : Bool := false
  /-- Management sessions (R378, R379). -/
  sessions : List Nat := []
  /-- Husk loads that wait for their groups to wake. -/
  huskWaits : List HuskWait := []
  /-- The 64 KiB management staging buffer, by byte; unlisted 0 (R381). -/
  staging : List (Nat × Byte) := []
  deriving DecidableEq, Repr

/-- A seedbed slot in NVM (R401): the bytes written, by offset; unlisted bytes read 0xFF.  `rewriting` says that a SEED_WRITE has come since the
last commit or module start (R418). -/
structure SeedState where
  slotA : List (Nat × Byte) := []
  slotB : List (Nat × Byte) := []
  rewriting : Bool := false
  deriving DecidableEq, Repr

end Sys2Proof.Machine
end

