-- ==== Sys2Proof/Machine/StateNet.lean ====
section
/-! DEFINITION. The state of the network path beyond its NET, PRS and TMS registers: classifier objects, meters, rings and queues (R258 to R283). -/
set_option Elab.async false
namespace Sys2Proof.Machine

/-- A classifier entry (Table NET-17). -/
structure ClsEntry where
  key : BitVec 512 := 0
  mask : BitVec 512 := 0
  /-- Control word: [31] VALID, [30] METER_EN, [11:0] METER. -/
  ctl : Word := 0
  actions : List DWord := [0, 0, 0, 0]
  deriving DecidableEq, Repr

/-- A token bucket: its content in 1/8000 of a unit and the nanosecond at which it stood so; none while full and unused. -/
structure Bucket where
  level : Option Nat := none
  last : Nat := 0
  deriving DecidableEq, Repr

/-- A meter (R274): CIR in Mb/s, CBS in bytes, red frames. -/
structure Meter where
  cir : Nat := 0
  cbs : Nat := 0
  red : Word := 0
  bucket : Bucket := {}
  deriving DecidableEq, Repr

/-- What an egress frame holds. -/
inductive FrameBody where
  /-- A frame by its bytes, FCS apart. -/
  | raw (bytes : List Byte)
  /-- An Omfemos packet by operation code, with its context, and its UDP payload as it goes out: sealed, but for an RNR (R289). -/
  | omf (op : Nat) (cid : Nat) (pkt : OmfPkt) (payload : List Byte)
  /-- A set-up packet, OPEN_REQ or OPEN_ACK, in clear text (R292). -/
  | setup (op : Nat) (cid : Nat) (ver : Nat) (pkt : OpenPkt)
  deriving DecidableEq, Repr

/-- A frame in an egress queue: length from destination address to FCS, and the nanosecond it entered. -/
structure EgressFrame where
  body : FrameBody
  len : Nat
  entered : Nat
  deriving DecidableEq, Repr

/-- An egress queue beyond its TMS registers. -/
structure Queue where
  frames : List EgressFrame := []
  deficit : Nat := 0
  bucket : Bucket := {}
  /-- RATE_MBPS of the committed flow plan that governs the queue (R280). -/
  planned : Option Nat := none
  /-- Running averages of depth in bytes and delay in ns (R283); none until seeded. -/
  avg : Option (Rat × Rat) := none
  deriving DecidableEq, Repr

/-- A punted frame (R276): reason, port, sub-port, key and bytes. -/
structure PuntFrame where
  reason : Nat
  port : Nat
  sub : Nat
  key : BitVec 512
  bytes : List Byte
  deriving DecidableEq, Repr

/-- A frame handed to the remote-memory engine: its classifier stamp (R305), plot, ingress priority and bytes. -/
structure RmaFrame where
  stamp : Nat
  plot : Nat
  priority : Nat
  bytes : List Byte
  deriving DecidableEq, Repr

/-- The network path. -/
structure NetState where
  /-- NET_CNTp_i, 64 bits, at 11 × p + i. -/
  counts : List (Nat × DWord) := []
  /-- Lanes under a BER check, 4 × port + lane. -/
  checking : List Nat := []
  /-- Lanes that a sub-port uses, or retrains to, at 4 × port + sub (R261). -/
  lanes : List (Nat × List Nat) := []
  entries : List (Nat × ClsEntry) := []
  /-- Guard key and mask of each partition. -/
  guards : List (Nat × (BitVec 512 × BitVec 512)) := []
  meters : List (Nat × Meter) := []
  masks : List (Nat × BitVec 512) := []
  /-- Indirection entries, 512 × partition + index. -/
  indir : List (Nat × Word) := []
  templates : List (Nat × BitVec 256) := []
  punt : List (Nat × Bucket) := []
  /-- Punt rings of the network cores, by core number; firmware delivery rings. -/
  puntRings : List (Nat × List PuntFrame) := []
  fwRings : List (Nat × List (List Byte)) := []
  /-- Frames handed to the remote-memory engine and not yet taken. -/
  toRma : List RmaFrame := []
  /-- Egress queues, 512 × port + queue. -/
  queues : List (Nat × Queue) := []
  /-- Frames of firmware held until their queue has room (R281): queue and frame. -/
  held : List (Nat × EgressFrame) := []
  /-- Round-robin position: queue and whether its visit is open, at 8 × (4 × port + sub) + class. -/
  rr : List (Nat × (Nat × Bool)) := []
  /-- The classifier's stamp counter (R305). -/
  stamp : Nat := 0
  deriving DecidableEq, Repr

end Sys2Proof.Machine
end

