-- ==== Sys2Proof/Machine/StatePower.lean ====
section
/-! DEFINITION. The state of the governor and of the supply, reference and temperature monitors beyond their PWR and CLK registers. -/
set_option Elab.async false
namespace Sys2Proof.Machine

/-- The governor's state. -/
structure PowerState where
  /-- Hottest compute-die or CIM-die sensor of each die, °C + 64 (R174). -/
  dieTemp : List (Nat × Nat) := []
  /-- Hottest base-die sensor, °C + 64. -/
  baseTemp : Nat := 0
  /-- THERMTRIP_N is driven low (R175). -/
  thermtrip : Bool := false
  /-- Voltage of VTILEd in force, mV (R163). -/
  volt : List (Nat × Nat) := []
  /-- Voltage requests to the regulators not yet acknowledged, mV. -/
  request : List (Nat × Nat) := []
  /-- An LPDDR5X rate change is in progress: to the full rate, or to the low one (R164). -/
  changing : Option Bool := none
  /-- Rails held in reset by a supply reset. -/
  railReset : List Nat := []
  /-- Islands whose trim load is in progress, loads repeated, and islands whose records have committed since their last reset (R410, R411). -/
  loading : List Nat := [0]
  trimTries : List (Nat × Nat) := []
  trimmed : List Nat := []
  /-- PLL or DCO starts that have failed (R411). -/
  pllTries : List (Nat × Nat) := []
  /-- Islands whose reset in force is warm (R413). -/
  warm : List Nat := []
  /-- Tiles whose release sets SCH_ERR.CLKRDY (R412). -/
  clkDropped : List Nat := []
  /-- Bring-up from S0 is due (R398, Table RST-5). -/
  bootDue : Bool := true
  /-- OPTSEL is to be sampled as S0 begins (R399). -/
  sampleDue : Bool := true
  /-- Resets that wait for the idle of their scope: 1 management island, 3 module (R414). -/
  idleWait : List Nat := []
  /-- Wake tokens taken and not yet returned (R167). -/
  tokensOut : Nat := 0
  /-- The fabric island runs at 800 MHz (R159, R164). -/
  fabricSlow : Bool := false
  /-- The island whose ring monitor measures for CLK_FMEAS. -/
  measuring : Option Nat := none
  deriving DecidableEq, Repr

end Sys2Proof.Machine
end

