-- ==== Sys2Proof/Machine/StateRma.lean ====
section
/-! DEFINITION. The state of the remote-memory engine beyond its RMA registers, and of the storage channels beyond their STG registers (R289 to R330). -/
set_option Elab.async false
namespace Sys2Proof.Machine

/-- A connection context (Table RMA-5) with the engine's own state of it. -/
structure Ctx where
  /-- 0 FREE, 1 CONNECTING, 2 OPEN, 3 ERROR, 4 CLOSED. -/
  state : Nat := 0
  ver : Nat := 0
  owner : Nat := 12
  /-- Pinned by firmware; pinned by a committed flow plan. -/
  pinned : Bool := false
  planned : Bool := false
  txPhase : Bool := false
  rxPhase : Bool := false
  ipv6 : Bool := false
  hostStore : Bool := false
  /-- Own reuse tag, raised at each allocation. -/
  ctag : Nat := 0
  peerCid : Nat := 0
  peerTag : Nat := 0
  peerAddr : BitVec 128 := 0
  peerPort : Nat := 0
  mss : Nat := 1024
  deliver : Nat := 0
  viols : Nat := 0
  flow : Nat := 0xFFFF
  txCtr : Nat := 1
  rxHi : Nat := 0
  rxWin : DWord := 0
  txPsn : Nat := 0
  rxPsn : Nat := 0
  recvKey : Word := 0
  keySlot : Nat := 0
  /-- Replay state of the old phase, and whether it is still accepted (R295). -/
  oldHi : Nat := 0
  oldWin : DWord := 0
  oldOk : Bool := false
  /-- The next epoch's receive keys are derived; a REKEY is out and unanswered. -/
  nextKeys : Bool := false
  rekeying : Bool := false
  epoch : Nat := 0
  /-- The rekey warning has been raised; the direction has stopped at its counter limit (R294). -/
  warned : Bool := false
  stopped : Bool := false
  /-- Long-term key identifier; this end sent OPEN_REQ; its nonce and the peer's, of the set-up or of the last rekey. -/
  keyId : Nat := 0
  initiator : Bool := false
  nonce : BitVec 128 := 0
  peerNonce : BitVec 128 := 0
  /-- What the key engine holds in the context's key slot, which no software reads (R292, R295): key and salt of each direction, of the next epoch, and of the old receive phase. -/
  txKey : BitVec 288 := 0
  rxKey : BitVec 288 := 0
  nextTx : BitVec 288 := 0
  nextRx : BitVec 288 := 0
  oldRx : BitVec 288 := 0
  /-- The set-up or rekey request to answer: owner, SEQ, VERSION and message type. -/
  owed : Option (Nat × Nat × Nat × Nat) := none
  /-- The last 8 atomic results: PSN and old value, newest first (R298). -/
  atomics : List (Nat × DWord) := []
  /-- Packets performed and not yet acknowledged (R297). -/
  unacked : Nat := 0
  /-- Tick of the last ACK to a later PSN. -/
  lastLater : Option Nat := none
  /-- The operation being received: its first PSN, its bytes so far, whether it has failed. -/
  opFirst : Nat := 0
  opBytes : Nat := 0
  opFailed : Bool := false
  opOpen : Bool := false
  /-- Receive slots filled, and slots returned by their user (R299). -/
  recvUsed : Nat := 0
  recvFreed : Nat := 0
  /-- Tick of the last violation event (R307). -/
  lastViol : Option Nat := none
  /-- Sending waits after an RNR; retransmissions without progress (R297, R299). -/
  paused : Bool := false
  retries : Nat := 0
  /-- PCTRs sent, with the tick of each, newest first (R301). -/
  recent : List (Nat × Nat) := []
  deriving DecidableEq, Repr

/-- Where an operation comes from (R306). -/
inductive OpSource where
  /-- Work ring of plot p: WRID and SIGNAL. -/
  | ring (p : Nat) (wrid : DWord) (signal : Bool)
  | storage (n : Nat)
  /-- Crossing instance of plot p. -/
  | crossing (p x inst : Nat)
  | firmware
  deriving DecidableEq, Repr

/-- An operation under way at the initiator; its operation slot, its packets, and what has come back. -/
structure RmaOp where
  slot : Nat
  cid : Nat
  src : OpSource
  /-- Generations of the owning plot and of the governing function at start. -/
  gen : Nat
  hgen : Nat
  /-- Owning plot, or 12. -/
  plot : Nat
  /-- Operation code (Table RMA-3). -/
  code : Nat
  rkey : Word
  roff : Nat
  len : Nat
  /-- Local buffer: device address, or PCIe address of host memory. -/
  laddr : Nat
  host : Bool := false
  imm : DWord := 0
  swap : DWord := 0
  /-- Bytes to send, where they have been read already. -/
  data : Option (List Byte) := none
  /-- Host read chunks that have come in: offset and bytes. -/
  chunks : List (Nat × List Byte) := []
  /-- PSN of its first packet, once sent. -/
  firstPsn : Option Nat := none
  /-- Packets formed, packets answered, bytes of response received. -/
  sent : Nat := 0
  acked : Nat := 0
  got : Nat := 0
  etime : Nat := 0
  /-- It forms no further packet and ends when what was sent is answered (R323). -/
  settling : Bool := false
  /-- Its ring has failed since: its completion record is discarded (R343, R348). -/
  mute : Bool := false
  deriving DecidableEq, Repr

/-- A region entry (Table RMA-6). -/
structure RegionEntry where
  tag : Nat := 0
  owner : Nat := 12
  read : Bool := false
  write : Bool := false
  atomic : Bool := false
  valid : Bool := false
  /-- REVOKING, with the admission stamp (R305). -/
  revoking : Option Nat := none
  /-- Its last registration was revoked, and no other has followed. -/
  revoked : Bool := false
  base : Nat := 0
  len : Nat := 0
  deriving DecidableEq, Repr

/-- A revocation: key, stamp, and the response owed. -/
structure Revocation where
  index : Nat
  stamp : Nat
  owed : Option (Nat × Nat × Nat)
  deriving DecidableEq, Repr

/-- A packet in the parking buffer (R301): the operation code and arrival. -/
structure Parked where
  cid : Nat
  code : Nat
  arr : Arrival
  deriving DecidableEq, Repr

/-- The remote-memory engine. -/
structure RmaState where
  ctxs : List (Nat × Ctx) := []
  /-- Contexts in the cache, most recently used first (R300). -/
  cached : List Nat := []
  /-- Fetches in progress. -/
  fetching : List Nat := []
  parked : List Parked := []
  regions : List (Nat × RegionEntry) := []
  revocations : List Revocation := []
  /-- Revocations that wait for one of the 64 places. -/
  revokeWait : List Revocation := []
  /-- Operations under way, oldest first. -/
  ops : List RmaOp := []
  /-- Operation slots not to be used: quarantined (R388), and those used by storage and DMA beyond `ops`. -/
  quarantine : List Nat := []
  /-- Function that enabled each plot's rings (R337), and the PHASE of its completion ring. -/
  ringFn : List (Nat × Nat) := []
  /-- Completion records held while the ring is full: plot and 32 bytes without PHASE. -/
  heldRecs : List (Nat × List Byte) := []
  /-- Work requests read from memory that a FENCE holds, by plot (R306). -/
  ringHeld : List (Nat × List Byte) := []
  /-- RECV records written and not yet read: plot, completion index and context, whose receive slot its reading frees (R299). -/
  recvRecs : List (Nat × (Nat × Nat)) := []
  /-- Host reads of work entries outstanding, by plot. -/
  ringReads : List Nat := []
  /-- Firmware messages received: context and bytes or immediate (DELIVER 2). -/
  fwIn : List (Nat × List Byte) := []
  /-- Operations whose source is held for want of an operation slot, in order. -/
  waitOps : List RmaOp := []
  deriving DecidableEq, Repr

/-- A namespace binding (R315). -/
structure Binding where
  /-- Context and reuse tag of the connection. -/
  cid : Nat
  ctag : Nat
  nsid : Word
  capacity : Nat
  readOnly : Bool
  owner : Nat
  /-- STG_UNBIND has arrived: the response owed. -/
  unbind : Option (Nat × Nat × Nat) := none
  deriving DecidableEq, Repr

/-- A storage command in progress (R317 to R320). -/
structure StgCmd where
  code : Nat
  nsb : Nat
  lba : Nat
  blks : Nat
  buf : Nat
  host : Bool
  tag : Nat
  irq : Bool
  gen : Nat
  hgen : Nat
  /-- Its operation slot; none while it waits for one. -/
  slot : Option Nat
  /-- The status it will end with once settled. -/
  ending : Option Nat := none
  deriving DecidableEq, Repr

/-- The storage channels. -/
structure StgState where
  cmds : List (Nat × StgCmd) := []
  bindings : List (Nat × Binding) := []
  /-- Channels that go OFF when their command ends (R327). -/
  offDue : List Nat := []
  deriving DecidableEq, Repr

end Sys2Proof.Machine
end

