-- ==== Sys2Proof/Machine/StateTile.lean ====
section
/-! DEFINITION. The state of one tile beyond its registers: arrays and their cells, the shell's memories, the sequencer, and what
calibration holds for it. -/
set_option Elab.async false
namespace Sys2Proof.Machine

/-- One MVM of the step in progress (R33, R41): launched, converting or complete and still collectable. -/
structure Mvm where
  /-- Group 0 to 31. -/
  group : Nat
  /-- Physical slot 0 to 16 that runs it. -/
  slot : Nat
  /-- Logical slot 0 to 15 named by the launch; 16 for a reference launch (R46). -/
  logical : Nat
  /-- Schedule cycle of issue. -/
  start : Nat
  /-- Input bits b (R32). -/
  bits : Nat
  /-- PHASE_CYC of the tile at the launch. -/
  phase : Nat
  /-- Weight mode, Table ARR-2. -/
  mode : Nat
  /-- The launch descriptor. -/
  desc : Word
  /-- The array's row latches: byte i drives row i (R31). -/
  rows : BitVec 4096
  /-- A skipped reference launch: timed as though it converts, writes nothing (R46). -/
  skipped : Bool
  /-- Its conversion met a failing CIM supply (R56). -/
  void : Bool
  /-- The last conversion phase has ended. -/
  done : Bool
  /-- Nanoseconds it has held its phase under stalls (R34). -/
  heldNs : Nat
  /-- The lanes latched at the end of conversion (R38), lane 0 first. -/
  lanes : List Half
  deriving DecidableEq, Repr

/-- A register file of the shell, in which results land (Table SHL-3). -/
inductive Dest where
  /-- Vector registers: key 64 × register + lane. -/
  | vr
  /-- DMX accumulator sets: key 1024 × set + 32 × row + column. -/
  | dacc
  deriving DecidableEq, Repr

/-- How a collect with FINAL = 1 turns its accumulated results into output (R69, R70). -/
structure FinalOut where
  outfmt : Nat
  scmode : Bool
  rnd : Bool
  ovf : Bool
  scbase : Nat
  /-- Device address of the first output byte. -/
  addr : Nat
  /-- Issue cycle and step seed of the collect, for the draws of R75. -/
  cyc : Nat
  seed : DWord
  deriving DecidableEq, Repr

/-- Where the bytes of an access that goes on in the next cycle end up. -/
inductive TailTo where
  /-- Vector registers, from a key on. -/
  | vr (key : Nat)
  /-- The scratchpad, at a device address. -/
  | mem (addr : Nat)
  deriving DecidableEq, Repr

/-- A result or an access on its way: it lands at its schedule cycle, and a read before that sees the old value (R68, R184). -/
inductive Landing where
  /-- Words for a register file, from a first key on; `scales` are the block scales of an MX result. -/
  | words (due : Nat) (dest : Dest) (key : Nat) (vals : List Word) (scales : List (Nat × Byte))
  /-- Bytes for the scratchpad, from a device address on: what is written in one cycle is there from the next (R184). -/
  | bytes (due : Nat) (addr : Nat) (vals : List Byte)
  /-- One 64-byte access of an input-register load (R31): chunk `key` = 8 × register + access. -/
  | load (due : Nat) (key : Nat) (addr : Nat)
  /-- What it read. -/
  | chunk (due : Nat) (key : Nat) (bits : BitVec 512)
  /-- The second line of an access (R182): `head` came from the first. -/
  | tail (due : Nat) (addr len : Nat) (head : List Byte) (put : TailTo)
  /-- A collect's results for an accumulator row, loaded or added, and the output that follows (R66, R69). -/
  | accum (due : Nat) (row : Nat) (add : Bool) (desc : Nat) (vals : List Int) (final : Option FinalOut)
  /-- What a ROUTE or SAMPLE writes in the last cycle of its occupancy (R122): the outputs as (address, bytes), the number of entries with no valid choice
  (R80, R86), and the bound of a SAMPLE's token, 0 for a ROUTE. -/
  | choice (due : Nat) (writes : List (Nat × List Byte)) (missing : Nat) (limit : Nat)
  /-- One line read of a SEND: plot, crossing, instance, device address (R126). -/
  | line (due : Nat) (p xid inst addr : Nat)
  deriving DecidableEq, Repr

/-- An open loop of the sequencer (R120): the bundle that begins its body and the runs still to come. -/
structure LoopFrame where
  body : Nat
  left : Nat
  deriving DecidableEq, Repr

/-- An open weight write (R51). -/
structure WeightWrite where
  group : Nat
  slot : Nat
  mode : Nat
  /-- Target logical slot. -/
  target : Nat
  /-- What the write is for. -/
  kind : WriteKind
  /-- Next row to write. -/
  nextRow : Nat
  /-- It waits for its group to wake (R55). -/
  waiting : Bool
  /-- A row failed twice: the sequence has stopped. -/
  failed : Bool
  /-- The open of a husk load or a harrow, which goes on as a whole once all its groups are AWAKE. -/
  load : Bool := false
  deriving DecidableEq, Repr

/-- Running sums of what the drift tracker has taken from the collects of one group or slot (R96): gains of REF0, REF1 and REF3 over `n` collects whose sum is
large enough (those of a group times its slots' karr), and codes of REF2 over `all` collects. -/
structure Tracker where
  n : Nat := 0
  h0 : Rat := 0
  h1 : Rat := 0
  h3 : Rat := 0
  all : Nat := 0
  z2 : Rat := 0
  deriving DecidableEq, Repr

/-- The calibration engine's record of one group (R89, R94, R97, R98, R102).  Gains, factors and residuals are exact rationals. -/
structure GroupCal where
  /-- Gain trim GT and offset trim OT of each converter, in force, 6-bit two's complement (R88); unlisted 0. -/
  gt : List (Nat × BitVec 6) := []
  ot : List (Nat × BitVec 6) := []
  /-- kbase and ot0 of the last admission set (R98); unlisted 1 and 0. -/
  kbase : List (Nat × Rat) := []
  ot0 : List (Nat × BitVec 6) := []
  /-- Drift states s and o (R98); unlisted 0. -/
  sGain : List (Nat × Rat) := []
  oOff : List (Nat × Rat) := []
  /-- Array factors karr of the slots (R89); unlisted 1. -/
  karr : List (Nat × Rat) := []
  /-- Seed temperature T0 of the layer, °C. -/
  t0 : Int := 0
  /-- Tick of the last complete set, or of the seeding. -/
  lastSet : Nat := 0
  /-- A complete set has been taken since the seeding: the first one starts the running averages (R102). -/
  anySet : Bool := false
  /-- A complete set has been taken in this probation. -/
  probSet : Bool := false
  /-- A converter residual has exceeded its hard limit in this probation, or since RECAL. -/
  hardSeen : Bool := false
  /-- RECAL has just ended: a hard excursion in the first set after it is a converter fault (R99). -/
  afterRecal : Bool := false
  /-- Tick at which probation ends (R102). -/
  probEnd : Nat := 0
  /-- Trims and entries measured within a step, due at the step boundary (R99). -/
  due : Bool := false
  /-- Consecutive 64-collect means of each slot beyond the hard limit (Table CAL-4). -/
  arrOut : List (Nat × Nat) := []
  /-- The store's SPARE_BAD flag (Table CAL-8). -/
  spareBad : Bool := false
  /-- Gain trims as the engine has them; `gt`, `ot` and `kcol` are those in force (R99). -/
  gtNew : List (Nat × BitVec 6) := []
  /-- Column factors in force, drift included; unlisted 1. -/
  kcol : List (Nat × Rat) := []
  /-- Test-charge gains of the last foreground calibration (Table CAL-10). -/
  ht : List (Nat × Rat) := []
  /-- Foreground calibration under RECAL has ended; its values take effect at the step boundary. -/
  recalDone : Bool := false
  /-- The group has been calibrated or seeded since its cold reset: its state is there to be retained through a warm one (R101). -/
  seeded : Bool := false
  /-- Calibration updates that have taken effect: the systematic terms of a conversion are fixed between two of them (R49). -/
  epoch : Nat := 0
  /-- The tracker of the group since its last complete set, and of each slot since its last mean (R96, Table CAL-4). -/
  track : Tracker := {}
  slotTrack : List (Nat × Tracker) := []
  deriving DecidableEq, Repr

/-- The state of one tile beyond its registers. -/
structure TileState where
  /-- Input registers IV0 to IV7: 8 × register + 64-byte chunk (R31); unlisted read 0. -/
  ivs : List (Nat × BitVec 512) := []
  /-- The MVMs of the step (R33). -/
  mvms : List Mvm := []
  /-- Bitcells: 512 × (17 × group + slot) + row, the row's 512 data nibbles; unlisted read 0 (R24, R28). -/
  cells : List (Nat × BitVec 2048) := []
  /-- A retention loss has left unlisted rows undefined, with its draw (R56). -/
  lost : Option Nat := none
  /-- Open weight writes (R51). -/
  writes : List WeightWrite := []
  /-- Correction table: 516 × (17 × group + slot) + column; unlisted read 0x4000_0000 (R60). -/
  corr : List (Nat × Word) := []
  /-- The drift filter of each group. -/
  cal : List (Nat × GroupCal) := []
  /-- ACC0 to ACC63: 512 × row + entry (R66). -/
  acc : List (Nat × Word) := []
  /-- Vector registers: 64 × register + lane (R76). -/
  vr : List (Nat × Word) := []
  /-- Scale codes of the MX blocks in the vector registers: 8 × register + block.  The model's own field: no rule says where block scales lie
  (log entry 12); an unlisted one reads as a free value. -/
  vrScale : List (Nat × Byte) := []
  /-- DMX accumulators: 1024 × set + 32 × row + column (R81). -/
  dacc : List (Nat × Word) := []
  /-- The step seed (R83). -/
  seed : DWord := 0
  /-- Conversion phases completed by the tile (Table ARR-19). -/
  conv : DWord := 0
  /-- Sequencer memory, one 256-bit bundle each (R118); unlisted read 0. -/
  bundles : List (Nat × BitVec 256) := []
  /-- The 64 DMX descriptors (R116). -/
  dmxDesc : List (Nat × DWord) := []
  /-- Open loops, innermost first (R120). -/
  loops : List LoopFrame := []
  /-- Results on their way (R68). -/
  landing : List Landing := []
  /-- First cycle at which post-processing is free (R67). -/
  ppFree : Nat := 0
  /-- First cycle at which the vector unit is free of a ROUTE or SAMPLE (R122). -/
  vecFree : Nat := 0
  /-- First cycle at which the accumulating DMX path is free, and the set it names (R124). -/
  accFree : Nat := 0
  accSet : Nat := 0
  /-- First cycle at which the drain path is free, and the set it names (R124). -/
  drainFree : Nat := 0
  drainSet : Nat := 0
  /-- The slot operations presented so far of the bundle at the program counter, which issues with its last one (R119). -/
  gather : List Instr := []
  /-- The slot operations of the bundle the sequencer holds (R119, R127). -/
  held : List Instr := []
  /-- Schedule cycle of the bundle at the program counter (R120). -/
  due : Nat := 0
  /-- Nanoseconds of the continuous stall so far (R141). -/
  stallNs : Nat := 0
  /-- Stall cycles of the step by source, Table SCH-14 (R128). -/
  stepStall : List Nat := [0, 0, 0, 0, 0]
  /-- Slack overruns recorded in the step (R443). -/
  stepSlack : Nat := 0
  /-- Second cycles of unscheduled two-line accesses (R183): schedule cycle that they fall in, and bank. -/
  bankSecond : List (Nat × Nat) := []
  /-- Later cycles of scheduled multi-cycle accesses of port A (R182): schedule cycle and bank. -/
  portUse : List (Nat × Nat) := []
  /-- Scratchpad lines that hold an uncorrectable error: 16384 × bank + line (R200). -/
  badLines : List Nat := []
  /-- Region-register writes waiting for the step boundary: 16 × master + index (R189). -/
  rgnDue : List (Nat × Word) := []
  /-- The configuration commit has locked the RWL fields (R118). -/
  locked : Bool := false
  /-- Frequency in force, MHz (R162). -/
  freq : Nat := 1000
  /-- Frequency the governor means it to run at, reached at a step boundary once its voltage is there (R162, R163). -/
  target : Nat := 1000
  /-- A tile wake waits for a token (R167), and the nanoseconds the delay has lasted. -/
  wakeWaits : List Nat := []
  /-- The next launch after a delayed wake records a RAMP overrun of this many ns (R143). -/
  rampNs : Nat := 0
  /-- Net rise of ACTIVE over the last 1 µs (R168). -/
  rampRise : Nat := 0
  /-- A fallow request waits for the group's last active array (Table ARR-8): groups. -/
  fallowDue : List Nat := []
  /-- The open window of the fallow-slot plan: its groups, and the schedule cycle at which it closes (R144). -/
  window : Option (Word × Nat) := none
  /-- Groups whose repaired spare still needs its array factor measured before the commit (R108 step 4). -/
  karrDue : List Nat := []
  /-- Rows of the repair segments that have been read and verified, by group (R108 step 2). -/
  repairRows : List (Nat × List (BitVec 2048)) := []
  /-- The tile has left a reset, and its calibration source is decided at its first temperature sample (R101). -/
  calDue : Bool := false
  /-- A new BUDGET waits for the step boundary (R165, R171). -/
  budgetDue : Bool := false
  deriving DecidableEq, Repr

end Sys2Proof.Machine
end

