-- ==== Sys2Proof/Machine/State.lean ====
section
/-! DEFINITION. The state of the block: its registers, its memories, the state of its units, and the queue of waiting commands. -/
set_option Elab.async false
namespace Sys2Proof.Machine

/-- Why the block stops with a fault. -/
inductive Fault where
  /-- Raised by SCRATCHPAD_DM_ACCESS alone, of an access of no byte, of more than 64 bytes, or beyond the end of its bank: operands that no fabric DMA
  access carries (R182), so that the spec gives the command no effect and WellFormed refuses it.  Safe: the model stops where the part could not have been asked. -/
  | illFormed
  deriving DecidableEq, Repr

/-- Why the model refuses a command. -/
inductive Refusal where
  /-- The command has no meaning yet.  Safe: nothing is claimed of it. -/
  | notModelled (mnemonic : String)
  deriving DecidableEq, Repr

/-- The device memory: bytes by 40-bit device address (Table MEM-9), rising, none equal to what an unlisted address reads as. -/
abbrev Memory := List Host.Cell

/-- What leaves the part at its ports, for its surroundings to act on. -/
inductive Output where
  /-- An MSI-X message: function, vector (R349). -/
  | msix (f v : Nat)
  /-- A START marker of a job for a step, on the flow of the job's flow entry 0 (R138). -/
  | start (job : DWord) (step : DWord) (flow : Option Nat)
  /-- A STOP marker in place of the START for a step, cause HOLD (false) or FAULT (true). -/
  | stop (job : DWord) (step : DWord) (fault : Bool) (flow : Option Nat)
  /-- A fault notice, or a hold request, from a plot of a job to its leader (R139, R147). -/
  | notice (job : DWord) (fault : Bool)
  /-- A frame to a sub-port. -/
  | frame (port sub : Nat) (body : FrameBody)
  /-- Bytes written to host or peer memory by a function, with Relaxed Ordering or without. -/
  | hostWrite (f : Nat) (addr : Nat) (relaxed : Bool) (bytes : List Byte)
  /-- A read of host memory: function, tag, address, length. -/
  | hostRead (f : Nat) (tag : Nat) (addr : Nat) (len : Nat)
  /-- A PCIe message by name, with the function. -/
  | message (f : Nat) (kind : String) (arg : Nat)
  /-- A completion for a read of a BAR: status 0 success, 1 UR, 2 Completer Abort. -/
  | completion (status : Nat) (bytes : List Byte)
  /-- The answer to an engine's memory request: 0 done, 1 region error, 2 memory error. -/
  | memory (status : Nat) (bytes : List Byte)
  deriving DecidableEq, Repr

/-- The state of the SL-1. -/
structure State where
  /-- Commands waiting, the front first. -/
  pending : List Instr := []
  /-- Register contents that differ from reset, latest written first, at most one entry for each. -/
  regs : List (Reg × Word) := []
  /-- Scratchpads and LPDDR5X. -/
  mem : Memory := []
  /-- Bytes that a ROUTE or SAMPLE in progress has read: first address, length, and whether a master has written one of them since (R122). -/
  watched : List (Nat × Nat × Bool) := []
  /-- How many free values have been drawn: the model's own field. -/
  fresh : Nat := 0
  /-- The headland's count of microseconds since power-on (Table EVR-1). -/
  tick : Nat := 0
  /-- Tiles by number. -/
  tiles : List (Nat × TileState) := []
  /-- Plots by number. -/
  plots : List (Nat × PlotState) := []
  /-- Control cores by number (Table OVW-6). -/
  cores : List (Nat × CoreState) := []
  /-- What has left the part, latest first. -/
  out : List Output := []
  /-- The host endpoint. -/
  host : HostState := {}
  /-- The event recorder. -/
  evr : Recorder := {}
  /-- Telemetry. -/
  tel : Telemetry := {}
  /-- Governor, supplies, references and clock islands beyond their registers. -/
  power : PowerState := {}
  /-- Mailboxes, components and image distribution. -/
  fw : FwState := {}
  /-- The memory system. -/
  ram : MemState := {}
  /-- The checkpoint path by plot, and its dirty pages (device address / 64 KiB): the cumulative and the delta sets (R423). -/
  ckp : List (Nat × CkpState) := []
  dirtyC : List Nat := []
  dirtyD : List Nat := []
  /-- The network path. -/
  net : NetState := {}
  /-- The remote-memory engine and the storage channels. -/
  rma : RmaState := {}
  stg : StgState := {}
  /-- The security island. -/
  sec : SecState := {}
  /-- The seedbed's slots in NVM. -/
  seed : SeedState := {}
  deriving DecidableEq, Repr

/-- The block right after power-on reset: every register at its header's value, memories unwritten, every unit idle, nothing waiting. -/
def State.reset : State := {}

end Sys2Proof.Machine
end

