-- ==== Sys2Proof/Machine/Ops.lean ====
section
/-! DEFINITION. The named operations over registers, memory, tiles, plots, cores, events and ports that every meaning is built from. -/
set_option Elab.async false
namespace Sys2Proof.Machine

/-! ### Registers -/

/-- The entry of a register in the list of written registers. -/
def regFind : List (Reg × Word) → Reg → Option Word
  | [], _ => none
  | (q, v) :: rest, r => if q = r then some v else regFind rest r

/-- The list without a register's entry. -/
def regDrop : List (Reg × Word) → Reg → List (Reg × Word)
  | [], _ => []
  | (q, v) :: rest, r => if q = r then regDrop rest r else (q, v) :: regDrop rest r

/-- The content of a register (R11): the value last stored, or its reset value. -/
def rd (s : State) (r : Reg) : Word := (regFind s.regs r).getD (regReset r)

/-- The state with a register holding a value. -/
def wr (s : State) (r : Reg) (v : Word) : State := { s with regs := (r, v) :: regDrop s.regs r }

/-- A configuration commit gives a register a word: its RW and RWL fields take it, reserved bits read 0 (R10). -/
def wrCommit (s : State) (r : Reg) (v : Word) : State := wr s r (v &&& ((regAccess r).rw ||| (regAccess r).rwl))

/-- The state with field [hi:lo] of a register set. -/
def wrFld (s : State) (r : Reg) (hi lo v : Nat) : State := wr s r (setFld (rd s r) hi lo v)

/-- Field [hi:lo] of a register. -/
def rdFld (s : State) (r : Reg) (hi lo : Nat) : Nat := fld (rd s r) hi lo

/-- The state with bit i of a register set to a value. -/
def wrBit (s : State) (r : Reg) (i : Nat) (b : Bool) : State := wr s r (setBit (rd s r) i b)

/-- The state with bits of a register set, by mask. -/
def orReg (s : State) (r : Reg) (m : Word) : State := wr s r (rd s r ||| m)

/-- The state with a counter register raised, saturating at 0xFFFF_FFFF. -/
def count (s : State) (r : Reg) (n : Nat) : State := wr s r (satAdd (rd s r) n)

/-- The state with every register of a list at its reset value. -/
def resetRegs (s : State) (p : Reg → Bool) : State := { s with regs := s.regs.filter (fun e => !p e.1) }

/-! ### Device memory (Table MEM-9) -/

/-- First device address of the scratchpads. -/
def scratchBase : Nat := 0x4000000000

/-- Device address of byte `a` of the scratchpad of tile t (R179). -/
def scratchAddr (t a : Nat) : Nat := scratchBase + t * 0x400000 + a % 0x400000

/-- What an unlisted device address reads as: 0 in a scratchpad (a cold reset writes zeros, R186), no value in LPDDR5X (a new region reads
unpredictable data until it is written, R195). -/
def memDefault (a : Nat) : Option Byte := if scratchBase ≤ a then some 0 else none

/-- The byte listed or implied at a device address. -/
def memFind (m : Memory) (a : Nat) : Option Byte :=
  match mapFind m a with
  | some b => some b
  | none => memDefault a

/-- The memory with one byte written: an entry that would equal what an unlisted address reads as is removed. -/
def memSet (m : Memory) (a : Nat) (b : Byte) : Memory :=
  if memDefault a = some b then mapErase m a else mapInsert m a b

/-- The canonical form: addresses strictly rising, no entry equal to what an unlisted address reads as. -/
def Memory.wf (m : Memory) : Bool := mapRising m && m.all (fun c => decide (memDefault c.1 ≠ some c.2))

/-- The byte read at a device address.  LPDDR5X that nothing has written since its key was generated reads as a free value (R195). -/
def rdByte (s : State) (a : Nat) : Byte := (memFind s.mem a).getD (Config.lpxUnwritten s.fresh a)

/-- The watched ranges after a write of n bytes from an address on (R122). -/
def hitWatched (l : List (Nat × Nat × Bool)) (a n : Nat) : List (Nat × Nat × Bool) :=
  l.map (fun w => if a < w.1 + w.2.1 ∧ w.1 < a + n then (w.1, w.2.1, true) else w)

/-- The state with one byte of device memory written. -/
def wrByte (s : State) (a : Nat) (b : Byte) : State := { s with mem := memSet s.mem a b, watched := hitWatched s.watched a 1 }

/-- n bytes read from a device address on. -/
def rdBytes (s : State) (a : Nat) : Nat → List Byte
  | 0 => []
  | n + 1 => rdByte s a :: rdBytes s (a + 1) n

/-- Bytes written into memory from a device address on. -/
def memSetAll (m : Memory) (a : Nat) : List Byte → Memory
  | [] => m
  | b :: rest => memSetAll (memSet m a b) (a + 1) rest

/-- The memory with the addresses from a to a + n − 1 holding no entry. -/
def memForget (m : Memory) (a n : Nat) : Memory := m.filter (fun c => decide (c.1 < a) || decide (a + n ≤ c.1))

/-- A little-endian word of the given length at a device address. -/
def rdLe (s : State) (a n : Nat) : Nat := leNat (rdBytes s a n)

/-- Draw a free value: the state with the count of draws raised. -/
def draw (s : State) : State := { s with fresh := s.fresh + 1 }

/-! ### Tiles and plots -/

/-- The state of tile t beyond its registers. -/
def tile (s : State) (t : Nat) : TileState := mapGet {} s.tiles t

/-- The state with tile t changed. -/
def setTile (s : State) (t : Nat) (x : TileState) : State := { s with tiles := mapInsert s.tiles t x }

/-- The state with a function applied to tile t. -/
def onTile (s : State) (t : Nat) (f : TileState → TileState) : State := setTile s t (f (tile s t))

/-- The state of plot p beyond its registers. -/
def plot (s : State) (p : Nat) : PlotState := mapGet {} s.plots p

/-- The state with plot p changed. -/
def setPlot (s : State) (p : Nat) (x : PlotState) : State := { s with plots := mapInsert s.plots p x }

/-- The state with a function applied to plot p. -/
def onPlot (s : State) (p : Nat) (f : PlotState → PlotState) : State := setPlot s p (f (plot s p))

/-- The state of core c beyond its NVC registers. -/
def core (s : State) (c : Nat) : CoreState := mapGet {} s.cores c

/-- The state with core c changed. -/
def setCore (s : State) (c : Nat) (x : CoreState) : State := { s with cores := mapInsert s.cores c x }

/-- The state with a function applied to core c. -/
def onCore (s : State) (c : Nat) (f : CoreState → CoreState) : State := setCore s c (f (core s c))

/-- Tile t belongs to plot p: bit t of the plot's tile mask PLT_TILESp (R397). -/
def inPlot (s : State) (p t : Nat) : Bool := bit (rd s (.pltTiles p (t / 32))) (t % 32)

/-- The plots of the part. -/
def allPlots : List Nat := List.range 12
/-- The tiles of the part (R15). -/
def allTiles : List Nat := List.range 128

/-- The plot that holds tile t, if any. -/
def plotOf (s : State) (t : Nat) : Option Nat := allPlots.find? (fun p => inPlot s p t)

/-- The tiles of plot p, in increasing order. -/
def tilesOf (s : State) (p : Nat) : List Nat := allTiles.filter (inPlot s p)

/-- The tiles of compute die d (R15). -/
def dieTiles (d : Nat) : List Nat := (List.range 16).map (fun j => 16 * d + j)

/-- Apply a function to the state for each number of a list, in order. -/
def forAll (f : State → Nat → State) (s : State) : List Nat → State
  | [] => s
  | x :: rest => forAll f (f s x) rest

/-! ### Writes to memory and dirty pages (R423) -/

/-- LPDDR5X region that holds a device address: enabled, with BASE and SIZE in 16 MiB units (R194). -/
def regionOf (s : State) (a : Nat) : Option Nat :=
  (List.range 32).find? (fun n => bit (rd s (.lpxRgnctl n)) 31 && decide (rdFld s (.lpxRgnbase n) 13 0 * 0x1000000 ≤ a)
    && decide (a < (rdFld s (.lpxRgnbase n) 13 0 + rdFld s (.lpxRgnsize n) 13 0) * 0x1000000))

/-- A page that a checkpoint may hold: of a plot's region or of a scratchpad. -/
def ckpPage (s : State) (page : Nat) : Bool :=
  if scratchBase ≤ page * 0x10000 then true else match regionOf s (page * 0x10000) with | some n => decide (n < 12) | none => false

/-- A page set with one page added. -/
def addPage (l : List Nat) (p : Nat) : List Nat := if l.contains p then l else p :: l

/-- The pages of n bytes from an address on. -/
def pagesOf (a n : Nat) : List Nat := if n = 0 then [] else (List.range ((a + n - 1) / 0x10000 - a / 0x10000 + 1)).map (· + a / 0x10000)

/-- Pages written by a master other than the weight loader are dirty in both sets (R423). -/
def markDirty (s : State) (a n : Nat) : State :=
  let ps := (pagesOf a n).filter (ckpPage s)
  { s with dirtyC := ps.foldl addPage s.dirtyC, dirtyD := ps.foldl addPage s.dirtyD }

/-- The state with bytes written from a device address on by the weight loader, which marks no page (R422). -/
def wrBytesQuiet (s : State) (a : Nat) (bs : List Byte) : State := { s with mem := memSetAll s.mem a bs, watched := hitWatched s.watched a bs.length }

/-- The state with bytes written from a device address on. -/
def wrBytes (s : State) (a : Nat) (bs : List Byte) : State := wrBytesQuiet (markDirty s a bs.length) a bs

/-! ### States of the sequencers and plots, held in their status registers -/

/-- SCH_STATUS.STATE codes (Table SCH-25). -/
def tIdle : Nat := 0
def tCommitted : Nat := 1
def tRunning : Nat := 2
def tEnded : Nat := 3
def tHalted : Nat := 4
def tFaulted : Nat := 5

/-- SCH_STATUS.STATE of tile t. -/
def tileRun (s : State) (t : Nat) : Nat := rdFld s (.schStatus t) 31 29
/-- The state with SCH_STATUS.STATE of tile t set. -/
def setTileRun (s : State) (t v : Nat) : State := wrFld s (.schStatus t) 31 29 v

/-- SCH_PSTAT.STATE codes (Table SCH-34). -/
def pIdle : Nat := 0
def pReady : Nat := 1
def pServing : Nat := 2
def pHeld : Nat := 3
def pFaulted : Nat := 4
def pHalted : Nat := 5

/-- SCH_PSTAT.STATE of plot p. -/
def plotRun (s : State) (p : Nat) : Nat := rdFld s (.schPstat p) 31 29

/-- PLT_PSTAT.STATE codes (Table PLT-2). -/
def pltUndefined : Nat := 0
def pltIdle : Nat := 1
def pltLoading : Nat := 2
def pltReady : Nat := 3
def pltServing : Nat := 4
def pltHeld : Nat := 5
def pltFaulted : Nat := 6
def pltAborting : Nat := 7
def pltScrubbing : Nat := 8

/-- PLT_PSTAT.STATE of plot p (R386). -/
def pltState (s : State) (p : Nat) : Nat := rdFld s (.pltPstat p) 31 28

/-- The schedule view of a plot state (R386): READY, SERVING, HELD and FAULTED show as such, every other as IDLE. -/
def schView (v : Nat) : Nat :=
  if v = pltReady then pReady else if v = pltServing then pServing else if v = pltHeld then pHeld
  else if v = pltFaulted then pFaulted else pIdle

/-- The plot enters a state: PLT_PSTAT.STATE and its schedule view SCH_PSTAT.STATE. -/
def setPlt (s : State) (p v : Nat) : State :=
  wrFld (wrFld s (.pltPstat p) 31 28 v) (.schPstat p) 31 29 (schView v)

/-- Plot p is frozen (R200, R386). -/
def frozen (s : State) (p : Nat) : Bool := bit (rd s (.pltPstat p)) 27

/-- The debug session's scope bit k is open (Table SEC-12). -/
def debugScope (s : State) (k : Nat) : Bool := match s.sec.dbgScope with | some m => m.testBit k | none => false

/-! ### Sparse byte maps -/

/-- Bytes of a sparse byte map. -/
def mapBytes (m : List (Nat × Byte)) (off n : Nat) : Nat := leNat ((List.range n).map (fun i => mapGet 0 m (off + i)))
/-- A sparse byte map with bytes stored from an offset on. -/
def mapStore (m : List (Nat × Byte)) (off : Nat) (bs : List Byte) : List (Nat × Byte) :=
  bs.zipIdx.foldl (fun m e => mapSet 0 m (off + e.2) e.1) m
/-- A sparse byte map with the low bytes of a number stored. -/
def mapPut (m : List (Nat × Byte)) (off n v : Nat) : List (Nat × Byte) := mapStore m off (leBytes n v)

/-! ### Ports and interrupts -/

/-- The SL-1 is stopped in stage S1 (R403). -/
def stoppedInS1 (s : State) : Bool := decide (rdFld s .rstStage 31 29 = 1) && decide (rdFld s .rstStage 28 27 = 2)

/-- Stage S1 has not committed CONFIG and the layout, nor stopped (R406). -/
def configHeld (s : State) : Bool := decide (rdFld s .rstStage 31 29 = 0) || (decide (rdFld s .rstStage 31 29 = 1) && decide (rdFld s .rstStage 28 27 = 0))

/-- The state after something has left the part. -/
def emit (s : State) (o : Output) : State := { s with out := o :: s.out }

/-- Core numbers (R211). -/
def coreWarden : Nat := 0
def corePower : Nat := 1
def coreMgmt : Nat := 2

/-- The state with an interrupt vector of a core pending (R226). -/
def coreIrq (s : State) (c v : Nat) : State :=
  onCore s c (fun x => { x with pend := setBit x.pend v true })

/-- The state with a vector pending at every core of a list. -/
def irqCores (s : State) (cs : List Nat) (v : Nat) : State := forAll (fun s c => coreIrq s c v) s cs
/-- The headland, management, network and security cores (Table NVC-1). -/
def headlandCores : List Nat := [0, 1]
def mgmtCores : List Nat := [2, 3, 4, 5]
def netCores : List Nat := (List.range 16).map (· + 6)
def secCores : List Nat := [22, 23]

/-- The source of an interrupt vector of a core has been cleared (R226). -/
def clearIrq (s : State) (c v : Nat) : State := onCore s c (fun x => { x with pend := setBit x.pend v false })

end Sys2Proof.Machine
end

