-- ==== Sys2Proof/Machine/OpsEvent.lean ====
section
/-! DEFINITION. Interrupts to the host and to cores, and events: the operations every other chapter's rules call to report. -/
set_option Elab.async false
namespace Sys2Proof.Machine

/-- The state of function f at the endpoint. -/
def fnState (s : State) (f : Nat) : FnState := mapGet {} s.host.fns f

/-- The state with a function applied to endpoint function f. -/
def onFn (s : State) (f : Nat) (g : FnState → FnState) : State :=
  { s with host := { s.host with fns := mapInsert s.host.fns f (g (fnState s f)) } }

/-- The PCIe link is up (HIF_LINK.UP). -/
def linkUp (s : State) : Bool := bit (rd s .hifLink) 31

/-- Function f is in heartbeat loss (HIF_HSTAT.LOST, R348). -/
def fnLost (s : State) (f : Nat) : Bool := bit (rd s (.hifHstat f)) 31

/-- PME of function f (R346): vectors 0, 3 and 5 set PME_Status while PME_En is 1; outside D0 a PME message goes out while the link is up,
and in D3cold WAKE_N is driven low. -/
def raisePme (s : State) (f v : Nat) : State :=
  if (fnState s f).pmeEn && (v == 0 || v == 3 || v == 5) then
    let s1 := onFn s f (fun x => { x with pmeStatus := true })
    if (fnState s f).dstate = 0 then s1
    else if (fnState s f).dstate = 4 then { s1 with host := { s1.host with wakeLow := true } }
    else if linkUp s then emit s1 (.message f "PME" v) else s1
  else s

/-- The MSI-X step of a signal: a message where the vector is enabled and unmasked, else its pending bit; held outside D0 (Table HIF-7). -/
def sendMsix (s : State) (f v : Nat) : State :=
  if (fnState s f).dstate ≠ 0 then onFn s f (fun x => { x with heldVectors := x.heldVectors ++ [v] })
  else if !(fnState s f).msixEnable then s
  else if (fnState s f).msixFnMask || !(fnState s f).unmasked.contains v then
    onFn s f (fun x => { x with pba := v :: x.pba.filter (· ≠ v) })
  else emit s (.msix f v)

/-- Signal MSI-X vector v of function f (R334, R346, R348, R349): discarded in heartbeat loss, with no pending bit. -/
def signalFn (s : State) (f v : Nat) : State :=
  if fnLost s f then s else sendMsix (raisePme s f v) f v

/-- The readers of the recorder (R440): the PF, the VFs, management firmware. -/
def readers : List Nat := List.range 14

/-- Reader e may see records of plot q unmasked (R441). -/
def readerSees (e q : Nat) : Bool := e == 0 || e == 13 || q + 1 == e

/-- R442: a record at or above a reader's MINSEV sets PEND and signals vector 5, or Novdy vector 12 of management firmware. -/
def notifyReader (ev : Event) (s : State) (e : Nat) : State :=
  if readerSees e ev.plot && decide (rdFld s (.evrIrq e) 1 0 ≤ ev.sev) then
    let s1 := wrBit s (.evrIrq e) 31 true
    if e = 13 then coreIrq s1 coreMgmt 12 else signalFn s1 e 5
  else s

/-- The queue of a source island. -/
def eventQueue (s : State) (i : Nat) : EventQueue := mapGet {} s.evr.queues i

/-- An event enters its source's queue of 4, taking its TICK; a full queue drops it into EVR_DROPCNT (R438). -/
def recordEvent (s : State) (code plot sev island object : Nat) (value : Word) (extra : Nat) : State :=
  let q := eventQueue s island
  if q.events.length < 4 then
    let ev : Event := { code := code, plot := plot, sev := sev, dropped := false, island := island, tick := s.tick,
                        object := object, value := value, extra := BitVec.ofNat 64 extra }
    { s with evr := { s.evr with
        queues := mapInsert s.evr.queues island { q with events := q.events ++ [ev] }
        order := s.evr.order ++ [island] } }
  else
    count { s with evr := { s.evr with queues := mapInsert s.evr.queues island { q with dropped := q.dropped + 1 } } } .evrDropcnt 1

/-- PLOT of an event of the module (Table EVR-1). -/
def moduleEvent : Nat := 0xFF

/-! ### Islands (Table PWR-1) -/
def islHeadland : Nat := 0
def islSecurity : Nat := 1
def islMgmt : Nat := 2
def islFabric : Nat := 3
def islPacket : Nat := 4
def islPcie : Nat := 5
def islPort (p : Nat) : Nat := 8 + p
def islLpx (c : Nat) : Nat := 24 + c
def islTile (t : Nat) : Nat := 64 + t

/-- PLOT field of an event about tile t. -/
def plotField (s : State) (t : Nat) : Nat := (plotOf s t).getD moduleEvent

/-! ### Fuses (Table SEC-1) -/

/-- A fuse word. -/
def fuse (s : State) (k : Nat) : Word := mapGet 0 s.sec.fuses k
/-- Eight words from a word on, as bytes. -/
def fuseDigest (s : State) (k : Nat) : List Byte := (List.range 8).flatMap (fun i => leBytes 4 (fuse s (k + i)).toNat)
/-- ROOT_SECRET, words 0 to 7. -/
def rootSecret (s : State) : List Byte := fuseDigest s 0

end Sys2Proof.Machine
end

