-- ==== Sys2Proof/Machine/OpsMsg.lean ====
section
/-! DEFINITION. Mailboxes: taking a request, the checks every request meets, and posting a response (R243 to R247). -/
set_option Elab.async false
namespace Sys2Proof.Machine

/-! ### Status codes (Table FWM-5) -/
def stOk : Nat := 0
def stRefused : Nat := 1
def stNotReady : Nat := 2
def stUnknownType : Nat := 3
def stBadVersion : Nat := 4
def stBadLength : Nat := 5
def stNotPermitted : Nat := 6
def stBusy : Nat := 7
def stNoHello : Nat := 8
def stLost : Nat := 9
def stNoSpace : Nat := 10
def stUnsupported : Nat := 11

/-- Owner number of the management port. -/
def mgmtPort : Nat := 13

/-- The mailbox of an owner. -/
def box (s : State) (o : Nat) : MailboxState := mapGet {} s.fw.boxes o
/-- The state with a function applied to an owner's mailbox. -/
def onBox (s : State) (o : Nat) (f : MailboxState → MailboxState) : State :=
  { s with fw := { s.fw with boxes := mapInsert s.fw.boxes o (f (box s o)) } }

/-- Slots per ring (Table FWM-3). -/
def ringSlots (o : Nat) : Nat := if o = 0 ∨ o = mgmtPort then 32 else 16

/-- Messages posted and not read: FFPI − FFCI modulo 2^16. -/
def ffUsed (s : State) (o : Nat) : Nat := (rdFld s (.mbxFfpi o) 15 0 + 0x10000 - rdFld s (.mbxFfci o) 15 0) % 0x10000
/-- Requests written and not taken: TFPI − TFCI modulo 2^16. -/
def tfUsed (s : State) (o : Nat) : Nat := (rdFld s (.mbxTfpi o) 15 0 + 0x10000 - rdFld s (.mbxTfci o) 15 0) % 0x10000

/-- Bytes of a slot (R243). -/
def ringSlot : Nat := 1024

/-- A message as its slot holds it (Table FWM-4): header and payload. -/
def messageBytes (flags type : Nat) (seq : Word) (version plot status detail : Nat) (payload : List Byte) : List Byte :=
  leBytes 1 version ++ leBytes 1 flags ++ leBytes 2 type ++ leBytes 4 seq.toNat ++ leBytes 2 payload.length ++ leBytes 1 plot ++ leBytes 1 0
    ++ leBytes 2 status ++ leBytes 2 detail ++ payload

/-- PLOT of a message (Table FWM-4). -/
def plotByte (m : Msg) : Nat := match m.plot with | some p => p.val | none => 0xFF

/-- A response or unsolicited message is written into slot FFPI mod N of its ring (R244). -/
def fillSlotBytes (s : State) (o : Nat) (r : Response) : State :=
  if o = mgmtPort then s
  else
    let bs := messageBytes (if r.unsol then 2 else 1) r.type r.seq r.version r.plot r.status r.detail r.payload
    onBox s o (fun b => { b with ff := mapStore b.ff (rdFld s (.mbxFfpi o) 15 0 % ringSlots o * ringSlot) bs })

/-- A message enters a from-firmware ring and raises vector 0, or is held while the ring is full (R244); the management port takes one record a
message. -/
def postMsg (s : State) (o : Nat) (r : Response) : State :=
  if ringSlots o ≤ ffUsed s o then onBox s o (fun b => { b with held := b.held ++ [r] })
  else
    let s1 := onBox (fillSlotBytes s o r) o (fun b => { b with posted := b.posted ++ [r] })
    let s2 := wr s1 (.mbxFfpi o) (BitVec.ofNat 32 ((rdFld s1 (.mbxFfpi o) 15 0 + 1) % 0x10000))
    if o = mgmtPort then emit s2 (.message mgmtPort "RECORD" r.type) else signalFn s2 o 0

/-- An unsolicited message of the module (SEQ 0). -/
def postUnsol (s : State) (o type status detail : Nat) (payload : List Byte) : State :=
  postMsg s o { type := type, seq := 0, unsol := true, status := status, detail := detail, version := max 1 (box s o).version, plot := 0xFF, payload := payload }

/-- Management cores are told of requests that firmware has not taken: of the VFs by vector 13 (Table FWM-19), of the PF by vector 10; with none left the source is clear (R226).  Which core takes vector 10: DEDUCED, log entry 127. -/
def showRequests (s : State) : State :=
  let waits := fun (o : Nat) => (box s o).requests.any (fun r => !r.taken)
  let s1 := if (List.range 12).any (fun p => waits (p + 1)) then s else forAll (fun s c => clearIrq s c 13) s mgmtCores
  if waits 0 then s1 else forAll (fun s c => clearIrq s c 10) s1 mgmtCores

/-- The response to a request: the request leaves the to-firmware ring, and the response is posted.  A request that a mailbox reset or a new host
generation has dropped is answered no more (R247). -/
def answer (s : State) (o : Nat) (seq : Word) (version type status detail : Nat) (payload : List Byte) : State :=
  if !(box s o).requests.any (fun r => r.seq == seq) then s
  else
    let untaken := (box s o).requests.any (fun r => r.seq == seq && !r.taken)
    let s1 := onBox s o (fun b => { b with requests := b.requests.filter (fun r => !(r.seq == seq)) })
    let s2 := if untaken then showRequests (wr s1 (.mbxTfci o) (BitVec.ofNat 32 ((rdFld s1 (.mbxTfci o) 15 0 + 1) % 0x10000))) else s1
    let plot := match (box s o).requests.find? (fun r => r.seq == seq) with | some r => r.plot | none => 0xFF
    postMsg s2 o { type := type, seq := seq, unsol := false, status := status, detail := detail, version := version, plot := plot, payload := payload }

/-- The response to message `m`, of a type, with a status, detail and payload. -/
def respond (s : State) (m : Msg) (type status detail : Nat) (payload : List Byte) : State :=
  answer s m.owner m.seq m.version type status detail payload

/-- Firmware takes the request (R244): TFCI advances, and the response is owed. -/
def takeRequest (s : State) (m : Msg) (type : Nat) : State :=
  let o := m.owner.val
  if (box s o).requests.any (fun r => r.seq == m.seq && !r.taken) then
    showRequests (wr (onBox s o (fun b => { b with requests := b.requests.map (fun r => if r.seq = m.seq then { r with taken := true } else r) }))
      (.mbxTfci o) (BitVec.ofNat 32 ((rdFld s (.mbxTfci o) 15 0 + 1) % 0x10000)))
  else if (box s o).requests.any (fun r => r.seq == m.seq) then s
  else onBox s o (fun b => { b with requests := b.requests ++ [⟨type, m.seq, true, plotByte m⟩] })

/-- N requests of the mailbox are outstanding, and this one is not among them (R244). -/
def beyondLimit (s : State) (m : Msg) : Bool :=
  decide (ringSlots m.owner ≤ (box s m.owner).requests.length) && !(box s m.owner).requests.any (fun r => r.seq == m.seq)

/-- Stage n has been entered: gate or stage number reached (RST_STAGE.STAGE). -/
def stageReached (s : State) (n : Nat) : Bool := decide (n ≤ rdFld s .rstStage 31 29)

/-- What a message type asks of its sender and of the part. -/
structure MsgRule where
  /-- TYPE (Table FWM-6 and the tables of other chapters). -/
  type : Nat
  /-- VFs may send it. -/
  vf : Bool
  /-- It names a plot. -/
  needsPlot : Bool := false
  /-- Feature bit it needs (Table FWM-8). -/
  feature : Option Nat := none
  /-- Stage before which it is answered NOT_READY (R408). -/
  stage : Nat := 0
  /-- Its payload length, where the rule fixes one. -/
  len : Option Nat := none

/-- A feature bit of a mailbox's common subset. -/
def hasFeature (s : State) (o n : Nat) : Bool := ((box s o).features.getD (n / 8) 0).toNat.testBit (n % 8)

/-- The status a request meets before its own rule (R244, R246, R408), none where it is served.  A VF names its own plot. -/
def gateStatus (s : State) (m : Msg) (r : MsgRule) : Option (Nat × Nat) :=
  let b := box s m.owner
  if !s.fw.up then some (stNotReady, m.version)
  else if b.noHello then some (stNoHello, 1)
  else if b.version ≠ 0 ∧ m.version ≠ b.version then some (stBadVersion, 1)
  else if decide (1 ≤ m.owner.val) && decide (m.owner.val ≤ 12)
      && (!r.vf || (match m.plot with | some p => p.val + 1 != m.owner.val | none => true)) then
    some (stNotPermitted, m.version)
  else if r.needsPlot && m.plot.isNone then some (stRefused, m.version)
  else if (match r.feature with | some n => !hasFeature s m.owner n | none => false) then some (stUnsupported, m.version)
  else if !stageReached s r.stage then some (stNotReady, m.version)
  else if (match r.len with | some n => m.length != n | none => decide (1008 < m.length)) then some (stBadLength, m.version)
  else none

/-- A request is taken, checked, and served by `f`, which answers it or leaves the answer owed; one beyond the N that may be outstanding is not taken (R244). -/
def serve (s : State) (m : Msg) (r : MsgRule) (f : State → State) : State :=
  let s1 := takeRequest s m r.type
  if beyondLimit s m then s
  else match gateStatus s1 m r with
  | some (st, v) => answer s1 m.owner m.seq v r.type st 0 []
  | none => f s1

/-- The plot a message names; 0 where the gate has let a message without one pass. -/
def msgPlot (m : Msg) : Nat := match m.plot with | some p => p.val | none => 0

end Sys2Proof.Machine
end

