-- ==== Sys2Proof/Machine/CalStore.lean ====
section
/-! DEFINITION. The engine's record of a group, and the calibration and training stores in NVM: their layout, their authenticity, and saves (R57, R88, R91,
R103 to R106, R197). -/
set_option Elab.async false
namespace Sys2Proof.Machine

/-! ### The engine's record of a group -/

/-- CAL_GSTAT.STATE codes (Table CAL-5). -/
def calUncal : Nat := 0
def calForeground : Nat := 1
def calProbation : Nat := 2
def calAdmitted : Nat := 3
def calRecal : Nat := 4
def calStale : Nat := 5
def calLost : Nat := 6

/-- CAL_GSTATg.STATE of a group. -/
def calState (s : State) (t g : Nat) : Nat := rdFld s (.calGstat t g) 31 29
/-- The state with CAL_GSTATg.STATE set. -/
def setCalState (s : State) (t g v : Nat) : State := wrFld s (.calGstat t g) 31 29 v
/-- The engine's record of a group. -/
def calOf (s : State) (t g : Nat) : GroupCal := mapGet {} (tile s t).cal g
/-- The state with a function applied to it. -/
def onCal (s : State) (t g : Nat) (f : GroupCal → GroupCal) : State :=
  onTile s t (fun x => { x with cal := mapInsert x.cal g (f (mapGet {} x.cal g)) })
/-- Layer temperature of group g in ARR_TEMP, °C (R57); groups 8L to 8L + 7 lie on layer L. -/
def layerTemp (s : State) (t g : Nat) : Int := (fld (rd s (.arrTemp t)) (8 * (g / 8) + 7) (8 * (g / 8)) : Int) - 64

/-- ARR_GRP.SPARE codes (Table ARR-9). -/
def spEmpty : Nat := 0
def spReference : Nat := 1
def spProgramming : Nat := 2
def spReady : Nat := 3
def spInUse : Nat := 4
def spFailed : Nat := 5

/-- The spare state of group g. -/
def spare (s : State) (t g : Nat) : Nat := rdFld s (.arrGrp t g) 18 16
/-- The state with the spare state of group g set. -/
def setSpare (s : State) (t g v : Nat) : State := wrFld s (.arrGrp t g) 18 16 v

/-! ### Exact numbers -/

/-- Round to nearest, ties to even, of a rational. -/
def rneRat (q : Rat) : Int :=
  let f := q.floor
  let r := q - f
  if r < 1 / 2 then f else if 1 / 2 < r then f + 1 else if f % 2 = 0 then f else f + 1

/-- A factor as the store and CAL_TRIMDATA hold it: 2 integer and 14 fraction bits. -/
def fix14 (q : Rat) : Nat := (max 0 (min 0xFFFF (rneRat (16384 * q)))).toNat

/-- Such a factor as a number. -/
def ofFix14 (n : Nat) : Rat := (n : Rat) / 16384

/-! ### The store's bytes (Tables CAL-6 to CAL-9) -/

/-- n reserved bytes, all 0 (R103). -/
def zeros (n : Nat) : List Byte := List.replicate n 0

/-- A converter entry (Table CAL-9). -/
def convBytes (e : BitVec 6 × BitVec 6 × Half) : List Byte := leBytes 4 (e.1.toNat * 2 ^ 26 + e.2.1.toNat * 2 ^ 20 + e.2.2.toNat)

/-- The 2,176 bytes of a group record (Table CAL-8). -/
def calGroupBytes (q : CalGroupRec) : List Byte :=
  leBytes 1 q.retired ++ leBytes 1 (boolNat q.spareBad + 2 * boolNat q.refBad + 4 * boolNat q.lost + 8 * boolNat q.present)
    ++ q.karr.flatMap (leBytes 2) ++ zeros 28 ++ q.conv.flatMap convBytes ++ zeros 48

/-- Bytes [73711:0] of a tile record (Table CAL-7), which its CMAC covers. -/
def calTileBytes (r : CalTileRec) : List Byte :=
  leBytes 2 r.tile ++ zeros 6 ++ leBytes 8 r.cdieId.toNat ++ r.cimIds.flatMap (fun i => leBytes 8 i.toNat) ++ r.temps.flatMap (leBytes 1) ++ zeros 12
    ++ r.groups.flatMap calGroupBytes ++ zeros 16

/-- Bytes [47:0] of a copy's header (Table CAL-6), which its CMAC covers. -/
def calHeaderBytes (c : CalCopy) : List Byte :=
  leBytes 4 c.magic.toNat ++ leBytes 2 c.format ++ zeros 2 ++ leBytes 4 c.seq ++ leBytes 4 c.ntiles ++ leBytes 4 c.trecSize ++ zeros 28

/-- A copy as it stands in NVM: the 4,096-byte header and 128 records of 73,728 bytes (R103); a record that was never written is erased flash. -/
def calCopyBytes (c : CalCopy) : List Byte :=
  calHeaderBytes c ++ leBytes 16 c.cmac.toNat ++ zeros 4032
    ++ allTiles.flatMap (fun t => match mapFind c.tiles t with
        | some r => calTileBytes r ++ leBytes 16 r.cmac.toNat
        | none => List.replicate 73728 0xFF)

/-- Bytes of the partition: copy A, then copy B. -/
def calPartitionBytes (s : State) : List Byte := calCopyBytes s.ram.calA ++ calCopyBytes s.ram.calB

/-- AES-CMAC under the key derived from ROOT_SECRET with the label "CALSTORE" (R104), and with "LPXTRAIN" (R197). -/
def calstoreMac (s : State) (m : List Byte) : BitVec 128 := Config.aesCmac (kdfKey (rootSecret s) "CALSTORE" []) m
def trainMac (s : State) (m : List Byte) : BitVec 128 := Config.aesCmac (kdfKey (rootSecret s) "LPXTRAIN" []) m

/-! ### Authenticity (R104) and die identifiers (R91) -/

/-- A copy's header is one that the device wrote. -/
def copyAuthentic (s : State) (c : CalCopy) : Bool :=
  c.magic == 0x53434C53 && c.format == 1 && c.ntiles == 128 && c.trecSize == 73728 && c.cmac == calstoreMac s (calHeaderBytes c)

/-- A tile record is one that the device wrote, for tile t. -/
def recAuthentic (s : State) (t : Nat) (r : CalTileRec) : Bool := r.tile == t && r.cmac == calstoreMac s (calTileBytes r)

/-- SEQ of a copy that counts: 0 where its header does not verify. -/
def copySeq (s : State) (c : CalCopy) : Nat := if copyAuthentic s c then c.seq else 0

/-- The copies whose header verifies, the one with the higher SEQ first.  Of two with equal SEQ, B goes first: DESIGN CHOICE, log entry 115; a save never leaves two such. -/
def calCopies (s : State) : List CalCopy :=
  (if s.ram.calA.seq ≤ s.ram.calB.seq then [s.ram.calB, s.ram.calA] else [s.ram.calA, s.ram.calB]).filter (copyAuthentic s)

/-- The record of tile t in force: that of the newer copy, or, where it does not verify, that of the other. -/
def tileRecord (s : State) (t : Nat) : Option CalTileRec := ((calCopies s).filterMap (fun c => mapFind c.tiles t)).find? (recAuthentic s t)

/-- The record's compute-die identifier and that of CIM layer L match the factory records. -/
def layerMatches (t l : Nat) (r : CalTileRec) : Bool :=
  r.cdieId == Config.cdieId (t / 16) && r.cimIds[l]? == some (Config.cimId (t / 16) l)

/-- All the record's die identifiers match. -/
def diesMatch (t : Nat) (r : CalTileRec) : Bool := (List.range 4).all (fun l => layerMatches t l r)

/-! ### Saves (R105, R197) -/

/-- The group record of the snapshot (Tables CAL-8, CAL-9).  SPARE_BAD is that of a spare FAILED, or restored so: DEDUCED, log entry 116. -/
def groupRec (s : State) (t g : Nat) : CalGroupRec :=
  let k := calOf s t g
  { retired := rdFld s (.arrGrp t g) 4 0, spareBad := k.spareBad || spare s t g == spFailed, refBad := bit (rd s (.calFlag t g)) 30,
    lost := bit (rd s (.arrGrp t g)) 23, present := calState s t g == calAdmitted,
    karr := (List.range 17).map (fun p => fix14 (mapGet 1 k.karr p)),
    conv := (List.range 516).map (fun c => (mapGet 0 k.gt c, mapGet 0 k.ot c, BitVec.ofNat 16 (fix14 (mapGet 1 k.kcol c)))) }

/-- The tile record of the snapshot (Table CAL-7). -/
def tileRec (s : State) (t : Nat) : CalTileRec :=
  let r : CalTileRec :=
    { tile := t, cdieId := Config.cdieId (t / 16), cimIds := (List.range 4).map (Config.cimId (t / 16))
      temps := (List.range 4).map (fun l => (rdFld s (.arrTemp t) (8 * l + 7) (8 * l))), groups := (List.range 32).map (groupRec s t), cmac := 0 }
  { r with cmac := calstoreMac s (calTileBytes r) }

/-- A copy of a sequence number with its records. -/
def newCopy (s : State) (seq : Nat) (tiles : List (Nat × CalTileRec)) : CalCopy :=
  let c : CalCopy := { magic := 0x53434C53, format := 1, seq := seq, ntiles := 128, trecSize := 73728, cmac := 0, tiles := tiles }
  { c with cmac := calstoreMac s (calHeaderBytes c) }

/-- What the CMAC of a copy of the training store covers; its layout is not stated: log entry 110. -/
def trainBytes (c : TrainCopy) : List Byte := leBytes 4 c.seq ++ c.recs.flatMap (fun e => leBytes 1 e.1 ++ leBytes 4 e.2.mr.toNat ++ leBytes 1 e.2.temp ++ leBytes 8 e.2.values)

/-- A copy of the training store is one that the device wrote. -/
def trainAuthentic (s : State) (c : TrainCopy) : Bool := c.seq != 0 && c.cmac == trainMac s (trainBytes c)

/-- SEQ of a copy of the training store that counts. -/
def trainSeq (s : State) (c : TrainCopy) : Nat := if trainAuthentic s c then c.seq else 0

/-- The saved training record of a controller in force. -/
def trainRecord (s : State) (c : Nat) : Option TrainRec :=
  let l := if s.ram.trainA.seq ≤ s.ram.trainB.seq then [s.ram.trainB, s.ram.trainA] else [s.ram.trainA, s.ram.trainB]
  (l.find? (trainAuthentic s)).bind (fun k => mapFind k.recs c)

/-- A new copy of the training store. -/
def newTrain (s : State) (seq : Nat) : TrainCopy :=
  let c : TrainCopy := { seq := seq, recs := s.ram.trained, cmac := 0 }
  { c with cmac := trainMac s (trainBytes c) }

/-- Every tile has been snapshot: of each store the copy with the lower SEQ is written, one above the other's, and the save is answered. -/
def finishSave (s : State) (k : CalSave) : State :=
  let a := copySeq s s.ram.calA
  let b := copySeq s s.ram.calB
  let s1 := if a ≤ b then { s with ram := { s.ram with calA := newCopy s (b + 1) k.tiles, saving := none } }
    else { s with ram := { s.ram with calB := newCopy s (a + 1) k.tiles, saving := none } }
  let x := trainSeq s s.ram.trainA
  let y := trainSeq s s.ram.trainB
  let s2 := if x ≤ y then { s1 with ram := { s1.ram with trainA := newTrain s (y + 1) } } else { s1 with ram := { s1.ram with trainB := newTrain s (x + 1) } }
  answer s2 k.owner k.seq k.version k.type stOk 0 []

/-- Tiles that have met a step boundary are snapshot for the save in progress. -/
def snapshotTiles (s : State) (ts : List Nat) : State :=
  match s.ram.saving with
  | none => s
  | some k =>
    let now := k.due.filter ts.contains
    let k' := { k with due := k.due.filter (fun t => !ts.contains t), tiles := now.foldl (fun m t => mapInsert m t (tileRec s t)) k.tiles }
    if k'.due.isEmpty then finishSave s k' else { s with ram := { s.ram with saving := some k' } }

end Sys2Proof.Machine
end

