-- ==== Sys2Proof/Machine/Float.lean ====
section
/-! DEFINITION. Number formats and their arithmetic (R71 to R75): values are exact, and one function rounds. -/
set_option Elab.async false
namespace Sys2Proof.Machine

/-- An exact value: NaN, an infinity, or ± m × 2^e (m = 0 a signed zero). -/
inductive Fp where
  | nan
  | inf (neg : Bool)
  | fin (neg : Bool) (m : Nat) (e : Int)
  deriving DecidableEq, Repr

/-- 2 to a non-negative Int power. -/
def pow2 (e : Int) : Nat := 2 ^ e.toNat

/-- The signed integer mantissa of a finite value at exponent e0, no larger than its own. -/
def fpInt (neg : Bool) (m : Nat) (e e0 : Int) : Int :=
  if neg then -((m * pow2 (e - e0) : Nat) : Int) else ((m * pow2 (e - e0) : Nat) : Int)

/-- Is the value NaN? -/
def fpIsNan : Fp → Bool
  | .nan => true
  | _ => false

/-- Is the value finite? -/
def fpIsFin : Fp → Bool
  | .fin _ _ _ => true
  | _ => false

/-- Is the value a zero? -/
def fpIsZero : Fp → Bool
  | .fin _ m _ => m == 0
  | _ => false

/-- The sign of a value; NaN has none. -/
def fpNeg : Fp → Bool
  | .nan => false
  | .inf n => n
  | .fin n _ _ => n

/-- An integer as a value. -/
def fpOfInt (i : Int) : Fp := .fin (decide (i < 0)) i.natAbs 0

/-- The exact product. -/
def fpMul : Fp → Fp → Fp
  | .nan, _ => .nan
  | _, .nan => .nan
  | .inf a, .inf b => .inf (a != b)
  | .inf a, .fin b m _ => if m = 0 then .nan else .inf (a != b)
  | .fin a m _, .inf b => if m = 0 then .nan else .inf (a != b)
  | .fin a m e, .fin b k f => .fin (a != b) (m * k) (e + f)

/-- The exact sum under round to nearest: an exact zero of unlike signs is +0. -/
def fpAdd : Fp → Fp → Fp
  | .nan, _ => .nan
  | _, .nan => .nan
  | .inf a, .inf b => if a = b then .inf a else .nan
  | .inf a, .fin _ _ _ => .inf a
  | .fin _ _ _, .inf b => .inf b
  | .fin a m e, .fin b k f =>
    let e0 := min e f
    let i := fpInt a m e e0 + fpInt b k f e0
    if i = 0 then .fin (a && b) 0 e0 else .fin (decide (i < 0)) i.natAbs e0

/-- The value with its sign turned. -/
def fpNegate : Fp → Fp
  | .nan => .nan
  | .inf a => .inf (!a)
  | .fin a m e => .fin (!a) m e

/-- The value times 2^k. -/
def fpScale (k : Int) : Fp → Fp
  | .fin a m e => .fin a m (e + k)
  | x => x

/-- Less-than over the order of R459 without NaN: −∞ lowest, −0 below +0, +∞ highest. -/
def fpLt : Fp → Fp → Bool
  | .nan, _ => false
  | _, .nan => false
  | .inf a, .inf b => a && !b
  | .inf a, .fin _ _ _ => a
  | .fin _ _ _, .inf b => !b
  | .fin a m e, .fin b k f =>
    let e0 := min e f
    let i := fpInt a m e e0
    let j := fpInt b k f e0
    if i < j then true else if j < i then false else a && !b

/-- Numeric less-than (IEEE 754): −0 equals +0. -/
def fpLess (x y : Fp) : Bool := if fpIsZero x && fpIsZero y then false else fpLt x y

/-- The exact ratio as sticky mantissa and exponent: enough bits that rounding to any format here is right. -/
def fpDiv : Fp → Fp → Fp
  | .nan, _ => .nan
  | _, .nan => .nan
  | .inf _, .inf _ => .nan
  | .inf a, .fin b _ _ => .inf (a != b)
  | .fin a _ _, .inf b => .fin (a != b) 0 0
  | .fin a m e, .fin b k f =>
    if k = 0 then (if m = 0 then .nan else .inf (a != b))
    else
      let sh := 64 + Nat.log2 k
      let q := m * 2 ^ sh / k
      let r := m * 2 ^ sh % k
      .fin (a != b) (2 * q + (if r = 0 then 0 else 1)) (e - f - sh - 1)

/-- How an inexact value rounds (R75): to nearest with ties to even, or by a 16-bit draw. -/
inductive Rounding where
  | nearest
  | draw (r : Nat)
  deriving DecidableEq, Repr

/-- m × 2^e rounded to a multiple of 2^u, in units of 2^u. -/
def roundUnits (rm : Rounding) (m : Nat) (e u : Int) : Nat :=
  if u ≤ e then m * pow2 (e - u)
  else
    let sh := (u - e).toNat
    let q := m / 2 ^ sh
    let rem := m % 2 ^ sh
    match rm with
    | .nearest => if 2 ^ sh < 2 * rem ∨ (2 * rem = 2 ^ sh ∧ q % 2 = 1) then q + 1 else q
    | .draw r => if r < rem * 65536 / 2 ^ sh then q + 1 else q

/-- A binary format: significand bits p, exponent of the smallest step, largest finite value as units × 2^exponent. -/
structure FFmt where
  p : Nat
  emin : Int
  maxUnits : Nat
  maxExp : Int
  deriving DecidableEq, Repr

/-- FP32 (Table SHL-5). -/
def fmtF32 : FFmt := ⟨24, -149, 2 ^ 24 - 1, 104⟩
/-- BF16 (Table SHL-5). -/
def fmtBf16 : FFmt := ⟨8, -133, 2 ^ 8 - 1, 120⟩

/-- What lies beyond the largest finite value: infinity, or that value (OVF of R74, Table SHL-6). -/
inductive Beyond where
  | infinity
  | saturate
  deriving DecidableEq, Repr

/-- Round an exact value to a format: one rounding, subnormals honoured. -/
def fpRound (fm : FFmt) (rm : Rounding) (bd : Beyond) : Fp → Fp
  | .fin neg m e =>
    if m = 0 then .fin neg 0 fm.emin
    else
      let u := max fm.emin (e + (Nat.log2 m : Nat) + 1 - fm.p)
      let q := roundUnits rm m e u
      if q = 0 then .fin neg 0 fm.emin
      else if fpLt (.fin false fm.maxUnits fm.maxExp) (.fin false q u) then
        match bd with
        | .infinity => .inf neg
        | .saturate => .fin neg fm.maxUnits fm.maxExp
      else .fin neg q u
  | x => match bd, x with
    | .saturate, .inf neg => .inf neg
    | _, y => y

/-- The IEEE code of a value already rounded to a format of `eb` exponent bits and p − 1 fraction bits. -/
def ieeeCode (fm : FFmt) (eb : Nat) : Fp → Nat
  | .nan => (2 ^ eb - 1) * 2 ^ (fm.p - 1) + 2 ^ (fm.p - 2)
  | .inf neg => boolNat neg * 2 ^ (eb + fm.p - 1) + (2 ^ eb - 1) * 2 ^ (fm.p - 1)
  | .fin neg m e =>
    let sg := boolNat neg * 2 ^ (eb + fm.p - 1)
    if m = 0 then sg
    else
      let l : Int := (Nat.log2 m : Nat) + e          -- exponent of the leading bit
      let u := max fm.emin (l + 1 - fm.p)
      let q := if u ≤ e then m * pow2 (e - u) else m / pow2 (u - e)
      -- a subnormal has exponent field 0 and fraction q; a normal one adds its leading bit into the field
      sg + (u - fm.emin).toNat * 2 ^ (fm.p - 1) + q

/-- The value of an IEEE-style code with all-ones exponents for infinity and NaN. -/
def ieeeValue (fm : FFmt) (eb : Nat) (c : Nat) : Fp :=
  let neg := c / 2 ^ (eb + fm.p - 1) % 2 = 1
  let ex := c / 2 ^ (fm.p - 1) % 2 ^ eb
  let fr := c % 2 ^ (fm.p - 1)
  if ex = 2 ^ eb - 1 then (if fr = 0 then .inf neg else .nan)
  else if ex = 0 then .fin neg fr fm.emin
  else .fin neg (2 ^ (fm.p - 1) + fr) (fm.emin + ex - 1)

/-- The value of an FP32 code. -/
def f32 (w : Word) : Fp := ieeeValue fmtF32 8 w.toNat
/-- The FP32 code of a rounded value; every NaN is 0x7FC0_0000 (R74). -/
def toF32 (x : Fp) : Word := BitVec.ofNat 32 (ieeeCode fmtF32 8 x)
/-- The value of a BF16 code. -/
def bf16 (h : Nat) : Fp := ieeeValue fmtBf16 8 h
/-- The BF16 code of a rounded value; every NaN is 0x7FC0 (R74). -/
def toBf16 (x : Fp) : Nat := ieeeCode fmtBf16 8 x

/-- FP32 rounding under RNE with overflow to infinity: the arithmetic of the sampler, the reductions and the DMX. -/
def rneF32 (x : Fp) : Fp := fpRound fmtF32 .nearest .infinity x

/-- Beyond under the OVF bit (R74). -/
def ovfBeyond (ovf : Bool) : Beyond := if ovf then .saturate else .infinity

/-! ### Stochastic rounding (R75, R84) -/

/-- mix(z) of R84. -/
def mix (z0 : DWord) : DWord :=
  let z1 := (z0 ^^^ (z0 >>> 30)) * 0xbf58476d1ce4e5b9
  let z2 := (z1 ^^^ (z1 >>> 27)) * 0x94d049bb133111eb
  z2 ^^^ (z2 >>> 31)

/-- The golden-ratio constant of R75 and R85. -/
def golden : DWord := 0x9e3779b97f4a7c15

/-- The draw r of R75 for tile t, schedule cycle and element index. -/
def drawBits (seed : DWord) (t cycle idx : Nat) : Nat :=
  (mix (seed + BitVec.ofNat 64 (2 ^ 63 + t * 2 ^ 44 + cycle * 2 ^ 12 + idx) * golden)).toNat % 65536

/-- The rounding of an operation under its RND bit. -/
def rounding (rnd : Bool) (seed : DWord) (t cycle idx : Nat) : Rounding :=
  if rnd then .draw (drawBits seed t cycle idx) else .nearest

/-! ### MX elements (R72, R73) -/

/-- An element format of an MX block, by OUTFMT code (Table SHL-10). -/
structure MxFmt where
  bits : Nat
  eb : Nat
  fm : FFmt
  emax : Int
  isInt : Bool
  deriving DecidableEq, Repr

/-- The element format of an OUTFMT code 0x2 to 0x7 (Tables SHL-5, SHL-6). -/
def mxFmt : Nat → Option MxFmt
  | 2 => some ⟨8, 4, ⟨4, -9, 14, 5⟩, 8, false⟩        -- E4M3: 448 = 14 × 2^5
  | 3 => some ⟨8, 5, ⟨3, -16, 7, 13⟩, 15, false⟩      -- E5M2: 57,344 = 7 × 2^13
  | 4 => some ⟨6, 3, ⟨3, -4, 7, 2⟩, 4, false⟩         -- E3M2: 28 = 7 × 2^2
  | 5 => some ⟨6, 2, ⟨4, -3, 15, -1⟩, 2, false⟩       -- E2M3: 7.5 = 15 × 2^-1
  | 6 => some ⟨4, 2, ⟨2, -1, 3, 1⟩, 2, false⟩         -- E2M1: 6 = 3 × 2^1
  | 7 => some ⟨8, 0, ⟨8, -6, 127, -6⟩, 0, true⟩       -- INT8: 127/64
  | _ => none

/-- The value of an element code, before its block scale (R72). -/
def mxElem (code : Nat) (f : MxFmt) (c : Nat) : Fp :=
  if f.isInt then fpScale (-6) (fpOfInt (sext 8 c))
  else
    let mag := c % 2 ^ (f.bits - 1)
    if code = 2 ∧ mag = 0x7F then .nan
    else if code = 3 ∧ 0x7C ≤ mag then (if mag = 0x7C then .inf (decide (128 ≤ c % 256)) else .nan)
    else
      let neg := c / 2 ^ (f.bits - 1) % 2 = 1
      let ex := mag / 2 ^ (f.fm.p - 1)
      let fr := mag % 2 ^ (f.fm.p - 1)
      if ex = 0 then .fin neg fr f.fm.emin else .fin neg (2 ^ (f.fm.p - 1) + fr) (f.fm.emin + ex - 1)

/-- An MX element decoded to FP32 (R72): scale code 0xFF makes it NaN; otherwise element × 2^(scale − 127), rounded once where FP32 cannot
hold it. -/
def mxDecode (bd : Beyond) (fcode scale elem : Nat) : Fp :=
  match mxFmt fcode with
  | none => .nan
  | some f => if scale % 256 = 255 then .nan else fpRound fmtF32 .nearest bd (fpScale ((scale % 256 : Nat) - 127) (mxElem fcode f elem))

/-- The code of a value rounded into an element format, saturating (Table SHL-6). -/
def mxElemCode (f : MxFmt) (rm : Rounding) (x : Fp) : Nat :=
  match fpRound f.fm rm .saturate x with
  | .fin neg m e =>
    if f.isInt then
      let q := roundUnits rm m e (-6)
      if neg then (256 - q) % 256 else q
    else ieeeCode f.fm f.eb (.fin neg m e)
  | _ => 0

/-- The exponent of a finite non-zero value's leading bit; `none` for a zero. -/
def fpExp : Fp → Option Int
  | .fin _ m e => if m = 0 then none else some ((Nat.log2 m : Nat) + e)
  | _ => none

/-- The largest leading-bit exponent of a list of finite values. -/
def maxExp : List Fp → Option Int
  | [] => none
  | x :: rest => match fpExp x, maxExp rest with
    | some a, some b => some (max a b)
    | some a, none => some a
    | none, r => r

/-- An encoded MX block (R73): the scale code, the element codes, and whether the block counts in TIL_MXNAN. -/
structure MxBlock where
  scale : Nat
  elems : List Nat
  nan : Bool
  deriving DecidableEq, Repr

/-- Encode the values of one block, element i rounding under `rm i` (R73). -/
def mxEncode (f : MxFmt) (rm : Nat → Rounding) (xs : List Fp) : MxBlock :=
  if xs.any (fun x => !fpIsFin x) then ⟨255, xs.map (fun _ => 0), true⟩
  else match maxExp xs with
    | none => ⟨0, xs.map (fun _ => 0), false⟩
    | some l =>
      let x := max (-127) (min 127 (l - f.emax))
      ⟨(x + 127).toNat, xs.zipIdx.map (fun p => mxElemCode f (rm p.2) (fpScale (-x) p.1)), false⟩

/-! ### Reductions (R77, R459) -/

/-- One level of the pairwise tree. -/
def pairUp (f : Fp → Fp → Fp) : List Fp → List Fp
  | a :: b :: rest => f a b :: pairUp f rest
  | l => l

/-- The pairwise tree over a list of up to 2^fuel values. -/
def treeFold (f : Fp → Fp → Fp) : Nat → List Fp → Fp
  | 0, l => l.headD .nan
  | n + 1, l => treeFold f n (pairUp f l)

/-- FP32 addition under RNE. -/
def addF32 (a b : Fp) : Fp := rneF32 (fpAdd a b)
/-- The larger under R459. -/
def maxFp (a b : Fp) : Fp := if fpIsNan a || fpIsNan b then .nan else if fpLt a b then b else a
/-- The smaller under R459. -/
def minFp (a b : Fp) : Fp := if fpIsNan a || fpIsNan b then .nan else if fpLt b a then b else a

end Sys2Proof.Machine
end

