-- ==== Sys2Proof/Machine/OpsTile.lean ====
section
/-! DEFINITION. Shared operations of a tile: violations and faults, holds and stalls, region checks, results that land, MVMs that end. -/
set_option Elab.async false
namespace Sys2Proof.Machine

/-! ### Interrupts of the control cores by role (Table FWM-19) -/

/-! ### CKP_PSTAT.STATE codes (Table CKP-9) and checkpoint codes (Table CKP-3) -/
def ckIdle : Nat := 0
def ckArmed : Nat := 1
def ckCutting : Nat := 2
def ckWriting : Nat := 3
def ckRestoring : Nat := 4
def ckFailed : Nat := 5

/-- CKP_PSTAT.STATE and CODE are set, and management firmware is interrupted (Table FWM-19). -/
def setCkp (s : State) (p st code : Nat) : State :=
  irqCores (wrFld (wrFld s (.ckpPstat p) 31 28 st) (.ckpPstat p) 23 16 code) mgmtCores 22

/-- CKP_PSTAT.STATE of plot p. -/
def ckpState (s : State) (p : Nat) : Nat := rdFld s (.ckpPstat p) 31 28
/-- The checkpoint path of plot p. -/
def ckpOf (s : State) (p : Nat) : CkpState := mapGet {} s.ckp p
/-- The state with a function applied to it. -/
def onCkp (s : State) (p : Nat) (f : CkpState → CkpState) : State := { s with ckp := mapInsert s.ckp p (f (ckpOf s p)) }

/-- A sheaf fails (R431): P is ORed back into D, staging is released, copy-before-write ends and held writes proceed. -/
def ckpFail (s : State) (p code : Nat) : State :=
  let k := ckpOf s p
  let s1 := onCkp { s with dirtyD := k.pset.foldl addPage s.dirtyD } p (fun k => { k with
    pset := [], pages := [], staged := [], snapped := false, head := [], stream := [], written := [], front := 0, attempts := [] })
  let s2 := (s1.ram.held.filter (fun e => e.1 == p)).foldl (fun s e => wrBytes s e.2.1 e.2.2) s1
  let s3 := setCkp { s2 with ram := { s2.ram with held := s2.ram.held.filter (fun e => e.1 != p) } } p ckFailed code
  recordEvent s3 0x0C01 p 2 islFabric p (rd s3 (.ckpPstat p)) 0

/-- A page that a checkpoint since its cut still holds in P: its first write is held (R427, R430). -/
def cowHeld (s : State) (p page : Nat) : Bool := (ckpState s p == 2 || ckpState s p == 3) && (ckpOf s p).pages.contains page

/-! ### Fields of a plot's committed image -/

/-- The image committed to plot p. -/
def imageOf (s : State) (p : Nat) : Option Image := (plot s p).image
/-- STEP_NS, WDOG_NS of the committed image; 0 with none. -/
def stepNs (s : State) (p : Nat) : Nat := match imageOf s p with | some i => i.stepNs | none => 0
def wdogNs (s : State) (p : Nat) : Nat := match imageOf s p with | some i => i.wdogNs | none => 0
def jobOf (s : State) (p : Nat) : DWord := match imageOf s p with | some i => i.job | none => 0
/-- The plot is one of several in its job. -/
def inJob (s : State) (p : Nat) : Bool := match imageOf s p with | some i => decide (1 < i.jobPlots) | none => false
/-- The plot leads its job's markers (FLAGS bit 1); a plot alone leads itself. -/
def isLeader (s : State) (p : Nat) : Bool :=
  match imageOf s p with | some i => i.flags.testBit 1 || decide (i.jobPlots ≤ 1) | none => true
/-- The configuration record of tile t in the committed image of its plot. -/
def tileCfg (s : State) (p t : Nat) : Option TileCfg :=
  match imageOf s p with | some i => i.tiles.find? (fun c => c.tile == t) | none => none
/-- The declaration of a crossing. -/
def xdecl (s : State) (p x : Nat) : Option XDecl :=
  match imageOf s p with | some i => i.xdecl.find? (fun d => d.xid == x) | none => none
/-- The run-time state of a crossing. -/
def xing (s : State) (p x : Nat) : Xing := mapGet {} (plot s p).xings x
/-- The state with a function applied to a crossing. -/
def onXing (s : State) (p x : Nat) (f : Xing → Xing) : State :=
  onPlot s p (fun q => { q with xings := mapInsert q.xings x (f (xing s p x)) })

/-! ### Plot faults and freezes -/

/-- An operation of the remote-memory engine that carries an instance of the plot and has sent no packet of it. -/
def unsentInst (p : Nat) (o : RmaOp) : Option (Nat × Nat) :=
  match o.src with
  | .crossing q x i => if q = p ∧ o.sent = 0 then some (x, i) else none
  | _ => none

/-- Class-3 instances of the plot not yet transmitted are discarded, those handed to the remote-memory engine among them (R147, R200). -/
def discardUnsent (s : State) (p : Nat) : State :=
  let gone := (s.rma.ops ++ s.rma.waitOps).filterMap (unsentInst p)
  let s1 := { s with rma := { s.rma with ops := s.rma.ops.filter (fun o => (unsentInst p o).isNone), waitOps := s.rma.waitOps.filter (fun o => (unsentInst p o).isNone) } }
  onPlot s1 p (fun q => { q with xings := q.xings.map (fun e =>
    match xdecl s p e.1 with
    | some d => if d.cls = 3 ∧ d.dir = 0 then (e.1, { e.2 with flight := e.2.flight.filter (fun i => i.sent && !gone.contains (e.1, i.inst)) }) else e
    | none => e) })

/-- The bit of SCH_ERR is set for a tile, and SCH_ERRINFO records it if it holds no record (R146, Table SCH-28). -/
def schError (s : State) (t b xid : Nat) : State :=
  let s1 := wrBit s (.schErr t) b true
  if bit (rd s1 (.schErrinfo t)) 17 then s1
  else wr s1 (.schErrinfo t) (BitVec.ofNat 32 (rdFld s1 (.schStatus t) 13 0 * 2 ^ 18 + 2 ^ 17 + b * 2 ^ 12 + xid))

/-- The number of the plot's next step: the named first step, or one above the step in progress or last run. -/
def nextStep (s : State) (p : Nat) : DWord := if (plot s p).started then (plot s p).step + 1 else (plot s p).step

/-- The flow that the markers of plot p's job travel on: its flow entry 0 (R138). -/
def markerFlow (s : State) (p : Nat) : Option Nat := (imageOf s p).bind (fun i => i.flow.head?.map (fun f => f.flow))

/-- A fault notice to the job's leader; a leader sends STOP with cause FAULT at once (R147). -/
def tellLeader (s : State) (p : Nat) : State :=
  if !inJob s p then s
  else if isLeader s p then emit (onPlot s p (fun q => { q with stopped := true })) (.stop (jobOf s p) (nextStep s p) true (markerFlow s p))
  else emit s (.notice (jobOf s p) true)

/-- The rules one bundle breaks, as bit indices of ARR_ERR, TIL_SHERR and SCH_ERR (Table SCH-22). -/
structure Viol where
  arr : List Nat := []
  sh : List Nat := []
  sch : List Nat := []
  /-- Group and slot for ARR_ERRINFO, PP descriptor for TIL_SHERRINFO. -/
  group : Nat := 0
  slot : Nat := 0
  desc : Nat := 0
  /-- The scratchpad accesses that region registers refuse: bank, line, master (R188). -/
  refused : List (Nat × Nat × Nat) := []
  deriving DecidableEq, Repr

/-- No rule is broken. -/
def Viol.none? (v : Viol) : Bool := v.arr.isEmpty && v.sh.isEmpty && v.sch.isEmpty

/-- Both sets of broken rules; a bundle holds one operation of each slot, so one of the two at most names an array, and one a descriptor. -/
def Viol.join (v w : Viol) : Viol :=
  { arr := v.arr ++ w.arr, sh := v.sh ++ w.sh, sch := v.sch ++ w.sch, refused := v.refused ++ w.refused
    group := if v.arr.isEmpty then w.group else v.group, slot := if v.arr.isEmpty then w.slot else v.slot
    desc := if v.sh.isEmpty then w.desc else v.desc }

/-- The lowest of a list of bit indices. -/
def lowest : List Nat → Nat
  | [] => 31
  | x :: rest => min x (lowest rest)

/-- A bit of ARR_ERR is set, and ARR_ERRINFO records it if it holds no record (Table ARR-17). -/
def arrError (s : State) (t g sl : Nat) (bits : List Nat) : State :=
  if bits.isEmpty then s
  else
    let s1 := forAll (fun s b => wrBit s (.arrErr t) b true) s bits
    if bit (rd s1 (.arrErrinfo t)) 15 then s1
    else wr s1 (.arrErrinfo t) (BitVec.ofNat 32
      (rdFld s1 (.schCycle t) 15 0 * 2 ^ 16 + 2 ^ 15 + lowest bits * 2 ^ 10 + sl * 2 ^ 5 + g))

/-- Bits of TIL_SHERR are set, and TIL_SHERRINFO records the lowest if it holds no record (Table SHL-13). -/
def shError (s : State) (t cyc desc : Nat) (bits : List Nat) : State :=
  if bits.isEmpty then s
  else
    let s1 := forAll (fun s b => wrBit s (.tilSherr t) b true) s bits
    if bit (rd s1 (.tilSherrinfo t)) 15 then s1
    else wr s1 (.tilSherrinfo t) (BitVec.ofNat 32
      (cyc % 65536 * 2 ^ 16 + 2 ^ 15 + lowest bits * 2 ^ 10 + desc * 2 ^ 4))

/-- Plot states that a freeze finds something to hold in. -/
def freezable (v : Nat) : Bool := decide (pltIdle ≤ v) && decide (v ≤ pltHeld)

/-- R200 steps 1 to 4 from detection: FROZEN is set, the leader is told, untransmitted class-3 instances go, an event names the plot.
A plot already frozen, or one that is FAULTED, ABORTING, SCRUBBING or UNDEFINED is only logged; a plot with no step in progress, were it IDLE, LOADING or READY, is
HELD at once (Table PLT-2: HELD is entered by a freeze; DEDUCED, log entry 123). -/
def freezePlot (s : State) (p object : Nat) (value : Word) (extra : Nat) : State :=
  let s0 := recordEvent s 0x0601 p 3 (if extra < 128 then islTile extra else islFabric) object value extra
  if frozen s p || !freezable (pltState s p) then s0
  else
    let s1 := irqCores (wrBit (wrBit s0 .lpxFreeze p true) (.pltPstat p) 27 true) mgmtCores 17
    let s2 := tellLeader (discardUnsent s1 p) p
    if (plot s p).inStep then s2 else setPlt s2 p pltHeld

/-- Nothing of the plot leaves it: it is frozen, or a VOID lane will freeze it (R63, R200). -/
def nothingLeaves (s : State) (p : Nat) : Bool := frozen s p || (plot s p).freezeDue

/-- A plot in a step freezes at its boundary (R63, R203): steps 1 and 2 of R200 hold from now on. -/
def freezeLater (s : State) (p : Nat) : State :=
  if (plot s p).freezeDue || frozen s p then s else tellLeader (discardUnsent (onPlot s p (fun q => { q with freezeDue := true })) p) p

/-! ### Region registers and scratchpad errors -/

/-- One access: an enabled region of master m covers every line it touches, `first` to `last` of a bank, and grants its direction (R187).  An access touches two
lines at most, so that regions of one master that overlap grant between them what either grants. -/
def rgnGrants (s : State) (t m bank first last : Nat) (write : Bool) : Bool :=
  (List.range 16).any (fun r =>
    let w := rd s (.tilRgn t m r)
    bit w (if write then 31 else 30) && fld w 29 28 == bank && decide (fld w 27 14 ≤ first) && decide (last ≤ fld w 13 0))

/-- The first line, of `n` lines from `first` on, whose access of its own is refused (R187). -/
def firstRefused (s : State) (t m bank first n : Nat) (write : Bool) : Option Nat :=
  ((List.range n).find? (fun k => !rgnGrants s t m bank (first + k) (first + k) write)).map (fun k => first + k)

/-- Each of `n` lines from `first` on is granted (R187). -/
def linesGranted (s : State) (t m bank first n : Nat) (write : Bool) : Bool := (firstRefused s t m bank first n write).isNone

/-- An uncorrectable error in a page that a sheaf still waits to seal: the sheaf fails with MEMORY (R431). -/
def ckpLost (s : State) (p page : Nat) : State := if cowHeld s p page then ckpFail s p 2 else s

/-- TIL_SPERRINFO records a bank, line and master if it holds no record (Table MEM-12). -/
def spRecord (s : State) (t bank line m : Nat) : State :=
  if bit (rd s (.tilSperrinfo t)) 15 then s
  else wr s (.tilSperrinfo t) (BitVec.ofNat 32 (bank * 2 ^ 30 + line * 2 ^ 16 + 2 ^ 15 + m * 2 ^ 12))

/-- What the check bits of a scratchpad access report (R186, R200): a corrected error is counted; an uncorrectable one sets UE, records the
line and freezes the plot.  Nothing marks the data. -/
def spEcc (s : State) (t bank line m : Nat) (e : Ecc) : State :=
  match e with
  | .clean => s
  | .corrected => count s (.tilSpcecnt t) 1
  | .uncorrectable =>
    let s1 := spRecord (wrBit s (.tilSperr t) 2 true) t bank line m
    let s2 := onTile s1 t (fun x => { x with badLines := (bank * 16384 + line) :: x.badLines })
    match plotOf s2 t with
    | some p => ckpLost (freezePlot s2 p p (rd s2 (.tilSperrinfo t)) t) p ((scratchBase + t * 0x400000 + bank * 0x100000 + line * 64) / 0x10000)
    | none => s2

/-- First and last line of n bytes at a byte address of a bank. -/
def lineOf (a : Nat) : Nat := a / 64

/-- A scheduled access of n bytes, one access of at most 64, that the region registers of its master refuse breaks SCH_ERR.REGION (Table MEM-4). -/
def rgnViol (s : State) (t m bank addr n : Nat) (write : Bool) : Viol :=
  if rgnGrants s t m bank (lineOf addr) (lineOf (addr + n - 1)) write then {} else { sch := [2], refused := [(bank, lineOf addr, m)] }

/-- The same of n bytes accessed line by line. -/
def linesViol (s : State) (t m bank addr n : Nat) (write : Bool) : Viol :=
  match firstRefused s t m bank (lineOf addr) (lineOf (addr + n - 1) + 1 - lineOf addr) write with
  | none => {}
  | some l => { sch := [2], refused := [(bank, l, m)] }

/-! ### MVMs: phases and conversion (R33, R36 to R41) -/

/-- Conversion phases of an MVM: one, or two in the paired mode. -/
def mvmConv (m : Mvm) : Nat := if m.mode = 1 then 2 else 1
/-- End of the last conversion phase. -/
def mvmEnd (m : Mvm) : Nat := m.start + (m.bits + 1 + mvmConv m) * m.phase
/-- Start of the first conversion phase. -/
def mvmConvStart (m : Mvm) : Nat := m.start + (m.bits + 1) * m.phase
/-- An MVM is active from its launch to the end of its last conversion phase (R41). -/
def mvmActive (m : Mvm) : Bool := !m.done
/-- Conversion phases of two MVMs overlap in schedule cycles (R40). -/
def convOverlap (a b : Mvm) : Bool := decide (mvmConvStart a < mvmEnd b) && decide (mvmConvStart b < mvmEnd a)

/-- Input i of a launch: the low b bits, unsigned, or with bit b − 1 weighing −2^(b−1) (R32). -/
def inputVal (rows : BitVec 4096) (b : Nat) (signed : Bool) (i : Nat) : Int :=
  let x := rows.toNat / 2 ^ (8 * i) % 2 ^ b
  if signed then sext b x else x

/-- The 4 cell bits of data column c in a row of cells. -/
def cellBits (row : BitVec 2048) (c : Nat) : Nat := row.toNat / 2 ^ (4 * c) % 16

/-- Weight of a cell's four bits taken whole (Table ARR-1, native and 8-bit columns). -/
def cellWhole (n : Nat) : Int := sext 4 n
/-- Sub-column A of the paired mode: c3 and c2. -/
def cellA (n : Nat) : Int := -8 * (n / 8 % 2 : Nat) + 4 * (n / 4 % 2 : Nat)
/-- Sub-column B of the paired mode: c1 with inverted polarity, and c0. -/
def cellB (n : Nat) : Int := -2 * (n / 2 % 2 : Nat) + (n % 2 : Nat)

/-- The data nibbles of a row of cells: a row not written since a retention loss is free (R56), any other unwritten row 0. -/
def cellRow (x : TileState) (k : Nat) : BitVec 2048 :=
  match mapFind x.cells k with
  | some r => r
  | none => match x.lost with
    | none => 0
    | some n => Config.lostCells n k

/-- Sum over the rows of input × weight of one data column (R26). -/
def columnSum (x : TileState) (m : Mvm) (f : Nat → Int) (c : Nat) : Int :=
  (List.range 512).foldl (fun acc i =>
    acc + inputVal m.rows m.bits (bit m.desc 4) i *
      f (cellBits (cellRow x (512 * (17 * m.group + m.slot) + i)) c)) 0

/-- Sum of the inputs, which the reference columns weigh by +7, −8, 0 and +1 (R25). -/
def inputSum (m : Mvm) : Int := (List.range 512).foldl (fun acc i => acc + inputVal m.rows m.bits (bit m.desc 4) i) 0
def refWeight (r : Nat) : Int := if r = 0 then 7 else if r = 1 then -8 else if r = 2 then 0 else 1

/-- ADC resolution n of a descriptor (R36). -/
def adcBits (d : Word) : Nat := 6 + fld d 9 8
/-- RANGE and LORANGE of a descriptor. -/
def descRange (d : Word) : Nat := fld d 15 12
def descLoRange (d : Word) : Nat := fld d 19 16

/-- Result lanes of a mode (Table ARR-2). -/
def laneCount (mode : Nat) : Nat := if mode = 1 then 1028 else 516

/-- Range code at which a lane's column is converted (R29, R30). -/
def convRange (mode : Nat) (d : Word) (lane : Nat) : Nat :=
  if mode = 2 then (if (lane < 512 ∧ lane % 2 = 0) ∨ lane = 515 then descLoRange d else descRange d)
  else if mode = 1 ∧ lane < 1024 ∧ lane % 2 = 1 then descRange d + 2 else descRange d

/-- Ideal column value of a lane (R26, R30, Table ARR-6). -/
def laneIdeal (x : TileState) (m : Mvm) (lane : Nat) : Int :=
  if m.mode = 1 then
    (if lane < 1024 then columnSum x m (if lane % 2 = 1 then cellA else cellB) (lane / 2) else inputSum m * refWeight (lane - 1024))
  else (if lane < 512 then columnSum x m cellWhole lane else inputSum m * refWeight (lane - 512))

/-- One result lane (Table ARR-7): the code of R36 clamped to n bits, SAT where the clamp limits it, VOID where the supply failed. -/
def laneOfCode (n : Nat) (void : Bool) (raw : Int) : Half :=
  let lo : Int := -(2 ^ (n - 1) : Nat)
  let hi : Int := (2 ^ (n - 1) : Nat) - 1
  let c := max lo (min hi raw)
  BitVec.ofInt 16 (c % 1024) ||| (if c = raw then 0 else 0x8000) ||| (if void then 0x2000 else 0)

/-- Physical column of a lane (Table ARR-6). -/
def laneColumn (mode lane : Nat) : Nat := if mode = 1 then (if lane < 1024 then lane / 2 else 512 + (lane - 1024)) else lane

/-! ### The converter (R36, R49, R88) -/

/-- A rational held within ±b. -/
def clampRat (b q : Rat) : Rat := max (-b) (min b q)

/-- Full scale of a range code, in column units (R36). -/
def fullScale (range : Nat) : Rat := ((2 ^ (range + 8) : Nat) : Rat)

/-- The unit of Table ARR-11's bounds: FS / 128, and below RANGE 4 that of RANGE 4. -/
def errUnit (range : Nat) : Rat := max (fullScale range) 4096 / 128

/-- What a conversion converts: an array's bitline (R24), or the test charge in its place (R92). -/
inductive Bitline where
  | array (slot : Nat)
  | charge
  deriving DecidableEq, Repr

/-- The conditions of Table ARR-10 hold of a conversion, and the group is in service with its tracking active (R49). -/
def accuracyHolds (s : State) (t g : Nat) (phase : Nat) : Bool :=
  let c := calState s t g
  (c == calProbation || c == calAdmitted || c == calRecal) && decide (0 ≤ layerTemp s t g) && decide (layerTemp s t g ≤ 95)
    && decide (10 * (tile s t).freq ≤ 1000 * phase) && decide (1000 * phase ≤ 20 * (tile s t).freq)

/-- The analog estimate v of an ideal column value y (R49): systematic terms fixed per column between calibration updates, with the converter's trims (R88), within the
bounds of Table ARR-11 where `bounded`; a random term drawn afresh; and what a hold of `held` ns beyond the first µs adds to the offset. -/
def analogEstimate (s : State) (t g c : Nat) (b : Bitline) (trims : BitVec 6 × BitVec 6) (range : Nat) (bounded : Bool) (held : Nat) (y : Int) (drawn idx : Nat) : Rat :=
  let ep := (calOf s t g).epoch
  let gc := Config.convGain t g c ep + (trims.1.toInt : Rat) / 400
  let oc := (Config.convOffset t g c ep + (trims.2.toInt : Rat)) * fullScale range / 2048
  let a : Rat × Rat × Rat := match b with
    | .array p => (Config.arrayGain t (17 * g + p) c ep, Config.arrayOffset t (17 * g + p) c ep * fullScale range / 2048, Config.nonLinearity t (17 * g + p) c ep range y)
    | .charge => (0, 0, 0)
  let u := errUnit range
  let eg := (1 + gc) * (1 + a.1) - 1
  let eo := oc + a.2.1
  let hold := Config.holdShift drawn idx
  let extra := clampRat 1 hold * (u / 10) * ((held - 1000 : Nat) : Rat) / 1000
  let y' : Rat := (y : Rat)
  let noise := Config.analogNoise drawn idx * (u / 2)
  if bounded then y' * (1 + clampRat (3 / 1000) eg) + clampRat (2 * u / 5) eo + clampRat (u / 5) a.2.2 + extra + noise
  else y' * (1 + eg) + eo + a.2.2 + extra + noise

/-- The unclamped code of an estimate at resolution n (R36): floor(v / LSB + 0.5). -/
def codeOf (range n : Nat) (v : Rat) : Int := (v * ((2 ^ (n - 1) : Nat) : Rat) / fullScale range + 1 / 2).floor

/-- The lanes an MVM latches (R36, R48, R49). -/
def mvmLanes (s : State) (t : Nat) (m : Mvm) : List Half :=
  let x := tile s t
  let k := calOf s t m.group
  let ok := accuracyHolds s t m.group m.phase
  (List.range (laneCount m.mode)).map (fun l =>
    let c := laneColumn m.mode l
    let r := convRange m.mode m.desc l
    laneOfCode (adcBits m.desc) m.void (codeOf r (adcBits m.desc)
      (analogEstimate s t m.group c (.array m.slot) (mapGet 0 k.gt c, mapGet 0 k.ot c) r ok m.heldNs (laneIdeal x m l) s.fresh l)))

/-- Conversion phases in which a data column saturated (R37). -/
def satPhases (mode : Nat) (lanes : List Half) : Nat :=
  let sat := fun (q : Nat → Bool) => lanes.zipIdx.any (fun e => q e.2 && e.1.toNat.testBit 15)
  if mode = 1 then boolNat (sat (fun l => decide (l < 1024) && l % 2 == 1)) + boolNat (sat (fun l => decide (l < 1024) && l % 2 == 0))
  else boolNat (sat (fun l => decide (l < 512)))

/-- Active arrays of group g. -/
def groupActive (x : TileState) (g : Nat) : Bool := x.mvms.any (fun m => m.group == g && mvmActive m)

/-- ARR_GRP.PWR of a group (R54): 0 FALLOW, 1 WAKING, 2 AWAKE. -/
def grpPwr (s : State) (t g : Nat) : Nat := rdFld s (.arrGrp t g) 21 20

/-- A group enters FALLOW unless an array is active or a write to it is open, in which case the request waits (Table ARR-8, R55).  A WAKING group enters it at once: DESIGN CHOICE, log
entry 120. -/
def applyFallow (s : State) (t g : Nat) : State :=
  if groupActive (tile s t) g || (tile s t).writes.any (fun w => w.group == g) then
    onTile s t (fun x => { x with fallowDue := g :: x.fallowDue.filter (· ≠ g) })
  else wrFld (onTile s t (fun x => { x with fallowDue := x.fallowDue.filter (· ≠ g) })) (.arrGrp t g) 21 20 0

/-- ACTIVE of ARR_STATUS counts the tile's active arrays (R41). -/
def setActive (s : State) (t : Nat) : State :=
  wrFld s (.arrStatus t) 13 8 ((tile s t).mvms.filter mvmActive).length

/-- The end of an MVM's last conversion phase (R33, R37, R41): its codes latch, CONV and SATCNT count its phases, the array becomes inactive
and ACTIVE falls; a fallow request that waited for the group applies.  A skipped reference launch latches and counts nothing (R46). -/
def completeMvm (s : State) (t : Nat) (m : Mvm) : State :=
  let x := tile s t
  let lanes := if m.skipped then [] else mvmLanes s t m
  let m' := { m with done := true, lanes := lanes }
  let s1 := setTile s t { x with rampRise := x.rampRise - 1, mvms := x.mvms.map (fun k => if k = m then m' else k),
                                 conv := if m.skipped then x.conv else x.conv + BitVec.ofNat 64 (mvmConv m) }
  let s2 := if m.skipped then s1 else count (draw s1) (.arrSatcnt t m.group) (satPhases m.mode lanes)
  let s3 := setActive s2 t
  if (tile s3 t).fallowDue.contains m.group then applyFallow s3 t m.group else s3

/-! ### Results that land (R68) -/

/-- The cycle a result lands at. -/
def landDue : Landing → Nat
  | .words d _ _ _ _ => d
  | .bytes d _ _ => d
  | .load d _ _ => d
  | .chunk d _ _ => d
  | .tail d _ _ _ _ => d
  | .accum d _ _ _ _ _ => d
  | .choice d _ _ _ => d
  | .line d _ _ _ _ => d

/-- Order among those of one cycle: what was written before it, then what a read of that cycle sees (R184). -/
def landRank : Landing → Nat
  | .choice .. => 1
  | .load .. => 2
  | .tail .. => 2
  | .line .. => 2
  | _ => 0

/-- Insert a result in order of its cycle, after those of the same cycle and rank. -/
def landInsert : List Landing → Landing → List Landing
  | [], l => [l]
  | k :: rest, l =>
    if landDue l < landDue k ∨ (landDue l = landDue k ∧ landRank l < landRank k) then l :: k :: rest else k :: landInsert rest l

/-- The state with a result on its way to tile t. -/
def land (s : State) (t : Nat) (l : Landing) : State := onTile s t (fun x => { x with landing := landInsert x.landing l })

/-- Words stored under consecutive keys. -/
def storeWords (m : List (Nat × Word)) (k : Nat) : List Word → List (Nat × Word)
  | [] => m
  | v :: rest => storeWords (mapSet 0 m k v) (k + 1) rest

/-- The scales of a register without those of its blocks. -/
def dropScales (m : List (Nat × Byte)) (reg n : Nat) : List (Nat × Byte) :=
  m.filter (fun e => decide (e.1 / 8 < reg) || decide (reg + n ≤ e.1 / 8))

/-- Scale entries stored. -/
def storeScales (m : List (Nat × Byte)) : List (Nat × Byte) → List (Nat × Byte)
  | [] => m
  | (k, v) :: rest => storeScales (mapInsert m k v) rest

/-- The saturating INT32 sum and whether it saturated (R66). -/
def satI32 (i : Int) : Int × Bool :=
  if i < -(2 ^ 31 : Nat) then (-(2 ^ 31 : Nat), true) else if (2 ^ 31 : Nat) - 1 < i then ((2 ^ 31 : Nat) - 1, true) else (i, false)

/-- New entries of an accumulator row from a first key on, with the number that saturated (R66). -/
def accumulate (acc : List (Nat × Word)) (key : Nat) (add : Bool) : List Int → List (Nat × Word) × List Int × Nat
  | [] => (acc, [], 0)
  | v :: rest =>
    let old := (mapGet 0 acc key).toInt
    let r := satI32 (if add then old + v else v)
    let q := accumulate (mapSet 0 acc key (BitVec.ofInt 32 r.1)) (key + 1) add rest
    (q.1, r.1 :: q.2.1, boolNat r.2 + q.2.2)

/-- Codes of `bits` bits each as a little-endian byte string. -/
def packCodes (bits : Nat) (cs : List Nat) : List Byte :=
  leBytes ((cs.length * bits + 7) / 8) (cs.zipIdx.foldl (fun acc e => acc + e.1 % 2 ^ bits * 2 ^ (bits * e.2)) 0)

/-- Lists of 32 from a list. -/
def blocks32 : Nat → List Fp → List (List Fp)
  | 0, _ => []
  | n + 1, l => if l.isEmpty then [] else l.take 32 :: blocks32 n (l.drop 32)

/-- The MX blocks of a list of values, element i of the list rounding under `rm i`. -/
def mxBlocks (f : MxFmt) (rm : Nat → Rounding) (xs : List Fp) : List MxBlock :=
  (blocks32 64 xs).zipIdx.map (fun e => mxEncode f (fun i => rm (32 * e.2 + i)) e.1)

/-- Zeros to the end of a 64-byte line (R70). -/
def padLine (bs : List Byte) : List Byte := bs ++ List.replicate ((64 - bs.length % 64) % 64) 0

/-- The output bytes of FP32 results in an OUTFMT of Table SHL-4, and how many MX blocks are encoded with scale 0xFF. -/
def outBytes (fmt : Nat) (ovf : Bool) (rm : Nat → Rounding) (xs : List Fp) : List Byte × Nat :=
  if fmt = 0 then (xs.flatMap (fun x => leBytes 4 (toF32 x).toNat), 0)
  else if fmt = 1 then (xs.zipIdx.flatMap (fun e => leBytes 2 (toBf16 (fpRound fmtBf16 (rm e.2) (ovfBeyond ovf) e.1))), 0)
  else match mxFmt fmt with
    | none => ([], 0)
    | some f =>
      let bl := mxBlocks f rm xs
      (packCodes f.bits (bl.flatMap (fun b => b.elems)) ++ bl.map (fun b => BitVec.ofNat 8 b.scale), (bl.filter (fun b => b.nan)).length)

/-- MX blocks encoded with scale 0xFF are counted and flagged (R73), in a cycle and of a PP descriptor, 0 for the vector unit. -/
def countMxNan (s : State) (t cyc desc n : Nat) : State :=
  if n = 0 then s else shError (count s (.tilMxnan t) n) t cyc desc [5]

/-- Output bytes on their way to bank 0, 256 in a cycle, the first beat written in the ninth cycle after the collect (Table SHL-3). -/
def landBeats (s : State) (t cyc addr : Nat) (bs : List Byte) : State :=
  forAll (fun s k => land s t (.bytes (cyc + 10 + k) (addr + 256 * k) ((bs.drop (256 * k)).take 256))) s (List.range ((bs.length + 255) / 256))

/-- Scaling and output of a final collect (R69, R70): one FP32 product under RND, then the conversion to OUTFMT.  OVF counts for FP32 and BF16 output alone. -/
def finalOutput (s : State) (t desc : Nat) (vals : List Int) (f : FinalOut) : State :=
  if f.outfmt = 8 then landBeats s t f.cyc f.addr (padLine (vals.flatMap (fun v => leBytes 4 (BitVec.ofInt 32 v).toNat)))
  else
    let rm := fun i => rounding f.rnd f.seed t f.cyc i
    let ovf := f.ovf && decide (f.outfmt ≤ 1)
    let prods := vals.zipIdx.map (fun e =>
      fpRound fmtF32 (rm e.2) (ovfBeyond ovf)
        (fpMul (rneF32 (fpOfInt e.1)) (f32 (rd s (.tilScale t (if f.scmode then f.scbase else f.scbase + e.2))))))
    let o := outBytes f.outfmt ovf (fun i => rm (2048 + i)) prods
    landBeats (countMxNan s t (f.cyc + 8 + (o.1.length + 255) / 256) desc o.2) t f.cyc f.addr (padLine o.1)

/-- Undefined output bytes of a ROUTE or SAMPLE (R122): a SAMPLE's token, where `limit` is its V, is below V or 0xFFFF_FFFF. -/
def freeChoice (fresh idx limit n : Nat) : List Byte :=
  if limit = 0 then (List.range n).map (fun i => BitVec.ofNat 8 (Config.undefinedChoice fresh (idx * 65536 + i)).toNat)
  else
    let w := (Config.undefinedChoice fresh idx).toNat
    leBytes 4 (if w < limit then w else 0xFFFFFFFF)

/-- What a ROUTE or SAMPLE of tile t has read is no longer watched; the answer says whether a byte of it was written meanwhile (R122). -/
def unwatch (s : State) (t : Nat) : State × Bool :=
  let mine := fun (w : Nat × Nat × Bool) => decide (scratchAddr t 0 ≤ w.1) && decide (w.1 < scratchAddr t 0 + 0x400000)
  ({ s with watched := s.watched.filter (fun w => !mine w) }, s.watched.any (fun w => mine w && w.2.2))

/-- One result lands. -/
def landOne (s : State) (t : Nat) (l : Landing) : State :=
  match l with
  | .words _ d k vals sc =>
    onTile s t (fun x => match d with
      | .vr => { x with vr := storeWords x.vr k vals,
                        vrScale := storeScales (dropScales x.vrScale (k / 64) ((vals.length + 63) / 64)) sc }
      | .dacc => { x with dacc := storeWords x.dacc k vals })
  | .bytes _ a bs => wrBytes s a bs
  | .load d k a => land s t (.chunk (d + 1) k (BitVec.ofNat 512 (rdLe s a 64)))
  | .chunk _ k b => onTile s t (fun x => { x with ivs := mapSet 0 x.ivs k b })
  | .tail d a n hd put =>
    let bs := hd ++ rdBytes s a n
    match put with
    | .vr k => land s t (.words (d + 1) .vr k ((List.range 16).map (fun i => BitVec.ofNat 32 (leNat ((bs.drop (4 * i)).take 4)))) [])
    | .mem b => land s t (.bytes (d + 2) b bs)
  | .accum d row add desc vals fin =>
    let r := accumulate (tile s t).acc (512 * row) add vals
    let s1 := onTile s t (fun x => { x with acc := r.1 })
    let s2 := if r.2.2 = 0 then s1 else shError (count s1 (.tilAccsat t) r.2.2) t d desc [4]
    match fin with
    | none => s2
    | some f => finalOutput s2 t desc r.2.1 f
  | .choice d ws missing limit =>
    let u := unwatch s t
    if u.2 then
      -- the output values are undefined within the limits of R122
      draw (ws.zipIdx.foldl (fun s w => wrBytes s w.1.1 (freeChoice s.fresh w.2 limit w.1.2.length)) u.1)
    else
      let s1 := ws.foldl (fun s w => wrBytes s w.1 w.2) u.1
      if missing = 0 then s1 else shError (count s1 (.tilNosample t) missing) t (d - 1) 0 [6]
  | .line _ p x i a =>
    onXing s p x (fun q => { q with flight := q.flight.map (fun e =>
      if e.inst = i then { e with lines := e.lines ++ [BitVec.ofNat 512 (rdLe s a 64)] } else e) })

/-- Results due by a cycle land, in order. -/
def landUpTo : Nat → State → Nat → Nat → State
  | 0, s, _, _ => s
  | n + 1, s, t, c =>
    match (tile s t).landing with
    | [] => s
    | l :: rest => if landDue l ≤ c then landUpTo n (landOne (onTile s t (fun x => { x with landing := rest })) t l) t c else s

/-- Everything on its way lands: after END or a stop, work already issued runs on. -/
def landAll (s : State) (t : Nat) : State :=
  let n := 20 * (tile s t).landing.length + 20
  landUpTo n s t (maxNat ((tile s t).landing.map landDue) + 4096)

/-- Every MVM whose last conversion phase ends by a cycle completes. -/
def completeUpTo (s : State) (t c : Nat) : State :=
  ((tile s t).mvms.filter (fun m => mvmActive m && decide (mvmEnd m ≤ c))).foldl (fun s m => completeMvm s t m) s

/-- The schedule reaches a cycle: MVMs due end, results due land, and SCH_CYCLE shows it. -/
def tileAdvance (s : State) (t c : Nat) : State :=
  let c' := max c (rd s (.schCycle t)).toNat
  let s1 := completeUpTo s t c'
  let s2 := landUpTo (20 * (tile s1 t).landing.length + 20) s1 t c'
  wr s2 (.schCycle t) (BitVec.ofNat 32 c')

/-! ### Faults of a tile and of its plot (R146, R147) -/

/-- Steps 2 to 5 of R147: every other tile stops with SCH_ERR.PLOT, what is on its way there landing, the plot is FAULTED with the first fault's cause and tile,
untransmitted class-3 instances go, the leader is told, an event is recorded, and management firmware, the PF and the plot's VF are interrupted. -/
def plotFault (s : State) (p cause ft : Nat) : State :=
  if plotRun s p = pFaulted then s
  else
    let s1 := forAll (fun s t => if t = ft then s else landAll (setTileRun (schError s t 7 0) t tFaulted) t) s (tilesOf s p)
    let s2 := wrFld (wrFld (setPlt s1 p pltFaulted) (.schPstat p) 28 24 cause) (.schPstat p) 23 17 ft
    let s3 := tellLeader (discardUnsent s2 p) p
    let s4 := snapshotTiles (recordEvent s3 0x0502 p 2 (islTile ft) p (rd s3 (.schPstat p)) 0) (tilesOf s p)
    signalFn (signalFn (irqCores s4 mgmtCores 17) 0 3) (p + 1) 3

/-- The SCH_ERR bits of a set of broken rules (Table SCH-22). -/
def violSch (v : Viol) : List Nat :=
  v.sch ++ (if v.arr.isEmpty then [] else [4]) ++ (if v.sh.isEmpty then [] else [5])

/-- A contract violation (R146, R147): the bundle does not issue, the bits and the empty info records are set, the first refused access is recorded (R188), the tile
stops, what it has issued runs on, and its plot faults.  `xid` is the crossing that an expired CROSS stall waited on, else 0. -/
def tileFaultXid (s : State) (t : Nat) (v : Viol) (xid : Nat) : State :=
  let s1 := arrError s t v.group v.slot v.arr
  let s2 := shError s1 t (rd s1 (.schCycle t)).toNat v.desc v.sh
  let bits := violSch v
  let s3 := schError s2 t (lowest bits) xid
  let s4 := match v.refused with | [] => s3 | r :: _ => spRecord s3 t r.1 r.2.1 r.2.2
  let s5 := setTileRun (forAll (fun s b => wrBit s (.schErr t) b true) s4 bits) t tFaulted
  let s6 := landAll (onTile s5 t (fun x => { x with held := [], gather := [] })) t
  match plotOf s6 t with
  | some p => plotFault s6 p (lowest bits) t
  | none => s6

/-- A contract violation that names no crossing. -/
def tileFault (s : State) (t : Nat) (v : Viol) : State := tileFaultXid s t v 0

/-! ### Stalls (R127, R128, R141) -/

/-- Sources of Table SCH-14. -/
def srcBank : Nat := 0
def srcCross : Nat := 1
def srcGov : Nat := 2
def srcDebug : Nat := 3
def srcSupply : Nat := 4

/-- Nanoseconds of a number of tile cycles at the tile's frequency. -/
def cyclesNs (s : State) (t n : Nat) : Nat := n * 1000 / max 1 (tile s t).freq

/-- MVMs in flight hold their phase under a stall (R34); one whose hold passes 1 µs is counted in ARR_STRETCH. -/
def holdMvms (s : State) (t ns : Nat) : State :=
  let x := tile s t
  let crossed := (x.mvms.filter (fun m => mvmActive m && decide (m.heldNs ≤ 1000) && decide (1000 < m.heldNs + ns))).length
  let s1 := setTile s t { x with mvms := x.mvms.map (fun m => if mvmActive m then { m with heldNs := m.heldNs + ns } else m) }
  if crossed = 0 then s1 else count s1 (.arrStretch t) crossed

/-- Stall cycles of a source are counted once, in SCH_STALLs and for the step, and a continuous non-DEBUG stall in SCH_MAXWAIT. -/
def chargeStall (s : State) (t src n : Nat) : State :=
  if n = 0 then s
  else
    let ns := cyclesNs s t n
    let s1 := onTile (count s (.schStall t src) n) t (fun x =>
      { x with stepStall := listSet x.stepStall src (x.stepStall.getD src 0 + n), stallNs := if src = srcDebug then x.stallNs else x.stallNs + ns })
    let w := (tile s1 t).stallNs
    let s2 := if (rd s1 (.schMaxwait t)).toNat < w then wr s1 (.schMaxwait t) (BitVec.ofNat 32 (satNat w 0xFFFFFFFF)) else s1
    holdMvms s2 t ns

/-- The source a held bundle is counted against: the highest priority in force, SUPPLY first (R128). -/
def topSource (l : List Nat) : Nat := maxNat l

/-- A debug halt of the tile's plot is in force (Table SCH-14). -/
def debugHalt (s : State) (t : Nat) : Bool :=
  match plotOf s t with
  | some p => bit (rd s (.schPctrl p)) 1
  | none => false

/-! ### Slot operations (R119, R460) -/

/-- One slot operation of a bundle: the later and present cycles in which it needs port A of a bank, counted from its issue (R182); the faults of the bundle alone, the holds
and the faults of the issue cycle (R460); and its effect. -/
structure SlotOp where
  ports : List (Nat × Nat) := []
  alone : State → Viol := fun _ => {}
  holds : State → List Nat := fun _ => []
  late : State → Viol := fun _ => {}
  issue : State → State := id

/-- Cycles of a 64-byte access at a byte of its bank (R182). -/
def accessCycles (a : Nat) : Nat := if a % 64 = 0 then 1 else 2

/-- Port A of a bank in n consecutive cycles from an offset on. -/
def portRun (bank off n : Nat) : List (Nat × Nat) := (List.range n).map (fun k => (off + k, bank))

/-- The schedule cycle in which a tile's slot operation issues. -/
def issueCycle (s : State) (t : Nat) : Nat := (rd s (.schCycle t)).toNat

end Sys2Proof.Machine
end

