-- ==== Sys2Proof/Machine/Arrays.lean ====
section
/-! DEFINITION. The analog arrays: input loads, launches and collects (R31 to R46), weight writes (R51 to R53), fallow and substitution requests
(R44, R45, R54, R55). -/
set_option Elab.async false
namespace Sys2Proof.Machine

/-! ### Groups, slots and wakes -/

/-- The physical slot that serves a logical slot (R45). -/
def physSlot (s : State) (t g l : Nat) : Nat := if rdFld s (.arrGrp t g) 4 0 = l then 16 else l

/-- The physical slot that a weight load programs for a logical slot: slot 16 also where RETIRED_NEXT names it while the spare may take it (R106). -/
def loadSlot (s : State) (t g l : Nat) : Nat := if rdFld s (.arrGrp t g) 12 8 = l then 16 else physSlot s t g l

/-- Weight mode of a logical slot (R27). -/
def slotMode (s : State) (t g l : Nat) : Nat := rdFld s (.arrMode t g) (2 * l + 1) (2 * l)

/-- Every group of the tile is FALLOW (R54). -/
def allFallow (s : State) (t : Nat) : Bool := (List.range 32).all (fun g => grpPwr s t g == 0)

/-- Wake tokens in the bucket (R167): those of its depth that have not been taken, or are back. -/
def tokens (s : State) : Nat := rdFld s .pwrWake 3 0 - s.power.tokensOut

/-- PWR_STATUS shows the tokens in the bucket. -/
def showTokens (s : State) : State := wrFld s .pwrStatus 27 24 (tokens s)

/-- A token is taken. -/
def takeToken (s : State) : State := showTokens { s with power := { s.power with tokensOut := s.power.tokensOut + 1 } }

/-- A warning is in force on VTILEd or VCIMd of the tile's die, so its tiles take no token (R167). -/
def dieWarned (s : State) (t : Nat) : Bool := bit (rd s .pwrStatus) (8 + t / 16) || bit (rd s .pwrStatus) (16 + t / 16)

/-- VTILEd of the tile's die is in reset: its tiles take no token (R167). -/
def dieInReset (s : State) (t : Nat) : Bool := rdFld s (.rstInrst ((64 + t) / 32)) ((64 + t) % 32) ((64 + t) % 32) == 1

/-- A tile below t waits for a token and could take one: tokens go to the lowest tile first (R167). -/
def lowerWaits (s : State) (t : Nat) : Bool :=
  s.tiles.any (fun e => decide (e.1 < t) && !e.2.wakeWaits.isEmpty && !dieWarned s e.1 && !dieInReset s e.1)

/-- A wake of group g is asked for (R54): granted at once in a tile that is awake; in a wholly fallow tile it takes a token, or waits and is
counted in PWR_WAKEDLY (R167). -/
def wakeGroup (s : State) (t g : Nat) : State :=
  if grpPwr s t g ≠ 0 then s
  else if !allFallow s t then wrFld s (.arrGrp t g) 21 20 1
  else if (tile s t).wakeWaits.isEmpty then
    if tokens s = 0 || dieWarned s t || dieInReset s t || lowerWaits s t then
      count (onTile s t (fun x => { x with wakeWaits := [g] })) .pwrWakedly 1
    else wrFld (takeToken s) (.arrGrp t g) 21 20 1
  else onTile s t (fun x => { x with wakeWaits := x.wakeWaits.filter (· ≠ g) ++ [g] })

/-- FALLOW_REQ of a group is written (R54, R55): 1 asks for fallow, 0 for a wake.  A wake that an open waits for stands. -/
def fallowReq (s : State) (t g : Nat) (v : Bool) : State :=
  let s1 := wrBit s (.arrGrp t g) 22 v
  let open' := (tile s t).writes.any (fun w => w.group == g)
  if v then applyFallow (onTile s1 t (fun x => { x with wakeWaits := if open' then x.wakeWaits else x.wakeWaits.filter (· ≠ g) })) t g
  else wakeGroup (onTile s1 t (fun x => { x with fallowDue := x.fallowDue.filter (· ≠ g) })) t g

/-- FALLOW_REQ (R55). -/
def execFallowReq (t : Fin 128) (g : Fin 32) (v : Bool) (s : State) : Host.Outcome State Fault Refusal := .next (fallowReq s t g v)

/-- RETIRED_NEXT (R45): ignored unless the spare is REFERENCE or EMPTY, and for 17 to 31. -/
def execRetiredNext (t : Fin 128) (g : Fin 32) (v : BitVec 5) (s : State) : Host.Outcome State Fault Refusal :=
  .next (if (spare s t g = spEmpty ∨ spare s t g = spReference) ∧ v.toNat ≤ 16 then wrFld s (.arrGrp t g) 12 8 v.toNat else s)

/-- R45 at a step boundary: where the spare is READY, its correction entries are written and no array of the group is active, RETIRED_NEXT is copied into RETIRED, the
spare goes IN_USE and RETIRED_NEXT reads 16.  A spare reloaded after a harrow for the slot that stays retired (Table CAL-12) goes IN_USE likewise. -/
def commitSubstitution (s : State) (t g : Nat) : State :=
  let k := rdFld s (.arrGrp t g) 12 8
  if spare s t g = spReady && !groupActive (tile s t) g && !(tile s t).karrDue.contains g && (k != 16 || rdFld s (.arrGrp t g) 4 0 != 16) then
    setSpare (wrFld (if k = 16 then s else wrFld s (.arrGrp t g) 4 0 k) (.arrGrp t g) 12 8 16) t g spInUse
  else s

/-- R47: a logical slot has no serving physical slot: its physical slot's VALID clears, LOST and DEGRADED are set, the calibration state is LOST,
an event is recorded and management firmware interrupted. -/
def groupLost (s : State) (t g phys : Nat) : State :=
  let s1 := wrBit (wrBit (wrBit s (.arrValid t g) phys false) (.arrGrp t g) 23 true) (.arrStatus t) 31 true
  let s2 := wrFld s1 (.calGstat t g) 31 29 6
  irqCores (recordEvent s2 0x0402 (plotField s2 t) 2 (islTile t) t (rd s2 (.arrGrp t g)) g) mgmtCores 16

/-- R107, R109: a health check flags a physical slot.  A slot flagged again during its own repair is ignored; a spare flagged while IN_USE fails and its group is LOST;
another slot flagged while the spare can no longer repair it is LOST. -/
def flagSlot (s : State) (t g phys : Nat) : State :=
  let repairing := rdFld s (.arrGrp t g) 12 8 == phys && (spare s t g == spProgramming || spare s t g == spReady)
  if phys ≠ 16 ∧ repairing = true then s
  else
    let s1 := wrBit s (.calFlag t g) phys true
    let s2 := irqCores (recordEvent s1 0x0403 (plotField s1 t) 2 (islTile t) t (rd s1 (.calFlag t g)) g) mgmtCores 15
    if phys = 16 then (if spare s t g = spInUse then groupLost (setSpare s2 t g spFailed) t g 16 else s2)
    else if spare s t g = spEmpty ∨ spare s t g = spReference then s2
    else if rdFld s (.arrGrp t g) 4 0 = phys then s2
    else groupLost s2 t g phys

/-! ### Input loads, launches and collects -/

/-- LOADIV (R31): eight 64-byte accesses on eight consecutive cycles; all bytes lie in one bank (R125). -/
def issueLoadiv (sl : Slot) (iv bank line : Nat) (s : State) : State :=
  let t := sl.tile.val
  let c := issueCycle s t
  let s1 := spEcc s t bank line 1 sl.ecc
  landUpTo 17 (forAll (fun s k => land s t (.load (c + k) (8 * iv + k) (scratchAddr t (bank * 0x100000 + (line + k) * 64)))) s1 (List.range 8)) t c

/-- The input register as it stands (R31): its eight chunks, byte i driving row i. -/
def ivRows (x : TileState) (iv : Nat) : BitVec 4096 :=
  BitVec.ofNat 4096 ((List.range 8).foldl (fun acc k => acc + (mapGet 0 x.ivs (8 * iv + k)).toNat * 2 ^ (512 * k)) 0)

/-- A launch descriptor with an invalid field, or RANGE above 10 in the paired mode (R36, R30, Table ARR-21). -/
def badDesc (d : Word) (mode : Nat) : Bool :=
  fld d 3 0 == 0 || decide (8 < fld d 3 0) || decide (12 < descRange d) || (mode == 1 && decide (10 < descRange d))
    || (mode == 2 && decide (12 < descLoRange d))

/-- The MVM that a launch would start. -/
def newMvm (s : State) (t g phys logical mode iv : Nat) (d : Word) (skipped : Bool) : Mvm :=
  { group := g, slot := phys, logical := logical, start := issueCycle s t, bits := fld d 3 0, phase := rdFld s (.arrTiming t) 4 0,
    mode := mode, desc := d, rows := ivRows (tile s t) iv, skipped := skipped, void := false, done := false, heldNs := 0, lanes := [] }

/-- Holds of a launch (Table SCH-14, R42, R54, R168): a group not AWAKE, ACTIVE at BUDGET, or the ramp guard. -/
def launchHolds (t g : Nat) (s : State) : List Nat :=
  if grpPwr s t g ≠ 2 || decide (rdFld s (.arrStatus t) 21 16 ≤ rdFld s (.arrStatus t) 13 8)
      || decide (rdFld s .pwrCtrl 12 6 ≤ (tile s t).rampRise) then [srcGov] else []

/-- Faults of a launch's issue cycle (Table ARR-8): INVALID_ARRAY for a logical array without a valid image or in a LOST group (R153), RELAUNCH, CONV_CONFLICT. -/
def launchLate (t : Nat) (isRef : Bool) (mk : State → Mvm) (s : State) : Viol :=
  let m := mk s
  let x := tile s t
  let inv := !isRef && (!bit (rd s (.arrValid t m.group)) m.slot || bit (rd s (.arrGrp t m.group)) 23)
  let re := x.mvms.any (fun k => mvmActive k && k.group == m.group && k.slot == m.slot && (k.logical == 16) == isRef)
  let cc := x.mvms.any (fun k => mvmActive k && k.group == m.group && convOverlap k m)
  { arr := (if inv then [4] else []) ++ (if re then [1] else []) ++ (if cc then [0] else []),
    group := m.group, slot := if isRef then 31 else m.slot }

/-- A launch issues: the row latches take the input register, the array becomes active, ACTIVE rises (R33, R41).  The step's earlier MVMs stay on record, for the windows
that they ended (R39). -/
def issueLaunch (t : Nat) (mk : State → Mvm) (s : State) : State :=
  let m := mk s
  let s1 := onTile s t (fun x => { x with mvms := x.mvms ++ [m], rampRise := x.rampRise + 1 })
  setActive (if m.skipped then count s1 (.arrRefskip t) 1 else s1) t

/-- A launch held by the ramp guard is a RAMP slack overrun (R143, R168): counted, shown in SCH_SLACKINFO, an event recorded. -/
def slackOverrun (s : State) (t xid kind excess : Nat) : State :=
  let s1 := onTile (count s (.schSlackcnt t) 1) t (fun x => { x with stepSlack := x.stepSlack + 1 })
  let s2 := wr s1 (.schSlackinfo t) (BitVec.ofNat 32 (xid * 2 ^ 20 + kind * 2 ^ 18 + satNat excess 262143))
  recordEvent s2 0x0503 (plotField s2 t) 0 (islTile t) t (rd s2 (.schSlackinfo t)) 0

/-- A launch of a logical or reference array (R43, R460). -/
def opLaunchOf (t g : Nat) (isRef : Bool) (desc : Nat) (mk : State → Mvm) : SlotOp where
  alone := fun s => if badDesc (rd s (.arrLdesc t desc)) (mk s).mode then { arr := [5], group := g, slot := if isRef then 31 else (mk s).slot } else {}
  holds := launchHolds t g
  late := launchLate t isRef mk
  issue := issueLaunch t mk

/-- The MVM of a LAUNCH of logical array la. -/
def launchMvm (t la iv desc : Nat) (s : State) : Mvm :=
  newMvm s t (la / 16) (physSlot s t (la / 16) (la % 16)) (la % 16) (slotMode s t (la / 16) (la % 16)) iv (rd s (.arrLdesc t desc)) false

/-- The MVM of an RLAUNCH (R46): on physical slot 16, native; while the spare is not REFERENCE it is skipped, timed as though it converts. -/
def rlaunchMvm (t g iv desc : Nat) (s : State) : Mvm := newMvm s t g 16 16 0 iv (rd s (.arrLdesc t desc)) (spare s t g != spReference)

/-- LAUNCH (R33). -/
def opLaunch (t la iv desc : Nat) : SlotOp := opLaunchOf t (la / 16) false desc (launchMvm t la iv desc)
/-- RLAUNCH (R46). -/
def opRlaunch (t g iv desc : Nat) : SlotOp := opLaunchOf t g true desc (rlaunchMvm t g iv desc)

/-- LOADIV (R31), accesses of the sequencer to eight lines of one bank. -/
def opLoadiv (sl : Slot) (iv bank line : Nat) : SlotOp where
  ports := portRun bank 0 8
  alone := fun _ => if 16376 < line then { sch := [0] } else {}
  late := fun s => linesViol s sl.tile 1 bank (line * 64) 512 false
  issue := issueLoadiv sl iv bank line

/-! ### Post-processing (R59 to R70) -/

/-- The latest launch in the step of an array: a logical one, or the group's reference array (R121). -/
def lastLaunch (x : TileState) (g logical : Nat) : Option Mvm :=
  (x.mvms.reverse.find? (fun m => m.group == g && m.logical == logical))

/-- Round-to-nearest-even of i / 2^k. -/
def rneShift (i : Int) (k : Nat) : Int :=
  let r := (roundUnits .nearest i.natAbs 0 k : Int)
  if i < 0 then -r else r

/-- SAT, NOREF, VOID and CODE of a lane (Table ARR-7). -/
def laneVoid (l : Half) : Bool := l.toNat.testBit 13
def laneNoref (l : Half) : Bool := l.toNat.testBit 14
def laneCode (l : Half) : Int := sext 10 l.toNat

/-- The column value v of one lane (R61), under its correction entry and exponent e = RANGE_L + 9 − n (R59). -/
def laneValue (entry : Word) (rangeL n : Nat) (l : Half) : Int :=
  if laneNoref l then 0
  else
    let c16 := rneShift (laneCode l * fld entry 31 16) 10 + sext 16 (fld entry 15 0)
    if n ≤ rangeL + 5 then c16 * 2 ^ (rangeL + 5 - n) else rneShift c16 (n - (rangeL + 5))

/-- RANGE_L of a lane for its exponent (Table SHL-2): both sub-columns of the paired mode take RANGE. -/
def expRange (mode : Nat) (d : Word) (lane : Nat) : Nat := if mode = 1 then descRange d else convRange mode d lane

/-- The corrected values of a collect's lanes. -/
def collectValues (x : TileState) (m : Mvm) (lanes : List Half) : List Int :=
  lanes.zipIdx.map (fun e =>
    laneValue (mapGet 0x40000000 x.corr (516 * (17 * m.group + m.slot) + laneColumn m.mode e.2)) (expRange m.mode m.desc e.2) (adcBits m.desc) e.1)

/-- The logical results of a collect (R64, R66): 512, 256 recombined, or 1,024. -/
def collectResults (mode : Nat) (v : List Int) : List Int :=
  if mode = 2 then (List.range 256).map (fun k => 16 * v.getD (2 * k + 1) 0 + v.getD (2 * k) 0 + 8 * v.getD 515 0)
  else v.take (if mode = 1 then 1024 else 512)

/-- Number of results of a mode. -/
def resultCount (mode : Nat) : Nat := if mode = 2 then 256 else if mode = 1 then 1024 else 512

/-- Output bytes of N results in an OUTFMT, or of a collect's lanes in RAW16 (Table SHL-4). -/
def outSize (fmt n lanes : Nat) : Nat :=
  if fmt = 0 ∨ fmt = 8 then 4 * n else if fmt = 1 then 2 * n else if fmt = 9 then 2 * lanes
  else match mxFmt fmt with | some f => n * f.bits / 8 + n / 32 | none => 0

/-- A collect whose PP descriptor is invalid for its mode (R66, R69, R70, Table SHL-10). -/
def badPpdesc (a b : Word) (mode : Nat) : Bool :=
  let fmt := fld a 23 20
  let writes := bit a 31 || fmt == 9
  let bytes := outSize fmt (resultCount mode) (laneCount mode)
  decide (9 < fmt) || (mode == 1 && fld a 29 24 % 2 == 1)
    || (bit a 31 && decide (fmt ≤ 7) && !bit a 19 && decide (4096 < fld a 11 0 + resultCount mode))
    || (writes && decide (0x100000 < fld b 13 0 * 64 + (bytes + 63) / 64 * 64))

/-- Faults of a collect's issue cycle: COLLECT_EARLY, COLLECT_LOST once a later conversion phase of the group has ended (R39), PP_BUSY (R67), REGION of the
array-result master. -/
def collectLate (t g logical desc : Nat) (s : State) : Viol :=
  let x := tile s t
  let c := issueCycle s t
  let a := rd s (.tilPpda t desc)
  let b := rd s (.tilPpdb t desc)
  match lastLaunch x g logical with
  | none => { arr := [2], group := g, slot := if logical = 16 then 31 else physSlot s t g logical, desc := desc }
  | some m =>
    let early := decide (c < mvmEnd m)
    let lost := x.mvms.any (fun k => k.group == g && decide (mvmEnd m < mvmConvStart k + k.phase) && decide (mvmConvStart k + k.phase ≤ c))
    let writes := bit a 31 || fld a 23 20 == 9
    let bytes := outSize (fld a 23 20) (resultCount m.mode) (laneCount m.mode)
    let refused := if writes then firstRefused s t 0 0 (fld b 13 0) ((bytes + 63) / 64) true else none
    { arr := (if early then [2] else []) ++ (if lost then [3] else []),
      sh := if c < x.ppFree then [0] else [],
      sch := if refused.isSome then [2] else [],
      group := g, slot := if logical = 16 then 31 else m.slot, desc := desc, refused := match refused with | some l => [(0, l, 0)] | none => [] }

/-- The drift tracker takes the reference lanes of a collect (R65, R96): REF0, REF1 and REF3 as gains against 7, −8 and 1 times the input's sum where |7 × sum| is at
least FS / 8, times a factor, and REF2 as a code. -/
def trackAdd (m : Mvm) (lanes : List Half) (f : Rat) (k : Tracker) : Tracker :=
  let base := laneCount m.mode - 4
  let n := adcBits m.desc
  let at' := fun r => (laneCode (lanes.getD (base + r) 0) : Rat)
  let lsb := fun r => fullScale (convRange m.mode m.desc (base + r)) / ((2 ^ (n - 1) : Nat) : Rat)
  let x := inputSum m
  let h := fun r => f * at' r * lsb r / ((x * refWeight r : Int) : Rat)
  let k1 := { k with all := k.all + 1, z2 := k.z2 + at' 2 }
  if fullScale (convRange m.mode m.desc base) / 8 ≤ ((7 * x.natAbs : Nat) : Rat) then { k1 with n := k1.n + 1, h0 := k1.h0 + h 0, h1 := k1.h1 + h 1, h3 := k1.h3 + h 3 } else k1

/-- A slot's array factor from the reference lanes of 64 collects against karr (Table CAL-4, R94): the fourth mean in a row beyond 1 % flags the slot. -/
def trackFactor (s : State) (t g p : Nat) : State :=
  let k := calOf s t g
  let q := mapGet {} k.slotTrack p
  if q.n < 64 then s
  else
    let f := 2 / (q.h0 / q.n * mapGet 1 k.kcol 512 + q.h1 / q.n * mapGet 1 k.kcol 513)
    let kr := mapGet 1 k.karr p
    let out := decide (kr / 100 < f - kr) || decide (kr / 100 < kr - f)
    let n := if out then mapGet 0 k.arrOut p + 1 else 0
    let s1 := onCal s t g (fun k => { k with arrOut := mapSet 0 k.arrOut p n, slotTrack := mapErase k.slotTrack p })
    if n = 4 then flagSlot s1 t g p else s1

/-- The drift tracker's share of a collect (R65, R96). -/
def trackCollect (s : State) (t : Nat) (m : Mvm) (lanes : List Half) : State :=
  trackFactor (onCal s t m.group (fun k => { k with
    track := trackAdd m lanes (mapGet 1 k.karr m.slot) k.track, slotTrack := mapInsert k.slotTrack m.slot (trackAdd m lanes 1 (mapGet {} k.slotTrack m.slot)) })) t m.group m.slot

/-- From the detection of a VOID lane nothing of the plot leaves it, its leader is told, and it freezes at the step boundary (R63, steps 1 to 3 of R200). -/
def voidLane (s : State) (t desc : Nat) : State :=
  let s1 := shError s t (issueCycle s t) desc [3]
  let s2 := recordEvent s1 0x0405 (plotField s1 t) 3 (islTile t) t (rd s1 (.tilSherrinfo t)) 0
  match plotOf s2 t with
  | some p => freezeLater s2 p
  | none => s2

/-- A collect issues (R61 to R70): a VOID lane writes nothing (R63); RAW16 writes the lanes; any other loads or adds into the accumulator, and with FINAL scales and writes
the output.  The row of a collect with FINAL = 1 is updated in the cycle that Table SHL-3 gives for FINAL = 0: DESIGN CHOICE, log entry 107. -/
def issueCollect (t g logical desc : Nat) (s : State) : State :=
  let c := issueCycle s t
  let a := rd s (.tilPpda t desc)
  let b := rd s (.tilPpdb t desc)
  match lastLaunch (tile s t) g logical with
  | none => s
  | some m =>
    let lanes := if m.skipped then List.replicate (laneCount m.mode) (0x4000 : Half) else m.lanes
    let s1 := onTile s t (fun x => { x with ppFree := c + 3 * mvmConv m })
    let fmt := fld a 23 20
    let addr := scratchAddr t (fld b 13 0 * 64)
    if lanes.any laneVoid then voidLane s1 t desc
    else
      let s2 := if m.skipped then s1 else trackCollect s1 t m lanes
      if fmt = 9 then landBeats s2 t c addr (padLine (lanes.flatMap (fun l => leBytes 2 l.toNat)))
      else
        let fin : Option FinalOut := if bit a 31 then
          some { outfmt := fmt, scmode := bit a 19, rnd := bit a 18, ovf := bit a 17, scbase := fld a 11 0, addr := addr,
                 cyc := c, seed := (tile s t).seed } else none
        land s2 t (.accum (c + 6) (fld a 29 24) (bit a 30) desc (collectResults m.mode (collectValues (tile s t) m lanes)) fin)

/-- COLLECT (R39) of a logical slot of a group, or RCOLLECT (R46) as logical 16. -/
def opCollect (t g logical desc : Nat) : SlotOp where
  alone := fun s => match lastLaunch (tile s t) g logical with
    | some m => if badPpdesc (rd s (.tilPpda t desc)) (rd s (.tilPpdb t desc)) m.mode then { sh := [1], desc := desc } else {}
    | none => {}
  late := collectLate t g logical desc
  issue := issueCollect t g logical desc

/-! ### Writing weights (R50 to R53) -/

/-- The loader may open the slot (R52): a slot of a plot in LOADING, a plot being harrowed, slot 16 for the repair that RETIRED_NEXT names, or
slot 16 for the reference image while EMPTY or REFERENCE, where no slot is retired (R106). -/
def writePermitted (s : State) (t g slot target : Nat) (k : WriteKind) : Bool :=
  let st := match plotOf s t with | some p => pltState s p | none => pltUndefined
  match k with
  | .husk => st == pltLoading
  | .harrow => st == pltScrubbing
  | .repair => slot == 16 && (tile s t).repairRows.any (fun e => e.1 == g) && rdFld s (.arrGrp t g) 12 8 == target
      && (spare s t g == spEmpty || spare s t g == spReference || spare s t g == spProgramming)
  | .reference => slot == 16 && (spare s t g == spEmpty || spare s t g == spReference) && rdFld s (.arrGrp t g) 4 0 == 16 && !(calOf s t g).spareBad

/-- An open proceeds in an AWAKE group: VALID of the slot clears, and an EMPTY or REFERENCE spare that is to hold a logical slot's weights is PROGRAMMING (Table ARR-9). -/
def openWrite (s : State) (t : Nat) (w : WeightWrite) : State :=
  let s1 := wrBit s (.arrValid t w.group) w.slot false
  let s2 := if w.slot = 16 ∧ (w.kind = .repair ∨ w.kind = .husk) ∧ (spare s t w.group = spEmpty ∨ spare s t w.group = spReference) then setSpare s1 t w.group spProgramming else s1
  onTile s2 t (fun x => { x with writes := x.writes.filter (fun v => !(v.group == w.group && v.slot == w.slot)) ++ [{ w with waiting := false }] })

/-- An open waits for its group, which is woken for it; while it waits the group does not return to FALLOW (R55). -/
def askWrite (s : State) (t : Nat) (w : WeightWrite) : State := onTile (wakeGroup s t w.group) t (fun x => { x with writes := x.writes ++ [w] })

/-- A harrow asks to write every group of a tile (R53, R55). -/
def harrowOpen (s : State) (t : Nat) : State :=
  forAll (fun s g => askWrite s t { group := g, slot := 0, mode := 0, target := 0, kind := .harrow, nextRow := 0, waiting := true, failed := false, load := true }) s (List.range 32)

/-- WEIGHT_WRITE_OPEN (R51, R52, R55): refused with WRITE_REFUSED, or opened; a FALLOW group is woken and the open waits until it is AWAKE. -/
def execWeightWriteOpen (t : Fin 128) (g : Fin 32) (slot : Fin 17) (mode : Fin 3) (target : Fin 16) (kind : WriteKind) (s : State) :
    Host.Outcome State Fault Refusal :=
  let w : WeightWrite := { group := g, slot := slot, mode := mode, target := target, kind := kind, nextRow := 0, waiting := true, failed := false }
  .next (if !writePermitted s t g slot target kind then arrError s t g slot [6]
    else if grpPwr s t g = 2 then openWrite s t w
    else askWrite s t w)

/-- Nibbles with bit 3 of every even one inverted: the write port's storing of an 8-bit-mode row (R29). -/
def invertLow (row : BitVec 2048) : BitVec 2048 :=
  row ^^^ BitVec.ofNat 2048 ((List.range 256).foldl (fun acc m => acc + 2 ^ (8 * m + 3)) 0)

/-- The cells that a row's 256 bytes fill (R28, R29); the reference image and a harrow bring their own patterns (R93, R53). -/
def rowCells (w : WeightWrite) (row : BitVec 2048) : BitVec 2048 :=
  match w.kind with
  | .harrow => 0
  | .reference => BitVec.ofNat 2048 ((if w.nextRow < 256 then 7 else 8) * ((2 ^ 2048 - 1) / 15))
  | _ => if w.mode = 2 then invertLow row else row

/-- The row that the loader writes: of a repair, that of the segment whose tag has been verified (R108 steps 2 and 3). -/
def loaderRow (s : State) (t : Nat) (w : WeightWrite) (row : BitVec 2048) : BitVec 2048 :=
  match w.kind with
  | .repair => match mapFind (tile s t).repairRows w.group with | some rs => rs.getD w.nextRow 0 | none => row
  | _ => row

/-- A row failed its comparison twice (R51, R107, R109): the sequence stops, VERIFY_FAIL is set, the slot is flagged, VALID stays 0; a spare
being programmed is FAILED and the logical slot it was to serve is LOST; one IN_USE fails, and its group is LOST (Table ARR-9). -/
def verifyFail (s : State) (t : Nat) (w : WeightWrite) : State :=
  let s1 := arrError (onTile s t (fun x => { x with writes := x.writes.map (fun v => if v = w then { v with failed := true } else v) })) t w.group w.slot [7]
  if w.slot = 16 ∧ spare s t w.group = spProgramming then
    let s2 := wrBit s1 (.calFlag t w.group) 16 true
    let s3 := irqCores (recordEvent s2 0x0403 (plotField s2 t) 2 (islTile t) t (rd s2 (.calFlag t w.group)) w.group) mgmtCores 15
    groupLost (setSpare s3 t w.group spFailed) t w.group w.target
  else flagSlot s1 t w.group w.slot

/-- WEIGHT_ROW_WRITE (R51): the next row is written and read back; `bad` comparisons fail, and a second failure ends the sequence. -/
def execWeightRowWrite (t : Fin 128) (g : Fin 32) (slot : Fin 17) (row : BitVec 2048) (bad : Fin 3) (s : State) : Host.Outcome State Fault Refusal :=
  match (tile s t).writes.find? (fun w => w.group == g.val && w.slot == slot.val && !w.waiting && !w.failed && decide (w.nextRow < 512)) with
  | none => .next (arrError s t g slot [6])
  | some w =>
    .next (if bad.val = 2 then verifyFail s t w
      else onTile s t (fun x => { x with
        cells := mapInsert x.cells (512 * (17 * w.group + w.slot) + w.nextRow) (rowCells w (loaderRow s t w row))
        writes := x.writes.map (fun v => if v = w then { v with nextRow := v.nextRow + 1 } else v) }))

/-- After the last open write of a group closes, the group returns to FALLOW if FALLOW_REQ is 1 (R55). -/
def closeFallow (s : State) (t g : Nat) : State :=
  if bit (rd s (.arrGrp t g)) 22 then applyFallow s t g else s

/-- A complete, verified write has closed (R51, R53): VALID and the mode, or the spare's state (Table ARR-9). -/
def closedWrite (s : State) (t : Nat) (w : WeightWrite) : State :=
  match w.kind with
  | .harrow => if w.slot = 16 ∧ spare s t w.group ≠ spFailed then setSpare s t w.group spEmpty else s
  | .reference => setSpare (wrBit s (.arrValid t w.group) 16 true) t w.group spReference
  | _ =>
    let s1 := wrFld (wrBit s (.arrValid t w.group) w.slot true) (.arrMode t w.group) (2 * w.target + 1) (2 * w.target) w.mode
    if w.slot = 16 ∧ spare s t w.group = spProgramming then
      onTile (setSpare s1 t w.group spReady) t (fun x => { x with karrDue := if w.kind = .repair then w.group :: x.karrDue.filter (· ≠ w.group) else x.karrDue })
    else s1

/-- The whole write of a husk part into the physical slot that a load programs for a logical array (R51, R106, R374), of a group that is AWAKE (R55): open, rows, close; `bad` says
that a row fails twice.  What is left says whether the array was written. -/
def writeArray (s : State) (t l mode : Nat) (rows : List (BitVec 2048)) (bad : Bool) : State × Bool :=
  let g := l / 16
  let w : WeightWrite := { group := g, slot := loadSlot s t g (l % 16), mode := mode, target := l % 16, kind := .husk, nextRow := 0, waiting := false, failed := false }
  if !writePermitted s t g w.slot w.target .husk then (arrError s t g w.slot [6], false)
  else
    let s1 := openWrite s t w
    let put := fun (m : List (Nat × BitVec 2048)) (e : BitVec 2048 × Nat) => mapInsert m (512 * (17 * g + w.slot) + e.2) (rowCells { w with nextRow := e.2 } e.1)
    let s2 := if bad then verifyFail s1 t w else onTile s1 t (fun x => { x with cells := rows.zipIdx.foldl put x.cells })
    let s3 := onTile s2 t (fun x => { x with writes := x.writes.filter (fun v => !(v.group == g && v.slot == w.slot)) })
    (closeFallow (if bad then s3 else closedWrite s3 t w) t g, !bad)

/-- WEIGHT_WRITE_CLOSE (R51): a complete, verified write sets VALID and records the mode; a spare programmed is READY, one with the reference
image REFERENCE; a harrowed one EMPTY unless FAILED (R53).  A failed write closes with VALID 0. -/
def execWeightWriteClose (t : Fin 128) (g : Fin 32) (slot : Fin 17) (s : State) : Host.Outcome State Fault Refusal :=
  match (tile s t).writes.find? (fun w => w.group == g.val && w.slot == slot.val && !w.waiting) with
  | none => .next (arrError s t g slot [6])
  | some w =>
    let s1 := onTile s t (fun x => { x with writes := x.writes.filter (fun v => !(v.group == g.val && v.slot == slot.val)),
                                            repairRows := x.repairRows.filter (fun e => e.1 != g.val) })
    .next (closeFallow (if w.failed || decide (w.nextRow < 512) then s1 else closedWrite s1 t w) t g)

end Sys2Proof.Machine
end

