-- ==== Sys2Proof/Machine/Bundle.lean ====
section
/-! DEFINITION. The slots of a bundle and the bits of each slot operation (R119 to R126, Tables SCH-7 to SCH-13). -/
set_option Elab.async false
namespace Sys2Proof.Machine

/-- Field [hi:lo] of a slot. -/
def bf (w hi lo : Nat) : Nat := w / 2 ^ lo % 2 ^ (hi + 1 - lo)

/-- The bits of slot k of a bundle (Table SCH-7): 0 CTL, 1 ARR, 2 VEC, 3 DMX, 4 MOV, 5 XNG. -/
def slotBits (b : BitVec 256) (k : Nat) : Nat :=
  let n := b.toNat
  match k with
  | 0 => bf n 255 224
  | 1 => bf n 223 176
  | 2 => bf n 175 112
  | 3 => bf n 111 88
  | 4 => bf n 87 40
  | _ => bf n 39 0

/-- A VEC slot (R122). -/
def vecBits (op : Nat) (o : VecOp) : Nat :=
  op * 2 ^ 56 + o.w.toNat * 2 ^ 54 + o.ef.toNat * 2 ^ 51 + o.rnd.toNat * 2 ^ 50 + o.ovf.toNat * 2 ^ 49 + o.vd.val * 2 ^ 44 + o.va.val * 2 ^ 39
    + o.vb.val * 2 ^ 34 + o.vc.val * 2 ^ 29 + o.imm.toNat

/-- A slot operation as its place in Table SCH-7 and its bits there, every bit that the operation does not define 0 (R119); none of a command of another kind. -/
def encSlot (i : Instr) : Option (Nat × Nat) :=
  match i with
  | .ctlWait _ n => some (0, 0x1 * 2 ^ 28 + n.toNat)
  | .loop _ n => some (0, 0x2 * 2 ^ 28 + n.toNat)
  | .endloop _ => some (0, 0x3 * 2 ^ 28)
  | .seedld _ b l w => some (0, 0x4 * 2 ^ 28 + b.val * 2 ^ 26 + l.toNat * 2 ^ 12 + w.val)
  | .fallow _ w l f => some (0, 0x5 * 2 ^ 28 + w.toNat * 2 ^ 24 + l.val * 2 ^ 5 + f.val)
  | .endOp _ => some (0, 0xF * 2 ^ 28)
  | .loadiv _ iv b l => some (1, 0x1 * 2 ^ 44 + iv.val * 2 ^ 40 + b.val * 2 ^ 38 + l.toNat * 2 ^ 24)
  | .launch _ a iv d => some (1, 0x2 * 2 ^ 44 + a.toNat * 2 ^ 35 + iv.val * 2 ^ 32 + d.val * 2 ^ 26)
  | .rlaunch _ g iv d => some (1, 0x3 * 2 ^ 44 + g.val * 2 ^ 39 + iv.val * 2 ^ 32 + d.val * 2 ^ 26)
  | .collect _ a d => some (1, 0x4 * 2 ^ 44 + a.toNat * 2 ^ 35 + d.val * 2 ^ 26)
  | .rcollect _ g d => some (1, 0x5 * 2 ^ 44 + g.val * 2 ^ 39 + d.val * 2 ^ 26)
  | .vecFma _ o => some (2, vecBits 0x01 o)
  | .vecAdd _ o => some (2, vecBits 0x02 o)
  | .vecMul _ o => some (2, vecBits 0x03 o)
  | .max _ o => some (2, vecBits 0x04 o)
  | .min _ o => some (2, vecBits 0x05 o)
  | .cvt _ o => some (2, vecBits 0x08 o)
  | .func _ o => some (2, vecBits 0x10 o)
  | .rsum _ o => some (2, vecBits 0x18 o)
  | .rmax _ o => some (2, vecBits 0x19 o)
  | .mxenc _ o => some (2, vecBits 0x20 o)
  | .mxdec _ o => some (2, vecBits 0x21 o)
  | .route _ o => some (2, vecBits 0x30 o)
  | .sample _ o => some (2, vecBits 0x31 o)
  | .mma _ c d => some (3, 0x1 * 2 ^ 20 + c.val * 2 ^ 19 + d.val * 2 ^ 13)
  | .mmaz _ c d => some (3, 0x2 * 2 ^ 20 + c.val * 2 ^ 19 + d.val * 2 ^ 13)
  | .drain _ c f v r => some (3, 0x3 * 2 ^ 20 + c.val * 2 ^ 19 + f.toNat * 2 ^ 9 + v.val * 2 ^ 4 + r.toNat * 2 ^ 3)
  | .ld _ b a v p => some (4, 0x1 * 2 ^ 44 + b.val * 2 ^ 42 + a.toNat * 2 ^ 22 + v.val * 2 ^ 17 + p.val * 2 ^ 15)
  | .st _ b a v p => some (4, 0x2 * 2 ^ 44 + b.val * 2 ^ 42 + a.toNat * 2 ^ 22 + v.val * 2 ^ 17 + p.val * 2 ^ 15)
  | .cpy _ sb a db l => some (4, 0x3 * 2 ^ 44 + sb.val * 2 ^ 42 + a.toNat * 2 ^ 22 + db.val * 2 ^ 20 + l.toNat * 2 ^ 6)
  | .send _ x => some (5, 0x1 * 2 ^ 36 + x.toNat * 2 ^ 24)
  | .xngWait _ x => some (5, 0x2 * 2 ^ 36 + x.toNat * 2 ^ 24)
  | .lread _ x => some (5, 0x3 * 2 ^ 36 + x.toNat * 2 ^ 24)
  | .free _ x => some (5, 0x4 * 2 ^ 36 + x.toNat * 2 ^ 24)
  | _ => none

/-- A bit set in a VEC field that the operation does not define (R119): VB and VC of an operation with fewer sources, VD of one whose results go to bank 1, bits of IMM
outside Table SCH-10.  W, EF, RND and OVF are fields of every VEC operation (R122): log entry 40. -/
def vecReserved (op : Nat) (o : VecOp) : Bool :=
  let immBits := if op = 0x08 then 4 else if op = 0x10 then 3 else if op = 0x18 ∨ op = 0x19 then 1 else if op = 0x30 then 16 else if op = 0x31 then 29 else 0
  (decide (5 < op) && o.vb != 0) || (op != 1 && o.vc != 0) || (decide (0x30 ≤ op) && o.vd != 0) || decide (2 ^ immBits ≤ o.imm.toNat)

/-- An undefined field value of a VEC operation: W 3, an element format beyond OUTFMT 0x7, the ranges of CVT, FUNC, ROUTE and SAMPLE, or a reserved bit. -/
def vecUndefined (op : Nat) (o : VecOp) : Bool :=
  let imm := o.imm.toNat
  o.w == 3 || (o.w == 2 && decide (6 ≤ o.ef.toNat))
    || (op == 0x08 && (decide (7 < imm % 16) || (o.w == 1 && imm % 16 == 0 && o.vd == 31)))
    || (op == 0x10 && decide (5 < imm % 8))
    || ((op == 0x20 || op == 0x21) && decide (6 ≤ o.ef.toNat))
    || (op == 0x30 && (o.w == 2 || imm % 4096 == 0))
    || (op == 0x31 && (decide (1024 < imm / 2 ^ 18) || imm % 2 ^ 18 == 0))
    || vecReserved op o

end Sys2Proof.Machine
end

