-- ==== Sys2Proof/Machine/ImageRead.lean ====
section
/-! DEFINITION. Drill images as bytes: header, directory, sections (R113 to R116, R130, R142, R144, R145), and the bundles of a stream as the slot
operations they hold (R119 to R126). -/
set_option Elab.async false
namespace Sys2Proof.Machine

/-! ### Bundles (Tables SCH-7 to SCH-13) -/

/-- The slot has no bit set outside the fields listed (R119). -/
def only (w : Nat) (fs : List (Nat × Nat)) : Bool := w == sumNat (fs.map (fun f => bf w f.1 f.2 * 2 ^ f.2))

/-- The CTL slot: its operation, or none where an opcode or field is undefined or a reserved bit is set. -/
def ctlOp (sl : Slot) (w : Nat) : Option (List Instr) :=
  match bf w 31 28 with
  | 0 => if w = 0 then some [] else none
  | 1 => if only w [(31, 28), (23, 0)] then some [.ctlWait sl (BitVec.ofNat 24 w)] else none
  | 2 => if only w [(31, 28), (19, 0)] && bf w 19 0 != 0 then some [.loop sl (BitVec.ofNat 20 w)] else none
  | 3 => if only w [(31, 28)] then some [.endloop sl] else none
  | 4 => if only w [(31, 28), (27, 26), (25, 12), (2, 0)] then
      some [.seedld sl (Fin.ofNat 4 (bf w 27 26)) (BitVec.ofNat 14 (bf w 25 12)) (Fin.ofNat 8 (bf w 2 0))] else none
  | 5 => if only w [(31, 28), (24, 24), (9, 5), (4, 0)] && decide (bf w 4 0 ≤ bf w 9 5) then
      some [.fallow sl (bf w 24 24 == 1) (Fin.ofNat 32 (bf w 9 5)) (Fin.ofNat 32 (bf w 4 0))] else none
  | 15 => if only w [(31, 28)] then some [.endOp sl] else none
  | _ => none

/-- The ARR slot. -/
def arrOp (sl : Slot) (w : Nat) : Option (List Instr) :=
  match bf w 47 44 with
  | 0 => if w = 0 then some [] else none
  | 1 => if only w [(47, 44), (42, 40), (39, 38), (37, 24)] && decide (bf w 37 24 ≤ 16376) then
      some [.loadiv sl (Fin.ofNat 8 (bf w 42 40)) (Fin.ofNat 4 (bf w 39 38)) (BitVec.ofNat 14 (bf w 37 24))] else none
  | 2 => if only w [(47, 44), (43, 35), (34, 32), (31, 26)] then
      some [.launch sl (BitVec.ofNat 9 (bf w 43 35)) (Fin.ofNat 8 (bf w 34 32)) (Fin.ofNat 64 (bf w 31 26))] else none
  | 3 => if only w [(47, 44), (43, 39), (34, 32), (31, 26)] then
      some [.rlaunch sl (Fin.ofNat 32 (bf w 43 39)) (Fin.ofNat 8 (bf w 34 32)) (Fin.ofNat 64 (bf w 31 26))] else none
  | 4 => if only w [(47, 44), (43, 35), (31, 26)] then
      some [.collect sl (BitVec.ofNat 9 (bf w 43 35)) (Fin.ofNat 64 (bf w 31 26))] else none
  | 5 => if only w [(47, 44), (43, 39), (31, 26)] then
      some [.rcollect sl (Fin.ofNat 32 (bf w 43 39)) (Fin.ofNat 64 (bf w 31 26))] else none
  | _ => none

/-- The fields of a VEC slot (R122). -/
def vecFields (w : Nat) : VecOp :=
  { w := BitVec.ofNat 2 (bf w 55 54), ef := BitVec.ofNat 3 (bf w 53 51), rnd := bf w 50 50 == 1, ovf := bf w 49 49 == 1, vd := Fin.ofNat 32 (bf w 48 44),
    va := Fin.ofNat 32 (bf w 43 39), vb := Fin.ofNat 32 (bf w 38 34), vc := Fin.ofNat 32 (bf w 33 29), imm := BitVec.ofNat 29 w }

/-- The VEC slot. -/
def vecOpOf (sl : Slot) (w : Nat) : Option (List Instr) :=
  let o := vecFields w
  let op := bf w 63 56
  if op = 0 then (if w = 0 then some [] else none)
  else if vecUndefined op o then none
  else match op with
    | 0x01 => some [.vecFma sl o]
    | 0x02 => some [.vecAdd sl o]
    | 0x03 => some [.vecMul sl o]
    | 0x04 => some [.max sl o]
    | 0x05 => some [.min sl o]
    | 0x08 => some [.cvt sl o]
    | 0x10 => some [.func sl o]
    | 0x18 => some [.rsum sl o]
    | 0x19 => some [.rmax sl o]
    | 0x20 => some [.mxenc sl o]
    | 0x21 => some [.mxdec sl o]
    | 0x30 => some [.route sl o]
    | 0x31 => some [.sample sl o]
    | _ => none

/-- The DMX slot. -/
def dmxOp (sl : Slot) (w : Nat) : Option (List Instr) :=
  let set := Fin.ofNat 2 (bf w 19 19)
  match bf w 23 20 with
  | 0 => if w = 0 then some [] else none
  | 1 => if only w [(23, 20), (19, 19), (18, 13)] then some [.mma sl set (Fin.ofNat 64 (bf w 18 13))] else none
  | 2 => if only w [(23, 20), (19, 19), (18, 13)] then some [.mmaz sl set (Fin.ofNat 64 (bf w 18 13))] else none
  | 3 => if only w [(23, 20), (19, 19), (12, 9), (8, 4), (3, 3)] && decide (bf w 12 9 ≤ 7) && !(bf w 12 9 == 0 && decide (16 < bf w 8 4)) then
      some [.drain sl set (BitVec.ofNat 4 (bf w 12 9)) (Fin.ofNat 32 (bf w 8 4)) (bf w 3 3 == 1)] else none
  | _ => none

/-- The MOV slot: 64 bytes that would pass the end of their bank are an undefined field value (R125). -/
def movOp (sl : Slot) (w : Nat) : Option (List Instr) :=
  let a := bf w 41 22
  let inBank := decide (a + 64 ≤ 0x100000)
  match bf w 47 44 with
  | 0 => if w = 0 then some [] else none
  | 1 => if only w [(47, 44), (43, 42), (41, 22), (21, 17), (16, 15)] && inBank then
      some [.ld sl (Fin.ofNat 4 (bf w 43 42)) (BitVec.ofNat 20 a) (Fin.ofNat 32 (bf w 21 17)) (Fin.ofNat 4 (bf w 16 15))] else none
  | 2 => if only w [(47, 44), (43, 42), (41, 22), (21, 17), (16, 15)] && inBank then
      some [.st sl (Fin.ofNat 4 (bf w 43 42)) (BitVec.ofNat 20 a) (Fin.ofNat 32 (bf w 21 17)) (Fin.ofNat 4 (bf w 16 15))] else none
  | 3 => if only w [(47, 44), (43, 42), (41, 22), (21, 20), (19, 6)] && inBank then
      some [.cpy sl (Fin.ofNat 4 (bf w 43 42)) (BitVec.ofNat 20 a) (Fin.ofNat 4 (bf w 21 20)) (BitVec.ofNat 14 (bf w 19 6))] else none
  | _ => none

/-- The XNG slot. -/
def xngOp (sl : Slot) (w : Nat) : Option (List Instr) :=
  let x := BitVec.ofNat 12 (bf w 35 24)
  if !only w [(39, 36), (35, 24)] then none
  else match bf w 39 36 with
    | 0 => if w = 0 then some [] else none
    | 1 => some [.send sl x]
    | 2 => some [.xngWait sl x]
    | 3 => some [.lread sl x]
    | 4 => some [.free sl x]
    | _ => none

/-- Both lists of operations, where neither slot is undefined. -/
def slotsJoin (a b : Option (List Instr)) : Option (List Instr) :=
  match a, b with | some x, some y => some (x ++ y) | _, _ => none

/-- The slot operations of a 256-bit bundle, in the order CTL, ARR, VEC, DMX, MOV, XNG; none where it holds an undefined opcode or field value. -/
def bundleOps (sl : Slot) (b : BitVec 256) : Option (List Instr) :=
  let n := b.toNat
  slotsJoin (ctlOp sl (bf n 255 224)) (slotsJoin (arrOp sl (bf n 223 176)) (slotsJoin (vecOpOf sl (bf n 175 112))
    (slotsJoin (dmxOp sl (bf n 111 88)) (slotsJoin (movOp sl (bf n 87 40)) (xngOp sl (bf n 39 0))))))

/-! ### Sections -/

/-- The words of a byte string from an offset on, n of the given length. -/
def leList (bs : List Byte) (off len : Nat) : Nat → List Nat
  | 0 => []
  | n + 1 => leAt bs off len :: leList bs (off + len) len n

/-- A used directory entry (Table SCH-2): type, offset, length, count. -/
abbrev DirEnt := Nat × Nat × Nat × Nat

/-- The directory entries in use. -/
def directory (bs : List Byte) : List DirEnt :=
  ((List.range 8).map (fun i => (leAt bs (128 + 16 * i) 2, leAt bs (132 + 16 * i) 4, leAt bs (136 + 16 * i) 4, leAt bs (140 + 16 * i) 4))).filter (fun e => e.1 != 0)

/-- Bytes of one entry of a section type (Table SCH-3); 0 where the entries have no one length. -/
def entryBytes (type : Nat) : Nat :=
  match type with
  | 1 => 17728
  | 2 => 32
  | 3 => 8
  | 4 => 32
  | 5 => 16
  | 6 => 16
  | 7 => 16
  | _ => 0

/-- A directory entry is well placed: a known type, a multiple of 64, within the image, as long as its entries (log entry 40). -/
def dirOk (size : Nat) (e : DirEnt) : Bool :=
  decide (e.1 ≤ 8) && e.2.1 % 64 == 0 && decide (256 ≤ e.2.1) && decide (e.2.1 + e.2.2.1 ≤ size)
    && (entryBytes e.1 == 0 || e.1 == 2 || e.2.2.1 == entryBytes e.1 * e.2.2.2)

/-- No two entries overlap or share a type. -/
def dirApart : List DirEnt → Bool
  | [] => true
  | e :: rest => rest.all (fun f => e.1 != f.1 && (decide (e.2.1 + e.2.2.1 ≤ f.2.1) || decide (f.2.1 + f.2.2.1 ≤ e.2.1))) && dirApart rest

/-- The bytes and count of a section; none of it where it is absent. -/
def imgSection (bs : List Byte) (type : Nat) : List Byte × Nat :=
  match (directory bs).find? (fun e => e.1 == type) with
  | some e => ((bs.drop e.2.1).take e.2.2.1, e.2.2.2)
  | none => ([], 0)

/-- A tile record with its stream (Table SCH-4).  A stream that does not lie in its section is empty. -/
def readTile (stream r : List Byte) : TileCfg :=
  let off := leAt r 12 4
  let n := leAt r 16 4
  let ok := off % 32 == 0 && decide (1 ≤ n) && decide (n ≤ 16384) && decide (off + 32 * n ≤ stream.length)
  { tile := leAt r 0 2, phaseCyc := leAt r 2 1, tbudget := leAt r 3 1, freq := leAt r 4 2, len := leAt r 8 4, streamOff := off, nbundles := n,
    ldesc := (leList r 64 4 64).map (BitVec.ofNat 32),
    ppdesc := (List.range 64).map (fun k => (BitVec.ofNat 32 (leAt r (320 + 8 * k) 4), BitVec.ofNat 32 (leAt r (324 + 8 * k) 4))),
    dmx := (leList r 832 8 64).map (BitVec.ofNat 64), scale := (leList r 1344 4 4096).map (BitVec.ofNat 32),
    stream := if ok then (leList stream off 32 n).map (BitVec.ofNat 256) else [] }

/-- An array-table entry (Table SCH-5). -/
def readArr (w : Nat) : ArrEnt := { tile := bf w 63 57, larray := bf w 56 48, mode := bf w 47 46, sub := bf w 45 43, segment := bf w 31 0 }

/-- A crossing declaration (Table SCH-15). -/
def readXdecl (r : List Byte) : XDecl :=
  let f := leAt r 3 1
  { xid := leAt r 0 2, cls := leAt r 2 1, nbuf := f % 8 + 1, dir := f / 8 % 2, lpx := f / 16 % 2 == 1, src := leAt r 4 2, dst := leAt r 6 2, srcLine := leAt r 8 2,
    dstLine := leAt r 10 2, lines := leAt r 12 2, count := leAt r 14 2, maxNs := leAt r 16 4, ext := BitVec.ofNat 64 (leAt r 20 8), pathNs := leAt r 28 4 }

/-- A power segment (Table SCH-19). -/
def readPower (r : List Byte) : PowerSeg := { startNs := leAt r 0 4, active := leAt r 4 2, wakes := leAt r 6 1, pwrMw := leAt r 8 4 }

/-- A fallow-slot entry (Table SCH-20). -/
def readFallow (r : List Byte) : FallowEnt :=
  { tile := leAt r 0 2, period := leAt r 2 1, phase := leAt r 3 1, groups := BitVec.ofNat 32 (leAt r 4 4), start := leAt r 8 4, length := leAt r 12 4 }

/-- A flow entry (Table SCH-21). -/
def readFlow (r : List Byte) : FlowEnt :=
  { flow := leAt r 0 2, port := leAt r 2 1, altport := leAt r 3 1, queue := leAt r 4 2, rateMbps := leAt r 8 4, conn := leAt r 12 4 }

/-- Records of the given length. -/
def records (len : Nat) (bs : List Byte) : Nat → List (List Byte)
  | 0 => []
  | n + 1 => bs.take len :: records len (bs.drop len) n

/-- Where the alternates of an ALT section lie: offset from the imgSections start and size, each at a multiple of 64 after the one before (log entry 40). -/
def altPlaces (bs : List Byte) : Nat → Nat → List (Nat × Nat)
  | 0, _ => []
  | n + 1, off => let z := leAt bs (off + 16) 4; (off, z) :: altPlaces bs n (off + max 1 ((z + 63) / 64) * 64)

/-- Codes 0x01 and 0x02 of Table SCH-6, in this order; 0 where neither applies. -/
def formCode (bs : List Byte) : Nat :=
  let size := leAt bs 16 4
  let d := directory bs
  let has := fun t => d.any (fun e => e.1 == t)
  if bs.length < 256 ∨ leAt bs 0 4 ≠ 0x49444C53 ∨ leAt bs 6 2 ≠ 256 ∨ 0x40000000 < size ∨ size < 256 ∨ bs.length < size
      ∨ d.all (dirOk size) = false ∨ dirApart d = false ∨ [1, 2, 3, 5, 6].all has = false then 0x01
  else if (leAt bs 4 2 ≠ 2 ∧ leAt bs 4 2 ≠ 3) ∨ (leAt bs 4 2 = 2 ∧ has 8 = true) then 0x02
  else 0

/-- The image that bytes hold (Tables SCH-1 to SCH-5), where their form is sound. -/
def readImage (bs : List Byte) : Image :=
  let sec := imgSection bs
  let recs := fun t => records (entryBytes t) (sec t).1 (sec t).2
  let altOff := match (directory bs).find? (fun e => e.1 == 8) with | some e => e.2.1 | none => 0
  { format := leAt bs 4 2, compiler := BitVec.ofNat 32 (leAt bs 8 4), layoutClass := leAt bs 12 1, size := leAt bs 16 4, flags := leAt bs 20 2,
    digest := (bs.drop 32).take 32, modelId := BitVec.ofNat 128 (leAt bs 64 16), job := BitVec.ofNat 64 (leAt bs 80 8), plotIndex := leAt bs 88 4,
    jobPlots := leAt bs 92 4, stepNs := leAt bs 96 4, wdogNs := leAt bs 100 4, markerDly := leAt bs 104 4, ntiles := leAt bs 108 2, altTile := leAt bs 110 2,
    lpxGbps := leAt bs 112 2,
    tiles := (recs 1).map (readTile (sec 2).1), arrtab := (leList (sec 3).1 0 8 (sec 3).2).map readArr, xdecl := (recs 4).map readXdecl,
    power := (recs 5).map readPower, fallow := (recs 6).map readFallow, flow := (recs 7).map readFlow,
    alts := (altPlaces (sec 8).1 (sec 8).2 0).map (fun e => (altOff + e.1, e.2)) }

end Sys2Proof.Machine
end

