-- ==== Sys2Proof/Machine/OpsMem.lean ====
section
/-! DEFINITION. LPDDR5X requests: ownership of regions (R194 to R196), error logs and freezes (R199 to R202), and permitted masters of region
registers (R6). -/
set_option Elab.async false
namespace Sys2Proof.Machine

/-- Masters that may program region registers, by the fused layout class (Table SCP-3).  The PF of class Open reaches them through the PLT
registers only. -/
def mayProgramRegions (s : State) (m : Master) : Bool :=
  match m with
  | .core c => decide (22 ≤ c.val) || (decide (2 ≤ c.val) && decide (c.val ≤ 5) && (s.sec.layoutClass == 0 || s.sec.layoutClass == 4))
  | _ => false

/-- A number for a master in VALUE fields of events: 0 the PF, 1 to 12 a VF, 16 + c core c. -/
def masterNo (m : Master) : Nat := match m with | .pf => 0 | .vf p => p.val + 1 | .core c => 16 + c.val

/-- A region-register write from a master not permitted is dropped with a security event (R6). -/
def regionWriteRefused (s : State) (m : Master) (object : Nat) : State :=
  recordEvent s 0x0303 moduleEvent 3 islSecurity object (BitVec.ofNat 32 (masterNo m)) 0

/-- Base, size in bytes, of region n. -/
def regionBase (s : State) (n : Nat) : Nat := rdFld s (.lpxRgnbase n) 13 0 * 0x1000000
def regionSize (s : State) (n : Nat) : Nat := rdFld s (.lpxRgnsize n) 13 0 * 0x1000000
/-- Region n is enabled and its key slot holds a key. -/
def regionOpen (s : State) (n : Nat) : Bool := bit (rd s (.lpxRgnctl n)) 31 && bit (rd s (.lpxRgnctl n)) 30

/-- A region's key slot holds a fresh key pair; what stands in its lines now decrypts to nothing that was written (R195). -/
def newKey (s : State) (n : Nat) : State :=
  let s1 := draw (wrBit { s with ram := { s.ram with keys := mapInsert s.ram.keys n s.fresh } } (.lpxRgnctl n) 30 true)
  { s1 with mem := memForget s1.mem (regionBase s1 n) (regionSize s1 n) }

/-- A region's key slot is erased. -/
def eraseKey (s : State) (n : Nat) : State := wrBit { s with ram := { s.ram with keys := mapErase s.ram.keys n } } (.lpxRgnctl n) 30 false

/-- What stands on the LPDDR5X lands for a line, device address / 64, of a region with a key: the ciphertext of its plaintext, the data-unit number being A[39:6] (R193). -/
def lineStored (s : State) (l : Nat) : Option (BitVec 512) :=
  (regionOf s (l * 64)).bind (fun r => (mapFind s.ram.keys r).map (fun k => Config.xts k l (BitVec.ofNat 512 (leNat (rdBytes s (l * 64) 64)))))

/-- The requester owns the key of region n (Table MEM-6, R196). -/
def ownsRegion (s : State) (q : Requester) (n : Nat) : Bool :=
  match q with
  | .plot p => n == p.val
  | .loader p r => n == p.val || (decide (12 ≤ n) && decide (n < 16) && r.any (fun j => j.val == n))
  | .host => decide (12 ≤ n) && decide (n < 16)
  | .component k r =>
    if n < 12 then false
    else if n < 16 then (match r with | some j => j.val == n | none => false)
    else mapFind s.ram.owner n == some k.val

/-- R133: a plot whose committed image reserves no LPDDR5X rate has every request of its own refused. -/
def lpxReserved (s : State) (q : Requester) : Bool :=
  match q with
  | .plot p => match imageOf s p with | some i => decide (i.lpxGbps ≠ 0) | none => true
  | _ => true

/-- The region is open to requesters: a whole-region fill refuses every access by other masters until it ends (R391). -/
def regionFilling (s : State) (r : Nat) : Bool := decide (r < 12) && bit (rd s (.pltPstat r)) 26

/-- The region in which the requester may reach all n bytes from an address on (R133, R196, R391). -/
def lpxPermits (s : State) (q : Requester) (a n : Nat) : Option Nat :=
  if !lpxReserved s q then none
  else (List.range 32).find? (fun r => regionOpen s r && !regionFilling s r && ownsRegion s q r && decide (regionBase s r ≤ a)
    && decide (a + n ≤ regionBase s r + regionSize s r) && decide (1 ≤ n))

/-- A number for a requester in VALUE: plots 0 to 11, the loader 16 + p, the host 32, component k 40 + k. -/
def requesterNo (q : Requester) : Nat :=
  match q with | .plot p => p.val | .loader p _ => 16 + p.val | .host => 32 | .component k _ => 40 + k.val

/-- A refused request records an event (R196). -/
def lpxRefused (s : State) (q : Requester) (a : Nat) : State :=
  recordEvent s 0x0603 (match q with | .plot p => p.val | .loader p _ => p.val | _ => moduleEvent) 2 islFabric ((regionOf s a).getD 0xFF)
    (BitVec.ofNat 32 (requesterNo q)) 0

/-- The first free entry of the error log. -/
def freeLog (s : State) : Option Nat := (List.range 64).find? (fun n => !bit (rd s (.lpxUlog n)) 31)
/-- The entry that holds a page. -/
def logOf (s : State) (r page : Nat) : Option Nat :=
  (List.range 64).find? (fun n => bit (rd s (.lpxUlog n)) 31 && rdFld s (.lpxUlog n) 30 26 == r && rdFld s (.lpxUlog n) 21 0 == page)

/-- A lost page is logged once while its entry is held; with no entry free, OVF of a plot's region is set (R200, R201). -/
def logPage (s : State) (r page : Nat) : State :=
  match logOf s r page with
  | some _ => s
  | none => match freeLog s with
    | some n => wr s (.lpxUlog n) (BitVec.ofNat 32 (2 ^ 31 + r * 2 ^ 26 + page))
    | none => if r < 12 then wrBit s .lpxFreeze (16 + r) true else s

/-- Controller of a device address (R191). -/
def lpxController (a : Nat) : Nat := a / 256 % 16

/-- Cores of a component (Table FWM-1). -/
def coresOf (k : Nat) : List Nat := if k = 1 then headlandCores else if k = 2 then secCores else if k = 3 then mgmtCores else if k = 4 then netCores else []

/-- A device address lies in the part of the staging area that holds copies of plot p's checkpoint, its lower end (R425, R435). -/
def stagedAt (s : State) (p a : Nat) : Bool :=
  let k := ckpOf s p
  (ckpState s p == 2 || ckpState s p == 3) && decide (k.stageAt ≤ a) && decide (a < k.stageAt + k.staged.length * 0x10000)

/-- An uncorrectable error at a line (R199 to R202): counted, its page logged, a plot frozen, the owner of a firmware region interrupted.  A patrol may meet one in a line of no
enabled region: its page is logged too, under region index 31 (DESIGN CHOICE, log entry 125). -/
def lpxUncorrectable (s : State) (a : Nat) : State :=
  let s1 := count { s with ram := { s.ram with bad := addPage s.ram.bad (a / 64) } } .lpxUecnt 1
  let r := (regionOf s a).getD 31
  let s2 := logPage s1 r (a / 0x10000)
  let v := match logOf s2 r (a / 0x10000) with | some n => rd s2 (.lpxUlog n) | none => 0
  if r < 12 then ckpLost (freezePlot s2 r r v 0xFF) r (a / 0x10000)
  else
    let s3 := recordEvent s2 0x0601 moduleEvent 3 islFabric 0xFF v 0xFF
    let s3 := forAll (fun s p => if stagedAt s p a then ckpFail (freezePlot s p r v 0xFF) p 2 else s) s3 allPlots
    if r < 16 then s3
    else match mapFind s.ram.owner r with
      | some k => irqCores s3 (coresOf k) (13 + Config.memoryVector k % 19)
      | none => s3

/-- What the check bits of an LPDDR5X access report (R199, R200). -/
def lpxEcc (s : State) (a : Nat) (e : Ecc) : State :=
  match e with
  | .clean => s
  | .corrected => count s (.lpxCecnt (lpxController a)) 1
  | .uncorrectable => lpxUncorrectable s a

/-- Rate of harrows that run (R393). -/
def harrowGbps (s : State) : Nat := (allPlots.filter (fun q => (plot s q).harrow || pltState s q == pltScrubbing)).length * rdFld s .pltCfg 10 0

/-- Rate H of the checkpoint path (R429). -/
def ckpRate (s : State) : Nat :=
  max 10 (min (rdFld s .ckpCfg 10 0) (1100 - sumNat ((allPlots.filterMap (imageOf s)).map (fun i => i.lpxGbps)) - harrowGbps s))

/-- The path copies a page of P into staging, where the copy takes its place (R430). -/
def cowCopy (s : State) (p page : Nat) : State :=
  let s1 := onCkp s p (fun k => { k with pages := k.pages.filter (· ≠ page), staged := mapInsert k.staged page (rdBytes s (page * 0x10000) 0x10000) })
  count s1 (.ckpCow p) 1

/-- Staging has room for another page (R430). -/
def stagingRoom (s : State) (p : Nat) : Bool := decide ((ckpOf s p).staged.length < (ckpOf s p).cap)

/-- A write of plot p has waited so many ns for copies (CKP_COWMAX). -/
def noteWait (s : State) (p ns : Nat) : State := wr s (.ckpCowmax p) (BitVec.ofNat 32 (max (rd s (.ckpCowmax p)).toNat (satNat ns 0xFFFFFFFF)))

/-- Copies of the pages of P that a write touches, as staging has room, each of 131,072 / H seconds (R430). -/
def cowPages (s : State) (r a n : Nat) : State :=
  let s1 := forAll (fun s g => if cowHeld s r g && stagingRoom s r then cowCopy s r g else s) s (pagesOf a n)
  let k := (ckpOf s r).pages.length - (ckpOf s1 r).pages.length
  if k = 0 then s1 else noteWait s1 r (k * 131072 / ckpRate s)

/-- A write that covers all 64 bytes of a line stores fresh ciphertext and check bytes there (R193, Table MEM-7). -/
def clearBad (s : State) (a n : Nat) : State :=
  { s with ram := { s.ram with bad := s.ram.bad.filter (fun l => !(decide (a ≤ l * 64) && decide (l * 64 + 64 ≤ a + n))) } }

/-- A write of n bytes at an address reads a line first: it covers some line in part (R193). -/
def readsFirst (a n : Nat) : Bool := decide (a % 64 ≠ 0) || decide ((a + n) % 64 ≠ 0)

/-- Write bytes to LPDDR5X region r, copying pages of a pending checkpoint first; while staging is full the write is held (R430). -/
def lpxWrite (s : State) (r a : Nat) (bs : List Byte) : State :=
  let s1 := if r < 12 then cowPages s r a bs.length else s
  if r < 12 ∧ (pagesOf a bs.length).any (cowHeld s1 r) then { s1 with ram := { s1.ram with held := s1.ram.held ++ [(r, (a, bs))] } }
  else wrBytes (clearBad s1 a bs.length) a bs

/-- Tile, bank and line of a scratchpad device address. -/
def scratchLine (a : Nat) : Nat × Nat × Nat := let o := a - scratchBase; (o / 0x400000, o % 0x400000 / 0x100000, o % 0x100000 / 64)

/-- The first line of n bytes at a scratchpad device address whose access by DM the tile's region registers refuse: a transfer is made of accesses of one line (R182, R187). -/
def scratchRefused (s : State) (a n : Nat) (write : Bool) : Option (Nat × Nat × Nat) :=
  ((List.range ((a % 64 + n + 63) / 64)).map (fun k => scratchLine (a + k * 64))).find? (fun x => !rgnGrants s x.1 3 x.2.1 x.2.2 x.2.2 write)

/-- n bytes at a scratchpad device address lie in one tile of the plot. -/
def scratchInside (s : State) (p a n : Nat) : Bool :=
  let o := a - scratchBase
  decide (scratchBase ≤ a) && decide (o / 0x400000 < 128) && decide (1 ≤ n) && decide (o % 0x400000 + n ≤ 0x400000) && inPlot s p (o / 0x400000)

/-- All n bytes from a scratchpad device address lie in one tile of the plot, and the DM regions of that tile grant each line (R187). -/
def scratchPermits (s : State) (p a n : Nat) (write : Bool) : Bool := scratchInside s p a n && (scratchRefused s a n write).isNone

/-- An engine acting for a requester may reach n bytes at a device address. -/
def engineMay (s : State) (q : Requester) (a n : Nat) (write : Bool) : Bool :=
  match q with
  | .plot p => if scratchBase ≤ a then scratchPermits s p a n write else (lpxPermits s q a n).isSome
  | _ => (lpxPermits s q a n).isSome

/-- A refusal of an engine's request is recorded: of a tile's region registers in TIL_SPERRINFO (R188), of LPDDR5X in an event (R196). -/
def engineRefused (s : State) (q : Requester) (a n : Nat) (write : Bool) : State :=
  match q with
  | .plot p =>
    if scratchBase ≤ a then
      (if scratchInside s p a n then (match scratchRefused s a n write with | some x => spRecord s x.1 x.2.1 x.2.2 3 | none => s) else s)
    else lpxRefused s q a
  | _ => lpxRefused s q a

/-- An engine's write at a device address that it may reach. -/
def engineWrite (s : State) (a : Nat) (bs : List Byte) : State :=
  match regionOf s a with
  | some r => lpxWrite s r a bs
  | none => wrBytes s a bs

/-- The requester that an engine is when it acts for an owner: a plot, or the component whose firmware region holds the address (Table MEM-6). -/
def engineFor (s : State) (owner a : Nat) : Requester :=
  if h : owner < 12 then .plot ⟨owner, h⟩
  else .component ⟨((regionOf s a).bind (fun r => mapFind s.ram.owner r)).getD 3 % 6, by omega⟩ none

/-- An engine's read of LPDDR5X: the bytes, or none where the request is refused. -/
def lpxRead (s : State) (q : Requester) (a n : Nat) : Option (List Byte) :=
  match lpxPermits s q a n with | some _ => some (rdBytes s a n) | none => none

/-- The state with a region closed: its key is erased (R195), its log entries cleared (Table MEM-19), and it has no owner. -/
def closeRegion (s : State) (n : Nat) : State :=
  let s0 := wrBit (eraseKey s n) (.lpxRgnctl n) 31 false
  let s1 := { s0 with ram := { s0.ram with owner := mapErase s0.ram.owner n } }
  let s2 := forAll (fun s k => if bit (rd s (.lpxUlog k)) 31 && rdFld s (.lpxUlog k) 30 26 == n then wr s (.lpxUlog k) 0 else s) s1 (List.range 64)
  { s2 with ram := { s2.ram with bad := s2.ram.bad.filter (fun l => decide (l * 64 < regionBase s n) || decide (regionBase s n + regionSize s n ≤ l * 64)) } }

end Sys2Proof.Machine
end

