-- ==== Sys2Proof/Machine/OpsNet.lean ====
section
/-! DEFINITION. Sub-ports, lanes and egress queues: widths, token buckets, placing a frame in a queue, flushing it (R258 to R262, R274, R277 to R282). -/
set_option Elab.async false
namespace Sys2Proof.Machine

/-! ### Lanes and sub-ports -/

/-- Sub-ports of a SPLIT (Table NET-1). -/
def subCount (split : Nat) : Nat := if split = 0 then 1 else if split = 1 then 2 else 4
/-- NET_PCFGp.SPLIT. -/
def split (s : State) (port : Nat) : Nat := rdFld s (.netPcfg port) 1 0
/-- Lanes of a sub-port. -/
def subLanes (s : State) (port sub : Nat) : List Nat :=
  let n := 4 / subCount (split s port)
  (List.range n).map (· + n * sub)
/-- Lane l of a port may be used: not disabled, not failed, not dark, not under a check. -/
def laneGood (s : State) (port l : Nat) : Bool :=
  !bit (rd s (.netPcfg port)) (8 + l) && !bit (rd s (.netPstat port)) (8 + l) && !bit (rd s (.netPstat port)) (12 + l)
    && !s.net.checking.contains (4 * port + l)

/-- The lanes on which a sub-port runs (Table NET-3). -/
def runLanes (s : State) (port sub : Nat) : List Nat :=
  let ls := subLanes s port sub
  let good := ls.filter (laneGood s port)
  if good.length = ls.length then ls
  else if ls.length = 4 then
    (if good.contains 0 && good.contains 1 then [0, 1] else if good.contains 2 && good.contains 3 then [2, 3] else good.take 1)
  else good.take 1

/-- WIDTH code of a number of lanes (Table NET-12). -/
def widthCode (n : Nat) : Nat := if n = 0 then 0 else if n = 1 then 1 else if n = 2 then 2 else 3
/-- Sub-port s is up, or retraining. -/
def subUp (s : State) (port sub : Nat) : Bool := bit (rd s (.netPstat port)) (28 + sub)
def subRetrain (s : State) (port sub : Nat) : Bool := bit (rd s (.netPstat port)) (24 + sub)
/-- WIDTH of a sub-port. -/
def subWidth (s : State) (port sub : Nat) : Nat := rdFld s (.netPstat port) (2 * sub + 17) (2 * sub + 16)

/-! ### Queues -/

/-- Queue k = 512 × port + queue. -/
def queueOf (s : State) (k : Nat) : Queue := mapGet {} s.net.queues k
/-- The state with a function applied to a queue. -/
def onQueue (s : State) (k : Nat) (f : Queue → Queue) : State :=
  { s with net := { s.net with queues := mapSet {} s.net.queues k (f (queueOf s k)) } }
/-- Owner of a queue (TMS_QCFG.OWNER): a plot or 12. -/
def queueOwner (s : State) (k : Nat) : Nat := rdFld s (.tmsQcfg k) 28 25
/-- Sub-port of a queue. -/
def queueSub (s : State) (k : Nat) : Nat := rdFld s (.tmsQcfg k) 24 23
/-- Class: 7 under a committed flow plan (R280). -/
def queueClass (s : State) (k : Nat) : Nat := if (queueOf s k).planned.isSome then 7 else rdFld s (.tmsQcfg k) 22 20
/-- MAXFRAME of a port. -/
def maxFrame (s : State) (port : Nat) : Nat := rdFld s (.netPcfg port) 31 18
/-- Shaper rate in Mb/s (0 unshaped) and burst in bytes. -/
def queueRate (s : State) (k : Nat) : Nat := match (queueOf s k).planned with | some r => r | none => rdFld s (.tmsQshape k) 31 12
def queueBurst (s : State) (k : Nat) : Nat :=
  match (queueOf s k).planned with | some _ => 2 * maxFrame s (k / 512) | none => 256 * rdFld s (.tmsQshape k) 11 0
/-- Length of a frame for shaping, round robin and a queue's byte counts: with OVERHEAD (R279). -/
def countedLen (s : State) (port : Nat) (f : EgressFrame) : Nat := f.len + rdFld s (.tmsPort port) 5 0
/-- Bytes waiting. -/
def queueDepth (s : State) (k : Nat) : Nat := sumNat ((queueOf s k).frames.map (countedLen s (k / 512)))
/-- Bytes waiting in a port's egress buffer. -/
def portDepth (s : State) (port : Nat) : Nat :=
  sumNat ((s.net.queues.filter (fun e => e.1 / 512 == port)).map (fun e => sumNat (e.2.frames.map (fun f => f.len))))
/-- A frame fits its queue's limit, counted with OVERHEAD, and the port's 4 MiB (R279, R281). -/
def queueRoom (s : State) (k len : Nat) : Bool :=
  decide (queueDepth s k + len + rdFld s (.tmsPort (k / 512)) 5 0 ≤ 2 ^ rdFld s (.tmsQcfg k) 15 12 * 16384) && decide (portDepth s (k / 512) + len ≤ 4194304)

/-- A plot may receive and send frames: LOADING, READY, SERVING or HELD; the module always (R272). -/
def plotUp (s : State) (p : Nat) : Bool :=
  if 12 ≤ p then true
  else let v := pltState s p; v == pltLoading || v == pltReady || v == pltServing || v == pltHeld

/-- The queue accepts and sends nothing while its owner is being scrubbed (R282). -/
def queueScrubbed (s : State) (k : Nat) : Bool := decide (queueOwner s k < 12) && pltState s (queueOwner s k) == pltScrubbing

/-- Sources are held while the queue's sub-port is down (R262). -/
def queueOpen (s : State) (k : Nat) : Bool :=
  (subUp s (k / 512) (queueSub s k) || subRetrain s (k / 512) (queueSub s k)) && !queueScrubbed s k

/-- A frame enters its queue. -/
def pushFrame (s : State) (k : Nat) (f : EgressFrame) : State := onQueue s k (fun q => { q with frames := q.frames ++ [f] })

/-- Frames of firmware held for a queue enter it as room allows, in order. -/
def drainHeld (s : State) (k : Nat) : List (Nat × EgressFrame) → State
  | [] => s
  | e :: rest =>
    if e.1 = k ∧ queueOpen s k = true ∧ queueRoom s k e.2.len = true then
      drainHeld { pushFrame s k e.2 with net := { (pushFrame s k e.2).net with held := (pushFrame s k e.2).net.held.erase e } } k rest
    else if e.1 = k then s
    else drainHeld s k rest

/-- Firmware places a frame in a queue, or holds it (R281). -/
def enqueueFw (s : State) (k : Nat) (bytes : List Byte) : State :=
  let f : EgressFrame := { body := .raw bytes, len := bytes.length + 4, entered := 1000 * s.tick }
  let s1 := { s with net := { s.net with held := s.net.held ++ [(k, f)] } }
  drainHeld s1 k s1.net.held

/-- A forwarded frame that finds its queue or the buffer full is dropped and counted (R281); a queue whose sub-port is down discards it. -/
def enqueueForward (s : State) (k : Nat) (bytes : List Byte) (ns : Nat) : State :=
  let f : EgressFrame := { body := .raw bytes, len := bytes.length + 4, entered := ns }
  if queueOpen s k && queueRoom s k f.len then pushFrame s k f else count s (.tmsQdrop k) 1

/-- A flush (R262, R282): the frames are discarded and counted, the deficit is 0. -/
def flushQueue (s : State) (k : Nat) : State :=
  let n := (queueOf s k).frames.length
  count (onQueue s k (fun q => { q with frames := [], deficit := 0 })) (.tmsQdrop k) n

/-- Queues of a sub-port that hold frames or state. -/
def subQueues (s : State) (port sub : Nat) : List Nat :=
  (s.net.queues.map (fun e => e.1)).filter (fun k => k / 512 == port && queueSub s k == sub)

/-- A sub-port's lanes have changed (R261, R262): it retrains at the new width, or goes down and its queues are flushed; unchanged lanes change
nothing. -/
def laneChange (s : State) (port sub : Nat) : State :=
  let ls := runLanes s port sub
  let k := 4 * port + sub
  let s0 := { s with net := { s.net with lanes := mapSet [] s.net.lanes k ls } }
  if ls.isEmpty then
    let s1 := wrFld (wrBit (wrBit s0 (.netPstat port) (28 + sub) false) (.netPstat port) (24 + sub) false) (.netPstat port) (2 * sub + 17) (2 * sub + 16) 0
    forAll flushQueue s1 (subQueues s1 port sub)
  else if ls = mapGet [] s.net.lanes k then s
  else wrBit (wrBit s0 (.netPstat port) (28 + sub) false) (.netPstat port) (24 + sub) true

/-- The sub-port that uses a lane. -/
def laneSub (s : State) (port l : Nat) : Nat := l / (4 / subCount (split s port))

/-! ### Token buckets (R274, R275, R279): rates in 1/8000 of a unit a nanosecond -/

/-- Content of a bucket at a time, at most `cap` units. -/
def bucketAt (b : Bucket) (rate cap ns : Nat) : Nat :=
  match b.level with
  | none => cap * 8000
  | some v => min (cap * 8000) (v + rate * (ns - b.last))
/-- A queue's bucket as it stands now: a write of its shaper leaves the content, clipped later to the new burst (Table NET-9). -/
def settleBucket (s : State) (k : Nat) : State :=
  let ns := 1000 * s.tick
  let now := fun (q : Queue) => { q with bucket := { level := some (bucketAt q.bucket (queueRate s k) (queueBurst s k) ns), last := max q.bucket.last ns } }
  if queueRate s k = 0 then s else onQueue s k now
/-- The bucket after a take of `n` units. -/
def bucketTake (b : Bucket) (rate cap ns n : Nat) : Bucket := { level := some (bucketAt b rate cap ns - n * 8000), last := max b.last ns }

end Sys2Proof.Machine
end

