-- ==== Sys2Proof/Machine/FuncUnit.lean ====
section
/-! DEFINITION. The function units (R78, Table SHL-8): each function's value to far more bits than FP32 has, its correctly rounded FP32 result, and the unit's own result, which is
free within the error that the table allows. -/
set_option Elab.async false
namespace Sys2Proof.Machine

/-! ### Fixed point: integers that count 2^-512 -/

/-- One. -/
def fixOne : Int := 2 ^ 512
/-- The fixed-point product. -/
def fixMul (a b : Int) : Int := a * b / fixOne
/-- A finite value in fixed point; every FP32 value is exact. -/
def fixOf : Fp → Int
  | .fin neg m e => fpInt neg m (e + 512) 0
  | _ => 0
/-- A fixed-point value as a value. -/
def fpOfFix (v : Int) : Fp := .fin (decide (v < 0)) v.natAbs (-512)

/-- 1 + t/k (1 + t/(k+1) (...)), n terms. -/
def expTerms : Nat → Nat → Int → Int
  | 0, _, _ => fixOne
  | n + 1, k, t => fixOne + fixMul t (expTerms n (k + 1) t) / k
/-- A value squared n times. -/
def squared : Nat → Int → Int
  | 0, v => v
  | n + 1, v => squared n (fixMul v v)
/-- exp of a fixed-point value of magnitude at most 512: the series at its 1,024th part, squared ten times. -/
def fixExp (v : Int) : Int := squared 10 (expTerms 90 1 (v / 1024))

/-- The sum over n of a q^n k! / (n + k)! / (2 (n + k) + 1), with as many terms. -/
def normalTerms : Nat → Nat → Int → Int → Int
  | 0, _, _, _ => 0
  | n + 1, k, q, a => a / (2 * k + 1) + normalTerms n (k + 1) q (fixMul a q / (k + 1))
/-- 1 / sqrt(2 pi) in fixed point. -/
def normalScale : Int :=
  0x662114cf50d942343f2cf1402eae38bfd3829f30512706d8c0471b4802639d2e9df8ac55447d3db723f5d3abb374e88deb14277970be1513278e993445f08cff
/-- Phi(x), for a fixed-point value of magnitude at most 10: 1/2 and the series of exp(-x^2/2), integrated. -/
def fixNormal (v : Int) : Int := fixOne / 2 + fixMul normalScale (normalTerms 400 0 (-(fixMul v v) / 2) v)

/-- The integer square root by bits: the largest r + d with d below 2^n whose square is at most v. -/
def rootBits : Nat → Nat → Nat → Nat
  | 0, _, r => r
  | n + 1, v, r => rootBits n v (if (r + 2 ^ n) * (r + 2 ^ n) ≤ v then r + 2 ^ n else r)

/-! ### The functions -/

/-- The magnitude of a value. -/
def fpAbs : Fp → Fp
  | .fin _ m e => .fin false m e
  | .inf _ => .inf false
  | .nan => .nan

/-- 1 / sqrt of a positive finite value, with a sticky bit. -/
def rootRecip : Fp → Fp
  | .fin _ m e =>
    let v := if 0 ≤ e then 2 ^ 600 / (m * pow2 e) else 2 ^ 600 * pow2 (-e) / m
    let r := rootBits 400 v 0
    .fin false (2 * r + (if r * r * m * pow2 e = 2 ^ 600 * pow2 (-e) then 0 else 1)) (-301)
  | y => y

/-- x / (1 + exp(-x)); beyond 512 the exponential is less than any bit that counts. -/
def siluOf (x : Fp) : Fp :=
  if fpLt (fpOfInt 512) x then x
  else fpDiv (fpOfFix (fixOf x)) (fpOfFix (fixOne + fixExp (-(fixOf x))))

/-- The correctly rounded FP32 result of a function (0 exp, 1 1/x, 2 1/sqrt, 3 tanh, 4 GELU, 5 SiLU) of a finite value that has none of the special values of Table SHL-8. -/
def funcTrue (fn : Nat) (x : Fp) : Fp :=
  rneF32 (
    if fn = 0 then fpOfFix (fixExp (fixOf x))
    else if fn = 1 then fpDiv (fpOfInt 1) x
    else if fn = 2 then rootRecip x
    else if fn = 3 then let e := fixExp (2 * fixOf x); fpDiv (fpOfFix (e - fixOne)) (fpOfFix (e + fixOne))
    else if fn = 4 then (if fpLt (fpOfInt 10) x then x else fpMul x (fpOfFix (fixNormal (fixOf x))))
    else siluOf x)

/-- Largest error in units in the last place (Table SHL-8). -/
def ulpsOf (fn : Nat) : Nat := if fn = 1 then 1 else if fn < 4 then 2 else 4

/-- One unit in the last place of a rounded FP32 value. -/
def ulpOf : Fp → Fp
  | .fin _ m e => .fin false 1 (max (-149) (e + (Nat.log2 m : Nat) - 23))
  | y => y

/-- The largest error permitted at a correctly rounded result: for GELU and SiLU at least 2^-24. -/
def errorBound (fn : Nat) (y : Fp) : Fp :=
  let b := fpMul (fpOfInt (ulpsOf fn)) (ulpOf y)
  if 4 ≤ fn ∧ fpLt b (.fin false 1 (-24)) then .fin false 1 (-24) else b

/-- A result is within the error of Table SHL-8. -/
def funcWithin (fn : Nat) (y r : Fp) : Bool := fpIsFin r && !fpLt (errorBound fn y) (fpAbs (fpAdd r (fpNegate y)))

/-- The value with a subnormal flushed to zero of its sign. -/
def flush (x : Fp) : Fp :=
  match x with
  | .fin neg _ _ => if fpLt (match x with | .fin _ m e => .fin false m e | y => y) (.fin false 1 (-126)) then .fin neg 0 (-149) else x
  | y => y

/-- Is the value above num / 10^4? -/
def fpAboveDec (x : Fp) (num : Int) : Bool := fpLt (fpOfInt num) (fpMul x (fpOfInt 10000))
/-- Is the value below num / 10^4? -/
def fpBelowDec (x : Fp) (num : Int) : Bool := fpLt (fpMul x (fpOfInt 10000)) (fpOfInt num)

/-- The unit's own result for an input with no special value in Table SHL-8: free within the table's error (Config.funcUnit), odd functions exactly odd, subnormal results
flushed. -/
def funcOwn (fn : Nat) (x : Fp) : Fp :=
  let own := fun (z : Fp) =>
    let y := funcTrue fn z
    let r := f32 (Config.funcUnit fn (toF32 z))
    flush (if funcWithin fn y r then r else y)
  if (fn = 1 ∨ fn = 3) ∧ fpNeg x = true then fpNegate (own (fpNegate x)) else own x

/-- A function-unit result on an FP32 value: the special values of Table SHL-8, else the unit's own. -/
def funcUnit (fn : Nat) (x0 : Fp) : Fp :=
  let x := flush x0
  match x with
  | .nan => .nan
  | _ =>
    if fn = 0 then                                      -- exp
      match x with
      | .inf neg => if neg then .fin false 0 0 else .inf false
      | y => if fpAboveDec y 887228 then .inf false else if fpBelowDec y (-873365) then .fin false 0 0 else funcOwn 0 y
    else if fn = 1 then                                 -- 1/x
      match x with
      | .inf neg => .fin neg 0 0
      | .fin neg m e => if m = 0 then .inf neg
                        else if fpLt (.fin false 1 126) (.fin false m e) then .fin neg 0 0 else funcOwn 1 x
      | y => y
    else if fn = 2 then                                 -- 1/sqrt(x)
      match x with
      | .inf neg => if neg then .nan else .fin false 0 0
      | .fin neg m _ => if m = 0 then .inf neg else if neg then .nan else funcOwn 2 x
      | y => y
    else if fn = 3 then                                 -- tanh
      match x with
      | .inf neg => .fin neg 1 0
      | .fin neg m e => if m = 0 then x else if fpBelowDec (.fin false m e) 90109 then funcOwn 3 x else .fin neg 1 0
      | y => y
    else if fn = 4 then                                 -- GELU
      match x with
      | .inf neg => if neg then .fin true 0 0 else .inf false
      | y => if fpBelowDec y (-100000) then .fin true 0 0 else funcOwn 4 y
    else                                                -- SiLU
      match x with
      | .inf neg => if neg then .fin true 0 0 else .inf false
      | y => if fpBelowDec y (-880000) then .fin true 0 0 else funcOwn 5 y

end Sys2Proof.Machine
end

