-- ==== Sys2Proof/Machine/Vector.lean ====
section
/-! DEFINITION. The vector unit (R76 to R80, R459), its routing and the sampler (R83 to R86, R122, R123). -/
set_option Elab.async false
namespace Sys2Proof.Machine

/-! ### Vector registers as values -/

/-- A lane of a vector register. -/
def vrLane (x : TileState) (r lane : Nat) : Word := mapGet 0 x.vr (64 * r + lane)

/-- The scale code of a block of a vector register: as an MX result left it, else a free value (log entry 12). -/
def vrScaleOf (fresh : Nat) (x : TileState) (r b : Nat) : Nat :=
  ((mapFind x.vrScale (8 * r + b)).getD (Config.mxScale fresh (8 * r + b))).toNat

/-- Values of a register in FP32 width: 64. -/
def vrF32 (x : TileState) (r : Nat) : List Fp := (List.range 64).map (fun l => f32 (vrLane x r l))
/-- Values in BF16 width: 128, element 2i in bits [15:0] of lane i. -/
def vrBf16 (x : TileState) (r : Nat) : List Fp :=
  (List.range 128).map (fun i => bf16 (fld (vrLane x r (i / 2)) (16 * (i % 2) + 15) (16 * (i % 2))))
/-- Values in MX width: 256, four 8-bit elements per lane, blocks of 32 in lane order. -/
def vrMx (fresh : Nat) (bd : Beyond) (fcode : Nat) (x : TileState) (r : Nat) : List Fp :=
  (List.range 256).map (fun i =>
    mxDecode bd fcode (vrScaleOf fresh x r (i / 32)) (fld (vrLane x r (i / 4)) (8 * (i % 4) + 7) (8 * (i % 4))))

/-- The values of a register in the width of an operation. -/
def vrVals (s : State) (t : Nat) (o : VecOp) (r : Nat) : List Fp :=
  if o.w = 0 then vrF32 (tile s t) r else if o.w = 1 then vrBf16 (tile s t) r
  else vrMx s.fresh (ovfBeyond o.ovf) (o.ef.toNat + 2) (tile s t) r

/-- Element codes of `per` to a lane, as lane words. -/
def packLanes (per bits : Nat) (cs : List Nat) : List Word :=
  (List.range ((cs.length + per - 1) / per)).map (fun l =>
    BitVec.ofNat 32 ((List.range per).foldl (fun acc k => acc + cs.getD (per * l + k) 0 * 2 ^ (bits * k)) 0))

/-- Lane words and block scales of values in a format (OUTFMT code), the k-th scale for block k; and how many blocks count in TIL_MXNAN. -/
def packVr (fmt : Nat) (ovf : Bool) (rm : Nat → Rounding) (vs : List Fp) : List Word × List Nat × Nat :=
  if fmt = 0 then (vs.zipIdx.map (fun e => toF32 (fpRound fmtF32 (rm e.2) (ovfBeyond ovf) e.1)), [], 0)
  else if fmt = 1 then (packLanes 2 16 (vs.zipIdx.map (fun e => toBf16 (fpRound fmtBf16 (rm e.2) (ovfBeyond ovf) e.1))), [], 0)
  else match mxFmt fmt with
    | none => ([], [], 0)
    | some f =>
      let bl := mxBlocks f rm vs
      (packLanes 4 8 (bl.flatMap (fun b => b.elems)), bl.map (fun b => b.scale), (bl.filter (fun b => b.nan)).length)

/-- A packed result on its way to vector registers from VD on (R68). -/
def landVr (s : State) (t vd latency : Nat) (r : List Word × List Nat × Nat) : State :=
  let c := issueCycle s t
  land (countMxNan s t c 0 r.2.2) t
    (.words (c + latency) .vr (64 * vd) (r.1.take (64 * (32 - vd))) (r.2.1.zipIdx.map (fun e => (8 * vd + e.2, BitVec.ofNat 8 e.1))))

/-- The rounding of element i of an operation under its RND. -/
def opRound (s : State) (t : Nat) (rnd : Bool) (i : Nat) : Rounding := rounding rnd (tile s t).seed t (issueCycle s t) i

/-- OUTFMT code of an operation's width. -/
def widthFmt (o : VecOp) : Nat := if o.w = 0 then 0 else if o.w = 1 then 1 else o.ef.toNat + 2

/-- Exact lane results rounded once into the operation's width; in the MX width to FP32 first, then encoded, the second rounding taking
idx + 2,048 (R75, R76). -/
def laneResult (s : State) (t : Nat) (o : VecOp) (vs : List Fp) : List Word × List Nat × Nat :=
  if o.w = 2 then
    packVr (widthFmt o) o.ovf (fun i => opRound s t o.rnd (2048 + i))
      (vs.zipIdx.map (fun e => fpRound fmtF32 (opRound s t o.rnd e.2) (ovfBeyond o.ovf) e.1))
  else packVr (widthFmt o) o.ovf (opRound s t o.rnd) vs

/-- A VEC operation during a ROUTE or SAMPLE occupancy is UNIT_BUSY (R122). -/
def vecBusy (t : Nat) (s : State) : Viol := if issueCycle s t < (tile s t).vecFree then { sch := [3] } else {}

/-- A VEC operation that occupies the unit for one cycle. -/
def opVec (sl : Slot) (code : Nat) (o : VecOp) (issue : State → State) : SlotOp where
  alone := fun _ => if vecUndefined code o then { sch := [0] } else {}
  late := vecBusy sl.tile
  issue := issue

/-! ### Lane-wise operations -/

/-- VEC_FMA: VD := VA × VB + VC, rounded once (R76). -/
def opVecFma (sl : Slot) (o : VecOp) : SlotOp :=
  opVec sl 0x01 o (fun s =>
    let t := sl.tile.val
    landVr s t o.vd 4 (laneResult s t o (List.zipWith fpAdd (List.zipWith fpMul (vrVals s t o o.va) (vrVals s t o o.vb)) (vrVals s t o o.vc))))

/-- VEC_ADD: VD := VA + VB. -/
def opVecAdd (sl : Slot) (o : VecOp) : SlotOp :=
  opVec sl 0x02 o (fun s =>
    landVr s sl.tile o.vd 4 (laneResult s sl.tile o (List.zipWith fpAdd (vrVals s sl.tile o o.va) (vrVals s sl.tile o o.vb))))

/-- VEC_MUL: VD := VA × VB. -/
def opVecMul (sl : Slot) (o : VecOp) : SlotOp :=
  opVec sl 0x03 o (fun s =>
    landVr s sl.tile o.vd 4 (laneResult s sl.tile o (List.zipWith fpMul (vrVals s sl.tile o o.va) (vrVals s sl.tile o o.vb))))

/-- MAX: lane-wise larger under R459. -/
def opMax (sl : Slot) (o : VecOp) : SlotOp :=
  opVec sl 0x04 o (fun s =>
    landVr s sl.tile o.vd 4 (laneResult s sl.tile o (List.zipWith maxFp (vrVals s sl.tile o o.va) (vrVals s sl.tile o o.vb))))

/-- MIN: lane-wise smaller under R459. -/
def opMin (sl : Slot) (o : VecOp) : SlotOp :=
  opVec sl 0x05 o (fun s =>
    landVr s sl.tile o.vd 4 (laneResult s sl.tile o (List.zipWith minFp (vrVals s sl.tile o o.va) (vrVals s sl.tile o o.vb))))

/-! ### Conversions -/

/-- Pad a packed result with zero lanes to whole registers. -/
def padRegs (r : List Word × List Nat × Nat) : List Word × List Nat × Nat :=
  (r.1 ++ List.replicate ((64 - r.1.length % 64) % 64) 0, r.2.1, r.2.2)

/-- CVT (R76): VA in the operation's width to the format in IMM[3:0].  FP32 to BF16 packs 64 values into lanes 0 to 31 and writes 0 to the rest;
BF16 to FP32 fills VD and VD + 1, and VD = 31 is undefined for it. -/
def opCvt (sl : Slot) (o : VecOp) : SlotOp :=
  let fmt := o.imm.toNat % 16
  opVec sl 0x08 o (fun s =>
    let t := sl.tile.val
    landVr s t o.vd (if fmt ≤ 1 then 4 else 6) (padRegs (packVr fmt o.ovf (opRound s t o.rnd) (vrVals s t o o.va))))

/-- MXENC (R73): the 32 values of lanes 0 to 31 of VA as one MX block, element i in byte i of VD. -/
def opMxenc (sl : Slot) (o : VecOp) : SlotOp :=
  opVec sl 0x20 o (fun s =>
    let t := sl.tile.val
    landVr s t o.vd 6 (packVr (o.ef.toNat + 2) o.ovf (opRound s t o.rnd) ((vrF32 (tile s t) o.va).take 32)))

/-- MXDEC (R72): the first 64 elements of VA decoded to the 64 FP32 lanes of VD. -/
def opMxdec (sl : Slot) (o : VecOp) : SlotOp :=
  opVec sl 0x21 o (fun s =>
    let t := sl.tile.val
    landVr s t o.vd 6 (packVr 0 o.ovf (fun _ => .nearest) ((vrMx s.fresh (ovfBeyond o.ovf) (o.ef.toNat + 2) (tile s t) o.va).take 64)))

/-- FUNC (R78): IMM[2:0] names the function; RND and OVF are ignored, BF16 results round from the FP32 result under RNE. -/
def opFunc (sl : Slot) (o : VecOp) : SlotOp :=
  let fn := o.imm.toNat % 8
  opVec sl 0x10 o (fun s =>
    let t := sl.tile.val
    landVr s t o.vd 8 (packVr (widthFmt o) false (fun _ => .nearest) ((vrVals s t o o.va).map (funcUnit fn))))

/-! ### Reductions -/

/-- A reduction's FP32 result for lane 0 of VD; with IMM[0] it combines last with the value already there (R77). -/
def reduce (s : State) (t : Nat) (o : VecOp) (f : Fp → Fp → Fp) : Word :=
  let tree := treeFold f 8 (vrVals s t o o.va)
  toF32 (if o.imm.toNat % 2 = 1 then f (f32 (vrLane (tile s t) o.vd 0)) tree else tree)

/-- RSUM (R77): pairwise FP32 sums under RNE; lanes 1 to 63 of VD are unchanged. -/
def opRsum (sl : Slot) (o : VecOp) : SlotOp :=
  opVec sl 0x18 o (fun s =>
    land s sl.tile (.words (issueCycle s sl.tile + 8) .vr (64 * o.vd.val) [reduce s sl.tile o addF32] []))

/-- RMAX (R77, R459). -/
def opRmax (sl : Slot) (o : VecOp) : SlotOp :=
  opVec sl 0x19 o (fun s =>
    land s sl.tile (.words (issueCycle s sl.tile + 8) .vr (64 * o.vd.val) [reduce s sl.tile o maxFp] []))

/-! ### Order of scores and candidates -/

/-- (value, index) pairs in order of value descending, ties by index ascending; the list comes in index order. -/
def insertDesc (x : Fp × Nat) : List (Fp × Nat) → List (Fp × Nat)
  | [] => [x]
  | y :: rest => if fpLess y.1 x.1 then x :: y :: rest else y :: insertDesc x rest
def sortDesc (l : List (Fp × Nat)) : List (Fp × Nat) := l.foldl (fun acc x => insertDesc x acc) []

/-- Values that are not NaN, with their indices. -/
def notNan (l : List Fp) : List (Fp × Nat) := l.zipIdx.filter (fun e => !fpIsNan e.1)

/-! ### Expert routing (R80) -/

/-- A sum in the order of R77: pairwise within each register of 64, the registers' results in address order. -/
def sumR77 : Nat → List Fp → Fp
  | 0, _ => .fin false 0 0
  | n + 1, l => if l.length ≤ 64 then treeFold addF32 6 l else
      ((List.range (l.length / 64)).map (fun k => treeFold addF32 6 ((l.drop (64 * k)).take 64)) ++
        (if l.length % 64 = 0 then [] else [treeFold addF32 6 (l.drop (64 * (l.length / 64)))])).foldl (fun acc x => addF32 acc x)
        (sumR77 n [])

/-- The softmax of R79 over a list, m its largest value. -/
def softmax (l : List Fp) : List Fp :=
  let m := l.foldl maxFp (.inf true)
  let p := l.map (fun x => funcUnit 0 (addF32 x (fpNegate m)))
  let r := funcUnit 1 (sumR77 1 p)
  p.map (fun x => rneF32 (fpMul x r))

/-- The k selected indices, 0xFFFF for each entry with no score, and their weights (R80).  Mode 0 is SELECT_THEN_SOFTMAX, mode 1
SOFTMAX_THEN_SELECT. -/
def routeChoice (scores : List Fp) (k : Nat) (mode : Bool) : List Nat × List Word :=
  let sel := (sortDesc (notNan scores)).take k
  let w := if mode then let all := softmax scores
                        sel.map (fun e => toF32 (all.getD e.2 .nan))
           else (softmax (sel.map (fun e => e.1))).map toF32
  (sel.map (fun e => e.2) ++ List.replicate (k - sel.length) 0xFFFF, w ++ List.replicate (k - sel.length) 0)

/-- Device address of a bank-1 byte address in a lane (bits [19:0], R122). -/
def bank1Addr (t : Nat) (w : Word) : Nat := scratchAddr t (0x100000 + fld w 19 0)

/-- The occupancy of ROUTE (Table SCH-10). -/
def routeCycles (g k : Nat) : Nat := (g + 63) / 64 + 2 * k + 16

/-- Bytes read from a scratchpad are watched until the operation that reads them ends (R122). -/
def watch (s : State) (rs : List (Nat × Nat)) : State := { s with watched := s.watched ++ rs.map (fun r => (r.1, r.2, false)) }

/-- Lanes 0 to 2 of VA as bank-1 byte addresses. -/
def vaLane (s : State) (t : Nat) (o : VecOp) (l : Nat) : Nat := fld (vrLane (tile s t) o.va l) 19 0

/-- The scores of a ROUTE: G values of `size` bytes. -/
def routeScores (raw : List Byte) (g size : Nat) : List Fp :=
  (List.range g).map (fun i => if size = 2 then bf16 (leNat ((raw.drop (2 * i)).take 2)) else f32 (BitVec.ofNat 32 (leNat ((raw.drop (4 * i)).take 4))))

/-- G, k and the bytes of a score of a ROUTE. -/
def routeG (o : VecOp) : Nat := o.imm.toNat % 4096 + 1
def routeK (o : VecOp) : Nat := o.imm.toNat / 4096 % 8 + 1
def routeSize (o : VecOp) : Nat := if o.w = 1 then 2 else 4

/-- ROUTE (R80, R122). -/
def opRoute (sl : Slot) (o : VecOp) : SlotOp :=
  let t := sl.tile.val
  let g := routeG o
  let k := routeK o
  { ports := portRun 1 (routeCycles g k - 1) 1
    alone := fun _ => if vecUndefined 0x30 o then { sch := [0] } else {}
    late := fun s => ((vecBusy t s).join (linesViol s t 1 1 (vaLane s t o 0) (g * routeSize o) false)).join
      ((linesViol s t 1 1 (vaLane s t o 1) (2 * k) true).join (linesViol s t 1 1 (vaLane s t o 2) (4 * k) true))
    issue := fun s0 =>
      let s := spEcc s0 t 1 (lineOf (vaLane s0 t o 0)) 1 sl.ecc
      let c := issueCycle s t
      let a := bank1Addr t (vrLane (tile s t) o.va 0)
      let raw := rdBytes s a (g * routeSize o)
      let ch := routeChoice (routeScores raw g (routeSize o)) k (o.imm.toNat / 32768 % 2 = 1)
      let occ := routeCycles g k
      let s1 := onTile s t (fun x => { x with vecFree := c + occ })
      land (watch (unwatch s1 t).1 [(a, g * routeSize o)]) t (.choice (c + occ)
        [(bank1Addr t (vrLane (tile s t) o.va 1), ch.1.flatMap (fun i => leBytes 2 i)),
         (bank1Addr t (vrLane (tile s t) o.va 2), ch.2.flatMap (fun w => leBytes 4 w.toNat))]
        (ch.1.filter (· == 0xFFFF)).length 0) }

/-! ### The sampler (R83 to R86, R123) -/

/-- The sequential FP32 sum of a list. -/
def seqSum (l : List Fp) : Fp := l.foldl addF32 (.fin false 0 0)

/-- The shortest non-empty prefix whose sequential sum is at least a bound, as its length. -/
def prefixFor (bound : Fp) : Fp → Nat → List Fp → Option Nat
  | _, _, [] => none
  | acc, n, x :: rest =>
    let a := addF32 acc x
    if !fpIsNan a && !fpIsNan bound && !fpLess a bound then some (n + 1) else prefixFor bound a (n + 1) rest

/-- The index at which the running sum first exceeds the target; the last one if none does. -/
def pickIndex (target : Fp) : Fp → Nat → List (Fp × Nat) → Nat
  | _, last, [] => last
  | acc, _, (p, i) :: rest =>
    let a := addF32 acc p
    if fpLess target a then i else pickIndex target a i rest

/-- The token that R85 fixes for a slot, or none where no choice is valid (R86). -/
def sampleToken (seed : DWord) (slot : Nat) (temp : Fp) (topK : Nat) (topP : Fp) (logits : List Fp) : Option Nat :=
  match logits.findIdx? (fun x => x == .inf false) with
  | some i => some i
  | none =>
    if fpIsNan temp || !fpLess (.fin false 0 0) temp then ((sortDesc (notNan logits)).head?).map (fun e => e.2)
    else
      let z := notNan (logits.map (fun l => rneF32 (fpDiv l temp)))
      let cand0 := if topK = 0 then z else (sortDesc z).take topK
      let m := cand0.foldl (fun acc e => maxFp acc e.1) (.inf true)
      let ps := cand0.map (fun e => (funcUnit 0 (addF32 e.1 (fpNegate m)), e.2))
      let total0 := seqSum (ps.map (fun e => e.1))
      let cut := if topK ≠ 0 ∧ fpLess topP (.fin false 1 0) then
          prefixFor (rneF32 (fpMul topP total0)) (.fin false 0 0) 0 (ps.map (fun e => e.1)) else none
      let cand := match cut with | some n => ps.take n | none => ps
      let total := match cut with | some _ => seqSum (cand.map (fun e => e.1)) | none => total0
      if cand.isEmpty || fpIsZero total || !fpIsFin total then none
      else
        let u : Fp := .fin false ((mix (seed + BitVec.ofNat 64 (slot * 65536 + 1) * golden)).toNat / 2 ^ 40) (-24)
        some (pickIndex (rneF32 (fpMul u total)) (.fin false 0 0) 0 cand)

/-- The occupancy of SAMPLE (Table SCH-10). -/
def sampleCycles (v kdecl : Nat) : Nat :=
  if kdecl = 0 then 3 * ((v + 63) / 64) + 48 else (v + 63) / 64 + 4 * kdecl + 48

/-- top_k as R123 replaces it. -/
def effTopK (kdecl topK : Nat) : Nat := if kdecl = 0 then 0 else if topK = 0 ∨ kdecl < topK then kdecl else topK

/-- V and KDECL of a SAMPLE. -/
def sampleV (o : VecOp) : Nat := o.imm.toNat % 2 ^ 18 + 1
def sampleKdecl (o : VecOp) : Nat := o.imm.toNat / 2 ^ 18

/-- The token of a SAMPLE from its logits' bytes and its parameter block (R85, R123). -/
def sampleChoice (s : State) (t : Nat) (o : VecOp) (raw pb : List Byte) : Option Nat :=
  let logits := (List.range (sampleV o)).map (fun i => f32 (BitVec.ofNat 32 (leNat ((raw.drop (4 * i)).take 4))))
  sampleToken (tile s t).seed (fld (vrLane (tile s t) o.va 3) 11 0) (f32 (BitVec.ofNat 32 (leNat (pb.take 4))))
    (effTopK (sampleKdecl o) (leNat ((pb.drop 4).take 2))) (f32 (BitVec.ofNat 32 (leNat ((pb.drop 8).take 4)))) logits

/-- SAMPLE (R85, R122, R123). -/
def opSample (sl : Slot) (o : VecOp) : SlotOp :=
  let t := sl.tile.val
  let v := sampleV o
  { ports := portRun 1 (sampleCycles v (sampleKdecl o) - 1) 1
    alone := fun _ => if vecUndefined 0x31 o then { sch := [0] } else {}
    late := fun s => ((vecBusy t s).join (linesViol s t 1 1 (vaLane s t o 0) (4 * v) false)).join
      ((linesViol s t 1 1 (vaLane s t o 1) 16 false).join (linesViol s t 1 1 (vaLane s t o 2) 4 true))
    issue := fun s0 =>
      let s := spEcc s0 t 1 (lineOf (vaLane s0 t o 0)) 1 sl.ecc
      let c := issueCycle s t
      let la := bank1Addr t (vrLane (tile s t) o.va 0)
      let pa := bank1Addr t (vrLane (tile s t) o.va 1)
      let tok := sampleChoice s t o (rdBytes s la (4 * v)) (rdBytes s pa 16)
      let occ := sampleCycles v (sampleKdecl o)
      let s1 := onTile s t (fun x => { x with vecFree := c + occ })
      land (watch (unwatch s1 t).1 [(la, 4 * v), (pa, 16)]) t (.choice (c + occ)
        [(bank1Addr t (vrLane (tile s t) o.va 2), leBytes 4 (tok.getD 0xFFFFFFFF))] (if tok = none then 1 else 0) v) }

end Sys2Proof.Machine
end

