-- ==== Sys2Proof/Machine/Dmx.lean ====
section
/-! DEFINITION. The dynamic-matrix unit (R81, R82, R124). -/
set_option Elab.async false
namespace Sys2Proof.Machine

/-- A DMX descriptor (Table SCH-11). -/
def dmxDescOf (s : State) (t k : Nat) : DWord := mapGet 0 (tile s t).dmxDesc k
def dmxALine (d : DWord) : Nat := d.toNat % 2 ^ 14
def dmxBLine (d : DWord) : Nat := d.toNat / 2 ^ 14 % 2 ^ 14
def dmxKblk (d : DWord) : Nat := d.toNat / 2 ^ 28 % 2 ^ 12
def dmxAFmt (d : DWord) : Nat := d.toNat / 2 ^ 40 % 4
def dmxBFmt (d : DWord) : Nat := d.toNat / 2 ^ 42 % 4

/-- An invalid shape or format (R81): K outside 32 to 65,536, an unknown format, or BF16 with another format. -/
def dmxBad (d : DWord) : Bool :=
  dmxKblk d == 0 || decide (2048 < dmxKblk d) || dmxAFmt d == 3 || dmxBFmt d == 3 || ((dmxAFmt d == 2) != (dmxBFmt d == 2))

/-- Bytes of one row of A or column of B: K elements then K / 32 scale codes, or K BF16 values (Table SHL-4; log entry 13). -/
def dmxRowBytes (d : DWord) : Nat := if dmxAFmt d = 2 then 64 * dmxKblk d else 33 * dmxKblk d

/-- Element j of an MXFP8 row's bytes, before its scale. -/
def dmxElem (fmt : Nat) (f : MxFmt) (row : List Byte) (j : Nat) : Fp := mxElem (fmt + 2) f (row.getD j 0).toNat

/-- The scale of K block b of an MXFP8 row: none for 0xFF, which makes the block NaN. -/
def dmxScale (kblk : Nat) (row : List Byte) (b : Nat) : Option Int :=
  let c := (row.getD (32 * kblk + b) 0).toNat
  if c = 255 then none else some ((c : Int) - 127)

/-- An exact sum of values, in list order. -/
def sumFp : List Fp → Fp
  | [] => .fin false 0 0
  | x :: rest => rest.foldl fpAdd x

/-- One C entry after every K block in increasing order, MXFP8 (R82): the 32 products and their sum are exact, one FP32 rounding each block. -/
def dmxEntryMx (d : DWord) (fa fb : MxFmt) (a b : List Byte) (c0 : Fp) : Fp :=
  (List.range (dmxKblk d)).foldl (fun c k =>
    match dmxScale (dmxKblk d) a k, dmxScale (dmxKblk d) b k with
    | some xa, some xb =>
      let sum := sumFp ((List.range 32).map (fun i => fpMul (dmxElem (dmxAFmt d) fa a (32 * k + i)) (dmxElem (dmxBFmt d) fb b (32 * k + i))))
      rneF32 (fpAdd c (fpScale (xa + xb) sum))
    | _, _ => .nan) c0

/-- One C entry, BF16 (R82): each exact product is added with one FP32 rounding, in increasing K order. -/
def dmxEntryBf (d : DWord) (a b : List Byte) (c0 : Fp) : Fp :=
  (List.range (32 * dmxKblk d)).foldl (fun c k =>
    rneF32 (fpAdd c (fpMul (bf16 (leNat ((a.drop (2 * k)).take 2))) (bf16 (leNat ((b.drop (2 * k)).take 2)))))) c0

/-- The 1,024 entries of C after an MMA (add) or MMAZ. -/
def dmxResult (s : State) (t set : Nat) (d : DWord) (add : Bool) : List Word :=
  let n := dmxRowBytes d
  let rowA := (List.range 32).map (fun r => rdBytes s (scratchAddr t (0x100000 + dmxALine d * 64 + r * n)) n)
  let colB := (List.range 32).map (fun c => rdBytes s (scratchAddr t (0x100000 + dmxBLine d * 64 + c * n)) n)
  (List.range 1024).map (fun i =>
    let c0 : Fp := if add then f32 (mapGet 0 (tile s t).dacc (1024 * set + i)) else .fin false 0 0
    let a := rowA.getD (i / 32) []
    let b := colB.getD (i % 32) []
    toF32 (match mxFmt (dmxAFmt d + 2), mxFmt (dmxBFmt d + 2) with
      | some fa, some fb => if dmxAFmt d = 2 then dmxEntryBf d a b c0 else dmxEntryMx d fa fb a b c0
      | _, _ => .nan))

/-- The accumulating path's occupancy (R124). -/
def dmxCycles (d : DWord) : Nat := if dmxAFmt d = 2 then 64 * dmxKblk d else 32 * dmxKblk d

/-- Faults of an MMA's issue cycle: UNIT_BUSY (R124) and REGION. -/
def mmaLate (t set : Nat) (d : DWord) (s : State) : Viol :=
  let x := tile s t
  let c := issueCycle s t
  let busy := decide (c < x.accFree) || (decide (c < x.drainFree) && x.drainSet == set)
  (if busy then ({ sch := [3] } : Viol) else {}).join
    ((linesViol s t 1 1 (dmxALine d * 64) (32 * dmxRowBytes d) false).join (linesViol s t 1 1 (dmxBLine d * 64) (32 * dmxRowBytes d) false))

/-- MMA: C := C + A × B, or MMAZ: C := A × B (R81). -/
def opMma (sl : Slot) (set ddesc : Nat) (add : Bool) : SlotOp :=
  let t := sl.tile.val
  { alone := fun s => if dmxBad (dmxDescOf s t ddesc) then { sh := [2] } else {}
    late := fun s => mmaLate t set (dmxDescOf s t ddesc) s
    issue := fun s0 =>
      let d := dmxDescOf s0 t ddesc
      let s := spEcc s0 t 1 (dmxALine d) 1 sl.ecc
      let c := issueCycle s t
      let s1 := onTile s t (fun x => { x with accFree := c + dmxCycles d, accSet := set })
      land s1 t (.words (c + dmxCycles d) .dacc (1024 * set) (dmxResult s t set d add) []) }

/-- DRAIN (R124): the 1,024 entries of a set pass through format conversion into vector registers from VD on, 10 cycles later. -/
def opDrain (sl : Slot) (set : Fin 2) (fmt : BitVec 4) (vd : Fin 32) (rnd : Bool) : SlotOp :=
  let t := sl.tile.val
  { alone := fun _ => if decide (7 < fmt.toNat) || (fmt == 0 && decide (16 < vd.val)) then { sch := [0] } else {}
    late := fun s =>
      let x := tile s t
      let c := issueCycle s t
      if c < x.drainFree ∨ (c < x.accFree ∧ x.accSet = set.val) then { sch := [3] } else {}
    issue := fun s =>
      let c := issueCycle s t
      let vals := (List.range 1024).map (fun i => f32 (mapGet 0 (tile s t).dacc (1024 * set.val + i)))
      landVr (onTile s t (fun x => { x with drainFree := c + 10, drainSet := set.val })) t vd 10
        (packVr fmt.toNat false (opRound s t rnd) vals) }

end Sys2Proof.Machine
end

