-- ==== Sys2Proof/Machine/Seq.lean ====
section
/-! DEFINITION. The move unit, the sequencer's control operations and the crossing operations (R118 to R129). -/
set_option Elab.async false
namespace Sys2Proof.Machine

/-! ### Move operations (R125, Table SCH-12) -/

/-- 64 bytes from `addr` pass the end of the bank: an undefined field value. -/
def pastBank (addr : Nat) : Bool := decide (0x100000 < addr + 64)

/-- Device address of a byte of a bank of tile t. -/
def bankAddr (t bank addr : Nat) : Nat := scratchAddr t (bank * 0x100000 + addr)

/-- Bytes of a 64-byte access at a byte of its bank that lie in its first line (R182). -/
def headBytes (a : Nat) : Nat := 64 - a % 64

/-- LD: 64 bytes into quarter PART of VR; what a cycle reads is in the register from the next cycle on (log entry 108). -/
def opLd (sl : Slot) (bank : Fin 4) (addr : BitVec 20) (vr : Fin 32) (part : Fin 4) : SlotOp :=
  let t := sl.tile.val
  let a := addr.toNat
  { ports := portRun bank 0 (accessCycles a)
    alone := fun _ => if pastBank a then { sch := [0] } else {}
    late := fun s => rgnViol s t 1 bank a 64 false
    issue := fun s0 =>
      let s := spEcc s0 t bank (lineOf a) 1 sl.ecc
      let c := issueCycle s t
      let key := 64 * vr.val + 16 * part.val
      if a % 64 = 0 then land s t (.words (c + 1) .vr key ((List.range 16).map (fun i => BitVec.ofNat 32 (rdLe s (bankAddr t bank (a + 4 * i)) 4))) [])
      else land s t (.tail (c + 1) (bankAddr t bank (a + headBytes a)) (a % 64) (rdBytes s (bankAddr t bank a) (headBytes a)) (.vr key)) }

/-- ST: quarter PART of VR to 64 bytes, one line a cycle. -/
def opSt (sl : Slot) (bank : Fin 4) (addr : BitVec 20) (vr : Fin 32) (part : Fin 4) : SlotOp :=
  let t := sl.tile.val
  let a := addr.toNat
  { ports := portRun bank 0 (accessCycles a)
    alone := fun _ => if pastBank a then { sch := [0] } else {}
    late := fun s => rgnViol s t 1 bank a 64 true
    issue := fun s0 =>
      let s := spEcc s0 t bank (lineOf a) 1 sl.ecc
      let c := issueCycle s t
      let bs := (List.range 16).flatMap (fun i => leBytes 4 (vrLane (tile s t) vr (16 * part.val + i)).toNat)
      let s1 := land s t (.bytes (c + 1) (bankAddr t bank a) (bs.take (headBytes a)))
      if a % 64 = 0 then s1 else land s1 t (.bytes (c + 2) (bankAddr t bank (a + headBytes a)) (bs.drop (headBytes a))) }

/-- CPY: 64 bytes read at SADDR, written to line DLINE of DBANK in the cycle after the last read cycle. -/
def opCpy (sl : Slot) (sbank : Fin 4) (saddr : BitVec 20) (dbank : Fin 4) (dline : BitVec 14) : SlotOp :=
  let t := sl.tile.val
  let a := saddr.toNat
  let dst := bankAddr t dbank (dline.toNat * 64)
  { ports := portRun sbank 0 (accessCycles a) ++ portRun dbank (accessCycles a) 1
    alone := fun _ => if pastBank a then { sch := [0] } else {}
    late := fun s => (rgnViol s t 1 sbank a 64 false).join (rgnViol s t 1 dbank (dline.toNat * 64) 64 true)
    issue := fun s0 =>
      let s := spEcc s0 t sbank (lineOf a) 1 sl.ecc
      let c := issueCycle s t
      if a % 64 = 0 then land s t (.bytes (c + 2) dst (rdBytes s (bankAddr t sbank a) 64))
      else land s t (.tail (c + 1) (bankAddr t sbank (a + headBytes a)) (a % 64) (rdBytes s (bankAddr t sbank a) (headBytes a)) (.mem dst)) }

/-! ### Control operations (R120, Table SCH-8) -/

/-- WAIT: N empty cycles after the bundle; schedule cycles advance during them. -/
def opCtlWait (sl : Slot) (n : BitVec 24) : SlotOp where
  issue := fun s => onTile s sl.tile (fun x => { x with due := x.due + n.toNat })

/-- Loop depth shown in SCH_STATUS. -/
def showLoops (s : State) (t : Nat) : State := wrFld s (.schStatus t) 28 26 (tile s t).loops.length

/-- LOOP: the body from the next bundle runs COUNT times; at most 4 deep. -/
def opLoop (sl : Slot) (count : BitVec 20) : SlotOp where
  alone := fun s => { sch := (if count = 0 then [0] else []) ++ (if 4 ≤ (tile s sl.tile).loops.length then [1] else []) }
  issue := fun s => showLoops (onTile s sl.tile (fun x => { x with loops := ⟨sl.pc.toNat + 1, count.toNat⟩ :: x.loops })) sl.tile

/-- ENDLOOP: back to the first bundle of the body until the count is exhausted. -/
def opEndloop (sl : Slot) : SlotOp where
  alone := fun s => if (tile s sl.tile).loops.isEmpty then { sch := [1] } else {}
  issue := fun s => match (tile s sl.tile).loops with
    | [] => s
    | f :: rest =>
      if 1 < f.left then wrFld (onTile s sl.tile (fun x => { x with loops := { f with left := f.left - 1 } :: rest })) (.schStatus sl.tile) 13 0 f.body
      else showLoops (onTile s sl.tile (fun x => { x with loops := rest })) sl.tile

/-- SEEDLD (R83): the step seed from an 8-byte word of a line. -/
def opSeedld (sl : Slot) (bank : Fin 4) (line : BitVec 14) (word : Fin 8) : SlotOp :=
  let t := sl.tile.val
  let a := line.toNat * 64 + 8 * word.val
  { ports := portRun bank 0 1
    late := fun s => rgnViol s t 1 bank a 8 false
    issue := fun s0 =>
      let s := spEcc s0 t bank line.toNat 1 sl.ecc
      onTile s t (fun x => { x with seed := BitVec.ofNat 64 (rdLe s (bankAddr t bank a) 8) }) }

/-- The groups FIRST to LAST. -/
def groupRange (first last : Nat) : List Nat := (List.range 32).filter (fun g => decide (first ≤ g) && decide (g ≤ last))

/-- FALLOW: FALLOW_REQ := not WAKE for groups FIRST to LAST (R54). -/
def opFallow (sl : Slot) (wake : Bool) (last first : Fin 32) : SlotOp where
  alone := fun _ => if last.val < first.val then { sch := [0] } else {}
  issue := fun s => forAll (fun s g => fallowReq s sl.tile g (!wake)) s (groupRange first last)

/-- Every tile of the plot's image has reached END. -/
def allEnded (s : State) (p : Nat) : Bool :=
  match imageOf s p with
  | some i => i.tiles.all (fun c => tileRun s c.tile == tEnded)
  | none => (tilesOf s p).all (fun t => tileRun s t == tEnded)

/-- The plot becomes HELD (R139, R200). -/
def holdPlot (s : State) (p : Nat) : State :=
  let s1 := onPlot (setPlt s p pltHeld) p (fun q => { q with startSent := false, startHeld := false })
  if (ckpOf s1 p).heldAtArm then onCkp s1 p (fun k => { k with heldAtArm := false }) else s1

/-- Nanoseconds that the tile's step has lasted at its current cycle: its schedule cycles and its stall cycles. -/
def tileElapsed (s : State) (t : Nat) : Nat := cyclesNs s t ((rd s (.schCycle t)).toNat + sumNat (tile s t).stepStall)

/-- Nanoseconds from the start of the plot's step to its last END. -/
def stepElapsed (s : State) (p : Nat) : Nat := maxNat ((tilesOf s p).map (tileElapsed s))

/-- What follows the last END of a step: a step that took more than STEP_NS is counted (R140); a plot that a VOID lane or an uncorrectable error freezes, that has received
or sent STOP, or that is alone in its job and asked to hold, issues nothing more and is HELD (R63, R139, R200). -/
def stepEnded (s : State) (p : Nat) : State :=
  if !allEnded s p || plotRun s p != pServing || !(plot s p).inStep then s
  else
    let s0 := if stepNs s p < stepElapsed s p then count s (.schPovrcnt p) 1 else s
    let s1 := snapshotTiles (onPlot s0 p (fun q => { q with inStep := false })) (tilesOf s p)
    if (plot s p).freezeDue then
      holdPlot (discardUnsent (wrBit (wrBit s1 .lpxFreeze p true) (.pltPstat p) 27 true) p) p
    else if frozen s p || (plot s p).stopped then holdPlot s1 p
    else if !inJob s p && bit (rd s (.schPctrl p)) 0 then holdPlot s1 p
    else s1

/-- END (R120, R128, R129): the tile enters ENDED, its stall counts of the step are latched, and work already issued runs on. -/
def opEnd (sl : Slot) : SlotOp where
  alone := fun s => if (tile s sl.tile).loops.isEmpty then {} else { sch := [0] }
  issue := fun s0 =>
    let t := sl.tile.val
    let s := landAll s0 t
    let s1 := forAll (fun s k => wr s (.schLstall t k) (BitVec.ofNat 32 ((tile s t).stepStall.getD k 0))) (setTileRun s t tEnded) (List.range 5)
    match plotOf s1 t with
    | some p => stepEnded s1 p
    | none => s1

/-! ### Crossing operations (R126, R130, Table SCH-13) -/

/-- The crossing of a tile's plot that an XNG operation names. -/
def xdeclOf (s : State) (t x : Nat) : Option XDecl := match plotOf s t with | some p => xdecl s p x | none => none
def xingOf (s : State) (t x : Nat) : Xing := match plotOf s t with | some p => xing s p x | none => {}
/-- The state with a function applied to the run-time state of a crossing of tile t's plot. -/
def onXingOf (s : State) (t x : Nat) (f : Xing → Xing) : State := match plotOf s t with | some p => onXing s p x f | none => s

/-- Receive buffers in use. -/
def buffersUsed (q : Xing) : Nat := q.flight.length + q.arrived.length + q.consumed.length

/-- An XNG operation the crossing does not take, or from a tile that is not its sender or receiver, is undefined (R126, R130). -/
def xngIllegal (t x : Nat) (ok : XDecl → Bool) (s : State) : Viol :=
  match xdeclOf s t x with
  | some d => if ok d then {} else { sch := [0] }
  | none => { sch := [0] }

/-- A crossing that the tile may SEND on: its source, not an LPDDR5X read, and not a receive crossing of class 3. -/
def maySend (t : Nat) (d : XDecl) : Bool := d.src == t && d.cls != 2 && !(d.cls == 3 && d.dir == 1)
/-- A crossing that the tile receives. -/
def mayReceive (t : Nat) (d : XDecl) : Bool := d.dst == t && !(d.cls == 1 && d.lpx) && !(d.cls == 3 && d.dir == 0)

/-- A SEND or LREAD without a free receive buffer is held under CROSS (Table SCH-14). -/
def crossHold (t x : Nat) (s : State) : List Nat :=
  match xdeclOf s t x with
  | some d => if d.nbuf ≤ buffersUsed (xingOf s t x) then [srcCross] else []
  | none => []

/-- A new instance of a plot's crossing starts in the step in progress, with the lines given. -/
def startInst (s : State) (p x : Nat) (lines : List (BitVec 512)) : State :=
  onXing s p x (fun q => { q with started := q.started + 1, flight := q.flight ++ [{ inst := q.started, lines := lines, step := (plot s p).step }] })

/-- SEND: starts one instance, reading its lines from bank 2 on LINES consecutive cycles.  A class-3 SEND of a frozen plot is discarded. -/
def opSend (sl : Slot) (xid : BitVec 12) : SlotOp :=
  let t := sl.tile.val
  let x := xid.toNat
  { alone := xngIllegal t x (maySend t)
    holds := crossHold t x
    late := fun s => match xdeclOf s t x with
      | some d => (match firstRefused s t 2 2 d.srcLine d.lines false with | none => {} | some l => { sch := [2], refused := [(2, l, 2)] })
      | none => {}
    issue := fun s0 => match plotOf s0 t, xdeclOf s0 t x with
      | some p, some d =>
        let s := spEcc s0 t 2 d.srcLine 2 sl.ecc
        if d.cls = 3 ∧ nothingLeaves s p then onXing s p x (fun q => { q with started := q.started + 1 })
        else
          let i := (xing s p x).started
          let c := issueCycle s t
          landUpTo (2 * (d.lines + (tile s t).landing.length) + 2)
            (forAll (fun s k => land s t (.line (c + k) p x i (bankAddr t 2 ((d.srcLine + k) * 64)))) (startInst s p x []) (List.range d.lines)) t c
      | _, _ => s0 }

/-- WAIT: consumes the oldest arrived instance; held under CROSS while none has arrived. -/
def opXngWait (sl : Slot) (xid : BitVec 12) : SlotOp :=
  let t := sl.tile.val
  let x := xid.toNat
  { alone := xngIllegal t x (mayReceive t)
    holds := fun s => if (xingOf s t x).arrived.isEmpty then [srcCross] else []
    issue := fun s => onXingOf s t x (fun q => match q.arrived with
      | [] => q
      | i :: rest => { q with arrived := rest, consumed := q.consumed ++ [i] }) }

/-- LREAD: starts one instance of an LPDDR5X read crossing; issued only by its receiver. -/
def opLread (sl : Slot) (xid : BitVec 12) : SlotOp :=
  let t := sl.tile.val
  let x := xid.toNat
  { alone := xngIllegal t x (fun d => d.cls == 2 && d.dst == t)
    holds := crossHold t x
    issue := fun s => match plotOf s t with | some p => startInst s p x [] | none => s }

/-- FREE: frees the oldest consumed buffer. -/
def opFree (sl : Slot) (xid : BitVec 12) : SlotOp :=
  let t := sl.tile.val
  let x := xid.toNat
  { alone := fun s => (xngIllegal t x (mayReceive t) s).join (if (xingOf s t x).consumed.isEmpty then { sch := [0] } else {})
    issue := fun s => onXingOf s t x (fun q => { q with consumed := q.consumed.drop 1 }) }

/-- The crossing that a tile's held bundle waits on. -/
def heldXid (s : State) (t : Nat) : Nat :=
  (((tile s t).held.filterMap (fun i => match i with
    | .send _ x => some x.toNat
    | .xngWait _ x => some x.toNat
    | .lread _ x => some x.toNat
    | _ => none)).head?).getD 0

end Sys2Proof.Machine
end

