-- ==== Sys2Proof/Machine/ImageCheck.lean ====
section
/-! DEFINITION. The load checks of a drill image (R117, Table SCH-6): the static walk of each stream and the rules that it alone decides. -/
set_option Elab.async false
namespace Sys2Proof.Machine

/-! ### The static walk (R119, R120) -/

/-- The operations of a stored bundle; a bundle's place is filled in with schedule cycle 0. -/
def storedOps (t pc : Nat) (b : BitVec 256) : Option (List Instr) := bundleOps { tile := Fin.ofNat 128 t, pc := BitVec.ofNat 14 pc, cyc := 0 } b

/-- What an operation of the CTL slot does to the walk. -/
inductive Flow where
  | next (extra : Nat)
  | loop (count : Nat)
  | endloop
  | stop
  deriving DecidableEq, Repr

/-- The CTL operation of a bundle as the walk sees it. -/
def ctlFlow (ops : List Instr) : Flow :=
  match ops with
  | .ctlWait _ n :: _ => .next n.toNat
  | .loop _ n :: _ => .loop n.toNat
  | .endloop _ :: _ => .endloop
  | .endOp _ :: _ => .stop
  | _ => .next 0

/-- The issue of a stream without stalls: each operation with its schedule cycle, in order, and the cycle of END; none where loops are unbalanced or nest
beyond 4, END is not reached within the fuel, or is not the last bundle stored. -/
def walk (bs : List (List Instr)) : Nat → Nat → Nat → List LoopFrame → List (Nat × Instr) → Option (List (Nat × Instr) × Nat)
  | 0, _, _, _, _ => none
  | fuel + 1, pc, cyc, loops, acc =>
    match bs[pc]? with
    | none => none
    | some ops =>
      let acc1 := (ops.map (fun i => (cyc, i))).reverse ++ acc
      match ctlFlow ops with
      | .next n => walk bs fuel (pc + 1) (cyc + 1 + n) loops acc1
      | .loop n => if 4 ≤ loops.length then none else walk bs fuel (pc + 1) (cyc + 1) (⟨pc + 1, n⟩ :: loops) acc1
      | .endloop => match loops with
        | [] => none
        | f :: rest => if 1 < f.left then walk bs fuel f.body (cyc + 1) ({ f with left := f.left - 1 } :: rest) acc1 else walk bs fuel (pc + 1) (cyc + 1) rest acc1
      | .stop => if loops.isEmpty && pc + 1 == bs.length then some (acc1.reverse, cyc) else none

/-- The trace of a tile's stream, ending at END in cycle LEN; none is refusal code 0x07. -/
def traceOf (c : TileCfg) : Option (List (Nat × Instr)) :=
  let stored := c.stream.zipIdx.map (fun e => storedOps c.tile e.2 e.1)
  if stored.isEmpty || stored.any (fun o => o.isNone) then none
  else match walk (stored.map (fun o => o.getD [])) (c.len + 1) 0 0 [] [] with
    | some (tr, cyc) => if cyc = c.len then some tr else none
    | none => none

/-! ### Violations that the stream alone decides (code 0x08) -/

/-- Weight mode that the array table gives an array. -/
def arrMode (im : Image) (t la : Nat) : Nat := match im.arrtab.find? (fun e => e.tile == t && e.larray == la) with | some e => e.mode | none => 0

/-- The MVM that a launch of the stream starts, every reference launch converting (R46): group, logical slot (16 the reference), mode and descriptor. -/
def staticMvm (im : Image) (c : TileCfg) (e : Nat × Instr) : Option Mvm :=
  let mk := fun g l mode d =>
    let w := c.ldesc.getD d 0
    some { group := g, slot := l, logical := l, start := e.1, bits := fld w 3 0, phase := c.phaseCyc, mode := mode, desc := w, rows := 0, skipped := false,
           void := false, done := false, heldNs := 0, lanes := [] }
  match e.2 with
  | .launch _ la _ d => mk (la.toNat / 16) (la.toNat % 16) (arrMode im c.tile la.toNat) d.val
  | .rlaunch _ g _ d => mk g.val 16 0 d.val
  | _ => none

/-- A later launch of one group is RELAUNCH or CONV_CONFLICT against an earlier one (Table ARR-8). -/
def launchesClash (k m : Mvm) : Bool :=
  k.group == m.group && ((k.logical == m.logical && decide (m.start < mvmEnd k)) || convOverlap k m)

/-- Every launch is sound: its descriptor, and against each earlier one. -/
def launchesOk : List Mvm → Bool
  | [] => true
  | k :: rest => !badDesc k.desc k.mode && rest.all (fun m => !launchesClash k m) && launchesOk rest

/-- A collect's array and PP descriptor. -/
def collectOf (e : Nat × Instr) : Option (Nat × Nat × Nat × Nat) :=
  match e.2 with
  | .collect _ la d => some (e.1, la.toNat / 16, la.toNat % 16, d.val)
  | .rcollect _ g d => some (e.1, g.val, 16, d.val)
  | _ => none

/-- The latest launch of an array before a cycle. -/
def launchBefore (ms : List Mvm) (cyc g l : Nat) : Option Mvm := (ms.filter (fun m => m.group == g && m.logical == l && decide (m.start < cyc))).getLast?

/-- Bytes of a collect's output, 0 for none. -/
def collectBytes (c : TileCfg) (d mode : Nat) : Nat :=
  let a := (c.ppdesc.getD d (0, 0)).1
  if bit a 31 || fld a 23 20 == 9 then outSize (fld a 23 20) (resultCount mode) (laneCount mode) else 0

/-- A collect is sound: its array launched earlier in the step, complete, not lost, its descriptor valid (R39, R66, R69, R70, R121). -/
def collectOk (c : TileCfg) (ms : List Mvm) (q : Nat × Nat × Nat × Nat) : Bool :=
  match launchBefore ms q.1 q.2.1 q.2.2.1 with
  | none => false
  | some m =>
    let pp := c.ppdesc.getD q.2.2.2 (0, 0)
    decide (mvmEnd m ≤ q.1) && !ms.any (fun k => k.group == m.group && decide (mvmEnd m < mvmConvStart k + k.phase) && decide (mvmConvStart k + k.phase ≤ q.1) && decide (k.start < q.1))
      && !badPpdesc pp.1 pp.2 m.mode

/-- Post-processing is free for each collect (R67). -/
def collectsSpaced (ms : List Mvm) : List (Nat × Nat × Nat × Nat) → Bool
  | a :: b :: rest =>
    let conv := match launchBefore ms a.1 a.2.1 a.2.2.1 with | some m => mvmConv m | none => 1
    decide (a.1 + 3 * conv ≤ b.1) && collectsSpaced ms (b :: rest)
  | _ => true

/-- Occupancy of a VEC operation (Table SCH-10); 0 for an operation of another slot. -/
def vecOccupancy (i : Instr) : Nat :=
  match i with
  | .route _ o => routeCycles (routeG o) (routeK o)
  | .sample _ o => sampleCycles (sampleV o) (sampleKdecl o)
  | .vecFma _ _ => 1
  | .vecAdd _ _ => 1
  | .vecMul _ _ => 1
  | .max _ _ => 1
  | .min _ _ => 1
  | .cvt _ _ => 1
  | .func _ _ => 1
  | .rsum _ _ => 1
  | .rmax _ _ => 1
  | .mxenc _ _ => 1
  | .mxdec _ _ => 1
  | _ => 0

/-- No VEC operation issues during an occupancy (R122). -/
def vecSpaced : List (Nat × Nat) → Bool
  | a :: b :: rest => decide (a.1 + a.2 ≤ b.1) && vecSpaced (b :: rest)
  | _ => true

/-- A DMX operation: path (true the drain's), set, occupancy, and whether its descriptor is invalid (R81). -/
def dmxUse (c : TileCfg) (i : Instr) : Option (Bool × Nat × Nat × Bool) :=
  match i with
  | .mma _ st d => some (false, st.val, dmxCycles (c.dmx.getD d.val 0), dmxBad (c.dmx.getD d.val 0))
  | .mmaz _ st d => some (false, st.val, dmxCycles (c.dmx.getD d.val 0), dmxBad (c.dmx.getD d.val 0))
  | .drain _ st _ _ _ => some (true, st.val, 10, false)
  | _ => none

/-- The later of two DMX operations is barred by the occupancy of the earlier (R124): of its own path, or of the other on the same set. -/
def dmxClash (a b : Nat × Bool × Nat × Nat × Bool) : Bool := decide (b.1 < a.1 + a.2.2.2.1) && (a.2.1 == b.2.1 || a.2.2.1 == b.2.2.1)

/-- Every DMX operation is sound. -/
def dmxOk : List (Nat × Bool × Nat × Nat × Bool) → Bool
  | [] => true
  | a :: rest => !a.2.2.2.2 && rest.all (fun b => !dmxClash a b) && dmxOk rest

/-- Port cycles from `c` on: bank, port (0 A, 1 X, 2 R), cycle. -/
def portCycles (bank port c n : Nat) : List (Nat × Nat × Nat) := (List.range n).map (fun k => (bank, port, c + k))
/-- The scheduled port cycles of an operation (R31, R125, R126, R182, Table SHL-3). -/
def portsOf (im : Image) (c : TileCfg) (ms : List Mvm) (e : Nat × Instr) : List (Nat × Nat × Nat) :=
  match e.2 with
  | .seedld _ b _ _ => portCycles b.val 0 e.1 1
  | .loadiv _ _ b _ => portCycles b.val 0 e.1 8
  | .ld _ b a _ _ => portCycles b.val 0 e.1 (accessCycles a.toNat)
  | .st _ b a _ _ => portCycles b.val 0 e.1 (accessCycles a.toNat)
  | .cpy _ sb a db _ => portCycles sb.val 0 e.1 (accessCycles a.toNat) ++ portCycles db.val 0 (e.1 + accessCycles a.toNat) 1
  | .send _ x => match im.xdecl.find? (fun d => d.xid == x.toNat) with | some d => portCycles 2 1 e.1 d.lines | none => []
  | .route _ _ => portCycles 1 0 (e.1 + vecOccupancy e.2 - 1) 1
  | .sample _ _ => portCycles 1 0 (e.1 + vecOccupancy e.2 - 1) 1
  | _ => match collectOf e with
    | some q => match launchBefore ms q.1 q.2.1 q.2.2.1 with
      | some m => portCycles 0 2 (e.1 + 9) ((collectBytes c q.2.2.2 m.mode + 255) / 256)
      | none => []
    | none => []

/-- No element stands twice. -/
def noRepeat : List (Nat × Nat × Nat) → Bool
  | [] => true
  | x :: rest => !rest.contains x && noRepeat rest

/-- The stream commits no violation that it alone decides. -/
def streamSound (im : Image) (c : TileCfg) (tr : List (Nat × Instr)) : Bool :=
  let ms := tr.filterMap (staticMvm im c)
  let cs := tr.filterMap collectOf
  launchesOk ms && cs.all (collectOk c ms) && collectsSpaced ms cs
    && vecSpaced ((tr.map (fun e => (e.1, vecOccupancy e.2))).filter (fun e => e.2 != 0))
    && dmxOk (tr.filterMap (fun e => (dmxUse c e.2).map (fun u => (e.1, u))))
    && noRepeat (tr.flatMap (portsOf im c ms))

/-! ### Crossings (code 0x09) -/

/-- The crossing operations of a trace: XID and kind (0 SEND, 1 WAIT, 2 LREAD, 3 FREE), in order. -/
def xngUse (i : Instr) : Option (Nat × Nat) :=
  match i with
  | .send _ x => some (x.toNat, 0)
  | .xngWait _ x => some (x.toNat, 1)
  | .lread _ x => some (x.toNat, 2)
  | .free _ x => some (x.toNat, 3)
  | _ => none

/-- How many operations of a kind a tile's trace holds for a crossing. -/
def xngCount (us : List (Nat × Nat)) (x k : Nat) : Nat := (us.filter (fun u => u.1 == x && u.2 == k)).length

/-- Each FREE finds a consumed buffer held: the WAITs before it outnumber the FREEs. -/
def freesHeld (x : Nat) : Nat → List (Nat × Nat) → Bool
  | _, [] => true
  | h, u :: rest =>
    if u.1 ≠ x then freesHeld x h rest
    else if u.2 = 1 then freesHeld x (h + 1) rest
    else if u.2 = 3 then decide (0 < h) && freesHeld x (h - 1) rest
    else freesHeld x h rest

/-- A tile of the image. -/
def imgTile (im : Image) (t : Nat) : Option TileCfg := im.tiles.find? (fun c => c.tile == t)

/-- A declaration whose fields fit its class (Table SCH-15; log entry 40). -/
def declOk (im : Image) (d : XDecl) : Bool :=
  let s := (imgTile im d.src).isSome
  let t := (imgTile im d.dst).isSome
  decide (d.xid ≤ 4095) && decide (1 ≤ d.lines) && decide (d.lines ≤ 1024) && decide (1 ≤ d.count) && (!d.lpx || d.cls == 1) &&
    (match d.cls with
      | 0 => s && t && d.src / 16 == d.dst / 16
      | 1 => (s && d.dst == 0xFFFF) || (d.src == 0xFFFF && t && !d.lpx)
      | 2 => d.src == 0xFFFF && t
      | 3 => if d.dir = 0 then s else t
      | _ => false)

/-- The bound of Table SCH-16 for a declaration, in ns, before rounding up; none where its flow reserves no rate. -/
def latencyBound (im : Image) (d : XDecl) : Option Rat :=
  let f := fun t => (((imgTile im t).map (fun c => c.freq)).getD 600 : Rat)
  let own := if (imgTile im d.src).isSome && !(d.cls == 3 && d.dir == 1) then d.src else d.dst
  match d.cls with
  | 0 => some (16 + 14000 / f d.src + 14000 / f d.dst)
  | 1 => some (10 + 60000 / f own)
  | 2 => some (130 + 60000 / f d.dst + (1 : Rat) / 5 * (d.lines - 1 : Nat))
  | _ => match im.flow.find? (fun e => e.flow == d.ext.toNat % 65536) with
    | some e => if e.rateMbps = 0 then none else some (1300 + 120000 / f own + 200 + (d.lines * 512000 : Nat) / (e.rateMbps : Rat))
    | none => none

/-- The operations per step that a crossing takes at a tile: SEND, WAIT, LREAD, FREE (R126). -/
def xngWant (d : XDecl) (t : Nat) : List Nat :=
  let sends := maySend t d
  let gets := mayReceive t d && decide (d.dst < 128)
  [if sends then d.count else 0, if gets then d.count else 0, if d.cls = 2 ∧ d.dst = t then d.count else 0, if gets then d.count else 0]

/-- Declarations in XID order. -/
def xidsRise : List XDecl → Bool
  | a :: b :: rest => decide (a.xid < b.xid) && xidsRise (b :: rest)
  | _ => true

/-- The crossings of an image are sound, given each tile's crossing operations. -/
def crossingsOk (im : Image) (us : List (Nat × List (Nat × Nat))) : Bool :=
  xidsRise im.xdecl && decide (im.xdecl.length ≤ 4096)
    && us.all (fun e => e.2.all (fun u => im.xdecl.any (fun d => d.xid == u.1)))
    && im.xdecl.all (fun d => declOk im d
      && us.all (fun e => (List.range 4).map (xngCount e.2 d.xid) == xngWant d e.1 && freesHeld d.xid 0 e.2)
      && !(im.lpxGbps == 0 && (d.cls == 2 || (d.cls == 1 && d.lpx)))
      && (match latencyBound im d with | some b => decide (b ≤ (d.maxNs : Rat)) | none => false)
      && !(d.cls == 3 && decide (6000 < d.maxNs))
      && decide (2 * d.maxNs ≤ im.wdogNs))

/-! ### Plans (codes 0x0A, 0x0B, 0x0D) -/

/-- Most arrays active at once within a window (R144). -/
def windowActive (ms : List Mvm) (lo hi : Nat) : Nat :=
  let at' := fun x => (ms.filter (fun m => decide (m.start ≤ x) && decide (x < mvmEnd m))).length
  maxNat ((lo :: (ms.map (fun m => m.start)).filter (fun x => decide (lo < x) && decide (x < hi))).map at')

/-- A fallow-slot entry meets R144. -/
def fallowOk (im : Image) (tr : Nat → List (Nat × Instr)) (e : FallowEnt) : Bool :=
  match imgTile im e.tile with
  | none => false
  | some c =>
    let ms := (tr e.tile).filterMap (staticMvm im c)
    let a := windowActive ms e.start (e.start + e.length)
    let n := ((List.range 32).filter (bit e.groups)).length
    decide (1 ≤ e.period) && decide (e.phase < e.period) && decide (e.period * im.stepNs ≤ 10000000) && decide (e.start + e.length ≤ c.len)
      && ms.all (fun m => !(bit e.groups m.group && decide (m.start < e.start + e.length) && decide (e.start < mvmEnd m)))
      && decide (a < c.tbudget) && decide (ceilDiv n (c.tbudget - a) * 368 * c.phaseCyc ≤ e.length)

/-- The fallow-slot plan: every entry, and every launched group in some entry's mask. -/
def fallowPlanOk (im : Image) (tr : Nat → List (Nat × Instr)) : Bool :=
  im.fallow.all (fallowOk im tr)
    && im.tiles.all (fun c => ((tr c.tile).filterMap (staticMvm im c)).all (fun m => im.fallow.any (fun e => e.tile == c.tile && bit e.groups m.group)))

/-- Capacity of a sub-port, Mb/s (Table NET-1); 0 where the port's split has none. -/
def subCapacity (s : State) (port sub : Nat) : Nat := if sub < subCount (split s port) then 800000 / subCount (split s port) else 0

/-- Rate reserved on a sub-port by an image. -/
def reserved (im : Image) (port : Nat) : Nat := sumNat ((im.flow.filter (fun f => f.port == port)).map (fun f => f.rateMbps))

/-- Images committed to plots other than p. -/
def otherImages (s : State) (p : Nat) : List Image := (allPlots.filter (fun q => q != p)).filterMap (imageOf s)

/-- The flow plan keeps every sub-port's reservations within 25 % (R145). -/
def flowsOk (s : State) (p : Nat) (im : Image) : Bool :=
  im.flow.all (fun f => decide (4 * (reserved im f.port + sumNat ((otherImages s p).map (fun i => reserved i f.port))) ≤ subCapacity s (f.port / 16) (f.port % 4))
    && decide (1 ≤ subCapacity s (f.port / 16) (f.port % 4)))

/-- H counts while a plot is CUTTING, WRITING or RESTORING (R429). -/
def ckpGbps (s : State) : Nat := if allPlots.any (fun q => let v := ckpState s q; v == 2 || v == 3 || v == 4) then ckpRate s else 0

/-- START_NS ascends. -/
def startsRise : List PowerSeg → Bool
  | a :: b :: rest => decide (a.startNs < b.startNs) && startsRise (b :: rest)
  | _ => true

/-- The power profile is sound (R142). -/
def powerOk (im : Image) : Bool :=
  decide (im.power.length ≤ 4096) && (match im.power.head? with | some a => a.startNs == 0 | none => false) && startsRise im.power
    && im.power.all (fun g => decide (g.active ≤ sumNat (im.tiles.map (fun c => c.tbudget))))

/-- Values out of range (code 0x06), the header's of Table SCH-1 included (log entry 40). -/
def rangesOk (im : Image) : Bool :=
  decide (10000 ≤ im.stepNs) && decide (im.stepNs ≤ 10000000) && decide (10000 ≤ im.wdogNs) && decide (im.wdogNs ≤ 100000000) && decide (im.markerDly ≤ 6000)
    && !(im.jobPlots == 1 && im.markerDly != 0) && decide (1 ≤ im.jobPlots) && decide (im.jobPlots ≤ 98304) && decide (im.plotIndex < im.jobPlots)
    && decide (1 ≤ im.ntiles) && decide (im.ntiles ≤ 128)
    && im.tiles.all (fun c => decide (6 ≤ c.phaseCyc) && decide (c.phaseCyc ≤ 24) && decide (600 ≤ c.freq) && decide (c.freq ≤ 1200)
      && decide (c.phaseCyc * 50 ≤ c.freq) && decide (c.freq ≤ c.phaseCyc * 100) && decide (1 ≤ c.tbudget) && decide (c.tbudget ≤ 63)
      && decide (c.len * 1000 ≤ im.stepNs * c.freq))

/-- No tile stands twice. -/
def tilesApart : List Nat → Bool
  | [] => true
  | t :: rest => !rest.contains t && tilesApart rest

/-- Codes 0x03 to 0x0D of Table SCH-6, in its order; 0 where none applies. -/
def imageCode (s : State) (p : Nat) (bs : List Byte) : Nat :=
  let im := readImage bs
  let traces := im.tiles.map (fun c => (c.tile, traceOf c))
  let tr := fun t => match traces.find? (fun e => e.1 == t) with | some e => e.2.getD [] | none => []
  if sha256 ((bs.take im.size).drop 64) ≠ im.digest then 0x03
  else if im.layoutClass ≠ s.sec.layoutClass then 0x04
  else if im.ntiles ≠ im.tiles.length ∨ tilesApart (im.tiles.map (fun c => c.tile)) = false
      ∨ im.tiles.all (fun c => decide (c.tile < 128) && inPlot s p c.tile) = false ∨ im.arrtab.all (fun e => (imgTile im e.tile).isSome) = false then 0x05
  else if !rangesOk im then 0x06
  else if traces.any (fun e => e.2.isNone) then 0x07
  else if !im.tiles.all (fun c => streamSound im c (tr c.tile)) then 0x08
  else if !crossingsOk im (im.tiles.map (fun c => (c.tile, (tr c.tile).filterMap (fun e => xngUse e.2)))) then 0x09
  else if !fallowPlanOk im tr then 0x0A
  else if !flowsOk s p im then 0x0B
  else if 1100 < im.lpxGbps + sumNat ((otherImages s p).map (fun i => i.lpxGbps)) + harrowGbps s + ckpGbps s then 0x0C
  else if !powerOk im then 0x0D
  else 0

/-- The bytes of an alternate (Table SCH-3). -/
def altBytes (bs : List Byte) (e : Nat × Nat) : List Byte := (bs.drop e.1).take e.2

/-- An alternate passes every check above, and assumes a tile of the image lost. -/
def altOk (s : State) (p : Nat) (bs : List Byte) (im : Image) (e : Nat × Nat) : Bool :=
  let b := altBytes bs e
  let a := readImage b
  formCode b == 0 && a.format == 3 && a.flags.testBit 0 && a.alts.isEmpty && (imgTile im a.altTile).isSome && imageCode s p b == 0

/-- The refusal code of an image for plot p (Table SCH-6): the first check that fails, or 0x00. -/
def loadCode (s : State) (p : Nat) (bs : List Byte) : Nat :=
  if formCode bs ≠ 0 then formCode bs
  else if imageCode s p bs ≠ 0 then imageCode s p bs
  else if !(readImage bs).alts.all (altOk s p bs (readImage bs)) then 0x0E
  else if (plot s p).modelId.isSome ∧ (plot s p).modelId ≠ some (readImage bs).modelId then 0x0F
  else 0

end Sys2Proof.Machine
end

