-- ==== Sys2Proof/Machine/Flags.lean ====
section
/-! DEFINITION. The ALU functions of the Novdy cores and every flag they compute (R229, Table NVC-10, Table NVC-12). -/
set_option Elab.async false
namespace Sys2Proof.Machine

/-- A result with the flags the function writes: C and V are none where the table has a dash, or where a shift by 0 leaves C unchanged. -/
structure AluOut where
  value : Word
  c : Option Bool
  v : Option Bool
  deriving DecidableEq, Repr

/-- a + b + carry: Carry out, signed overflow. -/
def addWith (a b : Word) (cin : Bool) : AluOut :=
  let u := a.toNat + b.toNat + boolNat cin
  let r := BitVec.ofNat 32 u
  let i := a.toInt + b.toInt + (boolNat cin : Int)
  ⟨r, some (decide (2 ^ 32 ≤ u)), some (decide (r.toInt ≠ i))⟩

/-- a − b − borrow: C is 1 when no borrow occurs, signed overflow. -/
def subWith (a b : Word) (borrow : Bool) : AluOut :=
  let r := a - b - BitVec.ofNat 32 (boolNat borrow)
  let i := a.toInt - b.toInt - (boolNat borrow : Int)
  ⟨r, some (decide (b.toNat + boolNat borrow ≤ a.toNat)), some (decide (r.toInt ≠ i))⟩

/-- A result that leaves C and V unchanged. -/
def logicOut (r : Word) : AluOut := ⟨r, none, none⟩

/-- Shift left; C is the last bit shifted out. -/
def shlOut (a : Word) (n : Nat) : AluOut := ⟨a <<< n, if n = 0 then none else some (a.toNat.testBit (32 - n)), none⟩
/-- Logical shift right. -/
def shrOut (a : Word) (n : Nat) : AluOut := ⟨a >>> n, if n = 0 then none else some (a.toNat.testBit (n - 1)), none⟩
/-- Arithmetic shift right. -/
def sarOut (a : Word) (n : Nat) : AluOut := ⟨BitVec.sshiftRight a n, if n = 0 then none else some (a.toNat.testBit (n - 1)), none⟩
/-- Rotate right; the last bit shifted out is the one that entered at bit 31. -/
def rorOut (a : Word) (n : Nat) : AluOut := ⟨a.rotateRight n, if n = 0 then none else some (a.toNat.testBit (n - 1)), none⟩

/-- High 32 bits of the unsigned product. -/
def mulHu (a b : Word) : Word := BitVec.ofNat 32 (a.toNat * b.toNat / 2 ^ 32)
/-- High 32 bits of the signed product. -/
def mulHs (a b : Word) : Word := BitVec.ofInt 32 (a.toInt * b.toInt / 2 ^ 32)

/-- The ALU function FUNC of opcode 0x01 on a, b and the carry flag (Table NVC-10). -/
def aluFunc (f : Nat) (cin : Bool) (a b : Word) : AluOut :=
  if f = 0 then addWith a b false
  else if f = 1 then addWith a b cin
  else if f = 2 then subWith a b false
  else if f = 3 then subWith a b (!cin)
  else if f = 4 then logicOut (a &&& b)
  else if f = 5 then logicOut (a ||| b)
  else if f = 6 then logicOut (a ^^^ b)
  else if f = 7 then logicOut (a &&& ~~~b)
  else if f = 8 then shlOut a (b.toNat % 32)
  else if f = 9 then shrOut a (b.toNat % 32)
  else if f = 10 then sarOut a (b.toNat % 32)
  else if f = 11 then rorOut a (b.toNat % 32)
  else if f = 12 then logicOut (a * b)
  else if f = 13 then logicOut (mulHu a b)
  else if f = 14 then logicOut (mulHs a b)
  else logicOut b

/-- Flag writes of a result under S: Z and N from the result, C and V where the function gives them. -/
def setFlags (x : CoreState) (s : Bool) (r : AluOut) : CoreState :=
  if s then { x with z := r.value == 0, n := r.value.msb, c := r.c.getD x.c, v := r.v.getD x.v } else x

/-- Flag writes of a microword, limited to FLAGMASK (bits 3 to 0: N, Z, C, V). -/
def setFlagsMasked (x : CoreState) (mask : Nat) (r : AluOut) : CoreState :=
  { x with n := if mask.testBit 3 then r.value.msb else x.n, z := if mask.testBit 2 then r.value == 0 else x.z,
           c := if mask.testBit 1 then r.c.getD x.c else x.c, v := if mask.testBit 0 then r.v.getD x.v else x.v }

/-- The flags as stored in a return-stack entry. -/
def flagBits (x : CoreState) : Nat := 8 * boolNat x.n + 4 * boolNat x.z + 2 * boolNat x.c + boolNat x.v
/-- The core with its flags as stored. -/
def withFlags (x : CoreState) (f : Nat) : CoreState :=
  { x with n := f.testBit 3, z := f.testBit 2, c := f.testBit 1, v := f.testBit 0 }

/-- The 14 branch conditions (Table NVC-12); none for the two illegal codes. -/
def condHolds (x : CoreState) (k : Nat) : Option Bool :=
  if k = 0 then some x.z else if k = 1 then some (!x.z)
  else if k = 2 then some x.c else if k = 3 then some (!x.c)
  else if k = 4 then some x.n else if k = 5 then some (!x.n)
  else if k = 6 then some x.v else if k = 7 then some (!x.v)
  else if k = 8 then some (x.n != x.v) else if k = 9 then some (x.n == x.v)
  else if k = 10 then some (x.z || x.n != x.v) else if k = 11 then some (!x.z && x.n == x.v)
  else if k = 12 then some (!x.c || x.z) else if k = 13 then some (x.c && !x.z)
  else none

end Sys2Proof.Machine
end

