-- ==== Sys2Proof/Machine/Operands.lean ====
section
/-! DEFINITION. Operand forms of the Novdy cores: word registers, pointers and their post-modify (R218), and format-M addresses (R230). -/
set_option Elab.async false
namespace Sys2Proof.Machine

/-- Word register r. -/
def wreg (x : CoreState) (r : Nat) : Word := mapGet 0 x.w r
/-- The core with word register r written. -/
def setWreg (x : CoreState) (r : Nat) (v : Word) : CoreState := { x with w := mapSet 0 x.w r v }
/-- Pointer register p. -/
def preg (x : CoreState) (p : Nat) : Pointer := mapGet {} x.ptr p
/-- The core with pointer register p written. -/
def setPreg (x : CoreState) (p : Nat) (q : Pointer) : CoreState := { x with ptr := mapSet {} x.ptr p q }

/-- Sign extension of a 16-bit immediate. -/
def sextImm (n v : Nat) : Word := BitVec.ofInt 32 (sext n v)

/-- Bits [k−1:0] of a number in reversed order. -/
def revBits : Nat → Nat → Nat
  | 0, _ => 0
  | k + 1, v => v % 2 * 2 ^ k + revBits k (v / 2)

/-- The binary logarithm of a power of two from 4 to 2^16. -/
def log2Of (v : Nat) : Option Nat := (List.range 17).find? (fun k => decide (2 ≤ k) && v == 2 ^ k)

/-- The post-modify of a pointer (R218); none where its conditions are broken or the mode is 3. -/
def postModify (q : Pointer) : Option Pointer :=
  if q.mode = 0 then some { q with pa := q.pa + q.pm }
  else if q.mode = 1 then
    if q.pl = 0 then some q
    else if q.pl.toNat < q.pm.toInt.natAbs then none
    else
      let a := q.pa + q.pm
      let hi := q.pb + q.pl
      let a1 := if hi.toNat ≤ a.toNat then a - q.pl else a
      let a2 := if a1.toNat < q.pb.toNat then a1 + q.pl else a1
      some { q with pa := a2 }
  else if q.mode = 2 then
    match log2Of q.pl.toNat with
    | none => none
    | some k =>
      let o := (q.pa - q.pb).toNat
      if o < q.pl.toNat ∧ q.pm.toNat < q.pl.toNat then
        let o2 := revBits k ((revBits k o + revBits k q.pm.toNat) % 2 ^ k)
        some { q with pa := q.pb + BitVec.ofNat 32 o2 }
      else none
  else none

/-- Where a format-M operand lies: its address, and the pointer to post-modify, if any. -/
inductive MemAddr where
  | at (addr : Word) (post : Option Nat)
  /-- A field value that the format leaves illegal. -/
  | illegal
  deriving DecidableEq, Repr

/-- The format-M address (R230). -/
def memAddr (x : CoreState) (p am imm : Nat) : MemAddr :=
  if am = 0 then (if imm = 0 then .at (preg x p).pa (some p) else .illegal)
  else if am = 1 then .at ((preg x p).pa + sextImm 17 imm) none
  else if am = 2 then (if p = 0 then .at (wreg x (imm / 2 ^ 13) + sextImm 13 imm) none else .illegal)
  else .illegal

/-- Naturally aligned. -/
def aligned (a : Word) (n : Nat) : Bool := a.toNat % n == 0

/-- One enabled MPU region covers every byte and grants the kind (R217): 0 load, 1 store, 2 fetch. -/
def mpuGrants (x : CoreState) (a n kind : Nat) : Bool :=
  (List.range 16).any (fun k =>
    let e := mapGet (0, 0) x.mpu k
    bit e.1 3 && bit e.1 kind && decide (fld e.1 31 6 * 64 ≤ a) && decide (a + n ≤ fld e.2 31 6 * 64 + 64)
      && decide (fld e.1 31 6 ≤ fld e.2 31 6))

end Sys2Proof.Machine
end

