-- ==== Sys2Proof/Machine/OpsNvc.lean ====
section
/-! DEFINITION. Control cores seen from outside: halting, resetting and loading them, and signatures (R231, R235, R236, R240, R375). -/
set_option Elab.async false
namespace Sys2Proof.Machine

/-! ### NVC_STATUS.STATE and HALTCAUSE codes (Table NVC-18) -/
def nvReset : Nat := 0
def nvLoading : Nat := 1
def nvRun : Nat := 2
def nvWfi : Nat := 3
def nvHalted : Nat := 4

/-- NVC_STATUSc.STATE. -/
def nvState (s : State) (c : Nat) : Nat := rdFld s (.nvcStatus c) 31 29
/-- The state with NVC_STATUSc.STATE set. -/
def setNvState (s : State) (c v : Nat) : State := wrFld s (.nvcStatus c) 31 29 v

/-- A component's code (Table FWM-1) that core c runs. -/
def componentOf (c : Nat) : Nat := if c < 2 then 1 else if c < 6 then 3 else if c < 22 then 4 else 2

/-- A network core that halts drops the frames of its punt ring, counted as punt excess by reason (Table NET-9). -/
def dropRing (s : State) (c : Nat) : State :=
  let s1 := (mapGet [] s.net.puntRings c).foldl (fun s f => count s (.prsPuntdrop f.reason) 1) s
  { s1 with net := { s1.net with puntRings := mapErase s1.net.puntRings c } }

/-- Core c stops with a cause: HALTCAUSE, and HALTPC of the instruction in progress, which a WFI is while it waits; causes 1 to 3 record an event and interrupt the warden
(R213, R222, R235, Tables NVC-18, NVC-21). -/
def stopCore (s : State) (c cause : Nat) : State :=
  let pc := (core s c).pc.toNat + (if nvState s c = nvWfi then 0xFFFC else 0)
  let s1 := if nvState s c = nvHalted then s else wr s (.nvcHaltpc c) (BitVec.ofNat 32 (pc % 0x10000))
  let s2 := dropRing (wrFld (setNvState s1 c nvHalted) (.nvcStatus c) 28 24 cause) c
  if cause < 4 then irqCores (recordEvent s2 0x0D01 moduleEvent 2 islHeadland c (rd s2 (.nvcStatus c)) 0) headlandCores 13 else s2

/-- The warden's source of halted cores is clear once none is left (Table FWM-19). -/
def haltsHandled (s : State) : State :=
  if (List.range 24).any (fun c => nvState s c == nvHalted && decide (rdFld s (.nvcStatus c) 28 24 < 4)) then s
  else forAll (fun s c => clearIrq s c 13) s headlandCores

/-- A core after core reset (R215, R217): registers and pointers 0, PC at the entry, no MPU region; SRAMs, decode table and microcode stay. -/
def resetCore (x : CoreState) : CoreState :=
  { imem := x.imem, dmem := x.dmem, mbox := x.mbox, decode := x.decode, micro := x.micro, entry := x.entry,
    pc := BitVec.ofNat 32 x.entry }

/-- Bytes laid out from an offset on. -/
def bytesAt (off : Nat) (bs : List Byte) : List (Nat × Byte) := (bs.zipIdx.map (fun e => (off + e.2, e.1))).filter (fun e => e.1 ≠ 0)

/-- The loader halts a core that runs, writes a component into it and releases it at ENTRY (R217, R231, R239, R240, R249).  `keep` leaves the highest 4 KiB of data
SRAM, as in a live update. -/
def loadCore (s0 : State) (c : Nat) (k : Component) (keep : Bool) : State :=
  let s := if nvState s0 c = nvRun ∨ nvState s0 c = nvWfi then stopCore s0 c 4 else s0
  let x := core s c
  let custom := if 2 ≤ c ∧ c ≤ 21 then k.custom.getD [] else []
  let y : CoreState := { resetCore { x with entry := k.entry } with
    imem := bytesAt 0 k.code
    dmem := bytesAt 0 k.data ++ (if keep then x.dmem.filter (fun e => decide (0x1F000 ≤ e.1)) else [])
    mpu := k.mpu.zipIdx.map (fun e => (e.2, e.1))
    decode := (List.range 16).map (fun i => (i, BitVec.ofNat 32 (leAt custom (4 * i) 4)))
    micro := (List.range 1024).map (fun i => (i, BitVec.ofNat 64 (leAt custom (64 + 8 * i) 8))) }
  let s1 := wrFld (setCore s c y) (.nvcWdog c) 15 0 (if k.wdog = 0 then 10000 else k.wdog)
  let s2 := wrBit s1 (.nvcStatus c) 10 (y.decode.any (fun e => bit e.2 31))
  let n := componentOf c
  haltsHandled (setNvState (wrFld s2 (.fwmState n) 7 0 (satNat (rdFld s2 (.fwmState n) 7 0 + 1) 255)) c nvRun)

/-- CODE of the tile microcode goes into the store of tile t's calibration engine (R240). -/
def loadEngine (s : State) (t : Nat) (k : Component) : State := { s with fw := { s.fw with engines := mapInsert s.fw.engines t k.code } }

/-- A component is loaded into a receiver: a core, or the engine of tile r − 64. -/
def loadReceiver (s : State) (r : Nat) (k : Component) (keep : Bool) : State :=
  if r < 24 then loadCore s r k keep else if 64 ≤ r ∧ r < 192 then loadEngine s (r - 64) k else s

/-- The boot ROM runs on core 22 (R239, Table RST-3). -/
def runBootRom (s : State) : State :=
  setNvState (setCore s 22 { resetCore { core s 22 with entry := Config.romEntry } with
    imem := bytesAt 0 Config.romCode, mpu := Config.romMpu.zipIdx.map (fun e => (e.2, e.1)) }) 22 nvRun

/-- Cores, or calibration engines (64 + t), that run a component, in switching order (Table FWM-1). -/
def receivers (comp : Nat) : List Nat :=
  if comp = 1 then [1, 0] else if comp = 3 then [2, 3, 4, 5] else if comp = 4 then (List.range 16).map (· + 6)
  else if comp = 5 then allTiles.map (· + 64) else []

/-- FWM_UPD is set: STATE, RESULT, COMP (Table FWM-14). -/
def setUpd (s : State) (st result comp : Nat) : State :=
  wrFld (wrFld (wrFld s .fwmUpd 31 28 st) .fwmUpd 27 24 result) .fwmUpd 23 20 comp

/-- The update in progress ends without effect: RESULT, the old component on every receiver (those that had switched are loaded again with
it), and the owed response. -/
def endUpdate (s : State) (result status : Nat) : State :=
  match s.fw.update with
  | none => s
  | some u =>
    let s1 := match mapFind s.fw.running u.comp.comp with
      | some old => forAll (fun s r => loadReceiver s r old true) s u.switched
      | none => s
    let s2 := setUpd { s1 with fw := { s1.fw with update := none, frames := [], frameCount := 0 } } 0 result u.comp.comp
    let s3 := recordEvent s2 0x0D02 moduleEvent 0 islSecurity u.comp.comp (rd s2 .fwmUpd) 0
    answer s3 u.owner u.seq u.version 0x11 status result []

/-- Core c halts, other than for the loader: an update whose receiver it is ends ABANDONED (R253); the halted receiver itself is left to the warden (R236). -/
def haltCore (s : State) (c cause : Nat) : State :=
  let s1 := stopCore s c cause
  match s.fw.update with
  | some u =>
    if (u.left ++ u.switched).contains c then endUpdate { s1 with fw := { s1.fw with update := some { u with switched := u.switched.filter (· ≠ c) } } } 6 stRefused
    else s1
  | none => s1

/-- The watchdog of a core runs: it stops in reset, and while the core is halted for loading or for debug (R235); an expired one has ended. -/
def wdogRuns (s : State) (c : Nat) : Bool :=
  nvState s c == nvRun || nvState s c == nvWfi
    || (nvState s c == nvHalted && (rdFld s (.nvcStatus c) 28 24 == 2 || rdFld s (.nvcStatus c) 28 24 == 3))

/-- First words of the signers' fused digests. -/
def vendorKey : Nat := 8
def ownerKey : Nat := 17
def modelKey : Nat := 26

/-- A signature block over a message is accepted (R375): the key's SHA-256 equals the fused digest, and the signature verifies. -/
def sigAccepted (s : State) (signer : Nat) (msg block : List Byte) : Bool :=
  let key := (block.drop 4).take 60
  sha256 key == fuseDigest s signer && hssAccepts msg key ((block.take (leAt block 0 4)).drop 64)

/-- SVN_FLOOR: the bits set of the thermometer in words 37 and 38. -/
def svnFloor (s : State) : Nat := ((List.range 64).filter (fun i => bit (fuse s (37 + i / 32)) (i % 32))).length

end Sys2Proof.Machine
end

