-- ==== Sys2Proof/Machine/Issue.lean ====
section
/-! DEFINITION. Bundles as they issue: the slot operations of the bundle at the program counter are gathered, judged together and issued together, or hold together (R119,
R127, R128, R146, R182, R183, R460). -/
set_option Elab.async false
namespace Sys2Proof.Machine

/-- A slot operation's part in its bundle. -/
def slotOp (i : Instr) : SlotOp :=
  match i with
  | .loadiv sl iv b l => opLoadiv sl iv b l.toNat
  | .launch sl a iv d => opLaunch sl.tile a.toNat iv d
  | .rlaunch sl g iv d => opRlaunch sl.tile g iv d
  | .collect sl a d => opCollect sl.tile (a.toNat / 16) (a.toNat % 16) d
  | .rcollect sl g d => opCollect sl.tile g 16 d
  | .vecFma sl o => opVecFma sl o
  | .vecAdd sl o => opVecAdd sl o
  | .vecMul sl o => opVecMul sl o
  | .max sl o => opMax sl o
  | .min sl o => opMin sl o
  | .cvt sl o => opCvt sl o
  | .func sl o => opFunc sl o
  | .rsum sl o => opRsum sl o
  | .rmax sl o => opRmax sl o
  | .mxenc sl o => opMxenc sl o
  | .mxdec sl o => opMxdec sl o
  | .route sl o => opRoute sl o
  | .sample sl o => opSample sl o
  | .mma sl c d => opMma sl c d true
  | .mmaz sl c d => opMma sl c d false
  | .drain sl c f v r => opDrain sl c f v r
  | .ld sl b a v p => opLd sl b a v p
  | .st sl b a v p => opSt sl b a v p
  | .cpy sl b a c l => opCpy sl b a c l
  | .ctlWait sl n => opCtlWait sl n
  | .loop sl n => opLoop sl n
  | .endloop sl => opEndloop sl
  | .seedld sl b l w => opSeedld sl b l w
  | .fallow sl w l f => opFallow sl w l f
  | .endOp sl => opEnd sl
  | .send sl x => opSend sl x
  | .xngWait sl x => opXngWait sl x
  | .lread sl x => opLread sl x
  | .free sl x => opFree sl x
  | _ => {}

/-- Where a slot operation stands: its bundle's tile, index and cycle. -/
def slotOf (i : Instr) : Option Slot :=
  match i with
  | .loadiv sl _ _ _ => some sl
  | .launch sl _ _ _ => some sl
  | .rlaunch sl _ _ _ => some sl
  | .collect sl _ _ => some sl
  | .rcollect sl _ _ => some sl
  | .vecFma sl _ => some sl
  | .vecAdd sl _ => some sl
  | .vecMul sl _ => some sl
  | .max sl _ => some sl
  | .min sl _ => some sl
  | .cvt sl _ => some sl
  | .func sl _ => some sl
  | .rsum sl _ => some sl
  | .rmax sl _ => some sl
  | .mxenc sl _ => some sl
  | .mxdec sl _ => some sl
  | .route sl _ => some sl
  | .sample sl _ => some sl
  | .mma sl _ _ => some sl
  | .mmaz sl _ _ => some sl
  | .drain sl _ _ _ _ => some sl
  | .ld sl _ _ _ _ => some sl
  | .st sl _ _ _ _ => some sl
  | .cpy sl _ _ _ _ => some sl
  | .ctlWait sl _ => some sl
  | .loop sl _ => some sl
  | .endloop sl => some sl
  | .seedld sl _ _ _ => some sl
  | .fallow sl _ _ _ => some sl
  | .endOp sl => some sl
  | .send sl _ => some sl
  | .xngWait sl _ => some sl
  | .lread sl _ => some sl
  | .free sl _ => some sl
  | _ => none

/-! ### The bundle at the program counter -/

/-- SCH_STATUS.PC of tile t. -/
def tilePc (s : State) (t : Nat) : Nat := rdFld s (.schStatus t) 13 0

/-- A stored bundle (R118). -/
def bundleAt (s : State) (t pc : Nat) : BitVec 256 := mapGet 0 (tile s t).bundles pc

/-- The index of the next stored bundle, from the program counter on, that is not empty: the sequencer passes one empty bundle a cycle. -/
def nextBundle (s : State) (t : Nat) : Option Nat :=
  ((tile s t).bundles.find? (fun e => decide (tilePc s t ≤ e.1) && decide (e.2 ≠ 0))).map (fun e => e.1)

/-- The schedule cycle in which bundle pc, at or after the program counter with none but empty ones between, falls. -/
def bundleCycle (s : State) (t pc : Nat) : Nat := (tile s t).due + (pc - tilePc s t)

/-- A slot operation is the next of its tile's stream (R119): the tile runs and holds no bundle, the bundle named is the next one to issue, in its cycle, its slot holds
exactly this operation, and the operation has not been presented yet. -/
def inStream (s : State) (sl : Slot) (i : Instr) : Bool :=
  let t := sl.tile.val
  tileRun s t == tRunning && (tile s t).held.isEmpty && nextBundle s t == some sl.pc.toNat && sl.cyc == bundleCycle s t sl.pc.toNat
    && (match encSlot i with
        | some (k, w) => slotBits (bundleAt s t sl.pc.toNat) k == w && (tile s t).gather.all (fun j => (encSlot j).map Prod.fst != some k)
        | none => false)

/-- The order in which a bundle's operations take effect: ARR, VEC, DMX, XNG, MOV, and CTL after them all, so that each reads what stood before the bundle. -/
def issueRank (i : Instr) : Nat :=
  match encSlot i with
  | some (0, _) => 6
  | some (4, _) => 5
  | some (5, _) => 4
  | some (k, _) => k
  | none => 7

/-- Insert an operation in that order. -/
def gatherIn (i : Instr) : List Instr → List Instr
  | [] => [i]
  | j :: rest => if issueRank i < issueRank j then i :: j :: rest else j :: gatherIn i rest

/-- Every slot of a bundle that is not NOP has been presented. -/
def bundleWhole (b : BitVec 256) (ops : List Instr) : Bool :=
  (List.range 6).all (fun k => slotBits b k == 0 || ops.any (fun i => (encSlot i).map Prod.fst == some k))

/-! ### Judging a bundle (R460) -/

/-- All the rules that the operations of a bundle break, of one stage. -/
def joinViols (l : List Viol) : Viol := l.foldl Viol.join {}

/-- The state in which a bundle is judged: the schedule has reached its cycle, and PC shows it. -/
def presented (s : State) (sl : Slot) : State := wrFld (tileAdvance s sl.tile sl.cyc) (.schStatus sl.tile) 13 0 sl.pc.toNat

/-- Faults of the bundle alone. -/
def bundleAlone (s : State) (ops : List Instr) : Viol := joinViols (ops.map (fun i => (slotOp i).alone s))
/-- Faults of the issue cycle. -/
def bundleLate (s : State) (ops : List Instr) : Viol := joinViols (ops.map (fun i => (slotOp i).late s))
/-- The sources that hold the bundle, a debug halt among them (Table SCH-14). -/
def bundleHolds (s : State) (t : Nat) (ops : List Instr) : List Nat := (if debugHalt s t then [srcDebug] else []) ++ ops.flatMap (fun i => (slotOp i).holds s)

/-- Port A cycles that the bundle needs if it issues in cycle c. -/
def bundlePorts (c : Nat) (ops : List Instr) : List (Nat × Nat) := ops.flatMap (fun i => (slotOp i).ports.map (fun e => (c + e.1, e.2)))

/-- The BANK cycles met by cycle c (R183): one for each cycle in which a bank port that a bundle needs was in an unscheduled access's second cycle. -/
def bankConflicts (x : TileState) (needs : List (Nat × Nat)) : Nat :=
  (((x.bankSecond.filter (fun e => needs.contains e)).map (fun e => e.1)).foldl (fun l c => if l.contains c then l else c :: l) []).length

/-- The state with the BANK cycles of earlier accesses counted, and, with no other source, those of the bundle in its own cycle. -/
def chargeBank (s : State) (t c : Nat) (ops : List Instr) (held : Bool) : State :=
  let x := tile s t
  let needs := x.portUse ++ (if held then [] else bundlePorts c ops)
  let s1 := chargeStall s t srcBank (bankConflicts { x with bankSecond := x.bankSecond.filter (fun e => decide (e.1 < c) || !held) } needs)
  onTile s1 t (fun x => { x with bankSecond := [] })

/-- The bundle is held: its operations wait, and SCH_STATUS shows the highest-priority source (R128). -/
def holdBundle (s : State) (t : Nat) (ops : List Instr) (src : Nat) : State :=
  wrFld (onTile s t (fun x => { x with held := ops })) (.schStatus t) 25 23 (1 + src)

/-- No source holds the bundle any longer: its stall is over. -/
def unheld (s : State) (t : Nat) : State := wrFld (onTile s t (fun x => { x with stallNs := 0 })) (.schStatus t) 25 23 0

/-- The state that a bundle's effects start from: the program counter has left it, the next bundle falls in the next cycle, and the later port cycles of its accesses are
noted. -/
def issuing (s : State) (sl : Slot) (ops : List Instr) : State :=
  wrFld (onTile s sl.tile (fun x => { x with
    due := sl.cyc + 1, portUse := (x.portUse ++ bundlePorts sl.cyc ops).filter (fun e => decide (sl.cyc < e.1)) })) (.schStatus sl.tile) 13 0 (sl.pc.toNat + 1)

/-- Every operation of the bundle takes effect, in order. -/
def issueAll (s : State) (ops : List Instr) : State := ops.foldl (fun s i => (slotOp i).issue s) s

/-- A bundle is judged in its cycle (R460): faults of the bundle alone, then holds, then faults of the issue cycle; else every slot issues (R119). -/
def judge (s : State) (sl : Slot) (ops : List Instr) : State :=
  let t := sl.tile.val
  let s1 := presented s sl
  if !(bundleAlone s1 ops).none? then tileFault s1 t ((bundleAlone s1 ops).join (bundleLate s1 ops))
  else
    let hs := bundleHolds s1 t ops
    let s2 := chargeBank s1 t sl.cyc ops (!hs.isEmpty)
    if !hs.isEmpty then holdBundle s2 t ops (topSource hs)
    else
      let s3 := unheld s2 t
      if !(bundleLate s3 ops).none? then tileFault s3 t (bundleLate s3 ops)
      else issueAll (issuing s3 sl ops) ops

/-! ### Held bundles taken up again -/

/-- Tiles whose held bundles an operation may let go: a FREE frees a buffer that a sender waits for. -/
def wakesOf (s : State) (i : Instr) : List Nat :=
  match i with
  | .free sl x => match xdeclOf s sl.tile x.toNat with
    | some d => if d.src < 128 then [d.src] else [sl.tile.val]
    | none => []
  | _ => []

/-- The bundle that a tile holds is judged again. -/
def judgeHeld (s : State) (t : Nat) : State :=
  let ops := (tile s t).held
  match ops.head?.bind slotOf with
  | some sl => judge (onTile s t (fun x => { x with held := [] })) sl ops
  | none => s

/-- Take up the held bundles of a list of tiles, and of those that they let go in turn. -/
def release : Nat → List Nat → State → State
  | 0, _, s => s
  | _, [], s => s
  | n + 1, t :: rest, s => release n (rest ++ (tile s t).held.flatMap (wakesOf s)) (judgeHeld s t)

/-- `waited` stall cycles of a tile that holds a bundle are counted against the source shown (R128); a stall that then exceeds WDOG_NS faults the tile (R141). -/
def chargeWait (waited : Nat) (s : State) (t : Nat) : State :=
  if (tile s t).held.isEmpty then s
  else
    let src := rdFld s (.schStatus t) 25 23 - 1
    let s1 := chargeStall s t src waited
    match plotOf s1 t with
    | none => s1
    | some p => if src ≠ srcDebug ∧ wdogNs s1 p < (tile s1 t).stallNs then
        tileFaultXid s1 t { sch := [6] } (if src = srcCross then heldXid s1 t else 0)
      else s1

/-- The held bundles of tiles are judged again after the condition of a source may have cleared, their stall so far counted first. -/
def retry (s : State) (ts : List Nat) (waited : Nat) : State :=
  let s1 := forAll (chargeWait waited) s ts
  release 256 (ts.filter (fun t => !(tile s1 t).held.isEmpty)) s1

/-- Held bundles that a bundle's FREEs let go, judged by what the bundle found, are judged again. -/
def letGo (s0 : State) (ops : List Instr) (s : State) : State :=
  let ws := ops.flatMap (wakesOf s0)
  if ws.isEmpty then s else release 256 (ws.filter (fun t => !(tile s t).held.isEmpty)) s

/-- A slot operation is presented (R119): the last one of its bundle has the bundle judged, and senders that a FREE lets go are judged with it.  One that is not the next of
its tile's stream has no effect. -/
def present (s : State) (sl : Slot) (i : Instr) : State :=
  if !inStream s sl i then s
  else
    let t := sl.tile.val
    let ops := gatherIn i (tile s t).gather
    if !bundleWhole (bundleAt s t sl.pc.toNat) ops then onTile s t (fun x => { x with gather := ops })
    else letGo s ops (judge (onTile s t (fun x => { x with gather := [] })) sl ops)

/-! ### The slot operations -/

/-- LOADIV (R31). -/
def execLoadiv (sl : Slot) (iv : Fin 8) (bank : Fin 4) (line : BitVec 14) (s : State) : Host.Outcome State Fault Refusal := .next (present s sl (.loadiv sl iv bank line))
/-- LAUNCH (R33). -/
def execLaunch (sl : Slot) (larray : BitVec 9) (iv : Fin 8) (desc : Fin 64) (s : State) : Host.Outcome State Fault Refusal := .next (present s sl (.launch sl larray iv desc))
/-- RLAUNCH (R46). -/
def execRlaunch (sl : Slot) (group : Fin 32) (iv : Fin 8) (desc : Fin 64) (s : State) : Host.Outcome State Fault Refusal := .next (present s sl (.rlaunch sl group iv desc))
/-- COLLECT (R39). -/
def execCollect (sl : Slot) (larray : BitVec 9) (desc : Fin 64) (s : State) : Host.Outcome State Fault Refusal := .next (present s sl (.collect sl larray desc))
/-- RCOLLECT (R46). -/
def execRcollect (sl : Slot) (group : Fin 32) (desc : Fin 64) (s : State) : Host.Outcome State Fault Refusal := .next (present s sl (.rcollect sl group desc))
/-- VEC_FMA (R76). -/
def execVecFma (sl : Slot) (o : VecOp) (s : State) : Host.Outcome State Fault Refusal := .next (present s sl (.vecFma sl o))
/-- VEC_ADD (R76). -/
def execVecAdd (sl : Slot) (o : VecOp) (s : State) : Host.Outcome State Fault Refusal := .next (present s sl (.vecAdd sl o))
/-- VEC_MUL (R76). -/
def execVecMul (sl : Slot) (o : VecOp) (s : State) : Host.Outcome State Fault Refusal := .next (present s sl (.vecMul sl o))
/-- MAX (R76, R459). -/
def execMax (sl : Slot) (o : VecOp) (s : State) : Host.Outcome State Fault Refusal := .next (present s sl (.max sl o))
/-- MIN (R76, R459). -/
def execMin (sl : Slot) (o : VecOp) (s : State) : Host.Outcome State Fault Refusal := .next (present s sl (.min sl o))
/-- CVT (R76). -/
def execCvt (sl : Slot) (o : VecOp) (s : State) : Host.Outcome State Fault Refusal := .next (present s sl (.cvt sl o))
/-- FUNC (R78). -/
def execFunc (sl : Slot) (o : VecOp) (s : State) : Host.Outcome State Fault Refusal := .next (present s sl (.func sl o))
/-- RSUM (R77). -/
def execRsum (sl : Slot) (o : VecOp) (s : State) : Host.Outcome State Fault Refusal := .next (present s sl (.rsum sl o))
/-- RMAX (R77). -/
def execRmax (sl : Slot) (o : VecOp) (s : State) : Host.Outcome State Fault Refusal := .next (present s sl (.rmax sl o))
/-- MXENC (R73). -/
def execMxenc (sl : Slot) (o : VecOp) (s : State) : Host.Outcome State Fault Refusal := .next (present s sl (.mxenc sl o))
/-- MXDEC (R72). -/
def execMxdec (sl : Slot) (o : VecOp) (s : State) : Host.Outcome State Fault Refusal := .next (present s sl (.mxdec sl o))
/-- ROUTE (R80). -/
def execRoute (sl : Slot) (o : VecOp) (s : State) : Host.Outcome State Fault Refusal := .next (present s sl (.route sl o))
/-- SAMPLE (R85). -/
def execSample (sl : Slot) (o : VecOp) (s : State) : Host.Outcome State Fault Refusal := .next (present s sl (.sample sl o))
/-- MMA (R81). -/
def execMma (sl : Slot) (set : Fin 2) (ddesc : Fin 64) (s : State) : Host.Outcome State Fault Refusal := .next (present s sl (.mma sl set ddesc))
/-- MMAZ (R81). -/
def execMmaz (sl : Slot) (set : Fin 2) (ddesc : Fin 64) (s : State) : Host.Outcome State Fault Refusal := .next (present s sl (.mmaz sl set ddesc))
/-- DRAIN (R124). -/
def execDrain (sl : Slot) (set : Fin 2) (fmt : BitVec 4) (vd : Fin 32) (rnd : Bool) (s : State) : Host.Outcome State Fault Refusal := .next (present s sl (.drain sl set fmt vd rnd))
/-- LD (R125). -/
def execLd (sl : Slot) (bank : Fin 4) (addr : BitVec 20) (vr : Fin 32) (part : Fin 4) (s : State) : Host.Outcome State Fault Refusal := .next (present s sl (.ld sl bank addr vr part))
/-- ST (R125). -/
def execSt (sl : Slot) (bank : Fin 4) (addr : BitVec 20) (vr : Fin 32) (part : Fin 4) (s : State) : Host.Outcome State Fault Refusal := .next (present s sl (.st sl bank addr vr part))
/-- CPY (R125). -/
def execCpy (sl : Slot) (sbank : Fin 4) (saddr : BitVec 20) (dbank : Fin 4) (dline : BitVec 14) (s : State) : Host.Outcome State Fault Refusal := .next (present s sl (.cpy sl sbank saddr dbank dline))
/-- CTL_WAIT (R120). -/
def execCtlWait (sl : Slot) (n : BitVec 24) (s : State) : Host.Outcome State Fault Refusal := .next (present s sl (.ctlWait sl n))
/-- LOOP (R120). -/
def execLoop (sl : Slot) (count : BitVec 20) (s : State) : Host.Outcome State Fault Refusal := .next (present s sl (.loop sl count))
/-- ENDLOOP (R120). -/
def execEndloop (sl : Slot) (s : State) : Host.Outcome State Fault Refusal := .next (present s sl (.endloop sl))
/-- SEEDLD (R83). -/
def execSeedld (sl : Slot) (bank : Fin 4) (line : BitVec 14) (word : Fin 8) (s : State) : Host.Outcome State Fault Refusal := .next (present s sl (.seedld sl bank line word))
/-- FALLOW (R54). -/
def execFallow (sl : Slot) (wake : Bool) (last first : Fin 32) (s : State) : Host.Outcome State Fault Refusal := .next (present s sl (.fallow sl wake last first))
/-- END (R120). -/
def execEndOp (sl : Slot) (s : State) : Host.Outcome State Fault Refusal := .next (present s sl (.endOp sl))
/-- SEND (R126). -/
def execSend (sl : Slot) (xid : BitVec 12) (s : State) : Host.Outcome State Fault Refusal := .next (present s sl (.send sl xid))
/-- XNG_WAIT (R126). -/
def execXngWait (sl : Slot) (xid : BitVec 12) (s : State) : Host.Outcome State Fault Refusal := .next (present s sl (.xngWait sl xid))
/-- LREAD (R126). -/
def execLread (sl : Slot) (xid : BitVec 12) (s : State) : Host.Outcome State Fault Refusal := .next (present s sl (.lread sl xid))
/-- FREE (R126). -/
def execFree (sl : Slot) (xid : BitVec 12) (s : State) : Host.Outcome State Fault Refusal := .next (present s sl (.free sl xid))

/-! ### Events that let held bundles go -/

/-- The held bundle of a tile waits for an array to complete: ACTIVE stands at BUDGET, or the ramp guard binds (R42, R168). -/
def waitsForArray (s : State) (t : Nat) : Bool :=
  rdFld s (.schStatus t) 25 23 == srcGov + 1 && (decide (rdFld s (.arrStatus t) 21 16 ≤ rdFld s (.arrStatus t) 13 8) || decide (rdFld s .pwrCtrl 12 6 ≤ (tile s t).rampRise))

/-- The last conversion phase of an MVM may end now (R33, R34, R42): no tile runs; or its schedule reaches the end before the next bundle; or a launch waits for the end of
an active array.  While another stall holds the sequencer the MVM holds its phase. -/
def mvmMayEnd (s : State) (t : Nat) (m : Mvm) : Bool :=
  if tileRun s t ≠ tRunning then true
  else if !(tile s t).held.isEmpty then waitsForArray s t
  else decide (mvmEnd m ≤ bundleCycle s t ((nextBundle s t).getD (tilePc s t)))

/-- MVM_COMPLETE (R33, R41): the last conversion phase of an MVM ends; held launches and fallow requests follow. -/
def execMvmComplete (t : Fin 128) (g : Fin 32) (slot : Fin 17) (waited : Nat) (s : State) : Host.Outcome State Fault Refusal :=
  match (tile s t).mvms.find? (fun m => mvmActive m && m.group == g.val && m.slot == slot.val) with
  | none => .next s
  | some m =>
    .next (if !mvmMayEnd s t m then s
      else
        let s1 := if (tile s t).held.isEmpty && tileRun s t == tRunning then tileAdvance s t (mvmEnd m) else completeMvm s t m
        retry s1 [t.val] waited)

/-- A held bundle holds a launch, which the ramp guard binds (R168). -/
def guardHolds (s : State) (t : Nat) : Bool :=
  rdFld s (.schStatus t) 25 23 == srcGov + 1 && decide (rdFld s .pwrCtrl 12 6 ≤ (tile s t).rampRise)
    && (tile s t).held.any (fun i => match i with | .launch .. => true | .rlaunch .. => true | _ => false)

/-- RAMP_GUARD_RELEASE (R168, R143): a rise ages out of the 1 µs window; a launch the guard held is recorded as a RAMP overrun and judged again. -/
def execRampGuardRelease (t : Fin 128) (n : Nat) (waited delayNs : Nat) (s : State) : Host.Outcome State Fault Refusal :=
  let s1 := onTile s t (fun x => { x with rampRise := x.rampRise - n })
  .next (retry (if guardHolds s t then slackOverrun s1 t 0 1 delayNs else s1) [t.val] waited)

end Sys2Proof.Machine
end

