-- ==== Sys2Proof/Machine/OpsHost.lean ====
section
/-! DEFINITION. Traffic that the SL-1 originates towards the host and its peers: governing functions, splitting, holding, translation and transmission
(R337 to R349). -/
set_option Elab.async false
namespace Sys2Proof.Machine

/-- Host generation of a function (FWM_HGENf). -/
def hgen (s : State) (f : Nat) : Nat := (rd s (.fwmHgen f)).toNat

/-- Owner of a storage channel: 0 to 11 a plot, 12 the host, 14 none, 15 the module. -/
def channelOwner (s : State) (n : Nat) : Nat := rdFld s (.stgCtl n) 19 16

/-- Function that governs a source (Table HIF-5). -/
def governing (s : State) (q : HostSource) : Nat :=
  match q with
  | .storage n => if channelOwner s n < 12 then channelOwner s n + 1 else 0
  | .ring p => mapGet 0 s.rma.ringFn p
  | .backing cid => let o := (mapGet {} s.rma.ctxs cid).owner; if o < 12 then o + 1 else 0
  | .feed k => rdFld s (.hifFwinCtl k) 28 25 + 1

/-- The request goes out translated (R341). -/
def translated (s : State) (r : HostReq) : Bool :=
  (fnState s r.fn).atsEnable && (match r.source with | .feed k => bit (rd s (.hifFwinCtl k)) 29 | _ => true)

/-- The usable ATC entry for a page of a function. -/
def atcFind (s : State) (f page : Nat) : Option AtcEntry :=
  s.host.atc.find? (fun e => e.fn == f && decide (e.page ≤ page) && decide (page < e.page + e.pages) && !e.stopped)

/-- The state with a function applied to the host endpoint. -/
def onHost (s : State) (g : HostState → HostState) : State := { s with host := g s.host }

/-- The lowest tag of the 768 that no read outstanding uses (R338). -/
def freeTag (s : State) : Option Nat := (List.range 768).find? (fun t => s.host.reads.all (fun r => r.tag != t))

/-- The plot that a source acts for; 12 and more: none. -/
def sourcePlot (s : State) (q : HostSource) : Nat :=
  match q with
  | .storage n => channelOwner s n
  | .ring p => p
  | .backing c => (mapGet {} s.rma.ctxs c).owner
  | .feed k => rdFld s (.hifFwinCtl k) 28 25

/-- A source's data is a plot's that may send nothing out (R200 step 1). -/
def sourceStopped (s : State) (q : HostSource) : Bool := decide (sourcePlot s q < 12) && nothingLeaves s (sourcePlot s q)

/-- The generation that a source's work records at its start (R387). -/
def sourceGen (s : State) (q : HostSource) : Nat := if sourcePlot s q < 12 then rdFld s (.pltGen (sourcePlot s q)) 15 0 else 0

/-- A result of plot p is discarded by its generation and counted (R387). -/
def staleResult (s : State) (p : Nat) : State := wrFld s (.pltPstat p) 15 8 (satNat (rdFld s (.pltPstat p) 15 8 + 1) 255)

/-- A request is transmitted at an address: a write of a plot from which nothing leaves is suppressed (R200; that of a storage READ too, log entry 124), a write of the current host generation leaves, any other is discarded (R349); a read takes a tag, or
waits for one. -/
def transmit (s : State) (r : HostReq) (addr : Nat) : State :=
  if r.write then
    if r.gen ≠ sourceGen s r.source then staleResult s (sourcePlot s r.source)
    else if r.hgen = hgen s r.fn ∧ sourceStopped s r.source = false then emit s (.hostWrite r.fn addr (r.relaxed && (fnState s r.fn).relaxed) r.bytes) else s
  else match freeTag s with
    | none => onHost s (fun h => { h with waiting := h.waiting ++ [r] })
    | some t => emit (onHost s (fun h => { h with reads := h.reads ++ [{ r with tag := t }] })) (.hostRead r.fn t addr r.len)

/-- A write without Relaxed Ordering lands after the writes of its function before it (R338): it waits behind one that waits. -/
def mustFollow (s : State) (r : HostReq) : Bool :=
  r.write && !(r.relaxed && (fnState s r.fn).relaxed) && s.host.waiting.any (fun x => x.write && x.fn == r.fn)

/-- A request is issued (R338, R341, R345, R348): nothing in heartbeat loss; held outside D0; in order; translated where ATS asks for it, waiting on a miss. -/
def issueReq (s : State) (r : HostReq) : State :=
  let page := r.addr / 4096
  if fnLost s r.fn then s
  else if (fnState s r.fn).dstate ≠ 0 then onHost s (fun h => { h with held := h.held ++ [r] })
  else if mustFollow s r then onHost s (fun h => { h with waiting := h.waiting ++ [r] })
  else if !translated s r then transmit s r r.addr
  else match atcFind s r.fn page with
    | some e =>
      let s1 := onHost s (fun h => { h with uses := h.uses + 1, atc := h.atc.map (fun x => if x = e then { x with lastUse := h.uses + 1 } else x) })
      transmit s1 { r with page := some page } ((e.target + (page - e.page)) * 4096 + r.addr % 4096)
    | none =>
      let s1 := onHost s (fun h => { h with waiting := h.waiting ++ [r] })
      if s.host.translating.contains (r.fn, page) then s1
      else emit (onHost s1 (fun h => { h with translating := h.translating ++ [(r.fn, page)] })) (.message r.fn "TRANSLATION" page)

/-- The ATC takes an entry, evicting the least recently used that no outstanding request uses; none where all 4,096 are in use. -/
def atcInsert (s : State) (e : AtcEntry) : Option State :=
  if s.host.atc.length < 4096 then some (onHost s (fun h => { h with atc := h.atc ++ [e] }))
  else
    let free := s.host.atc.filter (fun x => s.host.reads.all (fun r => !(r.fn == x.fn && (match r.page with | some g => decide (x.page ≤ g) && decide (g < x.page + x.pages) | none => false))))
    match free with
    | [] => none
    | x :: rest =>
      let v := rest.foldl (fun b y => if y.lastUse < b.lastUse then y else b) x
      some (onHost s (fun h => { h with atc := h.atc.erase v ++ [e] }))

/-- Translations granted enter the cache as entries become free, in order (Table HIF-9). -/
def fillAtc (s : State) : State :=
  s.host.granted.foldl (fun s e => (atcInsert s e).getD (onHost s (fun h => { h with granted := h.granted ++ [e] }))) (onHost s (fun h => { h with granted := [] }))

/-- Requests that waited are issued again, in order. -/
def retryHost (s : State) : State :=
  let s1 := fillAtc s
  s1.host.waiting.foldl issueReq (onHost s1 (fun h => { h with waiting := [] }))

/-- Lengths of the pieces of a transfer: at most `m` bytes, none crossing a 4 KiB boundary (R338). -/
def pieces : Nat → Nat → Nat → Nat → List (Nat × Nat)
  | 0, _, _, _ => []
  | n + 1, m, a, len =>
    if len = 0 then []
    else
      let k := max 1 (min (min m len) (4096 - a % 4096))
      (a, k) :: pieces n m (a + k) (len - k)

/-- A write to host or peer memory for a source, its requests marked. -/
def hostWriteFor (tag : Nat) (s : State) (q : HostSource) (addr : Nat) (relaxed : Bool) (bs : List Byte) : State :=
  let f := governing s q
  (pieces (bs.length + 1) (fnState s f).mps addr bs.length).foldl (fun s c =>
    issueReq s { fn := f, gen := sourceGen s q, hgen := hgen s f, write := true, addr := c.1, bytes := (bs.drop (c.1 - addr)).take c.2, len := c.2, source := q, tag := tag,
                 off := c.1 - addr, relaxed := relaxed, page := none }) s

/-- A write to host or peer memory for a source. -/
def hostWrite (s : State) (q : HostSource) (addr : Nat) (relaxed : Bool) (bs : List Byte) : State := hostWriteFor 0 s q addr relaxed bs

/-- A read of host memory for a source. -/
def hostRead (s : State) (q : HostSource) (addr len : Nat) : State :=
  let f := governing s q
  (pieces (len + 1) (fnState s f).mrrs addr len).foldl (fun s c =>
    issueReq s { fn := f, gen := sourceGen s q, hgen := hgen s f, write := false, addr := c.1, bytes := [], len := c.2, source := q, tag := 0,
                 off := c.1 - addr, relaxed := false, page := none }) s

/-- No request of a source is waiting, held or outstanding. -/
def sourceQuiet (s : State) (q : HostSource) : Bool :=
  (s.host.waiting ++ s.host.held ++ s.host.reads).all (fun r => !(r.source == q))

/-- Requests of a source are dropped; a completion that comes back for one is unexpected. -/
def dropSource (s : State) (q : HostSource) : State :=
  let keep := fun (l : List HostReq) => l.filter (fun r => !(r.source == q))
  onHost s (fun h => { h with waiting := keep h.waiting, held := keep h.held, reads := keep h.reads })

/-! ### Feeding peers (R339, R340) -/

/-- A discarded feed instance (R340): counted, with at most one event per window per millisecond. -/
def feedDrop (s : State) (k p : Nat) : State :=
  let s1 := count s .hifFeeddrop 1
  let recent := match mapFind s.host.feedEvent k with | some t => decide (s.tick < t + 1000) | none => false
  if recent then s1
  else recordEvent (onHost s1 (fun h => { h with feedEvent := mapInsert h.feedEvent k s.tick })) 0x0A02 p 1 islPcie k (rd s1 .hifFeeddrop) 0

/-- Mark of the writes of an instance of a crossing. -/
def feedMark (xid inst : Nat) : Nat := 1 + xid + 4096 * inst

/-- An instance of plot p's crossing xid reaches the feed endpoint with the EXT of its crossing (R339): its lines go to the window, or are discarded. -/
def feedInstance (s : State) (p xid : Nat) (ext : DWord) (inst : Nat) (lines : List (BitVec 512)) : State :=
  let k := ext.toNat / 256 % 8
  let c := rd s (.hifFwinCtl k)
  let size := rdFld s (.hifFwinSize k) 27 0 * 4096
  let n := lines.length * 64
  let off := (ext.toNat / 65536 + inst * n) % max 1 size
  let lossMatters := bit c 30 || bit c 29
  if !bit c 31 || (fld c 28 25 != p) || decide (size < off + n) || (lossMatters && fnLost s (p + 1)) then feedDrop s k p
  else
    let base := (rd s (.hifFwinBasehi k)).toNat * 2 ^ 32 + rdFld s (.hifFwinBaselo k) 31 12 * 4096
    hostWriteFor (feedMark xid inst) s (.feed k) (base + off) false (lines.flatMap (fun l => leBytes 64 l.toNat))

end Sys2Proof.Machine
end

