-- ==== Sys2Proof/Machine/OpsStg.lean ====
section
/-! DEFINITION. The end of a storage command, and what it means for a checkpoint in progress (R319 to R328, R429, R431). -/
set_option Elab.async false
namespace Sys2Proof.Machine

/-- A plot's sheaf is being written. -/
def ckpBusy (s : State) (p : Nat) : Bool := ckpState s p == ckCutting || ckpState s p == ckWriting

/-- Blocks of a sheaf of n records, header, trailer and padding included (R428). -/
def sheafBlocks (n : Nat) : Nat := 2 + ceilDiv (65568 * n) 4096

/-- Records of a sheaf that lie whole within its first blocks. -/
def sheafRecords (n blocks : Nat) : Nat := min n ((blocks * 4096 - 4096) / 65568)

/-! ### The sheaf as it is sealed (R428) -/

/-- Page header of a record: INDEX and SPACE. -/
def recordHead (s : State) (p page : Nat) : List Byte :=
  let a := page * 0x10000
  (if scratchBase ≤ a then leBytes 4 ((a - scratchBase) / 0x10000) ++ leBytes 1 1 else leBytes 4 ((a - regionBase s p) / 0x10000) ++ leBytes 1 0) ++ List.replicate 11 0

/-- The key that seals plot p's sheaf (Table SEC-6): from the CKPT key, with the DEVICE_ID and EPOCH of the header. -/
def sheafKey (s : State) (p : Nat) : List Byte :=
  kdfKey (match mapFind s.sec.slots (ckpOf s p).slot with | some k => k.key | none => []) "SHEAF" (((ckpOf s p).head.drop 48).take 20)

/-- The IV of a sealing counter: four zero bytes, then the counter, big-endian (R428). -/
def sheafIv (ctr : Nat) : List Byte := List.replicate 4 0 ++ bigEndian 8 ctr

/-- CKPT_ID of the sheaf as bytes. -/
def ckptIdBytes (s : State) (p : Nat) : List Byte := leBytes 8 (ckpOf s p).ckptId.toNat

/-- A header or trailer with its tag, which covers empty plaintext. -/
def sealEnd (key : List Byte) (ctr : Nat) (bs : List Byte) : List Byte := bs ++ (gcmSeal key (sheafIv ctr) bs []).2

/-- Bytes [4079:0] of the trailer (Table CKP-2). -/
def trailerBytes (s : State) (p : Nat) : List Byte := leBytes 4 0x54534C53 ++ ckptIdBytes s p ++ leBytes 4 (ckpOf s p).pset.length ++ List.replicate 4064 0

/-- The page of P that is sealed next: staged scratchpad pages, then staged copies, then region pages in increasing order. -/
def nextPage (k : CkpState) : Option (Nat × Option (List Byte)) :=
  match k.staged.find? (fun e => decide (scratchBase ≤ e.1 * 0x10000)), k.staged.head?, k.pages.head? with
  | some e, _, _ => some (e.1, some e.2)
  | none, some e, _ => some (e.1, some e.2)
  | none, none, some g => some (g, none)
  | none, none, none => none

/-- One page is sealed: its record joins the sheaf, and the page leaves P, its staging space free. -/
def sealPage (s : State) (p : Nat) (e : Nat × Option (List Byte)) : State :=
  let k := ckpOf s p
  let i := (k.stream.length - 4096) / 65568
  let h := recordHead s p e.1
  let c := gcmSeal (sheafKey s p) (sheafIv (k.counter + 1 + i)) (ckptIdBytes s p ++ h) (e.2.getD (rdBytes s (e.1 * 0x10000) 0x10000))
  onCkp s p (fun k => { k with stream := k.stream ++ h ++ c.1 ++ c.2, staged := k.staged.filter (fun x => x.1 != e.1), pages := k.pages.filter (· ≠ e.1) })

/-- Pages are sealed until the sheaf has n bytes; after the last one the trailer follows, zero-padded to a block. -/
def sealUpTo (p n : Nat) : Nat → State → State
  | 0, s => s
  | f + 1, s =>
    let k := ckpOf s p
    if n ≤ k.stream.length then s
    else match nextPage k with
      | some e => sealUpTo p n f (sealPage s p e)
      | none =>
        if k.stream.length = sheafBlocks k.pset.length * 4096 then s
        else
          let t := k.stream ++ sealEnd (sheafKey s p) (k.counter + k.pset.length + 1) (trailerBytes s p)
          onCkp s p (fun k => { k with stream := t ++ List.replicate (sheafBlocks k.pset.length * 4096 - t.length) 0 })

/-- The writes of plot p whose pages are all free of P proceed, in order (R430). -/
def releaseHeld (s : State) (p : Nat) : State :=
  let free := fun (e : Nat × (Nat × List Byte)) => e.1 == p && !(pagesOf e.2.1 e.2.2.length).any (cowHeld s p)
  (s.ram.held.filter free).foldl (fun s e => wrBytes s e.2.1 e.2.2) { s with ram := { s.ram with held := s.ram.held.filter (fun e => !free e) } }

/-- The plot whose sheaf holds a block of a binding. -/
def sheafAt (s : State) (nsb lba : Nat) : Option Nat :=
  allPlots.find? (fun p => let k := ckpOf s p; ckpState s p == ckWriting && k.dest.1 == nsb && decide (k.dest.2 ≤ lba) && decide (lba < k.dest.2 + sheafBlocks k.pset.length))

/-- The data of a WRITE of a privileged channel to a place of a sheaf: the sheaf's own bytes there, sealed as far as they reach (R428, R429); none elsewhere. -/
def sheafData (s : State) (n nsb lba blks : Nat) : State × Option (List Byte) :=
  match (if n < 4 then sheafAt s nsb lba else none) with
  | none => (s, none)
  | some p =>
    let off := (lba - (ckpOf s p).dest.2) * 4096
    let s1 := sealUpTo p (off + blks * 4096) ((ckpOf s p).pset.length + 2) s
    (releaseHeld s1 p, some (fitBytes (blks * 4096) ((ckpOf s1 p).stream.drop off)))

/-- The blocks written without a gap once one more range is. -/
def advanceFront (written : List (Nat × Nat)) : Nat → Nat → Nat
  | 0, f => f
  | n + 1, f => match written.find? (fun e => decide (e.1 ≤ f) && decide (f < e.2)) with | some e => advanceFront written n e.2 | none => f

/-- A WRITE of blocks of the sheaf has ended OK; SEALED counts the pages sealed and written. -/
def ckpWritten (s : State) (p lo hi : Nat) : State :=
  let k := ckpOf s p
  let w := k.written ++ [(lo, hi)]
  let f := advanceFront w w.length k.front
  wr (onCkp s p (fun k => { k with written := w, front := f, attempts := mapErase k.attempts lo })) (.ckpSealed p) (BitVec.ofNat 32 (sheafRecords k.pset.length f))

/-- A checkpoint is complete: it is the base of the next DELTA (R429). -/
def ckpDone (s : State) (p : Nat) : State :=
  setCkp (onCkp s p (fun k => { k with
    base := k.ckptId, complete := true, pset := [], pages := [], staged := [], snapped := false, head := [], stream := [], written := [], front := 0 })) p ckIdle 0

/-- A command of a privileged channel has ended, as the sheaves on its binding see it (R429, R431): a WRITE ended OK, failed, or failed for the third time; a FLUSH after the trailer. -/
def ckpStorageEnd (s : State) (n : Nat) (c : StgCmd) (code : Nat) : State :=
  if 4 ≤ n then s
  else if c.code = 0x31 then
    match sheafAt s c.nsb c.lba with
    | none => s
    | some p =>
      let k := ckpOf s p
      let lo := c.lba - k.dest.2
      let tries := mapGet 0 k.attempts lo + 1
      if code = 0 then ckpWritten s p lo (lo + c.blks)
      else if 3 ≤ tries then ckpFail s p 1
      else onCkp s p (fun k => { k with attempts := mapInsert k.attempts lo tries })
  else if c.code = 0x32 then
    forAll (fun s p => if code = 0 then ckpDone s p else ckpFail s p 1) s
      (allPlots.filter (fun p => let k := ckpOf s p; ckpState s p == ckWriting && k.dest.1 == c.nsb && decide (sheafBlocks k.pset.length ≤ k.front)))
  else s

/-! ### Storage commands -/

/-- STG_STATUSn.STATE codes (Table STG-11). -/
def sgIdle : Nat := 0
def sgBusy : Nat := 1
def sgAborting : Nat := 2
def sgDone : Nat := 3

/-- STG_STATUSn.STATE. -/
def stgState (s : State) (n : Nat) : Nat := rdFld s (.stgStatus n) 31 29
/-- The state with a function applied to the storage channels. -/
def onStg (s : State) (f : StgState → StgState) : State := { s with stg := f s.stg }
/-- The command in progress on a channel. -/
def stgCmdOf (s : State) (n : Nat) : Option StgCmd := mapFind s.stg.cmds n

/-- The end of a command with IRQ set (R321, R328): its bit in STG_CPEND, and vector 1 of the owning function, unless a host generation has passed,
or management firmware for a privileged channel. -/
def stgSignal (s : State) (n : Nat) (gen : Option Nat) : State :=
  let s1 := wrBit s (.stgCpend (n / 32)) (n % 32) true
  let o := channelOwner s n
  if n < 4 then irqCores s1 mgmtCores 18
  else if o < 12 then signalFn s1 (o + 1) 1
  else if o = 12 ∧ (match gen with | some g => decide (g = hgen s 0) | none => true) = true then signalFn s1 0 1
  else s1

/-- STATUS of an ended command: DONE, its code, detail and tag. -/
def stgStatusWord (code detail tag : Nat) : Word := BitVec.ofNat 32 (sgDone * 2 ^ 29 + code % 16 * 2 ^ 24 + detail % 256 * 2 ^ 16 + tag % 65536)

/-- A binding that STG_UNBIND has asked to remove goes once no command uses it, and the message is answered (R315). -/
def stgUnbindDone (s : State) (b : Nat) : State :=
  match mapFind s.stg.bindings b with
  | some x => match x.unbind with
    | some (o, seq, v) =>
      if s.stg.cmds.any (fun e => e.2.nsb == b) then s
      else answer (onStg s (fun g => { g with bindings := mapErase g.bindings b })) o (BitVec.ofNat 32 seq) v 0x51 stOk 0 []
    | none => s
  | none => s

/-- The task registers of a channel return to reset (R324, Table STG-10), ATAG with them; OWNER and PWR stay. -/
def stgClearTask (s : State) (n : Nat) : State :=
  let s1 := resetRegs s (fun r => r == .stgCmd n || r == .stgLbalo n || r == .stgLbahi n || r == .stgBlks n || r == .stgBuflo n || r == .stgBufhi n || r == .stgBufctl n)
  wrFld s1 (.stgCtl n) 15 0 0

/-- A HELLO is answered once no command with a buffer in host memory that the function governs is still settling (R350): with the new generation; the function's heartbeat
loss ends while the link is up. -/
def helloDone (s : State) (o : Nat) : State :=
  match (box s o).helloDue with
  | none => s
  | some (seq, ver, feats) =>
    if s.stg.cmds.any (fun e => e.2.host && governing s (.storage e.1) == o && e.2.ending.isSome) then s
    else
      let s1 := onBox s o (fun b => { b with helloDue := none })
      let s2 := if o = mgmtPort then s1 else onFn (if linkUp s1 then wrBit s1 (.hifHstat o) 31 false else s1) o (fun x => { x with hello := true })
      answer s2 o seq ver 0x01 stOk 0 (feats ++ leBytes 1 ver ++ leBytes 3 0 ++ leBytes 4 (rd s (.fwmHgen o)).toNat)

/-- A command ends (R321): its status, its signal, an OFF that waited (R327), a binding that waited, and the checkpoint it serves. -/
def stgEnd (s : State) (n code detail : Nat) : State :=
  match stgCmdOf s n with
  | none => s
  | some c =>
    let s1 := wr (onStg s (fun g => { g with cmds := mapErase g.cmds n, offDue := g.offDue.filter (· ≠ n) })) (.stgStatus n) (stgStatusWord code detail c.tag)
    let s2 := if c.irq then stgSignal s1 n (some c.hgen) else s1
    let s3 := if s.stg.offDue.contains n then wrFld s2 (.stgCtl n) 29 28 2 else s2
    helloDone (ckpStorageEnd (stgUnbindDone s3 c.nsb) n c code) (governing s (.storage n))

/-- A command that was asked to end has settled (R323, R324, R328): it ends with the status asked for; a channel reset then clears the task registers
and the state. -/
def stgSettled (s : State) (n : Nat) : State :=
  match stgCmdOf s n with
  | none => s
  | some c =>
    let code := c.ending.getD 1
    let s1 := dropSource (stgEnd s n code 0) (.storage n)
    if code = 0xC then wrFld (stgClearTask s1 n) (.stgStatus n) 31 29 sgIdle else s1

end Sys2Proof.Machine
end

