-- ==== Sys2Proof/Machine/OpsRma.lean ====
section
/-! DEFINITION. The remote-memory engine: contexts, packets out, operations from start to completion, and completion records (R289 to R309). -/
set_option Elab.async false
namespace Sys2Proof.Machine

/-! ### Operation codes (Table RMA-3) and statuses (Table RMA-7) -/
def omWrite : Nat := 0x01
def omWriteImm : Nat := 0x02
def omReadReq : Nat := 0x03
def omReadResp : Nat := 0x04
def omSend : Nat := 0x05
def omFadd : Nat := 0x06
def omCswap : Nat := 0x07
def omAtomicResp : Nat := 0x08
def omAck : Nat := 0x10
def omNak : Nat := 0x11
def omRnr : Nat := 0x12
def omOpenReq : Nat := 0x20
def omOpenAck : Nat := 0x21
def omClose : Nat := 0x22
def omRekey : Nat := 0x23
def omRekeyAck : Nat := 0x24

def rsOk : Nat := 0x00
def rsBadKey : Nat := 0x01
def rsOwner : Nat := 0x02
def rsAccess : Nat := 0x03
def rsBounds : Nat := 0x04
def rsAlign : Nat := 0x05
def rsRevoked : Nat := 0x06
def rsBadOp : Nat := 0x07
def rsLength : Nat := 0x08
def rsMemory : Nat := 0x09
def rsPlotDown : Nat := 0x0A
def rsRnr : Nat := 0x0B
def rsTimeout : Nat := 0x10
def rsClosed : Nat := 0x11
def rsCounter : Nat := 0x12

/-- Context states (Table RMA-5). -/
def cxFree : Nat := 0
def cxConnecting : Nat := 1
def cxOpen : Nat := 2
def cxError : Nat := 3
def cxClosed : Nat := 4

/-- RMA counters by index (Table RMA-13). -/
def cnAuthfail : Nat := 0
def cnReplay : Nat := 1
def cnBadcid : Nat := 2
def cnParkdrop : Nat := 3
def cnFetchfail : Nat := 4
def cnViol : Nat := 5
def cnRetx : Nat := 6
def cnCtrstop : Nat := 7
def cnMiss : Nat := 8

/-! ### Contexts -/

/-- The state with a function applied to the remote-memory engine. -/
def onRma (s : State) (f : RmaState → RmaState) : State := { s with rma := f s.rma }
/-- A context. -/
def ctxOf (s : State) (cid : Nat) : Ctx := mapGet {} s.rma.ctxs cid
/-- The state with a function applied to a context. -/
def onCtx (s : State) (cid : Nat) (f : Ctx → Ctx) : State := onRma s (fun r => { r with ctxs := mapInsert r.ctxs cid (f (ctxOf s cid)) })

/-- Retransmission timeout, RNR delay in µs, retries (Table RMA-11). -/
def rtoUs (s : State) : Nat := rdFld s .rmaTimers 15 0
def retryMax (s : State) : Nat := rdFld s .rmaTimers 19 16

/-- The flow-plan entry that a plot's context uses (R145). -/
def flowOf (s : State) (c : Ctx) : Option FlowEnt :=
  if c.owner < 12 ∧ c.flow ≠ 0xFFFF then (imageOf s c.owner).bind (fun i => i.flow.find? (fun f => f.flow == c.flow)) else none

/-- The egress queue of a context, 512 × port + queue: its flow's, on ALTPORT once moved, or the one firmware chose. -/
def ctxQueue (s : State) (cid : Nat) : Nat :=
  match flowOf s (ctxOf s cid) with
  | some f => 512 * ((if (plot s (ctxOf s cid).owner).moved.contains f.flow then f.altport else f.port) / 16 % 16) + f.queue % 512
  | none => Config.omfQueue cid % 8192

/-- Bytes of an Omfemos frame from destination address to FCS with n data bytes (R289). -/
def omfLen (c : Ctx) (n : Nat) : Nat := 14 + (if c.ipv6 then 40 else 20) + 8 + 16 + 32 + n + 16 + 4

/-- A frame is given to its egress queue, entering as room allows, in order (R281). -/
def placeFrame (s : State) (k : Nat) (f : EgressFrame) : State :=
  let s1 := { s with net := { s.net with held := s.net.held ++ [(k, f)] } }
  drainHeld s1 k s1.net.held

/-- The base header of a packet (Table RMA-1). -/
def baseHeader (op : Nat) (p : OmfPkt) : List Byte :=
  leBytes 1 p.ver.toNat ++ leBytes 1 op ++ leBytes 1 (boolNat p.kphase + 2 * boolNat p.first + 4 * boolNat p.last + 8 * boolNat p.ackreq) ++ leBytes 1 0
    ++ leBytes 2 p.cid.toNat ++ leBytes 2 p.ctag.toNat ++ leBytes 8 p.pctr.toNat

/-- The operation header of a packet (Table RMA-2). -/
def opHeader (p : OmfPkt) : List Byte :=
  leBytes 4 p.psn.toNat ++ leBytes 4 p.rkey.toNat ++ leBytes 8 p.roff.toNat ++ leBytes 4 p.oplen.toNat ++ leBytes 4 p.etime.toNat ++ leBytes 8 p.imm.toNat

/-- Operation header and data sealed under a direction's key and salt, the base header authenticated with them (R289, R293). -/
def sealPkt (key : BitVec 288) (op : Nat) (p : OmfPkt) : List Byte :=
  let k := leBytes 36 key.toNat
  let c := gcmSeal (k.take 32) (k.drop 32 ++ bigEndian 8 p.pctr.toNat) (baseHeader op p) (opHeader p ++ p.data)
  baseHeader op p ++ c.1 ++ c.2

/-- An Omfemos frame: sealed under the key of its direction, an RNR in clear text. -/
def omfFrame (s : State) (cid op : Nat) (p : OmfPkt) : EgressFrame :=
  { body := .omf op cid p (if op = omRnr then baseHeader op p ++ opHeader p else sealPkt (ctxOf s cid).txKey op p)
    len := omfLen (ctxOf s cid) p.data.length, entered := 1000 * s.tick }

/-- The long-term connection key of an identifier: a general slot of kind CONN (Table SEC-4). -/
def longKey (s : State) (keyId : Nat) : Option (List Byte) :=
  (s.sec.slots.find? (fun e => e.2.kind == 3 && e.2.ident.toNat % 2 ^ 32 == keyId)).map (fun e => e.2.key)

/-- Keys and salts of an epoch of a connection, for sending and for receiving (R292, R295): both nonces and both indices as context, the initiator's first, then the epoch and
the direction. -/
def omfKeys (s : State) (cid epoch : Nat) : BitVec 288 × BitVec 288 :=
  let c := ctxOf s cid
  let own := (c.nonce.toNat, cid + 65536 * c.ctag)
  let peer := (c.peerNonce.toNat, c.peerCid + 65536 * c.peerTag)
  let a := if c.initiator then own else peer
  let b := if c.initiator then peer else own
  let key := fun (dir : Nat) => BitVec.ofNat 288 (leNat (kdf ((longKey s c.keyId).getD []) "OMF-DATA"
    (leBytes 16 a.1 ++ leBytes 16 b.1 ++ leBytes 4 a.2 ++ leBytes 4 b.2 ++ leBytes 4 epoch ++ leBytes 1 dir) 288))
  if c.initiator then (key 0, key 1) else (key 1, key 0)

/-- A fresh nonce of 16 bytes. -/
def freshNonce (s : State) : BitVec 128 := BitVec.ofNat 128 (leNat ((Config.nonce s.fresh).take 16))

/-- A packet leaves under the direction's key with the next PCTR (R293); at 2^REKEYEXP firmware is asked once to rekey, and after 2^40 nothing more is
sent under this key (R294). -/
def sendPkt (s : State) (cid op : Nat) (p : OmfPkt) : State :=
  let c := ctxOf s cid
  if c.stopped then s
  else
    let q := { p with
      ver := BitVec.ofNat 8 c.ver
      kphase := c.txPhase
      cid := BitVec.ofNat 16 c.peerCid
      ctag := BitVec.ofNat 16 c.peerTag
      pctr := BitVec.ofNat 64 c.txCtr
      etime := if c.ver = 1 then 0 else p.etime
      imm := if c.ver = 1 then BitVec.ofNat 64 (p.imm.toNat % 2 ^ 32) else p.imm }
    let s1 := placeFrame s (ctxQueue s cid) (omfFrame s cid op q)
    let warn := !c.warned && decide (2 ^ rdFld s .rmaCfg 21 16 ≤ c.txCtr)
    let stop := decide (c.txCtr = 2 ^ 40)
    let s2 := onCtx s1 cid (fun c => { c with
      txCtr := c.txCtr + 1, warned := c.warned || warn, stopped := stop
      recent := (c.txCtr, s.tick) :: c.recent.filter (fun e => decide (s.tick ≤ e.2 + 2 * rtoUs s)) })
    let s3 := if warn then irqCores s2 netCores 15 else s2
    if stop then recordEvent (count s3 (.rmaCnt cnCtrstop) 1) 0x0802 (if c.owner < 12 then c.owner else moduleEvent) 2 islPacket cid (BitVec.ofNat 32 c.viols) 0
    else s3

/-- A packet without data, of a PSN. -/
def barePkt (psn : Nat) : OmfPkt := { ver := 0, cid := 0, ctag := 0, pctr := 0, psn := BitVec.ofNat 32 psn }

/-- An ACK with the PSN expected next (R297). -/
def sendAck (s : State) (cid : Nat) : State :=
  sendPkt (onCtx s cid (fun c => { c with unacked := 0 })) cid omAck (barePkt (ctxOf s cid).rxPsn)

/-- A NAK for the operation starting at a PSN (R307). -/
def sendNak (s : State) (cid psn reason : Nat) : State :=
  sendPkt s cid omNak { barePkt psn with oplen := BitVec.ofNat 32 reason }

/-! ### The context cache (R300 to R302) -/

/-- A context may be evicted: not pinned, no operation outstanding, no frame parked. -/
def evictable (s : State) (cid : Nat) : Bool :=
  !(ctxOf s cid).pinned && !(ctxOf s cid).planned && s.rma.ops.all (fun o => o.cid != cid) && s.rma.parked.all (fun q => q.cid != cid)

/-- The context becomes the most recently used of the cache, evicting the least recently used that may go; none where all 4,096 are busy. -/
def cacheIn (s : State) (cid : Nat) : Option State :=
  if s.rma.cached.contains cid then some (onRma s (fun r => { r with cached := cid :: r.cached.filter (· ≠ cid) }))
  else if s.rma.cached.length < 4096 then some (onRma s (fun r => { r with cached := cid :: r.cached }))
  else match s.rma.cached.reverse.find? (evictable s) with
    | some v => some (onRma s (fun r => { r with cached := cid :: r.cached.filter (· ≠ v) }))
    | none => none

/-- A fetch fails (R302): the parked frames are dropped, without RNR, and network firmware is told (Table FWM-19). -/
def fetchFail (s : State) (cid : Nat) : State :=
  irqCores (count (onRma s (fun r => { r with fetching := r.fetching.filter (· ≠ cid), parked := r.parked.filter (fun q => q.cid != cid) })) (.rmaCnt cnFetchfail) 1) netCores 17

/-- The function that governs a context's backing store in host memory (Table HIF-5). -/
def backingFn (c : Ctx) : Nat := if c.owner < 12 then c.owner + 1 else 0

/-- A fetch starts, unless one runs; from host memory under a lost heartbeat it fails at once. -/
def fetchStart (s : State) (cid : Nat) : State :=
  if s.rma.fetching.contains cid then s
  else
    let s1 := count (onRma s (fun r => { r with fetching := r.fetching ++ [cid] })) (.rmaCnt cnMiss) 1
    if (ctxOf s cid).hostStore && fnLost s (backingFn (ctxOf s cid)) then fetchFail s1 cid else s1

/-! ### Operations: packets -/

/-- Operations that carry their data in their request packets. -/
def carriesData (code : Nat) : Bool := code == 1 || code == 2 || code == 5 || code == 0x31
/-- Block verbs. -/
def isVerb (code : Nat) : Bool := decide (0x30 ≤ code) && decide (code ≤ 0x33)
/-- Operations answered by a response. -/
def answered (code : Nat) : Bool := code == 3 || code == 6 || code == 7 || code == 0x30

/-- Request packets of an operation. -/
def opPackets (mss : Nat) (o : RmaOp) : Nat := if carriesData o.code then max 1 (ceilDiv o.len (max 1 mss)) else 1

/-- Bytes from an offset on out of the chunks that have come in. -/
def chunkBytes (chunks : List (Nat × List Byte)) : Nat → Nat → Nat → Option (List Byte)
  | 0, _, n => if n = 0 then some [] else none
  | k + 1, off, n =>
    if n = 0 then some []
    else match chunks.find? (fun e => decide (e.1 ≤ off) && decide (off < e.1 + e.2.length)) with
      | none => none
      | some e =>
        let part := (e.2.drop (off - e.1)).take n
        (chunkBytes chunks k (off + part.length) (n - part.length)).map (fun rest => part ++ rest)

/-- What the data of a packet is. -/
inductive PktData where
  | ready (bytes : List Byte)
  /-- The host has not completed the read yet. -/
  | waits
  /-- The buffer refuses the access (R196). -/
  | refused
  deriving DecidableEq, Repr

/-- A line of n bytes from an LPDDR5X address on holds an uncorrectable error (R200). -/
def pagesBad (s : State) (a n : Nat) : Bool := s.ram.bad.any (fun l => decide (a < l * 64 + 64) && decide (l * 64 < a + n))

/-- Data of packet k of an operation. -/
def pktData (s : State) (mss : Nat) (o : RmaOp) (k : Nat) : PktData :=
  let n := min (max 1 mss) (o.len - k * mss)
  if o.code = omCswap then .ready (leBytes 8 o.swap.toNat)
  else if !carriesData o.code then .ready []
  else match o.data with
    | some bs => .ready ((bs.drop (k * mss)).take n)
    | none =>
      if o.host then (match chunkBytes o.chunks (n + 1) (k * mss) n with | some bs => .ready bs | none => .waits)
      else if n = 0 || !(pagesBad s (o.laddr + k * mss) n) && engineMay s (engineFor s o.plot (o.laddr + k * mss)) (o.laddr + k * mss) n false then .ready (rdBytes s (o.laddr + k * mss) n)
      else .refused

/-- Request packet k of an operation, with its data.  DESIGN CHOICE: the last packet asks for an ACK. -/
def opPkt (mss : Nat) (o : RmaOp) (k : Nat) (data : List Byte) : OmfPkt :=
  { barePkt ((o.firstPsn.getD 0 + k) % 2 ^ 32) with
    first := k == 0
    last := k + 1 == opPackets mss o
    ackreq := k + 1 == opPackets mss o
    rkey := o.rkey
    roff := BitVec.ofNat 64 (if isVerb o.code then o.roff + (if o.code = 0x30 then o.got / 4096 else 0) else o.roff + (if o.code = omReadReq then o.got else k * mss))
    oplen := BitVec.ofNat 32 (if o.code = omReadReq ∨ o.code = 0x30 then o.len - o.got else o.len)
    etime := BitVec.ofNat 32 o.etime
    imm := o.imm
    data := data }

/-! ### Operations: completion (R306, R307, R321, R387) -/

/-- The operation leaves the list. -/
def dropOp (s : State) (o : RmaOp) : State := onRma s (fun r => { r with ops := r.ops.filter (fun x => x.slot != o.slot) })

/-- Entries of a plot's rings. -/
def ringN (s : State) (p : Nat) : Nat := 2 ^ rdFld s (.rmaRctl p) 3 0
/-- Base of a plot's rings. -/
def ringBase (s : State) (p : Nat) : Nat := (rd s (.rmaRbaseHi p)).toNat * 2 ^ 32 + (rd s (.rmaRbaseLo p)).toNat
/-- The rings are enabled. -/
def ringOn (s : State) (p : Nat) : Bool := bit (rd s (.rmaRctl p)) 31

/-- Bytes are written at an offset of a plot's rings: in its LPDDR5X region, or in host memory without Relaxed Ordering (R312, R338). -/
def ringWrite (s : State) (p off : Nat) (bs : List Byte) : State :=
  if bit (rd s (.rmaRctl p)) 30 then
    let a := regionBase s p + ringBase s p + off
    if h : p < 12 then (if engineMay s (.plot ⟨p, h⟩) a bs.length true then engineWrite s a bs else engineRefused s (.plot ⟨p, h⟩) a bs.length true) else s
  else hostWrite s (.ring p) (ringBase s p + off) false bs

/-- A completion record of 31 bytes, PHASE apart, is written while the ring has room, and held otherwise (R312); vector 2 of the function that enabled the
ring signals it (Table HIF-4). -/
def postRecord (s : State) (p : Nat) (r : List Byte) : State :=
  let pi := rdFld s (.rmaCqpi p) 15 0
  let n := ringN s p
  if !ringOn s p then s
  else if n ≤ (pi + 65536 - rdFld s (.rmaCqci p) 15 0) % 65536 then onRma s (fun x => { x with heldRecs := x.heldRecs ++ [(p, r)] })
  else
    let phase := xor Config.firstPhase (pi / n % 2 == 1)
    let s1 := ringWrite s p (64 * n + pi % n * 32) (r ++ [BitVec.ofNat 8 (boolNat phase)])
    signalFn (wr s1 (.rmaCqpi p) (BitVec.ofNat 32 ((pi + 1) % 65536))) (mapGet 0 s.rma.ringFn p) 2

/-- The first 31 bytes of a completion record (R306). -/
def cqRecord (wrid : DWord) (status kind conn bytes : Nat) (result : DWord) (off : Nat) : List Byte :=
  leBytes 8 wrid.toNat ++ leBytes 1 status ++ leBytes 1 kind ++ leBytes 2 conn ++ leBytes 4 bytes ++ leBytes 8 result.toNat ++ leBytes 4 off ++ leBytes 3 0

/-- Bytes that a completion record of an operation reports. -/
def opBytes (o : RmaOp) : Nat := if answered o.code then o.got else o.len

/-- Completion code and detail of a storage command for a status of Table RMA-7 (Table STG-4). -/
def stgCode (status : Nat) : Nat × Nat := if status = rsOk then (0, 0) else if status = rsMemory then (8, 9) else (7, status)

/-- A crossing instance that has been acknowledged frees its buffer, and its sender is judged again (R126). -/
def crossingDone (s : State) (p x inst : Nat) : State :=
  let s1 := onXing s p x (fun q => { q with flight := match q.flight.find? (fun i => i.inst == inst) with | some i => q.flight.erase i | none => q.flight })
  match xdecl s p x with
  | some d => if d.src < 128 && !(tile s1 d.src).held.isEmpty then retry s1 [d.src] 0 else s1
  | none => s1

/-- The source of an operation learns how it ended, unless the plot's generation has passed. -/
def finishOp (s1 : State) (o : RmaOp) (status : Nat) (result : DWord) : State :=
  if decide (o.plot < 12) && rdFld s1 (.pltGen o.plot) 15 0 != o.gen then staleResult s1 o.plot
  else match o.src with
    | .ring p wrid signal =>
      let lost := !bit (rd s1 (.rmaRctl p)) 30 && hgen s1 (mapGet 0 s1.rma.ringFn p) != o.hgen
      if lost || o.mute || (status == rsOk && !signal) then s1
      else postRecord s1 p (cqRecord wrid status 0 o.cid (opBytes o) result 0)
    | .storage n => if o.settling then stgSettled s1 n else stgEnd s1 n (stgCode status).1 (stgCode status).2
    | .crossing p x inst => if status = rsOk then crossingDone s1 p x inst else s1
    | .firmware => s1

/-- An operation ends with a status and a result: its slot is free, and its source learns of it. -/
def completeOp (s : State) (o : RmaOp) (status : Nat) (result : DWord) : State := finishOp (dropOp s o) o status result

/-- Every operation of a context completes with a status, oldest first, those held for a slot last. -/
def completeAll (s : State) (cid status : Nat) : State :=
  let waits := s.rma.waitOps.filter (fun o => o.cid == cid)
  let s1 := onRma s (fun r => { r with waitOps := r.waitOps.filter (fun o => o.cid != cid) })
  waits.foldl (fun s o => finishOp s o status 0) ((s.rma.ops.filter (fun o => o.cid == cid)).foldl (fun s o => completeOp s o status 0) s1)

/-- The connection leaves OPEN for another state, its operations completing with a status. -/
def endContext (s : State) (cid st status : Nat) : State :=
  completeAll (onCtx s cid (fun c => { c with state := st, rekeying := false, nextKeys := false, oldOk := false, paused := false, unacked := 0 })) cid status

/-! ### Operations: forming packets -/

/-- The state with an operation replaced. -/
def putOp (s : State) (o : RmaOp) : State := onRma s (fun r => { r with ops := r.ops.map (fun x => if x.slot = o.slot then o else x) })

/-- An operation that carries data of a plot forms no packet once nothing leaves the plot (R200, Table STG-7). -/
def stopsFrozen (s : State) (o : RmaOp) : Bool := (carriesData o.code || o.code == omFadd || o.code == omCswap) && decide (o.plot < 12) && nothingLeaves s o.plot

/-- The operation's source asked it to end: what was sent settles (R323). -/
def settleOp (s : State) (o : RmaOp) (n code : Nat) : State :=
  putOp (onStg s (fun g => { g with cmds := g.cmds.map (fun e => if e.1 = n then (e.1, { e.2 with ending := some code }) else e) })) { o with settling := true }

/-- An operation that is settling has nothing outstanding. -/
def settledOp (o : RmaOp) : Bool := o.settling && decide (o.sent ≤ o.acked)

/-- An operation whose buffer refuses n bytes at an address ends: a storage command with BUFFER, any other with MEMORY; a refusal is recorded, an uncorrectable error is not one. -/
def refuseOp (s : State) (o : RmaOp) (a n : Nat) (write : Bool) : State :=
  let q := engineFor s o.plot a
  let s1 := if engineMay s q a n write then s else engineRefused s q a n write
  match o.src with
  | .storage k => stgEnd (dropOp s1 o) k 6 0
  | _ => completeOp s1 o rsMemory 0

/-- The connection may send requests: open, cached, not paused, not stopped at its counter limit. -/
def maySendReq (s : State) (cid : Nat) : Bool :=
  let c := ctxOf s cid
  c.state == cxOpen && s.rma.cached.contains cid && !c.paused && !c.stopped

/-- The next packet of a connection's oldest operation that has packets to form, if it may leave now: its queue is open and has room, its data is
there. -/
def pumpOne (s : State) (cid : Nat) : Option State :=
  let c := ctxOf s cid
  if !maySendReq s cid then none
  else match s.rma.ops.find? (fun o => o.cid == cid && !o.settling && decide (o.sent < opPackets c.mss o)) with
    | none => none
    | some o =>
      if stopsFrozen s o then
        match o.src with
        | .storage n => let s1 := settleOp s o n 0xA; some (if o.sent ≤ o.acked then completeOp s1 { o with settling := true } rsOk 0 else s1)
        | _ => none
      else
        let k := ctxQueue s cid
        match pktData s c.mss o o.sent with
        | .waits => none
        | .refused => some (refuseOp s o (o.laddr + o.sent * c.mss) (min (max 1 c.mss) (o.len - o.sent * c.mss)) false)
        | .ready bs =>
          if !(queueOpen s k && queueRoom s k (omfLen c bs.length)) then none
          else
            let o1 := { o with firstPsn := some (if o.sent = 0 then c.txPsn else o.firstPsn.getD c.txPsn), sent := o.sent + 1 }
            some (sendPkt (onCtx (putOp s o1) cid (fun c => { c with txPsn := (c.txPsn + 1) % 2 ^ 32 })) cid o.code (opPkt c.mss o1 o.sent bs))

/-- Packets of a connection leave while they may (R297). -/
def pump : Nat → State → Nat → State
  | 0, s, _ => s
  | n + 1, s, cid => match pumpOne s cid with | some s1 => pump n s1 cid | none => s

/-- Enough turns for every packet that the egress buffer of a port could hold. -/
def pumpTurns : Nat := 65536

/-- Operations of a context that has moved on leave it; a context that is not cached is fetched first (R300). -/
def pumpCtx (s : State) (cid : Nat) : State :=
  if s.rma.cached.contains cid then pump pumpTurns s cid
  else if s.rma.ops.any (fun o => o.cid == cid) then fetchStart s cid
  else s

/-! ### Operations: starting (R306, R318) -/

/-- The lowest of the 16,384 operation slots that no operation uses and that is not quarantined (R306, R388). -/
def freeSlot (s : State) : Option Nat :=
  (List.range 16384).find? (fun k => s.rma.ops.all (fun o => o.slot != k) && !s.rma.quarantine.contains k)

/-- A context that can carry no operation: FREE, ERROR or CLOSED. -/
def ctxDown (s : State) (cid : Nat) : Bool := (ctxOf s cid).state != cxOpen && (ctxOf s cid).state != cxConnecting

/-- An operation takes a slot and starts; with no slot free its source is held; on a connection that has ended it completes with CLOSED. -/
def startOp (s : State) (o : RmaOp) : State :=
  if ctxDown s o.cid then finishOp s o rsClosed 0
  else match freeSlot s with
  | none => onRma s (fun r => { r with waitOps := r.waitOps ++ [o] })
  | some k =>
    let s1 := onRma s (fun r => { r with ops := r.ops ++ [{ o with slot := k }] })
    let s2 := match o.src with
      | .storage n => onStg s1 (fun g => { g with cmds := g.cmds.map (fun e => if e.1 = n then (e.1, { e.2 with slot := some k }) else e) })
      | _ => s1
    let s3 := match o.src, o.host && o.code == 0x31 with
      | .storage n, true => hostRead s2 (.storage n) o.laddr o.len
      | _, _ => s2
    pumpCtx s3 o.cid

/-! ### The work ring (R306, R312) -/

/-- A work request as an operation of plot p, or the status with which it ends at once. -/
def workOp (s : State) (p : Nat) (e : List Byte) : RmaOp × Option Nat :=
  let at' := leAt e
  let code := at' 0 1
  let cid := at' 2 2
  let len := at' 24 4
  let c := ctxOf s cid
  let o : RmaOp :=
    { slot := 0, cid := cid, src := .ring p (BitVec.ofNat 64 (at' 44 8)) (at' 1 1 % 2 == 1), gen := rdFld s (.pltGen p) 15 0,
      hgen := hgen s (mapGet 0 s.rma.ringFn p), plot := p, code := code, rkey := BitVec.ofNat 32 (at' 4 4), roff := at' 8 8,
      len := if code = omFadd ∨ code = omCswap then 8 else len, laddr := at' 16 8, imm := BitVec.ofNat 64 (at' 28 8), swap := BitVec.ofNat 64 (at' 36 8) }
  let bad := if !([1, 2, 3, 5, 6, 7].contains code) then some rsBadOp
    else if c.state ≠ cxOpen ∨ c.owner ≠ p then some rsClosed
    else if 2 ^ 30 < len ∨ (code = omSend ∧ c.mss < len) then some rsLength
    else none
  (o, bad)

/-- A READ or atomic of the plot's ring is outstanding. -/
def ringFenced (s : State) (p : Nat) : Bool :=
  s.rma.ops.any (fun o => (match o.src with | .ring q _ _ => q == p | _ => false) && answered o.code)

/-- The plot's ring waits for an operation slot. -/
def ringWaits (s : State) (p : Nat) : Bool := s.rma.waitOps.any (fun o => match o.src with | .ring q _ _ => q == p | _ => false)

/-- A work request read from memory is taken: it starts, ends at once with a status, or waits for its fence. -/
def takeEntry (s : State) (p : Nat) (e : List Byte) : State :=
  if leNat ((e.drop 1).take 1) / 2 % 2 = 1 ∧ ringFenced s p = true then onRma s (fun r => { r with ringHeld := r.ringHeld ++ [(p, e)] })
  else
    let s1 := wr s (.rmaWqci p) (BitVec.ofNat 32 ((rdFld s (.rmaWqci p) 15 0 + 1) % 65536))
    match workOp s1 p e with
    | (o, some st) => finishOp s1 o st 0
    | (o, none) => startOp s1 o

/-- The engine takes work requests of a ring while it may: enabled, entries written, none held by a fence or a slot, no read of an entry in progress. -/
def takeWork : Nat → State → Nat → State
  | 0, s, _ => s
  | n + 1, s, p =>
    let pi := rdFld s (.rmaWqpi p) 15 0
    let ci := rdFld s (.rmaWqci p) 15 0
    if !ringOn s p || pi == ci || ringWaits s p || s.rma.ringReads.contains p || s.rma.ringHeld.any (fun e => e.1 == p) then s
    else
      let off := ci % ringN s p * 64
      if bit (rd s (.rmaRctl p)) 30 then
        let a := regionBase s p + ringBase s p + off
        if h : p < 12 then
          (if engineMay s (.plot ⟨p, h⟩) a 64 false then takeWork n (takeEntry s p (rdBytes s a 64)) p
           else wrBit (engineRefused s (.plot ⟨p, h⟩) a 64 false) (.rmaRctl p) 31 false)
        else s
      else hostRead (onRma s (fun r => { r with ringReads := r.ringReads ++ [p] })) (.ring p) (ringBase s p + off) 64

/-- After operations have ended, a fenced request whose fence has cleared starts, and the ring goes on. -/
def unfence (s : State) (p : Nat) : State :=
  match s.rma.ringHeld.find? (fun e => e.1 == p) with
  | some e => if ringFenced s p then s else takeWork 65536 (takeEntry (onRma s (fun r => { r with ringHeld := r.ringHeld.filter (fun x => x.1 != p) })) p e.2) p
  | none => s

/-- Rings held by a fence are looked at again. -/
def unfenceAll (s : State) : State := forAll unfence s allPlots

end Sys2Proof.Machine
end

