-- ==== Sys2Proof/Machine/Crossing.lean ====
section
/-! DEFINITION. Crossing instances becoming ready at their receivers (R126, R131 to R135, R188, R339, R461), and class-3 instances on their way in. -/
set_option Elab.async false
namespace Sys2Proof.Machine

/-- The latency of an instance is checked against MAX_NS (R135), against the tile named. -/
def checkLatency (s : State) (d : XDecl) (t ns : Nat) : State := if d.maxNs < ns ∧ t < 128 then slackOverrun s t d.xid 0 (ns - d.maxNs) else s

/-- Device address of line 0 of the receive buffer that instance i of a crossing uses (R126). -/
def bufferAddr (d : XDecl) (i : Nat) : Nat := bankAddr d.dst 2 ((d.dstLine + i % max 1 d.nbuf * d.lines) * 64)

/-- The first line of a receive buffer whose write the receiver's region registers refuse (R187, R188). -/
def bufferRefused (s : State) (d : XDecl) (i : Nat) : Option Nat := firstRefused s d.dst 2 2 (d.dstLine + i % max 1 d.nbuf * d.lines) d.lines true

/-- The bytes of lines, line 0 first. -/
def lineBytes (ls : List (BitVec 512)) : List Byte := ls.flatMap (fun l => leBytes 64 l.toNat)

/-- An instance is no longer on its way. -/
def dropFlight (s : State) (p x : Nat) (i : XInst) : State := onXing s p x (fun q => { q with flight := q.flight.erase i })

/-- A held operation of a tile is judged again. -/
def wakeTile (s : State) (t waited : Nat) : State := if decide (t < 128) && !(tile s t).held.isEmpty then retry s [t] waited else s

/-- An instance is written into its receive buffer and becomes ready; a refused write discards it and faults the receiving tile (Table MEM-4). -/
def landInstance (s : State) (p : Nat) (d : XDecl) (i : XInst) (bs : List Byte) (ns : Option Nat) (waited : Nat) (ecc : Ecc) : State :=
  let s1 := dropFlight s p d.xid i
  match bufferRefused s d i.inst with
  | some l => tileFault s1 d.dst { sch := [2], refused := [(2, l, 2)] }
  | none =>
    let s2 := onXing (spEcc (wrBytes s1 (bufferAddr d i.inst) bs) d.dst 2 d.dstLine 2 ecc) p d.xid (fun q => { q with arrived := q.arrived ++ [i.inst] })
    let s3 := match ns with | some n => checkLatency s2 d d.dst n | none => s2
    wakeTile s3 d.dst waited

/-- Offset in the plot's region of an instance of a class-1 LPX or class-2 crossing, by the step that issued it (R461). -/
def lpxOffset (d : XDecl) (i : XInst) : Nat :=
  let ring := d.ext.toNat / 2 ^ 40
  let k := if ring = 0 then i.inst else (i.step.toNat * d.count + i.inst) % ring
  d.ext.toNat % 2 ^ 40 + k * d.lines * 64

/-- PEER_PLOT names a party outside the job (Table SCH-15). -/
def outsideParty (d : XDecl) : Bool := d.ext.toNat / 2 ^ 32 == 0xFFFFFFFF

/-- A class-3 instance whose lines have been read is handed to the remote-memory engine: a WRITE_IMM on its flow's connection, whose immediate names the
peer's crossing (R126, R145, R299). -/
def sendInstance (s : State) (p : Nat) (d : XDecl) (i : XInst) (elapsed : Nat) : State :=
  match (imageOf s p).bind (fun im => im.flow.find? (fun f => f.flow == d.ext.toNat % 65536)) with
  | none => s
  | some f =>
    let s1 := onXing s p d.xid (fun q => { q with flight := q.flight.map (fun j => if j = i then { j with sent := true } else j) })
    startOp s1 { slot := 0, cid := f.conn, src := .crossing p d.xid i.inst, gen := rdFld s (.pltGen p) 15 0, hgen := 0, plot := p, code := omWriteImm,
                 rkey := 0, roff := 0, len := d.lines * 64, laddr := 0, imm := BitVec.ofNat 64 (d.ext.toNat / 65536 % 65536 % 4096),
                 data := some (lineBytes i.lines), etime := elapsed }

/-- The crossing that the fabric relays a class-1 crossing of a tile to: one from the base die to a tile with the same EXT and length (Table SCH-15).  How a declaration names
the other half is open: DESIGN CHOICE, log entry 109. -/
def relayOf (s : State) (p : Nat) (d : XDecl) : Option XDecl :=
  if d.cls = 1 ∧ d.lpx = false ∧ d.src < 128 then
    (imageOf s p).bind (fun im => im.xdecl.find? (fun e => e.cls == 1 && e.src == 0xFFFF && e.dst != 0xFFFF && e.ext == d.ext && e.lines == d.lines))
  else none

/-- The fabric takes the lines of a first half that has arrived and starts the second half's instance with them; it waits while every buffer of that is held. -/
def relayInstance (s : State) (p : Nat) (d e : XDecl) (i : XInst) (ns waited : Nat) : State :=
  if e.nbuf ≤ buffersUsed (xing s p e.xid) then s
  else wakeTile (checkLatency (startInst (dropFlight s p d.xid i) p e.xid i.lines) d d.src ns) d.src waited

/-- The crossing feeds a window of the PCIe endpoint (R339). -/
def isFeed (d : XDecl) : Bool := d.cls == 1 && !d.lpx && decide (d.src < 128) && d.ext.toNat % 256 == 0x50

/-- Every write of an instance of plot p's crossing has been transmitted or discarded. -/
def feedDone (s : State) (d : XDecl) (i : XInst) : Bool :=
  let k := d.ext.toNat / 256 % 8
  (s.host.waiting ++ s.host.held).all (fun r => !(r.source == .feed k && r.tag == feedMark d.xid i.inst))

/-- Instances whose lines the feed endpoint has taken free their buffers once their writes are transmitted, and their senders are judged again (R126, R339). -/
def feedRelease (waited : Nat) (s : State) : State :=
  forAll (fun s p => (plot s p).xings.foldl (fun s e => match xdecl s p e.1 with
    | some d => if isFeed d then
        (e.2.flight.filter (fun i => i.sent && feedDone s d i)).foldl (fun s i => wakeTile (dropFlight s p e.1 i) d.src waited) s
      else s
    | none => s) s) s allPlots

/-- An instance is handed to the feed endpoint. -/
def sendFeed (s : State) (p : Nat) (d : XDecl) (i : XInst) (waited : Nat) : State :=
  let s1 := onXing s p d.xid (fun q => { q with flight := q.flight.map (fun j => if j = i then { j with sent := true } else j) })
  feedRelease waited (feedInstance s1 p d.xid d.ext i.inst i.lines)

/-- CROSSING_READY (R131): the oldest instance of the crossing on its way, its source lines read, reaches its receiver after `ns` ns.  For a class-3 send,
whose receiver is another module, it is handed to the network, `ns` being the elapsed time that its frames carry (R134). -/
def execCrossingReady (p : Fin 12) (xid : BitVec 12) (ns waited : Nat) (ecc : Ecc) (s : State) : Host.Outcome State Fault Refusal :=
  let x := xid.toNat
  .next (match xdecl s p x with
    | none => s
    | some d =>
      match (xing s p x).flight.find? (fun i => !i.sent && (d.cls == 2 || i.lines.length == d.lines)) with
      | none => s
      | some i =>
        if d.cls = 0 then landInstance s p d i (lineBytes i.lines) (some ns) waited ecc
        else if d.cls = 1 ∧ d.lpx = true then
          let a := regionBase s p + lpxOffset d i
          let s1 := dropFlight s p x i
          if (lpxPermits s (.plot p) a (d.lines * 64)).isNone then tileFault s1 d.src { sch := [2], refused := [(2, d.srcLine, 2)] }
          else wakeTile (checkLatency (lpxWrite (lpxEcc s1 a ecc) p a (lineBytes i.lines)) d d.src ns) d.src waited
        else if d.cls = 1 ∧ d.src = 0xFFFF then landInstance s p d i (lineBytes i.lines) (some ns) waited ecc
        else if d.cls = 1 then
          match relayOf s p d with
          | some e => relayInstance s p d e i ns waited
          | none => if isFeed d then sendFeed s p d i waited else wakeTile (checkLatency (dropFlight s p x i) d d.src ns) d.src waited
        else if d.cls = 2 then
          let a := regionBase s p + lpxOffset d i
          if (lpxPermits s (.plot p) a (d.lines * 64)).isNone then tileFault (dropFlight s p x i) d.dst { sch := [2] }
          else
            let s1 := lpxEcc s a ecc
            landInstance s1 p d i (rdBytes s1 a (d.lines * 64)) (some ns) waited .clean
        else if d.dir = 0 then sendInstance s p d i ns
        else s)

/-! ### Class-3 instances coming in (R126, R299) -/

/-- The crossing that an immediate names, if the plot receives on it. -/
def rxDecl (s : State) (p : Nat) (imm : DWord) : Option XDecl :=
  match xdecl s p (imm.toNat % 4096) with
  | some d => if d.cls = 3 ∧ d.dir = 1 then some d else none
  | none => none

/-- The instance being received: the last one on its way. -/
def rxInst (s : State) (p x : Nat) : Option XInst := (xing s p x).flight.getLast?

/-- A buffer is taken for the first packet of an instance; none where every buffer is held. -/
def rxBegin (s : State) (p : Nat) (d : XDecl) : Option State :=
  let q := xing s p d.xid
  if d.nbuf ≤ buffersUsed q then none
  else some (onXing s p d.xid (fun q => { q with rx := q.rx + 1, flight := q.flight ++ [{ inst := q.rx % max 1 d.count, lines := [] }] }))

/-- Bytes of the instance land in its buffer as they come, if the region registers grant it. -/
def rxBytes (s : State) (p : Nat) (d : XDecl) (off : Nat) (bs : List Byte) : State :=
  match rxInst s p d.xid with
  | some i => if (bufferRefused s d i.inst).isNone then wrBytes s (bufferAddr d i.inst + off) bs else s
  | none => s

/-- The instance is complete: ready at its receiver, with its latency where one is measured (R134), or discarded with a fault of its tile. -/
def rxEnd (s : State) (p : Nat) (d : XDecl) (ns : Option Nat) (waited : Nat) (ecc : Ecc) : State :=
  match rxInst s p d.xid with
  | some i => landInstance s p d i [] ns waited ecc
  | none => s

/-- An instance that failed on its way gives its buffer back. -/
def rxFail (s : State) (p : Nat) (d : XDecl) : State := match rxInst s p d.xid with | some i => dropFlight s p d.xid i | none => s

end Sys2Proof.Machine
end

