-- ==== Sys2Proof/Machine/Network.lean ====
section
/-! DEFINITION. The optical lanes and sub-ports, the ingress path from the MAC to its destination, the egress scheduler, and the classifier's
commands (R258 to R288). -/
set_option Elab.async false
namespace Sys2Proof.Machine

/-! ### Lanes (R14, R260, R261) -/

/-- LASER_LOSS (R14, R260): the lanes of the four ports that the input feeds go dark and are disabled, their sub-ports go down, and one event names
the input (EXTRA) at its first port. -/
def execLaserLoss (input : Fin 4) (s : State) : Host.Outcome State Fault Refusal :=
  let ports := (List.range 4).map (· + 4 * input.val)
  if ports.all (fun p => rdFld s (.netPstat p) 11 8 == 15) then .next s
  else
    let one := fun (s : State) (p : Nat) =>
      forAll (fun s sub => laneChange s p sub) (wrFld (wrFld s (.netPstat p) 11 8 15) (.netPcfg p) 11 8 15) (List.range (subCount (split s p)))
    let s1 := forAll one s ports
    .next (irqCores (recordEvent s1 0x0701 moduleEvent 2 (islPort (4 * input)) (4 * input) (rd s1 (.netPstat (4 * input))) input.val) netCores 18)

/-- LASER_RETURN (R14): the lanes stop reading DARK; they stay disabled until re-enabled (R260). -/
def execLaserReturn (input : Fin 4) (s : State) : Host.Outcome State Fault Refusal :=
  .next (forAll (fun s p => wrFld s (.netPstat p) 11 8 0) s ((List.range 4).map (· + 4 * input.val)))

/-- LANE_FAIL (R260, R261): the lane is disabled, an event names port and lane, and its sub-port narrows or goes down. -/
def execLaneFail (port : Fin 16) (lane : Fin 4) (s : State) : Host.Outcome State Fault Refusal :=
  .next (if bit (rd s (.netPcfg port)) (8 + lane) then s
    else
      let s1 := wrBit (wrBit s (.netPcfg port) (8 + lane) true) (.netPstat port) (12 + lane) true
      let s2 := laneChange s1 port (laneSub s port lane)
      irqCores (recordEvent s2 0x0701 moduleEvent 2 (islPort port) port (rd s2 (.netPstat port)) lane.val) netCores 18)

/-- The PF host driver and management firmware write the NET registers (R285). -/
def mayWriteNet (m : Master) : Bool := match m with | .pf => true | .vf _ => false | .core c => decide (2 ≤ c.val) && decide (c.val ≤ 5)

/-- LANE_REENABLE (R260): a 0 written to an LDIS bit starts the lane's BER check. -/
def execLaneReenable (m : Master) (port : Fin 16) (lane : Fin 4) (s : State) : Host.Outcome State Fault Refusal :=
  let k := 4 * port.val + lane.val
  .next (if mayWriteNet m && bit (rd s (.netPcfg port)) (8 + lane) then
      { wrBit s (.netPcfg port) (8 + lane) false with
        net := { s.net with checking := k :: s.net.checking.filter (· ≠ k) } }
    else s)

/-- LANE_CHECK_DONE (R260, R407): a lane that passes is used, and its sub-port retrains where its lanes change; one that fails is disabled. -/
def execLaneCheckDone (port : Fin 16) (lane : Fin 4) (pass : Bool) (s : State) : Host.Outcome State Fault Refusal :=
  let k := 4 * port.val + lane.val
  .next (if !s.net.checking.contains k then s
    else
      let s1 := { s with net := { s.net with checking := s.net.checking.filter (· ≠ k) } }
      if pass then laneChange (wrBit s1 (.netPstat port) (12 + lane) false) port (laneSub s1 port lane)
      else wrBit (wrBit s1 (.netPcfg port) (8 + lane) true) (.netPstat port) (12 + lane) true)

/-- SUBPORT_RETRAIN_DONE (R261): the sub-port is up at its new width, and frames held by firmware for its queues enter them. -/
def execSubportRetrainDone (port : Fin 16) (sub : Fin 4) (s : State) : Host.Outcome State Fault Refusal :=
  .next (if !subRetrain s port sub then s
    else
      let s1 := wrBit (wrBit s (.netPstat port) (24 + sub) false) (.netPstat port) (28 + sub) true
      let s2 := wrFld s1 (.netPstat port) (2 * sub + 17) (2 * sub + 16) (widthCode (runLanes s1 port sub).length)
      forAll (fun s k => drainHeld s k s.net.held) s2 ((s2.net.held.map (fun e => e.1)).filter (fun k => k / 512 == port.val)))

/-! ### The parser (R265, R266) -/

/-- What the parser finds. -/
structure Parsed where
  vlans : Nat := 0
  l3 : Nat := 0
  l4 : Nat := 0
  frag : Bool := false
  opts : Bool := false
  a1 : Option Nat := none
  a2 : Option Nat := none
  fail : Bool := false
  deriving DecidableEq, Repr

/-- Byte i of a frame, and the 16-bit word at i, most significant byte first. -/
def fb (f : List Byte) (i : Nat) : Nat := (f.getD i 0).toNat
def fw16 (f : List Byte) (i : Nat) : Nat := 256 * fb f i + fb f (i + 1)

/-- One's complement sum of a number, folded to 16 bits. -/
def fold16 (n : Nat) : Nat := if n = 0 then 0 else (n - 1) % 65535 + 1

/-- Sum of the 16-bit words of n bytes from i on. -/
def sum16 (f : List Byte) (i n : Nat) : Nat := sumNat ((List.range (n / 2)).map (fun k => fw16 f (i + 2 * k)))

/-- The L4 header at `a` of protocol `p`, if it ends within the first 64 bytes. -/
def parseL4 (f : List Byte) (r : Parsed) (p a : Nat) : Parsed :=
  if p = 17 ∧ a + 8 ≤ 64 then { r with l4 := 1, a2 := some a }
  else if p = 6 ∧ a + 20 ≤ 64 ∧ a + 4 * (fb f (a + 12) / 16) ≤ 64 then { r with l4 := 2, a2 := some a }
  else { r with l4 := 3 }

/-- IPv6 extension headers from `a` on, next header `nh` (hop-by-hop 0, routing 43, fragment 44, destination options 60). -/
def parseExt : Nat → List Byte → Parsed → Nat → Nat → Parsed
  | 0, _, r, _, _ => { r with l4 := 3 }
  | n + 1, f, r, nh, a =>
    if nh = 0 ∨ nh = 43 ∨ nh = 60 ∨ nh = 44 then
      let len := if nh = 44 then 8 else 8 * (fb f (a + 1) + 1)
      let r1 := { r with opts := true, frag := r.frag || decide (nh = 44) }
      if 64 < a + 8 ∨ 64 < a + len then { r1 with l4 := 3 }
      else if nh = 44 ∧ fw16 f (a + 2) / 8 ≠ 0 then { r1 with l4 := 3 }
      else parseExt n f r1 (fb f a) (a + len)
    else parseL4 f r nh a

/-- Ethernet, up to two VLAN tags, IPv4 or IPv6, UDP or TCP, in a frame of `len` bytes with its FCS. -/
def parse (f : List Byte) : Parsed :=
  let isTag := fun i => fw16 f i == 0x8100 || fw16 f i == 0x88A8
  let v := if isTag 12 then (if isTag 16 then (if isTag 20 then 3 else 2) else 1) else 0
  let et := 12 + 4 * v
  let a := et + 2
  let body := f.length - 4 - a
  if v = 3 then { vlans := 2, fail := true }
  else if fw16 f et = 0x0800 then
    let r : Parsed := { vlans := v, l3 := 1 }
    if 64 < a + 20 then r
    else
      let ihl := fb f a % 16
      if fb f a / 16 ≠ 4 ∨ ihl < 5 then { r with fail := true }
      else if 64 < a + 4 * ihl then r
      else if fold16 (sum16 f a (4 * ihl)) ≠ 0xFFFF ∨ body < fw16 f (a + 2) then { r with fail := true }
      else
        let off := fw16 f (a + 6) % 8192
        let r1 := { r with a1 := some a, opts := decide (5 < ihl), frag := decide (off ≠ 0) || decide (fw16 f (a + 6) / 8192 % 2 = 1) }
        if off ≠ 0 then { r1 with l4 := 3 } else parseL4 f r1 (fb f (a + 9)) (a + 4 * ihl)
  else if fw16 f et = 0x86DD then
    let r : Parsed := { vlans := v, l3 := 2 }
    if 64 < a + 40 then r
    else if body < 40 + fw16 f (a + 4) then { r with fail := true }
    else parseExt 8 f { r with a1 := some a } (fb f (a + 6)) (a + 40)
  else { vlans := v }

/-! ### Key and classifier (R267, R268) -/

/-- Anchor A0 to A3. -/
def anchor (r : Parsed) (k : Nat) : Option Nat :=
  if k = 0 then some 0 else if k = 1 then r.a1 else if k = 2 then r.a2 else r.a2.map (· + 8)

/-- Extractor word w under the port's profile: 4 bytes at an anchor and offset, of the first 64. -/
def extractWord (s : State) (port : Nat) (f : List Byte) (r : Parsed) (w : Nat) : Nat :=
  let x := fld (rd s (.prsXtr port (w / 4))) (8 * (w % 4) + 7) (8 * (w % 4))
  match anchor r (x / 64) with
  | none => 0
  | some a =>
    if 60 < x % 64 then 0
    else (List.range 4).foldl (fun acc i => 256 * acc + (if a + x % 64 + i < 64 then fb f (a + x % 64 + i) else 0)) 0

/-- The key of a frame (Table NET-4). -/
def frameKey (s : State) (port sub : Nat) (f : List Byte) (r : Parsed) : BitVec 512 :=
  let head := port * 2 ^ 508 + sub * 2 ^ 506 + r.vlans * 2 ^ 504 + r.l3 * 2 ^ 502 + r.l4 * 2 ^ 500 + boolNat r.frag * 2 ^ 499 + boolNat r.opts * 2 ^ 498
  BitVec.ofNat 512 (head + sumNat ((List.range 15).map (fun w => extractWord s port f r w * 2 ^ (448 - 32 * w))))

/-- Base and count of partition q's entries, and of its meters. -/
def partRange (s : State) (q : Nat) : Nat × Nat := (rdFld s (.prsPart q) 11 0, rdFld s (.prsPart q) 28 16)
def meterRange (s : State) (q : Nat) : Nat × Nat := (rdFld s (.prsMpart q) 11 0, rdFld s (.prsMpart q) 28 16)
/-- The partition that holds an entry. -/
def partOf (s : State) (i : Nat) : Option Nat :=
  (List.range 13).find? (fun q => decide ((partRange s q).1 ≤ i) && decide (i < (partRange s q).1 + (partRange s q).2))
/-- The partition that holds a meter. -/
def meterPart (s : State) (i : Nat) : Option Nat :=
  (List.range 13).find? (fun q => decide ((meterRange s q).1 ≤ i) && decide (i < (meterRange s q).1 + (meterRange s q).2))

/-- An entry matches a key: VALID, in a partition, key and guard equal under their masks. -/
def clsMatch (s : State) (key : BitVec 512) (e : Nat × ClsEntry) : Bool :=
  bit e.2.ctl 31 && (match partOf s e.1 with
    | none => false
    | some q =>
      let g := mapGet (0, 0) s.net.guards q
      decide ((key ^^^ e.2.key) &&& e.2.mask = 0) && decide ((key ^^^ g.1) &&& g.2 = 0))

/-! ### Actions (R270, R271) -/

/-- A frame as the actions leave it, FCS apart, with its anchors A1 and A2. -/
structure Work where
  f : List Byte
  a1 : Option Nat
  a2 : Option Nat
  l3 : Nat
  l4 : Nat
  deriving DecidableEq, Repr

/-- Bytes with a run replaced. -/
def splice (f : List Byte) (i : Nat) (bs : List Byte) : List Byte := f.take i ++ bs ++ f.drop (i + bs.length)

/-- The byte at i lies in the IPv4 header, its checksum apart. -/
def inIp (w : Work) (i : Nat) : Bool :=
  match w.a1 with
  | some a => w.l3 == 1 && decide (a ≤ i) && decide (i < a + 4 * (fb w.f a % 16)) && !(i == a + 10 || i == a + 11)
  | none => false

/-- Place of the UDP or TCP checksum. -/
def l4Sum (w : Work) : Option Nat := w.a2.map (fun a => if w.l4 = 1 then a + 6 else a + 16)

/-- The byte at i is covered by the UDP or TCP checksum, the pseudo-header's addresses and protocol included, the checksum itself apart. -/
def inL4 (w : Work) (i : Nat) : Bool :=
  match w.a1, w.a2, l4Sum w with
  | some a, some b, some c =>
    (decide (b ≤ i) && !(i == c || i == c + 1))
      || (w.l3 == 1 && ((decide (a + 12 ≤ i) && decide (i < a + 20)) || i == a + 9))
      || (w.l3 == 2 && decide (a + 8 ≤ i) && decide (i < a + 40))
  | _, _, _ => false

/-- The checksum at `c` after bytes i to i + n − 1 of the frame change under a cover (RFC 1624): HC' = ~(~HC + ~m + m'). -/
def patchSum (old new : List Byte) (cover : Nat → Bool) (base c i n : Nat) : List Byte :=
  let weigh := fun (f : List Byte) => sumNat ((List.range n).map (fun k =>
    if cover (i + k) then (if (i + k + base) % 2 = 0 then 256 * fb f (i + k) else fb f (i + k)) else 0))
  let hc := fw16 old c
  let v := 65535 - fold16 (65535 - hc + (65535 - fold16 (weigh old)) + weigh new)
  splice new c [BitVec.ofNat 8 (v / 256), BitVec.ofNat 8 v]

/-- REWRITE of bytes at i, with the checksums it touches. -/
def rewrite (w : Work) (i : Nat) (bs : List Byte) : Work :=
  let f1 := splice w.f i bs
  let r := List.range bs.length
  let f2 := match w.a1 with
    | some a => if r.any (fun k => inIp w (i + k)) then patchSum w.f f1 (inIp w) a (a + 10) i bs.length else f1
    | none => f1
  let f3 := match w.a2, l4Sum w with
    | some b, some c =>
      if r.any (fun k => inL4 w (i + k)) && !(w.l4 == 1 && w.l3 == 1 && fw16 w.f c == 0) then patchSum w.f f2 (inL4 w) b c i bs.length else f2
    | _, _ => f2
  { w with f := f3 }

/-- Position an action names: anchor and offset, within the first 64 bytes; none for an absent anchor. -/
def actionPos (w : Work) (a : DWord) : Option Nat :=
  let k := a.toNat / 2 ^ 58 % 4
  let off := a.toNat / 2 ^ 52 % 64
  let base := if k = 0 then some 0 else if k = 1 then w.a1 else if k = 2 then w.a2 else w.a2.map (· + 8)
  base.bind (fun b => if b + off < 64 ∧ b + off ≤ w.f.length then some (b + off) else none)

/-- An anchor after n bytes are pushed (or popped) at i: it moves by what lies before it. -/
def moveAnchor (a : Option Nat) (i : Nat) (push : Bool) (n : Nat) : Option Nat :=
  a.map (fun v => if v < i then v else if push then v + n else v - min n (v - i))

/-- One action other than SETDEST (Table NET-5). -/
def runAction (s : State) (w : Work) (a : DWord) : Work :=
  let ty := a.toNat / 2 ^ 60
  let n := a.toNat / 2 ^ 34 % 64 + 1
  match actionPos w a with
  | none => w
  | some i =>
    if ty = 1 then
      let k := if a.toNat / 2 ^ 50 % 4 = 0 then 1 else if a.toNat / 2 ^ 50 % 4 = 1 then 2 else 4
      rewrite w i ((leBytes k a.toNat).reverse.take (min k (w.f.length - i)))
    else if ty = 2 then
      let bs := (leBytes 32 (mapGet 0 s.net.templates (a.toNat / 2 ^ 40 % 256)).toNat).take n
      { w with f := w.f.take i ++ bs ++ w.f.drop i, a1 := moveAnchor w.a1 i true n, a2 := moveAnchor w.a2 i true n }
    else if ty = 3 then
      { w with f := w.f.take i ++ w.f.drop (i + n), a1 := moveAnchor w.a1 i false n, a2 := moveAnchor w.a2 i false n }
    else w

/-! ### Destinations (R272, R273, R275, R276) -/

/-- CRC-32C of the key under a hash profile, most significant byte first (R273). -/
def keyHash (s : State) (key : BitVec 512) (profile : Nat) : Nat :=
  (crc32c ((leBytes 64 (key &&& mapGet 0 s.net.masks profile).toNat).reverse)).toNat

/-- A punted frame (R275, R276): the reason's bucket, then the ring of a network core; else counted as dropped. -/
def punt (s : State) (reason port sub : Nat) (key : BitVec 512) (f : List Byte) (ns : Nat) : State :=
  let rate := rdFld s (.prsPunt reason) 31 16
  let burst := rdFld s (.prsPunt reason) 15 0
  let b := mapGet {} s.net.punt reason
  -- RATE is in 1,000 frames/s: 8 × RATE of 1/8000 frame in 1,000 ns
  let lvl := match b.level with | none => burst * 8000000 | some v => min (burst * 8000000) (v + 8 * rate * (ns - b.last))
  if rate = 0 ∨ lvl < 8000000 then count s (.prsPuntdrop reason) 1
  else
    let s1 := { s with net := { s.net with punt := mapInsert s.net.punt reason { level := some (lvl - 8000000), last := max b.last ns } } }
    let c := 6 + keyHash s key 0 % 16
    let ring := mapGet [] s1.net.puntRings c
    if 256 ≤ ring.length ∨ rdFld s (.nvcStatus c) 31 29 = 4 then count s1 (.prsPuntdrop reason) 1
    else
      coreIrq { s1 with net := { s1.net with puntRings := mapInsert s1.net.puntRings c (ring ++ [⟨reason, port, sub, key, f⟩]) } } c 13

/-- A frame reaches a destination of Table NET-6, SPREAD apart: KIND, PLOT, PORT, SUB, QUEUE, RING. -/
def deliver (s : State) (kind plt port queue ring : Nat) (inPort inSub : Nat) (key : BitVec 512) (f : List Byte) (ns : Nat) : State :=
  let drop := count s .prsDestdrop 1
  if kind = 1 then
    if plotUp s plt then { s with net := { s.net with toRma := s.net.toRma ++ [⟨s.net.stamp, min plt 12, queue % 8, f⟩] } } else drop
  else if kind = 2 then
    irqCores { s with net := { s.net with fwRings := mapInsert s.net.fwRings ring (mapGet [] s.net.fwRings ring ++ [f]) } } netCores 14
  else if kind = 3 then punt s 2 inPort inSub key f ns
  else if kind = 4 then
    let k := 512 * port + queue
    if !plotUp s plt || (queueOwner s k != min plt 12) then drop
    else if maxFrame s port < f.length + 4 then punt s 3 inPort inSub key f ns
    else enqueueForward s k f ns
  else drop

/-- The matched rule's actions and destination (R270 to R273): of several SETDESTs the last in slot order stands (DEDUCED, log entry 131). -/
def act (s : State) (q : Nat) (e : ClsEntry) (port sub : Nat) (key : BitVec 512) (r : Parsed) (f : List Byte) (ns : Nat) : State :=
  let w := e.actions.foldl (runAction s) { f := f, a1 := r.a1, a2 := r.a2, l3 := r.l3, l4 := r.l4 }
  if w.f.length + 4 < 64 then punt s 3 port sub key w.f ns
  else match e.actions.reverse.find? (fun a => a.toNat / 2 ^ 60 == 4) with
    | none => count s .prsDestdrop 1
    | some a =>
      let kind := a.toNat / 2 ^ 56 % 16
      let plt := if q < 12 then q else a.toNat / 2 ^ 52 % 16
      if kind = 5 then
        let x := mapGet 0 s.net.indir (512 * q + keyHash s key (a.toNat / 2 ^ 30 % 4) % 512)
        deliver s (fld x 31 28) plt (fld x 27 24) (fld x 20 12) (fld x 11 8) port sub key w.f ns
      else deliver s kind plt (a.toNat / 2 ^ 48 % 16) (a.toNat / 2 ^ 36 % 512) (a.toNat / 2 ^ 32 % 16) port sub key w.f ns

/-- The meter of a rule (R274): green takes its length; red is counted. -/
def meterFrame (s : State) (e : ClsEntry) (len ns : Nat) : Bool × State :=
  if !bit e.ctl 30 then (true, s)
  else
    let i := fld e.ctl 11 0
    let m := mapGet {} s.net.meters i
    if len * 8000 ≤ bucketAt m.bucket m.cir m.cbs ns then
      (true, { s with net := { s.net with meters := mapInsert s.net.meters i { m with bucket := bucketTake m.bucket m.cir m.cbs ns len } } })
    else
      (false, count { s with net := { s.net with meters := mapInsert s.net.meters i { m with red := satAdd m.red 1 } } } .prsMeterdrop 1)

/-- The count of NET_CNTp_i raised by one (R286); it wraps. -/
def netCount (s : State) (port i : Nat) : State :=
  { s with net := { s.net with counts := mapInsert s.net.counts (11 * port + i) (mapGet 0 s.net.counts (11 * port + i) + 1) } }

/-- A frame that has passed the MAC and found buffer space: parser, key, classifier, meter, actions, destination. -/
def classify (s : State) (port sub : Nat) (f : List Byte) (ns : Nat) : State :=
  let r := parse f
  let key := frameKey s port sub f r
  let body := f.take (f.length - 4)
  if r.fail then punt (count s .prsParsefail 1) 1 port sub key body ns
  else
    let s1 := { s with net := { s.net with stamp := s.net.stamp + 1 } }
    match s1.net.entries.find? (clsMatch s1 key) with
    | none => punt (count s1 .prsNomatch 1) 0 port sub key body ns
    | some e =>
      let g := meterFrame s1 e.2 f.length ns
      if g.1 then act g.2 ((partOf s e.1).getD 12) e.2 port sub key r body ns else g.2

/-- FRAME_RECEIVE (R259, R263 to R276): a frame of `bytes`, its FCS included, at a sub-port that is up.  Runts, oversize frames and FCS errors, and MAC
control frames, are dropped at the MAC and counted; a frame for which the ingress buffer has no room is dropped. -/
def execFrameReceive (port : Fin 16) (sub : Fin 4) (bytes : List Byte) (fcsOk room : Bool) (ns : Nat) (s : State) : Host.Outcome State Fault Refusal :=
  .next (if !subUp s port sub then s
    else if !fcsOk || decide (bytes.length < 64) || decide (maxFrame s port < bytes.length) then netCount s port 2
    else if fw16 bytes 12 = 0x8808 then netCount s port 3
    else
      let s1 := netCount s port 0
      if room then classify s1 port sub bytes ns else netCount s1 port 1)

/-! ### Egress (R278, R279, R282, R283) -/

/-- The queue is eligible at a time: it holds a frame, and its shaper allows it. -/
def queueEligible (s : State) (k ns : Nat) : Bool :=
  match (queueOf s k).frames with
  | [] => false
  | f :: _ =>
    !queueScrubbed s k && (queueRate s k == 0
      || decide (countedLen s (k / 512) f * 8000 ≤ bucketAt (queueOf s k).bucket (queueRate s k) (queueBurst s k) ns))

/-- Counted length of the head frame. -/
def headLen (s : State) (k : Nat) : Nat := match (queueOf s k).frames with | f :: _ => countedLen s (k / 512) f | [] => 0

/-- DRR quantum in bytes. -/
def quantum (s : State) (k : Nat) : Nat := 8 * rdFld s (.tmsQcfg k) 11 0

/-- The next queue of a list after `k`, cyclically. -/
def nextQueue (l : List Nat) (k : Nat) : Nat := match l.find? (fun j => decide (k < j)) with | some j => j | none => l.headD k

/-- Deficit round robin among the eligible queues of a class, from a position: the queue whose head frame is sent, and the state with the deficits as
the visits leave them. -/
def drrPick : Nat → State → List Nat → Nat → Bool → Option (Nat × State)
  | 0, _, _, _, _ => none
  | n + 1, s, l, k, visiting =>
    if visiting && l.contains k && decide (headLen s k ≤ (queueOf s k).deficit) then some (k, s)
    else
      let j := nextQueue l k
      let s1 := onQueue s j (fun q => { q with deficit := q.deficit + quantum s j })
      if headLen s1 j ≤ (queueOf s1 j).deficit then some (j, s1) else drrPick n s1 l j false

/-- The head frame of a queue leaves: its deficit and shaper pay, and an emptied queue loses its deficit. -/
def sendHead (s : State) (k ns : Nat) : State :=
  match (queueOf s k).frames with
  | [] => s
  | f :: rest =>
    let n := countedLen s (k / 512) f
    let s1 := onQueue s k (fun q => { q with
      frames := rest
      deficit := if rest.isEmpty then 0 else q.deficit - n
      bucket := if queueRate s k = 0 then q.bucket else bucketTake q.bucket (queueRate s k) (queueBurst s k) ns n })
    emit (netCount s1 (k / 512) 4) (.frame (k / 512) (queueSub s k) f.body)

/-- The pick of a sub-port that is up: the highest class with an eligible queue, and its next queue by deficit round robin. -/
def schedule (s : State) (port sub ns : Nat) : Option State :=
  let el := if subUp s port sub then (subQueues s port sub).filter (fun k => queueEligible s k ns) else []
  match (List.range 8).reverse.find? (fun c => el.any (fun k => queueClass s k == c)) with
  | none => none
  | some c =>
    let l := el.filter (fun k => queueClass s k == c)
    let pos := 8 * (4 * port + sub) + c
    let at0 := mapGet (512 * port + 511, false) s.net.rr pos
    (drrPick 700000 s l at0.1 at0.2).map (fun r =>
      sendHead { r.2 with net := { r.2.net with rr := mapInsert r.2.net.rr pos (r.1, true) } } r.1 ns)

/-- QUEUE_SAMPLE (R283): depth and head-of-queue delay of every queue, and their averages. -/
def execQueueSample (ns : Nat) (s : State) : Host.Outcome State Fault Refusal :=
  let w : Rat := (2 ^ rdFld s .tmsSample 3 0 : Nat)
  let one := fun (s : State) (k : Nat) =>
    let d := queueDepth s k
    let h : Nat := match (queueOf s k).frames with | f :: _ => ns - f.entered | [] => 0
    let a : Rat × Rat := match (queueOf s k).avg with
      | none => ((d : Rat), (h : Rat))
      | some a => (a.1 + ((d : Rat) - a.1) / w, a.2 + ((h : Rat) - a.2) / w)
    let s1 := onQueue s k (fun q => { q with avg := some a })
    let s2 := wr s1 (.tmsQstat k) (BitVec.ofNat 32 (satNat (d / 64) 0xFFFF * 2 ^ 16 + satNat (h / 10) 0xFFFF))
    wr s2 (.tmsQavg k) (BitVec.ofNat 32 (satNat (a.1 / 256).floor.toNat 0x7FFF * 2 ^ 16 + satNat (a.2 / 40).floor.toNat 0x7FFF))
  .next (forAll one s (List.range 8192))

/-- The queue that TMS_QSEL selects. -/
def selQueue (s : State) : Nat := 512 * rdFld s .tmsQsel 13 10 + rdFld s .tmsQsel 8 0

/-- Who may write the objects of a partition or owner (R285): the PF those of 12, network and management firmware any. -/
def mayWritePart (m : Master) (q : Nat) : Bool :=
  match m with | .pf => q == 12 | .vf _ => false | .core c => decide (2 ≤ c.val) && decide (c.val ≤ 21)

/-- QUEUE_FLUSH (R282, R285): a flush of the selected queue; a refused write sets TMS_QCFG.ERR. -/
def execQueueFlush (m : Master) (s : State) : Host.Outcome State Fault Refusal :=
  let k := selQueue s
  .next (if mayWritePart m (queueOwner s k) then (let s1 := flushQueue s k; drainHeld s1 k s1.net.held) else wrBit s (.tmsQcfg k) 30 true)

/-- QAVG_CLEAR (R283): the next sample of the selected queue seeds both averages. -/
def execQavgClear (m : Master) (s : State) : Host.Outcome State Fault Refusal :=
  let k := selQueue s
  .next (if mayWritePart m (queueOwner s k) then onQueue s k (fun q => { q with avg := none }) else s)

/-! ### PRS_CMD (R269, R285, R287) -/

/-- PRS_DATAk, k = 0 to 41. -/
def prsWords (s : State) (k n : Nat) : List Word := (List.range n).map (fun i => rd s (.prsData (k + i)))
/-- 512 bits from sixteen words, the most significant first. -/
def bits512 (ws : List Word) : BitVec 512 := BitVec.ofNat 512 (ws.foldl (fun acc w => acc * 2 ^ 32 + w.toNat) 0)
def words512 (b : BitVec 512) : List Word := (List.range 16).map (fun i => BitVec.ofNat 32 (b.toNat / 2 ^ (480 - 32 * i)))
/-- The data registers with words placed from k on. -/
def putWords (s : State) (k : Nat) : List Word → State
  | [] => s
  | w :: rest => putWords (wr s (.prsData k) w) (k + 1) rest

/-- Targets and largest index (Table NET-16). -/
def prsTop (target : Nat) : Nat := if target = 0 ∨ target = 2 then 4095 else if target = 3 then 3 else if target = 4 then 511 else if target = 5 then 255 else 4095

/-- PRS_CMD holds what was written; ERR shows a refusal. -/
def prsDone (s : State) (cmd : Word) (err : Bool) : State :=
  wr s .prsCmd (BitVec.ofNat 32 (fld cmd 28 0 + (if err || bit (rd s .prsCmd) 29 && !bit cmd 29 then 2 ^ 29 else 0)))

/-- PRS_READ (R287): the object named goes to PRS_DATAk. -/
def execPrsRead (m : Master) (cmd : Word) (s : State) : Host.Outcome State Fault Refusal :=
  let tgt := fld cmd 27 25
  let q := fld cmd 24 21
  let i := fld cmd 11 0
  let reach := match m with | .vf _ => false | _ => true
  .next (if !reach then s
    else if 5 < tgt ∨ prsTop tgt < i ∨ ((tgt = 1 ∨ tgt = 4) ∧ 12 < q) then prsDone s cmd true
    else
      let s1 := if tgt = 0 then
          let e := mapGet {} s.net.entries i
          putWords s 0 (words512 e.key ++ words512 e.mask ++ [e.ctl, 0] ++ e.actions.flatMap (fun a => [hi32 a, lo32 a]))
        else if tgt = 1 then (let g := mapGet (0, 0) s.net.guards q; putWords s 0 (words512 g.1 ++ words512 g.2))
        else if tgt = 2 then (let x := mapGet {} s.net.meters i; putWords s 0 [BitVec.ofNat 32 x.cir, BitVec.ofNat 32 x.cbs, x.red])
        else if tgt = 3 then putWords s 0 (words512 (mapGet 0 s.net.masks i))
        else if tgt = 4 then putWords s 0 [mapGet 0 s.net.indir (512 * q + i)]
        else putWords s 0 ((List.range 8).map (fun k => BitVec.ofNat 32 ((mapGet 0 s.net.templates i).toNat / 2 ^ (32 * k))))
      prsDone s1 cmd false)

/-- The entry write is refused (R270, R272, R274): an invalid action or destination, a queue that the plot does not own, a meter outside the
partition. -/
def badEntry (s : State) (q : Nat) (e : ClsEntry) : Bool :=
  e.actions.any (fun a =>
    let ty := a.toNat / 2 ^ 60
    let kind := a.toNat / 2 ^ 56 % 16
    decide (4 < ty) || (ty == 4 && (decide (5 < kind)
      || (kind == 4 && decide (q < 12) && queueOwner s (512 * (a.toNat / 2 ^ 48 % 16) + a.toNat / 2 ^ 36 % 512) != q))))
    || (bit e.ctl 30 && meterPart s (fld e.ctl 11 0) != some q)

/-- PRS_WRITE (R269, R285): the object is replaced whole, or refused with PRS_CMD.ERR.  Only security firmware writes guards. -/
def execPrsWrite (m : Master) (cmd : Word) (s : State) : Host.Outcome State Fault Refusal :=
  let tgt := fld cmd 27 25
  let q := fld cmd 24 21
  let i := fld cmd 11 0
  let sec := match m with | .core c => decide (22 ≤ c.val) | _ => false
  let e : ClsEntry := {
    key := bits512 (prsWords s 0 16), mask := bits512 (prsWords s 16 16), ctl := rd s (.prsData 32)
    actions := (List.range 4).map (fun k => dword (rd s (.prsData (34 + 2 * k))) (rd s (.prsData (35 + 2 * k)))) }
  let meterOk := decide ((rd s (.prsData 0)).toNat ≤ 800000) && decide (64 ≤ (rd s (.prsData 1)).toNat) && decide ((rd s (.prsData 1)).toNat ≤ 16777215)
  let indirOk := decide (fld (rd s (.prsData 0)) 31 28 ≤ 4)
  let own := if tgt = 0 then partOf s i else if tgt = 2 then meterPart s i else if tgt = 4 then some q else some 12
  let ok := decide (tgt ≤ 5) && decide (i ≤ prsTop tgt) && !((tgt == 1 || tgt == 4) && decide (12 < q))
    && (if tgt = 1 then sec else match own with | some o => mayWritePart m o | none => false)
    && !(tgt == 0 && badEntry s (own.getD 12) e) && !(tgt == 2 && !meterOk) && !(tgt == 4 && !indirOk)
  .next (match m with
    | .vf _ => s
    | _ =>
      if !ok then prsDone s cmd true
      else
        let n := s.net
        let n1 := if tgt = 0 then { n with entries := mapSet {} n.entries i e }
          else if tgt = 1 then { n with guards := mapSet (0, 0) n.guards q (e.key, e.mask) }
          else if tgt = 2 then
            { n with meters := mapInsert n.meters i { cir := (rd s (.prsData 0)).toNat, cbs := (rd s (.prsData 1)).toNat, red := 0, bucket := {} } }
          else if tgt = 3 then { n with masks := mapSet 0 n.masks i e.key }
          else if tgt = 4 then { n with indir := mapSet 0 n.indir (512 * q + i) (rd s (.prsData 0)) }
          else { n with templates := mapSet 0 n.templates i (BitVec.ofNat 256 (sumNat ((List.range 8).map (fun k => (rd s (.prsData k)).toNat * 2 ^ (32 * k))))) }
        prsDone { s with net := n1 } cmd false)

end Sys2Proof.Machine
end

