-- ==== Sys2Proof/Machine/Rma.lean ====
section
/-! DEFINITION. Omfemos packets in, timers, and the work rings (R289 to R310). -/
set_option Elab.async false
namespace Sys2Proof.Machine

/-! ### Receiving: the checks before a packet counts (R291, R296, R301) -/

/-- PSN a comes before PSN b (modulo 2^32). -/
def psnBefore (a b : Nat) : Bool := let d := (b + 2 ^ 32 - a) % 2 ^ 32; decide (1 ≤ d) && decide (d ≤ 2 ^ 31)

/-- Bytes parked, of a plot or of all. -/
def parkedBytes (s : State) (l : List Parked) : Nat := sumNat (l.map (fun q => omfLen (ctxOf s q.cid) q.arr.pkt.data.length))

/-- A clear-text RNR for a packet that parking has dropped: the DCID of its sender's context and its PCTR (R301). -/
def sendRnr (s : State) (cid : Nat) (pctr : DWord) : State :=
  let c := ctxOf s cid
  placeFrame s (ctxQueue s cid) (omfFrame s cid omRnr
    { barePkt 0 with ver := BitVec.ofNat 8 c.ver, cid := BitVec.ofNat 16 c.peerCid, ctag := BitVec.ofNat 16 c.peerTag, pctr := pctr })

/-- A packet for a context that is not cached enters parking, and a fetch starts; with parking full, or its plot's limit reached, it is dropped. -/
def park (s : State) (code : Nat) (a : Arrival) : State :=
  let cid := a.pkt.cid.toNat
  let n := omfLen (ctxOf s cid) a.pkt.data.length
  let own := s.rma.parked.filter (fun q => q.arr.plot == a.plot)
  if 2097152 < parkedBytes s s.rma.parked + n ∨ rdFld s .rmaPark 31 20 * 1024 < parkedBytes s own then
    sendRnr (count s (.rmaCnt cnParkdrop) 1) cid a.pkt.pctr
  else fetchStart (onRma s (fun r => { r with parked := r.parked ++ [⟨cid, code, a⟩] })) cid

/-- Replay window: the counter is above the highest accepted, or within the 64 below it and not yet seen (R296). -/
def freshCtr (hi : Nat) (win : DWord) (n : Nat) : Bool := decide (hi < n) || (decide (n < hi) && decide (hi ≤ n + 64) && !win.toNat.testBit (hi - n - 1))
/-- The window after an accepted counter; bit i stands for the counter i + 1 below the highest. -/
def acceptCtr (hi : Nat) (win : DWord) (n : Nat) : Nat × DWord :=
  if hi < n then (n, BitVec.ofNat 64 ((win.toNat * 2 + 1) * 2 ^ (n - hi - 1))) else (hi, win ||| BitVec.ofNat 64 (2 ^ (hi - n - 1)))

/-- Phases in which a packet may come: the current one, the next once its keys are derived, the old one for 1 ms (R295). -/
inductive RxPhase where
  | current
  | next
  | old
  deriving DecidableEq, Repr

/-- The phase of a packet, if the context holds its keys. -/
def rxPhaseOf (c : Ctx) (k : Bool) : Option RxPhase :=
  if k = c.rxPhase then some .current else if c.nextKeys then some .next else if c.oldOk then some .old else none

/-- R296: authentication under the key of KPHASE, then the counter; a packet that fails is dropped and counted.  The first packet of the next phase
begins it. -/
def authenticate (s : State) (cid : Nat) (a : Arrival) : State × Bool :=
  let c := ctxOf s cid
  let n := a.pkt.pctr.toNat
  match (if a.auth then rxPhaseOf c a.pkt.kphase else none) with
  | none => (count s (.rmaCnt cnAuthfail) 1, false)
  | some ph =>
    let w := match ph with | .current => (c.rxHi, c.rxWin) | .next => (0, 0) | .old => (c.oldHi, c.oldWin)
    if !freshCtr w.1 w.2 n then (count s (.rmaCnt cnReplay) 1, false)
    else
      let v := acceptCtr w.1 w.2 n
      (onCtx s cid (fun c => match ph with
        | .current => { c with rxHi := v.1, rxWin := v.2 }
        | .next => { c with
          rxPhase := !c.rxPhase, nextKeys := false, oldOk := true, oldHi := c.rxHi, oldWin := c.rxWin, oldRx := c.rxKey, rxKey := c.nextRx, rxHi := v.1, rxWin := v.2 }
        | .old => { c with oldHi := v.1, oldWin := v.2 }), true)

/-! ### Requests at the target (R297 to R299, R304 to R309) -/

/-- What performing a request packet comes to. -/
inductive ReqRes where
  | done (s : State)
  | nak (s : State) (reason : Nat)
  deriving DecidableEq, Repr

/-- Reasons that are violations (Table RMA-7). -/
def isViolation (reason : Nat) : Bool := decide (1 ≤ reason) && decide (reason ≤ 8)

/-- A violation at the target (R307, R309): counted in VIOLS and RMA_VIOL, an event at most once a millisecond, and at VIOLMAX the connection closes. -/
def violation (s : State) (cid : Nat) (a : Arrival) (reason : Nat) : State :=
  let c := ctxOf s cid
  let plot := if c.owner < 12 then c.owner else moduleEvent
  let s1 := count (onCtx s cid (fun c => { c with viols := satNat (c.viols + 1) 255 })) (.rmaCnt cnViol) 1
  let quiet := match c.lastViol with | some t => decide (s.tick < t + 1000) | none => false
  let s2 := if quiet then s1
    else recordEvent (onCtx s1 cid (fun c => { c with lastViol := some s.tick })) 0x0801 plot 2 islPacket cid a.pkt.rkey
      (reason + 256 + a.pkt.roff.toNat % 2 ^ 32 * 65536)
  let lim := rdFld s .rmaCfg 31 24
  if lim = 0 ∨ (ctxOf s2 cid).viols < lim then s2
  else
    let s3 := sendPkt s2 cid omClose { barePkt (ctxOf s2 cid).txPsn with oplen := Config.closeReason 1 }
    recordEvent (endContext s3 cid cxClosed rsClosed) 0x0802 plot 2 islPacket cid (BitVec.ofNat 32 (ctxOf s3 cid).viols) 0

/-- The region entry that a key names, judged for a packet of a stamp (R303 to R305): a device address for n bytes at an offset, or the reason. -/
def regionAddr (s : State) (c : Ctx) (key : Word) (stamp roff n : Nat) (perm : RegionEntry → Bool) (align : Bool) : Nat ⊕ Nat :=
  let e := mapGet {} s.rma.regions (key.toNat % 2 ^ 18)
  let tagOk := e.tag == key.toNat / 2 ^ 18
  let live := tagOk && (e.valid || (match e.revoking with | some st => decide (stamp < st) | none => false))
  if !live then .inr (if tagOk && (e.revoking.isSome || e.revoked) then rsRevoked else rsBadKey)
  else if e.owner ≠ c.owner then .inr rsOwner
  else if !perm e then .inr rsAccess
  else if e.len < roff + n then .inr rsBounds
  else if align && roff % 8 != 0 then .inr rsAlign
  else .inl (e.base + roff)

/-- What the memory at a device address reports for an engine's access. -/
def memEcc (s : State) (a : Nat) (e : Ecc) : State :=
  if scratchBase ≤ a then let o := a - scratchBase; spEcc s (o / 0x400000) (o % 0x400000 / 0x100000) (o % 0x100000 / 64) 3 e else lpxEcc s a e

/-- An access of the target engine to memory it has been granted: refused by R196, or an uncorrectable error, gives MEMORY. -/
def targetAccess (s : State) (c : Ctx) (addr n : Nat) (write : Bool) (ecc : Ecc) (f : State → State) : ReqRes :=
  if n ≠ 0 ∧ engineMay s (engineFor s c.owner addr) addr n write = false then .nak (engineRefused s (engineFor s c.owner addr) addr n write) rsMemory
  else if ecc = .uncorrectable then .nak (memEcc s addr ecc) rsMemory
  else if !write && pagesBad s addr n then .nak s rsMemory
  else .done (f (memEcc s addr ecc))

/-- The firmware ring of received messages (R299). -/
def toFirmware (s : State) (cid : Nat) (bs : List Byte) : State := irqCores (onRma s (fun r => { r with fwIn := r.fwIn ++ [(cid, bs)] })) netCores 14

/-- A RECV record of a plot's ring; the slot it names is freed when the record is read. -/
def recvRecord (s : State) (cid bytes : Nat) (imm : DWord) (off : Nat) (slot : Bool) : State :=
  let p := (ctxOf s cid).owner
  let held := sumNat (s.rma.heldRecs.map (fun e => if e.1 = p then 1 else 0))
  let idx := (rdFld s (.rmaCqpi p) 15 0 + held) % 65536
  let s1 := if slot then onRma s (fun r => { r with recvRecs := r.recvRecs ++ [(p, (idx, cid))] }) else s
  postRecord s1 p (cqRecord 0 rsOk 1 cid bytes imm off)

/-- A WRITE packet (R304). -/
def doWrite (a : Arrival) (cid : Nat) (s : State) : ReqRes :=
  let c := ctxOf s cid
  match regionAddr s c a.pkt.rkey a.stamp a.pkt.roff.toNat a.pkt.data.length (fun e => e.write) false with
  | .inr r => .nak s r
  | .inl addr => targetAccess s c addr a.pkt.data.length true a.ecc (fun s => if a.pkt.data.isEmpty then s else engineWrite s addr a.pkt.data)

/-- Latency of a class-3 instance as its receiver measures it (R134): none on version 1, or from a party outside the job. -/
def rxLatency (c : Ctx) (d : XDecl) (a : Arrival) : Option Nat := if c.ver = 1 || outsideParty d then none else some (a.readyNs - a.pkt.etime.toNat)

/-- A packet of a message for a crossing (R126, R299): the buffer is taken with the first packet, and the instance is ready with the last. -/
def doCrossing (a : Arrival) (cid : Nat) (s : State) : ReqRes :=
  let c := ctxOf s cid
  match rxDecl s c.owner a.pkt.imm with
  | none => .nak s rsBadOp
  | some d =>
    if a.pkt.oplen.toNat ≠ d.lines * 64 then .nak s rsLength
    else match (if a.pkt.first then rxBegin s c.owner d else some s) with
      | none => .nak s rsRnr
      | some s1 =>
        let s2 := rxBytes s1 c.owner d (ctxOf s1 cid).opBytes a.pkt.data
        .done (if a.pkt.last then rxEnd s2 c.owner d (rxLatency c d a) a.waited a.ecc else s2)

/-- A WRITE_IMM to a region whose immediate makes a crossing's instance ready (R299): the receive buffer is looked for before any byte is written. -/
def doCrossingWrite (a : Arrival) (cid : Nat) (s : State) : ReqRes :=
  let c := ctxOf s cid
  match rxDecl s c.owner a.pkt.imm with
  | none => .nak s rsBadOp
  | some d => match (if a.pkt.first then rxBegin s c.owner d else some s) with
    | none => .nak s rsRnr
    | some s1 => match doWrite a cid s1 with
      | .nak s2 r => .nak (if a.pkt.first then rxFail s2 c.owner d else s2) r
      | .done s2 => .done (if a.pkt.last then rxEnd s2 c.owner d (rxLatency c d a) a.waited a.ecc else s2)

/-- A WRITE_IMM packet (R299): for a crossing its data goes to the receive buffer; otherwise it is a WRITE whose immediate follows its last byte. -/
def doWriteImm (a : Arrival) (cid : Nat) (s : State) : ReqRes :=
  let c := ctxOf s cid
  if c.deliver = 1 then (if a.pkt.rkey = 0 then doCrossing a cid s else doCrossingWrite a cid s)
  else match doWrite a cid s with
    | .nak s r => .nak s r
    | .done s1 =>
      if !a.pkt.last then .done s1
      else if c.deliver = 0 ∧ c.owner < 12 then .done (recvRecord s1 cid ((ctxOf s cid).opBytes + a.pkt.data.length) a.pkt.imm 0 false)
      else if c.deliver = 3 then .done s1
      else .done (toFirmware s1 cid (leBytes 8 a.pkt.imm.toNat))

/-- A SEND packet (R299): the next slot of the receive region and a RECV record, a crossing, firmware, or the marker endpoint. -/
def doSend (a : Arrival) (cid : Nat) (s : State) : ReqRes :=
  let c := ctxOf s cid
  if c.deliver = 1 then doCrossing a cid s
  else if c.deliver = 3 then .done s
  else if c.deliver = 2 ∨ 12 ≤ c.owner then .done (toFirmware s cid a.pkt.data)
  else
    let e := mapGet {} s.rma.regions (c.recvKey.toNat % 2 ^ 18)
    let slots := e.len / max 1 c.mss
    if !(e.valid && e.tag == c.recvKey.toNat / 2 ^ 18) || decide (slots ≤ c.recvUsed - c.recvFreed) then .nak s rsRnr
    else
      let off := c.recvUsed % max 1 slots * c.mss
      match targetAccess s c (e.base + off) a.pkt.data.length true a.ecc (fun s => if a.pkt.data.isEmpty then s else engineWrite s (e.base + off) a.pkt.data) with
      | .nak s r => .nak s r
      | .done s1 => .done (recvRecord (onCtx s1 cid (fun c => { c with recvUsed := c.recvUsed + 1 })) cid a.pkt.data.length a.pkt.imm off true)

/-- READ_RESP packets of `n` bytes from an address on, each of MSS at most. -/
def sendData : Nat → State → Nat → Arrival → Nat → Nat → Nat → State
  | 0, s, _, _, _, _, _ => s
  | k + 1, s, cid, a, addr, done, n =>
    let m := min (max 1 (ctxOf s cid).mss) (n - done)
    let s1 := sendPkt s cid omReadResp { barePkt a.pkt.psn.toNat with
      first := done == 0
      last := decide (n ≤ done + m)
      rkey := a.pkt.rkey
      roff := a.pkt.roff + BitVec.ofNat 64 done
      oplen := a.pkt.oplen
      data := rdBytes s (addr + done) m }
    if n ≤ done + m then s1 else sendData k s1 cid a addr (done + m) n

/-- A READ_REQ packet (R297, R304): answered with the region's bytes. -/
def doReadReq (a : Arrival) (cid : Nat) (s : State) : ReqRes :=
  let c := ctxOf s cid
  let n := a.pkt.oplen.toNat
  match regionAddr s c a.pkt.rkey a.stamp a.pkt.roff.toNat n (fun e => e.read) false with
  | .inr r => .nak s r
  | .inl addr => targetAccess s c addr n false a.ecc (fun s => sendData (n / 1024 + 2) s cid a addr 0 n)

/-- An ATOMIC_RESP with the old value (R298). -/
def sendAtomic (s : State) (cid psn : Nat) (old : DWord) : State :=
  sendPkt s cid omAtomicResp { barePkt psn with imm := old }

/-- An atomic on a 64-bit word: its old value is answered and cached, and its new value written where there is one (R298). -/
def doAtomic (a : Arrival) (cid : Nat) (f : DWord → Option DWord) (s : State) : ReqRes :=
  let c := ctxOf s cid
  match regionAddr s c a.pkt.rkey a.stamp a.pkt.roff.toNat 8 (fun e => e.atomic) true with
  | .inr r => .nak s r
  | .inl addr => if pagesBad s addr 8 then .nak s rsMemory else targetAccess s c addr 8 true a.ecc (fun s =>
      let old := BitVec.ofNat 64 (rdLe s addr 8)
      let s1 := match f old with | some v => engineWrite s addr (leBytes 8 v.toNat) | none => s
      sendAtomic (onCtx s1 cid (fun c => { c with atomics := ((a.pkt.psn.toNat, old) :: c.atomics).take 8 })) cid a.pkt.psn.toNat old)

/-- The immediate as the agreed version carries it. -/
def immOf (c : Ctx) (a : Arrival) : DWord := if c.ver = 1 then BitVec.ofNat 64 (a.pkt.imm.toNat % 2 ^ 32) else a.pkt.imm

/-- FADD (R298). -/
def doFadd (a : Arrival) (cid : Nat) (s : State) : ReqRes := doAtomic a cid (fun old => some (old + immOf (ctxOf s cid) a)) s
/-- CSWAP (R298): the first 8 data bytes are stored where the old value equals the immediate. -/
def doCswap (a : Arrival) (cid : Nat) (s : State) : ReqRes :=
  if a.pkt.data.length < 8 then .nak s rsLength
  else doAtomic a cid (fun old => if old = immOf (ctxOf s cid) a then some (BitVec.ofNat 64 (leNat (a.pkt.data.take 8))) else none) s

/-- The operation's length and version checks (R307): BAD_OP or LENGTH. -/
def requestFault (c : Ctx) (code : Nat) (a : Arrival) : Option Nat :=
  let n := a.pkt.data.length
  let sofar := if a.pkt.first then 0 else c.opBytes
  if a.pkt.ver.toNat ≠ c.ver ∨ a.pkt.reserved = true ∨ decide (0x30 ≤ code) = true then some rsBadOp
  else if !a.pkt.first && !c.opOpen then some rsLength
  else if 2 ^ 30 < a.pkt.oplen.toNat ∨ (code = omSend ∧ c.mss < n) then some rsLength
  else if carriesData code && (decide (a.pkt.oplen.toNat < sofar + n) || (a.pkt.last && a.pkt.oplen.toNat != sofar + n)) then some rsLength
  else none

/-- The owner of a context can take a request: its plot is up and not frozen (Table RMA-7); one answered with data finds it down from the detection of a VOID lane (R63, R308). -/
def targetUp (s : State) (c : Ctx) (code : Nat) : Bool :=
  plotUp s c.owner && !(decide (c.owner < 12) && (if answered code then nothingLeaves s c.owner else frozen s c.owner))

/-- A request packet that is next in order ends the state it leaves: performed, or its operation failed (R307). -/
def concludeReq (cid : Nat) (a : Arrival) (r : ReqRes) : State :=
  match r with
  | .done s =>
    let s1 := onCtx s cid (fun c => { c with
      rxPsn := (c.rxPsn + 1) % 2 ^ 32, opBytes := c.opBytes + a.pkt.data.length, opOpen := !a.pkt.last, unacked := c.unacked + 1 })
    if a.pkt.ackreq || decide (4 ≤ (ctxOf s1 cid).unacked) then sendAck s1 cid else s1
  | .nak s reason =>
    let c := ctxOf s cid
    let s0 := match rxDecl s c.owner a.pkt.imm with
      | some d => if c.deliver = 1 ∧ a.pkt.first = false ∧ reason ≠ rsRnr then rxFail s c.owner d else s
      | none => s
    let s1 := sendNak s0 cid c.opFirst reason
    if reason = rsRnr then onCtx s1 cid (fun c => { c with rxPsn := c.opFirst, opOpen := false })
    else
      let s2 := onCtx s1 cid (fun c => { c with rxPsn := (c.rxPsn + 1) % 2 ^ 32, opFailed := !a.pkt.last, opOpen := !a.pkt.last })
      if isViolation reason then violation s2 cid a reason else s2

/-- A request packet by its PSN (R297): the one expected is performed; an earlier one is answered ACK or its cached atomic; a later one is dropped, with one
ACK per RTO_US / 4. -/
def request (code : Nat) (perform : State → ReqRes) (a : Arrival) (cid : Nat) (s : State) : State :=
  let c := ctxOf s cid
  let psn := a.pkt.psn.toNat
  if psn = c.rxPsn then
    if c.opFailed && !a.pkt.first then
      onCtx s cid (fun c => { c with rxPsn := (c.rxPsn + 1) % 2 ^ 32, opFailed := !a.pkt.last, opOpen := !a.pkt.last })
    else
      let s1 := if a.pkt.first then onCtx s cid (fun c => { c with opFirst := psn, opBytes := 0, opFailed := false, opOpen := true }) else s
      concludeReq cid a (match requestFault c code a with
        | some r => .nak s1 r
        | none => if targetUp s1 c code then perform s1 else .nak s1 rsPlotDown)
  else if psnBefore psn c.rxPsn then
    if code = omFadd ∨ code = omCswap then
      (match c.atomics.find? (fun e => e.1 == psn) with
      | some e => sendAtomic s cid psn e.2
      | none => sendNak s cid psn rsBadOp)
    else sendAck s cid
  else if (match c.lastLater with | some t => decide (4 * t + rtoUs s ≤ 4 * s.tick) | none => true) then
    sendAck (onCtx s cid (fun c => { c with lastLater := some s.tick })) cid
  else s

/-! ### Responses at the initiator -/

/-- A malformed response of a storage target (R322). -/
def malformed (s : State) (o : RmaOp) : State :=
  match o.src with
  | .storage n =>
    let s1 := recordEvent (count s .stgXerr 1) 0x0901 (if o.plot < 12 then o.plot else moduleEvent) 2 islPacket n (BitVec.ofNat 32 o.cid) 0
    stgEnd (dropOp s1 o) n 7 0
  | _ => completeOp s o rsLength 0

/-- The oldest storage operation of a connection. -/
def storageOpOn (s : State) (cid : Nat) : Option RmaOp :=
  s.rma.ops.find? (fun o => o.cid == cid && (match o.src with | .storage _ => true | _ => false))

/-- STG_DONEn shows the blocks done. -/
def showDone (s : State) (o : RmaOp) (bytes : Nat) : State :=
  match o.src with | .storage n => wr s (.stgDone n) (BitVec.ofNat 32 (min bytes o.len / 4096)) | _ => s

/-- Data of a READ_RESP goes to the initiator's buffer (R297, R320). -/
def putLocal (s : State) (o : RmaOp) (bs : List Byte) (ecc : Ecc) : Option State :=
  let a := o.laddr + o.got
  if o.settling || bs.isEmpty then some s
  else if o.host then (match o.src with | .storage n => some (hostWrite s (.storage n) a true bs) | _ => some s)
  else if !engineMay s (engineFor s o.plot a) a bs.length true || ecc == .uncorrectable then none
  else some (engineWrite (memEcc s a ecc) a bs)

/-- READ_RESP (R297, R322): data in order is written; data that follows a lost packet is dropped, to be asked for again. -/
def rxReadResp (a : Arrival) (cid : Nat) (s : State) : State :=
  match s.rma.ops.find? (fun o => o.cid == cid && (o.code == omReadReq || o.code == 0x30) && o.firstPsn == some a.pkt.psn.toNat) with
  | none => match storageOpOn s cid with | some o => malformed s o | none => s
  | some o =>
    let n := a.pkt.data.length
    let want := if o.code = 0x30 then o.roff * 4096 + o.got else o.roff + o.got
    if o.len < o.got + n then malformed s o
    else if a.pkt.roff.toNat ≠ want then s
    else if decide (o.plot < 12) && rdFld s (.pltGen o.plot) 15 0 != o.gen then staleResult (dropOp s o) o.plot
    else match putLocal s o a.pkt.data a.ecc with
      | none => refuseOp (memEcc s (o.laddr + o.got) a.ecc) o (o.laddr + o.got) n true
      | some s1 =>
        let o1 := { o with got := o.got + n, acked := 1 }
        let s2 := showDone (putOp (onCtx s1 cid (fun c => { c with retries := 0 })) o1) o1 o1.got
        if o1.len ≤ o1.got ∨ settledOp o1 = true then completeOp s2 o1 rsOk 0 else s2

/-- ATOMIC_RESP (R298): completes its atomic with the old value; to a block verb it is malformed. -/
def rxAtomicResp (a : Arrival) (cid : Nat) (s : State) : State :=
  match s.rma.ops.find? (fun o => o.cid == cid && (o.code == omFadd || o.code == omCswap) && o.firstPsn == some a.pkt.psn.toNat) with
  | some o => completeOp (onCtx s cid (fun c => { c with retries := 0 })) { o with got := 8, acked := 1 } rsOk a.pkt.imm
  | none => match storageOpOn s cid with | some o => malformed s o | none => s

/-- Packets of an operation that a cumulative ACK up to a PSN covers. -/
def coveredBy (o : RmaOp) (psn : Nat) : Nat :=
  match o.firstPsn with
  | none => 0
  | some f => let d := (psn + 2 ^ 32 - f) % 2 ^ 32; if d ≤ 2 ^ 31 then min d o.sent else 0

/-- One operation learns of an ACK: it completes once every packet is covered, unless a response is still to come. -/
def ackOp (cid psn : Nat) (s : State) (o : RmaOp) : State :=
  let n := max o.acked (coveredBy o psn)
  let c := ctxOf s cid
  if n = o.acked ∧ settledOp o = false then s
  else
    let o1 := { o with acked := n }
    let s1 := putOp (onCtx s cid (fun c => { c with retries := 0 })) o1
    let s2 := if o.code = 0x31 then showDone s1 o1 (n * c.mss) else s1
    if settledOp o1 || (!answered o1.code && !o1.settling && decide (opPackets c.mss o1 ≤ n)) then completeOp s2 o1 rsOk 0 else s2

/-- A cumulative ACK (R297): every PSN below it is performed. -/
def ackUpTo (s : State) (cid psn : Nat) : State :=
  if psnBefore (ctxOf s cid).txPsn psn then s
  else (s.rma.ops.filter (fun o => o.cid == cid)).foldl (ackOp cid psn) s

/-- Stall cycles of the tiles whose SENDs wait for buffers of a connection are counted. -/
def chargeSenders (s : State) (cid waited : Nat) : State :=
  (s.rma.ops.filter (fun o => o.cid == cid)).foldl (fun s o => match o.src with
    | .crossing p x _ => match xdecl s p x with
      | some d => if decide (d.src < 128) && !(tile s d.src).held.isEmpty then chargeStall s d.src srcCross waited else s
      | none => s
    | _ => s) s

/-- ACK (R297): covered operations complete; more packets may leave. -/
def rxAck (a : Arrival) (cid : Nat) (s : State) : State := unfenceAll (pumpCtx (ackUpTo (chargeSenders s cid a.waited) cid a.pkt.psn.toNat) cid)

/-- What a NAK with a reason does to the operation it names (R299, R307). -/
def nakOp (cid : Nat) (s : State) (found : Option RmaOp) (reason : Nat) : State :=
  match found with
  | none => s
  | some o =>
    if reason = rsRnr then onCtx (putOp s { o with acked := 0 }) cid (fun c => { c with paused := true })
    else
      let c := ctxOf s cid
      let s1 := if isViolation reason then
          recordEvent s 0x0801 (if c.owner < 12 then c.owner else moduleEvent) 2 islPacket cid o.rkey (reason + o.roff % 2 ^ 32 * 65536)
        else s
      unfenceAll (pumpCtx (completeOp s1 { o with acked := o.sent } reason 0) cid)

/-- NAK (R299, R307): operations before it are performed; the one starting at its PSN completes with the reason, or for RNR waits to be resent. -/
def rxNak (a : Arrival) (cid : Nat) (s : State) : State :=
  let s1 := ackUpTo s cid a.pkt.psn.toNat
  nakOp cid s1 (s1.rma.ops.find? (fun o => o.cid == cid && o.firstPsn == some a.pkt.psn.toNat)) (a.pkt.oplen.toNat % 256)

/-- CLOSE (R292, R309): the context is CLOSED and its operations complete with CLOSED; a set-up that it answers has failed. -/
def rxClose (_a : Arrival) (cid : Nat) (s : State) : State := unfenceAll (irqCores (endContext s cid cxClosed rsClosed) netCores 16)

/-- The next epoch's keys from fresh nonces, this end's and the peer's (R295). -/
def nextEpoch (s : State) (cid : Nat) (own peer : BitVec 128) : State :=
  let s1 := onCtx s cid (fun c => { c with nonce := own, peerNonce := peer, nextKeys := true })
  let k := omfKeys s1 cid ((ctxOf s1 cid).epoch + 1)
  onCtx s1 cid (fun c => { c with nextTx := k.1, nextRx := k.2 })

/-- A sender switches to the next epoch's key (R295). -/
def switchTx (s : State) (cid : Nat) : State :=
  onCtx s cid (fun c => { c with txPhase := !c.txPhase, txCtr := 1, stopped := false, warned := false, epoch := c.epoch + 1, txKey := c.nextTx })

/-- The nonce that a rekey message carries in its data. -/
def pktNonce (a : Arrival) : BitVec 128 := BitVec.ofNat 128 (leNat (a.pkt.data.take 16))

/-- REKEY (R295): the next epoch's keys are derived and acknowledged under the current key; then this end sends under the new one. -/
def rxRekey (a : Arrival) (cid : Nat) (s : State) : State :=
  let own := freshNonce s
  let s1 := sendPkt (nextEpoch (draw s) cid own (pktNonce a)) cid omRekeyAck { barePkt (ctxOf s cid).rxPsn with data := leBytes 16 own.toNat }
  pumpCtx (irqCores (switchTx s1 cid) netCores 16) cid

/-- REKEY_ACK (R295): the sender switches key, flips KPHASE and restarts PCTR at 1; the message that asked is answered. -/
def rxRekeyAck (a : Arrival) (cid : Nat) (s : State) : State :=
  let c := ctxOf s cid
  if !c.rekeying then s
  else
    let s1 := switchTx (nextEpoch (onCtx s cid (fun c => { c with rekeying := false, owed := none })) cid c.nonce (pktNonce a)) cid
    let s2 := match c.owed with | some (o, seq, v, ty) => answer s1 o (BitVec.ofNat 32 seq) v ty stOk 0 [] | none => s1
    pumpCtx (irqCores s2 netCores 16) cid

/-- What an authenticated packet of each operation does. -/
def handlePkt (code : Nat) (a : Arrival) (cid : Nat) (s : State) : State :=
  if code = omWrite then request code (doWrite a cid) a cid s
  else if code = omWriteImm then request code (doWriteImm a cid) a cid s
  else if code = omReadReq then request code (doReadReq a cid) a cid s
  else if code = omSend then request code (doSend a cid) a cid s
  else if code = omFadd then request code (doFadd a cid) a cid s
  else if code = omCswap then request code (doCswap a cid) a cid s
  else if code = omReadResp then unfenceAll (rxReadResp a cid s)
  else if code = omAtomicResp then unfenceAll (rxAtomicResp a cid s)
  else if code = omAck then rxAck a cid s
  else if code = omNak then rxNak a cid s
  else if code = omClose then rxClose a cid s
  else if code = omRekey then rxRekey a cid s
  else if code = omRekeyAck then rxRekeyAck a cid s
  else request code (fun s => .nak s rsBadOp) a cid s

/-- A packet of a cached context (R296, R309): a context that is not open drops it. -/
def processPkt (code : Nat) (a : Arrival) (s : State) : State :=
  let cid := a.pkt.cid.toNat
  let c := ctxOf s cid
  if c.state ≠ cxOpen ∧ ¬(c.state = cxConnecting ∧ code = omClose) then s
  else if c.state = cxConnecting then
    (if a.auth then
      let s1 := onCtx s cid (fun c => { ctag := c.ctag, viols := 0 })
      match c.owed with | some (o, seq, v, ty) => irqCores (answer s1 o (BitVec.ofNat 32 seq) v ty stRefused 0 []) netCores 16 | none => irqCores s1 netCores 16
     else count s (.rmaCnt cnAuthfail) 1)
  else match authenticate s cid a with
    | (s1, false) => s1
    | (s1, true) => handlePkt code a cid s1

/-- A packet that the classifier has handed to the engine (R291, R301): a wrong context or tag is dropped and counted; a context not cached parks it. -/
def receivePkt (code : Nat) (a : Arrival) (s : State) : State :=
  let cid := a.pkt.cid.toNat
  let s0 := { s with net := { s.net with toRma := s.net.toRma.drop 1 } }
  if (ctxOf s cid).state = cxFree ∨ (ctxOf s cid).ctag ≠ a.pkt.ctag.toNat then count s0 (.rmaCnt cnBadcid) 1
  else if s.rma.cached.contains cid && s.rma.parked.all (fun q => q.cid != cid) then processPkt code a ((cacheIn s0 cid).getD s0)
  else park s0 code a

def execOmfWrite (a : Arrival) (s : State) : Host.Outcome State Fault Refusal := .next (receivePkt omWrite a s)
def execOmfWriteImm (a : Arrival) (s : State) : Host.Outcome State Fault Refusal := .next (receivePkt omWriteImm a s)
def execOmfReadReq (a : Arrival) (s : State) : Host.Outcome State Fault Refusal := .next (receivePkt omReadReq a s)
def execOmfReadResp (a : Arrival) (s : State) : Host.Outcome State Fault Refusal := .next (receivePkt omReadResp a s)
def execOmfSend (a : Arrival) (s : State) : Host.Outcome State Fault Refusal := .next (receivePkt omSend a s)
def execOmfFadd (a : Arrival) (s : State) : Host.Outcome State Fault Refusal := .next (receivePkt omFadd a s)
def execOmfCswap (a : Arrival) (s : State) : Host.Outcome State Fault Refusal := .next (receivePkt omCswap a s)
def execOmfAtomicResp (a : Arrival) (s : State) : Host.Outcome State Fault Refusal := .next (receivePkt omAtomicResp a s)
def execOmfAck (a : Arrival) (s : State) : Host.Outcome State Fault Refusal := .next (receivePkt omAck a s)
def execOmfNak (a : Arrival) (s : State) : Host.Outcome State Fault Refusal := .next (receivePkt omNak a s)
def execOmfClose (a : Arrival) (s : State) : Host.Outcome State Fault Refusal := .next (receivePkt omClose a s)
def execRekey (a : Arrival) (s : State) : Host.Outcome State Fault Refusal := .next (receivePkt omRekey a s)
def execRekeyAck (a : Arrival) (s : State) : Host.Outcome State Fault Refusal := .next (receivePkt omRekeyAck a s)
/-- A block verb that arrives is answered NAK BAD_OP as a violation (R316). -/
def execBlockVerb (code : Fin 4) (a : Arrival) (s : State) : Host.Outcome State Fault Refusal := .next (receivePkt (0x30 + code.val) a s)

/-- OMF_RNR (R301): honoured only if it echoes a PCTR sent within the last 2 × RTO_US; sending then waits for RNR_US. -/
def execOmfRnr (a : Arrival) (s : State) : Host.Outcome State Fault Refusal :=
  let cid := a.pkt.cid.toNat
  let c := ctxOf s cid
  let s0 := { s with net := { s.net with toRma := s.net.toRma.drop 1 } }
  .next (if c.state = cxFree ∨ c.ctag ≠ a.pkt.ctag.toNat then count s0 (.rmaCnt cnBadcid) 1
    else if c.recent.any (fun e => e.1 == a.pkt.pctr.toNat && decide (s.tick ≤ e.2 + 2 * rtoUs s)) then onCtx s0 cid (fun c => { c with paused := true })
    else s0)

/-! ### Timers (R294, R295, R297, R299) -/

/-- ACK_TIMER (R297): 2 µs after an unacknowledged packet. -/
def execAckTimer (cid : BitVec 16) (s : State) : Host.Outcome State Fault Refusal :=
  .next (if (ctxOf s cid.toNat).state = cxOpen ∧ 0 < (ctxOf s cid.toNat).unacked then sendAck s cid.toNat else s)

/-- Packets of an operation from the oldest unacknowledged on go out again, under new counters; a READ whose request was acknowledged asks for the rest
with a new PSN, an atomic under its own (R297).  Nothing goes out at the counter limit, nor from a plot that nothing leaves (R200, R294).  The count is of packets sent again. -/
def resendOp (cid : Nat) (r : State × Nat) (o : RmaOp) : State × Nat :=
  let s := r.1
  let c := ctxOf s cid
  if o.settling || o.sent = 0 || c.stopped || stopsFrozen s o then r
  else if (o.code == omReadReq || o.code == 0x30) && decide (1 ≤ o.acked) then
    let o1 := { o with firstPsn := some c.txPsn, acked := 0 }
    (sendPkt (onCtx (putOp s o1) cid (fun c => { c with txPsn := (c.txPsn + 1) % 2 ^ 32 })) cid o.code (opPkt c.mss o1 0 []), r.2 + 1)
  else
    let from' := if answered o.code then 0 else o.acked
    ((List.range (o.sent - from')).map (· + from')).foldl (fun r k => match pktData r.1 c.mss o k with
      | .ready bs => (sendPkt r.1 cid o.code (opPkt c.mss o k bs), r.2 + 1)
      | _ => r) r

/-- Everything outstanding on a connection is sent again, oldest first. -/
def resendAll (s : State) (cid : Nat) : State × Nat := (s.rma.ops.filter (fun o => o.cid == cid)).foldl (resendOp cid) (s, 0)

/-- Something sent on a connection has no answer yet. -/
def outstanding (s : State) (cid : Nat) : Bool :=
  s.rma.ops.any (fun o => o.cid == cid && decide (0 < o.sent) && (decide (o.acked < o.sent) || answered o.code))

/-- RETRANSMIT_TIMEOUT (R297): RTO_US without progress; after RETRY retransmissions the operations complete with TIMEOUT and the connection is in ERROR. -/
def execRetransmitTimeout (cid : BitVec 16) (s : State) : Host.Outcome State Fault Refusal :=
  let i := cid.toNat
  let c := ctxOf s i
  .next (if c.state ≠ cxOpen ∨ c.paused = true ∨ outstanding s i = false then s
    else if retryMax s ≤ c.retries then unfenceAll (endContext s i cxError rsTimeout)
    else
      let r := resendAll (onCtx s i (fun c => { c with retries := c.retries + 1 })) i
      count r.1 (.rmaCnt cnRetx) r.2)

/-- RNR_RESEND (R299, R301): RNR_US after an RNR, from the first PSN of the operation on; it does not count toward RETRY. -/
def execRnrResend (cid : BitVec 16) (s : State) : Host.Outcome State Fault Refusal :=
  let i := cid.toNat
  .next (if (ctxOf s i).paused then pumpCtx (resendAll (onCtx s i (fun c => { c with paused := false })) i).1 i else s)

/-- REKEY_TIMEOUT (R294): 10 ms at the counter limit without a rekey. -/
def execRekeyTimeout (cid : BitVec 16) (s : State) : Host.Outcome State Fault Refusal :=
  .next (if (ctxOf s cid.toNat).stopped ∧ (ctxOf s cid.toNat).state = cxOpen then unfenceAll (endContext s cid.toNat cxError rsCounter) else s)

/-- KPHASE_WINDOW_END (R295): 1 ms after the first packet of the new phase. -/
def execKphaseWindowEnd (cid : BitVec 16) (s : State) : Host.Outcome State Fault Refusal :=
  .next (if (ctxOf s cid.toNat).oldOk then onCtx s cid.toNat (fun c => { c with oldOk := false }) else s)

/-! ### Context fetches and slots -/

/-- CONTEXT_FETCH_DONE (R300 to R302): the context enters the cache and its parked frames leave parking in order; with no entry free the fetch waits. -/
def fetchDone (s : State) (cid : Nat) : State :=
  if !s.rma.fetching.contains cid then s
  else if (ctxOf s cid).hostStore && fnLost s (backingFn (ctxOf s cid)) then fetchFail s cid
  else match cacheIn s cid with
    | none => s
    | some s1 =>
      let mine := s.rma.parked.filter (fun q => q.cid == cid)
      let s2 := onRma s1 (fun r => { r with fetching := r.fetching.filter (· ≠ cid), parked := r.parked.filter (fun q => q.cid != cid) })
      pumpCtx (mine.foldl (fun s q => processPkt q.code q.arr s) s2) cid

def execContextFetchDone (cid : BitVec 16) (s : State) : Host.Outcome State Fault Refusal := .next (fetchDone s cid.toNat)

/-- CONTEXT_FETCH_FAIL (R302): 1 ms after its start. -/
def execContextFetchFail (cid : BitVec 16) (s : State) : Host.Outcome State Fault Refusal :=
  .next (if s.rma.fetching.contains cid.toNat then fetchFail s cid.toNat else s)

/-- OPERATION_SLOT_GRANT (R306): the first held source takes a freed slot. -/
def execOperationSlotGrant (s : State) : Host.Outcome State Fault Refusal :=
  .next (match s.rma.waitOps, freeSlot s with
    | o :: rest, some _ =>
      let s1 := startOp (onRma s (fun r => { r with waitOps := rest })) o
      (match o.src with | .ring p _ _ => takeWork 65536 s1 p | _ => s1)
    | _, _ => s)

/-- Who writes a plot's ring registers (R312): the PF, or the plot's VF. -/
def mayRing (m : Master) (p : Nat) : Bool := match m with | .pf => true | .vf q => q.val == p | .core _ => false

/-- WORK_REQUEST (R306, R312): a write of RMA_WQPI; the engine takes the requests. -/
def execWorkRequest (m : Master) (p : Fin 12) (index : BitVec 16) (s : State) : Host.Outcome State Fault Refusal :=
  .next (if mayRing m p then takeWork 65536 (wr s (.rmaWqpi p) (BitVec.ofNat 32 index.toNat)) p else s)

/-- Held completion records enter the ring as it has room (R312). -/
def drainRecs : Nat → State → Nat → State
  | 0, s, _ => s
  | n + 1, s, p =>
    match s.rma.heldRecs.find? (fun e => e.1 == p) with
    | none => s
    | some e =>
      if ringN s p ≤ (rdFld s (.rmaCqpi p) 15 0 + 65536 - rdFld s (.rmaCqci p) 15 0) % 65536 then s
      else drainRecs n (postRecord (onRma s (fun r => { r with heldRecs := r.heldRecs.erase e })) p e.2) p

/-- RMA_CQCI (R312): records read; held ones follow, and receive slots whose records were read are free again. -/
def execRmaCqci (m : Master) (p : Fin 12) (index : BitVec 16) (s : State) : Host.Outcome State Fault Refusal :=
  let old := rdFld s (.rmaCqci p) 15 0
  let passed := fun (e : Nat × (Nat × Nat)) => e.1 == p.val && decide ((e.2.1 + 65536 - old) % 65536 < (index.toNat + 65536 - old) % 65536)
  .next (if !mayRing m p then s
    else
      let s1 := (s.rma.recvRecs.filter passed).foldl (fun s e => onCtx s e.2.2 (fun c => { c with recvFreed := c.recvFreed + 1 })) s
      let s2 := onRma s1 (fun r => { r with recvRecs := r.recvRecs.filter (fun e => !passed e) })
      drainRecs 65536 (wr s2 (.rmaCqci p) (BitVec.ofNat 32 index.toNat)) p)

/-- EGRESS_SCHEDULE (R278 to R281): the sub-port's scheduler sends the next eligible frame; frames and packets that waited for room follow. -/
def execEgressSchedule (port : Fin 16) (sub : Fin 4) (ns : Nat) (s : State) : Host.Outcome State Fault Refusal :=
  .next (match schedule s port sub ns with
    | none => s
    | some s1 =>
      let s2 := forAll (fun s k => drainHeld s k s.net.held) s1 (subQueues s1 port sub)
      forAll pumpCtx s2 ((s2.rma.ops.map (fun o => o.cid)).eraseDups))

end Sys2Proof.Machine
end

