-- ==== Sys2Proof/Machine/RmaCmd.lean ====
section
/-! DEFINITION. Connection set-up, close, rekey and regions: the messages of Table RMA-8, set-up packets, revocation, and RMA_CMD (R291, R292, R300, R303,
R305, R311). -/
set_option Elab.async false
namespace Sys2Proof.Machine

/-! ### Connections (R291, R292) -/

/-- The lowest FREE context of the 65,536. -/
def freeCtx (s : State) : Option Nat := (List.range 65536).find? (fun i => (ctxOf s i).state == cxFree)

/-- A context becomes FREE, keeping only its reuse tag; what it held in the cache and in parking goes. -/
def releaseCtx (s : State) (cid : Nat) : State :=
  let s1 := onCtx s cid (fun c => { ctag := c.ctag })
  onRma s1 (fun r => { r with cached := r.cached.filter (· ≠ cid), fetching := r.fetching.filter (· ≠ cid), parked := r.parked.filter (fun q => q.cid != cid) })

/-- The long-term connection key is held. -/
def connKeyHeld (s : State) (keyId : Word) : Bool := (longKey s keyId.toNat).isSome

/-- The largest MSS that an egress queue's port allows (R292 step 5): a packet of 130 bytes more fits MAXFRAME. -/
def mssFor (s : State) (cid : Nat) : Nat :=
  ([8192, 4096, 2048].find? (fun m => decide (m + 130 ≤ maxFrame s (ctxQueue s cid / 512)))).getD 1024

/-- A set-up packet of a context, in clear text (R292): the range VMIN 1 to VMAX 2, the agreed version of an OPEN_ACK, its index and tag, nonce, key identifier and MSS. -/
def sendOpen (s : State) (cid op ver : Nat) : State :=
  let c := ctxOf s cid
  let q : OpenPkt := { vmin := 1, vmax := 2, peerCid := BitVec.ofNat 16 cid, peerTag := BitVec.ofNat 16 c.ctag, nonce := c.nonce, keyId := BitVec.ofNat 32 c.keyId, mss := c.mss,
                       macOk := true, addr := c.peerAddr, port := BitVec.ofNat 16 c.peerPort, ipv6 := c.ipv6 }
  placeFrame s (ctxQueue s cid) { body := .setup op cid ver q, len := omfLen c 0, entered := 1000 * s.tick }

/-- CLOSE with reason VERSION, in answer to an OPEN_REQ that no context was opened for (R292 step 2). -/
def refuseOpen (s : State) (q : OpenPkt) : State :=
  placeFrame s (ctxQueue s 0) (omfFrame s 0 omClose { barePkt 0 with ver := 2, cid := q.peerCid, ctag := q.peerTag, oplen := Config.closeReason 0 })

/-- A context is allocated: its CTAG rises by 1 (R291). -/
def allocCtx (s : State) (cid : Nat) (f : Ctx → Ctx) : State := onCtx s cid (fun c => f { ctag := (c.ctag + 1) % 65536 })

/-- The keys of a connection's first epoch are placed in its key slot (R292 step 4). -/
def newKeys (s : State) (cid : Nat) : State := onCtx s cid (fun c => { c with txKey := (omfKeys s cid 0).1, rxKey := (omfKeys s cid 0).2 })

/-- Owner of what a message asks for: the plot it names, or the module. -/
def msgOwner (m : Msg) : Nat := match m.plot with | some p => p.val | none => 12

/-- RMA_OPEN (R291, R292): a context is allocated, CONNECTING, and OPEN_REQ goes out; the response follows with the set-up's end. -/
def execRmaOpen (m : Msg) (addr : BitVec 128) (port : BitVec 16) (keyId : Word) (deliver : Fin 4) (recvKey : Word) (hostStore ipv6 : Bool) (s : State) :
    Host.Outcome State Fault Refusal :=
  .next (serve s m { type := 0x40, vf := true } (fun s =>
    if !connKeyHeld s keyId then respond s m 0x40 stRefused 0 []
    else match freeCtx s with
      | none => respond s m 0x40 stNoSpace 0 []
      | some cid =>
        let s1 := allocCtx (draw s) cid (fun c => { c with
          initiator := true, nonce := freshNonce s, state := cxConnecting, owner := msgOwner m, peerAddr := addr, peerPort := port.toNat, keyId := keyId.toNat, deliver := deliver, recvKey := recvKey
          hostStore := hostStore, ipv6 := ipv6, keySlot := cid, owed := some (m.owner.val, m.seq.toNat, m.version, 0x40) })
        let s2 := onCtx s1 cid (fun c => { c with mss := mssFor s1 cid })
        sendOpen ((cacheIn s2 cid).getD s2) cid omOpenReq 0))

/-- OPEN_REQ (R292): with its CMAC right and a common version the responder opens a context, for the plot that the classifier's rule named, and answers
OPEN_ACK; with none it answers CLOSE with reason VERSION. -/
def execOpenReq (q : OpenPkt) (plot : Fin 13) (s : State) : Host.Outcome State Fault Refusal :=
  .next (if !q.macOk || !connKeyHeld s q.keyId then count s (.rmaCnt cnAuthfail) 1
    else
      let ver := min q.vmax.toNat 2
      if ver < q.vmin.toNat ∨ ver < 1 then irqCores (refuseOpen s q) netCores 16
      else match freeCtx s with
        | none => irqCores s netCores 16
        | some cid =>
          let s1 := allocCtx (draw s) cid (fun c => { c with
            state := cxOpen, ver := ver, owner := plot, peerCid := q.peerCid.toNat, peerTag := q.peerTag.toNat, peerAddr := q.addr, peerPort := q.port.toNat
            ipv6 := q.ipv6, keyId := q.keyId.toNat, nonce := freshNonce s, peerNonce := q.nonce, keySlot := cid })
          let s2 := newKeys (onCtx s1 cid (fun c => { c with mss := min q.mss (mssFor s1 cid) })) cid
          let s3 := irqCores ((cacheIn s2 cid).getD s2) netCores 16
          sendOpen s3 cid omOpenAck ver)

/-- OPEN_ACK (R292): the connection opens at the agreed version and MSS, and RMA_OPEN is answered with its DCID. -/
def execOpenAck (cid ctag : BitVec 16) (ver : Byte) (q : OpenPkt) (s : State) : Host.Outcome State Fault Refusal :=
  let i := cid.toNat
  let c := ctxOf s i
  .next (if c.state ≠ cxConnecting ∨ c.ctag ≠ ctag.toNat then count s (.rmaCnt cnBadcid) 1
    else if !q.macOk then count s (.rmaCnt cnAuthfail) 1
    else
      let s1 := newKeys (onCtx s i (fun c => { c with
        state := cxOpen, ver := ver.toNat, peerCid := q.peerCid.toNat, peerTag := q.peerTag.toNat, mss := min c.mss q.mss, peerNonce := q.nonce, owed := none })) i
      let s2 := match c.owed with | some (o, seq, v, ty) => answer s1 o (BitVec.ofNat 32 seq) v ty stOk 0 (leBytes 2 i ++ leBytes 2 c.ctag) | none => s1
      irqCores s2 netCores 16)

/-- The sender of a message may name a context: any for the PF and the management port, its plot's for a VF. -/
def ownsCtx (m : Msg) (c : Ctx) : Bool :=
  if 1 ≤ m.owner.val ∧ m.owner.val ≤ 12 then c.owner + 1 == m.owner.val else true

/-- RMA_CLOSE (R291): CLOSE goes out, operations complete with CLOSED, the context is FREE. -/
def execRmaClose (m : Msg) (dcid : Word) (s : State) : Host.Outcome State Fault Refusal :=
  .next (serve s m { type := 0x41, vf := true } (fun s =>
    let i := dcid.toNat % 65536
    let c := ctxOf s i
    if c.state = cxFree ∨ c.ctag ≠ dcid.toNat / 65536 ∨ ownsCtx m c = false then respond s m 0x41 stRefused 0 []
    else
      let s1 := if c.state = cxOpen then sendPkt s i omClose { barePkt c.txPsn with oplen := Config.closeReason 2 } else s
      respond (releaseCtx (unfenceAll (endContext s1 i cxClosed rsClosed)) i) m 0x41 stOk 0 []))

/-- RMA_REKEY (R295): REKEY goes out under the current key; answered with REKEY_ACK. -/
def execRmaRekey (m : Msg) (dcid : Word) (s : State) : Host.Outcome State Fault Refusal :=
  .next (serve s m { type := 0x42, vf := true } (fun s =>
    let i := dcid.toNat % 65536
    let c := ctxOf s i
    if c.state ≠ cxOpen ∨ c.ctag ≠ dcid.toNat / 65536 ∨ ownsCtx m c = false then respond s m 0x42 stRefused 0 []
    else if c.rekeying then respond s m 0x42 stBusy 0 []
    else
      let own := freshNonce s
      let s1 := onCtx (draw s) i (fun c => { c with rekeying := true, nonce := own, owed := some (m.owner.val, m.seq.toNat, m.version, 0x42) })
      sendPkt s1 i omRekey { barePkt c.txPsn with data := leBytes 16 own.toNat }))

/-! ### Regions (R303, R305) -/

/-- A region entry. -/
def regionEnt (s : State) (i : Nat) : RegionEntry := mapGet {} s.rma.regions i
/-- The state with a region entry set. -/
def setRegion (s : State) (i : Nat) (e : RegionEntry) : State := onRma s (fun r => { r with regions := mapInsert r.regions i e })
/-- The key of an entry: TAG × 2^18 + INDEX. -/
def regionKey (s : State) (i : Nat) : Word := BitVec.ofNat 32 ((regionEnt s i).tag * 2 ^ 18 + i)

/-- An extent lies within one enabled LPDDR5X region of its owner, or one tile scratchpad of its plot (R303). -/
def regionFits (s : State) (owner base len : Nat) : Bool :=
  let t := (base - scratchBase) / 0x400000
  decide (1 ≤ len) && decide (len ≤ 2 ^ 40) &&
    (if scratchBase ≤ base then decide (t < 128) && decide (owner < 12) && inPlot s owner t && decide (base + len ≤ scratchBase + (t + 1) * 0x400000)
     else (List.range 32).any (fun n => bit (rd s (.lpxRgnctl n)) 31 && (if owner < 12 then n == owner else decide (16 ≤ n))
       && decide (regionBase s n ≤ base) && decide (base + len ≤ regionBase s n + regionSize s n)))

/-- RMA_REG (R303): the lowest free entry is registered with its TAG raised; the response is its key. -/
def execRmaReg (m : Msg) (base len : Nat) (read write atomic : Bool) (s : State) : Host.Outcome State Fault Refusal :=
  .next (serve s m { type := 0x43, vf := true } (fun s =>
    if !regionFits s (msgOwner m) base len then respond s m 0x43 stRefused 0 []
    else match (List.range 262144).find? (fun i => !(regionEnt s i).valid && (regionEnt s i).revoking.isNone) with
      | none => respond s m 0x43 stNoSpace 0 []
      | some i =>
        let s1 := setRegion s i { tag := ((regionEnt s i).tag + 1) % 2 ^ 14, owner := msgOwner m, read := read, write := write, atomic := atomic, valid := true, base := base, len := len }
        respond s1 m 0x43 stOk 0 (leBytes 4 (regionKey s1 i).toNat)))

/-- A revocation enters the classifier's sequence, taking its admission stamp, and the entry becomes REVOKING (R305). -/
def admitRevoke (s : State) (v : Revocation) : State :=
  let s1 := { s with net := { s.net with stamp := s.net.stamp + 1 } }
  let st := s1.net.stamp
  setRegion (onRma s1 (fun r => { r with revocations := r.revocations ++ [{ v with stamp := st }] })) v.index
    { regionEnt s1 v.index with valid := false, revoking := some st }

/-- A revocation enters, or waits for one of the 64 places. -/
def startRevoke (s : State) (v : Revocation) : State :=
  if s.rma.revocations.length < 64 then admitRevoke s v else onRma s (fun r => { r with revokeWait := r.revokeWait ++ [v] })

/-- RMA_REVOKE (R305): of a valid key of the sender's; answered when every packet admitted before has been settled. -/
def execRmaRevoke (m : Msg) (key : Word) (s : State) : Host.Outcome State Fault Refusal :=
  .next (serve s m { type := 0x44, vf := true } (fun s =>
    let i := key.toNat % 2 ^ 18
    let e := regionEnt s i
    if !e.valid || e.tag != key.toNat / 2 ^ 18 || (decide (1 ≤ m.owner.val) && decide (m.owner.val ≤ 12) && e.owner + 1 != m.owner.val)
        || s.rma.revokeWait.any (fun v => v.index == i) then respond s m 0x44 stRefused 0 []
    else startRevoke s { index := i, stamp := 0, owed := some (m.owner.val, m.seq.toNat, m.version) }))

/-- A revocation ends: the entry may be registered again, the response is posted, and a waiting one enters. -/
def endRevoke (s : State) (v : Revocation) : State :=
  let s1 := setRegion (onRma s (fun r => { r with revocations := r.revocations.filter (fun x => x.index != v.index) })) v.index
    { regionEnt s v.index with valid := false, revoking := none, revoked := true }
  let s2 := match v.owed with | some (o, seq, ver) => answer s1 o (BitVec.ofNat 32 seq) ver 0x44 stOk 0 [] | none => s1
  match s2.rma.revokeWait with
  | w :: rest => admitRevoke (onRma s2 (fun r => { r with revokeWait := rest })) w
  | [] => s2

/-- REVOKE_COMPLETE (R305): no packet admitted before the stamp is parked that names the key, nor is a frame admitted before it still on its way to the engine. -/
def execRevokeComplete (index : BitVec 18) (s : State) : Host.Outcome State Fault Refusal :=
  .next (match s.rma.revocations.find? (fun v => v.index == index.toNat) with
    | none => s
    | some v =>
      if s.net.toRma.any (fun f => decide (f.stamp < v.stamp)) || s.rma.parked.any (fun q => q.arr.pkt.rkey == regionKey s v.index && decide (q.arr.stamp < v.stamp)) then s
      else endRevoke s v)

/-! ### RMA_CMD (R300, R303, R311) -/

/-- RMA_CMD is written by network and management firmware only (R311). -/
def mayRmaCmd (m : Master) : Bool := match m with | .core c => decide (2 ≤ c.val) && decide (c.val ≤ 21) | _ => false

/-- The context as Table RMA-5 lays it out, 256 bytes; the engine's own state reads 0. -/
def ctxBytes (c : Ctx) : List Byte :=
  leBytes 1 c.state ++ leBytes 1 c.ver ++ leBytes 1 c.owner
    ++ leBytes 1 (boolNat (c.pinned || c.planned) + 2 * boolNat c.txPhase + 4 * boolNat c.rxPhase + 8 * boolNat c.ipv6 + 16 * boolNat c.hostStore)
    ++ leBytes 2 c.peerCid ++ leBytes 2 c.peerTag ++ leBytes 16 c.peerAddr.toNat ++ leBytes 2 c.peerPort ++ leBytes 2 c.mss ++ leBytes 1 c.deliver
    ++ leBytes 1 c.viols ++ leBytes 2 c.flow ++ leBytes 8 c.txCtr ++ leBytes 8 c.rxHi ++ leBytes 8 c.rxWin.toNat ++ leBytes 4 c.txPsn ++ leBytes 4 c.rxPsn
    ++ leBytes 4 c.recvKey.toNat ++ leBytes 2 c.keySlot ++ List.replicate 186 0

/-- RMA_DATA from a word on, from bytes. -/
def putRmaData (s : State) (bs : List Byte) : State :=
  forAll (fun s k => wr s (.rmaData k) (BitVec.ofNat 32 (leAt bs (4 * k) 4))) s (List.range (bs.length / 4))
/-- RMA_DATA as bytes. -/
def rmaDataBytes (s : State) : List Byte := (List.range 64).flatMap (fun k => leBytes 4 (rd s (.rmaData k)).toNat)

/-- A command ends: RMA_CMD shows its operation and index, ERR where it was refused, and network firmware is interrupted (Table FWM-19). -/
def rmaCmdDone (s : State) (op index : Nat) (ok : Bool) : State :=
  irqCores (wr s .rmaCmd (BitVec.ofNat 32 ((if ok then rdFld s .rmaCmd 29 29 else 1) * 2 ^ 29 + op * 2 ^ 26 + index))) netCores 19

/-- A command from a master that may give it. -/
def rmaCmd (m : Master) (op : Nat) (index : BitVec 18) (s : State) (ok : Bool) (f : State → State) : State :=
  if !mayRmaCmd m then s else rmaCmdDone (if ok then f s else s) op index.toNat ok

/-- RMA_READ_CONTEXT. -/
def execRmaReadContext (m : Master) (index : BitVec 18) (s : State) : Host.Outcome State Fault Refusal :=
  .next (rmaCmd m 0 index s (decide (index.toNat < 65536)) (fun s => putRmaData s (ctxBytes (ctxOf s index.toNat))))

/-- A context from the bytes of RMA_DATA: KEYSLOT, PINNED and the engine's own state are kept (Table RMA-5). -/
def ctxFrom (c : Ctx) (b : List Byte) : Ctx :=
  let fl := leAt b 3 1
  { c with
    state := leAt b 0 1, ver := leAt b 1 1, owner := leAt b 2 1, txPhase := fl.testBit 1, rxPhase := fl.testBit 2, ipv6 := fl.testBit 3, hostStore := fl.testBit 4
    peerCid := leAt b 4 2, peerTag := leAt b 6 2, peerAddr := BitVec.ofNat 128 (leAt b 8 16), peerPort := leAt b 24 2, mss := leAt b 26 2, deliver := leAt b 28 1
    viols := leAt b 29 1, flow := leAt b 30 2, txCtr := leAt b 32 8, rxHi := leAt b 40 8, rxWin := BitVec.ofNat 64 (leAt b 48 8), txPsn := leAt b 56 4
    rxPsn := leAt b 60 4, recvKey := BitVec.ofNat 32 (leAt b 64 4) }

/-- RMA_WRITE_CONTEXT. -/
def execRmaWriteContext (m : Master) (index : BitVec 18) (s : State) : Host.Outcome State Fault Refusal :=
  .next (rmaCmd m 1 index s (decide (index.toNat < 65536)) (fun s => onCtx s index.toNat (fun c => ctxFrom c (rmaDataBytes s))))

/-- RMA_READ_REGION (Table RMA-6). -/
def execRmaReadRegion (m : Master) (index : BitVec 18) (s : State) : Host.Outcome State Fault Refusal :=
  .next (rmaCmd m 2 index s true (fun s =>
    let e := regionEnt s index.toNat
    putRmaData s (leBytes 4 (regionKey s index.toNat).toNat ++ leBytes 1 e.owner
      ++ leBytes 1 (boolNat e.read + 2 * boolNat e.write + 4 * boolNat e.atomic + 8 * boolNat e.valid + 16 * boolNat e.revoking.isSome) ++ leBytes 2 0
      ++ leBytes 8 (e.base % 2 ^ 40) ++ leBytes 8 e.len ++ leBytes 8 0)))

/-- RMA_WRITE_REGION (R303): a registration raises the entry's TAG; one that lies nowhere it may, or whose entry is being revoked, is refused. -/
def execRmaWriteRegion (m : Master) (index : BitVec 18) (s : State) : Host.Outcome State Fault Refusal :=
  let b := rmaDataBytes s
  let e := regionEnt s index.toNat
  let perm := leAt b 5 1
  let valid := perm.testBit 3
  let ok := e.revoking.isNone && decide (leAt b 4 1 ≤ 12) && (!valid || regionFits s (leAt b 4 1) (leAt b 8 8 % 2 ^ 40) (leAt b 16 8))
  .next (rmaCmd m 3 index s ok (fun s => setRegion s index.toNat
    { tag := if valid then (e.tag + 1) % 2 ^ 14 else e.tag, owner := leAt b 4 1, read := perm.testBit 0, write := perm.testBit 1, atomic := perm.testBit 2,
      valid := valid, base := leAt b 8 8 % 2 ^ 40, len := leAt b 16 8 }))

/-- Contexts pinned. -/
def pinnedCount (s : State) : Nat := (s.rma.ctxs.filter (fun e => e.2.pinned || e.2.planned)).length

/-- RMA_PIN (R300): refused beyond 2,048; a context not cached is fetched. -/
def execRmaPin (m : Master) (index : BitVec 18) (s : State) : Host.Outcome State Fault Refusal :=
  let i := index.toNat
  let ok := decide (i < 65536) && ((ctxOf s i).pinned || (ctxOf s i).planned || decide (pinnedCount s < 2048))
  .next (rmaCmd m 4 index s ok (fun s =>
    let s1 := onCtx s i (fun c => { c with pinned := true })
    if s.rma.cached.contains i then s1 else fetchStart s1 i))

/-- RMA_UNPIN (R300). -/
def execRmaUnpin (m : Master) (index : BitVec 18) (s : State) : Host.Outcome State Fault Refusal :=
  .next (rmaCmd m 5 index s (decide (index.toNat < 65536)) (fun s => onCtx s index.toNat (fun c => { c with pinned := false })))

/-- The revoke operation of RMA_CMD, which owes no response (R305). -/
def revokeCmd (m : Master) (index : BitVec 18) (s : State) : State :=
  rmaCmd m 6 index s ((regionEnt s index.toNat).valid && s.rma.revokeWait.all (fun v => v.index != index.toNat))
    (fun s => startRevoke s { index := index.toNat, stamp := 0, owed := none })

end Sys2Proof.Machine
end

