-- ==== Sys2Proof/Machine/Storage.lean ====
section
/-! DEFINITION. Storage channels: commands, abort and reset, power, namespace bindings (R313 to R330). -/
set_option Elab.async false
namespace Sys2Proof.Machine

/-- Who writes a channel's registers (R313, R330): management and security firmware any; the PF host-owned channels; a VF those of its plot. -/
def mayStg (s : State) (m : Master) (n : Nat) : Bool :=
  match m with
  | .pf => channelOwner s n == 12
  | .vf p => channelOwner s n == p.val
  | .core c => (decide (2 ≤ c.val) && decide (c.val ≤ 5)) || decide (22 ≤ c.val)

/-- First block, blocks, buffer of the task registers. -/
def stgLba (s : State) (n : Nat) : Nat := rdFld s (.stgLbahi n) 15 0 * 2 ^ 32 + (rd s (.stgLbalo n)).toNat
def stgBlks (s : State) (n : Nat) : Nat := rdFld s (.stgBlks n) 12 0
def stgBuf (s : State) (n : Nat) : Nat := (rd s (.stgBufhi n)).toNat * 2 ^ 32 + (rd s (.stgBuflo n)).toNat
def stgHost (s : State) (n : Nat) : Bool := bit (rd s (.stgBufctl n)) 0

/-- The binding's owner is the channel's. -/
def bindingOf (s : State) (n nsb : Nat) : Option Binding :=
  match mapFind s.stg.bindings nsb with
  | some b => if b.owner = channelOwner s n ∧ b.unbind = none then some b else none
  | none => none

/-- The checks of Table STG-2 in order: the status that ends the command at once, if one fails. -/
def stgCheck (s : State) (n op nsb : Nat) : Option Nat :=
  let o := channelOwner s n
  let blks := stgBlks s n
  if o = 14 then some 2
  else if rdFld s (.stgCtl n) 29 28 = 2 then some 0xB
  else if 3 < op ∨ (op ≠ 2 ∧ (blks = 0 ∨ 4096 < blks)) ∨ (op = 2 ∧ blks ≠ 0) ∨ stgBuf s n % 64 ≠ 0 ∨ (stgHost s n ∧ n < 4) then some 2
  else match bindingOf s n nsb with
    | none => some 3
    | some b =>
      if b.capacity < stgLba s n + blks then some 4
      else if b.readOnly ∧ (op = 1 ∨ op = 3) then some 5
      else if o < 12 ∧ (plotUp s o = false ∨ frozen s o = true) then some 0xA
      else if stgHost s n ∧ fnLost s (governing s (.storage n)) = true then some 9
      else none

/-- GO (R317, R318, R329): ignored while BUSY; refused by a check, the command ends at once; else it records the generations, takes an operation slot or waits
for one, and issues its block verb, a WRITE to a sheaf with the sheaf's bytes. -/
def stgGo (m : Master) (n op : Nat) (irq : Bool) (nsb tag : Nat) (s : State) : State :=
  if !mayStg s m n then s
  else if stgState s n = sgBusy ∨ stgState s n = sgAborting then count s .stgRefused 1
  else
    let s1 := wr (wr s (.stgCmd n) (BitVec.ofNat 32 (op % 8 * 2 ^ 28 + boolNat irq * 2 ^ 27 + nsb * 2 ^ 16 + tag))) (.stgDone n) 0
    match stgCheck s1 n op nsb with
    | some code =>
      let s2 := wr s1 (.stgStatus n) (stgStatusWord code 0 tag)
      if irq then stgSignal s2 n none else s2
    | none =>
      let o := channelOwner s1 n
      let b := (bindingOf s1 n nsb).getD { cid := 0, ctag := 0, nsid := 0, capacity := 0, readOnly := false, owner := 0 }
      let gen := if o < 12 then rdFld s1 (.pltGen o) 15 0 else 0
      let hg := hgen s1 (governing s1 (.storage n))
      let c : StgCmd := { code := 0x30 + op, nsb := nsb, lba := stgLba s1 n, blks := stgBlks s1 n, buf := stgBuf s1 n, host := stgHost s1 n, tag := tag, irq := irq,
                          gen := gen, hgen := hg, slot := none }
      let s2 := wr (wrFld (onStg s1 (fun g => { g with cmds := mapInsert g.cmds n c })) (.stgCtl n) 29 28 0) (.stgStatus n) (BitVec.ofNat 32 (sgBusy * 2 ^ 29 + tag))
      if (ctxOf s2 b.cid).ctag ≠ b.ctag then stgEnd s2 n 7 rsClosed
      else
        let d := if op = 1 then sheafData s2 n nsb (stgLba s1 n) (stgBlks s1 n) else (s2, none)
        startOp d.1 { slot := 0, cid := b.cid, src := .storage n, gen := gen, hgen := hg, plot := if o < 12 then o else 12, code := 0x30 + op, rkey := b.nsid,
                        roff := if op = 2 then 0 else stgLba s1 n, len := stgBlks s1 n * 4096, laddr := stgBuf s1 n, host := stgHost s1 n, data := d.2 }

/-- STG_READ: BREAD (Table STG-3). -/
def execStgRead (m : Master) (n : Fin 64) (irq : Bool) (nsb : Byte) (tag : Half) (s : State) : Host.Outcome State Fault Refusal :=
  .next (stgGo m n 0 irq nsb.toNat tag.toNat s)
/-- STG_WRITE: BWRITE. -/
def execStgWrite (m : Master) (n : Fin 64) (irq : Bool) (nsb : Byte) (tag : Half) (s : State) : Host.Outcome State Fault Refusal :=
  .next (stgGo m n 1 irq nsb.toNat tag.toNat s)
/-- STG_FLUSH: BFLUSH (R319). -/
def execStgFlush (m : Master) (n : Fin 64) (irq : Bool) (nsb : Byte) (tag : Half) (s : State) : Host.Outcome State Fault Refusal :=
  .next (stgGo m n 2 irq nsb.toNat tag.toNat s)
/-- STG_DEALLOC: BDEALLOC. -/
def execStgDealloc (m : Master) (n : Fin 64) (irq : Bool) (nsb : Byte) (tag : Half) (s : State) : Host.Outcome State Fault Refusal :=
  .next (stgGo m n 3 irq nsb.toNat tag.toNat s)

/-- The operation of a channel, if it has a slot. -/
def stgOp (s : State) (n : Nat) : Option RmaOp := s.rma.ops.find? (fun o => o.src == .storage n)

/-- A command is asked to end with a status (R323, R324, R325, R328): with nothing sent, or nothing unanswered, at once; else once what was sent has settled.  Of one that
is being asked already only a RESET changes the status (Table STG-7). -/
def stgAsk (s : State) (n code : Nat) : State :=
  match stgCmdOf s n with
  | none => s
  | some c => if c.ending.isSome ∧ code ≠ 0xC then s else
    let s1 := wrFld (onStg s (fun g => { g with cmds := mapInsert g.cmds n { c with ending := some code } })) (.stgStatus n) 31 29 sgAborting
    match stgOp s n with
    | none => stgSettled (onRma s1 (fun r => { r with waitOps := r.waitOps.filter (fun o => !(o.src == .storage n)) })) n
    | some o => if o.sent ≤ o.acked then stgSettled (dropOp s1 o) n else putOp s1 { o with settling := true }

/-- STG_ABORT (R323, R329): best effort, by tag. -/
def execStgAbort (m : Master) (n : Fin 64) (atag : Half) (s : State) : Host.Outcome State Fault Refusal :=
  let s1 := wrFld s (.stgCtl n) 15 0 atag.toNat
  let hit := match stgCmdOf s n with | some c => c.tag == atag.toNat | none => false
  .next (if !mayStg s m n then s
    else if stgState s n = sgAborting ∧ hit = true then s1
    else if stgState s n = sgBusy ∧ hit = true then stgAsk s1 n 1
    else count s1 .stgAbortmiss 1)

/-- A channel is reset (R324): a busy command ends RESET whatever its tag, an idle channel clears its status; the task registers return to reset. -/
def stgReset (s : State) (n : Nat) : State :=
  if (stgCmdOf s n).isSome then stgAsk s n 0xC else wr (stgClearTask s n) (.stgStatus n) 0

/-- CHANNEL_RESET (R324). -/
def execChannelReset (m : Master) (n : Fin 64) (s : State) : Host.Outcome State Fault Refusal := .next (if mayStg s m n then stgReset s n else s)

/-- ABORT_SETTLE_TIMEOUT (R323): packets sent have stayed unanswered for RTO_US after the abort. -/
def execAbortSettleTimeout (n : Fin 64) (s : State) : Host.Outcome State Fault Refusal :=
  .next (match stgOp s n with
    | some o => if o.settling then stgSettled (dropOp s o) n else s
    | none => s)

/-- CHANNEL_POWER_ON (R326). -/
def execChannelPowerOn (m : Master) (n : Fin 64) (s : State) : Host.Outcome State Fault Refusal :=
  .next (if mayStg s m n then wrFld (onStg s (fun g => { g with offDue := g.offDue.filter (· ≠ n.val) })) (.stgCtl n) 29 28 0 else s)

/-- An ordinary channel goes OFF, after the command that runs (R327). -/
def stgOff (s : State) (n : Nat) : State :=
  if n < 4 then s
  else if (stgCmdOf s n).isSome then onStg s (fun g => { g with offDue := addPage g.offDue n })
  else wrFld s (.stgCtl n) 29 28 2

/-- CHANNEL_POWER_OFF (R326, R327). -/
def execChannelPowerOff (m : Master) (n : Fin 64) (s : State) : Host.Outcome State Fault Refusal := .next (if mayStg s m n then stgOff s n else s)

/-- CHANNEL_DOZE (R326): IDLE_US idle. -/
def execChannelDoze (n : Fin 64) (s : State) : Host.Outcome State Fault Refusal :=
  .next (if (stgCmdOf s n).isNone && rdFld s (.stgCtl n) 29 28 == 0 then wrFld s (.stgCtl n) 29 28 1 else s)

/-! ### Bindings (R315) -/

/-- The sender may act on a binding of an owner: a VF for its own plot only. -/
def mayBind (m : Msg) (owner : Nat) : Bool := if 1 ≤ m.owner.val ∧ m.owner.val ≤ 12 then owner + 1 == m.owner.val else owner < 12 || owner == 12 || owner == 15

/-- STG_BIND: the lowest of 256 indices; an open connection of version 2 whose owner is the binding's, the module's serving the host too. -/
def execStgBind (m : Msg) (dcid : Word) (nsid : Word) (capacity : Nat) (readOnly : Bool) (owner : Fin 16) (s : State) : Host.Outcome State Fault Refusal :=
  .next (serve s m { type := 0x50, vf := true } (fun s =>
    let c := ctxOf s (dcid.toNat % 65536)
    if !mayBind m owner then respond s m 0x50 stNotPermitted 0 []
    else if c.state ≠ cxOpen ∨ c.ctag ≠ dcid.toNat / 65536 ∨ c.ver ≠ 2 ∨ c.owner ≠ min owner.val 12 then respond s m 0x50 stRefused 0 []
    else match (List.range 256).find? (fun i => (mapFind s.stg.bindings i).isNone) with
      | none => respond s m 0x50 stNoSpace 0 []
      | some i =>
        let b : Binding := { cid := dcid.toNat % 65536, ctag := c.ctag, nsid := nsid, capacity := capacity, readOnly := readOnly, owner := owner }
        respond (onStg s (fun g => { g with bindings := mapInsert g.bindings i b })) m 0x50 stOk 0 (leBytes 4 i)))

/-- STG_UNBIND: answered after the last command on the binding; new commands are refused from now on. -/
def execStgUnbind (m : Msg) (index : Byte) (s : State) : Host.Outcome State Fault Refusal :=
  .next (serve s m { type := 0x51, vf := true } (fun s =>
    match mapFind s.stg.bindings index.toNat with
    | none => respond s m 0x51 stRefused 0 []
    | some b =>
      if !mayBind m b.owner then respond s m 0x51 stNotPermitted 0 []
      else if b.unbind.isSome then respond s m 0x51 stBusy 0 []
      else stgUnbindDone (onStg s (fun g => { g with bindings := mapInsert g.bindings index.toNat { b with unbind := some (m.owner.val, m.seq.toNat, m.version) } })) index.toNat))

/-- STG_QUERY: the binding's fields and the channels now using it. -/
def execStgQuery (m : Msg) (index : Byte) (s : State) : Host.Outcome State Fault Refusal :=
  .next (serve s m { type := 0x52, vf := true } (fun s =>
    match mapFind s.stg.bindings index.toNat with
    | none => respond s m 0x52 stRefused 0 []
    | some b =>
      if !mayBind m b.owner then respond s m 0x52 stNotPermitted 0 []
      else respond s m 0x52 stOk 0 (leBytes 2 b.cid ++ leBytes 2 b.ctag ++ leBytes 4 b.nsid.toNat ++ leBytes 8 b.capacity ++ leBytes 1 (boolNat b.readOnly) ++ leBytes 1 b.owner
        ++ ((s.stg.cmds.filter (fun e => e.2.nsb == index.toNat)).map (fun e => BitVec.ofNat 8 e.1)))))

end Sys2Proof.Machine
end

