-- ==== Sys2Proof/Machine/HostIf.lean ====
section
/-! DEFINITION. The host endpoint: link, heartbeats and loss, mailbox reset and HELLO, power states, translation, host reads coming back, BAR2, the expansion
ROM and received faults (R207, R247, R248, R331 to R352). -/
set_option Elab.async false
namespace Sys2Proof.Machine

/-- Function f exists: the PF, or a VF that NumVFs reaches (R333). -/
def fnExists (s : State) (f : Nat) : Bool := f == 0 || (s.host.vfEnable && decide (f ≤ s.host.numVfs))
/-- PLOT field of an event about a function: a VF's plot. -/
def fnPlot (f : Nat) : Nat := if f = 0 then moduleEvent else f - 1

/-- Identity in configuration space (R333, Table HIF-2): Vendor and Subsystem Vendor ID, which the fuse field PCI_VID holds, Device ID and class code. -/
def functionId (s : State) (f : Nat) : Half × Half × BitVec 24 := (BitVec.ofNat 16 (fld (fuse s 36) 15 0), if f = 0 then 0x5C1A else 0x5C1B, 0x120000)

/-! ### Translation (R341, R342) -/

/-- A read outstanding or waiting uses a page of an invalidated range. -/
def rangeBusy (s : State) (v : Invalidation) : Bool :=
  s.host.reads.any (fun r => r.fn == v.fn && (match r.page with | some g => decide (v.page ≤ g) && decide (g < v.page + v.pages) | none => false))

/-- An invalidation ends: its entries go, the completion is sent, HIF_INVCNT rises. -/
def endInvalidation (s : State) (v : Invalidation) : State :=
  let covered := fun (e : AtcEntry) => e.fn == v.fn && decide (e.page < v.page + v.pages) && decide (v.page < e.page + e.pages)
  let s1 := onHost s (fun h => { h with invalidations := h.invalidations.filter (fun x => !(x == v)), atc := h.atc.filter (fun e => !covered e) })
  count (emit s1 (.message v.fn "INVALIDATION_COMPLETION" v.tag)) .hifInvcnt 1

/-- Invalidations whose reads have all completed end. -/
def drainInvalidations (s : State) : State :=
  (s.host.invalidations.filter (fun v => !rangeBusy s v)).foldl endInvalidation s

/-- INVALIDATION_REQUEST (R342, R348): new use of the covered entries stops; the completion follows once covered reads have completed, at once in
heartbeat loss. -/
def execInvalidationRequest (f : Fin 13) (tag page pages : Nat) (s : State) : Host.Outcome State Fault Refusal :=
  let v : Invalidation := { fn := f, tag := tag, page := page, pages := pages }
  let s1 := onHost s (fun h => { h with
    invalidations := h.invalidations ++ [v]
    atc := h.atc.map (fun e => if e.fn == f.val && decide (e.page < page + pages) && decide (page < e.page + e.pages) then { e with stopped := true } else e) })
  .next (if fnLost s f then endInvalidation s1 v else drainInvalidations s1)

/-- A ring with a failed access clears its ENABLE; what was taken runs on, its completion records discarded (R343). -/
def ringFail (s : State) (p : Nat) : State :=
  let s1 := wrBit (dropSource s (.ring p)) (.rmaRctl p) 31 false
  let mute := fun (o : RmaOp) => match o.src with | .ring q _ _ => if q = p then { o with mute := true } else o | _ => o
  onRma s1 (fun r => { r with ringReads := r.ringReads.filter (· ≠ p), ringHeld := r.ringHeld.filter (fun e => e.1 != p), heldRecs := r.heldRecs.filter (fun e => e.1 != p),
                              ops := r.ops.map mute, waitOps := r.waitOps.map mute })

/-- A host access error of a source (R343): counted, an event, and what the source does. -/
def hostError (s : State) (q : HostSource) : State :=
  let s1 := count s .hifHaerr 1
  let s2 := recordEvent s1 0x0A02 (fnPlot (governing s q)) 1 islPcie (governing s q) (rd s1 .hifHaerr) 0
  match q with
  | .storage n => dropSource (stgEnd (match stgOp s2 n with | some o => dropOp s2 o | none => s2) n 6 0) (.storage n)
  | .ring p => ringFail s2 p
  | .backing cid => fetchFail s2 cid
  | .feed k => feedDrop s2 k (governing s q - 1)

/-- INVALIDATION_TIMEOUT (R342): 1 ms after the request the completion is sent regardless, and the reads that used a covered entry fail. -/
def execInvalidationTimeout (f : Fin 13) (tag : Nat) (s : State) : Host.Outcome State Fault Refusal :=
  .next (match s.host.invalidations.find? (fun v => v.fn == f.val && v.tag == tag) with
    | none => s
    | some v =>
      let hit := s.host.reads.filter (fun r => r.fn == v.fn && (match r.page with | some g => decide (v.page ≤ g) && decide (g < v.page + v.pages) | none => false))
      let s1 := onHost s (fun h => { h with reads := h.reads.filter (fun r => !hit.contains r) })
      endInvalidation (hit.foldl (fun s r => hostError s r.source) s1) v)

/-- TRANSLATION_COMPLETION (R341, R343): a grant of a size and target fills an entry and the requests that waited go out; no access fails them. -/
def execTranslationCompletion (f : Fin 13) (page : Nat) (grant : Option (Nat × Nat)) (s : State) : Host.Outcome State Fault Refusal :=
  .next (if !s.host.translating.contains (f.val, page) then s
    else
      let s1 := onHost s (fun h => { h with translating := h.translating.filter (fun x => !(x == (f.val, page))) })
      match grant with
      | some (pages, target) =>
        let e : AtcEntry := { fn := f, page := page, pages := max 1 pages, target := target, stopped := false, lastUse := s.host.uses }
        feedRelease 0 (retryHost (onHost s1 (fun h => { h with granted := h.granted ++ [e] })))
      | none =>
        -- a feed instance goes as a whole (R343)
        let bad := (s1.host.waiting.filter (fun r => r.fn == f.val && r.addr / 4096 == page)).map (fun r => (r.source, r.tag))
        let same := fun (r : HostReq) => bad.any (fun e => e.1 == r.source && (match r.source with | .feed _ => e.2 == r.tag | _ => r.addr / 4096 == page))
        feedRelease 0 (retryHost (bad.eraseDups.foldl (fun s e => hostError s e.1) (onHost s1 (fun h => { h with waiting := h.waiting.filter (fun r => !same r) })))))

/-! ### Host reads (R337, R338, R343, R349) -/

/-- HOST_READ_COMPLETION: data of a read that the SL-1 issued, for the source that asked; one of an earlier host generation or for a source that has gone is
dropped, and one of an earlier plot generation is discarded and counted (R387). -/
def execHostReadCompletion (tag : Nat) (bytes : List Byte) (s : State) : Host.Outcome State Fault Refusal :=
  .next (match s.host.reads.find? (fun r => r.tag == tag) with
    | none => onFn s 0 (fun x => { x with aer := addPage x.aer 7 })
    | some r =>
      let s1 := drainInvalidations (onHost s (fun h => { h with reads := h.reads.erase r }))
      let s2 := if r.hgen ≠ hgen s r.fn ∨ fnLost s r.fn = true then s1
        else if r.gen ≠ sourceGen s r.source then staleResult s1 (sourcePlot s r.source)
        else match r.source with
          | .storage n => (match stgOp s1 n with
            | some o => if o.settling then s1 else pumpCtx (putOp s1 { o with chunks := o.chunks ++ [(r.off, bytes.take r.len)] }) o.cid
            | none => s1)
          | .ring p =>
            let s2 := onRma s1 (fun x => { x with ringReads := x.ringReads.filter (· ≠ p) })
            if ringOn s2 p then takeWork 65536 (takeEntry s2 p bytes) p else s2
          | .backing cid => fetchDone s1 cid
          | .feed _ => s1
      feedRelease 0 (retryHost s2))

/-- HOST_ACCESS_ERROR (R343): of the read with a tag, or of a source's other access. -/
def execHostAccessError (tag : Option Nat) (src : HostSource) (s : State) : Host.Outcome State Fault Refusal :=
  .next (match tag with
    | some t => match s.host.reads.find? (fun r => r.tag == t) with
      | none => onFn s 0 (fun x => { x with aer := addPage x.aer 7 })
      | some r => feedRelease 0 (retryHost (hostError (drainInvalidations (onHost s (fun h => { h with reads := h.reads.erase r }))) r.source))
    | none => hostError s src)

/-! ### Heartbeat loss (R347, R348) -/

/-- Storage channels whose command moves data of host memory that function f governs. -/
def hostCommands (s : State) (f : Nat) : List Nat :=
  (s.stg.cmds.filter (fun e => e.2.host && governing s (.storage e.1) == f)).map (fun e => e.1)

/-- Function f enters heartbeat loss (R348). -/
def enterLoss (s : State) (f : Nat) : State :=
  if fnLost s f then s
  else
    let n := rdFld s (.hifHstat f) 7 0
    let s1 := onFn (wr s (.hifHstat f) (BitVec.ofNat 32 (2 ^ 31 + satNat (n + 1) 255))) f (fun x => { x with heldVectors := [], hello := false })
    let s2 := irqCores (recordEvent s1 0x0A01 (fnPlot f) 2 islPcie f (rd s1 (.hifHstat f)) 0) mgmtCores 20
    let s3 := (hostCommands s2 f).foldl (fun s c => stgAsk s c 9) s2
    let s4 := (allPlots.filter (fun p => ringOn s3 p && !bit (rd s3 (.rmaRctl p)) 30 && mapGet 0 s3.rma.ringFn p == f)).foldl ringFail s3
    let s5 := (s4.rma.fetching.filter (fun c => (ctxOf s4 c).hostStore && backingFn (ctxOf s4 c) == f)).foldl fetchFail s4
    let s6 := (s5.host.invalidations.filter (fun v => v.fn == f)).foldl endInvalidation s5
    let s7 := onHost s6 (fun h => { h with
      atc := h.atc.filter (fun e => e.fn != f), granted := h.granted.filter (fun e => e.fn != f), translating := h.translating.filter (fun e => e.1 != f)
      waiting := h.waiting.filter (fun r => r.fn != f), held := h.held.filter (fun r => r.fn != f), reads := h.reads.filter (fun r => r.fn != f) })
    feedRelease 0 s7

/-- Functions that exist. -/
def functions (s : State) : List Nat := (List.range 13).filter (fnExists s)

/-- HEARTBEAT (R347): a write of HIF_HB is ignored in loss; else it restarts the watch, and arms it once HELLO has been answered. -/
def execHeartbeat (f : Fin 13) (v : Word) (s : State) : Host.Outcome State Fault Refusal :=
  .next (if fnLost s f then s
    else
      let s1 := wr s (.hifHb f) v
      if (fnState s f).hello then wrBit s1 (.hifHstat f) 30 true else s1)

/-- HEARTBEAT_LOSS (R347): TIMEOUT_MS without a write while armed and in D0. -/
def execHeartbeatLoss (f : Fin 13) (s : State) : Host.Outcome State Fault Refusal :=
  .next (if bit (rd s (.hifHstat f)) 30 && (fnState s f).dstate == 0 then enterLoss s f else s)

/-! ### Link (R332) -/

/-- OPTSEL selects x8 (Table RST-1), once it has been sampled. -/
def linkX8 (s : State) : Bool := !s.power.sampleDue && !bit (rd s .rstBoot) 21

/-- A link that the part can train to (Table HIF-1): a rate, a width within what OPTSEL selects, FLIT mode at 64 GT/s. -/
def linkLegal (s : State) (rate width : Nat) (flit : Bool) : Bool :=
  decide (1 ≤ rate) && [1, 2, 4, 8, 16].contains width && !(linkX8 s && decide (8 < width)) && (flit || rate != 6)

/-- LINK_UP (R331, R332, R406): with the PCIe island released and PERST_N deasserted. -/
def execLinkUp (rate : Fin 7) (width : Fin 17) (flit : Bool) (s : State) : Host.Outcome State Fault Refusal :=
  .next (if s.host.perst ∨ bit (rd s (.rstInrst 0)) 5 = true ∨ linkLegal s rate width flit = false then s
    else wr s .hifLink (BitVec.ofNat 32 (2 ^ 31 + boolNat flit * 2 ^ 30 + rate.val * 2 ^ 27 + width.val * 2 ^ 22)))

/-- The link goes down: every function enters heartbeat loss; plots keep serving. -/
def linkDown (s : State) : State :=
  forAll enterLoss (wr s .hifLink 0) (functions s)

/-- LINK_DOWN. -/
def execLinkDown (s : State) : Host.Outcome State Fault Refusal := .next (linkDown s)

/-! ### Mailbox reset and HELLO (R247, R248, R350) -/

/-- A mailbox's rings are emptied and its indices 0. -/
def emptyBox (s : State) (o : Nat) : State :=
  let s1 := onBox s o (fun b => { b with requests := [], posted := [], held := [], noHello := true, helloDue := none })
  wr (wr (wr (wr s1 (.mbxTfpi o) 0) (.mbxTfci o) 0) (.mbxFfpi o) 0) (.mbxFfci o) 0

/-- MBX_RESET (R247, R347): MBX_CTRL.RESET; with the heartbeat armed the function enters loss.  The management port has no such register. -/
def execMbxReset (owner : Fin 14) (s : State) : Host.Outcome State Fault Refusal :=
  let o := owner.val
  .next (if o = mgmtPort then s else emptyBox (if bit (rd s (.hifHstat o)) 30 then enterLoss s o else s) o)

/-- Fused CONFIG (Table SEC-1): COMPACT_OFF, DBG_PERMLOCK and DBG_OWNER. -/
def fuseCompactOff (s : State) : Bool := bit (fuse s 35) 4
def fusePermlock (s : State) : Bool := bit (fuse s 35) 5
def fuseDbgOwner (s : State) : Bool := bit (fuse s 35) 6

/-- A debug session could open (R376). -/
def debugClass (s : State) : Bool := !fusePermlock s && (s.sec.layoutClass == 0 || (s.sec.layoutClass == 4 && fuseDbgOwner s))

/-- Feature bits that firmware offers an owner (Table FWM-8). -/
def offered (s : State) (o : Nat) : Nat :=
  let wide := o == 0 || o == mgmtPort
  boolNat wide * 7 + boolNat (!fuseCompactOff s) * 8 + boolNat (o == 0) * 16 + 32 + 64 + boolNat (debugClass s) * 128 + 256

/-- HELLO (R247, R328, R350): in version 1; agrees a version and features, issues the next host generation, and drops what an earlier one left; it is answered once the
commands of the earlier generation have settled. -/
def execHello (m : Msg) (features : BitVec 256) (vmax vmin : Byte) (s : State) : Host.Outcome State Fault Refusal :=
  let o := m.owner.val
  let s1 := takeRequest s m 0x01
  let own := o == 0 || o == mgmtPort || (match m.plot with | some p => p.val + 1 == o | none => false)
  let ver := min vmax.toNat 3
  .next (if beyondLimit s m then s
    else if !s.fw.up then answer s1 o m.seq m.version 0x01 stNotReady 0 []
    else if !own then answer s1 o m.seq m.version 0x01 stNotPermitted 0 []
    else if m.length ≠ 40 then answer s1 o m.seq 1 0x01 stBadLength 0 []
    else if m.version ≠ 1 ∨ ver < vmin.toNat ∨ ver < 1 then answer s1 o m.seq 1 0x01 stBadVersion 0 []
    else
      let feats := leBytes 32 (Nat.land features.toNat (offered s o))
      let s2 := wr s1 (.fwmHgen o) (rd s1 (.fwmHgen o) + 1)
      let s3 := onBox s2 o (fun b => { b with
        requests := b.requests.filter (fun r => r.seq == m.seq), held := [], noHello := false, version := ver, features := feats, helloDue := some (m.seq, ver, feats) })
      helloDone (if o = mgmtPort then s3 else (hostCommands s3 o).foldl (fun s c => stgAsk s c 9) s3) o)

/-! ### Function-level reset and D-states (R345, R346, R351) -/

/-- FLR of one function: heartbeat loss, then configuration space but its sticky bits, mailbox, MSI-X table and heartbeat registers at reset; LOST stays,
for the function is in loss until a HELLO (Table HIF-9). -/
def resetFn (s : State) (f : Nat) : State :=
  let s1 := emptyBox (enterLoss s f) f
  let s2 := onFn s1 f (fun x => { aer := x.aer, pmeEn := x.pmeEn, pmeStatus := x.pmeStatus })
  wrBit (resetRegs s2 (fun r => r == .hifHb f || r == .hifHbcfg f || r == .hifHstat f)) (.hifHstat f) 31 true

/-- FLR (R351): of the PF it clears VF Enable, and every VF enters loss with it. -/
def execFlr (f : Fin 13) (s : State) : Host.Outcome State Fault Refusal :=
  let s1 := resetFn s f
  .next (if f.val = 0 then onHost (forAll enterLoss s1 ((functions s1).filter (· ≠ 0))) (fun h => { h with vfEnable := false, romEnable := false }) else s1)

/-- Ordinary channels that a function owns (R327). -/
def fnChannels (s : State) (f : Nat) : List Nat :=
  (List.range 64).filter (fun n => decide (4 ≤ n) && (if f = 0 then channelOwner s n == 12 else channelOwner s n + 1 == f))

/-- D_STATE_CHANGE (R327, R345, R346, Table HIF-7): leaving D0 holds the function's traffic and turns its channels off; D3cold is a link down; a return to D0
issues what was held; from D3cold only PERST_N leads back.  A VF has D0 and D3hot only. -/
def execDStateChange (f : Fin 13) (d : Fin 5) (s : State) : Host.Outcome State Fault Refusal :=
  let old := (fnState s f).dstate
  .next (if (f.val ≠ 0 ∧ d.val ≠ 0 ∧ d.val ≠ 3) ∨ old = 4 then s
    else
      let s1 := onFn s f (fun x => { x with dstate := d })
      if d.val = 0 then
        if old = 0 then s1
        else
          let held := s1.host.held.filter (fun r => r.fn == f.val)
          let vs := (fnState s1 f).heldVectors
          let s2 := onFn (onHost s1 (fun h => { h with held := h.held.filter (fun r => r.fn != f.val) })) f (fun x => { x with heldVectors := [] })
          feedRelease 0 (vs.foldl (fun s v => sendMsix s f v) (held.foldl issueReq s2))
      else
        let s2 := if old = 0 then forAll stgOff s1 (fnChannels s1 f) else s1
        if d.val = 4 then linkDown s2 else s2)

/-! ### BAR2 (R202, R207, R335) -/

/-- An answer of Unsupported Request, or a posted request dropped: counted, and logged in AER (R344). -/
def unsupported (s : State) (f row : Nat) (posted : Bool) : State :=
  let s1 := count (onFn s f (fun x => { x with aer := addPage x.aer row })) .hifUrcnt 1
  if posted then s1 else emit s1 (.completion 1 [])

/-- Device address of n bytes at a BAR2 offset: within its slot's enabled host region and its first 4 GiB. -/
def bar2Addr (s : State) (off n : Nat) : Option Nat :=
  let r := 12 + off / 2 ^ 32
  let o := off % 2 ^ 32
  if bit (rd s .hifB2ctl) 31 && (fnState s 0).memEnable && (fnState s 0).dstate == 0 && regionOpen s r && decide (1 ≤ n) && decide (o + n ≤ min (2 ^ 32) (regionSize s r)) then some (regionBase s r + o) else none

/-- Lines of n bytes from an address on. -/
def linesOf (a n : Nat) : List Nat := (List.range ((a + n - 1) / 64 - a / 64 + 1)).map (· + a / 64)

/-- A BAR2 read: a line that holds an uncorrectable error answers Completer Abort (Table MEM-7). -/
def bar2Read (s : State) (off n : Nat) (ecc : Ecc) : State :=
  match bar2Addr s off n with
  | none => unsupported s 0 2 false
  | some a =>
    let s1 := lpxEcc s a ecc
    if ecc = .uncorrectable ∨ pagesBad s1 a n = true then emit (onFn s1 0 (fun x => { x with aer := addPage x.aer 4 })) (.completion 2 [])
    else emit s1 (.completion 0 (rdBytes s1 a n))

/-- A BAR2 write: a line that holds an uncorrectable error takes only a write of all its 64 bytes, which clears it. -/
def bar2Write (s : State) (off : Nat) (bs : List Byte) (ecc : Ecc) : State :=
  match bar2Addr s off bs.length with
  | none => unsupported s 0 2 true
  | some a =>
    let whole := fun (l : Nat) => decide (a ≤ l * 64) && decide (l * 64 + 64 ≤ a + bs.length)
    let partBad := ecc == .uncorrectable && !(decide (a % 64 = 0) && decide (bs.length % 64 = 0))
    let s1 := if partBad ∨ ecc = .corrected then lpxEcc s a ecc else s
    let drop := fun (l : Nat) => s1.ram.bad.contains l && !whole l
    let s2 := { s1 with ram := { s1.ram with bad := s1.ram.bad.filter (fun l => !((linesOf a bs.length).contains l && whole l)) } }
    (linesOf a bs.length).foldl (fun s l =>
      if drop l then s
      else
        let lo := max a (l * 64)
        let hi := min (a + bs.length) (l * 64 + 64)
        wrBytes s lo ((bs.drop (lo - a)).take (hi - lo))) s2

/-- BAR2_READ (R164, R207, R335): waits while an LPDDR5X rate change runs. -/
def execBar2Read (off : BitVec 34) (len : Nat) (ecc : Ecc) (s : State) : Host.Outcome State Fault Refusal :=
  .next (if s.power.changing.isSome then { s with ram := { s.ram with bar2Waits := s.ram.bar2Waits ++ [.bar2Read off len ecc] } } else bar2Read s off.toNat len ecc)
/-- BAR2_WRITE (R164, R207, R335): performed in arrival order. -/
def execBar2Write (off : BitVec 34) (bytes : List Byte) (ecc : Ecc) (s : State) : Host.Outcome State Fault Refusal :=
  .next (if s.power.changing.isSome then { s with ram := { s.ram with bar2Waits := s.ram.bar2Waits ++ [.bar2Write off bytes ecc] } } else bar2Write s off.toNat bytes ecc)

/-- BAR2 accesses that waited for a rate change are performed in arrival order. -/
def bar2Drain (s : State) : State :=
  s.ram.bar2Waits.foldl (fun s i => match i with
    | .bar2Read off len ecc => bar2Read s off.toNat len ecc
    | .bar2Write off bs ecc => bar2Write s off.toNat bs ecc
    | _ => s) { s with ram := { s.ram with bar2Waits := [] } }

/-! ### Expansion ROM and received faults (R336, R344) -/

/-- EXPANSION_ROM_READ (R336): served from the copy while the ROM BAR and memory space are enabled; beyond the partition 0xFF. -/
def execExpansionRomRead (off len : Nat) (s : State) : Host.Outcome State Fault Refusal :=
  .next (match s.host.rom with
    | some bs =>
      if s.host.romEnable && (fnState s 0).memEnable && decide (off + len ≤ 0x100000) then
        emit s (.completion 0 ((List.range len).map (fun i => bs.getD (off + i) 0xFF)))
      else unsupported s 0 1 false
    | none => unsupported s 0 1 false)

/-- RECEIVED_TLP_FAULT (R344): the rows of Table HIF-6 in order; each is logged in AER.  A poisoned completion or a timeout is of the oldest read that the function governs
(DESIGN CHOICE, log entry 132). -/
def execReceivedTlpFault (f : Fin 13) (row : Fin 9) (posted : Bool) (s : State) : Host.Outcome State Fault Refusal :=
  let s1 := onFn s f (fun x => { x with aer := addPage x.aer row })
  .next (match row.val with
    | 0 => count s1 .hifMalcnt 1
    | 1 => unsupported s f 1 posted
    | 2 => unsupported s f 2 posted
    | 3 => unsupported s f 3 posted
    | 4 => emit s1 (.completion 2 [])
    | 5 => count s1 .hifMalcnt 1
    | 6 => match s1.host.reads.find? (fun r => r.fn == f.val) with
      | some r => feedRelease 0 (retryHost (hostError (drainInvalidations (onHost s1 (fun h => { h with reads := h.reads.erase r }))) r.source))
      | none => s1
    | _ => s1)

end Sys2Proof.Machine
end

