-- ==== Sys2Proof/Machine/Firmware.lean ====
section
/-! DEFINITION. Mailbox rings, component updates and image distribution (R239 to R255). -/
set_option Elab.async false
namespace Sys2Proof.Machine

/-! ### Mailboxes -/

/-- The message types of the manual (Tables FWM-6, RMA-9, STG-1, SEC-14, PLT-8, RST-8, CKP-4, R445). -/
def knownTypes : List Nat :=
  [0x01, 0x10, 0x11, 0x12, 0x18, 0x19, 0x1A, 0x1B, 0x20, 0x21, 0x40, 0x41, 0x42, 0x43, 0x44, 0x50, 0x51, 0x52] ++
  [0x60, 0x61, 0x62, 0x63, 0x64, 0x65, 0x66, 0x68, 0x69, 0x6A, 0x6B, 0x6C, 0x70, 0x71, 0x72, 0x73, 0x74, 0x75, 0x76, 0x77] ++
  [0x80, 0x81, 0x82, 0x83, 0x84, 0x90, 0x91, 0x92, 0x93, 0xA0]

/-- A request is in its slot and TFPI advances (R244, R246): the hardware responder answers NOT_READY while management firmware is down; firmware answers an unknown TYPE so
where the request passes the gates of every request, and leaves any other waiting to be served. -/
def enterRequest (s : State) (m : Msg) (type : Nat) : State :=
  let o := m.owner.val
  let s1 := wr s (.mbxTfpi o) (BitVec.ofNat 32 ((rdFld s (.mbxTfpi o) 15 0 + 1) % 0x10000))
  let s2 := onBox s1 o (fun b => { b with requests := b.requests ++ [⟨type, m.seq, false, plotByte m⟩] })
  if !s2.fw.up then respond s2 m type stNotReady 0 []
  else if knownTypes.contains type then (if o = 0 then irqCores s2 mgmtCores 10 else if o < mgmtPort then irqCores s2 mgmtCores 13 else s2)
  else match gateStatus s2 m { type := type, vf := true } with
    | some (st, v) => answer s2 o m.seq v type st 0 []
    | none => respond s2 m type stUnknownType 0 []

/-- The ring takes no request: it is full, or N are outstanding (R244). -/
def ringFull (s : State) (o : Nat) : Bool := decide (ringSlots o ≤ tfUsed s o) || decide (ringSlots o ≤ (box s o).requests.length)

/-- The driver writes a request's header into slot TFPI mod N. -/
def fillRequest (s : State) (m : Msg) (type : Nat) : State :=
  let o := m.owner.val
  if o = mgmtPort then s
  else
    let bs := (messageBytes 0 type m.seq m.version (plotByte m) 0 0 []).take 8 ++ leBytes 2 m.length ++ leBytes 1 (plotByte m) ++ leBytes 5 0
    onBox s o (fun b => { b with tf := mapStore b.tf (rdFld s (.mbxTfpi o) 15 0 % ringSlots o * ringSlot) bs })

/-- A request enters its ring, by the driver's advance of MBX_TFPI past its slot, or in a TLS record.  A full ring takes none. -/
def mailboxRequest (s : State) (m : Msg) (type : Nat) : State :=
  if ringFull s m.owner then s else enterRequest (fillRequest s m type) m type

/-- The request that stands in slot i mod N of a to-firmware ring, with its TYPE (Table FWM-4). -/
def slotRequest (s : State) (o : Fin 14) (i : Nat) : Msg × Nat :=
  let at_ := fun (off n : Nat) => mapBytes (box s o).tf (i % ringSlots o * ringSlot + off) n
  let plot := at_ 10 1
  ({ owner := o, seq := BitVec.ofNat 32 (at_ 4 4), version := at_ 0 1, plot := if h : plot < 12 then some ⟨plot, h⟩ else none, length := at_ 8 2 }, at_ 2 2)

/-- MBX_TFPI is written (R244): each request up to the new index is delivered, as far as the ring has room. -/
def enterUpTo : Nat → State → Fin 14 → Nat → State
  | 0, s, _, _ => s
  | n + 1, s, o, v =>
    let i := rdFld s (.mbxTfpi o) 15 0
    if i = v ∨ ringFull s o = true then s
    else enterUpTo n (let q := slotRequest s o i; enterRequest s q.1 q.2) o v

/-- MAILBOX_REQUEST (R244, R246). -/
def execMailboxRequest (m : Msg) (type : BitVec 16) (s : State) : Host.Outcome State Fault Refusal := .next (mailboxRequest s m type.toNat)

/-- Held responses enter the ring as space allows. -/
def postHeld : Nat → State → Nat → State
  | 0, s, _ => s
  | n + 1, s, o =>
    match (box s o).held with
    | [] => s
    | r :: rest => if ringSlots o ≤ ffUsed s o then s else postHeld n (postMsg (onBox s o (fun b => { b with held := rest })) o r) o

/-- MBX_FFCI (R244): messages up to the index have been read, held responses follow, and management cores are told of the space (Table NVC-7). -/
def execMbxFfci (owner : Fin 14) (index : BitVec 16) (s : State) : Host.Outcome State Fault Refusal :=
  let freed := (index.toNat + 0x10000 - rdFld s (.mbxFfci owner) 15 0) % 0x10000
  let s1 := onBox (wr s (.mbxFfci owner) (BitVec.ofNat 32 index.toNat)) owner (fun b => { b with posted := b.posted.drop freed })
  .next (postHeld 33 (if freed = 0 then s1 else irqCores s1 mgmtCores 11) owner)

/-! ### Components (R240, R249, R250) -/

/-- Reserved bytes of a component header (Table FWM-2). -/
def headerReserved : List Nat := [6, 7, 13, 14, 15, 26, 27, 28, 29, 30, 31] ++ (List.range 72).map (· + 184)

/-- What a core's component must keep to: its watchdog period is 0 or in range (R235), its sections fit the SRAMs, and DATA leaves the highest 4 KiB (R249). -/
def coreFits (comp wdog codeLen dataLen : Nat) : Bool :=
  comp == 5 || ((wdog == 0 || decide (100 ≤ wdog)) && decide (codeLen ≤ 0x10000) && decide (dataLen ≤ 0x1F000))

/-- A component image parsed from its bytes (Table FWM-2); none where MAGIC, FORMAT, a reserved byte, the extents or the watchdog period are wrong. -/
def parseComponent (bs : List Byte) : Option Component :=
  let size := leAt bs 16 4
  let codeOff := leAt bs 32 4
  let codeLen := leAt bs 36 4
  let dataOff := leAt bs 40 4
  let dataLen := leAt bs 44 4
  let cusOff := leAt bs 48 4
  let cusLen := leAt bs 52 4
  let custom := (bs.drop cusOff).take cusLen
  if leAt bs 0 4 ≠ 0x4D434C53 ∨ leAt bs 5 1 ≠ 1 ∨ size < 256 ∨ bs.length < size ∨ size < codeOff + codeLen ∨ size < dataOff + dataLen
      ∨ bs.length < cusOff + cusLen ∨ headerReserved.any (fun i => leAt bs i 1 != 0) = true ∨ coreFits (leAt bs 4 1) (leAt bs 24 2) codeLen dataLen = false then none
  else some { comp := leAt bs 4 1, version := BitVec.ofNat 32 (leAt bs 8 4), svn := leAt bs 12 1, entry := leAt bs 20 4, wdog := leAt bs 24 2,
              mpu := (List.range 16).map (fun k => (BitVec.ofNat 32 (leAt bs (56 + 8 * k) 4), BitVec.ofNat 32 (leAt bs (60 + 8 * k) 4))),
              code := (bs.drop codeOff).take codeLen, data := (bs.drop dataOff).take dataLen,
              custom := if cusLen = 0 then none else some custom,
              digest := sha256 (bs.take size ++ (if cusLen = 0 then [] else custom)) }

/-- The Phigranis signature block follows the image; the custom section's block follows the section (R240). -/
def componentSigned (s : State) (bs : List Byte) (k : Component) : Bool :=
  let size := leAt bs 16 4
  sigAccepted s vendorKey (bs.take size) (bs.drop size)
    && (match k.custom with
      | none => true
      | some c => (k.comp == 3 || k.comp == 4) && c.length == 8256
          && sigAccepted s ownerKey (k.digest ++ c) (bs.drop (leAt bs 48 4 + leAt bs 52 4)))

/-- FW_STAGE (R249): COMP, FORMAT, signatures and SVN_FLOOR are checked; a passing image is copied into the staging region and replaces one staged before.  REFUSED
carries RESULT as its detail, and leaves what was staged before: DESIGN CHOICE, log entry 130. -/
def execFwStage (m : Msg) (region : Fin 32) (off len : Word) (s : State) : Host.Outcome State Fault Refusal :=
  .next (serve s m { type := 0x10, vf := false, feature := some 0 } (fun s =>
    let st := if s.fw.staged.isSome then 1 else 0
    let bad := fun (result comp : Nat) => respond (setUpd s (if s.fw.update.isSome then rdFld s .fwmUpd 31 28 else st) result comp) m 0x10 stRefused result []
    if region.val < 12 ∨ 15 < region.val then respond s m 0x10 stRefused 0 []
    else match lpxRead s (.component 3 (some region)) (regionBase s region + off.toNat) len.toNat with
      | none => respond s m 0x10 stRefused 0 []
      | some bs => match parseComponent bs with
        | none => bad 2 0
        | some k =>
          if k.comp = 0 ∨ k.comp = 2 ∨ 5 < k.comp then bad 4 k.comp
          else if !componentSigned s bs k then bad 2 k.comp
          else if k.svn < svnFloor s then bad 3 k.comp
          else
            let s1 := match s.fw.staged with | some o => wrBit s (.fwmState o.comp) 31 false | none => s
            let s2 := wrBit { s1 with fw := { s1.fw with staging := bs, staged := some k } } (.fwmState k.comp) 31 true
            respond (if s2.fw.update.isSome then s2 else setUpd s2 1 0 k.comp) m 0x10 stOk 0 []))

/-- The bytes of a staged image that the component digest covers (R240): header, CODE and DATA, and the custom section. -/
def digestedBytes (bs : List Byte) : List Byte := bs.take (leAt bs 16 4) ++ (bs.drop (leAt bs 48 4)).take (leAt bs 52 4)

/-- 4 KiB frames of an image (R250). -/
def frameCount (img : List Byte) : Nat := max 1 (ceilDiv img.length 4096)

/-- FW_ACTIVATE (R249, R253): distribution to the component's receivers begins, of at most 16,384 frames; the response is owed until the last has
switched. -/
def execFwActivate (m : Msg) (s : State) : Host.Outcome State Fault Refusal :=
  .next (serve s m { type := 0x11, vf := false, feature := some 0 } (fun s =>
    if s.fw.update.isSome then respond s m 0x11 stBusy 0 []
    else match s.fw.staged with
      | none => respond s m 0x11 stRefused 0 []
      | some k =>
        let img := digestedBytes s.fw.staging
        let u : Update := { comp := k, image := img, owner := m.owner, seq := m.seq, version := m.version, left := receivers k.comp, switched := [] }
        if 16384 < frameCount img then respond (setUpd s 1 8 k.comp) m 0x11 stRefused 8 []
        else setUpd (wrBit { s with fw := { s.fw with update := some u, staged := none, frames := [], frameCount := frameCount img } } (.fwmState k.comp) 31 false) 2 0 k.comp))

/-- The bytes of FW_QUERY's response: VER, STATE and DIG of each component, then FWM_UPD (log entry 30). -/
def fwQueryBytes (s : State) : List Byte :=
  (List.range 6).flatMap (fun n => leBytes 4 (rd s (.fwmVer n)).toNat ++ leBytes 4 (rd s (.fwmState n)).toNat
    ++ (List.range 8).flatMap (fun k => leBytes 4 (rd s (.fwmDig n k)).toNat)) ++ leBytes 4 (rd s .fwmUpd).toNat

/-- FW_QUERY (R254). -/
def execFwQuery (m : Msg) (s : State) : Host.Outcome State Fault Refusal :=
  .next (serve s m { type := 0x12, vf := false } (fun s => respond s m 0x12 stOk 0 (fwQueryBytes s)))

/-- A receiver enters a frame in its bitmap; a duplicate changes nothing (R250 step 1). -/
def takeFrame (s : State) (r : Nat) (f : BcastFrame) : State :=
  let got := mapGet [] s.fw.frames r
  if s.fw.frameCount ≤ f.index ∨ ((s.fw.update.map (fun u => u.left)).getD []).contains r = false ∨ (mapFind got f.index).isSome = true then s
  else { s with fw := { s.fw with frames := mapInsert s.fw.frames r (mapInsert got f.index f.data) } }

/-- The image is being distributed (FWM_UPD.STATE). -/
def distributing (s : State) : Bool := rdFld s .fwmUpd 31 28 == 2

/-- FABRIC_BROADCAST_FRAME (R250). -/
def execFabricBroadcastFrame (receiver : Nat) (frame : BcastFrame) (s : State) : Host.Outcome State Fault Refusal :=
  .next (if distributing s then takeFrame s receiver frame else s)

/-- The image as a receiver has assembled it, once every frame is there. -/
def assembled (s : State) (r : Nat) : Option (List Byte) :=
  let got := mapGet [] s.fw.frames r
  if (List.range s.fw.frameCount).all (fun i => (mapFind got i).isSome) then some (got.flatMap (fun e => e.2)) else none

/-- A receiver holds the image: the digest of what it has assembled, or of the image sent to it once more, is the component's (R250 step 3). -/
def holdsImage (s : State) (u : Update) (run : RepairRun) (r : Nat) : Bool :=
  let good := fun (bs : List Byte) => sha256 (bs.take u.image.length) == u.comp.digest
  match assembled s r with
  | none => false
  | some bs => good bs || run.whole.any (fun e => e.1 == r && good e.2)

/-- FABRIC_BROADCAST_REPAIR (R250): in at most 4 rounds missing frames arrive by unicast; every receiver then holds every frame and its digest, and waits for its quiescent
point, or the distribution fails. -/
def execFabricBroadcastRepair (run : RepairRun) (s : State) : Host.Outcome State Fault Refusal :=
  .next (match s.fw.update with
    | none => s
    | some u =>
      if !distributing s then s
      else
        let s1 := (run.rounds.take 4).flatten.foldl (fun s e => takeFrame s e.1 e.2) s
        if u.left.all (holdsImage s1 u run) then setUpd s1 3 0 u.comp.comp else endUpdate s1 8 stRefused)

/-- The running component's registers show a component (R249 step 4, R254). -/
def showComponent (s : State) (k : Component) : State :=
  let s1 := wrFld (wr s (.fwmVer k.comp) k.version) (.fwmState k.comp) 21 16 k.svn
  forAll (fun s j => wr s (.fwmDig k.comp j) (BitVec.ofNat 32 (leAt k.digest (4 * j) 4))) s1 (List.range 8)

/-- A receiver is at its quiescent point (Table FWM-1).  A governor write ends in the step that makes it. -/
def quiescent (s : State) (u : Update) (r : Nat) : Bool :=
  let cal := fun (t g : Nat) => rdFld s (.calGstat t g) 31 29
  match u.comp.comp with
  | 3 => (List.range 14).all (fun o => (box s o).requests.all (fun q => !q.taken || (o == u.owner && q.seq == u.seq))) && s.ram.saving.isNone
      && allTiles.all (fun t => (List.range 32).all (fun g => cal t g != 1))
  | 4 => s.rma.ctxs.all (fun e => e.2.state != cxConnecting && !e.2.rekeying)
  | 5 => match plotOf s (r - 64) with
      | some p => plotRun s p != pServing || (!(plot s p).inStep && (List.range 32).all (fun g => cal (r - 64) g != 1 && cal (r - 64) g != 4))
      | none => true
  | _ => true

/-- LIVE_UPDATE_SWITCH (R249): at its quiescent point the next receiver, or the four management cores together, switches; after the last the update is complete. -/
def execLiveUpdateSwitch (receiver : Nat) (s : State) : Host.Outcome State Fault Refusal :=
  .next (match s.fw.update with
    | none => s
    | some u =>
      if rdFld s .fwmUpd 31 28 < 3 ∨ !(if u.comp.comp = 5 then u.left.contains receiver else u.left.head? == some receiver) ∨ !quiescent s u receiver then s
      else
        let now := if u.comp.comp = 3 then u.left else [receiver]
        let s1 := forAll (fun s r => loadReceiver s r u.comp true) (setUpd (irqCores s mgmtCores 23) 4 0 u.comp.comp) now
        let left := u.left.filter (fun c => !now.contains c)
        if !left.isEmpty then { s1 with fw := { s1.fw with update := some { u with left := left, switched := u.switched ++ now } } }
        else
          let s2 := showComponent s1 u.comp
          let s3 := setUpd { s2 with fw := { s2.fw with update := none, frames := [], frameCount := 0, lostCopies := s2.fw.lostCopies.filter (· ≠ u.comp.comp),
                                                        running := mapInsert s2.fw.running u.comp.comp u.comp } } 0 1 u.comp.comp
          let s4 := recordEvent s3 0x0D02 moduleEvent 0 islSecurity u.comp.comp (rd s3 .fwmUpd) 0
          answer s4 u.owner u.seq u.version 0x11 stOk 0 [])

/-- LIVE_UPDATE_TIMEOUT (R249): a receiver has missed its quiescent point for 100 ms. -/
def execLiveUpdateTimeout (receiver : Nat) (s : State) : Host.Outcome State Fault Refusal :=
  .next (match s.fw.update with
    | some u => if u.left.contains receiver ∧ 3 ≤ rdFld s .fwmUpd 31 28 then endUpdate s 5 stRefused else s
    | none => s)

/-! ### Drill images across a system (R251, R252) -/

/-- A session. -/
def sess (s : State) (i : Nat) : Option DistSession := mapFind s.fw.sessions i
/-- The state with a session set. -/
def setSess (s : State) (i : Nat) (d : DistSession) : State := { s with fw := { s.fw with sessions := mapInsert s.fw.sessions i d } }
/-- The session whose SESSION field is the first 16 bytes of its digest (Table FWM-9). -/
def sessionOf (s : State) (d : BitVec 128) : Option (Nat × DistSession) :=
  s.fw.sessions.find? (fun e => leNat (e.2.digest.take 16) == d.toNat)

/-- The first M segments hold the manifest: an 8-byte length, then a digest for each image segment. -/
def manifestSegs (segs : Nat) : Nat := ceilDiv (8 + 32 * segs) 8192

/-- M for a total of segments: the least with M = manifestSegs (total − M). -/
def manifestOf (total : Nat) : Nat := ((List.range (total + 1)).find? (fun k => manifestSegs (total - k) ≤ k)).getD 0

/-- The manifest bytes held, once all of its segments are. -/
def manifestBytes (d : DistSession) : Option (List Byte) :=
  let m := manifestOf d.total
  let parts := (List.range m).map (fun i => mapFind d.held i)
  if m = 0 ∨ parts.any (fun o => o.isNone) then none
  else some ((parts.flatMap (fun o => o.getD [])).take (8 + 32 * (d.total - m)))

/-- Segments that fail their manifest entry are treated as missing. -/
def verified (d : DistSession) (man : List Byte) : List (Nat × List Byte) :=
  let m := manifestOf d.total
  d.held.filter (fun e => decide (e.1 < m) || sha256 e.2 == (man.drop (8 + 32 * (e.1 - m))).take 32)

/-- Segments not held, as ranges of one. -/
def missing (d : DistSession) : List Nat := (List.range d.total).filter (fun i => (mapFind d.held i).isNone)

/-- DIST_STATUS to the PF and the management port, unsolicited (R252). -/
def distStatus (s : State) (status detail : Nat) : State := postUnsol (postUnsol s 0 0x1A status detail []) mgmtPort 0x1A status detail []

/-- A frame of the distribution protocol (Table FWM-9), multicast or unicast. -/
def distFrame (s : State) (d : DistSession) (kind index : Nat) (payload : List Byte) : State :=
  enqueueFw s d.queue (leBytes 2 0x5344 ++ leBytes 1 kind ++ leBytes 1 0 ++ d.digest.take 16 ++ leBytes 4 index ++ leBytes 2 payload.length
    ++ leBytes 2 0 ++ leBytes 4 d.total ++ payload)

/-- DIST_JOIN (R251 to R253): a session already complete is OK at once; one larger than the free firmware region is NO_SPACE.  The image is assembled
at an offset of a firmware region. -/
def execDistJoin (m : Msg) (session : Fin 64) (digest : BitVec 256) (region : Fin 32) (off size : Word) (s : State) : Host.Outcome State Fault Refusal :=
  .next (serve s m { type := 0x18, vf := false, feature := some 2 } (fun s =>
    let d := leBytes 32 digest.toNat
    match s.fw.sessions.find? (fun e => e.2.digest == d && e.2.complete) with
    | some _ => respond s m 0x18 stOk 0 []
    | none =>
      if region.val < 16 ∨ !regionOpen s region then respond s m 0x18 stRefused 0 []
      else if s.fw.free < size.toNat ∨ regionSize s region < off.toNat + size.toNat then respond s m 0x18 stNoSpace 0 []
      else
        let x : DistSession :=
          { receiving := true, digest := d, owner := m.owner, base := regionBase s region + off.toNat, total := 0, held := [], manifest := false, peers := [],
            barred := [], rounds := 0, holdoff := false, complete := false, answering := false, next := size.toNat, ends := 0, rate := 25, queue := 0, failed := false }
        respond (setSess { s with fw := { s.fw with free := s.fw.free - size.toNat } } session x) m 0x18 stOk 0 []))

/-- 8,192-byte segments of a byte string. -/
def segments : Nat → Nat → List Byte → List (Nat × List Byte)
  | 0, _, _ => []
  | n + 1, i, bs => if bs.isEmpty then [] else (i, bs.take 8192) :: segments n (i + 1) (bs.drop 8192)

/-- The session's segments for an image: manifest first. -/
def sessionSegs (img : List Byte) : List (Nat × List Byte) × List Byte :=
  let segs := segments (img.length / 8192 + 2) 0 img
  let man := leBytes 8 img.length ++ segs.flatMap (fun e => sha256 e.2)
  let ms := segments (man.length / 8192 + 2) 0 man
  (ms ++ segs.map (fun e => (e.1 + ms.length, e.2)), sha256 man)

/-- DIST_SEND (R252): source the image at an offset of a host region, at a rate of 1 to 100 Gb/s, in a queue of the module (R277). -/
def execDistSend (m : Msg) (session : Fin 64) (region : Fin 32) (off len : Word) (rate : Nat) (queue : Fin 8192) (s : State) : Host.Outcome State Fault Refusal :=
  .next (serve s m { type := 0x19, vf := false, feature := some 2 } (fun s =>
    let a := regionBase s region + off.toNat
    match lpxRead s (.component 3 (some region)) a len.toNat with
    | none => respond s m 0x19 stRefused 0 []
    | some img =>
      if rate = 0 ∨ 100 < rate ∨ region.val < 12 ∨ 15 < region.val ∨ queueOwner s queue ≠ 12 then respond s m 0x19 stRefused 0 []
      else
        let q := sessionSegs img
        let x : DistSession :=
          { receiving := false, digest := q.2, owner := m.owner, base := a, total := q.1.length, held := q.1, manifest := true,
            peers := [], barred := [], rounds := 0, holdoff := false, complete := true, answering := true, next := 0, ends := 0, rate := rate,
            queue := queue, failed := false }
        respond (setSess s session x) m 0x19 stOk 0 []))

/-- DIST_STATUS (R252): OK when complete, REFUSED with the missing count after 8 rounds, else NOT_READY with it. -/
def execDistStatus (m : Msg) (session : Fin 64) (s : State) : Host.Outcome State Fault Refusal :=
  .next (serve s m { type := 0x1A, vf := false, feature := some 2 } (fun s =>
    match sess s session with
    | none => respond s m 0x1A stRefused 0 []
    | some d => respond s m 0x1A (if d.complete then stOk else if d.failed then stRefused else stNotReady) (missing d).length []))

/-- DIST_LEAVE (R252): the session ends and its region space is released. -/
def execDistLeave (m : Msg) (session : Fin 64) (s : State) : Host.Outcome State Fault Refusal :=
  .next (serve s m { type := 0x1B, vf := false, feature := some 2 } (fun s =>
    match sess s session with
    | none => respond s m 0x1B stRefused 0 []
    | some d => respond { s with fw := { s.fw with sessions := mapErase s.fw.sessions session, free := s.fw.free + (if d.receiving then d.next else 0) } } m 0x1B stOk 0 []))

/-- DIST_SOURCE_SEND (R252): the next SEG in order; after the last, END three times. -/
def execDistSourceSend (session : Fin 64) (s : State) : Host.Outcome State Fault Refusal :=
  .next (match sess s session with
    | none => s
    | some d =>
      if d.receiving then s
      else match mapFind d.held d.next with
        | some bs => setSess (distFrame s d 1 d.next bs) session { d with next := d.next + 1 }
        | none => if d.ends < 3 then setSess (distFrame s d 2 0 []) session { d with ends := d.ends + 1 } else s)

/-- The session is complete: HAVE goes out once, and DIST_STATUS (R252). -/
def distComplete (s : State) (i : Nat) (d : DistSession) : State :=
  let s1 := wrBytes s d.base (((d.held.filter (fun e => decide (manifestOf d.total ≤ e.1))).flatMap (fun e => e.2)))
  distStatus (distFrame (setSess s1 i { d with complete := true, answering := true, holdoff := false }) d 4 0 []) stOk 0

/-- DIST_SEG (R252): a segment of a session joined is held; once the manifest verifies against the digest, every segment is checked against it.  A
peer whose segment fails is asked no more.  Unknown sessions are dropped and counted. -/
def execDistSeg (digest : BitVec 128) (peer index total : Nat) (data : List Byte) (s : State) : Host.Outcome State Fault Refusal :=
  .next (match sessionOf s digest with
    | none => { s with fw := { s.fw with distDropped := s.fw.distDropped + 1 } }
    | some (i, d) =>
      if !d.receiving || d.complete then s
      else
        let d1 := { d with total := total, held := if (mapFind d.held index).isSome then d.held else mapInsert d.held index data }
        match manifestBytes d1 with
        | none => setSess s i d1
        | some man =>
          if sha256 man ≠ d.digest then
            setSess s i { d1 with held := d1.held.filter (fun e => decide (manifestOf total ≤ e.1)), barred := addPage d1.barred peer }
          else
            let good := verified d1 man
            let d2 := { d1 with manifest := true, held := good, barred := if (mapFind good index).isNone then addPage d1.barred peer else d1.barred }
            if (missing d2).isEmpty then distComplete s i d2 else setSess s i d2)

/-- DIST_END (R252): the first END starts the holdoff of an incomplete session. -/
def execDistEnd (digest : BitVec 128) (s : State) : Host.Outcome State Fault Refusal :=
  .next (match sessionOf s digest with
    | some (i, d) => if d.receiving && !d.complete then setSess s i { d with holdoff := true } else s
    | none => { s with fw := { s.fw with distDropped := s.fw.distDropped + 1 } })

/-- Unicast SEGs for the ranges asked, from a session held complete (R252). -/
def answerRanges (s : State) (d : DistSession) (ranges : List (Nat × Nat)) : State :=
  ((ranges.take 128).flatMap (fun r => (List.range (min r.2 d.total)).map (· + r.1))).foldl (fun s i =>
    match mapFind d.held i with | some bs => distFrame s d 1 i bs | none => s) s

/-- DIST_NACK (R252). -/
def execDistNack (digest : BitVec 128) (ranges : List (Nat × Nat)) (s : State) : Host.Outcome State Fault Refusal :=
  .next (match sessionOf s digest with | some (_, d) => if d.complete then answerRanges s d ranges else s | none => s)
/-- DIST_REQ (R252): answered for 2 s after completion. -/
def execDistReq (digest : BitVec 128) (ranges : List (Nat × Nat)) (s : State) : Host.Outcome State Fault Refusal :=
  .next (match sessionOf s digest with | some (_, d) => if d.complete && d.answering then answerRanges s d ranges else s | none => s)
/-- DIST_HAVE (R252): its sender may be asked. -/
def execDistHave (digest : BitVec 128) (peer : Nat) (s : State) : Host.Outcome State Fault Refusal :=
  .next (match sessionOf s digest with | some (i, d) => setSess s i { d with peers := addPage d.peers peer } | none => s)

/-- DIST_GAP_TIMER (R252): REQ to a peer with HAVE that has sent nothing bad, else NACK to the source; after 8 rounds DIST_STATUS REFUSED with the
missing count. -/
def execDistGapTimer (session : Fin 64) (s : State) : Host.Outcome State Fault Refusal :=
  .next (match sess s session with
    | none => s
    | some d =>
      if !d.receiving || d.complete || d.failed then s
      else if 8 ≤ d.rounds then distStatus (setSess s session { d with failed := true }) stRefused (missing d).length
      else
        let kind := if (d.peers.filter (fun p => !d.barred.contains p)).isEmpty then 3 else 5
        let gaps := (missing d).take 128
        setSess (irqCores (distFrame s d kind 0 (gaps.flatMap (fun i => leBytes 4 i ++ leBytes 4 1))) netCores 20) session { d with rounds := d.rounds + 1, holdoff := false })

/-- DIST_ANSWER_WINDOW_END (R252): a receiver answers REQs no longer. -/
def execDistAnswerWindowEnd (session : Fin 64) (s : State) : Host.Outcome State Fault Refusal :=
  .next (match sess s session with | some d => if d.receiving then setSess s session { d with answering := false } else s | none => s)

end Sys2Proof.Machine
end

