-- ==== Sys2Proof/Machine/OpsSeed.lean ====
section
/-! DEFINITION. The seedbed in NVM: its slots, their checks, and the slot that boots (R400 to R402, Tables RST-2 to RST-4). -/
set_option Elab.async false
namespace Sys2Proof.Machine

/-- The bytes listed of slot k: 0 A, 1 B. -/
def seedSlot (s : State) (k : Nat) : List (Nat × Byte) := if k = 0 then s.seed.slotA else s.seed.slotB

/-- The state with a slot's bytes set. -/
def setSeedSlot (s : State) (k : Nat) (m : List (Nat × Byte)) : State :=
  { s with seed := if k = 0 then { s.seed with slotA := m } else { s.seed with slotB := m } }

/-- n bytes of a slot from an offset on; erased flash reads 0xFF. -/
def slotBytes (m : List (Nat × Byte)) (off n : Nat) : List Byte := (List.range n).map (fun i => mapGet 0xFF m (off + i))

/-- Bytes placed in a slot from an offset on. -/
def slotWrite (m : List (Nat × Byte)) (off : Nat) (bs : List Byte) : List (Nat × Byte) := bs.zipIdx.foldl (fun m e => mapSet 0xFF m (off + e.2) e.1) m

/-- Bytes of a slot. -/
def slotSize : Nat := 0x1000000

/-- IMAGE_SIZE and SEQ of a header. -/
def seedSize (h : List Byte) : Nat := leAt h 12 4
def seedSeq (h : List Byte) : Nat := leAt h 8 4

/-- The directory entries in use: TYPE, OFFSET, LENGTH. -/
def seedDir (h : List Byte) : List (Nat × (Nat × Nat)) :=
  ((List.range 16).map (fun i => (leAt h (64 + 16 * i) 2, (leAt h (68 + 16 * i) 4, leAt h (72 + 16 * i) 4)))).filter (fun e => e.1 != 0)

/-- Entries of a type. -/
def dirOf (h : List Byte) (type : Nat) : List (Nat × Nat) := ((seedDir h).filter (fun e => e.1 == type)).map (fun e => e.2)

/-- No two ranges of a list overlap. -/
def extentsApart : List (Nat × Nat) → Bool
  | [] => true
  | e :: rest => rest.all (fun f => decide (e.1 + e.2 ≤ f.1) || decide (f.1 + f.2 ≤ e.1)) && extentsApart rest

/-- The header is well-formed (R402): MAGIC, FORMAT, IMAGE_SIZE, types, numbers and places of its entries (Tables RST-2, RST-3a). -/
def seedFormed (h : List Byte) : Bool :=
  let d := seedDir h
  let inSlot := d.filter (fun e => decide (e.1 < 0x10))
  let store := d.filter (fun e => decide (0x10 ≤ e.1))
  decide (leAt h 0 4 = 0x42534C53) && decide (leAt h 4 2 = 1) && decide (512 ≤ seedSize h) && decide (seedSize h + 64 ≤ slotSize)
    && d.all (fun e => [1, 2, 3, 4, 5, 0x10, 0x11].contains e.1)
    && inSlot.all (fun e => decide (512 ≤ e.2.1) && decide (e.2.1 + e.2.2 ≤ seedSize h)) && store.all (fun e => decide (2 * slotSize ≤ e.2.1))
    && extentsApart (inSlot.map (fun e => e.2)) && extentsApart (store.map (fun e => e.2))
    && (dirOf h 1).length == 5 && (dirOf h 2).length == 1 && (dirOf h 3).length == 1 && decide ((dirOf h 4).length ≤ 1) && decide ((dirOf h 5).length ≤ 1)
    && (dirOf h 0x10).length == 1 && (dirOf h 0x11).length == 1

/-- The bytes of a slot's entries of a type, under a header. -/
def slotEntries (m : List (Nat × Byte)) (h : List Byte) (type : Nat) : List (List Byte) := (dirOf h type).map (fun e => slotBytes m e.1 e.2)

/-- The components of a slot. -/
def slotComponents (m : List (Nat × Byte)) (h : List Byte) : List Component := (slotEntries m h 1).filterMap parseComponent

/-- A component image of the seedbed passes R240 and the floor. -/
def componentOk (s : State) (bs : List Byte) : Bool :=
  match parseComponent bs with
  | some k => decide (1 ≤ k.comp) && decide (k.comp ≤ 5) && componentSigned s bs k && decide (svnFloor s ≤ k.svn)
  | none => false

/-- The CONFIG record's MAGIC and CRC (Table RST-4). -/
def configOk (c : List Byte) : Bool := c.length == 260 && leAt c 0 4 == 0x46434C53 && (crc32c (c.take 256)).toNat == leAt c 256 4

/-- A slot's bytes pass every check of R402 under a header. -/
def seedPasses (s : State) (m : List (Nat × Byte)) (h : List Byte) : Bool :=
  if !seedFormed h then false
  else
    let signed := h ++ slotBytes m 512 (seedSize h - 512)
    let blockLen := leNat (slotBytes m (seedSize h) 4)
    if slotSize < seedSize h + blockLen then false
    else
      let block := slotBytes m (seedSize h) blockLen
      (sigAccepted s ownerKey signed block || (decide (s.sec.layoutClass = 0) && sigAccepted s vendorKey signed block))
        && (slotEntries m h 1).all (componentOk s) && [1, 2, 3, 4, 5].all (fun n => (slotComponents m h).any (fun k => k.comp == n))
        && (slotEntries m h 2).all configOk

/-- The header in a slot. -/
def slotHeader (m : List (Nat × Byte)) : List Byte := slotBytes m 0 512

/-- The slot that boots, and whether it is not the first tried (R402): the one of the higher SEQ is tried first. -/
def chooseSlot (s : State) : Option (Nat × Bool) :=
  let ha := slotHeader s.seed.slotA
  let hb := slotHeader s.seed.slotB
  let first := if seedSeq ha < seedSeq hb then 1 else 0
  let passes := fun k => if k = 0 then seedPasses s s.seed.slotA ha else seedPasses s s.seed.slotB hb
  if passes first then some (first, false) else if passes (1 - first) then some (1 - first, true) else none

/-- The running slot, RST_BOOT.SLOT. -/
def runningSlot (s : State) : Nat := rdFld s .rstBoot 30 30

/-- The entries of a type in the running slot. -/
def runningEntries (s : State) (type : Nat) : List (List Byte) :=
  let m := seedSlot s (runningSlot s)
  slotEntries m (slotHeader m) type

/-- The seedbed digest (R401): SHA-256 over the signed part of a slot; zeros where its header is not well-formed. -/
def seedDigest (m : List (Nat × Byte)) : List Byte :=
  if seedFormed (slotHeader m) then sha256 (slotBytes m 0 (seedSize (slotHeader m))) else List.replicate 32 0

/-- The CONFIG record of the running slot. -/
def runningConfig (s : State) : List Byte := (runningEntries s 2).headD []

end Sys2Proof.Machine
end

