-- ==== Sys2Proof/Machine/Calib.lean ====
section
/-! DEFINITION. Calibration: the calibration engine's conversions, foreground calibration, measurement sets and the drift filter, probation, repair (R88 to R112). -/
set_option Elab.async false
namespace Sys2Proof.Machine

/-- CAL_GSTATg: the probation that remains, and the age of the last complete set. -/
def gstatView (s : State) (t g : Nat) : Word :=
  let k := calOf s t g
  let w := rd s (.calGstat t g)
  if fld w 28 27 = 0 then w
  else
    let left := if fld w 31 29 = calProbation then satNat (ceilDiv (k.probEnd - s.tick) 1000) 0xFF else 0
    setFld (setFld w 23 16 left) 15 0 (satNat ((s.tick - k.lastSet) / 64) 0xFFFF)

/-- The tile belongs to a plot that serves: SERVING, or HELD between two of its steps (DEDUCED, log entry 111). -/
def inService (s : State) (t : Nat) : Bool := match plotOf s t with | some p => plotRun s p == pServing || plotRun s p == pHeld | none => false

/-- A step of the tile's plot is in progress. -/
def stepping (s : State) (t : Nat) : Bool := match plotOf s t with | some p => (plot s p).inStep && plotRun s p == pServing | none => false

/-- |a − b| exceeds d. -/
def ratOff (a b d : Rat) : Bool := decide (d < a - b) || decide (d < b - a)

/-- A 6-bit trim value from a sum, held within −32 to 31: DESIGN CHOICE, log entry 114. -/
def clampTrim (i : Int) : BitVec 6 := BitVec.ofInt 6 (max (-32) (min 31 i))

/-- A trim that its search has left at either end (Table CAL-10). -/
def trimAtEnd (v : BitVec 6) : Bool := v == 32 || v == 31

/-- GAIN of a correction entry (R89). -/
def gainOf (kcol karr : Rat) : Nat := (max 1 (min 0xFFFF (rneRat (16384 * kcol * karr)))).toNat

/-- The drift that temperature explains: kT × (T − T0), kT of the group's CIM die (R91). -/
def tempDrift (s : State) (t g : Nat) (t0 : Int) : Rat := Config.kTppm (t / 16) (g / 8) / 1000000 * ((layerTemp s t g - t0 : Int) : Rat)

/-- kcol of converter c as tracked (R98). -/
def kcolNow (s : State) (t g : Nat) (k : GroupCal) (c : Nat) : Rat := mapGet 1 k.kbase c * (1 + mapGet 0 k.sGain c + tempDrift s t g k.t0)

/-- Correction entries of physical slots of a group (R89): OFFSET 0, GAIN from the factors. -/
def writeEntries (x : TileState) (g : Nat) (slots : List Nat) (kcol karr : Nat → Rat) : TileState :=
  { x with corr := slots.foldl (fun m p => (List.range 516).foldl (fun m j =>
      mapSet 0x40000000 m (516 * (17 * g + p) + j) (BitVec.ofNat 32 (gainOf (kcol j) (karr p) * 2 ^ 16))) m) x.corr }

/-- The engine's trims and factors of a group take effect, all at once (R89, R98, R99); a foreground calibration that has ended admits its group.  round(o) breaks ties to
even: DESIGN CHOICE, log entry 114. -/
def applyCal (s : State) (t g : Nat) : State :=
  let k := calOf s t g
  let kc := (List.range 516).map (kcolNow s t g k)
  let k' := { k with
    gt := k.gtNew
    ot := (List.range 516).map (fun c => (c, clampTrim ((mapGet 0 k.ot0 c).toInt + rneRat (mapGet 0 k.oOff c))))
    kcol := (List.range 516).map (fun c => (c, kc.getD c 1))
    due := false, recalDone := false, seeded := true, epoch := k.epoch + 1 }
  let s1 := onCal s t g (fun _ => k')
  let s2 := onTile s1 t (fun x => writeEntries x g (List.range 17) (fun c => kc.getD c 1) (fun p => mapGet 1 k.karr p))
  if k.recalDone && (calState s t g == calRecal || calState s t g == calForeground) then wrFld (setCalState s2 t g calAdmitted) (.calGstat t g) 28 27 3 else s2

/-- At a step boundary for a tile in service, else at once (R99). -/
def settleCal (s : State) (t g : Nat) : State :=
  if inService s t then onCal s t g (fun k => { k with due := true }) else applyCal s t g

/-- R107: a converter of the group is faulty: CONV_FAULT, an event, and the group is LOST on every slot. -/
def converterFault (s : State) (t g : Nat) : State :=
  let s1 := wrBit s (.calFlag t g) 31 true
  let s2 := irqCores (recordEvent s1 0x0403 (plotField s1 t) 2 (islTile t) t (rd s1 (.calFlag t g)) g) mgmtCores 15
  groupLost (wr s2 (.arrValid t g) 0) t g 0

/-- A group enters RECAL (R99, R97), counted. -/
def enterRecal (s : State) (t g : Nat) : State := count (setCalState s t g calRecal) (.calRecalcnt t) 1

/-- The reference array may be used: spare REFERENCE and not REF_BAD. -/
def refUsable (s : State) (t g : Nat) : Bool := spare s t g == spReference && !bit (rd s (.calFlag t g)) 30

/-! ### The engine's conversions (R90, R92, Table CAL-2) -/

/-- A measurement pattern of Table CAL-2 on a bitline: what stands at each converter, the range, and the ideal value that a gain is measured against. -/
structure Pattern where
  line : Bitline
  range : Nat
  value : Nat → Int
  ideal : Rat

/-- The calibration launch of a physical slot with inputs that drive rows `first` to 255 + `first` or all 512: native mode, b bits, unsigned. -/
def calMvm (g p bits rows : Nat) : Mvm :=
  { group := g, slot := p, logical := 16, start := 0, bits := bits, phase := 0, mode := 0, desc := 0, rows := BitVec.ofNat 4096 rows, skipped := false, void := false,
    done := false, heldNs := 0, lanes := [] }

/-- 127 on n rows from a first row on. -/
def drive127 (first n : Nat) : Nat := ((2 ^ (8 * n) - 1) / 255 * 127) * 2 ^ (8 * first)

/-- Pattern Z on a physical slot. -/
def patZ (s : State) (t g p : Nat) : Pattern := ⟨.array p, 4, laneIdeal (tile s t) (calMvm g p 1 0), 1⟩
/-- The test charge, +FS / 2 or −FS / 2 (R92). -/
def patT (plus : Bool) : Pattern := ⟨.charge, 8, fun _ => if plus then 32768 else -32768, if plus then 32768 else -32768⟩
/-- Pattern A on a physical slot, its ideal value that of a reference lane. -/
def patA (s : State) (t g p ref : Nat) : Pattern :=
  ⟨.array p, 11, laneIdeal (tile s t) (calMvm g p 8 (drive127 0 512)), if ref = 0 then 455168 else -520192⟩
/-- Patterns P+ and P− on the reference array. -/
def patP (s : State) (t g : Nat) (plus : Bool) : Pattern :=
  ⟨.array 16, 11, laneIdeal (tile s t) (calMvm g 16 8 (if plus then drive127 0 256 else drive127 256 256)), if plus then 227584 else -260096⟩

/-- Codes at n = 9 of converter c in `n` conversions of a pattern, under trims; `k` tells the draws of one measurement apart.  `bound` holds them to Table ARR-11. -/
def calCodes (s : State) (t g : Nat) (bound : Bool) (pat : Pattern) (trims : BitVec 6 × BitVec 6) (c k n : Nat) : List Int :=
  (List.range n).map (fun i => max (-256) (min 255 (codeOf pat.range 9 (analogEstimate s t g c pat.line trims pat.range bound 0 (pat.value c) s.fresh ((k * 64 + i) * 516 + c)))))

/-- The mean of codes. -/
def meanCode (l : List Int) : Rat := (l.foldl (· + ·) 0 : Int) / (max 1 l.length : Nat)

/-- Their standard deviation exceeds 1.5 LSB. -/
def codesNoisy (l : List Int) : Bool := decide (9 / 4 * (max 1 l.length : Nat) < l.foldl (fun (a : Rat) x => a + ((x : Rat) - meanCode l) ^ 2) 0)

/-- A measured gain: the mean code times the LSB, over the ideal value. -/
def gainOfMean (pat : Pattern) (m : Rat) : Rat := m * fullScale pat.range / 256 / pat.ideal

/-! ### Foreground calibration (R94) -/

/-- Binary search of a 6-bit trim: from −32 up, each bit is kept while the measure at it has not passed its aim.  The measure answers whether to keep, and whether its samples
are noisy.  The rule does not say how the search compares: DESIGN CHOICE, log entry 114. -/
def trimSearch (measure : Nat → BitVec 6 → Bool × Bool) : BitVec 6 × Bool :=
  (List.range 6).foldl (fun (a : BitVec 6 × Bool) i =>
    let v := a.1 + BitVec.ofNat 6 (2 ^ (5 - i))
    let m := measure i v
    (if m.1 then v else a.1, a.2 || m.2)) (32, false)

/-- A phase is run, and run again while it is noisy, four times at most (R94): the results of its last run, whether they are still noisy, and the number of runs. -/
def phaseRuns {α : Type} (run : Nat → List (α × Bool)) : Nat → Nat → List α × Bool × Nat
  | 0, k => ((run k).map Prod.fst, (run k).any (fun e => e.2), k + 1)
  | n + 1, k => if (run k).any (fun e => e.2) then phaseRuns run n (k + 1) else ((run k).map Prod.fst, false, k + 1)

/-- What a foreground calibration has found. -/
structure FgResult where
  ot : List (BitVec 6)
  gt : List (BitVec 6)
  /-- Test-charge gains, by converter. -/
  ht : List Rat
  kcol : List Rat
  karr : List Rat
  /-- The reference array differs from the test charge. -/
  refBad : Bool
  /-- Physical slots that a health check flags, and whether a converter is faulty (Table CAL-10). -/
  flagged : List Nat
  faulty : Bool
  /-- Conversion phases completed. -/
  phases : Nat

/-- Phases of foreground calibration in order: the OT search with Z on the physical slot that the engine takes for it; the GT search and the final T±; the array factors with A, and Z for the offset of each array; the
column factors with P± where the reference array may be used. -/
def otPhase (s : State) (t g z run : Nat) : List (BitVec 6 × Bool) :=
  (List.range 516).map (fun c => trimSearch (fun i v =>
    let l := calCodes s t g false (patZ s t g z) (mapGet 0 (calOf s t g).gt c, v) c (run * 6 + i) 64
    (decide (meanCode l ≤ 0), codesNoisy l)))

/-- Half the difference of the mean codes of T+ and T−, and whether either is noisy. -/
def chargeMean (s : State) (t g : Nat) (trims : BitVec 6 × BitVec 6) (c k : Nat) : Rat × Bool :=
  let a := calCodes s t g false (patT true) trims c k 64
  let b := calCodes s t g false (patT false) trims c (k + 1) 64
  ((meanCode a - meanCode b) / 2, codesNoisy a || codesNoisy b)

def gtPhase (s : State) (t g : Nat) (ot : List (BitVec 6)) (run : Nat) : List ((BitVec 6 × Rat) × Bool) :=
  (List.range 516).map (fun c =>
    let k := 24 + run * 14
    let v := trimSearch (fun i v => let m := chargeMean s t g (v, ot.getD c 0) c (k + 2 * i); (decide (m.1 ≤ 128), m.2))
    let f := chargeMean s t g (v.1, ot.getD c 0) c (k + 12)
    ((v.1, f.1 / 128), v.2 || f.2))

/-- The array factor of R94 from the gains of REF0 and REF1 and the column factors of their converters. -/
def arrayFactor (h0 h1 k0 k1 : Rat) : Rat := 2 / (h0 * k0 + h1 * k1)

/-- Gains of REF0 and REF1 under A on a slot, and the mean Z code of its REF2. -/
def arrPhase (s : State) (t g : Nat) (trims : Nat → BitVec 6 × BitVec 6) (run : Nat) : List ((Rat × Rat × Rat) × Bool) :=
  (List.range 17).map (fun p =>
    let k := 80 + run * 34 + 2 * p
    let a := calCodes s t g false (patA s t g p 0) (trims 512) 512 k 64
    let b := calCodes s t g false (patA s t g p 1) (trims 513) 513 k 64
    let z := calCodes s t g false (patZ s t g p) (trims 514) 514 (k + 1) 64
    ((gainOfMean (patA s t g p 0) (meanCode a), gainOfMean (patA s t g p 1) (meanCode b), meanCode z), codesNoisy a || codesNoisy b || codesNoisy z))

/-- Gains under P+ and P− of the data columns. -/
def colPhase (s : State) (t g : Nat) (trims : Nat → BitVec 6 × BitVec 6) (run : Nat) : List ((Rat × Rat) × Bool) :=
  (List.range 512).map (fun c =>
    let a := calCodes s t g false (patP s t g true) (trims c) c (216 + 2 * run) 64
    let b := calCodes s t g false (patP s t g false) (trims c) c (217 + 2 * run) 64
    ((gainOfMean (patP s t g true) (meanCode a), gainOfMean (patP s t g false) (meanCode b)), codesNoisy a || codesNoisy b))

/-- Some column's mean of h_P+ and h_P− differs from the test-charge result by more than 2 % (Table CAL-10). -/
def refDiffers (hp : List (Rat × Rat)) (ht : Nat → Option Rat) : Bool :=
  (List.range 512).any (fun c => match ht c with
    | some h => ratOff (((hp.getD c (1, 1)).1 + (hp.getD c (1, 1)).2) / 2) h (h / 50)
    | none => false)

/-- The column factor that the reference array gives (R94, R98). -/
def refFactor (karr16 : Rat) (h : Rat × Rat) : Rat := 2 / (karr16 * (h.1 + h.2))

/-- Foreground calibration of a group (R94, Tables CAL-3 and CAL-10). -/
def fgMeasure (s : State) (t g z : Nat) : FgResult :=
  let o := phaseRuns (otPhase s t g z) 3 0
  let q := phaseRuns (gtPhase s t g o.1) 3 0
  let ht := q.1.map (fun e => e.2)
  let trims := fun c => ((q.1.getD c (0, 1)).1, o.1.getD c 0)
  let kT := fun c => 1 / ht.getD c 1
  let a := phaseRuns (arrPhase s t g trims) 3 0
  let karr := a.1.map (fun e => arrayFactor e.1 e.2.1 (kT 512) (kT 513))
  let useRef := refUsable s t g
  let p := if useRef then phaseRuns (colPhase s t g trims) 3 0 else ([], false, 0)
  let bad := useRef && refDiffers p.1 (fun c => ht[c]?)
  let kcol := (List.range 516).map (fun c => if useRef && !bad && decide (c < 512) then refFactor (karr.getD 16 1) (p.1.getD c (1, 1)) else kT c)
  { ot := o.1, gt := q.1.map (fun e => e.1), ht := ht, kcol := kcol, karr := karr, refBad := bad
    flagged := (List.range 17).filter (fun k => ratOff (karr.getD k 1) 1 (1 / 20) || ratOff (8 * (a.1.getD k (1, 1, 0)).2.2) 0 16)
    faulty := o.2.1 || q.2.1 || a.2.1 || p.2.1 || o.1.any trimAtEnd || q.1.any (fun e => trimAtEnd e.1) || kcol.any (fun k => ratOff k 1 (1 / 50))
    phases := 384 * o.2.2 + 896 * q.2.2 + 2176 * a.2.2 + 128 * p.2.2 }

/-- The groups selected by CAL_GMASK. -/
def maskedGroups (s : State) (t : Nat) : List Nat := (List.range 32).filter (fun g => bit (rd s (.calGmask t)) g)

/-- FG_REQ (R94, R95): the masked groups enter FOREGROUND; ignored for groups in a serving plot.  A LOST group stays so. -/
def execFgReq (t : Fin 128) (s : State) : Host.Outcome State Fault Refusal :=
  .next (if inService s t then s
    else forAll (fun s g => if calState s t g = calLost then s else setCalState s t g calForeground) s (maskedGroups s t))

/-- RECAL_REQ (R99): the masked serving groups enter RECAL. -/
def execRecalReq (t : Fin 128) (s : State) : Host.Outcome State Fault Refusal :=
  .next (if inService s t then
      forAll (fun s g => let v := calState s t g
        if v = calProbation ∨ v = calAdmitted ∨ v = calStale then enterRecal s t g else s) s (maskedGroups s t)
    else s)

/-- The tile is in an open window of the fallow-slot plan that names group g: its schedule has not reached the window's end. -/
def inWindow (s : State) (t g : Nat) : Bool :=
  match (tile s t).window with
  | some (m, e) => stepping s t && bit m g && (tileRun s t == tEnded || (tileRun s t == tRunning && decide ((rd s (.schCycle t)).toNat < e)))
  | none => false

/-- The calibration engine may launch for the group (R54, R90, R95): the group is AWAKE and the tile's BUDGET at least 1; a group in service is measured in a window alone. -/
def calMayLaunch (s : State) (t g : Nat) : Bool :=
  grpPwr s t g == 2 && decide (1 ≤ rdFld s (.arrStatus t) 21 16) && (if stepping s t then inWindow s t g else true)

/-- FOREGROUND_CAL_COMPLETE (R94, R95, R99, R107): foreground calibration of a group ends, or that of a group in RECAL within its fallow slots.  Health checks flag slots and
find faulty converters; a sound group's trims, factors and entries are those measured, its filter is seeded, and it is ADMITTED as they take effect.
A hard excursion in the first set after RECAL is a converter fault whatever led to RECAL: DESIGN CHOICE, log entry 118. -/
def execForegroundCalComplete (t : Fin 128) (g : Fin 32) (zSlot : Fin 17) (s : State) : Host.Outcome State Fault Refusal :=
  let st := calState s t g
  .next (if !(st == calForeground || st == calRecal) || !calMayLaunch s t g then s
    else
      let r := fgMeasure s t g zSlot
      let s1 := draw (onTile s t (fun x => { x with conv := x.conv + BitVec.ofNat 64 r.phases }))
      let s2 := if r.refBad then wrBit s1 (.calFlag t g) 30 true else s1
      let s3 := forAll (fun s p => flagSlot s t g p) s2 r.flagged
      if r.faulty then converterFault s3 t g
      else if calState s3 t g = calLost then s3
      else settleCal (onCal s3 t g (fun k => { k with
        gtNew := (List.range 516).map (fun c => (c, r.gt.getD c 0))
        ot0 := (List.range 516).map (fun c => (c, r.ot.getD c 0))
        kbase := (List.range 516).map (fun c => (c, r.kcol.getD c 1))
        karr := (List.range 17).map (fun p => (p, r.karr.getD p 1))
        ht := (List.range 516).map (fun c => (c, r.ht.getD c 1))
        sGain := [], oOff := [], t0 := layerTemp s t g, lastSet := s.tick, anySet := false, hardSeen := false, arrOut := [], track := {}, slotTrack := []
        afterRecal := decide (st = calRecal), recalDone := true })) t g)

/-! ### Measurement sets (R96 to R98, R102) -/

/-- The array factor of slot 16 as 64 conversions of A on lanes REF0 and REF1 measure it (R108 step 4). -/
def spareFactor (s : State) (t g : Nat) : Rat :=
  let k := calOf s t g
  let mean := fun ref => gainOfMean (patA s t g 16 ref) (meanCode (calCodes s t g true (patA s t g 16 ref) (mapGet 0 k.gt (512 + ref), mapGet 0 k.ot (512 + ref)) (512 + ref) 0 64))
  arrayFactor (mean 0) (mean 1) (mapGet 1 k.kcol 512) (mapGet 1 k.kcol 513)

/-- Step 4 of R108: 16 conversions of Z and 64 of A on slot 16 (Table CAL-11); its array factor is set and its correction entries are written. -/
def measureSpare (s : State) (t g : Nat) : State :=
  let k := calOf s t g
  let f := spareFactor s t g
  let s1 := onCal (draw s) t g (fun k => { k with karr := mapInsert k.karr 16 f })
  onTile s1 t (fun x => { writeEntries x g [16] (fun c => mapGet 1 k.kcol c) (fun _ => f) with
    karrDue := x.karrDue.filter (· ≠ g), conv := x.conv + BitVec.ofNat 64 80 })

/-- The tile's schedule has come to a cycle and can pass it: it has ended, or its next bundle falls no earlier. -/
def scheduleAt (s : State) (t c e : Nat) : Bool :=
  tileRun s t == tEnded
    || (tileRun s t == tRunning && (tile s t).held.isEmpty && decide ((rd s (.schCycle t)).toNat < e)
        && (match nextBundle s t with | some pc => decide (c ≤ bundleCycle s t pc) | none => true))

/-- FALLOW_WINDOW (R144, R108): a window of the plan opens in a step of a serving plot, at its START; for each of its groups that is awake and whose repaired spare is due, slot 16
is measured.  It closes once its LENGTH has passed, on a tile that has ended too. -/
def execFallowWindow (t : Fin 128) (entry : Nat) (opens : Bool) (s : State) : Host.Outcome State Fault Refusal :=
  if !opens then .next (onTile s t (fun x => { x with window := none }))
  else match plotOf s t with
  | none => .next s
  | some p =>
    match (imageOf s p).bind (fun i => i.fallow[entry]?) with
    | none => .next s
    | some e =>
      .next (if e.tile ≠ t.val ∨ stepping s t = false ∨ (plot s p).step.toNat % e.period ≠ e.phase ∨ scheduleAt s t e.start (e.start + e.length) = false then s
        else
          let s1 := if tileRun s t = tEnded then s else tileAdvance s t e.start
          forAll (fun s g => if (tile s t).karrDue.contains g && spare s t g == spReady && calMayLaunch s t g then measureSpare s t g else s)
            (onTile s1 t (fun x => { x with window := some (e.groups, e.start + e.length) })) ((List.range 32).filter (fun g => bit e.groups g)))

/-- What a complete measurement set gives (R97, R98): mean Z codes by converter; m by converter, none where nothing measures it; whether REF_BAD is found; and the conversion
phases completed. -/
structure SetResult where
  z : List Rat
  m : List (Option Rat)
  refBad : Bool
  phases : Nat

/-- A complete set of a group: 16 conversions of Z on a physical slot, and 16 each of P+ and P− where the reference array may be used.  Without it, m comes from lanes REF0 and REF1 of the step's
collects, the same for every converter; with no such collect since the last set there is none, and the gain states stay: DESIGN CHOICE, log entry 112. -/
def setMeasure (s : State) (t g z : Nat) : SetResult :=
  let k := calOf s t g
  let bound := accuracyHolds s t g (rdFld s (.arrTiming t) 4 0)
  let trims := fun c => (mapGet 0 k.gt c, mapGet 0 k.ot c)
  let useRef := refUsable s t g
  let mean := fun plus c => gainOfMean (patP s t g plus) (meanCode (calCodes s t g bound (patP s t g plus) (trims c) c (if plus then 1 else 2) 16))
  let hp := if useRef then (List.range 512).map (fun c => (mean true c, mean false c)) else []
  let bad := useRef && refDiffers hp (mapFind k.ht)
  let mRef : Option Rat := if k.track.n = 0 then none else some (2 * k.track.n / (k.track.h0 + k.track.h1))
  { z := (List.range 516).map (fun c => meanCode (calCodes s t g bound (patZ s t g z) (trims c) c 0 16))
    m := (List.range 516).map (fun c => if useRef && !bad && decide (c < 512) then some (refFactor (mapGet 1 k.karr 16) (hp.getD c (1, 1))) else mRef)
    refBad := bad, phases := if useRef then 48 else 16 }

/-- Gain residual r of a converter (R98): 0 where nothing measures it. -/
def gainResidual (s : State) (t g : Nat) (k : GroupCal) (r : SetResult) (c : Nat) : Rat :=
  match r.m.getD c none with
  | some m => m / mapGet 1 k.kbase c - (1 + mapGet 0 k.sGain c + tempDrift s t g k.t0)
  | none => 0

/-- Soft limits of Table CAL-4: of the gain residual and of the offset residual. -/
def softGain (prob : Bool) : Rat := if prob then 1 / 800 else 1 / 400
def softOffset (prob : Bool) : Rat := if prob then 2 else 4

/-- Soft-limit excursions and hard excursions of the residuals of a set (Table CAL-4). -/
def excursions (prob : Bool) (rs qs : List Rat) : Nat × Bool :=
  ((rs.filter (fun r => ratOff r 0 (softGain prob))).length + (qs.filter (fun q => ratOff q 0 (softOffset prob))).length,
    rs.any (fun r => ratOff r 0 (1 / 100)) || qs.any (fun q => ratOff q 0 16))

/-- A filter state after a residual (R98): by alpha, or all of it beyond the soft limit. -/
def filterStep (alpha soft old res : Rat) : Rat := old + (if ratOff res 0 soft then 1 else alpha) * res

/-- alpha of a set (R98): dt / tau_eff, at most 1; 1 for the first set since the seeding, from which the running averages start (R102). -/
def filterAlpha (s : State) (t : Nat) (k : GroupCal) (prob : Bool) : Rat :=
  let tau : Rat := (2 ^ rdFld s (.calCtrl t) 12 8 : Nat)
  if k.anySet then min 1 (((s.tick - k.lastSet : Nat) : Rat) / (if prob then tau / 8 else tau)) else 1

/-- The result of a complete set after the filter (R97 to R99, R102): a hard excursion in the first set after RECAL is a converter fault; any other leads to RECAL in service or
from STALE, and to foreground calibration before service; without one a STALE group returns. -/
def judgeSet (s : State) (t g : Nat) (st : Nat) (hard afterRecal : Bool) : State :=
  let past := decide ((calOf s t g).probEnd ≤ s.tick)
  if hard && afterRecal then converterFault s t g
  else if hard then (if inService s t || st == calStale then enterRecal s t g else setCalState s t g calForeground)
  else if st = calStale then setCalState s t g (if past then calAdmitted else calProbation)
  else if st = calProbation && past && !(calOf s t g).hardSeen then setCalState s t g calAdmitted
  else s

/-- A complete measurement set of a group (R96 to R99).  One of a group in RECAL, FOREGROUND or UNCAL is dropped, and a STALE group's set uses τ and the limits of an admitted
group, also within its probation: DESIGN CHOICE, log entry 117. -/
def measureSet (s : State) (t g z : Nat) : State :=
  let st := calState s t g
  if !(st == calProbation || st == calAdmitted || st == calStale) || !calMayLaunch s t g then s
  else
    let k := calOf s t g
    let r := setMeasure s t g z
    let s0 := if r.refBad then wrBit s (.calFlag t g) 30 true else s
    let s1 := draw (onTile s0 t (fun x => { x with conv := x.conv + BitVec.ofNat 64 r.phases }))
    let prob := st == calProbation
    let alpha := filterAlpha s t k prob
    let rs := (List.range 516).map (gainResidual s t g k r)
    let qs := (List.range 516).map (fun c => 8 * r.z.getD c 0)
    let x := excursions prob rs qs
    let s2 := onCal s1 t g (fun k => { k with
      sGain := (List.range 516).map (fun c => (c, filterStep alpha (softGain prob) (mapGet 0 k.sGain c) (rs.getD c 0)))
      oOff := (List.range 516).map (fun c => (c, filterStep alpha (softOffset prob) (mapGet 0 k.oOff c) (qs.getD c 0)))
      lastSet := s.tick, anySet := true, probSet := true, hardSeen := k.hardSeen || x.2, afterRecal := false, track := {} })
    let s3 := if x.1 = 0 then s2 else count s2 (.calSoftcnt t) x.1
    judgeSet (settleCal s3 t g) t g st x.2 k.afterRecal

/-- MEASUREMENT_SET (R90, R97, R98): the engine's set of a group in an open window of the fallow-slot plan. -/
def execMeasurementSet (t : Fin 128) (g : Fin 32) (zSlot : Fin 17) (s : State) : Host.Outcome State Fault Refusal := .next (if inWindow s t g then measureSet s t g zSlot else s)

/-- PROBATION_SET (R102): the engine's own set of a group in probation, outside steps. -/
def execProbationSet (t : Fin 128) (g : Fin 32) (zSlot : Fin 17) (s : State) : Host.Outcome State Fault Refusal :=
  .next (if calState s t g = calProbation ∧ stepping s t = false then measureSet s t g zSlot else s)

/-- GROUP_STALE (R97): the last complete set of a serving group is more than 100 ms old. -/
def execGroupStale (t : Fin 128) (g : Fin 32) (s : State) : Host.Outcome State Fault Refusal :=
  .next (if inService s t && (calState s t g == calProbation || calState s t g == calAdmitted)
      && decide ((calOf s t g).lastSet + 100000 < s.tick) then
      let s1 := count (setCalState s t g calStale) (.calStalecnt t) 1
      recordEvent s1 0x0404 (plotField s1 t) 1 (islTile t) t (gstatView s1 t g) g
    else s)

/-- PROBATION_END (R102): 200 ms from seeding; a group with a complete set and no hard excursion is ADMITTED. -/
def execProbationEnd (t : Fin 128) (g : Fin 32) (s : State) : Host.Outcome State Fault Refusal :=
  let k := calOf s t g
  .next (if calState s t g = calProbation ∧ k.probEnd ≤ s.tick ∧ k.probSet = true ∧ k.hardSeen = false then setCalState s t g calAdmitted else s)

/-! ### Repair (R108, R109) -/

/-- REPAIR_START (R108 step 1): for a flagged slot of a group whose spare is EMPTY or REFERENCE, firmware writes RETIRED_NEXT and requests the repair
write; the spare enters PROGRAMMING. -/
def execRepairStart (t : Fin 128) (g : Fin 32) (slot : Fin 16) (s : State) : Host.Outcome State Fault Refusal :=
  .next (if bit (rd s (.calFlag t g)) slot && (spare s t g == spEmpty || spare s t g == spReference) then
      setSpare (wrFld s (.arrGrp t g) 12 8 slot) t g spProgramming
    else s)

/-- CALSTORE_SAVE (R105): from the PF or the management port, under feature CALSAVE.  Tiles outside a step are snapshot at once, the others as their step ends; the save is answered
once both stores are written.  A second save meanwhile is answered BUSY: DESIGN CHOICE, log entry 113. -/
def execCalstoreSave (m : Msg) (type : BitVec 16) (s : State) : Host.Outcome State Fault Refusal :=
  .next (serve s m { type := type.toNat, vf := false, feature := some 1 } (fun s =>
    if s.ram.saving.isSome then respond s m type.toNat stBusy 0 []
    else snapshotTiles { s with ram := { s.ram with saving := some { owner := m.owner, seq := m.seq, version := m.version, type := type.toNat, due := allTiles, tiles := [] } } }
      (allTiles.filter (fun t => !stepping s t))))

end Sys2Proof.Machine
end

