-- ==== Sys2Proof/Machine/Power.lean ====
section
/-! DEFINITION. The power governor: rail warnings and halved budgets (R165, R170, R171), temperature (R174, R175), voltage requests and tile
frequencies (R162, R163), wake tokens (R167), rates (R164), and the CLK registers (R178). -/
set_option Elab.async false
namespace Sys2Proof.Machine

/-! ### The active-array budget (R165) -/

/-- Thermal level of die d, from PWR_DIE. -/
def thermalLevel (s : State) (d : Nat) : Nat := 2 * boolNat (bit (rd s .pwrDie) (16 + d)) + boolNat (bit (rd s .pwrDie) (8 + d))
/-- The state with the thermal level of die d set. -/
def setThermalLevel (s : State) (d v : Nat) : State :=
  wrBit (wrBit s .pwrDie (16 + d) (decide (2 ≤ v))) .pwrDie (8 + d) (v % 2 == 1)
/-- Die d is halved. -/
def halved (s : State) (d : Nat) : Bool := bit (rd s .pwrTemp) (8 + d)
/-- Die d is HOT. -/
def isHot (s : State) (d : Nat) : Bool := bit (rd s .pwrTemp) (16 + d)

/-- TBUDGET of the tile's record in the committed image of its plot. -/
def tbudget (s : State) (t : Nat) : Option Nat :=
  match plotOf s t with
  | some p => (tileCfg s p t).map (fun c => c.tbudget)
  | none => none

/-- The budget of tile t (R165). -/
def budgetOf (s : State) (t : Nat) : Nat :=
  let tcap := rdFld s .pwrCtrl 5 0
  let cap := max 1 (tcap * (4 - thermalLevel s (t / 16)) / 4)
  let b := min ((tbudget s t).getD tcap) cap
  if halved s (t / 16) then max 1 (b / 2) else b

/-- The governor writes BUDGET of tile t. -/
def writeBudget (s : State) (t : Nat) : State :=
  wrFld (onTile s t (fun x => { x with budgetDue := false })) (.arrStatus t) 21 16 (budgetOf s t)

/-- BUDGET has had its first write, in stage S3 (R165). -/
def budgetWritten (s : State) (t : Nat) : Bool := rdFld s (.arrStatus t) 21 16 != 0

/-- The tile belongs to a serving plot. -/
def tileServing (s : State) (t : Nat) : Bool := match plotOf s t with | some p => plotRun s p == pServing | none => false

/-- A change of level, TCAP or image: at the next step boundary of a serving plot, else at once (R165). -/
def changeBudget (s : State) (t : Nat) : State :=
  if !budgetWritten s t then s
  else if tileServing s t then onTile s t (fun x => { x with budgetDue := true })
  else writeBudget s t

/-- The ramp of the whole module stays within 50 A/µs: 1,792 × RAMPT + 115 × TOKENS ≤ 50,000 (R168). -/
def rampFits (rampt tokens : Nat) : Bool := decide (1792 * rampt + 115 * tokens ≤ 50000)

/-- A field is in a range. -/
def fieldIn (v : Word) (hi lo a b : Nat) : Bool := decide (a ≤ fld v hi lo) && decide (fld v hi lo ≤ b)

/-- PWR_CTRL takes a word (R168, R177): as a whole, and only with every field in its range and the ramp within bounds; a new TCAP changes the budgets (R165). -/
def writePwrCtrl (s : State) (v : Word) : State :=
  if fieldIn v 29 20 10 1000 && fieldIn v 19 13 60 95 && fieldIn v 12 6 1 63 && fieldIn v 5 0 1 63 && rampFits (fld v 12 6) (rdFld s .pwrWake 3 0) then
    let s1 := wrCommit s .pwrCtrl v
    if fld v 5 0 = rdFld s .pwrCtrl 5 0 then s1 else forAll changeBudget s1 allTiles
  else s

/-- PWR_WAKE takes a word (R167, R168, R177): the bucket has its new depth at once. -/
def writePwrWake (s : State) (v : Word) : State :=
  if fieldIn v 25 16 5 1000 && fieldIn v 3 0 1 8 && rampFits (rdFld s .pwrCtrl 12 6) (fld v 3 0) then showTokens (wrCommit s .pwrWake v) else s

/-- NET_BERCFG's fields are in range (Table NET-14), and RST_CFG's (Table RST-13). -/
def berOk (v : Word) : Bool := fieldIn v 27 24 1 9 && fieldIn v 19 16 3 12 && fieldIn v 11 8 1 9 && fieldIn v 3 0 3 12
def rstCfgOk (v : Word) : Bool := fieldIn v 25 16 10 1000 && fieldIn v 15 0 100 10000

/-! ### Frequency and voltage (R162, R163) -/

/-- VTILEd request that suits a highest target frequency, mV (Table PWR-3). -/
def voltFor (mhz : Nat) : Nat := if mhz ≤ 800 then 700 else if mhz ≤ 1000 then 750 else 850
/-- Highest frequency that a voltage of VTILEd suits. -/
def voltMax (mv : Nat) : Nat := if mv < 750 then 800 else if mv < 850 then 1000 else 1200
/-- Highest target frequency among the die's tiles. -/
def dieTarget (s : State) (d : Nat) : Nat := maxNat ((dieTiles d).map (fun t => (tile s t).target))
/-- Highest frequency in force on the die. -/
def dieFreq (s : State) (d : Nat) : Nat := maxNat ((dieTiles d).map (fun t => (tile s t).freq))
/-- Voltage of VTILEd in force; 0.75 V suits the 1,000 MHz of tiles without an image. -/
def dieVolt (s : State) (d : Nat) : Nat := mapGet 750 s.power.volt d

/-- The governor asks the regulator of die d for the voltage that suits its targets: a raise before a frequency rises, a lower voltage only
after the lower frequency is in force. -/
def requestVolt (s : State) (d : Nat) : State :=
  let v := voltFor (max (dieTarget s d) (dieFreq s d))
  if v = dieVolt s d then { s with power := { s.power with request := mapErase s.power.request d } }
  else { s with power := { s.power with request := mapInsert s.power.request d v } }

/-- A tile takes its target frequency where its die's voltage suits it (R163). -/
def settleFreq (s : State) (t : Nat) : State :=
  if voltFor (tile s t).target ≤ dieVolt s (t / 16) then onTile s t (fun x => { x with freq := x.target })
  else s

/-- FREQ_MHZ of the committed image, or 1,000 MHz (R162). -/
def imageFreq (s : State) (t : Nat) : Nat :=
  match plotOf s t with
  | some p => match tileCfg s p t with | some c => c.freq | none => 1000
  | none => 1000

/-- The lowest and the highest frequency that PHASE_CYC leaves a tile (R35). -/
def freqLow (s : State) (t : Nat) : Nat := max 600 (50 * rdFld s (.arrTiming t) 4 0)
def freqHigh (s : State) (t : Nat) : Nat := min 1200 (100 * rdFld s (.arrTiming t) 4 0)

/-- The frequency a tile should have: the lowest of its window while its die is HOT (R35, R174), else its image's, kept to the window. -/
def wantedFreq (s : State) (t : Nat) : Nat :=
  if isHot s (t / 16) then freqLow s t else max (freqLow s t) (min (freqHigh s t) (imageFreq s t))

/-- The governor aims tile t at the frequency it should have, and asks for the voltage; outside a step the change follows at once, as far as the
voltage allows. -/
def aimFreq (s : State) (t : Nat) : State :=
  let s1 := requestVolt (onTile s t (fun x => { x with target := wantedFreq s t })) (t / 16)
  if tileServing s1 t then s1 else requestVolt (settleFreq s1 t) (t / 16)

/-- A tile that has been reset starts at the frequency it should have, as far as its die's voltage allows (R162, R163). -/
def startFreq (s : State) (t : Nat) : State :=
  let s1 := requestVolt (onTile s t (fun x => { x with target := wantedFreq s t })) (t / 16)
  requestVolt (onTile s1 t (fun x => { x with freq := min x.target (voltMax (dieVolt s1 (t / 16))) })) (t / 16)

/-- AVS_ACK (R163, R448): the regulator of die d acknowledges; AVSFAIL clears, and pending rises of tiles outside serving plots take effect.  Those
of a serving plot follow at its next step boundary. -/
def execAvsAck (d : Fin 8) (s : State) : Host.Outcome State Fault Refusal :=
  match mapFind s.power.request d with
  | none => .next s
  | some v =>
    let s1 := { s with power := { s.power with volt := mapInsert s.power.volt d v, request := mapErase s.power.request d } }
    let s2 := wrBit s1 .pwrDie (24 + d) false
    .next (requestVolt (forAll (fun s t => if tileServing s t then s else settleFreq s t) s2 (dieTiles d)) d)

/-- AVS_TIMEOUT (R163): 100 µs without acknowledgement; the lower frequency stays in force, AVSFAIL is set and an event recorded. -/
def execAvsTimeout (d : Fin 8) (s : State) : Host.Outcome State Fault Refusal :=
  match mapFind s.power.request d with
  | none => .next s
  | some _ =>
    let s1 := wrBit { s with power := { s.power with request := mapErase s.power.request d } } .pwrDie (24 + d) true
    .next (irqCores (recordEvent s1 0x0105 moduleEvent 2 islHeadland d (rd s1 .pwrDie) 0) headlandCores 17)

/-! ### Supply sag (R169 to R173) -/

/-- The rails of Table PWR-4: 0 to 4 and 8 to 23. -/
def isRail (r : Nat) : Bool := decide (r ≤ 4) || (decide (8 ≤ r) && decide (r ≤ 23))
/-- The compute die a rail feeds, for VTILEd and VCIMd. -/
def railDie (r : Nat) : Option Nat := if 8 ≤ r ∧ r ≤ 23 then some (r % 8) else none

/-- SUPPLY_WARNING (R170, R171): the rail is logged, counted and reported; for a tile rail, running tiles of the die stall under SUPPLY for
`stallNs` until the governor has halved the die and written the halved budgets. -/
def execSupplyWarning (rail : Fin 24) (stallNs : Nat) (s : State) : Host.Outcome State Fault Refusal :=
  if !isRail rail then .next s
  else
    let s1 := count (wrBit (wrBit s .pwrStatus rail true) .pwrWarnlog rail true) .pwrWarncnt 1
    let s2 := recordEvent s1 0x0101 moduleEvent 1 islHeadland rail (rd s1 .pwrStatus) 0
    let s3 := signalFn (irqCores s2 headlandCores 14) 0 4
    .next (match railDie rail with
      | none => s3
      | some d =>
        let s4 := forAll (fun s t => if tileRun s t = tRunning then chargeStall s t srcSupply (stallNs * (tile s t).freq / 1000) else s) s3 (dieTiles d)
        if halved s4 d then s4
        else forAll (fun s t => if budgetWritten s t then writeBudget s t else s) (wrBit s4 .pwrTemp (8 + d) true) (dieTiles d))

/-- RAIL_WARNING_END (R170, R411, R454): the rail is back above its warning level; islands that its supply reset holds may be released. -/
def execRailWarningEnd (rail : Fin 24) (s : State) : Host.Outcome State Fault Refusal :=
  .next (if isRail rail then
      wrBit { s with power := { s.power with railReset := s.power.railReset.filter (· ≠ rail.val) } } .pwrStatus rail false
    else s)

/-- HALVING_END (R171): both rails have held at or above 97 % for HOLD_US; the tiles regain their budget at the next step boundary. -/
def execHalvingEnd (d : Fin 8) (s : State) : Host.Outcome State Fault Refusal :=
  .next (if halved s d then forAll changeBudget (wrBit s .pwrTemp (8 + d) false) (dieTiles d) else s)

/-- PWR_ALERT_N is driven low (R454). -/
def pwrAlertLow (s : State) : Bool :=
  rdFld s .pwrStatus 23 0 != 0 || (List.range 8).any (fun d => thermalLevel s d != 0)

/-- RETENTION_LOSS (R56, R173): VALID of every slot of the die clears, its cells are lost, RET_LOSS is set on each tile, conversions in flight give
VOID lanes, and one event names the die.  RET_LOSS captures ARR_ERRINFO with group and slot 0, as WRITE_REFUSED and VERIFY_FAIL capture theirs, and CFG does not: DESIGN CHOICE, log entry
119. -/
def execRetentionLoss (d : Fin 8) (s : State) : Host.Outcome State Fault Refusal :=
  let one := fun (s : State) (t : Nat) =>
    let s1 := forAll (fun s g => wr s (.arrValid t g) 0) s (List.range 32)
    arrErrorQuiet (onTile s1 t (fun x => { x with cells := [], lost := some s.fresh, mvms := x.mvms.map (fun m => if m.done then m else { m with void := true }) })) t
  let s1 := draw (forAll one s (dieTiles d))
  .next (recordEvent s1 0x0401 moduleEvent 3 islHeadland d (rd s1 (.arrErr (16 * d.val))) 0)
where
  /-- RET_LOSS, with ARR_ERRINFO where it is empty. -/
  arrErrorQuiet (s : State) (t : Nat) : State := arrError s t 0 0 [8]

/-! ### Temperature (R174, R175) -/

/-- Temperature of die d, °C + 64. -/
def dieTemp (s : State) (d : Nat) : Nat := mapGet 0 s.power.dieTemp d

/-- The event, the interrupt of the headland cores and, for a level change, of the PF. -/
def thermalEvent (s : State) (object sev level : Nat) : State :=
  irqCores (recordEvent s 0x0104 moduleEvent sev islHeadland object (rd s .pwrTemp) level) headlandCores 15

/-- THERMAL_LEVEL_CHANGE (R174): after 1 ms at or above THR the level rises by 1, to at most 3; below THR − 5 °C it falls by 1. -/
def execThermalLevelChange (d : Fin 8) (s : State) : Host.Outcome State Fault Refusal :=
  let l := thermalLevel s d
  let thr := rdFld s .pwrCtrl 19 13 + 64
  .next (if thr ≤ dieTemp s d ∧ l < 3 then
      signalFn (thermalEvent (forAll changeBudget (count (setThermalLevel s d (l + 1)) .pwrThrcnt 1) (dieTiles d)) d 1 (l + 1)) 0 4
    else if dieTemp s d + 5 < thr ∧ 0 < l then
      signalFn (thermalEvent (forAll changeBudget (setThermalLevel s d (l - 1)) (dieTiles d)) d 1 (l - 1)) 0 4
    else s)

/-- HOT (R174): the die is at or above 100 °C; its tiles aim at the lowest frequency of their window. -/
def execHot (d : Fin 8) (s : State) : Host.Outcome State Fault Refusal :=
  .next (if isHot s d ∨ dieTemp s d < 164 then s
    else thermalEvent (forAll aimFreq (wrBit s .pwrTemp (16 + d) true) (dieTiles d)) d 2 (thermalLevel s d))

/-- HOT_END (R174): below 95 °C for 1 ms; the committed frequencies are aimed at again. -/
def execHotEnd (d : Fin 8) (s : State) : Host.Outcome State Fault Refusal :=
  .next (if isHot s d ∧ dieTemp s d < 159 then forAll aimFreq (wrBit s .pwrTemp (16 + d) false) (dieTiles d) else s)

/-- THERMTRIP_RELEASE (R175): every sensor reads below 90 °C. -/
def execThermtripRelease (s : State) : Host.Outcome State Fault Refusal :=
  .next (if s.power.baseTemp < 154 ∧ (List.range 8).all (fun d => decide (dieTemp s d < 154)) then
    { s with power := { s.power with thermtrip := false } } else s)

/-! ### Wake tokens (R167) and rates (R164) -/

/-- Groups that wait for a wake start waking. -/
def startWaking (s : State) (t : Nat) : State :=
  forAll (fun s g => wrFld s (.arrGrp t g) 21 20 1) (onTile s t (fun x => { x with wakeWaits := [] })) (tile s t).wakeWaits

/-- Tile t is the lowest tile whose wake may take a token (R167). -/
def nextWaking (s : State) (t : Nat) : Bool := !(tile s t).wakeWaits.isEmpty && !dieWarned s t && !dieInReset s t && !lowerWaits s t

/-- WAKE_GRANT (R167, R143): the lowest waiting tile takes a token; its wake was delayed by `delayNs`, recorded as a RAMP overrun. -/
def execWakeGrant (t : Fin 128) (delayNs : Nat) (s : State) : Host.Outcome State Fault Refusal :=
  .next (if tokens s = 0 ∨ !nextWaking s t then s
    else slackOverrun (startWaking (takeToken s) t) t 0 1 delayNs)

/-- WAKE_TOKEN_RETURN (R167): a token taken WIN_US ago is back. -/
def execWakeTokenReturn (s : State) : Host.Outcome State Fault Refusal :=
  .next (showTokens { s with power := { s.power with tokensOut := s.power.tokensOut - 1 } })

/-- Full rates must stay: a plot is LOADING, READY, SERVING, HELD or FAULTED, or the staging window of BAR2 is enabled (R164, R335). -/
def fullRateNeeded (s : State) : Bool :=
  allPlots.any (fun p => let v := pltState s p; v == pltLoading || v == pltReady || v == pltServing || v == pltHeld || v == pltFaulted)
    || bit (rd s .hifB2ctl) 31

/-- A need of the full rates starts the rise to them, and turns a lowering in progress back (R164). -/
def riseForNeed (s : State) : State :=
  if fullRateNeeded s && (s.power.changing == some false || (s.power.changing.isNone && !bit (rd s .lpxStatus) 0)) then
    { s with power := { s.power with changing := some true } }
  else s

/-! ### Sensors and clocks -/

/-- An index of Table PWR-1 is in use. -/
def isIsland (i : Nat) : Bool := decide (i ≤ 5) || (decide (8 ≤ i) && decide (i ≤ 39)) || (decide (64 ≤ i) && decide (i ≤ 191))

/-- Cycles that an island's clock makes in 16 µs at its set frequency (Table PWR-1): 800, 1,000 and 1,062.5 MHz, the fabric's and the LPDDR5X islands'
rates in force, and the frequency of a tile. -/
def islandCycles (s : State) (i : Nat) : Nat :=
  if i = 3 then (if s.power.fabricSlow then 12800 else 19200)
  else if i = 5 then 16000
  else if i ≤ 4 then 12800
  else if 8 ≤ i ∧ i ≤ 23 then 17000
  else if 24 ≤ i ∧ i ≤ 39 then (if bit (rd s .lpxStatus) 0 then 10667 else 4266)
  else if 64 ≤ i ∧ i ≤ 191 then 16 * (tile s (i - 64)).freq
  else 0

/-- Islands whose reference is not OSC25 (Table PWR-1). -/
def ownReference (i : Nat) : Bool := decide (4 ≤ i) && decide (i ≤ 23)

/-- What the ring monitor of an island counts in its 16 µs: exact to ±1 cycle; up to 1/24 more where the monitor's backup oscillator is slow and the island has another
reference; less, down to 0, while the island's clock is not ready (R160, R161, R178). -/
def countedCycles (s : State) (i n : Nat) : Nat :=
  let set := islandCycles s i
  let hi := if bit (rd s .clkRefstat) 3 && ownReference i then set + set / 24 + 1 else set + 1
  if bit (rd s (.clkRdy (i / 32))) (i % 32) || i == 0 then max (set - 1) (min hi n) else min hi n

/-- CLK_FSEL (R178): the write selects the island; its ring monitor counts island cycles over 16 µs, `cycles` as far as its clock allows, and MHZ is the nearest whole MHz.
VALID is 0 for an unused index. -/
def execClkFsel (island : BitVec 8) (cycles : Nat) (s : State) : Host.Outcome State Fault Refusal :=
  let i := island.toNat
  let s1 := { wr s .clkFsel (BitVec.ofNat 32 i) with power := { s.power with measuring := some i } }
  .next (if isIsland i then wr s1 .clkFmeas (BitVec.ofNat 32 (0x10000 + (countedCycles s i cycles + 8) / 16)) else wr s1 .clkFmeas 0)

end Sys2Proof.Machine
end

