-- ==== Sys2Proof/Machine/Steps.lean ====
section
/-! DEFINITION. Steps and markers: starting a step and what its boundary brings, the leader's and the followers' markers, holds, and the step
watchdog (R136 to R141, R145, R147, R425, R443). -/
set_option Elab.async false
namespace Sys2Proof.Machine

/-- MARKER_DLY_NS of the committed image. -/
def markerDly (s : State) (p : Nat) : Nat := match imageOf s p with | some i => i.markerDly | none => 0

/-- The plot's checkpoint snapshot is not yet complete (R427): CKP_PSTAT.STATE is CUTTING. -/
def snapshotRuns (s : State) (p : Nat) : Bool := rdFld s (.ckpPstat p) 31 28 == 2

/-- The plot is one that may run a further step: SERVING, no step in progress, not stopped or frozen, no snapshot running, no halt, and not one
that awaits a reload. -/
def stepReady (s : State) (p : Nat) : Bool :=
  plotRun s p == pServing && !(plot s p).inStep && !(plot s p).stopped && !frozen s p && !(plot s p).freezeDue && !snapshotRuns s p
    && !(plot s p).reload

/-- R100: a first step begins only with every group the image uses in PROBATION or ADMITTED. -/
def groupsAdmitted (s : State) (p : Nat) : Bool :=
  match imageOf s p with
  | some i => i.arrtab.all (fun e => let v := calState s e.tile (e.larray / 16); v == calProbation || v == calAdmitted)
  | none => true

/-- Every sub-port of a port is down. -/
def portDown (s : State) (port : Nat) : Bool := rdFld s (.netPstat port) 31 28 == 0 && rdFld s (.netPstat port) 27 24 == 0

/-- R145: flows of a port with no lanes left, and with an ALTPORT, are moved at the boundary. -/
def moveFlows (s : State) (p : Nat) : State :=
  match imageOf s p with
  | none => s
  | some i =>
    let m := (i.flow.filter (fun f => portDown s (f.port / 16) && f.altport != 0xFF)).map (fun f => f.flow)
    if m.isEmpty then s else onPlot s p (fun q => { q with moved := q.moved ++ m.filter (fun f => !q.moved.contains f) })

/-- R443: the sums of the step that has ended, into TEL_PSTALL and TEL_PSLACK, and the worst tile into TEL_PWORST. -/
def stepSums (s : State) (p : Nat) : State :=
  let ts := tilesOf s p
  let stall := fun (t k : Nat) => (rd s (.schLstall t k)).toNat
  let total := fun t => sumNat ((List.range 5).map (stall t))
  let s1 := forAll (fun s k => wr s (.telPstall p k) (BitVec.ofNat 32 (satNat (sumNat (ts.map (fun t => stall t k))) 0xFFFFFFFF))) s (List.range 5)
  let s2 := wr s1 (.telPslack p) (BitVec.ofNat 32 (satNat (sumNat (ts.map (fun t => (tile s t).stepSlack))) 0xFFFFFFFF))
  let w := ts.foldl (fun w t => if total w < total t then t else w) (ts.headD 0)
  if ts.isEmpty then s2 else wr s2 (.telPworst p) (BitVec.ofNat 32 (w * 2 ^ 25 + satNat (total w) 0x1FFFFFF))

/-- What a step boundary brings to one tile: MVMs still in flight have completed; region registers (R189), substitutions (R45), the budget (R165), calibration values (R99), the
frequency (R162, R163), the seed (R83); then the tile starts at cycle 0.  At the first boundary after a start, a spare repaired before an abort is measured first, so that its
substitution commits there (Table CAL-12). -/
def boundaryTile (first : Bool) (s : State) (t : Nat) : State :=
  let s0 := ((tile s t).mvms.filter mvmActive).foldl (fun s m => completeMvm s t m) s
  let s1 := (tile s0 t).rgnDue.foldl (fun s e => wr s (.tilRgn t (e.1 / 16) (e.1 % 16)) e.2) s0
  let s2 := onTile (unwatch s1 t).1 t (fun x => { x with
    rgnDue := [], mvms := [], landing := [], loops := [], held := [], gather := [], due := 0, portUse := [], bankSecond := [], window := none, stallNs := 0
    stepStall := [0, 0, 0, 0, 0], stepSlack := 0, ppFree := 0, vecFree := 0, accFree := 0, drainFree := 0, seed := x.seed + 1 })
  let s2 := if first then forAll (fun s g => if spare s t g = spReady then measureSpare s t g else s) s2 (tile s2 t).karrDue else s2
  let s3 := forAll (fun s g => commitSubstitution s t g) s2 (List.range 32)
  let s4 := if (tile s3 t).budgetDue then writeBudget s3 t else s3
  let s5 := forAll (fun s g => if (calOf s t g).due then applyCal s t g else s) s4 (List.range 32)
  settleFreq s5 t

/-- A tile of the image starts its step. -/
def startTile (s : State) (t : Nat) : State :=
  wr (wrFld (wrFld (setTileRun s t tRunning) (.schStatus t) 28 23 0) (.schStatus t) 13 0 0) (.schCycle t) 0

/-- SCH_PCTRL.HOLD written as 1 on a plot (R139): a follower forwards the request to its leader, a leader sends STOP in place of its next START, and
a plot alone holds after the step in progress. -/
def holdJob (s : State) (p : Nat) : State :=
  let s1 := wrBit s (.schPctrl p) 0 true
  if inJob s1 p then
    if isLeader s1 p then onPlot s1 p (fun q => { q with holdDue := true }) else emit s1 (.notice (jobOf s1 p) false)
  else if plotRun s1 p = pServing ∧ (plot s1 p).inStep = false then holdPlot s1 p else s1

/-- The plot starts its next step: the boundary's changes, then every tile of the image from bundle 0 (R136, R137); at the hold step of an armed
plot it asks for a hold (R425). -/
def startStep (s : State) (p : Nat) (late : Nat) : State :=
  let n := nextStep s p
  let ts := match imageOf s p with | some i => i.tiles.map (fun c => c.tile) | none => []
  let s1 := if (plot s p).started then stepSums s p else s
  let s2 := moveFlows (forAll (boundaryTile (!(plot s p).started)) s1 (tilesOf s1 p)) p
  let s3 := forAll requestVolt s2 ((List.range 8).filter (fun d => (tilesOf s p).any (fun t => t / 16 == d)))
  let s4 := onPlot (forAll startTile s3 ts) p (fun q => { q with
    step := n, started := true, inStep := true, startSent := false, startHeld := false,
    xings := q.xings.map (fun e => (e.1, { e.2 with started := 0 })) })
  let s5 := irqCores (wr s4 (.schPlate p) (BitVec.ofNat 32 (if inJob s p && !isLeader s p then satNat late 0xFFFFFFFF else 0))) headlandCores 19
  if rdFld s5 (.ckpPstat p) 31 28 = 1 ∧ (ckpOf s5 p).hstep = n then holdJob s5 p else s5

/-- STEP_START (R136, R137): `sinceNs` ns after its last step start, `markerNs` after its START went out, `lateNs` after a START came in.  A plot alone waits for STEP_NS, a
leader for MARKER_DLY_NS after its START, a follower for the START marker. -/
def execStepStart (p : Fin 12) (sinceNs markerNs lateNs : Nat) (s : State) : Host.Outcome State Fault Refusal :=
  let q := plot s p
  let due := if !inJob s p then !q.started || decide (stepNs s p ≤ sinceNs) else if isLeader s p then q.startSent && decide (markerDly s p ≤ markerNs) else q.startHeld
  .next (if !stepReady s p || !due || (!q.started && !groupsAdmitted s p) then s else startStep s p lateNs)

/-- LEADER_START (R137, R139, R147): once every tile has ended and STEP_NS − MARKER_DLY_NS have passed, the leader sends START for its next step, or
STOP where a hold or a fault is due, after which it is HELD. -/
def execLeaderStart (p : Fin 12) (sinceNs : Nat) (s : State) : Host.Outcome State Fault Refusal :=
  let q := plot s p
  .next (if !(inJob s p && isLeader s p && stepReady s p && !q.startSent && (!q.started || decide (stepNs s p ≤ sinceNs + markerDly s p))) then s
    else if q.faultDue || q.holdDue then
      holdPlot (emit (onPlot s p (fun q => { q with stopped := true, holdDue := false, faultDue := false })) (.stop (jobOf s p) (nextStep s p) q.faultDue (markerFlow s p))) p
    else emit (onPlot s p (fun q => { q with startSent := true })) (.start (jobOf s p) (nextStep s p) (markerFlow s p)))

/-- A marker fault (R138, R147), named on the plot's lowest tile. -/
def markerFault (s : State) (p : Nat) : State :=
  match (tilesOf s p).head? with
  | some t => tileFault s t { sch := [8] }
  | none => s

/-- The plot follows the markers of a job. -/
def follows (s : State) (p : Nat) (job : DWord) : Bool := inJob s p && !isLeader s p && jobOf s p == job

/-- MARKER_START_RECEIVED (R138, R139): START for the follower's next step is held until it starts, and resumes a HELD follower; for any other step
the plot faults. -/
def execMarkerStartReceived (p : Fin 12) (job step : DWord) (s : State) : Host.Outcome State Fault Refusal :=
  let v := plotRun s p
  .next (if !follows s p job || !(v == pServing || (v == pHeld && !frozen s p)) then s
    else if nextStep s p ≠ step then markerFault s p
    else onPlot (if v = pHeld then setPlt s p pltServing else s) p (fun q => { q with startHeld := true, stopped := false }))

/-- MARKER_STOP_RECEIVED (R139, R147): the follower ends its step and then issues nothing; between steps it is HELD at once. -/
def execMarkerStopReceived (p : Fin 12) (job : DWord) (_fault : Bool) (s : State) : Host.Outcome State Fault Refusal :=
  .next (if !follows s p job || plotRun s p != pServing then s
    else
      let s1 := onPlot s p (fun q => { q with stopped := true, startHeld := false })
      if (plot s p).inStep then s1 else holdPlot s1 p)

/-- MARKER_TIMEOUT (R138): no marker WDOG_NS after STEP_NS has passed from the follower's step start. -/
def execMarkerTimeout (p : Fin 12) (sinceNs : Nat) (s : State) : Host.Outcome State Fault Refusal :=
  let q := plot s p
  .next (if follows s p (jobOf s p) && plotRun s p == pServing && q.started && !q.stopped && !q.startHeld
      && decide (stepNs s p + wdogNs s p ≤ sinceNs) then markerFault s p else s)

/-- FAULT_NOTICE (R147 step 4): the leader will send STOP with cause FAULT in place of its next START. -/
def execFaultNotice (p : Fin 12) (job : DWord) (s : State) : Host.Outcome State Fault Refusal :=
  .next (if inJob s p && isLeader s p && jobOf s p == job then onPlot s p (fun q => { q with faultDue := true }) else s)

/-- STEP_WATCHDOG (R141): after `waited` more stall cycles the tile's continuous stall, DEBUG apart, exceeds WDOG_NS, and the tile faults. -/
def execStepWatchdog (t : Fin 128) (waited : Nat) (s : State) : Host.Outcome State Fault Refusal :=
  .next (if tileRun s t = tRunning ∧ rdFld s (.schStatus t) 25 23 ≠ srcDebug + 1 then chargeWait waited s t else s)

/-- HOLD (R139): a write of SCH_PCTRL.HOLD = 1, or a follower's forwarded request arriving at its leader. -/
def execHold (p : Fin 12) (forwarded : Bool) (s : State) : Host.Outcome State Fault Refusal :=
  .next (if forwarded then (if inJob s p && isLeader s p then onPlot s p (fun q => { q with holdDue := true }) else s) else holdJob s p)

/-- HOLD_RESUME (R139): a write of HOLD = 0; on the leader, or a plot alone, a HELD plot that is not frozen serves again.  Before its STOP has gone out, a leader of several
plots still owes it, while a plot alone goes on: the rule is silent, DESIGN CHOICE, log entry 121. -/
def execHoldResume (p : Fin 12) (s : State) : Host.Outcome State Fault Refusal :=
  let s1 := wrBit s (.schPctrl p) 0 false
  .next (if isLeader s p && plotRun s p == pHeld && !frozen s p && !(plot s p).reload then
      onPlot (setPlt s1 p pltServing) p (fun q => { q with stopped := false, holdDue := false, startSent := false })
    else s1)

/-- HALT (R127, R376): only under a debug session with scope PLOTHALT; the DEBUG stall of the plot is set, or released and held bundles are judged
again. -/
def execHalt (p : Fin 12) (v : Bool) (s : State) : Host.Outcome State Fault Refusal :=
  let allowed := match s.sec.dbgScope with | some m => m.testBit 0 | none => false
  .next (if !allowed then s
    else
      let s1 := wrBit s (.schPctrl p) 1 v
      if v then s1 else retry s1 (tilesOf s1 p) 0)

end Sys2Proof.Machine
end

