-- ==== Sys2Proof/Machine/OpsReset.lean ====
section
/-! DEFINITION. What a reset of each island loses, and the erasure of keys (R21, R209, R255, R286, R311, R353, R364, R410 to R413). -/
set_option Elab.async false
namespace Sys2Proof.Machine

/-- Island i (Table PWR-1) is in reset (RST_INRST). -/
def inReset (s : State) (i : Nat) : Bool := bit (rd s (.rstInrst (i / 32))) (i % 32)

/-- The state with a function applied to the security island. -/
def onSec (s : State) (f : SecState → SecState) : State := { s with sec := f s.sec }

/-- SEC_STATUS.MODE codes (Table SEC-17). -/
def smStartup : Nat := 0
def smService : Nat := 1
def smRecovery : Nat := 2

/-- DUAL mode is in force: in every mode but SERVICE (R362). -/
def dualMode (s : State) : Bool := rdFld s .secStatus 31 30 != smService

/-- USED of SEC_STATUS counts the general slots filled. -/
def showSlots (s : State) : State := wrFld s .secStatus 8 0 s.sec.slots.length

/-- A connection set-up or rekey owed to a requester is answered REFUSED. -/
def refuseOwed (s : State) (c : Ctx) : State :=
  match c.owed with
  | some (o, seq, v, type) => answer s o (BitVec.ofNat 32 seq) v type stRefused 0 []
  | none => s

/-- A management session closes (R379); with the last of them the requests of the management port are discarded. -/
def closeSession (s : State) (k : Nat) : State :=
  let s1 := emit { s with sec := { s.sec with sessions := s.sec.sessions.filter (· ≠ k) } } (.message mgmtPort "CLOSE" k)
  if s1.sec.sessions.isEmpty then emptyBox s1 mgmtPort else s1

/-- Every management session closes. -/
def closeSessions (s : State) : State := forAll closeSession s s.sec.sessions

/-- A storage command ends at once with TRANSPORT (R364). -/
def stgTransport (s : State) (n : Nat) : State :=
  let s1 := onRma s (fun r => { r with ops := r.ops.filter (fun o => !(o.src == .storage n)), waitOps := r.waitOps.filter (fun o => !(o.src == .storage n)) })
  dropSource (stgEnd s1 n 7 rsClosed) (.storage n)

/-- The opens that a husk load of plot p holds are gone, and its groups may go fallow again (R55). -/
def endLoad (s : State) (p : Nat) : State :=
  forAll (fun s t =>
    let gs := ((tile s t).writes.filter (fun w => w.load && w.kind == .husk)).map (fun w => w.group)
    if gs.isEmpty then s
    else forAll (fun s g => closeFallow s t g) (onTile s t (fun x => { x with writes := x.writes.filter (fun w => !(w.load && w.kind == .husk)) })) gs) s (tilesOf s p)

/-- Husk loads that wait end REFUSED, those of the plots in question. -/
def dropLoads (s : State) (f : Nat → Bool) : State :=
  let gone := s.sec.huskWaits.filter (fun w => f w.plot)
  gone.foldl (fun s w => answer (endLoad s w.plot) w.owner w.seq w.version 0x64 stRefused w.segs.length [])
    (onSec s (fun c => { c with huskWaits := c.huskWaits.filter (fun w => !f w.plot) }))

/-- Erasure of every key of every kind, the bottom tree and the per-boot key pair (R364): region keys go, so that their regions refuse every access; connections
enter ERROR, storage commands end TRANSPORT, sheaves in progress lose their key, management sessions close, and security firmware is in RECOVERY. -/
def eraseKeys (s : State) : State :=
  let s1 := forAll eraseKey s (List.range 32)
  let s2 := (s1.rma.ctxs.filter (fun e => e.2.state == cxConnecting || e.2.state == cxOpen)).foldl (fun s e =>
    onCtx (endContext (refuseOwed s e.2) e.1 cxError rsClosed) e.1 (fun c => { c with txKey := 0, rxKey := 0, nextTx := 0, nextRx := 0, oldRx := 0 })) s1
  let s3 := forAll stgTransport s2 (s2.stg.cmds.map (fun e => e.1))
  let s4 := forAll (fun s p => if ckpBusy s p then ckpFail s p 6 else s) s3 allPlots
  let s5 := dropLoads (closeSessions s4) (fun _ => true)
  let s6 := s5.sec.reportsDue.foldl (fun s r => answer s r.owner r.seq r.version 0x60 stRefused 0 []) s5
  let s7 := { s6 with sec := { s6.sec with slots := [], cert := none, reports := [], reportsDue := [], erasing := true } }
  wr (wrFld (wrFld (wrFld s7 .secStatus 31 30 smRecovery) .secStatus 28 27 0) .secStatus 8 0 0) .secLowleft 0

/-- A component of the running seedbed slot, checked again. -/
def seedComponent (s : State) (comp : Nat) : Option Component :=
  (((runningEntries s 1).filter (componentOk s)).filterMap parseComponent).find? (fun k => k.comp == comp)

/-- The copy that a reload of a component reads (R415, R416): headland firmware's is in headland SRAM; every other's in LPDDR5X, from stage S2 on, and where that is lost in the
running seedbed slot. -/
def reloadCopy (s : State) (comp : Nat) : Option Component :=
  if comp = 1 ∨ (bit (rd s .rstStage) 2 && !s.fw.lostCopies.contains comp) = true then mapFind s.fw.running comp else seedComponent s comp

/-- A component read from the seedbed in place of the one last taken over is the one that runs. -/
def noteCopy (s : State) (k : Component) : State :=
  if mapFind s.fw.running k.comp = some k then s else showComponent { s with fw := { s.fw with running := mapInsert s.fw.running k.comp k } } k

/-- The receivers of a component are loaded with it. -/
def loadReceivers (s : State) (k : Component) : State := forAll (fun s r => loadReceiver s r k false) s (receivers k.comp)

/-- The cores of a component are loaded from the copy that a reload reads (R236, R241, R415). -/
def reloadCores (s : State) (comp : Nat) : State :=
  match reloadCopy s comp with
  | some k => loadReceivers (noteCopy s k) k
  | none => s

/-- Cores in reset; HALTCAUSE is kept until the next halt. -/
def resetCores (s : State) (cs : List Nat) : State :=
  haltsHandled (forAll (fun s c => setNvState (setCore s c (resetCore (core s c))) c nvReset) s cs)

/-- The debug session ends, and with it every debug halt that it set (R149, R376). -/
def endDebug (s : State) : State :=
  forAll (fun s p => if bit (rd s (.schPctrl p)) 1 then retry (wrBit s (.schPctrl p) 1 false) (tilesOf s p) 0 else s)
    { s with sec := { s.sec with dbgScope := none, nonce := false } } allPlots

/-- Reset of the security island (R364, R376, R377): as an erasure, without an alarm bit; a debug session ends. -/
def resetSecurity (s : State) : State :=
  let s1 := eraseKeys s
  wr (resetCores (endDebug s1) secCores) .secDbg 0

/-- Requests of a mailbox while management firmware is down (R244): taken ones are answered LOST, new ones NOT_READY. -/
def loseRequests (s : State) (o : Nat) : State :=
  (box s o).requests.foldl (fun s r => answer s o r.seq (max 1 (box s o).version) r.type (if r.taken then stLost else stNotReady) 0 []) s

/-- A set-up in progress fails when the management or a network core resets (Table RMA-9): the context is FREE again. -/
def failSetups (s : State) : State :=
  (s.rma.ctxs.filter (fun e => e.2.state == cxConnecting)).foldl (fun s e => releaseCtx (refuseOwed s e.2) e.1) s

/-- Reset of the management island (R21, R244, Table FWM-11): its cores stop, an update in progress ends ABANDONED and the staged image goes, requests are lost,
sessions close, set-ups fail, a save of the stores in progress leaves the other copies in force (R105).  Tiles, fabric, packet engine, ports and LPDDR5X carry on. -/
def resetMgmt (s : State) : State :=
  let s1 := if s.fw.update.isSome then endUpdate s 6 stRefused else s
  let s2 := resetCores { s1 with fw := { s1.fw with up := false, staged := none }, ram := { s1.ram with saving := none } } mgmtCores
  failSetups (dropLoads (closeSessions (forAll loseRequests s2 (List.range 14))) (fun _ => true))

/-- Instances in transfer across the fabric are discarded (R412 step 1). -/
def dropFabric (s : State) : State := forAll (fun s p => onPlot s p (fun q => { q with xings := q.xings.map (fun e => (e.1, { e.2 with flight := [] })) })) s allPlots

/-- Reset of the fabric island (R209, R412, R431, R435): crossings in transfer are gone, LPX and CKP registers at reset, region keys erased, sheaves ABANDONED, restores ended. -/
def resetFabric (s : State) : State :=
  let s1 := forAll (fun s p => if ckpBusy s p then ckpFail s p 4 else s) s allPlots
  let s2 := forAll (fun s p => match (ckpOf s p).owed with
    | some (o, seq, v) => answer s o (BitVec.ofNat 32 seq) v 0x92 stRefused 4 []
    | none => s) s1 allPlots
  let s3 := resetRegs (dropFabric s2) (fun r => regIsland r == 3)
  { s3 with ckp := [], ram := { s3.ram with keys := [], owner := [], bad := [], held := [] } }

/-- Reset of the packet-engine island (R286, R311, R330): NET, PRS, TMS, RMA and STG registers at reset, contexts and regions freed with their reuse tags kept, operations,
commands and bindings gone.  Requests owed are answered. -/
def resetPacket (s : State) : State :=
  let s1 := s.rma.ctxs.foldl (fun s e => refuseOwed s e.2) s
  let s2 := s1.rma.revocations.foldl endRevoke s1
  let s3 := (s2.stg.bindings.filter (fun e => e.2.unbind.isSome)).foldl (fun s e => stgUnbindDone (onStg s (fun g => { g with cmds := [] })) e.1) s2
  let s4 := onRma s3 (fun r => { ctxs := r.ctxs.map (fun e => (e.1, { ctag := e.2.ctag })), regions := r.regions.map (fun e => (e.1, { tag := e.2.tag })) })
  let s5 := onHost s4 (fun h => { h with
    waiting := h.waiting.filter (fun r => match r.source with | .feed _ => true | _ => false)
    held := h.held.filter (fun r => match r.source with | .feed _ => true | _ => false)
    reads := h.reads.filter (fun r => match r.source with | .feed _ => true | _ => false) })
  resetRegs { s5 with net := { stamp := s5.net.stamp }, stg := {} } (fun r => regIsland r == 4)

/-- Reset of the PCIe island (R255, R332, R353): HIF and mailbox registers at reset, mailboxes empty, configuration space at reset but for the sticky bits, and every
function in heartbeat loss. -/
def resetPcie (s : State) : State :=
  let fs := functions s
  let s1 := resetRegs s (fun r => regIsland r == 5)
  let s2 := forAll (fun s f => onFn (emptyBox (enterLoss s f) f) f (fun x => { pmeEn := x.pmeEn, pmeStatus := x.pmeStatus })) s1 fs
  onHost s2 (fun h => { h with vfEnable := false, numVfs := 0, romEnable := false, atc := [], waiting := [], reads := [], held := [], invalidations := [], translating := [] })

/-- Reset of port island p (R262): its sub-ports are down and their queues flushed. -/
def resetPort (s : State) (p : Nat) : State :=
  let s1 := wrFld { s with net := { s.net with lanes := s.net.lanes.filter (fun e => e.1 / 4 != p) } } (.netPstat p) 31 16 0
  forAll flushQueue s1 ((s1.net.queues.map (fun e => e.1)).filter (fun k => k / 512 == p))

/-- Registers of a tile that a warm reset leaves as they are (Tables ARR-23, ARR-24, CAL-13, R208). -/
def keptWarm : Reg → Bool
  | .arrMode _ _ => true
  | .arrValid _ _ => true
  | .calFlag _ _ => true
  | .tilRgn _ _ _ => true
  | _ => false

/-- ARR_GRP after a warm reset: LOST, SPARE and RETIRED stay (Table ARR-22). -/
def grpWarm (w : Word) : Word := (w &&& 0x0087001F) ||| 0x00401000

/-- Reset of tile island t (R57, R87, R148, R186, R208, Tables ARR-20 to ARR-24, SHL-11, CAL-13).  A warm reset keeps weights, modes, VALID, retirements, the correction
table, calibration, region registers, scratchpad and step seed; a cold one keeps nothing.  Instances of its crossings that have not completed are discarded. -/
def resetTile (cold : Bool) (s : State) (t : Nat) : State :=
  let s1 := match plotOf s t with
    | some p => onPlot s p (fun q => { q with xings := q.xings.map (fun e => match xdecl s p e.1 with
        | some d => if d.src = t ∨ d.dst = t then (e.1, { e.2 with flight := [] }) else e
        | none => e) })
    | none => s
  let x := tile s1 t
  if cold then
    let s2 := resetRegs s1 (fun r => regIsland r == 64 + t)
    let lo := (scratchBase + t * 0x400000) / 0x10000
    draw (setTile { s2 with
        mem := memForget s2.mem (scratchBase + t * 0x400000) 0x400000
        dirtyC := s2.dirtyC.filter (fun g => decide (g < lo) || decide (lo + 64 ≤ g))
        dirtyD := s2.dirtyD.filter (fun g => decide (g < lo) || decide (lo + 64 ≤ g)) } t
      { lost := some s2.fresh })
  else
    let err := rd s1 (.arrErr t)
    let she := rd s1 (.tilSherr t)
    let sta := rd s1 (.arrStatus t)
    let grp := (List.range 32).map (fun g => rd s1 (.arrGrp t g))
    let s2 := resetRegs s1 (fun r => regIsland r == 64 + t && !keptWarm r)
    let s3 := wr (wr (wr s2 (.arrErr t) (err &&& 0x100)) (.tilSherr t) (she &&& 8)) (.arrStatus t) (sta &&& 0x80000000)
    setTile (forAll (fun s g => wr s (.arrGrp t g) (grpWarm (grp.getD g 0))) s3 (List.range 32)) t
      { cells := x.cells, lost := x.lost, corr := x.corr, cal := x.cal, seed := x.seed, badLines := x.badLines }

/-- LPDDR5X contents are lost (R176, R203): regions close, every plot with a region freezes at its next step boundary with OVF set, and the copies of the components there are gone (R415). -/
def lpxLost (s : State) : State :=
  let had := allPlots.filter (fun p => bit (rd s (.lpxRgnctl p)) 31)
  let s1 := forAll closeRegion s (List.range 32)
  let s2 := draw { s1 with mem := s1.mem.filter (fun c => decide (scratchBase ≤ c.1)), dirtyC := s1.dirtyC.filter (fun g => decide (scratchBase ≤ g * 0x10000))
                           dirtyD := s1.dirtyD.filter (fun g => decide (scratchBase ≤ g * 0x10000)), fw := { s1.fw with lostCopies := [2, 3, 4, 5] } }
  forAll (fun s p =>
    let s1 := wrBit s .lpxFreeze (16 + p) true
    if plotRun s1 p = pServing ∧ (plot s1 p).inStep ∧ frozen s1 p = false then freezeLater s1 p else freezePlot s1 p p 0 0xFF) s2 had

/-- Reset of island i, cold or warm (R410 to R413): it is in reset, its clock-ready is down, an unfinished load of its records is discarded and counted, and with `load` the
load of its records starts again at once; an island that no stage has released, or whose release has failed, stays in reset. -/
def resetIsland (cold load : Bool) (s : State) (i : Nat) : State :=
  let s1 := if s.power.loading.contains i then count s .rstIldcnt 1 else s
  let s2 := wrBit (wrBit s1 (.rstInrst (i / 32)) (i % 32) true) (.clkRdy (i / 32)) (i % 32) false
  let drop := fun (l : List Nat) => l.filter (· ≠ i)
  let again := load && (!inReset s i || s.power.loading.contains i || s.power.trimmed.contains i)
  let s3 := { s2 with power := { s2.power with
    loading := if again then i :: drop s2.power.loading else drop s2.power.loading
    trimmed := drop s2.power.trimmed
    trimTries := mapErase s2.power.trimTries i
    pllTries := mapErase s2.power.pllTries i
    warm := if cold || (inReset s i && !s.power.warm.contains i) then drop s2.power.warm else i :: drop s2.power.warm } }
  if i = 0 then resetCores s3 headlandCores
  else if i = 1 then resetSecurity s3
  else if i = 2 then resetMgmt s3
  else if i = 3 then resetFabric s3
  else if i = 4 then resetPacket (resetCores s3 netCores)
  else if i = 5 then resetPcie s3
  else if 8 ≤ i ∧ i ≤ 23 then resetPort s3 (i - 8)
  else if 24 ≤ i ∧ i ≤ 39 then
    let s4 := lpxLost { s3 with ram := { s3.ram with trained := mapErase s3.ram.trained (i - 24) } }
    wrBit (wrBit (wrBit s4 .lpxStatus (i - 8) false) .lpxTrain (i - 8) false) .lpxTrain (i - 24) false
  else if 64 ≤ i ∧ i ≤ 191 then startFreq (resetTile cold s3 (i - 64)) (i - 64)
  else s3

/-- Islands 1 to 191 of Table PWR-1. -/
def allIslands : List Nat := [1, 2, 3, 4, 5] ++ (List.range 32).map (· + 8) ++ (List.range 128).map (· + 64)

end Sys2Proof.Machine
end

