-- ==== Sys2Proof/Machine/Sensors.lean ====
section
/-! DEFINITION. Temperature samples, and the source of a tile's calibration after a reset (R57, R101, R106, R174). -/
set_option Elab.async false
namespace Sys2Proof.Machine

/-- Two temperatures lie within 10 °C. -/
def nearTemp (a b : Int) : Bool := decide (a - b ≤ 10) && decide (b - a ≤ 10)

/-- A group enters probation, for 200 ms from now, from a source of Table CAL-19: 1 the store, 2 the state retained (R101, R102). -/
def enterProbation (s : State) (t g source : Nat) (f : GroupCal → GroupCal) : State :=
  wrFld (setCalState (onCal s t g (fun k => { f k with
    lastSet := s.tick, anySet := false, probSet := false, hardSeen := false, afterRecal := false, recalDone := false, due := false, probEnd := s.tick + 200000 })) t g calProbation)
    (.calGstat t g) 28 27 source

/-- The group's record as the store seeds it (R101): kbase := kcol, ot0 := OT and karr as saved, no drift. -/
def seedCal (temp : Int) (r : CalGroupRec) (k : GroupCal) : GroupCal :=
  { k with
    gtNew := r.conv.zipIdx.map (fun e => (e.2, e.1.1)), ot0 := r.conv.zipIdx.map (fun e => (e.2, e.1.2.1))
    kbase := r.conv.zipIdx.map (fun e => (e.2, ofFix14 e.1.2.2.toNat)), karr := r.karr.zipIdx.map (fun e => (e.2, ofFix14 e.1))
    sGain := [], oOff := [], t0 := temp, ht := [], arrOut := [], track := {}, slotTrack := [] }

/-- R101 for one group: the state retained through a warm reset, the store, or foreground calibration. -/
def calibrateGroup (s : State) (t g : Nat) : State :=
  let tl := layerTemp s t g
  let stored := (tileRecord s t).bind (fun r => if layerMatches t (g / 8) r then r.groups[g]?.map (fun q => (q, (r.temps.getD (g / 8) 0 : Int) - 64)) else none)
  if bit (rd s (.arrGrp t g)) 23 then setCalState s t g calLost
  else if (calOf s t g).seeded && nearTemp tl (calOf s t g).t0 then
    let s1 := enterProbation s t g 2 id
    if (calOf s t g).due then applyCal s1 t g else s1
  else match stored with
    | some (q, saved) => if q.present && nearTemp tl saved then applyCal (enterProbation s t g 1 (seedCal saved q)) t g else setCalState s t g calForeground
    | none => setCalState s t g calForeground

/-- R106 for one group after a cold reset: RETIRED_NEXT, SPARE_BAD, REF_BAD and LOST of the store.  A spare restored as bad is FAILED: DEDUCED, log entry 116. -/
def restoreGroup (r : CalTileRec) (t : Nat) (s : State) (g : Nat) : State :=
  match r.groups[g]? with
  | none => s
  | some q =>
    let s1 := if q.retired < 16 then wrFld s (.arrGrp t g) 12 8 q.retired else s
    let s2 := if q.spareBad then onCal (setSpare s1 t g spFailed) t g (fun k => { k with spareBad := true }) else s1
    let s3 := if q.refBad then wrBit s2 (.calFlag t g) 30 true else s2
    if q.lost then groupLost s3 t g 16 else s3

/-- The calibration of a tile that has left a reset (R101). -/
def calibrateTile (s : State) (t : Nat) : State :=
  forAll (fun s g => calibrateGroup s t g) (onTile s t (fun x => { x with calDue := false })) (List.range 32)

/-- What a tile meets as its reset ends (R101, R106, R165, R395): its retirements restored after a cold reset where its record is authentic and its dies match, BUDGET written,
its calibration due; a harrow of its plot starts over on it. -/
def tileReleased (cold : Bool) (s : State) (t : Nat) : State :=
  let s1 := if cold then (match tileRecord s t with | some r => if diesMatch t r then forAll (restoreGroup r t) s (List.range 32) else s | none => s) else s
  let s2 := writeBudget (onTile s1 t (fun x => { x with calDue := true })) t
  if (match plotOf s2 t with | some p => pltState s2 p == pltScrubbing | none => false) then harrowOpen s2 t else s2

/-- SENSOR_SAMPLE (R174, R57): the temperatures, °C + 64, of the four sensors of each CIM layer (layer-major), the hottest compute-die sensor of
die d, and the hottest base-die sensor; a tile that has left a reset decides its calibration source (R101).  Tile j of the die reads sensor j / 4 of each layer in ARR_TEMP; PWR_TEMP shows the hottest. -/
def execSensorSample (d : Fin 8) (cim : Vector Byte 16) (die base : Byte) (s : State) : Host.Outcome State Fault Refusal :=
  let hot := max die.toNat (maxNat (cim.toList.map BitVec.toNat))
  let temps := fun (s : State) (t : Nat) =>
    let j := t % 16 / 4
    let v := fun l => (cim.toList.getD (4 * l + j) 0).toNat
    let s1 := wr s (.arrTemp t) (BitVec.ofNat 32 (v 3 * 2 ^ 24 + v 2 * 2 ^ 16 + v 1 * 2 ^ 8 + v 0))
    wrBit s1 (.arrStatus t) 30 ((List.range 4).any (fun l => outOfRange (v l)))
  let s1 := forAll temps s (dieTiles d)
  let s2 := { s1 with power := { s1.power with dieTemp := mapInsert s1.power.dieTemp d hot, baseTemp := base.toNat } }
  let s3 := wrFld (wrFld s2 .pwrTemp 31 24 base.toNat) .pwrTemp 7 0 (maxNat ((List.range 8).map (dieTemp s2)))
  .next (forAll (fun s t => if (tile s t).calDue then calibrateTile s t else s) s3 (dieTiles d))
where
  /-- Outside 0 °C to 95 °C (TEMP_OOR). -/
  outOfRange (v : Nat) : Bool := decide (v < 64) || decide (64 + 95 < v)


end Sys2Proof.Machine
end

