-- ==== Sys2Proof/Machine/OpsPlot.lean ====
section
/-! DEFINITION. Plots: committing an image, admission and start, abort, harrow, layouts (R111, R117, R118, R164, R166, R201, R280, R300, R383 to R395). -/
set_option Elab.async false
namespace Sys2Proof.Machine

/-! ### Commit (R118, R145, R165, R280, R300) -/

/-- Egress queue of a flow-plan entry, 512 × port + queue. -/
def flowQueue (f : FlowEnt) : Nat := 512 * (f.port / 16 % 16) + f.queue % 512

/-- The queue plan and the pins of a plot's committed image end (R280, R300). -/
def releasePlan (s : State) (p : Nat) : State :=
  match imageOf s p with
  | none => s
  | some im => im.flow.foldl (fun s f =>
      let s1 := wrBit (onQueue s (flowQueue f) (fun q => { q with planned := none })) (.tmsQcfg (flowQueue f)) 29 false
      if (ctxOf s1 f.conn).owner = p then onCtx s1 f.conn (fun c => { c with planned := false, flow := 0xFFFF }) else s1) s

/-- Contexts pinned (R300). -/
def pinnedTotal (s : State) : Nat := (s.rma.ctxs.filter (fun e => e.2.pinned || e.2.planned)).length

/-- The flow plan of an image takes effect: its queues go to class 7 at RATE_MBPS, its contexts are pinned and, where not cached, fetched. -/
def applyPlan (s : State) (p : Nat) (im : Image) : State :=
  im.flow.foldl (fun s f =>
    let s1 := wrBit (onQueue s (flowQueue f) (fun q => { q with planned := some f.rateMbps })) (.tmsQcfg (flowQueue f)) 29 true
    let c := ctxOf s1 f.conn
    if c.owner ≠ p ∨ c.state = cxFree then s1
    else
      let s2 := onCtx s1 f.conn (fun c => { c with flow := f.flow })
      if c.pinned || c.planned || decide (2048 ≤ pinnedTotal s2) then s2
      else
        let s3 := onCtx s2 f.conn (fun c => { c with planned := true })
        if s3.rma.cached.contains f.conn then s3 else fetchStart s3 f.conn) s

/-- One tile takes its record of the image: sequencer memory, PHASE_CYC, descriptors, scales, LEN; its RWL fields lock (R118). -/
def commitTile (s : State) (c : TileCfg) : State :=
  let t := c.tile
  let s1 := onTile s t (fun x => { x with
    bundles := (c.stream.zipIdx.map (fun e => (e.2, e.1))).filter (fun e => e.1 < 16384 && e.2 != 0)
    dmxDesc := c.dmx.zipIdx.map (fun e => (e.2, e.1)), locked := true, held := [], loops := [] })
  let s2 := wr (wrFld s1 (.arrTiming t) 4 0 c.phaseCyc) (.schLen t) (BitVec.ofNat 32 c.len)
  let s3 := c.ldesc.zipIdx.foldl (fun s e => wrCommit s (.arrLdesc t e.2) e.1) s2
  let s4 := c.ppdesc.zipIdx.foldl (fun s e => wrCommit (wrCommit s (.tilPpda t e.2) e.1.1) (.tilPpdb t e.2) e.1.2) s3
  let s5 := c.scale.zipIdx.foldl (fun s e => wrCommit s (.tilScale t e.2) e.1) s4
  setTileRun s5 t tCommitted

/-- A tile of the plot that its image does not use; its RWL fields stay as they are until its reset (SCP-8). -/
def idleTile (s : State) (t : Nat) : State :=
  setTileRun (wr (onTile s t (fun x => { x with held := [], loops := [] })) (.schLen t) 0) t tIdle

/-- The commit of an image to plot p, with the alternates that firmware holds for it; FLAGS bit 0 says that it is an alternate itself (R118). -/
def commitImage (s : State) (p : Nat) (im : Image) (alts : List Image) : State :=
  let s1 := releasePlan s p
  let s2 := forAll (fun s t => if im.tiles.any (fun c => c.tile == t) then s else idleTile s t) s1 (tilesOf s p)
  let s3 := im.tiles.foldl commitTile s2
  let s4 := onPlot (applyPlan s3 p im) p (fun q => { q with image := some im, alts := alts, xings := [], moved := [] })
  let s5 := wrFld (wrBit s4 (.schPstat p) 16 (im.flags.testBit 0)) (.schPstat p) 15 8 0
  forAll aimFreq (forAll changeBudget s5 (tilesOf s5 p)) (tilesOf s5 p)

/-! ### Admission and start (R118, R164, R166) -/

/-- The highest PWR_MW of an image's power profile. -/
def peakMw (im : Image) : Nat := maxNat (im.power.map (fun g => g.pwrMw))

/-- The governor's sum for plot p under an image (R166). -/
def admitNeed (s : State) (p : Nat) (im : Image) : Nat :=
  rdFld s .pwrFixed 17 0 + sumNat (allPlots.map (fun q =>
    if q = p then peakMw im
    else if pltState s q = pltServing ∨ pltState s q = pltHeld then (match imageOf s q with | some i => peakMw i | none => 0)
    else 0))

/-- The power is within PWR_CAP. -/
def admits (s : State) (p : Nat) (im : Image) : Bool := decide (admitNeed s p im ≤ rdFld s .pwrCap 17 0)

/-- A refusal by admission is recorded (R166, Table PWR-16). -/
def admitRefused (s : State) (p : Nat) (im : Image) : State :=
  let s1 := wr s .pwrAdmit (BitVec.ofNat 32 (2 ^ 31 + p * 2 ^ 27 + satNat (admitNeed s p im) 0x3FFFF))
  recordEvent s1 0x0106 p 1 islHeadland p (rd s1 .pwrAdmit) 0

/-- A READY plot is admitted and serves from a named step, or its start is refused; the requester is answered. -/
def admitStart (s : State) (p o seq v : Nat) (step : DWord) : State :=
  match imageOf s p with
  | none => answer s o (BitVec.ofNat 32 seq) v 0x72 stRefused 0 []
  | some im =>
    if !admits s p im then answer (admitRefused s p im) o (BitVec.ofNat 32 seq) v 0x72 stRefused 0 []
    else
      let s1 := onPlot (setPlt s p pltServing) p (fun q => { q with
        step := step, started := false, inStep := false, stopped := false, holdDue := false, faultDue := false, startSent := false, startHeld := false, onlyStep := none })
      answer s1 o (BitVec.ofNat 32 seq) v 0x72 stOk 0 []

/-- A start that waited for the full rates goes to admission. -/
def startWaiting (s : State) (p : Nat) : State :=
  match (plot s p).startDue with
  | some (o, seq, v, step) => admitStart (onPlot s p (fun q => { q with startDue := none })) p o seq v step
  | none => s

/-! ### Blocks of a plot (Table PLT-3) -/

/-- Storage channels, contexts and queues of plot p. -/
def plotChannels (s : State) (p : Nat) : List Nat := (List.range 64).filter (fun n => channelOwner s n == p)
def plotCtxs (s : State) (p : Nat) : List Nat := (s.rma.ctxs.filter (fun e => e.2.state != cxFree && e.2.owner == p)).map (fun e => e.1)
def plotQueues (s : State) (p : Nat) : List Nat := (s.net.queues.map (fun e => e.1)).filter (fun k => queueOwner s k == p)

/-- A source of host traffic acts for plot p. -/
def plotSource (s : State) (p : Nat) (q : HostSource) : Bool :=
  match q with
  | .storage n => channelOwner s n == p
  | .ring r => r == p
  | .backing c => (ctxOf s c).owner == p
  | .feed k => rdFld s (.hifFwinCtl k) 28 25 == p

/-- An operation of plot p beyond the storage channels. -/
def plotOp (p : Nat) (o : RmaOp) : Bool := o.plot == p && (match o.src with | .storage _ => false | _ => true)

/-- Block i of Table PLT-3 is busy for plot p.  Egress queues are flushed and a sheaf is abandoned as the idle request arrives, so that blocks 5 and 6 are idle. -/
def blockBusy (s : State) (p i : Nat) : Bool :=
  match i with
  | 0 => (tilesOf s p).any (fun t => (tile s t).mvms.any mvmActive)
  | 1 => s.rma.ops.any (plotOp p) || s.rma.parked.any (fun q => (ctxOf s q.cid).owner == p) || s.rma.fetching.any (fun c => (ctxOf s c).owner == p)
  | 2 => s.stg.cmds.any (fun e => channelOwner s e.1 == p)
  | 3 => (plot s p).xings.any (fun e => !e.2.flight.isEmpty)
  | 4 => s.ram.held.any (fun e => e.1 == p)
  | 7 => (s.host.waiting ++ s.host.held ++ s.host.reads).any (fun r => plotSource s p r.source)
  | _ => false

/-- The busy blocks of plot p. -/
def busyBlocks (s : State) (p : Nat) : List Nat := (List.range 8).filter (blockBusy s p)

/-- Block i's share of plot p is force-reset (R325, R388, R389 step 2). -/
def forceBlock (p : Nat) (s : State) (i : Nat) : State :=
  match i with
  | 0 => forAll (fun s t => onTile s t (fun x => { x with mvms := [] })) s (tilesOf s p)
  | 1 =>
    let gone := (s.rma.ops.filter (plotOp p)).map (fun o => o.slot)
    onRma s (fun r => { r with
      ops := r.ops.filter (fun o => !plotOp p o), quarantine := gone ++ r.quarantine
      parked := r.parked.filter (fun q => (ctxOf s q.cid).owner != p), fetching := r.fetching.filter (fun c => (ctxOf s c).owner != p) })
  | 2 => forAll (fun s n => match s.rma.ops.find? (fun o => o.src == .storage n) with
      | some o => dropSource (stgEnd (onRma s (fun r => { r with ops := r.ops.filter (fun x => x.slot != o.slot), quarantine := o.slot :: r.quarantine })) n 0xC 0) (.storage n)
      | none => dropSource (stgEnd s n 0xC 0) (.storage n)) s ((s.stg.cmds.map (fun e => e.1)).filter (fun n => channelOwner s n == p))
  | 3 => onPlot s p (fun q => { q with xings := q.xings.map (fun e => (e.1, { e.2 with flight := [] })) })
  | 4 => { s with ram := { s.ram with held := s.ram.held.filter (fun e => e.1 != p) } }
  | 7 => onHost s (fun h => { h with waiting := h.waiting.filter (fun r => !plotSource s p r.source), held := h.held.filter (fun r => !plotSource s p r.source) })
  | _ => s

/-! ### Abort (R389 to R391) -/

/-- A requester of an abort or harrow is answered OK; owner 14 is PLT_CMD, whose BUSY clears. -/
def answerPlot (s : State) (e : Nat × Nat × Nat × Nat) : State :=
  if e.1 = 14 then wrBit s .pltCmd 30 false else answer s e.1 (BitVec.ofNat 32 e.2.1) e.2.2.1 e.2.2.2 stOk 0 []

/-- The idle requests of step 1 (R312, R325, R389, Table PLT-3): the tiles stop, rings are disabled, what has been sent settles, queues are flushed, a sheaf is abandoned. -/
def idleRequests (s : State) (p : Nat) : State :=
  let ts := tilesOf s p
  let s1 := forAll (fun s t =>
    let s1 := onTile s t (fun x => { x with held := [], loops := [], landing := [] })
    if tileRun s1 t = tIdle then s1 else setTileRun s1 t (if (tileCfg s1 p t).isSome then tCommitted else tIdle)) s ts
  let s2 := wrBit s1 (.rmaRctl p) 31 false
  let s3 := onRma s2 (fun r => { r with
    ringHeld := r.ringHeld.filter (fun e => e.1 != p), ringReads := r.ringReads.filter (· ≠ p)
    parked := r.parked.filter (fun q => (ctxOf s2 q.cid).owner != p)
    waitOps := r.waitOps.filter (fun o => !plotOp p o)
    ops := (r.ops.filter (fun o => !(plotOp p o && decide (o.sent ≤ o.acked)))).map (fun o => if plotOp p o then { o with settling := true } else o) })
  let s3 := { s3 with net := { s3.net with toRma := s3.net.toRma.filter (fun f => f.plot != p) } }
  let s4 := forAll (fun s n => stgAsk s n 1) s3 ((s3.stg.cmds.map (fun e => e.1)).filter (fun n => channelOwner s3 n == p))
  let s5 := forAll flushQueue s4 (plotQueues s4 p)
  if ckpBusy s5 p then ckpFail s5 p 4 else s5

/-- An abort begins (R389 step 1). -/
def startAbort (s : State) (p : Nat) : State :=
  let s1 := if pltState s p = pltServing then tellLeader s p else s
  let s2 := match (plot s1 p).startDue with
    | some (o, seq, v, _) => answer s1 o (BitVec.ofNat 32 seq) v 0x72 stRefused 0 []
    | none => s1
  let s3 := onPlot (setPlt s2 p pltAborting) p (fun q => { q with
    abort := .idle, lastAbort := some s.tick, startDue := none, inStep := false, startSent := false, startHeld := false, holdDue := false, faultDue := false
    freezeDue := false, altOf := none })
  idleRequests (wrFld (snapshotTiles (dropLoads s3 (· == p)) (tilesOf s3 p)) (.pltPstat p) 23 16 0) p

/-- Logged pages of region p are zero-filled and leave the log (R201). -/
def fillLogged (s : State) (p : Nat) : State :=
  forAll (fun s k =>
    if bit (rd s (.lpxUlog k)) 31 && rdFld s (.lpxUlog k) 30 26 == p then
      let a := rdFld s (.lpxUlog k) 21 0 * 0x10000
      let s1 := if regionOpen s p then wrBytes s a (List.replicate 0x10000 0) else s
      wr { s1 with ram := { s1.ram with bad := s1.ram.bad.filter (fun l => decide (l * 64 < a) || decide (a + 0x10000 ≤ l * 64)) } } (.lpxUlog k) 0
    else s) s (List.range 64)

/-- Failed scratchpad lines of a tile are zero-filled, and a record of one in TIL_SPERRINFO goes (R201, Table MEM-12). -/
def fillLines (s : State) (t : Nat) : State :=
  let w := rd s (.tilSperrinfo t)
  let s1 := if bit w 15 && (tile s t).badLines.contains (fld w 31 30 * 16384 + fld w 29 16) then wrBit s (.tilSperrinfo t) 15 false else s
  (tile s1 t).badLines.foldl (fun s l => wrBytes s (scratchBase + t * 0x400000 + l * 64) (List.replicate 64 0)) (onTile s1 t (fun x => { x with badLines := [] }))

/-- What an abort clears of the plot (R389 step 4): FROZEN, FAULTED, HOLD, debug halt, crossings, boundary changes that waited. -/
def clearPlot (s : State) (p : Nat) : State :=
  let ts := tilesOf s p
  let s1 := wrFld (wrBit (wrBit s .lpxFreeze p false) (.pltPstat p) 27 false) (.schPctrl p) 1 0 0
  let s2 := onPlot s1 p (fun q => { q with stopped := false, started := false, xings := [] })
  let s3 := forAll (fun s t =>
    let x := tile s t
    let s1 := x.rgnDue.foldl (fun s e => wr s (.tilRgn t (e.1 / 16) (e.1 % 16)) e.2) s
    let s2 := setActive (onTile s1 t (fun x => { x with rgnDue := [], mvms := [], landing := [], stallNs := 0, stepStall := [0, 0, 0, 0, 0], stepSlack := 0 })) t
    let s3 := forAll (fun s g => if (calOf s t g).due then applyCal s t g else s) s2 (List.range 32)
    forAll (fun s g => if (tile s t).fallowDue.contains g then applyFallow s t g else s) s3 (List.range 32)) s2 ts
  forAll (fun s t => settleFreq (if (tile s t).budgetDue then writeBudget s t else s) t) s3 ts

/-! ### Harrow (R392 to R394) -/

/-- General slots of plot p: those it owns are erased, it leaves the mask of every MODEL and CKPT slot, and one whose mask is then empty is erased (Tables PLT-6, SEC-14). -/
def harrowKeys (s : State) (p : Nat) : State :=
  let l := (s.sec.slots.filter (fun e => e.2.owner != p)).map (fun e =>
    if e.2.kind = 1 ∨ e.2.kind = 2 then (e.1, { e.2 with plots := if e.2.plots.testBit p then e.2.plots - 2 ^ p else e.2.plots }) else e)
  showSlots { s with sec := { s.sec with slots := l.filter (fun e => !((e.2.kind == 1 || e.2.kind == 2) && e.2.plots == 0)) } }

/-- The classifier partition of plot p is cleared (Table PLT-6). -/
def harrowClassifier (s : State) (p : Nat) : State :=
  let part := (rdFld s (.prsPart p) 11 0, rdFld s (.prsPart p) 28 16)
  let mpart := (rdFld s (.prsMpart p) 11 0, rdFld s (.prsMpart p) 28 16)
  let inside := fun (r : Nat × Nat) (i : Nat) => decide (r.1 ≤ i) && decide (i < r.1 + r.2)
  { s with net := { s.net with
    entries := s.net.entries.map (fun e => if inside part e.1 then (e.1, { e.2 with ctl := setBit e.2.ctl 31 false }) else e)
    meters := s.net.meters.filter (fun e => !inside mpart e.1)
    guards := s.net.guards.filter (fun e => e.1 != p)
    indir := s.net.indir.filter (fun e => e.1 / 512 != p) } }

/-- Contexts of plot p become FREE with CTAG raised, its regions invalid with TAG raised (Table RMA-9). -/
def harrowRma (s : State) (p : Nat) : State :=
  let s1 := forAll (fun s c => onCtx (releaseCtx (refuseOwed s (ctxOf s c)) c) c (fun c => { c with ctag := (c.ctag + 1) % 65536 })) s (plotCtxs s p)
  onRma s1 (fun r => { r with regions := r.regions.map (fun e => if e.2.owner = p then (e.1, { tag := (e.2.tag + 1) % 2 ^ 14 }) else e) })

/-- Storage of plot p: channels reset, bindings removed. -/
def harrowStorage (s : State) (p : Nat) : State :=
  let s1 := forAll stgReset s (plotChannels s p)
  onStg s1 (fun g => { g with bindings := g.bindings.filter (fun e => e.2.owner != p) })

/-- A page of plot p: of its region or of a tile's scratchpad. -/
def plotPage (s : State) (p g : Nat) : Bool :=
  let a := g * 0x10000
  if scratchBase ≤ a then inPlot s p ((a - scratchBase) / 0x400000) else decide (regionBase s p ≤ a) && decide (a < regionBase s p + regionSize s p)

/-- The checkpoint path forgets plot p: dirty sets cleared, INCOMPLETE cleared, no checkpoint to follow (R423, R434, Table PLT-6); an arm is gone, and a restore in
progress ends ABANDONED. -/
def harrowCkp (s : State) (p : Nat) : State :=
  let s1 := if ckpState s p = ckArmed then setCkp s p ckIdle 0
    else if ckpState s p = ckRestoring then
      (match (ckpOf s p).owed with
       | some (o, seq, v) => answer (setCkp s p ckFailed 4) o (BitVec.ofNat 32 seq) v 0x92 stRefused 4 []
       | none => setCkp s p ckFailed 4)
    else s
  wrBit { s1 with dirtyC := s1.dirtyC.filter (fun g => !plotPage s1 p g), dirtyD := s1.dirtyD.filter (fun g => !plotPage s1 p g), ckp := mapErase s1.ckp p } (.ckpPstat p) 26 false

/-- The harrow begins (R55, R392): SCRUBBING, every action that takes no time, and the wakes of the groups that it will write. -/
def startHarrow (s : State) (p : Nat) : State :=
  let s1 := setPlt s p pltScrubbing
  let s2 := if bit (rd s1 (.lpxRgnctl p)) 31 then eraseKey s1 p else s1
  let s3 := forAll flushQueue (harrowClassifier s2 p) (plotQueues s2 p)
  let s4 := harrowKeys (harrowStorage (harrowRma s3 p) p) p
  let s5 := if fnExists s4 (p + 1) then emptyBox (enterLoss s4 (p + 1)) (p + 1) else s4
  let s6 := forAll (fun s k => if rdFld s (.hifFwinCtl k) 28 25 = p then wrBit s (.hifFwinCtl k) 31 false else s) s5 (List.range 8)
  forAll harrowOpen (harrowCkp s6 p) (tilesOf s6 p)

/-- One tile is harrowed (R53, Table PLT-6): every row of every slot zero, VALID clear, spares EMPTY unless FAILED, a warm reset, scratchpad and seed zero. -/
def harrowTile (s : State) (t : Nat) : State :=
  let s1 := resetTile false s t
  let s2 := forAll (fun s g =>
    let s1 := wr s (.arrValid t g) 0
    if rdFld s1 (.arrGrp t g) 18 16 = 5 then s1 else wrFld s1 (.arrGrp t g) 18 16 0) s1 (List.range 32)
  let s3 := onTile s2 t (fun x => { x with cells := [], lost := none, seed := 0, badLines := [] })
  tileReleased false { s3 with mem := memForget s3.mem (scratchBase + t * 0x400000) 0x400000 } t

/-- Every group of the plot's tiles is AWAKE for the harrow's writes, and no tile and, of a plot with a region, no LPDDR5X controller is in reset (R55, R395). -/
def harrowReady (s : State) (p : Nat) : Bool :=
  (decide (regionSize s p = 0) || (List.range 16).all (fun c => !inReset s (24 + c))) && (tilesOf s p).all (fun t => !inReset s (64 + t) && (List.range 32).all (fun g => grpPwr s t g == 2))

/-- The harrow ends (R392, R393): arrays, tiles and region are done, a fresh region key is in place, the plot is IDLE, and every requester is answered. -/
def finishHarrow (s : State) (p : Nat) : State :=
  let s1 := forAll harrowTile s (tilesOf s p)
  let s2 := if bit (rd s1 (.lpxRgnctl p)) 31 then newKey s1 p else s1
  let s3 := wrBit (wrBit s2 (.pltPstat p) 26 false) .lpxFreeze (16 + p) false
  let owed := (plot s3 p).owed
  let s4 := onPlot (setPlt s3 p pltIdle) p (fun q => { q with image := none, alts := [], modelId := none, husk := none, huskHead := [], reload := false, used := false, harrow := false, abort := .none, owed := [], onlyStep := none })
  let s5 := wrFld (wrBit s4 (.schPstat p) 16 false) (.schPstat p) 15 8 0
  let s6 := forAll startFreq (forAll changeBudget s5 (tilesOf s5 p)) (tilesOf s5 p)
  owed.foldl answerPlot (recordEvent s6 0x0B02 p 1 islHeadland p (rd s6 (.pltGen p)) 0)

/-! ### The end of an abort (R387, R389 steps 3 to 5, R391) -/

/-- Steps 3 to 5: the generation rises, revocations of the plot complete, logged pages are filled or the whole region's fill begins, the plot is READY or IDLE, an event is
recorded and the requesters are answered; a harrow goes on to SCRUBBING. -/
def finishAbort (s : State) (p : Nat) : State :=
  let s1 := wr s (.pltGen p) (BitVec.ofNat 32 ((rdFld s (.pltGen p) 15 0 + 1) % 0x10000))
  let s2 := (s1.rma.revocations.filter (fun v => (regionEnt s1 v.index).owner == p)).foldl endRevoke s1
  let s3 := releasePlan (clearPlot s2 p) p
  let s4 := forAll fillLines (fillLogged s3 p) (tilesOf s3 p)
  let fills := bit (rd s4 .lpxFreeze) (16 + p)
  let s5 := if fills then wrBit s4 (.pltPstat p) 26 true else s4
  let s6 := setPlt s5 p (if (imageOf s5 p).isSome then pltReady else pltIdle)
  let s7 := wrFld (onPlot s6 p (fun q => { q with abort := if fills then .fill else .none })) (.pltPstat p) 7 0 (satNat (rdFld s6 (.pltPstat p) 7 0 + 1) 255)
  let s8 := recordEvent s7 0x0B01 p 1 islHeadland p (rd s7 (.pltPstat p)) 0
  let owed := (plot s8 p).owed
  let s9 := (owed.filter (fun e => e.2.2.2 == 0x73)).foldl answerPlot (onPlot s8 p (fun q => { q with owed := owed.filter (fun e => e.2.2.2 != 0x73) }))
  if (plot s9 p).harrow then startHarrow s9 p else s9

/-- An abort or a harrow is requested (R389, R390, R392, Table PLT-8): refused of an UNDEFINED plot; joined to one in progress; else begun, 100 µs after the last. -/
def requestAbort (s : State) (p : Nat) (who : Nat × Nat × Nat × Nat) (harrow : Bool) : State :=
  let v := pltState s p
  if v = pltUndefined then
    (if who.1 = 14 then wrBit (wrBit s .pltCmd 29 true) .pltCmd 30 false else answer s who.1 (BitVec.ofNat 32 who.2.1) who.2.2.1 who.2.2.2 stRefused 0 [])
  else
    let s1 := onPlot s p (fun q => { q with owed := q.owed ++ [who], harrow := q.harrow || (harrow && v != pltScrubbing) })
    if v = pltScrubbing ∨ v = pltAborting ∨ (plot s p).abort = .rate then s1
    else if (match (plot s p).lastAbort with | some k => decide (s.tick < k + 100) | none => false) then onPlot s1 p (fun q => { q with abort := .rate })
    else startAbort s1 p

/-- A write of PLT_CMD (R389, R392, R397, Table PLT-10): GO with a valid OP on a defined plot; a PLOT above 11 is out of range, and the whole write is ignored. -/
def plotCommand (s : State) (v : Word) : State :=
  if 12 ≤ fld v 3 0 then s else
  let s1 := wr s .pltCmd ((rd s .pltCmd &&& 0x40000000) ||| (rd s .pltCmd &&& 0x20000000 &&& ~~~v) ||| (v &&& 0x1C00000F))
  let op := fld v 28 26
  let p := fld v 3 0
  if !bit v 31 || bit (rd s .pltCmd) 30 then s1
  else if op ≠ 1 ∧ op ≠ 2 then wrBit s1 .pltCmd 29 true
  else requestAbort (wrBit s1 .pltCmd 30 true) p (14, 0, 0, if op = 1 then 0x73 else 0x74) (op = 2)

/-! ### The husk of a plot (R108, R110, R111, R374) -/

/-- n bytes of a husk at an offset, for a load whose message names the source (R196, R374). -/
def huskRead (s : State) (src : HuskSource) (p off n : Nat) : Option (List Byte) :=
  match src with
  | .region r o => if r.val ≠ p ∧ r.val < 12 then none else lpxRead s (.loader (Fin.ofNat 12 p) (some (Fin.ofNat 32 r.val))) (regionBase s r.val + o + off) n
  | .storage b _ bytes =>
    if (mapFind s.stg.bindings b.toNat).isNone ∨ bytes.length < off + n then none else some ((bytes.drop off).take n)

/-- The plot's husk can be reached. -/
def huskAvailable (s : State) (p : Nat) : Bool :=
  match (plot s p).husk with
  | some (.region r o) => (huskRead s (.region r o) p 0 16384).isSome
  | some (.storage b _ _) => (mapFind s.stg.bindings b.toNat).isSome
  | none => false

/-- The slot that holds the key of plot p's model (R374). -/
def modelKey? (s : State) (p : Nat) : Option KeySlot :=
  (plot s p).modelId.bind (fun m => (s.sec.slots.find? (fun e => e.2.kind == 1 && e.2.ident == m && e.2.plots.testBit p)).map (fun e => e.2))

/-- The entry of the committed image's array table for a logical array (Table SCH-5). -/
def segmentEntry (s : State) (p t l : Nat) : Option ArrEnt := (imageOf s p).bind (fun i => i.arrtab.find? (fun e => e.tile == t && e.larray == l))

/-! ### Layouts (R384, R385) -/

/-- Plots of a layout class, and its granularity in tiles (Table SCP-3). -/
def classPlots (c : Nat) : Nat := if c = 0 ∨ c = 1 then 1 else if c = 2 then 4 else 12
def classTiles (c : Nat) : Nat := if c = 0 ∨ c = 1 then 128 else if c = 2 then 32 else if c = 3 then 8 else 1

/-- The tile set keeps to the granularity: whole aligned groups. -/
def tilesGranular (c : Nat) (m : BitVec 128) : Bool :=
  (List.range (128 / classTiles c)).all (fun k =>
    let g := (List.range (classTiles c)).map (fun i => m.toNat.testBit (k * classTiles c + i))
    g.all id || g.all (fun b => !b))

/-- Two ranges of first and count are apart. -/
def rangesApart (a b : Nat × Nat) : Bool := a.2 == 0 || b.2 == 0 || decide (a.1 + a.2 ≤ b.1) || decide (b.1 + b.2 ≤ a.1)

/-- Two plots share nothing (R384). -/
def defsApart (a b : PlotDef) : Bool :=
  decide (a.tiles &&& b.tiles = 0) && rangesApart (a.base, a.size) (b.base, b.size) && rangesApart a.entries b.entries && rangesApart a.meters b.meters
    && a.queues.all (fun x => b.queues.all (fun y => x.1 != y.1 || decide (x.2.2 < y.2.1) || decide (y.2.2 < x.2.1)))
    && a.channels.all (fun n => !b.channels.contains n)

/-- One definition keeps to the class and names no privileged channel (R384); its ranges exist. -/
def defOk (c p : Nat) (d : PlotDef) : Bool :=
  decide (p < classPlots c) && tilesGranular c d.tiles && d.channels.all (fun n => decide (4 ≤ n) && decide (n < 64))
    && decide (d.base + d.size ≤ 14336) && decide (d.entries.1 + d.entries.2 ≤ 4096) && decide (d.meters.1 + d.meters.2 ≤ 4096)
    && d.queues.all (fun q => decide (q.1 < 16) && decide (q.2.2 < 512))

/-- A layout is permitted (R5, R384). -/
def layoutOk (c : Nat) : List (Fin 12 × PlotDef) → Bool
  | [] => true
  | (p, d) :: rest => defOk c p d && rest.all (fun e => e.1 != p && defsApart d e.2) && layoutOk c rest

/-- Queues of a definition, 512 × port + queue. -/
def defQueues (d : PlotDef) : List Nat := d.queues.flatMap (fun q => (List.range (q.2.2 + 1 - q.2.1)).map (fun i => 512 * q.1 + q.2.1 + i))

/-- The resources of a definition are plot p's own (R383). -/
def assignPlot (s : State) (p : Nat) (d : PlotDef) : State :=
  let s1 := forAll (fun s k => wr s (.pltTiles p k) (BitVec.ofNat 32 (d.tiles.toNat / 2 ^ (32 * k)))) s (List.range 4)
  let s2 := wr (wr s1 (.lpxRgnbase p) (BitVec.ofNat 32 d.base)) (.lpxRgnsize p) (BitVec.ofNat 32 d.size)
  let s3 := wr (wr s2 (.prsPart p) (BitVec.ofNat 32 (d.entries.2 * 2 ^ 16 + d.entries.1))) (.prsMpart p) (BitVec.ofNat 32 (d.meters.2 * 2 ^ 16 + d.meters.1))
  let s4 := forAll (fun s k => wrFld s (.tmsQcfg k) 28 25 p) s3 (defQueues d)
  forAll (fun s n => wrFld s (.stgCtl n) 19 16 p) s4 d.channels

/-- Plot p takes a definition: its resources are its own, and an UNDEFINED plot is IDLE (R383, R384). -/
def definePlot (s : State) (p : Nat) (d : PlotDef) : State :=
  let s1 := assignPlot s p d
  if pltState s p = pltUndefined then setPlt s1 p pltIdle else s1

/-- Plot p gives its resources back and is UNDEFINED. -/
def undefinePlot (s : State) (p : Nat) : State :=
  let s1 := forAll (fun s k => wr s (.pltTiles p k) 0) (closeRegion s p) (List.range 4)
  let s2 := wr (wr (wr (wr s1 (.lpxRgnbase p) 0) (.lpxRgnsize p) 0) (.prsPart p) 0) (.prsMpart p) 0
  let s3 := forAll (fun s k => if queueOwner s k = p then wrFld s (.tmsQcfg k) 28 25 12 else s) s2 (List.range 8192)
  let s4 := forAll (fun s n => wrFld s (.stgCtl n) 19 16 14) s3 (plotChannels s3 p)
  setPlt s4 p pltUndefined

end Sys2Proof.Machine
end

