-- ==== Sys2Proof/Machine/Husk.lean ====
section
/-! DEFINITION. Husks: their records, the loads that write them into arrays, and the segment of a repair; groups that wake for a write (R55, R108, R372 to R374). -/
set_option Elab.async false
namespace Sys2Proof.Machine

/-- Byte of the husk at which record i lies. -/
def recordAt (i : Nat) : Nat := 16384 + i * 1048600

/-- Records in the husk (Table SEC-11). -/
def huskSegments (h : List Byte) : Nat := leAt h 32 4

/-- A segment's plaintext, where the husk has it, its tag verifies and every entry naming it names a part that is present in the same mode (R373, R374). -/
def openSegment (h r : List Byte) (key : List Byte) (i : Nat) (ents : List ArrEnt) : Option (List Byte) :=
  let target := r.take 8
  let part := fun (e : ArrEnt) => leAt target e.sub 1
  match gcmOpen key ((h.drop 28).take 4 ++ bigEndian 8 i) ((h.drop 8).take 16 ++ leBytes 8 i ++ target) ((r.drop 8).take 1048576) ((r.drop 1048584).take 16) with
  | some pt => if i < huskSegments h ∧ ents.all (fun e => (part e).testBit 2 && part e % 4 == e.mode) = true then some pt else none
  | none => none

/-- Rows of a part of a plaintext. -/
def partRows (pt : List Byte) (sub : Nat) : List (BitVec 2048) :=
  (List.range 512).map (fun r => BitVec.ofNat 2048 (leNat ((pt.drop (sub * 131072 + r * 256)).take 256)))

/-- A segment is loaded; the second result says that every array it fills has been written. -/
def loadSegment (s : State) (p : Nat) (src : HuskSource) (h key : List Byte) (bad : List (Nat × Nat)) (keep : Option Nat) (i : Nat) (ents : List ArrEnt) : State × Bool :=
  match huskRead s src p (recordAt i) 1048600 with
  | none => (s, false)
  | some r =>
    let s1 := match keep with
      | some o => if o + recordAt i + 1048600 ≤ regionSize s p then wrBytesQuiet s (regionBase s p + o + recordAt i) r else s
      | none => s
    match openSegment h r key i ents with
    | none =>
      let s2 := count s1 .secHuskfail 1
      (recordEvent s2 0x0302 p 2 islSecurity p (BitVec.ofNat 32 i) 0, false)
    | some pt => ents.foldl (fun a e =>
        let w := writeArray a.1 e.tile e.larray e.mode (partRows pt e.sub) (bad.contains (e.tile, e.larray))
        (w.1, a.2 && w.2)) (s1, true)

/-- The distinct numbers of a list, in order. -/
def distinct (l : List Nat) : List Nat := l.foldl (fun acc i => if acc.contains i then acc else acc ++ [i]) []

/-- A tile is no longer DEGRADED after a full reload with no lost group (Table ARR-20). -/
def clearDegraded (s : State) (t : Nat) : State :=
  if (List.range 32).any (fun g => bit (rd s (.arrGrp t g)) 23) then s else wrBit s (.arrStatus t) 31 false

/-- The header's checks against a slot (R374 step 1). -/
def huskHeaderOk (s : State) (h : List Byte) (k : KeySlot) : Bool :=
  let pk := (h.drop 40).take 60
  decide (leAt h 0 4 = 0x4B484C53) && decide (leAt h 4 1 = 1) && sha256 pk == fuseDigest s modelKey && hssAccepts (h.take 256) pk (h.drop 256)
    && decide (leAt h 8 16 = k.ident.toNat) && decide (leAt h 24 4 = k.keyId.toNat)

/-- An image that a load names, in a host or firmware region, with DIGEST verified. -/
def loadImage (s : State) (p region off : Nat) : Option Image :=
  let q : Requester := if region < 16 then .loader (Fin.ofNat 12 p) (some (Fin.ofNat 32 region)) else .component 3 none
  if region < 12 then none
  else match lpxRead s q (regionBase s region + off) 256 with
    | none => none
    | some h => match lpxRead s q (regionBase s region + off) (max 256 (min (leAt h 16 4) (regionSize s region - off))) with
      | none => none
      | some bs => if formCode bs = 0 ∧ sha256 ((bs.take (readImage bs).size).drop 64) = (readImage bs).digest then some (readImage bs) else none

/-! ### Loads -/

/-- Every group that a load writes is AWAKE. -/
def loadAwake (s : State) (w : HuskWait) : Bool := w.ents.all (fun e => grpPwr s e.tile (e.larray / 16) == 2)

/-- The load's segments are written, one by one, and the requester is answered (R374): OK, or REFUSED with the failed count and the first 64 failed indices.  A load that has
ended in full has loaded the plot's weights again (R111). -/
def runLoad (s : State) (w : HuskWait) : State :=
  let p := w.plot
  match mapFind s.sec.slots w.slot, huskRead s w.src p 0 16384 with
  | some k, some h =>
    if pltState s p ≠ pltLoading ∨ s.sec.dbgScope.isSome = true then refuse
    else
      let r := w.segs.foldl (fun a i =>
        let x := loadSegment a.1 p w.src h k.key w.bad w.keep i (w.ents.filter (fun e => e.segment == i))
        (x.1, if x.2 then a.2 else a.2 ++ [i])) (s, ([] : List Nat))
      let s1 := endLoad r.1 p
      if r.2.isEmpty then
        let s2 := onPlot (forAll clearDegraded s1 w.whole) p (fun q => { q with
          reload := false, huskHead := h.take 256, husk := some (match w.keep with | some o => .region (Fin.ofNat 16 p) o | none => w.src) })
        answer s2 w.owner w.seq w.version 0x64 stOk 0 []
      else
        let done := w.whole.filter (fun t => w.ents.all (fun e => e.tile != t || !r.2.contains e.segment))
        answer (forAll clearDegraded s1 done) w.owner w.seq w.version 0x64 stRefused r.2.length ((r.2.take 64).flatMap (leBytes 4))
  | _, _ => refuse
where
  /-- The load ends with nothing more written. -/
  refuse : State := answer (endLoad s w.plot) w.owner w.seq w.version 0x64 stRefused w.segs.length []

/-- The waiting loads whose groups are all AWAKE go on. -/
def runLoads (s : State) : State :=
  let ready := s.sec.huskWaits.filter (loadAwake s)
  ready.foldl runLoad (onSec s (fun c => { c with huskWaits := c.huskWaits.filter (fun w => !loadAwake s w) }))

/-- HUSK_LOAD (R55, R374, R380, R408): header and image are checked, then the groups that the image's array table names for the plot's tiles within the range are asked to wake; once
all are AWAKE each segment is written. -/
def execHuskLoad (m : Msg) (slot : Fin 256) (src : HuskSource) (imgRegion : Fin 32) (imgOff : Nat) (range : Option (Nat × Nat)) (keep : Option Nat) (bad : List (Nat × Nat))
    (s : State) : Host.Outcome State Fault Refusal :=
  let p := msgPlot m
  .next (serve s m { type := 0x64, vf := false, needsPlot := true, stage := 5 } (fun s =>
    let no := respond s m 0x64 stRefused 0 []
    if pltState s p ≠ pltLoading ∨ s.sec.layoutClass = 0 ∨ s.sec.dbgScope.isSome = true then no
    else match mapFind s.sec.slots slot.val, huskRead s src p 0 16384, loadImage s p imgRegion imgOff with
      | some k, some h, some im =>
        if k.kind ≠ 1 ∨ k.plots.testBit p = false ∨ huskHeaderOk s h k = false ∨ im.modelId ≠ k.ident then no
        else
          let all := im.arrtab.filter (fun e => inPlot s p e.tile)
          let inRange := fun i => match range with | some (a, b) => decide (a ≤ i) && decide (i ≤ b) | none => true
          let ents := all.filter (fun e => inRange e.segment)
          let whole := (tilesOf s p).filter (fun t => all.any (fun e => e.tile == t) && all.all (fun e => e.tile != t || inRange e.segment))
          let w : HuskWait := { owner := m.owner, seq := m.seq, version := m.version, plot := p, slot := slot, src := src, keep := keep, bad := bad, ents := ents,
                                segs := distinct (ents.map (fun e => e.segment)), whole := whole }
          let s1 := onPlot (irqCores s secCores 17) p (fun q => { q with modelId := some im.modelId })
          let s2 := ents.foldl (fun s e => askWrite s e.tile
            { group := e.larray / 16, slot := loadSlot s e.tile (e.larray / 16) (e.larray % 16), mode := e.mode, target := e.larray % 16, kind := .husk, nextRow := 0,
              waiting := true, failed := false, load := true }) s1
          if loadAwake s2 w then runLoad s2 w else onSec s2 (fun c => { c with huskWaits := c.huskWaits ++ [w] })
      | _, _, _ => no))

/-- GROUP_AWAKE (R54, R55): the group is AWAKE; opens that wait for it proceed, loads go on once all their groups are, and held launches are judged again. -/
def execGroupAwake (t : Fin 128) (g : Fin 32) (waited : Nat) (s : State) : Host.Outcome State Fault Refusal :=
  if grpPwr s t g ≠ 1 then .next s
  else
    let s1 := wrFld s (.arrGrp t g) 21 20 2
    let s2 := ((tile s1 t).writes.filter (fun w => w.group == g.val && w.waiting && !w.load)).foldl (fun s w => openWrite s t w) s1
    .next (retry (runLoads s2) [t.val] waited)

/-! ### Repairs (R108, R109) -/

/-- The husk of plot p that a repair reads: the kept copy, or what the storage channel brings where the plot keeps none. -/
def repairSource (s : State) (p : Nat) (src : HuskSource) : Option HuskSource :=
  match (plot s p).husk, src with
  | some (.region r o), _ => if r.val = p then some (.region r o) else none
  | some (.storage b l _), .storage b' l' bs => if b = b' ∧ l = l' then some (.storage b l bs) else none
  | _, _ => none

/-- The rows of the segment that holds a logical slot, where the model key is held, the record can be read and its tag verifies under the header of the plot's last load. -/
def repairRowsOf (s : State) (p t l : Nat) (src : HuskSource) : Option (List (BitVec 2048)) :=
  (repairSource s p src).bind (fun src => (segmentEntry s p t l).bind (fun e => (modelKey? s p).bind (fun k =>
    (huskRead s src p (recordAt e.segment) 1048600).bind (fun r =>
      (openSegment (plot s p).huskHead r k.key e.segment [e]).map (fun pt => partRows pt e.sub)))))

/-- REPAIR_SEGMENT_READ (R108 step 2, R109): the husk segment that holds the logical slot is read, from the plot's copy in LPDDR5X or through the storage channel; with the model key
held and its tag verified, the spare's rows may be written; else the repair waits, and an event is recorded. -/
def execRepairSegmentRead (t : Fin 128) (g : Fin 32) (src : HuskSource) (s : State) : Host.Outcome State Fault Refusal :=
  let l := 16 * g.val + rdFld s (.arrGrp t g) 12 8
  .next (if spare s t g ≠ spProgramming then s
    else match (plotOf s t).bind (fun p => repairRowsOf s p t l src) with
      | some rows => onTile s t (fun x => { x with repairRows := mapInsert x.repairRows g rows })
      | none =>
        let seg := ((plotOf s t).bind (fun p => segmentEntry s p t l)).elim 0 (fun e => e.segment)
        recordEvent s 0x0302 (plotField s t) 2 islSecurity (plotField s t) (BitVec.ofNat 32 seg) 0)

end Sys2Proof.Machine
end

