-- ==== Sys2Proof/Machine/Security.lean ====
section
/-! DEFINITION. The security island: epochs, reports, key release, fuses, debug, alarms, and the management port (R354 to R381). -/
set_option Elab.async false
namespace Sys2Proof.Machine

/-! ### Shared parts -/

/-- DEVICE_ID (R360). -/
def deviceId (s : State) : List Byte := deviceIdOf (rootSecret s)

/-- n bytes of a buffer (R381): none where it cannot be read. -/
def bufRead (s : State) (b : SecBuf) (n : Nat) : Option (List Byte) :=
  match b with
  | .host k off => lpxRead s (.component 2 (some (Fin.ofNat 32 (12 + k.val)))) (regionBase s (12 + k.val) + off) n
  | .staging off => if 0x10000 < off + n then none else some ((List.range n).map (fun i => mapGet 0 s.sec.staging (off + i)))

/-- Bytes fit a buffer. -/
def bufFits (s : State) (b : SecBuf) (n : Nat) : Bool :=
  match b with
  | .host k off => (lpxPermits s (.component 2 (some (Fin.ofNat 32 (12 + k.val)))) (regionBase s (12 + k.val) + off) n).isSome
  | .staging off => decide (off + n ≤ 0x10000)

/-- Bytes put into the staging buffer. -/
def stagePut (m : List (Nat × Byte)) (off : Nat) (bs : List Byte) : List (Nat × Byte) := bs.zipIdx.foldl (fun m e => mapSet 0 m (off + e.2) e.1) m

/-- Bytes written to a buffer that they fit. -/
def bufWrite (s : State) (b : SecBuf) (bs : List Byte) : State :=
  match b with
  | .host k off => wrBytes s (regionBase s (12 + k.val) + off) bs
  | .staging off => onSec s (fun c => { c with staging := stagePut c.staging off bs })

/-- An alarm (R364): every key is erased, the alarm's bit set, SEC_ALARMCNT raised, an event recorded in the headland, and security firmware told. -/
def alarmErase (s : State) (b : Nat) : State :=
  let s1 := count (wrBit (eraseKeys s) .secAlarm b true) .secAlarmcnt 1
  irqCores (recordEvent s1 0x0301 moduleEvent 3 islHeadland 0 (rd s1 .secAlarm) 0) secCores 14

/-- A DUAL mismatch (R362): counted and recorded. -/
def dualMismatch (s : State) : State :=
  let s1 := count s .secDualfail 1
  recordEvent s1 0x0301 moduleEvent 3 islSecurity 1 (rd s1 .secDualfail) 0

/-- An operation of the key engine (R362): `n` checks of it fail in DUAL mode; a second failure erases the store, and the operation gives nothing. -/
def dualRun (s : State) (n : Nat) (run refused : State → State) : State :=
  if n = 0 ∨ dualMode s = false then run s
  else if n = 1 then run (dualMismatch s)
  else refused (alarmErase (dualMismatch (dualMismatch s)) 4)

/-- A boot epoch starts (R367): the epoch counter gives its number and rises, then the key pair and the bottom tree are generated; with the counter used up, EPOCHOUT. -/
def startEpoch (s : State) : State :=
  let n := s.sec.epoch
  let s1 := wr (wrFld s .secStatus 28 27 0) .secLowleft 0
  let s2 := onSec s1 (fun c => { c with cert := none, reports := [], tree := s.fresh })
  if 32768 ≤ n then wrBit (wr s2 .secEpoch (BitVec.ofNat 32 32768)) .secStatus 29 true
  else draw (wr (onSec s2 (fun c => { c with epoch := n + 1 })) .secEpoch (BitVec.ofNat 32 n))

/-- EPOCHOUT. -/
def epochOut (s : State) : Bool := bit (rd s .secStatus) 29

/-! ### Reports (R368, R369, Tables SEC-7 and SEC-8) -/

/-- Fuse words 8 to 255 as bytes (R356). -/
def fuseStateDigest (s : State) : List Byte := sha256 ((List.range 248).flatMap (fun i => leBytes 4 (fuse s (8 + i)).toNat))

/-- Body bytes [927:16]. -/
def reportMiddle (s : State) : List Byte :=
  idpkOf (rootSecret s) ++ fuseStateDigest s
    ++ leBytes 4 (boolNat s.sec.dbgScope.isSome + 2 * (s.sec.dbgScope.getD 0 % 16)) ++ leBytes 4 0
    ++ (List.range 6).flatMap (fun c => (List.range 8).flatMap (fun k => leBytes 4 (rd s (.fwmDig c k)).toNat))
    ++ seedDigest (seedSlot s (runningSlot s))
    ++ allPlots.flatMap (fun p => match imageOf s p with | some i => fitBytes 32 i.digest | none => List.replicate 32 0)
    ++ allPlots.flatMap (fun p => (List.range 4).flatMap (fun k => leBytes 4 (rd s (.pltTiles p k)).toNat))
    ++ allPlots.flatMap (fun p => leBytes 1 (if pltState s p = pltUndefined then 0xFF else plotRun s p))
    ++ leBytes 1 s.sec.layoutClass ++ leBytes 3 0

/-- The encapsulation key of the epoch. -/
def kemKey (s : State) : List Byte := fitBytes 1568 (Config.kemPk s.sec.tree)

/-- Body bytes [15:0] for a profile. -/
def reportHead (s : State) (full : Bool) : List Byte :=
  leBytes 4 0x52414C53 ++ leBytes 1 1 ++ leBytes 1 (if full then 0 else 1) ++ leBytes 2 0 ++ leBytes 4 (rd s .secEpoch).toNat ++ leBytes 4 0

/-- The certificate of the epoch, from its MEAS. -/
def certBytes (s : State) (meas : List Byte) : List Byte :=
  let b := leBytes 4 0x43424C53 ++ leBytes 4 (rd s .secEpoch).toNat ++ lowPkOf s.sec.tree ++ fitBytes 32 meas ++ sha256 (kemKey s)
  b ++ fitBytes 2668 (topSigOf (rootSecret s) (rd s .secEpoch).toNat b)

/-- The device certificate that the running slot's identity partition holds. -/
def deviceCert (s : State) : List Byte := (runningEntries s 5).headD []

/-- A report is produced once the bottom tree is complete (R368, R369): the certificate is signed at the epoch's first; the profile is full where asked, where COMPACT_OFF is
blown, or where the measurements have changed since; a full one takes a bottom leaf and is refused with detail 1 when none is left. -/
def produceReport (s : State) (r : ReportReq) : State :=
  let mid := reportMiddle s
  let s1 := match s.sec.cert with
    | some _ => s
    | none => wrBit (onSec s (fun c => { c with cert := some (mid, sha256 (mid ++ kemKey s)) })) .secStatus 27 true
  let c := s1.sec.cert.getD ([], [])
  let full := r.full || fuseCompactOff s || c.1 != mid
  let left := (rd s1 .secLowleft).toNat
  if full && decide (left = 0) then answer s1 r.owner r.seq r.version 0x60 stRefused 1 []
  else
    let body := if full then reportHead s true ++ mid ++ leBytes 32 r.nonce.toNat ++ kemKey s
      else reportHead s false ++ fitBytes 56 mid ++ kemKey s
    let bytes := body ++ certBytes s1 c.2 ++ (if full then fitBytes 2828 (lowSigOf s.sec.tree (1048576 - left) body) else []) ++ deviceCert s
    if !bufFits s r.buf bytes.length then answer s1 r.owner r.seq r.version 0x60 stRefused 0 []
    else
      let s2 := if full then wr s1 .secLowleft (BitVec.ofNat 32 (left - 1)) else s1
      let s3 := onSec s2 (fun c => { c with reports := (sha256 body :: c.reports).take 16 })
      answer (irqCores (bufWrite s3 r.buf bytes) secCores 13) r.owner r.seq r.version 0x60 stOk 0 (leBytes 1 (if full then 0 else 1))

/-- SEC_REPORT (R7, R368, R369, R408): a request before the bottom tree is complete waits for it. -/
def execSecReport (m : Msg) (full : Bool) (nonce : BitVec 256) (buf : SecBuf) (dual : Fin 3) (s : State) : Host.Outcome State Fault Refusal :=
  .next (serve s m { type := 0x60, vf := false, stage := 5 } (fun s =>
    let r : ReportReq := { owner := m.owner, seq := m.seq, version := m.version, full := full, nonce := nonce, buf := buf }
    if epochOut s ∨ bufFits s buf 8192 = false then respond s m 0x60 stRefused 0 []
    else if bit (rd s .secStatus) 28 = false then onSec s (fun c => { c with reportsDue := c.reportsDue ++ [r] })
    else dualRun s dual (fun s => produceReport s r) (fun s => respond s m 0x60 stRefused 0 [])))

/-- BOTTOM_TREE_READY (R366, R368): the bottom tree and the ML-KEM key pair are complete; the reports that waited are produced. -/
def execBottomTreeReady (s : State) : Host.Outcome State Fault Refusal :=
  .next (if s.sec.erasing ∨ epochOut s ∨ bit (rd s .secStatus) 28 = true then s
    else
      let s1 := wr (wrBit s .secStatus 28 true) .secLowleft 1048576
      s1.sec.reportsDue.foldl produceReport (onSec s1 (fun c => { c with reportsDue := [] })))

/-! ### Key release (R361, R370, R371) -/

/-- A free general slot. -/
def freeKeySlot (s : State) : Option Nat := (List.range 256).find? (fun n => (mapFind s.sec.slots n).isNone)

/-- A plot of the mask is UNDEFINED. -/
def maskUndefined (s : State) (mask : Nat) : Bool := allPlots.any (fun p => mask.testBit p && pltState s p == pltUndefined)

/-- A release or a blob refused: counted. -/
def refuseKey (s : State) (m : Msg) (detail : Nat) : State := respond (count s .secRelfail 1) m 0x61 stRefused detail []

/-- A key enters a general slot; from RECOVERY the first release ends DUAL mode once S6 has been gated (R362). -/
def fillSlot (s : State) (n : Nat) (k : KeySlot) (release : Bool) : State :=
  let s1 := showSlots (onSec s (fun c => { c with slots := mapInsert c.slots n k }))
  if release && rdFld s .secStatus 31 30 == smRecovery then wrFld s1 .secStatus 31 30 (if bit (rd s .rstStage) 6 then smService else smStartup) else s1

/-- The key that wraps storage blobs (R361). -/
def blobKey (s : State) : List Byte := kdfKey (rootSecret s) "SEEDKEY" (fuseDigest s ownerKey)

/-- A storage blob comes back (R361): its attributes are those that SEC_KEYSTORE wrapped. -/
def loadBlob (s : State) (m : Msg) (bs : List Byte) : State :=
  match Config.kwpUnwrap (blobKey s) ((bs.drop 8).take 72), freeKeySlot s with
  | some p, some n =>
    let kind := leAt p 0 1
    if leAt bs 4 1 ≠ 1 ∨ (kind ≠ 3 ∧ kind ≠ 4) ∨ p.length ≠ 64 then refuseKey s m 6
    else
      let k : KeySlot := { kind := kind, owner := leAt p 1 1, plots := leAt p 2 2, keyId := BitVec.ofNat 32 (leAt p 4 4), ident := BitVec.ofNat 128 (leAt p 8 16), key := p.drop 32 }
      respond (irqCores (fillSlot s n k false) secCores 13) m 0x61 stOk 0 (leBytes 2 n)
  | none, _ => refuseKey s m 6
  | _, none => refuseKey s m 7

/-- The 32-byte key of a release message (R370): Decaps gives the shared secret, the KDF over bytes [63:0] the KEK, and AES-KWP the key. -/
def keyUnwrap (tree : Nat) (bs : List Byte) : Option (List Byte) :=
  (Config.kemDecaps tree ((bs.drop 64).take 1568)).bind (fun ss =>
    (Config.kwpUnwrap (kdfKey ss "SL1-KEYREL" (bs.take 64)) ((bs.drop 1632).take 40)).filter (fun k => k.length == 32))

/-- A release message passes the checks of Table SEC-10 in order, and its key enters a slot. -/
def loadRelease (s : State) (m : Msg) (bs : List Byte) (owner mask : Nat) : State :=
  let kind := leAt bs 5 1
  if leAt bs 0 4 ≠ 0x524B4C53 ∨ leAt bs 4 1 ≠ 1 ∨ kind < 1 ∨ 4 < kind then refuseKey s m 1
  else if epochOut s ∨ leAt bs 8 4 ≠ (rd s .secEpoch).toNat then refuseKey s m 2
  else if !s.sec.reports.contains ((bs.drop 32).take 32) then refuseKey s m 3
  else if kind ≤ 2 ∧ (s.sec.layoutClass = 0 ∨ s.sec.dbgScope.isSome = true) then refuseKey s m 4
  else if kind ≤ 2 ∧ maskUndefined s mask = true then refuseKey s m 5
  else match keyUnwrap s.sec.tree bs with
    | none => refuseKey s m 6
    | some key => match freeKeySlot s with
      | none => refuseKey s m 7
      | some n =>
        let k : KeySlot := { kind := kind, ident := BitVec.ofNat 128 (leAt bs 16 16), keyId := BitVec.ofNat 32 (leAt bs 12 4), owner := owner,
                             plots := if kind ≤ 2 then mask else 0, key := fitBytes 32 key }
        respond (irqCores (fillSlot s n k true) secCores 13) m 0x61 stOk 0 (leBytes 2 n)

/-- SEC_KEYLOAD (R361, R371, R408): a release message, or a storage blob, which MAGIC tells apart. -/
def execSecKeyload (m : Msg) (buf : SecBuf) (owner : Fin 13) (mask : BitVec 12) (dual : Fin 3) (s : State) : Host.Outcome State Fault Refusal :=
  .next (serve s m { type := 0x61, vf := false, stage := 5 } (fun s =>
    match bufRead s buf 80 with
    | none => respond s m 0x61 stRefused 0 []
    | some h =>
      if leAt h 0 4 = 0x4B534C53 then dualRun s dual (fun s => loadBlob s m h) (fun s => refuseKey s m 6)
      else match bufRead s buf 1672 with
        | none => respond s m 0x61 stRefused 0 []
        | some bs => dualRun s dual (fun s => loadRelease s m bs owner.val mask.toNat) (fun s => refuseKey s m 6)))

/-- SEC_KEYSTORE (R361): MAGIC, FORMAT, two reserved bytes and a filler to 8, then the 72 wrapped bytes, of a CONN or MGMT slot. -/
def execSecKeystore (m : Msg) (slot : Fin 256) (dual : Fin 3) (s : State) : Host.Outcome State Fault Refusal :=
  .next (serve s m { type := 0x62, vf := false } (fun s =>
    match mapFind s.sec.slots slot.val with
    | none => respond s m 0x62 stRefused 0 []
    | some k =>
      if k.kind ≠ 3 ∧ k.kind ≠ 4 then respond s m 0x62 stRefused 0 []
      else
        let attrs := leBytes 1 k.kind ++ leBytes 1 k.owner ++ leBytes 2 k.plots ++ leBytes 4 k.keyId.toNat ++ leBytes 16 k.ident.toNat ++ leBytes 8 0
        dualRun s dual (fun s => respond (irqCores s secCores 13) m 0x62 stOk 0 (leBytes 4 0x4B534C53 ++ leBytes 1 1 ++ leBytes 3 0
            ++ fitBytes 72 (Config.kwpWrap (blobKey s) (attrs ++ k.key))))
          (fun s => respond s m 0x62 stRefused 0 [])))

/-- SEC_KEYDROP (R360, R435): one general slot is erased; a sheaf that is sealed under it fails with NOKEY. -/
def execSecKeydrop (m : Msg) (slot : Fin 256) (s : State) : Host.Outcome State Fault Refusal :=
  .next (serve s m { type := 0x63, vf := false } (fun s =>
    if (mapFind s.sec.slots slot.val).isNone then respond s m 0x63 stRefused 0 []
    else
      let s1 := showSlots (onSec s (fun c => { c with slots := mapErase c.slots slot.val }))
      respond (forAll (fun s p => if ckpBusy s p ∧ (ckpOf s p).slot = slot.val then ckpFail s p 6 else s) s1 allPlots) m 0x63 stOk 0 []))

/-! ### Epochs, staging, alarms (R363, R364, R367, R381) -/

/-- SEC_NEWEPOCH (R367): the answer, then the reset of the security island with the start of an epoch. -/
def execSecNewepoch (m : Msg) (s : State) : Host.Outcome State Fault Refusal :=
  .next (serve s m { type := 0x65, vf := false } (fun s =>
    let s1 := respond s m 0x65 stOk 0 []
    onSec (startEpoch (reloadCores (resetSecurity s1) 2)) (fun c => { c with erasing := false })))

/-- SEC_XFER (R381): at most 1,000 bytes of the staging buffer are filled or read. -/
def execSecXfer (m : Msg) (off : BitVec 16) (len : Nat) (data : Option (List Byte)) (s : State) : Host.Outcome State Fault Refusal :=
  .next (serve s m { type := 0x66, vf := false } (fun s =>
    let n := match data with | some bs => bs.length | none => len
    if 1000 < n ∨ 0x10000 < off.toNat + n then respond s m 0x66 stRefused 0 []
    else match data with
      | some bs => respond (bufWrite s (.staging off.toNat) bs) m 0x66 stOk 0 []
      | none => respond s m 0x66 stOk 0 ((bufRead s (.staging off.toNat) n).getD [])))

/-- SECURITY_ALARM (R363, R364, Table SEC-5): VOLT, CLOCK, TEMP, TAMPER, DUAL; `lasts` says that the condition holds on. -/
def execSecurityAlarm (kind : Fin 5) (lasts : Bool) (s : State) : Host.Outcome State Fault Refusal :=
  .next (alarmErase (if lasts then wrBit s .secAlarm 31 true else s) kind)

/-- ALARM_RECOVERY (R364): every alarm has been clear for 10 ms; self-test runs, DEVICE keys are derived again and a new epoch starts. -/
def execAlarmRecovery (s : State) : Host.Outcome State Fault Refusal :=
  .next (if s.sec.erasing then startEpoch (onSec (wrBit s .secAlarm 31 false) (fun c => { c with erasing := false })) else s)

/-! ### Fuses (R354 to R358) -/

/-- Bits of a fuse word are blown. -/
def blow (s : State) (k : Nat) (w : Word) : State := onSec s (fun c => { c with fuses := mapSet 0 c.fuses k (fuse s k ||| w) })

/-- Eight words from a word on take a digest. -/
def blowDigest (s : State) (k : Nat) (d : List Byte) : State :=
  forAll (fun s i => blow s (k + i) (BitVec.ofNat 32 (leAt d (4 * i) 4))) s (List.range 8)
/-- The check word after a digest's eight. -/
def blowCheck (s : State) (k : Nat) (d : List Byte) : State := blow s (k + 8) (crc32c (fitBytes 32 d))

/-- A word has no bit set outside a value. -/
def within (w v : Word) : Bool := decide (w &&& ~~~v = 0)

/-- A digest field holds only bits of a value, its check word included. -/
def digestWithin (s : State) (k : Nat) (d : List Byte) : Bool :=
  (List.range 8).all (fun i => within (fuse s (k + i)) (BitVec.ofNat 32 (leAt d (4 * i) 4))) && within (fuse s (k + 8)) (crc32c (fitBytes 32 d))

/-- CONFIG is a value that provisioning may blow: a defined class, no bit above 6. -/
def configValue (v : Word) : Bool := decide (fld v 3 0 ≤ 4) && decide (fld v 31 7 = 0)

/-- SEC_PROVISION (R357): on a part whose owner, model and class are absent, or to complete the same request, so that bits already blown are among its values; the check words come last. -/
def execSecProvision (m : Msg) (key : List Byte) (model : BitVec 256) (config : Word) (sig : List Byte) (supply : Bool) (s : State) : Host.Outcome State Fault Refusal :=
  .next (serve s m { type := 0x68, vf := false } (fun s =>
    let owner := sha256 (fitBytes 60 key)
    let md := leBytes 32 model.toNat
    let done := decide (fuse s 25 ≠ 0) && decide (fuse s 34 ≠ 0)
    let same := digestWithin s ownerKey owner && digestWithin s modelKey md && (if done then decide (fuse s 35 = config) else within (fuse s 35) config)
    if !supply ∨ same = false ∨ configValue config = false
        ∨ hssAccepts (fitBytes 60 key ++ md ++ leBytes 4 config.toNat ++ deviceId s) (fitBytes 60 key) sig = false then respond s m 0x68 stRefused 0 []
    else respond (irqCores (blowCheck (blowCheck (blow (blowDigest (blowDigest s ownerKey owner) modelKey md) 35 config) ownerKey owner) modelKey md) secCores 15) m 0x68 stOk 0 []))

/-- A SEC_FUSE operation (R357, R358): the supply present, the customer owner's signature over operation, value and DEVICE_ID, and its own condition. -/
def fuseOp (s : State) (m : Msg) (op v : Nat) (block : List Byte) (supply accepted : Bool) (f : State → State) : State :=
  serve s m { type := 0x69, vf := false } (fun s =>
    if supply && accepted && sigAccepted s ownerKey (leBytes 1 op ++ leBytes 4 v ++ deviceId s) block then respond (irqCores (f s) secCores 15) m 0x69 stOk 0 []
    else respond s m 0x69 stRefused 0 [])

/-- FUSE_CLASS (R358): a defined class other than 0, a superset of the bits present; in effect from the next power-on. -/
def execFuseClass (m : Msg) (v : BitVec 4) (block : List Byte) (supply : Bool) (s : State) : Host.Outcome State Fault Refusal :=
  let now := fuse s 35 &&& 0xF
  .next (fuseOp s m 1 v.toNat block supply (decide (1 ≤ v.toNat) && decide (v.toNat ≤ 4) && within now (v.setWidth 32)) (fun s => blow s 35 (v.setWidth 32)))

/-- Every component of the slots of the seedbed has an SVN of at least F. -/
def seedSvns (s : State) (f : Nat) : Bool :=
  [s.seed.slotA, s.seed.slotB].all (fun m => !seedFormed (slotHeader m) || (slotComponents m (slotHeader m)).all (fun k => decide (f ≤ k.svn)))

/-- Every component running, staged, or in the seedbed has an SVN of at least F (R358, R380). -/
def svnsReach (s : State) (f : Nat) : Bool :=
  s.fw.running.all (fun e => decide (f ≤ e.2.svn)) && (match s.fw.staged with | some k => decide (f ≤ k.svn) | none => true)
    && (match s.fw.update with | some u => decide (f ≤ u.comp.svn) | none => true)
    && seedSvns s f

/-- FUSE_FLOOR (R358). -/
def execFuseFloor (m : Msg) (v : Nat) (block : List Byte) (supply : Bool) (s : State) : Host.Outcome State Fault Refusal :=
  .next (fuseOp s m 2 v block supply (decide (1 ≤ v) && decide (v ≤ 63) && decide (svnFloor s < v) && svnsReach s v)
    (fun s => blow (blow s 37 (BitVec.ofNat 32 (2 ^ min v 32 - 1))) 38 (BitVec.ofNat 32 (2 ^ (v - 32) - 1))))

/-- FUSE_COMPACT_OFF (R358). -/
def execFuseCompactOff (m : Msg) (block : List Byte) (supply : Bool) (s : State) : Host.Outcome State Fault Refusal :=
  .next (fuseOp s m 3 0 block supply true (fun s => blow s 35 0x10))
/-- FUSE_PERMLOCK (R358). -/
def execFusePermlock (m : Msg) (block : List Byte) (supply : Bool) (s : State) : Host.Outcome State Fault Refusal :=
  .next (fuseOp s m 4 0 block supply true (fun s => blow s 35 0x20))
/-- FUSE_DBGOWNER (R358): while DBG_PERMLOCK is not blown. -/
def execFuseDbgowner (m : Msg) (block : List Byte) (supply : Bool) (s : State) : Host.Outcome State Fault Refusal :=
  .next (fuseOp s m 5 0 block supply (!fusePermlock s) (fun s => blow s 35 0x40))

/-! ### Debug (R376, R377) -/

/-- The nonce last drawn. -/
def debugNonce (s : State) : List Byte := fitBytes 32 (Config.nonce s.sec.nonces)

/-- DBG_CHALLENGE (R377): a nonce, one outstanding at a time. -/
def execDbgChallenge (m : Msg) (s : State) : Host.Outcome State Fault Refusal :=
  .next (serve s m { type := 0x6A, vf := false, feature := some 7 } (fun s =>
    if !debugClass s then respond s m 0x6A stRefused 0 []
    else if s.sec.nonce then respond s m 0x6A stBusy 0 []
    else
      let s1 := onSec s (fun c => { c with nonces := c.nonces + 1, nonce := true })
      respond s1 m 0x6A stOk 0 (debugNonce s1)))

/-- DBG_NONCE_EXPIRY (R377). -/
def execDbgNonceExpiry (s : State) : Host.Outcome State Fault Refusal := .next (onSec s (fun c => { c with nonce := false }))

/-- No MODEL or CKPT slot is filled and no slot of any plot is VALID. -/
def noWeights (s : State) : Bool :=
  s.sec.slots.all (fun e => decide (3 ≤ e.2.kind)) && allTiles.all (fun t => (plotOf s t).isNone || (List.range 32).all (fun g => decide (rd s (.arrValid t g) = 0)))

/-- DBG_UNLOCK (R376, R377): a token of 56 bytes, MAGIC, DEVICE_ID, nonce, SCOPE, then its signature block, from the signer of the class. -/
def execDbgUnlock (m : Msg) (token : List Byte) (s : State) : Host.Outcome State Fault Refusal :=
  .next (serve s m { type := 0x6B, vf := false, feature := some 7 } (fun s =>
    let signer := if s.sec.layoutClass = 0 then vendorKey else ownerKey
    let scope := leAt token 52 4 % 16
    if debugClass s ∧ s.sec.nonce = true ∧ leAt token 0 4 = 0x47444C53 ∧ (token.drop 4).take 16 = deviceId s ∧ (token.drop 20).take 32 = debugNonce s ∧ noWeights s = true
        ∧ sigAccepted s signer (token.take 56) (token.drop 56) = true then
      respond (wr (onSec s (fun c => { c with dbgScope := some scope, nonce := false })) .secDbg (BitVec.ofNat 32 (2 ^ 31 + scope))) m 0x6B stOk 0 []
    else respond s m 0x6B stRefused 0 []))

/-- A debug session has scope COREHALT over core c (Table SEC-12). -/
def coreScope (s : State) (c : Nat) : Bool := (match s.sec.dbgScope with | some k => k.testBit 2 | none => false) && decide (2 ≤ c) && decide (c ≤ 21)

/-- DBG_CORE_HALT (R377, Table SEC-12). -/
def execDbgCoreHalt (m : Msg) (c : Fin 24) (s : State) : Host.Outcome State Fault Refusal :=
  .next (serve s m { type := 0x6C, vf := false, feature := some 7 } (fun s =>
    if coreScope s c ∧ (nvState s c = nvRun ∨ nvState s c = nvWfi) then respond (haltCore s c 5) m 0x6C stOk 0 [] else respond s m 0x6C stRefused 0 []))

/-- DBG_CORE_RELEASE (R377): a core halted by DBG_CORE runs on. -/
def execDbgCoreRelease (m : Msg) (c : Fin 24) (s : State) : Host.Outcome State Fault Refusal :=
  .next (serve s m { type := 0x6C, vf := false, feature := some 7 } (fun s =>
    if coreScope s c ∧ nvState s c = nvHalted ∧ rdFld s (.nvcStatus c) 28 24 = 5 then
      respond (setNvState s c nvRun) m 0x6C stOk 0 []
    else respond s m 0x6C stRefused 0 []))

/-! ### The management port (R378, R379) -/

/-- OPTSEL has the management port on (Table RST-1), and management firmware runs. -/
def mgmtOn (s : State) : Bool := bit (rd s .rstBoot) 22 && s.fw.up

/-- A session ends with an alert sent. -/
def alertClose (s : State) (k : Nat) : State := closeSession (emit s (.message mgmtPort "ALERT" k)) k

/-- MGMT_RECORD (R378, R379): a handshake under a MGMT slot's PSK opens a session, of at most two; a mailbox message is delivered as any other owner's; every other record
closes the session. -/
def execMgmtRecord (k : Fin 2) (r : MgmtRecord) (s : State) : Host.Outcome State Fault Refusal :=
  .next (if !mgmtOn s then s
    else
      let s1 := irqCores s mgmtCores 14
      let isOpen := s.sec.sessions.contains k.val
      match r with
      | .handshake ident =>
        if isOpen then alertClose s1 k
        else if s.sec.slots.any (fun e => e.2.kind == 4 && e.2.ident == ident) then emit (onSec s1 (fun c => { c with sessions := c.sessions ++ [k.val] })) (.message mgmtPort "OPEN" k)
        else emit s1 (.message mgmtPort "ALERT" k)
      | .mailbox m type =>
        if !isOpen then emit s1 (.message mgmtPort "ALERT" k)
        else if m.owner.val ≠ mgmtPort then alertClose s1 k
        else mailboxRequest s1 m type.toNat
      | .alert => if isOpen then closeSession s1 k else s1
      | .badAuth => if isOpen then alertClose s1 k else s1
      | .unsupported => if isOpen then alertClose s1 k else s1
      | .malformed => if isOpen then alertClose s1 k else s1)

/-- MGMT_SESSION_TIMEOUT (R379): 300 s without a record; close_notify, then the close. -/
def execMgmtSessionTimeout (k : Fin 2) (s : State) : Host.Outcome State Fault Refusal :=
  .next (if s.sec.sessions.contains k.val then alertClose s k else s)

/-- Addresses and TLS port of the seedbed (Table RST-4). -/
def mgmtIpv4 (s : State) : Nat := leAt (runningConfig s) 28 4
def mgmtIpv6 (s : State) : Nat := leAt (runningConfig s) 32 16
def mgmtTcp (s : State) : Nat := let v := leAt (runningConfig s) 48 2; if v = 0 then 7610 else v

/-- A TCP segment that would open a connection: accepted on the TLS port while fewer than two sessions stand. -/
def mgmtConnect (s : State) (hit : Bool) (port : Nat) : State :=
  if !hit then s
  else emit s (.message mgmtPort (if port = mgmtTcp s ∧ s.sec.sessions.length < 2 then "TCP_ACCEPT" else "TCP_RESET") port)

/-- MANAGEMENT_PORT_FRAME (R378): ARP, NDP and ICMP echo for the static addresses are answered; TCP connects to the TLS port. -/
def execManagementPortFrame (f : MgmtFrame) (s : State) : Host.Outcome State Fault Refusal :=
  let v4 := fun (a : Nat) => decide (a ≠ 0) && decide (a = mgmtIpv4 s)
  let v6 := fun (a : Nat) => decide (a ≠ 0) && decide (a = mgmtIpv6 s)
  .next (if !mgmtOn s then s
    else match f with
      | .arp a => if v4 a.toNat then emit s (.message mgmtPort "ARP_REPLY" a.toNat) else s
      | .ndp a => if v6 a.toNat then emit s (.message mgmtPort "NEIGHBOR_ADVERTISEMENT" a.toNat) else s
      | .echo4 a d => if v4 a.toNat then emit s (.message mgmtPort "ECHO_REPLY" (leNat d)) else s
      | .echo6 a d => if v6 a.toNat then emit s (.message mgmtPort "ECHO_REPLY" (leNat d)) else s
      | .tcp4 a port => mgmtConnect s (v4 a.toNat) port.toNat
      | .tcp6 a port => mgmtConnect s (v6 a.toNat) port.toNat)

end Sys2Proof.Machine
end

