-- ==== Sys2Proof/Machine/Bringup.lean ====
section
/-! DEFINITION. Bring-up stages, the release of islands, reset sources, supply and reference faults, watchdogs, and the rewriting of the seedbed (R161, R172, R175, R176, R235,
R236, R241, R398 to R421). -/
set_option Elab.async false
namespace Sys2Proof.Machine

/-- The state with a function applied to the power state. -/
def onPower (s : State) (f : PowerState → PowerState) : State := { s with power := f s.power }

/-! ### Stages and gates (R404, R405) -/

/-- RST_STAGE.STATE codes (Table RST-10). -/
def stRunning : Nat := 0
def stComplete : Nat := 1
def stStopped : Nat := 2

/-- The stage, its state. -/
def stageNo (s : State) : Nat := rdFld s .rstStage 31 29
def stageState (s : State) : Nat := rdFld s .rstStage 28 27

/-- The state with RST_STAGE.STAGE, STATE and CODE set. -/
def setStage (s : State) (n st code : Nat) : State := wrFld (wrFld (wrFld s .rstStage 31 29 n) .rstStage 28 27 st) .rstStage 23 16 code

/-- Stage n is COMPLETE, and its DONE bit set. -/
def completeStage (s : State) (n : Nat) : State := wrBit (setStage s n stComplete 0) .rstStage n true

/-- Islands that a stage releases (Table RST-3). -/
def stageIslands (n : Nat) : List Nat :=
  if n = 0 then [1] else if n = 1 then [5, 2] else if n = 2 then 3 :: (List.range 16).map (· + 24)
  else if n = 3 then allTiles.map (· + 64) else if n = 4 then 4 :: (List.range 16).map (· + 8) else []

/-- Stage n begins: its islands that are in reset start to load their records; S5 and S6 are complete on entry, and S6 ends the DUAL mode of start-up (R362, R404). -/
def beginStage (s : State) (n : Nat) : State :=
  let due := (stageIslands n).filter (fun i => inReset s i && !s.power.loading.contains i && !s.power.trimmed.contains i)
  let s1 := onPower (setStage s n stRunning 0) (fun w => { w with loading := w.loading ++ due })
  let s2 := if rdFld s1 .rstGate 6 4 = n then wrFld s1 .rstGate 7 4 0 else s1
  if n = 5 then completeStage s2 5
  else if n = 6 then completeStage (if rdFld s2 .secStatus 31 30 = smStartup then wrFld s2 .secStatus 31 30 smService else s2) 6
  else s2

/-- Gate n is written (R405): the next stage begins, waits for the stage in progress, or the write is an error. -/
def writeGate (s : State) (n : Nat) : State :=
  let s1 := irqCores s mgmtCores 19
  if n < 2 ∨ 6 < n ∨ n ≠ stageNo s + 1 then wrBit s1 .rstGate 8 true
  else if stageState s = stComplete then beginStage s1 n
  else if stageState s = stRunning then wrFld s1 .rstGate 7 4 (8 + n)
  else s1

/-- RST_GATE (R405, R420): by the PF through the register, or by message. -/
def execRstGate (m : Option Msg) (n : BitVec 3) (s : State) : Host.Outcome State Fault Refusal :=
  .next (match m with
    | none => writeGate s n.toNat
    | some m => serve s m { type := 0x80, vf := false } (fun s =>
        respond (writeGate s n.toNat) m 0x80 (if n.toNat < 2 ∨ 6 < n.toNat ∨ n.toNat ≠ stageNo s + 1 then stRefused else stOk) 0 []))

/-- The OPTSEL code from the median of its samples (R399); a code boundary is the first count of each code but the lowest (log entry 133). -/
def sampleOptsel (s : State) (m : Nat) : State :=
  let near := (16 ≤ m ∧ m % 16 ≤ 2) ∨ (m < 240 ∧ 14 ≤ m % 16)
  let s1 := wrBit (wrFld s .rstBoot 23 20 (m / 16)) .rstBoot 27 near
  let s2 := onPower s1 (fun w => { w with sampleDue := false })
  if near then recordEvent s2 0x0203 moduleEvent 1 islHeadland 0 (rd s2 .rstBoot) 0 else s2

/-- The rails that feed an island (Table PWR-4). -/
def railsOf (i : Nat) : List Nat :=
  if i = 0 then [0] else if i = 5 then [1, 4] else if i ≤ 4 then [1] else if 8 ≤ i ∧ i ≤ 23 then [2] else if 24 ≤ i ∧ i ≤ 39 then [1, 3]
  else [8 + (i - 64) / 16, 16 + (i - 64) / 16]

/-- Every rail of an island is in order (R411). -/
def railsGood (s : State) (i : Nat) : Bool := (railsOf i).all (fun r => !bit (rd s .pwrStatus) r && !s.power.railReset.contains r)

/-- Stage n may begin (R398, R405): S0 with the headland released, once nothing of a thermal trip or a supply reset of VBASE stands in its way; S1 after S0; later stages by a pending
gate or by auto-advance. -/
def stageDue (s : State) (n : Nat) : Bool :=
  if n = 0 then s.power.bootDue && !inReset s 0 && !s.power.thermtrip && railsGood s 1
  else stageNo s + 1 == n && stageState s == stComplete
    && (n == 1 || (bit (rd s .rstGate) 7 && rdFld s .rstGate 6 4 == n) || (bit (rd s .rstBoot) 28 && decide (n ≤ 5)))

/-- STAGE_BEGIN (R398, R399, R405); `median` is that of OPTSEL's samples where S0 samples it.  RST_CMD is no longer BUSY. -/
def execStageBegin (n : Fin 7) (median : Byte) (s : State) : Host.Outcome State Fault Refusal :=
  .next (if !stageDue s n then s
    else if n.val = 0 then
      let s1 := onPower (wrBit s .rstCmd 30 false) (fun w => { w with bootDue := false })
      beginStage (if s.power.sampleDue then sampleOptsel s1 median.toNat else s1) 0
    else beginStage s n)

/-- A digest's words and its check word agree (R355). -/
def checkMatches (s : State) (k : Nat) : Bool := decide (crc32c (fuseDigest s k) = fuse s (k + 8))

/-- The boot ROM accepts the fuses (R4, R355). -/
def fusesAccepted (s : State) : Bool :=
  let cls := fld (fuse s 35) 3 0
  let present := fun k => decide (fuse s (k + 8) ≠ 0)
  decide (fuse s 39 = rootChkOf (rootSecret s)) && checkMatches s vendorKey && (!present ownerKey || checkMatches s ownerKey)
    && (!present modelKey || checkMatches s modelKey) && decide (cls ≤ 4) && (cls == 0 || (present ownerKey && present modelKey))

/-- Headland, management and security firmware run as of a slot's components (R250, R404). -/
def takeComponents (s : State) (ks : List Component) : State :=
  let s1 := { s with fw := { s.fw with running := ks.foldl (fun m k => mapInsert m k.comp k) [], up := true } }
  [1, 2, 3].foldl (fun s c => match mapFind s.fw.running c with
    | some k => showComponent (loadReceivers s k) k
    | none => s) s1

/-- CONFIG is committed (Table RST-4): each register takes its word as a write of it does, but for the lock (R10, R177). -/
def commitConfig (s : State) (c : List Byte) : State :=
  let w := fun o => BitVec.ofNat 32 (leAt c o 4)
  let s1 := wrCommit (wrCommit (writePwrWake (writePwrCtrl s (w 4)) (w 8)) .pwrCap (w 12)) .pwrFixed (w 16)
  let s2 := if berOk (w 20) then wrCommit s1 .netBercfg (w 20) else s1
  if rstCfgOk (w 24) then wrCommit s2 .rstCfg (w 24) else s2

/-- A boot notice. -/
def bootNotice (s : State) : State := recordEvent s 0x0203 moduleEvent 1 islHeadland 0 (rd s .rstBoot) 0

/-- The ROM partition is copied; with none, or one above 1 MiB, the ROM BAR is not implemented (R336). -/
def copyRom (s : State) (roms : List (List Byte)) : State :=
  match roms.head? with
  | none => onHost s (fun h => { h with rom := none })
  | some bs => if 0x100000 < bs.length then bootNotice (onHost s (fun h => { h with rom := none })) else onHost s (fun h => { h with rom := some bs })

/-- S1 is done with a slot (R402, R404): its number and SEQ shown, its components running, CONFIG and layout committed, the ROM copied, a boot epoch started. -/
def bootSlot (s : State) (k : Nat) (fallback : Bool) (layout : List (Fin 12 × PlotDef)) : State :=
  let m := seedSlot s k
  let h := slotHeader m
  let auto := decide (rdFld s .rstBoot 23 20 < 8) && (leAt h 16 1).testBit 0
  let s1 := wrBit (wrBit (wrBit s .rstBoot 30 (k == 1)) .rstBoot 29 fallback) .rstBoot 28 auto
  let s2 := wr (if fallback then bootNotice s1 else s1) .rstSeedseq (BitVec.ofNat 32 (seedSeq h))
  let s3 := takeComponents { s2 with seed := { s2.seed with rewriting := false } } (slotComponents m h)
  let s4 := copyRom (commitConfig s3 ((slotEntries m h 2).headD [])) (slotEntries m h 4)
  let s5 := layout.foldl (fun s e => definePlot s e.1 e.2) s4
  completeStage (onSec (startEpoch s5) (fun c => { c with erasing := false })) 1

/-- Every group of a tile is PROBATION, ADMITTED or LOST, or the tile has failed (R404, R409). -/
def tileCalibrated (s : State) (t : Nat) : Bool :=
  bit (rd s (.rstTilefail (t / 32))) (t % 32)
    || (!inReset s (64 + t) && (List.range 32).all (fun g => let v := calState s t g; v == calProbation || v == calAdmitted || v == calLost))

/-- A component starts to run as its stage completes. -/
def showRunning (s : State) (c : Nat) : State := match mapFind s.fw.running c with | some k => showComponent s k | none => s

/-- Stop codes of a stage (Tables RST-3, RST-10), but for LAYOUT, with which the record itself stops S1 as it is judged (STAGE_COMPLETE). -/
def stopCodes (n : Nat) : List Nat :=
  if n = 0 then [1] else if n = 1 then [2, 4, 5, 8] else if n = 2 then [6, 8] else if n = 3 then [4] else if n = 4 then [7, 4] else []

/-- A stage stops (R4, R5, R402 to R404): its code, an event; in S0 the fuse-state event; in S1 with no slot passing, FALLBACK, and no VF and no ROM. -/
def stopStage (s : State) (n code : Nat) : State :=
  let s0 := if code = 2 then wrBit s .rstBoot 29 true else s
  let s1 := setStage s0 n stStopped code
  let s2 := recordEvent s1 0x0201 moduleEvent 3 islHeadland n (rd s1 .rstStage) 0
  if n = 0 then recordEvent s2 0x0303 moduleEvent 3 islSecurity 35 (fuse s2 35) 0
  else if n = 1 then onHost s2 (fun h => { h with vfEnable := false, numVfs := 0, rom := none })
  else s2

/-- STAGE_COMPLETE (R5, R402, R404): where the stage's condition holds, it is COMPLETE; S5 and S6 are so on entry.  `layout` is the layout record of the seedbed: one that the fused
class does not permit stops S1 with LAYOUT.  The distributions of R250 end with their stage: log entry 129. -/
def execStageComplete (n : Fin 7) (layout : List (Fin 12 × PlotDef)) (s : State) : Host.Outcome State Fault Refusal :=
  .next (if stageNo s ≠ n.val ∨ stageState s ≠ stRunning then s
    else match n.val with
      | 0 => if inReset s 1 ∨ fusesAccepted s = false then s else completeStage s 0
      | 1 =>
        if inReset s 2 ∨ inReset s 5 = true then s
        else match chooseSlot s with
          | some (k, fb) => if layoutOk s.sec.layoutClass layout then bootSlot s k fb layout else stopStage s 1 3
          | none => s
      | 2 => if inReset s 3 ∨ s.fw.up = false ∨ rdFld s .lpxStatus 31 16 ≠ 0xFFFF then s else completeStage { s with fw := { s.fw with lostCopies := [] } } 2
      | 3 => if s.fw.up = true ∧ allTiles.all (tileCalibrated s) = true then completeStage (showRunning s 5) 3 else s
      | 4 =>
        if inReset s 4 ∨ s.net.checking.isEmpty = false ∨ bit (rd s .clkRefstat) 1 = false
            ∨ (List.range 16).any (fun p => inReset s (8 + p) && decide (rdFld s (.netPcfg p) 11 8 ≠ 15)) = true then s
        else completeStage (showRunning s 4) 4
      | _ => s)

/-- STAGE_STOP (R404): with a code of the stage; FUSE and NOSEED only where the fuses, or every slot, fail. -/
def execStageStop (n : Fin 7) (code : Byte) (s : State) : Host.Outcome State Fault Refusal :=
  .next (if stageNo s ≠ n.val ∨ stageState s ≠ stRunning ∨ (stopCodes n).contains code.toNat = false ∨ (n.val = 0 ∧ fusesAccepted s = true)
      ∨ (code.toNat = 2 ∧ (chooseSlot s).isSome = true) then s
    else stopStage s n code.toNat)

/-- XSPI_RELEASE (R403). -/
def execXspiRelease (s : State) : Host.Outcome State Fault Refusal :=
  .next (if stageNo s = 1 ∧ stageState s = stStopped then wrBit s .rstBoot 31 true else s)

/-! ### Leaving reset (R409 to R411) -/

/-- A failed release (R409, R411): a tile stays in reset, a port goes down with its lanes disabled, any other island stops the stage with CLOCK. -/
def failRelease (s : State) (i : Nat) : State :=
  let s1 := onPower s (fun w => { w with loading := w.loading.filter (· ≠ i), trimmed := w.trimmed.filter (· ≠ i), trimTries := mapErase w.trimTries i, pllTries := mapErase w.pllTries i })
  if 64 ≤ i then wrBit s1 (.rstTilefail ((i - 64) / 32)) ((i - 64) % 32) true
  else if 8 ≤ i ∧ i ≤ 23 then
    forAll (fun s sub => laneChange s (i - 8) sub) (wrFld s1 (.netPcfg (i - 8)) 11 8 15) (List.range (subCount (split s1 (i - 8))))
  else if stageState s1 = stRunning then stopStage s1 (stageNo s1) 8
  else s1

/-- TRIM_LOAD_COMMIT (R410): a record's CRC matches and its shadows commit; on a mismatch the load is repeated, and a fourth failure is a failed release. -/
def execTrimLoadCommit (i : Fin 192) (ok : Bool) (s : State) : Host.Outcome State Fault Refusal :=
  let k := mapGet 0 s.power.trimTries i + 1
  .next (if !s.power.loading.contains i.val then s
    else if ok then onPower s (fun w => { w with loading := w.loading.filter (· ≠ i.val), trimmed := i.val :: w.trimmed, trimTries := mapErase w.trimTries i })
    else if 4 ≤ k then failRelease s i
    else onPower s (fun w => { w with trimTries := mapInsert w.trimTries i k }))

/-- RESTART goes to every mailbox that has agreed a version (R245, R253). -/
def postRestart (s : State) : State := forAll (fun s o => if (box s o).version = 0 then s else postUnsol s o 0x02 0 0 []) s (List.range 13)

/-- The saved training record of a controller may be used: it is authentic, the package's mode registers match it, the sensor reads within 20 °C of the saved temperature, and
the verify pass meets its margins (R197). -/
def savedTraining (s : State) (c : Nat) (run : TrainRun) : Option TrainRec :=
  (trainRecord s c).bind (fun r =>
    if r.mr = Config.lpxModeRegs c ∧ r.temp ≤ run.sensor.toNat + 20 ∧ run.sensor.toNat ≤ r.temp + 20 ∧ run.verified = true then some r else none)

/-- Training of an LPDDR5X controller as its island leaves reset (R197, R198): from the saved record, in full, or failed. -/
def trainController (s : State) (c : Nat) (run : TrainRun) : State :=
  let ready := fun (r : TrainRec) (saved : Bool) =>
    wrBit (wrBit { s with ram := { s.ram with trained := mapInsert s.ram.trained c r } } .lpxStatus (16 + c) true) .lpxTrain c saved
  match savedTraining s c run with
  | some r => ready r true
  | none =>
    if run.succeeds then ready { mr := Config.lpxModeRegs c, temp := run.sensor.toNat, values := run.values } false
    else
      let s1 := wrBit s .lpxTrain (16 + c) true
      recordEvent s1 0x0602 moduleEvent 3 (islLpx c) c (rd s1 .lpxTrain) 0

/-- The lanes of a port that are not disabled begin their check (R407). -/
def checkLanes (s : State) (p : Nat) : State :=
  let ls := ((List.range 4).filter (fun l => !bit (rd s (.netPcfg p)) (8 + l))).map (· + 4 * p)
  { s with net := { s.net with checking := ls ++ s.net.checking.filter (fun k => !ls.contains k) } }

/-- What an island meets as it leaves reset, the stage that management firmware had in progress starting again with it (R417: what the stage has done by then stands; log entry 137): its firmware is loaded, its controllers train, its lanes are checked, its tile is restored (R57, R101, R165, R186, R404, R412, R415). -/
def islandOut (s : State) (i : Nat) (train : TrainRun) (cold : Bool) : State :=
  if i = 0 then reloadCores s 1
  else if i = 1 then (if stageNo s = 0 then runBootRom s else reloadCores s 2)
  else if i = 2 then
    (match mapFind s.fw.running 3 with
      | some _ =>
        let s1 := postRestart (wrBit (reloadCores { s with fw := { s.fw with up := true } } 3) .rstCmd 30 false)
        if stageState s1 = stRunning ∧ (stageNo s1 = 2 ∨ stageNo s1 = 3) then beginStage s1 (stageNo s1) else s1
      | none => s)
  else if i = 4 then forAll (fun s p => if inReset s (8 + p) then s else checkLanes s p) (reloadCores s 4) (List.range 16)
  else if 8 ≤ i ∧ i ≤ 23 then checkLanes s (i - 8)
  else if 24 ≤ i ∧ i ≤ 39 then trainController s (i - 24) train
  else if 64 ≤ i then
    let t := i - 64
    let s1 := tileReleased cold (match reloadCopy s 5 with | some k => loadEngine s t k | none => s) t
    if s.power.clkDropped.contains t then onPower (wrBit s1 (.schErr t) 9 true) (fun w => { w with clkDropped := w.clkDropped.filter (· ≠ t) }) else s1
  else s

/-- ISLAND_RELEASE (R411): the island's records have committed, its rails are in order, and its clock-ready rises; `train` is what the training of an LPDDR5X
controller meets. -/
def execIslandRelease (i : Fin 192) (train : TrainRun) (s : State) : Host.Outcome State Fault Refusal :=
  .next (if !isIsland i || !inReset s i || !s.power.trimmed.contains i.val || !railsGood s i || (s.power.thermtrip && decide (i.val ≠ 0)) then s
    else
      let s1 := wrBit (wrBit s (.rstInrst (i / 32)) (i % 32) false) (.clkRdy (i / 32)) (i % 32) true
      let cold := !s.power.warm.contains i.val
      let s2 := onPower s1 (fun w => { w with trimmed := w.trimmed.filter (· ≠ i.val), warm := w.warm.filter (· ≠ i.val), pllTries := mapErase w.pllTries i })
      islandOut s2 i train cold)

/-- PLL_LOCK_TIMEOUT (R411): clock-ready has not risen 1 ms after the start; the PLL or DCO restarts, and the fourth failure is a failed release. -/
def execPllLockTimeout (i : Fin 192) (s : State) : Host.Outcome State Fault Refusal :=
  let k := mapGet 0 s.power.pllTries i + 1
  .next (if !inReset s i || !s.power.trimmed.contains i.val then s
    else if 4 ≤ k then failRelease s i
    else onPower s (fun w => { w with pllTries := mapInsert w.pllTries i k }))

/-! ### Resets (R413 to R417, R419) -/

/-- A reset has been performed: its bit in RST_CAUSE and an event (Table EVR-2). -/
def resetDone (s : State) (cause object : Nat) : State :=
  let s1 := wrBit s .rstCause cause true
  recordEvent s1 0x0202 moduleEvent 1 islHeadland object (rd s1 .rstCause) 0

/-- The bit of RST_CAUSE for who asked (Table RST-14). -/
def causeOf (b : ResetBy) : Nat :=
  match b with
  | .host => 6
  | .message m => if m.owner.val = mgmtPort then 7 else 6
  | .warden => 5
  | .watchdog => 4

/-- The management island is reset, and its records load again. -/
def managementReset (s : State) : State := onPower (resetIsland false true s 2) (fun w => { w with idleWait := w.idleWait.filter (· ≠ 1) })

/-- A block of the management island is busy: a mailbox request is being served (R414). -/
def managementBusy (s : State) : Bool := (List.range 14).any (fun o => (box s o).requests.any (fun r => r.taken))

/-- A request for a reset comes in: a message is answered before the reset begins, a register write sets BUSY, the headland cores are told (R417). -/
def resetRequest (s : State) (b : ResetBy) (run : State → State) : State :=
  match b with
  | .message m => serve s m { type := 0x81, vf := false } (fun s => run (irqCores (respond s m 0x81 stOk 0 []) headlandCores 20))
  | .host => run (irqCores (wrBit s .rstCmd 30 true) headlandCores 20)
  | _ => run s

/-- MANAGEMENT_ISLAND_RESET (R21, R414, R417): at once while the island is idle, else the idle wait begins; a second request joins the first. -/
def execManagementIslandReset (by_ : ResetBy) (s : State) : Host.Outcome State Fault Refusal :=
  .next (resetRequest s by_ (fun s =>
    if s.power.idleWait.contains 3 ∨ s.power.idleWait.contains 1 ∨ inReset s 2 = true then s
    else
      let s1 := resetDone s (causeOf by_) 2
      if managementBusy s then onPower s1 (fun w => { w with idleWait := addPage w.idleWait 1 }) else managementReset s1))

/-- The headland reset (R416): cores 0 and 1 are loaded again; the third within 60 s leaves them halted. -/
def headlandReset (s : State) (cause : Nat) : State :=
  let recent := s.tick :: s.fw.headlandResets.filter (fun k => decide (s.tick ≤ k + 60000000))
  let s1 := resetDone (resetCores { s with fw := { s.fw with headlandResets := recent } } headlandCores) cause 0
  if 3 ≤ recent.length then
    let s2 := wrBit (forAll (fun s c => setNvState s c nvHalted) s1 headlandCores) .rstCause 10 true
    signalFn (recordEvent s2 0x0204 moduleEvent 3 islHeadland 0 (rd s2 .rstCause) 0) 0 4
  else reloadCores s1 1

/-- HEADLAND_RESET (R414, R416, R417): once HDOWN is set only a module or power-on reset restores supervision. -/
def execHeadlandReset (by_ : ResetBy) (s : State) : Host.Outcome State Fault Refusal :=
  .next (resetRequest s by_ (fun s =>
    let s1 := if (s.fw.headlandResets.filter (fun k => decide (s.tick ≤ k + 60000000))).length ≥ 3 then s else headlandReset s (causeOf by_)
    if by_ = .host then wrBit s1 .rstCmd 30 false else s1))

/-- RST registers that a module reset returns to their reset values (R421). -/
def moduleResets : Reg → Bool
  | .rstStage => true
  | .rstGate => true
  | .rstBoot => true
  | .rstSeedseq => true
  | .rstInrst _ => true
  | .rstTilefail _ => true
  | _ => false

/-- The module is reset (Table RST-5): every island cold, the plots' work gone; headland registers stay but those of R421; bring-up from S0 with OPTSEL read again. -/
def moduleReset (s : State) : State :=
  let s1 := forAll (resetIsland true false) (forAll closeRegion (linkDown s) (List.range 32)) allIslands
  let s2 := resetRegs s1 moduleResets
  let idle := fun (s : State) (p : Nat) => onPlot (if pltState s p = pltUndefined then s else setPlt s p pltIdle) p (fun q => { lastAbort := q.lastAbort })
  let s3 := forAll idle s2 allPlots
  let s5 := resetCores { s3 with mem := [], ckp := [], dirtyC := [], dirtyD := [], tel := {} } headlandCores
  let s6 := draw { s5 with
    fw := { boxes := s5.fw.boxes, halts := s5.fw.halts }
    ram := { calA := s5.ram.calA, calB := s5.ram.calB, trainA := s5.ram.trainA, trainB := s5.ram.trainB }
    power := { dieTemp := s5.power.dieTemp, baseTemp := s5.power.baseTemp, thermtrip := s5.power.thermtrip, railReset := s5.power.railReset, tokensOut := s5.power.tokensOut } }
  forAll startFreq s6 allTiles

/-- Blocks of the module that are busy (R414). -/
def moduleBusy (s : State) : Bool := managementBusy s || allPlots.any (fun p => !(busyBlocks s p).isEmpty)

/-- MODULE_RESET (R414, R417, R419): idle requests go to every plot; at once where every block is idle or another reset waits, else when the wait ends. -/
def execModuleReset (by_ : ResetBy) (s : State) : Host.Outcome State Fault Refusal :=
  .next (resetRequest s by_ (fun s =>
    if s.power.idleWait.contains 3 then s
    else
      let s1 := forAll idleRequests (resetDone s (causeOf by_) 0xFF) (allPlots.filter (fun p => pltState s p != pltUndefined))
      if moduleBusy s1 && s.power.idleWait.isEmpty then onPower s1 (fun w => { w with idleWait := [3] }) else moduleReset s1))

/-- RESET_IDLE_TIMEOUT (R414): every block reports idle or IDLE_US has passed, and the resets that wait are asserted. -/
def execResetIdleTimeout (s : State) : Host.Outcome State Fault Refusal :=
  .next (if s.power.idleWait.contains 3 then moduleReset s else if s.power.idleWait.contains 1 then managementReset s else s)

/-- The PCIe island is reset warm, its link down first (R332, Table RST-5). -/
def pcieReset (s : State) (cause : Nat) : State := resetDone (resetIsland false true (linkDown s) 5) cause 5

/-- PERST_N (R346, R406, R414): asserted, it resets the PCIe island; deasserted, it lets the link train and releases WAKE_N. -/
def execPerstN (asserted : Bool) (s : State) : Host.Outcome State Fault Refusal :=
  .next (if asserted then
      (if s.host.perst then s
       else
        let s1 := onHost s (fun h => { h with perst := true })
        if inReset s1 5 then wrBit s1 .rstCause 2 true else pcieReset s1 2)
    else onHost s (fun h => { h with perst := false, wakeLow := false }))

/-- HOT_RESET (R414). -/
def execHotReset (s : State) : Host.Outcome State Fault Refusal := .next (if inReset s 5 then s else pcieReset s 3)

/-- POWER_ON_RESET (R358, R398, R413): everything at its reset value but fuses, the epoch counter and the NVM; LAYOUT_CLASS is read from the fuses. -/
def execPowerOnReset (s : State) : Host.Outcome State Fault Refusal :=
  .next { State.reset with
    pending := s.pending, out := s.out, fresh := s.fresh + 1, seed := { slotA := s.seed.slotA, slotB := s.seed.slotB }
    ram := { calA := s.ram.calA, calB := s.ram.calB, trainA := s.ram.trainA, trainB := s.ram.trainB }, host := { perst := s.host.perst }
    sec := { fuses := s.sec.fuses, epoch := s.sec.epoch, layoutClass := fld (fuse s 35) 3 0 } }

/-! ### Supplies, temperature, clocks and references (R161, R172, R175, R176, R412) -/

/-- Plots that serve or are held on a tile of a set fault with CAUSE 9 at their lowest such tile (R147, R176, R412). -/
def faultPlots (s : State) (ts : List Nat) : State :=
  forAll (fun s p => match (tilesOf s p).find? (fun t => ts.contains t) with
    | some t => if pltState s p = pltServing ∨ pltState s p = pltHeld then plotFault s p 9 t else s
    | none => s) s allPlots

/-- SUPPLY_RESET (R172, R173, R176, R413, Table RST-5): `deep` says that the rail has fallen below 70 % of nominal. -/
def execSupplyReset (rail : Fin 24) (deep : Bool) (s : State) : Host.Outcome State Fault Refusal :=
  let r := rail.val
  if !isRail r then .next s
  else if r = 0 then execPowerOnReset s
  else
    let s0 := wrBit (onPower s (fun w => { w with railReset := addPage w.railReset r })) .pwrRstlog r true
    let s1 := irqCores (recordEvent (wrBit s0 .rstCause 1 true) 0x0102 moduleEvent 3 islHeadland r (rd s0 .pwrRstlog) 0) headlandCores 14
    let lpx := (List.range 16).map (· + 24)
    .next (if r = 1 then
        let s2 := forAll (resetIsland deep false) (linkDown s1) ([1, 2, 3, 4, 5] ++ lpx)
        onPower (setStage s2 0 stRunning 0) (fun w => { w with bootDue := true })
      else if r = 2 then forAll (resetIsland deep true) s1 ((List.range 16).map (· + 8))
      else if r = 3 then forAll (resetIsland deep true) s1 lpx
      else if r = 4 then resetIsland deep true (linkDown s1) 5
      else faultPlots (forAll (resetIsland deep true) s1 ((dieTiles (r % 8)).map (· + 64))) (dieTiles (r % 8)))

/-- THERMAL_TRIP (R175, Table RST-5): THERMTRIP_N goes low, and every island but the headland is reset cold, held until the trip is over. -/
def execThermalTrip (die : Fin 9) (s : State) : Host.Outcome State Fault Refusal :=
  let s1 := onPower s (fun w => { w with thermtrip := true })
  let s2 := recordEvent s1 0x0104 moduleEvent 3 islHeadland (if die.val = 8 then 0xFF else die.val) (rd s1 .pwrTemp) (if die.val = 8 then 0 else thermalLevel s1 die)
  let s3 := irqCores (wrBit s2 .rstCause 8 true) headlandCores 15
  let s4 := forAll (resetIsland true false) (linkDown (faultPlots s3 allTiles)) allIslands
  .next (onPower (setStage s4 0 stRunning 0) (fun w => { w with bootDue := true }))

/-- Clock-ready of a released island drops (R412). -/
def clockDrop (s : State) (i : Nat) : State :=
  if !isIsland i || inReset s i then s
  else
    let s1 := count (count s .clkLosscnt 1) .rstRereset 1
    let s2 := resetIsland false true (if i = 5 then linkDown s1 else s1) i
    let s3 := resetDone s2 9 i
    if 64 ≤ i then
      let s4 := onPower s3 (fun w => { w with clkDropped := addPage w.clkDropped (i - 64) })
      match plotOf s4 (i - 64) with
      | some p => if pltState s4 p = pltServing then plotFault s4 p 9 (i - 64) else s4
      | none => s4
    else s3

/-- CLOCK_READY_DROP (R160, R412). -/
def execClockReadyDrop (i : Fin 192) (s : State) : Host.Outcome State Fault Refusal := .next (clockDrop s i)

/-- Islands that REFCLK156 feeds. -/
def portIslands : List Nat := 4 :: (List.range 16).map (· + 8)

/-- The event of a reference, and its interrupts. -/
def referenceEvent (s : State) (k : Nat) : State :=
  signalFn (irqCores (recordEvent s 0x0103 moduleEvent 2 islHeadland k (rd s .clkRefstat) 0) headlandCores 16) 0 4

/-- REFERENCE_LOST (R161, Table PWR-2): 0 OSC25, 1 REFCLK156, 2 REFCLK100. -/
def execReferenceLost (k : Fin 3) (s : State) : Host.Outcome State Fault Refusal :=
  let s1 := wrBit (wrBit s .clkRefstat (10 - k.val) true) .clkRefstat (2 - k.val) false
  .next (if k.val = 0 then referenceEvent (wrBit s1 .clkRefstat 3 true) 0
    else forAll clockDrop (referenceEvent s1 k) (if k.val = 1 then portIslands else [5]))

/-- REFERENCE_BACK (R161): OSC25 has been present for 10 ms, and the headland leaves its backup oscillator. -/
def execReferenceBack (s : State) : Host.Outcome State Fault Refusal :=
  .next (if bit (rd s .clkRefstat) 2 then referenceEvent (wrBit s .clkRefstat 3 false) 0 else s)

/-- REFCLK_RETURN (R161, R407): the reference is present again; a stage stopped with NOREF156 resumes. -/
def execRefclkReturn (k : Fin 3) (s : State) : Host.Outcome State Fault Refusal :=
  let s1 := referenceEvent (wrBit s .clkRefstat (2 - k.val) true) k
  .next (if k.val = 0 then wrBit s .clkRefstat 2 true
    else if k.val = 1 ∧ stageState s1 = stStopped ∧ rdFld s1 .rstStage 23 16 = 7 then setStage s1 (stageNo s1) stRunning 0
    else s1)

/-! ### Watchdogs and the warden (R235, R236, R241) -/

/-- WATCHDOG_EXPIRY (R235): the core halts with HALTCAUSE 1; core 0's expiry is the headland hardware watchdog, which also ends a warden halted by causes 2 and 3 (R241). -/
def execWatchdogExpiry (c : Fin 24) (s : State) : Host.Outcome State Fault Refusal :=
  .next (if !wdogRuns s c then s
    else
      let s1 := haltCore (wrFld s (.nvcWdog c) 31 16 (satNat (rdFld s (.nvcWdog c) 31 16 + 1) 0xFFFF)) c 1
      if c.val = 0 then headlandReset s1 4 else s1)

/-- Halts of a component within the last 60 s, with one more where the core's cause counts (R241). -/
def recentHalts (s : State) (n : Nat) (counts : Bool) : List Nat :=
  let l := (mapGet [] s.fw.halts n).filter (fun k => decide (s.tick ≤ k + 60000000))
  if counts then s.tick :: l else l

/-- WARDEN_HALT_RESPONSE (R236, R241, Table NVC-15): a core reset and reload, or an island reset; the third halt of a component in 60 s holds it down. -/
def execWardenHaltResponse (c : Fin 24) (s : State) : Host.Outcome State Fault Refusal :=
  let n := componentOf c
  let cause := rdFld s (.nvcStatus c) 28 24
  let l := recentHalts s n (decide (cause ≠ 4 ∧ cause ≠ 5))
  .next (if nvState s c ≠ nvHalted ∨ nvState s 0 = nvHalted ∨ bit (rd s (.fwmState n)) 30 = true then s
    else
      let s1 := { s with fw := { s.fw with halts := mapInsert s.fw.halts n l } }
      if 3 ≤ l.length then
        let s2 := recordEvent (wrBit s1 (.fwmState n) 30 true) 0x0D02 moduleEvent 3 islHeadland n (rd s1 .fwmUpd) 0
        if n = 3 then resetMgmt s2 else s2
      else if n = 3 then managementReset (resetDone s1 5 2)
      else if n = 2 then resetIsland false true (resetDone s1 5 1) 1
      else
        let s2 := resetDone s1 5 (if c.val < 2 then 0 else 4)
        match reloadCopy s n with
        | some k => loadCore (resetCores (noteCopy s2 k) [c.val]) c k false
        | none => resetCores s2 [c.val])

/-! ### Rewriting the seedbed (R418, R420) -/

/-- SEED_WRITE (R418): into the slot that is not running; the first after a commit or a module start overwrites its header with 0xFF. -/
def execSeedWrite (m : Msg) (off : Nat) (src : SecBuf) (len : Nat) (s : State) : Host.Outcome State Fault Refusal :=
  .next (serve s m { type := 0x82, vf := false } (fun s =>
    let k := 1 - runningSlot s
    if off < 512 ∨ slotSize < off + len then respond s m 0x82 stRefused 0 []
    else match bufRead s src len with
      | none => respond s m 0x82 stRefused 0 []
      | some bs =>
        let m0 := if s.seed.rewriting then seedSlot s k else slotWrite (seedSlot s k) 0 (List.replicate 512 0xFF)
        let s1 := setSeedSlot s k (slotWrite m0 off bs)
        respond (irqCores { s1 with seed := { s1.seed with rewriting := true } } mgmtCores 21) m 0x82 stOk 0 []))

/-- SEED_COMMIT (R418): the header is written only if the slot would boot. -/
def execSeedCommit (m : Msg) (header : List Byte) (s : State) : Host.Outcome State Fault Refusal :=
  .next (serve s m { type := 0x83, vf := false } (fun s =>
    let k := 1 - runningSlot s
    if header.length ≠ 512 ∨ seedPasses s (seedSlot s k) header = false then respond s m 0x83 stRefused 0 []
    else
      let s1 := setSeedSlot s k (slotWrite (seedSlot s k) 0 header)
      respond (irqCores { s1 with seed := { s1.seed with rewriting := false } } mgmtCores 21) m 0x83 stOk 0 []))

/-- SEQ, validity and digest of a slot (log entry 30). -/
def seedQueryBytes (s : State) (k : Nat) : List Byte :=
  let m := seedSlot s k
  let h := slotHeader m
  leBytes 4 (seedSeq h) ++ leBytes 4 (boolNat (seedPasses s m h)) ++ seedDigest m

/-- SEED_QUERY (R420). -/
def execSeedQuery (m : Msg) (s : State) : Host.Outcome State Fault Refusal :=
  .next (serve s m { type := 0x84, vf := false } (fun s => respond s m 0x84 stOk 0 (seedQueryBytes s 0 ++ seedQueryBytes s 1)))

end Sys2Proof.Machine
end

