-- ==== Sys2Proof/Machine/Checkpoint.lean ====
section
/-! DEFINITION. Checkpoint and restore: arming, the cut, the snapshot, copies before writes, and sheaves put back (R422 to R436). -/
set_option Elab.async false
namespace Sys2Proof.Machine

/-! ### Arming -/

/-- A CKPT key that seals for the job of plot p (R425): kind CKPT, BIND the JOB_ID and eight zero bytes, the plot in its mask. -/
def ckptKey (s : State) (p slot : Nat) : Option KeySlot :=
  match mapFind s.sec.slots slot with
  | some k => if k.kind = 2 ∧ k.ident.toNat = (jobOf s p).toNat ∧ (imageOf s p).isSome = true ∧ k.plots.testBit p = true then some k else none
  | none => none

/-- The plot is READY, SERVING or HELD. -/
def ckptState (s : State) (p : Nat) : Bool := pltState s p == pltReady || pltState s p == pltServing || pltState s p == pltHeld

/-- Code of Table CKP-3 with which an arm is refused (R425); 0 where it is not. -/
def armCode (s : State) (p : Nat) (full : Bool) (slot : Nat) : Nat :=
  if (ckptKey s p slot).isNone then 6
  else if !full && !(ckpOf s p).complete then 7
  else if !ckptState s p || ckpBusy s p || ckpState s p == ckRestoring then 8
  else 0

/-- The arm names a CKPT_ID, a binding, and a staging area that lies in an enabled firmware region (R425). -/
def armNamed (s : State) (ckptId : DWord) (binding region off cap : Nat) : Bool :=
  ckptId != 0 && (mapFind s.stg.bindings binding).isSome && decide (16 ≤ region) && regionOpen s region && decide (1 ≤ cap)
    && decide (off + cap * 0x10000 ≤ regionSize s region)

/-- CKP_ARM (R425). -/
def execCkpArm (m : Msg) (full : Bool) (ckptId hstep : DWord) (slot binding : Fin 256) (lba : Nat) (region : Fin 32) (off cap : Nat) (s : State) :
    Host.Outcome State Fault Refusal :=
  let p := msgPlot m
  .next (serve s m { type := 0x90, vf := true, needsPlot := true } (fun s =>
    if armCode s p full slot ≠ 0 then respond s m 0x90 stRefused (armCode s p full slot) []
    else if !armNamed s ckptId binding region off cap then respond s m 0x90 stRefused 0 []
    else
      let s1 := onCkp s p (fun k => { k with hstep := hstep, ckptId := ckptId, full := full, slot := slot, dest := (binding.val, lba), stageAt := regionBase s region + off, cap := cap,
                                             heldAtArm := pltState s p == pltHeld })
      respond (setCkp (wrBit s1 (.ckpPstat p) 27 (!full)) p ckArmed 0) m 0x90 stOk 0 []))

/-- CKP_DISARM: an arm not yet cut is cancelled. -/
def execCkpDisarm (m : Msg) (s : State) : Host.Outcome State Fault Refusal :=
  let p := msgPlot m
  .next (serve s m { type := 0x91, vf := true, needsPlot := true } (fun s =>
    if ckpState s p = ckArmed then respond (setCkp s p ckIdle 0) m 0x91 stOk 0 [] else respond s m 0x91 stRefused 0 []))

/-- CKP_QUERY: CKP_PSTAT, the base CKPT_ID, and the counts of CKP_PEND, CKP_SEALED and CKP_COW. -/
def execCkpQuery (m : Msg) (s : State) : Host.Outcome State Fault Refusal :=
  let p := msgPlot m
  .next (serve s m { type := 0x93, vf := true, needsPlot := true } (fun s =>
    respond s m 0x93 stOk 0 (leBytes 4 (rd s (.ckpPstat p)).toNat ++ leBytes 8 (ckpOf s p).base.toNat ++ leBytes 4 (rd s (.ckpPend p)).toNat
      ++ leBytes 4 (rd s (.ckpSealed p)).toNat ++ leBytes 4 (rd s (.ckpCow p)).toNat)))

/-! ### The cut and the snapshot (R426, R427) -/

/-- A page number put into a rising list. -/
def insertPage : List Nat → Nat → List Nat
  | [], x => [x]
  | y :: rest, x => if x < y then x :: y :: rest else if x = y then y :: rest else y :: insertPage rest x

/-- Page numbers in rising order. -/
def sortPages (l : List Nat) : List Nat := l.foldl insertPage []

/-- The set a checkpoint of plot p captures, rising: C for FULL, D for DELTA (R423). -/
def captured (s : State) (p : Nat) : List Nat :=
  sortPages ((if (ckpOf s p).full then s.dirtyC else s.dirtyD).filter (plotPage s p))

/-- The plot's traffic issued before the hold has completed: remote operations, crossings, LPDDR5X requests. -/
def settled (s : State) (p : Nat) : Bool := !blockBusy s p 1 && !blockBusy s p 3 && !blockBusy s p 4

/-- Code with which a cut of n pages fails at once: the key gone, the binding too small, the counter at its limit (Table CKP-3); 0 where none. -/
def cutCode (s : State) (p n : Nat) : Nat :=
  let k := ckpOf s p
  match ckptKey s p k.slot, mapFind s.stg.bindings k.dest.1 with
  | none, _ => 6
  | _, none => 5
  | some key, some b => if b.capacity < k.dest.2 + sheafBlocks n then 5 else if 2 ^ 48 < key.counter + n + 2 then 3 else 0

/-- TILES of plot p, as a number with bit t for tile t. -/
def tileMask (s : State) (p : Nat) : Nat := sumNat ((tilesOf s p).map (fun t => 2 ^ t))

/-- Bytes [4079:0] of the header of the sheaf of plot p (Table CKP-1), of n pages whose first counter is `ctr`. -/
def headerBytes (s : State) (p n ctr : Nat) (im : Image) : List Byte :=
  let k := ckpOf s p
  let keyId := match mapFind s.sec.slots k.slot with | some x => x.keyId.toNat | none => 0
  fitBytes 4080 (leBytes 4 0x48534C53 ++ leBytes 1 1 ++ leBytes 1 (boolNat (!k.full)) ++ leBytes 2 0 ++ leBytes 8 im.job.toNat ++ leBytes 8 (plot s p).step.toNat
    ++ leBytes 4 im.plotIndex ++ leBytes 4 im.jobPlots ++ leBytes 8 k.ckptId.toNat ++ leBytes 8 (if k.full then 0 else k.base.toNat) ++ deviceId s
    ++ leBytes 4 (rd s .secEpoch).toNat ++ leBytes 4 keyId ++ leBytes 8 ctr ++ leBytes 4 n ++ leBytes 4 (regionSize s p / 0x10000) ++ leBytes 16 im.modelId.toNat
    ++ fitBytes 32 im.digest ++ leBytes 16 (tileMask s p) ++ (tilesOf s p).flatMap (fun t => leBytes 8 (tile s t).seed.toNat))

/-- CHECKPOINT_CUT (R426): the held plot's captured set becomes P, and D is cleared; the sheaf's counters are taken from its key. -/
def execCheckpointCut (p : Fin 12) (s : State) : Host.Outcome State Fault Refusal :=
  let k := ckpOf s p
  .next (if ckpState s p ≠ ckArmed ∨ pltState s p ≠ pltHeld ∨ frozen s p = true ∨ k.heldAtArm = true ∨ settled s p = false then s
    else
      let ps := captured s p
      let n := ps.length
      let s1 := onCkp { s with dirtyD := s.dirtyD.filter (fun g => !plotPage s p g) } p (fun k => { k with
        pset := ps, pages := ps, staged := [], snapped := false, stream := [], written := [], front := 0, attempts := [], step := (plot s p).step })
      let s2 := wr (wr s1 (.ckpPend p) (BitVec.ofNat 32 n)) (.ckpSealed p) 0
      if cutCode s p n ≠ 0 then ckpFail s2 p (cutCode s p n)
      else
        let c := match mapFind s.sec.slots k.slot with | some x => x.counter | none => 0
        let s3 := onSec s2 (fun x => { x with slots := x.slots.map (fun e => if e.1 = k.slot then (e.1, { e.2 with counter := c + n + 2 }) else e) })
        let h := match imageOf s p with | some im => headerBytes s3 p n (c + 1) im | none => []
        setCkp (onCkp s3 p (fun k => { k with counter := c + 1, head := h })) p ckCutting 0)

/-- SNAPSHOT_COMPLETE (R426, R427): every scratchpad page of P stands in staging; the sheaf is written from here on. -/
def execSnapshotComplete (p : Fin 12) (s : State) : Host.Outcome State Fault Refusal :=
  .next (if ckpState s p ≠ ckCutting then s
    else
      let ps := (ckpOf s p).pages
      let scratch := ps.filter (fun g => decide (scratchBase ≤ g * 0x10000))
      let s1 := onCkp s p (fun k => { k with
        staged := scratch.foldl (fun m g => mapInsert m g (rdBytes s (g * 0x10000) 0x10000)) k.staged
        pages := ps.filter (fun g => decide (g * 0x10000 < scratchBase)), snapped := true, stream := sealEnd (sheafKey s p) k.counter k.head })
      setCkp s1 p ckWriting 0)

/-! ### Copy before write (R430) -/

/-- COPY_BEFORE_WRITE (R430): a page that a held write waits on is copied into staging, where the copy takes its place, and the write proceeds, having waited `waitNs`. -/
def execCopyBeforeWrite (p : Fin 12) (page waitNs : Nat) (s : State) : Host.Outcome State Fault Refusal :=
  .next (if ckpState s p ≠ ckWriting ∨ cowHeld s p page = false ∨ stagingRoom s p = false
      ∨ s.ram.held.any (fun e => e.1 == p.val && (pagesOf e.2.1 e.2.2.length).contains page) = false then s
    else
      let s1 := cowCopy s p page
      releaseHeld (noteWait s1 p waitNs) p)

/-! ### Restore (R432 to R434) -/

/-- Opening of a part of a sheaf under the key that its header's DEVICE_ID and EPOCH derive from the CKPT key (Table SEC-6). -/
def sheafOpen (key : List Byte) (h : List Byte) (ctr : Nat) (aad ct tag : List Byte) : Option (List Byte) :=
  gcmOpen (kdfKey key "SHEAF" ((h.drop 48).take 20)) (sheafIv ctr) aad ct tag

/-- FIRST_CTR and PAGES of a header. -/
def firstCtr (h : List Byte) : Nat := leAt h 72 8
def sheafPages (h : List Byte) : Nat := leAt h 80 4

/-- The header and the trailer verify (R428, R432): MAGIC and FORMAT, both tags, and the trailer's copies of CKPT_ID and PAGES. -/
def sheafVerifies (key : List Byte) (x : Sheaf) : Bool :=
  let h := x.header
  let t := x.trailer
  h.length == 4096 && t.length == 4096 && leAt h 0 4 == 0x48534C53 && leAt h 4 1 == 1 && leAt t 0 4 == 0x54534C53
    && leAt t 4 8 == leAt h 32 8 && leAt t 12 4 == sheafPages h
    && (sheafOpen key h (firstCtr h) (h.take 4080) [] (h.drop 4080)).isSome
    && (sheafOpen key h (firstCtr h + sheafPages h + 1) (t.take 4080) [] (t.drop 4080)).isSome

/-- The chain's order (R432): 1 to 16 sheaves, the first FULL, each later BASE_ID the CKPT_ID before it. -/
def chainLinked : List Sheaf → Bool
  | [] => true
  | [_] => true
  | a :: b :: rest => leAt b.header 40 8 == leAt a.header 32 8 && chainLinked (b :: rest)
def chainOk (c : List Sheaf) : Bool :=
  decide (1 ≤ c.length) && decide (c.length ≤ 16) && (match c with | a :: _ => leAt a.header 5 1 == 0 | [] => false) && chainLinked c

/-- The checks of code IMAGE. -/
def sheafFits (s : State) (p : Nat) (im : Image) (x : Sheaf) : Bool :=
  let h := x.header
  (h.drop 104).take 32 == im.digest && leAt h 88 16 == im.modelId.toNat && leAt h 136 16 == tileMask s p && leAt h 24 4 == im.plotIndex
    && decide (leAt h 84 4 * 0x10000 ≤ (if regionOpen s p then regionSize s p else 0))

/-- The last sheaf of a chain. -/
def chainTip (c : List Sheaf) : Sheaf := c.getLastD ⟨[], [], []⟩
/-- STEP of a sheaf. -/
def sheafStep (x : Sheaf) : Nat := leAt x.header 16 8

/-- Code with which a restore is refused (R432, R433); 0 where it is not. -/
def restoreCode (s : State) (slot : Nat) (step : DWord) (chains : List (Fin 12 × List Sheaf)) : Nat :=
  if chains.isEmpty || chains.any (fun e => (ckptKey s e.1 slot).isNone) then 6
  else if chains.any (fun e => pltState s e.1 != pltReady || ckpBusy s e.1 || ckpState s e.1 == ckRestoring) || s.sec.dbgScope.isSome then 8
  else if chains.any (fun e => !chainOk e.2) then 7
  else
    let key := match mapFind s.sec.slots slot with | some k => k.key | none => []
    if chains.any (fun e => e.2.any (fun x => !sheafVerifies key x)) then 0x11
    else if chains.any (fun e => match imageOf s e.1 with | some im => e.2.any (fun x => !sheafFits s e.1 im x) | none => true) then 0x12
    else if chains.any (fun e => e.2.any (fun x => leAt x.header 8 8 != (jobOf s e.1).toNat) || sheafStep (chainTip e.2) != step.toNat) then 0x10
    else 0

/-- The latest step that every chain holds as the STEP of one of its sheaves; all ones where there is none (R433). -/
def commonStep (chains : List (Fin 12 × List Sheaf)) : Nat :=
  match chains with
  | [] => 0xFFFFFFFFFFFFFFFF
  | c :: rest =>
    let all := (c.2.map sheafStep).filter (fun t => rest.all (fun e => e.2.any (fun x => sheafStep x == t)))
    if all.isEmpty then 0xFFFFFFFFFFFFFFFF else maxNat all

/-- CKP_RESTORE (R432, R433): refused whole, nothing being written; else every plot named is RESTORING, and the answer is owed.  A VF names its own plot only. -/
def execCkpRestore (m : Msg) (step : DWord) (slot : Fin 256) (chains : List (Fin 12 × List Sheaf)) (s : State) : Host.Outcome State Fault Refusal :=
  .next (serve s m { type := 0x92, vf := true } (fun s =>
    if decide (1 ≤ m.owner.val) && decide (m.owner.val ≤ 12) && chains.any (fun e => e.1.val + 1 != m.owner.val) then respond s m 0x92 stNotPermitted 0 []
    else
      let code := restoreCode s slot step chains
      if code ≠ 0 then respond s m 0x92 stRefused code (if code = 0x10 then leBytes 8 (commonStep chains) else [])
      else chains.foldl (fun s e =>
        setCkp (onCkp s e.1 (fun k => { k with target := step, slot := slot, chain := e.2, gen := rdFld s (.pltGen e.1) 15 0, owed := some (m.owner.val, m.seq.toNat, m.version) })) e.1 ckRestoring 0) s))

/-- Device address of a record's page: of region p, or of a scratchpad by tile, bank and page (R428); none outside the plot. -/
def recordAddr (s : State) (p : Nat) (r : List Byte) : Option Nat :=
  let i := leAt r 0 4
  let a := if leAt r 4 1 = 0 then regionBase s p + i * 0x10000 else scratchBase + i * 0x10000
  if plotPage s p (a / 0x10000) && (decide (leAt r 4 1 = 0) == decide (a < scratchBase)) then some a else none

/-- The records of one sheaf in order: each page opened and written; `left` records can still be read.  Answers the pages written and the code of a failure. -/
def restoreRecords (key : List Byte) (p : Nat) (h : List Byte) : List (List Byte) → Nat → Option Nat → State → List Nat → State × (List Nat × Nat)
  | [], _, _, s, done => (s, (done, 0))
  | r :: rest, i, left, s, done =>
    if left = some 0 then (s, (done, 1))
    else match recordAddr s p r, sheafOpen key h (firstCtr h + 1 + i) ((h.drop 32).take 8 ++ r.take 16) ((r.drop 16).take 0x10000) (r.drop 0x10010) with
      | some a, some bs => restoreRecords key p h rest (i + 1) (left.map (· - 1)) (wrBytesQuiet (clearBad s a 0x10000) a bs) (addPage done (a / 0x10000))
      | _, _ => (s, (done, 0x11))

/-- A chain in order, later sheaves overriding earlier ones (R434); a sheaf that holds fewer records than its header says ends as a failed read. -/
def restoreChain (key : List Byte) (p : Nat) : List Sheaf → Option Nat → State → List Nat → State × (List Nat × Nat)
  | [], _, s, done => (s, (done, 0))
  | x :: rest, left, s, done =>
    let n := sheafPages x.header
    let q := restoreRecords key p x.header (x.records.take n) 0 left s done
    if q.2.2 ≠ 0 then q
    else if x.records.length < n then (q.1, (q.2.1, 1))
    else restoreChain key p rest (left.map (· - n)) q.1 q.2.1

/-- The step seeds of a header are loaded, in increasing tile order. -/
def loadSeeds (s : State) (h : List Byte) (ts : List Nat) : State :=
  ts.zipIdx.foldl (fun s e => onTile s e.1 (fun x => { x with seed := BitVec.ofNat 64 (leAt h (152 + 8 * e.2) 8) })) s

/-- The answer to CKP_RESTORE once no plot of the request is RESTORING any more: OK, or REFUSED with the code of a plot whose restore failed. -/
def answerRestore (s : State) (owed : Nat × Nat × Nat) : State :=
  let ps := allPlots.filter (fun p => (ckpOf s p).owed == some owed)
  if ps.any (fun p => ckpState s p == ckRestoring) then s
  else
    let s1 := forAll (fun s p => onCkp s p (fun k => { k with owed := none })) s ps
    match ps.find? (fun p => ckpState s p == ckFailed) with
    | some p => answer s1 owed.1 (BitVec.ofNat 32 owed.2.1) owed.2.2 0x92 stRefused (rdFld s (.ckpPstat p) 23 16) []
    | none => answer s1 owed.1 (BitVec.ofNat 32 owed.2.1) owed.2.2 0x92 stOk 0 []

/-- A restore of plot p ends FAILED with INCOMPLETE (R434). -/
def restoreFailed (s : State) (p code : Nat) : State := setCkp (wrBit s (.ckpPstat p) 26 true) p ckFailed code

/-- RESTORE_COMPLETE (R387, R434): `reads` is how many records could be read before a read failed, none where all could.  Page writes of a passed generation are
discarded and counted. -/
def execRestoreComplete (p : Fin 12) (reads : Option Nat) (s : State) : Host.Outcome State Fault Refusal :=
  let k := ckpOf s p
  .next (if ckpState s p ≠ ckRestoring then s
    else
      let s0 := onCkp s p (fun k => { k with chain := [] })
      let s1 :=
        if rdFld s (.pltGen p) 15 0 ≠ k.gen then
          restoreFailed (wrFld s0 (.pltPstat p) 15 8 (satNat (rdFld s (.pltPstat p) 15 8 + sumNat (k.chain.map (fun x => sheafPages x.header))) 255)) p 4
        else match mapFind s.sec.slots k.slot with
          | none => restoreFailed s0 p 6
          | some key =>
            let q := restoreChain key.key p k.chain reads s0 []
            if q.2.2 ≠ 0 then restoreFailed q.1 p q.2.2
            else
              let tip := chainTip k.chain
              let s2 := loadSeeds q.1 tip.header (tilesOf s p)
              let s3 := { s2 with dirtyD := s2.dirtyD.filter (fun g => !plotPage s p g), dirtyC := q.2.1 ++ s2.dirtyC.filter (fun g => !plotPage s p g) }
              let s4 := onPlot (onCkp s3 p (fun k => { k with base := BitVec.ofNat 64 (leAt tip.header 32 8), complete := true, step := k.target })) p
                (fun q => { q with onlyStep := some (k.target + 1) })
              setCkp (wrBit s4 (.ckpPstat p) 26 false) p ckIdle 0
      match k.owed with
      | some o => answerRestore s1 o
      | none => s1)

end Sys2Proof.Machine
end

