-- ==== Sys2Proof/Machine/Events.lean ====
section
/-! DEFINITION. The event recorder (R437 to R442), and reads that latch the high word of a 64-bit value. -/
set_option Elab.async false
namespace Sys2Proof.Machine

/-- The record that reports a source's dropped events (R438). -/
def dropRecord (s : State) (island n : Nat) : Event :=
  { code := 0x0E01, plot := moduleEvent, sev := 1, dropped := true, island := island, tick := s.tick, object := island,
    value := BitVec.ofNat 32 n, extra := 0 }

/-- After an entry of a source's queue has freed, a record of its drops takes it (R438). -/
def placeDropRecord (s : State) (i : Nat) : State :=
  let q := eventQueue s i
  if q.dropped = 0 then s
  else { s with evr := { s.evr with queues := mapInsert s.evr.queues i { events := q.events ++ [dropRecord s i q.dropped], dropped := 0 },
                                    order := s.evr.order ++ [i] } }

/-- EVENT_RECORD_WRITE (R437, R438, R442): the next event takes the next SEQ and the ring slot SEQ mod 4,096, and its readers are notified. -/
def execEventRecordWrite (s : State) : Host.Outcome State Fault Refusal :=
  .next (match s.evr.order with
    | [] => s
    | i :: rest => match (eventQueue s i).events with
      | [] => { s with evr := { s.evr with order := rest } }
      | ev :: more =>
        let q := eventQueue s i
        let s1 := { s with evr := { s.evr with
          ring := mapInsert s.evr.ring (s.evr.next % 4096) (s.evr.next, ev), next := s.evr.next + 1,
          queues := mapInsert s.evr.queues i { q with events := more }, order := rest } }
        placeDropRecord (readers.foldl (notifyReader ev) s1) i)

/-- The 32 bytes of a record (Table EVR-1). -/
def recordBytes (seq : Nat) (e : Event) : List Byte :=
  leBytes 6 seq ++ leBytes 2 e.code ++ leBytes 1 e.plot ++ leBytes 1 (e.sev + if e.dropped then 128 else 0) ++ leBytes 1 e.island ++ leBytes 1 0
    ++ leBytes 4 e.tick ++ leBytes 4 e.object ++ leBytes 4 e.value.toNat ++ leBytes 8 e.extra.toNat

/-- Word k of window slot i of a reader (R440, R441): a record masked from the reader shows SEQ and CODE 0xFFFF only; an unwritten slot reads 0. -/
def windowWord (s : State) (reader i k : Nat) : Word :=
  match mapFind s.evr.ring ((mapGet 0 s.evr.cursors reader + i) % 4096) with
  | none => 0
  | some (seq, e) =>
    let bs := if readerSees reader e.plot then recordBytes seq e else leBytes 6 seq ++ leBytes 2 0xFFFF ++ List.replicate 24 0
    BitVec.ofNat 32 (leNat ((bs.drop (4 * k)).take 4))

/-- EVR_CURSOR_WRITE (R440, R446): a write of EVR_CUR_LO moves the window to CUR, with the EVR_CUR_HI held. -/
def execEvrCursorWrite (reader : Fin 14) (lo : Word) (s : State) : Host.Outcome State Fault Refusal :=
  let s1 := wr s (.evrCurLo reader) lo
  .next { s1 with evr := { s1.evr with cursors := mapInsert s1.evr.cursors reader (rdFld s1 (.evrCurHi reader) 15 0 * 2 ^ 32 + lo.toNat) } }

/-- The answer to a register read; none of these registers reads while the SL-1 is stopped in S1 (R403). -/
def readOut (s : State) (w : Word) : State := emit s (.completion 0 (leBytes 4 (if stoppedInS1 s then 0 else w).toNat))

/-- EVR_HEAD_LO_READ (R446): SEQ[31:0] of the next record is read; SEQ[47:32] latches into the reader's EVR_HEAD_HI. -/
def execEvrHeadLoRead (reader : Fin 14) (s : State) : Host.Outcome State Fault Refusal :=
  .next (readOut (wr s (.evrHeadHi reader) (BitVec.ofNat 32 (s.evr.next / 2 ^ 32 % 0x10000))) (BitVec.ofNat 32 s.evr.next))

/-- ARR_CONV_LO_READ (R57): the high word of the count latches into ARR_CONV_HI. -/
def execArrConvLoRead (t : Fin 128) (s : State) : Host.Outcome State Fault Refusal :=
  .next (readOut (wr s (.arrConvHi t) (hi32 (tile s t).conv)) (lo32 (tile s t).conv))
/-- TIL_SEED_LO_READ (R87). -/
def execTilSeedLoRead (t : Fin 128) (s : State) : Host.Outcome State Fault Refusal :=
  .next (readOut (wr s (.tilSeedHi t) (hi32 (tile s t).seed)) (lo32 (tile s t).seed))
/-- SCH_PSTEP_LO_READ (R149). -/
def execSchPstepLoRead (p : Fin 12) (s : State) : Host.Outcome State Fault Refusal :=
  .next (readOut (wr s (.schPstepHi p) (hi32 (plot s p).step)) (lo32 (plot s p).step))
/-- CKP_STEPLO_READ (R436): the step of the plot's last cut. -/
def execCkpSteploRead (p : Fin 12) (s : State) : Host.Outcome State Fault Refusal :=
  let k : CkpState := mapGet {} s.ckp p
  .next (readOut (wr s (.ckpStephi p) (hi32 k.step)) (lo32 k.step))

end Sys2Proof.Machine
end

