-- ==== Sys2Proof/Machine/Mem.lean ====
section
/-! DEFINITION. Scratchpad accesses of fabric and firmware masters, region registers, and LPDDR5X requests, regions and patrol (R181 to R203). -/
set_option Elab.async false
namespace Sys2Proof.Machine

/-- Bank and byte within the bank of a scratchpad byte address (R179). -/
def spBank (a : Nat) : Nat := a / 0x100000 % 4
def spByte (a : Nat) : Nat := a % 0x100000

/-- An unscheduled access of two lines has begun in the tile's present cycle: its second cycle takes port A of the bank in the next, where a running sequencer may need it (R183).
A stalled sequencer's port is free. -/
def secondCycle (s : State) (t b : Nat) : State :=
  if tileRun s t = tRunning ∧ (tile s t).held.isEmpty = true then
    onTile s t (fun x => { x with bankSecond := ((rd s (.schCycle t)).toNat + 1, b) :: x.bankSecond.filter (· ≠ ((rd s (.schCycle t)).toNat + 1, b)) })
  else s

/-- SCRATCHPAD_DM_ACCESS (R182, R183, R187, R188): 1 to 64 bytes on port A; a refusal performs nothing and completes with a region error.  An access
that spans two lines leaves port A in its second cycle. -/
def execScratchpadDmAccess (t : Fin 128) (addr : BitVec 22) (len : Fin 65) (wdata : Option (List Byte)) (ecc : Ecc) (s : State) :
    Host.Outcome State Fault Refusal :=
  let b := spBank addr.toNat
  let a := spByte addr.toNat
  let n := match wdata with | some bs => bs.length | none => len.val
  if n = 0 ∨ 64 < n ∨ 0x100000 < a + n then .fault .illFormed
  else if !rgnGrants s t 3 b (lineOf a) (lineOf (a + n - 1)) wdata.isSome then
    .next (emit (spRecord s t b (lineOf a) 3) (.memory 1 []))
  else
    let s1 := spEcc s t b (lineOf a) 3 ecc
    let s2 := if lineOf a = lineOf (a + n - 1) then s1 else secondCycle s1 t b
    .next (match wdata with
      | some bs => emit (wrBytes s2 (scratchAddr t (b * 0x100000 + a)) bs) (.memory 0 [])
      | none => emit s2 (.memory 0 (rdBytes s2 (scratchAddr t (b * 0x100000 + a)) n)))

/-- APERTURE_ACCESS (R190, R205): management and security firmware at any time, the PF under scope APERTURE; others read 0 and write nothing. -/
def execApertureAccess (m : Master) (t : Fin 128) (off : BitVec 12) (eight : Bool) (wdata : Option DWord) (ecc : Ecc) (s : State) :
    Host.Outcome State Fault Refusal :=
  let n := if eight then 8 else 4
  let allowed := match m with
    | .pf => debugScope s 1
    | .core c => decide (22 ≤ c.val) || (decide (2 ≤ c.val) && decide (c.val ≤ 5))
    | .vf _ => false
  let out := fun (s : State) (v : Nat) => if wdata.isNone then emit s (.completion 0 (leBytes n v)) else s
  if off.toNat % n ≠ 0 then .next (if wdata.isNone then emit (count s .hifUrcnt 1) (.completion 1 []) else count s .hifUrcnt 1)
  else if !allowed then .next (out s 0)
  else
    let page := rdFld s (.tilSpapbase t) 9 0
    let b := page / 256
    let a := page % 256 * 0x1000 + off.toNat
    .next (if !rgnGrants s t 4 b (lineOf a) (lineOf a) wdata.isSome then
        let s1 := wrBit (spRecord s t b (lineOf a) 4) (.tilSperr t) 1 true
        out (recordEvent s1 0x0603 (plotField s1 t) 2 (islTile t) t (BitVec.ofNat 32 (masterNo m)) 0) (2 ^ (8 * n) - 1)
      else
        let s1 := spEcc s t b (lineOf a) 4 ecc
        match wdata with
        | some v => wrBytes s1 (scratchAddr t (b * 0x100000 + a)) (leBytes n v.toNat)
        | none => out s1 (rdLe s1 (scratchAddr t (b * 0x100000 + a)) n))

/-- APERTURE_TIMEOUT (R185): the access completes without access; a read returns ones. -/
def execApertureTimeout (t : Fin 128) (read : Bool) (s : State) : Host.Outcome State Fault Refusal :=
  let s1 := wrBit s (.tilSperr t) 0 true
  .next (if read then emit s1 (.completion 0 (leBytes 4 0xFFFFFFFF)) else s1)

/-- REGION_REGISTER_WRITE (R189, R6): from a permitted master, at once or at the next step boundary of a serving plot. -/
def execRegionRegisterWrite (m : Master) (t : Fin 128) (master : Fin 5) (r : Fin 16) (v : Word) (s : State) : Host.Outcome State Fault Refusal :=
  .next (if !mayProgramRegions s m then regionWriteRefused s m t
    else match plotOf s t with
      | some p => if plotRun s p = pServing then onTile s t (fun x => { x with rgnDue := mapInsert x.rgnDue (16 * master.val + r.val) v })
        else now
      | none => now)
where
  /-- The write takes effect at once, and an older one that still waits goes. -/
  now : State := wr (onTile s t (fun x => { x with rgnDue := mapErase x.rgnDue (16 * master.val + r.val) })) (.tilRgn t master r) v

/-- LPX_REQUEST (R193, R196, R199, R200, R430): checked against region and owner, then performed; a refusal completes with a region error, an
uncorrectable error outside plot regions with a memory error.  A write of whole lines reads nothing first (R193).  A write to a page still in P waits for its copy. -/
def execLpxRequest (q : Requester) (addr len : Nat) (wdata : Option (List Byte)) (ecc : Ecc) (s : State) : Host.Outcome State Fault Refusal :=
  let n := match wdata with | some bs => bs.length | none => len
  .next (match lpxPermits s q addr n with
    | none => emit (lpxRefused s q addr) (.memory 1 [])
    | some r =>
      let e := if wdata.isSome && !readsFirst addr n then Ecc.clean else ecc
      let s1 := lpxEcc s addr e
      if e = .uncorrectable ∧ 12 ≤ r then emit s1 (.memory 2 [])
      else match wdata with
        | none => emit s1 (.memory 0 (rdBytes s1 addr n))
        | some bs =>
          match q with
          | .loader _ _ => emit (wrBytesQuiet (clearBad s1 addr n) addr bs) (.memory 0 [])
          | _ =>
            if r < 12 ∧ (pagesOf addr n).any (cowHeld s1 r) then { s1 with ram := { s1.ram with held := s1.ram.held ++ [(r, (addr, bs))] } }
            else emit (wrBytes (clearBad s1 addr n) addr bs) (.memory 0 []))

/-- Two extents of 16 MiB units overlap. -/
def overlaps (b1 n1 b2 n2 : Nat) : Bool := decide (b1 < b2 + n2) && decide (b2 < b1 + n1)

/-- A region's pages leave the cumulative and delta sets when it is enabled (R423). -/
def forgetDirty (s : State) (base size : Nat) : State :=
  let keep := fun (g : Nat) => decide (g * 0x10000 < base) || decide (base + size ≤ g * 0x10000)
  { s with dirtyC := s.dirtyC.filter keep, dirtyD := s.dirtyD.filter keep }

/-- REGION_ENABLE (R194, R195): a fresh key, so that contents read unpredictable until written; refused on overlap (EXTRA 1) or size (EXTRA 2).  Firmware sets
the owner of a firmware region as it enables it (R242); which component is free. -/
def execRegionEnable (m : Master) (n : Fin 32) (s : State) : Host.Outcome State Fault Refusal :=
  let b := rdFld s (.lpxRgnbase n) 13 0
  let z := rdFld s (.lpxRgnsize n) 13 0
  let refuse := fun (x : Nat) =>
    recordEvent (wrFld s (.lpxRgnctl n) 31 30 0) 0x0603 moduleEvent 2 islFabric n (BitVec.ofNat 32 (masterNo m)) x
  .next (if !mayProgramRegions s m then regionWriteRefused s m n
    else if bit (rd s (.lpxRgnctl n)) 31 then s
    else if z = 0 ∨ 14336 < b + z then refuse 2
    else if (List.range 32).any (fun k => bit (rd s (.lpxRgnctl k)) 31 && overlaps b z (rdFld s (.lpxRgnbase k) 13 0) (rdFld s (.lpxRgnsize k) 13 0)) then
      refuse 1
    else
      let s1 := newKey (wrBit s (.lpxRgnctl n) 31 true) n
      let s2 := if n.val < 16 then s1 else { s1 with ram := { s1.ram with owner := mapInsert s1.ram.owner n (1 + Config.regionOwner s.fresh n % 4) } }
      forgetDirty s2 (b * 0x1000000) (z * 0x1000000))

/-- REGION_DISABLE (R195): the key slot is erased. -/
def execRegionDisable (m : Master) (n : Fin 32) (s : State) : Host.Outcome State Fault Refusal :=
  .next (if mayProgramRegions s m then closeRegion s n else regionWriteRefused s m n)

/-- PATROL_READ (R199, R202, R203): a line of the sweep; disabled at HOURS 0, skipping regions being harrowed. -/
def execPatrolRead (line : Nat) (ecc : Ecc) (s : State) : Host.Outcome State Fault Refusal :=
  let harrowed := match regionOf s (line * 64) with | some r => decide (r < 12) && pltState s r == pltScrubbing | none => false
  .next (if rdFld s .lpxPatrol 7 0 = 0 ∨ 0x3800000000 ≤ line * 64 ∨ harrowed = true then s else lpxEcc s (line * 64) ecc)

/-- DQS_TRACKING (R192, R203): trims no register or memory; due during a rate change, it waits for its end. -/
def execDqsTracking (c : Fin 16) (s : State) : Host.Outcome State Fault Refusal :=
  .next (if s.power.changing.isSome then { s with ram := { s.ram with trackDue := addPage s.ram.trackDue c } } else s)

end Sys2Proof.Machine
end

