-- ==== Sys2Proof/Machine/Plots.lean ====
section
/-! DEFINITION. Plots as commands: load, commit, start, abort, harrow, definitions, alternates and the LPDDR5X rate (R109 to R118, R164, R383 to R397). -/
set_option Elab.async false
namespace Sys2Proof.Machine

/-- Who asked by a message. -/
def whoAsked (m : Msg) (type : Nat) : Nat × Nat × Nat × Nat := (m.owner.val, m.seq.toNat, m.version, type)

/-- PLT_LOAD (R386, R408): from IDLE or READY to LOADING. -/
def execPltLoad (m : Msg) (s : State) : Host.Outcome State Fault Refusal :=
  let p := msgPlot m
  .next (serve s m { type := 0x70, vf := true, needsPlot := true, stage := 5 } (fun s =>
    if pltState s p = pltIdle ∨ pltState s p = pltReady then
      respond (riseForNeed (onPlot (setPlt s p pltLoading) p (fun q => { q with used := true }))) m 0x70 stOk 0 []
    else respond s m 0x70 stRefused 0 []))

/-- The bytes of an image at an offset of a region, as many as its header gives and the region holds (R117): from the plot's own region or a host region as the loader
reads them, from a firmware region as management firmware does; a VF names its plot's region only. -/
def imageBytes (s : State) (m : Msg) (p region off : Nat) : Option (List Byte) :=
  let q : Requester := if region < 16 then .loader (Fin.ofNat 12 p) (some (Fin.ofNat 32 region)) else .component 3 none
  let a := regionBase s region + off
  if 1 ≤ m.owner.val ∧ m.owner.val ≤ 12 ∧ region ≠ p then none
  else match lpxRead s q a 256 with
    | none => none
    | some h => lpxRead s q a (max 256 (min (leAt h 16 4) (regionSize s region - off)))

/-- The image refused (R117): its code in SCH_PSTAT.LOADCODE, an event, and the answer. -/
def refuseImage (s : State) (m : Msg) (p code : Nat) : State :=
  let s1 := wrFld s (.schPstat p) 15 8 code
  respond (recordEvent s1 0x0501 p 1 islMgmt p (rd s1 (.schPstat p)) 0) m 0x71 stRefused code []

/-- PLT_COMMIT (R113 to R118, R408): only of a LOADING plot; the image is checked, and is refused with its code or committed. -/
def execPltCommit (m : Msg) (region : Fin 32) (off : Nat) (s : State) : Host.Outcome State Fault Refusal :=
  let p := msgPlot m
  .next (serve s m { type := 0x71, vf := true, needsPlot := true, stage := 5 } (fun s =>
    if pltState s p ≠ pltLoading then respond s m 0x71 stRefused 0 []
    else match imageBytes s m p region.val off with
      | none => respond s m 0x71 stRefused 0 []
      | some bs =>
        if loadCode s p bs ≠ 0 then refuseImage s m p (loadCode s p bs)
        else
          let im := readImage bs
          let s1 := commitImage s p im (im.alts.map (fun e => readImage (altBytes bs e)))
          respond (setPlt (onPlot s1 p (fun q => { q with altOf := none, started := false })) p pltReady) m 0x71 stOk 0 []))

/-- PLT_START (R118, R164, R166, R395, R408, R434): a READY plot goes to admission at once or, with the low rates or a change of rate in force, once the full ones are.  R176's admission interval
has no length in the spec: each start that waits for no rate is admitted as its command is taken, those that wait in increasing plot order (DESIGN CHOICE, log entry 122). -/
def execPltStart (m : Msg) (step : DWord) (s : State) : Host.Outcome State Fault Refusal :=
  let p := msgPlot m
  .next (serve s m { type := 0x72, vf := true, needsPlot := true, stage := 6 } (fun s =>
    let v := pltState s p
    if v = pltAborting ∨ v = pltScrubbing ∨ bit (rd s (.pltPstat p)) 26 = true ∨ (plot s p).startDue.isSome = true then respond s m 0x72 stBusy 0 []
    else if v ≠ pltReady ∨ bit (rd s (.ckpPstat p)) 26 = true ∨ (match (plot s p).onlyStep with | some n => n != step | none => false) = true then respond s m 0x72 stRefused 0 []
    else
      let s1 := irqCores s headlandCores 18
      if s.power.changing.isSome ∨ bit (rd s .lpxStatus) 0 = false then
        onPlot s1 p (fun q => { q with startDue := some (m.owner.val, m.seq.toNat, m.version, step) })
      else admitStart s1 p m.owner m.seq.toNat m.version step))

/-- PLT_ABORT (R389, R390, R395): the answer is owed until the abort ends. -/
def execPltAbort (m : Msg) (s : State) : Host.Outcome State Fault Refusal :=
  .next (serve s m { type := 0x73, vf := true, needsPlot := true } (fun s => requestAbort s (msgPlot m) (whoAsked m 0x73) false))

/-- PLT_HARROW (R392, R395). -/
def execPltHarrow (m : Msg) (s : State) : Host.Outcome State Fault Refusal :=
  .next (serve s m { type := 0x74, vf := false, needsPlot := true } (fun s => requestAbort s (msgPlot m) (whoAsked m 0x74) true))

/-- ABORT_BLOCKS_IDLE (R389, Table PLT-3): every block has reported idle. -/
def execAbortBlocksIdle (p : Fin 12) (s : State) : Host.Outcome State Fault Refusal :=
  .next (if (plot s p).abort = .idle ∧ (busyBlocks s p).isEmpty = true then finishAbort s p else s)

/-- ABORT_IDLE_TIMEOUT (R389 step 2): the plot's share of each block still busy is reset, and its FORCED bit set. -/
def execAbortIdleTimeout (p : Fin 12) (s : State) : Host.Outcome State Fault Refusal :=
  .next (if (plot s p).abort = .idle then
      let bs := busyBlocks s p
      let s1 := forAll (fun s i => wrBit (forceBlock p s i) (.pltPstat p) (16 + i) true) s bs
      finishAbort s1 p
    else s)

/-- ABORT_RATE_WAIT_END (R390). -/
def execAbortRateWaitEnd (p : Fin 12) (s : State) : Host.Outcome State Fault Refusal :=
  let due := match (plot s p).lastAbort with | some k => decide (k + 100 ≤ s.tick) | none => true
  .next (if (plot s p).abort = .rate ∧ due = true then startAbort s p else s)

/-- HARROW_COMPLETE (R55, R392, R393): the last action ends, every group having been awake for its writes; while keys are erased for an alarm the fresh region key waits for recovery (R395). -/
def execHarrowComplete (p : Fin 12) (s : State) : Host.Outcome State Fault Refusal :=
  .next (if pltState s p = pltScrubbing ∧ s.sec.erasing = false ∧ harrowReady s p = true then finishHarrow s p else s)

/-- FILL_COMPLETE (R391): plaintext zeros stand over the whole region; FILLING and OVF clear. -/
def execFillComplete (p : Fin 12) (s : State) : Host.Outcome State Fault Refusal :=
  .next (if bit (rd s (.pltPstat p)) 26 = false then s
    else
      let s1 := if regionOpen s p then wrBytes s (regionBase s p) (List.replicate (regionSize s p) 0) else s
      let lo := regionBase s p
      let hi := regionBase s p + regionSize s p
      let s2 := { s1 with ram := { s1.ram with bad := s1.ram.bad.filter (fun l => decide (l * 64 < lo) || decide (hi ≤ l * 64)) } }
      let s3 := forAll (fun s k => if bit (rd s (.lpxUlog k)) 31 && rdFld s (.lpxUlog k) 30 26 == p.val then wr s (.lpxUlog k) 0 else s) s2 (List.range 64)
      wrBit (wrBit (onPlot s3 p (fun q => { q with abort := if q.abort = .fill then .none else q.abort })) (.pltPstat p) 26 false) .lpxFreeze (16 + p) false)

/-- QUARANTINE_RELEASE (R388): the request of a quarantined slot has resolved; what it brought is discarded. -/
def execQuarantineRelease (slot : Nat) (s : State) : Host.Outcome State Fault Refusal :=
  .next (onRma s (fun r => { r with quarantine := r.quarantine.filter (· ≠ slot) }))

/-- The definition uses only resources that belong to no plot (R385). -/
def unclaimed (s : State) (d : PlotDef) : Bool :=
  allTiles.all (fun t => !(d.tiles.toNat.testBit t && (plotOf s t).isSome))
    && allPlots.all (fun q => pltState s q == pltUndefined
      || (rangesApart (d.base, d.size) (rdFld s (.lpxRgnbase q) 13 0, rdFld s (.lpxRgnsize q) 13 0)
        && rangesApart d.entries (rdFld s (.prsPart q) 11 0, rdFld s (.prsPart q) 28 16) && rangesApart d.meters (rdFld s (.prsMpart q) 11 0, rdFld s (.prsMpart q) 28 16)))
    && (defQueues d).all (fun k => decide (12 ≤ queueOwner s k)) && d.channels.all (fun n => decide (12 ≤ channelOwner s n))

/-- PLT_DEFINE (R385): in class Open, of the PF, an UNDEFINED plot. -/
def execPltDefine (m : Msg) (d : PlotDef) (s : State) : Host.Outcome State Fault Refusal :=
  let p := msgPlot m
  .next (serve s m { type := 0x75, vf := false, needsPlot := true } (fun s =>
    if m.owner.val ≠ 0 then respond s m 0x75 stNotPermitted 0 []
    else if s.sec.layoutClass ≠ 4 ∨ pltState s p ≠ pltUndefined ∨ defOk 4 p d = false ∨ unclaimed s d = false then respond s m 0x75 stRefused 0 []
    else respond (definePlot s p d) m 0x75 stOk 0 []))

/-- PLT_UNDEFINE (R385): in class Open, of the PF, an IDLE plot that has been harrowed since it was last used. -/
def execPltUndefine (m : Msg) (s : State) : Host.Outcome State Fault Refusal :=
  let p := msgPlot m
  .next (serve s m { type := 0x76, vf := false, needsPlot := true } (fun s =>
    if m.owner.val ≠ 0 then respond s m 0x76 stNotPermitted 0 []
    else if s.sec.layoutClass ≠ 4 ∨ pltState s p ≠ pltIdle ∨ (plot s p).used = true ∨ (plot s p).abort ≠ .none then respond s m 0x76 stRefused 0 []
    else respond (undefinePlot s p) m 0x76 stOk 0 []))

/-- The bytes of PLT_QUERY's response: state, generation, resources (log entry 30). -/
def pltQueryBytes (s : State) (p : Nat) : List Byte :=
  leBytes 4 (rd s (.pltPstat p)).toNat ++ leBytes 4 (rd s (.pltGen p)).toNat ++ (List.range 4).flatMap (fun k => leBytes 4 (rd s (.pltTiles p k)).toNat)
    ++ leBytes 4 (rd s (.lpxRgnbase p)).toNat ++ leBytes 4 (rd s (.lpxRgnsize p)).toNat ++ leBytes 4 (rd s (.prsPart p)).toNat ++ leBytes 4 (rd s (.prsMpart p)).toNat
    ++ leBytes 8 (sumNat ((plotChannels s p).map (fun n => 2 ^ n)))

/-- PLT_QUERY (R396). -/
def execPltQuery (m : Msg) (s : State) : Host.Outcome State Fault Refusal :=
  .next (serve s m { type := 0x77, vf := true, needsPlot := true } (fun s => respond s m 0x77 stOk 0 (pltQueryBytes s (msgPlot m))))

/-! ### Alternates (R110, R111) -/

/-- An alternate of plot p that assumes tile t lost, where the plot runs none already, no group it uses is LOST, the model key is held and the husk can be reached. -/
def usableAlternate (s : State) (p t : Nat) : Option Image :=
  if bit (rd s (.schPstat p)) 16 ∨ (modelKey? s p).isNone ∨ !huskAvailable s p then none
  else ((plot s p).alts.find? (fun a => a.altTile == t)).bind (fun a =>
    if a.arrtab.any (fun e => calState s e.tile (e.larray / 16) == calLost) then none else some a)

/-- The event of an alternate's hold or restart. -/
def alternateEvent (s : State) (p t : Nat) : State :=
  let g := ((List.range 32).find? (fun g => calState s t g == calLost)).getD 0
  recordEvent s 0x0402 p 2 islMgmt t (rd s (.arrGrp t g)) g

/-- Every array that an alternate assigns has been written: its physical slot is VALID, or, of a spare that is still to take a slot's place, slot 16 is. -/
def alternateWritten (s : State) (a : Image) : Bool :=
  a.arrtab.all (fun e => bit (rd s (.arrValid e.tile (e.larray / 16))) (loadSlot s e.tile (e.larray / 16) (e.larray % 16)))

/-- The alternate is committed and the plot goes on under it at its next step marker, steps numbered on, the degraded tile fallow; a follower waits HELD for START (R110, R166). -/
def restartAlternate (s : State) (p t : Nat) (a : Image) : State :=
  if !admits s p a then onPlot (setPlt (admitRefused s p a) p pltHeld) p (fun q => { q with altOf := none, reload := true })
  else
    let s1 := wrBit (commitImage s p a (plot s p).alts) (.schPctrl p) 0 false
    let s2 := onPlot s1 p (fun q => { q with altOf := none, holdDue := false, startSent := false })
    let s3 := if inJob s2 p && !isLeader s2 p then setPlt s2 p pltHeld else onPlot (setPlt s2 p pltServing) p (fun q => { q with stopped := false })
    alternateEvent (forAll (fun s g => fallowReq s t g true) s3 (List.range 32)) p t

/-- TILE_DEGRADED_HOLD (R110, R111): management firmware attends to a DEGRADED tile.  It holds a serving plot; a held one goes LOADING for a usable alternate, else awaits
a reload; once the loader has written the alternate's arrays, the alternate is committed and the plot goes on. -/
def execTileDegradedHold (t : Fin 128) (s : State) : Host.Outcome State Fault Refusal :=
  match plotOf s t with
  | none => .next s
  | some p =>
    .next (if !bit (rd s (.arrStatus t)) 31 then s
      else if pltState s p = pltServing then alternateEvent (holdJob s p) p t
      else if pltState s p = pltHeld ∧ frozen s p = false ∧ (plot s p).altOf.isNone = true then
        match usableAlternate s p t with
        | some _ => onPlot (setPlt s p pltLoading) p (fun q => { q with altOf := some t })
        | none => onPlot s p (fun q => { q with reload := true })
      else if pltState s p = pltLoading ∧ (plot s p).altOf = some t.val then
        match usableAlternate s p t with
        | some a => if alternateWritten s a then restartAlternate s p t a else s
        | none => onPlot (setPlt s p pltHeld) p (fun q => { q with altOf := none, reload := true })
      else s)

/-! ### LPDDR5X rate (R164, R203) -/

/-- LPX_RATE_CHANGE (R164, R203): the power core begins a change (`done` false), a lowering only while nothing needs the full rate; at its end the rates of the LPDDR5X and
fabric islands are in force (a lowering that a need has turned back ends as a rise), BAR2
accesses that waited are performed, training tracking that waited runs, and after a rise the starts that waited go to admission. -/
def execLpxRateChange (toFull done : Bool) (s : State) : Host.Outcome State Fault Refusal :=
  .next (if !done then
      (if s.power.changing.isSome ∨ bit (rd s .lpxStatus) 0 = toFull ∨ (toFull = false ∧ fullRateNeeded s = true) then s
       else { s with power := { s.power with changing := some toFull } })
    else if s.power.changing ≠ some toFull then s
    else
      let s1 := wrBit { s with power := { s.power with changing := none, fabricSlow := !toFull }, ram := { s.ram with trackDue := [] } } .lpxStatus 0 toFull
      let s2 := bar2Drain s1
      if toFull then forAll startWaiting s2 allPlots else s2)

end Sys2Proof.Machine
end

