-- ==== Sys2Proof/Machine/RegIO.lean ====
section
/-! DEFINITION. Where a register access lands, and what a read gives: PF BAR0, the VF views, the cores' reach of them, and the views that registers give of state
held elsewhere (R11, R205 to R207, R256, R334, R394, R441). -/
set_option Elab.async false
namespace Sys2Proof.Machine

/-! ### Reach of the cores (Table FWM-18) -/

/-- A PF BAR0 range of Table FWM-18 with the reach of the four roles: 0 none, 1 read, 2 read and write. -/
def reachRows : List (Nat × Nat × List Nat) :=
  [(0x0, 0xFFFFF, [1, 2, 0, 1]), (0x100000, 0x102FFF, [2, 1, 0, 1]), (0x200000, 0x2FFFFF, [1, 1, 0, 2]),
   (0x300000, 0x3FFFFF, [2, 2, 1, 1]), (0x400000, 0x4FFFFF, [2, 1, 1, 2]), (0x500000, 0x5FFFFF, [0, 2, 1, 2]),
   (0x600000, 0x7FFFFF, [0, 2, 2, 1]), (0x800000, 0xBFFFFF, [0, 2, 2, 2]), (0xC00000, 0xFFFFFF, [0, 1, 1, 2]),
   (0x1000000, 0x1FFFFFF, [1, 2, 1, 1]), (0x2000000, 0x27FFFFF, [1, 2, 0, 2]), (0x3000000, 0x3FFFFFF, [0, 2, 0, 1])]

/-- Column of a core's role in Table FWM-18. -/
def roleOf (c : Nat) : Nat := if c < 2 then 0 else if c < 6 then 1 else if c < 22 then 2 else 3

/-- A core's reach of a PF BAR0 offset.  Management cores write RST_GATE, RST_CMD and, where R6 permits, region descriptors. -/
def reach (s : State) (c off : Nat) : Nat :=
  match reachRows.find? (fun r => decide (r.1 ≤ off) && decide (off ≤ r.2.1)) with
  | none => 0
  | some r =>
    if roleOf c = 1 ∧ (off = 0x100004 ∨ off = 0x10000C) then 2
    else if roleOf c = 1 ∧ 0xC00200 ≤ off ∧ off < 0xC00400 then (if s.sec.layoutClass = 0 ∨ s.sec.layoutClass = 4 then 2 else 1)
    else r.2.2.getD (roleOf c) 0

/-! ### Places -/

/-- What lies at an offset of a BAR. -/
inductive RegPlace where
  | reg (r : Reg)
  /-- Word k of entry i of function f's MSI-X table (Table HIF-3). -/
  | msix (f i k : Nat)
  /-- Word k of function f's MSI-X pending bits. -/
  | pba (f k : Nat)
  /-- Word k of window slot i of a recorder's reader. -/
  | win (e i k : Nat)
  /-- A mailbox ring of an owner, to firmware or from it, at an offset (R243). -/
  | ring (o : Nat) (ff : Bool) (off : Nat)
  /-- The aperture of a tile at an offset (R190). -/
  | aperture (t off : Nat)
  /-- A reserved offset. -/
  | none
  deriving DecidableEq, Repr

/-- Reader of the recorder that a master is. -/
def readerOf (m : Master) : Nat := match m with | .pf => 0 | .vf p => p.val + 1 | .core _ => 13

/-- A register, or a reserved offset. -/
def placeReg (r : Option Reg) : RegPlace := match r with | some r => .reg r | none => .none

/-- The recorder's block by offset from its base: EVR_HEAD_LO, the reader's own registers and window. -/
def evrPlace (e o : Nat) : RegPlace :=
  if o = 0 then .reg .evrHeadLo
  else if 0x100 ≤ o ∧ o < 0x200 then .win e ((o - 0x100) / 32) ((o - 0x100) % 32 / 4)
  else placeReg (findReg (evrRows e) o)

/-- MSI-X table and pending bits of function f, of n vectors. -/
def msixPlace (f n o : Nat) : RegPlace :=
  if 0x4000 ≤ o ∧ o < 0x4000 + 16 * n then .msix f ((o - 0x4000) / 16) ((o - 0x4000) % 16 / 4)
  else if 0x5000 ≤ o ∧ o < 0x5000 + n / 8 then .pba f ((o - 0x5000) / 4)
  else .none

/-- The mailbox rings of an owner, the to-firmware ring first (Table FWM-3). -/
def ringPlace (o off : Nat) : RegPlace :=
  let n := ringSlots o * ringSlot
  if off < n then .ring o false off else if off < 2 * n then .ring o true (off - n) else .none

/-- The TMS registers of the queue that TMS_QSEL selects (R288). -/
def tmsPlace (s : State) (o : Nat) : Option Reg :=
  let k := selQueue s
  if o = 4 then some (.tmsQcfg k) else if o = 8 then some (.tmsQshape k) else if o = 0xC then some (.tmsQstat k)
  else if o = 0x10 then some (.tmsQavg k) else if o = 0x14 then some (.tmsQdrop k) else none

/-- What lies at a PF BAR0 offset, as reader e of the recorder sees it (Tables MEM-9, HIF-3). -/
def pfPlace (s : State) (e off : Nat) : RegPlace :=
  if off < 0x1000 then placeReg ((findReg pfRows off).or (findReg (hifRows 0) off))
  else if off < 0x1100 then placeReg (findReg (mbxRows 0) (off - 0x1000))
  else if off < 0x6000 then msixPlace 0 256 off
  else if 0x10000 ≤ off ∧ off < 0x20000 then ringPlace 0 (off - 0x10000)
  else if 0x300000 ≤ off ∧ off < 0x301000 ∧ off ≠ 0x300014 then evrPlace e (off - 0x300000)
  else if 0xA00004 ≤ off ∧ off < 0xA00018 then placeReg (tmsPlace s (off - 0xA00000))
  else if 0x2000000 ≤ off ∧ off < 0x2800000 then
    (let t := (off - 0x2000000) / 0x10000
     let o := off % 0x10000
     if 0xC000 ≤ o ∧ o < 0xD000 then .aperture t (o - 0xC000) else placeReg (findReg (tilRows t) o))
  else placeReg (findReg pfRows off)

/-- What lies at an offset of VF BAR0 of the VF of plot p (Tables MEM-10b, HIF-3). -/
def vfPlace (s : State) (p off : Nat) : RegPlace :=
  if off = 0 ∨ off = 4 then placeReg (findReg pfRows off)
  else if off < 0x1000 then placeReg (findReg (hifRows (p + 1)) off)
  else if off < 0x1100 then placeReg (findReg (mbxRows (p + 1)) (off - 0x1000))
  else if off < 0x6000 then msixPlace (p + 1) 32 off
  else if 0x8000 ≤ off ∧ off < 0x10000 then ringPlace (p + 1) (off - 0x8000)
  else if 0x10000 ≤ off ∧ off < 0x10100 then placeReg (findReg pfRows (0x1800000 + 0x100 * p + (off - 0x10000)))
  else if 0x20000 ≤ off ∧ off < 0x21000 then (if off = 0x20014 then .none else evrPlace (p + 1) (off - 0x20000))
  else if 0x21100 ≤ off ∧ off < 0x2111C then placeReg (findReg pfRows (0x301100 + 0x20 * p + (off - 0x21100)))
  else if 0x30000 ≤ off ∧ off < 0x31000 then
    (if channelOwner s ((off - 0x30000) / 0x40) = p then placeReg (findReg pfRows (0x500000 + (off - 0x30000))) else .none)
  else if 0x32000 ≤ off ∧ off < 0x33000 then placeReg (findReg pfRows (0x502000 + (off - 0x32000)))
  else if 0x40000 ≤ off ∧ off < 0x40040 then placeReg (findReg pfRows (0x601000 + 0x40 * p + (off - 0x40000)))
  else .none

/-- What lies at an offset for a master. -/
def placeOf (s : State) (m : Master) (off : Nat) : RegPlace :=
  match m with
  | .vf p => vfPlace s p off
  | _ => pfPlace s (readerOf m) off

/-! ### What a read gives -/

/-- The debug halt of plot p is in force (R127). -/
def halted (s : State) (p : Nat) : Bool := bit (rd s (.schPctrl p)) 1

/-- CAL_TRIMDATA: what is in force of the converter that CAL_TRIMSEL selects. -/
def trimView (s : State) (t : Nat) : Word :=
  let k := calOf s t (rdFld s (.calTrimsel t) 20 16)
  let c := rdFld s (.calTrimsel t) 9 0
  if 515 < c then 0
  else BitVec.ofNat 32 ((mapGet 0 k.gt c % 64).toNat * 2 ^ 26 + (mapGet 0 k.ot c % 64).toNat * 2 ^ 20 + fix14 (mapGet 1 k.kcol c))

/-- What a register reads as. -/
def regView (s : State) (r : Reg) : Word :=
  match r with
  | .arrConvLo t => lo32 (tile s t).conv
  | .tilSeedLo t => lo32 (tile s t).seed
  | .schPstepLo p => lo32 (plot s p).step
  | .ckpSteplo p => lo32 (ckpOf s p).step
  | .evrHeadLo => BitVec.ofNat 32 s.evr.next
  | .netCntLo p i => lo32 (mapGet 0 s.net.counts (11 * p + i))
  | .calGstat t g => gstatView s t g
  | .calTrimdata t => trimView s t
  | .schStatus t => if (match plotOf s t with | some p => halted s p | none => false) && tileRun s t == tRunning then setFld (rd s r) 31 29 tHalted else rd s r
  | .schPstat p => if halted s p && plotRun s p == pServing then setFld (rd s r) 31 29 pHalted else rd s r
  | .hifLink => setBit (rd s r) 21 (linkX8 s)
  | .rmaPark => setFld (rd s r) 11 0 (ceilDiv (parkedBytes s s.rma.parked) 1024)
  | .secFusew k => if k < 8 then 0 else fuse s k
  | .nvcHaltpc c => if 22 ≤ c ∧ debugScope s 3 = false then 0 else rd s r
  | r => rd s r

/-- What a read of a low word latches into the high word. -/
def regLatch (s : State) (e : Nat) (r : Reg) : State :=
  match r with
  | .arrConvLo t => wr s (.arrConvHi t) (hi32 (tile s t).conv)
  | .tilSeedLo t => wr s (.tilSeedHi t) (hi32 (tile s t).seed)
  | .schPstepLo p => wr s (.schPstepHi p) (hi32 (plot s p).step)
  | .ckpSteplo p => wr s (.ckpStephi p) (hi32 (ckpOf s p).step)
  | .evrHeadLo => wr s (.evrHeadHi e) (BitVec.ofNat 32 (s.evr.next / 2 ^ 32 % 0x10000))
  | .netCntLo p i => wr s (.netCntHi p i) (hi32 (mapGet 0 s.net.counts (11 * p + i)))
  | _ => s

/-- The tile or region whose region register lies at an offset for a master (R6, R189, R194). -/
def regionObject (s : State) (m : Master) (off : Nat) : Option Nat :=
  match placeOf s m off with
  | .reg (.tilRgn t _ _) => some t
  | .reg (.lpxRgnbase n) => some n
  | .reg (.lpxRgnsize n) => some n
  | .reg (.lpxRgnctl n) => some n
  | _ => none

/-- A write that a core's reach does not permit is dropped; of a region register it is a security event (R6, R256). -/
def refuseWrite (s : State) (m : Master) (off : Nat) : State := match regionObject s m off with | some x => regionWriteRefused s m x | none => s

/-- Bits of a word of an MSI-X pending array. -/
def pbaWord (s : State) (f k : Nat) : Word :=
  BitVec.ofNat 32 (sumNat ((List.range 32).map (fun i => if (fnState s f).pba.contains (32 * k + i) then 2 ^ i else 0)))

/-- A word of an MSI-X table entry: message address, data, and Mask in bit 0 of the last. -/
def msixWord (s : State) (f i k : Nat) : Word :=
  let e := mapGet (0, 0) (fnState s f).table i
  if k = 0 then lo32 e.1 else if k = 1 then hi32 e.1 else if k = 2 then e.2 else (if (fnState s f).unmasked.contains i then 0 else 1)

/-- Bits of STG_CPEND word h that are plot p's channels. -/
def ownChannels (s : State) (p h : Nat) : Word := BitVec.ofNat 32 (sumNat ((List.range 32).map (fun i => if channelOwner s (32 * h + i) = p then 2 ^ i else 0)))

/-- What a register reads as to a master: in a VF's view HALT reads 0 (Table MEM-10b), and STG_CPEND shows its own channels (R330). -/
def regSeen (s : State) (m : Master) (r : Reg) : Word :=
  match r, m with
  | .stgCpend h, .vf p => rd s (.stgCpend h) &&& ownChannels s p h
  | .schPctrl _, .vf _ => setBit (regView s r) 1 false
  | _, _ => regView s r

/-- A 4-byte read of a register at an aligned offset by a master, and the state with what it latches.  The aperture gives its own answer elsewhere. -/
def regLoad (s : State) (m : Master) (off : Nat) : Word × State :=
  match placeOf s m off with
  | .reg r => (regSeen s m r, regLatch s (readerOf m) r)
  | .msix f i k => (msixWord s f i k, s)
  | .pba f k => (pbaWord s f k, s)
  | .win e i k => (windowWord s e i k, s)
  | .ring o ff a => (BitVec.ofNat 32 (mapBytes (if ff then (box s o).ff else (box s o).tf) a 4), s)
  | _ => (0, s)

/-- NET_CNT_LOW_READ (R286): the low word is read, and the high word latches. -/
def execNetCntLowRead (port : Fin 16) (i : Fin 11) (s : State) : Host.Outcome State Fault Refusal :=
  .next (readOut (regLatch s 0 (.netCntLo port i)) (regView s (.netCntLo port i)))

/-- The whole count is set, its high word 0 (R286). -/
def setNetCount (s : State) (port i : Nat) (v : Word) : State :=
  { s with net := { s.net with counts := mapInsert s.net.counts (11 * port + i) (BitVec.ofNat 64 v.toNat) } }

/-- NET_CNT_LOW_WRITE (R285, R286). -/
def execNetCntLowWrite (m : Master) (port : Fin 16) (i : Fin 11) (v : Word) (s : State) : Host.Outcome State Fault Refusal :=
  .next (if mayWriteNet m then setNetCount s port i v else s)

end Sys2Proof.Machine
end

