-- ==== Sys2Proof/Machine/Telemetry.lean ====
section
/-! DEFINITION. Telemetry: snapshots of the counters, subscriptions and their export (R444, R445). -/
set_option Elab.async false
namespace Sys2Proof.Machine

/-- The group of Table TEL-1 that a counter belongs to. -/
def telGroup : Reg → Option Nat
  | .schSlackcnt _ => some 0 | .schMaxwait _ => some 0 | .schStall _ _ => some 0 | .schLstall _ _ => some 0
  | .telPstall _ _ => some 0 | .telPslack _ => some 0 | .telPworst _ => some 0 | .schPovrcnt _ => some 0 | .schPlate _ => some 0
  | .arrConvLo _ => some 1 | .arrRefskip _ => some 1 | .arrStretch _ => some 1 | .arrSatcnt _ _ => some 1
  | .calRecalcnt _ => some 1 | .calStalecnt _ => some 1 | .calSoftcnt _ => some 1
  | .tilAccsat _ => some 1 | .tilMxnan _ => some 1 | .tilNosample _ => some 1
  | .pwrWarncnt => some 2 | .pwrWakedly => some 2 | .pwrThrcnt => some 2 | .clkLosscnt => some 2
  | .netCntLo _ _ => some 3 | .prsNomatch => some 3 | .prsParsefail => some 3 | .prsMeterdrop => some 3 | .prsDestdrop => some 3 | .prsPuntdrop _ => some 3
  | .tmsQstat _ => some 4 | .tmsQavg _ => some 4 | .tmsQdrop _ => some 4
  | .rmaCnt _ => some 5 | .stgDone _ => some 5 | .stgXerr => some 5 | .stgAbortmiss => some 5 | .stgRefused => some 5
  | .hifUrcnt => some 6 | .hifMalcnt => some 6 | .hifHaerr => some 6 | .hifInvcnt => some 6 | .hifFeeddrop => some 6
  | .lpxUecnt => some 6 | .lpxCecnt _ => some 6 | .nvcXcnt _ => some 6 | .nvcCecnt _ => some 6 | .fwmHgen _ => some 6
  | .secAlarmcnt => some 6 | .secDualfail => some 6 | .secHuskfail => some 6 | .secRelfail => some 6
  | .ckpPend _ => some 7 | .ckpSealed _ => some 7 | .ckpCow _ => some 7 | .ckpCowmax _ => some 7
  | _ => none

/-- The offsets and indices of a row's registers, in order. -/
def rowIndices : List (Nat × Nat) → List (Nat × List Nat)
  | [] => [(0, [])]
  | (stride, n) :: rest => (List.range n).flatMap (fun i => (rowIndices rest).map (fun e => (stride * i + e.1, i :: e.2)))

/-- The registers of a row with their offsets, where the row holds counters of the groups selected. -/
def rowCounters (groups base : Nat) (row : RegRow) : List (Nat × Reg) :=
  let sel := fun (r : Reg) => match telGroup r with | some g => groups.testBit g | none => false
  if (match row.reg (row.dims.map (fun _ => 0)) with | some r => sel r | none => false) then
    (rowIndices row.dims).filterMap (fun e => (row.reg e.2).map (fun r => (base + row.base + e.1, r)))
  else []

/-- Every counter of the groups, with its PF BAR0 offset; those of the egress queues share the offsets of their windows and stand in queue order. -/
def telCounters (groups : Nat) : List (Nat × Reg) :=
  pfRows.flatMap (rowCounters groups 0)
    ++ (if groups.testBit 0 || groups.testBit 1 then allTiles.flatMap (fun t => (tilRows t).flatMap (rowCounters groups (0x2000000 + 0x10000 * t))) else [])
    ++ (if groups.testBit 4 then (List.range 8192).flatMap (fun k => [(0xA0000C, .tmsQstat k), (0xA00010, .tmsQavg k), (0xA00014, .tmsQdrop k)]) else [])

/-- The value of a counter, whole where it has a high word. -/
def telValue (s : State) (r : Reg) : DWord :=
  match r with
  | .arrConvLo t => (tile s t).conv
  | .netCntLo p i => mapGet 0 s.net.counts (11 * p + i)
  | r => BitVec.ofNat 64 (regView s r).toNat

/-- The plot whose VF may select a counter (Table TEL-1). -/
def telPlot (s : State) (r : Reg) : Option Nat :=
  match r with
  | .schSlackcnt t => plotOf s t | .schMaxwait t => plotOf s t | .schStall t _ => plotOf s t | .schLstall t _ => plotOf s t
  | .telPstall p _ => some p | .telPslack p => some p | .telPworst p => some p | .schPovrcnt p => some p | .schPlate p => some p
  | .arrConvLo t => plotOf s t | .arrRefskip t => plotOf s t | .arrStretch t => plotOf s t | .arrSatcnt t _ => plotOf s t
  | .calRecalcnt t => plotOf s t | .calStalecnt t => plotOf s t | .calSoftcnt t => plotOf s t
  | .tilAccsat t => plotOf s t | .tilMxnan t => plotOf s t | .tilNosample t => plotOf s t
  | .tmsQstat k => some (queueOwner s k) | .tmsQavg k => some (queueOwner s k) | .tmsQdrop k => some (queueOwner s k)
  | .stgDone n => some (channelOwner s n)
  | .ckpPend p => some p | .ckpSealed p => some p | .ckpCow p => some p | .ckpCowmax p => some p
  | _ => none

/-- A snapshot of the selected groups (R444). -/
def takeSnapshot (s : State) (groups : Nat) : State :=
  { s with tel := { s.tel with snapshot := (telCounters groups).map (fun e => (e.1, telValue s e.2)), number := s.tel.number + 1 } }

/-- TEL_SNAP (R444): a write with GO; GROUPS is kept. -/
def telSnap (s : State) (groups : Nat) : State := takeSnapshot (wrFld s .telSnap 7 0 groups) groups
def execTelSnap (groups : Byte) (s : State) : Host.Outcome State Fault Refusal := .next (telSnap s groups.toNat)

/-- Groups that a VF may select. -/
def vfGroups : Nat := 0xB3

/-- TEL_SUBSCRIBE (R445): the answer gives the subscription's number. -/
def execTelSubscribe (m : Msg) (period : Nat) (groups : Byte) (ring : Option (Fin 32 × Word)) (slots size : Nat) (s : State) : Host.Outcome State Fault Refusal :=
  let isVf := decide (1 ≤ m.owner.val) && decide (m.owner.val ≤ 12)
  let ringOk := match ring with
    | some (r, off) => decide (12 ≤ r.val) && decide (r.val < 16) && regionOpen s r && decide (1 ≤ slots) && decide (32 ≤ size) && decide (off.toNat + slots * size ≤ regionSize s r)
    | none => true
  .next (serve s m { type := 0xA0, vf := true, feature := some 6 } (fun s =>
    if isVf && decide (groups.toNat &&& vfGroups ≠ groups.toNat) then respond s m 0xA0 stNotPermitted 0 []
    else if period < 1 ∨ 60000 < period ∨ ringOk = false then respond s m 0xA0 stRefused 0 []
    else if 4 ≤ s.tel.subs.length then respond s m 0xA0 stNoSpace 0 []
    else
      let x : Subscription := { owner := m.owner, period := period, groups := groups.toNat, ring := ring.map (fun e => (e.1.val, e.2.toNat)), slots := slots, size := size,
                                nextSlot := 0, skipped := 0, busy := false }
      respond { s with tel := { s.tel with subs := s.tel.subs ++ [x] } } m 0xA0 stOk 0 (leBytes 1 s.tel.subs.length)))

/-- The 32-byte header of an export. -/
def telHeader (s : State) (x : Subscription) : List Byte :=
  leBytes 4 0x4C544C53 ++ leBytes 2 1 ++ leBytes 2 (satNat x.skipped 0xFFFF) ++ leBytes 8 s.tel.number ++ leBytes 8 s.evr.next ++ leBytes 8 s.tick

/-- Lists of at most n elements, in order; one, empty, of an empty list. -/
def chunksOf {α : Type} (n : Nat) : Nat → List α → List (List α)
  | 0, _ => []
  | f + 1, l => l.take n :: (if l.length ≤ n then [] else chunksOf n f (l.drop n))

/-- The entries of an export: of the counters of the groups, for a VF its own. -/
def telEntries (s : State) (x : Subscription) : List (List Byte) :=
  ((telCounters x.groups).filter (fun e => decide (x.owner = 0) || decide (12 < x.owner) || telPlot s e.2 == some (x.owner - 1))).map
    (fun e => leBytes 4 e.1 ++ leBytes 8 (telValue s e.2).toNat)

/-- The export leaves: as TEL_DATA messages of at most 81 entries, or into the ring's next slot, its header last. -/
def telSend (s : State) (x : Subscription) : State :=
  let es := telEntries s x
  match x.ring with
  | none => (chunksOf 81 (es.length + 1) es).foldl (fun s c => postUnsol s x.owner 0xA1 stOk 0 (telHeader s x ++ c.flatten)) s
  | some (r, off) =>
    let a := regionBase s r + off + x.nextSlot * x.size
    if regionOpen s r then wrBytes (wrBytes s (a + 32) (es.take ((x.size - 32) / 12)).flatten) a (telHeader s x) else s

/-- The state with subscription k changed. -/
def onSub (s : State) (k : Nat) (x : Subscription) : State := { s with tel := { s.tel with subs := listSet s.tel.subs k x } }

/-- TEL_EXPORT (R445): a period of a subscription ends.  `done` says that the export this period starts, or the one still running, finishes before the next period ends. -/
def execTelExport (sub : Fin 4) (done : Bool) (s : State) : Host.Outcome State Fault Refusal :=
  .next (match s.tel.subs[sub.val]? with
    | none => s
    | some x =>
      if x.busy then onSub s sub { x with skipped := x.skipped + 1, busy := !done }
      else
        let s1 := telSend (telSnap s x.groups) x
        onSub s1 sub { x with skipped := 0, busy := !done, nextSlot := if x.nextSlot + 1 < x.slots then x.nextSlot + 1 else 0 })

end Sys2Proof.Machine
end

