-- ==== Sys2Proof/Machine/RegStore.lean ====
section
/-! DEFINITION. What a register write does: its access codes, its permissions, its range checks, and the operations that GO bits and index registers start (R6, R10, R57,
R149, R177, R189, R205, R280 to R286, R311 to R313, R330, R334, R353, R397, R421, R436, R446). -/
set_option Elab.async false
namespace Sys2Proof.Machine

/-- The state a meaning gives; the state itself where it gives none. -/
def after (s : State) (o : Host.Outcome State Fault Refusal) : State := match o with | .next t => t | _ => s

/-! ### Masters -/

def isSecurity (m : Master) : Bool := match m with | .core c => decide (22 ≤ c.val) | _ => false
def isVf (m : Master) : Bool := match m with | .vf _ => true | _ => false
/-- The function of a host driver that writes; none of a core. -/
def fnOf (m : Master) : Option Nat := match m with | .pf => some 0 | .vf p => some (p.val + 1) | .core _ => none

/-! ### Access codes (R10) -/

/-- RWL fields may still be written: those of a tile until an image is committed to it (R87). -/
def unlocked (s : State) (r : Reg) : Bool := decide (64 ≤ regIsland r) && !(tile s (regIsland r - 64)).locked

/-- The info register of an error register, and its VALID bit. -/
def infoOf (r : Reg) : Option (Reg × Nat) :=
  match r with
  | .arrErr t => some (.arrErrinfo t, 15)
  | .tilSherr t => some (.tilSherrinfo t, 15)
  | .schErr t => some (.schErrinfo t, 17)
  | .tilSperr t => some (.tilSperrinfo t, 15)
  | _ => none

/-- An error register that has become all zero clears VALID of its info register (Tables ARR-21, SHL-13, SCH-28, MEM-12). -/
def clearInfo (s : State) (r : Reg) : State :=
  match infoOf r with
  | some (i, b) => if rd s r = 0 then wrBit s i b false else s
  | none => s

/-- A write under the access codes alone. -/
def plainWrite (s : State) (r : Reg) (v : Word) : State :=
  let a := regAccess r
  let rw := a.rw ||| (if unlocked s r then a.rwl else 0)
  clearInfo (wr s r ((rd s r &&& ~~~rw &&& ~~~(a.w1c &&& v)) ||| (v &&& rw))) r

/-- A write that is ignored unless it may be made and its fields are in range. -/
def writeIf (s : State) (ok : Bool) (r : Reg) (v : Word) : State := if ok then plainWrite s r v else s

/-! ### Registers whose writes act -/

/-- CAL_CTRL: TAU from 10 to 23, and the two requests. -/
def storeCalCtrl (s : State) (t : Nat) (v : Word) : State :=
  let s1 := if fieldIn v 12 8 10 23 then wrFld s (.calCtrl t) 12 8 (fld v 12 8) else s
  let s2 := if bit v 31 then after s1 (execFgReq (Fin.ofNat 128 t) s1) else s1
  if bit v 30 then after s2 (execRecalReq (Fin.ofNat 128 t) s2) else s2

/-- ARR_GRPg: FALLOW_REQ and RETIRED_NEXT. -/
def storeArrGrp (s : State) (t g : Nat) (v : Word) : State :=
  let s1 := fallowReq s t g (bit v 22)
  after s1 (execRetiredNext (Fin.ofNat 128 t) (Fin.ofNat 32 g) (BitVec.ofNat 5 (fld v 12 8)) s1)

/-- SCH_PCTRLp: HOLD, and HALT but from a VF's view. -/
def storePctrl (s : State) (m : Master) (p : Nat) (v : Word) : State :=
  let s1 := if bit v 0 then holdJob s p else after s (execHoldResume (Fin.ofNat 12 p) s)
  if isVf m || bit v 1 == halted s p then s1 else after s1 (execHalt (Fin.ofNat 12 p) (bit v 1) s1)

/-- LPX_RGNCTLn: ENABLE. -/
def storeRgnctl (s : State) (m : Master) (n : Nat) (v : Word) : State :=
  let k := Fin.ofNat 32 n
  if bit v 31 then after s (execRegionEnable m k s) else after s (execRegionDisable m k s)

/-- A region's BASE or SIZE: from permitted masters, in range, while the region is disabled. -/
def storeRgn (s : State) (m : Master) (n : Nat) (r : Reg) (most : Nat) (v : Word) : State :=
  if !mayProgramRegions s m then regionWriteRefused s m n
  else writeIf s (decide (fld v 13 0 ≤ most) && !bit (rd s (.lpxRgnctl n)) 31) r v

/-- The lanes of a port whose LDIS bit a write changes: a 0 starts the re-enable check, a 1 takes the lane out. -/
def storeLdis (s : State) (m : Master) (p : Nat) (v : Word) : State :=
  forAll (fun s l =>
    if bit v (8 + l) = bit (rd s (.netPcfg p)) (8 + l) then s
    else if bit v (8 + l) then laneChange (wrBit s (.netPcfg p) (8 + l) true) p (laneSub s p l)
    else after s (execLaneReenable m (Fin.ofNat 16 p) (Fin.ofNat 4 l) s)) s [0, 1, 2, 3]

/-- NET_PCFGp: MAXFRAME in range, SPLIT not 0b11; SPLIT only with every sub-port down and no committed flow plan naming the port; LDIS. -/
def storePcfg (s : State) (m : Master) (p : Nat) (v : Word) : State :=
  let planned := allPlots.any (fun q => match imageOf s q with | some im => im.flow.any (fun f => decide (f.port / 16 = p)) | none => false)
  if !mayWriteNet m || !fieldIn v 31 18 1518 9216 || decide (fld v 1 0 = 3) then s
  else
    let s1 := wrFld s (.netPcfg p) 31 18 (fld v 31 18)
    let s2 := if portDown s p && !planned then wrFld s1 (.netPcfg p) 1 0 (fld v 1 0) else s1
    storeLdis s2 m p v

/-- PRS_PARTq or PRS_MPARTq, of security firmware: the range lies in the table and overlaps no other partition's. -/
def storePart (s : State) (m : Master) (mk : Nat → Reg) (q : Nat) (v : Word) : State :=
  let range := fun (w : Word) => (fld w 11 0, fld w 28 16)
  let ok := decide (fld v 11 0 + fld v 28 16 ≤ 4096) && (List.range 13).all (fun k => k == q || rangesApart (range v) (range (rd s (mk k))))
  writeIf s (isSecurity m && ok) (mk q) v

/-- TMS_QCFG of a queue: FLUSH; else the fields, OWNER from security firmware only and the others from those whom R285 permits; a refused write sets ERR. -/
def storeQcfg (s : State) (m : Master) (k : Nat) (v : Word) : State :=
  let old := rd s (.tmsQcfg k)
  let s0 := if bit v 30 then wrBit s (.tmsQcfg k) 30 false else s
  let moved := decide (fld v 28 25 ≠ fld old 28 25) || decide (fld v 24 23 ≠ fld old 24 23)
  let rest := decide (fld v 24 20 ≠ fld old 24 20) || decide (fld v 15 0 ≠ fld old 15 0)
  let may := (decide (fld v 28 25 = fld old 28 25) || isSecurity m) && (!rest || mayWritePart m (fld old 28 25))
  let legal := decide (fld v 28 25 ≤ 12) && decide (fld v 22 20 ≤ 6) && decide (fld v 15 12 ≤ 8) && decide (1 ≤ fld v 11 0) && !(moved && !(queueOf s k).frames.isEmpty)
  if bit v 31 then after s0 (execQueueFlush m s0)
  else if may && legal then plainWrite s0 (.tmsQcfg k) (setBit v 30 false)
  else wrBit s0 (.tmsQcfg k) 30 true

/-- RMA_CMD: GO performs OP on INDEX; OP 7, which Table RMA-12 leaves out, sets ERR: DEDUCED, log entry 134. -/
def storeRmaCmd (s : State) (m : Master) (v : Word) : State :=
  let i := BitVec.ofNat 18 (fld v 17 0)
  let s0 := plainWrite s .rmaCmd v
  if !mayRmaCmd m then s
  else if !bit v 31 then s0
  else match fld v 28 26 with
    | 0 => after s0 (execRmaReadContext m i s0)
    | 1 => after s0 (execRmaWriteContext m i s0)
    | 2 => after s0 (execRmaReadRegion m i s0)
    | 3 => after s0 (execRmaWriteRegion m i s0)
    | 4 => after s0 (execRmaPin m i s0)
    | 5 => after s0 (execRmaUnpin m i s0)
    | 6 => revokeCmd m i s0
    | _ => rmaCmdDone s0 7 i.toNat false

/-- RMA_RCTLp: LOG2N in range; the function that writes ENABLE = 1 governs the rings (R337), and waiting work is taken. -/
def storeRctl (s : State) (m : Master) (p : Nat) (v : Word) : State :=
  if !mayRing m p || !fieldIn v 3 0 4 12 then s
  else
    let s1 := plainWrite s (.rmaRctl p) v
    if !bit v 31 then s1
    else takeWork 65536 (onRma s1 (fun r => { r with ringFn := mapInsert r.ringFn p ((fnOf m).getD 0) })) p

/-- STG_CMDn: GO starts the command. -/
def storeStgCmd (s : State) (m : Master) (n : Nat) (v : Word) : State :=
  if !mayStg s m n then s
  else if bit v 31 then stgGo m n (fld v 30 28) (bit v 27) (fld v 23 16) (fld v 15 0) s
  else plainWrite s (.stgCmd n) v

/-- STG_CTLn: PWR, OWNER from security firmware, ATAG, ABORT and RESET. -/
def storeStgCtl (s : State) (m : Master) (n : Nat) (v : Word) : State :=
  let k := Fin.ofNat 64 n
  if !mayStg s m n then s
  else
    let s1 := if fld v 29 28 = 0 then after s (execChannelPowerOn m k s) else if fld v 29 28 = 2 then stgOff s n else s
    let s2 := if isSecurity m && decide (4 ≤ n) && (decide (fld v 19 16 ≤ 12) || fld v 19 16 == 14) then wrFld s1 (.stgCtl n) 19 16 (fld v 19 16) else s1
    let s3 := wrFld s2 (.stgCtl n) 15 0 (fld v 15 0)
    let s4 := if bit v 31 then after s3 (execStgAbort m k (BitVec.ofNat 16 (fld v 15 0)) s3) else s3
    if bit v 30 then stgReset s4 n else s4

/-- STG_CPEND: a VF clears the bits of its own channels. -/
def storeCpend (s : State) (m : Master) (h : Nat) (v : Word) : State :=
  let own := match m with
    | .vf p => ownChannels s p h
    | _ => v
  plainWrite s (.stgCpend h) (v &&& own)

/-- RST_GATE: ERR, and gate n for n other than 0. -/
def storeRstGate (s : State) (v : Word) : State :=
  let s1 := plainWrite s .rstGate v
  if fld v 2 0 = 0 then s1 else writeGate s1 (fld v 2 0)

/-- RST_CMD: GO resets TARGET; target 0 is an error. -/
def storeRstCmd (s : State) (m : Master) (v : Word) : State :=
  let s1 := plainWrite s .rstCmd v
  let by_ : ResetBy := match m with | .core c => if c.val < 2 then .warden else .host | _ => .host
  if !bit v 31 then s1
  else match fld v 25 24 with
    | 1 => after s1 (execManagementIslandReset by_ s1)
    | 2 => after s1 (execHeadlandReset by_ s1)
    | 3 => after s1 (execModuleReset by_ s1)
    | _ => wrBit s1 .rstCmd 29 true

/-- A feed window's CTL: OWNER only while the window is not enabled. -/
def storeFwinCtl (s : State) (m : Master) (k : Nat) (v : Word) : State :=
  let on := bit (rd s (.hifFwinCtl k)) 31
  writeIf s (mayWriteNet m) (.hifFwinCtl k) (if on then setFld v 28 25 (rdFld s (.hifFwinCtl k) 28 25) else v)

/-- PWR registers are locked once stage S1 is done (R177). -/
def powerOpen (s : State) : Bool := !bit (rd s .rstStage) 1

/-- CLK_FSEL: the measurement of the island named begins; CLK_FMEAS is valid again once CLK_FSEL's own command ends it. -/
def storeFsel (s : State) (v : Word) : State :=
  wr { plainWrite s .clkFsel v with power := { s.power with measuring := some (fld v 7 0) } } .clkFmeas 0

/-- A 4-byte write of a register by a master that reaches it. -/
def storeReg (s : State) (m : Master) (r : Reg) (v : Word) : State :=
  match r with
  | .arrTiming t => if (tile s t).locked then s else if fieldIn v 4 0 6 24 then aimFreq (wrFld s (.arrTiming t) 4 0 (fld v 4 0)) t else wrBit s (.arrErr t) 9 true
  | .arrGrp t g => storeArrGrp s t g v
  | .calCtrl t => storeCalCtrl s t v
  | .tilRgn t k i => after s (execRegionRegisterWrite m (Fin.ofNat 128 t) (Fin.ofNat 5 k) (Fin.ofNat 16 i) v s)
  | .schPctrl p => storePctrl s m p v
  | .pwrCtrl => if powerOpen s then writePwrCtrl s v else s
  | .pwrWake => if powerOpen s then writePwrWake s v else s
  | .pwrCap => if powerOpen s then wrCommit s .pwrCap v else s
  | .pwrFixed => if powerOpen s then wrCommit s .pwrFixed v else s
  | .clkFsel => storeFsel s v
  | .lpxPatrol => writeIf s (fieldIn v 7 0 0 168) r v
  | .lpxRgnbase n => storeRgn s m n r 14335 v
  | .lpxRgnsize n => storeRgn s m n r 14336 v
  | .lpxRgnctl n => storeRgnctl s m n v
  | .mbxCtrl o => if bit v 31 then after s (execMbxReset (Fin.ofNat 14 o) s) else s
  | .mbxTfpi o => enterUpTo 33 s (Fin.ofNat 14 o) (fld v 15 0)
  | .mbxFfci o => after s (execMbxFfci (Fin.ofNat 14 o) (BitVec.ofNat 16 (fld v 15 0)) s)
  | .netPcfg p => storePcfg s m p v
  | .netBercfg => writeIf s (mayWriteNet m && berOk v) r v
  | .netCntLo p i => if mayWriteNet m then setNetCount s p i v else s
  | .prsCmd => if !bit v 31 then plainWrite s r v else if bit v 28 then after s (execPrsWrite m v s) else after s (execPrsRead m v s)
  | .prsPart q => storePart s m .prsPart q v
  | .prsMpart q => storePart s m .prsMpart q v
  | .prsPunt k =>
    let others := sumNat ((List.range 4).map (fun i => if i = k then 0 else rdFld s (.prsPunt i) 31 16))
    writeIf s (decide (fld v 31 16 + others ≤ 2000) && fieldIn v 15 0 1 65535) r v
  | .tmsQcfg k => storeQcfg s m k v
  | .tmsQshape k => if mayWritePart m (queueOwner s k) && fieldIn v 31 12 0 800000 && fieldIn v 11 0 1 4095 then plainWrite (settleBucket s k) r v else s
  | .tmsQavg _ => if bit v 31 then after s (execQavgClear m s) else s
  | .tmsQdrop k => writeIf s (mayWritePart m (queueOwner s k)) r v
  | .tmsPort _ => writeIf s (mayWriteNet m) r v
  | .tmsSample => writeIf s (mayWriteNet m && fieldIn v 24 8 100 100000) r v
  | .rmaCfg => writeIf s (mayRmaCmd m && fieldIn v 21 16 32 39) r v
  | .rmaTimers => writeIf s (mayRmaCmd m && fieldIn v 31 20 1 4095 && fieldIn v 19 16 1 15 && fieldIn v 15 0 5 65535) r v
  | .rmaPark => writeIf s (mayRmaCmd m && fieldIn v 31 20 64 2048) r v
  | .rmaCmd => storeRmaCmd s m v
  | .rmaRbaseLo p => writeIf s (mayRing m p && !ringOn s p && decide (fld v 11 0 = 0)) r v
  | .rmaRbaseHi p => writeIf s (mayRing m p && !ringOn s p) r v
  | .rmaRctl p => storeRctl s m p v
  | .rmaWqpi p => after s (execWorkRequest m (Fin.ofNat 12 p) (BitVec.ofNat 16 (fld v 15 0)) s)
  | .rmaCqci p => after s (execRmaCqci m (Fin.ofNat 12 p) (BitVec.ofNat 16 (fld v 15 0)) s)
  | .stgCmd n => storeStgCmd s m n v
  | .stgLbalo n => writeIf s (mayStg s m n) r v
  | .stgLbahi n => writeIf s (mayStg s m n) r v
  | .stgBlks n => writeIf s (mayStg s m n) r v
  | .stgBuflo n => writeIf s (mayStg s m n) r v
  | .stgBufhi n => writeIf s (mayStg s m n) r v
  | .stgBufctl n => writeIf s (mayStg s m n) r v
  | .stgCtl n => storeStgCtl s m n v
  | .stgCfg => writeIf s (!isVf m && fieldIn v 9 0 10 1000) r v
  | .stgCpend h => storeCpend s m h v
  | .stgXerr => writeIf s (!isVf m) r v
  | .stgAbortmiss => writeIf s (!isVf m) r v
  | .stgRefused => writeIf s (!isVf m) r v
  | .hifHb f => after s (execHeartbeat (Fin.ofNat 13 f) v s)
  | .hifHbcfg _ => writeIf s (fieldIn v 15 0 10 60000) r v
  | .hifB2ctl => riseForNeed (writeIf s (mayWriteNet m) r v)
  | .hifFwinBaselo k => writeIf s (mayWriteNet m && !bit (rd s (.hifFwinCtl k)) 31) r v
  | .hifFwinBasehi k => writeIf s (mayWriteNet m && !bit (rd s (.hifFwinCtl k)) 31) r v
  | .hifFwinSize k => writeIf s (mayWriteNet m && !bit (rd s (.hifFwinCtl k)) 31 && fieldIn v 27 0 1 0xFFFFFFF) r v
  | .hifFwinCtl k => storeFwinCtl s m k v
  | .pltCmd => if mayWriteNet m then plotCommand s v else s
  | .pltCfg => writeIf s (mayWriteNet m && fieldIn v 10 0 60 1100) r v
  | .rstGate => storeRstGate s v
  | .rstCmd => storeRstCmd s m v
  | .rstCfg => writeIf s (rstCfgOk v) r v
  | .ckpCfg => writeIf s (fieldIn v 10 0 10 1100) r v
  | .evrCurLo e => after s (execEvrCursorWrite (Fin.ofNat 14 e) v s)
  | .telSnap => if bit v 31 then telSnap s (fld v 7 0) else plainWrite s r v
  | r => plainWrite s r v

/-! ### The MSI-X table and configuration space -/

/-- Pending messages of vectors that are no longer masked go out. -/
def releaseMsix (s : State) (f : Nat) : State :=
  let x := fnState s f
  if !x.msixEnable || x.msixFnMask then s
  else
    let go := x.pba.filter (fun v => x.unmasked.contains v)
    go.foldl (fun s v => sendMsix s f v) (onFn s f (fun x => { x with pba := x.pba.filter (fun v => !go.contains v) }))

/-- A word of an MSI-X table entry is written. -/
def storeMsix (s : State) (f i k : Nat) (v : Word) : State :=
  let e := mapGet (0, 0) (fnState s f).table i
  if k = 0 then onFn s f (fun x => { x with table := mapInsert x.table i (dword (hi32 e.1) v, e.2) })
  else if k = 1 then onFn s f (fun x => { x with table := mapInsert x.table i (dword v (lo32 e.1), e.2) })
  else if k = 2 then onFn s f (fun x => { x with table := mapInsert x.table i (e.1, v) })
  else if bit v 0 then onFn s f (fun x => { x with unmasked := x.unmasked.filter (· ≠ i) })
  else releaseMsix (onFn s f (fun x => { x with unmasked := addPage x.unmasked i })) f

/-- Sizes that the part supports (Table HIF-1). -/
def mpsOk (n : Nat) : Bool := [128, 256, 512].contains n
def mrrsOk (n : Nat) : Bool := [128, 256, 512, 1024, 2048, 4096].contains n

/-- A configuration write to function f.  Clearing VF Enable puts every VF in heartbeat loss (R347); clearing PME_Status releases WAKE_N (R346). -/
def storeConfig (s : State) (f : Nat) (x : CfgField) : State :=
  match x with
  | .memory on => onFn s f (fun y => { y with memEnable := on })
  | .device ro mps mrrs => if mpsOk mps && mrrsOk mrrs then onFn s f (fun y => { y with relaxed := ro, mps := mps, mrrs := mrrs }) else s
  | .msix en mask => releaseMsix (onFn s f (fun y => { y with msixEnable := en, msixFnMask := mask })) f
  | .ats on => onFn s f (fun y => { y with atsEnable := on })
  | .pme en clear =>
    let s1 := onFn s f (fun y => { y with pmeEn := en, pmeStatus := y.pmeStatus && !clear })
    if clear then onHost s1 (fun h => { h with wakeLow := false }) else s1
  | .aerClear rows => onFn s f (fun y => { y with aer := y.aer.filter (fun r => !rows.contains r) })
  | .sriov en n =>
    if f ≠ 0 then s
    else if s.host.vfEnable && !en then
      forAll enterLoss (onHost s (fun h => { h with vfEnable := false })) ((List.range s.host.numVfs).map (· + 1))
    else if s.host.vfEnable || stoppedInS1 s then s
    else onHost s (fun h => { h with vfEnable := en, numVfs := min n 12 })
  | .rom on => if f ≠ 0 then s else onHost s (fun h => { h with romEnable := on && h.rom.isSome })

/-! ### Accesses -/

/-- An aperture access of 4 bytes that has nothing to report. -/
def apertureStore (s : State) (m : Master) (t off : Nat) (v : Word) : State :=
  after s (execApertureAccess m (Fin.ofNat 128 t) (BitVec.ofNat 12 off) false (some (BitVec.ofNat 64 v.toNat)) .clean s)

/-- A word of a mailbox ring is written: the driver writes requests, firmware writes both rings (R244). -/
def storeRing (s : State) (m : Master) (o : Nat) (ff : Bool) (off : Nat) (v : Word) : State :=
  match m with
  | .core _ => onBox s o (fun b => if ff then { b with ff := mapPut b.ff off 4 v.toNat } else { b with tf := mapPut b.tf off 4 v.toNat })
  | _ => if ff then s else onBox s o (fun b => { b with tf := mapPut b.tf off 4 v.toNat })

/-- A 4-byte write at an aligned offset by a master (R10). -/
def regStore (s : State) (m : Master) (off : Nat) (v : Word) : State :=
  match placeOf s m off with
  | .reg r => storeReg s m r v
  | .msix f i k => storeMsix s f i k v
  | .ring o ff a => storeRing s m o ff a v
  | .aperture t o => apertureStore s m t o v
  | _ => s

/-- A core's 4-byte read at an aligned offset: a register, or through the aperture. -/
def coreRegRead (s : State) (m : Master) (off : Nat) : Word × State :=
  match placeOf s m off with
  | .aperture t o =>
    let s1 := after s (execApertureAccess m (Fin.ofNat 128 t) (BitVec.ofNat 12 o) false none .clean s)
    match s1.out with
    | .completion _ bs :: rest => (BitVec.ofNat 32 (leNat bs), { s1 with out := rest })
    | _ => (0, s1)
  | _ => regLoad s m off

/-- A VF exists (R333). -/
def vfExists (s : State) (f : Nat) : Bool := f == 0 || (s.host.vfEnable && decide (f ≤ s.host.numVfs))

/-- The VF's BAR0 takes a write at an offset: nothing while its plot is being harrowed (R394), the mailbox alone while no layout defines its plot (R333). -/
def vfTakes (s : State) (m : Master) (off : Nat) : Bool :=
  match m with
  | .vf p => pltState s p != pltScrubbing && (pltState s p != pltUndefined || (decide (0x1000 ≤ off) && decide (off < 0x1100)) || (decide (0x8000 ≤ off) && decide (off < 0x10000)))
  | _ => true

/-- A host driver's posted write to BAR0 of its function (R205, R344, R345): Memory Space Enable is 1, or no BAR claims it. -/
def hostStore (s : State) (m : Master) (f off : Nat) (v : Word) : State :=
  if !vfExists s f then unsupported s 0 1 true
  else if (fnState s f).dstate ≠ 0 then unsupported s f 3 true
  else if !(fnState s f).memEnable then unsupported s f 1 true
  else if (if f = 0 then 0x4000000 else 0x100000) ≤ off then unsupported s f 1 true
  else if off % 4 ≠ 0 then unsupported s f 2 true
  else if vfTakes s m off then regStore s m off v
  else s

/-- REGISTER_WRITE (R10): by a host driver at an offset of its function's BAR0 or of a configuration field; by a core within its reach (R256). -/
def execRegisterWrite (m : Master) (target : RegTarget) (v : Word) (s : State) : Host.Outcome State Fault Refusal :=
  .next (match target, m with
    | .bar off, .core c => if off % 4 ≠ 0 then s else if 2 ≤ reach s c off then regStore s m off v else refuseWrite s m off
    | .bar off, _ => hostStore s m ((fnOf m).getD 0) off v
    | .config _ _, .core _ => s
    | .config f x, _ => if configHeld s then emit s (.message f "RETRY_STATUS" 0) else if vfExists s f then storeConfig s f x else s)

end Sys2Proof.Machine
end

