-- ==== Sys2Proof/Machine/Bus.lean ====
section
/-! DEFINITION. Data accesses of a Novdy core by address range (R212, R214, R217, R230, R256). -/
set_option Elab.async false
namespace Sys2Proof.Machine

/-- What an access or an instruction ends in: done, or an exception with its vector, cause and XADDR, in the state that holds what a refusal records. -/
inductive NvcRes where
  | done (s : State)
  | exc (s : State) (v cause : Nat) (addr : Word)
  deriving DecidableEq, Repr

/-- Where a core address lies (Table NVC-2). -/
inductive Space where
  | dsram (off : Nat)
  | reg (off : Nat)
  | priv (off : Nat)
  | mbox (off : Nat)
  | fabric (dev : Nat)
  | unmapped
  deriving DecidableEq, Repr

/-- The range that holds a core address. -/
def spaceOf (x : CoreState) (a : Nat) : Space :=
  if 0x10000000 ≤ a ∧ a < 0x10020000 then .dsram (a - 0x10000000)
  else if 0x40000000 ≤ a ∧ a < 0x44000000 then .reg (a - 0x40000000)
  else if 0x48000000 ≤ a ∧ a < 0x49000000 then .priv (a - 0x48000000)
  else if 0x50000000 ≤ a ∧ a < 0x50010000 then .mbox (a - 0x50000000)
  else if 0x80000000 ≤ a then .fabric (x.fabbase * 0x80000000 + (a - 0x80000000))
  else .unmapped

/-- Core c as a requester of LPDDR5X: its component, and the region named by the message that it serves (R196). -/
def coreRequester (c : Nat) (serving : Option (Fin 32)) : Requester := .component ⟨min 5 (componentOf c), by omega⟩ serving

/-- The master that a core is for register accesses. -/
def coreMaster (c : Nat) : Master := .core ⟨c % 24, by omega⟩

/-- The checks of a data access before it is made: alignment (3, 0x01), mapping and reach (2, 0x02), MPU (2, 0x01), fabric (2, 0x03). -/
def dataFault (s : State) (c : Nat) (sv : Option (Fin 32)) (a : Word) (n : Nat) (write : Bool) : Option (Nat × Nat) :=
  let x := core s c
  if !aligned a n then some (3, 1)
  else
    let mapped := match spaceOf x a.toNat with
      | .unmapped => false
      | .reg o => decide ((if write then 2 else 1) ≤ reach s c o)
      | _ => true
    if !mapped then some (2, 2)
    else if !mpuGrants x a.toNat n (if write then 1 else 0) then some (2, 1)
    else match spaceOf x a.toNat with
      | .fabric d => if (lpxPermits s (coreRequester c sv) d n).isNone then some (2, 3) else none
      | _ => none

/-- What a refused access records: an event of a fabric refusal (R196), and of a refused write of a region register (R6). -/
def noteRefusal (s : State) (c : Nat) (sv : Option (Fin 32)) (a : Word) (write : Bool) (e : Nat × Nat) : State :=
  match spaceOf (core s c) a.toNat with
  | .fabric d => if e = (2, 3) then lpxRefused s (coreRequester c sv) d else s
  | .reg o => if write = true ∧ e = (2, 2) then refuseWrite s (coreMaster c) (o / 4 * 4) else s
  | _ => s

/-- The exception of a refused access. -/
def refusedAccess (s : State) (c : Nat) (sv : Option (Fin 32)) (a : Word) (write : Bool) (e : Nat × Nat) : NvcRes :=
  .exc (noteRefusal s c sv a write e) e.1 e.2 a

/-- The sources that an access of core c at an address clears (R226): all but the watchdog warning and the recorder's threshold, which their own registers clear (R235, R442). -/
def clearSources (s : State) (c : Nat) (a : Word) : State :=
  onCore s c (fun x => { x with pend := x.pend &&& ~~~(Config.clearsSource c a.toNat &&& ~~~(BitVec.ofNat 32 (2 ^ 9 + 2 ^ 12))) })

/-- The core that a core's mailbox range at an offset leads to: a free value, as is what an access arrives at, frees and clears (log entry 128). -/
def mailPeer (c o : Nat) : Nat := (Config.mailboxPeer c o).1 % 24

/-- What a load of a private register takes from the rings of the core's island. -/
def takeRings (s : State) (c o : Nat) : State :=
  let n := s.net
  let p := if Config.takesPunt c o then mapInsert n.puntRings c ((mapGet [] n.puntRings c).drop 1) else n.puntRings
  let k := Config.takesRing c o
  let f := if 6 ≤ c ∧ c < 22 ∧ 0 < k then mapInsert n.fwRings (k - 1) ((mapGet [] n.fwRings (k - 1)).drop 1) else n.fwRings
  { s with net := { n with puntRings := p, fwRings := f } }

/-- A checked load of n bytes.  A register access is of its 4-byte register; a private register gives a free value (log entry 31), and
a mailbox what has arrived there. -/
def coreLoad (s : State) (c : Nat) (a : Word) (n : Nat) : Nat × State :=
  let x := core s c
  match spaceOf x a.toNat with
  | .dsram o => (mapBytes x.dmem o n, s)
  | .mbox o => (mapBytes x.mbox o n, clearSources (if Config.mailboxFrees c o then coreIrq s (mailPeer c o) 11 else s) c a)
  | .reg o => let q := coreRegRead s (coreMaster c) (o / 4 * 4); (q.1.toNat / 2 ^ (8 * (o % 4)) % 2 ^ (8 * n), clearSources q.2 c a)
  | .priv o => ((Config.privateReg s.fresh c o).toNat % 2 ^ (8 * n), clearSources (takeRings (draw s) c o) c a)
  | .fabric d => (rdLe s d n, s)
  | .unmapped => (0, s)

/-- A checked store of n bytes; into the mailbox range, it goes to the mailbox that the place leads to (R242). -/
def coreStore (s : State) (c : Nat) (a : Word) (n v : Nat) : State :=
  let x := core s c
  match spaceOf x a.toNat with
  | .dsram o => setCore s c { x with dmem := mapPut x.dmem o n v }
  | .mbox o =>
    let p := mailPeer c o
    let s1 := onCore s p (fun y => { y with mbox := mapPut y.mbox ((Config.mailboxPeer c o).2 % 0x10000) n v })
    clearSources (if Config.mailboxArrives c o then coreIrq s1 p 10 else s1) c a
  | .reg o =>
    let old := (coreRegRead s (coreMaster c) (o / 4 * 4)).1.toNat
    let sh := 2 ^ (8 * (o % 4))
    let keep := old - old / sh % 2 ^ (8 * n) * sh
    clearSources (regStore s (coreMaster c) (o / 4 * 4) (BitVec.ofNat 32 (if n = 4 then v else keep + v % 2 ^ (8 * n) * sh))) c a
  | .fabric d => match regionOf s d with
    | some r => lpxWrite s r d (leBytes n v)
    | none => s
  | .priv _ => clearSources s c a
  | .unmapped => s

end Sys2Proof.Machine
end

