-- ==== Sys2Proof/Machine/Novdy.lean ====
section
/-! DEFINITION. The Novdy instruction set: return stack, exceptions and interrupts (R219 to R227), and every instruction (R228 to R234). -/
set_option Elab.async false
namespace Sys2Proof.Machine

/-! ### Return stack and exceptions -/

/-- RSCNT. -/
def rscnt (x : CoreState) : Nat := x.rs.length
/-- A handler of vector 4 or 5 is active (R221). -/
def inSpillFill (x : CoreState) : Bool := x.handlers.any (fun v => v == 4 || v == 5)

/-- The handler entry of a core that is interrupted at a PC (Table NVC-6). -/
def handlerEntry (x : CoreState) (pc : Word) : RsEntry :=
  { handler := true, rep := x.rep, repi := x.repi, count := x.rptcnt, lvl := x.lvl, ie := x.ie, flags := flagBits x, pcw := pc.toNat / 4 % 2 ^ 28 }

/-- The core at a vector: entry pushed, LVL set, IE cleared, no repeat in progress, PC at VBASE + 16 × v (R225, R226). -/
def enterVector (x : CoreState) (v : Nat) (pc : Word) : CoreState :=
  { x with rs := handlerEntry x pc :: x.rs, handlers := v :: x.handlers, lvl := v, ie := false, rep := false, repi := false, rptcnt := 0,
           pc := x.vbase + BitVec.ofNat 32 (16 * v) }

/-- Exception entry as one operation: a push that finds RSCNT = 32 is a double fault; otherwise XCAUSE, XADDR, the NVC registers and the entry.
The spill exception's own entry raises no spill. -/
def takeException (s : State) (c v cause : Nat) (addr pc : Word) : State :=
  let x := core s c
  if 32 ≤ rscnt x then haltCore s c 2
  else
    let s1 := setCore s c { enterVector x v pc with xcause := v * 256 + cause, xaddr := addr }
    wrFld (wrFld (count s1 (.nvcXcnt c) 1) (.nvcStatus c) 23 16 cause) (.nvcStatus c) 15 11 v

/-- After a push has left RSCNT above RSHI, exception 4 is raised, unless a spill or fill handler is active (R221). -/
def spillCheck (s : State) (c : Nat) (inHandler : Bool) : State :=
  let x := core s c
  if x.rshi < rscnt x && !inHandler then takeException s c 4 0 0 x.pc else s

/-- An exception, and the spill its own push may raise. -/
def raise (s : State) (c v cause : Nat) (addr : Word) : State :=
  let x := core s c
  let s1 := takeException s c v cause addr x.pc
  if v = 4 ∨ v = 5 ∨ 32 ≤ rscnt x then s1 else spillCheck s1 c (inSpillFill x)

/-! ### Running one instruction -/

/-- The PC after an instruction that does not branch; within a repeat, the same PC while repeats are left (R223). -/
def advance (x : CoreState) : CoreState :=
  if x.rep && decide (1 < x.rptcnt) then { x with rptcnt := x.rptcnt - 1 }
  else { x with rep := false, repi := false, rptcnt := 0, pc := x.pc + 4 }

/-- Cycles counted in CYCLO and CYCHI. -/
def spend (s : State) (c n : Nat) : State := onCore s c (fun x => { x with cyc := x.cyc + BitVec.ofNat 64 n })

/-- One instruction of a running core: the fetch and its check (vector 1), the ECC of the SRAM words it uses (R213), reserved fields (R228), the
Rep column (R223), then its operation, which may raise an exception and then has no effect. -/
def runInstr (k : Nvc) (cycles : Nat) (rep : Bool) (op : State → Nat → NvcRes) (s : State) : State :=
  let c := k.core.val
  let x := core s c
  if nvState s c ≠ nvRun then s
  else if !(decide (x.pc.toNat < 0x10000) && mpuGrants x x.pc.toNat 4 2) then raise s c 1 1 x.pc
  else if k.ecc = .uncorrectable then haltCore s c 3
  else
    let s1 := if k.ecc = .corrected then count s (.nvcCecnt c) (max 1 k.words) else s
    if k.reserved then raise s1 c 0 1 0
    else if x.rep && !rep then raise s1 c 0 5 0
    else match op s1 c with
      | .done s2 => spend s2 c (cycles + k.stall)
      | .exc s2 v cause a => raise s2 c v cause a

/-- An operation on the core alone that then advances. -/
def plainOp (f : CoreState → CoreState) : State → Nat → NvcRes :=
  fun s c => .done (setCore s c (advance (f (core s c))))

/-- Format R: rd := f(a, b), unless ND, with the flags under S. -/
def aluR (k : Nvc) (f cycles : Nat) (o : AluR) (s : State) : State :=
  runInstr k cycles true (plainOp (fun x =>
    let r := aluFunc f x.c (wreg x o.ra) (wreg x o.rb)
    setFlags (if o.nd then x else setWreg x o.rd r.value) o.s r)) s

/-- Format I: b is the immediate. -/
def aluI (k : Nvc) (f : Nat) (signed : Bool) (o : AluI) (s : State) : State :=
  runInstr k 1 true (plainOp (fun x =>
    let r := aluFunc f x.c (wreg x o.ra) (if signed then sextImm 16 o.imm.toNat else BitVec.ofNat 32 o.imm.toNat)
    setFlags (if o.nd then x else setWreg x o.rd r.value) o.s r)) s

def execAdd (k : Nvc) (o : AluR) (s : State) : Host.Outcome State Fault Refusal := .next (aluR k 0 1 o s)
def execAdc (k : Nvc) (o : AluR) (s : State) : Host.Outcome State Fault Refusal := .next (aluR k 1 1 o s)
def execSub (k : Nvc) (o : AluR) (s : State) : Host.Outcome State Fault Refusal := .next (aluR k 2 1 o s)
def execSbc (k : Nvc) (o : AluR) (s : State) : Host.Outcome State Fault Refusal := .next (aluR k 3 1 o s)
def execAnd (k : Nvc) (o : AluR) (s : State) : Host.Outcome State Fault Refusal := .next (aluR k 4 1 o s)
def execOr (k : Nvc) (o : AluR) (s : State) : Host.Outcome State Fault Refusal := .next (aluR k 5 1 o s)
def execXor (k : Nvc) (o : AluR) (s : State) : Host.Outcome State Fault Refusal := .next (aluR k 6 1 o s)
def execAndn (k : Nvc) (o : AluR) (s : State) : Host.Outcome State Fault Refusal := .next (aluR k 7 1 o s)
def execShl (k : Nvc) (o : AluR) (s : State) : Host.Outcome State Fault Refusal := .next (aluR k 8 1 o s)
def execShr (k : Nvc) (o : AluR) (s : State) : Host.Outcome State Fault Refusal := .next (aluR k 9 1 o s)
def execSar (k : Nvc) (o : AluR) (s : State) : Host.Outcome State Fault Refusal := .next (aluR k 10 1 o s)
def execRor (k : Nvc) (o : AluR) (s : State) : Host.Outcome State Fault Refusal := .next (aluR k 11 1 o s)
def execMul (k : Nvc) (o : AluR) (s : State) : Host.Outcome State Fault Refusal := .next (aluR k 12 2 o s)
def execMulhu (k : Nvc) (o : AluR) (s : State) : Host.Outcome State Fault Refusal := .next (aluR k 13 2 o s)
def execMulhs (k : Nvc) (o : AluR) (s : State) : Host.Outcome State Fault Refusal := .next (aluR k 14 2 o s)
def execMov (k : Nvc) (o : AluR) (s : State) : Host.Outcome State Fault Refusal := .next (aluR k 15 1 o s)
def execAddi (k : Nvc) (o : AluI) (s : State) : Host.Outcome State Fault Refusal := .next (aluI k 0 true o s)
def execSubi (k : Nvc) (o : AluI) (s : State) : Host.Outcome State Fault Refusal := .next (aluI k 2 true o s)
def execAndi (k : Nvc) (o : AluI) (s : State) : Host.Outcome State Fault Refusal := .next (aluI k 4 false o s)
def execOri (k : Nvc) (o : AluI) (s : State) : Host.Outcome State Fault Refusal := .next (aluI k 5 false o s)
def execXori (k : Nvc) (o : AluI) (s : State) : Host.Outcome State Fault Refusal := .next (aluI k 6 false o s)

/-- SHI: IMM16[6:5] selects SHL, SHR, SAR or ROR by IMM16[4:0]; IMM16[15:7] must be 0. -/
def execShi (k : Nvc) (o : AluI) (s : State) : Host.Outcome State Fault Refusal :=
  let i := o.imm.toNat
  .next (aluI { k with reserved := k.reserved || decide (128 ≤ i) } (8 + i / 32 % 4) false { o with imm := BitVec.ofNat 16 (i % 32) } s)

/-- MOVI, MOVHI: the ra field must be 0; not repeatable. -/
def moveImm (k : Nvc) (o : AluI) (f : Word → Word) (s : State) : State :=
  runInstr { k with reserved := k.reserved || o.ra.val != 0 } 1 false (plainOp (fun x =>
    let r := logicOut (f (wreg x o.rd))
    setFlags (if o.nd then x else setWreg x o.rd r.value) o.s r)) s
def execMovi (k : Nvc) (o : AluI) (s : State) : Host.Outcome State Fault Refusal := .next (moveImm k o (fun _ => sextImm 16 o.imm.toNat) s)
def execMovhi (k : Nvc) (o : AluI) (s : State) : Host.Outcome State Fault Refusal :=
  .next (moveImm k o (fun w => BitVec.ofNat 32 (o.imm.toNat * 2 ^ 16 + w.toNat % 2 ^ 16)) s)

/-! ### Loads and stores -/

/-- The post-modify that an access asks for, judged before the access so that a broken one leaves no effect. -/
def postOf (x : CoreState) (p : Option Nat) : Option CoreState :=
  match p with
  | none => some x
  | some p => (postModify (preg x p)).map (setPreg x p)

/-- A format-M load of n bytes, sign-extended or not. -/
def loadOp (sv : Option (Fin 32)) (n : Nat) (signed : Bool) (o : MemM) : State → Nat → NvcRes := fun s c =>
  match memAddr (core s c) o.p o.am.toNat o.imm.toNat with
  | .illegal => .exc s 0 1 0
  | .at a post => match dataFault s c sv a n false with
    | some e => refusedAccess s c sv a false e
    | none =>
      let q := coreLoad s c a n
      match postOf (core q.2 c) post with
      | none => .exc s 3 2 a
      | some x => .done (setCore q.2 c (advance (setWreg x o.rd (if signed then sextImm (8 * n) q.1 else BitVec.ofNat 32 q.1))))

/-- A format-M store of the low n bytes of rd. -/
def storeOp (sv : Option (Fin 32)) (n : Nat) (o : MemM) : State → Nat → NvcRes := fun s c =>
  match memAddr (core s c) o.p o.am.toNat o.imm.toNat with
  | .illegal => .exc s 0 1 0
  | .at a post => match dataFault s c sv a n true with
    | some e => refusedAccess s c sv a true e
    | none => match postOf (core s c) post with
      | none => .exc s 3 2 a
      | some x => .done (onCore (coreStore (setCore s c x) c a n (wreg (core s c) o.rd).toNat) c advance)

def execLdw (k : Nvc) (o : MemM) (s : State) : Host.Outcome State Fault Refusal := .next (runInstr k 1 true (loadOp k.serving 4 false o) s)
def execLdh (k : Nvc) (o : MemM) (s : State) : Host.Outcome State Fault Refusal := .next (runInstr k 1 true (loadOp k.serving 2 false o) s)
def execLdhs (k : Nvc) (o : MemM) (s : State) : Host.Outcome State Fault Refusal := .next (runInstr k 1 true (loadOp k.serving 2 true o) s)
def execLdb (k : Nvc) (o : MemM) (s : State) : Host.Outcome State Fault Refusal := .next (runInstr k 1 true (loadOp k.serving 1 false o) s)
def execLdbs (k : Nvc) (o : MemM) (s : State) : Host.Outcome State Fault Refusal := .next (runInstr k 1 true (loadOp k.serving 1 true o) s)
def execStw (k : Nvc) (o : MemM) (s : State) : Host.Outcome State Fault Refusal := .next (runInstr k 1 true (storeOp k.serving 4 o) s)
def execSth (k : Nvc) (o : MemM) (s : State) : Host.Outcome State Fault Refusal := .next (runInstr k 1 true (storeOp k.serving 2 o) s)
def execStb (k : Nvc) (o : MemM) (s : State) : Host.Outcome State Fault Refusal := .next (runInstr k 1 true (storeOp k.serving 1 o) s)

/-! ### Pointers -/

/-- A pointer with field F set; none for 5 to 7. -/
def setField (q : Pointer) (f : Nat) (v : Word) : Option Pointer :=
  if f = 0 then some { q with pa := v } else if f = 1 then some { q with pm := v } else if f = 2 then some { q with pb := v }
  else if f = 3 then some { q with pl := v } else if f = 4 then some { q with mode := v.toNat % 4 } else none
/-- Field F of a pointer. -/
def getField (q : Pointer) (f : Nat) : Option Word :=
  if f = 0 then some q.pa else if f = 1 then some q.pm else if f = 2 then some q.pb
  else if f = 3 then some q.pl else if f = 4 then some (BitVec.ofNat 32 q.mode) else none

/-- PSET: field F of p := w. -/
def execPset (k : Nvc) (w : Fin 16) (p : Fin 8) (f : BitVec 3) (s : State) : Host.Outcome State Fault Refusal :=
  .next (runInstr k 1 false (fun s c => match setField (preg (core s c) p) f.toNat (wreg (core s c) w) with
    | none => .exc s 0 1 0
    | some q => .done (setCore s c (advance (setPreg (core s c) p q)))) s)
/-- PGET: w := field F of p. -/
def execPget (k : Nvc) (w : Fin 16) (p : Fin 8) (f : BitVec 3) (s : State) : Host.Outcome State Fault Refusal :=
  .next (runInstr k 1 false (fun s c => match getField (preg (core s c) p) f.toNat with
    | none => .exc s 0 1 0
    | some v => .done (setCore s c (advance (setWreg (core s c) w v)))) s)
/-- PADD: the post-modify of p without access. -/
def execPadd (k : Nvc) (p : Fin 8) (s : State) : Host.Outcome State Fault Refusal :=
  .next (runInstr k 1 true (fun s c => match postOf (core s c) (some p) with
    | none => .exc s 3 2 0
    | some x => .done (setCore s c (advance x))) s)
/-- MOVP: the word at ps to pd; both are post-modified. -/
def execMovp (k : Nvc) (pd ps : Fin 8) (s : State) : Host.Outcome State Fault Refusal :=
  .next (runInstr k 2 true (fun s c =>
    let src := (preg (core s c) ps).pa
    let dst := (preg (core s c) pd).pa
    match dataFault s c k.serving src 4 false, dataFault s c k.serving dst 4 true with
    | some e, _ => refusedAccess s c k.serving src false e
    | none, some e => refusedAccess s c k.serving dst true e
    | none, none => match postOf (core s c) (some ps.val) with
      | none => .exc s 3 2 src
      | some x => match postOf x (some pd.val) with
        | none => .exc s 3 2 dst
        | some y =>
          let q := coreLoad s c src 4
          .done (onCore (coreStore (onCore q.2 c (fun z => { z with ptr := y.ptr })) c dst 4 q.1) c advance)) s)

/-! ### Data stack (R219) -/

/-- Push the words of registers, the first of the list at the highest address, checking the whole transfer first. -/
def pushOp (sv : Option (Fin 32)) (rs : List Nat) : State → Nat → NvcRes := fun s c =>
  let x := core s c
  let n := 4 * rs.length
  let lo := x.dsp.toNat - n
  if x.dsp.toNat < n ∨ lo < x.dslim.toNat then .exc s 6 1 0
  else match (List.range rs.length).findSome? (fun i => (dataFault s c sv (BitVec.ofNat 32 (lo + 4 * i)) 4 true).map (fun e => (e, lo + 4 * i))) with
    | some (e, a) => refusedAccess s c sv (BitVec.ofNat 32 a) true e
    | none =>
      let s1 := rs.zipIdx.foldl (fun s e => coreStore s c (BitVec.ofNat 32 (x.dsp.toNat - 4 * (e.2 + 1))) 4 (wreg x e.1).toNat) s
      .done (onCore s1 c (fun y => advance { y with dsp := BitVec.ofNat 32 lo }))

/-- Pop words into registers, the first of the list from the lowest address. -/
def popOp (sv : Option (Fin 32)) (rs : List Nat) : State → Nat → NvcRes := fun s c =>
  let x := core s c
  let n := 4 * rs.length
  if x.dstop.toNat < x.dsp.toNat + n then .exc s 6 1 0
  else match (List.range rs.length).findSome? (fun i => (dataFault s c sv (x.dsp + BitVec.ofNat 32 (4 * i)) 4 false).map (fun e => (e, x.dsp + BitVec.ofNat 32 (4 * i)))) with
    | some (e, a) => refusedAccess s c sv a false e
    | none =>
      let s1 := rs.zipIdx.foldl (fun s e =>
        let q := coreLoad s c (x.dsp + BitVec.ofNat 32 (4 * e.2)) 4
        onCore q.2 c (fun y => setWreg y e.1 (BitVec.ofNat 32 q.1))) s
      .done (onCore s1 c (fun y => advance { y with dsp := x.dsp + BitVec.ofNat 32 n }))

/-- Registers of a mask, lowest first. -/
def maskRegs (m : BitVec 16) : List Nat := (List.range 16).filter (fun i => m.toNat.testBit i)

def execPush (k : Nvc) (w : Fin 16) (s : State) : Host.Outcome State Fault Refusal := .next (runInstr k 1 false (pushOp k.serving [w]) s)
def execPop (k : Nvc) (w : Fin 16) (s : State) : Host.Outcome State Fault Refusal := .next (runInstr k 1 false (popOp k.serving [w]) s)
/-- PUSHM: highest register first. -/
def execPushm (k : Nvc) (mask : BitVec 16) (s : State) : Host.Outcome State Fault Refusal :=
  .next (runInstr k (maskRegs mask).length false (pushOp k.serving (maskRegs mask).reverse) s)
/-- POPM: lowest register first. -/
def execPopm (k : Nvc) (mask : BitVec 16) (s : State) : Host.Outcome State Fault Refusal :=
  .next (runInstr k (maskRegs mask).length false (popOp k.serving (maskRegs mask)) s)

/-! ### Branches, calls and returns -/

/-- The state with the core's PC set. -/
def jumpTo (s : State) (c : Nat) (pc : Word) : State := onCore s c (fun x => { x with pc := pc })

/-- B (Table NVC-12): two cycles if taken; the two illegal conditions raise exception 0. -/
def execB (k : Nvc) (cond : BitVec 4) (off : BitVec 22) (s : State) : Host.Outcome State Fault Refusal :=
  .next (runInstr k 1 false (fun s c => match condHolds (core s c) cond.toNat with
    | none => .exc s 0 1 0
    | some true => .done (spend (jumpTo s c ((core s c).pc + BitVec.ofInt 32 (4 * sext 22 off.toNat))) c 1)
    | some false => .done (onCore s c advance)) s)
/-- JMP. -/
def execJmp (k : Nvc) (off : BitVec 26) (s : State) : Host.Outcome State Fault Refusal :=
  .next (runInstr k 2 false (fun s c => .done (jumpTo s c ((core s c).pc + BitVec.ofInt 32 (4 * sext 26 off.toNat)))) s)

/-- A call: its entry is pushed (a full stack is a double fault), PC moves, and exception 4 may follow (R220 to R222). -/
def callTo (s : State) (c : Nat) (target : Word) : State :=
  let x := core s c
  if 32 ≤ rscnt x then haltCore s c 2
  else
    let e : RsEntry := { handler := false, rep := false, repi := false, count := 0, lvl := 0, ie := false, flags := 0, pcw := (x.pc + 4).toNat / 4 % 2 ^ 28 }
    spillCheck (setCore s c { x with rs := e :: x.rs, pc := target }) c (inSpillFill x)

def execCall (k : Nvc) (off : BitVec 26) (s : State) : Host.Outcome State Fault Refusal :=
  .next (runInstr k 2 false (fun s c => .done (callTo s c ((core s c).pc + BitVec.ofInt 32 (4 * sext 26 off.toNat)))) s)
/-- CALLR: the target's low two bits must be 0. -/
def execCallr (k : Nvc) (w : Fin 16) (s : State) : Host.Outcome State Fault Refusal :=
  .next (runInstr k 2 false (fun s c =>
    if aligned (wreg (core s c) w) 4 then .done (callTo s c (wreg (core s c) w)) else .exc s 3 1 (wreg (core s c) w)) s)
def execJmpr (k : Nvc) (w : Fin 16) (s : State) : Host.Outcome State Fault Refusal :=
  .next (runInstr k 2 false (fun s c =>
    if aligned (wreg (core s c) w) 4 then .done (jumpTo s c (wreg (core s c) w)) else .exc s 3 1 (wreg (core s c) w)) s)

/-- A return pops an entry of its kind; an empty stack with spilled entries raises exception 5 first, without any raises exception 0. -/
def returnOp (handler : Bool) (f : CoreState → RsEntry → CoreState) : State → Nat → NvcRes := fun s c =>
  let x := core s c
  match x.rs with
  | [] => if x.rsspill = 0 then .exc s 0 4 0 else .exc s 5 0 0
  | e :: rest => if e.handler = handler then .done (setCore s c (f { x with rs := rest } e)) else .exc s 0 4 0

def execRet (k : Nvc) (s : State) : Host.Outcome State Fault Refusal :=
  .next (runInstr k 2 false (returnOp false (fun x e => { x with pc := BitVec.ofNat 32 (4 * e.pcw) })) s)
/-- RETI restores PC, N, Z, C, V, IE, LVL and any repeat. -/
def execReti (k : Nvc) (s : State) : Host.Outcome State Fault Refusal :=
  .next (runInstr k 3 false (returnOp true (fun x e =>
    withFlags { x with pc := BitVec.ofNat 32 (4 * e.pcw), ie := e.ie, lvl := e.lvl, rep := e.rep, repi := e.repi, rptcnt := e.count,
                       handlers := x.handlers.drop 1 } e.flags)) s)

/-! ### Repeats, control registers, system -/

/-- REP and REPI: the next instruction runs COUNT times; COUNT 0 skips it; SRC = 1 takes w[15:0] and needs COUNT = 0 (R223). -/
def repeatOp (repi src : Bool) (w : Nat) (count : Nat) : State → Nat → NvcRes := fun s c =>
  let x := core s c
  if src && count != 0 then .exc s 0 1 0
  else
    let n := if src then (wreg x w).toNat % 0x10000 else count
    .done (setCore s c (if n = 0 then { x with pc := x.pc + 8 } else { x with pc := x.pc + 4, rep := true, repi := repi, rptcnt := n }))
def execRep (k : Nvc) (src : Bool) (w : Fin 16) (count : BitVec 16) (s : State) : Host.Outcome State Fault Refusal :=
  .next (runInstr k 1 false (repeatOp false src w count.toNat) s)
def execRepi (k : Nvc) (src : Bool) (w : Fin 16) (count : BitVec 16) (s : State) : Host.Outcome State Fault Refusal :=
  .next (runInstr k 1 false (repeatOp true src w count.toNat) s)

/-- STATUS (Table NVC-4). -/
def statusWord (x : CoreState) : Word :=
  BitVec.ofNat 32 (2048 * boolNat x.rep + 32 * x.lvl + 16 * boolNat x.ie + flagBits x)

/-- The value of a control register; none for a WO index (R216).  Reserved indices read 0. -/
def readControl (c : Nat) (x : CoreState) (i : Nat) : Option Word :=
  if i = 0 then some (statusWord x) else if i = 1 then some x.dsp else if i = 2 then some x.dslim else if i = 3 then some x.dstop
  else if i = 4 then some (BitVec.ofNat 32 (rscnt x)) else if i = 5 then some (BitVec.ofNat 32 x.rshi) else if i = 6 then some x.rsbase
  else if i = 7 then some (BitVec.ofNat 32 x.rslen) else if i = 8 then some (BitVec.ofNat 32 x.rsspill)
  else if i = 9 then some (BitVec.ofNat 32 x.xcause) else if i = 10 then some x.xaddr else if i = 11 then some x.vbase
  else if i = 12 then some x.imask else if i = 13 then some x.pend else if i = 14 then some (BitVec.ofNat 32 x.rptcnt)
  else if i = 15 then some (lo32 x.cyc) else if i = 16 then some x.cychi else if i = 17 then none
  else if i = 18 then some (BitVec.ofNat 32 c) else if i = 19 then some (BitVec.ofNat 32 x.fabbase)
  else if 32 ≤ i then some (if i % 2 = 0 then (mapGet (0, 0) x.mpu ((i - 32) / 2)).1 else (mapGet (0, 0) x.mpu ((i - 32) / 2)).2)
  else some 0

/-- The core with a control register written; none where MTC is not permitted (RO and reserved indices).  WDKICK is separate. -/
def writeControl (x : CoreState) (i : Nat) (v : Word) : Option CoreState :=
  if i = 0 then some { withFlags x (v.toNat % 16) with ie := bit v 4 }
  else if i = 1 then some { x with dsp := v } else if i = 2 then some { x with dslim := v } else if i = 3 then some { x with dstop := v }
  else if i = 5 then some (if 1 ≤ v.toNat ∧ v.toNat ≤ 29 then { x with rshi := v.toNat } else x)
  else if i = 6 then some { x with rsbase := setFld v 2 0 0 }
  else if i = 7 then some (if v.toNat ≤ 4096 then { x with rslen := v.toNat } else x)
  else if i = 11 then some { x with vbase := setFld (setFld v 8 0 0) 31 16 0 }
  else if i = 12 then some { x with imask := setFld v 7 0 0 }
  else if i = 17 then some (if v.toNat = 0xA5C3 then { x with wdogHalf := false, pend := setBit x.pend 9 false } else x)
  else if i = 19 then some { x with fabbase := v.toNat % 512 }
  else none

/-- MFC: reading CYCLO latches CYCHI. -/
def execMfc (k : Nvc) (w : Fin 16) (index : BitVec 6) (s : State) : Host.Outcome State Fault Refusal :=
  .next (runInstr k 1 false (fun s c =>
    let x := core s c
    match readControl c x index.toNat with
    | none => .exc s 0 2 0
    | some v => .done (setCore s c (advance (setWreg (if index.toNat = 15 then { x with cychi := hi32 x.cyc } else x) w v)))) s)
/-- MTC: index 0 writes N, Z, C, V and IE; index 17 kicks the watchdog (R235). -/
def execMtc (k : Nvc) (w : Fin 16) (index : BitVec 6) (s : State) : Host.Outcome State Fault Refusal :=
  .next (runInstr k 1 false (fun s c =>
    let x := core s c
    match writeControl x index.toNat (wreg x w) with
    | none => .exc s 0 2 0
    | some y => .done (setCore s c (advance y))) s)

/-- TRAP: exception 7 with the code as its cause. -/
def execTrap (k : Nvc) (code : Byte) (s : State) : Host.Outcome State Fault Refusal :=
  .next (runInstr k 3 false (fun s c => .done (raise s c 7 code.toNat 0)) s)

/-- WFI (R227): the core waits unless an enabled bit is pending. -/
def execWfi (k : Nvc) (s : State) : Host.Outcome State Fault Refusal :=
  .next (runInstr k 1 false (fun s c =>
    let s1 := onCore s c advance
    .done (if ((core s c).pend &&& (core s c).imask) = 0 then setNvState s1 c nvWfi else s1)) s)

/-- FENCE (R214): earlier stores have reached their targets in this model as they issue. -/
def execFence (k : Nvc) (s : State) : Host.Outcome State Fault Refusal := .next (runInstr k 1 false (plainOp id) s)
/-- NOP. -/
def execNop (k : Nvc) (s : State) : Host.Outcome State Fault Refusal := .next (runInstr k 1 true (plainOp id) s)

/-- The 64 bits of a return-stack entry (Table NVC-6). -/
def entryBits (e : RsEntry) : Nat :=
  boolNat e.handler * 2 ^ 57 + boolNat e.rep * 2 ^ 56 + boolNat e.repi * 2 ^ 55 + e.count * 2 ^ 39 + e.lvl * 2 ^ 33
    + boolNat e.ie * 2 ^ 32 + e.flags * 2 ^ 28 + e.pcw
/-- An entry from its 64 bits. -/
def entryOf (v : Nat) : RsEntry :=
  { handler := v.testBit 57, rep := v.testBit 56, repi := v.testBit 55, count := v / 2 ^ 39 % 2 ^ 16, lvl := v / 2 ^ 33 % 64,
    ie := v.testBit 32, flags := v / 2 ^ 28 % 16, pcw := v % 2 ^ 28 }

/-- Checks of an 8-byte spill-area access as two words. -/
def spillFault (s : State) (c : Nat) (sv : Option (Fin 32)) (a : Word) (write : Bool) : Option (Nat × Nat) :=
  match dataFault s c sv a 4 write with
  | some e => some e
  | none => dataFault s c sv (a + 4) 4 write

/-- SPILL: the oldest entry goes to RSBASE + 8 × RSSPILL; passing RSLEN, or an empty stack, raises exception 6 (R221). -/
def execSpill (k : Nvc) (s : State) : Host.Outcome State Fault Refusal :=
  .next (runInstr k 3 false (fun s c =>
    let x := core s c
    let a := x.rsbase + BitVec.ofNat 32 (8 * x.rsspill)
    match x.rs.getLast? with
    | none => .exc s 6 2 0
    | some e =>
      if x.rslen ≤ x.rsspill then .exc s 6 2 0
      else match spillFault s c k.serving a true with
        | some e => refusedAccess s c k.serving a true e
        | none =>
          let s1 := coreStore (coreStore s c a 4 (entryBits e)) c (a + 4) 4 (entryBits e / 2 ^ 32)
          .done (onCore s1 c (fun y => advance { y with rs := y.rs.dropLast, rsspill := y.rsspill + 1 }))) s)
/-- FILL: the entry last spilled comes back beneath the oldest held; passing 0 raises exception 6, and a 33rd entry is a double fault (R220, R222; DEDUCED, log entry 126). -/
def execFill (k : Nvc) (s : State) : Host.Outcome State Fault Refusal :=
  .next (runInstr k 3 false (fun s c =>
    let x := core s c
    let a := x.rsbase + BitVec.ofNat 32 (8 * (x.rsspill - 1))
    if x.rsspill = 0 then .exc s 6 2 0
    else if 32 ≤ rscnt x then .done (haltCore s c 2)
    else match spillFault s c k.serving a false with
      | some e => refusedAccess s c k.serving a false e
      | none =>
        let lo := coreLoad s c a 4
        let hi := coreLoad lo.2 c (a + 4) 4
        .done (onCore hi.2 c (fun y => advance { y with rs := y.rs ++ [entryOf (lo.1 + 2 ^ 32 * hi.1)], rsspill := y.rsspill - 1 }))) s)

/-! ### Custom instructions (R232 to R234) -/

/-- A CUSTOM in progress: the core's registers as they would commit, the temporaries, and the operand fields. -/
structure Micro where
  x : CoreState
  t : List (Nat × Word)
  rd : Nat
  ra : Nat
  rb : Nat
  imm : Nat
  mask : Nat
  deriving DecidableEq, Repr

/-- The value of an operand select; 0x8 only as an address. -/
def microSrc (m : Micro) (addr : Bool) (sel : Nat) : Option Word :=
  if sel = 0 then some (wreg m.x m.rd) else if sel = 1 then some (wreg m.x m.ra) else if sel = 2 then some (wreg m.x m.rb)
  else if sel = 3 then some (BitVec.ofNat 32 m.imm) else if sel ≤ 7 then some (mapGet 0 m.t sel)
  else if sel = 8 ∧ addr then some (preg m.x (m.ra % 8)).pa else none
/-- A result stored under an operand select. -/
def microDst (m : Micro) (sel : Nat) (v : Word) : Option Micro :=
  if sel = 0 then some { m with x := setWreg m.x m.rd v } else if sel = 1 then some { m with x := setWreg m.x m.ra v }
  else if sel = 2 then some { m with x := setWreg m.x m.rb v }
  else if 4 ≤ sel ∧ sel ≤ 7 then some { m with t := mapInsert m.t sel v } else none

/-- What one microword does: the next state of memory and of the instruction with the next address, or an exception. -/
inductive MicroRes where
  | go (s : State) (m : Micro) (next : Nat)
  | exc (s : State) (v cause : Nat) (addr : Word)

/-- An illegal microword. -/
def microBad (s : State) : MicroRes := .exc s 0 3 0

/-- An ALU microword: FUNC on SRCA and SRCB, or on SRCA and IMM16, sign-extended for the four additive functions (log entry 32). -/
def microAlu (s : State) (m : Micro) (at_ f dst : Nat) (a b : Option Word) (fl : Bool) : MicroRes :=
  match a, b with
  | some a, some b =>
    let r := aluFunc f m.x.c a b
    match microDst m dst r.value with
    | some m1 => .go s (if fl then { m1 with x := setFlagsMasked m1.x m1.mask r } else m1) (at_ + 1)
    | none => microBad s
  | _, _ => microBad s

/-- One microword (Table NVC-14). -/
def microStep (s : State) (c : Nat) (sv : Option (Fin 32)) (m : Micro) (a : Nat) : MicroRes :=
  let w := (mapGet 0 (core s c).micro a).toNat
  let uop := w / 2 ^ 60
  let f := w / 2 ^ 56 % 16
  let dst := w / 2 ^ 52 % 16
  let sa := w / 2 ^ 48 % 16
  let sb := w / 2 ^ 44 % 16
  let fl := w.testBit 43
  let imm := w % 2 ^ 16
  if w / 2 ^ 16 % 2 ^ 16 ≠ 0 then microBad s
  else if uop = 0 then microAlu s m a f dst (microSrc m false sa) (microSrc m false sb) fl
  else if uop = 1 then microAlu s m a f dst (microSrc m false sa) (some (if f < 4 then sextImm 16 imm else BitVec.ofNat 32 imm)) fl
  else if uop = 2 then
    let n := if f = 0 then 4 else if f = 1 then 2 else 1
    match microSrc m true sa with
    | none => microBad s
    | some ad =>
      if 3 < f then microBad s
      else match dataFault s c sv ad n false with
        | some e => .exc (noteRefusal s c sv ad false e) e.1 e.2 ad
        | none =>
          let q := coreLoad s c ad n
          match microDst m dst (if f = 3 then sextImm 8 q.1 else BitVec.ofNat 32 q.1) with
          | some m1 => .go q.2 m1 (a + 1)
          | none => microBad s
  else if uop = 3 then
    let n := if f = 0 then 4 else if f = 1 then 2 else 1
    match microSrc m true sa, microSrc m false sb with
    | some ad, some v =>
      if 2 < f then microBad s
      else match dataFault s c sv ad n true with
        | some e => .exc (noteRefusal s c sv ad true e) e.1 e.2 ad
        | none => .go (coreStore s c ad n v.toNat) m (a + 1)
    | _, _ => microBad s
  else if uop = 4 then
    match postModify (preg m.x (m.ra % 8)) with
    | some q => .go s { m with x := setPreg m.x (m.ra % 8) q } (a + 1)
    | none => .exc s 3 2 0
  else if uop = 5 then
    let target := w / 2 ^ 33 % 1024
    if f = 15 then .go s m target
    else match condHolds m.x f with
      | some true => .go s m target
      | some false => .go s m (a + 1)
      | none => microBad s
  else microBad s

/-- Microwords from an address on, at most n; the registers, pointers and flags commit after the LAST (R233, R234). -/
def runMicro : Nat → State → Nat → Option (Fin 32) → Micro → Nat → Nat → State ⊕ (State × Nat × Nat × Word)
  | 0, s, _, _, _, _, _ => .inr (s, 0, 3, 0)
  | n + 1, s, c, sv, m, a, used =>
    let last := (mapGet 0 (core s c).micro (a % 1024)).toNat.testBit 32
    match microStep s c sv m (a % 1024) with
    | .exc s1 v k ad => .inr (s1, v, k, ad)
    | .go s1 m1 nx =>
      if last then
        .inl (spend (onCore s1 c (fun y => advance { y with w := m1.x.w, ptr := m1.x.ptr, n := m1.x.n, z := m1.x.z, c := m1.x.c, v := m1.x.v })) c (used + 1))
      else runMicro n s1 c sv m1 nx (used + 1)

/-- CUSTOM: the microcode of decode-table entry INDEX; a disabled entry raises exception 0 with cause 0x03, and one without REPOK may not follow a
prefix.  Stores made before an exception stay made. -/
def execCustom (k : Nvc) (index rd ra rb : Fin 16) (imm : BitVec 10) (s : State) : Host.Outcome State Fault Refusal :=
  let c := k.core.val
  let e := mapGet 0 (core s c).decode index
  let m : Micro := { x := core s c, t := [], rd := rd, ra := ra, rb := rb, imm := imm.toNat, mask := fld e 29 26 }
  .next (runInstr k 1 (bit e 30) (fun s c =>
    if !bit e 31 then .exc s 0 3 0
    else match runMicro 64 s c k.serving m (fld e 9 0) 0 with
      | .inl s1 => .done s1
      | .inr (s1, v, q, a) => .done (raise s1 c v q a)) s)

/-! ### Interrupts, waits and the watchdog -/

/-- The lowest eligible vector (R226). -/
def eligible (x : CoreState) : Option Nat :=
  if !x.ie then none
  else (List.range 32).find? (fun v => decide (8 ≤ v) && bit x.imask v && bit x.pend v && decide (v < x.lvl))

/-- INTERRUPT_ENTRY (R224, R226, R237): the lowest eligible vector is taken, not within a REP; a full return stack is a double fault, and the push may
raise a spill.  Its source holds the vector pending until the handler clears it there. -/
def execInterruptEntry (c : Fin 24) (s : State) : Host.Outcome State Fault Refusal :=
  let x := core s c
  .next (if nvState s c ≠ nvRun then s
    else match eligible x with
      | none => s
      | some v =>
        if x.rep && !x.repi then s
        else if 32 ≤ rscnt x then haltCore s c 2
        else
          spillCheck (setCore s c (enterVector x v x.pc)) c (inSpillFill x))

/-- WFI_RESUME (R227): with an enabled bit pending the core runs again; if IE is 1 the interrupt is taken. -/
def execWfiResume (c : Fin 24) (s : State) : Host.Outcome State Fault Refusal :=
  let x := core s c
  if nvState s c = nvWfi ∧ (x.pend &&& x.imask) ≠ 0 then execInterruptEntry c (setNvState s c nvRun) else .next s

/-- WATCHDOG_WARNING (R235): half the period without a kick. -/
def execWatchdogWarning (c : Fin 24) (s : State) : Host.Outcome State Fault Refusal :=
  .next (if wdogRuns s c then coreIrq (onCore s c (fun x => { x with wdogHalf := true })) c 9 else s)

/-- CORE_TIMER_EXPIRY (Table NVC-7, R227): vector 8 becomes pending. -/
def execCoreTimerExpiry (c : Fin 24) (s : State) : Host.Outcome State Fault Refusal :=
  .next (if wdogRuns s c then coreIrq s c 8 else s)

end Sys2Proof.Machine
end

