-- ==== Sys2Proof/Machine/Dispatch.lean ====
section
/-! DEFINITION. The dispatch: one arm per command. -/
namespace Sys2Proof.Machine

def exec (i : Instr) (s : State) : Host.Outcome State Fault Refusal :=
  match i with
  | .laserLoss x0 => Sys2Proof.Machine.execLaserLoss x0 s
  | .supplyWarning x0 x1 => Sys2Proof.Machine.execSupplyWarning x0 x1 s
  | .halvingEnd x0 => Sys2Proof.Machine.execHalvingEnd x0 s
  | .supplyReset x0 x1 => Sys2Proof.Machine.execSupplyReset x0 x1 s
  | .retentionLoss x0 => Sys2Proof.Machine.execRetentionLoss x0 s
  | .thermalLevelChange x0 => Sys2Proof.Machine.execThermalLevelChange x0 s
  | .hot x0 => Sys2Proof.Machine.execHot x0 s
  | .hotEnd x0 => Sys2Proof.Machine.execHotEnd x0 s
  | .thermalTrip x0 => Sys2Proof.Machine.execThermalTrip x0 s
  | .thermtripRelease => Sys2Proof.Machine.execThermtripRelease s
  | .referenceLost x0 => Sys2Proof.Machine.execReferenceLost x0 s
  | .referenceBack => Sys2Proof.Machine.execReferenceBack s
  | .clockReadyDrop x0 => Sys2Proof.Machine.execClockReadyDrop x0 s
  | .avsAck x0 => Sys2Proof.Machine.execAvsAck x0 s
  | .avsTimeout x0 => Sys2Proof.Machine.execAvsTimeout x0 s
  | .lpxRateChange x0 x1 => Sys2Proof.Machine.execLpxRateChange x0 x1 s
  | .wakeGrant x0 x1 => Sys2Proof.Machine.execWakeGrant x0 x1 s
  | .wakeTokenReturn => Sys2Proof.Machine.execWakeTokenReturn s
  | .groupAwake x0 x1 x2 => Sys2Proof.Machine.execGroupAwake x0 x1 x2 s
  | .loadiv x0 x1 x2 x3 => Sys2Proof.Machine.execLoadiv x0 x1 x2 x3 s
  | .launch x0 x1 x2 x3 => Sys2Proof.Machine.execLaunch x0 x1 x2 x3 s
  | .rlaunch x0 x1 x2 x3 => Sys2Proof.Machine.execRlaunch x0 x1 x2 x3 s
  | .collect x0 x1 x2 => Sys2Proof.Machine.execCollect x0 x1 x2 s
  | .rcollect x0 x1 x2 => Sys2Proof.Machine.execRcollect x0 x1 x2 s
  | .mvmComplete x0 x1 x2 x3 => Sys2Proof.Machine.execMvmComplete x0 x1 x2 x3 s
  | .weightWriteOpen x0 x1 x2 x3 x4 x5 => Sys2Proof.Machine.execWeightWriteOpen x0 x1 x2 x3 x4 x5 s
  | .weightRowWrite x0 x1 x2 x3 x4 => Sys2Proof.Machine.execWeightRowWrite x0 x1 x2 x3 x4 s
  | .weightWriteClose x0 x1 x2 => Sys2Proof.Machine.execWeightWriteClose x0 x1 x2 s
  | .fallowReq x0 x1 x2 => Sys2Proof.Machine.execFallowReq x0 x1 x2 s
  | .retiredNext x0 x1 x2 => Sys2Proof.Machine.execRetiredNext x0 x1 x2 s
  | .vecFma x0 x1 => Sys2Proof.Machine.execVecFma x0 x1 s
  | .vecAdd x0 x1 => Sys2Proof.Machine.execVecAdd x0 x1 s
  | .vecMul x0 x1 => Sys2Proof.Machine.execVecMul x0 x1 s
  | .max x0 x1 => Sys2Proof.Machine.execMax x0 x1 s
  | .min x0 x1 => Sys2Proof.Machine.execMin x0 x1 s
  | .cvt x0 x1 => Sys2Proof.Machine.execCvt x0 x1 s
  | .func x0 x1 => Sys2Proof.Machine.execFunc x0 x1 s
  | .rsum x0 x1 => Sys2Proof.Machine.execRsum x0 x1 s
  | .rmax x0 x1 => Sys2Proof.Machine.execRmax x0 x1 s
  | .mxenc x0 x1 => Sys2Proof.Machine.execMxenc x0 x1 s
  | .mxdec x0 x1 => Sys2Proof.Machine.execMxdec x0 x1 s
  | .route x0 x1 => Sys2Proof.Machine.execRoute x0 x1 s
  | .sample x0 x1 => Sys2Proof.Machine.execSample x0 x1 s
  | .mma x0 x1 x2 => Sys2Proof.Machine.execMma x0 x1 x2 s
  | .mmaz x0 x1 x2 => Sys2Proof.Machine.execMmaz x0 x1 x2 s
  | .drain x0 x1 x2 x3 x4 => Sys2Proof.Machine.execDrain x0 x1 x2 x3 x4 s
  | .ld x0 x1 x2 x3 x4 => Sys2Proof.Machine.execLd x0 x1 x2 x3 x4 s
  | .st x0 x1 x2 x3 x4 => Sys2Proof.Machine.execSt x0 x1 x2 x3 x4 s
  | .cpy x0 x1 x2 x3 x4 => Sys2Proof.Machine.execCpy x0 x1 x2 x3 x4 s
  | .ctlWait x0 x1 => Sys2Proof.Machine.execCtlWait x0 x1 s
  | .loop x0 x1 => Sys2Proof.Machine.execLoop x0 x1 s
  | .endloop x0 => Sys2Proof.Machine.execEndloop x0 s
  | .seedld x0 x1 x2 x3 => Sys2Proof.Machine.execSeedld x0 x1 x2 x3 s
  | .fallow x0 x1 x2 x3 => Sys2Proof.Machine.execFallow x0 x1 x2 x3 s
  | .endOp x0 => Sys2Proof.Machine.execEndOp x0 s
  | .send x0 x1 => Sys2Proof.Machine.execSend x0 x1 s
  | .xngWait x0 x1 => Sys2Proof.Machine.execXngWait x0 x1 s
  | .lread x0 x1 => Sys2Proof.Machine.execLread x0 x1 s
  | .free x0 x1 => Sys2Proof.Machine.execFree x0 x1 s
  | .crossingReady x0 x1 x2 x3 x4 => Sys2Proof.Machine.execCrossingReady x0 x1 x2 x3 x4 s
  | .stepStart x0 x1 x2 x3 => Sys2Proof.Machine.execStepStart x0 x1 x2 x3 s
  | .leaderStart x0 x1 => Sys2Proof.Machine.execLeaderStart x0 x1 s
  | .markerStartReceived x0 x1 x2 => Sys2Proof.Machine.execMarkerStartReceived x0 x1 x2 s
  | .markerStopReceived x0 x1 x2 => Sys2Proof.Machine.execMarkerStopReceived x0 x1 x2 s
  | .markerTimeout x0 x1 => Sys2Proof.Machine.execMarkerTimeout x0 x1 s
  | .faultNotice x0 x1 => Sys2Proof.Machine.execFaultNotice x0 x1 s
  | .stepWatchdog x0 x1 => Sys2Proof.Machine.execStepWatchdog x0 x1 s
  | .hold x0 x1 => Sys2Proof.Machine.execHold x0 x1 s
  | .holdResume x0 => Sys2Proof.Machine.execHoldResume x0 s
  | .halt x0 x1 => Sys2Proof.Machine.execHalt x0 x1 s
  | .fgReq x0 => Sys2Proof.Machine.execFgReq x0 s
  | .recalReq x0 => Sys2Proof.Machine.execRecalReq x0 s
  | .foregroundCalComplete x0 x1 x2 => Sys2Proof.Machine.execForegroundCalComplete x0 x1 x2 s
  | .fallowWindow x0 x1 x2 => Sys2Proof.Machine.execFallowWindow x0 x1 x2 s
  | .measurementSet x0 x1 x2 => Sys2Proof.Machine.execMeasurementSet x0 x1 x2 s
  | .groupStale x0 x1 => Sys2Proof.Machine.execGroupStale x0 x1 s
  | .probationSet x0 x1 x2 => Sys2Proof.Machine.execProbationSet x0 x1 x2 s
  | .probationEnd x0 x1 => Sys2Proof.Machine.execProbationEnd x0 x1 s
  | .repairStart x0 x1 x2 => Sys2Proof.Machine.execRepairStart x0 x1 x2 s
  | .repairSegmentRead x0 x1 x2 => Sys2Proof.Machine.execRepairSegmentRead x0 x1 x2 s
  | .calstoreSave x0 x1 => Sys2Proof.Machine.execCalstoreSave x0 x1 s
  | .tileDegradedHold x0 => Sys2Proof.Machine.execTileDegradedHold x0 s
  | .scratchpadDmAccess x0 x1 x2 x3 x4 => Sys2Proof.Machine.execScratchpadDmAccess x0 x1 x2 x3 x4 s
  | .apertureAccess x0 x1 x2 x3 x4 x5 => Sys2Proof.Machine.execApertureAccess x0 x1 x2 x3 x4 x5 s
  | .apertureTimeout x0 x1 => Sys2Proof.Machine.execApertureTimeout x0 x1 s
  | .regionRegisterWrite x0 x1 x2 x3 x4 => Sys2Proof.Machine.execRegionRegisterWrite x0 x1 x2 x3 x4 s
  | .lpxRequest x0 x1 x2 x3 x4 => Sys2Proof.Machine.execLpxRequest x0 x1 x2 x3 x4 s
  | .regionEnable x0 x1 => Sys2Proof.Machine.execRegionEnable x0 x1 s
  | .regionDisable x0 x1 => Sys2Proof.Machine.execRegionDisable x0 x1 s
  | .patrolRead x0 x1 => Sys2Proof.Machine.execPatrolRead x0 x1 s
  | .dqsTracking x0 => Sys2Proof.Machine.execDqsTracking x0 s
  | .bar2Read x0 x1 x2 => Sys2Proof.Machine.execBar2Read x0 x1 x2 s
  | .bar2Write x0 x1 x2 => Sys2Proof.Machine.execBar2Write x0 x1 x2 s
  | .add x0 x1 => Sys2Proof.Machine.execAdd x0 x1 s
  | .adc x0 x1 => Sys2Proof.Machine.execAdc x0 x1 s
  | .sub x0 x1 => Sys2Proof.Machine.execSub x0 x1 s
  | .sbc x0 x1 => Sys2Proof.Machine.execSbc x0 x1 s
  | .and x0 x1 => Sys2Proof.Machine.execAnd x0 x1 s
  | .or x0 x1 => Sys2Proof.Machine.execOr x0 x1 s
  | .xor x0 x1 => Sys2Proof.Machine.execXor x0 x1 s
  | .andn x0 x1 => Sys2Proof.Machine.execAndn x0 x1 s
  | .shl x0 x1 => Sys2Proof.Machine.execShl x0 x1 s
  | .shr x0 x1 => Sys2Proof.Machine.execShr x0 x1 s
  | .sar x0 x1 => Sys2Proof.Machine.execSar x0 x1 s
  | .ror x0 x1 => Sys2Proof.Machine.execRor x0 x1 s
  | .mul x0 x1 => Sys2Proof.Machine.execMul x0 x1 s
  | .mulhu x0 x1 => Sys2Proof.Machine.execMulhu x0 x1 s
  | .mulhs x0 x1 => Sys2Proof.Machine.execMulhs x0 x1 s
  | .mov x0 x1 => Sys2Proof.Machine.execMov x0 x1 s
  | .addi x0 x1 => Sys2Proof.Machine.execAddi x0 x1 s
  | .subi x0 x1 => Sys2Proof.Machine.execSubi x0 x1 s
  | .andi x0 x1 => Sys2Proof.Machine.execAndi x0 x1 s
  | .ori x0 x1 => Sys2Proof.Machine.execOri x0 x1 s
  | .xori x0 x1 => Sys2Proof.Machine.execXori x0 x1 s
  | .shi x0 x1 => Sys2Proof.Machine.execShi x0 x1 s
  | .movi x0 x1 => Sys2Proof.Machine.execMovi x0 x1 s
  | .movhi x0 x1 => Sys2Proof.Machine.execMovhi x0 x1 s
  | .ldw x0 x1 => Sys2Proof.Machine.execLdw x0 x1 s
  | .ldh x0 x1 => Sys2Proof.Machine.execLdh x0 x1 s
  | .ldhs x0 x1 => Sys2Proof.Machine.execLdhs x0 x1 s
  | .ldb x0 x1 => Sys2Proof.Machine.execLdb x0 x1 s
  | .ldbs x0 x1 => Sys2Proof.Machine.execLdbs x0 x1 s
  | .stw x0 x1 => Sys2Proof.Machine.execStw x0 x1 s
  | .sth x0 x1 => Sys2Proof.Machine.execSth x0 x1 s
  | .stb x0 x1 => Sys2Proof.Machine.execStb x0 x1 s
  | .pset x0 x1 x2 x3 => Sys2Proof.Machine.execPset x0 x1 x2 x3 s
  | .pget x0 x1 x2 x3 => Sys2Proof.Machine.execPget x0 x1 x2 x3 s
  | .padd x0 x1 => Sys2Proof.Machine.execPadd x0 x1 s
  | .movp x0 x1 x2 => Sys2Proof.Machine.execMovp x0 x1 x2 s
  | .push x0 x1 => Sys2Proof.Machine.execPush x0 x1 s
  | .pushm x0 x1 => Sys2Proof.Machine.execPushm x0 x1 s
  | .pop x0 x1 => Sys2Proof.Machine.execPop x0 x1 s
  | .popm x0 x1 => Sys2Proof.Machine.execPopm x0 x1 s
  | .b x0 x1 x2 => Sys2Proof.Machine.execB x0 x1 x2 s
  | .call x0 x1 => Sys2Proof.Machine.execCall x0 x1 s
  | .callr x0 x1 => Sys2Proof.Machine.execCallr x0 x1 s
  | .jmpr x0 x1 => Sys2Proof.Machine.execJmpr x0 x1 s
  | .ret x0 => Sys2Proof.Machine.execRet x0 s
  | .reti x0 => Sys2Proof.Machine.execReti x0 s
  | .jmp x0 x1 => Sys2Proof.Machine.execJmp x0 x1 s
  | .rep x0 x1 x2 x3 => Sys2Proof.Machine.execRep x0 x1 x2 x3 s
  | .repi x0 x1 x2 x3 => Sys2Proof.Machine.execRepi x0 x1 x2 x3 s
  | .mfc x0 x1 x2 => Sys2Proof.Machine.execMfc x0 x1 x2 s
  | .mtc x0 x1 x2 => Sys2Proof.Machine.execMtc x0 x1 x2 s
  | .trap x0 x1 => Sys2Proof.Machine.execTrap x0 x1 s
  | .wfi x0 => Sys2Proof.Machine.execWfi x0 s
  | .wfiResume x0 => Sys2Proof.Machine.execWfiResume x0 s
  | .fence x0 => Sys2Proof.Machine.execFence x0 s
  | .spill x0 => Sys2Proof.Machine.execSpill x0 s
  | .fill x0 => Sys2Proof.Machine.execFill x0 s
  | .custom x0 x1 x2 x3 x4 x5 => Sys2Proof.Machine.execCustom x0 x1 x2 x3 x4 x5 s
  | .nop x0 => Sys2Proof.Machine.execNop x0 s
  | .interruptEntry x0 => Sys2Proof.Machine.execInterruptEntry x0 s
  | .watchdogWarning x0 => Sys2Proof.Machine.execWatchdogWarning x0 s
  | .watchdogExpiry x0 => Sys2Proof.Machine.execWatchdogExpiry x0 s
  | .wardenHaltResponse x0 => Sys2Proof.Machine.execWardenHaltResponse x0 s
  | .mailboxRequest x0 x1 => Sys2Proof.Machine.execMailboxRequest x0 x1 s
  | .mbxFfci x0 x1 => Sys2Proof.Machine.execMbxFfci x0 x1 s
  | .mbxReset x0 => Sys2Proof.Machine.execMbxReset x0 s
  | .hello x0 x1 x2 x3 => Sys2Proof.Machine.execHello x0 x1 x2 x3 s
  | .fwStage x0 x1 x2 x3 => Sys2Proof.Machine.execFwStage x0 x1 x2 x3 s
  | .fwActivate x0 => Sys2Proof.Machine.execFwActivate x0 s
  | .fwQuery x0 => Sys2Proof.Machine.execFwQuery x0 s
  | .liveUpdateSwitch x0 => Sys2Proof.Machine.execLiveUpdateSwitch x0 s
  | .liveUpdateTimeout x0 => Sys2Proof.Machine.execLiveUpdateTimeout x0 s
  | .fabricBroadcastFrame x0 x1 => Sys2Proof.Machine.execFabricBroadcastFrame x0 x1 s
  | .fabricBroadcastRepair x0 => Sys2Proof.Machine.execFabricBroadcastRepair x0 s
  | .distJoin x0 x1 x2 x3 x4 x5 => Sys2Proof.Machine.execDistJoin x0 x1 x2 x3 x4 x5 s
  | .distSend x0 x1 x2 x3 x4 x5 x6 => Sys2Proof.Machine.execDistSend x0 x1 x2 x3 x4 x5 x6 s
  | .distStatus x0 x1 => Sys2Proof.Machine.execDistStatus x0 x1 s
  | .distLeave x0 x1 => Sys2Proof.Machine.execDistLeave x0 x1 s
  | .distSourceSend x0 => Sys2Proof.Machine.execDistSourceSend x0 s
  | .distSeg x0 x1 x2 x3 x4 => Sys2Proof.Machine.execDistSeg x0 x1 x2 x3 x4 s
  | .distEnd x0 => Sys2Proof.Machine.execDistEnd x0 s
  | .distNack x0 x1 => Sys2Proof.Machine.execDistNack x0 x1 s
  | .distHave x0 x1 => Sys2Proof.Machine.execDistHave x0 x1 s
  | .distReq x0 x1 => Sys2Proof.Machine.execDistReq x0 x1 s
  | .distGapTimer x0 => Sys2Proof.Machine.execDistGapTimer x0 s
  | .distAnswerWindowEnd x0 => Sys2Proof.Machine.execDistAnswerWindowEnd x0 s
  | .frameReceive x0 x1 x2 x3 x4 x5 => Sys2Proof.Machine.execFrameReceive x0 x1 x2 x3 x4 x5 s
  | .laneFail x0 x1 => Sys2Proof.Machine.execLaneFail x0 x1 s
  | .laneReenable x0 x1 x2 => Sys2Proof.Machine.execLaneReenable x0 x1 x2 s
  | .laneCheckDone x0 x1 x2 => Sys2Proof.Machine.execLaneCheckDone x0 x1 x2 s
  | .subportRetrainDone x0 x1 => Sys2Proof.Machine.execSubportRetrainDone x0 x1 s
  | .egressSchedule x0 x1 x2 => Sys2Proof.Machine.execEgressSchedule x0 x1 x2 s
  | .queueSample x0 => Sys2Proof.Machine.execQueueSample x0 s
  | .queueFlush x0 => Sys2Proof.Machine.execQueueFlush x0 s
  | .qavgClear x0 => Sys2Proof.Machine.execQavgClear x0 s
  | .prsRead x0 x1 => Sys2Proof.Machine.execPrsRead x0 x1 s
  | .prsWrite x0 x1 => Sys2Proof.Machine.execPrsWrite x0 x1 s
  | .omfWrite x0 => Sys2Proof.Machine.execOmfWrite x0 s
  | .omfWriteImm x0 => Sys2Proof.Machine.execOmfWriteImm x0 s
  | .omfReadReq x0 => Sys2Proof.Machine.execOmfReadReq x0 s
  | .omfReadResp x0 => Sys2Proof.Machine.execOmfReadResp x0 s
  | .omfSend x0 => Sys2Proof.Machine.execOmfSend x0 s
  | .omfFadd x0 => Sys2Proof.Machine.execOmfFadd x0 s
  | .omfCswap x0 => Sys2Proof.Machine.execOmfCswap x0 s
  | .omfAtomicResp x0 => Sys2Proof.Machine.execOmfAtomicResp x0 s
  | .omfAck x0 => Sys2Proof.Machine.execOmfAck x0 s
  | .omfNak x0 => Sys2Proof.Machine.execOmfNak x0 s
  | .omfRnr x0 => Sys2Proof.Machine.execOmfRnr x0 s
  | .openReq x0 x1 => Sys2Proof.Machine.execOpenReq x0 x1 s
  | .openAck x0 x1 x2 x3 => Sys2Proof.Machine.execOpenAck x0 x1 x2 x3 s
  | .omfClose x0 => Sys2Proof.Machine.execOmfClose x0 s
  | .rekey x0 => Sys2Proof.Machine.execRekey x0 s
  | .rekeyAck x0 => Sys2Proof.Machine.execRekeyAck x0 s
  | .blockVerb x0 x1 => Sys2Proof.Machine.execBlockVerb x0 x1 s
  | .ackTimer x0 => Sys2Proof.Machine.execAckTimer x0 s
  | .retransmitTimeout x0 => Sys2Proof.Machine.execRetransmitTimeout x0 s
  | .rnrResend x0 => Sys2Proof.Machine.execRnrResend x0 s
  | .rekeyTimeout x0 => Sys2Proof.Machine.execRekeyTimeout x0 s
  | .kphaseWindowEnd x0 => Sys2Proof.Machine.execKphaseWindowEnd x0 s
  | .contextFetchDone x0 => Sys2Proof.Machine.execContextFetchDone x0 s
  | .contextFetchFail x0 => Sys2Proof.Machine.execContextFetchFail x0 s
  | .revokeComplete x0 => Sys2Proof.Machine.execRevokeComplete x0 s
  | .workRequest x0 x1 x2 => Sys2Proof.Machine.execWorkRequest x0 x1 x2 s
  | .operationSlotGrant => Sys2Proof.Machine.execOperationSlotGrant s
  | .rmaCqci x0 x1 x2 => Sys2Proof.Machine.execRmaCqci x0 x1 x2 s
  | .rmaOpen x0 x1 x2 x3 x4 x5 x6 x7 => Sys2Proof.Machine.execRmaOpen x0 x1 x2 x3 x4 x5 x6 x7 s
  | .rmaClose x0 x1 => Sys2Proof.Machine.execRmaClose x0 x1 s
  | .rmaRekey x0 x1 => Sys2Proof.Machine.execRmaRekey x0 x1 s
  | .rmaReg x0 x1 x2 x3 x4 x5 => Sys2Proof.Machine.execRmaReg x0 x1 x2 x3 x4 x5 s
  | .rmaRevoke x0 x1 => Sys2Proof.Machine.execRmaRevoke x0 x1 s
  | .rmaReadContext x0 x1 => Sys2Proof.Machine.execRmaReadContext x0 x1 s
  | .rmaWriteContext x0 x1 => Sys2Proof.Machine.execRmaWriteContext x0 x1 s
  | .rmaReadRegion x0 x1 => Sys2Proof.Machine.execRmaReadRegion x0 x1 s
  | .rmaWriteRegion x0 x1 => Sys2Proof.Machine.execRmaWriteRegion x0 x1 s
  | .rmaPin x0 x1 => Sys2Proof.Machine.execRmaPin x0 x1 s
  | .rmaUnpin x0 x1 => Sys2Proof.Machine.execRmaUnpin x0 x1 s
  | .stgRead x0 x1 x2 x3 x4 => Sys2Proof.Machine.execStgRead x0 x1 x2 x3 x4 s
  | .stgWrite x0 x1 x2 x3 x4 => Sys2Proof.Machine.execStgWrite x0 x1 x2 x3 x4 s
  | .stgFlush x0 x1 x2 x3 x4 => Sys2Proof.Machine.execStgFlush x0 x1 x2 x3 x4 s
  | .stgDealloc x0 x1 x2 x3 x4 => Sys2Proof.Machine.execStgDealloc x0 x1 x2 x3 x4 s
  | .stgAbort x0 x1 x2 => Sys2Proof.Machine.execStgAbort x0 x1 x2 s
  | .channelReset x0 x1 => Sys2Proof.Machine.execChannelReset x0 x1 s
  | .abortSettleTimeout x0 => Sys2Proof.Machine.execAbortSettleTimeout x0 s
  | .channelPowerOn x0 x1 => Sys2Proof.Machine.execChannelPowerOn x0 x1 s
  | .channelPowerOff x0 x1 => Sys2Proof.Machine.execChannelPowerOff x0 x1 s
  | .channelDoze x0 => Sys2Proof.Machine.execChannelDoze x0 s
  | .stgBind x0 x1 x2 x3 x4 x5 => Sys2Proof.Machine.execStgBind x0 x1 x2 x3 x4 x5 s
  | .stgUnbind x0 x1 => Sys2Proof.Machine.execStgUnbind x0 x1 s
  | .stgQuery x0 x1 => Sys2Proof.Machine.execStgQuery x0 x1 s
  | .linkUp x0 x1 x2 => Sys2Proof.Machine.execLinkUp x0 x1 x2 s
  | .linkDown => Sys2Proof.Machine.execLinkDown s
  | .heartbeat x0 x1 => Sys2Proof.Machine.execHeartbeat x0 x1 s
  | .heartbeatLoss x0 => Sys2Proof.Machine.execHeartbeatLoss x0 s
  | .flr x0 => Sys2Proof.Machine.execFlr x0 s
  | .dStateChange x0 x1 => Sys2Proof.Machine.execDStateChange x0 x1 s
  | .invalidationRequest x0 x1 x2 x3 => Sys2Proof.Machine.execInvalidationRequest x0 x1 x2 x3 s
  | .invalidationTimeout x0 x1 => Sys2Proof.Machine.execInvalidationTimeout x0 x1 s
  | .translationCompletion x0 x1 x2 => Sys2Proof.Machine.execTranslationCompletion x0 x1 x2 s
  | .hostAccessError x0 x1 => Sys2Proof.Machine.execHostAccessError x0 x1 s
  | .expansionRomRead x0 x1 => Sys2Proof.Machine.execExpansionRomRead x0 x1 s
  | .receivedTlpFault x0 x1 x2 => Sys2Proof.Machine.execReceivedTlpFault x0 x1 x2 s
  | .secReport x0 x1 x2 x3 x4 => Sys2Proof.Machine.execSecReport x0 x1 x2 x3 x4 s
  | .secKeyload x0 x1 x2 x3 x4 => Sys2Proof.Machine.execSecKeyload x0 x1 x2 x3 x4 s
  | .secKeystore x0 x1 x2 => Sys2Proof.Machine.execSecKeystore x0 x1 x2 s
  | .secKeydrop x0 x1 => Sys2Proof.Machine.execSecKeydrop x0 x1 s
  | .huskLoad x0 x1 x2 x3 x4 x5 x6 x7 => Sys2Proof.Machine.execHuskLoad x0 x1 x2 x3 x4 x5 x6 x7 s
  | .secNewepoch x0 => Sys2Proof.Machine.execSecNewepoch x0 s
  | .secXfer x0 x1 x2 x3 => Sys2Proof.Machine.execSecXfer x0 x1 x2 x3 s
  | .secProvision x0 x1 x2 x3 x4 x5 => Sys2Proof.Machine.execSecProvision x0 x1 x2 x3 x4 x5 s
  | .fuseClass x0 x1 x2 x3 => Sys2Proof.Machine.execFuseClass x0 x1 x2 x3 s
  | .fuseFloor x0 x1 x2 x3 => Sys2Proof.Machine.execFuseFloor x0 x1 x2 x3 s
  | .fuseCompactOff x0 x1 x2 => Sys2Proof.Machine.execFuseCompactOff x0 x1 x2 s
  | .fusePermlock x0 x1 x2 => Sys2Proof.Machine.execFusePermlock x0 x1 x2 s
  | .fuseDbgowner x0 x1 x2 => Sys2Proof.Machine.execFuseDbgowner x0 x1 x2 s
  | .dbgChallenge x0 => Sys2Proof.Machine.execDbgChallenge x0 s
  | .dbgNonceExpiry => Sys2Proof.Machine.execDbgNonceExpiry s
  | .dbgUnlock x0 x1 => Sys2Proof.Machine.execDbgUnlock x0 x1 s
  | .dbgCoreHalt x0 x1 => Sys2Proof.Machine.execDbgCoreHalt x0 x1 s
  | .dbgCoreRelease x0 x1 => Sys2Proof.Machine.execDbgCoreRelease x0 x1 s
  | .securityAlarm x0 x1 => Sys2Proof.Machine.execSecurityAlarm x0 x1 s
  | .alarmRecovery => Sys2Proof.Machine.execAlarmRecovery s
  | .bottomTreeReady => Sys2Proof.Machine.execBottomTreeReady s
  | .mgmtRecord x0 x1 => Sys2Proof.Machine.execMgmtRecord x0 x1 s
  | .mgmtSessionTimeout x0 => Sys2Proof.Machine.execMgmtSessionTimeout x0 s
  | .pltLoad x0 => Sys2Proof.Machine.execPltLoad x0 s
  | .pltCommit x0 x1 x2 => Sys2Proof.Machine.execPltCommit x0 x1 x2 s
  | .pltStart x0 x1 => Sys2Proof.Machine.execPltStart x0 x1 s
  | .pltAbort x0 => Sys2Proof.Machine.execPltAbort x0 s
  | .abortBlocksIdle x0 => Sys2Proof.Machine.execAbortBlocksIdle x0 s
  | .abortIdleTimeout x0 => Sys2Proof.Machine.execAbortIdleTimeout x0 s
  | .abortRateWaitEnd x0 => Sys2Proof.Machine.execAbortRateWaitEnd x0 s
  | .pltHarrow x0 => Sys2Proof.Machine.execPltHarrow x0 s
  | .harrowComplete x0 => Sys2Proof.Machine.execHarrowComplete x0 s
  | .fillComplete x0 => Sys2Proof.Machine.execFillComplete x0 s
  | .quarantineRelease x0 => Sys2Proof.Machine.execQuarantineRelease x0 s
  | .pltDefine x0 x1 => Sys2Proof.Machine.execPltDefine x0 x1 s
  | .pltUndefine x0 => Sys2Proof.Machine.execPltUndefine x0 s
  | .pltQuery x0 => Sys2Proof.Machine.execPltQuery x0 s
  | .powerOnReset => Sys2Proof.Machine.execPowerOnReset s
  | .rstGate x0 x1 => Sys2Proof.Machine.execRstGate x0 x1 s
  | .stageBegin x0 x1 => Sys2Proof.Machine.execStageBegin x0 x1 s
  | .stageComplete x0 x1 => Sys2Proof.Machine.execStageComplete x0 x1 s
  | .stageStop x0 x1 => Sys2Proof.Machine.execStageStop x0 x1 s
  | .xspiRelease => Sys2Proof.Machine.execXspiRelease s
  | .trimLoadCommit x0 x1 => Sys2Proof.Machine.execTrimLoadCommit x0 x1 s
  | .islandRelease x0 x1 => Sys2Proof.Machine.execIslandRelease x0 x1 s
  | .pllLockTimeout x0 => Sys2Proof.Machine.execPllLockTimeout x0 s
  | .resetIdleTimeout => Sys2Proof.Machine.execResetIdleTimeout s
  | .managementIslandReset x0 => Sys2Proof.Machine.execManagementIslandReset x0 s
  | .headlandReset x0 => Sys2Proof.Machine.execHeadlandReset x0 s
  | .moduleReset x0 => Sys2Proof.Machine.execModuleReset x0 s
  | .perstN x0 => Sys2Proof.Machine.execPerstN x0 s
  | .hotReset => Sys2Proof.Machine.execHotReset s
  | .seedWrite x0 x1 x2 x3 => Sys2Proof.Machine.execSeedWrite x0 x1 x2 x3 s
  | .seedCommit x0 x1 => Sys2Proof.Machine.execSeedCommit x0 x1 s
  | .seedQuery x0 => Sys2Proof.Machine.execSeedQuery x0 s
  | .ckpArm x0 x1 x2 x3 x4 x5 x6 x7 x8 x9 => Sys2Proof.Machine.execCkpArm x0 x1 x2 x3 x4 x5 x6 x7 x8 x9 s
  | .ckpDisarm x0 => Sys2Proof.Machine.execCkpDisarm x0 s
  | .ckpRestore x0 x1 x2 x3 => Sys2Proof.Machine.execCkpRestore x0 x1 x2 x3 s
  | .ckpQuery x0 => Sys2Proof.Machine.execCkpQuery x0 s
  | .checkpointCut x0 => Sys2Proof.Machine.execCheckpointCut x0 s
  | .snapshotComplete x0 => Sys2Proof.Machine.execSnapshotComplete x0 s
  | .copyBeforeWrite x0 x1 x2 => Sys2Proof.Machine.execCopyBeforeWrite x0 x1 x2 s
  | .restoreComplete x0 x1 => Sys2Proof.Machine.execRestoreComplete x0 x1 s
  | .eventRecordWrite => Sys2Proof.Machine.execEventRecordWrite s
  | .evrCursorWrite x0 x1 => Sys2Proof.Machine.execEvrCursorWrite x0 x1 s
  | .telSnap x0 => Sys2Proof.Machine.execTelSnap x0 s
  | .telSubscribe x0 x1 x2 x3 x4 x5 => Sys2Proof.Machine.execTelSubscribe x0 x1 x2 x3 x4 x5 s
  | .telExport x0 x1 => Sys2Proof.Machine.execTelExport x0 x1 s
  | .clkFsel x0 x1 => Sys2Proof.Machine.execClkFsel x0 x1 s
  | .arrConvLoRead x0 => Sys2Proof.Machine.execArrConvLoRead x0 s
  | .tilSeedLoRead x0 => Sys2Proof.Machine.execTilSeedLoRead x0 s
  | .schPstepLoRead x0 => Sys2Proof.Machine.execSchPstepLoRead x0 s
  | .netCntLowRead x0 x1 => Sys2Proof.Machine.execNetCntLowRead x0 x1 s
  | .netCntLowWrite x0 x1 x2 x3 => Sys2Proof.Machine.execNetCntLowWrite x0 x1 x2 x3 s
  | .evrHeadLoRead x0 => Sys2Proof.Machine.execEvrHeadLoRead x0 s
  | .ckpSteploRead x0 => Sys2Proof.Machine.execCkpSteploRead x0 s
  | .registerWrite x0 x1 x2 => Sys2Proof.Machine.execRegisterWrite x0 x1 x2 s
  | .laserReturn x0 => Sys2Proof.Machine.execLaserReturn x0 s
  | .refclkReturn x0 => Sys2Proof.Machine.execRefclkReturn x0 s
  | .railWarningEnd x0 => Sys2Proof.Machine.execRailWarningEnd x0 s
  | .rampGuardRelease x0 x1 x2 x3 => Sys2Proof.Machine.execRampGuardRelease x0 x1 x2 x3 s
  | .sensorSample x0 x1 x2 x3 => Sys2Proof.Machine.execSensorSample x0 x1 x2 x3 s
  | .coreTimerExpiry x0 => Sys2Proof.Machine.execCoreTimerExpiry x0 s
  | .hostReadCompletion x0 x1 => Sys2Proof.Machine.execHostReadCompletion x0 x1 s
  | .managementPortFrame x0 => Sys2Proof.Machine.execManagementPortFrame x0 s

end Sys2Proof.Machine
end

