-- ==== Sys2Proof/Machine/Step.lean ====
section
/-! DEFINITION. One step of the block: the command at the front of the queue takes effect; on an empty queue a microsecond passes. -/
set_option Elab.async false
namespace Sys2Proof.Machine

/-- One step.  DESIGN CHOICE: on an empty queue only the headland's microsecond counter advances (log entry 1). -/
def step (s : State) : Host.Outcome State Fault Refusal :=
  match s.pending with
  | [] => .next { s with tick := s.tick + 1 }
  | c :: rest => exec c { s with pending := rest }

/-- The state with the command that a table word spells at the front of the queue.  The table gives no row any bits, so no word spells
a command (log entry 2). -/
def State.withFetchWord (s : State) (nbits w : Nat) : State :=
  match decodeTableWord nbits w with
  | some c => { s with pending := c :: s.pending }
  | none => s

end Sys2Proof.Machine
end

