-- ==== Sys2Proof/WellFormed.lean ====
section
/-! DEFINITION. Which commands are well formed: the operand ranges that the operands' types do not already hold.  They are the bounds of what the
interface that carries the command can express, not the checks that the part itself makes and answers. -/
set_option Elab.async false
namespace Sys2Proof

/-- VERSION is one byte of a message's header and LENGTH two (Table FWM-4). -/
def Msg.fits (m : Msg) : Bool := decide (m.version < 0x100) && decide (m.length < 0x10000)

/-- A DM access is of 1 to 64 bytes and stays within a scratchpad bank of 1 MiB (R182). -/
def bankAccess (addr n : Nat) : Bool := decide (1 ≤ n) && decide (n ≤ 64) && decide (addr % 0x100000 + n ≤ 0x100000)

/-- An LPDDR5X access is of at least one byte and stays within the 40-bit device address space (Table MEM-9). -/
def lpxAccess (addr n : Nat) : Bool := decide (1 ≤ n) && decide (addr + n ≤ 2 ^ 40)

/-- A memory TLP carries or asks for 1 to 4,096 bytes. -/
def tlpBytes (n : Nat) : Bool := decide (1 ≤ n) && decide (n ≤ 4096)

/-- An Omfemos packet carries at most the largest MSS (R292). -/
def Arrival.fits (a : Arrival) : Bool := decide (a.pkt.data.length ≤ 8192)

/-- Header and trailer of a sheaf are of 4,096 bytes and its records of 65,568 (Tables CKP-1 and CKP-2). -/
def Sheaf.whole (h : Sheaf) : Bool :=
  decide (h.header.length = 4096) && decide (h.trailer.length = 4096) && h.records.all (fun r => decide (r.length = 65568))

/-- The command's operands are within what its interface can carry. -/
def Instr.wellFormed : Instr → Bool
  | .calstoreSave m _ => m.fits
  | .scratchpadDmAccess _ addr len wdata _ => bankAccess addr.toNat (match wdata with | some bs => bs.length | none => len.val)
  | .lpxRequest _ addr len wdata _ => lpxAccess addr (match wdata with | some bs => bs.length | none => len)
  | .bar2Read _ len _ => tlpBytes len
  | .bar2Write _ bytes _ => tlpBytes bytes.length
  | .mailboxRequest m _ => m.fits
  | .hello m _ _ _ => m.fits
  | .fwStage m _ _ _ => m.fits
  | .fwActivate m => m.fits
  | .fwQuery m => m.fits
  | .distJoin m _ _ _ _ _ => m.fits
  | .distSend m _ _ _ _ _ _ => m.fits
  | .distStatus m _ => m.fits
  | .distLeave m _ => m.fits
  | .distSeg _ _ _ _ data => decide (data.length ≤ 8192)
  | .omfWrite a => a.fits
  | .omfWriteImm a => a.fits
  | .omfReadReq a => a.fits
  | .omfReadResp a => a.fits
  | .omfSend a => a.fits
  | .omfFadd a => a.fits
  | .omfCswap a => a.fits
  | .omfAtomicResp a => a.fits
  | .omfAck a => a.fits
  | .omfNak a => a.fits
  | .omfRnr a => a.fits
  | .omfClose a => a.fits
  | .rekey a => a.fits
  | .rekeyAck a => a.fits
  | .blockVerb _ a => a.fits
  | .rmaOpen m _ _ _ _ _ _ _ => m.fits
  | .rmaClose m _ => m.fits
  | .rmaRekey m _ => m.fits
  | .rmaReg m _ _ _ _ _ => m.fits
  | .rmaRevoke m _ => m.fits
  | .stgBind m _ _ _ _ _ => m.fits
  | .stgUnbind m _ => m.fits
  | .stgQuery m _ => m.fits
  | .expansionRomRead _ len => tlpBytes len
  | .secReport m _ _ _ _ => m.fits
  | .secKeyload m _ _ _ _ => m.fits
  | .secKeystore m _ _ => m.fits
  | .secKeydrop m _ => m.fits
  | .huskLoad m _ _ _ _ _ _ _ => m.fits
  | .secNewepoch m => m.fits
  | .secXfer m _ _ _ => m.fits
  | .secProvision m _ _ _ _ _ => m.fits
  | .fuseClass m _ _ _ => m.fits
  | .fuseFloor m _ _ _ => m.fits
  | .fuseCompactOff m _ _ => m.fits
  | .fusePermlock m _ _ => m.fits
  | .fuseDbgowner m _ _ => m.fits
  | .dbgChallenge m => m.fits
  | .dbgUnlock m _ => m.fits
  | .dbgCoreHalt m _ => m.fits
  | .dbgCoreRelease m _ => m.fits
  | .mgmtRecord _ r => (match r with | .mailbox m _ => m.fits | _ => true)
  | .pltLoad m => m.fits
  | .pltCommit m _ _ => m.fits
  | .pltStart m _ => m.fits
  | .pltAbort m => m.fits
  | .pltHarrow m => m.fits
  | .pltDefine m _ => m.fits
  | .pltUndefine m => m.fits
  | .pltQuery m => m.fits
  | .rstGate m _ => (match m with | some m => m.fits | none => true)
  | .managementIslandReset by_ => (match by_ with | .message m => m.fits | _ => true)
  | .headlandReset by_ => (match by_ with | .message m => m.fits | _ => true)
  | .moduleReset by_ => (match by_ with | .message m => m.fits | _ => true)
  | .seedWrite m _ _ _ => m.fits
  | .seedCommit m _ => m.fits
  | .seedQuery m => m.fits
  | .ckpArm m _ _ _ _ _ _ _ _ _ => m.fits
  | .ckpDisarm m => m.fits
  | .ckpRestore m _ _ chains => m.fits && chains.all (fun e => e.2.all Sheaf.whole)
  | .ckpQuery m => m.fits
  | .telSubscribe m _ _ _ _ _ => m.fits
  | .laserLoss _ | .supplyWarning _ _ | .halvingEnd _ | .supplyReset _ _ | .retentionLoss _ | .thermalLevelChange _ | .hot _ | .hotEnd _
  | .thermalTrip _ | .thermtripRelease | .referenceLost _ | .referenceBack | .clockReadyDrop _ | .avsAck _ | .avsTimeout _ | .lpxRateChange _ _
  | .wakeGrant _ _ | .wakeTokenReturn | .groupAwake _ _ _ | .loadiv _ _ _ _ | .launch _ _ _ _ | .rlaunch _ _ _ _ | .collect _ _ _ | .rcollect _ _ _
  | .mvmComplete _ _ _ _ | .weightWriteOpen _ _ _ _ _ _ | .weightRowWrite _ _ _ _ _ | .weightWriteClose _ _ _ | .fallowReq _ _ _
  | .retiredNext _ _ _ | .vecFma _ _ | .vecAdd _ _ | .vecMul _ _ | .max _ _ | .min _ _ | .cvt _ _ | .func _ _ | .rsum _ _ | .rmax _ _ | .mxenc _ _
  | .mxdec _ _ | .route _ _ | .sample _ _ | .mma _ _ _ | .mmaz _ _ _ | .drain _ _ _ _ _ | .ld _ _ _ _ _ | .st _ _ _ _ _ | .cpy _ _ _ _ _
  | .ctlWait _ _ | .loop _ _ | .endloop _ | .seedld _ _ _ _ | .fallow _ _ _ _ | .endOp _ | .send _ _ | .xngWait _ _ | .lread _ _ | .free _ _
  | .crossingReady _ _ _ _ _ | .stepStart _ _ _ _ | .leaderStart _ _ | .markerStartReceived _ _ _ | .markerStopReceived _ _ _ | .markerTimeout _ _
  | .faultNotice _ _ | .stepWatchdog _ _ | .hold _ _ | .holdResume _ | .halt _ _ | .fgReq _ | .recalReq _ | .fallowWindow _ _ _ | .foregroundCalComplete _ _ _
  | .measurementSet _ _ _ | .probationSet _ _ _ | .groupStale _ _
  | .probationEnd _ _ | .repairStart _ _ _ | .repairSegmentRead _ _ _ | .tileDegradedHold _ | .apertureAccess _ _ _ _ _ _ | .apertureTimeout _ _
  | .regionRegisterWrite _ _ _ _ _ | .regionEnable _ _ | .regionDisable _ _ | .patrolRead _ _ | .dqsTracking _ | .add _ _ | .adc _ _ | .sub _ _
  | .sbc _ _ | .and _ _ | .or _ _ | .xor _ _ | .andn _ _ | .shl _ _ | .shr _ _ | .sar _ _ | .ror _ _ | .mul _ _ | .mulhu _ _ | .mulhs _ _
  | .mov _ _ | .addi _ _ | .subi _ _ | .andi _ _ | .ori _ _ | .xori _ _ | .shi _ _ | .movi _ _ | .movhi _ _ | .ldw _ _ | .ldh _ _ | .ldhs _ _
  | .ldb _ _ | .ldbs _ _ | .stw _ _ | .sth _ _ | .stb _ _ | .pset _ _ _ _ | .pget _ _ _ _ | .padd _ _ | .movp _ _ _ | .push _ _ | .pushm _ _
  | .pop _ _ | .popm _ _ | .b _ _ _ | .call _ _ | .callr _ _ | .jmpr _ _ | .ret _ | .reti _ | .jmp _ _ | .rep _ _ _ _ | .repi _ _ _ _ | .mfc _ _ _
  | .mtc _ _ _ | .trap _ _ | .wfi _ | .wfiResume _ | .fence _ | .spill _ | .fill _ | .custom _ _ _ _ _ _ | .nop _ | .interruptEntry _
  | .watchdogWarning _ | .watchdogExpiry _ | .wardenHaltResponse _ | .mbxFfci _ _ | .mbxReset _ | .liveUpdateSwitch _ | .liveUpdateTimeout _
  | .fabricBroadcastFrame _ _ | .fabricBroadcastRepair _ | .distSourceSend _ | .distEnd _ | .distNack _ _ | .distHave _ _ | .distReq _ _
  | .distGapTimer _ | .distAnswerWindowEnd _ | .frameReceive _ _ _ _ _ _ | .laneFail _ _ | .laneReenable _ _ _ | .laneCheckDone _ _ _
  | .subportRetrainDone _ _ | .egressSchedule _ _ _ | .queueSample _ | .queueFlush _ | .qavgClear _ | .prsRead _ _ | .prsWrite _ _ | .openReq _ _
  | .openAck _ _ _ _ | .ackTimer _ | .retransmitTimeout _ | .rnrResend _ | .rekeyTimeout _ | .kphaseWindowEnd _ | .contextFetchDone _
  | .contextFetchFail _ | .revokeComplete _ | .workRequest _ _ _ | .operationSlotGrant | .rmaCqci _ _ _ | .rmaReadContext _ _
  | .rmaWriteContext _ _ | .rmaReadRegion _ _ | .rmaWriteRegion _ _ | .rmaPin _ _ | .rmaUnpin _ _ | .stgRead _ _ _ _ _ | .stgWrite _ _ _ _ _
  | .stgFlush _ _ _ _ _ | .stgDealloc _ _ _ _ _ | .stgAbort _ _ _ | .channelReset _ _ | .abortSettleTimeout _ | .channelPowerOn _ _
  | .channelPowerOff _ _ | .channelDoze _ | .linkUp _ _ _ | .linkDown | .heartbeat _ _ | .heartbeatLoss _ | .flr _ | .dStateChange _ _
  | .invalidationRequest _ _ _ _ | .invalidationTimeout _ _ | .translationCompletion _ _ _ | .hostAccessError _ _ | .receivedTlpFault _ _ _
  | .dbgNonceExpiry | .securityAlarm _ _ | .alarmRecovery | .bottomTreeReady | .mgmtSessionTimeout _ | .abortBlocksIdle _ | .abortIdleTimeout _
  | .abortRateWaitEnd _ | .harrowComplete _ | .fillComplete _ | .quarantineRelease _ | .powerOnReset | .stageBegin _ _ | .stageComplete _ _
  | .stageStop _ _ | .xspiRelease | .trimLoadCommit _ _ | .islandRelease _ _ | .pllLockTimeout _ | .resetIdleTimeout | .perstN _ | .hotReset
  | .checkpointCut _ | .snapshotComplete _ | .copyBeforeWrite _ _ _ | .restoreComplete _ _ | .eventRecordWrite | .evrCursorWrite _ _ | .telSnap _
  | .telExport _ _ | .clkFsel _ _ | .arrConvLoRead _ | .tilSeedLoRead _ | .schPstepLoRead _ | .netCntLowRead _ _ | .netCntLowWrite _ _ _ _
  | .evrHeadLoRead _ | .ckpSteploRead _ | .registerWrite _ _ _ | .laserReturn _ | .refclkReturn _ | .railWarningEnd _ | .rampGuardRelease _ _ _ _
  | .sensorSample _ _ _ _ | .coreTimerExpiry _ | .hostReadCompletion _ _ | .managementPortFrame _ => true

end Sys2Proof
end

