-- ==== Sys2Proof/Safety.lean ====
section
/-! DEFINITION. What counts as a safe state and a safe step, in the terms the statements use. -/
set_option Elab.async false
namespace Sys2Proof.Machine

/-- The canonical form of the state's lists: the device memory in its form (Memory.wf), at most one content listed for a register, and tiles, plots, cores
and checkpoint records listed by rising number.  Equal contents are then equal lists. -/
structure State.Canonical (s : State) : Prop where
  mem : s.mem.wf = true
  regs : (s.regs.map Prod.fst).Nodup
  tiles : mapRising s.tiles = true
  plots : mapRising s.plots = true
  cores : mapRising s.cores = true
  ckp : mapRising s.ckp = true

/-- No fuse bit that is blown in `s` reads 0 in `t` (R354: logical bits only change from 0 to 1). -/
def FusesHold (s t : State) : Prop := ∀ k, fuse s k &&& fuse t k = fuse s k

/-- Every command that waits is well formed. -/
def State.asked (s : State) : Bool := s.pending.all Instr.wellFormed

/-- The command answers a next state, and the property holds of it. -/
def Gives (s : State) (c : Instr) (P : State → Prop) : Prop := ∃ t, exec c s = .next t ∧ P t

/-- The state in which the sequencer judges the bundle of a slot operation, once its last operation has been presented (R119, R460). -/
def judged (s : State) (sl : Slot) : State := presented (onTile s sl.tile (fun x => { x with gather := [] })) sl

/-- The same once no source holds the bundle, the BANK cycles that it met counted (R128, R183). -/
def cleared (s : State) (sl : Slot) (ops : List Instr) : State := unheld (chargeBank (judged s sl) sl.tile sl.cyc ops false) sl.tile

/-- A slot operation completes a bundle that issues (R119, R127, R128, R146, R460): it is the next of its tile's stream, every other slot of the bundle that is not NOP has
been presented, the bundle breaks no rule of its own and none of its issue cycle, and no source holds it.  `before` and `after` are the bundle's operations whose effects
come before and after it. -/
structure MayIssue (s : State) (sl : Slot) (i : Instr) (before after : List Instr) : Prop where
  next : inStream s sl i = true
  gathered : gatherIn i (tile s sl.tile).gather = before ++ i :: after
  whole : bundleWhole (bundleAt s sl.tile sl.pc.toNat) (before ++ i :: after) = true
  lawful : (bundleAlone (judged s sl) (before ++ i :: after)).none? = true
  free : bundleHolds (judged s sl) sl.tile (before ++ i :: after) = []
  onTime : (bundleLate (cleared s sl (before ++ i :: after)) (before ++ i :: after)).none? = true

/-- The state that the effect of a slot operation of an issuing bundle starts from. -/
def effectStart (s : State) (sl : Slot) (i : Instr) (before after : List Instr) : State :=
  issueAll (issuing (cleared s sl (before ++ i :: after)) sl (before ++ i :: after)) before

/-- The command answers a next state: the operation's own effect gives a state of which P holds, and the bundle's later operations follow. -/
def Issues (s : State) (i : Instr) (before after : List Instr) (P : State → Prop) : Prop :=
  ∃ v, P v ∧ exec i s = .next (letGo s (before ++ i :: after) (issueAll v after))

/-- A control core executes an instruction (R213, R217, R223, R228): it runs, its fetch is granted and finds no uncorrectable error, no reserved field of the
encoding is set, and within a repeat the instruction may be repeated. -/
structure Executes (s : State) (k : Nvc) (mayRepeat : Bool) : Prop where
  running : nvState s k.core = nvRun
  fetch : (core s k.core).pc.toNat < 0x10000 ∧ mpuGrants (core s k.core) (core s k.core).pc.toNat 4 2 = true
  sound : k.ecc ≠ .uncorrectable
  plain : k.reserved = false
  prefixed : (core s k.core).rep = true → mayRepeat = true

/-- The state that the operation of an executing instruction starts from: the corrected errors of the SRAM words it uses are counted (R213). -/
def fetched (s : State) (k : Nvc) : State := if k.ecc = .corrected then count s (.nvcCecnt k.core) (max 1 k.words) else s

/-- Where the program counter of a core stands after an instruction that does not branch (R223). -/
def nextPc (x : CoreState) : Word := if x.rep && decide (1 < x.rptcnt) then x.pc else x.pc + 4

/-- An arithmetic instruction ends in `t`: its value in rd unless ND, its flags under S (C and V as before where the table gives none), every other register as before, the
program counter at the next instruction, and its cycles counted. -/
def AluEnds (s t : State) (k : Nvc) (rd : Nat) (nd flags : Bool) (cycles : Nat) (v : Word) (cf vf : Option Bool) : Prop :=
  let x := core s k.core
  let y := core t k.core
  (∀ i, wreg y i = if i = rd ∧ nd = false then v else wreg x i)
    ∧ (if flags then y.n = v.msb ∧ y.z = (v == 0) ∧ y.c = cf.getD x.c ∧ y.v = vf.getD x.v else y.n = x.n ∧ y.z = x.z ∧ y.c = x.c ∧ y.v = x.v)
    ∧ y.ptr = x.ptr ∧ y.pc = nextPc x ∧ y.cyc = x.cyc + BitVec.ofNat 64 (cycles + k.stall)

/-- A core has taken an exception or an interrupt of a vector (R225): the entry is pushed with the interrupted program counter, LVL is the vector, IE is 0, and the core is at
VBASE + 16 × vector. -/
def Entered (x y : CoreState) (v : Nat) : Prop :=
  y.pc = x.vbase + BitVec.ofNat 32 (16 * v) ∧ y.lvl = v ∧ y.ie = false ∧ y.rep = false ∧ y.rs = handlerEntry x x.pc :: x.rs ∧ y.handlers = v :: x.handlers
    ∧ y.w = x.w ∧ y.ptr = x.ptr

/-- The return stack takes an entry without a spill (R220, R221). -/
def roomOnStack (x : CoreState) : Bool := decide (rscnt x < 32) && decide (rscnt x < x.rshi)

/-- A response to the message, of the type and with the status given, stands in its mailbox's from-firmware ring or waits for room in it (R244). -/
def Answered (s : State) (m : Msg) (type status : Nat) : Prop :=
  ∃ r ∈ (box s m.owner).posted ++ (box s m.owner).held, r.seq = m.seq ∧ r.type = type ∧ r.status = status ∧ r.unsol = false

/-- A message is one of the N that may be outstanding and meets every check before its own rule (R243 to R247, R408). -/
def Admitted (s : State) (m : Msg) (r : MsgRule) : Prop := beyondLimit s m = false ∧ gateStatus (takeRequest s m r.type) m r = none

/-- No instance of a crossing that feeds a window of the PCIe endpoint is on its way (R339). -/
def NoFeeds (s : State) : Prop := ∀ p < 12, ∀ e ∈ (plot s p).xings, ∀ d, xdecl s p e.1 = some d → isFeed d = true → e.2.flight = []

/-- A result is on its way to the tile (R68). -/
def Lands (s : State) (t : Nat) (l : Landing) : Prop := l ∈ (tile s t).landing

/-- A packet of an open context that is authentic under the current phase and not a replay (R296). -/
structure Authentic (s : State) (a : Arrival) : Prop where
  isOpen : (ctxOf s a.pkt.cid.toNat).state = cxOpen
  keyed : a.auth = true ∧ a.pkt.kphase = (ctxOf s a.pkt.cid.toNat).rxPhase
  unseen : freshCtr (ctxOf s a.pkt.cid.toNat).rxHi (ctxOf s a.pkt.cid.toNat).rxWin a.pkt.pctr.toNat = true

/-- Such a packet for a context in the cache with its own CTAG and nothing parked (R291, R301): it is acted on at once. -/
structure Arrives (s : State) (a : Arrival) : Prop extends Authentic s a where
  tagged : (ctxOf s a.pkt.cid.toNat).ctag = a.pkt.ctag.toNat
  cached : s.rma.cached.contains a.pkt.cid.toNat = true
  unparked : s.rma.parked.all (fun q => q.cid != a.pkt.cid.toNat) = true

/-- A request packet that its target performs (R297, R307): the PSN expected, no failed operation in progress, lengths and version in order, the owner up. -/
structure InOrder (s : State) (code : Nat) (a : Arrival) : Prop where
  next : a.pkt.psn.toNat = (ctxOf s a.pkt.cid.toNat).rxPsn
  going : (ctxOf s a.pkt.cid.toNat).opFailed = false ∨ a.pkt.first = true
  lawful : requestFault (ctxOf s a.pkt.cid.toNat) code a = none
  up : targetUp s (ctxOf s a.pkt.cid.toNat) code = true

/-- The region entry a packet's key names grants it n bytes at a device address, the path to it is open, no error is found there, and no page of a pending
checkpoint waits for staging (R196, R304, R430). -/
structure Granted (s : State) (a : Arrival) (n addr : Nat) (perm : RegionEntry → Bool) (align write : Bool) : Prop where
  entry : regionAddr s (ctxOf s a.pkt.cid.toNat) a.pkt.rkey a.stamp a.pkt.roff.toNat n perm align = .inl addr
  path : n = 0 ∨ engineMay s (engineFor s (ctxOf s a.pkt.cid.toNat).owner addr) addr n write = true
  clean : a.ecc = .clean
  uncopied : ∀ r, regionOf s addr = some r → r < 12 → (pagesOf addr n).any (cowHeld s r) = false

/-- An Omfemos packet of an operation code, sent on a context, stands in an egress queue or waits for room in one (R281). -/
def OmfSent (t : State) (cid code : Nat) (P : OmfPkt → Prop) : Prop :=
  ∃ k f q bs, ((k, f) ∈ t.net.held ∨ f ∈ (queueOf t k).frames) ∧ f.body = .omf code cid q bs ∧ P q

/-- A set-up packet of an operation code and version, sent for a context, stands so (R292). -/
def SetupSent (t : State) (cid code ver : Nat) (P : OpenPkt → Prop) : Prop :=
  ∃ k f q, ((k, f) ∈ t.net.held ∨ f ∈ (queueOf t k).frames) ∧ f.body = .setup code cid ver q ∧ P q

/-- The operation's source asks nothing more of the engine when it ends: firmware, or a plot's ring. -/
def plainSource (o : RmaOp) : Prop := o.src = .firmware ∨ ∃ p wrid signal, o.src = .ring p wrid signal

/-- The context of a control-core instruction's execution (R228); none for every other command. -/
def coreInstr : Instr → Option Nvc
  | .add k .. | .adc k .. | .sub k .. | .sbc k .. | .and k .. | .or k .. | .xor k .. | .andn k .. | .shl k .. | .shr k .. | .sar k .. | .ror k .. | .mul k ..
  | .mulhu k .. | .mulhs k .. | .mov k .. | .addi k .. | .subi k .. | .andi k .. | .ori k .. | .xori k .. | .shi k .. | .movi k .. | .movhi k .. | .ldw k ..
  | .ldh k .. | .ldhs k .. | .ldb k .. | .ldbs k .. | .stw k .. | .sth k .. | .stb k .. | .pset k .. | .pget k .. | .padd k .. | .movp k .. | .push k ..
  | .pushm k .. | .pop k .. | .popm k .. | .b k .. | .call k .. | .callr k .. | .jmpr k .. | .ret k | .reti k | .jmp k .. | .rep k .. | .repi k ..
  | .mfc k .. | .mtc k .. | .trap k .. | .wfi k | .fence k | .spill k | .fill k | .custom k .. | .nop k => some k
  | _ => none

/-- A part of the state: every register of the family of the one named, every register, or a field. -/
inductive Part where
  | reg (r : Reg)
  | anyReg
  | mem
  | watched
  | fresh
  | tick
  | tiles
  | plots
  | cores
  | out
  | host
  | evr
  | tel
  | power
  | fw
  | ram
  | ckp
  | dirtyC
  | dirtyD
  | net
  | rma
  | stg
  | sec
  | seed
  deriving DecidableEq, Repr

/-- The later state is the earlier one but for the parts listed; the queue of waiting commands is the same. -/
structure SameBut (l : List Part) (s t : State) : Prop where
  pending : t.pending = s.pending
  regs : ∀ r : Reg, Part.anyReg ∈ l ∨ (∃ q : Reg, Part.reg q ∈ l ∧ q.ctorIdx = r.ctorIdx) ∨ rd t r = rd s r
  mem : Part.mem ∈ l ∨ t.mem = s.mem
  watched : Part.watched ∈ l ∨ t.watched = s.watched
  fresh : Part.fresh ∈ l ∨ t.fresh = s.fresh
  tick : Part.tick ∈ l ∨ t.tick = s.tick
  tiles : Part.tiles ∈ l ∨ t.tiles = s.tiles
  plots : Part.plots ∈ l ∨ t.plots = s.plots
  cores : Part.cores ∈ l ∨ t.cores = s.cores
  out : Part.out ∈ l ∨ t.out = s.out
  host : Part.host ∈ l ∨ t.host = s.host
  evr : Part.evr ∈ l ∨ t.evr = s.evr
  tel : Part.tel ∈ l ∨ t.tel = s.tel
  power : Part.power ∈ l ∨ t.power = s.power
  fw : Part.fw ∈ l ∨ t.fw = s.fw
  ram : Part.ram ∈ l ∨ t.ram = s.ram
  ckp : Part.ckp ∈ l ∨ t.ckp = s.ckp
  dirtyC : Part.dirtyC ∈ l ∨ t.dirtyC = s.dirtyC
  dirtyD : Part.dirtyD ∈ l ∨ t.dirtyD = s.dirtyD
  net : Part.net ∈ l ∨ t.net = s.net
  rma : Part.rma ∈ l ∨ t.rma = s.rma
  stg : Part.stg ∈ l ∨ t.stg = s.stg
  sec : Part.sec ∈ l ∨ t.sec = s.sec
  seed : Part.seed ∈ l ∨ t.seed = s.seed

/-- What judge may change. -/
def Touch.judge : List Part := [.mem, .watched, .fresh, .tiles, .plots, .cores, .out, .host, .evr, .power, .fw, .ram, .ckp, .dirtyC, .dirtyD, .rma,
  .reg (.arrStatus 0), .reg (.arrErr 0), .reg (.arrErrinfo 0), .reg (.arrRefskip 0), .reg (.arrStretch 0), .reg (.arrGrp 0 0), .reg (.arrValid 0 0),
  .reg (.arrSatcnt 0 0), .reg (.tilSherr 0), .reg (.tilSherrinfo 0), .reg (.tilAccsat 0), .reg (.tilMxnan 0), .reg (.tilNosample 0),
  .reg (.calGstat 0 0), .reg (.calFlag 0 0), .reg (.schStatus 0), .reg (.schCycle 0), .reg (.schErr 0), .reg (.schErrinfo 0), .reg (.schMaxwait 0),
  .reg (.schStall 0 0), .reg (.schLstall 0 0), .reg (.tilSperr 0), .reg (.tilSperrinfo 0), .reg (.tilSpcecnt 0), .reg (.schPstat 0),
  .reg (.schPovrcnt 0), .reg .pwrStatus, .reg .pwrWakedly, .reg .lpxFreeze, .reg (.mbxTfci 0), .reg (.mbxFfpi 0), .reg (.pltPstat 0),
  .reg (.ckpPstat 0), .reg .evrDropcnt]

/-- What resetIsland may change. -/
def Touch.resetIsland : List Part := [.mem, .watched, .fresh, .tiles, .plots, .cores, .out, .host, .evr, .power, .fw, .ram, .ckp, .dirtyC, .dirtyD,
  .net, .rma, .stg, .sec, .reg .hifIdent, .reg (.arrTiming 0), .reg (.arrStatus 0), .reg (.arrErr 0), .reg (.arrErrinfo 0), .reg (.arrTemp 0),
  .reg (.arrConvLo 0), .reg (.arrConvHi 0), .reg (.arrRefskip 0), .reg (.arrStretch 0), .reg (.arrLdesc 0 0), .reg (.arrGrp 0 0),
  .reg (.arrMode 0 0), .reg (.arrValid 0 0), .reg (.arrSatcnt 0 0), .reg (.tilPpda 0 0), .reg (.tilPpdb 0 0), .reg (.tilSherr 0),
  .reg (.tilSherrinfo 0), .reg (.tilAccsat 0), .reg (.tilMxnan 0), .reg (.tilNosample 0), .reg (.tilSeedLo 0), .reg (.tilSeedHi 0),
  .reg (.tilScale 0 0), .reg (.calCtrl 0), .reg (.calGmask 0), .reg (.calTrimsel 0), .reg (.calTrimdata 0), .reg (.calRecalcnt 0),
  .reg (.calStalecnt 0), .reg (.calSoftcnt 0), .reg (.calGstat 0 0), .reg (.calFlag 0 0), .reg (.schStatus 0), .reg (.schCycle 0), .reg (.schLen 0),
  .reg (.schErr 0), .reg (.schErrinfo 0), .reg (.schSlackcnt 0), .reg (.schSlackinfo 0), .reg (.schMaxwait 0), .reg (.schStall 0 0),
  .reg (.schLstall 0 0), .reg (.tilSperr 0), .reg (.tilSperrinfo 0), .reg (.tilSpcecnt 0), .reg (.tilSpapbase 0), .reg (.tilRgn 0 0 0),
  .reg (.schPctrl 0), .reg (.schPstat 0), .reg (.schPovrcnt 0), .reg .pwrStatus, .reg .pwrWakedly, .reg (.clkRdy 0), .reg .lpxStatus, .reg .lpxTrain,
  .reg .lpxFreeze, .reg .lpxUecnt, .reg .lpxPatrol, .reg (.lpxCecnt 0), .reg (.lpxUlog 0), .reg (.lpxRgnbase 0), .reg (.lpxRgnsize 0),
  .reg (.lpxRgnctl 0), .reg (.nvcStatus 0), .reg (.nvcWdog 0), .reg (.nvcHaltpc 0), .reg (.fwmState 0), .reg .fwmUpd, .reg (.mbxCtrl 0),
  .reg (.mbxTfpi 0), .reg (.mbxTfci 0), .reg (.mbxFfpi 0), .reg (.mbxFfci 0), .reg (.netPcfg 0), .reg (.netPstat 0), .reg (.netCntLo 0 0),
  .reg (.netCntHi 0 0), .reg .netBercfg, .reg .prsCmd, .reg (.prsData 0), .reg (.prsPart 0), .reg (.prsMpart 0), .reg (.prsXtr 0 0),
  .reg (.prsPunt 0), .reg .prsNomatch, .reg .prsParsefail, .reg .prsMeterdrop, .reg .prsDestdrop, .reg (.prsPuntdrop 0), .reg .tmsQsel,
  .reg (.tmsPort 0), .reg .tmsSample, .reg (.tmsQcfg 0), .reg (.tmsQshape 0), .reg (.tmsQstat 0), .reg (.tmsQavg 0), .reg (.tmsQdrop 0),
  .reg .rmaCfg, .reg .rmaTimers, .reg .rmaPark, .reg .rmaCmd, .reg (.rmaCnt 0), .reg (.rmaData 0), .reg (.rmaRbaseLo 0), .reg (.rmaRbaseHi 0),
  .reg (.rmaRctl 0), .reg (.rmaWqpi 0), .reg (.rmaWqci 0), .reg (.rmaCqpi 0), .reg (.rmaCqci 0), .reg (.stgCmd 0), .reg (.stgLbalo 0),
  .reg (.stgLbahi 0), .reg (.stgBlks 0), .reg (.stgBuflo 0), .reg (.stgBufhi 0), .reg (.stgBufctl 0), .reg (.stgStatus 0), .reg (.stgDone 0),
  .reg (.stgCtl 0), .reg .stgCfg, .reg (.stgCpend 0), .reg .stgXerr, .reg .stgAbortmiss, .reg .stgRefused, .reg .hifLink, .reg (.hifHb 0),
  .reg (.hifHbcfg 0), .reg (.hifHstat 0), .reg .hifB2ctl, .reg .hifUrcnt, .reg .hifMalcnt, .reg .hifHaerr, .reg .hifInvcnt, .reg .hifFeeddrop,
  .reg (.hifFwinBaselo 0), .reg (.hifFwinBasehi 0), .reg (.hifFwinSize 0), .reg (.hifFwinCtl 0), .reg .secStatus, .reg .secLowleft, .reg .secDbg,
  .reg (.pltPstat 0), .reg .rstIldcnt, .reg (.rstInrst 0), .reg (.ckpPstat 0), .reg (.ckpPend 0), .reg (.ckpSealed 0), .reg (.ckpCow 0),
  .reg (.ckpCowmax 0), .reg (.ckpSteplo 0), .reg (.ckpStephi 0), .reg .ckpCfg, .reg .evrDropcnt]

/-- What endUpdate may change. -/
def Touch.endUpdate : List Part := [.cores, .out, .host, .evr, .fw, .net, .reg (.nvcStatus 0), .reg (.nvcWdog 0), .reg (.nvcHaltpc 0),
  .reg (.fwmState 0), .reg .fwmUpd, .reg (.mbxTfci 0), .reg (.mbxFfpi 0), .reg (.prsPuntdrop 0), .reg .evrDropcnt]

/-- What stgAsk may change. -/
def Touch.stgAsk : List Part := [.mem, .watched, .cores, .out, .host, .evr, .fw, .ram, .ckp, .dirtyC, .dirtyD, .rma, .stg, .reg (.mbxTfci 0),
  .reg (.mbxFfpi 0), .reg (.stgCmd 0), .reg (.stgLbalo 0), .reg (.stgLbahi 0), .reg (.stgBlks 0), .reg (.stgBuflo 0), .reg (.stgBufhi 0),
  .reg (.stgBufctl 0), .reg (.stgStatus 0), .reg (.stgCtl 0), .reg (.stgCpend 0), .reg (.hifHstat 0), .reg (.ckpPstat 0), .reg (.ckpSealed 0),
  .reg .evrDropcnt]

/-- What answer may change. -/
def Touch.answer : List Part := [.cores, .out, .host, .fw, .reg (.mbxTfci 0), .reg (.mbxFfpi 0)]

/-- What storeRstCmd may change. -/
def Touch.storeRstCmd : List Part := [.mem, .watched, .fresh, .tiles, .plots, .cores, .out, .host, .evr, .tel, .power, .fw, .ram, .ckp, .dirtyC,
  .dirtyD, .net, .rma, .stg, .sec, .anyReg]

/-- What coreLoad may change. -/
def Touch.coreLoad : List Part := [.mem, .watched, .fresh, .tiles, .plots, .cores, .out, .evr, .ram, .ckp, .dirtyC, .dirtyD, .net, .rma,
  .reg (.arrConvHi 0), .reg (.tilSeedHi 0), .reg (.tilSperr 0), .reg (.tilSperrinfo 0), .reg (.tilSpcecnt 0), .reg (.schPstat 0),
  .reg (.schPstepHi 0), .reg .lpxFreeze, .reg (.netCntHi 0 0), .reg .hifUrcnt, .reg (.pltPstat 0), .reg (.ckpPstat 0), .reg (.ckpStephi 0),
  .reg (.evrHeadHi 0), .reg .evrDropcnt]

/-- What handlePkt may change. -/
def Touch.handlePkt : List Part := [.mem, .watched, .fresh, .tiles, .plots, .cores, .out, .host, .evr, .power, .fw, .ram, .ckp, .dirtyC, .dirtyD,
  .net, .rma, .stg, .reg (.arrStatus 0), .reg (.arrErr 0), .reg (.arrErrinfo 0), .reg (.arrRefskip 0), .reg (.arrStretch 0), .reg (.arrGrp 0 0),
  .reg (.arrValid 0 0), .reg (.arrSatcnt 0 0), .reg (.tilSherr 0), .reg (.tilSherrinfo 0), .reg (.tilAccsat 0), .reg (.tilMxnan 0),
  .reg (.tilNosample 0), .reg (.calGstat 0 0), .reg (.calFlag 0 0), .reg (.schStatus 0), .reg (.schCycle 0), .reg (.schErr 0), .reg (.schErrinfo 0),
  .reg (.schSlackcnt 0), .reg (.schSlackinfo 0), .reg (.schMaxwait 0), .reg (.schStall 0 0), .reg (.schLstall 0 0), .reg (.tilSperr 0),
  .reg (.tilSperrinfo 0), .reg (.tilSpcecnt 0), .reg (.schPstat 0), .reg (.schPovrcnt 0), .reg .pwrStatus, .reg .pwrWakedly, .reg .lpxFreeze,
  .reg .lpxUecnt, .reg (.lpxCecnt 0), .reg (.lpxUlog 0), .reg (.mbxTfci 0), .reg (.mbxFfpi 0), .reg (.rmaCnt 0), .reg (.rmaRctl 0),
  .reg (.rmaWqci 0), .reg (.rmaCqpi 0), .reg (.stgCmd 0), .reg (.stgLbalo 0), .reg (.stgLbahi 0), .reg (.stgBlks 0), .reg (.stgBuflo 0),
  .reg (.stgBufhi 0), .reg (.stgBufctl 0), .reg (.stgStatus 0), .reg (.stgDone 0), .reg (.stgCtl 0), .reg (.stgCpend 0), .reg .stgXerr,
  .reg (.hifHstat 0), .reg (.pltPstat 0), .reg (.ckpPstat 0), .reg (.ckpSealed 0), .reg (.ckpCow 0), .reg (.ckpCowmax 0), .reg .evrDropcnt]

/-- What runInstr may change. -/
def Touch.runInstr : List Part := [.cores, .out, .host, .evr, .fw, .net, .reg (.nvcStatus 0), .reg (.nvcWdog 0), .reg (.nvcXcnt 0),
  .reg (.nvcCecnt 0), .reg (.nvcHaltpc 0), .reg (.fwmState 0), .reg .fwmUpd, .reg (.mbxTfci 0), .reg (.mbxFfpi 0), .reg (.prsPuntdrop 0),
  .reg .evrDropcnt]

/-- What ckpFail may change. -/
def Touch.ckpFail : List Part := [.mem, .watched, .cores, .evr, .ram, .ckp, .dirtyC, .dirtyD, .reg (.ckpPstat 0), .reg .evrDropcnt]

/-- What thermalEvent may change. -/
def Touch.thermalEvent : List Part := [.cores, .evr, .reg .evrDropcnt]

/-- What postRecord may change. -/
def Touch.postRecord : List Part := [.mem, .watched, .out, .host, .evr, .ram, .ckp, .dirtyC, .dirtyD, .rma, .reg (.tilSperrinfo 0),
  .reg (.rmaCqpi 0), .reg (.pltPstat 0), .reg (.ckpCow 0), .reg (.ckpCowmax 0), .reg .evrDropcnt]

/-- What tileFaultXid may change. -/
def Touch.tileFaultXid : List Part := [.mem, .watched, .fresh, .tiles, .plots, .cores, .out, .host, .evr, .fw, .ram, .dirtyC, .dirtyD, .rma,
  .reg (.arrErr 0), .reg (.arrErrinfo 0), .reg (.tilSherr 0), .reg (.tilSherrinfo 0), .reg (.tilAccsat 0), .reg (.tilMxnan 0), .reg (.tilNosample 0),
  .reg (.schStatus 0), .reg (.schErr 0), .reg (.schErrinfo 0), .reg (.tilSperrinfo 0), .reg (.schPstat 0), .reg (.mbxTfci 0), .reg (.mbxFfpi 0),
  .reg (.pltPstat 0), .reg .evrDropcnt]

/-- What holdPlot may change. -/
def Touch.holdPlot : List Part := [.plots, .ckp, .reg (.schPstat 0), .reg (.pltPstat 0)]

/-- What trackFactor may change. -/
def Touch.trackFactor : List Part := [.tiles, .cores, .evr, .reg (.arrStatus 0), .reg (.arrGrp 0 0), .reg (.arrValid 0 0), .reg (.calGstat 0 0),
  .reg (.calFlag 0 0), .reg .evrDropcnt]

/-- What park may change. -/
def Touch.park : List Part := [.cores, .net, .rma, .reg (.rmaCnt 0)]

/-- What takeComponents may change. -/
def Touch.takeComponents : List Part := [.cores, .evr, .fw, .net, .reg (.nvcStatus 0), .reg (.nvcWdog 0), .reg (.nvcHaltpc 0), .reg (.fwmVer 0),
  .reg (.fwmState 0), .reg (.fwmDig 0 0), .reg (.prsPuntdrop 0), .reg .evrDropcnt]

/-- What wrBytes may change. -/
def Touch.wrBytes : List Part := [.mem, .watched, .dirtyC, .dirtyD]

/-- What closeSession may change. -/
def Touch.closeSession : List Part := [.out, .fw, .sec, .reg (.mbxTfpi 0), .reg (.mbxTfci 0), .reg (.mbxFfpi 0), .reg (.mbxFfci 0)]

/-- What definePlot may change. -/
def Touch.definePlot : List Part := [.reg (.schPstat 0), .reg (.lpxRgnbase 0), .reg (.lpxRgnsize 0), .reg (.prsPart 0), .reg (.prsMpart 0),
  .reg (.tmsQcfg 0), .reg (.stgCtl 0), .reg (.pltPstat 0), .reg (.pltTiles 0 0)]

/-- What wakeGroup may change. -/
def Touch.wakeGroup : List Part := [.tiles, .power, .reg (.arrGrp 0 0), .reg .pwrStatus, .reg .pwrWakedly]

/-- What lpxEcc may change. -/
def Touch.lpxEcc : List Part := [.mem, .watched, .plots, .cores, .out, .evr, .ram, .ckp, .dirtyC, .dirtyD, .rma, .reg (.schPstat 0), .reg .lpxFreeze,
  .reg .lpxUecnt, .reg (.lpxCecnt 0), .reg (.lpxUlog 0), .reg (.pltPstat 0), .reg (.ckpPstat 0), .reg .evrDropcnt]

/-- What failRelease may change. -/
def Touch.failRelease : List Part := [.host, .evr, .power, .net, .reg (.netPcfg 0), .reg (.netPstat 0), .reg (.tmsQdrop 0), .reg .rstStage,
  .reg .rstBoot, .reg (.rstTilefail 0), .reg .evrDropcnt]

/-- What hostError may change. -/
def Touch.hostError : List Part := [.mem, .watched, .cores, .out, .host, .evr, .fw, .ram, .ckp, .dirtyC, .dirtyD, .rma, .stg, .reg (.mbxTfci 0),
  .reg (.mbxFfpi 0), .reg (.rmaCnt 0), .reg (.rmaRctl 0), .reg (.stgStatus 0), .reg (.stgCtl 0), .reg (.stgCpend 0), .reg (.hifHstat 0),
  .reg .hifHaerr, .reg .hifFeeddrop, .reg (.ckpPstat 0), .reg (.ckpSealed 0), .reg .evrDropcnt]

/-- What commitTile may change. -/
def Touch.commitTile : List Part := [.tiles, .reg (.arrTiming 0), .reg (.arrLdesc 0 0), .reg (.tilPpda 0 0), .reg (.tilPpdb 0 0),
  .reg (.tilScale 0 0), .reg (.schStatus 0), .reg (.schLen 0)]

/-- What postMsg may change. -/
def Touch.postMsg : List Part := [.out, .host, .fw, .reg (.mbxFfpi 0)]

/-- What a command may change (its frame): nothing of the state but these parts, on any path. -/
def touches : Instr → List Part
  | .laserLoss .. => Touch.thermalEvent ++ [.net, .reg (.netPcfg 0), .reg (.netPstat 0), .reg (.tmsQdrop 0)]
  | .supplyWarning .. => Touch.thermalEvent ++ [.tiles, .out, .host, .reg (.arrStatus 0), .reg (.arrStretch 0), .reg (.schMaxwait 0),
      .reg (.schStall 0 0), .reg .pwrStatus, .reg .pwrWarnlog, .reg .pwrTemp, .reg .pwrWarncnt]
  | .halvingEnd .. => [.tiles, .reg (.arrStatus 0), .reg .pwrTemp]
  | .supplyReset .. => Touch.storeRstCmd ++ [.tick, .seed]
  | .retentionLoss .. => [.fresh, .tiles, .evr, .reg (.arrErr 0), .reg (.arrErrinfo 0), .reg (.arrValid 0 0), .reg .evrDropcnt]
  | .thermalLevelChange .. => Touch.thermalEvent ++ [.tiles, .out, .host, .reg (.arrStatus 0), .reg .pwrDie, .reg .pwrThrcnt]
  | .hot .. => Touch.thermalEvent ++ [.tiles, .power, .reg .pwrTemp]
  | .hotEnd .. => [.tiles, .power, .reg .pwrTemp]
  | .thermalTrip .. => Touch.resetIsland ++ [.reg .rstStage, .reg .rstCause]
  | .thermtripRelease => [.power]
  | .referenceLost .. => Touch.resetIsland ++ [.reg .clkRefstat, .reg .clkLosscnt, .reg .rstCause, .reg .rstRereset]
  | .referenceBack => Touch.thermalEvent ++ [.out, .host, .reg .clkRefstat]
  | .clockReadyDrop .. => Touch.resetIsland ++ [.reg .clkLosscnt, .reg .rstCause, .reg .rstRereset]
  | .avsAck .. => [.tiles, .power, .reg .pwrDie]
  | .avsTimeout .. => Touch.thermalEvent ++ [.power, .reg .pwrDie]
  | .lpxRateChange .. => Touch.lpxEcc ++ Touch.answer ++ [.power, .reg .pwrAdmit, .reg .lpxStatus, .reg .hifUrcnt]
  | .wakeGrant .. => [.tiles, .evr, .power, .reg (.arrGrp 0 0), .reg (.schSlackcnt 0), .reg (.schSlackinfo 0), .reg .pwrStatus, .reg .evrDropcnt]
  | .wakeTokenReturn => [.power, .reg .pwrStatus]
  | .groupAwake .. => Touch.judge ++ [.sec, .reg (.arrMode 0 0), .reg .secHuskfail]
  | .loadiv .. => Touch.judge
  | .launch .. => Touch.judge
  | .rlaunch .. => Touch.judge
  | .collect .. => Touch.judge
  | .rcollect .. => Touch.judge
  | .mvmComplete .. => Touch.judge
  | .weightWriteOpen .. => Touch.wakeGroup ++ [.reg (.arrErr 0), .reg (.arrErrinfo 0), .reg (.arrValid 0 0)]
  | .weightRowWrite .. => Touch.trackFactor ++ [.reg (.arrErr 0), .reg (.arrErrinfo 0)]
  | .weightWriteClose .. => [.tiles, .reg (.arrErr 0), .reg (.arrErrinfo 0), .reg (.arrGrp 0 0), .reg (.arrMode 0 0), .reg (.arrValid 0 0)]
  | .fallowReq .. => Touch.wakeGroup
  | .retiredNext .. => [.reg (.arrGrp 0 0)]
  | .vecFma .. => Touch.judge
  | .vecAdd .. => Touch.judge
  | .vecMul .. => Touch.judge
  | .max .. => Touch.judge
  | .min .. => Touch.judge
  | .cvt .. => Touch.judge
  | .func .. => Touch.judge
  | .rsum .. => Touch.judge
  | .rmax .. => Touch.judge
  | .mxenc .. => Touch.judge
  | .mxdec .. => Touch.judge
  | .route .. => Touch.judge
  | .sample .. => Touch.judge
  | .mma .. => Touch.judge
  | .mmaz .. => Touch.judge
  | .drain .. => Touch.judge
  | .ld .. => Touch.judge
  | .st .. => Touch.judge
  | .cpy .. => Touch.judge
  | .ctlWait .. => Touch.judge
  | .loop .. => Touch.judge
  | .endloop .. => Touch.judge
  | .seedld .. => Touch.judge
  | .fallow .. => Touch.judge
  | .endOp .. => Touch.judge
  | .send .. => Touch.judge
  | .xngWait .. => Touch.judge
  | .lread .. => Touch.judge
  | .free .. => Touch.judge
  | .crossingReady .. => Touch.judge ++ Touch.stgAsk ++ Touch.postRecord ++ Touch.lpxEcc ++ Touch.park ++ [.reg (.schSlackcnt 0),
      .reg (.schSlackinfo 0), .reg .hifFeeddrop]
  | .stepStart .. => Touch.holdPlot ++ [.watched, .fresh, .tiles, .cores, .out, .power, .reg (.arrStatus 0), .reg (.arrGrp 0 0),
      .reg (.arrSatcnt 0 0), .reg (.calGstat 0 0), .reg (.schStatus 0), .reg (.schCycle 0), .reg (.tilRgn 0 0 0), .reg (.schPctrl 0),
      .reg (.schPlate 0), .reg (.telPstall 0 0), .reg (.telPslack 0), .reg (.telPworst 0)]
  | .leaderStart .. => Touch.holdPlot ++ [.out]
  | .markerStartReceived .. => Touch.tileFaultXid
  | .markerStopReceived .. => Touch.holdPlot
  | .markerTimeout .. => Touch.tileFaultXid
  | .faultNotice .. => [.plots]
  | .stepWatchdog .. => Touch.tileFaultXid ++ [.reg (.arrStretch 0), .reg (.schMaxwait 0), .reg (.schStall 0 0)]
  | .hold .. => Touch.holdPlot ++ [.out, .reg (.schPctrl 0)]
  | .holdResume .. => [.plots, .reg (.schPctrl 0), .reg (.schPstat 0), .reg (.pltPstat 0)]
  | .halt .. => Touch.judge ++ [.reg (.schPctrl 0)]
  | .fgReq .. => [.reg (.calGstat 0 0)]
  | .recalReq .. => [.reg (.calRecalcnt 0), .reg (.calGstat 0 0)]
  | .foregroundCalComplete .. => Touch.trackFactor ++ [.fresh]
  | .fallowWindow .. => Touch.wrBytes ++ [.fresh, .tiles, .plots, .reg (.arrStatus 0), .reg (.arrGrp 0 0), .reg (.arrSatcnt 0 0), .reg (.tilSherr 0),
      .reg (.tilSherrinfo 0), .reg (.tilAccsat 0), .reg (.tilMxnan 0), .reg (.tilNosample 0), .reg (.schCycle 0)]
  | .measurementSet .. => Touch.trackFactor ++ [.fresh, .reg (.calRecalcnt 0), .reg (.calSoftcnt 0)]
  | .groupStale .. => [.evr, .reg (.calStalecnt 0), .reg (.calGstat 0 0), .reg .evrDropcnt]
  | .probationSet .. => Touch.trackFactor ++ [.fresh, .reg (.calRecalcnt 0), .reg (.calSoftcnt 0)]
  | .probationEnd .. => [.reg (.calGstat 0 0)]
  | .repairStart .. => [.reg (.arrGrp 0 0)]
  | .repairSegmentRead .. => [.tiles, .evr, .reg .evrDropcnt]
  | .calstoreSave .. => Touch.answer ++ [.ram]
  | .tileDegradedHold .. => Touch.commitTile ++ Touch.holdPlot ++ Touch.park ++ Touch.wakeGroup ++ Touch.thermalEvent ++ [.out, .reg (.arrStatus 0),
      .reg (.schPctrl 0), .reg .pwrAdmit, .reg (.tmsQcfg 0)]
  | .scratchpadDmAccess .. => Touch.ckpFail ++ Touch.holdPlot ++ [.tiles, .out, .rma, .reg (.tilSperr 0), .reg (.tilSperrinfo 0),
      .reg (.tilSpcecnt 0), .reg .lpxFreeze]
  | .apertureAccess .. => Touch.ckpFail ++ Touch.holdPlot ++ [.tiles, .out, .rma, .reg (.tilSperr 0), .reg (.tilSperrinfo 0), .reg (.tilSpcecnt 0),
      .reg .lpxFreeze, .reg .hifUrcnt]
  | .apertureTimeout .. => [.out, .reg (.tilSperr 0)]
  | .regionRegisterWrite .. => [.tiles, .evr, .reg (.tilRgn 0 0 0), .reg .evrDropcnt]
  | .lpxRequest .. => Touch.lpxEcc
  | .regionEnable .. => [.mem, .fresh, .evr, .ram, .dirtyC, .dirtyD, .reg (.lpxRgnctl 0), .reg .evrDropcnt]
  | .regionDisable .. => [.evr, .ram, .reg (.lpxUlog 0), .reg (.lpxRgnctl 0), .reg .evrDropcnt]
  | .patrolRead .. => Touch.lpxEcc
  | .dqsTracking .. => [.ram]
  | .bar2Read .. => Touch.lpxEcc ++ [.host, .reg .hifUrcnt]
  | .bar2Write .. => Touch.lpxEcc ++ [.host, .reg .hifUrcnt]
  | .add .. => Touch.runInstr
  | .adc .. => Touch.runInstr
  | .sub .. => Touch.runInstr
  | .sbc .. => Touch.runInstr
  | .and .. => Touch.runInstr
  | .or .. => Touch.runInstr
  | .xor .. => Touch.runInstr
  | .andn .. => Touch.runInstr
  | .shl .. => Touch.runInstr
  | .shr .. => Touch.runInstr
  | .sar .. => Touch.runInstr
  | .ror .. => Touch.runInstr
  | .mul .. => Touch.runInstr
  | .mulhu .. => Touch.runInstr
  | .mulhs .. => Touch.runInstr
  | .mov .. => Touch.runInstr
  | .addi .. => Touch.runInstr
  | .subi .. => Touch.runInstr
  | .andi .. => Touch.runInstr
  | .ori .. => Touch.runInstr
  | .xori .. => Touch.runInstr
  | .shi .. => Touch.runInstr
  | .movi .. => Touch.runInstr
  | .movhi .. => Touch.runInstr
  | .ldw .. => Touch.coreLoad ++ Touch.runInstr
  | .ldh .. => Touch.coreLoad ++ Touch.runInstr
  | .ldhs .. => Touch.coreLoad ++ Touch.runInstr
  | .ldb .. => Touch.coreLoad ++ Touch.runInstr
  | .ldbs .. => Touch.coreLoad ++ Touch.runInstr
  | .stw .. => Touch.storeRstCmd
  | .sth .. => Touch.storeRstCmd
  | .stb .. => Touch.storeRstCmd
  | .pset .. => Touch.runInstr
  | .pget .. => Touch.runInstr
  | .padd .. => Touch.runInstr
  | .movp .. => Touch.storeRstCmd
  | .push .. => Touch.storeRstCmd
  | .pushm .. => Touch.storeRstCmd
  | .pop .. => Touch.coreLoad ++ Touch.runInstr
  | .popm .. => Touch.coreLoad ++ Touch.runInstr
  | .b .. => Touch.runInstr
  | .call .. => Touch.runInstr
  | .callr .. => Touch.runInstr
  | .jmpr .. => Touch.runInstr
  | .ret .. => Touch.runInstr
  | .reti .. => Touch.runInstr
  | .jmp .. => Touch.runInstr
  | .rep .. => Touch.runInstr
  | .repi .. => Touch.runInstr
  | .mfc .. => Touch.runInstr
  | .mtc .. => Touch.runInstr
  | .trap .. => Touch.runInstr
  | .wfi .. => Touch.runInstr
  | .wfiResume .. => Touch.endUpdate ++ [.reg (.nvcXcnt 0)]
  | .fence .. => Touch.runInstr
  | .spill .. => Touch.storeRstCmd
  | .fill .. => Touch.coreLoad ++ Touch.runInstr
  | .custom .. => Touch.storeRstCmd
  | .nop .. => Touch.runInstr
  | .interruptEntry .. => Touch.endUpdate ++ [.reg (.nvcXcnt 0)]
  | .watchdogWarning .. => [.cores]
  | .watchdogExpiry .. => Touch.endUpdate ++ Touch.takeComponents ++ [.reg .rstCause]
  | .wardenHaltResponse .. => Touch.resetIsland ++ Touch.takeComponents ++ [.reg .rstCause]
  | .mailboxRequest .. => Touch.answer ++ [.reg (.mbxTfpi 0)]
  | .mbxFfci .. => Touch.postMsg ++ [.cores, .reg (.mbxFfci 0)]
  | .mbxReset .. => Touch.judge ++ Touch.stgAsk ++ [.reg (.mbxTfpi 0), .reg (.mbxFfci 0), .reg (.rmaCnt 0), .reg (.rmaRctl 0), .reg .hifInvcnt]
  | .hello .. => Touch.stgAsk ++ [.reg (.fwmHgen 0)]
  | .fwStage .. => Touch.answer ++ [.reg (.fwmState 0), .reg .fwmUpd]
  | .fwActivate .. => Touch.answer ++ [.reg (.fwmState 0), .reg .fwmUpd]
  | .fwQuery .. => Touch.answer
  | .liveUpdateSwitch .. => Touch.endUpdate ++ Touch.takeComponents
  | .liveUpdateTimeout .. => Touch.endUpdate
  | .fabricBroadcastFrame .. => [.fw]
  | .fabricBroadcastRepair .. => Touch.endUpdate
  | .distJoin .. => Touch.answer
  | .distSend .. => Touch.answer
  | .distStatus .. => Touch.answer
  | .distLeave .. => Touch.answer
  | .distSourceSend .. => [.fw, .net]
  | .distSeg .. => Touch.wrBytes ++ Touch.postMsg ++ [.net]
  | .distEnd .. => [.fw]
  | .distNack .. => [.net]
  | .distHave .. => [.fw]
  | .distReq .. => [.net]
  | .distGapTimer .. => Touch.postMsg ++ [.cores, .net]
  | .distAnswerWindowEnd .. => [.fw]
  | .frameReceive .. => [.cores, .net, .reg .prsNomatch, .reg .prsParsefail, .reg .prsMeterdrop, .reg .prsDestdrop, .reg (.prsPuntdrop 0),
      .reg (.tmsQdrop 0)]
  | .laneFail .. => Touch.thermalEvent ++ [.net, .reg (.netPcfg 0), .reg (.netPstat 0), .reg (.tmsQdrop 0)]
  | .laneReenable .. => [.net, .reg (.netPcfg 0)]
  | .laneCheckDone .. => [.net, .reg (.netPcfg 0), .reg (.netPstat 0), .reg (.tmsQdrop 0)]
  | .subportRetrainDone .. => [.net, .reg (.netPstat 0)]
  | .egressSchedule .. => Touch.judge ++ Touch.stgAsk ++ Touch.postRecord ++ Touch.park
  | .queueSample .. => [.net, .reg (.tmsQstat 0), .reg (.tmsQavg 0)]
  | .queueFlush .. => [.net, .reg (.tmsQcfg 0), .reg (.tmsQdrop 0)]
  | .qavgClear .. => [.net]
  | .prsRead .. => [.reg .prsCmd, .reg (.prsData 0)]
  | .prsWrite .. => [.net, .reg .prsCmd]
  | .omfWrite .. => Touch.handlePkt
  | .omfWriteImm .. => Touch.handlePkt
  | .omfReadReq .. => Touch.handlePkt
  | .omfReadResp .. => Touch.handlePkt
  | .omfSend .. => Touch.handlePkt
  | .omfFadd .. => Touch.handlePkt
  | .omfCswap .. => Touch.handlePkt
  | .omfAtomicResp .. => Touch.handlePkt
  | .omfAck .. => Touch.handlePkt
  | .omfNak .. => Touch.handlePkt
  | .omfRnr .. => [.net, .rma, .reg (.rmaCnt 0)]
  | .openReq .. => Touch.park ++ [.fresh]
  | .openAck .. => Touch.answer ++ [.rma, .reg (.rmaCnt 0)]
  | .omfClose .. => Touch.handlePkt
  | .rekey .. => Touch.handlePkt
  | .rekeyAck .. => Touch.handlePkt
  | .blockVerb .. => Touch.handlePkt
  | .ackTimer .. => Touch.park ++ Touch.thermalEvent
  | .retransmitTimeout .. => Touch.judge ++ Touch.stgAsk ++ Touch.postRecord ++ Touch.park ++ [.reg (.rmaRctl 0), .reg (.rmaWqci 0)]
  | .rnrResend .. => Touch.judge ++ Touch.stgAsk ++ Touch.postRecord ++ Touch.park
  | .rekeyTimeout .. => Touch.judge ++ Touch.stgAsk ++ Touch.postRecord ++ Touch.park ++ [.reg (.rmaRctl 0), .reg (.rmaWqci 0)]
  | .kphaseWindowEnd .. => [.rma]
  | .contextFetchDone .. => Touch.handlePkt
  | .contextFetchFail .. => [.cores, .rma, .reg (.rmaCnt 0)]
  | .revokeComplete .. => Touch.answer ++ [.net, .rma]
  | .workRequest .. => Touch.judge ++ Touch.stgAsk ++ Touch.postRecord ++ Touch.park ++ [.reg (.rmaRctl 0), .reg (.rmaWqpi 0), .reg (.rmaWqci 0)]
  | .operationSlotGrant => Touch.judge ++ Touch.stgAsk ++ Touch.postRecord ++ Touch.park ++ [.reg (.rmaRctl 0), .reg (.rmaWqci 0)]
  | .rmaCqci .. => Touch.postRecord ++ [.reg (.rmaCqci 0)]
  | .rmaOpen .. => Touch.answer ++ [.fresh, .net, .rma]
  | .rmaClose .. => Touch.judge ++ Touch.stgAsk ++ Touch.postRecord ++ Touch.park ++ [.reg (.rmaRctl 0), .reg (.rmaWqci 0)]
  | .rmaRekey .. => Touch.answer ++ Touch.park ++ Touch.thermalEvent ++ [.fresh]
  | .rmaReg .. => Touch.answer ++ [.rma]
  | .rmaRevoke .. => Touch.answer ++ [.net, .rma]
  | .rmaReadContext .. => [.cores, .reg .rmaCmd, .reg (.rmaData 0)]
  | .rmaWriteContext .. => [.cores, .rma, .reg .rmaCmd]
  | .rmaReadRegion .. => [.cores, .reg .rmaCmd, .reg (.rmaData 0)]
  | .rmaWriteRegion .. => [.cores, .rma, .reg .rmaCmd]
  | .rmaPin .. => [.cores, .rma, .reg .rmaCmd, .reg (.rmaCnt 0)]
  | .rmaUnpin .. => [.cores, .rma, .reg .rmaCmd]
  | .stgRead .. => Touch.judge ++ Touch.stgAsk ++ Touch.postRecord ++ Touch.park ++ [.reg (.stgDone 0), .reg .stgRefused]
  | .stgWrite .. => Touch.judge ++ Touch.stgAsk ++ Touch.postRecord ++ Touch.park ++ [.reg (.stgDone 0), .reg .stgRefused]
  | .stgFlush .. => Touch.judge ++ Touch.stgAsk ++ Touch.postRecord ++ Touch.park ++ [.reg (.stgDone 0), .reg .stgRefused]
  | .stgDealloc .. => Touch.judge ++ Touch.stgAsk ++ Touch.postRecord ++ Touch.park ++ [.reg (.stgDone 0), .reg .stgRefused]
  | .stgAbort .. => Touch.stgAsk ++ [.reg .stgAbortmiss]
  | .channelReset .. => Touch.stgAsk
  | .abortSettleTimeout .. => Touch.stgAsk
  | .channelPowerOn .. => [.stg, .reg (.stgCtl 0)]
  | .channelPowerOff .. => [.stg, .reg (.stgCtl 0)]
  | .channelDoze .. => [.reg (.stgCtl 0)]
  | .stgBind .. => Touch.answer ++ [.stg]
  | .stgUnbind .. => Touch.answer ++ [.stg]
  | .stgQuery .. => Touch.answer
  | .linkUp .. => [.reg .hifLink]
  | .linkDown => Touch.judge ++ Touch.stgAsk ++ [.reg (.rmaCnt 0), .reg (.rmaRctl 0), .reg .hifLink, .reg .hifInvcnt]
  | .heartbeat .. => [.reg (.hifHb 0), .reg (.hifHstat 0)]
  | .heartbeatLoss .. => Touch.judge ++ Touch.stgAsk ++ [.reg (.rmaCnt 0), .reg (.rmaRctl 0), .reg .hifInvcnt]
  | .flr .. => Touch.judge ++ Touch.stgAsk ++ [.reg (.mbxTfpi 0), .reg (.mbxFfci 0), .reg (.rmaCnt 0), .reg (.rmaRctl 0), .reg (.hifHb 0),
      .reg (.hifHbcfg 0), .reg .hifInvcnt]
  | .dStateChange .. => Touch.judge ++ Touch.stgAsk ++ [.reg (.rmaCnt 0), .reg (.rmaRctl 0), .reg .hifLink, .reg .hifInvcnt]
  | .invalidationRequest .. => [.out, .host, .reg .hifInvcnt]
  | .invalidationTimeout .. => Touch.hostError ++ [.reg .hifInvcnt]
  | .translationCompletion .. => Touch.judge ++ Touch.hostError
  | .hostAccessError .. => Touch.judge ++ Touch.hostError ++ [.reg .hifInvcnt]
  | .expansionRomRead .. => [.out, .host, .reg .hifUrcnt]
  | .receivedTlpFault .. => Touch.judge ++ Touch.hostError ++ [.reg .hifUrcnt, .reg .hifMalcnt, .reg .hifInvcnt]
  | .secReport .. => Touch.judge ++ Touch.stgAsk ++ Touch.postRecord ++ Touch.closeSession ++ [.reg (.lpxRgnctl 0), .reg .secStatus,
      .reg .secLowleft, .reg .secAlarm, .reg .secAlarmcnt, .reg .secDualfail]
  | .secKeyload .. => Touch.judge ++ Touch.stgAsk ++ Touch.postRecord ++ Touch.closeSession ++ [.reg (.lpxRgnctl 0), .reg .secStatus,
      .reg .secLowleft, .reg .secAlarm, .reg .secAlarmcnt, .reg .secDualfail, .reg .secRelfail]
  | .secKeystore .. => Touch.judge ++ Touch.stgAsk ++ Touch.postRecord ++ Touch.closeSession ++ [.reg (.lpxRgnctl 0), .reg .secStatus,
      .reg .secLowleft, .reg .secAlarm, .reg .secAlarmcnt, .reg .secDualfail]
  | .secKeydrop .. => Touch.ckpFail ++ Touch.answer ++ [.sec, .reg .secStatus]
  | .huskLoad .. => Touch.trackFactor ++ Touch.answer ++ Touch.wakeGroup ++ [.mem, .watched, .plots, .sec, .reg (.arrErr 0), .reg (.arrErrinfo 0),
      .reg (.arrMode 0 0), .reg .secHuskfail]
  | .secNewepoch .. => Touch.judge ++ Touch.stgAsk ++ Touch.takeComponents ++ Touch.postRecord ++ Touch.closeSession ++ [.reg (.schPctrl 0),
      .reg (.lpxRgnctl 0), .reg .secStatus, .reg .secEpoch, .reg .secLowleft, .reg .secDbg]
  | .secXfer .. => Touch.answer ++ Touch.wrBytes ++ [.sec]
  | .secProvision .. => Touch.answer ++ [.sec]
  | .fuseClass .. => Touch.answer ++ [.sec]
  | .fuseFloor .. => Touch.answer ++ [.sec]
  | .fuseCompactOff .. => Touch.answer ++ [.sec]
  | .fusePermlock .. => Touch.answer ++ [.sec]
  | .fuseDbgowner .. => Touch.answer ++ [.sec]
  | .dbgChallenge .. => Touch.answer ++ [.sec]
  | .dbgNonceExpiry => [.sec]
  | .dbgUnlock .. => Touch.answer ++ [.sec, .reg .secDbg]
  | .dbgCoreHalt .. => Touch.endUpdate
  | .dbgCoreRelease .. => Touch.answer ++ [.reg (.nvcStatus 0)]
  | .securityAlarm .. => Touch.judge ++ Touch.stgAsk ++ Touch.postRecord ++ Touch.closeSession ++ [.reg (.lpxRgnctl 0), .reg .secStatus,
      .reg .secLowleft, .reg .secAlarm, .reg .secAlarmcnt]
  | .alarmRecovery => [.fresh, .sec, .reg .secStatus, .reg .secEpoch, .reg .secLowleft, .reg .secAlarm]
  | .bottomTreeReady => Touch.answer ++ Touch.wrBytes ++ [.sec, .reg .secStatus, .reg .secLowleft]
  | .mgmtRecord .. => Touch.closeSession ++ Touch.answer
  | .mgmtSessionTimeout .. => Touch.closeSession
  | .pltLoad .. => Touch.answer ++ [.plots, .power, .reg (.schPstat 0), .reg (.pltPstat 0)]
  | .pltCommit .. => Touch.commitTile ++ Touch.answer ++ Touch.park ++ Touch.thermalEvent ++ [.plots, .power, .reg (.arrStatus 0),
      .reg (.schPstat 0), .reg (.tmsQcfg 0), .reg (.pltPstat 0)]
  | .pltStart .. => Touch.answer ++ Touch.thermalEvent ++ [.plots, .reg (.schPstat 0), .reg .pwrAdmit, .reg (.pltPstat 0)]
  | .pltAbort .. => Touch.stgAsk ++ Touch.holdPlot ++ [.tiles, .net, .sec, .reg (.arrGrp 0 0), .reg (.schStatus 0), .reg (.tmsQdrop 0),
      .reg (.rmaRctl 0), .reg .pltCmd]
  | .abortBlocksIdle .. => Touch.judge ++ Touch.stgAsk ++ Touch.closeSession ++ Touch.park ++ [.reg (.tilRgn 0 0 0), .reg (.schPctrl 0),
      .reg (.lpxUlog 0), .reg (.lpxRgnctl 0), .reg (.tmsQcfg 0), .reg (.tmsQdrop 0), .reg (.rmaRctl 0), .reg .hifInvcnt, .reg (.hifFwinCtl 0),
      .reg .secStatus, .reg .pltCmd, .reg (.pltGen 0)]
  | .abortIdleTimeout .. => Touch.judge ++ Touch.stgAsk ++ Touch.closeSession ++ Touch.park ++ [.reg (.tilRgn 0 0 0), .reg (.schPctrl 0),
      .reg (.lpxUlog 0), .reg (.lpxRgnctl 0), .reg (.tmsQcfg 0), .reg (.tmsQdrop 0), .reg (.rmaRctl 0), .reg .hifInvcnt, .reg (.hifFwinCtl 0),
      .reg .secStatus, .reg .pltCmd, .reg (.pltGen 0)]
  | .abortRateWaitEnd .. => Touch.stgAsk ++ Touch.holdPlot ++ [.tiles, .net, .sec, .reg (.arrGrp 0 0), .reg (.schStatus 0), .reg (.tmsQdrop 0),
      .reg (.rmaRctl 0)]
  | .pltHarrow .. => Touch.stgAsk ++ Touch.holdPlot ++ [.tiles, .net, .sec, .reg (.arrGrp 0 0), .reg (.schStatus 0), .reg (.tmsQdrop 0),
      .reg (.rmaRctl 0), .reg .pltCmd]
  | .harrowComplete .. => Touch.trackFactor ++ Touch.commitTile ++ Touch.answer ++ Touch.wakeGroup ++ [.mem, .fresh, .plots, .ram, .dirtyC, .dirtyD,
      .reg (.arrErr 0), .reg (.arrErrinfo 0), .reg (.arrTemp 0), .reg (.arrConvLo 0), .reg (.arrConvHi 0), .reg (.arrRefskip 0),
      .reg (.arrStretch 0), .reg (.arrMode 0 0), .reg (.arrSatcnt 0 0), .reg (.tilSherr 0), .reg (.tilSherrinfo 0), .reg (.tilAccsat 0),
      .reg (.tilMxnan 0), .reg (.tilNosample 0), .reg (.tilSeedLo 0), .reg (.tilSeedHi 0), .reg (.calCtrl 0), .reg (.calGmask 0),
      .reg (.calTrimsel 0), .reg (.calTrimdata 0), .reg (.calRecalcnt 0), .reg (.calStalecnt 0), .reg (.calSoftcnt 0), .reg (.schCycle 0),
      .reg (.schErr 0), .reg (.schErrinfo 0), .reg (.schSlackcnt 0), .reg (.schSlackinfo 0), .reg (.schMaxwait 0), .reg (.schStall 0 0),
      .reg (.schLstall 0 0), .reg (.tilSperr 0), .reg (.tilSperrinfo 0), .reg (.tilSpcecnt 0), .reg (.tilSpapbase 0), .reg (.tilRgn 0 0 0),
      .reg (.schPstat 0), .reg .lpxFreeze, .reg (.lpxRgnctl 0), .reg .pltCmd, .reg (.pltPstat 0)]
  | .fillComplete .. => Touch.wrBytes ++ [.plots, .ram, .reg .lpxFreeze, .reg (.lpxUlog 0), .reg (.pltPstat 0)]
  | .quarantineRelease .. => [.rma]
  | .pltDefine .. => Touch.definePlot ++ Touch.answer
  | .pltUndefine .. => Touch.definePlot ++ Touch.answer ++ [.ram, .reg (.lpxUlog 0), .reg (.lpxRgnctl 0)]
  | .pltQuery .. => Touch.answer
  | .powerOnReset => Touch.storeRstCmd ++ [.tick, .seed]
  | .rstGate .. => Touch.answer ++ [.power, .reg .secStatus, .reg .rstStage, .reg .rstGate]
  | .stageBegin .. => [.evr, .power, .reg .secStatus, .reg .rstStage, .reg .rstGate, .reg .rstBoot, .reg .rstCmd, .reg .evrDropcnt]
  | .stageComplete .. => Touch.takeComponents ++ Touch.definePlot ++ [.fresh, .tiles, .host, .sec, .seed, .reg (.arrStatus 0), .reg .pwrCtrl,
      .reg .pwrWake, .reg .pwrCap, .reg .pwrFixed, .reg .pwrStatus, .reg .netBercfg, .reg .secStatus, .reg .secEpoch, .reg .secLowleft,
      .reg .rstStage, .reg .rstBoot, .reg .rstCfg, .reg .rstSeedseq]
  | .stageStop .. => [.host, .evr, .reg .rstStage, .reg .rstBoot, .reg .evrDropcnt]
  | .xspiRelease => [.reg .rstBoot]
  | .trimLoadCommit .. => Touch.failRelease
  | .islandRelease .. => Touch.takeComponents ++ Touch.trackFactor ++ Touch.wakeGroup ++ Touch.postMsg ++ [.ram, .reg (.schErr 0), .reg (.clkRdy 0),
      .reg .lpxStatus, .reg .lpxTrain, .reg .secStatus, .reg .rstStage, .reg .rstGate, .reg .rstCmd, .reg (.rstInrst 0)]
  | .pllLockTimeout .. => Touch.failRelease
  | .resetIdleTimeout => Touch.resetIsland ++ Touch.failRelease ++ [.tel, .reg .rstGate, .reg .rstSeedseq]
  | .managementIslandReset .. => Touch.resetIsland ++ [.reg .rstCmd, .reg .rstCause]
  | .headlandReset .. => Touch.takeComponents ++ Touch.answer ++ [.reg .rstCmd, .reg .rstCause]
  | .moduleReset .. => Touch.resetIsland ++ Touch.failRelease ++ [.tel, .reg .rstGate, .reg .rstCmd, .reg .rstCause, .reg .rstSeedseq]
  | .perstN .. => Touch.resetIsland ++ [.reg .rstCause]
  | .hotReset => Touch.resetIsland ++ [.reg .rstCause]
  | .seedWrite .. => Touch.answer ++ [.seed]
  | .seedCommit .. => Touch.answer ++ [.seed]
  | .seedQuery .. => Touch.answer
  | .ckpArm .. => Touch.answer ++ [.ckp, .reg (.ckpPstat 0)]
  | .ckpDisarm .. => Touch.answer ++ [.reg (.ckpPstat 0)]
  | .ckpRestore .. => Touch.answer ++ [.ckp, .reg (.ckpPstat 0)]
  | .ckpQuery .. => Touch.answer
  | .checkpointCut .. => Touch.ckpFail ++ [.sec, .reg (.ckpPend 0), .reg (.ckpSealed 0)]
  | .snapshotComplete .. => [.cores, .ckp, .reg (.ckpPstat 0)]
  | .copyBeforeWrite .. => Touch.wrBytes ++ [.ram, .ckp, .reg (.ckpCow 0), .reg (.ckpCowmax 0)]
  | .restoreComplete .. => Touch.answer ++ Touch.wrBytes ++ [.tiles, .plots, .ram, .ckp, .reg (.pltPstat 0), .reg (.ckpPstat 0)]
  | .eventRecordWrite => [.cores, .out, .host, .evr, .reg (.evrIrq 0)]
  | .evrCursorWrite .. => [.evr, .reg (.evrCurLo 0)]
  | .telSnap .. => [.tel, .reg .telSnap]
  | .telSubscribe .. => Touch.answer ++ [.tel]
  | .telExport .. => Touch.wrBytes ++ Touch.postMsg ++ [.tel, .reg .telSnap]
  | .clkFsel .. => [.power, .reg .clkFsel, .reg .clkFmeas]
  | .arrConvLoRead .. => [.out, .reg (.arrConvHi 0)]
  | .tilSeedLoRead .. => [.out, .reg (.tilSeedHi 0)]
  | .schPstepLoRead .. => [.out, .reg (.schPstepHi 0)]
  | .netCntLowRead .. => [.out, .reg (.arrConvHi 0), .reg (.tilSeedHi 0), .reg (.schPstepHi 0), .reg (.netCntHi 0 0), .reg (.ckpStephi 0),
      .reg (.evrHeadHi 0)]
  | .netCntLowWrite .. => [.net]
  | .evrHeadLoRead .. => [.out, .reg (.evrHeadHi 0)]
  | .ckpSteploRead .. => [.out, .reg (.ckpStephi 0)]
  | .registerWrite .. => Touch.storeRstCmd
  | .laserReturn .. => [.reg (.netPstat 0)]
  | .refclkReturn .. => Touch.thermalEvent ++ [.out, .host, .reg .clkRefstat, .reg .rstStage]
  | .railWarningEnd .. => [.power, .reg .pwrStatus]
  | .rampGuardRelease .. => Touch.judge ++ [.reg (.schSlackcnt 0), .reg (.schSlackinfo 0)]
  | .sensorSample .. => [.tiles, .power, .reg (.arrStatus 0), .reg (.arrTemp 0), .reg (.calGstat 0 0), .reg .pwrTemp]
  | .coreTimerExpiry .. => [.cores]
  | .hostReadCompletion .. => Touch.handlePkt ++ [.reg .hifInvcnt]
  | .managementPortFrame .. => [.out]

end Sys2Proof.Machine
end

