-- ==== Sys2Proof/Certificates/Slice0/Obligations.lean ====
section
/-! DEFINITION. The statements for the provers: the whole machine first, then every family of commands.  Each docstring names the rules it rests on. -/
set_option Elab.async false
open Sys2Proof Sys2Proof.Machine

/-- A step takes the command at the front of the queue and runs it on the state with the queue's rest.  On an empty queue the headland's microsecond counter
advances and nothing else: that is the model's choice (log entry 1). -/
def Obligations.StepTakesTheFrontCommand : Prop :=
  (∀ (c : Instr) (rest : List Instr) (s : State), s.pending = c :: rest → step s = exec c { s with pending := rest })
  ∧ (∀ s : State, s.pending = [] → step s = .next { s with tick := s.tick + 1 })

/-- R2, R186, R421 and the register tables: what reset leaves, and that the lists of the state are in their form.  What an unlisted byte of LPDDR5X reads as is
free (log entry 42), and that the fuses are blank is the model's choice (log entry 10). -/
def Obligations.ResetState : Prop :=
  State.reset.Canonical ∧ State.reset.pending = [] ∧ (∀ r, rd State.reset r = regReset r) ∧ (∀ a, rdByte State.reset a = memDefault a)
    ∧ (∀ k, fuse State.reset k = 0)

/-- The memory, the registers and the lists of tiles, plots, cores and checkpoint records keep their form in every step from every state in that form. -/
def Obligations.CanonicalFormKept : Prop := ∀ s t : State, s.Canonical → step s = .next t → t.Canonical

/-- R354, R367: in every step from every state, a fuse bit that is blown stays blown. -/
def Obligations.FusesOnlyBlown : Prop := ∀ s t : State, step s = .next t → FusesHold s t ∧ s.sec.epoch ≤ t.sec.epoch

/-- The frame of every command: on every path to a next state, nothing changes but the parts that touches lists for it; the queue stays. -/
def Obligations.CommandFrames : Prop := ∀ (i : Instr) (s t : State), exec i s = .next t → SameBut (touches i) s t

/-- R165, R169 to R173 and Table RST-5, the rails of Table PWR-4: a warning is logged, counted and halves its die; its end, the end of halving, a retention
loss and a supply reset. -/
def Obligations.SupplySagAndReset : Prop :=
  (∀ (rail : Fin 24) (ns : Nat) (s : State), isRail rail = true → Gives s (.supplyWarning rail ns) fun t =>
    rd t .pwrWarncnt = satAdd (rd s .pwrWarncnt) 1 ∧ bit (rd t .pwrStatus) rail = true ∧ bit (rd t .pwrWarnlog) rail = true
      ∧ ∀ d, railDie rail = some d → halved t d = true)
  ∧ (∀ (rail : Fin 24) (s : State), isRail rail = true → Gives s (.railWarningEnd rail) fun t =>
    bit (rd t .pwrStatus) rail = false ∧ rail.val ∉ t.power.railReset)
  ∧ (∀ (d : Fin 8) (s : State), halved s d = true → Gives s (.halvingEnd d) fun t => halved t d = false)
  ∧ (∀ (d : Fin 8) (s : State), Gives s (.retentionLoss d) fun t =>
    ∀ n ∈ dieTiles d, bit (rd t (.arrErr n)) 8 = true ∧ ∀ g < 32, rd t (.arrValid n g) = 0)
  ∧ (∀ (rail : Fin 24) (deep : Bool) (s : State), isRail rail = true → rail.val ≠ 0 → Gives s (.supplyReset rail deep) fun t =>
    bit (rd t .pwrRstlog) rail = true ∧ bit (rd t .rstCause) 1 = true ∧ (8 ≤ rail.val → ∀ n ∈ dieTiles (rail % 8), inReset t (64 + n) = true))

/-- R174, R175: the thermal level of a die moves by one, HOT is set and cleared, and the thermal trip resets every island but the headland. -/
def Obligations.TemperatureLevelsAndTrip : Prop :=
  (∀ (d : Fin 8) (s : State), rdFld s .pwrCtrl 19 13 + 64 ≤ dieTemp s d → thermalLevel s d < 3 → Gives s (.thermalLevelChange d) fun t =>
    thermalLevel t d = thermalLevel s d + 1 ∧ rd t .pwrThrcnt = satAdd (rd s .pwrThrcnt) 1)
  ∧ (∀ (d : Fin 8) (s : State), dieTemp s d + 5 < rdFld s .pwrCtrl 19 13 + 64 → 0 < thermalLevel s d → Gives s (.thermalLevelChange d) fun t =>
    thermalLevel t d = thermalLevel s d - 1 ∧ rd t .pwrThrcnt = rd s .pwrThrcnt)
  ∧ (∀ (d : Fin 8) (s : State), isHot s d = false → 164 ≤ dieTemp s d → Gives s (.hot d) fun t => isHot t d = true)
  ∧ (∀ (d : Fin 8) (s : State), isHot s d = true → dieTemp s d < 159 → Gives s (.hotEnd d) fun t => isHot t d = false)
  ∧ (∀ (die : Fin 9) (s : State), Gives s (.thermalTrip die) fun t =>
    bit (rd t .rstCause) 8 = true ∧ stageNo t = 0 ∧ stageState t = stRunning ∧ ∀ i ∈ allIslands, inReset t i = true)
  ∧ (∀ s : State, s.power.baseTemp < 154 → (∀ d < 8, dieTemp s d < 154) → Gives s .thermtripRelease fun t => t.power.thermtrip = false)
  ∧ (∀ (d : Fin 8) (cim : Vector Byte 16) (die base : Byte) (s : State), Gives s (.sensorSample d cim die base) fun t =>
    dieTemp t d = max die.toNat (maxNat (cim.toList.map BitVec.toNat)) ∧ t.power.baseTemp = base.toNat ∧ rdFld t .pwrTemp 31 24 = base.toNat)

/-- R54, R55, R162 to R164, R167, R168, R178: voltages, rates, wake tokens, the wake of a group, the ramp guard, and the frequency monitor. -/
def Obligations.VoltagesRatesAndWakes : Prop :=
  (∀ (d : Fin 8) (v : Nat) (s : State), mapFind s.power.request d = some v → Gives s (.avsAck d) fun t =>
    dieVolt t d = v ∧ bit (rd t .pwrDie) (24 + d) = false)
  ∧ (∀ (d : Fin 8) (s : State), (mapFind s.power.request d).isSome = true → Gives s (.avsTimeout d) fun t =>
    mapFind t.power.request d = none ∧ dieVolt t d = dieVolt s d ∧ bit (rd t .pwrDie) (24 + d) = true)
  ∧ (∀ (full : Bool) (s : State), s.power.changing = none → bit (rd s .lpxStatus) 0 ≠ full → (full = false → fullRateNeeded s = false) →
    Gives s (.lpxRateChange full false) fun t => t.power.changing = some full ∧ rd t .lpxStatus = rd s .lpxStatus)
  ∧ (∀ (full : Bool) (s : State), s.power.changing = some full → Gives s (.lpxRateChange full true) fun t =>
    t.power.changing = none ∧ bit (rd t .lpxStatus) 0 = full)
  ∧ (∀ (n : Fin 128) (ns : Nat) (s : State), tokens s ≠ 0 → nextWaking s n = true → Gives s (.wakeGrant n ns) fun t =>
    tokens t = tokens s - 1 ∧ (tile t n).wakeWaits = [] ∧ rd t (.schSlackcnt n) = satAdd (rd s (.schSlackcnt n)) 1)
  ∧ (∀ s : State, Gives s .wakeTokenReturn fun t => t.power.tokensOut = s.power.tokensOut - 1 ∧ rdFld t .pwrStatus 27 24 = tokens t
    ∧ (0 < s.power.tokensOut → s.power.tokensOut ≤ rdFld s .pwrWake 3 0 → tokens t = tokens s + 1))
  ∧ (∀ (n : Fin 128) (g : Fin 32) (waited : Nat) (s : State), grpPwr s n g = 1 → (tile s n).held = [] → s.sec.huskWaits = [] →
    ((tile s n).writes = [] → Gives s (.groupAwake n g waited) fun t => grpPwr t n g = 2)
    ∧ ∀ w, (tile s n).writes = [w] → w.group = g → w.waiting = true → w.load = false → Gives s (.groupAwake n g waited) fun t =>
        grpPwr t n g = 2 ∧ (tile t n).writes = [{ w with waiting := false }] ∧ bit (rd t (.arrValid n g)) w.slot = false)
  ∧ (∀ (n : Fin 128) (k waited ns : Nat) (s : State), (tile s n).held = [] → Gives s (.rampGuardRelease n k waited ns) fun t =>
    (tile t n).rampRise = (tile s n).rampRise - k)
  ∧ (∀ (i : BitVec 8) (cycles : Nat) (s : State), Gives s (.clkFsel i cycles) fun t =>
    rd t .clkFsel = BitVec.ofNat 32 i.toNat ∧
      rd t .clkFmeas = if isIsland i.toNat then BitVec.ofNat 32 (0x10000 + (countedCycles s i.toNat cycles + 8) / 16) else 0)

/-- R160, R161, R407, R412, Table PWR-2 and the laser inputs of R263: references and clocks lost and back. -/
def Obligations.ReferencesClocksAndLasers : Prop :=
  (∀ (k : Fin 3) (s : State), Gives s (.referenceLost k) fun t =>
    bit (rd t .clkRefstat) (10 - k) = true ∧ bit (rd t .clkRefstat) (2 - k) = false ∧ (k.val = 0 → bit (rd t .clkRefstat) 3 = true))
  ∧ (∀ s : State, (bit (rd s .clkRefstat) 2 = true → Gives s .referenceBack fun t => bit (rd t .clkRefstat) 3 = false ∧ bit (rd t .clkRefstat) 2 = true)
    ∧ (bit (rd s .clkRefstat) 2 = false → exec .referenceBack s = .next s))
  ∧ (∀ (k : Fin 3) (s : State), Gives s (.refclkReturn k) fun t => bit (rd t .clkRefstat) (2 - k) = true)
  ∧ (∀ (i : Fin 192) (s : State), isIsland i = true → inReset s i = false → Gives s (.clockReadyDrop i) fun t =>
    inReset t i = true ∧ rd t .clkLosscnt = satAdd (rd s .clkLosscnt) 1 ∧ rd t .rstRereset = satAdd (rd s .rstRereset) 1)
  ∧ (∀ (input : Fin 4) (s : State), (∃ p ∈ (List.range 4).map (· + 4 * input.val), rdFld s (.netPstat p) 11 8 ≠ 15) →
    Gives s (.laserLoss input) fun t => ∀ p ∈ (List.range 4).map (· + 4 * input.val), rdFld t (.netPstat p) 11 8 = 15 ∧ rdFld t (.netPcfg p) 11 8 = 15)
  ∧ (∀ (input : Fin 4) (s : State), Gives s (.laserReturn input) fun t =>
    ∀ p ∈ (List.range 4).map (· + 4 * input.val), rdFld t (.netPstat p) 11 8 = 0)

/-- R52, R51, R55, R45: opening, row by row writing and closing of a weight write; FALLOW_REQ and RETIRED_NEXT. -/
def Obligations.WeightWritesAndGroups : Prop :=
  (∀ (n : Fin 128) (g : Fin 32) (slot : Fin 17) (mode : Fin 3) (target : Fin 16) (kind : WriteKind) (s : State),
    (writePermitted s n g slot target kind = false → Gives s (.weightWriteOpen n g slot mode target kind) fun t => bit (rd t (.arrErr n)) 6 = true)
    ∧ (writePermitted s n g slot target kind = true → grpPwr s n g = 2 → Gives s (.weightWriteOpen n g slot mode target kind) fun t =>
        bit (rd t (.arrValid n g)) slot = false
        ∧ ∃ w ∈ (tile t n).writes, w.group = g ∧ w.slot = slot ∧ w.mode = mode ∧ w.kind = kind ∧ w.nextRow = 0 ∧ w.waiting = false)
    ∧ (writePermitted s n g slot target kind = true → grpPwr s n g ≠ 2 → Gives s (.weightWriteOpen n g slot mode target kind) fun t =>
        ∃ w ∈ (tile t n).writes, w.group = g ∧ w.slot = slot ∧ w.waiting = true))
  ∧ (∀ (n : Fin 128) (g : Fin 32) (slot : Fin 17) (row : BitVec 2048) (bad : Fin 3) (w : WeightWrite) (s : State),
    (tile s n).writes.find? (fun w => w.group == g.val && w.slot == slot.val && !w.waiting && !w.failed && decide (w.nextRow < 512)) = some w →
    (bad.val ≠ 2 → Gives s (.weightRowWrite n g slot row bad) fun t =>
      mapFind (tile t n).cells (512 * (17 * w.group + w.slot) + w.nextRow) = some (rowCells w (loaderRow s n w row))
        ∧ { w with nextRow := w.nextRow + 1 } ∈ (tile t n).writes)
    ∧ (bad.val = 2 → Gives s (.weightRowWrite n g slot row bad) fun t => bit (rd t (.arrErr n)) 7 = true))
  ∧ (∀ (n : Fin 128) (g : Fin 32) (slot : Fin 17) (s : State),
    (tile s n).writes.find? (fun w => w.group == g.val && w.slot == slot.val && !w.waiting) = none →
    Gives s (.weightWriteClose n g slot) fun t => bit (rd t (.arrErr n)) 6 = true)
  ∧ (∀ (n : Fin 128) (g : Fin 32) (slot : Fin 17) (w : WeightWrite) (s : State),
    (tile s n).writes.find? (fun w => w.group == g.val && w.slot == slot.val && !w.waiting) = some w → w.failed = false → 512 ≤ w.nextRow →
    w.kind = .husk → w.slot < 16 → Gives s (.weightWriteClose n g slot) fun t =>
      bit (rd t (.arrValid n w.group)) w.slot = true ∧ ∀ v ∈ (tile t n).writes, ¬ (v.group = g ∧ v.slot = slot))
  ∧ (∀ (n : Fin 128) (g : Fin 32) (v : Bool) (s : State), Gives s (.fallowReq n g v) fun t => bit (rd t (.arrGrp n g)) 22 = v)
  ∧ (∀ (n : Fin 128) (g : Fin 32) (v : BitVec 5) (s : State),
    ((spare s n g = spEmpty ∨ spare s n g = spReference) ∧ v.toNat ≤ 16 →
      Gives s (.retiredNext n g v) fun t => rdFld t (.arrGrp n g) 12 8 = v.toNat)
    ∧ (¬ ((spare s n g = spEmpty ∨ spare s n g = spReference) ∧ v.toNat ≤ 16) → exec (.retiredNext n g v) s = .next s))

/-- R31, R33, R41, R46: LOADIV sends its eight chunks one cycle apart; LAUNCH and RLAUNCH make an array active from the issue cycle on. -/
def Obligations.LoadsAndLaunches : Prop :=
  (∀ (sl : Slot) (iv : Fin 8) (bank : Fin 4) (line : BitVec 14) (before after : List Instr) (s : State),
    let i := Instr.loadiv sl iv bank line
    let u := effectStart s sl i before after
    MayIssue s sl i before after → Issues s i before after fun v => ∀ k < 8, k ≠ 0 →
      Lands v sl.tile (.load (issueCycle u sl.tile + k) (8 * iv + k) (scratchAddr sl.tile (bank * 0x100000 + (line.toNat + k) * 64))))
  ∧ (∀ (sl : Slot) (larray : BitVec 9) (iv : Fin 8) (desc : Fin 64) (before after : List Instr) (s : State),
    let n := sl.tile.val
    let i := Instr.launch sl larray iv desc
    let u := effectStart s sl i before after
    MayIssue s sl i before after → Issues s i before after fun v =>
      (∃ m ∈ (tile v n).mvms, m.group = larray.toNat / 16 ∧ m.logical = larray.toNat % 16 ∧ m.slot = physSlot u n m.group m.logical
        ∧ m.start = issueCycle u n ∧ m.rows = ivRows (tile u n) iv ∧ m.desc = rd u (.arrLdesc n desc) ∧ m.mode = slotMode u n m.group m.logical
        ∧ m.bits = fld m.desc 3 0 ∧ m.phase = rdFld u (.arrTiming n) 4 0 ∧ m.skipped = false ∧ mvmActive m = true)
      ∧ (tile v n).rampRise = (tile u n).rampRise + 1
      ∧ rdFld v (.arrStatus n) 13 8 = ((tile v n).mvms.filter mvmActive).length % 64)
  ∧ (∀ (sl : Slot) (g : Fin 32) (iv : Fin 8) (desc : Fin 64) (before after : List Instr) (s : State),
    let n := sl.tile.val
    let i := Instr.rlaunch sl g iv desc
    let u := effectStart s sl i before after
    MayIssue s sl i before after → Issues s i before after fun v =>
      (∃ m ∈ (tile v n).mvms, m.group = g ∧ m.logical = 16 ∧ m.slot = 16 ∧ m.mode = 0 ∧ m.start = issueCycle u n ∧ m.rows = ivRows (tile u n) iv
        ∧ m.desc = rd u (.arrLdesc n desc) ∧ m.skipped = (spare u n g != spReference) ∧ mvmActive m = true)
      ∧ rdFld v (.arrStatus n) 13 8 = ((tile v n).mvms.filter mvmActive).length % 64
      ∧ (spare u n g ≠ spReference → rd v (.arrRefskip n) = satAdd (rd u (.arrRefskip n)) 1))

/-- R36, R39, R46, R63, R66, R68, R121: an MVM latches its codes as it ends; a collect sends them on, as raw lanes or into the accumulator, and a void
lane writes nothing.  That FINAL = 1 updates its row 6 cycles after the issue is the model's choice (log entry 107). -/
def Obligations.MvmsAndCollects : Prop :=
  (∀ (n : Fin 128) (g : Fin 32) (slot : Fin 17) (waited : Nat) (m : Mvm) (s : State), (tile s n).held = [] → tileRun s n ≠ tRunning →
    (tile s n).mvms.find? (fun m => mvmActive m && m.group == g.val && m.slot == slot.val) = some m →
    Gives s (.mvmComplete n g slot waited) fun t =>
      ∃ k ∈ (tile t n).mvms, k.group = g ∧ k.slot = slot ∧ k.start = m.start ∧ mvmActive k = false
        ∧ k.lanes = if m.skipped then [] else mvmLanes s n m)
  ∧ (∀ (n : Fin 128) (g : Fin 32) (slot : Fin 17) (waited : Nat) (m : Mvm) (s : State),
    (tile s n).mvms.find? (fun m => mvmActive m && m.group == g.val && m.slot == slot.val) = some m → mvmMayEnd s n m = false →
    exec (.mvmComplete n g slot waited) s = .next s)
  ∧ (∀ (sl : Slot) (larray : BitVec 9) (desc : Fin 64) (m : Mvm) (before after : List Instr) (s : State),
    let n := sl.tile.val
    let i := Instr.collect sl larray desc
    let u := effectStart s sl i before after
    let lanes := if m.skipped then List.replicate (laneCount m.mode) (0x4000 : Half) else m.lanes
    MayIssue s sl i before after → lastLaunch (tile u n) (larray.toNat / 16) (larray.toNat % 16) = some m →
    Issues s i before after fun v => (tile v n).ppFree = issueCycle u n + 3 * mvmConv m
      ∧ (lanes.any laneVoid = true → (tile v n).landing = (tile u n).landing ∧ bit (rd v (.tilSherr n)) 3 = true)
      ∧ (lanes.any laneVoid = false → fld (rd u (.tilPpda n desc)) 23 20 = 9 →
          let bs := padLine (lanes.flatMap (fun l => leBytes 2 l.toNat))
          ∀ k < (bs.length + 255) / 256, Lands v n (.bytes (issueCycle u n + 10 + k)
            (scratchAddr n (fld (rd u (.tilPpdb n desc)) 13 0 * 64) + 256 * k) ((bs.drop (256 * k)).take 256)))
      ∧ (lanes.any laneVoid = false → fld (rd u (.tilPpda n desc)) 23 20 ≠ 9 → ∃ fin,
          Lands v n (.accum (issueCycle u n + 6) (fld (rd u (.tilPpda n desc)) 29 24) (bit (rd u (.tilPpda n desc)) 30) desc
            (collectResults m.mode (collectValues (tile u n) m lanes)) fin) ∧ fin.isSome = bit (rd u (.tilPpda n desc)) 31))
  ∧ (∀ (sl : Slot) (g : Fin 32) (desc : Fin 64) (m : Mvm) (before after : List Instr) (s : State),
    let n := sl.tile.val
    let i := Instr.rcollect sl g desc
    let u := effectStart s sl i before after
    let lanes := if m.skipped then List.replicate (laneCount m.mode) (0x4000 : Half) else m.lanes
    MayIssue s sl i before after → lastLaunch (tile u n) g 16 = some m →
    Issues s i before after fun v => (tile v n).ppFree = issueCycle u n + 3 * mvmConv m
      ∧ (lanes.any laneVoid = false → fld (rd u (.tilPpda n desc)) 23 20 ≠ 9 → ∃ fin,
          Lands v n (.accum (issueCycle u n + 6) (fld (rd u (.tilPpda n desc)) 29 24) (bit (rd u (.tilPpda n desc)) 30) desc
            (collectResults m.mode (collectValues (tile u n) m lanes)) fin)))

/-- R75, R76, R459, R68, R119: the lane-wise operations of the vector unit, each result rounded once into the operation's width and on its way for 4 cycles. -/
def Obligations.LaneWiseVectorOperations : Prop :=
  ∀ (sl : Slot) (o : VecOp) (before after : List Instr) (s : State),
    let n := sl.tile.val
    let runs := fun (i : Instr) (vs : State → List Fp) => MayIssue s sl i before after →
      let u := effectStart s sl i before after
      let r := laneResult u n o (vs u)
      Issues s i before after fun v =>
        Lands v n (.words (issueCycle u n + 4) .vr (64 * o.vd) (r.1.take (64 * (32 - o.vd))) (r.2.1.zipIdx.map (fun e => (8 * o.vd + e.2, BitVec.ofNat 8 e.1))))
          ∧ rd v (.schStatus n) = rd u (.schStatus n) ∧ (tile v n).vr = (tile u n).vr ∧ v.mem = u.mem
    let a := fun u => vrVals u n o o.va
    let b := fun u => vrVals u n o o.vb
    runs (.vecFma sl o) (fun u => List.zipWith fpAdd (List.zipWith fpMul (a u) (b u)) (vrVals u n o o.vc))
      ∧ runs (.vecAdd sl o) (fun u => List.zipWith fpAdd (a u) (b u))
      ∧ runs (.vecMul sl o) (fun u => List.zipWith fpMul (a u) (b u))
      ∧ runs (.max sl o) (fun u => List.zipWith maxFp (a u) (b u))
      ∧ runs (.min sl o) (fun u => List.zipWith minFp (a u) (b u))

/-- R72, R73, R76, R77, R78, R459, Table SCH-10: conversions, MX encoding and decoding, functions and reductions, with the latency of each. -/
def Obligations.ConversionsFunctionsReductions : Prop :=
  ∀ (sl : Slot) (o : VecOp) (before after : List Instr) (s : State),
    let n := sl.tile.val
    let runs := fun (i : Instr) (lat : Nat) (r : State → List Word × List Nat × Nat) => MayIssue s sl i before after →
      let u := effectStart s sl i before after
      Issues s i before after fun v => Lands v n
        (.words (issueCycle u n + lat) .vr (64 * o.vd) ((r u).1.take (64 * (32 - o.vd))) ((r u).2.1.zipIdx.map (fun e => (8 * o.vd + e.2, BitVec.ofNat 8 e.1))))
    let one := fun (i : Instr) (w : State → Word) => MayIssue s sl i before after →
      let u := effectStart s sl i before after
      Issues s i before after fun v => Lands v n (.words (issueCycle u n + 8) .vr (64 * o.vd) [w u] [])
    runs (.cvt sl o) (if o.imm.toNat % 16 ≤ 1 then 4 else 6) (fun u => padRegs (packVr (o.imm.toNat % 16) o.ovf (opRound u n o.rnd) (vrVals u n o o.va)))
      ∧ runs (.mxenc sl o) 6 (fun u => packVr (o.ef.toNat + 2) o.ovf (opRound u n o.rnd) ((vrF32 (tile u n) o.va).take 32))
      ∧ runs (.mxdec sl o) 6 (fun u => packVr 0 o.ovf (fun _ => .nearest) ((vrMx u.fresh (ovfBeyond o.ovf) (o.ef.toNat + 2) (tile u n) o.va).take 64))
      ∧ runs (.func sl o) 8 (fun u => packVr (widthFmt o) false (fun _ => .nearest) ((vrVals u n o o.va).map (funcUnit (o.imm.toNat % 8))))
      ∧ one (.rsum sl o) (fun u => reduce u n o addF32)
      ∧ one (.rmax sl o) (fun u => reduce u n o maxFp)

/-- R80, R85, R122, Table SCH-10: ROUTE and SAMPLE occupy the vector unit for their cycles, then write the choice made from the scores they read, what they
read being watched until then. -/
def Obligations.RouteAndSample : Prop :=
  (∀ (sl : Slot) (o : VecOp) (before after : List Instr) (s : State),
    let n := sl.tile.val
    let g := routeG o
    let k := routeK o
    let i := Instr.route sl o
    let u0 := effectStart s sl i before after
    let u := spEcc u0 n 1 (lineOf (vaLane u0 n o 0)) 1 sl.ecc
    let a := bank1Addr n (vrLane (tile u n) o.va 0)
    let ch := routeChoice (routeScores (rdBytes u a (g * routeSize o)) g (routeSize o)) k (o.imm.toNat / 32768 % 2 = 1)
    MayIssue s sl i before after → Issues s i before after fun v => (tile v n).vecFree = issueCycle u n + routeCycles g k
      ∧ (a, g * routeSize o, false) ∈ v.watched ∧ ∃ missing,
        Lands v n (.choice (issueCycle u n + routeCycles g k)
          [(bank1Addr n (vrLane (tile u n) o.va 1), ch.1.flatMap (fun i => leBytes 2 i)),
           (bank1Addr n (vrLane (tile u n) o.va 2), ch.2.flatMap (fun w => leBytes 4 w.toNat))] missing 0))
  ∧ (∀ (sl : Slot) (o : VecOp) (before after : List Instr) (s : State),
    let n := sl.tile.val
    let i := Instr.sample sl o
    let u0 := effectStart s sl i before after
    let u := spEcc u0 n 1 (lineOf (vaLane u0 n o 0)) 1 sl.ecc
    let la := bank1Addr n (vrLane (tile u n) o.va 0)
    let pa := bank1Addr n (vrLane (tile u n) o.va 1)
    let tok := sampleChoice u n o (rdBytes u la (4 * sampleV o)) (rdBytes u pa 16)
    let occ := sampleCycles (sampleV o) (sampleKdecl o)
    MayIssue s sl i before after → Issues s i before after fun v => (tile v n).vecFree = issueCycle u n + occ
      ∧ (la, 4 * sampleV o, false) ∈ v.watched ∧ (pa, 16, false) ∈ v.watched ∧ ∃ missing,
        Lands v n (.choice (issueCycle u n + occ) [(bank1Addr n (vrLane (tile u n) o.va 2), leBytes 4 (tok.getD 0xFFFFFFFF))] missing (sampleV o)))

/-- R81, R82, R124: the dynamic-matrix products, their occupancy, and DRAIN. -/
def Obligations.MatrixUnit : Prop :=
  (∀ (sl : Slot) (set : Fin 2) (ddesc : Fin 64) (before after : List Instr) (s : State),
    let n := sl.tile.val
    let runs := fun (i : Instr) (add : Bool) => MayIssue s sl i before after →
      let u0 := effectStart s sl i before after
      let d := dmxDescOf u0 n ddesc
      let u := spEcc u0 n 1 (dmxALine d) 1 sl.ecc
      let c := issueCycle u n
      Issues s i before after fun v => (tile v n).accFree = c + dmxCycles d ∧ (tile v n).accSet = set
        ∧ Lands v n (.words (c + dmxCycles d) .dacc (1024 * set) (dmxResult u n set d add) [])
    runs (.mma sl set ddesc) true ∧ runs (.mmaz sl set ddesc) false)
  ∧ (∀ (sl : Slot) (set : Fin 2) (fmt : BitVec 4) (vd : Fin 32) (rnd : Bool) (before after : List Instr) (s : State),
    let n := sl.tile.val
    let i := Instr.drain sl set fmt vd rnd
    let u := effectStart s sl i before after
    let c := issueCycle u n
    let r := packVr fmt.toNat false (opRound u n rnd) ((List.range 1024).map (fun i => f32 (mapGet 0 (tile u n).dacc (1024 * set.val + i))))
    MayIssue s sl i before after → Issues s i before after fun v => (tile v n).drainFree = c + 10 ∧ (tile v n).drainSet = set
      ∧ Lands v n (.words (c + 10) .vr (64 * vd) (r.1.take (64 * (32 - vd))) (r.2.1.zipIdx.map (fun e => (8 * vd + e.2, BitVec.ofNat 8 e.1)))))

/-- R125, R182, Table SCH-12: LD fills a quarter of a vector register, ST stores one, CPY copies 64 bytes, a line a cycle.  That what a cycle reads is in its register from
the next cycle on is the model's choice (log entry 108). -/
def Obligations.MoveOperations : Prop :=
  (∀ (sl : Slot) (bank : Fin 4) (addr : BitVec 20) (vr : Fin 32) (part : Fin 4) (before after : List Instr) (s : State),
    let n := sl.tile.val
    let a := addr.toNat
    let i := Instr.ld sl bank addr vr part
    let u := spEcc (effectStart s sl i before after) n bank (lineOf a) 1 sl.ecc
    let c := issueCycle u n
    MayIssue s sl i before after → Issues s i before after fun v => v.mem = u.mem ∧ (tile v n).vr = (tile u n).vr
      ∧ (a % 64 = 0 → Lands v n (.words (c + 1) .vr (64 * vr.val + 16 * part.val)
          ((List.range 16).map (fun i => BitVec.ofNat 32 (rdLe u (bankAddr n bank (a + 4 * i)) 4))) []))
      ∧ (a % 64 ≠ 0 → Lands v n (.tail (c + 1) (bankAddr n bank (a + headBytes a)) (a % 64) (rdBytes u (bankAddr n bank a) (headBytes a))
          (.vr (64 * vr.val + 16 * part.val)))))
  ∧ (∀ (sl : Slot) (bank : Fin 4) (addr : BitVec 20) (vr : Fin 32) (part : Fin 4) (before after : List Instr) (s : State),
    let n := sl.tile.val
    let a := addr.toNat
    let i := Instr.st sl bank addr vr part
    let u := spEcc (effectStart s sl i before after) n bank (lineOf a) 1 sl.ecc
    let c := issueCycle u n
    let bs := (List.range 16).flatMap (fun i => leBytes 4 (vrLane (tile u n) vr (16 * part.val + i)).toNat)
    MayIssue s sl i before after → Issues s i before after fun v => v.mem = u.mem ∧ (tile v n).vr = (tile u n).vr
      ∧ Lands v n (.bytes (c + 1) (bankAddr n bank a) (bs.take (headBytes a)))
      ∧ (a % 64 ≠ 0 → Lands v n (.bytes (c + 2) (bankAddr n bank (a + headBytes a)) (bs.drop (headBytes a)))))
  ∧ (∀ (sl : Slot) (sbank : Fin 4) (saddr : BitVec 20) (dbank : Fin 4) (dline : BitVec 14) (before after : List Instr) (s : State),
    let n := sl.tile.val
    let a := saddr.toNat
    let i := Instr.cpy sl sbank saddr dbank dline
    let u := spEcc (effectStart s sl i before after) n sbank (lineOf a) 1 sl.ecc
    let c := issueCycle u n
    let dst := bankAddr n dbank (dline.toNat * 64)
    MayIssue s sl i before after → Issues s i before after fun v => v.mem = u.mem
      ∧ (a % 64 = 0 → Lands v n (.bytes (c + 2) dst (rdBytes u (bankAddr n sbank a) 64)))
      ∧ (a % 64 ≠ 0 → Lands v n (.tail (c + 1) (bankAddr n sbank (a + headBytes a)) (a % 64) (rdBytes u (bankAddr n sbank a) (headBytes a)) (.mem dst))))
  ∧ (∀ (t d a k : Nat) (bs : List Byte) (s : State),
    landOne s t (.bytes d a bs) = wrBytes s a bs
      ∧ (∀ l i, i < l.length → vrLane (tile (landOne s t (.words d .vr (64 * k) l [])) t) k i = l.getD i 0)
      ∧ (∀ n, Lands (landOne s t (.tail d a n bs (.mem k))) t (.bytes (d + 2) k (bs ++ rdBytes s a n))))

/-- R120, R83, R54, R128, Table SCH-8: the sequencer's control operations. -/
def Obligations.ControlOperations : Prop :=
  (∀ (sl : Slot) (k : BitVec 24) (before after : List Instr) (s : State),
    let i := Instr.ctlWait sl k
    let u := effectStart s sl i before after
    MayIssue s sl i before after → Issues s i before after fun v => (tile v sl.tile).due = (tile u sl.tile).due + k.toNat)
  ∧ (∀ (sl : Slot) (count : BitVec 20) (before after : List Instr) (s : State),
    let i := Instr.loop sl count
    let u := effectStart s sl i before after
    MayIssue s sl i before after → Issues s i before after fun v => (tile v sl.tile).loops = ⟨sl.pc.toNat + 1, count.toNat⟩ :: (tile u sl.tile).loops
      ∧ rdFld v (.schStatus sl.tile) 28 26 = ((tile u sl.tile).loops.length + 1) % 8)
  ∧ (∀ (sl : Slot) (f : LoopFrame) (rest : List LoopFrame) (before after : List Instr) (s : State),
    let i := Instr.endloop sl
    let u := effectStart s sl i before after
    MayIssue s sl i before after → (tile u sl.tile).loops = f :: rest →
    (1 < f.left → Issues s i before after fun v => (tile v sl.tile).loops = { f with left := f.left - 1 } :: rest
        ∧ rdFld v (.schStatus sl.tile) 13 0 = f.body % 2 ^ 14)
      ∧ (f.left ≤ 1 → Issues s i before after fun v => (tile v sl.tile).loops = rest ∧ rdFld v (.schStatus sl.tile) 13 0 = rdFld u (.schStatus sl.tile) 13 0))
  ∧ (∀ (sl : Slot) (bank : Fin 4) (line : BitVec 14) (word : Fin 8) (before after : List Instr) (s : State),
    let i := Instr.seedld sl bank line word
    let u := spEcc (effectStart s sl i before after) sl.tile bank line.toNat 1 sl.ecc
    MayIssue s sl i before after → Issues s i before after fun v =>
      (tile v sl.tile).seed = BitVec.ofNat 64 (rdLe u (bankAddr sl.tile bank (line.toNat * 64 + 8 * word.val)) 8))
  ∧ (∀ (sl : Slot) (wake : Bool) (last first : Fin 32) (before after : List Instr) (s : State),
    let i := Instr.fallow sl wake last first
    let u := effectStart s sl i before after
    MayIssue s sl i before after → Issues s i before after fun v =>
      (∀ g, first.val ≤ g → g ≤ last.val → bit (rd v (.arrGrp sl.tile g)) 22 = !wake)
        ∧ ∀ g, g < first.val ∨ last.val < g → rd v (.arrGrp sl.tile g) = rd u (.arrGrp sl.tile g))
  ∧ (∀ (sl : Slot) (before after : List Instr) (s : State),
    let i := Instr.endOp sl
    let u := effectStart s sl i before after
    MayIssue s sl i before after → Issues s i before after fun v => tileRun v sl.tile = tEnded
      ∧ ∀ k < 5, rd v (.schLstall sl.tile k) = BitVec.ofNat 32 ((tile (landAll u sl.tile) sl.tile).stepStall.getD k 0))

/-- R126, R130, R187, Table SCH-13: SEND and LREAD start an instance of their crossing, WAIT consumes the oldest arrived one, FREE gives back its
buffer; between tiles an instance arrives in its receive buffer, or the write is refused and the receiver faults (R131, R187). -/
def Obligations.CrossingOperations : Prop :=
  (∀ (sl : Slot) (xid : BitVec 12) (p : Nat) (d : XDecl) (before after : List Instr) (s : State),
    let i := Instr.send sl xid
    let u0 := effectStart s sl i before after
    let u := spEcc u0 sl.tile 2 d.srcLine 2 sl.ecc
    plotOf u0 sl.tile = some p → xdecl u0 p xid.toNat = some d → MayIssue s sl i before after →
    Issues s i before after fun v => (xing v p xid.toNat).started = (xing u p xid.toNat).started + 1
      ∧ (d.cls = 3 ∧ nothingLeaves u p = true → (xing v p xid.toNat).flight = (xing u p xid.toNat).flight)
      ∧ (¬ (d.cls = 3 ∧ nothingLeaves u p = true) →
          (xing v p xid.toNat).flight.map XInst.inst = (xing u p xid.toNat).flight.map XInst.inst ++ [(xing u p xid.toNat).started]))
  ∧ (∀ (sl : Slot) (xid : BitVec 12) (p : Nat) (before after : List Instr) (s : State),
    let i := Instr.lread sl xid
    let u := effectStart s sl i before after
    plotOf u sl.tile = some p → MayIssue s sl i before after →
    Issues s i before after fun v => (xing v p xid.toNat).started = (xing u p xid.toNat).started + 1
      ∧ (xing v p xid.toNat).flight = (xing u p xid.toNat).flight
          ++ [{ inst := (xing u p xid.toNat).started, lines := [], step := (plot u p).step }])
  ∧ (∀ (sl : Slot) (xid : BitVec 12) (p k : Nat) (rest : List Nat) (before after : List Instr) (s : State),
    let i := Instr.xngWait sl xid
    let u := effectStart s sl i before after
    plotOf u sl.tile = some p → (xing u p xid.toNat).arrived = k :: rest → MayIssue s sl i before after →
    Issues s i before after fun v => (xing v p xid.toNat).arrived = rest ∧ (xing v p xid.toNat).consumed = (xing u p xid.toNat).consumed ++ [k])
  ∧ (∀ (sl : Slot) (xid : BitVec 12) (p : Nat) (before after : List Instr) (s : State),
    let i := Instr.free sl xid
    let u := effectStart s sl i before after
    plotOf u sl.tile = some p → MayIssue s sl i before after →
    Issues s i before after fun v => (xing v p xid.toNat).consumed = (xing u p xid.toNat).consumed.drop 1)
  ∧ (∀ (p : Fin 12) (xid : BitVec 12) (ns waited : Nat) (ecc : Ecc) (d : XDecl) (i : XInst) (s : State),
    xdecl s p xid.toNat = some d → d.xid = xid.toNat → d.cls = 0 →
    (xing s p xid.toNat).flight.find? (fun i => !i.sent && (d.cls == 2 || i.lines.length == d.lines)) = some i →
    (bufferRefused s d i.inst = none → (tile s d.dst).held = [] → Gives s (.crossingReady p xid ns waited ecc) fun t =>
      (xing t p xid.toNat).arrived = (xing s p xid.toNat).arrived ++ [i.inst] ∧ (xing t p xid.toNat).flight = (xing s p xid.toNat).flight.erase i)
    ∧ (∀ l, bufferRefused s d i.inst = some l → Gives s (.crossingReady p xid ns waited ecc) fun t =>
      tileRun t d.dst = tFaulted ∧ bit (rd t (.schErr d.dst)) 2 = true ∧ (xing t p xid.toNat).arrived = (xing s p xid.toNat).arrived))

/-- R119, R127, R128, R146, R460: a slot operation that is not the next of its tile's stream has no effect; one whose bundle is not whole waits for the others; a bundle that
breaks a rule of its own faults its tile and issues nothing; one that a source holds waits, the source shown; and once a bundle has issued the program counter has left it. -/
def Obligations.SlotOperationsThatDoNotIssue : Prop :=
  (∀ (i : Instr) (sl : Slot) (s : State), slotOf i = some sl →
    (inStream s sl i = false → exec i s = .next s)
    ∧ (inStream s sl i = true → bundleWhole (bundleAt s sl.tile sl.pc.toNat) (gatherIn i (tile s sl.tile).gather) = false →
        exec i s = .next (onTile s sl.tile (fun x => { x with gather := gatherIn i x.gather })))
    ∧ (tileRun s sl.tile ≠ tRunning ∨ (tile s sl.tile).held ≠ [] → inStream s sl i = false))
  ∧ (∀ (sl : Slot) (ops : List Instr) (s : State), (bundleAlone (presented s sl) ops).none? = false → tileRun (judge s sl ops) sl.tile = tFaulted)
  ∧ (∀ (sl : Slot) (ops : List Instr) (s : State), (bundleAlone (presented s sl) ops).none? = true → bundleHolds (presented s sl) sl.tile ops ≠ [] →
    (tile (judge s sl ops) sl.tile).held = ops
      ∧ rdFld (judge s sl ops) (.schStatus sl.tile) 25 23 = (1 + topSource (bundleHolds (presented s sl) sl.tile ops)) % 8)
  ∧ (∀ (sl : Slot) (ops : List Instr) (s : State),
    rdFld (issuing s sl ops) (.schStatus sl.tile) 13 0 = (sl.pc.toNat + 1) % 2 ^ 14 ∧ (tile (issuing s sl ops) sl.tile).due = sl.cyc + 1)

/-- R136 to R139, R147: a step starts on every tile of the image; the leader sends START and STOP; what START, STOP, a missing marker and a fault notice do to a
plot of a job. -/
def Obligations.StepsAndMarkers : Prop :=
  (∀ (p : Fin 12) (sinceNs markerNs lateNs : Nat) (s : State), stepReady s p = true →
    (if inJob s p = false then (plot s p).started = false ∨ stepNs s p ≤ sinceNs
      else if isLeader s p then (plot s p).startSent = true ∧ markerDly s p ≤ markerNs else (plot s p).startHeld = true) →
    ((plot s p).started = false → groupsAdmitted s p = true) →
    Gives s (.stepStart p sinceNs markerNs lateNs) fun t =>
      (plot t p).step = nextStep s p ∧ (plot t p).started = true ∧ (plot t p).inStep = true ∧ (plot t p).startSent = false ∧ (plot t p).startHeld = false
        ∧ ∀ i, imageOf s p = some i → ∀ c ∈ i.tiles, tileRun t c.tile = tRunning ∧ rd t (.schCycle c.tile) = 0 ∧ rdFld t (.schStatus c.tile) 13 0 = 0)
  ∧ (∀ (p : Fin 12) (sinceNs : Nat) (s : State), inJob s p = true → isLeader s p = true → stepReady s p = true → (plot s p).startSent = false →
    ((plot s p).started = false ∨ stepNs s p ≤ sinceNs + markerDly s p) →
    ((plot s p).faultDue = false → (plot s p).holdDue = false → Gives s (.leaderStart p sinceNs) fun t =>
      (plot t p).startSent = true ∧ t.out = .start (jobOf s p) (nextStep s p) (markerFlow s p) :: s.out)
    ∧ ((plot s p).faultDue = true ∨ (plot s p).holdDue = true → Gives s (.leaderStart p sinceNs) fun t =>
      pltState t p = pltHeld ∧ plotRun t p = pHeld ∧ (plot t p).stopped = true ∧ t.out = .stop (jobOf s p) (nextStep s p) (plot s p).faultDue (markerFlow s p) :: s.out))
  ∧ (∀ (p : Fin 12) (job step : DWord) (s : State), follows s p job = true → nextStep s p = step →
    plotRun s p = pServing ∨ (plotRun s p = pHeld ∧ frozen s p = false) →
    Gives s (.markerStartReceived p job step) fun t => plotRun t p = pServing ∧ (plot t p).startHeld = true ∧ (plot t p).stopped = false)
  ∧ (∀ (p : Fin 12) (job step : DWord) (n : Nat) (s : State), follows s p job = true → nextStep s p ≠ step →
    plotRun s p = pServing ∨ (plotRun s p = pHeld ∧ frozen s p = false) → (tilesOf s p).head? = some n → plotOf s n = some p.val →
    Gives s (.markerStartReceived p job step) fun t => plotRun t p = pFaulted ∧ rdFld t (.schPstat p) 28 24 = 8 ∧ rdFld t (.schPstat p) 23 17 = n)
  ∧ (∀ (p : Fin 12) (job : DWord) (fault : Bool) (s : State), follows s p job = true → plotRun s p = pServing →
    Gives s (.markerStopReceived p job fault) fun t => (plot t p).stopped = true ∧ (plot t p).startHeld = false
      ∧ plotRun t p = (if (plot s p).inStep then pServing else pHeld))
  ∧ (∀ (p : Fin 12) (sinceNs n : Nat) (s : State), follows s p (jobOf s p) = true → plotRun s p = pServing → (plot s p).started = true →
    (plot s p).stopped = false → (plot s p).startHeld = false → stepNs s p + wdogNs s p ≤ sinceNs →
    (tilesOf s p).head? = some n → plotOf s n = some p.val →
    Gives s (.markerTimeout p sinceNs) fun t => plotRun t p = pFaulted ∧ rdFld t (.schPstat p) 28 24 = 8)
  ∧ (∀ (p : Fin 12) (s : State), inJob s p = true → isLeader s p = true →
    Gives s (.faultNotice p (jobOf s p)) fun t => (plot t p).faultDue = true)

/-- R127, R139, R141, R376: HOLD, its end, the debug halt, and the step watchdog. -/
def Obligations.HoldsHaltsAndStepWatchdog : Prop :=
  (∀ (p : Fin 12) (s : State),
    (inJob s p = true → isLeader s p = true → ∀ f, Gives s (.hold p f) fun t => (plot t p).holdDue = true)
    ∧ (inJob s p = true → isLeader s p = false → Gives s (.hold p false) fun t => t.out = .notice (jobOf s p) false :: s.out ∧ bit (rd t (.schPctrl p)) 0 = true)
    ∧ (inJob s p = false → plotRun s p = pServing → (plot s p).inStep = false → Gives s (.hold p false) fun t =>
        plotRun t p = pHeld ∧ bit (rd t (.schPctrl p)) 0 = true)
    ∧ (isLeader s p = true → plotRun s p = pHeld → frozen s p = false → (plot s p).reload = false → Gives s (.holdResume p) fun t =>
        plotRun t p = pServing ∧ (plot t p).stopped = false ∧ bit (rd t (.schPctrl p)) 0 = false))
  ∧ (∀ (p : Fin 12) (v : Bool) (s : State), ((∃ m, s.sec.dbgScope = some m ∧ m.testBit 0 = true) → (∀ n, (tile s n).held = []) →
      Gives s (.halt p v) fun t => bit (rd t (.schPctrl p)) 1 = v)
    ∧ (s.sec.dbgScope = none → exec (.halt p v) s = .next s))
  ∧ (∀ (n : Fin 128) (waited p : Nat) (s : State), plotOf s n = some p → tileRun s n = tRunning → (tile s n).held ≠ [] →
    rdFld s (.schStatus n) 25 23 ≠ 0 → rdFld s (.schStatus n) 25 23 ≠ srcDebug + 1 →
    wdogNs s p < (tile (chargeStall s n (rdFld s (.schStatus n) 25 23 - 1) waited) n).stallNs →
    Gives s (.stepWatchdog n waited) fun t => tileRun t n = tFaulted ∧ bit (rd t (.schErr n)) 6 = true ∧ (tile t n).held = [])

/-- R89, R94, R95, R99, R107, R108, R144: foreground calibration asked for and complete, recalibration asked for, and a fallow window's correction. -/
def Obligations.ForegroundCalibration : Prop :=
  (∀ (n : Fin 128) (s : State), inService s n = false → Gives s (.fgReq n) fun t =>
    ∀ g ∈ maskedGroups s n, calState t n g = if calState s n g = calLost then calLost else calForeground)
  ∧ (∀ (n : Fin 128) (s : State), inService s n = true → Gives s (.recalReq n) fun t =>
    ∀ g ∈ maskedGroups s n, (calState s n g = calProbation ∨ calState s n g = calAdmitted ∨ calState s n g = calStale) → calState t n g = calRecal)
  ∧ (∀ (n : Fin 128) (g : Fin 32) (z : Fin 17) (s : State), calState s n g = calForeground ∨ calState s n g = calRecal →
    (calMayLaunch s n g = false → exec (.foregroundCalComplete n g z) s = .next s)
    ∧ (calMayLaunch s n g = true → Gives s (.foregroundCalComplete n g z) fun t =>
      let r := fgMeasure s n g z
      if r.faulty then calState t n g = calLost ∧ bit (rd t (.calFlag n g)) 31 = true ∧ rd t (.arrValid n g) = 0
      else r.flagged = [] → (calOf t n g).lastSet = s.tick ∧ (tile t n).conv = (tile s n).conv + BitVec.ofNat 64 r.phases
        ∧ bit (rd t (.calFlag n g)) 30 = (bit (rd s (.calFlag n g)) 30 || r.refBad)
        ∧ (if inService s n then (calOf t n g).due = true ∧ calState t n g = calState s n g
          else calState t n g = calAdmitted ∧ rdFld t (.calGstat n g) 28 27 = 3 ∧ ∀ c < 516, mapGet 0 (calOf t n g).gt c = r.gt.getD c 0)))
  ∧ (∀ (n : Fin 128) (entry p : Nat) (i : Image) (e : FallowEnt) (s : State), plotOf s n = some p → imageOf s p = some i → i.fallow[entry]? = some e →
    e.tile = n → stepping s n = true → (plot s p).step.toNat % e.period = e.phase → scheduleAt s n e.start (e.start + e.length) = true →
    Gives s (.fallowWindow n entry true) fun t => (tile t n).window = some (e.groups, e.start + e.length)
      ∧ ∀ g < 32, tileRun s n = tEnded → bit e.groups g = true → grpPwr s n g = 2 → 1 ≤ rdFld s (.arrStatus n) 21 16 → spare s n g = spReady →
        g ∉ (tile t n).karrDue ∧ ((tile s n).karrDue = [g] →
          mapGet 1 (calOf t n g).karr 16 = spareFactor (onTile s n (fun x => { x with window := some (e.groups, e.start + e.length) })) n g))
  ∧ (∀ (n : Fin 128) (entry : Nat) (s : State), Gives s (.fallowWindow n entry false) fun t => (tile t n).window = none)

/-- R96 to R99, R102: measurement sets, a group gone stale, and the end of probation. -/
def Obligations.MeasurementSetsAndProbation : Prop :=
  (∀ (n : Fin 128) (g : Fin 32) (z : Fin 17) (s : State), calState s n g = calProbation ∨ calState s n g = calAdmitted ∨ calState s n g = calStale →
    calMayLaunch s n g = true → (inWindow s n g = true → Gives s (.measurementSet n g z) fun t => (calOf t n g).lastSet = s.tick ∧ (calOf t n g).probSet = true)
      ∧ (inWindow s n g = false → exec (.measurementSet n g z) s = .next s))
  ∧ (∀ (n : Fin 128) (g : Fin 32) (z : Fin 17) (s : State), calState s n g = calProbation → stepping s n = false → calMayLaunch s n g = true →
    Gives s (.probationSet n g z) fun t => (calOf t n g).lastSet = s.tick ∧ (calOf t n g).probSet = true)
  ∧ (∀ (n : Fin 128) (g : Fin 32) (s : State), inService s n = true → calState s n g = calProbation ∨ calState s n g = calAdmitted →
    (calOf s n g).lastSet + 100000 < s.tick →
    Gives s (.groupStale n g) fun t => calState t n g = calStale ∧ rd t (.calStalecnt n) = satAdd (rd s (.calStalecnt n)) 1)
  ∧ (∀ (n : Fin 128) (g : Fin 32) (s : State), calState s n g = calProbation → (calOf s n g).probEnd ≤ s.tick → (calOf s n g).probSet = true →
    (calOf s n g).hardSeen = false → Gives s (.probationEnd n g) fun t => calState t n g = calAdmitted)

/-- R105, R108 to R111: repair of a flagged slot, the calibration store saved, and a degraded tile of a serving or held plot. -/
def Obligations.RepairsAndDegradedTiles : Prop :=
  (∀ (n : Fin 128) (g : Fin 32) (slot : Fin 16) (s : State), bit (rd s (.calFlag n g)) slot = true → spare s n g = spEmpty ∨ spare s n g = spReference →
    Gives s (.repairStart n g slot) fun t => spare t n g = spProgramming ∧ rdFld t (.arrGrp n g) 12 8 = slot)
  ∧ (∀ (n : Fin 128) (g : Fin 32) (src : HuskSource) (p : Nat) (s : State), spare s n g = spProgramming → plotOf s n = some p →
    Gives s (.repairSegmentRead n g src) fun t => match repairRowsOf s p n (16 * g + rdFld s (.arrGrp n g) 12 8) src with
      | some rows => mapFind (tile t n).repairRows g = some rows
      | none => t.tiles = s.tiles)
  ∧ (∀ (m : Msg) (type : BitVec 16) (s : State), Admitted s m { type := type.toNat, vf := false, feature := some 1 } →
    (s.ram.saving.isSome = true → Gives s (.calstoreSave m type) fun t => Answered t m type.toNat stBusy ∧ t.ram = s.ram)
    ∧ (s.ram.saving = none → (∃ n < 128, stepping s n = true) → Gives s (.calstoreSave m type) fun t =>
      t.ram.saving.isSome = true ∧ t.ram.calA = s.ram.calA ∧ t.ram.calB = s.ram.calB)
    ∧ (s.ram.saving = none → (∀ n < 128, stepping s n = false) → Gives s (.calstoreSave m type) fun t => Answered t m type.toNat stOk ∧ t.ram.saving = none
      ∧ (if copySeq s s.ram.calA ≤ copySeq s s.ram.calB then t.ram.calA.seq = copySeq s s.ram.calB + 1 ∧ t.ram.calB = s.ram.calB
          else t.ram.calB.seq = copySeq s s.ram.calA + 1 ∧ t.ram.calA = s.ram.calA)))
  ∧ (∀ (n : Fin 128) (p : Nat) (s : State), plotOf s n = some p → bit (rd s (.arrStatus n)) 31 = true →
    (pltState s p = pltHeld → frozen s p = false → (plot s p).altOf = none → usableAlternate s p n = none →
      Gives s (.tileDegradedHold n) fun t => (plot t p).reload = true)
    ∧ (∀ a, pltState s p = pltHeld → frozen s p = false → (plot s p).altOf = none → usableAlternate s p n = some a →
      Gives s (.tileDegradedHold n) fun t => pltState t p = pltLoading ∧ (plot t p).altOf = some n.val)
    ∧ (pltState s p = pltLoading → (plot s p).altOf = some n.val → usableAlternate s p n = none →
      Gives s (.tileDegradedHold n) fun t => pltState t p = pltHeld ∧ (plot t p).altOf = none ∧ (plot t p).reload = true))

/-- R182, R185, R187 to R190: scratchpad accesses of the fabric, the firmware aperture, and writes of region registers. -/
def Obligations.ScratchpadAccesses : Prop :=
  (∀ (n : Fin 128) (addr : BitVec 22) (len : Fin 65) (ecc : Ecc) (s : State),
    let k := spBank addr.toNat
    let a := spByte addr.toNat
    let d := scratchAddr n (k * 0x100000 + a)
    (∀ bs : List Byte, 1 ≤ bs.length → bs.length ≤ 64 → a + bs.length ≤ 0x100000 →
      (rgnGrants s n 3 k (lineOf a) (lineOf (a + bs.length - 1)) true = true → Gives s (.scratchpadDmAccess n addr len (some bs) ecc) fun t =>
        rdBytes t d bs.length = bs ∧ (∃ l, t.out = .memory 0 [] :: l)
          ∧ (ecc ≠ .uncorrectable → ∀ b, b < d ∨ d + bs.length ≤ b → rdByte t b = rdByte s b))
      ∧ (rgnGrants s n 3 k (lineOf a) (lineOf (a + bs.length - 1)) true = false → Gives s (.scratchpadDmAccess n addr len (some bs) ecc) fun t =>
        t.mem = s.mem ∧ t.out = .memory 1 [] :: s.out))
    ∧ (1 ≤ len.val → a + len.val ≤ 0x100000 → rgnGrants s n 3 k (lineOf a) (lineOf (a + len.val - 1)) false = true →
      Gives s (.scratchpadDmAccess n addr len none ecc) fun t => ∃ l, t.out = .memory 0 (rdBytes t d len) :: l)
    ∧ (len.val = 0 ∨ 0x100000 < a + len.val → exec (.scratchpadDmAccess n addr len none ecc) s = .fault .illFormed))
  ∧ (∀ (m : Master) (n : Fin 128) (off : BitVec 12) (v : DWord) (ecc : Ecc) (s : State),
    let page := rdFld s (.tilSpapbase n) 9 0
    let l := lineOf (page % 256 * 0x1000 + off.toNat)
    let d := scratchAddr n (page / 256 * 0x100000 + (page % 256 * 0x1000 + off.toNat))
    off.toNat % 8 = 0 → (m = .pf ∧ debugScope s 1 = true ∨ ∃ c : Fin 24, m = .core c ∧ (22 ≤ c.val ∨ (2 ≤ c.val ∧ c.val ≤ 5))) →
    (rgnGrants s n 4 (page / 256) l l true = true → Gives s (.apertureAccess m n off true (some v) ecc) fun t => rdBytes t d 8 = leBytes 8 v.toNat)
    ∧ (rgnGrants s n 4 (page / 256) l l false = true → Gives s (.apertureAccess m n off true none ecc) fun t =>
        ∃ o, t.out = .completion 0 (leBytes 8 (rdLe t d 8)) :: o)
    ∧ (rgnGrants s n 4 (page / 256) l l false = false → Gives s (.apertureAccess m n off true none ecc) fun t =>
        bit (rd t (.tilSperr n)) 1 = true ∧ ∃ o, t.out = .completion 0 (leBytes 8 (2 ^ 64 - 1)) :: o))
  ∧ (∀ (n : Fin 128) (read : Bool) (s : State), Gives s (.apertureTimeout n read) fun t =>
    bit (rd t (.tilSperr n)) 0 = true ∧ t.out = if read then .completion 0 [0xFF, 0xFF, 0xFF, 0xFF] :: s.out else s.out)
  ∧ (∀ (m : Master) (n : Fin 128) (master : Fin 5) (r : Fin 16) (v : Word) (s : State),
    (mayProgramRegions s m = false → Gives s (.regionRegisterWrite m n master r v) fun t => rd t (.tilRgn n master r) = rd s (.tilRgn n master r) ∧ t.tiles = s.tiles)
    ∧ (mayProgramRegions s m = true → (∀ p, plotOf s n = some p → plotRun s p ≠ pServing) →
        Gives s (.regionRegisterWrite m n master r v) fun t => rd t (.tilRgn n master r) = v ∧ mapFind (tile t n).rgnDue (16 * master.val + r.val) = none)
    ∧ (∀ p, mayProgramRegions s m = true → plotOf s n = some p → plotRun s p = pServing →
        Gives s (.regionRegisterWrite m n master r v) fun t => rd t (.tilRgn n master r) = rd s (.tilRgn n master r)
          ∧ mapFind (tile t n).rgnDue (16 * master.val + r.val) = some v))

/-- R192 to R196, R199, R202, R203, R423: LPDDR5X requests, regions opened and closed, patrol and tracking. -/
def Obligations.LpxRequestsAndRegions : Prop :=
  (∀ (q : Requester) (addr len : Nat) (ecc : Ecc) (r : Nat) (s : State),
    (∀ bs : List Byte, lpxPermits s q addr bs.length = some r → ecc ≠ .uncorrectable ∨ readsFirst addr bs.length = false → (r < 12 → (pagesOf addr bs.length).any (cowHeld s r) = false) →
      Gives s (.lpxRequest q addr len (some bs) ecc) fun t => rdBytes t addr bs.length = bs ∧ t.out = .memory 0 [] :: s.out
        ∧ ∀ b, b < addr ∨ addr + bs.length ≤ b → rdByte t b = rdByte s b)
    ∧ (lpxPermits s q addr len = some r → ecc ≠ .uncorrectable → Gives s (.lpxRequest q addr len none ecc) fun t =>
        t.mem = s.mem ∧ t.out = .memory 0 (rdBytes s addr len) :: s.out)
    ∧ (lpxPermits s q addr len = none → Gives s (.lpxRequest q addr len none ecc) fun t => t.mem = s.mem ∧ t.out = .memory 1 [] :: s.out))
  ∧ (∀ (m : Master) (n : Fin 32) (s : State), mayProgramRegions s m = true →
    (bit (rd s (.lpxRgnctl n)) 31 = false → rdFld s (.lpxRgnsize n) 13 0 ≠ 0 → rdFld s (.lpxRgnbase n) 13 0 + rdFld s (.lpxRgnsize n) 13 0 ≤ 14336 →
      (∀ k < 32, bit (rd s (.lpxRgnctl k)) 31 = true → overlaps (rdFld s (.lpxRgnbase n) 13 0) (rdFld s (.lpxRgnsize n) 13 0) (rdFld s (.lpxRgnbase k) 13 0)
        (rdFld s (.lpxRgnsize k) 13 0) = false) →
      Gives s (.regionEnable m n) fun t => regionOpen t n = true ∧ t.fresh = s.fresh + 1 ∧ mapFind t.ram.keys n = some s.fresh
        ∧ ∀ g ∈ t.dirtyC ++ t.dirtyD, g * 0x10000 < regionBase s n ∨ regionBase s n + regionSize s n ≤ g * 0x10000)
    ∧ (bit (rd s (.lpxRgnctl n)) 31 = false → rdFld s (.lpxRgnsize n) 13 0 = 0 → Gives s (.regionEnable m n) fun t => regionOpen t n = false)
    ∧ (Gives s (.regionDisable m n) fun t => bit (rd t (.lpxRgnctl n)) 31 = false ∧ bit (rd t (.lpxRgnctl n)) 30 = false))
  ∧ (∀ (m : Master) (n : Fin 32) (s : State), mayProgramRegions s m = false →
    (Gives s (.regionEnable m n) fun t => rd t (.lpxRgnctl n) = rd s (.lpxRgnctl n)) ∧ (Gives s (.regionDisable m n) fun t => rd t (.lpxRgnctl n) = rd s (.lpxRgnctl n)))
  ∧ (∀ (line : Nat) (ecc : Ecc) (s : State), (rdFld s .lpxPatrol 7 0 = 0 → exec (.patrolRead line ecc) s = .next s)
    ∧ (rdFld s .lpxPatrol 7 0 ≠ 0 → line * 64 < 0x3800000000 → regionOf s (line * 64) = none → Gives s (.patrolRead line .corrected) fun t =>
        rd t (.lpxCecnt (lpxController (line * 64))) = satAdd (rd s (.lpxCecnt (lpxController (line * 64)))) 1)
    ∧ (rdFld s .lpxPatrol 7 0 ≠ 0 → line * 64 < 0x3800000000 → regionOf s (line * 64) = none → (∀ p < 12, stagedAt s p (line * 64) = false) →
      Gives s (.patrolRead line .uncorrectable) fun t =>
        rd t .lpxUecnt = satAdd (rd s .lpxUecnt) 1 ∧ line * 64 / 64 ∈ t.ram.bad))
  ∧ (∀ (c : Fin 16) (s : State), (s.power.changing ≠ none → Gives s (.dqsTracking c) fun t => c.val ∈ t.ram.trackDue)
    ∧ (s.power.changing = none → exec (.dqsTracking c) s = .next s))

/-- R202, R207, R335, R336, R344: host accesses of BAR2 and the expansion ROM, and faults of received TLPs. -/
def Obligations.HostMemoryWindows : Prop :=
  (∀ (off : BitVec 34) (len a : Nat) (s : State), s.power.changing = none → bar2Addr s off.toNat len = some a → pagesBad s a len = false →
    Gives s (.bar2Read off len .clean) fun t => t.mem = s.mem ∧ t.out = .completion 0 (rdBytes s a len) :: s.out)
  ∧ (∀ (off : BitVec 34) (len : Nat) (ecc : Ecc) (s : State), s.power.changing = none → bar2Addr s off.toNat len = none →
    Gives s (.bar2Read off len ecc) fun t => t.out = .completion 1 [] :: s.out ∧ rd t .hifUrcnt = satAdd (rd s .hifUrcnt) 1)
  ∧ (∀ (off : BitVec 34) (bs : List Byte) (a : Nat) (s : State), s.power.changing = none → bar2Addr s off.toNat bs.length = some a → s.ram.bad = [] →
    Gives s (.bar2Write off bs .clean) fun t =>
      (a / 64 = (a + bs.length - 1) / 64 → rdBytes t a bs.length = bs) ∧ ∀ b, b < a ∨ a + bs.length ≤ b → rdByte t b = rdByte s b)
  ∧ (∀ (off : BitVec 34) (len : Nat) (bs : List Byte) (ecc : Ecc) (s : State), s.power.changing ≠ none →
    (Gives s (.bar2Read off len ecc) fun t => t.mem = s.mem ∧ t.out = s.out ∧ t.ram.bar2Waits = s.ram.bar2Waits ++ [.bar2Read off len ecc])
      ∧ Gives s (.bar2Write off bs ecc) fun t => t.mem = s.mem ∧ t.out = s.out ∧ t.ram.bar2Waits = s.ram.bar2Waits ++ [.bar2Write off bs ecc])
  ∧ (∀ (off len : Nat) (rom : List Byte) (s : State), s.host.rom = some rom → s.host.romEnable = true → (fnState s 0).memEnable = true → off + len ≤ 0x100000 →
    Gives s (.expansionRomRead off len) fun t => t.out = .completion 0 ((List.range len).map (fun i => rom.getD (off + i) 0xFF)) :: s.out)
  ∧ (∀ (f : Fin 13) (row : Fin 9) (posted : Bool) (s : State), Gives s (.receivedTlpFault f row posted) fun t => row.val ∈ (fnState t f).aer
    ∧ rd t .hifMalcnt = (if row.val = 0 ∨ row.val = 5 then satAdd (rd s .hifMalcnt) 1 else rd s .hifMalcnt)
    ∧ rd t .hifUrcnt = (if row.val = 1 ∨ row.val = 2 ∨ row.val = 3 then satAdd (rd s .hifUrcnt) 1 else rd s .hifUrcnt)
    ∧ rd t .hifHaerr = (if row.val = 6 ∧ s.host.reads.any (fun r => r.fn == f.val) = true then satAdd (rd s .hifHaerr) 1 else rd s .hifHaerr))

/-- R247, R248, R332, R345 to R351: the link, heartbeats and their loss, mailbox reset and HELLO, function-level reset and power states. -/
def Obligations.LinkHeartbeatsAndHello : Prop :=
  (∀ (f : Fin 13) (v : Word) (s : State), (fnLost s f = true → exec (.heartbeat f v) s = .next s)
    ∧ (fnLost s f = false → Gives s (.heartbeat f v) fun t => rd t (.hifHb f) = v ∧ ((fnState s f).hello = true → bit (rd t (.hifHstat f)) 30 = true)))
  ∧ (∀ (f : Fin 13) (s : State), bit (rd s (.hifHstat f)) 30 = true → (fnState s f).dstate = 0 → (box s f).helloDue = none → NoFeeds s →
    Gives s (.heartbeatLoss f) fun t => fnLost t f = true ∧ (fnLost s f = false → rdFld t (.hifHstat f) 7 0 = min 255 (rdFld s (.hifHstat f) 7 0 + 1)
      ∧ ∀ r ∈ t.host.reads, r.fn ≠ f.val))
  ∧ (∀ (rate : Fin 7) (width : Fin 17) (flit : Bool) (s : State), s.host.perst = false → bit (rd s (.rstInrst 0)) 5 = false → linkLegal s rate width flit = true →
    Gives s (.linkUp rate width flit) fun t => linkUp t = true ∧ rdFld t .hifLink 29 27 = rate ∧ rdFld t .hifLink 26 22 = width ∧ bit (rd t .hifLink) 30 = flit)
  ∧ (∀ s : State, (∀ f < 13, (box s f).helloDue = none) → Gives s .linkDown fun t => linkUp t = false ∧ ∀ f ∈ functions s, fnLost t f = true)
  ∧ (∀ (o : Fin 14) (s : State), o.val ≠ mgmtPort → Gives s (.mbxReset o) fun t => (box t o).requests = [] ∧ (box t o).posted = [] ∧ (box t o).held = []
    ∧ (box t o).noHello = true ∧ rd t (.mbxTfpi o) = 0 ∧ rd t (.mbxTfci o) = 0 ∧ rd t (.mbxFfpi o) = 0 ∧ rd t (.mbxFfci o) = 0)
  ∧ (∀ (m : Msg) (features : BitVec 256) (vmax vmin : Byte) (s : State), s.fw.up = true → beyondLimit s m = false →
    (m.owner.val = 0 ∨ m.owner.val = mgmtPort ∨ ∃ p, m.plot = some p ∧ p.val + 1 = m.owner.val) → m.length = 40 → m.version = 1 → vmin.toNat ≤ min vmax.toNat 3 →
    1 ≤ vmax.toNat → s.stg.cmds = [] →
    Gives s (.hello m features vmax vmin) fun t => Answered t m 0x01 stOk ∧ (box t m.owner).version = min vmax.toNat 3 ∧ (box t m.owner).noHello = false
      ∧ rd t (.fwmHgen m.owner) = rd s (.fwmHgen m.owner) + 1
      ∧ (m.owner.val ≠ mgmtPort → (fnState t m.owner).hello = true ∧ (linkUp s = true → fnLost t m.owner = false)))
  ∧ (∀ (f : Fin 13) (s : State), Gives s (.flr f) fun t => fnLost t f = true ∧ (f.val = 0 → t.host.vfEnable = false)
    ∧ (f.val ≠ 0 → (fnState t f).dstate = 0 ∧ (fnState t f).msixEnable = false ∧ (box t f).requests = [] ∧ (box t f).noHello = true))
  ∧ (∀ (f : Fin 13) (d : Fin 5) (s : State), (f.val = 0 ∨ d.val = 0 ∨ d.val = 3 → (fnState s f).dstate ≠ 4 → Gives s (.dStateChange f d) fun t => (fnState t f).dstate = d)
    ∧ (f.val ≠ 0 ∧ d.val ≠ 0 ∧ d.val ≠ 3 ∨ (fnState s f).dstate = 4 → exec (.dStateChange f d) s = .next s))

/-- R337, R341 to R343, R349: translation, invalidation, and host reads that come back or fail. -/
def Obligations.TranslationsAndHostReads : Prop :=
  (∀ (f : Fin 13) (tag page pages : Nat) (s : State), fnLost s f = true ∨ s.host.reads = [] →
    Gives s (.invalidationRequest f tag page pages) fun t => .message f "INVALIDATION_COMPLETION" tag ∈ t.out
      ∧ ∀ e ∈ t.host.atc, e.fn = f → ¬ (e.page < page + pages ∧ page < e.page + e.pages))
  ∧ (∀ (f : Fin 13) (tag : Nat) (v : Invalidation) (s : State), s.host.invalidations.find? (fun v => v.fn == f.val && v.tag == tag) = some v →
    Gives s (.invalidationTimeout f tag) fun t => .message v.fn "INVALIDATION_COMPLETION" v.tag ∈ t.out ∧ v ∉ t.host.invalidations)
  ∧ (∀ (f : Fin 13) (page pages target : Nat) (s : State), s.host.translating.contains (f.val, page) = true → s.host.atc.length < 4096 → s.host.waiting = [] →
    s.host.granted = [] → NoFeeds s →
    (Gives s (.translationCompletion f page (some (pages, target))) fun t => (f.val, page) ∉ t.host.translating
      ∧ ∃ e ∈ t.host.atc, e.fn = f ∧ e.page = page ∧ e.pages = max 1 pages ∧ e.target = target)
    ∧ Gives s (.translationCompletion f page none) fun t => (f.val, page) ∉ t.host.translating ∧ t.host.atc = s.host.atc)
  ∧ (∀ (tag : Nat) (bytes : List Byte) (s : State), (s.host.reads.find? (fun r => r.tag == tag) = none →
      Gives s (.hostReadCompletion tag bytes) fun t => 7 ∈ (fnState t 0).aer)
    ∧ (∀ (r : HostReq) (p : Nat), s.host.reads.find? (fun r => r.tag == tag) = some r → r.hgen = hgen s r.fn → fnLost s r.fn = false → r.gen = sourceGen s r.source → r.source = .ring p →
      ringOn s p = false → NoFeeds s → s.host.invalidations = [] → s.host.waiting = [] →
      Gives s (.hostReadCompletion tag bytes) fun t => t.host.reads = s.host.reads.erase r ∧ p ∉ t.rma.ringReads)
    ∧ (∀ r, s.host.reads.find? (fun r => r.tag == tag) = some r → r.hgen ≠ hgen s r.fn ∨ fnLost s r.fn = true → NoFeeds s → s.host.invalidations = [] → s.host.waiting = [] →
      Gives s (.hostReadCompletion tag bytes) fun t => t.host.reads = s.host.reads.erase r ∧ t.rma = s.rma))
  ∧ (∀ (k p : Nat) (s : State), (Gives s (.hostAccessError none (.feed k)) fun t => rd t .hifHaerr = satAdd (rd s .hifHaerr) 1
      ∧ rd t .hifFeeddrop = satAdd (rd s .hifFeeddrop) 1)
    ∧ Gives s (.hostAccessError none (.ring p)) fun t => rd t .hifHaerr = satAdd (rd s .hifHaerr) 1 ∧ ringOn t p = false)

/-- R229, R223, R228, Tables NVC-9 and NVC-10: the additive instructions, with and without carry, logic, shifts, multiplications and MOV. -/
def Obligations.NovdyRegisterArithmetic : Prop :=
  (∀ (k : Nvc) (o : AluR) (s : State), Executes s k true →
    let a := wreg (core s k.core) o.ra
    let b := wreg (core s k.core) o.rb
    let c := boolNat (core s k.core).c
    let ends := fun (v : Word) (cf vf : Bool) (t : State) => AluEnds s t k o.rd o.nd o.s 1 v (some cf) (some vf)
    Gives s (.add k o) (ends (a + b) (decide (2 ^ 32 ≤ a.toNat + b.toNat)) (decide ((a + b).toInt ≠ a.toInt + b.toInt)))
      ∧ Gives s (.adc k o) (ends (a + b + BitVec.ofNat 32 c) (decide (2 ^ 32 ≤ a.toNat + b.toNat + c))
          (decide ((a + b + BitVec.ofNat 32 c).toInt ≠ a.toInt + b.toInt + c)))
      ∧ Gives s (.sub k o) (ends (a - b) (decide (b.toNat ≤ a.toNat)) (decide ((a - b).toInt ≠ a.toInt - b.toInt)))
      ∧ Gives s (.sbc k o) (ends (a - b - BitVec.ofNat 32 (1 - c)) (decide (b.toNat + (1 - c) ≤ a.toNat))
          (decide ((a - b - BitVec.ofNat 32 (1 - c)).toInt ≠ a.toInt - b.toInt - (1 - c : Nat)))))
  ∧ (∀ (k : Nvc) (o : AluR) (s : State), Executes s k true →
    let a := wreg (core s k.core) o.ra
    let b := wreg (core s k.core) o.rb
    let n := b.toNat % 32
    let ends := fun (cycles : Nat) (v : Word) (cf : Option Bool) (t : State) => AluEnds s t k o.rd o.nd o.s cycles v cf none
    let out := fun (i : Nat) => if n = 0 then none else some (a.toNat.testBit i)
    Gives s (.and k o) (ends 1 (a &&& b) none) ∧ Gives s (.or k o) (ends 1 (a ||| b) none) ∧ Gives s (.xor k o) (ends 1 (a ^^^ b) none)
      ∧ Gives s (.andn k o) (ends 1 (a &&& ~~~b) none)
      ∧ Gives s (.shl k o) (ends 1 (a <<< n) (out (32 - n))) ∧ Gives s (.shr k o) (ends 1 (a >>> n) (out (n - 1)))
      ∧ Gives s (.sar k o) (ends 1 (BitVec.sshiftRight a n) (out (n - 1))) ∧ Gives s (.ror k o) (ends 1 (a.rotateRight n) (out (n - 1)))
      ∧ Gives s (.mul k o) (ends 2 (a * b) none) ∧ Gives s (.mulhu k o) (ends 2 (BitVec.ofNat 32 (a.toNat * b.toNat / 2 ^ 32)) none)
      ∧ Gives s (.mulhs k o) (ends 2 (BitVec.ofInt 32 (a.toInt * b.toInt / 2 ^ 32)) none)
      ∧ Gives s (.mov k o) (ends 1 b none))

/-- R229, R223, Table NVC-11: the immediate forms; SHI's kind and count lie in its immediate, and MOVI and MOVHI may not follow a repeat prefix. -/
def Obligations.NovdyImmediates : Prop :=
  ∀ (k : Nvc) (o : AluI) (s : State), Executes s k true →
    let a := wreg (core s k.core) o.ra
    let i := sextImm 16 o.imm.toNat
    let z := BitVec.ofNat 32 o.imm.toNat
    let n := o.imm.toNat % 32
    let ends := fun (v : Word) (cf vf : Option Bool) (t : State) => AluEnds s t k o.rd o.nd o.s 1 v cf vf
    let out := fun (j : Nat) => if n = 0 then none else some (a.toNat.testBit j)
    Gives s (.addi k o) (ends (a + i) (some (decide (2 ^ 32 ≤ a.toNat + i.toNat))) (some (decide ((a + i).toInt ≠ a.toInt + i.toInt))))
      ∧ Gives s (.subi k o) (ends (a - i) (some (decide (i.toNat ≤ a.toNat))) (some (decide ((a - i).toInt ≠ a.toInt - i.toInt))))
      ∧ Gives s (.andi k o) (ends (a &&& z) none none) ∧ Gives s (.ori k o) (ends (a ||| z) none none) ∧ Gives s (.xori k o) (ends (a ^^^ z) none none)
      ∧ (o.imm.toNat < 128 → Gives s (.shi k o) (if o.imm.toNat / 32 = 0 then ends (a <<< n) (out (32 - n)) none
          else if o.imm.toNat / 32 = 1 then ends (a >>> n) (out (n - 1)) none
          else if o.imm.toNat / 32 = 2 then ends (BitVec.sshiftRight a n) (out (n - 1)) none else ends (a.rotateRight n) (out (n - 1)) none))
      ∧ (o.ra = 0 → (core s k.core).rep = false → Gives s (.movi k o) (ends i none none)
          ∧ Gives s (.movhi k o) (ends (BitVec.ofNat 32 (o.imm.toNat * 2 ^ 16 + (wreg (core s k.core) o.rd).toNat % 2 ^ 16)) none none))

/-- R230, R218, R217, Table NVC-2: loads and stores; a load's register and its pointer's post-modify, a store's bytes in data SRAM. -/
def Obligations.NovdyLoadsAndStores : Prop :=
  ∀ (k : Nvc) (o : MemM) (a : Word) (post : Option Nat) (z : CoreState) (s : State), Executes s k true →
    memAddr (core s k.core) o.p o.am.toNat o.imm.toNat = .at a post →
    let u := fetched s k
    let load := fun (c : Instr) (n : Nat) (signed : Bool) =>
      let q := coreLoad u k.core a n
      dataFault u k.core k.serving a n false = none → postOf (core q.2 k.core) post = some z → Gives s c fun t =>
        wreg (core t k.core) o.rd = (if signed then sextImm (8 * n) q.1 else BitVec.ofNat 32 q.1)
          ∧ (∀ i, i ≠ o.rd.val → wreg (core t k.core) i = wreg z i) ∧ (core t k.core).ptr = z.ptr ∧ (core t k.core).pc = nextPc z
    let store := fun (c : Instr) (n : Nat) => ∀ off,
      dataFault u k.core k.serving a n true = none → postOf (core s k.core) post = some z → spaceOf (core s k.core) a.toNat = .dsram off → Gives s c fun t =>
        mapBytes (core t k.core).dmem off n = (wreg (core s k.core) o.rd).toNat % 2 ^ (8 * n)
          ∧ (∀ j, j < off ∨ off + n ≤ j → mapGet 0 (core t k.core).dmem j = mapGet 0 (core s k.core).dmem j)
          ∧ (core t k.core).w = (core s k.core).w ∧ (core t k.core).ptr = z.ptr ∧ (core t k.core).pc = nextPc (core s k.core) ∧ t.mem = s.mem
    load (.ldw k o) 4 false ∧ load (.ldh k o) 2 false ∧ load (.ldhs k o) 2 true ∧ load (.ldb k o) 1 false ∧ load (.ldbs k o) 1 true
      ∧ store (.stw k o) 4 ∧ store (.sth k o) 2 ∧ store (.stb k o) 1

/-- R218, R219: pointer registers, the copy between two pointers, and the data stack. -/
def Obligations.NovdyPointersAndDataStack : Prop :=
  (∀ (k : Nvc) (w : Fin 16) (p : Fin 8) (f : BitVec 3) (s : State), Executes s k false →
    let x := core s k.core
    (∀ q, setField (preg x p) f.toNat (wreg x w) = some q → Gives s (.pset k w p f) fun t => preg (core t k.core) p = q ∧ (core t k.core).w = x.w ∧ (core t k.core).pc = x.pc + 4)
      ∧ (∀ v, getField (preg x p) f.toNat = some v → Gives s (.pget k w p f) fun t => wreg (core t k.core) w = v ∧ (core t k.core).ptr = x.ptr ∧ (core t k.core).pc = x.pc + 4))
  ∧ (∀ (k : Nvc) (p : Fin 8) (q : Pointer) (s : State), Executes s k true → postModify (preg (core s k.core) p) = some q →
    Gives s (.padd k p) fun t => preg (core t k.core) p = q ∧ (core t k.core).w = (core s k.core).w ∧ (core t k.core).pc = nextPc (core s k.core))
  ∧ (∀ (k : Nvc) (pd ps : Fin 8) (off offd : Nat) (y z : CoreState) (s : State), Executes s k true →
    let x := core s k.core
    dataFault (fetched s k) k.core k.serving (preg x ps).pa 4 false = none → dataFault (fetched s k) k.core k.serving (preg x pd).pa 4 true = none →
    spaceOf x (preg x ps).pa.toNat = .dsram off → spaceOf x (preg x pd).pa.toNat = .dsram offd → postOf x (some ps.val) = some y → postOf y (some pd.val) = some z →
    Gives s (.movp k pd ps) fun t => mapBytes (core t k.core).dmem offd 4 = mapBytes x.dmem off 4 ∧ (core t k.core).ptr = z.ptr ∧ (core t k.core).pc = nextPc x)
  ∧ (∀ (k : Nvc) (w : Fin 16) (off : Nat) (s : State), Executes s k false →
    let x := core s k.core
    (x.dslim.toNat + 4 ≤ x.dsp.toNat → dataFault (fetched s k) k.core k.serving (x.dsp - 4) 4 true = none → spaceOf x (x.dsp - 4).toNat = .dsram off →
      Gives s (.push k w) fun t => (core t k.core).dsp = x.dsp - 4 ∧ mapBytes (core t k.core).dmem off 4 = (wreg x w).toNat ∧ (core t k.core).pc = x.pc + 4)
    ∧ (x.dsp.toNat + 4 ≤ x.dstop.toNat → dataFault (fetched s k) k.core k.serving x.dsp 4 false = none → spaceOf x x.dsp.toNat = .dsram off →
      Gives s (.pop k w) fun t => (core t k.core).dsp = x.dsp + 4 ∧ wreg (core t k.core) w = BitVec.ofNat 32 (mapBytes x.dmem off 4)
        ∧ (core t k.core).dmem = x.dmem ∧ (core t k.core).pc = x.pc + 4))
  ∧ (∀ (k : Nvc) (mask : BitVec 16) (s : State), Executes s k false →
    let x := core s k.core
    let n := 4 * (maskRegs mask).length
    (x.dslim.toNat + n ≤ x.dsp.toNat → (∀ i, 4 * i < n → dataFault (fetched s k) k.core k.serving (BitVec.ofNat 32 (x.dsp.toNat - n + 4 * i)) 4 true = none) →
      Gives s (.pushm k mask) fun t => (core t k.core).dsp = BitVec.ofNat 32 (x.dsp.toNat - n))
    ∧ (x.dsp.toNat + n ≤ x.dstop.toNat → (∀ i, 4 * i < n → dataFault (fetched s k) k.core k.serving (x.dsp + BitVec.ofNat 32 (4 * i)) 4 false = none) →
      Gives s (.popm k mask) fun t => (core t k.core).dsp = x.dsp + BitVec.ofNat 32 n))

/-- R220 to R223, R225, Table NVC-12: branches, jumps, calls, returns and repeat prefixes. -/
def Obligations.NovdyControlTransfer : Prop :=
  (∀ (k : Nvc) (cond : BitVec 4) (off : BitVec 22) (s : State), Executes s k false →
    let x := core s k.core
    (condHolds x cond.toNat = some true → Gives s (.b k cond off) fun t =>
        (core t k.core).pc = x.pc + BitVec.ofInt 32 (4 * sext 22 off.toNat) ∧ (core t k.core).cyc = x.cyc + BitVec.ofNat 64 (2 + k.stall) ∧ (core t k.core).w = x.w)
      ∧ (condHolds x cond.toNat = some false → Gives s (.b k cond off) fun t => (core t k.core).pc = x.pc + 4 ∧ (core t k.core).cyc = x.cyc + BitVec.ofNat 64 (1 + k.stall)))
  ∧ (∀ (k : Nvc) (off : BitVec 26) (s : State), Executes s k false →
    let x := core s k.core
    (Gives s (.jmp k off) fun t => (core t k.core).pc = x.pc + BitVec.ofInt 32 (4 * sext 26 off.toNat) ∧ (core t k.core).rs = x.rs)
      ∧ (roomOnStack x = true → Gives s (.call k off) fun t => (core t k.core).pc = x.pc + BitVec.ofInt 32 (4 * sext 26 off.toNat)
        ∧ ∃ e, (core t k.core).rs = e :: x.rs ∧ e.handler = false ∧ e.pcw = (x.pc + 4).toNat / 4))
  ∧ (∀ (k : Nvc) (w : Fin 16) (s : State), Executes s k false → aligned (wreg (core s k.core) w) 4 = true →
    (Gives s (.jmpr k w) fun t => (core t k.core).pc = wreg (core s k.core) w ∧ (core t k.core).rs = (core s k.core).rs)
      ∧ (roomOnStack (core s k.core) = true → Gives s (.callr k w) fun t => (core t k.core).pc = wreg (core s k.core) w
        ∧ ∃ e, (core t k.core).rs = e :: (core s k.core).rs ∧ e.handler = false ∧ e.pcw = ((core s k.core).pc + 4).toNat / 4))
  ∧ (∀ (k : Nvc) (e : RsEntry) (rest : List RsEntry) (s : State), Executes s k false → (core s k.core).rs = e :: rest →
    (e.handler = false → Gives s (.ret k) fun t => (core t k.core).pc = BitVec.ofNat 32 (4 * e.pcw) ∧ (core t k.core).rs = rest)
      ∧ (e.handler = true → Gives s (.reti k) fun t => (core t k.core).pc = BitVec.ofNat 32 (4 * e.pcw) ∧ (core t k.core).rs = rest
        ∧ (core t k.core).ie = e.ie ∧ (core t k.core).lvl = e.lvl ∧ (core t k.core).rep = e.rep ∧ (core t k.core).rptcnt = e.count
        ∧ (core t k.core).n = e.flags.testBit 3 ∧ (core t k.core).z = e.flags.testBit 2 ∧ (core t k.core).c = e.flags.testBit 1 ∧ (core t k.core).v = e.flags.testBit 0))
  ∧ (∀ (k : Nvc) (src : Bool) (w : Fin 16) (count : BitVec 16) (s : State), Executes s k false → (src = true → count = 0) →
    let n := if src then (wreg (core s k.core) w).toNat % 0x10000 else count.toNat
    let ends := fun (kind : Bool) (t : State) => if n = 0 then (core t k.core).pc = (core s k.core).pc + 8
      else (core t k.core).pc = (core s k.core).pc + 4 ∧ (core t k.core).rep = true ∧ (core t k.core).repi = kind ∧ (core t k.core).rptcnt = n
    Gives s (.rep k src w count) (ends false) ∧ Gives s (.repi k src w count) (ends true))

/-- R214, R216, R232 to R235, Tables NVC-3 and NVC-13: control registers, FENCE, NOP and CUSTOM. -/
def Obligations.NovdyControlRegistersAndCustom : Prop :=
  (∀ (k : Nvc) (w : Fin 16) (index : BitVec 6) (v : Word) (s : State), Executes s k false → readControl k.core (core s k.core) index.toNat = some v →
    Gives s (.mfc k w index) fun t => wreg (core t k.core) w = v ∧ (core t k.core).pc = (core s k.core).pc + 4
      ∧ (core t k.core).cychi = if index.toNat = 15 then hi32 (core s k.core).cyc else (core s k.core).cychi)
  ∧ (∀ (k : Nvc) (w : Fin 16) (index : BitVec 6) (z : CoreState) (s : State), Executes s k false →
    writeControl (core s k.core) index.toNat (wreg (core s k.core) w) = some z →
    Gives s (.mtc k w index) fun t => core t k.core = { advance z with cyc := z.cyc + BitVec.ofNat 64 (1 + k.stall) })
  ∧ (∀ (k : Nvc) (w : Fin 16) (s : State), Executes s k false → (wreg (core s k.core) w).toNat = 0xA5C3 →
    Gives s (.mtc k w 17) fun t => (core t k.core).wdogHalf = false ∧ bit (core t k.core).pend 9 = false)
  ∧ (∀ (k : Nvc) (w : Fin 16) (s : State), Executes s k false → roomOnStack (core s k.core) = true →
    (Gives s (.mtc k w 9) fun t => Entered (core s k.core) (core t k.core) 0 ∧ (core t k.core).xcause = 2)
      ∧ Gives s (.mfc k w 17) fun t => Entered (core s k.core) (core t k.core) 0 ∧ (core t k.core).xcause = 2)
  ∧ (∀ (k : Nvc) (s : State), Executes s k false →
    Gives s (.fence k) fun t => (core t k.core).pc = (core s k.core).pc + 4 ∧ (core t k.core).w = (core s k.core).w ∧ t.mem = s.mem)
  ∧ (∀ (k : Nvc) (s : State), Executes s k true → Gives s (.nop k) fun t => (core t k.core).pc = nextPc (core s k.core) ∧ (core t k.core).w = (core s k.core).w)
  ∧ (∀ (k : Nvc) (index rd ra rb : Fin 16) (imm : BitVec 10) (s : State),
    let e := mapGet 0 (core s k.core).decode index
    Executes s k (bit e 30) →
    (∀ u, bit e 31 = true → runMicro 64 (fetched s k) k.core k.serving { x := core s k.core, t := [], rd := rd, ra := ra, rb := rb, imm := imm.toNat, mask := fld e 29 26 }
        (fld e 9 0) 0 = .inl u → Gives s (.custom k index rd ra rb imm) fun t => t = spend u k.core (1 + k.stall))
      ∧ (bit e 31 = false → roomOnStack (core s k.core) = true → Gives s (.custom k index rd ra rb imm) fun t =>
        Entered (core s k.core) (core t k.core) 0 ∧ (core t k.core).xcause = 3))

/-- R221, R224 to R227, R235, R236, Table NVC-7: traps, spills and fills of the return stack, interrupts, and the core's timers.  That a FILL at RSCNT 32 is a double fault is the
model's reading (log entry 126). -/
def Obligations.NovdyTrapsAndInterrupts : Prop :=
  (∀ (k : Nvc) (code : Byte) (s : State), Executes s k false → roomOnStack (core s k.core) = true →
    Gives s (.trap k code) fun t => Entered (core s k.core) (core t k.core) 7 ∧ (core t k.core).xcause = 7 * 256 + code.toNat
      ∧ rd t (.nvcXcnt k.core) = satAdd (rd s (.nvcXcnt k.core)) 1)
  ∧ (∀ (k : Nvc) (e : RsEntry) (off : Nat) (s : State), Executes s k false → (core s k.core).rs.getLast? = some e → (core s k.core).rsspill < (core s k.core).rslen →
    let a := (core s k.core).rsbase + BitVec.ofNat 32 (8 * (core s k.core).rsspill)
    spillFault (fetched s k) k.core k.serving a true = none → spaceOf (core s k.core) a.toNat = .dsram off → spaceOf (core s k.core) (a + 4).toNat = .dsram (off + 4) →
    Gives s (.spill k) fun t => (core t k.core).rsspill = (core s k.core).rsspill + 1 ∧ (core t k.core).rs = (core s k.core).rs.dropLast
      ∧ mapBytes (core t k.core).dmem off 4 = entryBits e % 2 ^ 32)
  ∧ (∀ (k : Nvc) (off : Nat) (s : State), Executes s k false → (core s k.core).rsspill ≠ 0 → rscnt (core s k.core) < 32 →
    let a := (core s k.core).rsbase + BitVec.ofNat 32 (8 * ((core s k.core).rsspill - 1))
    spillFault (fetched s k) k.core k.serving a false = none → spaceOf (core s k.core) a.toNat = .dsram off → spaceOf (core s k.core) (a + 4).toNat = .dsram (off + 4) →
    Gives s (.fill k) fun t => (core t k.core).rsspill = (core s k.core).rsspill - 1
      ∧ (core t k.core).rs = (core s k.core).rs ++ [entryOf (mapBytes (core s k.core).dmem off 4 + 2 ^ 32 * mapBytes (core s k.core).dmem (off + 4) 4)])
  ∧ (∀ (k : Nvc) (s : State), Executes s k false → (core s k.core).rsspill ≠ 0 → rscnt (core s k.core) = 32 →
    Gives s (.fill k) fun t => nvState t k.core = nvHalted ∧ rdFld t (.nvcStatus k.core) 28 24 = 2 ∧ (core t k.core).rs = (core s k.core).rs)
  ∧ (∀ (c : Fin 24) (v : Nat) (s : State), nvState s c = nvRun → eligible (core s c) = some v → (core s c).rep = false ∨ (core s c).repi = true → roomOnStack (core s c) = true →
    Gives s (.interruptEntry c) fun t => Entered (core s c) (core t c) v ∧ (core t c).pend = (core s c).pend)
  ∧ (∀ (c : Fin 24) (s : State), nvState s c = nvRun ∨ nvState s c = nvWfi →
    (Gives s (.watchdogWarning c) fun t => (core t c).wdogHalf = true ∧ bit (core t c).pend 9 = true)
      ∧ Gives s (.coreTimerExpiry c) fun t => bit (core t c).pend 8 = true)

/-- R228, R225: an instruction with a reserved field that is not 0 raises exception 0 with cause 1 and does nothing else, whatever the instruction. -/
def Obligations.NovdyReservedFields : Prop :=
  ∀ (i : Instr) (k : Nvc) (s : State), coreInstr i = some k → k.reserved = true → nvState s k.core = nvRun →
    (core s k.core).pc.toNat < 0x10000 → mpuGrants (core s k.core) (core s k.core).pc.toNat 4 2 = true → k.ecc ≠ .uncorrectable → roomOnStack (core s k.core) = true →
    Gives s i fun t => Entered (core s k.core) (core t k.core) 0 ∧ (core t k.core).xcause = 1 ∧ (core t k.core).cyc = (core s k.core).cyc
      ∧ (core t k.core).dmem = (core s k.core).dmem ∧ t.mem = s.mem

/-- R222: a push that finds RSCNT = 32 is a double fault, whatever pushes, an exception of any vector and cause included; RET with a handler entry on top and RETI with a call entry raise exception 0 with
cause 4 and pop nothing. -/
def Obligations.ReturnStackFaults : Prop :=
  (∀ (i : Instr) (k : Nvc) (s : State), Executes s k false → rscnt (core s k.core) = 32 →
    (∃ off, i = .call k off) ∨ (∃ w, i = .callr k w ∧ aligned (wreg (core s k.core) w) 4 = true) ∨ (∃ code, i = .trap k code)
      ∨ (i = .ret k ∧ ∃ e rest, (core s k.core).rs = e :: rest ∧ e.handler = true) ∨ (i = .reti k ∧ ∃ e rest, (core s k.core).rs = e :: rest ∧ e.handler = false) →
    Gives s i fun t => nvState t k.core = nvHalted ∧ rdFld t (.nvcStatus k.core) 28 24 = 2 ∧ (core t k.core).rs = (core s k.core).rs)
  ∧ (∀ (c : Fin 24) (v : Nat) (s : State), nvState s c = nvRun → eligible (core s c) = some v → (core s c).rep = false ∨ (core s c).repi = true →
    rscnt (core s c) = 32 → Gives s (.interruptEntry c) fun t => nvState t c = nvHalted ∧ rdFld t (.nvcStatus c) 28 24 = 2 ∧ (core t c).rs = (core s c).rs)
  ∧ (∀ (c : Fin 24) (v cause : Nat) (addr pc : Word) (s : State), rscnt (core s c) = 32 →
    let t := takeException s c v cause addr pc
    nvState t c = nvHalted ∧ rdFld t (.nvcStatus c) 28 24 = 2 ∧ (core t c).rs = (core s c).rs)
  ∧ (∀ (k : Nvc) (e : RsEntry) (rest : List RsEntry) (s : State), Executes s k false → (core s k.core).rs = e :: rest → roomOnStack (core s k.core) = true →
    (e.handler = true → Gives s (.ret k) fun t => Entered (core s k.core) (core t k.core) 0 ∧ (core t k.core).xcause = 4)
      ∧ (e.handler = false → Gives s (.reti k) fun t => Entered (core s k.core) (core t k.core) 0 ∧ (core t k.core).xcause = 4))
  ∧ (∀ (k : Nvc) (e : RsEntry) (rest : List RsEntry) (s : State), Executes s k false → (core s k.core).rs = e :: rest → rscnt (core s k.core) < 32 →
    (e.handler = true → Gives s (.ret k) fun t => ∃ l, (core t k.core).rs = l ++ handlerEntry (core s k.core) (core s k.core).pc :: (core s k.core).rs)
      ∧ (e.handler = false → Gives s (.reti k) fun t => ∃ l, (core t k.core).rs = l ++ handlerEntry (core s k.core) (core s k.core).pc :: (core s k.core).rs))

/-- R227: WFI halts fetch until IPEND holds a bit that IMASK enables; then the interrupt is taken under IE, and otherwise the program goes on behind WFI; the
core timer and the watchdog run meanwhile. -/
def Obligations.WaitForInterrupt : Prop :=
  (∀ (k : Nvc) (s : State), Executes s k false → Gives s (.wfi k) fun t => (core t k.core).pc = (core s k.core).pc + 4 ∧ (core t k.core).w = (core s k.core).w
    ∧ nvState t k.core = if (core s k.core).pend &&& (core s k.core).imask = 0 then nvWfi else nvRun)
  ∧ (∀ (i : Instr) (k : Nvc) (s : State), coreInstr i = some k → nvState s k.core = nvWfi → exec i s = .next s)
  ∧ (∀ (c : Fin 24) (s : State), nvState s c = nvWfi →
    ((core s c).pend &&& (core s c).imask = 0 → exec (.wfiResume c) s = .next s)
    ∧ ((core s c).pend &&& (core s c).imask ≠ 0 → (core s c).ie = false → Gives s (.wfiResume c) fun t => nvState t c = nvRun ∧ core t c = core s c)
    ∧ (∀ v, eligible (core s c) = some v → (core s c).rep = false → roomOnStack (core s c) = true →
        Gives s (.wfiResume c) fun t => nvState t c = nvRun ∧ Entered (core s c) (core t c) v)
    ∧ (Gives s (.coreTimerExpiry c) fun t => bit (core t c).pend 8 = true)
    ∧ (Gives s (.watchdogWarning c) fun t => (core t c).wdogHalf = true ∧ bit (core t c).pend 9 = true)
    ∧ (c.val ≠ 0 → Gives s (.watchdogExpiry c) fun t => nvState t c = nvHalted ∧ rdFld t (.nvcStatus c) 28 24 = 1))

/-- R244, R246, R235, R236, R241: requests entering a mailbox and messages read from it; a core whose watchdog expires halts, and the warden loads a halted core again. -/
def Obligations.MailboxesWatchdogsAndWarden : Prop :=
  (∀ (m : Msg) (type : BitVec 16) (s : State), ringFull s m.owner = false → ∃ t, exec (.mailboxRequest m type) s = .next t
    ∧ rdFld t (.mbxTfpi m.owner) 15 0 = (rdFld s (.mbxTfpi m.owner) 15 0 + 1) % 0x10000
    ∧ (s.fw.up = false → Answered t m type.toNat stNotReady)
    ∧ (s.fw.up = true → knownTypes.contains type.toNat = false → gateStatus s m { type := type.toNat, vf := true } = none → Answered t m type.toNat stUnknownType)
    ∧ (s.fw.up = true → knownTypes.contains type.toNat = false → (box s m.owner).noHello = true → Answered t m type.toNat stNoHello)
    ∧ (s.fw.up = true → knownTypes.contains type.toNat = true →
        (box t m.owner).requests = (box s m.owner).requests ++ [⟨type.toNat, m.seq, false, plotByte m⟩] ∧ rd t (.mbxTfci m.owner) = rd s (.mbxTfci m.owner)))
  ∧ (∀ (m : Msg) (type : BitVec 16) (s : State), ringFull s m.owner = true → exec (.mailboxRequest m type) s = .next s)
  ∧ (∀ (o : Fin 14) (index : BitVec 16) (s : State), ∃ t, exec (.mbxFfci o index) s = .next t ∧ rdFld t (.mbxFfci o) 15 0 = index.toNat
    ∧ (box t o).posted ++ (box t o).held = (box s o).posted.drop ((index.toNat + 0x10000 - rdFld s (.mbxFfci o) 15 0) % 0x10000) ++ (box s o).held)
  ∧ (∀ (c : Fin 24) (s : State), nvState s c = nvRun ∨ nvState s c = nvWfi → c.val ≠ 0 → Gives s (.watchdogExpiry c) fun t =>
    nvState t c = nvHalted ∧ rdFld t (.nvcStatus c) 28 24 = 1 ∧ rdFld t (.nvcWdog c) 31 16 = min 0xFFFF (rdFld s (.nvcWdog c) 31 16 + 1)
      ∧ rd t (.nvcHaltpc c) = BitVec.ofNat 32 (((core s c).pc.toNat + if nvState s c = nvWfi then 0xFFFC else 0) % 0x10000))
  ∧ (∀ (c : Fin 24) (s : State), nvState s c = nvHalted → nvState s 0 ≠ nvHalted → bit (rd s (.fwmState (componentOf c))) 30 = false →
    let l := recentHalts s (componentOf c) (decide (rdFld s (.nvcStatus c) 28 24 ≠ 4 ∧ rdFld s (.nvcStatus c) 28 24 ≠ 5))
    ∃ t, exec (.wardenHaltResponse c) s = .next t
      ∧ (3 ≤ l.length → bit (rd t (.fwmState (componentOf c))) 30 = true)
      ∧ (l.length < 3 → bit (rd t .rstCause) 5 = true)
      ∧ (l.length < 3 → c.val < 2 ∨ 6 ≤ c.val ∧ c.val ≤ 21 → match reloadCopy s (componentOf c) with
        | some k => nvState t c = nvRun ∧ (core t c).pc = BitVec.ofNat 32 k.entry
        | none => nvState t c = nvReset))

/-- R240, R249, R250, R253, R254: staging, activating, distributing, switching and giving up a component. -/
def Obligations.ComponentUpdates : Prop :=
  (∀ (m : Msg) (region : Fin 32) (off len : Word) (bs : List Byte) (k : Component) (s : State),
    let u := takeRequest s m 0x10
    Admitted s m { type := 0x10, vf := false, feature := some 0 } → 12 ≤ region.val → region.val ≤ 15 →
    lpxRead u (.component 3 (some region)) (regionBase u region + off.toNat) len.toNat = some bs → parseComponent bs = some k →
    ((k.comp = 1 ∨ k.comp = 3 ∨ k.comp = 4 ∨ k.comp = 5) → componentSigned u bs k = true → svnFloor u ≤ k.svn → Gives s (.fwStage m region off len) fun t =>
      t.fw.staged = some k ∧ t.fw.staging = bs ∧ Answered t m 0x10 stOk)
    ∧ (k.comp = 2 → Gives s (.fwStage m region off len) fun t => t.fw.staged = s.fw.staged ∧ Answered t m 0x10 stRefused ∧ rdFld t .fwmUpd 27 24 = 4))
  ∧ (∀ (m : Msg) (k : Component) (s : State), Admitted s m { type := 0x11, vf := false, feature := some 0 } →
    (s.fw.update = none → s.fw.staged = some k → frameCount (digestedBytes s.fw.staging) ≤ 16384 → Gives s (.fwActivate m) fun t => t.fw.staged = none ∧ rdFld t .fwmUpd 31 28 = 2
      ∧ ∃ u, t.fw.update = some u ∧ u.comp = k ∧ u.left = receivers k.comp ∧ u.seq = m.seq)
    ∧ (s.fw.update = none → s.fw.staged = some k → 16384 < frameCount (digestedBytes s.fw.staging) → Gives s (.fwActivate m) fun t =>
      Answered t m 0x11 stRefused ∧ rdFld t .fwmUpd 27 24 = 8 ∧ t.fw.update = none)
    ∧ (s.fw.update ≠ none → Gives s (.fwActivate m) fun t => Answered t m 0x11 stBusy ∧ t.fw.update = s.fw.update))
  ∧ (∀ (m : Msg) (s : State), Admitted s m { type := 0x12, vf := false } → Gives s (.fwQuery m) fun t => Answered t m 0x12 stOk)
  ∧ (∀ (u : Update) (s : State), s.fw.update = some u →
    (∀ (receiver : Nat) (f : BcastFrame), f.index < s.fw.frameCount → rdFld s .fwmUpd 31 28 = 2 → u.left.contains receiver = true →
      Gives s (.fabricBroadcastFrame receiver f) fun t => (mapFind (mapGet [] t.fw.frames receiver) f.index).isSome = true
        ∧ (mapFind (mapGet [] s.fw.frames receiver) f.index = none → mapFind (mapGet [] t.fw.frames receiver) f.index = some f.data))
    ∧ (∀ run : RepairRun, rdFld s .fwmUpd 31 28 = 2 → Gives s (.fabricBroadcastRepair run) fun t =>
        if u.left.all (holdsImage ((run.rounds.take 4).flatten.foldl (fun s e => takeFrame s e.1 e.2) s) u run) then rdFld t .fwmUpd 31 28 = 3 ∧ t.fw.update = some u
        else t.fw.update = none ∧ rdFld t .fwmUpd 31 28 = 0 ∧ rdFld t .fwmUpd 27 24 = 8)
    ∧ (∀ receiver, 3 ≤ rdFld s .fwmUpd 31 28 → u.comp.comp = 4 → receiver < 24 → quiescent s u receiver = true →
      (∀ rest, u.left = receiver :: rest → receiver ∉ rest → rest ≠ [] → Gives s (.liveUpdateSwitch receiver) fun t => nvState t receiver = nvRun
        ∧ t.fw.update = some { u with left := rest, switched := u.switched ++ [receiver] })
      ∧ (u.left = [receiver] → Gives s (.liveUpdateSwitch receiver) fun t => t.fw.update = none ∧ mapFind t.fw.running 4 = some u.comp
        ∧ rdFld t .fwmUpd 27 24 = 1 ∧ rd t (.fwmVer 4) = u.comp.version))
    ∧ (∀ receiver, 3 ≤ rdFld s .fwmUpd 31 28 → u.left.contains receiver = true → Gives s (.liveUpdateTimeout receiver) fun t =>
        t.fw.update = none ∧ rdFld t .fwmUpd 31 28 = 0 ∧ rdFld t .fwmUpd 27 24 = 5))

/-- R251, R252: sessions of the image distribution, joined, sourced, asked about and left, and what each frame and timer does to one. -/
def Obligations.ImageDistribution : Prop :=
  (∀ (m : Msg) (i : Fin 64) (digest : BitVec 256) (region : Fin 32) (off size : Word) (s : State), Admitted s m { type := 0x18, vf := false, feature := some 2 } →
    s.fw.sessions.find? (fun e => e.2.digest == leBytes 32 digest.toNat && e.2.complete) = none →
    (16 ≤ region.val → regionOpen s region = true → size.toNat ≤ s.fw.free → off.toNat + size.toNat ≤ regionSize s region →
      Gives s (.distJoin m i digest region off size) fun t => Answered t m 0x18 stOk ∧ t.fw.free = s.fw.free - size.toNat
        ∧ ∃ d, sess t i = some d ∧ d.digest = leBytes 32 digest.toNat ∧ d.receiving = true ∧ d.complete = false ∧ d.held = [])
    ∧ (16 ≤ region.val → regionOpen s region = true → s.fw.free < size.toNat →
      Gives s (.distJoin m i digest region off size) fun t => Answered t m 0x18 stNoSpace ∧ sess t i = sess s i))
  ∧ (∀ (m : Msg) (i : Fin 64) (region : Fin 32) (off len : Word) (rate : Nat) (queue : Fin 8192) (img : List Byte) (s : State),
    let u := takeRequest s m 0x19
    Admitted s m { type := 0x19, vf := false, feature := some 2 } → lpxRead u (.component 3 (some region)) (regionBase u region + off.toNat) len.toNat = some img →
    1 ≤ rate → rate ≤ 100 → 12 ≤ region.val → region.val ≤ 15 → queueOwner s queue = 12 → Gives s (.distSend m i region off len rate queue) fun t => Answered t m 0x19 stOk
      ∧ ∃ d, sess t i = some d ∧ d.receiving = false ∧ d.complete = true ∧ d.held = (sessionSegs img).1 ∧ d.next = 0 ∧ d.ends = 0)
  ∧ (∀ (m : Msg) (i : Fin 64) (d : DistSession) (s : State), sess s i = some d →
    (Admitted s m { type := 0x1A, vf := false, feature := some 2 } → Gives s (.distStatus m i) fun t =>
      Answered t m 0x1A (if d.complete then stOk else if d.failed then stRefused else stNotReady) ∧ sess t i = some d)
    ∧ (Admitted s m { type := 0x1B, vf := false, feature := some 2 } → Gives s (.distLeave m i) fun t => Answered t m 0x1B stOk ∧ sess t i = none
      ∧ t.fw.free = s.fw.free + if d.receiving then d.next else 0))
  ∧ (∀ (i : Fin 64) (d : DistSession) (s : State), sess s i = some d →
    (∀ bs, d.receiving = false → mapFind d.held d.next = some bs → Gives s (.distSourceSend i) fun t => sess t i = some { d with next := d.next + 1 })
    ∧ (d.receiving = false → mapFind d.held d.next = none → d.ends < 3 → Gives s (.distSourceSend i) fun t => sess t i = some { d with ends := d.ends + 1 })
    ∧ (d.receiving = true → d.complete = false → d.failed = false → d.rounds < 8 → Gives s (.distGapTimer i) fun t =>
        sess t i = some { d with rounds := d.rounds + 1, holdoff := false })
    ∧ (d.receiving = true → d.complete = false → d.failed = false → 8 ≤ d.rounds → Gives s (.distGapTimer i) fun t => sess t i = some { d with failed := true })
    ∧ (d.receiving = true → Gives s (.distAnswerWindowEnd i) fun t => sess t i = some { d with answering := false }))
  ∧ (∀ (digest : BitVec 128) (peer index total : Nat) (data : List Byte) (ranges : List (Nat × Nat)) (i : Nat) (d : DistSession) (s : State),
    sessionOf s digest = some (i, d) →
    (d.receiving = true → d.complete = false → mapFind d.held index = none → manifestBytes { d with total := total, held := mapInsert d.held index data } = none →
      Gives s (.distSeg digest peer index total data) fun t => sess t i = some { d with total := total, held := mapInsert d.held index data })
    ∧ (d.receiving = true → d.complete = false → Gives s (.distEnd digest) fun t => sess t i = some { d with holdoff := true })
    ∧ (Gives s (.distHave digest peer) fun t => sess t i = some { d with peers := addPage d.peers peer })
    ∧ (∀ bs, d.complete = true → 1 ≤ d.total → mapFind d.held index = some bs → Gives s (.distNack digest [(index, 1)]) fun t =>
        ∃ f, (d.queue, f) ∈ t.net.held ∨ f ∈ (queueOf t d.queue).frames)
    ∧ (∀ bs, d.complete = true → d.answering = true → 1 ≤ d.total → mapFind d.held index = some bs → Gives s (.distReq digest [(index, 1)]) fun t =>
        ∃ f, (d.queue, f) ∈ t.net.held ∨ f ∈ (queueOf t d.queue).frames)
    ∧ (d.complete = false → exec (.distNack digest ranges) s = .next s ∧ exec (.distReq digest ranges) s = .next s))
  ∧ (∀ (digest : BitVec 128) (peer index total : Nat) (data : List Byte) (s : State), sessionOf s digest = none →
    (Gives s (.distSeg digest peer index total data) fun t => t.fw.distDropped = s.fw.distDropped + 1 ∧ t.fw.sessions = s.fw.sessions)
      ∧ Gives s (.distEnd digest) fun t => t.fw.distDropped = s.fw.distDropped + 1)

/-- R259 to R262, R285, R286: lanes failing and coming back, sub-ports retrained, and frames counted at the MAC. -/
def Obligations.LanesSubportsAndFrames : Prop :=
  (∀ (port : Fin 16) (lane : Fin 4) (s : State),
    (bit (rd s (.netPcfg port)) (8 + lane) = false → Gives s (.laneFail port lane) fun t =>
      bit (rd t (.netPcfg port)) (8 + lane) = true ∧ bit (rd t (.netPstat port)) (12 + lane) = true)
    ∧ (∀ m, mayWriteNet m = true → bit (rd s (.netPcfg port)) (8 + lane) = true → Gives s (.laneReenable m port lane) fun t =>
      bit (rd t (.netPcfg port)) (8 + lane) = false ∧ 4 * port.val + lane.val ∈ t.net.checking)
    ∧ (s.net.checking.contains (4 * port.val + lane.val) = true → (Gives s (.laneCheckDone port lane true) fun t =>
        bit (rd t (.netPstat port)) (12 + lane) = false ∧ 4 * port.val + lane.val ∉ t.net.checking)
      ∧ Gives s (.laneCheckDone port lane false) fun t => bit (rd t (.netPstat port)) (12 + lane) = true ∧ bit (rd t (.netPcfg port)) (8 + lane) = true))
  ∧ (∀ (port : Fin 16) (sub : Fin 4) (s : State), subRetrain s port sub = true → Gives s (.subportRetrainDone port sub) fun t =>
    subUp t port sub = true ∧ subRetrain t port sub = false ∧ subWidth t port sub = widthCode (runLanes s port sub).length)
  ∧ (∀ (port : Fin 16) (sub : Fin 4) (bytes : List Byte) (ns : Nat) (s : State),
    let c := fun (t : State) (i : Nat) => mapGet 0 t.net.counts (11 * port.val + i)
    (subUp s port sub = false → ∀ ok room, exec (.frameReceive port sub bytes ok room ns) s = .next s)
    ∧ (subUp s port sub = true → ∀ ok room, ok = false ∨ bytes.length < 64 ∨ maxFrame s port < bytes.length →
        Gives s (.frameReceive port sub bytes ok room ns) fun t => c t 2 = c s 2 + 1 ∧ c t 0 = c s 0 ∧ t.net.queues = s.net.queues)
    ∧ (subUp s port sub = true → 64 ≤ bytes.length → bytes.length ≤ maxFrame s port → fw16 bytes 12 = 0x8808 → ∀ room,
        Gives s (.frameReceive port sub bytes true room ns) fun t => c t 3 = c s 3 + 1 ∧ c t 0 = c s 0)
    ∧ (subUp s port sub = true → 64 ≤ bytes.length → bytes.length ≤ maxFrame s port → fw16 bytes 12 ≠ 0x8808 →
        (Gives s (.frameReceive port sub bytes true false ns) fun t => c t 0 = c s 0 + 1 ∧ c t 1 = c s 1 + 1 ∧ t.net.queues = s.net.queues)
          ∧ Gives s (.frameReceive port sub bytes true true ns) fun t => c t 0 = c s 0 + 1 ∧ c t 1 = c s 1))

/-- R269, R270, R278, R279, R282, R283, R285, R287: the egress scheduler, samples and flushes of queues, and the classifier's objects read and written. -/
def Obligations.EgressQueuesAndClassifierObjects : Prop :=
  (∀ (port : Fin 16) (sub : Fin 4) (ns k : Nat) (f : EgressFrame) (rest : List EgressFrame) (s : State), s.rma.ops = [] →
    (queueOf s k).frames = f :: rest → (subQueues s port sub).filter (fun k => queueEligible s k ns) = [k] → queueClass s k < 8 →
    mapGet (512 * port.val + 511, false) s.net.rr (8 * (4 * port.val + sub.val) + queueClass s k) = (k, true) → headLen s k ≤ (queueOf s k).deficit →
    Gives s (.egressSchedule port sub ns) fun t => .frame (k / 512) (queueSub s k) f.body ∈ t.out)
  ∧ (∀ (ns : Nat) (s : State), Gives s (.queueSample ns) fun t =>
    ∀ k < 8192, (queueOf t k).frames = (queueOf s k).frames ∧ ((queueOf t k).avg).isSome = true
      ∧ rdFld t (.tmsQstat k) 31 16 = min 0xFFFF (queueDepth s k / 64))
  ∧ (∀ (m : Master) (s : State), (mayWritePart m (queueOwner s (selQueue s)) = true → s.net.held = [] →
      (Gives s (.queueFlush m) fun t => (queueOf t (selQueue s)).frames = [] ∧ (queueOf t (selQueue s)).deficit = 0
        ∧ rd t (.tmsQdrop (selQueue s)) = satAdd (rd s (.tmsQdrop (selQueue s))) (queueOf s (selQueue s)).frames.length)
      ∧ Gives s (.qavgClear m) fun t => (queueOf t (selQueue s)).avg = none ∧ (queueOf t (selQueue s)).frames = (queueOf s (selQueue s)).frames)
    ∧ (mayWritePart m (queueOwner s (selQueue s)) = false → Gives s (.queueFlush m) fun t => bit (rd t (.tmsQcfg (selQueue s))) 30 = true ∧ t.net = s.net))
  ∧ (∀ (m : Master) (cmd : Word) (s : State), (∀ p, m ≠ .vf p) →
    (5 < fld cmd 27 25 → (Gives s (.prsRead m cmd) fun t => bit (rd t .prsCmd) 29 = true) ∧ Gives s (.prsWrite m cmd) fun t => bit (rd t .prsCmd) 29 = true ∧ t.net = s.net)
    ∧ (fld cmd 27 25 = 4 → fld cmd 24 21 ≤ 12 → fld cmd 11 0 ≤ 511 →
        (Gives s (.prsRead m cmd) fun t => rd t (.prsData 0) = mapGet 0 s.net.indir (512 * fld cmd 24 21 + fld cmd 11 0))
        ∧ (mayWritePart m (fld cmd 24 21) = true → fld (rd s (.prsData 0)) 31 28 ≤ 4 → Gives s (.prsWrite m cmd) fun t =>
            mapGet 0 t.net.indir (512 * fld cmd 24 21 + fld cmd 11 0) = rd s (.prsData 0))
        ∧ (mayWritePart m (fld cmd 24 21) = false → Gives s (.prsWrite m cmd) fun t => bit (rd t .prsCmd) 29 = true ∧ t.net = s.net))
    ∧ (fld cmd 27 25 = 2 → (Gives s (.prsRead m cmd) fun t => rd t (.prsData 0) = BitVec.ofNat 32 (mapGet {} s.net.meters (fld cmd 11 0)).cir
        ∧ rd t (.prsData 1) = BitVec.ofNat 32 (mapGet {} s.net.meters (fld cmd 11 0)).cbs ∧ rd t (.prsData 2) = (mapGet {} s.net.meters (fld cmd 11 0)).red))
    ∧ (fld cmd 27 25 = 1 → (∀ c : Fin 24, m = .core c → c.val < 22) → Gives s (.prsWrite m cmd) fun t => bit (rd t .prsCmd) 29 = true ∧ t.net.guards = s.net.guards))

/-- R291, R296: a packet for a FREE context or with another CTAG, one that does not authenticate, and one whose PCTR has been seen or is too old, is counted and dropped, whatever
its operation; nothing is answered. -/
def Obligations.PacketsTurnedAway : Prop :=
  ∀ (a : Arrival) (code : Fin 4) (s : State),
    let cid := a.pkt.cid.toNat
    let c := ctxOf s cid
    ∀ cmd ∈ [Instr.omfWrite a, .omfWriteImm a, .omfReadReq a, .omfReadResp a, .omfSend a, .omfFadd a, .omfCswap a, .omfAtomicResp a, .omfAck a, .omfNak a, .omfClose a,
      .rekey a, .rekeyAck a, .blockVerb code a],
    (c.state = cxFree ∨ c.ctag ≠ a.pkt.ctag.toNat → Gives s cmd fun t => rd t (.rmaCnt cnBadcid) = satAdd (rd s (.rmaCnt cnBadcid)) 1 ∧ t.rma = s.rma
      ∧ t.mem = s.mem ∧ t.net.queues = s.net.queues ∧ t.net.held = s.net.held)
    ∧ (c.state = cxOpen → c.ctag = a.pkt.ctag.toNat → s.rma.cached.contains cid = true → s.rma.parked.all (fun q => q.cid != cid) = true →
      (a.auth = false ∨ rxPhaseOf c a.pkt.kphase = none → Gives s cmd fun t => rd t (.rmaCnt cnAuthfail) = satAdd (rd s (.rmaCnt cnAuthfail)) 1
        ∧ t.rma.ctxs = s.rma.ctxs ∧ t.rma.ops = s.rma.ops ∧ t.mem = s.mem ∧ t.net.queues = s.net.queues ∧ t.net.held = s.net.held)
      ∧ (a.auth = true → a.pkt.kphase = c.rxPhase → freshCtr c.rxHi c.rxWin a.pkt.pctr.toNat = false → Gives s cmd fun t =>
        rd t (.rmaCnt cnReplay) = satAdd (rd s (.rmaCnt cnReplay)) 1 ∧ t.rma.ctxs = s.rma.ctxs ∧ t.rma.ops = s.rma.ops ∧ t.mem = s.mem
          ∧ t.net.queues = s.net.queues ∧ t.net.held = s.net.held))

/-- R297 to R299, R304, R307: request packets that their target performs, and those it answers with a NAK. -/
def Obligations.RemoteRequests : Prop :=
  (∀ (a : Arrival) (addr : Nat) (s : State),
    let cid := a.pkt.cid.toNat
    let c := ctxOf s cid
    let n := a.pkt.data.length
    Arrives s a →
    (InOrder s omWrite a → Granted s a n addr (fun e => e.write) false true → Gives s (.omfWrite a) fun t => rdBytes t addr n = a.pkt.data
      ∧ (ctxOf t cid).rxPsn = (c.rxPsn + 1) % 2 ^ 32 ∧ (∀ b, b < addr ∨ addr + n ≤ b → rdByte t b = rdByte s b)
      ∧ (a.pkt.ackreq = true → c.stopped = false → OmfSent t cid omAck fun q => q.psn = BitVec.ofNat 32 ((c.rxPsn + 1) % 2 ^ 32)))
    ∧ (InOrder s omWriteImm a → Granted s a n addr (fun e => e.write) false true → c.deliver = 2 → a.pkt.last = true → Gives s (.omfWriteImm a) fun t =>
        rdBytes t addr n = a.pkt.data ∧ t.rma.fwIn = s.rma.fwIn ++ [(cid, leBytes 8 a.pkt.imm.toNat)] ∧ (ctxOf t cid).rxPsn = (c.rxPsn + 1) % 2 ^ 32)
    ∧ (InOrder s omReadReq a → Granted s a a.pkt.oplen.toNat addr (fun e => e.read) false false → c.stopped = false →
        pagesBad s addr a.pkt.oplen.toNat = false → Gives s (.omfReadReq a) fun t => t.mem = s.mem
        ∧ OmfSent t cid omReadResp fun q => q.psn = a.pkt.psn ∧ q.first = true ∧ q.roff = a.pkt.roff ∧ q.oplen = a.pkt.oplen
          ∧ q.data = rdBytes s addr (min (max 1 c.mss) a.pkt.oplen.toNat) ∧ q.last = decide (a.pkt.oplen.toNat ≤ max 1 c.mss))
    ∧ (InOrder s omFadd a → Granted s a 8 addr (fun e => e.atomic) true true → c.ver = 2 → c.stopped = false → pagesBad s addr 8 = false → Gives s (.omfFadd a) fun t =>
        rdLe t addr 8 = (rdLe s addr 8 + a.pkt.imm.toNat) % 2 ^ 64 ∧ OmfSent t cid omAtomicResp fun q => q.psn = a.pkt.psn ∧ q.imm = BitVec.ofNat 64 (rdLe s addr 8))
    ∧ (InOrder s omCswap a → Granted s a 8 addr (fun e => e.atomic) true true → c.ver = 2 → c.stopped = false → pagesBad s addr 8 = false → 8 ≤ n → Gives s (.omfCswap a) fun t =>
        rdLe t addr 8 = (if BitVec.ofNat 64 (rdLe s addr 8) = a.pkt.imm then leNat (a.pkt.data.take 8) else rdLe s addr 8)
          ∧ OmfSent t cid omAtomicResp fun q => q.psn = a.pkt.psn ∧ q.imm = BitVec.ofNat 64 (rdLe s addr 8)))
  ∧ (∀ (a : Arrival) (s : State),
    let cid := a.pkt.cid.toNat
    let c := ctxOf s cid
    let e := mapGet {} s.rma.regions (c.recvKey.toNat % 2 ^ 18)
    Arrives s a → InOrder s omSend a →
    (c.deliver = 2 → Gives s (.omfSend a) fun t => t.rma.fwIn = s.rma.fwIn ++ [(cid, a.pkt.data)] ∧ (ctxOf t cid).rxPsn = (c.rxPsn + 1) % 2 ^ 32 ∧ t.mem = s.mem)
    ∧ (c.deliver = 0 → c.owner < 12 → e.valid = true → e.tag = c.recvKey.toNat / 2 ^ 18 → c.recvUsed - c.recvFreed < e.len / max 1 c.mss →
        let addr := e.base + c.recvUsed % (e.len / max 1 c.mss) * c.mss
        engineMay s (engineFor s c.owner addr) addr a.pkt.data.length true = true → a.ecc = .clean →
        (∀ r, regionOf s addr = some r → r < 12 → (pagesOf addr a.pkt.data.length).any (cowHeld s r) = false) → bit (rd s (.rmaRctl c.owner)) 30 = false →
        Gives s (.omfSend a) fun t => rdBytes t addr a.pkt.data.length = a.pkt.data ∧ (ctxOf t cid).recvUsed = c.recvUsed + 1)
    ∧ (c.deliver = 0 → c.owner < 12 → e.valid = true → e.tag = c.recvKey.toNat / 2 ^ 18 → e.len / max 1 c.mss ≤ c.recvUsed - c.recvFreed → a.pkt.first = true →
        c.stopped = false → Gives s (.omfSend a) fun t => t.mem = s.mem ∧ (ctxOf t cid).rxPsn = c.rxPsn
          ∧ OmfSent t cid omNak fun q => q.psn = a.pkt.psn ∧ q.oplen = BitVec.ofNat 32 rsRnr))
  ∧ (∀ (a : Arrival) (code : Fin 4) (s : State),
    let cid := a.pkt.cid.toNat
    let c := ctxOf s cid
    Arrives s a → a.pkt.psn.toNat = c.rxPsn → a.pkt.first = true → c.stopped = false → s.rma.ops = [] → s.rma.waitOps = [] → Gives s (.blockVerb code a) fun t =>
      OmfSent t cid omNak (fun q => q.psn = a.pkt.psn ∧ q.oplen = BitVec.ofNat 32 rsBadOp) ∧ rd t (.rmaCnt cnViol) = satAdd (rd s (.rmaCnt cnViol)) 1
        ∧ (ctxOf t cid).viols = min 255 (c.viols + 1) ∧ t.mem = s.mem
        ∧ (rdFld s .rmaCfg 31 24 ≠ 0 → rdFld s .rmaCfg 31 24 ≤ min 255 (c.viols + 1) → (ctxOf t cid).state = cxClosed))

/-- R297 to R299, R301, R307: what the initiator's side learns from responses, acknowledgements and refusals. -/
def Obligations.RemoteAnswers : Prop :=
  (∀ (a : Arrival) (o : RmaOp) (s : State),
    let cid := a.pkt.cid.toNat
    let c := ctxOf s cid
    Arrives s a → s.rma.ops = [o] → o.cid = cid → o.settling = false → plainSource o → s.rma.ringHeld = [] →
    (o.code = omReadReq → o.firstPsn = some a.pkt.psn.toNat → o.got + a.pkt.data.length ≤ o.len → a.pkt.roff.toNat = o.roff + o.got → o.host = false → 1 ≤ a.pkt.data.length →
      (o.plot < 12 → rdFld s (.pltGen o.plot) 15 0 = o.gen) → engineMay s (engineFor s o.plot (o.laddr + o.got)) (o.laddr + o.got) a.pkt.data.length true = true →
      a.ecc = .clean → (∀ r, regionOf s (o.laddr + o.got) = some r → r < 12 → (pagesOf (o.laddr + o.got) a.pkt.data.length).any (cowHeld s r) = false) →
      (o.got + a.pkt.data.length < o.len → Gives s (.omfReadResp a) fun t => rdBytes t (o.laddr + o.got) a.pkt.data.length = a.pkt.data
          ∧ t.rma.ops = [{ o with got := o.got + a.pkt.data.length, acked := 1 }])
        ∧ (o.got + a.pkt.data.length = o.len → Gives s (.omfReadResp a) fun t => t.rma.ops = []
          ∧ (o.src = .firmware → rdBytes t (o.laddr + o.got) a.pkt.data.length = a.pkt.data)))
    ∧ (o.code = omFadd ∨ o.code = omCswap → o.firstPsn = some a.pkt.psn.toNat → Gives s (.omfAtomicResp a) fun t => t.rma.ops = [])
    ∧ (∀ p wrid, o.src = .ring p wrid true → o.code = omFadd → o.firstPsn = some a.pkt.psn.toNat → p < 12 → o.plot = p → rdFld s (.pltGen p) 15 0 = o.gen →
        hgen s (mapGet 0 s.rma.ringFn p) = o.hgen → o.mute = false → ringOn s p = true →
        (rdFld s (.rmaCqpi p) 15 0 + 65536 - rdFld s (.rmaCqci p) 15 0) % 65536 < ringN s p →
        Gives s (.omfAtomicResp a) fun t => rdFld t (.rmaCqpi p) 15 0 = (rdFld s (.rmaCqpi p) 15 0 + 1) % 65536)
    ∧ (o.code = omWrite → opPackets c.mss o ≤ coveredBy o a.pkt.psn.toNat → o.acked < coveredBy o a.pkt.psn.toNat → psnBefore c.txPsn a.pkt.psn.toNat = false →
        Gives s (.omfAck a) fun t => t.rma.ops = [] ∧ (ctxOf t cid).retries = 0)
    ∧ (o.firstPsn = some a.pkt.psn.toNat → (a.pkt.oplen.toNat % 256 ≠ rsRnr → Gives s (.omfNak a) fun t => t.rma.ops = [])
        ∧ (a.pkt.oplen.toNat % 256 = rsRnr → Gives s (.omfNak a) fun t => t.rma.ops = [{ o with acked := 0 }] ∧ (ctxOf t cid).paused = true)))
  ∧ (∀ (a : Arrival) (s : State),
    let cid := a.pkt.cid.toNat
    let c := ctxOf s cid
    c.state ≠ cxFree → c.ctag = a.pkt.ctag.toNat →
    (c.recent.any (fun e => e.1 == a.pkt.pctr.toNat && decide (s.tick ≤ e.2 + 2 * rtoUs s)) = true → Gives s (.omfRnr a) fun t =>
      ctxOf t cid = { c with paused := true } ∧ t.rma.ops = s.rma.ops)
    ∧ (c.recent.any (fun e => e.1 == a.pkt.pctr.toNat && decide (s.tick ≤ e.2 + 2 * rtoUs s)) = false → Gives s (.omfRnr a) fun t => t.rma = s.rma))

/-- R291, R292, R295, R309: connections opened from either end, given new keys, and closed. -/
def Obligations.RemoteConnections : Prop :=
  (∀ (m : Msg) (addr : BitVec 128) (port : BitVec 16) (keyId : Word) (deliver : Fin 4) (recvKey : Word) (hostStore ipv6 : Bool) (s : State),
    Admitted s m { type := 0x40, vf := true } →
    (∀ cid, connKeyHeld s keyId = true → freeCtx s = some cid → Gives s (.rmaOpen m addr port keyId deliver recvKey hostStore ipv6) fun t =>
      (ctxOf t cid).state = cxConnecting ∧ (ctxOf t cid).ctag = ((ctxOf s cid).ctag + 1) % 65536 ∧ (ctxOf t cid).owner = msgOwner m ∧ (ctxOf t cid).peerAddr = addr
        ∧ (ctxOf t cid).deliver = deliver ∧ (ctxOf t cid).recvKey = recvKey
        ∧ SetupSent t cid omOpenReq 0 fun q => q.peerCid = BitVec.ofNat 16 cid ∧ q.peerTag = BitVec.ofNat 16 (((ctxOf s cid).ctag + 1) % 65536) ∧ q.keyId = keyId)
    ∧ (connKeyHeld s keyId = false → Gives s (.rmaOpen m addr port keyId deliver recvKey hostStore ipv6) fun t => Answered t m 0x40 stRefused ∧ t.rma = s.rma))
  ∧ (∀ (q : OpenPkt) (plot : Fin 13) (s : State),
    (q.macOk = false → Gives s (.openReq q plot) fun t => rd t (.rmaCnt cnAuthfail) = satAdd (rd s (.rmaCnt cnAuthfail)) 1 ∧ t.rma = s.rma)
    ∧ (∀ cid, q.macOk = true → connKeyHeld s q.keyId = true → freeCtx s = some cid →
      (q.vmin.toNat ≤ min q.vmax.toNat 2 → 1 ≤ q.vmax.toNat → Gives s (.openReq q plot) fun t => (ctxOf t cid).state = cxOpen ∧ (ctxOf t cid).ver = min q.vmax.toNat 2
        ∧ (ctxOf t cid).owner = plot ∧ (ctxOf t cid).peerCid = q.peerCid.toNat ∧ (ctxOf t cid).peerTag = q.peerTag.toNat ∧ (ctxOf t cid).mss ≤ q.mss
        ∧ (ctxOf t cid).ctag = ((ctxOf s cid).ctag + 1) % 65536
        ∧ SetupSent t cid omOpenAck (min q.vmax.toNat 2) fun p => p.peerCid = BitVec.ofNat 16 cid ∧ p.keyId = q.keyId)
      ∧ (min q.vmax.toNat 2 < q.vmin.toNat → Gives s (.openReq q plot) fun t => t.rma = s.rma ∧ OmfSent t 0 omClose fun p => p.cid = q.peerCid ∧ p.ctag = q.peerTag)))
  ∧ (∀ (cid ctag : BitVec 16) (ver : Byte) (q : OpenPkt) (s : State),
    let c := ctxOf s cid.toNat
    c.state = cxConnecting → c.ctag = ctag.toNat →
    (q.macOk = true → Gives s (.openAck cid ctag ver q) fun t =>
      let d := ctxOf t cid.toNat
      d.state = cxOpen ∧ d.ver = ver.toNat ∧ d.peerCid = q.peerCid.toNat ∧ d.peerTag = q.peerTag.toNat ∧ d.mss = min c.mss q.mss ∧ d.peerNonce = q.nonce
        ∧ d.nonce = c.nonce ∧ d.owed = none ∧ d.ctag = c.ctag ∧ d.owner = c.owner)
    ∧ (q.macOk = false → Gives s (.openAck cid ctag ver q) fun t => t.rma = s.rma ∧ rd t (.rmaCnt cnAuthfail) = satAdd (rd s (.rmaCnt cnAuthfail)) 1))
  ∧ (∀ (a : Arrival) (s : State),
    let cid := a.pkt.cid.toNat
    let c := ctxOf s cid
    Arrives s a →
    (s.rma.ringHeld = [] → (∀ o ∈ s.rma.ops, o.cid = cid → o.src = .firmware) → (∀ o ∈ s.rma.waitOps, o.cid ≠ cid) → Gives s (.omfClose a) fun t =>
      (ctxOf t cid).state = cxClosed ∧ ∀ o ∈ t.rma.ops, o.cid ≠ cid)
    ∧ ((∀ o ∈ s.rma.ops, o.cid ≠ cid) → c.stopped = false → Gives s (.rekey a) fun t => (ctxOf t cid).txPhase = !c.txPhase ∧ (ctxOf t cid).txCtr = 1
        ∧ (ctxOf t cid).epoch = c.epoch + 1 ∧ (ctxOf t cid).nextKeys = true ∧ (ctxOf t cid).txPsn = c.txPsn
        ∧ OmfSent t cid omRekeyAck fun q => q.kphase = c.txPhase ∧ q.pctr = BitVec.ofNat 64 c.txCtr)
    ∧ ((∀ o ∈ s.rma.ops, o.cid ≠ cid) → c.rekeying = true → Gives s (.rekeyAck a) fun t => (ctxOf t cid).txPhase = !c.txPhase ∧ (ctxOf t cid).txCtr = 1
        ∧ (ctxOf t cid).epoch = c.epoch + 1 ∧ (ctxOf t cid).rekeying = false ∧ (ctxOf t cid).rxPhase = c.rxPhase ∧ (ctxOf t cid).txPsn = c.txPsn))
  ∧ (∀ (m : Msg) (dcid : Word) (s : State),
    let i := dcid.toNat % 65536
    let c := ctxOf s i
    (Admitted s m { type := 0x41, vf := true } → (c.state ≠ cxFree → c.ctag = dcid.toNat / 65536 → ownsCtx m c = true → (∀ o ∈ s.rma.ops ++ s.rma.waitOps, o.cid ≠ i) →
        s.rma.ringHeld = [] → Gives s (.rmaClose m dcid) fun t => (ctxOf t i).state = cxFree ∧ Answered t m 0x41 stOk)
      ∧ (c.state = cxFree ∨ c.ctag ≠ dcid.toNat / 65536 ∨ ownsCtx m c = false → Gives s (.rmaClose m dcid) fun t => Answered t m 0x41 stRefused ∧ t.rma = s.rma))
    ∧ (Admitted s m { type := 0x42, vf := true } → c.state = cxOpen → c.ctag = dcid.toNat / 65536 → ownsCtx m c = true →
      (c.rekeying = false → c.stopped = false → Gives s (.rmaRekey m dcid) fun t => (ctxOf t i).rekeying = true ∧ (ctxOf t i).txPhase = c.txPhase
        ∧ OmfSent t i omRekey fun q => q.kphase = c.txPhase ∧ q.pctr = BitVec.ofNat 64 c.txCtr)
      ∧ (c.rekeying = true → Gives s (.rmaRekey m dcid) fun t => Answered t m 0x42 stBusy ∧ t.rma = s.rma)))

/-- R294, R295, R297, R300 to R302, R306, R312: timers of a connection, fetches of contexts, operation slots and the work and completion rings. -/
def Obligations.RemoteTimersFetchesAndRings : Prop :=
  (∀ (cid : BitVec 16) (s : State),
    let i := cid.toNat
    let c := ctxOf s i
    (c.state = cxOpen → 0 < c.unacked → c.stopped = false → Gives s (.ackTimer cid) fun t => (ctxOf t i).unacked = 0
      ∧ OmfSent t i omAck fun q => q.psn = BitVec.ofNat 32 c.rxPsn)
    ∧ (c.unacked = 0 → exec (.ackTimer cid) s = .next s)
    ∧ (∀ o, s.rma.ops = [o] → o.cid = i → plainSource o → o.settling = false → o.acked < o.sent → answered o.code = false → c.state = cxOpen → c.paused = false →
        s.rma.ringHeld = [] →
      (∀ bs, c.retries < retryMax s → o.data = some bs → c.stopped = false → stopsFrozen s o = false → Gives s (.retransmitTimeout cid) fun t => (ctxOf t i).retries = c.retries + 1
        ∧ rd t (.rmaCnt cnRetx) = satAdd (rd s (.rmaCnt cnRetx)) (o.sent - o.acked) ∧ t.rma.ops = [o])
      ∧ (retryMax s ≤ c.retries → Gives s (.retransmitTimeout cid) fun t => (ctxOf t i).state = cxError ∧ t.rma.ops = []))
    ∧ (∀ o bs p, s.rma.ops = [o] → o.cid = i → o.settling = false → o.acked = 0 → o.code = omWrite → o.data = some bs → opPackets c.mss o = 1 → o.sent = 1 →
        o.firstPsn = some p → c.paused = true → c.stopped = false → stopsFrozen s o = false → Gives s (.rnrResend cid) fun t => (ctxOf t i).paused = false ∧ (ctxOf t i).retries = c.retries
          ∧ OmfSent t i omWrite fun q => q.psn = BitVec.ofNat 32 (p % 2 ^ 32) ∧ q.pctr = BitVec.ofNat 64 c.txCtr)
    ∧ ((∀ o ∈ s.rma.ops, o.cid = i → o.src = .firmware) → (∀ o ∈ s.rma.waitOps, o.cid ≠ i) → s.rma.ringHeld = [] → c.stopped = true → c.state = cxOpen → Gives s (.rekeyTimeout cid) fun t =>
        (ctxOf t i).state = cxError ∧ ∀ o ∈ t.rma.ops, o.cid ≠ i)
    ∧ (c.oldOk = true → Gives s (.kphaseWindowEnd cid) fun t => ctxOf t i = { c with oldOk := false }))
  ∧ (∀ (cid : BitVec 16) (s : State), s.rma.fetching.contains cid.toNat = true →
    (∀ q addr, (ctxOf s cid.toNat).hostStore = false ∨ fnLost s (backingFn (ctxOf s cid.toNat)) = false → s.rma.parked = [q] → q.cid = cid.toNat → q.arr.pkt.cid = cid → q.code = omWrite → s.rma.cached.contains cid.toNat = false → s.rma.cached.length < 4096 →
      s.rma.ops = [] → Authentic s q.arr → InOrder s omWrite q.arr → Granted s q.arr q.arr.pkt.data.length addr (fun e => e.write) false true →
      Gives s (.contextFetchDone cid) fun t => t.rma.parked = [] ∧ t.rma.cached = cid.toNat :: s.rma.cached ∧ t.rma.fetching = s.rma.fetching.filter (· ≠ cid.toNat)
        ∧ rdBytes t addr q.arr.pkt.data.length = q.arr.pkt.data)
    ∧ Gives s (.contextFetchFail cid) fun t => t.rma.parked = s.rma.parked.filter (fun q => q.cid != cid.toNat)
        ∧ t.rma.fetching = s.rma.fetching.filter (· ≠ cid.toNat) ∧ rd t (.rmaCnt cnFetchfail) = satAdd (rd s (.rmaCnt cnFetchfail)) 1)
  ∧ (∀ (m : Master) (p : Fin 12) (index : BitVec 16) (s : State),
    let e := rdBytes s (regionBase s p + ringBase s p + rdFld s (.rmaWqci p) 15 0 % ringN s p * 64) 64
    mayRing m p = true → ringOn s p = true → index.toNat = (rdFld s (.rmaWqci p) 15 0 + 1) % 65536 → ringWaits s p = false → s.rma.ringReads.contains p.val = false →
      s.rma.ringHeld.any (fun e => e.1 == p.val) = false →
    (bit (rd s (.rmaRctl p)) 30 = false → Gives s (.workRequest m p index) fun t => rdFld t (.rmaWqpi p) 15 0 = index.toNat ∧ p.val ∈ t.rma.ringReads)
    ∧ (bit (rd s (.rmaRctl p)) 30 = true → leAt e 1 1 / 2 % 2 = 0 →
        engineMay s (.plot p) (regionBase s p + ringBase s p + rdFld s (.rmaWqci p) 15 0 % ringN s p * 64) 64 false = true →
      (∀ k, freeSlot s = some k → [1, 2, 3, 5, 6, 7].contains (leAt e 0 1) = true → (ctxOf s (leAt e 2 2)).state = cxOpen → (ctxOf s (leAt e 2 2)).owner = p.val →
        leAt e 24 4 ≤ 2 ^ 30 → (leAt e 0 1 = omSend → leAt e 24 4 ≤ (ctxOf s (leAt e 2 2)).mss) → s.rma.cached.contains (leAt e 2 2) = false →
        Gives s (.workRequest m p index) fun t => rdFld t (.rmaWqci p) 15 0 = index.toNat ∧ ∃ o, t.rma.ops = s.rma.ops ++ [o] ∧ o.slot = k ∧ o.code = leAt e 0 1
          ∧ o.cid = leAt e 2 2 ∧ o.rkey = BitVec.ofNat 32 (leAt e 4 4) ∧ o.roff = leAt e 8 8 ∧ o.laddr = leAt e 16 8 ∧ o.gen = rdFld s (.pltGen p) 15 0)
      ∧ ([1, 2, 3, 5, 6, 7].contains (leAt e 0 1) = false → (rdFld s (.rmaCqpi p) 15 0 + 65536 - rdFld s (.rmaCqci p) 15 0) % 65536 < ringN s p →
        Gives s (.workRequest m p index) fun t => rdFld t (.rmaWqci p) 15 0 = index.toNat ∧ rdFld t (.rmaCqpi p) 15 0 = (rdFld s (.rmaCqpi p) 15 0 + 1) % 65536
          ∧ t.rma.ops = s.rma.ops)))
  ∧ (∀ (o : RmaOp) (rest : List RmaOp) (k : Nat) (s : State), s.rma.waitOps = o :: rest → freeSlot s = some k → ctxDown s o.cid = false → o.src = .firmware → s.rma.cached.contains o.cid = false →
    Gives s .operationSlotGrant fun t => t.rma.waitOps = rest ∧ t.rma.ops = s.rma.ops ++ [{ o with slot := k }] ∧ (s.rma.fetching.contains o.cid = false →
      rd t (.rmaCnt cnMiss) = satAdd (rd s (.rmaCnt cnMiss)) 1))
  ∧ (∀ (m : Master) (p : Fin 12) (index : BitVec 16) (s : State),
    (mayRing m p = false → exec (.rmaCqci m p index) s = .next s)
    ∧ (mayRing m p = true → s.rma.recvRecs = [] → (s.rma.heldRecs = [] → Gives s (.rmaCqci m p index) fun t => rdFld t (.rmaCqci p) 15 0 = index.toNat ∧ t.rma = s.rma)
      ∧ (∀ r, s.rma.heldRecs = [(p.val, r)] → ringOn s p = true → (rdFld s (.rmaCqpi p) 15 0 + 65536 - index.toNat) % 65536 < ringN s p →
        Gives s (.rmaCqci m p index) fun t => t.rma.heldRecs = [] ∧ rdFld t (.rmaCqpi p) 15 0 = (rdFld s (.rmaCqpi p) 15 0 + 1) % 65536)))

/-- R300, R303, R305, R311: regions registered and revoked, and the operations of RMA_CMD on contexts and region entries. -/
def Obligations.RegionsRevocationsAndRmaCommands : Prop :=
  (∀ (m : Msg) (base len : Nat) (read write atomic : Bool) (s : State), Admitted s m { type := 0x43, vf := true } →
    (∀ i, regionFits s (msgOwner m) base len = true → (List.range 262144).find? (fun i => !(regionEnt s i).valid && (regionEnt s i).revoking.isNone) = some i →
      Gives s (.rmaReg m base len read write atomic) fun t =>
        regionEnt t i = { tag := ((regionEnt s i).tag + 1) % 2 ^ 14, owner := msgOwner m, read := read, write := write, atomic := atomic, valid := true, base := base, len := len }
        ∧ ∃ r ∈ (box t m.owner).posted ++ (box t m.owner).held, r.seq = m.seq ∧ r.status = stOk ∧ r.payload = leBytes 4 (((regionEnt s i).tag + 1) % 2 ^ 14 * 2 ^ 18 + i))
    ∧ (regionFits s (msgOwner m) base len = false → Gives s (.rmaReg m base len read write atomic) fun t => Answered t m 0x43 stRefused ∧ t.rma = s.rma))
  ∧ (∀ (m : Msg) (key : Word) (s : State),
    let i := key.toNat % 2 ^ 18
    let e := regionEnt s i
    Admitted s m { type := 0x44, vf := true } →
    (e.valid = true → e.tag = key.toNat / 2 ^ 18 → (1 ≤ m.owner.val → m.owner.val ≤ 12 → e.owner + 1 = m.owner.val) → s.rma.revokeWait = [] → s.rma.revocations.length < 64 →
      Gives s (.rmaRevoke m key) fun t => t.net.stamp = s.net.stamp + 1 ∧ regionEnt t i = { e with valid := false, revoking := some (s.net.stamp + 1) })
    ∧ (e.valid = false ∨ e.tag ≠ key.toNat / 2 ^ 18 → Gives s (.rmaRevoke m key) fun t => Answered t m 0x44 stRefused ∧ t.rma = s.rma))
  ∧ (∀ (index : BitVec 18) (v : Revocation) (s : State), s.rma.revocations.find? (fun v => v.index == index.toNat) = some v → s.rma.revokeWait = [] →
    (s.rma.parked = [] → s.net.toRma = [] → Gives s (.revokeComplete index) fun t => (regionEnt t index.toNat).valid = false ∧ (regionEnt t index.toNat).revoking = none ∧ (regionEnt t index.toNat).revoked = true
      ∧ t.rma.revocations.all (fun x => x.index != index.toNat) = true
      ∧ ∀ o seq ver, v.owed = some (o, seq, ver) → (box s o).requests.any (fun r => r.seq == BitVec.ofNat 32 seq) = true →
        ∃ r ∈ (box t o).posted ++ (box t o).held, r.seq = BitVec.ofNat 32 seq ∧ r.type = 0x44 ∧ r.status = stOk)
    ∧ (∀ q ∈ s.rma.parked, q.arr.pkt.rkey = regionKey s v.index → q.arr.stamp < v.stamp → exec (.revokeComplete index) s = .next s))
  ∧ (∀ (m : Master) (index : BitVec 18) (s : State),
    let i := index.toNat
    let c := ctxOf s i
    let shows := fun (t : State) (op : Nat) (err : Bool) => rdFld t .rmaCmd 28 26 = op ∧ rdFld t .rmaCmd 17 0 = i ∧ (err = true → bit (rd t .rmaCmd) 29 = true)
    (mayRmaCmd m = false → ∀ cmd ∈ [Instr.rmaReadContext m index, .rmaWriteContext m index, .rmaReadRegion m index, .rmaWriteRegion m index, .rmaPin m index, .rmaUnpin m index],
      exec cmd s = .next s)
    ∧ (mayRmaCmd m = true →
      (i < 65536 → (Gives s (.rmaReadContext m index) fun t => shows t 0 false ∧ t.rma = s.rma ∧ rd t (.rmaData 14) = BitVec.ofNat 32 c.txPsn
          ∧ rd t (.rmaData 15) = BitVec.ofNat 32 c.rxPsn ∧ rd t (.rmaData 16) = c.recvKey)
        ∧ (Gives s (.rmaWriteContext m index) fun t => shows t 1 false ∧ (ctxOf t i).txPsn = (rd s (.rmaData 14)).toNat ∧ (ctxOf t i).rxPsn = (rd s (.rmaData 15)).toNat
          ∧ (ctxOf t i).recvKey = rd s (.rmaData 16) ∧ (ctxOf t i).keySlot = c.keySlot ∧ (ctxOf t i).pinned = c.pinned)
        ∧ (c.pinned = true ∨ c.planned = true ∨ pinnedCount s < 2048 → Gives s (.rmaPin m index) fun t => shows t 4 false ∧ (ctxOf t i).pinned = true)
        ∧ (c.pinned = false → c.planned = false → 2048 ≤ pinnedCount s → Gives s (.rmaPin m index) fun t => shows t 4 true ∧ t.rma = s.rma)
        ∧ (Gives s (.rmaUnpin m index) fun t => shows t 5 false ∧ ctxOf t i = { c with pinned := false }))
      ∧ (65536 ≤ i → (Gives s (.rmaReadContext m index) fun t => shows t 0 true ∧ t.rma = s.rma) ∧ (Gives s (.rmaWriteContext m index) fun t => shows t 1 true ∧ t.rma = s.rma)
        ∧ (Gives s (.rmaPin m index) fun t => shows t 4 true ∧ t.rma = s.rma) ∧ Gives s (.rmaUnpin m index) fun t => shows t 5 true ∧ t.rma = s.rma)
      ∧ (Gives s (.rmaReadRegion m index) fun t => shows t 2 false ∧ t.rma = s.rma ∧ rd t (.rmaData 0) = regionKey s i
          ∧ rdFld t (.rmaData 1) 7 0 = (regionEnt s i).owner % 256 ∧ bit (rd t (.rmaData 1)) 11 = (regionEnt s i).valid)
      ∧ (let b := rdFld s (.rmaData 2) 31 0 + rdFld s (.rmaData 3) 31 0 % 256 * 2 ^ 32
         let l := rdFld s (.rmaData 4) 31 0 + rdFld s (.rmaData 5) 31 0 * 2 ^ 32
         let o := rdFld s (.rmaData 1) 7 0
         bit (rd s (.rmaData 1)) 11 = true → o ≤ 12 →
          ((regionEnt s i).revoking = none → regionFits s o b l = true → Gives s (.rmaWriteRegion m index) fun t => shows t 3 false
            ∧ regionEnt t i =
              { tag := ((regionEnt s i).tag + 1) % 2 ^ 14, owner := o, read := bit (rd s (.rmaData 1)) 8, write := bit (rd s (.rmaData 1)) 9, atomic := bit (rd s (.rmaData 1)) 10, valid := true, base := b, len := l })
          ∧ (regionFits s o b l = false → Gives s (.rmaWriteRegion m index) fun t => shows t 3 true ∧ t.rma = s.rma))))

/-- R313 to R318, R321 to R327, R329: storage commands started, refused and ended, channel power, and namespace bindings. -/
def Obligations.StorageChannels : Prop :=
  (∀ (m : Master) (n : Fin 64) (irq : Bool) (nsb : Byte) (tag : Half) (op : Nat) (cmd : Instr) (s : State),
    (op, cmd) ∈ [(0, Instr.stgRead m n irq nsb tag), (1, .stgWrite m n irq nsb tag), (2, .stgFlush m n irq nsb tag), (3, .stgDealloc m n irq nsb tag)] → mayStg s m n = true →
    (stgState s n = sgBusy ∨ stgState s n = sgAborting → Gives s cmd fun t => rd t .stgRefused = satAdd (rd s .stgRefused) 1 ∧ rd t (.stgStatus n) = rd s (.stgStatus n)
      ∧ t.stg = s.stg)
    ∧ (∀ code, stgState s n = sgIdle ∨ stgState s n = sgDone → stgCheck s n op nsb.toNat = some code → Gives s cmd fun t =>
        rd t (.stgStatus n) = stgStatusWord code 0 tag.toNat ∧ t.stg = s.stg ∧ (irq = true → bit (rd t (.stgCpend (n / 32))) (n % 32) = true))
    ∧ (∀ b k, stgState s n = sgIdle ∨ stgState s n = sgDone → stgCheck s n op nsb.toNat = none → bindingOf s n nsb.toNat = some b → (ctxOf s b.cid).ctag = b.ctag →
        ctxDown s b.cid = false → freeSlot s = some k → s.rma.cached.contains b.cid = false →
        ((ctxOf s b.cid).hostStore = false ∨ fnLost s (backingFn (ctxOf s b.cid)) = false) → Gives s cmd fun t =>
        stgState t n = sgBusy ∧ rdFld t (.stgStatus n) 15 0 = tag.toNat ∧ rdFld t (.stgCtl n) 29 28 = 0 ∧ rd t (.stgDone n) = 0
        ∧ (∃ c, stgCmdOf t n = some c ∧ c.code = 0x30 + op ∧ c.tag = tag.toNat ∧ c.irq = irq ∧ c.slot = some k)
        ∧ ∃ o, t.rma.ops = s.rma.ops ++ [o] ∧ o.slot = k ∧ o.src = .storage n ∧ o.cid = b.cid ∧ o.rkey = b.nsid ∧ o.len = stgBlks s n * 4096 ∧ o.laddr = stgBuf s n
          ∧ o.roff = (if op = 2 then 0 else stgLba s n) ∧ o.sent = 0))
  ∧ (∀ (m : Master) (n : Fin 64) (atag : Half) (c : StgCmd) (s : State), mayStg s m n = true → stgCmdOf s n = some c →
    (stgState s n = sgBusy → c.tag = atag.toNat → c.ending = none → (∀ o, stgOp s n = some o → o.sent ≤ o.acked) → Gives s (.stgAbort m n atag) fun t =>
      rd t (.stgStatus n) = stgStatusWord 1 0 c.tag ∧ stgCmdOf t n = none ∧ rdFld t (.stgCtl n) 15 0 = atag.toNat)
    ∧ (∀ o, stgState s n = sgBusy → c.tag = atag.toNat → c.ending = none → stgOp s n = some o → o.acked < o.sent → Gives s (.stgAbort m n atag) fun t =>
        stgState t n = sgAborting ∧ ∃ x ∈ t.rma.ops, x.slot = o.slot ∧ x.settling = true)
    ∧ (c.tag ≠ atag.toNat → Gives s (.stgAbort m n atag) fun t => rd t .stgAbortmiss = satAdd (rd s .stgAbortmiss) 1 ∧ t.stg = s.stg)
    ∧ ((∀ o, stgOp s n = some o → o.sent ≤ o.acked) → Gives s (.channelReset m n) fun t => stgCmdOf t n = none ∧ stgState t n = sgIdle ∧ rdFld t (.stgStatus n) 27 24 = 0xC
        ∧ rd t (.stgLbalo n) = 0 ∧ rd t (.stgLbahi n) = 0 ∧ rd t (.stgBlks n) = 0 ∧ rd t (.stgBuflo n) = 0 ∧ rd t (.stgBufhi n) = 0)
    ∧ (∀ o e, stgOp s n = some o → o.settling = true → c.ending = some e → e ≠ 0xC → Gives s (.abortSettleTimeout n) fun t =>
        rd t (.stgStatus n) = stgStatusWord e 0 c.tag ∧ stgCmdOf t n = none ∧ ∀ x ∈ t.rma.ops, x.slot ≠ o.slot))
  ∧ (∀ (m : Master) (n : Fin 64) (s : State),
    (mayStg s m n = false → ∀ (irq : Bool) (nsb : Byte) (tag : Half), ∀ cmd ∈ [Instr.stgRead m n irq nsb tag, .stgWrite m n irq nsb tag, .stgFlush m n irq nsb tag, .stgDealloc m n irq nsb tag,
      .stgAbort m n tag, .channelReset m n, .channelPowerOn m n, .channelPowerOff m n], exec cmd s = .next s)
    ∧ (mayStg s m n = true →
      (stgCmdOf s n = none → Gives s (.channelReset m n) fun t => rd t (.stgStatus n) = 0 ∧ rd t (.stgLbalo n) = 0 ∧ rd t (.stgBlks n) = 0 ∧ rdFld t (.stgCtl n) 15 0 = 0
        ∧ rdFld t (.stgCtl n) 29 28 = rdFld s (.stgCtl n) 29 28)
      ∧ (Gives s (.channelPowerOn m n) fun t => rdFld t (.stgCtl n) 29 28 = 0 ∧ n.val ∉ t.stg.offDue)
      ∧ (n.val < 4 → exec (.channelPowerOff m n) s = .next s)
      ∧ (4 ≤ n.val → stgCmdOf s n = none → Gives s (.channelPowerOff m n) fun t => rdFld t (.stgCtl n) 29 28 = 2)
      ∧ (4 ≤ n.val → ∀ c, stgCmdOf s n = some c → Gives s (.channelPowerOff m n) fun t => n.val ∈ t.stg.offDue ∧ rd t (.stgCtl n) = rd s (.stgCtl n)))
    ∧ (stgCmdOf s n = none → rdFld s (.stgCtl n) 29 28 = 0 → Gives s (.channelDoze n) fun t => rdFld t (.stgCtl n) 29 28 = 1))
  ∧ (∀ (m : Msg) (dcid : Word) (nsid : Word) (capacity : Nat) (readOnly : Bool) (owner : Fin 16) (s : State),
    let c := ctxOf s (dcid.toNat % 65536)
    Admitted s m { type := 0x50, vf := true } → mayBind m owner = true →
    (∀ i, c.state = cxOpen → c.ctag = dcid.toNat / 65536 → c.ver = 2 → c.owner = min owner.val 12 → (List.range 256).find? (fun i => (mapFind s.stg.bindings i).isNone) = some i →
      Gives s (.stgBind m dcid nsid capacity readOnly owner) fun t => Answered t m 0x50 stOk
        ∧ mapFind t.stg.bindings i = some { cid := dcid.toNat % 65536, ctag := c.ctag, nsid := nsid, capacity := capacity, readOnly := readOnly, owner := owner })
    ∧ (c.state ≠ cxOpen ∨ c.ctag ≠ dcid.toNat / 65536 ∨ c.ver ≠ 2 ∨ c.owner ≠ min owner.val 12 → Gives s (.stgBind m dcid nsid capacity readOnly owner) fun t => Answered t m 0x50 stRefused ∧ t.stg = s.stg))
  ∧ (∀ (m : Msg) (index : Byte) (b : Binding) (s : State), mapFind s.stg.bindings index.toNat = some b → mayBind m b.owner = true →
    (Admitted s m { type := 0x51, vf := true } → b.unbind = none →
      (s.stg.cmds.any (fun e => e.2.nsb == index.toNat) = false → Gives s (.stgUnbind m index) fun t => mapFind t.stg.bindings index.toNat = none ∧ Answered t m 0x51 stOk)
      ∧ (s.stg.cmds.any (fun e => e.2.nsb == index.toNat) = true → Gives s (.stgUnbind m index) fun t =>
        ∃ x, mapFind t.stg.bindings index.toNat = some x ∧ x.unbind = some (m.owner.val, m.seq.toNat, m.version)))
    ∧ (Admitted s m { type := 0x52, vf := true } → Gives s (.stgQuery m index) fun t => Answered t m 0x52 stOk ∧ t.stg = s.stg))

/-- R360, R361, R363, R364, R366 to R371, R374, R381: epochs, reports, keys in and out of their slots, weights loaded, and alarms. -/
def Obligations.EpochsReportsAndKeys : Prop :=
  (∀ (m : Msg) (full : Bool) (nonce : BitVec 256) (buf : SecBuf) (s : State), Admitted s m { type := 0x60, vf := false, stage := 5 } → epochOut s = false →
    (∀ n ≤ 16384 + (deviceCert s).length, bufFits s buf n = true) →
    (bit (rd s .secStatus) 28 = false → Gives s (.secReport m full nonce buf 0) fun t =>
      t.sec.reportsDue = s.sec.reportsDue ++ [{ owner := m.owner, seq := m.seq, version := m.version, full := full, nonce := nonce, buf := buf }])
    ∧ (bit (rd s .secStatus) 28 = true → full = true → 1 ≤ (rd s .secLowleft).toNat → Gives s (.secReport m full nonce buf 0) fun t =>
        Answered t m 0x60 stOk ∧ (rd t .secLowleft).toNat = (rd s .secLowleft).toNat - 1 ∧ t.sec.cert.isSome = true)
    ∧ (bit (rd s .secStatus) 28 = true → full = true → rd s .secLowleft = 0 → Gives s (.secReport m full nonce buf 0) fun t => Answered t m 0x60 stRefused)
    ∧ (∀ meas, bit (rd s .secStatus) 28 = true → full = false → fuseCompactOff s = false → s.sec.cert = some (reportMiddle s, meas) → Gives s (.secReport m full nonce buf 0) fun t =>
        Answered t m 0x60 stOk ∧ rd t .secLowleft = rd s .secLowleft))
  ∧ (∀ s : State, s.sec.erasing = false → epochOut s = false → bit (rd s .secStatus) 28 = false → s.sec.reportsDue = [] → Gives s .bottomTreeReady fun t =>
    bit (rd t .secStatus) 28 = true ∧ rd t .secLowleft = 1048576)
  ∧ (∀ (m : Msg) (buf : SecBuf) (owner : Fin 13) (mask : BitVec 12) (h bs key : List Byte) (n : Nat) (s : State), Admitted s m { type := 0x61, vf := false, stage := 5 } →
    bufRead s buf 80 = some h → leAt h 0 4 ≠ 0x4B534C53 → bufRead s buf 1672 = some bs →
    leAt bs 0 4 = 0x524B4C53 → leAt bs 4 1 = 1 → 1 ≤ leAt bs 5 1 → leAt bs 5 1 ≤ 4 → epochOut s = false → leAt bs 8 4 = (rd s .secEpoch).toNat →
    (s.sec.reports.contains ((bs.drop 32).take 32) = true → (leAt bs 5 1 ≤ 2 → s.sec.layoutClass ≠ 0 ∧ s.sec.dbgScope = none ∧ maskUndefined s mask.toNat = false) →
      keyUnwrap s.sec.tree bs = some key → freeKeySlot s = some n → Gives s (.secKeyload m buf owner mask 0) fun t => Answered t m 0x61 stOk
        ∧ ∃ k, mapFind t.sec.slots n = some k ∧ k.kind = leAt bs 5 1 ∧ k.ident = BitVec.ofNat 128 (leAt bs 16 16) ∧ k.keyId = BitVec.ofNat 32 (leAt bs 12 4) ∧ k.key = fitBytes 32 key)
    ∧ (s.sec.reports.contains ((bs.drop 32).take 32) = false → Gives s (.secKeyload m buf owner mask 0) fun t => Answered t m 0x61 stRefused
        ∧ rd t .secRelfail = satAdd (rd s .secRelfail) 1 ∧ t.sec.slots = s.sec.slots))
  ∧ (∀ (m : Msg) (slot : Fin 256) (k : KeySlot) (s : State), mapFind s.sec.slots slot.val = some k →
    (Admitted s m { type := 0x62, vf := false } → (k.kind = 3 ∨ k.kind = 4 → Gives s (.secKeystore m slot 0) fun t => Answered t m 0x62 stOk ∧ t.sec = s.sec)
      ∧ (k.kind ≠ 3 → k.kind ≠ 4 → Gives s (.secKeystore m slot 0) fun t => Answered t m 0x62 stRefused ∧ t.sec = s.sec))
    ∧ (Admitted s m { type := 0x63, vf := false } → Gives s (.secKeydrop m slot) fun t => Answered t m 0x63 stOk ∧ mapFind t.sec.slots slot.val = none))
  ∧ (∀ (m : Msg) (slot : Fin 256) (src : HuskSource) (imgRegion : Fin 32) (imgOff : Nat) (k : KeySlot) (h r pt : List Byte) (im : Image) (e : ArrEnt) (s : State),
    let p := msgPlot m
    Admitted s m { type := 0x64, vf := false, needsPlot := true, stage := 5 } → pltState s p = pltLoading → s.sec.layoutClass ≠ 0 → s.sec.dbgScope = none →
    mapFind s.sec.slots slot.val = some k → huskRead s src p 0 16384 = some h → loadImage s p imgRegion imgOff = some im → k.kind = 1 → k.plots.testBit p = true →
    huskHeaderOk s h k = true → im.modelId = k.ident →
    (im.arrtab.filter (fun e => inPlot s p e.tile) = [] → Gives s (.huskLoad m slot src imgRegion imgOff none none []) fun t =>
      Answered t m 0x64 stOk ∧ (plot t p).modelId = some im.modelId)
    ∧ (im.arrtab.filter (fun e => inPlot s p e.tile) = [e] → huskRead s src p (recordAt e.segment) 1048600 = some r →
      (grpPwr s e.tile (e.larray / 16) = 2 → openSegment h r k.key e.segment [e] = none → Gives s (.huskLoad m slot src imgRegion imgOff none none []) fun t =>
        Answered t m 0x64 stRefused ∧ rd t .secHuskfail = satAdd (rd s .secHuskfail) 1)
      ∧ (grpPwr s e.tile (e.larray / 16) ≠ 2 → Gives s (.huskLoad m slot src imgRegion imgOff none none []) fun t =>
        (∃ w, t.sec.huskWaits = s.sec.huskWaits ++ [w] ∧ w.plot = p ∧ w.ents = [e] ∧ w.seq = m.seq) ∧ rd t (.arrValid e.tile (e.larray / 16)) = rd s (.arrValid e.tile (e.larray / 16)))
      ∧ (grpPwr s e.tile (e.larray / 16) = 2 → openSegment h r k.key e.segment [e] = some pt →
          writePermitted s e.tile (e.larray / 16) (loadSlot s e.tile (e.larray / 16) (e.larray % 16)) (e.larray % 16) .husk = true → bit (rd s (.arrGrp e.tile (e.larray / 16))) 22 = false →
          Gives s (.huskLoad m slot src imgRegion imgOff none none []) fun t =>
          Answered t m 0x64 stOk ∧ bit (rd t (.arrValid e.tile (e.larray / 16))) (loadSlot s e.tile (e.larray / 16) (e.larray % 16)) = true)))
  ∧ (∀ (m : Msg) (s : State), Admitted s m { type := 0x65, vf := false } → s.sec.epoch < 32768 → Gives s (.secNewepoch m) fun t => rd t .secEpoch = BitVec.ofNat 32 s.sec.epoch
      ∧ t.sec.epoch = s.sec.epoch + 1 ∧ t.sec.slots = [] ∧ t.sec.cert = none ∧ rdFld t .secStatus 28 27 = 0 ∧ rd t .secLowleft = 0)
  ∧ (∀ (m : Msg) (off : BitVec 16) (s : State), Admitted s m { type := 0x66, vf := false } →
    (∀ bs : List Byte, bs.length ≤ 1000 → off.toNat + bs.length ≤ 0x10000 → Gives s (.secXfer m off bs.length (some bs)) fun t =>
      bufRead t (.staging off.toNat) bs.length = some bs ∧ Answered t m 0x66 stOk)
    ∧ (∀ len, len ≤ 1000 → off.toNat + len ≤ 0x10000 → Gives s (.secXfer m off len none) fun t => t.sec = s.sec
        ∧ ∃ r ∈ (box t m.owner).posted ++ (box t m.owner).held, r.seq = m.seq ∧ some r.payload = bufRead s (.staging off.toNat) len)
    ∧ (∀ len, 1000 < len ∨ 0x10000 < off.toNat + len → Gives s (.secXfer m off len none) fun t => Answered t m 0x66 stRefused ∧ t.sec = s.sec))
  ∧ (∀ (kind : Fin 5) (lasts : Bool) (s : State), Gives s (.securityAlarm kind lasts) fun t => bit (rd t .secAlarm) kind = true ∧ rd t .secAlarmcnt = satAdd (rd s .secAlarmcnt) 1
      ∧ t.sec.slots = [] ∧ t.sec.erasing = true ∧ rd t .secLowleft = 0 ∧ (lasts = true → bit (rd t .secAlarm) 31 = true)
      ∧ ∀ n < 32, bit (rd t (.lpxRgnctl n)) 30 = false)
  ∧ (∀ s : State, s.sec.erasing = true → s.sec.epoch < 32768 → Gives s .alarmRecovery fun t => t.sec.erasing = false ∧ bit (rd t .secAlarm) 31 = false
      ∧ rd t .secEpoch = BitVec.ofNat 32 s.sec.epoch ∧ t.sec.epoch = s.sec.epoch + 1)

/-- R357, R358, R376 to R379: fuses blown on signed requests, debug sessions, and the management port. -/
def Obligations.FusesDebugAndManagementPort : Prop :=
  (∀ (m : Msg) (key : List Byte) (model : BitVec 256) (config : Word) (sig : List Byte) (s : State), Admitted s m { type := 0x68, vf := false } →
    let owner := sha256 (fitBytes 60 key)
    let md := leBytes 32 model.toNat
    (digestWithin s ownerKey owner = true → digestWithin s modelKey md = true → fuse s 25 = 0 → within (fuse s 35) config = true → configValue config = true →
      hssAccepts (fitBytes 60 key ++ md ++ leBytes 4 config.toNat ++ deviceId s) (fitBytes 60 key) sig = true →
      Gives s (.secProvision m key model config sig true) fun t => Answered t m 0x68 stOk ∧ fuse t 35 = fuse s 35 ||| config
        ∧ (∀ i < 8, fuse t (ownerKey + i) = fuse s (ownerKey + i) ||| BitVec.ofNat 32 (leAt owner (4 * i) 4))
        ∧ (∀ i < 8, fuse t (modelKey + i) = fuse s (modelKey + i) ||| BitVec.ofNat 32 (leAt md (4 * i) 4)))
    ∧ (Gives s (.secProvision m key model config sig false) fun t => Answered t m 0x68 stRefused ∧ t.sec = s.sec))
  ∧ (∀ (m : Msg) (block : List Byte) (s : State), Admitted s m { type := 0x69, vf := false } →
    let signed := fun (op v : Nat) => sigAccepted s ownerKey (leBytes 1 op ++ leBytes 4 v ++ deviceId s) block
    (∀ v : BitVec 4, 1 ≤ v.toNat → v.toNat ≤ 4 → within (fuse s 35 &&& 0xF) (v.setWidth 32) = true → signed 1 v.toNat = true →
      Gives s (.fuseClass m v block true) fun t => fuse t 35 = fuse s 35 ||| v.setWidth 32 ∧ Answered t m 0x69 stOk ∧ t.sec.layoutClass = s.sec.layoutClass)
    ∧ (∀ v : Nat, 1 ≤ v → v ≤ 63 → svnFloor s < v → svnsReach s v = true → signed 2 v = true → Gives s (.fuseFloor m v block true) fun t => Answered t m 0x69 stOk
        ∧ fuse t 37 = fuse s 37 ||| BitVec.ofNat 32 (2 ^ min v 32 - 1) ∧ fuse t 38 = fuse s 38 ||| BitVec.ofNat 32 (2 ^ (v - 32) - 1))
    ∧ (signed 3 0 = true → Gives s (.fuseCompactOff m block true) fun t => fuse t 35 = fuse s 35 ||| 0x10 ∧ Answered t m 0x69 stOk)
    ∧ (signed 4 0 = true → Gives s (.fusePermlock m block true) fun t => fuse t 35 = fuse s 35 ||| 0x20 ∧ Answered t m 0x69 stOk)
    ∧ (signed 5 0 = true → fusePermlock s = false → Gives s (.fuseDbgowner m block true) fun t => fuse t 35 = fuse s 35 ||| 0x40 ∧ Answered t m 0x69 stOk)
    ∧ (∀ (w : BitVec 4) (v : Nat), ∀ cmd ∈ [Instr.fuseClass m w block false, .fuseFloor m v block false, .fuseCompactOff m block false, .fusePermlock m block false, .fuseDbgowner m block false],
        Gives s cmd fun t => Answered t m 0x69 stRefused ∧ t.sec = s.sec))
  ∧ (∀ (m : Msg) (s : State), Admitted s m { type := 0x6A, vf := false, feature := some 7 } → debugClass s = true →
    (s.sec.nonce = false → Gives s (.dbgChallenge m) fun t => t.sec.nonce = true ∧ t.sec.nonces = s.sec.nonces + 1
      ∧ ∃ r ∈ (box t m.owner).posted ++ (box t m.owner).held, r.seq = m.seq ∧ r.status = stOk ∧ r.payload = debugNonce t)
    ∧ (s.sec.nonce = true → Gives s (.dbgChallenge m) fun t => Answered t m 0x6A stBusy ∧ t.sec = s.sec))
  ∧ (∀ s : State, exec .dbgNonceExpiry s = .next { s with sec := { s.sec with nonce := false } })
  ∧ (∀ (m : Msg) (token : List Byte) (s : State), Admitted s m { type := 0x6B, vf := false, feature := some 7 } → debugClass s = true →
    (s.sec.nonce = true → leAt token 0 4 = 0x47444C53 → (token.drop 4).take 16 = deviceId s → (token.drop 20).take 32 = debugNonce s → noWeights s = true →
      sigAccepted s (if s.sec.layoutClass = 0 then vendorKey else ownerKey) (token.take 56) (token.drop 56) = true → Gives s (.dbgUnlock m token) fun t =>
      t.sec.dbgScope = some (leAt token 52 4 % 16) ∧ t.sec.nonce = false ∧ Answered t m 0x6B stOk ∧ rd t .secDbg = BitVec.ofNat 32 (2 ^ 31 + leAt token 52 4 % 16))
    ∧ (s.sec.nonce = false ∨ noWeights s = false → Gives s (.dbgUnlock m token) fun t => Answered t m 0x6B stRefused ∧ t.sec = s.sec))
  ∧ (∀ (m : Msg) (c : Fin 24) (s : State), Admitted s m { type := 0x6C, vf := false, feature := some 7 } →
    (coreScope s c = true → nvState s c = nvRun ∨ nvState s c = nvWfi → Gives s (.dbgCoreHalt m c) fun t =>
      nvState t c = nvHalted ∧ rdFld t (.nvcStatus c) 28 24 = 5 ∧ Answered t m 0x6C stOk)
    ∧ (coreScope s c = true → nvState s c = nvHalted → rdFld s (.nvcStatus c) 28 24 = 5 → Gives s (.dbgCoreRelease m c) fun t =>
        nvState t c = nvRun ∧ rdFld t (.nvcStatus c) 28 24 = 5 ∧ (core t c).pc = (core s c).pc ∧ Answered t m 0x6C stOk)
    ∧ (coreScope s c = false → (Gives s (.dbgCoreHalt m c) fun t => Answered t m 0x6C stRefused ∧ nvState t c = nvState s c)
        ∧ Gives s (.dbgCoreRelease m c) fun t => Answered t m 0x6C stRefused ∧ nvState t c = nvState s c))
  ∧ (∀ (k : Fin 2) (s : State), mgmtOn s = true →
    (∀ ident, s.sec.sessions.contains k.val = false → s.sec.slots.any (fun e => e.2.kind == 4 && e.2.ident == ident) = true →
      Gives s (.mgmtRecord k (.handshake ident)) fun t => t.sec.sessions = s.sec.sessions ++ [k.val])
    ∧ (∀ (m : Msg) (type : BitVec 16), s.sec.sessions.contains k.val = true → m.owner.val = mgmtPort → knownTypes.contains type.toNat = true → ringFull s mgmtPort = false →
      Gives s (.mgmtRecord k (.mailbox m type)) fun t => (box t mgmtPort).requests = (box s mgmtPort).requests ++ [⟨type.toNat, m.seq, false, plotByte m⟩])
    ∧ (s.sec.sessions.contains k.val = true → ∀ r ∈ [MgmtRecord.alert, .badAuth, .unsupported, .malformed], Gives s (.mgmtRecord k r) fun t => k.val ∉ t.sec.sessions)
    ∧ (∀ a : Word, a ≠ 0 → a.toNat = mgmtIpv4 s → Gives s (.managementPortFrame (.arp a)) fun t => t.out = .message mgmtPort "ARP_REPLY" a.toNat :: s.out)
    ∧ (∀ (a : Word) (port : Half), a ≠ 0 → a.toNat = mgmtIpv4 s → port.toNat = mgmtTcp s → s.sec.sessions.length < 2 → Gives s (.managementPortFrame (.tcp4 a port)) fun t =>
        t.out = .message mgmtPort "TCP_ACCEPT" port.toNat :: s.out))
  ∧ (∀ (k : Fin 2) (s : State), (s.sec.sessions.contains k.val = true → Gives s (.mgmtSessionTimeout k) fun t => t.sec.sessions = s.sec.sessions.filter (· ≠ k.val))
    ∧ (s.sec.sessions.contains k.val = false → exec (.mgmtSessionTimeout k) s = .next s))

/-- R117, R118, R166, R385 to R392, R395, R396: a plot loaded, committed, started, aborted, harrowed, defined and asked about. -/
def Obligations.PlotLifecycle : Prop :=
  (∀ (m : Msg) (s : State),
    let p := msgPlot m
    Admitted s m { type := 0x70, vf := true, needsPlot := true, stage := 5 } →
    (pltState s p = pltIdle ∨ pltState s p = pltReady → Gives s (.pltLoad m) fun t => pltState t p = pltLoading ∧ Answered t m 0x70 stOk)
    ∧ (pltState s p ≠ pltIdle → pltState s p ≠ pltReady → Gives s (.pltLoad m) fun t => pltState t p = pltState s p ∧ Answered t m 0x70 stRefused))
  ∧ (∀ (m : Msg) (region : Fin 32) (off : Nat) (bs : List Byte) (s : State),
    let p := msgPlot m
    Admitted s m { type := 0x71, vf := true, needsPlot := true, stage := 5 } →
    (pltState s p ≠ pltLoading → Gives s (.pltCommit m region off) fun t => Answered t m 0x71 stRefused ∧ t.plots = s.plots)
    ∧ (pltState s p = pltLoading → imageBytes s m p region off = some bs →
      (loadCode s p bs = 0 → Gives s (.pltCommit m region off) fun t => pltState t p = pltReady ∧ imageOf t p = some (readImage bs) ∧ Answered t m 0x71 stOk
        ∧ rdFld t (.schPstat p) 15 8 = 0 ∧ ∀ c ∈ (readImage bs).tiles, tileRun t c.tile = tCommitted)
      ∧ (loadCode s p bs ≠ 0 → Gives s (.pltCommit m region off) fun t => pltState t p = pltLoading ∧ imageOf t p = imageOf s p ∧ Answered t m 0x71 stRefused
        ∧ rdFld t (.schPstat p) 15 8 = loadCode s p bs % 256)))
  ∧ (∀ (m : Msg) (step : DWord) (im : Image) (s : State),
    let p := msgPlot m
    Admitted s m { type := 0x72, vf := true, needsPlot := true, stage := 6 } → pltState s p = pltReady → bit (rd s (.pltPstat p)) 26 = false → (plot s p).startDue = none →
    bit (rd s (.ckpPstat p)) 26 = false → (plot s p).onlyStep = none → imageOf s p = some im →
    (s.power.changing = none → bit (rd s .lpxStatus) 0 = true →
      (admits s p im = true → Gives s (.pltStart m step) fun t => pltState t p = pltServing ∧ (plot t p).step = step ∧ Answered t m 0x72 stOk)
      ∧ (admits s p im = false → Gives s (.pltStart m step) fun t => pltState t p = pltReady ∧ Answered t m 0x72 stRefused ∧ bit (rd t .pwrAdmit) 31 = true
        ∧ rdFld t .pwrAdmit 30 27 = p))
    ∧ (s.power.changing ≠ none ∨ bit (rd s .lpxStatus) 0 = false → Gives s (.pltStart m step) fun t => pltState t p = pltReady
        ∧ (plot t p).startDue = some (m.owner.val, m.seq.toNat, m.version, step)))
  ∧ (∀ (m : Msg) (s : State),
    let p := msgPlot m
    let idle := pltState s p ≠ pltUndefined ∧ pltState s p ≠ pltAborting ∧ pltState s p ≠ pltScrubbing ∧ (plot s p).abort ≠ .rate
    (Admitted s m { type := 0x73, vf := true, needsPlot := true } →
      (idle → (∀ k, (plot s p).lastAbort = some k → k + 100 ≤ s.tick) → Gives s (.pltAbort m) fun t => pltState t p = pltAborting ∧ (plot t p).abort = .idle
        ∧ (plot t p).owed = (plot s p).owed ++ [whoAsked m 0x73] ∧ (plot t p).lastAbort = some s.tick ∧ bit (rd t (.rmaRctl p)) 31 = false)
      ∧ (∀ k, idle → (plot s p).lastAbort = some k → s.tick < k + 100 → Gives s (.pltAbort m) fun t => (plot t p).abort = .rate ∧ pltState t p = pltState s p)
      ∧ (pltState s p = pltAborting ∨ pltState s p = pltScrubbing → Gives s (.pltAbort m) fun t => pltState t p = pltState s p
        ∧ (plot t p).owed = (plot s p).owed ++ [whoAsked m 0x73])
      ∧ (pltState s p = pltUndefined → Gives s (.pltAbort m) fun t => Answered t m 0x73 stRefused ∧ pltState t p = pltUndefined))
    ∧ (Admitted s m { type := 0x74, vf := false, needsPlot := true } → idle → (∀ k, (plot s p).lastAbort = some k → k + 100 ≤ s.tick) → Gives s (.pltHarrow m) fun t =>
        pltState t p = pltAborting ∧ (plot t p).harrow = true ∧ (plot t p).owed = (plot s p).owed ++ [whoAsked m 0x74]))
  ∧ (∀ (p : Fin 12) (s : State),
    ((plot s p).abort = .idle → (plot s p).harrow = false →
      ((busyBlocks s p).isEmpty = true → Gives s (.abortBlocksIdle p) fun t => pltState t p = (if (imageOf s p).isSome then pltReady else pltIdle)
        ∧ rdFld t (.pltGen p) 15 0 = (rdFld s (.pltGen p) 15 0 + 1) % 0x10000 ∧ rdFld t (.pltPstat p) 7 0 = min 255 (rdFld s (.pltPstat p) 7 0 + 1) ∧ frozen t p = false
        ∧ (plot t p).owed.all (fun e => e.2.2.2 != 0x73) = true)
      ∧ ((busyBlocks s p).isEmpty = false → exec (.abortBlocksIdle p) s = .next s)
      ∧ (Gives s (.abortIdleTimeout p) fun t => (∀ i ∈ busyBlocks s p, bit (rd t (.pltPstat p)) (16 + i) = true) ∧ rdFld t (.pltGen p) 15 0 = (rdFld s (.pltGen p) 15 0 + 1) % 0x10000
          ∧ pltState t p = (if (imageOf s p).isSome then pltReady else pltIdle)))
    ∧ ((plot s p).abort = .idle → (plot s p).harrow = true → (busyBlocks s p).isEmpty = true → Gives s (.abortBlocksIdle p) fun t => pltState t p = pltScrubbing)
    ∧ ((plot s p).abort = .rate → (∀ k, (plot s p).lastAbort = some k → k + 100 ≤ s.tick) → Gives s (.abortRateWaitEnd p) fun t => pltState t p = pltAborting ∧ (plot t p).abort = .idle)
    ∧ (pltState s p = pltScrubbing → s.sec.erasing = false → harrowReady s p = false → exec (.harrowComplete p) s = .next s)
    ∧ (pltState s p = pltScrubbing → s.sec.erasing = false → harrowReady s p = true → Gives s (.harrowComplete p) fun t => pltState t p = pltIdle ∧ imageOf t p = none ∧ (plot t p).modelId = none
        ∧ (plot t p).owed = [] ∧ ∀ n ∈ tilesOf s p, ∀ g < 32, rd t (.arrValid n g) = 0)
    ∧ (bit (rd s (.pltPstat p)) 26 = true → regionOpen s p = true → Gives s (.fillComplete p) fun t => bit (rd t (.pltPstat p)) 26 = false ∧ bit (rd t .lpxFreeze) (16 + p) = false
        ∧ ∀ a, regionBase s p ≤ a → a < regionBase s p + regionSize s p → rdByte t a = 0))
  ∧ (∀ (slot : Nat) (s : State), exec (.quarantineRelease slot) s = .next { s with rma := { s.rma with quarantine := s.rma.quarantine.filter (· ≠ slot) } })
  ∧ (∀ (m : Msg) (d : PlotDef) (s : State),
    let p := msgPlot m
    (Admitted s m { type := 0x75, vf := false, needsPlot := true } →
      (m.owner.val = 0 → s.sec.layoutClass = 4 → pltState s p = pltUndefined → defOk 4 p d = true → unclaimed s d = true → Gives s (.pltDefine m d) fun t =>
        pltState t p = pltIdle ∧ Answered t m 0x75 stOk ∧ rd t (.lpxRgnbase p) = BitVec.ofNat 32 d.base ∧ rd t (.lpxRgnsize p) = BitVec.ofNat 32 d.size
          ∧ ∀ k < 4, rd t (.pltTiles p k) = BitVec.ofNat 32 (d.tiles.toNat / 2 ^ (32 * k)))
      ∧ (m.owner.val ≠ 0 → Gives s (.pltDefine m d) fun t => Answered t m 0x75 stNotPermitted ∧ pltState t p = pltState s p))
    ∧ (Admitted s m { type := 0x76, vf := false, needsPlot := true } → m.owner.val = 0 →
      (s.sec.layoutClass = 4 → pltState s p = pltIdle → (plot s p).used = false → (plot s p).abort = .none → Gives s (.pltUndefine m) fun t =>
        pltState t p = pltUndefined ∧ Answered t m 0x76 stOk ∧ (∀ k < 4, rd t (.pltTiles p k) = 0) ∧ bit (rd t (.lpxRgnctl p)) 31 = false ∧ rd t (.lpxRgnsize p) = 0)
      ∧ ((plot s p).used = true → Gives s (.pltUndefine m) fun t => Answered t m 0x76 stRefused ∧ pltState t p = pltState s p))
    ∧ (Admitted s m { type := 0x77, vf := true, needsPlot := true } → Gives s (.pltQuery m) fun t => Answered t m 0x77 stOk ∧ rd t (.pltPstat p) = rd s (.pltPstat p) ∧ t.plots = s.plots))

/-- R398 to R412: stages begun, completed and stopped, gates, records loaded, and islands released. -/
def Obligations.BringUpStagesAndReleases : Prop :=
  (∀ s : State, Gives s .powerOnReset fun t => (∀ r, rd t r = regReset r) ∧ t.mem = [] ∧ t.pending = s.pending ∧ t.sec.fuses = s.sec.fuses ∧ t.sec.epoch = s.sec.epoch
      ∧ t.seed.slotA = s.seed.slotA ∧ t.seed.slotB = s.seed.slotB ∧ t.sec.layoutClass = fld (fuse s 35) 3 0 ∧ t.sec.slots = [] ∧ t.tick = 0)
  ∧ (∀ (n : BitVec 3) (s : State),
    let bad := n.toNat < 2 ∨ 6 < n.toNat ∨ n.toNat ≠ stageNo s + 1
    (¬bad → stageState s = stComplete → Gives s (.rstGate none n) fun t => stageNo t = n.toNat ∧ stageState t = (if n.toNat ≤ 4 then stRunning else stComplete))
    ∧ (¬bad → stageState s = stRunning → Gives s (.rstGate none n) fun t => stageNo t = stageNo s ∧ rdFld t .rstGate 7 4 = 8 + n.toNat)
    ∧ (bad → Gives s (.rstGate none n) fun t => bit (rd t .rstGate) 8 = true ∧ rd t .rstStage = rd s .rstStage)
    ∧ (∀ m, Admitted s m { type := 0x80, vf := false } → (¬bad → Gives s (.rstGate (some m) n) fun t => Answered t m 0x80 stOk)
      ∧ (bad → Gives s (.rstGate (some m) n) fun t => Answered t m 0x80 stRefused)))
  ∧ (∀ (n : Fin 7) (median : Byte) (s : State),
    (stageDue s n = true → Gives s (.stageBegin n median) fun t => stageNo t = n.val ∧ stageState t = (if n.val ≤ 4 then stRunning else stComplete)
      ∧ (n.val = 0 → bit (rd t .rstCmd) 30 = false ∧ (s.power.sampleDue = true → rdFld t .rstBoot 23 20 = median.toNat / 16)))
    ∧ (stageDue s n = false → exec (.stageBegin n median) s = .next s))
  ∧ (∀ (layout : List (Fin 12 × PlotDef)) (s : State), stageState s = stRunning →
    (stageNo s = 0 → inReset s 1 = false → fusesAccepted s = true → Gives s (.stageComplete 0 layout) fun t => stageNo t = 0 ∧ stageState t = stComplete ∧ bit (rd t .rstStage) 0 = true)
    ∧ (∀ k fb, stageNo s = 1 → inReset s 2 = false → inReset s 5 = false → layoutOk s.sec.layoutClass layout = true → chooseSlot s = some (k, fb) → s.sec.epoch < 32768 →
        Gives s (.stageComplete 1 layout) fun t => stageNo t = 1 ∧ stageState t = stComplete ∧ bit (rd t .rstStage) 1 = true ∧ t.fw.up = true
          ∧ bit (rd t .rstBoot) 30 = (k == 1) ∧ bit (rd t .rstBoot) 29 = fb ∧ rd t .rstSeedseq = BitVec.ofNat 32 (seedSeq (slotHeader (seedSlot s k)))
          ∧ t.sec.epoch = s.sec.epoch + 1)
    ∧ (∀ k fb, stageNo s = 1 → inReset s 2 = false → inReset s 5 = false → layoutOk s.sec.layoutClass layout = false → chooseSlot s = some (k, fb) →
        Gives s (.stageComplete 1 layout) fun t => stageNo t = 1 ∧ stageState t = stStopped ∧ rdFld t .rstStage 23 16 = 3 ∧ t.fw.up = s.fw.up)
    ∧ (stageNo s = 2 → inReset s 3 = false → s.fw.up = true → rdFld s .lpxStatus 31 16 = 0xFFFF → Gives s (.stageComplete 2 layout) fun t => stageState t = stComplete ∧ bit (rd t .rstStage) 2 = true)
    ∧ (stageNo s = 3 → s.fw.up = true → allTiles.all (tileCalibrated s) = true → Gives s (.stageComplete 3 layout) fun t => stageState t = stComplete ∧ bit (rd t .rstStage) 3 = true)
    ∧ (stageNo s = 4 → inReset s 4 = false → s.net.checking = [] → bit (rd s .clkRefstat) 1 = true →
        (∀ p < 16, inReset s (8 + p) = true → rdFld s (.netPcfg p) 11 8 = 15) → Gives s (.stageComplete 4 layout) fun t => stageState t = stComplete ∧ bit (rd t .rstStage) 4 = true)
    ∧ (stageNo s = 0 → fusesAccepted s = false → (Gives s (.stageStop 0 1) fun t => stageNo t = 0 ∧ stageState t = stStopped ∧ rdFld t .rstStage 23 16 = 1)
        ∧ exec (.stageComplete 0 layout) s = .next s)
    ∧ (stageNo s = 1 → chooseSlot s = none → Gives s (.stageStop 1 2) fun t => stageState t = stStopped ∧ rdFld t .rstStage 23 16 = 2 ∧ bit (rd t .rstBoot) 29 = true
        ∧ t.host.vfEnable = false ∧ t.host.rom = none))
  ∧ (∀ s : State, stageNo s = 1 → stageState s = stStopped → Gives s .xspiRelease fun t => bit (rd t .rstBoot) 31 = true)
  ∧ (∀ (i : Fin 192) (s : State),
    (s.power.loading.contains i.val = true → (Gives s (.trimLoadCommit i true) fun t => i.val ∈ t.power.trimmed ∧ i.val ∉ t.power.loading)
      ∧ (mapGet 0 s.power.trimTries i < 3 → Gives s (.trimLoadCommit i false) fun t => mapGet 0 t.power.trimTries i = mapGet 0 s.power.trimTries i + 1 ∧ t.power.loading = s.power.loading)
      ∧ (64 ≤ i.val → 3 ≤ mapGet 0 s.power.trimTries i → Gives s (.trimLoadCommit i false) fun t => i.val ∉ t.power.loading
          ∧ bit (rd t (.rstTilefail ((i.val - 64) / 32))) ((i.val - 64) % 32) = true))
    ∧ (isIsland i = true → inReset s i = true → s.power.trimmed.contains i.val = true → railsGood s i = true → s.power.thermtrip = false → ∀ train,
        Gives s (.islandRelease i train) fun t => inReset t i = false ∧ i.val ∉ t.power.trimmed ∧ bit (rd t (.clkRdy (i.val / 32))) (i.val % 32) = true)
    ∧ (inReset s i = true → s.power.trimmed.contains i.val = true →
      (mapGet 0 s.power.pllTries i < 3 → Gives s (.pllLockTimeout i) fun t => mapGet 0 t.power.pllTries i = mapGet 0 s.power.pllTries i + 1 ∧ inReset t i = true)
      ∧ (64 ≤ i.val → 3 ≤ mapGet 0 s.power.pllTries i → Gives s (.pllLockTimeout i) fun t => i.val ∉ t.power.trimmed
          ∧ bit (rd t (.rstTilefail ((i.val - 64) / 32))) ((i.val - 64) % 32) = true)))

/-- R413 to R421: resets of the management island, the headland, the module and the PCIe island, and the seedbed rewritten. -/
def Obligations.ResetsAndSeedbed : Prop :=
  (∀ (by_ : ResetBy) (s : State), (by_ = .host ∨ by_ = .warden) → s.power.idleWait.contains 3 = false →
    (inReset s 2 = false → s.power.idleWait.contains 1 = false → managementBusy s = false → Gives s (.managementIslandReset by_) fun t => inReset t 2 = true ∧ t.fw.up = false ∧ bit (rd t .rstCause) (causeOf by_) = true
      ∧ (by_ = .host → bit (rd t .rstCmd) 30 = true))
    ∧ (inReset s 2 = false → managementBusy s = true → Gives s (.managementIslandReset by_) fun t => 1 ∈ t.power.idleWait ∧ t.fw.up = s.fw.up ∧ inReset t 2 = false)
    ∧ ((∀ p < 12, pltState s p = pltUndefined) →
      (moduleBusy s = false → Gives s (.moduleReset by_) fun t => t.mem = [] ∧ rd t .rstStage = regReset .rstStage ∧ (∀ k, rd t (.rstInrst k) = regReset (.rstInrst k))
        ∧ bit (rd t .rstCause) (causeOf by_) = true ∧ t.ckp = [] ∧ t.fw.up = false)
      ∧ (moduleBusy s = true → s.power.idleWait = [] → Gives s (.moduleReset by_) fun t => t.power.idleWait = [3] ∧ t.mem = s.mem)))
  ∧ (∀ s : State, (s.power.idleWait.contains 3 = true → Gives s .resetIdleTimeout fun t => t.mem = [] ∧ rd t .rstStage = regReset .rstStage)
    ∧ (s.power.idleWait.contains 3 = false → s.power.idleWait.contains 1 = true → Gives s .resetIdleTimeout fun t => inReset t 2 = true ∧ 1 ∉ t.power.idleWait))
  ∧ (∀ s : State,
    let recent := (s.fw.headlandResets.filter (fun k => decide (s.tick ≤ k + 60000000))).length
    (∀ k, recent < 2 → mapFind s.fw.running 1 = some k → Gives s (.headlandReset .warden) fun t => nvState t 0 = nvRun ∧ nvState t 1 = nvRun ∧ (core t 0).pc = BitVec.ofNat 32 k.entry
      ∧ bit (rd t .rstCause) 5 = true)
    ∧ (recent = 2 → Gives s (.headlandReset .warden) fun t => nvState t 0 = nvHalted ∧ nvState t 1 = nvHalted ∧ bit (rd t .rstCause) 10 = true)
    ∧ (3 ≤ recent → exec (.headlandReset .warden) s = .next s))
  ∧ (∀ s : State, (s.host.perst = false → inReset s 5 = false → Gives s (.perstN true) fun t => inReset t 5 = true ∧ t.host.perst = true ∧ bit (rd t .rstCause) 2 = true)
    ∧ (Gives s (.perstN false) fun t => t.host.perst = false ∧ t.host.wakeLow = false ∧ t.regs = s.regs)
    ∧ (inReset s 5 = false → Gives s .hotReset fun t => inReset t 5 = true ∧ bit (rd t .rstCause) 3 = true)
    ∧ (inReset s 5 = true → exec .hotReset s = .next s))
  ∧ (∀ (m : Msg) (off : Nat) (src : SecBuf) (bs header : List Byte) (s : State),
    let k := 1 - runningSlot s
    (Admitted s m { type := 0x82, vf := false } →
      (512 ≤ off → off + bs.length ≤ slotSize → bufRead s src bs.length = some bs → Gives s (.seedWrite m off src bs.length) fun t =>
        slotBytes (seedSlot t k) off bs.length = bs ∧ t.seed.rewriting = true ∧ seedSlot t (1 - k) = seedSlot s (1 - k) ∧ Answered t m 0x82 stOk
          ∧ (s.seed.rewriting = false → slotHeader (seedSlot t k) = List.replicate 512 0xFF))
      ∧ (off < 512 → Gives s (.seedWrite m off src bs.length) fun t => Answered t m 0x82 stRefused ∧ t.seed = s.seed))
    ∧ (Admitted s m { type := 0x83, vf := false } →
      (header.length = 512 → seedPasses s (seedSlot s k) header = true → Gives s (.seedCommit m header) fun t => slotHeader (seedSlot t k) = header ∧ t.seed.rewriting = false
        ∧ Answered t m 0x83 stOk)
      ∧ (seedPasses s (seedSlot s k) header = false → Gives s (.seedCommit m header) fun t => Answered t m 0x83 stRefused ∧ t.seed = s.seed))
    ∧ (Admitted s m { type := 0x84, vf := false } → Gives s (.seedQuery m) fun t => Answered t m 0x84 stOk ∧ t.seed = s.seed))

/-- R423 to R434: checkpoints armed, cut, copied before writes and put back. -/
def Obligations.CheckpointsAndRestores : Prop :=
  (∀ (m : Msg) (full : Bool) (ckptId hstep : DWord) (slot binding : Fin 256) (lba : Nat) (region : Fin 32) (off cap : Nat) (s : State),
    let p := msgPlot m
    Admitted s m { type := 0x90, vf := true, needsPlot := true } →
    (armCode s p full slot = 0 → armNamed s ckptId binding region off cap = true → Gives s (.ckpArm m full ckptId hstep slot binding lba region off cap) fun t =>
      ckpState t p = ckArmed ∧ Answered t m 0x90 stOk ∧ (ckpOf t p).ckptId = ckptId ∧ (ckpOf t p).full = full ∧ (ckpOf t p).slot = slot ∧ (ckpOf t p).dest = (binding.val, lba)
        ∧ (ckpOf t p).cap = cap ∧ (ckpOf t p).stageAt = regionBase s region + off)
    ∧ (armCode s p full slot ≠ 0 → Gives s (.ckpArm m full ckptId hstep slot binding lba region off cap) fun t => Answered t m 0x90 stRefused ∧ ckpState t p = ckpState s p ∧ t.ckp = s.ckp))
  ∧ (∀ (m : Msg) (s : State),
    let p := msgPlot m
    (Admitted s m { type := 0x91, vf := true, needsPlot := true } → (ckpState s p = ckArmed → Gives s (.ckpDisarm m) fun t => ckpState t p = ckIdle ∧ Answered t m 0x91 stOk)
      ∧ (ckpState s p ≠ ckArmed → Gives s (.ckpDisarm m) fun t => ckpState t p = ckpState s p ∧ Answered t m 0x91 stRefused))
    ∧ (Admitted s m { type := 0x93, vf := true, needsPlot := true } → Gives s (.ckpQuery m) fun t => Answered t m 0x93 stOk ∧ t.ckp = s.ckp))
  ∧ (∀ (p : Fin 12) (s : State),
    (ckpState s p = ckArmed → pltState s p = pltHeld → frozen s p = false → (ckpOf s p).heldAtArm = false → settled s p = true →
      (cutCode s p (captured s p).length = 0 → Gives s (.checkpointCut p) fun t => ckpState t p = ckCutting ∧ (ckpOf t p).pset = captured s p ∧ (ckpOf t p).pages = captured s p
        ∧ rd t (.ckpPend p) = BitVec.ofNat 32 (captured s p).length ∧ (ckpOf t p).step = (plot s p).step ∧ (∀ g ∈ t.dirtyD, plotPage s p g = false) ∧ t.mem = s.mem)
      ∧ (cutCode s p (captured s p).length ≠ 0 → Gives s (.checkpointCut p) fun t => ckpState t p = ckFailed ∧ (∀ g ∈ captured s p, g ∈ t.dirtyD)))
    ∧ (pltState s p ≠ pltHeld → exec (.checkpointCut p) s = .next s)
    ∧ (ckpState s p = ckCutting → Gives s (.snapshotComplete p) fun t => ckpState t p = ckWriting ∧ (ckpOf t p).snapped = true
        ∧ (∀ g ∈ (ckpOf s p).pages, scratchBase ≤ g * 0x10000 → mapFind (ckpOf t p).staged g = some (rdBytes s (g * 0x10000) 0x10000))
        ∧ ∀ g, g ∈ (ckpOf t p).pages ↔ g ∈ (ckpOf s p).pages ∧ g * 0x10000 < scratchBase)
    ∧ (∀ page waitNs, ckpState s p = ckWriting → cowHeld s p page = true → stagingRoom s p = true →
        s.ram.held.any (fun e => e.1 == p.val && (pagesOf e.2.1 e.2.2.length).contains page) = true → Gives s (.copyBeforeWrite p page waitNs) fun t =>
        page ∉ (ckpOf t p).pages ∧ mapFind (ckpOf t p).staged page = some (rdBytes s (page * 0x10000) 0x10000) ∧ rd t (.ckpCow p) = satAdd (rd s (.ckpCow p)) 1
          ∧ (rd s (.ckpCowmax p)).toNat ≤ (rd t (.ckpCowmax p)).toNat))
  ∧ (∀ (m : Msg) (step : DWord) (slot : Fin 256) (p : Fin 12) (c : List Sheaf) (s : State), Admitted s m { type := 0x92, vf := true } →
    (m.owner.val = 0 ∨ m.owner.val = p.val + 1 →
      (restoreCode s slot step [(p, c)] = 0 → Gives s (.ckpRestore m step slot [(p, c)]) fun t => ckpState t p = ckRestoring ∧ (ckpOf t p).chain = c ∧ (ckpOf t p).target = step ∧ t.mem = s.mem)
      ∧ (restoreCode s slot step [(p, c)] ≠ 0 → Gives s (.ckpRestore m step slot [(p, c)]) fun t => Answered t m 0x92 stRefused ∧ t.ckp = s.ckp ∧ ckpState t p = ckpState s p ∧ t.mem = s.mem))
    ∧ (1 ≤ m.owner.val → m.owner.val ≤ 12 → m.owner.val ≠ p.val + 1 → Gives s (.ckpRestore m step slot [(p, c)]) fun t => Answered t m 0x92 stNotPermitted ∧ t.ckp = s.ckp))
  ∧ (∀ (p : Fin 12) (x : Sheaf) (r bs : List Byte) (a : Nat) (key : KeySlot) (s : State), ckpState s p = ckRestoring → (ckpOf s p).chain = [x] → x.records = [r] → sheafPages x.header = 1 →
    mapFind s.sec.slots (ckpOf s p).slot = some key → recordAddr s p r = some a →
    sheafOpen key.key x.header (firstCtr x.header + 1) ((x.header.drop 32).take 8 ++ r.take 16) ((r.drop 16).take 0x10000) (r.drop 0x10010) = some bs →
    (rdFld s (.pltGen p) 15 0 = (ckpOf s p).gen →
      (Gives s (.restoreComplete p none) fun t => ckpState t p = ckIdle ∧ bit (rd t (.ckpPstat p)) 26 = false ∧ rdBytes t a bs.length = bs ∧ (ckpOf t p).complete = true
        ∧ (ckpOf t p).base = BitVec.ofNat 64 (leAt x.header 32 8) ∧ (plot t p).onlyStep = some ((ckpOf s p).target + 1) ∧ a / 0x10000 ∈ t.dirtyC)
      ∧ (Gives s (.restoreComplete p (some 0)) fun t => ckpState t p = ckFailed ∧ rdFld t (.ckpPstat p) 23 16 = 1 ∧ bit (rd t (.ckpPstat p)) 26 = true ∧ t.mem = s.mem))
    ∧ (rdFld s (.pltGen p) 15 0 ≠ (ckpOf s p).gen → Gives s (.restoreComplete p none) fun t => ckpState t p = ckFailed ∧ bit (rd t (.ckpPstat p)) 26 = true ∧ t.mem = s.mem
        ∧ rdFld t (.pltPstat p) 15 8 = min 255 (rdFld s (.pltPstat p) 15 8 + 1)))

/-- R437, R438, R440, R442, R444 to R446: events entering the ring, the readers' windows, snapshots, subscriptions and exports. -/
def Obligations.EventsAndTelemetry : Prop :=
  (∀ (i : Nat) (rest : List Nat) (ev : Event) (more : List Event) (s : State), s.evr.order = i :: rest → (eventQueue s i).events = ev :: more →
    Gives s .eventRecordWrite fun t => t.evr.next = s.evr.next + 1 ∧ mapFind t.evr.ring (s.evr.next % 4096) = some (s.evr.next, ev)
      ∧ (∀ k, k ≠ s.evr.next % 4096 → mapFind t.evr.ring k = mapFind s.evr.ring k)
      ∧ (∀ e < 14, readerSees e ev.plot = true → rdFld s (.evrIrq e) 1 0 ≤ ev.sev → bit (rd t (.evrIrq e)) 31 = true)
      ∧ (∀ e < 14, ev.sev < rdFld s (.evrIrq e) 1 0 → rd t (.evrIrq e) = rd s (.evrIrq e))
      ∧ ((eventQueue s i).dropped = 0 → t.evr.order = rest ∧ (eventQueue t i).events = more)
      ∧ ((eventQueue s i).dropped ≠ 0 → t.evr.order = rest ++ [i] ∧ (eventQueue t i).dropped = 0 ∧ ∃ d, (eventQueue t i).events = more ++ [d] ∧ d.dropped = true
        ∧ d.value = BitVec.ofNat 32 (eventQueue s i).dropped))
  ∧ (∀ s : State, s.evr.order = [] → exec .eventRecordWrite s = .next s)
  ∧ (∀ (reader : Fin 14) (lo : Word) (s : State),
    (stoppedInS1 s = true → Gives s (.evrHeadLoRead reader) fun t => t.out = .completion 0 (leBytes 4 0) :: s.out)
    ∧ (Gives s (.evrCursorWrite reader lo) fun t => mapGet 0 t.evr.cursors reader = rdFld s (.evrCurHi reader) 15 0 * 2 ^ 32 + lo.toNat ∧ rd t (.evrCurLo reader) = lo
      ∧ t.evr.ring = s.evr.ring)
    ∧ (stoppedInS1 s = false → Gives s (.evrHeadLoRead reader) fun t => t.out = .completion 0 (leBytes 4 (s.evr.next % 2 ^ 32)) :: s.out
      ∧ rd t (.evrHeadHi reader) = BitVec.ofNat 32 (s.evr.next / 2 ^ 32 % 0x10000) ∧ t.evr = s.evr))
  ∧ (∀ (groups : Byte) (s : State), Gives s (.telSnap groups) fun t => t.tel.number = s.tel.number + 1 ∧ t.tel.subs = s.tel.subs
      ∧ t.tel.snapshot = (telCounters groups.toNat).map (fun e => (e.1, telValue s e.2)))
  ∧ (∀ (m : Msg) (period : Nat) (groups : Byte) (s : State), Admitted s m { type := 0xA0, vf := true, feature := some 6 } → 1 ≤ period → period ≤ 60000 →
    (m.owner.val = 0 → s.tel.subs.length < 4 → Gives s (.telSubscribe m period groups none 0 0) fun t => Answered t m 0xA0 stOk
      ∧ ∃ x, t.tel.subs = s.tel.subs ++ [x] ∧ x.owner = 0 ∧ x.period = period ∧ x.groups = groups.toNat ∧ x.ring = none)
    ∧ (m.owner.val = 0 → 4 ≤ s.tel.subs.length → Gives s (.telSubscribe m period groups none 0 0) fun t => Answered t m 0xA0 stNoSpace ∧ t.tel = s.tel)
    ∧ (1 ≤ m.owner.val → m.owner.val ≤ 12 → groups.toNat &&& vfGroups ≠ groups.toNat → Gives s (.telSubscribe m period groups none 0 0) fun t =>
        Answered t m 0xA0 stNotPermitted ∧ t.tel = s.tel))
  ∧ (∀ (k : Fin 4) (done : Bool) (x : Subscription) (s : State), s.tel.subs[k.val]? = some x →
    (x.busy = true → Gives s (.telExport k done) fun t => t.tel.subs[k.val]? = some { x with skipped := x.skipped + 1, busy := !done } ∧ t.tel.number = s.tel.number)
    ∧ (x.busy = false → Gives s (.telExport k done) fun t => t.tel.number = s.tel.number + 1
        ∧ t.tel.subs[k.val]? = some { x with skipped := 0, busy := !done, nextSlot := if x.nextSlot + 1 < x.slots then x.nextSlot + 1 else 0 }))

/-- R10, R57, R87, R149, R205, R286, R436: 64-bit values read low word first, counters set, and writes of registers under their access codes. -/
def Obligations.RegisterReadsAndWrites : Prop :=
  (∀ (t : Fin 128) (p : Fin 12) (port : Fin 16) (i : Fin 11) (s : State),
    (stoppedInS1 s = true → ∀ cmd ∈ [Instr.arrConvLoRead t, .tilSeedLoRead t, .schPstepLoRead p, .ckpSteploRead p, .netCntLowRead port i],
      Gives s cmd fun u => u.out = .completion 0 (leBytes 4 0) :: s.out)
    ∧ (stoppedInS1 s = false → Gives s (.arrConvLoRead t) fun u => u.out = .completion 0 (leBytes 4 (lo32 (tile s t).conv).toNat) :: s.out ∧ rd u (.arrConvHi t) = hi32 (tile s t).conv)
    ∧ (stoppedInS1 s = false → Gives s (.tilSeedLoRead t) fun u => u.out = .completion 0 (leBytes 4 (lo32 (tile s t).seed).toNat) :: s.out ∧ rd u (.tilSeedHi t) = hi32 (tile s t).seed)
    ∧ (stoppedInS1 s = false → Gives s (.schPstepLoRead p) fun u => u.out = .completion 0 (leBytes 4 (lo32 (plot s p).step).toNat) :: s.out ∧ rd u (.schPstepHi p) = hi32 (plot s p).step)
    ∧ (stoppedInS1 s = false → Gives s (.ckpSteploRead p) fun u => u.out = .completion 0 (leBytes 4 (lo32 (ckpOf s p).step).toNat) :: s.out ∧ rd u (.ckpStephi p) = hi32 (ckpOf s p).step)
    ∧ (stoppedInS1 s = false → Gives s (.netCntLowRead port i) fun u => u.out = .completion 0 (leBytes 4 (lo32 (mapGet 0 s.net.counts (11 * port.val + i.val))).toNat) :: s.out
        ∧ rd u (.netCntHi port i) = hi32 (mapGet 0 s.net.counts (11 * port.val + i.val)) ∧ u.net = s.net)
    ∧ (∀ (m : Master) (v : Word), (mayWriteNet m = true → Gives s (.netCntLowWrite m port i v) fun u => mapGet 0 u.net.counts (11 * port.val + i.val) = v.setWidth 64)
        ∧ (mayWriteNet m = false → exec (.netCntLowWrite m port i v) s = .next s)))
  ∧ (∀ (off : Nat) (n : Fin 128) (r : Reg) (v : Word) (s : State), (fnState s 0).dstate = 0 → (fnState s 0).memEnable = true → off < 0x4000000 → off % 4 = 0 → pfPlace s 0 off = .reg r →
    (r ∈ [Reg.arrErr n, .schErr n, .tilSherr n, .tilSperr n, .evrCurHi 0, .evrIrq 0] → Gives s (.registerWrite .pf (.bar off) v) fun t =>
      rd t r = ((rd s r &&& ~~~(regAccess r).rw &&& ~~~((regAccess r).w1c &&& v)) ||| (v &&& (regAccess r).rw)) 
        ∧ (∀ q, q ≠ r → (∀ i b, infoOf r = some (i, b) → q ≠ i) → rd t q = rd s q)
        ∧ ∀ i b, infoOf r = some (i, b) → rd t i = (if rd t r = 0 then setBit (rd s i) b false else rd s i))
    ∧ (r = .pltCfg → (60 ≤ fld v 10 0 → fld v 10 0 ≤ 1100 → Gives s (.registerWrite .pf (.bar off) v) fun t => rdFld t .pltCfg 10 0 = fld v 10 0)
        ∧ (fld v 10 0 < 60 → exec (.registerWrite .pf (.bar off) v) s = .next s)))
  ∧ (∀ (off : Nat) (v : Word) (s : State),
    ((fnState s 0).dstate = 0 → (fnState s 0).memEnable = true → off < 0x4000000 → off % 4 ≠ 0 → Gives s (.registerWrite .pf (.bar off) v) fun t => rd t .hifUrcnt = satAdd (rd s .hifUrcnt) 1)
    ∧ ((fnState s 0).dstate = 0 → (fnState s 0).memEnable = false → Gives s (.registerWrite .pf (.bar off) v) fun t => rd t .hifUrcnt = satAdd (rd s .hifUrcnt) 1)
    ∧ (∀ c : Fin 24, reach s c off < 2 → Gives s (.registerWrite (.core c) (.bar off) v) fun t => ∀ r, r ≠ Reg.evrDropcnt → rd t r = rd s r)
    ∧ (∀ c : Fin 24, reach s c off < 2 → (off % 4 ≠ 0 ∨ regionObject s (.core c) off = none) → exec (.registerWrite (.core c) (.bar off) v) s = .next s)
    ∧ (∀ (c : Fin 24) (x : Nat), reach s c off < 2 → off % 4 = 0 → regionObject s (.core c) off = some x → (eventQueue s islSecurity).events.length < 4 →
        Gives s (.registerWrite (.core c) (.bar off) v) fun t => ∃ e, (eventQueue t islSecurity).events = (eventQueue s islSecurity).events ++ [e]
          ∧ e.code = 0x0303 ∧ e.sev = 3 ∧ e.object = x)
    ∧ (∀ on : Bool, configHeld s = true → Gives s (.registerWrite .pf (.config 0 (.memory on)) v) fun t => t.out = .message 0 "RETRY_STATUS" 0 :: s.out ∧ t.host = s.host)
    ∧ (∀ on : Bool, configHeld s = false → Gives s (.registerWrite .pf (.config 0 (.memory on)) v) fun t => (fnState t 0).memEnable = on))
end

