-- ==== Sys2Proof/Laws/Bits.lean ====
section
/-! SUPPORT. What setting a field of a word does to every bit and field of it. -/
set_option Elab.async false
namespace Sys2Proof.Machine

theorem testBit_field_add (q f r lo k j : Nat) (hf : f < 2 ^ k) (hr : r < 2 ^ lo) :
    (q * 2 ^ (lo + k) + f * 2 ^ lo + r).testBit j = if j < lo then r.testBit j else if j < lo + k then f.testBit (j - lo) else q.testBit (j - lo - k) := by
  have e : q * 2 ^ (lo + k) + f * 2 ^ lo + r = 2 ^ lo * (2 ^ k * q + f) + r := by rw [Nat.pow_add]; ring
  rw [e, Nat.testBit_two_pow_mul_add _ hr]
  split
  · rfl
  · rw [Nat.testBit_two_pow_mul_add _ hf]
    split <;> split <;> first | rfl | omega

/-- A word as the field and what lies above and below it. -/
theorem toNat_parts (w : Word) (hi lo : Nat) (h : lo ≤ hi) :
    w.toNat = w.toNat / 2 ^ (hi + 1) * 2 ^ (lo + (hi + 1 - lo)) + fld w hi lo * 2 ^ lo + w.toNat % 2 ^ lo := by
  have e : lo + (hi + 1 - lo) = hi + 1 := by omega
  have h1 := Nat.div_add_mod (w.toNat / 2 ^ lo) (2 ^ (hi + 1 - lo))
  have h2 := Nat.div_add_mod w.toNat (2 ^ lo)
  have h3 : w.toNat / 2 ^ lo / 2 ^ (hi + 1 - lo) = w.toNat / 2 ^ (hi + 1) := by rw [Nat.div_div_eq_div_mul, ← Nat.pow_add, e]
  rw [h3] at h1
  unfold fld
  calc w.toNat = 2 ^ lo * (w.toNat / 2 ^ lo) + w.toNat % 2 ^ lo := h2.symm
    _ = 2 ^ lo * (2 ^ (hi + 1 - lo) * (w.toNat / 2 ^ (hi + 1)) + w.toNat / 2 ^ lo % 2 ^ (hi + 1 - lo)) + w.toNat % 2 ^ lo := by rw [h1]
    _ = _ := by rw [Nat.pow_add]; ring

theorem setFld_toNat (w : Word) (hi lo v : Nat) (hh : hi < 32) (h : lo ≤ hi) :
    (setFld w hi lo v).toNat = w.toNat / 2 ^ (hi + 1) * 2 ^ (lo + (hi + 1 - lo)) + v % 2 ^ (hi + 1 - lo) * 2 ^ lo + w.toNat % 2 ^ lo := by
  have e : lo + (hi + 1 - lo) = hi + 1 := by omega
  have hp := toNat_parts w hi lo h
  have hv : v % 2 ^ (hi + 1 - lo) < 2 ^ (hi + 1 - lo) := Nat.mod_lt _ (by positivity)
  have hr : w.toNat % 2 ^ lo < 2 ^ lo := Nat.mod_lt _ (by positivity)
  have hlow : v % 2 ^ (hi + 1 - lo) * 2 ^ lo + w.toNat % 2 ^ lo < 2 ^ (hi + 1) := by
    calc v % 2 ^ (hi + 1 - lo) * 2 ^ lo + w.toNat % 2 ^ lo < (v % 2 ^ (hi + 1 - lo) + 1) * 2 ^ lo := by rw [Nat.add_mul]; omega
      _ ≤ 2 ^ (hi + 1 - lo) * 2 ^ lo := Nat.mul_le_mul_right _ hv
      _ = 2 ^ (hi + 1) := by rw [← Nat.pow_add]; congr 1; omega
  have hq : w.toNat / 2 ^ (hi + 1) < 2 ^ (31 - hi) := by
    rw [Nat.div_lt_iff_lt_mul (by positivity), ← Nat.pow_add]
    have : 31 - hi + (hi + 1) = 32 := by omega
    rw [this]; exact w.isLt
  have hb : w.toNat / 2 ^ (hi + 1) * 2 ^ (hi + 1) + 2 ^ (hi + 1) ≤ 2 ^ 32 := by
    calc w.toNat / 2 ^ (hi + 1) * 2 ^ (hi + 1) + 2 ^ (hi + 1) = (w.toNat / 2 ^ (hi + 1) + 1) * 2 ^ (hi + 1) := by ring
      _ ≤ 2 ^ (31 - hi) * 2 ^ (hi + 1) := Nat.mul_le_mul_right _ hq
      _ = 2 ^ 32 := by rw [← Nat.pow_add]; congr 1; omega
  unfold setFld
  rw [BitVec.toNat_ofNat]
  have hs : w.toNat - fld w hi lo * 2 ^ lo = w.toNat / 2 ^ (hi + 1) * 2 ^ (lo + (hi + 1 - lo)) + w.toNat % 2 ^ lo := by omega
  rw [hs, e]
  rw [Nat.mod_eq_of_lt (by omega)]
  omega

/-- Every bit of a word with a field set. -/
theorem bit_setFld (w : Word) (hi lo v j : Nat) (hh : hi < 32) (h : lo ≤ hi) :
    bit (setFld w hi lo v) j = if lo ≤ j ∧ j ≤ hi then v.testBit (j - lo) else bit w j := by
  have hr : w.toNat % 2 ^ lo < 2 ^ lo := Nat.mod_lt _ (by positivity)
  unfold bit
  rw [setFld_toNat w hi lo v hh h, testBit_field_add _ _ _ _ _ _ (Nat.mod_lt _ (by positivity)) hr]
  by_cases h1 : j < lo
  · rw [if_pos h1, if_neg (by omega), Nat.testBit_mod_two_pow]; simp [h1]
  · by_cases h2 : j ≤ hi
    · rw [if_neg h1, if_pos (by omega), if_pos (by omega), Nat.testBit_mod_two_pow]
      have : j - lo < hi + 1 - lo := by omega
      simp [this]
    · rw [if_neg h1, if_neg (by omega), if_neg (by omega), Nat.testBit_div_two_pow]
      congr 1; omega

theorem bit_setBit (w : Word) (i j : Nat) (b : Bool) (h : i < 32) : bit (setBit w i b) j = if i = j then b else bit w j := by
  unfold setBit
  rw [bit_setFld w i i _ j h (le_refl _)]
  by_cases e : i = j
  · subst e; cases b <;> simp
  · rw [if_neg (by omega), if_neg e]

theorem fld_testBit (w : Word) (hi lo j : Nat) : (fld w hi lo).testBit j = (decide (j < hi + 1 - lo) && bit w (j + lo)) := by
  unfold fld bit
  rw [Nat.testBit_mod_two_pow, Nat.testBit_div_two_pow]

/-- A field just set. -/
theorem fld_setFld_self (w : Word) (hi lo v : Nat) (hh : hi < 32) (h : lo ≤ hi) : fld (setFld w hi lo v) hi lo = v % 2 ^ (hi + 1 - lo) := by
  apply Nat.eq_of_testBit_eq
  intro j
  rw [fld_testBit, bit_setFld w hi lo v _ hh h, Nat.testBit_mod_two_pow]
  by_cases e : j < hi + 1 - lo
  · rw [if_pos (by omega)]; simp [e]
  · simp [e]

/-- A field apart from the one set. -/
theorem fld_setFld_of_disjoint (w : Word) (hi lo v a b : Nat) (hh : hi < 32) (h : lo ≤ hi) (hd : a < lo ∨ hi < b) :
    fld (setFld w hi lo v) a b = fld w a b := by
  apply Nat.eq_of_testBit_eq
  intro j
  rw [fld_testBit, fld_testBit, bit_setFld w hi lo v _ hh h]
  by_cases e : j < a + 1 - b
  · rw [if_neg (by omega)]
  · simp [e]

/-- A field apart from a bit set. -/
theorem fld_setBit_of_disjoint (w : Word) (i a b : Nat) (x : Bool) (h : i < 32) (hd : a < i ∨ i < b) : fld (setBit w i x) a b = fld w a b :=
  fld_setFld_of_disjoint w i i _ a b h (le_refl _) hd

/-- A bit apart from a field set. -/
theorem bit_setFld_of_disjoint (w : Word) (hi lo v j : Nat) (hh : hi < 32) (h : lo ≤ hi) (hd : j < lo ∨ hi < j) :
    bit (setFld w hi lo v) j = bit w j := by rw [bit_setFld w hi lo v j hh h, if_neg (by omega)]

end Sys2Proof.Machine
end

