-- ==== Sys2Proof/Laws/Map.lean ====
section
/-! SUPPORT. The laws of sparse maps: what is found after a change, and that every change keeps the rising form. -/
set_option Elab.async false
namespace Sys2Proof.Machine

variable {α : Type}

@[simp] theorem mapFind_mapInsert_self (m : List (Nat × α)) (i : Nat) (v : α) : mapFind (mapInsert m i v) i = some v := by
  induction m with
  | nil => simp [mapInsert, mapFind]
  | cons e rest ih =>
    obtain ⟨k, w⟩ := e
    simp only [mapInsert]
    split
    · simp [mapFind]
    · split
      · simp [mapFind]
      · rename_i h1 h2
        simp only [mapFind, if_neg (Ne.symm h2), ih]

@[simp] theorem mapFind_mapInsert_ne (m : List (Nat × α)) {i j : Nat} (v : α) (h : i ≠ j) : mapFind (mapInsert m i v) j = mapFind m j := by
  induction m with
  | nil => simp [mapInsert, mapFind, h]
  | cons e rest ih =>
    obtain ⟨k, w⟩ := e
    simp only [mapInsert]
    split
    · simp [mapFind, h]
    · split
      · rename_i h1 h2
        subst h2
        simp [mapFind, h]
      · simp only [mapFind, ih]

@[simp] theorem mapFind_mapErase_self (m : List (Nat × α)) (i : Nat) : mapFind (mapErase m i) i = none := by
  induction m with
  | nil => rfl
  | cons e rest ih =>
    obtain ⟨k, w⟩ := e
    simp only [mapErase]
    split
    · exact ih
    · rename_i h
      simp only [mapFind, if_neg h, ih]

@[simp] theorem mapFind_mapErase_ne (m : List (Nat × α)) {i j : Nat} (h : i ≠ j) : mapFind (mapErase m i) j = mapFind m j := by
  induction m with
  | nil => rfl
  | cons e rest ih =>
    obtain ⟨k, w⟩ := e
    simp only [mapErase]
    split
    · rename_i hk
      subst hk
      simp only [mapFind, if_neg h, ih]
    · simp only [mapFind, ih]

/-- A change is read back, and no other key's reading changes. -/
theorem mapGet_mapSet [DecidableEq α] (d : α) (m : List (Nat × α)) (i j : Nat) (v : α) :
    mapGet d (mapSet d m i v) j = if i = j then v else mapGet d m j := by
  unfold mapGet mapSet
  split_ifs with hv h h <;> simp_all

theorem mapGet_mapInsert (d : α) (m : List (Nat × α)) (i j : Nat) (v : α) :
    mapGet d (mapInsert m i v) j = if i = j then v else mapGet d m j := by
  unfold mapGet
  split_ifs with h <;> simp_all

/-- The rising form, as a relation between every two entries. -/
theorem mapRising_iff (m : List (Nat × α)) : mapRising m = true ↔ m.Pairwise (fun a b => a.1 < b.1) := by
  induction m with
  | nil => simp [mapRising]
  | cons e rest ih =>
    obtain ⟨k, v⟩ := e
    cases rest with
    | nil => simp [mapRising]
    | cons f rest =>
      obtain ⟨j, w⟩ := f
      simp only [mapRising, Bool.and_eq_true, decide_eq_true_eq, ih, List.pairwise_cons, List.mem_cons, forall_eq_or_imp]
      constructor
      · rintro ⟨hkj, hj, hp⟩
        exact ⟨⟨hkj, fun a ha => hkj.trans (hj a ha)⟩, hj, hp⟩
      · rintro ⟨⟨hkj, _⟩, hj, hp⟩
        exact ⟨hkj, hj, hp⟩

theorem mapRising_filter (m : List (Nat × α)) (p : Nat × α → Bool) (h : mapRising m = true) : mapRising (m.filter p) = true :=
  (mapRising_iff _).2 (((mapRising_iff _).1 h).filter p)

theorem mem_mapErase {m : List (Nat × α)} {i : Nat} {e : Nat × α} (h : e ∈ mapErase m i) : e ∈ m := by
  induction m with
  | nil => exact h
  | cons f rest ih =>
    simp only [mapErase] at h
    split at h
    · exact List.mem_cons_of_mem _ (ih h)
    · rcases List.mem_cons.1 h with rfl | h
      · exact List.mem_cons_self
      · exact List.mem_cons_of_mem _ (ih h)

theorem mem_mapInsert {m : List (Nat × α)} {i : Nat} {v : α} {e : Nat × α} (h : e ∈ mapInsert m i v) : e = (i, v) ∨ e ∈ m := by
  induction m with
  | nil => simpa [mapInsert] using h
  | cons f rest ih =>
    simp only [mapInsert] at h
    split at h
    · simpa using h
    · split at h
      · rcases List.mem_cons.1 h with rfl | h
        · exact .inl rfl
        · exact .inr (List.mem_cons_of_mem _ h)
      · rcases List.mem_cons.1 h with rfl | h
        · exact .inr List.mem_cons_self
        · exact (ih h).imp id (List.mem_cons_of_mem _)

theorem mapRising_mapErase (m : List (Nat × α)) (i : Nat) (h : mapRising m = true) : mapRising (mapErase m i) = true := by
  rw [mapRising_iff] at *
  induction m with
  | nil => exact List.Pairwise.nil
  | cons e rest ih =>
    rw [List.pairwise_cons] at h
    simp only [mapErase]
    split
    · exact ih h.2
    · exact List.pairwise_cons.2 ⟨fun a ha => h.1 a (mem_mapErase ha), ih h.2⟩

theorem mapRising_mapInsert (m : List (Nat × α)) (i : Nat) (v : α) (h : mapRising m = true) : mapRising (mapInsert m i v) = true := by
  rw [mapRising_iff] at *
  induction m with
  | nil => exact List.pairwise_singleton _ _
  | cons e rest ih =>
    rw [List.pairwise_cons] at h
    simp only [mapInsert]
    split
    · rename_i hlt
      refine List.pairwise_cons.2 ⟨?_, List.pairwise_cons.2 h⟩
      intro a ha
      rcases List.mem_cons.1 ha with rfl | ha
      · exact hlt
      · exact hlt.trans (h.1 a ha)
    · split
      · rename_i heq
        exact List.pairwise_cons.2 ⟨fun a ha => heq ▸ h.1 a ha, h.2⟩
      · rename_i h1 h2
        refine List.pairwise_cons.2 ⟨?_, ih h.2⟩
        intro a ha
        rcases mem_mapInsert ha with rfl | ha
        · exact lt_of_le_of_ne (Nat.le_of_not_lt h1) (fun hc => h2 hc.symm)
        · exact h.1 a ha

theorem mapRising_mapSet [DecidableEq α] (d : α) (m : List (Nat × α)) (i : Nat) (v : α) (h : mapRising m = true) :
    mapRising (mapSet d m i v) = true := by
  unfold mapSet
  split
  · exact mapRising_mapErase m i h
  · exact mapRising_mapInsert m i v h

end Sys2Proof.Machine
end

