-- ==== Sys2Proof/Laws/Memory.lean ====
section
/-! SUPPORT. The laws of device memory and of the register list: read after write, everything else unchanged, and the canonical forms kept. -/
set_option Elab.async false
namespace Sys2Proof.Machine

/-! ### Bytes -/

theorem memFind_memSet (m : Memory) (a b : Nat) (v : Byte) : memFind (memSet m a v) b = if a = b then some v else memFind m b := by
  unfold memFind memSet
  split_ifs with hd hab hab <;> simp_all

@[simp] theorem rdByte_wrByte_self (s : State) (a : Nat) (v : Byte) : rdByte (wrByte s a v) a = v := by
  simp [rdByte, wrByte, memFind_memSet]

theorem rdByte_wrByte_ne (s : State) {a b : Nat} (v : Byte) (h : a ≠ b) : rdByte (wrByte s a v) b = rdByte s b := by
  simp [rdByte, wrByte, memFind_memSet, h]

/-- A byte outside the bytes written is found as before. -/
theorem memFind_memSetAll (bs : List Byte) (m : Memory) (a b : Nat) (h : b < a ∨ a + bs.length ≤ b) :
    memFind (memSetAll m a bs) b = memFind m b := by
  induction bs generalizing m a with
  | nil => rfl
  | cons v rest ih =>
    simp only [List.length_cons] at h
    rw [memSetAll, ih _ _ (by omega), memFind_memSet, if_neg (by omega)]

/-- Each byte written is found. -/
theorem memFind_memSetAll_at (bs : List Byte) (m : Memory) (a i : Nat) (h : i < bs.length) :
    memFind (memSetAll m a bs) (a + i) = bs[i]? := by
  induction bs generalizing m a i with
  | nil => simp at h
  | cons v rest ih =>
    cases i with
    | zero => rw [memSetAll, memFind_memSetAll _ _ _ _ (by omega), memFind_memSet]; simp
    | succ i =>
      have hi : i < rest.length := by simpa using h
      have := ih (memSet m a v) (a + 1) i hi
      rw [memSetAll, show a + (i + 1) = a + 1 + i by omega, this]
      simp

theorem wf_memSet (m : Memory) (a : Nat) (v : Byte) (h : m.wf = true) : (memSet m a v).wf = true := by
  simp only [Memory.wf, Bool.and_eq_true, List.all_eq_true, decide_eq_true_eq] at *
  unfold memSet
  split
  · exact ⟨mapRising_mapErase _ _ h.1, fun c hc => h.2 c (mem_mapErase hc)⟩
  · rename_i hd
    refine ⟨mapRising_mapInsert _ _ _ h.1, fun c hc => ?_⟩
    rcases mem_mapInsert hc with rfl | hc
    · exact hd
    · exact h.2 c hc

theorem wf_memSetAll (bs : List Byte) (m : Memory) (a : Nat) (h : m.wf = true) : (memSetAll m a bs).wf = true := by
  induction bs generalizing m a with
  | nil => exact h
  | cons v rest ih => exact ih _ _ (wf_memSet m a v h)

theorem wf_filter (m : Memory) (p : Host.Cell → Bool) (h : m.wf = true) : Memory.wf (m.filter p) = true := by
  simp only [Memory.wf, Bool.and_eq_true, List.all_eq_true] at *
  exact ⟨mapRising_filter _ _ h.1, fun c hc => h.2 c (List.mem_of_mem_filter hc)⟩

theorem wf_memForget (m : Memory) (a n : Nat) (h : m.wf = true) : (memForget m a n).wf = true := wf_filter m _ h

/-! ### Registers -/

theorem regFind_regDrop_ne (l : List (Reg × Word)) {r q : Reg} (h : r ≠ q) : regFind (regDrop l r) q = regFind l q := by
  induction l with
  | nil => rfl
  | cons e rest ih =>
    obtain ⟨k, v⟩ := e
    simp only [regDrop]
    split
    · rename_i hk
      subst hk
      simp [regFind, h, ih]
    · simp only [regFind, ih]

theorem mem_regDrop {l : List (Reg × Word)} {r : Reg} {e : Reg × Word} (h : e ∈ regDrop l r) : e ∈ l ∧ e.1 ≠ r := by
  induction l with
  | nil => cases h
  | cons f rest ih =>
    simp only [regDrop] at h
    split at h
    · exact ⟨List.mem_cons_of_mem _ (ih h).1, (ih h).2⟩
    · rename_i hf
      rcases List.mem_cons.1 h with rfl | h
      · exact ⟨List.mem_cons_self, hf⟩
      · exact ⟨List.mem_cons_of_mem _ (ih h).1, (ih h).2⟩

theorem regDrop_sublist (l : List (Reg × Word)) (r : Reg) : (regDrop l r).Sublist l := by
  induction l with
  | nil => exact List.Sublist.slnil
  | cons e rest ih =>
    simp only [regDrop]
    split
    · exact ih.trans (List.sublist_cons_self _ _)
    · exact ih.cons_cons _

/-- What a register holds after a write: the written register its value, any other what it held. -/
@[simp] theorem rd_wr_self (s : State) (r : Reg) (v : Word) : rd (wr s r v) r = v := by simp [rd, wr, regFind]

theorem rd_wr_ne (s : State) {r q : Reg} (v : Word) (h : r ≠ q) : rd (wr s r v) q = rd s q := by
  simp [rd, wr, regFind, h, regFind_regDrop_ne]

theorem rd_wr (s : State) (r q : Reg) (v : Word) : rd (wr s r v) q = if r = q then v else rd s q := by
  split_ifs with h
  · subst h; exact rd_wr_self s r v
  · exact rd_wr_ne s v h

theorem nodup_wr (s : State) (r : Reg) (v : Word) (h : (s.regs.map Prod.fst).Nodup) : ((wr s r v).regs.map Prod.fst).Nodup := by
  refine List.nodup_cons.2 ⟨?_, h.sublist ((regDrop_sublist s.regs r).map _)⟩
  intro hm
  obtain ⟨e, he, hr⟩ := List.mem_map.1 hm
  exact (mem_regDrop he).2 hr

end Sys2Proof.Machine
end

