-- ==== Sys2Proof/Laws/Bytes.lean ====
section
/-! SUPPORT. Byte strings, words stored under consecutive keys, and memory read back after a write of many bytes. -/
set_option Elab.async false
namespace Sys2Proof.Machine

@[simp] theorem length_leBytes (n v : Nat) : (leBytes n v).length = n := by
  induction n generalizing v with
  | zero => rfl
  | succ n ih => simp [leBytes, ih]

/-- A little-endian byte string gives its number back, modulo its width. -/
theorem leNat_leBytes (n v : Nat) : leNat (leBytes n v) = v % 256 ^ n := by
  induction n generalizing v with
  | zero => simp [leBytes, leNat, Nat.mod_one]
  | succ n ih =>
    have e : v % 256 ^ (n + 1) = v % 256 + 256 * (v / 256 % 256 ^ n) := by rw [Nat.pow_succ']; exact Nat.mod_mul
    simp [leBytes, leNat, ih, e]

@[simp] theorem length_rdBytes (s : State) (a n : Nat) : (rdBytes s a n).length = n := by
  induction n generalizing a with
  | zero => rfl
  | succ n ih => simp [rdBytes, ih]

/-- A byte outside the bytes written reads as before. -/
theorem rdByte_wrBytes_ne (s : State) (a : Nat) (bs : List Byte) (b : Nat) (h : b < a ∨ a + bs.length ≤ b) :
    rdByte (wrBytes s a bs) b = rdByte s b := by
  simp [rdByte, wrBytes, wrBytesQuiet, markDirty, memFind_memSetAll _ _ _ _ h]

/-- Each byte written reads as written. -/
theorem rdByte_wrBytes_at (s : State) (a : Nat) (bs : List Byte) (i : Nat) (h : i < bs.length) : rdByte (wrBytes s a bs) (a + i) = bs[i] := by
  simp [rdByte, wrBytes, wrBytesQuiet, markDirty, memFind_memSetAll_at _ _ _ _ h, h]

/-- n bytes read are the bytes at each address. -/
theorem getElem_rdBytes (s : State) (a n i : Nat) (h : i < (rdBytes s a n).length) : (rdBytes s a n)[i] = rdByte s (a + i) := by
  induction n generalizing a i with
  | zero => simp [rdBytes] at h
  | succ n ih =>
    cases i with
    | zero => rfl
    | succ i => simp only [rdBytes, List.getElem_cons_succ]; rw [ih, show a + 1 + i = a + (i + 1) by omega]

/-- The bytes written read back. -/
theorem rdBytes_wrBytes (s : State) (a : Nat) (bs : List Byte) : rdBytes (wrBytes s a bs) a bs.length = bs := by
  apply List.ext_getElem (by simp)
  intro i h1 h2
  rw [getElem_rdBytes, rdByte_wrBytes_at _ _ _ _ h2]

/-- Words stored from a key on: each is found at its key, every other key as before. -/
theorem mapGet_storeWords (ws : List Word) (m : List (Nat × Word)) (k j : Nat) :
    mapGet 0 (storeWords m k ws) j = if k ≤ j then (ws[j - k]?).getD (mapGet 0 m j) else mapGet 0 m j := by
  induction ws generalizing m k with
  | nil => simp [storeWords]
  | cons w rest ih =>
    simp only [storeWords]
    rw [ih, mapGet_mapSet]
    by_cases h : k + 1 ≤ j
    · obtain ⟨i, rfl⟩ : ∃ i, j = k + 1 + i := ⟨j - (k + 1), by omega⟩
      have h1 : ¬ k = k + 1 + i := by omega
      have h2 : k ≤ k + 1 + i := by omega
      have h3 : k + 1 + i - k = i + 1 := by omega
      have h4 : k + 1 + i - (k + 1) = i := by omega
      simp [h1, h2, h3, h4]
    · by_cases hj : k = j
      · subst hj; simp
      · rw [if_neg h, if_neg hj, if_neg (by omega)]

/-- A tile other than the one changed is as before. -/
theorem tile_onTile_ne (s : State) {t u : Nat} (f : TileState → TileState) (h : t ≠ u) : tile (onTile s t f) u = tile s u := by
  simp [tile, onTile, setTile, mapGet, mapFind_mapInsert_ne, h]

end Sys2Proof.Machine
end

