-- ==== Sys2Proof/Laws/Keeps.lean ====
section
/-! SUPPORT. What every operation of the model keeps, as one relation between a state and a later one, and its rules for the primitive operations.  The
other files of this folder whose names begin with Keeps apply it to every operation in turn, so that a statement about every command needs no operation
unfolded. -/
set_option Elab.async false
namespace Sys2Proof.Machine

/-- A footprint is a number read as a set: bit `Part.number p` says that part `p` of the state may change. -/
abbrev Within (M F : Nat) : Prop := M ||| F = F

theorem Within.via {A M F : Nat} (h : Within M F) (k : Nat.lor A M = M) : Within A F := by
  have k' : A ||| M = M := k
  unfold Within at *
  rw [← h, ← Nat.or_assoc, k']

theorem Within.bit {M F k : Nat} (h : Within M F) (hk : M.testBit k = true) : F.testBit k = true := by
  unfold Within at h
  rw [← h, Nat.testBit_or, hk, Bool.true_or]

/-- The family of a register is in a footprint. -/
def Reg.within (F : Nat) : Reg → Bool
  | .hifIdent => F.testBit 24
  | .arrTiming _ => F.testBit 25
  | .arrStatus _ => F.testBit 26
  | .arrErr _ => F.testBit 27
  | .arrErrinfo _ => F.testBit 28
  | .arrTemp _ => F.testBit 29
  | .arrConvLo _ => F.testBit 30
  | .arrConvHi _ => F.testBit 31
  | .arrRefskip _ => F.testBit 32
  | .arrStretch _ => F.testBit 33
  | .arrLdesc _ _ => F.testBit 34
  | .arrGrp _ _ => F.testBit 35
  | .arrMode _ _ => F.testBit 36
  | .arrValid _ _ => F.testBit 37
  | .arrSatcnt _ _ => F.testBit 38
  | .tilPpda _ _ => F.testBit 39
  | .tilPpdb _ _ => F.testBit 40
  | .tilSherr _ => F.testBit 41
  | .tilSherrinfo _ => F.testBit 42
  | .tilAccsat _ => F.testBit 43
  | .tilMxnan _ => F.testBit 44
  | .tilNosample _ => F.testBit 45
  | .tilSeedLo _ => F.testBit 46
  | .tilSeedHi _ => F.testBit 47
  | .tilScale _ _ => F.testBit 48
  | .calCtrl _ => F.testBit 49
  | .calGmask _ => F.testBit 50
  | .calTrimsel _ => F.testBit 51
  | .calTrimdata _ => F.testBit 52
  | .calRecalcnt _ => F.testBit 53
  | .calStalecnt _ => F.testBit 54
  | .calSoftcnt _ => F.testBit 55
  | .calGstat _ _ => F.testBit 56
  | .calFlag _ _ => F.testBit 57
  | .schStatus _ => F.testBit 58
  | .schCycle _ => F.testBit 59
  | .schLen _ => F.testBit 60
  | .schErr _ => F.testBit 61
  | .schErrinfo _ => F.testBit 62
  | .schSlackcnt _ => F.testBit 63
  | .schSlackinfo _ => F.testBit 64
  | .schMaxwait _ => F.testBit 65
  | .schStall _ _ => F.testBit 66
  | .schLstall _ _ => F.testBit 67
  | .tilSperr _ => F.testBit 68
  | .tilSperrinfo _ => F.testBit 69
  | .tilSpcecnt _ => F.testBit 70
  | .tilSpapbase _ => F.testBit 71
  | .tilRgn _ _ _ => F.testBit 72
  | .schPctrl _ => F.testBit 73
  | .schPstat _ => F.testBit 74
  | .schPstepLo _ => F.testBit 75
  | .schPstepHi _ => F.testBit 76
  | .schPovrcnt _ => F.testBit 77
  | .schPlate _ => F.testBit 78
  | .pwrCtrl => F.testBit 79
  | .pwrWake => F.testBit 80
  | .pwrCap => F.testBit 81
  | .pwrFixed => F.testBit 82
  | .pwrStatus => F.testBit 83
  | .pwrWarnlog => F.testBit 84
  | .pwrRstlog => F.testBit 85
  | .pwrDie => F.testBit 86
  | .pwrTemp => F.testBit 87
  | .pwrAdmit => F.testBit 88
  | .pwrWarncnt => F.testBit 89
  | .pwrWakedly => F.testBit 90
  | .pwrThrcnt => F.testBit 91
  | .clkRefstat => F.testBit 92
  | .clkRdy _ => F.testBit 93
  | .clkFsel => F.testBit 94
  | .clkFmeas => F.testBit 95
  | .clkLosscnt => F.testBit 96
  | .lpxStatus => F.testBit 97
  | .lpxTrain => F.testBit 98
  | .lpxFreeze => F.testBit 99
  | .lpxUecnt => F.testBit 100
  | .lpxPatrol => F.testBit 101
  | .lpxCecnt _ => F.testBit 102
  | .lpxUlog _ => F.testBit 103
  | .lpxRgnbase _ => F.testBit 104
  | .lpxRgnsize _ => F.testBit 105
  | .lpxRgnctl _ => F.testBit 106
  | .nvcStatus _ => F.testBit 107
  | .nvcWdog _ => F.testBit 108
  | .nvcXcnt _ => F.testBit 109
  | .nvcCecnt _ => F.testBit 110
  | .nvcHaltpc _ => F.testBit 111
  | .fwmVer _ => F.testBit 112
  | .fwmState _ => F.testBit 113
  | .fwmDig _ _ => F.testBit 114
  | .fwmUpd => F.testBit 115
  | .fwmFeat _ => F.testBit 116
  | .fwmHgen _ => F.testBit 117
  | .mbxCtrl _ => F.testBit 118
  | .mbxTfpi _ => F.testBit 119
  | .mbxTfci _ => F.testBit 120
  | .mbxFfpi _ => F.testBit 121
  | .mbxFfci _ => F.testBit 122
  | .netPcfg _ => F.testBit 123
  | .netPstat _ => F.testBit 124
  | .netCntLo _ _ => F.testBit 125
  | .netCntHi _ _ => F.testBit 126
  | .netBercfg => F.testBit 127
  | .prsCmd => F.testBit 128
  | .prsData _ => F.testBit 129
  | .prsPart _ => F.testBit 130
  | .prsMpart _ => F.testBit 131
  | .prsXtr _ _ => F.testBit 132
  | .prsPunt _ => F.testBit 133
  | .prsNomatch => F.testBit 134
  | .prsParsefail => F.testBit 135
  | .prsMeterdrop => F.testBit 136
  | .prsDestdrop => F.testBit 137
  | .prsPuntdrop _ => F.testBit 138
  | .tmsQsel => F.testBit 139
  | .tmsPort _ => F.testBit 140
  | .tmsSample => F.testBit 141
  | .tmsQcfg _ => F.testBit 142
  | .tmsQshape _ => F.testBit 143
  | .tmsQstat _ => F.testBit 144
  | .tmsQavg _ => F.testBit 145
  | .tmsQdrop _ => F.testBit 146
  | .rmaCfg => F.testBit 147
  | .rmaTimers => F.testBit 148
  | .rmaPark => F.testBit 149
  | .rmaCmd => F.testBit 150
  | .rmaCnt _ => F.testBit 151
  | .rmaData _ => F.testBit 152
  | .rmaRbaseLo _ => F.testBit 153
  | .rmaRbaseHi _ => F.testBit 154
  | .rmaRctl _ => F.testBit 155
  | .rmaWqpi _ => F.testBit 156
  | .rmaWqci _ => F.testBit 157
  | .rmaCqpi _ => F.testBit 158
  | .rmaCqci _ => F.testBit 159
  | .stgCmd _ => F.testBit 160
  | .stgLbalo _ => F.testBit 161
  | .stgLbahi _ => F.testBit 162
  | .stgBlks _ => F.testBit 163
  | .stgBuflo _ => F.testBit 164
  | .stgBufhi _ => F.testBit 165
  | .stgBufctl _ => F.testBit 166
  | .stgStatus _ => F.testBit 167
  | .stgDone _ => F.testBit 168
  | .stgCtl _ => F.testBit 169
  | .stgCfg => F.testBit 170
  | .stgCpend _ => F.testBit 171
  | .stgXerr => F.testBit 172
  | .stgAbortmiss => F.testBit 173
  | .stgRefused => F.testBit 174
  | .hifLink => F.testBit 175
  | .hifHb _ => F.testBit 176
  | .hifHbcfg _ => F.testBit 177
  | .hifHstat _ => F.testBit 178
  | .hifB2ctl => F.testBit 179
  | .hifUrcnt => F.testBit 180
  | .hifMalcnt => F.testBit 181
  | .hifHaerr => F.testBit 182
  | .hifInvcnt => F.testBit 183
  | .hifFeeddrop => F.testBit 184
  | .hifFwinBaselo _ => F.testBit 185
  | .hifFwinBasehi _ => F.testBit 186
  | .hifFwinSize _ => F.testBit 187
  | .hifFwinCtl _ => F.testBit 188
  | .secStatus => F.testBit 189
  | .secEpoch => F.testBit 190
  | .secLowleft => F.testBit 191
  | .secAlarm => F.testBit 192
  | .secDbg => F.testBit 193
  | .secAlarmcnt => F.testBit 194
  | .secDualfail => F.testBit 195
  | .secHuskfail => F.testBit 196
  | .secRelfail => F.testBit 197
  | .secFusew _ => F.testBit 198
  | .pltCmd => F.testBit 199
  | .pltCfg => F.testBit 200
  | .pltPstat _ => F.testBit 201
  | .pltGen _ => F.testBit 202
  | .pltTiles _ _ => F.testBit 203
  | .rstStage => F.testBit 204
  | .rstGate => F.testBit 205
  | .rstBoot => F.testBit 206
  | .rstCmd => F.testBit 207
  | .rstCfg => F.testBit 208
  | .rstCause => F.testBit 209
  | .rstIldcnt => F.testBit 210
  | .rstRereset => F.testBit 211
  | .rstSeedseq => F.testBit 212
  | .rstInrst _ => F.testBit 213
  | .rstTilefail _ => F.testBit 214
  | .ckpPstat _ => F.testBit 215
  | .ckpPend _ => F.testBit 216
  | .ckpSealed _ => F.testBit 217
  | .ckpCow _ => F.testBit 218
  | .ckpCowmax _ => F.testBit 219
  | .ckpSteplo _ => F.testBit 220
  | .ckpStephi _ => F.testBit 221
  | .ckpCfg => F.testBit 222
  | .evrHeadLo => F.testBit 223
  | .evrHeadHi _ => F.testBit 224
  | .evrCurLo _ => F.testBit 225
  | .evrCurHi _ => F.testBit 226
  | .evrIrq _ => F.testBit 227
  | .evrDropcnt => F.testBit 228
  | .telSnap => F.testBit 229
  | .telPstall _ _ => F.testBit 230
  | .telPslack _ => F.testBit 231
  | .telPworst _ => F.testBit 232

theorem Within.reg {M F : Nat} {r : Reg} (h : Within M F) (hk : r.within M = true) : r.within F = true := by
  cases r <;> exact h.bit hk

theorem within_eq (F : Nat) (r : Reg) : r.within F = F.testBit (24 + r.ctorIdx) := by
  cases r <;> rfl

/-- A part of the state is in the footprint, or has not changed. -/
def Same (F k : Nat) {α : Type} (a b : α) : Prop := F.testBit k = true ∨ b = a

theorem Same.refl {F k : Nat} {α : Type} (a : α) : Same F k a a := .inr rfl
theorem Same.allow {M F k : Nat} {α : Type} {a b : α} (h : Within M F) (hk : M.testBit k = true) : Same F k a b := .inl (h.bit hk)
theorem Same.trans {F k : Nat} {α : Type} {a b c : α} (h : Same F k a b) (g : Same F k b c) : Same F k a c := by
  rcases h with h | h
  · exact .inl h
  · rcases g with g | g
    · exact .inl g
    · exact .inr (g.trans h)

/-- `t` can follow `s` by an operation of footprint `F`: the queue of waiting commands is the same, the canonical form holds on, free values are never drawn
again, fuses stay blown (R354), the epoch counter does not fall (R367), and nothing outside the footprint changes. -/
structure Keeps (F : Nat) (s t : State) : Prop where
  pending : t.pending = s.pending
  canonical : s.Canonical → t.Canonical
  freshLe : s.fresh ≤ t.fresh
  fuses : FusesHold s t
  epoch : s.sec.epoch ≤ t.sec.epoch
  regs : ∀ r : Reg, r.within F = true ∨ rd t r = rd s r
  mem : Same F 2 s.mem t.mem
  watched : Same F 3 s.watched t.watched
  fresh : Same F 4 s.fresh t.fresh
  tick : Same F 5 s.tick t.tick
  tiles : Same F 6 s.tiles t.tiles
  plots : Same F 7 s.plots t.plots
  cores : Same F 8 s.cores t.cores
  out : Same F 9 s.out t.out
  host : Same F 10 s.host t.host
  evr : Same F 11 s.evr t.evr
  tel : Same F 12 s.tel t.tel
  power : Same F 13 s.power t.power
  fw : Same F 14 s.fw t.fw
  ram : Same F 15 s.ram t.ram
  ckp : Same F 16 s.ckp t.ckp
  dirtyC : Same F 17 s.dirtyC t.dirtyC
  dirtyD : Same F 18 s.dirtyD t.dirtyD
  net : Same F 19 s.net t.net
  rma : Same F 20 s.rma t.rma
  stg : Same F 21 s.stg t.stg
  sec : Same F 22 s.sec t.sec
  seed : Same F 23 s.seed t.seed

theorem FusesHold.refl (s : State) : FusesHold s s := fun _ => BitVec.and_self

theorem FusesHold.trans {s t u : State} (h : FusesHold s t) (k : FusesHold t u) : FusesHold s u := fun n => by
  have h1 := h n
  have h2 := k n
  calc fuse s n &&& fuse u n = (fuse s n &&& fuse t n) &&& fuse u n := by rw [h1]
    _ = fuse s n &&& (fuse t n &&& fuse u n) := BitVec.and_assoc ..
    _ = fuse s n := by rw [h2, h1]

@[refl] theorem Keeps.refl {F : Nat} (s : State) : Keeps F s s :=
  ⟨rfl, id, le_refl _, FusesHold.refl s, le_refl _, fun _ => .inr rfl, .refl _, .refl _, .refl _, .refl _, .refl _, .refl _, .refl _, .refl _, .refl _, .refl _, .refl _, .refl _, .refl _, .refl _, .refl _, .refl _, .refl _, .refl _, .refl _, .refl _, .refl _, .refl _⟩

@[trans] theorem Keeps.trans {F : Nat} {s t u : State} (h : Keeps F s t) (k : Keeps F t u) : Keeps F s u :=
  ⟨k.pending.trans h.pending, k.canonical ∘ h.canonical, h.freshLe.trans k.freshLe, h.fuses.trans k.fuses, h.epoch.trans k.epoch,
    fun r => (h.regs r).elim .inl fun e => (k.regs r).elim .inl fun g => .inr (g.trans e), h.mem.trans k.mem, h.watched.trans k.watched, h.fresh.trans k.fresh, h.tick.trans k.tick, h.tiles.trans k.tiles, h.plots.trans k.plots, h.cores.trans k.cores, h.out.trans k.out,
    h.host.trans k.host, h.evr.trans k.evr, h.tel.trans k.tel, h.power.trans k.power, h.fw.trans k.fw, h.ram.trans k.ram, h.ckp.trans k.ckp,
    h.dirtyC.trans k.dirtyC, h.dirtyD.trans k.dirtyD, h.net.trans k.net, h.rma.trans k.rma, h.stg.trans k.stg, h.sec.trans k.sec, h.seed.trans k.seed⟩

theorem mapRising_nil {α : Type} : mapRising ([] : List (Nat × α)) = true := rfl
theorem wf_nil : Memory.wf [] = true := rfl

/-- Where the later state is written out as a structure, with registers, tiles, plots and cores as they were, and memory and checkpoint records changed
within their form. -/
theorem Keeps.mk_ {F : Nat} {s0 s : State} {mem : Memory} {watched : List (Nat × Nat × Bool)} {tick : Nat} {out : List Output} {host : HostState} {evr : Recorder} {tel : Telemetry}
    {power : PowerState} {fw : FwState} {ram : MemState} {ckp : List (Nat × CkpState)} {dirtyC dirtyD : List Nat} {net : NetState} {rma : RmaState}
    {stg : StgState} {sec : SecState} {seed : SeedState} (h : Keeps F s0 s) (hu : sec.fuses = s.sec.fuses) (he : sec.epoch = s.sec.epoch)
    (hm : s.mem.wf = true → mem.wf = true) (hk : mapRising s.ckp = true → mapRising ckp = true)
    (h_mem : Same F 2 s.mem mem := by first | with_reducible exact Same.refl _ | (apply Same.allow; assumption; decide))
    (h_watched : Same F 3 s.watched watched := by first | with_reducible exact Same.refl _ | (apply Same.allow; assumption; decide))
    (h_tick : Same F 5 s.tick tick := by first | with_reducible exact Same.refl _ | (apply Same.allow; assumption; decide))
    (h_out : Same F 9 s.out out := by first | with_reducible exact Same.refl _ | (apply Same.allow; assumption; decide))
    (h_host : Same F 10 s.host host := by first | with_reducible exact Same.refl _ | (apply Same.allow; assumption; decide))
    (h_evr : Same F 11 s.evr evr := by first | with_reducible exact Same.refl _ | (apply Same.allow; assumption; decide))
    (h_tel : Same F 12 s.tel tel := by first | with_reducible exact Same.refl _ | (apply Same.allow; assumption; decide))
    (h_power : Same F 13 s.power power := by first | with_reducible exact Same.refl _ | (apply Same.allow; assumption; decide))
    (h_fw : Same F 14 s.fw fw := by first | with_reducible exact Same.refl _ | (apply Same.allow; assumption; decide))
    (h_ram : Same F 15 s.ram ram := by first | with_reducible exact Same.refl _ | (apply Same.allow; assumption; decide))
    (h_ckp : Same F 16 s.ckp ckp := by first | with_reducible exact Same.refl _ | (apply Same.allow; assumption; decide))
    (h_dirtyC : Same F 17 s.dirtyC dirtyC := by first | with_reducible exact Same.refl _ | (apply Same.allow; assumption; decide))
    (h_dirtyD : Same F 18 s.dirtyD dirtyD := by first | with_reducible exact Same.refl _ | (apply Same.allow; assumption; decide))
    (h_net : Same F 19 s.net net := by first | with_reducible exact Same.refl _ | (apply Same.allow; assumption; decide))
    (h_rma : Same F 20 s.rma rma := by first | with_reducible exact Same.refl _ | (apply Same.allow; assumption; decide))
    (h_stg : Same F 21 s.stg stg := by first | with_reducible exact Same.refl _ | (apply Same.allow; assumption; decide))
    (h_sec : Same F 22 s.sec sec := by first | with_reducible exact Same.refl _ | (apply Same.allow; assumption; decide))
    (h_seed : Same F 23 s.seed seed := by first | with_reducible exact Same.refl _ | (apply Same.allow; assumption; decide)) :
    Keeps F s0 (State.mk s.pending s.regs mem watched s.fresh tick s.tiles s.plots s.cores out host evr tel power fw ram ckp dirtyC dirtyD net rma stg sec seed) :=
  h.trans ⟨rfl, fun c => ⟨hm c.mem, c.regs, c.tiles, c.plots, c.cores, hk c.ckp⟩, le_refl _, fun k => by simp [fuse, hu], he ▸ le_refl _,
    fun _ => .inr rfl, h_mem, h_watched, .refl _, h_tick, .refl _, .refl _, .refl _, h_out, h_host, h_evr, h_tel, h_power, h_fw, h_ram, h_ckp, h_dirtyC, h_dirtyD, h_net, h_rma, h_stg, h_sec, h_seed⟩

theorem Keeps.ite {F : Nat} {s0 a b : State} {c : Prop} {d : Decidable c} (ha : Keeps F s0 a) (hb : Keeps F s0 b) : Keeps F s0 (if c then a else b) := by
  split <;> assumption

/-- The fact about an intermediate state, once. -/
theorem keeps_cut {F : Nat} {s0 : State} {R : Prop} (x : State) (h : Keeps F s0 x) (k : Keeps F s0 x → R) : R := k h

theorem Keeps.of_fst {α : Type} {F : Nat} {s0 a : State} {b : α} {e : State × α} (heq : e = (a, b)) (h : Keeps F s0 e.1) : Keeps F s0 a := by
  subst heq; exact h

theorem Keeps.of_snd {α : Type} {F : Nat} {s0 a : State} {b : α} {e : α × State} (heq : e = (b, a)) (h : Keeps F s0 e.2) : Keeps F s0 a := by
  subst heq; exact h

/-- The outcome, if a next state, is one that keeps. -/
structure Kept (F : Nat) (s0 : State) (o : Host.Outcome State Fault Refusal) : Prop where
  holds : ∀ t, o = .next t → Keeps F s0 t

theorem Kept.next {F : Nat} {s0 t : State} (h : Keeps F s0 t) : Kept F s0 (.next t) := by
  refine ⟨fun u hu => ?_⟩
  cases hu
  exact h

theorem Kept.eq {F : Nat} {s0 t : State} {o : Host.Outcome State Fault Refusal} (heq : o = .next t) (h : Kept F s0 o) : Keeps F s0 t := h.holds t heq

theorem Kept.fault {F : Nat} {s0 : State} {f : Fault} : Kept F s0 (.fault f) := ⟨fun u hu => by cases hu⟩

theorem Kept.ite {F : Nat} {s0 : State} {a b : Host.Outcome State Fault Refusal} {c : Prop} {d : Decidable c} (ha : Kept F s0 a) (hb : Kept F s0 b) :
    Kept F s0 (if c then a else b) := by split <;> assumption

/-- The state of a pair, first or second, and of an option. -/
structure KeepsFst {α : Type} (F : Nat) (s0 : State) (e : State × α) : Prop where
  holds : Keeps F s0 e.1
structure KeepsSnd {α : Type} (F : Nat) (s0 : State) (e : α × State) : Prop where
  holds : Keeps F s0 e.2
structure KeepsOpt (F : Nat) (s0 : State) (e : Option State) : Prop where
  holds : ∀ t, e = some t → Keeps F s0 t
structure KeepsOptSnd {α : Type} (F : Nat) (s0 : State) (e : Option (α × State)) : Prop where
  holds : ∀ k t, e = some (k, t) → Keeps F s0 t

theorem keepsFst_cut {α : Type} {F : Nat} {s0 : State} {R : Prop} (x : State × α) (h : KeepsFst F s0 x) (k : KeepsFst F s0 x → R) : R := k h
theorem keepsSnd_cut {α : Type} {F : Nat} {s0 : State} {R : Prop} (x : α × State) (h : KeepsSnd F s0 x) (k : KeepsSnd F s0 x → R) : R := k h
theorem KeepsFst.of {α : Type} {F : Nat} {s0 a : State} {b : α} (h : Keeps F s0 a) : KeepsFst F s0 (a, b) := ⟨h⟩
theorem KeepsFst.fst {α : Type} {F : Nat} {s0 : State} {e : State × α} (h : KeepsFst F s0 e) : Keeps F s0 e.1 := h.holds
theorem KeepsFst.eq {α : Type} {F : Nat} {s0 a : State} {b : α} {e : State × α} (heq : e = (a, b)) (h : KeepsFst F s0 e) : Keeps F s0 a := by subst heq; exact h.holds
theorem KeepsFst.ite {α : Type} {F : Nat} {s0 : State} {a b : State × α} {c : Prop} {d : Decidable c} (ha : KeepsFst F s0 a) (hb : KeepsFst F s0 b) :
    KeepsFst F s0 (if c then a else b) := by split <;> assumption
theorem KeepsSnd.of {α : Type} {F : Nat} {s0 a : State} {b : α} (h : Keeps F s0 a) : KeepsSnd F s0 (b, a) := ⟨h⟩
theorem KeepsSnd.snd {α : Type} {F : Nat} {s0 : State} {e : α × State} (h : KeepsSnd F s0 e) : Keeps F s0 e.2 := h.holds
theorem KeepsSnd.eq {α : Type} {F : Nat} {s0 a : State} {b : α} {e : α × State} (heq : e = (b, a)) (h : KeepsSnd F s0 e) : Keeps F s0 a := by subst heq; exact h.holds
theorem KeepsSnd.ite {α : Type} {F : Nat} {s0 : State} {a b : α × State} {c : Prop} {d : Decidable c} (ha : KeepsSnd F s0 a) (hb : KeepsSnd F s0 b) :
    KeepsSnd F s0 (if c then a else b) := by split <;> assumption
theorem KeepsOpt.none {F : Nat} {s0 : State} : KeepsOpt F s0 none := ⟨fun t h => by cases h⟩
theorem KeepsOpt.some {F : Nat} {s0 t : State} (h : Keeps F s0 t) : KeepsOpt F s0 (some t) := ⟨fun u hu => by cases hu; exact h⟩
theorem KeepsOpt.eq {F : Nat} {s0 t : State} {e : Option State} (heq : e = .some t) (h : KeepsOpt F s0 e) : Keeps F s0 t := h.holds t heq
theorem KeepsOpt.getD {F : Nat} {s0 d : State} {e : Option State} (h : KeepsOpt F s0 e) (hd : Keeps F s0 d) : Keeps F s0 (e.getD d) := by
  cases e
  · exact hd
  · exact h.holds _ rfl
theorem KeepsOpt.ite {F : Nat} {s0 : State} {a b : Option State} {c : Prop} {d : Decidable c} (ha : KeepsOpt F s0 a) (hb : KeepsOpt F s0 b) :
    KeepsOpt F s0 (if c then a else b) := by split <;> assumption
theorem KeepsOptSnd.none {α : Type} {F : Nat} {s0 : State} : KeepsOptSnd (α := α) F s0 none := ⟨fun k t h => by cases h⟩
theorem KeepsOptSnd.some {α : Type} {F : Nat} {s0 t : State} {k : α} (h : Keeps F s0 t) : KeepsOptSnd F s0 (some (k, t)) :=
  ⟨fun j u hu => by cases hu; exact h⟩
theorem KeepsOptSnd.eq {α : Type} {F : Nat} {s0 t : State} {k : α} {e : Option (α × State)} (heq : e = .some (k, t)) (h : KeepsOptSnd F s0 e) : Keeps F s0 t :=
  h.holds k t heq
theorem KeepsOptSnd.ite {α : Type} {F : Nat} {s0 : State} {a b : Option (α × State)} {c : Prop} {d : Decidable c} (ha : KeepsOptSnd F s0 a)
    (hb : KeepsOptSnd F s0 b) : KeepsOptSnd F s0 (if c then a else b) := by split <;> assumption

/-- What performing a request packet, a Novdy instruction or a microword comes to. -/
inductive ReqResKeeps (F : Nat) (s0 : State) : ReqRes → Prop where
  | done {s : State} (h : Keeps F s0 s) : ReqResKeeps F s0 (.done s)
  | nak {s : State} (h : Keeps F s0 s) (r : Nat) : ReqResKeeps F s0 (.nak s r)
inductive NvcResKeeps (F : Nat) (s0 : State) : NvcRes → Prop where
  | done {s : State} (h : Keeps F s0 s) : NvcResKeeps F s0 (.done s)
  | exc {s : State} (h : Keeps F s0 s) (v cause : Nat) (addr : Word) : NvcResKeeps F s0 (.exc s v cause addr)
inductive MicroResKeeps (F : Nat) (s0 : State) : MicroRes → Prop where
  | go {s : State} (h : Keeps F s0 s) (m : Micro) (n : Nat) : MicroResKeeps F s0 (.go s m n)
  | exc {s : State} (h : Keeps F s0 s) (v cause : Nat) (addr : Word) : MicroResKeeps F s0 (.exc s v cause addr)

/-- What running microcode comes to. -/
inductive RunKeeps (F : Nat) (s0 : State) : State ⊕ (State × Nat × Nat × Word) → Prop where
  | inl {s : State} (h : Keeps F s0 s) : RunKeeps F s0 (.inl s)
  | inr {s : State} (h : Keeps F s0 s) (r : Nat × Nat × Word) : RunKeeps F s0 (.inr (s, r))

/-- Issuing a slot operation keeps. -/
structure SlotOpKeeps (F : Nat) (s0 : State) (o : SlotOp) : Prop where
  holds : ∀ s, Keeps F s0 s → Keeps F s0 (o.issue s)

theorem SlotOpKeeps.issue {F : Nat} {s0 s : State} {o : SlotOp} (hs : Keeps F s0 s) (h : SlotOpKeeps F s0 o) : Keeps F s0 (o.issue s) := h.holds s hs
theorem SlotOpKeeps.mk_ {F : Nat} {s0 : State} {ports : List (Nat × Nat)} {alone late : State → Viol} {holds : State → List Nat} {f : State → State} (h : ∀ s, Keeps F s0 s → Keeps F s0 (f s)) :
    SlotOpKeeps F s0 (SlotOp.mk ports alone holds late f) := ⟨h⟩
theorem SlotOpKeeps.ite {F : Nat} {s0 : State} {a b : SlotOp} {c : Prop} {d : Decidable c} (ha : SlotOpKeeps F s0 a) (hb : SlotOpKeeps F s0 b) :
    SlotOpKeeps F s0 (if c then a else b) := by split <;> assumption

theorem RunKeeps.eqInl {F : Nat} {s0 s : State} {e : State ⊕ (State × Nat × Nat × Word)} (heq : e = .inl s) (h : RunKeeps F s0 e) : Keeps F s0 s := by
  subst heq; cases h; assumption
theorem RunKeeps.eqInr {F : Nat} {s0 s : State} {r : Nat × Nat × Word} {e : State ⊕ (State × Nat × Nat × Word)} (heq : e = .inr (s, r)) (h : RunKeeps F s0 e) :
    Keeps F s0 s := by
  subst heq; cases h; assumption

theorem ReqResKeeps.ite {F : Nat} {s0 : State} {a b : ReqRes} {c : Prop} {d : Decidable c} (ha : ReqResKeeps F s0 a) (hb : ReqResKeeps F s0 b) :
    ReqResKeeps F s0 (if c then a else b) := by split <;> assumption
theorem NvcResKeeps.ite {F : Nat} {s0 : State} {a b : NvcRes} {c : Prop} {d : Decidable c} (ha : NvcResKeeps F s0 a) (hb : NvcResKeeps F s0 b) :
    NvcResKeeps F s0 (if c then a else b) := by split <;> assumption
theorem MicroResKeeps.ite {F : Nat} {s0 : State} {a b : MicroRes} {c : Prop} {d : Decidable c} (ha : MicroResKeeps F s0 a) (hb : MicroResKeeps F s0 b) :
    MicroResKeeps F s0 (if c then a else b) := by split <;> assumption
theorem ReqResKeeps.eqDone {F : Nat} {s0 s : State} {e : ReqRes} (heq : e = .done s) (h : ReqResKeeps F s0 e) : Keeps F s0 s := by
  subst heq; cases h; assumption
theorem ReqResKeeps.eqNak {F : Nat} {s0 s : State} {r : Nat} {e : ReqRes} (heq : e = .nak s r) (h : ReqResKeeps F s0 e) : Keeps F s0 s := by
  subst heq; cases h; assumption
theorem NvcResKeeps.eq {F : Nat} {s0 s : State} {e : NvcRes} (heq : e = .done s) (h : NvcResKeeps F s0 e) : Keeps F s0 s := by
  subst heq; cases h; assumption
theorem NvcResKeeps.eqExc {F : Nat} {s0 s : State} {v c : Nat} {a : Word} {e : NvcRes} (heq : e = .exc s v c a) (h : NvcResKeeps F s0 e) : Keeps F s0 s := by
  subst heq; cases h; assumption
theorem MicroResKeeps.eqGo {F : Nat} {s0 s : State} {m : Micro} {n : Nat} {e : MicroRes} (heq : e = .go s m n) (h : MicroResKeeps F s0 e) : Keeps F s0 s := by
  subst heq; cases h; assumption
theorem MicroResKeeps.eqExc {F : Nat} {s0 s : State} {v c : Nat} {a : Word} {e : MicroRes} (heq : e = .exc s v c a) (h : MicroResKeeps F s0 e) : Keeps F s0 s := by
  subst heq; cases h; assumption

/-! ### The primitive operations -/

theorem wr_keeps {F : Nat} {s0 s : State} (h : Keeps F s0 s) (r : Reg) (v : Word) (hF : r.within F = true) : Keeps F s0 (wr s r v) :=
  h.trans ⟨rfl, fun c => ⟨c.mem, nodup_wr s r v c.regs, c.tiles, c.plots, c.cores, c.ckp⟩, le_refl _, FusesHold.refl s, le_refl _,
    fun q => by
      by_cases e : r = q
      · subst e; exact .inl hF
      · exact .inr (rd_wr_ne s v e),
    .refl _, .refl _, .refl _, .refl _, .refl _, .refl _, .refl _, .refl _, .refl _, .refl _, .refl _, .refl _, .refl _, .refl _, .refl _, .refl _, .refl _, .refl _, .refl _, .refl _, .refl _, .refl _⟩

theorem wrCommit_keeps {F : Nat} {s0 s : State} (h : Keeps F s0 s) (r : Reg) (v : Word) (hF : r.within F = true) : Keeps F s0 (wrCommit s r v) :=
  wr_keeps h _ _ hF
theorem wrFld_keeps {F : Nat} {s0 s : State} (h : Keeps F s0 s) (r : Reg) (hi lo v : Nat) (hF : r.within F = true) : Keeps F s0 (wrFld s r hi lo v) :=
  wr_keeps h _ _ hF
theorem wrBit_keeps {F : Nat} {s0 s : State} (h : Keeps F s0 s) (r : Reg) (i : Nat) (b : Bool) (hF : r.within F = true) : Keeps F s0 (wrBit s r i b) :=
  wr_keeps h _ _ hF
theorem orReg_keeps {F : Nat} {s0 s : State} (h : Keeps F s0 s) (r : Reg) (m : Word) (hF : r.within F = true) : Keeps F s0 (orReg s r m) :=
  wr_keeps h _ _ hF
theorem count_keeps {F : Nat} {s0 s : State} (h : Keeps F s0 s) (r : Reg) (n : Nat) (hF : r.within F = true) : Keeps F s0 (count s r n) :=
  wr_keeps h _ _ hF

theorem regFind_filter (l : List (Reg × Word)) (p : Reg → Bool) (r : Reg) (h : p r = false) :
    regFind (l.filter (fun e => !p e.1)) r = regFind l r := by
  induction l with
  | nil => rfl
  | cons e rest ih =>
    obtain ⟨q, v⟩ := e
    by_cases hq : q = r
    · subst hq; simp [regFind, h]
    · by_cases hp : p q = true
      · simp [regFind, hp, hq, ih]
      · simp [regFind, hp, hq, ih]

theorem resetRegs_keeps {F : Nat} {s0 s : State} (h : Keeps F s0 s) (p : Reg → Bool) (hF : ∀ r, p r = true → r.within F = true) :
    Keeps F s0 (resetRegs s p) :=
  h.trans ⟨rfl, fun c => ⟨c.mem, c.regs.sublist (List.Sublist.map _ List.filter_sublist), c.tiles, c.plots, c.cores, c.ckp⟩, le_refl _,
    FusesHold.refl s, le_refl _,
    fun q => by
      by_cases e : p q = true
      · exact .inl (hF q e)
      · exact .inr (by simp [rd, resetRegs, regFind_filter _ _ _ (Bool.eq_false_iff.2 e)]),
    .refl _, .refl _, .refl _, .refl _, .refl _, .refl _, .refl _, .refl _, .refl _, .refl _, .refl _, .refl _, .refl _, .refl _, .refl _, .refl _, .refl _, .refl _, .refl _, .refl _, .refl _, .refl _⟩

theorem setTile_keeps {F : Nat} {s0 s : State} (h : Keeps F s0 s) (t : Nat) (x : TileState) (hF : F.testBit 6 = true) : Keeps F s0 (setTile s t x) :=
  h.trans ⟨rfl, fun c => ⟨c.mem, c.regs, mapRising_mapInsert _ _ _ c.tiles, c.plots, c.cores, c.ckp⟩, le_refl _, FusesHold.refl s, le_refl _, fun _ => .inr rfl,
    .refl _, .refl _, .refl _, .refl _, .inl hF, .refl _, .refl _, .refl _, .refl _, .refl _, .refl _, .refl _, .refl _, .refl _, .refl _, .refl _, .refl _, .refl _, .refl _, .refl _, .refl _, .refl _⟩

theorem setPlot_keeps {F : Nat} {s0 s : State} (h : Keeps F s0 s) (p : Nat) (x : PlotState) (hF : F.testBit 7 = true) : Keeps F s0 (setPlot s p x) :=
  h.trans ⟨rfl, fun c => ⟨c.mem, c.regs, c.tiles, mapRising_mapInsert _ _ _ c.plots, c.cores, c.ckp⟩, le_refl _, FusesHold.refl s, le_refl _, fun _ => .inr rfl,
    .refl _, .refl _, .refl _, .refl _, .refl _, .inl hF, .refl _, .refl _, .refl _, .refl _, .refl _, .refl _, .refl _, .refl _, .refl _, .refl _, .refl _, .refl _, .refl _, .refl _, .refl _, .refl _⟩

theorem setCore_keeps {F : Nat} {s0 s : State} (h : Keeps F s0 s) (n : Nat) (x : CoreState) (hF : F.testBit 8 = true) : Keeps F s0 (setCore s n x) :=
  h.trans ⟨rfl, fun c => ⟨c.mem, c.regs, c.tiles, c.plots, mapRising_mapInsert _ _ _ c.cores, c.ckp⟩, le_refl _, FusesHold.refl s, le_refl _, fun _ => .inr rfl,
    .refl _, .refl _, .refl _, .refl _, .refl _, .refl _, .inl hF, .refl _, .refl _, .refl _, .refl _, .refl _, .refl _, .refl _, .refl _, .refl _, .refl _, .refl _, .refl _, .refl _, .refl _, .refl _⟩

theorem draw_keeps {F : Nat} {s0 s : State} (h : Keeps F s0 s) (hF : F.testBit 4 = true) : Keeps F s0 (draw s) :=
  h.trans ⟨rfl, fun c => ⟨c.mem, c.regs, c.tiles, c.plots, c.cores, c.ckp⟩, Nat.le_succ _, FusesHold.refl s, le_refl _, fun _ => .inr rfl,
    .refl _, .refl _, .inl hF, .refl _, .refl _, .refl _, .refl _, .refl _, .refl _, .refl _, .refl _, .refl _, .refl _, .refl _, .refl _, .refl _, .refl _, .refl _, .refl _, .refl _, .refl _, .refl _⟩

/-- A new memory in canonical form, and the watched ranges with it. -/
theorem Keeps.mem_ {F : Nat} {s0 s : State} (h : Keeps F s0 s) (m : Memory) (w : List (Nat × Nat × Bool)) (hm : s.mem.wf = true → m.wf = true) (hF : F.testBit 2 = true)
    (hW : F.testBit 3 = true) : Keeps F s0 { s with mem := m, watched := w } :=
  h.trans ⟨rfl, fun c => ⟨hm c.mem, c.regs, c.tiles, c.plots, c.cores, c.ckp⟩, le_refl _, FusesHold.refl s, le_refl _, fun _ => .inr rfl,
    .inl hF, .inl hW, .refl _, .refl _, .refl _, .refl _, .refl _, .refl _, .refl _, .refl _, .refl _, .refl _, .refl _, .refl _, .refl _, .refl _, .refl _, .refl _, .refl _, .refl _, .refl _, .refl _⟩

theorem wrByte_keeps {F : Nat} {s0 s : State} (h : Keeps F s0 s) (a : Nat) (b : Byte) (hF : F.testBit 2 = true) (hW : F.testBit 3 = true) : Keeps F s0 (wrByte s a b) :=
  h.mem_ _ _ (wf_memSet _ _ _) hF hW

theorem wrBytesQuiet_keeps {F : Nat} {s0 s : State} (h : Keeps F s0 s) (a : Nat) (bs : List Byte) (hF : F.testBit 2 = true) (hW : F.testBit 3 = true) :
    Keeps F s0 (wrBytesQuiet s a bs) := h.mem_ _ _ (wf_memSetAll _ _ _) hF hW

/-- The register families of the fabric island. -/
theorem island3_bit (r : Reg) (h : (regIsland r == 3) = true) : r.within 0x7f8000000000000000000000000007fe000000000000000000000000 = true := by
  cases r <;> first | rfl | (exfalso; simp only [regIsland, beq_iff_eq] at h; omega)

/-- The register families of the packet engine. -/
theorem island4_bit (r : Reg) (h : (regIsland r == 4) = true) : r.within 0x7ffffffffffff8000000000000000000000000000000 = true := by
  cases r <;> first | rfl | (exfalso; simp only [regIsland, beq_iff_eq] at h; omega)

/-- The register families of the PCIe island. -/
theorem island5_bit (r : Reg) (h : (regIsland r == 5) = true) : r.within 0x1fff80000000000007c00000000000000000000001000000 = true := by
  cases r <;> first | rfl | (exfalso; simp only [regIsland, beq_iff_eq] at h; omega)

/-- The register families of a tile island. -/
theorem islandTile_bit (t : Nat) (r : Reg) (h : (regIsland r == 64 + t) = true) : r.within 0x1fffffffffffe000000 = true := by
  cases r <;> first | rfl | (exfalso; simp only [regIsland, beq_iff_eq] at h; omega)

/-- Every register family. -/
theorem anyReg_bit (r : Reg) : r.within 0x1ffffffffffffffffffffffffffffffffffffffffffffffffffff000000 = true := by
  cases r <;> rfl

/-- Applying an operation that keeps, for each number of a list. -/
theorem forAll_keeps {F : Nat} {s0 s : State} (h : Keeps F s0 s) (f : State → Nat → State) (l : List Nat) (hf : ∀ s n, Keeps F s0 s → Keeps F s0 (f s n)) :
    Keeps F s0 (forAll f s l) := by
  induction l generalizing s with
  | nil => exact h
  | cons n rest ih => exact ih (hf s n h)

theorem foldl_keeps {α : Type} {F : Nat} {s0 s : State} (h : Keeps F s0 s) (f : State → α → State) (l : List α) (hf : ∀ s n, Keeps F s0 s → Keeps F s0 (f s n)) :
    Keeps F s0 (l.foldl f s) := by
  induction l generalizing s with
  | nil => exact h
  | cons n rest ih => exact ih (hf s n h)

theorem foldlFst_keeps {α β : Type} {F : Nat} {s0 : State} {e : State × β} (h : KeepsFst F s0 e) (f : State × β → α → State × β) (l : List α)
    (hf : ∀ e n, KeepsFst F s0 e → KeepsFst F s0 (f e n)) : KeepsFst F s0 (l.foldl f e) := by
  induction l generalizing e with
  | nil => exact h
  | cons n rest ih => exact ih (hf e n h)

end Sys2Proof.Machine
end

