-- ==== Sys2Proof/Laws/KeepsShared.lean ====
section
/-! SUPPORT. What Keeps says of the shared operations on registers, tiles, plots, events, messages and memory, and of what rests on
them: one lemma an operation. -/
set_option Elab.async false
namespace Sys2Proof.Machine

theorem onTile_keeps {F : Nat} {s0 : State} {s : State} (hs : Keeps F s0 s) (t : Nat) (f : TileState → TileState)  (hF : Within 0x40 F) :
    Keeps F s0 (onTile s t f) := by
  unfold onTile
  repeat' first
    | with_reducible assumption | with_reducible refine setTile_keeps ?_ _ _ (hF.bit rfl)

theorem applyFallow_keeps {F : Nat} {s0 : State} {s : State} (hs : Keeps F s0 s) (t : Nat) (g : Nat)  (hF : Within 0x800000040 F) :
    Keeps F s0 (applyFallow s t g) := by
  unfold applyFallow
  repeat' first
    | with_reducible assumption | with_reducible refine Keeps.ite ?_ ?_ | with_reducible refine onTile_keeps ?_ _ _ (hF.via rfl)
    | with_reducible refine wrFld_keeps ?_ _ _ _ _ (hF.reg rfl)

theorem arrError_keeps {F : Nat} {s0 : State} {s : State} (hs : Keeps F s0 s) (t : Nat) (g : Nat) (sl : Nat) (bits : List Nat)  (hF : Within 0x18000000 F) :
    Keeps F s0 (arrError s t g sl bits) := by
  unfold arrError
  repeat' first
    | with_reducible assumption | with_reducible intro _ | with_reducible refine Keeps.ite ?_ ?_ | with_reducible refine forAll_keeps ?_ _ _ ?_
    | with_reducible refine wrBit_keeps ?_ _ _ _ (hF.reg rfl) | with_reducible refine wr_keeps ?_ _ _ (hF.reg rfl)

theorem onCore_keeps {F : Nat} {s0 : State} {s : State} (hs : Keeps F s0 s) (c : Nat) (f : CoreState → CoreState)  (hF : Within 0x100 F) :
    Keeps F s0 (onCore s c f) := by
  unfold onCore
  repeat' first
    | with_reducible assumption | with_reducible refine setCore_keeps ?_ _ _ (hF.bit rfl)

theorem coreIrq_keeps {F : Nat} {s0 : State} {s : State} (hs : Keeps F s0 s) (c : Nat) (v : Nat)  (hF : Within 0x100 F) :
    Keeps F s0 (coreIrq s c v) := by
  unfold coreIrq
  repeat' first
    | with_reducible assumption | with_reducible refine onCore_keeps ?_ _ _ (hF.via rfl)

theorem irqCores_keeps {F : Nat} {s0 : State} {s : State} (hs : Keeps F s0 s) (cs : List Nat) (v : Nat)  (hF : Within 0x100 F) :
    Keeps F s0 (irqCores s cs v) := by
  unfold irqCores
  repeat' first
    | with_reducible assumption | with_reducible intro _ | with_reducible refine forAll_keeps ?_ _ _ ?_
    | with_reducible refine coreIrq_keeps ?_ _ _ (hF.via rfl)

theorem recordEvent_keeps {F : Nat} {s0 : State} {s : State} (hs : Keeps F s0 s) (code : Nat) (plot : Nat) (sev : Nat) (island : Nat) (object : Nat) (value : Word) (extra : Nat)  (hF : Within 0x1000000000000000000000000000000000000000000000000000000800 F) :
    Keeps F s0 (recordEvent s code plot sev island object value extra) := by
  unfold recordEvent
  repeat' first
    | with_reducible assumption | (intro x; subst x) | with_reducible refine Keeps.ite ?_ ?_ | with_reducible refine count_keeps ?_ _ _ (hF.reg rfl)
    | lift_lets | with_reducible refine Keeps.mk_ ?_ rfl rfl id id

theorem shError_keeps {F : Nat} {s0 : State} {s : State} (hs : Keeps F s0 s) (t : Nat) (cyc : Nat) (desc : Nat) (bits : List Nat)  (hF : Within 0x60000000000 F) :
    Keeps F s0 (shError s t cyc desc bits) := by
  unfold shError
  repeat' first
    | with_reducible assumption | with_reducible intro _ | with_reducible refine Keeps.ite ?_ ?_ | with_reducible refine forAll_keeps ?_ _ _ ?_
    | with_reducible refine wrBit_keeps ?_ _ _ _ (hF.reg rfl) | with_reducible refine wr_keeps ?_ _ _ (hF.reg rfl)

theorem emit_keeps {F : Nat} {s0 : State} {s : State} (hs : Keeps F s0 s) (o : Output)  (hF : Within 0x200 F) :
    Keeps F s0 (emit s o) := by
  unfold emit
  repeat' first
    | with_reducible assumption | with_reducible refine Keeps.mk_ ?_ rfl rfl id id

theorem onPlot_keeps {F : Nat} {s0 : State} {s : State} (hs : Keeps F s0 s) (p : Nat) (f : PlotState → PlotState)  (hF : Within 0x80 F) :
    Keeps F s0 (onPlot s p f) := by
  unfold onPlot
  repeat' first
    | with_reducible assumption | with_reducible refine setPlot_keeps ?_ _ _ (hF.bit rfl)

theorem tellLeader_keeps {F : Nat} {s0 : State} {s : State} (hs : Keeps F s0 s) (p : Nat)  (hF : Within 0x280 F) :
    Keeps F s0 (tellLeader s p) := by
  unfold tellLeader
  repeat' first
    | with_reducible assumption | with_reducible refine Keeps.ite ?_ ?_ | with_reducible refine emit_keeps ?_ _ (hF.via rfl)
    | with_reducible refine onPlot_keeps ?_ _ _ (hF.via rfl)

theorem discardUnsent_keeps {F : Nat} {s0 : State} {s : State} (hs : Keeps F s0 s) (p : Nat)  (hF : Within 0x100080 F) :
    Keeps F s0 (discardUnsent s p) := by
  unfold discardUnsent
  repeat' first
    | with_reducible assumption | (intro x; subst x) | with_reducible refine onPlot_keeps ?_ _ _ (hF.via rfl) | lift_lets
    | with_reducible refine Keeps.mk_ ?_ rfl rfl id id

theorem freezeLater_keeps {F : Nat} {s0 : State} {s : State} (hs : Keeps F s0 s) (p : Nat)  (hF : Within 0x100280 F) :
    Keeps F s0 (freezeLater s p) := by
  unfold freezeLater
  repeat' first
    | with_reducible assumption | with_reducible refine Keeps.ite ?_ ?_ | with_reducible refine tellLeader_keeps ?_ _ (hF.via rfl)
    | with_reducible refine discardUnsent_keeps ?_ _ (hF.via rfl) | with_reducible refine onPlot_keeps ?_ _ _ (hF.via rfl)

theorem land_keeps {F : Nat} {s0 : State} {s : State} (hs : Keeps F s0 s) (t : Nat) (l : Landing)  (hF : Within 0x40 F) :
    Keeps F s0 (land s t l) := by
  unfold land
  repeat' first
    | with_reducible assumption | with_reducible refine onTile_keeps ?_ _ _ (hF.via rfl)

theorem landBeats_keeps {F : Nat} {s0 : State} {s : State} (hs : Keeps F s0 s) (t : Nat) (cyc : Nat) (addr : Nat) (bs : List Byte)  (hF : Within 0x40 F) :
    Keeps F s0 (landBeats s t cyc addr bs) := by
  unfold landBeats
  repeat' first
    | with_reducible assumption | with_reducible intro _ | with_reducible refine forAll_keeps ?_ _ _ ?_
    | with_reducible refine land_keeps ?_ _ _ (hF.via rfl)

theorem setActive_keeps {F : Nat} {s0 : State} {s : State} (hs : Keeps F s0 s) (t : Nat)  (hF : Within 0x4000000 F) :
    Keeps F s0 (setActive s t) := by
  unfold setActive
  repeat' first
    | with_reducible assumption | with_reducible refine wrFld_keeps ?_ _ _ _ _ (hF.reg rfl)

theorem spRecord_keeps {F : Nat} {s0 : State} {s : State} (hs : Keeps F s0 s) (t : Nat) (bank : Nat) (line : Nat) (m : Nat)  (hF : Within 0x200000000000000000 F) :
    Keeps F s0 (spRecord s t bank line m) := by
  unfold spRecord
  repeat' first
    | with_reducible assumption | with_reducible refine Keeps.ite ?_ ?_ | with_reducible refine wr_keeps ?_ _ _ (hF.reg rfl)

theorem onCkp_keeps {F : Nat} {s0 s : State} (hs : Keeps F s0 s) (p : Nat) (f : CkpState → CkpState) (hF : Within 0x10000 F) : Keeps F s0 (onCkp s p f) :=
  hs.trans ⟨rfl, fun c => ⟨c.mem, c.regs, c.tiles, c.plots, c.cores, mapRising_mapInsert _ _ _ c.ckp⟩, le_refl _, FusesHold.refl s, le_refl _, fun _ => .inr rfl,
    .refl _, .refl _, .refl _, .refl _, .refl _, .refl _, .refl _, .refl _, .refl _, .refl _, .refl _, .refl _, .refl _, .refl _, .inl (hF.bit rfl), .refl _, .refl _, .refl _, .refl _, .refl _, .refl _, .refl _⟩

theorem markDirty_keeps {F : Nat} {s0 : State} {s : State} (hs : Keeps F s0 s) (a : Nat) (n : Nat)  (hF : Within 0x60000 F) :
    Keeps F s0 (markDirty s a n) := by
  unfold markDirty
  repeat' first
    | with_reducible assumption | (intro x; subst x) | lift_lets | with_reducible refine Keeps.mk_ ?_ rfl rfl id id

theorem wrBytes_keeps {F : Nat} {s0 : State} {s : State} (hs : Keeps F s0 s) (a : Nat) (bs : List Byte)  (hF : Within 0x6000c F) :
    Keeps F s0 (wrBytes s a bs) := by
  unfold wrBytes
  repeat' first
    | with_reducible assumption | with_reducible refine wrBytesQuiet_keeps ?_ _ _ (hF.bit rfl) (hF.bit rfl)
    | with_reducible refine markDirty_keeps ?_ _ _ (hF.via rfl)

theorem setCkp_keeps {F : Nat} {s0 : State} {s : State} (hs : Keeps F s0 s) (p : Nat) (st : Nat) (code : Nat)  (hF : Within 0x800000000000000000000000000000000000000000000000000100 F) :
    Keeps F s0 (setCkp s p st code) := by
  unfold setCkp
  repeat' first
    | with_reducible assumption | with_reducible refine irqCores_keeps ?_ _ _ (hF.via rfl) | with_reducible refine wrFld_keeps ?_ _ _ _ _ (hF.reg rfl)

theorem ckpFail_keeps {F : Nat} {s0 : State} {s : State} (hs : Keeps F s0 s) (p : Nat) (code : Nat)  (hF : Within 0x100080000000000000000000000000000000000000000000000007890c F) :
    Keeps F s0 (ckpFail s p code) := by
  unfold ckpFail
  repeat' first
    | with_reducible assumption | (intro x; subst x) | with_reducible intro _ | with_reducible refine onCkp_keeps ?_ _ _ (hF.via rfl)
    | with_reducible refine wrBytes_keeps ?_ _ _ (hF.via rfl) | with_reducible refine setCkp_keeps ?_ _ _ _ (hF.via rfl)
    | with_reducible refine recordEvent_keeps ?_ _ _ _ _ _ _ _ (hF.via rfl) | with_reducible refine foldl_keeps ?_ _ _ ?_ | lift_lets
    | with_reducible refine Keeps.mk_ ?_ rfl rfl id id

theorem ckpLost_keeps {F : Nat} {s0 : State} {s : State} (hs : Keeps F s0 s) (p : Nat) (page : Nat)  (hF : Within 0x100080000000000000000000000000000000000000000000000007890c F) :
    Keeps F s0 (ckpLost s p page) := by
  unfold ckpLost
  repeat' first
    | with_reducible assumption | with_reducible refine Keeps.ite ?_ ?_ | with_reducible refine ckpFail_keeps ?_ _ _ (hF.via rfl)

theorem setPlt_keeps {F : Nat} {s0 : State} {s : State} (hs : Keeps F s0 s) (p : Nat) (v : Nat)  (hF : Within 0x200000000000000000000000000000004000000000000000000 F) :
    Keeps F s0 (setPlt s p v) := by
  unfold setPlt
  repeat' first
    | with_reducible assumption | with_reducible refine wrFld_keeps ?_ _ _ _ _ (hF.reg rfl)

theorem freezePlot_keeps {F : Nat} {s0 : State} {s : State} (hs : Keeps F s0 s) (p : Nat) (object : Nat) (value : Word) (extra : Nat)  (hF : Within 0x1000000200000000000000000000000008000004000000000000100b80 F) :
    Keeps F s0 (freezePlot s p object value extra) := by
  unfold freezePlot
  repeat' first
    | with_reducible assumption | with_reducible refine Keeps.ite ?_ ?_ | with_reducible refine recordEvent_keeps ?_ _ _ _ _ _ _ _ (hF.via rfl)
    | with_reducible refine irqCores_keeps ?_ _ _ (hF.via rfl) | with_reducible refine wrBit_keeps ?_ _ _ _ (hF.reg rfl)
    | with_reducible refine tellLeader_keeps ?_ _ (hF.via rfl) | with_reducible refine discardUnsent_keeps ?_ _ (hF.via rfl)
    | with_reducible refine setPlt_keeps ?_ _ _ (hF.via rfl)

theorem spEcc_keeps {F : Nat} {s0 : State} {s : State} (hs : Keeps F s0 s) (t : Nat) (bank : Nat) (line : Nat) (m : Nat) (e : Ecc)  (hF : Within 0x1000800200000000000000000000000008000004700000000000178bcc F) :
    Keeps F s0 (spEcc s t bank line m e) := by
  unfold spEcc
  repeat' first
    | with_reducible assumption | (intro x; refine keeps_cut (F := F) (s0 := s0) x ?_ ?_ <;> [subst x; (clear_value x; intro _)])
    | with_reducible refine count_keeps ?_ _ _ (hF.reg rfl) | with_reducible refine spRecord_keeps ?_ _ _ _ _ (hF.via rfl)
    | with_reducible refine wrBit_keeps ?_ _ _ _ (hF.reg rfl) | with_reducible refine onTile_keeps ?_ _ _ (hF.via rfl)
    | with_reducible refine ckpLost_keeps ?_ _ _ (hF.via rfl) | with_reducible refine freezePlot_keeps ?_ _ _ _ _ (hF.via rfl) | lift_lets | split

theorem countMxNan_keeps {F : Nat} {s0 : State} {s : State} (hs : Keeps F s0 s) (t : Nat) (cyc : Nat) (desc : Nat) (n : Nat)  (hF : Within 0x160000000000 F) :
    Keeps F s0 (countMxNan s t cyc desc n) := by
  unfold countMxNan
  repeat' first
    | with_reducible assumption | with_reducible refine Keeps.ite ?_ ?_ | with_reducible refine shError_keeps ?_ _ _ _ _ (hF.via rfl)
    | with_reducible refine count_keeps ?_ _ _ (hF.reg rfl)

theorem finalOutput_keeps {F : Nat} {s0 : State} {s : State} (hs : Keeps F s0 s) (t : Nat) (desc : Nat) (vals : List ℤ) (f : FinalOut)  (hF : Within 0x160000000040 F) :
    Keeps F s0 (finalOutput s t desc vals f) := by
  unfold finalOutput
  repeat' first
    | with_reducible assumption | with_reducible refine Keeps.ite ?_ ?_ | with_reducible refine landBeats_keeps ?_ _ _ _ _ (hF.via rfl)
    | with_reducible refine countMxNan_keeps ?_ _ _ _ _ (hF.via rfl)

theorem unwatch_keeps {F : Nat} {s0 : State} {s : State} (hs : Keeps F s0 s) (t : Nat)  (hF : Within 0x8 F) :
    KeepsFst F s0 (unwatch s t) := by
  unfold unwatch
  repeat' first
    | with_reducible assumption | (intro x; subst x) | lift_lets | with_reducible refine KeepsFst.of ?_ | dsimp only
    | with_reducible refine Keeps.mk_ ?_ rfl rfl id id

theorem onXing_keeps {F : Nat} {s0 : State} {s : State} (hs : Keeps F s0 s) (p : Nat) (x : Nat) (f : Xing → Xing)  (hF : Within 0x80 F) :
    Keeps F s0 (onXing s p x f) := by
  unfold onXing
  repeat' first
    | with_reducible assumption | with_reducible refine onPlot_keeps ?_ _ _ (hF.via rfl)

theorem landOne_keeps {F : Nat} {s0 : State} {s : State} (hs : Keeps F s0 s) (t : Nat) (l : Landing)  (hF : Within 0x3e00000600dc F) :
    Keeps F s0 (landOne s t l) := by
  unfold landOne
  repeat' first
    | with_reducible assumption | (intro x; refine keeps_cut (F := F) (s0 := s0) x ?_ ?_ <;> [subst x; (clear_value x; intro _)])
    | (intro x; refine keepsFst_cut (F := F) (s0 := s0) x ?_ ?_ <;> [subst x; (clear_value x; intro _)])
    | (intro x; clear_value x) | with_reducible intro _ | with_reducible refine Keeps.ite ?_ ?_
    | with_reducible refine onTile_keeps ?_ _ _ (hF.via rfl) | with_reducible refine wrBytes_keeps ?_ _ _ (hF.via rfl)
    | with_reducible refine land_keeps ?_ _ _ (hF.via rfl) | with_reducible refine shError_keeps ?_ _ _ _ _ (hF.via rfl)
    | with_reducible refine count_keeps ?_ _ _ (hF.reg rfl) | with_reducible refine finalOutput_keeps ?_ _ _ _ _ (hF.via rfl)
    | with_reducible refine unwatch_keeps ?_ _ (hF.via rfl) | with_reducible refine draw_keeps ?_ (hF.bit rfl)
    | with_reducible refine onXing_keeps ?_ _ _ _ (hF.via rfl) | with_reducible refine foldl_keeps ?_ _ _ ?_ | with_reducible refine KeepsFst.fst ?_
    | lift_lets | split | dsimp only

theorem landUpTo_keeps {F : Nat} {s0 : State} {s : State} (hs : Keeps F s0 s) (a1 : Nat) (a3 : Nat) (a4 : Nat)  (hF : Within 0x3e00000600dc F) :
    Keeps F s0 (landUpTo a1 s a3 a4) := by
  induction a1 generalizing s a3 a4 with
  | zero =>
    unfold landUpTo
    exact hs
  | succ n ih =>
    unfold landUpTo
    repeat' first
      | with_reducible apply ih | with_reducible assumption | with_reducible refine Keeps.ite ?_ ?_
      | with_reducible refine landOne_keeps ?_ _ _ (hF.via rfl) | with_reducible refine onTile_keeps ?_ _ _ (hF.via rfl) | split

theorem dropRing_keeps {F : Nat} {s0 : State} {s : State} (hs : Keeps F s0 s) (c : Nat)  (hF : Within 0x40000000000000000000000000000080000 F) :
    Keeps F s0 (dropRing s c) := by
  unfold dropRing
  repeat' first
    | with_reducible assumption | (intro x; refine keeps_cut (F := F) (s0 := s0) x ?_ ?_ <;> [subst x; (clear_value x; intro _)])
    | (intro x; subst x) | with_reducible intro _ | with_reducible refine count_keeps ?_ _ _ (hF.reg rfl)
    | with_reducible refine foldl_keeps ?_ _ _ ?_ | lift_lets | with_reducible refine Keeps.mk_ ?_ rfl rfl id id

theorem setNvState_keeps {F : Nat} {s0 : State} {s : State} (hs : Keeps F s0 s) (c : Nat) (v : Nat)  (hF : Within 0x800000000000000000000000000 F) :
    Keeps F s0 (setNvState s c v) := by
  unfold setNvState
  repeat' first
    | with_reducible assumption | with_reducible refine wrFld_keeps ?_ _ _ _ _ (hF.reg rfl)

theorem stopCore_keeps {F : Nat} {s0 : State} {s : State} (hs : Keeps F s0 s) (c : Nat) (cause : Nat)  (hF : Within 0x1000000000000000000000040000008800000000000000000000080900 F) :
    Keeps F s0 (stopCore s c cause) := by
  unfold stopCore
  repeat' first
    | with_reducible assumption | with_reducible refine Keeps.ite ?_ ?_ | with_reducible refine wr_keeps ?_ _ _ (hF.reg rfl)
    | with_reducible refine dropRing_keeps ?_ _ (hF.via rfl) | with_reducible refine wrFld_keeps ?_ _ _ _ _ (hF.reg rfl)
    | with_reducible refine setNvState_keeps ?_ _ _ (hF.via rfl) | with_reducible refine irqCores_keeps ?_ _ _ (hF.via rfl)
    | with_reducible refine recordEvent_keeps ?_ _ _ _ _ _ _ _ (hF.via rfl)

theorem clearIrq_keeps {F : Nat} {s0 : State} {s : State} (hs : Keeps F s0 s) (c : Nat) (v : Nat)  (hF : Within 0x100 F) :
    Keeps F s0 (clearIrq s c v) := by
  unfold clearIrq
  repeat' first
    | with_reducible assumption | with_reducible refine onCore_keeps ?_ _ _ (hF.via rfl)

theorem haltsHandled_keeps {F : Nat} {s0 : State} {s : State} (hs : Keeps F s0 s)  (hF : Within 0x100 F) :
    Keeps F s0 (haltsHandled s) := by
  unfold haltsHandled
  repeat' first
    | with_reducible assumption | with_reducible intro _ | with_reducible refine Keeps.ite ?_ ?_ | with_reducible refine forAll_keeps ?_ _ _ ?_
    | with_reducible refine clearIrq_keeps ?_ _ _ (hF.via rfl)

theorem loadCore_keeps {F : Nat} {s0 : State} {sx : State} (hsx : Keeps F s0 sx) (c : Nat) (k : Component) (keep : Bool)  (hF : Within 0x1000000000000000000000040000029800000000000000000000080900 F) :
    Keeps F s0 (loadCore sx c k keep) := by
  unfold loadCore
  repeat' first
    | with_reducible assumption | with_reducible refine Keeps.ite ?_ ?_ | with_reducible refine stopCore_keeps ?_ _ _ (hF.via rfl)
    | with_reducible refine wrFld_keeps ?_ _ _ _ _ (hF.reg rfl) | with_reducible refine setCore_keeps ?_ _ _ (hF.bit rfl)
    | with_reducible refine wrBit_keeps ?_ _ _ _ (hF.reg rfl) | with_reducible refine haltsHandled_keeps ?_ (hF.via rfl)
    | with_reducible refine setNvState_keeps ?_ _ _ (hF.via rfl)

theorem loadEngine_keeps {F : Nat} {s0 : State} {s : State} (hs : Keeps F s0 s) (t : Nat) (k : Component)  (hF : Within 0x4000 F) :
    Keeps F s0 (loadEngine s t k) := by
  unfold loadEngine
  repeat' first
    | with_reducible assumption | (intro x; subst x) | lift_lets | with_reducible refine Keeps.mk_ ?_ rfl rfl id id

theorem loadReceiver_keeps {F : Nat} {s0 : State} {s : State} (hs : Keeps F s0 s) (r : Nat) (k : Component) (keep : Bool)  (hF : Within 0x1000000000000000000000040000029800000000000000000000084900 F) :
    Keeps F s0 (loadReceiver s r k keep) := by
  unfold loadReceiver
  repeat' first
    | with_reducible assumption | with_reducible refine Keeps.ite ?_ ?_ | with_reducible refine loadCore_keeps ?_ _ _ _ (hF.via rfl)
    | with_reducible refine loadEngine_keeps ?_ _ _ (hF.via rfl)

theorem loadReceivers_keeps {F : Nat} {s0 : State} {s : State} (hs : Keeps F s0 s) (k : Component)  (hF : Within 0x1000000000000000000000040000029800000000000000000000084900 F) :
    Keeps F s0 (loadReceivers s k) := by
  unfold loadReceivers
  repeat' first
    | with_reducible assumption | with_reducible intro _ | with_reducible refine forAll_keeps ?_ _ _ ?_
    | with_reducible refine loadReceiver_keeps ?_ _ _ _ (hF.via rfl)

theorem onHost_keeps {F : Nat} {s0 : State} {s : State} (hs : Keeps F s0 s) (g : HostState → HostState)  (hF : Within 0x400 F) :
    Keeps F s0 (onHost s g) := by
  unfold onHost
  repeat' first
    | with_reducible assumption | with_reducible refine Keeps.mk_ ?_ rfl rfl id id

theorem assignPlot_keeps {F : Nat} {s0 : State} {s : State} (hs : Keeps F s0 s) (p : Nat) (d : PlotDef)  (hF : Within 0x800000002000000400c00000300000000000000000000000000 F) :
    Keeps F s0 (assignPlot s p d) := by
  unfold assignPlot
  repeat' first
    | with_reducible assumption | with_reducible intro _ | with_reducible refine forAll_keeps ?_ _ _ ?_
    | with_reducible refine wr_keeps ?_ _ _ (hF.reg rfl) | with_reducible refine wrFld_keeps ?_ _ _ _ _ (hF.reg rfl)

theorem definePlot_keeps {F : Nat} {s0 : State} {s : State} (hs : Keeps F s0 s) (p : Nat) (d : PlotDef)  (hF : Within 0xa00000002000000400c00000300000004000000000000000000 F) :
    Keeps F s0 (definePlot s p d) := by
  unfold definePlot
  repeat' first
    | with_reducible assumption | with_reducible refine Keeps.ite ?_ ?_ | with_reducible refine assignPlot_keeps ?_ _ _ (hF.via rfl)
    | with_reducible refine setPlt_keeps ?_ _ _ (hF.via rfl)

theorem onSec_keeps {F : Nat} {s0 s : State} (hs : Keeps F s0 s) (f : SecState → SecState) (hu : (f s.sec).fuses = s.sec.fuses) (he : (f s.sec).epoch = s.sec.epoch) (hF : F.testBit 22 = true) :
    Keeps F s0 (onSec s f) :=
  hs.mk_ hu he id id (h_sec := .inl hF)

theorem resetCores_keeps {F : Nat} {s0 : State} {s : State} (hs : Keeps F s0 s) (cs : List Nat)  (hF : Within 0x800000000000000000000000100 F) :
    Keeps F s0 (resetCores s cs) := by
  unfold resetCores
  repeat' first
    | with_reducible assumption | with_reducible intro _ | with_reducible refine haltsHandled_keeps ?_ (hF.via rfl)
    | with_reducible refine forAll_keeps ?_ _ _ ?_ | with_reducible refine setNvState_keeps ?_ _ _ (hF.via rfl)
    | with_reducible refine setCore_keeps ?_ _ _ (hF.bit rfl)

theorem eraseKey_keeps {F : Nat} {s0 : State} {s : State} (hs : Keeps F s0 s) (n : Nat)  (hF : Within 0x400000000000000000000008000 F) :
    Keeps F s0 (eraseKey s n) := by
  unfold eraseKey
  repeat' first
    | with_reducible assumption | (intro x; subst x) | with_reducible refine wrBit_keeps ?_ _ _ _ (hF.reg rfl) | lift_lets
    | with_reducible refine Keeps.mk_ ?_ rfl rfl id id

theorem onRma_keeps {F : Nat} {s0 : State} {s : State} (hs : Keeps F s0 s) (f : RmaState → RmaState)  (hF : Within 0x100000 F) :
    Keeps F s0 (onRma s f) := by
  unfold onRma
  repeat' first
    | with_reducible assumption | with_reducible refine Keeps.mk_ ?_ rfl rfl id id

theorem onCtx_keeps {F : Nat} {s0 : State} {s : State} (hs : Keeps F s0 s) (cid : Nat) (f : Ctx → Ctx)  (hF : Within 0x100000 F) :
    Keeps F s0 (onCtx s cid f) := by
  unfold onCtx
  repeat' first
    | with_reducible assumption | with_reducible refine onRma_keeps ?_ _ (hF.via rfl)

theorem staleResult_keeps {F : Nat} {s0 : State} {s : State} (hs : Keeps F s0 s) (p : Nat)  (hF : Within 0x200000000000000000000000000000000000000000000000000 F) :
    Keeps F s0 (staleResult s p) := by
  unfold staleResult
  repeat' first
    | with_reducible assumption | with_reducible refine wrFld_keeps ?_ _ _ _ _ (hF.reg rfl)

theorem cowCopy_keeps {F : Nat} {s0 : State} {s : State} (hs : Keeps F s0 s) (p : Nat) (page : Nat)  (hF : Within 0x4000000000000000000000000000000000000000000000000010000 F) :
    Keeps F s0 (cowCopy s p page) := by
  unfold cowCopy
  repeat' first
    | with_reducible assumption | with_reducible refine onCkp_keeps ?_ _ _ (hF.via rfl) | with_reducible refine count_keeps ?_ _ _ (hF.reg rfl)

theorem noteWait_keeps {F : Nat} {s0 : State} {s : State} (hs : Keeps F s0 s) (p : Nat) (ns : Nat)  (hF : Within 0x8000000000000000000000000000000000000000000000000000000 F) :
    Keeps F s0 (noteWait s p ns) := by
  unfold noteWait
  repeat' first
    | with_reducible assumption | with_reducible refine wr_keeps ?_ _ _ (hF.reg rfl)

theorem cowPages_keeps {F : Nat} {s0 : State} {s : State} (hs : Keeps F s0 s) (r : Nat) (a : Nat) (n : Nat)  (hF : Within 0xc000000000000000000000000000000000000000000000000010000 F) :
    Keeps F s0 (cowPages s r a n) := by
  unfold cowPages
  repeat' first
    | with_reducible assumption | with_reducible intro _ | with_reducible refine Keeps.ite ?_ ?_ | with_reducible refine forAll_keeps ?_ _ _ ?_
    | with_reducible refine cowCopy_keeps ?_ _ _ (hF.via rfl) | with_reducible refine noteWait_keeps ?_ _ _ (hF.via rfl)

theorem clearBad_keeps {F : Nat} {s0 : State} {s : State} (hs : Keeps F s0 s) (a : Nat) (n : Nat)  (hF : Within 0x8000 F) :
    Keeps F s0 (clearBad s a n) := by
  unfold clearBad
  repeat' first
    | with_reducible assumption | (intro x; subst x) | lift_lets | with_reducible refine Keeps.mk_ ?_ rfl rfl id id

theorem lpxWrite_keeps {F : Nat} {s0 : State} {s : State} (hs : Keeps F s0 s) (r : Nat) (a : Nat) (bs : List Byte)  (hF : Within 0xc00000000000000000000000000000000000000000000000007800c F) :
    Keeps F s0 (lpxWrite s r a bs) := by
  unfold lpxWrite
  repeat' first
    | with_reducible assumption | (intro x; subst x) | with_reducible refine Keeps.ite ?_ ?_
    | with_reducible refine cowPages_keeps ?_ _ _ _ (hF.via rfl) | with_reducible refine wrBytes_keeps ?_ _ _ (hF.via rfl)
    | with_reducible refine clearBad_keeps ?_ _ _ (hF.via rfl) | lift_lets | split | with_reducible refine Keeps.mk_ ?_ rfl rfl id id

theorem engineWrite_keeps {F : Nat} {s0 : State} {s : State} (hs : Keeps F s0 s) (a : Nat) (bs : List Byte)  (hF : Within 0xc00000000000000000000000000000000000000000000000007800c F) :
    Keeps F s0 (engineWrite s a bs) := by
  unfold engineWrite
  repeat' first
    | with_reducible assumption | with_reducible refine lpxWrite_keeps ?_ _ _ _ (hF.via rfl) | with_reducible refine wrBytes_keeps ?_ _ _ (hF.via rfl)
    | split

theorem lpxRefused_keeps {F : Nat} {s0 : State} {s : State} (hs : Keeps F s0 s) (q : Requester) (a : Nat)  (hF : Within 0x1000000000000000000000000000000000000000000000000000000800 F) :
    Keeps F s0 (lpxRefused s q a) := by
  unfold lpxRefused
  repeat' first
    | with_reducible assumption | with_reducible refine recordEvent_keeps ?_ _ _ _ _ _ _ _ (hF.via rfl)

theorem engineRefused_keeps {F : Nat} {s0 : State} {s : State} (hs : Keeps F s0 s) (q : Requester) (a : Nat) (n : Nat) (write : Bool)  (hF : Within 0x1000000000000000000000000000000000000000200000000000000800 F) :
    Keeps F s0 (engineRefused s q a n write) := by
  unfold engineRefused
  repeat' first
    | with_reducible assumption | with_reducible refine Keeps.ite ?_ ?_ | with_reducible refine spRecord_keeps ?_ _ _ _ _ (hF.via rfl)
    | with_reducible refine lpxRefused_keeps ?_ _ _ (hF.via rfl) | split

theorem transmit_keeps {F : Nat} {s0 : State} {s : State} (hs : Keeps F s0 s) (r : HostReq) (addr : Nat)  (hF : Within 0x200000000000000000000000000000000000000000000000600 F) :
    Keeps F s0 (transmit s r addr) := by
  unfold transmit
  repeat' first
    | with_reducible assumption | with_reducible refine Keeps.ite ?_ ?_ | with_reducible refine staleResult_keeps ?_ _ (hF.via rfl)
    | with_reducible refine emit_keeps ?_ _ (hF.via rfl) | with_reducible refine onHost_keeps ?_ _ (hF.via rfl) | split

theorem issueReq_keeps {F : Nat} {s0 : State} {s : State} (hs : Keeps F s0 s) (r : HostReq)  (hF : Within 0x200000000000000000000000000000000000000000000000600 F) :
    Keeps F s0 (issueReq s r) := by
  unfold issueReq
  repeat' first
    | with_reducible assumption | (intro x; refine keeps_cut (F := F) (s0 := s0) x ?_ ?_ <;> [subst x; (clear_value x; intro _)])
    | with_reducible refine Keeps.ite ?_ ?_ | with_reducible refine onHost_keeps ?_ _ (hF.via rfl)
    | with_reducible refine transmit_keeps ?_ _ _ (hF.via rfl) | with_reducible refine emit_keeps ?_ _ (hF.via rfl) | lift_lets | split

theorem hostWriteFor_keeps {F : Nat} {s0 : State} {s : State} (hs : Keeps F s0 s) (tag : Nat) (q : HostSource) (addr : Nat) (relaxed : Bool) (bs : List Byte)  (hF : Within 0x200000000000000000000000000000000000000000000000600 F) :
    Keeps F s0 (hostWriteFor tag s q addr relaxed bs) := by
  unfold hostWriteFor
  repeat' first
    | with_reducible assumption | with_reducible intro _ | with_reducible refine issueReq_keeps ?_ _ (hF.via rfl)
    | with_reducible refine foldl_keeps ?_ _ _ ?_

theorem hostWrite_keeps {F : Nat} {s0 : State} {s : State} (hs : Keeps F s0 s) (q : HostSource) (addr : Nat) (relaxed : Bool) (bs : List Byte)  (hF : Within 0x200000000000000000000000000000000000000000000000600 F) :
    Keeps F s0 (hostWrite s q addr relaxed bs) := by
  unfold hostWrite
  repeat' first
    | with_reducible assumption | with_reducible refine hostWriteFor_keeps ?_ _ _ _ _ _ (hF.via rfl)

theorem ringWrite_keeps {F : Nat} {s0 : State} {s : State} (hs : Keeps F s0 s) (p : Nat) (off : Nat) (bs : List Byte)  (hF : Within 0x100c000200000000000000000000000000000000200000000000078e0c F) :
    Keeps F s0 (ringWrite s p off bs) := by
  unfold ringWrite
  repeat' first
    | with_reducible assumption | (intro x; clear_value x) | with_reducible refine Keeps.ite ?_ ?_
    | with_reducible refine engineWrite_keeps ?_ _ _ (hF.via rfl) | with_reducible refine engineRefused_keeps ?_ _ _ _ _ (hF.via rfl)
    | with_reducible refine hostWrite_keeps ?_ _ _ _ _ (hF.via rfl) | lift_lets | split

theorem onFn_keeps {F : Nat} {s0 : State} {s : State} (hs : Keeps F s0 s) (f : Nat) (g : FnState → FnState)  (hF : Within 0x400 F) :
    Keeps F s0 (onFn s f g) := by
  unfold onFn
  repeat' first
    | with_reducible assumption | (intro x; subst x) | lift_lets | with_reducible refine Keeps.mk_ ?_ rfl rfl id id

theorem sendMsix_keeps {F : Nat} {s0 : State} {s : State} (hs : Keeps F s0 s) (f : Nat) (v : Nat)  (hF : Within 0x600 F) :
    Keeps F s0 (sendMsix s f v) := by
  unfold sendMsix
  repeat' first
    | with_reducible assumption | with_reducible refine Keeps.ite ?_ ?_ | with_reducible refine onFn_keeps ?_ _ _ (hF.via rfl)
    | with_reducible refine emit_keeps ?_ _ (hF.via rfl)

theorem raisePme_keeps {F : Nat} {s0 : State} {s : State} (hs : Keeps F s0 s) (f : Nat) (v : Nat)  (hF : Within 0x600 F) :
    Keeps F s0 (raisePme s f v) := by
  unfold raisePme
  repeat' first
    | with_reducible assumption | (intro x; subst x) | with_reducible refine Keeps.ite ?_ ?_ | with_reducible refine onFn_keeps ?_ _ _ (hF.via rfl)
    | with_reducible refine emit_keeps ?_ _ (hF.via rfl) | lift_lets | with_reducible refine Keeps.mk_ ?_ rfl rfl id id

theorem signalFn_keeps {F : Nat} {s0 : State} {s : State} (hs : Keeps F s0 s) (f : Nat) (v : Nat)  (hF : Within 0x600 F) :
    Keeps F s0 (signalFn s f v) := by
  unfold signalFn
  repeat' first
    | with_reducible assumption | with_reducible refine Keeps.ite ?_ ?_ | with_reducible refine sendMsix_keeps ?_ _ _ (hF.via rfl)
    | with_reducible refine raisePme_keeps ?_ _ _ (hF.via rfl)

theorem postRecord_keeps {F : Nat} {s0 : State} {s : State} (hs : Keeps F s0 s) (p : Nat) (r : List Byte)  (hF : Within 0x100c000200000000004000000000000000000000200000000000178e0c F) :
    Keeps F s0 (postRecord s p r) := by
  unfold postRecord
  repeat' first
    | with_reducible assumption | with_reducible refine Keeps.ite ?_ ?_ | with_reducible refine onRma_keeps ?_ _ (hF.via rfl)
    | with_reducible refine ringWrite_keeps ?_ _ _ _ (hF.via rfl) | with_reducible refine signalFn_keeps ?_ _ _ (hF.via rfl)
    | with_reducible refine wr_keeps ?_ _ _ (hF.reg rfl)

theorem dropSource_keeps {F : Nat} {s0 : State} {s : State} (hs : Keeps F s0 s) (q : HostSource)  (hF : Within 0x400 F) :
    Keeps F s0 (dropSource s q) := by
  unfold dropSource
  repeat' first
    | with_reducible assumption | with_reducible refine onHost_keeps ?_ _ (hF.via rfl)

theorem onStg_keeps {F : Nat} {s0 : State} {s : State} (hs : Keeps F s0 s) (f : StgState → StgState)  (hF : Within 0x200000 F) :
    Keeps F s0 (onStg s f) := by
  unfold onStg
  repeat' first
    | with_reducible assumption | with_reducible refine Keeps.mk_ ?_ rfl rfl id id

theorem stgSignal_keeps {F : Nat} {s0 : State} {s : State} (hs : Keeps F s0 s) (n : Nat) (gen : Option Nat)  (hF : Within 0x8000000000000000000000000000000000000000700 F) :
    Keeps F s0 (stgSignal s n gen) := by
  unfold stgSignal
  repeat' first
    | with_reducible assumption | with_reducible refine Keeps.ite ?_ ?_ | with_reducible refine wrBit_keeps ?_ _ _ _ (hF.reg rfl)
    | with_reducible refine irqCores_keeps ?_ _ _ (hF.via rfl) | with_reducible refine signalFn_keeps ?_ _ _ (hF.via rfl)

theorem onBox_keeps {F : Nat} {s0 : State} {s : State} (hs : Keeps F s0 s) (o : Nat) (f : MailboxState → MailboxState)  (hF : Within 0x4000 F) :
    Keeps F s0 (onBox s o f) := by
  unfold onBox
  repeat' first
    | with_reducible assumption | (intro x; subst x) | lift_lets | with_reducible refine Keeps.mk_ ?_ rfl rfl id id

theorem showRequests_keeps {F : Nat} {s0 : State} {s : State} (hs : Keeps F s0 s)  (hF : Within 0x100 F) :
    Keeps F s0 (showRequests s) := by
  unfold showRequests
  repeat' first
    | with_reducible assumption | with_reducible intro _ | with_reducible refine Keeps.ite ?_ ?_ | with_reducible refine forAll_keeps ?_ _ _ ?_
    | with_reducible refine clearIrq_keeps ?_ _ _ (hF.via rfl)

theorem fillSlotBytes_keeps {F : Nat} {s0 : State} {s : State} (hs : Keeps F s0 s) (o : Nat) (r : Response)  (hF : Within 0x4000 F) :
    Keeps F s0 (fillSlotBytes s o r) := by
  unfold fillSlotBytes
  repeat' first
    | with_reducible assumption | with_reducible refine Keeps.ite ?_ ?_ | with_reducible refine onBox_keeps ?_ _ _ (hF.via rfl)

theorem postMsg_keeps {F : Nat} {s0 : State} {s : State} (hs : Keeps F s0 s) (o : Nat) (r : Response)  (hF : Within 0x2000000000000000000000000004600 F) :
    Keeps F s0 (postMsg s o r) := by
  unfold postMsg
  repeat' first
    | with_reducible assumption | with_reducible refine Keeps.ite ?_ ?_ | with_reducible refine onBox_keeps ?_ _ _ (hF.via rfl)
    | with_reducible refine fillSlotBytes_keeps ?_ _ _ (hF.via rfl) | with_reducible refine wr_keeps ?_ _ _ (hF.reg rfl)
    | with_reducible refine emit_keeps ?_ _ (hF.via rfl) | with_reducible refine signalFn_keeps ?_ _ _ (hF.via rfl)

theorem answer_keeps {F : Nat} {s0 : State} {s : State} (hs : Keeps F s0 s) (o : Nat) (seq : Word) (version : Nat) (type : Nat) (status : Nat) (detail : Nat) (payload : List Byte)  (hF : Within 0x3000000000000000000000000004700 F) :
    Keeps F s0 (answer s o seq version type status detail payload) := by
  unfold answer
  repeat' first
    | with_reducible assumption | with_reducible refine Keeps.ite ?_ ?_ | with_reducible refine onBox_keeps ?_ _ _ (hF.via rfl)
    | with_reducible refine showRequests_keeps ?_ (hF.via rfl) | with_reducible refine wr_keeps ?_ _ _ (hF.reg rfl)
    | with_reducible refine postMsg_keeps ?_ _ _ (hF.via rfl)

theorem helloDone_keeps {F : Nat} {s0 : State} {s : State} (hs : Keeps F s0 s) (o : Nat)  (hF : Within 0x400000000000003000000000000000000000000004700 F) :
    Keeps F s0 (helloDone s o) := by
  unfold helloDone
  repeat' first
    | with_reducible assumption | (intro x; refine keeps_cut (F := F) (s0 := s0) x ?_ ?_ <;> [subst x; (clear_value x; intro _)])
    | with_reducible refine Keeps.ite ?_ ?_ | with_reducible refine onBox_keeps ?_ _ _ (hF.via rfl)
    | with_reducible refine onFn_keeps ?_ _ _ (hF.via rfl) | with_reducible refine wrBit_keeps ?_ _ _ _ (hF.reg rfl)
    | with_reducible refine answer_keeps ?_ _ _ _ _ _ _ _ (hF.via rfl) | lift_lets | split

theorem ckpWritten_keeps {F : Nat} {s0 : State} {s : State} (hs : Keeps F s0 s) (p : Nat) (lo : Nat) (hi : Nat)  (hF : Within 0x2000000000000000000000000000000000000000000000000010000 F) :
    Keeps F s0 (ckpWritten s p lo hi) := by
  unfold ckpWritten
  repeat' first
    | with_reducible assumption | with_reducible refine wr_keeps ?_ _ _ (hF.reg rfl) | with_reducible refine onCkp_keeps ?_ _ _ (hF.via rfl)

theorem ckpDone_keeps {F : Nat} {s0 : State} {s : State} (hs : Keeps F s0 s) (p : Nat)  (hF : Within 0x800000000000000000000000000000000000000000000000010100 F) :
    Keeps F s0 (ckpDone s p) := by
  unfold ckpDone
  repeat' first
    | with_reducible assumption | with_reducible refine setCkp_keeps ?_ _ _ _ (hF.via rfl) | with_reducible refine onCkp_keeps ?_ _ _ (hF.via rfl)

theorem ckpStorageEnd_keeps {F : Nat} {s0 : State} {s : State} (hs : Keeps F s0 s) (n : Nat) (c : StgCmd) (code : Nat)  (hF : Within 0x100280000000000000000000000000000000000000000000000007890c F) :
    Keeps F s0 (ckpStorageEnd s n c code) := by
  unfold ckpStorageEnd
  repeat' first
    | with_reducible assumption | with_reducible intro _ | with_reducible refine Keeps.ite ?_ ?_
    | with_reducible refine ckpWritten_keeps ?_ _ _ _ (hF.via rfl) | with_reducible refine ckpFail_keeps ?_ _ _ (hF.via rfl)
    | with_reducible refine onCkp_keeps ?_ _ _ (hF.via rfl) | with_reducible refine forAll_keeps ?_ _ _ ?_
    | with_reducible refine ckpDone_keeps ?_ _ (hF.via rfl) | lift_lets | split

theorem stgUnbindDone_keeps {F : Nat} {s0 : State} {s : State} (hs : Keeps F s0 s) (b : Nat)  (hF : Within 0x3000000000000000000000000204700 F) :
    Keeps F s0 (stgUnbindDone s b) := by
  unfold stgUnbindDone
  repeat' first
    | with_reducible assumption | with_reducible refine Keeps.ite ?_ ?_ | with_reducible refine answer_keeps ?_ _ _ _ _ _ _ _ (hF.via rfl)
    | with_reducible refine onStg_keeps ?_ _ (hF.via rfl) | split

theorem stgEnd_keeps {F : Nat} {s0 : State} {s : State} (hs : Keeps F s0 s) (n : Nat) (code : Nat) (detail : Nat)  (hF : Within 0x100280000000040a80000000000300000000000000000000000027cf0c F) :
    Keeps F s0 (stgEnd s n code detail) := by
  unfold stgEnd
  repeat' first
    | with_reducible assumption | with_reducible refine Keeps.ite ?_ ?_ | with_reducible refine wr_keeps ?_ _ _ (hF.reg rfl)
    | with_reducible refine onStg_keeps ?_ _ (hF.via rfl) | with_reducible refine stgSignal_keeps ?_ _ _ (hF.via rfl)
    | with_reducible refine wrFld_keeps ?_ _ _ _ _ (hF.reg rfl) | with_reducible refine helloDone_keeps ?_ _ (hF.via rfl)
    | with_reducible refine ckpStorageEnd_keeps ?_ _ _ _ (hF.via rfl) | with_reducible refine stgUnbindDone_keeps ?_ _ (hF.via rfl) | split

theorem stgClearTask_keeps {F : Nat} {s0 s : State} (hs : Keeps F s0 s) (n : Nat) (hF : Within 0x27f0000000000000000000000000000000000000000 F) : Keeps F s0 (stgClearTask s n) := by
  unfold stgClearTask
  refine wrFld_keeps (resetRegs_keeps hs _ (fun r h => ?_)) _ _ _ _ (hF.reg rfl)
  simp only [Bool.or_eq_true, beq_iff_eq] at h
  rcases h with (((((rfl | rfl) | rfl) | rfl) | rfl) | rfl) | rfl <;> exact hF.reg rfl

theorem stgSettled_keeps {F : Nat} {s0 : State} {s : State} (hs : Keeps F s0 s) (n : Nat)  (hF : Within 0x100280000000040aff000000000300000000000000000000000027cf0c F) :
    Keeps F s0 (stgSettled s n) := by
  unfold stgSettled
  repeat' first
    | with_reducible assumption | with_reducible refine Keeps.ite ?_ ?_ | with_reducible refine dropSource_keeps ?_ _ (hF.via rfl)
    | with_reducible refine stgEnd_keeps ?_ _ _ _ (hF.via rfl) | with_reducible refine wrFld_keeps ?_ _ _ _ _ (hF.reg rfl)
    | with_reducible refine stgClearTask_keeps ?_ _ (hF.via rfl) | split

theorem holdMvms_keeps {F : Nat} {s0 : State} {s : State} (hs : Keeps F s0 s) (t : Nat) (ns : Nat)  (hF : Within 0x200000040 F) :
    Keeps F s0 (holdMvms s t ns) := by
  unfold holdMvms
  repeat' first
    | with_reducible assumption | with_reducible refine Keeps.ite ?_ ?_ | with_reducible refine setTile_keeps ?_ _ _ (hF.bit rfl)
    | with_reducible refine count_keeps ?_ _ _ (hF.reg rfl)

theorem chargeStall_keeps {F : Nat} {s0 : State} {s : State} (hs : Keeps F s0 s) (t : Nat) (src : Nat) (n : Nat)  (hF : Within 0x60000000200000040 F) :
    Keeps F s0 (chargeStall s t src n) := by
  unfold chargeStall
  repeat' first
    | with_reducible assumption | with_reducible refine Keeps.ite ?_ ?_ | with_reducible refine onTile_keeps ?_ _ _ (hF.via rfl)
    | with_reducible refine count_keeps ?_ _ _ (hF.reg rfl) | with_reducible refine wr_keeps ?_ _ _ (hF.reg rfl)
    | with_reducible refine holdMvms_keeps ?_ _ _ (hF.via rfl)

theorem schError_keeps {F : Nat} {s0 : State} {s : State} (hs : Keeps F s0 s) (t : Nat) (b : Nat) (xid : Nat)  (hF : Within 0x6000000000000000 F) :
    Keeps F s0 (schError s t b xid) := by
  unfold schError
  repeat' first
    | with_reducible assumption | with_reducible refine Keeps.ite ?_ ?_ | with_reducible refine wrBit_keeps ?_ _ _ _ (hF.reg rfl)
    | with_reducible refine wr_keeps ?_ _ _ (hF.reg rfl)

theorem setTileRun_keeps {F : Nat} {s0 : State} {s : State} (hs : Keeps F s0 s) (t : Nat) (v : Nat)  (hF : Within 0x400000000000000 F) :
    Keeps F s0 (setTileRun s t v) := by
  unfold setTileRun
  repeat' first
    | with_reducible assumption | with_reducible refine wrFld_keeps ?_ _ _ _ _ (hF.reg rfl)

theorem landAll_keeps {F : Nat} {s0 : State} {s : State} (hs : Keeps F s0 s) (t : Nat)  (hF : Within 0x3e00000600dc F) :
    Keeps F s0 (landAll s t) := by
  unfold landAll
  repeat' first
    | with_reducible assumption | with_reducible refine landUpTo_keeps ?_ _ _ _ (hF.via rfl)

theorem completeMvm_keeps {F : Nat} {s0 : State} {s : State} (hs : Keeps F s0 s) (t : Nat) (m : Mvm)  (hF : Within 0x4804000050 F) :
    Keeps F s0 (completeMvm s t m) := by
  unfold completeMvm
  repeat' first
    | with_reducible assumption | with_reducible refine Keeps.ite ?_ ?_ | with_reducible refine setTile_keeps ?_ _ _ (hF.bit rfl)
    | with_reducible refine count_keeps ?_ _ _ (hF.reg rfl) | with_reducible refine draw_keeps ?_ (hF.bit rfl)
    | with_reducible refine setActive_keeps ?_ _ (hF.via rfl) | with_reducible refine applyFallow_keeps ?_ _ _ (hF.via rfl)

theorem completeUpTo_keeps {F : Nat} {s0 : State} {s : State} (hs : Keeps F s0 s) (t : Nat) (c : Nat)  (hF : Within 0x4804000050 F) :
    Keeps F s0 (completeUpTo s t c) := by
  unfold completeUpTo
  repeat' first
    | with_reducible assumption | with_reducible intro _ | with_reducible refine completeMvm_keeps ?_ _ _ (hF.via rfl)
    | with_reducible refine foldl_keeps ?_ _ _ ?_

theorem tileAdvance_keeps {F : Nat} {s0 : State} {s : State} (hs : Keeps F s0 s) (t : Nat) (c : Nat)  (hF : Within 0x8003e48040600dc F) :
    Keeps F s0 (tileAdvance s t c) := by
  unfold tileAdvance
  repeat' first
    | with_reducible assumption | with_reducible refine completeUpTo_keeps ?_ _ _ (hF.via rfl)
    | with_reducible refine landUpTo_keeps ?_ _ _ _ (hF.via rfl) | with_reducible refine wr_keeps ?_ _ _ (hF.reg rfl)

theorem dropOp_keeps {F : Nat} {s0 : State} {s : State} (hs : Keeps F s0 s) (o : RmaOp)  (hF : Within 0x100000 F) :
    Keeps F s0 (dropOp s o) := by
  unfold dropOp
  repeat' first
    | with_reducible assumption | with_reducible refine onRma_keeps ?_ _ (hF.via rfl)

theorem refuseOwed_keeps {F : Nat} {s0 : State} {s : State} (hs : Keeps F s0 s) (c : Ctx)  (hF : Within 0x3000000000000000000000000004700 F) :
    Keeps F s0 (refuseOwed s c) := by
  unfold refuseOwed
  repeat' first
    | with_reducible assumption | with_reducible refine answer_keeps ?_ _ _ _ _ _ _ _ (hF.via rfl) | split

theorem stgTransport_keeps {F : Nat} {s0 : State} {s : State} (hs : Keeps F s0 s) (n : Nat)  (hF : Within 0x100280000000040a80000000000300000000000000000000000037cf0c F) :
    Keeps F s0 (stgTransport s n) := by
  unfold stgTransport
  repeat' first
    | with_reducible assumption | with_reducible refine onRma_keeps ?_ _ (hF.via rfl) | with_reducible refine dropSource_keeps ?_ _ (hF.via rfl)
    | with_reducible refine stgEnd_keeps ?_ _ _ _ (hF.via rfl)

theorem setUpd_keeps {F : Nat} {s0 : State} {s : State} (hs : Keeps F s0 s) (st : Nat) (result : Nat) (comp : Nat)  (hF : Within 0x80000000000000000000000000000 F) :
    Keeps F s0 (setUpd s st result comp) := by
  unfold setUpd
  repeat' first
    | with_reducible assumption | with_reducible refine wrFld_keeps ?_ _ _ _ _ (hF.reg rfl)

theorem endUpdate_keeps {F : Nat} {s0 : State} {s : State} (hs : Keeps F s0 s) (result : Nat) (status : Nat)  (hF : Within 0x10000000000000000000000400030a9800000000000000000000084f00 F) :
    Keeps F s0 (endUpdate s result status) := by
  unfold endUpdate
  repeat' first
    | with_reducible assumption | with_reducible intro _ | with_reducible refine forAll_keeps ?_ _ _ ?_
    | with_reducible refine loadReceiver_keeps ?_ _ _ _ (hF.via rfl) | with_reducible refine setUpd_keeps ?_ _ _ _ (hF.via rfl)
    | with_reducible refine recordEvent_keeps ?_ _ _ _ _ _ _ _ (hF.via rfl) | with_reducible refine answer_keeps ?_ _ _ _ _ _ _ _ (hF.via rfl)
    | lift_lets | split | with_reducible refine Keeps.mk_ ?_ rfl rfl id id

theorem loseRequests_keeps {F : Nat} {s0 : State} {s : State} (hs : Keeps F s0 s) (o : Nat)  (hF : Within 0x3000000000000000000000000004700 F) :
    Keeps F s0 (loseRequests s o) := by
  unfold loseRequests
  repeat' first
    | with_reducible assumption | with_reducible intro _ | with_reducible refine answer_keeps ?_ _ _ _ _ _ _ _ (hF.via rfl)
    | with_reducible refine foldl_keeps ?_ _ _ ?_

theorem dropFabric_keeps {F : Nat} {s0 : State} {s : State} (hs : Keeps F s0 s)  (hF : Within 0x80 F) :
    Keeps F s0 (dropFabric s) := by
  unfold dropFabric
  repeat' first
    | with_reducible assumption | with_reducible intro _ | with_reducible refine forAll_keeps ?_ _ _ ?_
    | with_reducible refine onPlot_keeps ?_ _ _ (hF.via rfl)

theorem resetFabric_keeps {F : Nat} {s0 : State} {s : State} (hs : Keeps F s0 s)  (hF : Within 0x107f8000000000000000000000030007fe00000000000000000007cf8c F) :
    Keeps F s0 (resetFabric s) := by
  unfold resetFabric
  repeat' first
    | with_reducible assumption | (intro x; refine keeps_cut (F := F) (s0 := s0) x ?_ ?_ <;> [subst x; (clear_value x; intro _)])
    | (intro x; subst x) | with_reducible intro _ | with_reducible refine Keeps.ite ?_ ?_ | with_reducible refine forAll_keeps ?_ _ _ ?_
    | with_reducible refine ckpFail_keeps ?_ _ _ (hF.via rfl) | with_reducible refine answer_keeps ?_ _ _ _ _ _ _ _ (hF.via rfl)
    | with_reducible refine resetRegs_keeps ?_ _ ?_ | with_reducible refine dropFabric_keeps ?_ (hF.via rfl) | lift_lets | split
    | with_reducible refine Keeps.mk_ ?_ rfl rfl id (fun _ => mapRising_nil) | exact hF.reg (Within.reg (h := by exact rfl) (island3_bit _ ‹_›))

theorem putOp_keeps {F : Nat} {s0 : State} {s : State} (hs : Keeps F s0 s) (o : RmaOp)  (hF : Within 0x100000 F) :
    Keeps F s0 (putOp s o) := by
  unfold putOp
  repeat' first
    | with_reducible assumption | with_reducible refine onRma_keeps ?_ _ (hF.via rfl)

theorem fetchFail_keeps {F : Nat} {s0 : State} {s : State} (hs : Keeps F s0 s) (cid : Nat)  (hF : Within 0x80000000000000000000000000000000100100 F) :
    Keeps F s0 (fetchFail s cid) := by
  unfold fetchFail
  repeat' first
    | with_reducible assumption | with_reducible refine irqCores_keeps ?_ _ _ (hF.via rfl) | with_reducible refine count_keeps ?_ _ _ (hF.reg rfl)
    | with_reducible refine onRma_keeps ?_ _ (hF.via rfl)

theorem onQueue_keeps {F : Nat} {s0 : State} {s : State} (hs : Keeps F s0 s) (k : Nat) (f : Queue → Queue)  (hF : Within 0x80000 F) :
    Keeps F s0 (onQueue s k f) := by
  unfold onQueue
  repeat' first
    | with_reducible assumption | (intro x; subst x) | lift_lets | with_reducible refine Keeps.mk_ ?_ rfl rfl id id

theorem flushQueue_keeps {F : Nat} {s0 : State} {s : State} (hs : Keeps F s0 s) (k : Nat)  (hF : Within 0x4000000000000000000000000000000080000 F) :
    Keeps F s0 (flushQueue s k) := by
  unfold flushQueue
  repeat' first
    | with_reducible assumption | with_reducible refine count_keeps ?_ _ _ (hF.reg rfl) | with_reducible refine onQueue_keeps ?_ _ _ (hF.via rfl)

theorem resetPort_keeps {F : Nat} {s0 : State} {s : State} (hs : Keeps F s0 s) (p : Nat)  (hF : Within 0x4000010000000000000000000000000080000 F) :
    Keeps F s0 (resetPort s p) := by
  unfold resetPort
  repeat' first
    | with_reducible assumption | (intro x; subst x) | with_reducible intro _ | with_reducible refine wrFld_keeps ?_ _ _ _ _ (hF.reg rfl)
    | with_reducible refine forAll_keeps ?_ _ _ ?_ | with_reducible refine flushQueue_keeps ?_ _ (hF.via rfl) | lift_lets
    | with_reducible refine Keeps.mk_ ?_ rfl rfl id id

theorem closeRegion_keeps {F : Nat} {s0 : State} {s : State} (hs : Keeps F s0 s) (n : Nat)  (hF : Within 0x480000000000000000000008000 F) :
    Keeps F s0 (closeRegion s n) := by
  unfold closeRegion
  repeat' first
    | with_reducible assumption | (intro x; refine keeps_cut (F := F) (s0 := s0) x ?_ ?_ <;> [subst x; (clear_value x; intro _)])
    | (intro x; subst x) | with_reducible intro _ | with_reducible refine Keeps.ite ?_ ?_ | with_reducible refine wrBit_keeps ?_ _ _ _ (hF.reg rfl)
    | with_reducible refine eraseKey_keeps ?_ _ (hF.via rfl) | with_reducible refine forAll_keeps ?_ _ _ ?_
    | with_reducible refine wr_keeps ?_ _ _ (hF.reg rfl) | lift_lets | with_reducible refine Keeps.mk_ ?_ rfl rfl id id

theorem lpxLost_keeps {F : Nat} {s0 : State} {s : State} (hs : Keeps F s0 s)  (hF : Within 0x100000020000000000000000000000048800000400000000000016cb94 F) :
    Keeps F s0 (lpxLost s) := by
  unfold lpxLost
  repeat' first
    | with_reducible assumption | (intro x; subst x) | with_reducible intro _ | with_reducible refine Keeps.ite ?_ ?_
    | with_reducible refine forAll_keeps ?_ _ _ ?_ | with_reducible refine closeRegion_keeps ?_ _ (hF.via rfl)
    | with_reducible refine draw_keeps ?_ (hF.bit rfl) | with_reducible refine wrBit_keeps ?_ _ _ _ (hF.reg rfl)
    | with_reducible refine freezeLater_keeps ?_ _ (hF.via rfl) | with_reducible refine freezePlot_keeps ?_ _ _ _ _ (hF.via rfl) | lift_lets
    | with_reducible refine Keeps.mk_ ?_ rfl rfl (wf_filter _ _) id

theorem resetTile_keeps {F : Nat} {s0 : State} {s : State} (hs : Keeps F s0 s) (cold : Bool) (t : Nat)  (hF : Within 0x1fffffffffffe0600d4 F) :
    Keeps F s0 (resetTile cold s t) := by
  unfold resetTile
  repeat' first
    | with_reducible assumption | with_reducible intro _ | with_reducible refine Keeps.ite ?_ ?_
    | with_reducible refine onPlot_keeps ?_ _ _ (hF.via rfl) | with_reducible refine resetRegs_keeps ?_ _ ?_
    | with_reducible refine draw_keeps ?_ (hF.bit rfl) | with_reducible refine setTile_keeps ?_ _ _ (hF.bit rfl)
    | with_reducible refine wr_keeps ?_ _ _ (hF.reg rfl) | with_reducible refine forAll_keeps ?_ _ _ ?_ | lift_lets | split | dsimp only
    | with_reducible refine Keeps.mk_ ?_ rfl rfl (wf_memForget _ _ _) id | exact hF.reg (Within.reg (h := by exact rfl) (islandTile_bit _ _ ‹_›))
    | exact hF.reg (Within.reg (h := by exact rfl) (islandTile_bit _ _ ((Bool.and_eq_true_iff.1 ‹_›).1)))

theorem takeRequest_keeps {F : Nat} {s0 : State} {s : State} (hs : Keeps F s0 s) (m : Msg) (type : Nat)  (hF : Within 0x1000000000000000000000000004100 F) :
    Keeps F s0 (takeRequest s m type) := by
  unfold takeRequest
  repeat' first
    | with_reducible assumption | with_reducible refine Keeps.ite ?_ ?_ | with_reducible refine showRequests_keeps ?_ (hF.via rfl)
    | with_reducible refine wr_keeps ?_ _ _ (hF.reg rfl) | with_reducible refine onBox_keeps ?_ _ _ (hF.via rfl)

theorem serve_keeps {F : Nat} {s0 : State} {s : State} (hs : Keeps F s0 s) (m : Msg) (r : MsgRule) (f : State → State) (kf : ∀ a0, Keeps F s0 a0 → Keeps F s0 (f a0)) (hF : Within 0x3000000000000000000000000004700 F) :
    Keeps F s0 (serve s m r f) := by
  unfold serve
  repeat' first
    | with_reducible assumption | with_reducible apply kf | with_reducible refine Keeps.ite ?_ ?_
    | with_reducible refine takeRequest_keeps ?_ _ _ (hF.via rfl) | with_reducible refine answer_keeps ?_ _ _ _ _ _ _ _ (hF.via rfl) | lift_lets
    | split

theorem respond_keeps {F : Nat} {s0 : State} {s : State} (hs : Keeps F s0 s) (m : Msg) (type : Nat) (status : Nat) (detail : Nat) (payload : List Byte)  (hF : Within 0x3000000000000000000000000004700 F) :
    Keeps F s0 (respond s m type status detail payload) := by
  unfold respond
  repeat' first
    | with_reducible assumption | with_reducible refine answer_keeps ?_ _ _ _ _ _ _ _ (hF.via rfl)

theorem runBootRom_keeps {F : Nat} {s0 : State} {s : State} (hs : Keeps F s0 s)  (hF : Within 0x800000000000000000000000100 F) :
    Keeps F s0 (runBootRom s) := by
  unfold runBootRom
  repeat' first
    | with_reducible assumption | with_reducible refine setNvState_keeps ?_ _ _ (hF.via rfl) | with_reducible refine setCore_keeps ?_ _ _ (hF.bit rfl)

theorem postUnsol_keeps {F : Nat} {s0 : State} {s : State} (hs : Keeps F s0 s) (o : Nat) (type : Nat) (status : Nat) (detail : Nat) (payload : List Byte)  (hF : Within 0x2000000000000000000000000004600 F) :
    Keeps F s0 (postUnsol s o type status detail payload) := by
  unfold postUnsol
  repeat' first
    | with_reducible assumption | with_reducible refine postMsg_keeps ?_ _ _ (hF.via rfl)

theorem laneChange_keeps {F : Nat} {s0 : State} {s : State} (hs : Keeps F s0 s) (port : Nat) (sub : Nat)  (hF : Within 0x4000010000000000000000000000000080000 F) :
    Keeps F s0 (laneChange s port sub) := by
  unfold laneChange
  repeat' first
    | with_reducible assumption | (intro x; subst x) | with_reducible intro _ | with_reducible refine Keeps.ite ?_ ?_
    | with_reducible refine wrFld_keeps ?_ _ _ _ _ (hF.reg rfl) | with_reducible refine wrBit_keeps ?_ _ _ _ (hF.reg rfl)
    | with_reducible refine forAll_keeps ?_ _ _ ?_ | with_reducible refine flushQueue_keeps ?_ _ (hF.via rfl) | lift_lets
    | with_reducible refine Keeps.mk_ ?_ rfl rfl id id

theorem setSeedSlot_keeps {F : Nat} {s0 : State} {s : State} (hs : Keeps F s0 s) (k : Nat) (m : List (Nat × Byte))  (hF : Within 0x800000 F) :
    Keeps F s0 (setSeedSlot s k m) := by
  unfold setSeedSlot
  repeat' first
    | with_reducible assumption | (intro x; subst x) | lift_lets | split | with_reducible refine Keeps.mk_ ?_ rfl rfl id id

theorem haltCore_keeps {F : Nat} {s0 : State} {s : State} (hs : Keeps F s0 s) (c : Nat) (cause : Nat)  (hF : Within 0x10000000000000000000000400030a9800000000000000000000084f00 F) :
    Keeps F s0 (haltCore s c cause) := by
  unfold haltCore
  repeat' first
    | with_reducible assumption | (intro x; refine keeps_cut (F := F) (s0 := s0) x ?_ ?_ <;> [subst x; (clear_value x; intro _)])
    | (intro x; subst x) | with_reducible refine Keeps.ite ?_ ?_ | with_reducible refine stopCore_keeps ?_ _ _ (hF.via rfl)
    | with_reducible refine endUpdate_keeps ?_ _ _ (hF.via rfl) | lift_lets | split | with_reducible refine Keeps.mk_ ?_ rfl rfl id id

theorem regionWriteRefused_keeps {F : Nat} {s0 : State} {s : State} (hs : Keeps F s0 s) (m : Master) (object : Nat)  (hF : Within 0x1000000000000000000000000000000000000000000000000000000800 F) :
    Keeps F s0 (regionWriteRefused s m object) := by
  unfold regionWriteRefused
  repeat' first
    | with_reducible assumption | with_reducible refine recordEvent_keeps ?_ _ _ _ _ _ _ _ (hF.via rfl)

theorem newKey_keeps {F : Nat} {s0 : State} {s : State} (hs : Keeps F s0 s) (n : Nat)  (hF : Within 0x400000000000000000000008014 F) :
    Keeps F s0 (newKey s n) := by
  unfold newKey
  repeat' first
    | with_reducible assumption | (intro x; refine keeps_cut (F := F) (s0 := s0) x ?_ ?_ <;> [subst x; (clear_value x; intro _)])
    | (intro x; subst x) | with_reducible refine draw_keeps ?_ (hF.bit rfl) | with_reducible refine wrBit_keeps ?_ _ _ _ (hF.reg rfl) | lift_lets
    | with_reducible refine Keeps.mk_ ?_ rfl rfl id id | with_reducible refine Keeps.mk_ ?_ rfl rfl (wf_memForget _ _ _) id

theorem pushFrame_keeps {F : Nat} {s0 : State} {s : State} (hs : Keeps F s0 s) (k : Nat) (f : EgressFrame)  (hF : Within 0x80000 F) :
    Keeps F s0 (pushFrame s k f) := by
  unfold pushFrame
  repeat' first
    | with_reducible assumption | with_reducible refine onQueue_keeps ?_ _ _ (hF.via rfl)

theorem drainHeld_keeps {F : Nat} {s0 : State} {s : State} (hs : Keeps F s0 s) (k : Nat) (a1 : List (Nat × EgressFrame))  (hF : Within 0x80000 F) :
    Keeps F s0 (drainHeld s k a1) := by
  induction a1 generalizing s k with
  | nil =>
    unfold drainHeld
    exact hs
  | cons x rest ih =>
    unfold drainHeld
    repeat' first
      | with_reducible apply ih | with_reducible assumption
      | (intro x; refine keeps_cut (F := F) (s0 := s0) x ?_ ?_ <;> [subst x; (clear_value x; intro _)])
      | (intro x; subst x) | with_reducible refine Keeps.ite ?_ ?_ | with_reducible refine pushFrame_keeps ?_ _ _ (hF.via rfl) | lift_lets
      | with_reducible refine Keeps.mk_ ?_ rfl rfl id id

theorem settleBucket_keeps {F : Nat} {s0 : State} {s : State} (hs : Keeps F s0 s) (k : Nat)  (hF : Within 0x80000 F) :
    Keeps F s0 (settleBucket s k) := by
  unfold settleBucket
  repeat' first
    | with_reducible assumption | with_reducible refine Keeps.ite ?_ ?_ | with_reducible refine onQueue_keeps ?_ _ _ (hF.via rfl)

theorem fetchStart_keeps {F : Nat} {s0 : State} {s : State} (hs : Keeps F s0 s) (cid : Nat)  (hF : Within 0x80000000000000000000000000000000100100 F) :
    Keeps F s0 (fetchStart s cid) := by
  unfold fetchStart
  repeat' first
    | with_reducible assumption | with_reducible refine Keeps.ite ?_ ?_ | with_reducible refine count_keeps ?_ _ _ (hF.reg rfl)
    | with_reducible refine onRma_keeps ?_ _ (hF.via rfl) | with_reducible refine fetchFail_keeps ?_ _ (hF.via rfl)

theorem hostRead_keeps {F : Nat} {s0 : State} {s : State} (hs : Keeps F s0 s) (q : HostSource) (addr : Nat) (len : Nat)  (hF : Within 0x200000000000000000000000000000000000000000000000600 F) :
    Keeps F s0 (hostRead s q addr len) := by
  unfold hostRead
  repeat' first
    | with_reducible assumption | with_reducible intro _ | with_reducible refine issueReq_keeps ?_ _ (hF.via rfl)
    | with_reducible refine foldl_keeps ?_ _ _ ?_

theorem settleOp_keeps {F : Nat} {s0 : State} {s : State} (hs : Keeps F s0 s) (o : RmaOp) (n : Nat) (code : Nat)  (hF : Within 0x300000 F) :
    Keeps F s0 (settleOp s o n code) := by
  unfold settleOp
  repeat' first
    | with_reducible assumption | with_reducible refine putOp_keeps ?_ _ (hF.via rfl) | with_reducible refine onStg_keeps ?_ _ (hF.via rfl)

theorem placeFrame_keeps {F : Nat} {s0 : State} {s : State} (hs : Keeps F s0 s) (k : Nat) (f : EgressFrame)  (hF : Within 0x80000 F) :
    Keeps F s0 (placeFrame s k f) := by
  unfold placeFrame
  repeat' first
    | with_reducible assumption | (intro x; subst x) | with_reducible refine drainHeld_keeps ?_ _ _ (hF.via rfl) | lift_lets
    | with_reducible refine Keeps.mk_ ?_ rfl rfl id id

theorem sendPkt_keeps {F : Nat} {s0 : State} {s : State} (hs : Keeps F s0 s) (cid : Nat) (op : Nat) (p : OmfPkt)  (hF : Within 0x1000000000000000000080000000000000000000000000000000180900 F) :
    Keeps F s0 (sendPkt s cid op p) := by
  unfold sendPkt
  repeat' first
    | with_reducible assumption | with_reducible refine Keeps.ite ?_ ?_ | with_reducible refine placeFrame_keeps ?_ _ _ (hF.via rfl)
    | with_reducible refine onCtx_keeps ?_ _ _ (hF.via rfl) | with_reducible refine irqCores_keeps ?_ _ _ (hF.via rfl)
    | with_reducible refine recordEvent_keeps ?_ _ _ _ _ _ _ _ (hF.via rfl) | with_reducible refine count_keeps ?_ _ _ (hF.reg rfl)

theorem sealPage_keeps {F : Nat} {s0 : State} {s : State} (hs : Keeps F s0 s) (p : Nat) (e : Nat × Option (List Byte))  (hF : Within 0x10000 F) :
    Keeps F s0 (sealPage s p e) := by
  unfold sealPage
  repeat' first
    | with_reducible assumption | with_reducible refine onCkp_keeps ?_ _ _ (hF.via rfl)

theorem sealUpTo_keeps {F : Nat} {s0 : State} {s : State} (hs : Keeps F s0 s) (p : Nat) (n : Nat) (a1 : Nat)  (hF : Within 0x10000 F) :
    Keeps F s0 (sealUpTo p n a1 s) := by
  induction a1 generalizing p n s with
  | zero =>
    unfold sealUpTo
    exact hs
  | succ n ih =>
    unfold sealUpTo
    repeat' first
      | with_reducible apply ih | with_reducible assumption | (intro x; clear_value x) | with_reducible refine Keeps.ite ?_ ?_
      | with_reducible refine sealPage_keeps ?_ _ _ (hF.via rfl) | with_reducible refine onCkp_keeps ?_ _ _ (hF.via rfl) | lift_lets | split

theorem releaseHeld_keeps {F : Nat} {s0 : State} {s : State} (hs : Keeps F s0 s) (p : Nat)  (hF : Within 0x6800c F) :
    Keeps F s0 (releaseHeld s p) := by
  unfold releaseHeld
  repeat' first
    | with_reducible assumption | (intro x; subst x) | with_reducible intro _ | with_reducible refine wrBytes_keeps ?_ _ _ (hF.via rfl)
    | with_reducible refine foldl_keeps ?_ _ _ ?_ | lift_lets | dsimp only | with_reducible refine Keeps.mk_ ?_ rfl rfl id id

theorem sheafData_keeps {F : Nat} {s0 : State} {s : State} (hs : Keeps F s0 s) (n : Nat) (nsb : Nat) (lba : Nat) (blks : Nat)  (hF : Within 0x7800c F) :
    KeepsFst F s0 (sheafData s n nsb lba blks) := by
  unfold sheafData
  repeat' first
    | with_reducible assumption | (intro x; refine keeps_cut (F := F) (s0 := s0) x ?_ ?_ <;> [subst x; (clear_value x; intro _)])
    | (intro x; subst x) | with_reducible refine sealUpTo_keeps ?_ _ _ _ (hF.via rfl) | with_reducible refine releaseHeld_keeps ?_ _ (hF.via rfl)
    | lift_lets | split | with_reducible refine KeepsFst.of ?_

theorem logPage_keeps {F : Nat} {s0 : State} {s : State} (hs : Keeps F s0 s) (r : Nat) (page : Nat)  (hF : Within 0x88000000000000000000000000 F) :
    Keeps F s0 (logPage s r page) := by
  unfold logPage
  repeat' first
    | with_reducible assumption | with_reducible refine Keeps.ite ?_ ?_ | with_reducible refine wr_keeps ?_ _ _ (hF.reg rfl)
    | with_reducible refine wrBit_keeps ?_ _ _ _ (hF.reg rfl) | split

theorem lpxUncorrectable_keeps {F : Nat} {s0 : State} {s : State} (hs : Keeps F s0 s) (a : Nat)  (hF : Within 0x1000800200000000000000000000000098000004000000000000178b8c F) :
    Keeps F s0 (lpxUncorrectable s a) := by
  unfold lpxUncorrectable
  repeat' first
    | with_reducible assumption | (intro x; subst x) | with_reducible intro _ | with_reducible refine Keeps.ite ?_ ?_
    | with_reducible refine count_keeps ?_ _ _ (hF.reg rfl) | with_reducible refine logPage_keeps ?_ _ _ (hF.via rfl)
    | with_reducible refine ckpLost_keeps ?_ _ _ (hF.via rfl) | with_reducible refine freezePlot_keeps ?_ _ _ _ _ (hF.via rfl)
    | with_reducible refine recordEvent_keeps ?_ _ _ _ _ _ _ _ (hF.via rfl) | with_reducible refine forAll_keeps ?_ _ _ ?_
    | with_reducible refine ckpFail_keeps ?_ _ _ (hF.via rfl) | with_reducible refine irqCores_keeps ?_ _ _ (hF.via rfl) | lift_lets | split
    | with_reducible refine Keeps.mk_ ?_ rfl rfl id id

theorem lpxEcc_keeps {F : Nat} {s0 : State} {s : State} (hs : Keeps F s0 s) (a : Nat) (e : Ecc)  (hF : Within 0x10008002000000000000000000000000d8000004000000000000178b8c F) :
    Keeps F s0 (lpxEcc s a e) := by
  unfold lpxEcc
  repeat' first
    | with_reducible assumption | with_reducible refine count_keeps ?_ _ _ (hF.reg rfl)
    | with_reducible refine lpxUncorrectable_keeps ?_ _ (hF.via rfl) | split

theorem feedDrop_keeps {F : Nat} {s0 : State} {s : State} (hs : Keeps F s0 s) (k : Nat) (p : Nat)  (hF : Within 0x1000000000010000000000000000000000000000000000000000000c00 F) :
    Keeps F s0 (feedDrop s k p) := by
  unfold feedDrop
  repeat' first
    | with_reducible assumption | with_reducible refine Keeps.ite ?_ ?_ | with_reducible refine count_keeps ?_ _ _ (hF.reg rfl)
    | with_reducible refine recordEvent_keeps ?_ _ _ _ _ _ _ _ (hF.via rfl) | with_reducible refine onHost_keeps ?_ _ (hF.via rfl)

theorem feedInstance_keeps {F : Nat} {s0 : State} {s : State} (hs : Keeps F s0 s) (p : Nat) (xid : Nat) (ext : DWord) (inst : Nat) (lines : List (BitVec 512))  (hF : Within 0x1000000200010000000000000000000000000000000000000000000e00 F) :
    Keeps F s0 (feedInstance s p xid ext inst lines) := by
  unfold feedInstance
  repeat' first
    | with_reducible assumption | with_reducible refine Keeps.ite ?_ ?_ | with_reducible refine feedDrop_keeps ?_ _ _ (hF.via rfl)
    | with_reducible refine hostWriteFor_keeps ?_ _ _ _ _ _ (hF.via rfl)

theorem notifyReader_keeps {F : Nat} {s0 : State} {s : State} (hs : Keeps F s0 s) (ev : Event) (e : Nat)  (hF : Within 0x800000000000000000000000000000000000000000000000000000700 F) :
    Keeps F s0 (notifyReader ev s e) := by
  unfold notifyReader
  repeat' first
    | with_reducible assumption | with_reducible refine Keeps.ite ?_ ?_ | with_reducible refine wrBit_keeps ?_ _ _ _ (hF.reg rfl)
    | with_reducible refine coreIrq_keeps ?_ _ _ (hF.via rfl) | with_reducible refine signalFn_keeps ?_ _ _ (hF.via rfl)

theorem enqueueFw_keeps {F : Nat} {s0 : State} {s : State} (hs : Keeps F s0 s) (k : Nat) (bytes : List Byte)  (hF : Within 0x80000 F) :
    Keeps F s0 (enqueueFw s k bytes) := by
  unfold enqueueFw
  repeat' first
    | with_reducible assumption | (intro x; subst x) | with_reducible refine drainHeld_keeps ?_ _ _ (hF.via rfl) | lift_lets
    | with_reducible refine Keeps.mk_ ?_ rfl rfl id id

theorem atcInsert_keeps {F : Nat} {s0 : State} {s : State} (hs : Keeps F s0 s) (e : AtcEntry)  (hF : Within 0x400 F) :
    KeepsOpt F s0 (atcInsert s e) := by
  unfold atcInsert
  repeat' first
    | with_reducible assumption | (intro x; subst x) | with_reducible refine KeepsOpt.ite ?_ ?_ | with_reducible refine KeepsOpt.some ?_
    | with_reducible exact KeepsOpt.none | with_reducible refine onHost_keeps ?_ _ (hF.via rfl) | lift_lets | split

theorem fillAtc_keeps {F : Nat} {s0 : State} {s : State} (hs : Keeps F s0 s)  (hF : Within 0x400 F) :
    Keeps F s0 (fillAtc s) := by
  unfold fillAtc
  repeat' first
    | with_reducible assumption | with_reducible intro _ | with_reducible refine atcInsert_keeps ?_ _ (hF.via rfl)
    | with_reducible refine onHost_keeps ?_ _ (hF.via rfl) | with_reducible refine foldl_keeps ?_ _ _ ?_ | with_reducible refine KeepsOpt.getD ?_ ?_

theorem retryHost_keeps {F : Nat} {s0 : State} {s : State} (hs : Keeps F s0 s)  (hF : Within 0x200000000000000000000000000000000000000000000000600 F) :
    Keeps F s0 (retryHost s) := by
  unfold retryHost
  repeat' first
    | with_reducible assumption | with_reducible intro _ | with_reducible refine fillAtc_keeps ?_ (hF.via rfl)
    | with_reducible refine issueReq_keeps ?_ _ (hF.via rfl) | with_reducible refine onHost_keeps ?_ _ (hF.via rfl)
    | with_reducible refine foldl_keeps ?_ _ _ ?_

theorem cacheIn_keeps {F : Nat} {s0 : State} {s : State} (hs : Keeps F s0 s) (cid : Nat)  (hF : Within 0x100000 F) :
    KeepsOpt F s0 (cacheIn s cid) := by
  unfold cacheIn
  repeat' first
    | with_reducible assumption | with_reducible refine KeepsOpt.ite ?_ ?_ | with_reducible refine KeepsOpt.some ?_
    | with_reducible exact KeepsOpt.none | with_reducible refine onRma_keeps ?_ _ (hF.via rfl) | split

theorem sendAck_keeps {F : Nat} {s0 : State} {s : State} (hs : Keeps F s0 s) (cid : Nat)  (hF : Within 0x1000000000000000000080000000000000000000000000000000180900 F) :
    Keeps F s0 (sendAck s cid) := by
  unfold sendAck
  repeat' first
    | with_reducible assumption | with_reducible refine sendPkt_keeps ?_ _ _ _ (hF.via rfl) | with_reducible refine onCtx_keeps ?_ _ _ (hF.via rfl)

theorem sendNak_keeps {F : Nat} {s0 : State} {s : State} (hs : Keeps F s0 s) (cid : Nat) (psn : Nat) (reason : Nat)  (hF : Within 0x1000000000000000000080000000000000000000000000000000180900 F) :
    Keeps F s0 (sendNak s cid psn reason) := by
  unfold sendNak
  repeat' first
    | with_reducible assumption | with_reducible refine sendPkt_keeps ?_ _ _ _ (hF.via rfl)

theorem enqueueForward_keeps {F : Nat} {s0 : State} {s : State} (hs : Keeps F s0 s) (k : Nat) (bytes : List Byte) (ns : Nat)  (hF : Within 0x4000000000000000000000000000000080000 F) :
    Keeps F s0 (enqueueForward s k bytes ns) := by
  unfold enqueueForward
  repeat' first
    | with_reducible assumption | with_reducible refine Keeps.ite ?_ ?_ | with_reducible refine pushFrame_keeps ?_ _ _ (hF.via rfl)
    | with_reducible refine count_keeps ?_ _ _ (hF.reg rfl)

theorem admitRefused_keeps {F : Nat} {s0 : State} {s : State} (hs : Keeps F s0 s) (p : Nat) (im : Image)  (hF : Within 0x1000000000000000000000000000000000010000000000000000000800 F) :
    Keeps F s0 (admitRefused s p im) := by
  unfold admitRefused
  repeat' first
    | with_reducible assumption | with_reducible refine wr_keeps ?_ _ _ (hF.reg rfl)
    | with_reducible refine recordEvent_keeps ?_ _ _ _ _ _ _ _ (hF.via rfl)

theorem admitStart_keeps {F : Nat} {s0 : State} {s : State} (hs : Keeps F s0 s) (p : Nat) (o : Nat) (seq : Nat) (v : Nat) (step : DWord)  (hF : Within 0x1000000200000000000000000003000000010004000000000000004f80 F) :
    Keeps F s0 (admitStart s p o seq v step) := by
  unfold admitStart
  repeat' first
    | with_reducible assumption | (intro x; refine keeps_cut (F := F) (s0 := s0) x ?_ ?_ <;> [subst x; (clear_value x; intro _)])
    | with_reducible refine Keeps.ite ?_ ?_ | with_reducible refine answer_keeps ?_ _ _ _ _ _ _ _ (hF.via rfl)
    | with_reducible refine admitRefused_keeps ?_ _ _ (hF.via rfl) | with_reducible refine onPlot_keeps ?_ _ _ (hF.via rfl)
    | with_reducible refine setPlt_keeps ?_ _ _ (hF.via rfl) | lift_lets | split

theorem answerPlot_keeps {F : Nat} {s0 : State} {s : State} (hs : Keeps F s0 s) (e : Nat × Nat × Nat × Nat)  (hF : Within 0x80000000000000000003000000000000000000000000004700 F) :
    Keeps F s0 (answerPlot s e) := by
  unfold answerPlot
  repeat' first
    | with_reducible assumption | with_reducible refine Keeps.ite ?_ ?_ | with_reducible refine wrBit_keeps ?_ _ _ _ (hF.reg rfl)
    | with_reducible refine answer_keeps ?_ _ _ _ _ _ _ _ (hF.via rfl)

theorem applyPlan_keeps {F : Nat} {s0 : State} {s : State} (hs : Keeps F s0 s) (p : Nat) (im : Image)  (hF : Within 0x80400000000000000000000000000000180100 F) :
    Keeps F s0 (applyPlan s p im) := by
  unfold applyPlan
  repeat' first
    | with_reducible assumption | with_reducible intro _ | with_reducible refine Keeps.ite ?_ ?_
    | with_reducible refine wrBit_keeps ?_ _ _ _ (hF.reg rfl) | with_reducible refine onQueue_keeps ?_ _ _ (hF.via rfl)
    | with_reducible refine onCtx_keeps ?_ _ _ (hF.via rfl) | with_reducible refine fetchStart_keeps ?_ _ (hF.via rfl)
    | with_reducible refine foldl_keeps ?_ _ _ ?_

theorem releasePlan_keeps {F : Nat} {s0 : State} {s : State} (hs : Keeps F s0 s) (p : Nat)  (hF : Within 0x400000000000000000000000000000180000 F) :
    Keeps F s0 (releasePlan s p) := by
  unfold releasePlan
  repeat' first
    | with_reducible assumption | with_reducible intro _ | with_reducible refine Keeps.ite ?_ ?_
    | with_reducible refine wrBit_keeps ?_ _ _ _ (hF.reg rfl) | with_reducible refine onQueue_keeps ?_ _ _ (hF.via rfl)
    | with_reducible refine onCtx_keeps ?_ _ _ (hF.via rfl) | with_reducible refine foldl_keeps ?_ _ _ ?_ | split

theorem idleTile_keeps {F : Nat} {s0 : State} {s : State} (hs : Keeps F s0 s) (t : Nat)  (hF : Within 0x1400000000000040 F) :
    Keeps F s0 (idleTile s t) := by
  unfold idleTile
  repeat' first
    | with_reducible assumption | with_reducible refine setTileRun_keeps ?_ _ _ (hF.via rfl) | with_reducible refine wr_keeps ?_ _ _ (hF.reg rfl)
    | with_reducible refine onTile_keeps ?_ _ _ (hF.via rfl)

theorem commitTile_keeps {F : Nat} {s0 : State} {s : State} (hs : Keeps F s0 s) (c : TileCfg)  (hF : Within 0x1401018402000040 F) :
    Keeps F s0 (commitTile s c) := by
  unfold commitTile
  repeat' first
    | with_reducible assumption | with_reducible intro _ | with_reducible refine onTile_keeps ?_ _ _ (hF.via rfl)
    | with_reducible refine wr_keeps ?_ _ _ (hF.reg rfl) | with_reducible refine wrFld_keeps ?_ _ _ _ _ (hF.reg rfl)
    | with_reducible refine wrCommit_keeps ?_ _ _ (hF.reg rfl) | with_reducible refine setTileRun_keeps ?_ _ _ (hF.via rfl)
    | with_reducible refine foldl_keeps ?_ _ _ ?_

theorem fillLines_keeps {F : Nat} {s0 : State} {s : State} (hs : Keeps F s0 s) (t : Nat)  (hF : Within 0x20000000000006004c F) :
    Keeps F s0 (fillLines s t) := by
  unfold fillLines
  repeat' first
    | with_reducible assumption | with_reducible intro _ | with_reducible refine Keeps.ite ?_ ?_
    | with_reducible refine wrBit_keeps ?_ _ _ _ (hF.reg rfl) | with_reducible refine wrBytes_keeps ?_ _ _ (hF.via rfl)
    | with_reducible refine onTile_keeps ?_ _ _ (hF.via rfl) | with_reducible refine foldl_keeps ?_ _ _ ?_

theorem fillLogged_keeps {F : Nat} {s0 : State} {s : State} (hs : Keeps F s0 s) (p : Nat)  (hF : Within 0x8000000000000000000006800c F) :
    Keeps F s0 (fillLogged s p) := by
  unfold fillLogged
  repeat' first
    | with_reducible assumption | (intro x; subst x) | with_reducible intro _ | with_reducible refine Keeps.ite ?_ ?_
    | with_reducible refine forAll_keeps ?_ _ _ ?_ | with_reducible refine wrBytes_keeps ?_ _ _ (hF.via rfl)
    | with_reducible refine wr_keeps ?_ _ _ (hF.reg rfl) | lift_lets | split | with_reducible refine Keeps.mk_ ?_ rfl rfl id id

theorem harrowClassifier_keeps {F : Nat} {s0 : State} {s : State} (hs : Keeps F s0 s) (p : Nat)  (hF : Within 0x80000 F) :
    Keeps F s0 (harrowClassifier s p) := by
  unfold harrowClassifier
  repeat' first
    | with_reducible assumption | (intro x; subst x) | lift_lets | dsimp only | with_reducible refine Keeps.mk_ ?_ rfl rfl id id

theorem showSlots_keeps {F : Nat} {s0 : State} {s : State} (hs : Keeps F s0 s)  (hF : Within 0x200000000000000000000000000000000000000000000000 F) :
    Keeps F s0 (showSlots s) := by
  unfold showSlots
  repeat' first
    | with_reducible assumption | with_reducible refine wrFld_keeps ?_ _ _ _ _ (hF.reg rfl)

theorem harrowKeys_keeps {F : Nat} {s0 : State} {s : State} (hs : Keeps F s0 s) (p : Nat)  (hF : Within 0x200000000000000000000000000000000000000000400000 F) :
    Keeps F s0 (harrowKeys s p) := by
  unfold harrowKeys
  repeat' first
    | with_reducible assumption | (intro x; subst x) | with_reducible refine showSlots_keeps ?_ (hF.via rfl) | lift_lets | dsimp only
    | with_reducible refine Keeps.mk_ ?_ rfl rfl id id

theorem harrowCkp_keeps {F : Nat} {s0 : State} {s : State} (hs : Keeps F s0 s) (p : Nat)  (hF : Within 0x800000000000000000000003000000000000000000000000074700 F) :
    Keeps F s0 (harrowCkp s p) := by
  unfold harrowCkp
  repeat' first
    | with_reducible assumption | with_reducible refine setCkp_keeps ?_ _ _ _ (hF.via rfl)
    | with_reducible refine answer_keeps ?_ _ _ _ _ _ _ _ (hF.via rfl) | with_reducible refine wrBit_keeps ?_ _ _ _ (hF.reg rfl) | lift_lets | split
    | with_reducible refine Keeps.mk_ ?_ rfl rfl id (mapRising_mapErase _ _)

theorem forceBlock_keeps {F : Nat} {s0 : State} {s : State} (hs : Keeps F s0 s) (p : Nat) (i : Nat)  (hF : Within 0x100280000000040a80000000000300000000000000000000000037cfcc F) :
    Keeps F s0 (forceBlock p s i) := by
  unfold forceBlock
  repeat' first
    | with_reducible assumption | (intro x; subst x) | with_reducible intro _ | with_reducible refine forAll_keeps ?_ _ _ ?_
    | with_reducible refine onTile_keeps ?_ _ _ (hF.via rfl) | with_reducible refine onRma_keeps ?_ _ (hF.via rfl)
    | with_reducible refine dropSource_keeps ?_ _ (hF.via rfl) | with_reducible refine stgEnd_keeps ?_ _ _ _ (hF.via rfl)
    | with_reducible refine onPlot_keeps ?_ _ _ (hF.via rfl) | with_reducible refine onHost_keeps ?_ _ (hF.via rfl) | lift_lets | split
    | with_reducible refine Keeps.mk_ ?_ rfl rfl id id

theorem startWaiting_keeps {F : Nat} {s0 : State} {s : State} (hs : Keeps F s0 s) (p : Nat)  (hF : Within 0x1000000200000000000000000003000000010004000000000000004f80 F) :
    Keeps F s0 (startWaiting s p) := by
  unfold startWaiting
  repeat' first
    | with_reducible assumption | with_reducible refine admitStart_keeps ?_ _ _ _ _ _ (hF.via rfl)
    | with_reducible refine onPlot_keeps ?_ _ _ (hF.via rfl) | split

theorem undefinePlot_keeps {F : Nat} {s0 : State} {s : State} (hs : Keeps F s0 s) (p : Nat)  (hF : Within 0xa00000002000000400c00000780000004000000000000008000 F) :
    Keeps F s0 (undefinePlot s p) := by
  unfold undefinePlot
  repeat' first
    | with_reducible assumption | with_reducible intro _ | with_reducible refine Keeps.ite ?_ ?_ | with_reducible refine forAll_keeps ?_ _ _ ?_
    | with_reducible refine wr_keeps ?_ _ _ (hF.reg rfl) | with_reducible refine closeRegion_keeps ?_ _ (hF.via rfl)
    | with_reducible refine wrFld_keeps ?_ _ _ _ _ (hF.reg rfl) | with_reducible refine setPlt_keeps ?_ _ _ (hF.via rfl)

end Sys2Proof.Machine
end

