-- ==== Sys2Proof/Laws/KeepsTiles.lean ====
section
/-! SUPPORT. What Keeps says of the commands of tiles, sequencers, steps, calibration and scratchpads, and of what rests on
them: one lemma an operation. -/
set_option Elab.async false
namespace Sys2Proof.Machine

theorem showTokens_keeps {F : Nat} {s0 : State} {s : State} (hs : Keeps F s0 s)  (hF : Within 0x800000000000000000000 F) :
    Keeps F s0 (showTokens s) := by
  unfold showTokens
  repeat' first
    | with_reducible assumption | with_reducible refine wrFld_keeps ?_ _ _ _ _ (hF.reg rfl)

theorem takeToken_keeps {F : Nat} {s0 : State} {s : State} (hs : Keeps F s0 s)  (hF : Within 0x800000000000000002000 F) :
    Keeps F s0 (takeToken s) := by
  unfold takeToken
  repeat' first
    | with_reducible assumption | (intro x; subst x) | with_reducible refine showTokens_keeps ?_ (hF.via rfl) | lift_lets
    | with_reducible refine Keeps.mk_ ?_ rfl rfl id id

theorem wakeGroup_keeps {F : Nat} {s0 : State} {s : State} (hs : Keeps F s0 s) (t : Nat) (g : Nat)  (hF : Within 0x40800000000000800002040 F) :
    Keeps F s0 (wakeGroup s t g) := by
  unfold wakeGroup
  repeat' first
    | with_reducible assumption | with_reducible refine Keeps.ite ?_ ?_ | with_reducible refine wrFld_keeps ?_ _ _ _ _ (hF.reg rfl)
    | with_reducible refine count_keeps ?_ _ _ (hF.reg rfl) | with_reducible refine onTile_keeps ?_ _ _ (hF.via rfl)
    | with_reducible refine takeToken_keeps ?_ (hF.via rfl)

theorem askWrite_keeps {F : Nat} {s0 : State} {s : State} (hs : Keeps F s0 s) (t : Nat) (w : WeightWrite)  (hF : Within 0x40800000000000800002040 F) :
    Keeps F s0 (askWrite s t w) := by
  unfold askWrite
  repeat' first
    | with_reducible assumption | with_reducible refine onTile_keeps ?_ _ _ (hF.via rfl) | with_reducible refine wakeGroup_keeps ?_ _ _ (hF.via rfl)

theorem closeFallow_keeps {F : Nat} {s0 : State} {s : State} (hs : Keeps F s0 s) (t : Nat) (g : Nat)  (hF : Within 0x800000040 F) :
    Keeps F s0 (closeFallow s t g) := by
  unfold closeFallow
  repeat' first
    | with_reducible assumption | with_reducible refine Keeps.ite ?_ ?_ | with_reducible refine applyFallow_keeps ?_ _ _ (hF.via rfl)

theorem setSpare_keeps {F : Nat} {s0 : State} {s : State} (hs : Keeps F s0 s) (t : Nat) (g : Nat) (v : Nat)  (hF : Within 0x800000000 F) :
    Keeps F s0 (setSpare s t g v) := by
  unfold setSpare
  repeat' first
    | with_reducible assumption | with_reducible refine wrFld_keeps ?_ _ _ _ _ (hF.reg rfl)

theorem closedWrite_keeps {F : Nat} {s0 : State} {s : State} (hs : Keeps F s0 s) (t : Nat) (w : WeightWrite)  (hF : Within 0x3800000040 F) :
    Keeps F s0 (closedWrite s t w) := by
  unfold closedWrite
  repeat' first
    | with_reducible assumption | (intro x; refine keeps_cut (F := F) (s0 := s0) x ?_ ?_ <;> [subst x; (clear_value x; intro _)])
    | with_reducible refine Keeps.ite ?_ ?_ | with_reducible refine setSpare_keeps ?_ _ _ _ (hF.via rfl)
    | with_reducible refine wrBit_keeps ?_ _ _ _ (hF.reg rfl) | with_reducible refine wrFld_keeps ?_ _ _ _ _ (hF.reg rfl)
    | with_reducible refine onTile_keeps ?_ _ _ (hF.via rfl) | lift_lets | split

theorem commitSubstitution_keeps {F : Nat} {s0 : State} {s : State} (hs : Keeps F s0 s) (t : Nat) (g : Nat)  (hF : Within 0x800000000 F) :
    Keeps F s0 (commitSubstitution s t g) := by
  unfold commitSubstitution
  repeat' first
    | with_reducible assumption | with_reducible refine Keeps.ite ?_ ?_ | with_reducible refine setSpare_keeps ?_ _ _ _ (hF.via rfl)
    | with_reducible refine wrFld_keeps ?_ _ _ _ _ (hF.reg rfl)

theorem fallowReq_keeps {F : Nat} {s0 : State} {s : State} (hs : Keeps F s0 s) (t : Nat) (g : Nat) (v : Bool)  (hF : Within 0x40800000000000800002040 F) :
    Keeps F s0 (fallowReq s t g v) := by
  unfold fallowReq
  repeat' first
    | with_reducible assumption | with_reducible refine Keeps.ite ?_ ?_ | with_reducible refine wrBit_keeps ?_ _ _ _ (hF.reg rfl)
    | with_reducible refine applyFallow_keeps ?_ _ _ (hF.via rfl) | with_reducible refine onTile_keeps ?_ _ _ (hF.via rfl)
    | with_reducible refine wakeGroup_keeps ?_ _ _ (hF.via rfl)

theorem execFallowReq_keeps {F : Nat} {s0 : State} {s : State} (hs : Keeps F s0 s) (t : Fin 128) (g : Fin 32) (v : Bool)  (hF : Within 0x40800000000000800002040 F) :
    Kept F s0 (execFallowReq t g v s) := by
  unfold execFallowReq
  repeat' first
    | with_reducible assumption | with_reducible refine Kept.next ?_ | with_reducible refine fallowReq_keeps ?_ _ _ _ (hF.via rfl)

theorem execRetiredNext_keeps {F : Nat} {s0 : State} {s : State} (hs : Keeps F s0 s) (t : Fin 128) (g : Fin 32) (v : BitVec 5)  (hF : Within 0x800000000 F) :
    Kept F s0 (execRetiredNext t g v s) := by
  unfold execRetiredNext
  repeat' first
    | with_reducible assumption | with_reducible refine Keeps.ite ?_ ?_ | with_reducible refine Kept.next ?_
    | with_reducible refine wrFld_keeps ?_ _ _ _ _ (hF.reg rfl)

theorem groupLost_keeps {F : Nat} {s0 : State} {s : State} (hs : Keeps F s0 s) (t : Nat) (g : Nat) (phys : Nat)  (hF : Within 0x1000000000000000000000000000000000000000000100002804000900 F) :
    Keeps F s0 (groupLost s t g phys) := by
  unfold groupLost
  repeat' first
    | with_reducible assumption | with_reducible refine wrBit_keeps ?_ _ _ _ (hF.reg rfl) | with_reducible refine wrFld_keeps ?_ _ _ _ _ (hF.reg rfl)
    | with_reducible refine irqCores_keeps ?_ _ _ (hF.via rfl) | with_reducible refine recordEvent_keeps ?_ _ _ _ _ _ _ _ (hF.via rfl)

theorem flagSlot_keeps {F : Nat} {s0 : State} {s : State} (hs : Keeps F s0 s) (t : Nat) (g : Nat) (phys : Nat)  (hF : Within 0x1000000000000000000000000000000000000000000300002804000900 F) :
    Keeps F s0 (flagSlot s t g phys) := by
  unfold flagSlot
  repeat' first
    | with_reducible assumption | with_reducible refine Keeps.ite ?_ ?_ | with_reducible refine wrBit_keeps ?_ _ _ _ (hF.reg rfl)
    | with_reducible refine irqCores_keeps ?_ _ _ (hF.via rfl) | with_reducible refine recordEvent_keeps ?_ _ _ _ _ _ _ _ (hF.via rfl)
    | with_reducible refine groupLost_keeps ?_ _ _ _ (hF.via rfl) | with_reducible refine setSpare_keeps ?_ _ _ _ (hF.via rfl)

theorem verifyFail_keeps {F : Nat} {s0 : State} {s : State} (hs : Keeps F s0 s) (t : Nat) (w : WeightWrite)  (hF : Within 0x100000000000000000000000000000000000000000030000281c000940 F) :
    Keeps F s0 (verifyFail s t w) := by
  unfold verifyFail
  repeat' first
    | with_reducible assumption | with_reducible refine Keeps.ite ?_ ?_ | with_reducible refine arrError_keeps ?_ _ _ _ _ (hF.via rfl)
    | with_reducible refine onTile_keeps ?_ _ _ (hF.via rfl) | with_reducible refine wrBit_keeps ?_ _ _ _ (hF.reg rfl)
    | with_reducible refine irqCores_keeps ?_ _ _ (hF.via rfl) | with_reducible refine recordEvent_keeps ?_ _ _ _ _ _ _ _ (hF.via rfl)
    | with_reducible refine groupLost_keeps ?_ _ _ _ (hF.via rfl) | with_reducible refine setSpare_keeps ?_ _ _ _ (hF.via rfl)
    | with_reducible refine flagSlot_keeps ?_ _ _ _ (hF.via rfl)

theorem execWeightRowWrite_keeps {F : Nat} {s0 : State} {s : State} (hs : Keeps F s0 s) (t : Fin 128) (g : Fin 32) (slot : Fin 17) (row : BitVec 2048) (bad : Fin 3)  (hF : Within 0x100000000000000000000000000000000000000000030000281c000940 F) :
    Kept F s0 (execWeightRowWrite t g slot row bad s) := by
  unfold execWeightRowWrite
  repeat' first
    | with_reducible assumption | with_reducible refine Keeps.ite ?_ ?_ | with_reducible refine Kept.next ?_
    | with_reducible refine arrError_keeps ?_ _ _ _ _ (hF.via rfl) | with_reducible refine verifyFail_keeps ?_ _ _ (hF.via rfl)
    | with_reducible refine onTile_keeps ?_ _ _ (hF.via rfl) | split

theorem execWeightWriteClose_keeps {F : Nat} {s0 : State} {s : State} (hs : Keeps F s0 s) (t : Fin 128) (g : Fin 32) (slot : Fin 17)  (hF : Within 0x3818000040 F) :
    Kept F s0 (execWeightWriteClose t g slot s) := by
  unfold execWeightWriteClose
  repeat' first
    | with_reducible assumption | (intro x; refine keeps_cut (F := F) (s0 := s0) x ?_ ?_ <;> [subst x; (clear_value x; intro _)])
    | with_reducible refine Keeps.ite ?_ ?_ | with_reducible refine Kept.next ?_ | with_reducible refine arrError_keeps ?_ _ _ _ _ (hF.via rfl)
    | with_reducible refine onTile_keeps ?_ _ _ (hF.via rfl) | with_reducible refine closeFallow_keeps ?_ _ _ (hF.via rfl)
    | with_reducible refine closedWrite_keeps ?_ _ _ (hF.via rfl) | lift_lets | split

theorem openWrite_keeps {F : Nat} {s0 : State} {s : State} (hs : Keeps F s0 s) (t : Nat) (w : WeightWrite)  (hF : Within 0x2800000040 F) :
    Keeps F s0 (openWrite s t w) := by
  unfold openWrite
  repeat' first
    | with_reducible assumption | with_reducible refine Keeps.ite ?_ ?_ | with_reducible refine wrBit_keeps ?_ _ _ _ (hF.reg rfl)
    | with_reducible refine setSpare_keeps ?_ _ _ _ (hF.via rfl) | with_reducible refine onTile_keeps ?_ _ _ (hF.via rfl)

theorem execWeightWriteOpen_keeps {F : Nat} {s0 : State} {s : State} (hs : Keeps F s0 s) (t : Fin 128) (g : Fin 32) (slot : Fin 17) (mode : Fin 3) (target : Fin 16) (kind : WriteKind)  (hF : Within 0x40800000000002818002040 F) :
    Kept F s0 (execWeightWriteOpen t g slot mode target kind s) := by
  unfold execWeightWriteOpen
  repeat' first
    | with_reducible assumption | with_reducible refine Keeps.ite ?_ ?_ | with_reducible refine Kept.next ?_
    | with_reducible refine arrError_keeps ?_ _ _ _ _ (hF.via rfl) | with_reducible refine openWrite_keeps ?_ _ _ (hF.via rfl)
    | with_reducible refine askWrite_keeps ?_ _ _ (hF.via rfl)

theorem harrowOpen_keeps {F : Nat} {s0 : State} {s : State} (hs : Keeps F s0 s) (t : Nat)  (hF : Within 0x40800000000000800002040 F) :
    Keeps F s0 (harrowOpen s t) := by
  unfold harrowOpen
  repeat' first
    | with_reducible assumption | with_reducible intro _ | with_reducible refine forAll_keeps ?_ _ _ ?_
    | with_reducible refine askWrite_keeps ?_ _ _ (hF.via rfl)

theorem voidLane_keeps {F : Nat} {s0 : State} {s : State} (hs : Keeps F s0 s) (t : Nat) (desc : Nat)  (hF : Within 0x1000000000000000000000000000000000000000000000060000100a80 F) :
    Keeps F s0 (voidLane s t desc) := by
  unfold voidLane
  repeat' first
    | with_reducible assumption | (intro x; refine keeps_cut (F := F) (s0 := s0) x ?_ ?_ <;> [subst x; (clear_value x; intro _)])
    | with_reducible refine shError_keeps ?_ _ _ _ _ (hF.via rfl) | with_reducible refine recordEvent_keeps ?_ _ _ _ _ _ _ _ (hF.via rfl)
    | with_reducible refine freezeLater_keeps ?_ _ (hF.via rfl) | lift_lets | split

theorem onCal_keeps {F : Nat} {s0 : State} {s : State} (hs : Keeps F s0 s) (t : Nat) (g : Nat) (f : GroupCal → GroupCal)  (hF : Within 0x40 F) :
    Keeps F s0 (onCal s t g f) := by
  unfold onCal
  repeat' first
    | with_reducible assumption | with_reducible refine onTile_keeps ?_ _ _ (hF.via rfl)

theorem trackFactor_keeps {F : Nat} {s0 : State} {s : State} (hs : Keeps F s0 s) (t : Nat) (g : Nat) (p : Nat)  (hF : Within 0x1000000000000000000000000000000000000000000300002804000940 F) :
    Keeps F s0 (trackFactor s t g p) := by
  unfold trackFactor
  repeat' first
    | with_reducible assumption | with_reducible refine Keeps.ite ?_ ?_ | with_reducible refine onCal_keeps ?_ _ _ _ (hF.via rfl)
    | with_reducible refine flagSlot_keeps ?_ _ _ _ (hF.via rfl)

theorem trackCollect_keeps {F : Nat} {s0 : State} {s : State} (hs : Keeps F s0 s) (t : Nat) (m : Mvm) (lanes : List Half)  (hF : Within 0x1000000000000000000000000000000000000000000300002804000940 F) :
    Keeps F s0 (trackCollect s t m lanes) := by
  unfold trackCollect
  repeat' first
    | with_reducible assumption | with_reducible refine trackFactor_keeps ?_ _ _ _ (hF.via rfl)
    | with_reducible refine onCal_keeps ?_ _ _ _ (hF.via rfl)

theorem issueCollect_keeps {F : Nat} {s0 : State} {s : State} (hs : Keeps F s0 s) (t : Nat) (g : Nat) (logical : Nat) (desc : Nat)  (hF : Within 0x1000000000000000000000000000000000000000000300062804100bc0 F) :
    Keeps F s0 (issueCollect t g logical desc s) := by
  unfold issueCollect
  repeat' first
    | with_reducible assumption | (intro x; clear_value x) | with_reducible refine Keeps.ite ?_ ?_
    | with_reducible refine onTile_keeps ?_ _ _ (hF.via rfl) | with_reducible refine voidLane_keeps ?_ _ _ (hF.via rfl)
    | with_reducible refine trackCollect_keeps ?_ _ _ _ (hF.via rfl) | with_reducible refine landBeats_keeps ?_ _ _ _ _ (hF.via rfl)
    | with_reducible refine land_keeps ?_ _ _ (hF.via rfl) | lift_lets | split

theorem issueLaunch_keeps {F : Nat} {s0 : State} {s : State} (hs : Keeps F s0 s) (t : Nat) (mk : State → Mvm)  (hF : Within 0x104000040 F) :
    Keeps F s0 (issueLaunch t mk s) := by
  unfold issueLaunch
  repeat' first
    | with_reducible assumption | with_reducible refine Keeps.ite ?_ ?_ | with_reducible refine onTile_keeps ?_ _ _ (hF.via rfl)
    | with_reducible refine setActive_keeps ?_ _ (hF.via rfl) | with_reducible refine count_keeps ?_ _ _ (hF.reg rfl)

theorem issueLoadiv_keeps {F : Nat} {s0 : State} {s : State} (hs : Keeps F s0 s) (sl : Slot) (iv : Nat) (bank : Nat) (line : Nat)  (hF : Within 0x10008002000000000000000000000000080000047000003e0000178bdc F) :
    Keeps F s0 (issueLoadiv sl iv bank line s) := by
  unfold issueLoadiv
  repeat' first
    | with_reducible assumption | with_reducible intro _ | with_reducible refine spEcc_keeps ?_ _ _ _ _ _ (hF.via rfl)
    | with_reducible refine landUpTo_keeps ?_ _ _ _ (hF.via rfl) | with_reducible refine forAll_keeps ?_ _ _ ?_
    | with_reducible refine land_keeps ?_ _ _ (hF.via rfl)

theorem opCollect_keeps {F : Nat} {s0 : State} (t : Nat) (g : Nat) (logical : Nat) (desc : Nat)  (hF : Within 0x1000000000000000000000000000000000000000000300062804100bc0 F) :
    SlotOpKeeps F s0 (opCollect t g logical desc) := by
  unfold opCollect
  repeat' first
    | with_reducible assumption | (with_reducible refine SlotOpKeeps.mk_ ?_; intro s hs)
    | with_reducible refine issueCollect_keeps ?_ _ _ _ _ (hF.via rfl)

theorem opLaunchOf_keeps {F : Nat} {s0 : State} (t : Nat) (g : Nat) (isRef : Bool) (desc : Nat) (mk : State → Mvm)  (hF : Within 0x104000040 F) :
    SlotOpKeeps F s0 (opLaunchOf t g isRef desc mk) := by
  unfold opLaunchOf
  repeat' first
    | with_reducible assumption | (with_reducible refine SlotOpKeeps.mk_ ?_; intro s hs) | with_reducible refine issueLaunch_keeps ?_ _ _ (hF.via rfl)

theorem opLaunch_keeps {F : Nat} {s0 : State} (t : Nat) (la : Nat) (iv : Nat) (desc : Nat)  (hF : Within 0x104000040 F) :
    SlotOpKeeps F s0 (opLaunch t la iv desc) := by
  unfold opLaunch
  repeat' first
    | with_reducible assumption | (with_reducible refine SlotOpKeeps.mk_ ?_; intro s hs)
    | with_reducible refine SlotOpKeeps.issue ?_ (opLaunchOf_keeps _ _ _ _ _ (hF.via rfl))

theorem opLoadiv_keeps {F : Nat} {s0 : State} (sl : Slot) (iv : Nat) (bank : Nat) (line : Nat)  (hF : Within 0x10008002000000000000000000000000080000047000003e0000178bdc F) :
    SlotOpKeeps F s0 (opLoadiv sl iv bank line) := by
  unfold opLoadiv
  repeat' first
    | with_reducible assumption | (with_reducible refine SlotOpKeeps.mk_ ?_; intro s hs)
    | with_reducible refine issueLoadiv_keeps ?_ _ _ _ _ (hF.via rfl)

theorem opRlaunch_keeps {F : Nat} {s0 : State} (t : Nat) (g : Nat) (iv : Nat) (desc : Nat)  (hF : Within 0x104000040 F) :
    SlotOpKeeps F s0 (opRlaunch t g iv desc) := by
  unfold opRlaunch
  repeat' first
    | with_reducible assumption | (with_reducible refine SlotOpKeeps.mk_ ?_; intro s hs)
    | with_reducible refine SlotOpKeeps.issue ?_ (opLaunchOf_keeps _ _ _ _ _ (hF.via rfl))

theorem slackOverrun_keeps {F : Nat} {s0 : State} {s : State} (hs : Keeps F s0 s) (t : Nat) (xid : Nat) (kind : Nat) (excess : Nat)  (hF : Within 0x1000000000000000000000000000000000000000018000000000000840 F) :
    Keeps F s0 (slackOverrun s t xid kind excess) := by
  unfold slackOverrun
  repeat' first
    | with_reducible assumption | with_reducible refine onTile_keeps ?_ _ _ (hF.via rfl) | with_reducible refine count_keeps ?_ _ _ (hF.reg rfl)
    | with_reducible refine wr_keeps ?_ _ _ (hF.reg rfl) | with_reducible refine recordEvent_keeps ?_ _ _ _ _ _ _ _ (hF.via rfl)

theorem writeArray_keeps {F : Nat} {s0 : State} {s : State} (hs : Keeps F s0 s) (t : Nat) (l : Nat) (mode : Nat) (rows : List (BitVec 2048)) (bad : Bool)  (hF : Within 0x100000000000000000000000000000000000000000030000381c000940 F) :
    KeepsFst F s0 (writeArray s t l mode rows bad) := by
  unfold writeArray
  repeat' first
    | with_reducible assumption | (intro x; refine keeps_cut (F := F) (s0 := s0) x ?_ ?_ <;> [subst x; (clear_value x; intro _)])
    | (intro x; subst x) | with_reducible refine KeepsFst.ite ?_ ?_ | with_reducible refine Keeps.ite ?_ ?_
    | with_reducible refine arrError_keeps ?_ _ _ _ _ (hF.via rfl) | with_reducible refine openWrite_keeps ?_ _ _ (hF.via rfl)
    | with_reducible refine verifyFail_keeps ?_ _ _ (hF.via rfl) | with_reducible refine onTile_keeps ?_ _ _ (hF.via rfl)
    | with_reducible refine closeFallow_keeps ?_ _ _ (hF.via rfl) | with_reducible refine closedWrite_keeps ?_ _ _ (hF.via rfl) | lift_lets | split
    | with_reducible refine KeepsFst.of ?_

theorem writePwrWake_keeps {F : Nat} {s0 : State} {s : State} (hs : Keeps F s0 s) (v : Word)  (hF : Within 0x900000000000000000000 F) :
    Keeps F s0 (writePwrWake s v) := by
  unfold writePwrWake
  repeat' first
    | with_reducible assumption | with_reducible refine Keeps.ite ?_ ?_ | with_reducible refine showTokens_keeps ?_ (hF.via rfl)
    | with_reducible refine wrCommit_keeps ?_ _ _ (hF.reg rfl)

theorem writeBudget_keeps {F : Nat} {s0 : State} {s : State} (hs : Keeps F s0 s) (t : Nat)  (hF : Within 0x4000040 F) :
    Keeps F s0 (writeBudget s t) := by
  unfold writeBudget
  repeat' first
    | with_reducible assumption | with_reducible refine wrFld_keeps ?_ _ _ _ _ (hF.reg rfl) | with_reducible refine onTile_keeps ?_ _ _ (hF.via rfl)

theorem changeBudget_keeps {F : Nat} {s0 : State} {s : State} (hs : Keeps F s0 s) (t : Nat)  (hF : Within 0x4000040 F) :
    Keeps F s0 (changeBudget s t) := by
  unfold changeBudget
  repeat' first
    | with_reducible assumption | with_reducible refine Keeps.ite ?_ ?_ | with_reducible refine onTile_keeps ?_ _ _ (hF.via rfl)
    | with_reducible refine writeBudget_keeps ?_ _ (hF.via rfl)

theorem writePwrCtrl_keeps {F : Nat} {s0 : State} {s : State} (hs : Keeps F s0 s) (v : Word)  (hF : Within 0x80000000000004000040 F) :
    Keeps F s0 (writePwrCtrl s v) := by
  unfold writePwrCtrl
  repeat' first
    | with_reducible assumption | with_reducible intro _ | with_reducible refine Keeps.ite ?_ ?_
    | with_reducible refine wrCommit_keeps ?_ _ _ (hF.reg rfl) | with_reducible refine forAll_keeps ?_ _ _ ?_
    | with_reducible refine changeBudget_keeps ?_ _ (hF.via rfl)

theorem finishSave_keeps {F : Nat} {s0 : State} {s : State} (hs : Keeps F s0 s) (k : CalSave)  (hF : Within 0x300000000000000000000000000c700 F) :
    Keeps F s0 (finishSave s k) := by
  unfold finishSave
  repeat' first
    | with_reducible assumption | (intro x; subst x) | with_reducible refine Keeps.ite ?_ ?_
    | with_reducible refine answer_keeps ?_ _ _ _ _ _ _ _ (hF.via rfl) | lift_lets | split | dsimp only
    | with_reducible refine Keeps.mk_ ?_ rfl rfl id id

theorem snapshotTiles_keeps {F : Nat} {s0 : State} {s : State} (hs : Keeps F s0 s) (ts : List Nat)  (hF : Within 0x300000000000000000000000000c700 F) :
    Keeps F s0 (snapshotTiles s ts) := by
  unfold snapshotTiles
  repeat' first
    | with_reducible assumption | (intro x; subst x) | with_reducible refine Keeps.ite ?_ ?_
    | with_reducible refine finishSave_keeps ?_ _ (hF.via rfl) | lift_lets | split | with_reducible refine Keeps.mk_ ?_ rfl rfl id id

theorem plotFault_keeps {F : Nat} {s0 : State} {s : State} (hs : Keeps F s0 s) (p : Nat) (cause : Nat) (ft : Nat)  (hF : Within 0x10000002000000000000000000030000000000040064003e000016cfdc F) :
    Keeps F s0 (plotFault s p cause ft) := by
  unfold plotFault
  repeat' first
    | with_reducible assumption | with_reducible intro _ | with_reducible refine Keeps.ite ?_ ?_ | with_reducible refine forAll_keeps ?_ _ _ ?_
    | with_reducible refine landAll_keeps ?_ _ (hF.via rfl) | with_reducible refine setTileRun_keeps ?_ _ _ (hF.via rfl)
    | with_reducible refine schError_keeps ?_ _ _ _ (hF.via rfl) | with_reducible refine wrFld_keeps ?_ _ _ _ _ (hF.reg rfl)
    | with_reducible refine setPlt_keeps ?_ _ _ (hF.via rfl) | with_reducible refine tellLeader_keeps ?_ _ (hF.via rfl)
    | with_reducible refine discardUnsent_keeps ?_ _ (hF.via rfl) | with_reducible refine snapshotTiles_keeps ?_ _ (hF.via rfl)
    | with_reducible refine recordEvent_keeps ?_ _ _ _ _ _ _ _ (hF.via rfl) | with_reducible refine signalFn_keeps ?_ _ _ (hF.via rfl)
    | with_reducible refine irqCores_keeps ?_ _ _ (hF.via rfl)

theorem tileFaultXid_keeps {F : Nat} {s0 : State} {s : State} (hs : Keeps F s0 s) (t : Nat) (v : Viol) (xid : Nat)  (hF : Within 0x10000002000000000000000000030000000000042064003e001816cfdc F) :
    Keeps F s0 (tileFaultXid s t v xid) := by
  unfold tileFaultXid
  repeat' first
    | with_reducible assumption | (intro x; refine keeps_cut (F := F) (s0 := s0) x ?_ ?_ <;> [subst x; (clear_value x; intro _)])
    | (intro x; clear_value x) | with_reducible intro _ | with_reducible refine arrError_keeps ?_ _ _ _ _ (hF.via rfl)
    | with_reducible refine shError_keeps ?_ _ _ _ _ (hF.via rfl) | with_reducible refine schError_keeps ?_ _ _ _ (hF.via rfl)
    | with_reducible refine spRecord_keeps ?_ _ _ _ _ (hF.via rfl) | with_reducible refine setTileRun_keeps ?_ _ _ (hF.via rfl)
    | with_reducible refine forAll_keeps ?_ _ _ ?_ | with_reducible refine wrBit_keeps ?_ _ _ _ (hF.reg rfl)
    | with_reducible refine landAll_keeps ?_ _ (hF.via rfl) | with_reducible refine onTile_keeps ?_ _ _ (hF.via rfl)
    | with_reducible refine plotFault_keeps ?_ _ _ _ (hF.via rfl) | lift_lets | split

theorem chargeWait_keeps {F : Nat} {s0 : State} {s : State} (hs : Keeps F s0 s) (waited : Nat) (t : Nat)  (hF : Within 0x10000002000000000000000000030000000000042664003e021816cfdc F) :
    Keeps F s0 (chargeWait waited s t) := by
  unfold chargeWait
  repeat' first
    | with_reducible assumption | (intro x; refine keeps_cut (F := F) (s0 := s0) x ?_ ?_ <;> [subst x; (clear_value x; intro _)])
    | (intro x; clear_value x) | with_reducible refine Keeps.ite ?_ ?_ | with_reducible refine chargeStall_keeps ?_ _ _ _ (hF.via rfl)
    | with_reducible refine tileFaultXid_keeps ?_ _ _ _ (hF.via rfl) | lift_lets | split

theorem presented_keeps {F : Nat} {s0 : State} {s : State} (hs : Keeps F s0 s) (sl : Slot)  (hF : Within 0xc003e48040600dc F) :
    Keeps F s0 (presented s sl) := by
  unfold presented
  repeat' first
    | with_reducible assumption | with_reducible refine wrFld_keeps ?_ _ _ _ _ (hF.reg rfl)
    | with_reducible refine tileAdvance_keeps ?_ _ _ (hF.via rfl)

theorem tileFault_keeps {F : Nat} {s0 : State} {s : State} (hs : Keeps F s0 s) (t : Nat) (v : Viol)  (hF : Within 0x10000002000000000000000000030000000000042064003e001816cfdc F) :
    Keeps F s0 (tileFault s t v) := by
  unfold tileFault
  repeat' first
    | with_reducible assumption | with_reducible refine tileFaultXid_keeps ?_ _ _ _ (hF.via rfl)

theorem chargeBank_keeps {F : Nat} {s0 : State} {s : State} (hs : Keeps F s0 s) (t : Nat) (c : Nat) (ops : List Instr) (held : Bool)  (hF : Within 0x60000000200000040 F) :
    Keeps F s0 (chargeBank s t c ops held) := by
  unfold chargeBank
  repeat' first
    | with_reducible assumption | with_reducible refine chargeStall_keeps ?_ _ _ _ (hF.via rfl)
    | with_reducible refine onTile_keeps ?_ _ _ (hF.via rfl)

theorem holdBundle_keeps {F : Nat} {s0 : State} {s : State} (hs : Keeps F s0 s) (t : Nat) (ops : List Instr) (src : Nat)  (hF : Within 0x400000000000040 F) :
    Keeps F s0 (holdBundle s t ops src) := by
  unfold holdBundle
  repeat' first
    | with_reducible assumption | with_reducible refine wrFld_keeps ?_ _ _ _ _ (hF.reg rfl) | with_reducible refine onTile_keeps ?_ _ _ (hF.via rfl)

theorem unheld_keeps {F : Nat} {s0 : State} {s : State} (hs : Keeps F s0 s) (t : Nat)  (hF : Within 0x400000000000040 F) :
    Keeps F s0 (unheld s t) := by
  unfold unheld
  repeat' first
    | with_reducible assumption | with_reducible refine wrFld_keeps ?_ _ _ _ _ (hF.reg rfl) | with_reducible refine onTile_keeps ?_ _ _ (hF.via rfl)

theorem opVec_keeps {F : Nat} {s0 : State} (sl : Slot) (code : Nat) (o : VecOp) (issue : State → State) (kissue : ∀ a0, Keeps F s0 a0 → Keeps F s0 (issue a0)) :
    SlotOpKeeps F s0 (opVec sl code o issue) := by
  unfold opVec
  repeat' first
    | with_reducible assumption | with_reducible apply kissue | (with_reducible refine SlotOpKeeps.mk_ ?_; intro s hs)

theorem landVr_keeps {F : Nat} {s0 : State} {s : State} (hs : Keeps F s0 s) (t : Nat) (vd : Nat) (latency : Nat) (r : List Word × List Nat × Nat)  (hF : Within 0x160000000040 F) :
    Keeps F s0 (landVr s t vd latency r) := by
  unfold landVr
  repeat' first
    | with_reducible assumption | with_reducible refine land_keeps ?_ _ _ (hF.via rfl)
    | with_reducible refine countMxNan_keeps ?_ _ _ _ _ (hF.via rfl)

theorem opVecFma_keeps {F : Nat} {s0 : State} (sl : Slot) (o : VecOp)  (hF : Within 0x160000000040 F) :
    SlotOpKeeps F s0 (opVecFma sl o) := by
  unfold opVecFma
  repeat' first
    | with_reducible assumption | with_reducible intro _ | (with_reducible refine SlotOpKeeps.mk_ ?_; intro s hs)
    | with_reducible refine SlotOpKeeps.issue ?_ (opVec_keeps _ _ _ _ ?_) | with_reducible refine landVr_keeps ?_ _ _ _ _ (hF.via rfl)

theorem opVecAdd_keeps {F : Nat} {s0 : State} (sl : Slot) (o : VecOp)  (hF : Within 0x160000000040 F) :
    SlotOpKeeps F s0 (opVecAdd sl o) := by
  unfold opVecAdd
  repeat' first
    | with_reducible assumption | with_reducible intro _ | (with_reducible refine SlotOpKeeps.mk_ ?_; intro s hs)
    | with_reducible refine SlotOpKeeps.issue ?_ (opVec_keeps _ _ _ _ ?_) | with_reducible refine landVr_keeps ?_ _ _ _ _ (hF.via rfl)

theorem opVecMul_keeps {F : Nat} {s0 : State} (sl : Slot) (o : VecOp)  (hF : Within 0x160000000040 F) :
    SlotOpKeeps F s0 (opVecMul sl o) := by
  unfold opVecMul
  repeat' first
    | with_reducible assumption | with_reducible intro _ | (with_reducible refine SlotOpKeeps.mk_ ?_; intro s hs)
    | with_reducible refine SlotOpKeeps.issue ?_ (opVec_keeps _ _ _ _ ?_) | with_reducible refine landVr_keeps ?_ _ _ _ _ (hF.via rfl)

theorem opMax_keeps {F : Nat} {s0 : State} (sl : Slot) (o : VecOp)  (hF : Within 0x160000000040 F) :
    SlotOpKeeps F s0 (opMax sl o) := by
  unfold opMax
  repeat' first
    | with_reducible assumption | with_reducible intro _ | (with_reducible refine SlotOpKeeps.mk_ ?_; intro s hs)
    | with_reducible refine SlotOpKeeps.issue ?_ (opVec_keeps _ _ _ _ ?_) | with_reducible refine landVr_keeps ?_ _ _ _ _ (hF.via rfl)

theorem opMin_keeps {F : Nat} {s0 : State} (sl : Slot) (o : VecOp)  (hF : Within 0x160000000040 F) :
    SlotOpKeeps F s0 (opMin sl o) := by
  unfold opMin
  repeat' first
    | with_reducible assumption | with_reducible intro _ | (with_reducible refine SlotOpKeeps.mk_ ?_; intro s hs)
    | with_reducible refine SlotOpKeeps.issue ?_ (opVec_keeps _ _ _ _ ?_) | with_reducible refine landVr_keeps ?_ _ _ _ _ (hF.via rfl)

theorem opCvt_keeps {F : Nat} {s0 : State} (sl : Slot) (o : VecOp)  (hF : Within 0x160000000040 F) :
    SlotOpKeeps F s0 (opCvt sl o) := by
  unfold opCvt
  repeat' first
    | with_reducible assumption | with_reducible intro _ | (with_reducible refine SlotOpKeeps.mk_ ?_; intro s hs)
    | with_reducible refine SlotOpKeeps.issue ?_ (opVec_keeps _ _ _ _ ?_) | with_reducible refine landVr_keeps ?_ _ _ _ _ (hF.via rfl)

theorem opFunc_keeps {F : Nat} {s0 : State} (sl : Slot) (o : VecOp)  (hF : Within 0x160000000040 F) :
    SlotOpKeeps F s0 (opFunc sl o) := by
  unfold opFunc
  repeat' first
    | with_reducible assumption | with_reducible intro _ | (with_reducible refine SlotOpKeeps.mk_ ?_; intro s hs)
    | with_reducible refine SlotOpKeeps.issue ?_ (opVec_keeps _ _ _ _ ?_) | with_reducible refine landVr_keeps ?_ _ _ _ _ (hF.via rfl)

theorem opRsum_keeps {F : Nat} {s0 : State} (sl : Slot) (o : VecOp)  (hF : Within 0x40 F) :
    SlotOpKeeps F s0 (opRsum sl o) := by
  unfold opRsum
  repeat' first
    | with_reducible assumption | with_reducible intro _ | (with_reducible refine SlotOpKeeps.mk_ ?_; intro s hs)
    | with_reducible refine SlotOpKeeps.issue ?_ (opVec_keeps _ _ _ _ ?_) | with_reducible refine land_keeps ?_ _ _ (hF.via rfl)

theorem opRmax_keeps {F : Nat} {s0 : State} (sl : Slot) (o : VecOp)  (hF : Within 0x40 F) :
    SlotOpKeeps F s0 (opRmax sl o) := by
  unfold opRmax
  repeat' first
    | with_reducible assumption | with_reducible intro _ | (with_reducible refine SlotOpKeeps.mk_ ?_; intro s hs)
    | with_reducible refine SlotOpKeeps.issue ?_ (opVec_keeps _ _ _ _ ?_) | with_reducible refine land_keeps ?_ _ _ (hF.via rfl)

theorem opMxenc_keeps {F : Nat} {s0 : State} (sl : Slot) (o : VecOp)  (hF : Within 0x160000000040 F) :
    SlotOpKeeps F s0 (opMxenc sl o) := by
  unfold opMxenc
  repeat' first
    | with_reducible assumption | with_reducible intro _ | (with_reducible refine SlotOpKeeps.mk_ ?_; intro s hs)
    | with_reducible refine SlotOpKeeps.issue ?_ (opVec_keeps _ _ _ _ ?_) | with_reducible refine landVr_keeps ?_ _ _ _ _ (hF.via rfl)

theorem opMxdec_keeps {F : Nat} {s0 : State} (sl : Slot) (o : VecOp)  (hF : Within 0x160000000040 F) :
    SlotOpKeeps F s0 (opMxdec sl o) := by
  unfold opMxdec
  repeat' first
    | with_reducible assumption | with_reducible intro _ | (with_reducible refine SlotOpKeeps.mk_ ?_; intro s hs)
    | with_reducible refine SlotOpKeeps.issue ?_ (opVec_keeps _ _ _ _ ?_) | with_reducible refine landVr_keeps ?_ _ _ _ _ (hF.via rfl)

theorem watch_keeps {F : Nat} {s0 : State} {s : State} (hs : Keeps F s0 s) (rs : List (Nat × Nat))  (hF : Within 0x8 F) :
    Keeps F s0 (watch s rs) := by
  unfold watch
  repeat' first
    | with_reducible assumption | with_reducible refine Keeps.mk_ ?_ rfl rfl id id

theorem opRoute_keeps {F : Nat} {s0 : State} (sl : Slot) (o : VecOp)  (hF : Within 0x1000800200000000000000000000000008000004700000000000178bcc F) :
    SlotOpKeeps F s0 (opRoute sl o) := by
  unfold opRoute
  repeat' first
    | with_reducible assumption | (with_reducible refine SlotOpKeeps.mk_ ?_; intro s hs) | with_reducible refine spEcc_keeps ?_ _ _ _ _ _ (hF.via rfl)
    | with_reducible refine onTile_keeps ?_ _ _ (hF.via rfl) | with_reducible refine land_keeps ?_ _ _ (hF.via rfl)
    | with_reducible refine watch_keeps ?_ _ (hF.via rfl) | with_reducible refine KeepsFst.fst (unwatch_keeps ?_ _ (hF.via rfl))

theorem opSample_keeps {F : Nat} {s0 : State} (sl : Slot) (o : VecOp)  (hF : Within 0x1000800200000000000000000000000008000004700000000000178bcc F) :
    SlotOpKeeps F s0 (opSample sl o) := by
  unfold opSample
  repeat' first
    | with_reducible assumption | (with_reducible refine SlotOpKeeps.mk_ ?_; intro s hs) | with_reducible refine spEcc_keeps ?_ _ _ _ _ _ (hF.via rfl)
    | with_reducible refine onTile_keeps ?_ _ _ (hF.via rfl) | with_reducible refine land_keeps ?_ _ _ (hF.via rfl)
    | with_reducible refine watch_keeps ?_ _ (hF.via rfl) | with_reducible refine KeepsFst.fst (unwatch_keeps ?_ _ (hF.via rfl))

theorem opMma_keeps {F : Nat} {s0 : State} (sl : Slot) (set : Nat) (ddesc : Nat) (add : Bool)  (hF : Within 0x1000800200000000000000000000000008000004700000000000178bcc F) :
    SlotOpKeeps F s0 (opMma sl set ddesc add) := by
  unfold opMma
  repeat' first
    | with_reducible assumption | (with_reducible refine SlotOpKeeps.mk_ ?_; intro s hs) | with_reducible refine spEcc_keeps ?_ _ _ _ _ _ (hF.via rfl)
    | with_reducible refine onTile_keeps ?_ _ _ (hF.via rfl) | with_reducible refine land_keeps ?_ _ _ (hF.via rfl)

theorem opDrain_keeps {F : Nat} {s0 : State} (sl : Slot) (set : Fin 2) (fmt : BitVec 4) (vd : Fin 32) (rnd : Bool)  (hF : Within 0x160000000040 F) :
    SlotOpKeeps F s0 (opDrain sl set fmt vd rnd) := by
  unfold opDrain
  repeat' first
    | with_reducible assumption | (with_reducible refine SlotOpKeeps.mk_ ?_; intro s hs) | with_reducible refine landVr_keeps ?_ _ _ _ _ (hF.via rfl)
    | with_reducible refine onTile_keeps ?_ _ _ (hF.via rfl)

theorem opLd_keeps {F : Nat} {s0 : State} (sl : Slot) (bank : Fin 4) (addr : BitVec 20) (vr : Fin 32) (part : Fin 4)  (hF : Within 0x1000800200000000000000000000000008000004700000000000178bcc F) :
    SlotOpKeeps F s0 (opLd sl bank addr vr part) := by
  unfold opLd
  repeat' first
    | with_reducible assumption | (with_reducible refine SlotOpKeeps.mk_ ?_; intro s hs) | with_reducible refine Keeps.ite ?_ ?_
    | with_reducible refine spEcc_keeps ?_ _ _ _ _ _ (hF.via rfl) | with_reducible refine land_keeps ?_ _ _ (hF.via rfl)

theorem opSt_keeps {F : Nat} {s0 : State} (sl : Slot) (bank : Fin 4) (addr : BitVec 20) (vr : Fin 32) (part : Fin 4)  (hF : Within 0x1000800200000000000000000000000008000004700000000000178bcc F) :
    SlotOpKeeps F s0 (opSt sl bank addr vr part) := by
  unfold opSt
  repeat' first
    | with_reducible assumption | (with_reducible refine SlotOpKeeps.mk_ ?_; intro s hs) | with_reducible refine Keeps.ite ?_ ?_
    | with_reducible refine spEcc_keeps ?_ _ _ _ _ _ (hF.via rfl) | with_reducible refine land_keeps ?_ _ _ (hF.via rfl)

theorem opCpy_keeps {F : Nat} {s0 : State} (sl : Slot) (sbank : Fin 4) (saddr : BitVec 20) (dbank : Fin 4) (dline : BitVec 14)  (hF : Within 0x1000800200000000000000000000000008000004700000000000178bcc F) :
    SlotOpKeeps F s0 (opCpy sl sbank saddr dbank dline) := by
  unfold opCpy
  repeat' first
    | with_reducible assumption | (with_reducible refine SlotOpKeeps.mk_ ?_; intro s hs) | with_reducible refine Keeps.ite ?_ ?_
    | with_reducible refine spEcc_keeps ?_ _ _ _ _ _ (hF.via rfl) | with_reducible refine land_keeps ?_ _ _ (hF.via rfl)

theorem opCtlWait_keeps {F : Nat} {s0 : State} (sl : Slot) (n : BitVec 24)  (hF : Within 0x40 F) :
    SlotOpKeeps F s0 (opCtlWait sl n) := by
  unfold opCtlWait
  repeat' first
    | with_reducible assumption | (with_reducible refine SlotOpKeeps.mk_ ?_; intro s hs) | with_reducible refine onTile_keeps ?_ _ _ (hF.via rfl)

theorem showLoops_keeps {F : Nat} {s0 : State} {s : State} (hs : Keeps F s0 s) (t : Nat)  (hF : Within 0x400000000000000 F) :
    Keeps F s0 (showLoops s t) := by
  unfold showLoops
  repeat' first
    | with_reducible assumption | with_reducible refine wrFld_keeps ?_ _ _ _ _ (hF.reg rfl)

theorem opLoop_keeps {F : Nat} {s0 : State} (sl : Slot) (count : BitVec 20)  (hF : Within 0x400000000000040 F) :
    SlotOpKeeps F s0 (opLoop sl count) := by
  unfold opLoop
  repeat' first
    | with_reducible assumption | (with_reducible refine SlotOpKeeps.mk_ ?_; intro s hs) | with_reducible refine showLoops_keeps ?_ _ (hF.via rfl)
    | with_reducible refine onTile_keeps ?_ _ _ (hF.via rfl)

theorem opEndloop_keeps {F : Nat} {s0 : State} (sl : Slot)  (hF : Within 0x400000000000040 F) :
    SlotOpKeeps F s0 (opEndloop sl) := by
  unfold opEndloop
  repeat' first
    | with_reducible assumption | (with_reducible refine SlotOpKeeps.mk_ ?_; intro s hs) | with_reducible refine Keeps.ite ?_ ?_
    | with_reducible refine wrFld_keeps ?_ _ _ _ _ (hF.reg rfl) | with_reducible refine onTile_keeps ?_ _ _ (hF.via rfl)
    | with_reducible refine showLoops_keeps ?_ _ (hF.via rfl) | split

theorem opSeedld_keeps {F : Nat} {s0 : State} (sl : Slot) (bank : Fin 4) (line : BitVec 14) (word : Fin 8)  (hF : Within 0x1000800200000000000000000000000008000004700000000000178bcc F) :
    SlotOpKeeps F s0 (opSeedld sl bank line word) := by
  unfold opSeedld
  repeat' first
    | with_reducible assumption | (with_reducible refine SlotOpKeeps.mk_ ?_; intro s hs) | with_reducible refine spEcc_keeps ?_ _ _ _ _ _ (hF.via rfl)
    | with_reducible refine onTile_keeps ?_ _ _ (hF.via rfl)

theorem opFallow_keeps {F : Nat} {s0 : State} (sl : Slot) (wake : Bool) (last : Fin 32) (first : Fin 32)  (hF : Within 0x40800000000000800002040 F) :
    SlotOpKeeps F s0 (opFallow sl wake last first) := by
  unfold opFallow
  repeat' first
    | with_reducible assumption | with_reducible intro _ | (with_reducible refine SlotOpKeeps.mk_ ?_; intro s hs)
    | with_reducible refine forAll_keeps ?_ _ _ ?_ | with_reducible refine fallowReq_keeps ?_ _ _ _ (hF.via rfl)

theorem holdPlot_keeps {F : Nat} {s0 : State} {s : State} (hs : Keeps F s0 s) (p : Nat)  (hF : Within 0x200000000000000000000000000000004000000000000010080 F) :
    Keeps F s0 (holdPlot s p) := by
  unfold holdPlot
  repeat' first
    | with_reducible assumption | with_reducible refine Keeps.ite ?_ ?_ | with_reducible refine onPlot_keeps ?_ _ _ (hF.via rfl)
    | with_reducible refine setPlt_keeps ?_ _ _ (hF.via rfl) | with_reducible refine onCkp_keeps ?_ _ _ (hF.via rfl)

theorem stepEnded_keeps {F : Nat} {s0 : State} {s : State} (hs : Keeps F s0 s) (p : Nat)  (hF : Within 0x20000000000000000000300000800002400000000000011c780 F) :
    Keeps F s0 (stepEnded s p) := by
  unfold stepEnded
  repeat' first
    | with_reducible assumption | with_reducible refine Keeps.ite ?_ ?_ | with_reducible refine count_keeps ?_ _ _ (hF.reg rfl)
    | with_reducible refine snapshotTiles_keeps ?_ _ (hF.via rfl) | with_reducible refine onPlot_keeps ?_ _ _ (hF.via rfl)
    | with_reducible refine holdPlot_keeps ?_ _ (hF.via rfl) | with_reducible refine discardUnsent_keeps ?_ _ (hF.via rfl)
    | with_reducible refine wrBit_keeps ?_ _ _ _ (hF.reg rfl)

theorem opEnd_keeps {F : Nat} {s0 : State} (sl : Slot)  (hF : Within 0x2000000000000000000030000080000240804003e000017c7dc F) :
    SlotOpKeeps F s0 (opEnd sl) := by
  unfold opEnd
  repeat' first
    | with_reducible assumption | (intro x; refine keeps_cut (F := F) (s0 := s0) x ?_ ?_ <;> [subst x; (clear_value x; intro _)])
    | (intro x; subst x) | with_reducible intro _ | (with_reducible refine SlotOpKeeps.mk_ ?_; intro s hs)
    | with_reducible refine landAll_keeps ?_ _ (hF.via rfl) | with_reducible refine forAll_keeps ?_ _ _ ?_
    | with_reducible refine wr_keeps ?_ _ _ (hF.reg rfl) | with_reducible refine setTileRun_keeps ?_ _ _ (hF.via rfl)
    | with_reducible refine stepEnded_keeps ?_ _ (hF.via rfl) | lift_lets | split

theorem startInst_keeps {F : Nat} {s0 : State} {s : State} (hs : Keeps F s0 s) (p : Nat) (x : Nat) (lines : List (BitVec 512))  (hF : Within 0x80 F) :
    Keeps F s0 (startInst s p x lines) := by
  unfold startInst
  repeat' first
    | with_reducible assumption | with_reducible refine onXing_keeps ?_ _ _ _ (hF.via rfl)

theorem opSend_keeps {F : Nat} {s0 : State} (sl : Slot) (xid : BitVec 12)  (hF : Within 0x10008002000000000000000000000000080000047000003e0000178bdc F) :
    SlotOpKeeps F s0 (opSend sl xid) := by
  unfold opSend
  repeat' first
    | with_reducible assumption | with_reducible intro _ | (with_reducible refine SlotOpKeeps.mk_ ?_; intro s hs)
    | with_reducible refine Keeps.ite ?_ ?_ | with_reducible refine spEcc_keeps ?_ _ _ _ _ _ (hF.via rfl)
    | with_reducible refine onXing_keeps ?_ _ _ _ (hF.via rfl) | with_reducible refine landUpTo_keeps ?_ _ _ _ (hF.via rfl)
    | with_reducible refine forAll_keeps ?_ _ _ ?_ | with_reducible refine land_keeps ?_ _ _ (hF.via rfl)
    | with_reducible refine startInst_keeps ?_ _ _ _ (hF.via rfl) | lift_lets | split

theorem onXingOf_keeps {F : Nat} {s0 : State} {s : State} (hs : Keeps F s0 s) (t : Nat) (x : Nat) (f : Xing → Xing)  (hF : Within 0x80 F) :
    Keeps F s0 (onXingOf s t x f) := by
  unfold onXingOf
  repeat' first
    | with_reducible assumption | with_reducible refine onXing_keeps ?_ _ _ _ (hF.via rfl) | split

theorem opXngWait_keeps {F : Nat} {s0 : State} (sl : Slot) (xid : BitVec 12)  (hF : Within 0x80 F) :
    SlotOpKeeps F s0 (opXngWait sl xid) := by
  unfold opXngWait
  repeat' first
    | with_reducible assumption | (with_reducible refine SlotOpKeeps.mk_ ?_; intro s hs) | with_reducible refine onXingOf_keeps ?_ _ _ _ (hF.via rfl)

theorem opLread_keeps {F : Nat} {s0 : State} (sl : Slot) (xid : BitVec 12)  (hF : Within 0x80 F) :
    SlotOpKeeps F s0 (opLread sl xid) := by
  unfold opLread
  repeat' first
    | with_reducible assumption | (with_reducible refine SlotOpKeeps.mk_ ?_; intro s hs) | with_reducible refine startInst_keeps ?_ _ _ _ (hF.via rfl)
    | lift_lets | split

theorem opFree_keeps {F : Nat} {s0 : State} (sl : Slot) (xid : BitVec 12)  (hF : Within 0x80 F) :
    SlotOpKeeps F s0 (opFree sl xid) := by
  unfold opFree
  repeat' first
    | with_reducible assumption | (with_reducible refine SlotOpKeeps.mk_ ?_; intro s hs) | with_reducible refine onXingOf_keeps ?_ _ _ _ (hF.via rfl)

theorem slotOp_keeps {F : Nat} {s0 : State} (i : Instr) (hF : Within 0x10008002000000000000000000030000080408247807003e290417efdc F) : SlotOpKeeps F s0 (slotOp i) := by
  cases i with
  | loadiv sl iv b l => exact opLoadiv_keeps _ _ _ _ (hF.via rfl)
  | launch sl a iv d => exact opLaunch_keeps _ _ _ _ (hF.via rfl)
  | rlaunch sl g iv d => exact opRlaunch_keeps _ _ _ _ (hF.via rfl)
  | collect sl a d => exact opCollect_keeps _ _ _ _ (hF.via rfl)
  | rcollect sl g d => exact opCollect_keeps _ _ _ _ (hF.via rfl)
  | vecFma sl o => exact opVecFma_keeps _ _ (hF.via rfl)
  | vecAdd sl o => exact opVecAdd_keeps _ _ (hF.via rfl)
  | vecMul sl o => exact opVecMul_keeps _ _ (hF.via rfl)
  | max sl o => exact opMax_keeps _ _ (hF.via rfl)
  | min sl o => exact opMin_keeps _ _ (hF.via rfl)
  | cvt sl o => exact opCvt_keeps _ _ (hF.via rfl)
  | func sl o => exact opFunc_keeps _ _ (hF.via rfl)
  | rsum sl o => exact opRsum_keeps _ _ (hF.via rfl)
  | rmax sl o => exact opRmax_keeps _ _ (hF.via rfl)
  | mxenc sl o => exact opMxenc_keeps _ _ (hF.via rfl)
  | mxdec sl o => exact opMxdec_keeps _ _ (hF.via rfl)
  | route sl o => exact opRoute_keeps _ _ (hF.via rfl)
  | sample sl o => exact opSample_keeps _ _ (hF.via rfl)
  | mma sl c d => exact opMma_keeps _ _ _ _ (hF.via rfl)
  | mmaz sl c d => exact opMma_keeps _ _ _ _ (hF.via rfl)
  | drain sl c f v r => exact opDrain_keeps _ _ _ _ _ (hF.via rfl)
  | ld sl b a v p => exact opLd_keeps _ _ _ _ _ (hF.via rfl)
  | st sl b a v p => exact opSt_keeps _ _ _ _ _ (hF.via rfl)
  | cpy sl b a c l => exact opCpy_keeps _ _ _ _ _ (hF.via rfl)
  | ctlWait sl n => exact opCtlWait_keeps _ _ (hF.via rfl)
  | loop sl n => exact opLoop_keeps _ _ (hF.via rfl)
  | endloop sl => exact opEndloop_keeps _ (hF.via rfl)
  | seedld sl b l w => exact opSeedld_keeps _ _ _ _ (hF.via rfl)
  | fallow sl w l f => exact opFallow_keeps _ _ _ _ (hF.via rfl)
  | endOp sl => exact opEnd_keeps _ (hF.via rfl)
  | send sl x => exact opSend_keeps _ _ (hF.via rfl)
  | xngWait sl x => exact opXngWait_keeps _ _ (hF.via rfl)
  | lread sl x => exact opLread_keeps _ _ (hF.via rfl)
  | free sl x => exact opFree_keeps _ _ (hF.via rfl)
  | _ => exact SlotOpKeeps.mk_ (fun _ hs => hs)

theorem issueAll_keeps {F : Nat} {s0 : State} {s : State} (hs : Keeps F s0 s) (ops : List Instr) (hF : Within 0x10008002000000000000000000030000080408247807003e290417efdc F) : Keeps F s0 (issueAll s ops) :=
  foldl_keeps hs _ _ (fun _ i h => (slotOp_keeps i (hF.via rfl)).holds _ h)

theorem issuing_keeps {F : Nat} {s0 : State} {s : State} (hs : Keeps F s0 s) (sl : Slot) (ops : List Instr)  (hF : Within 0x400000000000040 F) :
    Keeps F s0 (issuing s sl ops) := by
  unfold issuing
  repeat' first
    | with_reducible assumption | with_reducible refine wrFld_keeps ?_ _ _ _ _ (hF.reg rfl) | with_reducible refine onTile_keeps ?_ _ _ (hF.via rfl)

theorem judge_keeps {F : Nat} {s0 : State} {s : State} (hs : Keeps F s0 s) (sl : Slot) (ops : List Instr)  (hF : Within 0x10008002000000000000000000030000080408247e6f003e6b1c17efdc F) :
    Keeps F s0 (judge s sl ops) := by
  unfold judge
  repeat' first
    | with_reducible assumption | with_reducible refine Keeps.ite ?_ ?_ | with_reducible refine presented_keeps ?_ _ (hF.via rfl)
    | with_reducible refine tileFault_keeps ?_ _ _ (hF.via rfl) | with_reducible refine chargeBank_keeps ?_ _ _ _ _ (hF.via rfl)
    | with_reducible refine holdBundle_keeps ?_ _ _ _ (hF.via rfl) | with_reducible refine unheld_keeps ?_ _ (hF.via rfl)
    | with_reducible refine issueAll_keeps ?_ _ (hF.via rfl) | with_reducible refine issuing_keeps ?_ _ _ (hF.via rfl)

theorem judgeHeld_keeps {F : Nat} {s0 : State} {s : State} (hs : Keeps F s0 s) (t : Nat)  (hF : Within 0x10008002000000000000000000030000080408247e6f003e6b1c17efdc F) :
    Keeps F s0 (judgeHeld s t) := by
  unfold judgeHeld
  repeat' first
    | with_reducible assumption | (intro x; clear_value x) | with_reducible refine judge_keeps ?_ _ _ (hF.via rfl)
    | with_reducible refine onTile_keeps ?_ _ _ (hF.via rfl) | lift_lets | split

theorem release_keeps {F : Nat} {s0 : State} {s : State} (hs : Keeps F s0 s) (n : Nat) (l : List Nat) (hF : Within 0x10008002000000000000000000030000080408247e6f003e6b1c17efdc F) :
    Keeps F s0 (release n l s) := by
  induction n generalizing l s with
  | zero => unfold release; exact hs
  | succ n ih =>
    cases l with
    | nil => unfold release; exact hs
    | cons t rest => exact ih (judgeHeld_keeps hs _ (hF.via rfl)) _

theorem retry_keeps {F : Nat} {s0 : State} {s : State} (hs : Keeps F s0 s) (ts : List Nat) (waited : Nat)  (hF : Within 0x10008002000000000000000000030000080408247e6f003e6b1c17efdc F) :
    Keeps F s0 (retry s ts waited) := by
  unfold retry
  repeat' first
    | with_reducible assumption | with_reducible intro _ | with_reducible refine forAll_keeps ?_ _ _ ?_
    | with_reducible refine chargeWait_keeps ?_ _ _ (hF.via rfl) | with_reducible refine release_keeps ?_ _ _ (hF.via rfl)

theorem crossingDone_keeps {F : Nat} {s0 : State} {s : State} (hs : Keeps F s0 s) (p : Nat) (x : Nat) (inst : Nat)  (hF : Within 0x10008002000000000000000000030000080408247e6f003e6b1c17efdc F) :
    Keeps F s0 (crossingDone s p x inst) := by
  unfold crossingDone
  repeat' first
    | with_reducible assumption | (intro x; refine keeps_cut (F := F) (s0 := s0) x ?_ ?_ <;> [subst x; (clear_value x; intro _)])
    | with_reducible refine Keeps.ite ?_ ?_ | with_reducible refine onXing_keeps ?_ _ _ _ (hF.via rfl)
    | with_reducible refine retry_keeps ?_ _ _ (hF.via rfl) | lift_lets | split

theorem finishOp_keeps {F : Nat} {s0 : State} {s1 : State} (hs1 : Keeps F s0 s1) (o : RmaOp) (status : Nat) (result : DWord)  (hF : Within 0x100e80020000040aff40000000030000080408247e6f003e6b1c37efdc F) :
    Keeps F s0 (finishOp s1 o status result) := by
  unfold finishOp
  repeat' first
    | with_reducible assumption | with_reducible refine Keeps.ite ?_ ?_ | with_reducible refine staleResult_keeps ?_ _ (hF.via rfl)
    | with_reducible refine postRecord_keeps ?_ _ _ (hF.via rfl) | with_reducible refine stgSettled_keeps ?_ _ (hF.via rfl)
    | with_reducible refine stgEnd_keeps ?_ _ _ _ (hF.via rfl) | with_reducible refine crossingDone_keeps ?_ _ _ _ (hF.via rfl) | lift_lets | split
    | dsimp only

theorem completeOp_keeps {F : Nat} {s0 : State} {s : State} (hs : Keeps F s0 s) (o : RmaOp) (status : Nat) (result : DWord)  (hF : Within 0x100e80020000040aff40000000030000080408247e6f003e6b1c37efdc F) :
    Keeps F s0 (completeOp s o status result) := by
  unfold completeOp
  repeat' first
    | with_reducible assumption | with_reducible refine finishOp_keeps ?_ _ _ _ (hF.via rfl) | with_reducible refine dropOp_keeps ?_ _ (hF.via rfl)

theorem completeAll_keeps {F : Nat} {s0 : State} {s : State} (hs : Keeps F s0 s) (cid : Nat) (status : Nat)  (hF : Within 0x100e80020000040aff40000000030000080408247e6f003e6b1c37efdc F) :
    Keeps F s0 (completeAll s cid status) := by
  unfold completeAll
  repeat' first
    | with_reducible assumption | with_reducible intro _ | with_reducible refine onRma_keeps ?_ _ (hF.via rfl)
    | with_reducible refine finishOp_keeps ?_ _ _ _ (hF.via rfl) | with_reducible refine completeOp_keeps ?_ _ _ _ (hF.via rfl)
    | with_reducible refine foldl_keeps ?_ _ _ ?_

theorem endContext_keeps {F : Nat} {s0 : State} {s : State} (hs : Keeps F s0 s) (cid : Nat) (st : Nat) (status : Nat)  (hF : Within 0x100e80020000040aff40000000030000080408247e6f003e6b1c37efdc F) :
    Keeps F s0 (endContext s cid st status) := by
  unfold endContext
  repeat' first
    | with_reducible assumption | with_reducible refine completeAll_keeps ?_ _ _ (hF.via rfl) | with_reducible refine onCtx_keeps ?_ _ _ (hF.via rfl)

theorem endLoad_keeps {F : Nat} {s0 : State} {s : State} (hs : Keeps F s0 s) (p : Nat)  (hF : Within 0x800000040 F) :
    Keeps F s0 (endLoad s p) := by
  unfold endLoad
  repeat' first
    | with_reducible assumption | with_reducible intro _ | with_reducible refine Keeps.ite ?_ ?_ | with_reducible refine forAll_keeps ?_ _ _ ?_
    | with_reducible refine closeFallow_keeps ?_ _ _ (hF.via rfl) | with_reducible refine onTile_keeps ?_ _ _ (hF.via rfl)

theorem dropLoads_keeps {F : Nat} {s0 : State} {s : State} (hs : Keeps F s0 s) (f : Nat → Bool)  (hF : Within 0x3000000000000000000000800404740 F) :
    Keeps F s0 (dropLoads s f) := by
  unfold dropLoads
  repeat' first
    | with_reducible assumption | with_reducible intro _ | with_reducible refine answer_keeps ?_ _ _ _ _ _ _ _ (hF.via rfl)
    | with_reducible refine endLoad_keeps ?_ _ (hF.via rfl) | (with_reducible refine onSec_keeps ?_ _ ?_ ?_ (hF.bit rfl)) <;> [skip; rfl; rfl]
    | with_reducible refine foldl_keeps ?_ _ _ ?_

theorem endDebug_keeps {F : Nat} {s0 : State} {s : State} (hs : Keeps F s0 s)  (hF : Within 0x10008002000000000000000000030000080408267e6f003e6b1c57efdc F) :
    Keeps F s0 (endDebug s) := by
  unfold endDebug
  repeat' first
    | with_reducible assumption | (intro x; subst x) | with_reducible intro _ | with_reducible refine Keeps.ite ?_ ?_
    | with_reducible refine forAll_keeps ?_ _ _ ?_ | with_reducible refine retry_keeps ?_ _ _ (hF.via rfl)
    | with_reducible refine wrBit_keeps ?_ _ _ _ (hF.reg rfl) | lift_lets | with_reducible refine Keeps.mk_ ?_ rfl rfl id id

theorem wakeTile_keeps {F : Nat} {s0 : State} {s : State} (hs : Keeps F s0 s) (t : Nat) (waited : Nat)  (hF : Within 0x10008002000000000000000000030000080408247e6f003e6b1c17efdc F) :
    Keeps F s0 (wakeTile s t waited) := by
  unfold wakeTile
  repeat' first
    | with_reducible assumption | with_reducible refine Keeps.ite ?_ ?_ | with_reducible refine retry_keeps ?_ _ _ (hF.via rfl)

theorem dropFlight_keeps {F : Nat} {s0 : State} {s : State} (hs : Keeps F s0 s) (p : Nat) (x : Nat) (i : XInst)  (hF : Within 0x80 F) :
    Keeps F s0 (dropFlight s p x i) := by
  unfold dropFlight
  repeat' first
    | with_reducible assumption | with_reducible refine onXing_keeps ?_ _ _ _ (hF.via rfl)

theorem feedRelease_keeps {F : Nat} {s0 : State} {s : State} (hs : Keeps F s0 s) (waited : Nat)  (hF : Within 0x10008002000000000000000000030000080408247e6f003e6b1c17efdc F) :
    Keeps F s0 (feedRelease waited s) := by
  unfold feedRelease
  repeat' first
    | with_reducible assumption | with_reducible intro _ | with_reducible refine Keeps.ite ?_ ?_ | with_reducible refine forAll_keeps ?_ _ _ ?_
    | with_reducible refine wakeTile_keeps ?_ _ _ (hF.via rfl) | with_reducible refine dropFlight_keeps ?_ _ _ _ (hF.via rfl)
    | with_reducible refine foldl_keeps ?_ _ _ ?_ | split

theorem requestVolt_keeps {F : Nat} {s0 : State} {s : State} (hs : Keeps F s0 s) (d : Nat)  (hF : Within 0x2000 F) :
    Keeps F s0 (requestVolt s d) := by
  unfold requestVolt
  repeat' first
    | with_reducible assumption | (intro x; subst x) | with_reducible refine Keeps.ite ?_ ?_ | lift_lets
    | with_reducible refine Keeps.mk_ ?_ rfl rfl id id

theorem startFreq_keeps {F : Nat} {s0 : State} {s : State} (hs : Keeps F s0 s) (t : Nat)  (hF : Within 0x2040 F) :
    Keeps F s0 (startFreq s t) := by
  unfold startFreq
  repeat' first
    | with_reducible assumption | with_reducible refine requestVolt_keeps ?_ _ (hF.via rfl) | with_reducible refine onTile_keeps ?_ _ _ (hF.via rfl)

theorem restoreGroup_keeps {F : Nat} {s0 : State} {s : State} (hs : Keeps F s0 s) (r : CalTileRec) (t : Nat) (g : Nat)  (hF : Within 0x1000000000000000000000000000000000000000000300002804000940 F) :
    Keeps F s0 (restoreGroup r t s g) := by
  unfold restoreGroup
  repeat' first
    | with_reducible assumption | with_reducible refine Keeps.ite ?_ ?_ | with_reducible refine wrFld_keeps ?_ _ _ _ _ (hF.reg rfl)
    | with_reducible refine onCal_keeps ?_ _ _ _ (hF.via rfl) | with_reducible refine setSpare_keeps ?_ _ _ _ (hF.via rfl)
    | with_reducible refine wrBit_keeps ?_ _ _ _ (hF.reg rfl) | with_reducible refine groupLost_keeps ?_ _ _ _ (hF.via rfl) | split

theorem tileReleased_keeps {F : Nat} {s0 : State} {s : State} (hs : Keeps F s0 s) (cold : Bool) (t : Nat)  (hF : Within 0x1000000000000000000000000000000000040800000300002804002940 F) :
    Keeps F s0 (tileReleased cold s t) := by
  unfold tileReleased
  repeat' first
    | with_reducible assumption | with_reducible intro _ | with_reducible refine Keeps.ite ?_ ?_ | with_reducible refine forAll_keeps ?_ _ _ ?_
    | with_reducible refine restoreGroup_keeps ?_ _ _ _ (hF.via rfl) | with_reducible refine writeBudget_keeps ?_ _ (hF.via rfl)
    | with_reducible refine onTile_keeps ?_ _ _ (hF.via rfl) | with_reducible refine harrowOpen_keeps ?_ _ (hF.via rfl) | lift_lets | split

theorem execApertureAccess_keeps {F : Nat} {s0 : State} {s : State} (hs : Keeps F s0 s) (m : Master) (t : Fin 128) (off : BitVec 12) (eight : Bool) (wdata : Option DWord) (ecc : Ecc)  (hF : Within 0x1000800200001000000000000000000008000004700000000000178bcc F) :
    Kept F s0 (execApertureAccess m t off eight wdata ecc s) := by
  unfold execApertureAccess
  repeat' first
    | with_reducible assumption | (intro x; refine keeps_cut (F := F) (s0 := s0) x ?_ ?_ <;> [subst x; (clear_value x; intro _)])
    | with_reducible refine Kept.ite ?_ ?_ | with_reducible refine Keeps.ite ?_ ?_ | with_reducible refine Kept.next ?_
    | with_reducible refine emit_keeps ?_ _ (hF.via rfl) | with_reducible refine count_keeps ?_ _ _ (hF.reg rfl)
    | with_reducible refine wrBit_keeps ?_ _ _ _ (hF.reg rfl) | with_reducible refine spRecord_keeps ?_ _ _ _ _ (hF.via rfl)
    | with_reducible refine recordEvent_keeps ?_ _ _ _ _ _ _ _ (hF.via rfl) | with_reducible refine spEcc_keeps ?_ _ _ _ _ _ (hF.via rfl)
    | with_reducible refine wrBytes_keeps ?_ _ _ (hF.via rfl) | lift_lets | split

theorem settleFreq_keeps {F : Nat} {s0 : State} {s : State} (hs : Keeps F s0 s) (t : Nat)  (hF : Within 0x40 F) :
    Keeps F s0 (settleFreq s t) := by
  unfold settleFreq
  repeat' first
    | with_reducible assumption | with_reducible refine Keeps.ite ?_ ?_ | with_reducible refine onTile_keeps ?_ _ _ (hF.via rfl)

theorem aimFreq_keeps {F : Nat} {s0 : State} {s : State} (hs : Keeps F s0 s) (t : Nat)  (hF : Within 0x2040 F) :
    Keeps F s0 (aimFreq s t) := by
  unfold aimFreq
  repeat' first
    | with_reducible assumption | with_reducible refine Keeps.ite ?_ ?_ | with_reducible refine requestVolt_keeps ?_ _ (hF.via rfl)
    | with_reducible refine onTile_keeps ?_ _ _ (hF.via rfl) | with_reducible refine settleFreq_keeps ?_ _ (hF.via rfl)

theorem setCalState_keeps {F : Nat} {s0 : State} {s : State} (hs : Keeps F s0 s) (t : Nat) (g : Nat) (v : Nat)  (hF : Within 0x100000000000000 F) :
    Keeps F s0 (setCalState s t g v) := by
  unfold setCalState
  repeat' first
    | with_reducible assumption | with_reducible refine wrFld_keeps ?_ _ _ _ _ (hF.reg rfl)

theorem execFgReq_keeps {F : Nat} {s0 : State} {s : State} (hs : Keeps F s0 s) (t : Fin 128)  (hF : Within 0x100000000000000 F) :
    Kept F s0 (execFgReq t s) := by
  unfold execFgReq
  repeat' first
    | with_reducible assumption | with_reducible intro _ | with_reducible refine Keeps.ite ?_ ?_ | with_reducible refine Kept.next ?_
    | with_reducible refine forAll_keeps ?_ _ _ ?_ | with_reducible refine setCalState_keeps ?_ _ _ _ (hF.via rfl)

theorem enterRecal_keeps {F : Nat} {s0 : State} {s : State} (hs : Keeps F s0 s) (t : Nat) (g : Nat)  (hF : Within 0x120000000000000 F) :
    Keeps F s0 (enterRecal s t g) := by
  unfold enterRecal
  repeat' first
    | with_reducible assumption | with_reducible refine count_keeps ?_ _ _ (hF.reg rfl)
    | with_reducible refine setCalState_keeps ?_ _ _ _ (hF.via rfl)

theorem execRecalReq_keeps {F : Nat} {s0 : State} {s : State} (hs : Keeps F s0 s) (t : Fin 128)  (hF : Within 0x120000000000000 F) :
    Kept F s0 (execRecalReq t s) := by
  unfold execRecalReq
  repeat' first
    | with_reducible assumption | with_reducible intro _ | with_reducible refine Keeps.ite ?_ ?_ | with_reducible refine Kept.next ?_
    | with_reducible refine forAll_keeps ?_ _ _ ?_ | with_reducible refine enterRecal_keeps ?_ _ _ (hF.via rfl)

theorem execRegionRegisterWrite_now_keeps {F : Nat} {s0 : State} {s : State} (hs : Keeps F s0 s) (t : Fin 128) (master : Fin 5) (r : Fin 16) (v : Word)  (hF : Within 0x1000000000000000040 F) :
    Keeps F s0 (execRegionRegisterWrite.now t master r v s) := by
  unfold execRegionRegisterWrite.now
  repeat' first
    | with_reducible assumption | with_reducible refine wr_keeps ?_ _ _ (hF.reg rfl) | with_reducible refine onTile_keeps ?_ _ _ (hF.via rfl)

theorem execRegionRegisterWrite_keeps {F : Nat} {s0 : State} {s : State} (hs : Keeps F s0 s) (m : Master) (t : Fin 128) (master : Fin 5) (r : Fin 16) (v : Word)  (hF : Within 0x1000000000000000000000000000000000000001000000000000000840 F) :
    Kept F s0 (execRegionRegisterWrite m t master r v s) := by
  unfold execRegionRegisterWrite
  repeat' first
    | with_reducible assumption | with_reducible refine Keeps.ite ?_ ?_ | with_reducible refine Kept.next ?_
    | with_reducible refine regionWriteRefused_keeps ?_ _ _ (hF.via rfl) | with_reducible refine onTile_keeps ?_ _ _ (hF.via rfl)
    | with_reducible refine execRegionRegisterWrite_now_keeps ?_ _ _ _ _ (hF.via rfl) | split

theorem holdJob_keeps {F : Nat} {s0 : State} {s : State} (hs : Keeps F s0 s) (p : Nat)  (hF : Within 0x200000000000000000000000000000006000000000000010280 F) :
    Keeps F s0 (holdJob s p) := by
  unfold holdJob
  repeat' first
    | with_reducible assumption | with_reducible refine Keeps.ite ?_ ?_ | with_reducible refine wrBit_keeps ?_ _ _ _ (hF.reg rfl)
    | with_reducible refine onPlot_keeps ?_ _ _ (hF.via rfl) | with_reducible refine emit_keeps ?_ _ (hF.via rfl)
    | with_reducible refine holdPlot_keeps ?_ _ (hF.via rfl)

theorem execHoldResume_keeps {F : Nat} {s0 : State} {s : State} (hs : Keeps F s0 s) (p : Fin 12)  (hF : Within 0x200000000000000000000000000000006000000000000000080 F) :
    Kept F s0 (execHoldResume p s) := by
  unfold execHoldResume
  repeat' first
    | with_reducible assumption | with_reducible refine Keeps.ite ?_ ?_ | with_reducible refine Kept.next ?_
    | with_reducible refine wrBit_keeps ?_ _ _ _ (hF.reg rfl) | with_reducible refine onPlot_keeps ?_ _ _ (hF.via rfl)
    | with_reducible refine setPlt_keeps ?_ _ _ (hF.via rfl)

theorem execHalt_keeps {F : Nat} {s0 : State} {s : State} (hs : Keeps F s0 s) (p : Fin 12) (v : Bool)  (hF : Within 0x10008002000000000000000000030000080408267e6f003e6b1c17efdc F) :
    Kept F s0 (execHalt p v s) := by
  unfold execHalt
  repeat' first
    | with_reducible assumption | with_reducible refine Keeps.ite ?_ ?_ | with_reducible refine Kept.next ?_
    | with_reducible refine wrBit_keeps ?_ _ _ _ (hF.reg rfl) | with_reducible refine retry_keeps ?_ _ _ (hF.via rfl)

theorem forgetDirty_keeps {F : Nat} {s0 : State} {s : State} (hs : Keeps F s0 s) (base : Nat) (size : Nat)  (hF : Within 0x60000 F) :
    Keeps F s0 (forgetDirty s base size) := by
  unfold forgetDirty
  repeat' first
    | with_reducible assumption | (intro x; subst x) | lift_lets | with_reducible refine Keeps.mk_ ?_ rfl rfl id id

theorem execRegionEnable_keeps {F : Nat} {s0 : State} {s : State} (hs : Keeps F s0 s) (m : Master) (n : Fin 32)  (hF : Within 0x1000000000000000000000000000000400000000000000000000068814 F) :
    Kept F s0 (execRegionEnable m n s) := by
  unfold execRegionEnable
  repeat' first
    | with_reducible assumption | (intro x; subst x) | with_reducible refine Keeps.ite ?_ ?_ | with_reducible refine Kept.next ?_
    | with_reducible refine recordEvent_keeps ?_ _ _ _ _ _ _ _ (hF.via rfl) | with_reducible refine wrFld_keeps ?_ _ _ _ _ (hF.reg rfl)
    | with_reducible refine regionWriteRefused_keeps ?_ _ _ (hF.via rfl) | with_reducible refine newKey_keeps ?_ _ (hF.via rfl)
    | with_reducible refine wrBit_keeps ?_ _ _ _ (hF.reg rfl) | with_reducible refine forgetDirty_keeps ?_ _ _ (hF.via rfl) | lift_lets
    | with_reducible refine Keeps.mk_ ?_ rfl rfl id id

theorem execRegionDisable_keeps {F : Nat} {s0 : State} {s : State} (hs : Keeps F s0 s) (m : Master) (n : Fin 32)  (hF : Within 0x1000000000000000000000000000000480000000000000000000008800 F) :
    Kept F s0 (execRegionDisable m n s) := by
  unfold execRegionDisable
  repeat' first
    | with_reducible assumption | with_reducible refine Keeps.ite ?_ ?_ | with_reducible refine Kept.next ?_
    | with_reducible refine closeRegion_keeps ?_ _ (hF.via rfl) | with_reducible refine regionWriteRefused_keeps ?_ _ _ (hF.via rfl)

theorem refuseOp_keeps {F : Nat} {s0 : State} {s : State} (hs : Keeps F s0 s) (o : RmaOp) (a : Nat) (n : Nat) (write : Bool)  (hF : Within 0x100e80020000040aff40000000030000080408247e6f003e6b1c37efdc F) :
    Keeps F s0 (refuseOp s o a n write) := by
  unfold refuseOp
  repeat' first
    | with_reducible assumption | (intro x; refine keeps_cut (F := F) (s0 := s0) x ?_ ?_ <;> [subst x; (clear_value x; intro _)])
    | (intro x; clear_value x) | with_reducible refine Keeps.ite ?_ ?_ | with_reducible refine engineRefused_keeps ?_ _ _ _ _ (hF.via rfl)
    | with_reducible refine stgEnd_keeps ?_ _ _ _ (hF.via rfl) | with_reducible refine dropOp_keeps ?_ _ (hF.via rfl)
    | with_reducible refine completeOp_keeps ?_ _ _ _ (hF.via rfl) | lift_lets | split

theorem pumpOne_keeps {F : Nat} {s0 : State} {s : State} (hs : Keeps F s0 s) (cid : Nat)  (hF : Within 0x100e80020000040aff40800000030000080408247e6f003e6b1c3fefdc F) :
    KeepsOpt F s0 (pumpOne s cid) := by
  unfold pumpOne
  repeat' first
    | with_reducible assumption | (intro x; subst x) | with_reducible refine KeepsOpt.ite ?_ ?_ | with_reducible refine Keeps.ite ?_ ?_
    | with_reducible refine KeepsOpt.some ?_ | with_reducible exact KeepsOpt.none | with_reducible refine settleOp_keeps ?_ _ _ _ (hF.via rfl)
    | with_reducible refine completeOp_keeps ?_ _ _ _ (hF.via rfl) | with_reducible refine refuseOp_keeps ?_ _ _ _ _ (hF.via rfl)
    | with_reducible refine sendPkt_keeps ?_ _ _ _ (hF.via rfl) | with_reducible refine onCtx_keeps ?_ _ _ (hF.via rfl)
    | with_reducible refine putOp_keeps ?_ _ (hF.via rfl) | lift_lets | split

theorem pump_keeps {F : Nat} {s0 : State} {s : State} (hs : Keeps F s0 s) (a1 : Nat) (a3 : Nat)  (hF : Within 0x100e80020000040aff40800000030000080408247e6f003e6b1c3fefdc F) :
    Keeps F s0 (pump a1 s a3) := by
  induction a1 generalizing s a3 with
  | zero =>
    unfold pump
    exact hs
  | succ n ih =>
    unfold pump
    repeat' first
      | with_reducible apply ih | with_reducible assumption | with_reducible refine pumpOne_keeps ?_ _ (hF.via rfl)
      | with_reducible refine KeepsOpt.eq (by assumption) ?_ | split

theorem pumpCtx_keeps {F : Nat} {s0 : State} {s : State} (hs : Keeps F s0 s) (cid : Nat)  (hF : Within 0x100e80020000040aff40800000030000080408247e6f003e6b1c3fefdc F) :
    Keeps F s0 (pumpCtx s cid) := by
  unfold pumpCtx
  repeat' first
    | with_reducible assumption | with_reducible refine Keeps.ite ?_ ?_ | with_reducible refine pump_keeps ?_ _ _ (hF.via rfl)
    | with_reducible refine fetchStart_keeps ?_ _ (hF.via rfl)

theorem startOp_keeps {F : Nat} {s0 : State} {s : State} (hs : Keeps F s0 s) (o : RmaOp)  (hF : Within 0x100e80020000040aff40800000030000080408247e6f003e6b1c3fefdc F) :
    Keeps F s0 (startOp s o) := by
  unfold startOp
  repeat' first
    | with_reducible assumption | with_reducible refine Keeps.ite ?_ ?_ | with_reducible refine finishOp_keeps ?_ _ _ _ (hF.via rfl)
    | with_reducible refine onRma_keeps ?_ _ (hF.via rfl) | with_reducible refine onStg_keeps ?_ _ (hF.via rfl)
    | with_reducible refine hostRead_keeps ?_ _ _ _ (hF.via rfl) | with_reducible refine pumpCtx_keeps ?_ _ (hF.via rfl) | lift_lets | split

theorem takeEntry_keeps {F : Nat} {s0 : State} {s : State} (hs : Keeps F s0 s) (p : Nat) (e : List Byte)  (hF : Within 0x100e80020000040aff60800000030000080408247e6f003e6b1c3fefdc F) :
    Keeps F s0 (takeEntry s p e) := by
  unfold takeEntry
  repeat' first
    | with_reducible assumption | (intro x; refine keeps_cut (F := F) (s0 := s0) x ?_ ?_ <;> [subst x; (clear_value x; intro _)])
    | with_reducible refine Keeps.ite ?_ ?_ | with_reducible refine onRma_keeps ?_ _ (hF.via rfl) | with_reducible refine wr_keeps ?_ _ _ (hF.reg rfl)
    | with_reducible refine finishOp_keeps ?_ _ _ _ (hF.via rfl) | with_reducible refine startOp_keeps ?_ _ (hF.via rfl) | lift_lets | split

theorem takeWork_keeps {F : Nat} {s0 : State} {s : State} (hs : Keeps F s0 s) (a1 : Nat) (a3 : Nat)  (hF : Within 0x100e80020000040aff68800000030000080408247e6f003e6b1c3fefdc F) :
    Keeps F s0 (takeWork a1 s a3) := by
  induction a1 generalizing s a3 with
  | zero =>
    unfold takeWork
    exact hs
  | succ n ih =>
    unfold takeWork
    repeat' first
      | with_reducible apply ih | with_reducible assumption | (intro x; clear_value x) | with_reducible refine Keeps.ite ?_ ?_
      | with_reducible refine takeEntry_keeps ?_ _ _ (hF.via rfl) | with_reducible refine wrBit_keeps ?_ _ _ _ (hF.reg rfl)
      | with_reducible refine engineRefused_keeps ?_ _ _ _ _ (hF.via rfl) | with_reducible refine hostRead_keeps ?_ _ _ _ (hF.via rfl)
      | with_reducible refine onRma_keeps ?_ _ (hF.via rfl) | lift_lets | split

theorem riseForNeed_keeps {F : Nat} {s0 : State} {s : State} (hs : Keeps F s0 s)  (hF : Within 0x2000 F) :
    Keeps F s0 (riseForNeed s) := by
  unfold riseForNeed
  repeat' first
    | with_reducible assumption | (intro x; subst x) | with_reducible refine Keeps.ite ?_ ?_ | lift_lets
    | with_reducible refine Keeps.mk_ ?_ rfl rfl id id

theorem applyCal_keeps {F : Nat} {s0 : State} {s : State} (hs : Keeps F s0 s) (t : Nat) (g : Nat)  (hF : Within 0x100000000000040 F) :
    Keeps F s0 (applyCal s t g) := by
  unfold applyCal
  repeat' first
    | with_reducible assumption | with_reducible refine Keeps.ite ?_ ?_ | with_reducible refine onCal_keeps ?_ _ _ _ (hF.via rfl)
    | with_reducible refine onTile_keeps ?_ _ _ (hF.via rfl) | with_reducible refine wrFld_keeps ?_ _ _ _ _ (hF.reg rfl)
    | with_reducible refine setCalState_keeps ?_ _ _ _ (hF.via rfl)

theorem converterFault_keeps {F : Nat} {s0 : State} {s : State} (hs : Keeps F s0 s) (t : Nat) (g : Nat)  (hF : Within 0x1000000000000000000000000000000000000000000300002804000900 F) :
    Keeps F s0 (converterFault s t g) := by
  unfold converterFault
  repeat' first
    | with_reducible assumption | with_reducible refine wrBit_keeps ?_ _ _ _ (hF.reg rfl) | with_reducible refine irqCores_keeps ?_ _ _ (hF.via rfl)
    | with_reducible refine recordEvent_keeps ?_ _ _ _ _ _ _ _ (hF.via rfl) | with_reducible refine groupLost_keeps ?_ _ _ _ (hF.via rfl)
    | with_reducible refine wr_keeps ?_ _ _ (hF.reg rfl)

theorem execCalstoreSave_keeps {F : Nat} {s0 : State} {s : State} (hs : Keeps F s0 s) (m : Msg) (type : BitVec 16)  (hF : Within 0x300000000000000000000000000c700 F) :
    Kept F s0 (execCalstoreSave m type s) := by
  unfold execCalstoreSave
  repeat' first
    | with_reducible assumption | (intro x; subst x) | with_reducible intro _ | with_reducible refine Keeps.ite ?_ ?_
    | with_reducible refine Kept.next ?_ | with_reducible refine serve_keeps ?_ _ _ _ ?_ (hF.via rfl)
    | with_reducible refine respond_keeps ?_ _ _ _ _ _ (hF.via rfl) | with_reducible refine snapshotTiles_keeps ?_ _ (hF.via rfl) | lift_lets
    | with_reducible refine Keeps.mk_ ?_ rfl rfl id id

theorem measureSpare_keeps {F : Nat} {s0 : State} {s : State} (hs : Keeps F s0 s) (t : Nat) (g : Nat)  (hF : Within 0x50 F) :
    Keeps F s0 (measureSpare s t g) := by
  unfold measureSpare
  repeat' first
    | with_reducible assumption | with_reducible refine onCal_keeps ?_ _ _ _ (hF.via rfl) | with_reducible refine draw_keeps ?_ (hF.bit rfl)
    | with_reducible refine onTile_keeps ?_ _ _ (hF.via rfl)

theorem execFallowWindow_keeps {F : Nat} {s0 : State} {s : State} (hs : Keeps F s0 s) (t : Fin 128) (entry : Nat) (opens : Bool)  (hF : Within 0x8003e48040600dc F) :
    Kept F s0 (execFallowWindow t entry opens s) := by
  unfold execFallowWindow
  repeat' first
    | with_reducible assumption | with_reducible intro _ | with_reducible refine Kept.ite ?_ ?_ | with_reducible refine Keeps.ite ?_ ?_
    | with_reducible refine Kept.next ?_ | with_reducible refine onTile_keeps ?_ _ _ (hF.via rfl)
    | with_reducible refine tileAdvance_keeps ?_ _ _ (hF.via rfl) | with_reducible refine forAll_keeps ?_ _ _ ?_
    | with_reducible refine measureSpare_keeps ?_ _ _ (hF.via rfl) | lift_lets | split

theorem settleCal_keeps {F : Nat} {s0 : State} {s : State} (hs : Keeps F s0 s) (t : Nat) (g : Nat)  (hF : Within 0x100000000000040 F) :
    Keeps F s0 (settleCal s t g) := by
  unfold settleCal
  repeat' first
    | with_reducible assumption | with_reducible refine Keeps.ite ?_ ?_ | with_reducible refine onCal_keeps ?_ _ _ _ (hF.via rfl)
    | with_reducible refine applyCal_keeps ?_ _ _ (hF.via rfl)

theorem execForegroundCalComplete_keeps {F : Nat} {s0 : State} {s : State} (hs : Keeps F s0 s) (t : Fin 128) (g : Fin 32) (zSlot : Fin 17)  (hF : Within 0x1000000000000000000000000000000000000000000300002804000950 F) :
    Kept F s0 (execForegroundCalComplete t g zSlot s) := by
  unfold execForegroundCalComplete
  repeat' first
    | with_reducible assumption | with_reducible intro _ | with_reducible refine Keeps.ite ?_ ?_ | with_reducible refine Kept.next ?_
    | with_reducible refine draw_keeps ?_ (hF.bit rfl) | with_reducible refine onTile_keeps ?_ _ _ (hF.via rfl)
    | with_reducible refine wrBit_keeps ?_ _ _ _ (hF.reg rfl) | with_reducible refine forAll_keeps ?_ _ _ ?_
    | with_reducible refine flagSlot_keeps ?_ _ _ _ (hF.via rfl) | with_reducible refine converterFault_keeps ?_ _ _ (hF.via rfl)
    | with_reducible refine settleCal_keeps ?_ _ _ (hF.via rfl) | with_reducible refine onCal_keeps ?_ _ _ _ (hF.via rfl)

theorem execGroupStale_keeps {F : Nat} {s0 : State} {s : State} (hs : Keeps F s0 s) (t : Fin 128) (g : Fin 32)  (hF : Within 0x1000000000000000000000000000000000000000000140000000000800 F) :
    Kept F s0 (execGroupStale t g s) := by
  unfold execGroupStale
  repeat' first
    | with_reducible assumption | with_reducible refine Keeps.ite ?_ ?_ | with_reducible refine Kept.next ?_
    | with_reducible refine count_keeps ?_ _ _ (hF.reg rfl) | with_reducible refine setCalState_keeps ?_ _ _ _ (hF.via rfl)
    | with_reducible refine recordEvent_keeps ?_ _ _ _ _ _ _ _ (hF.via rfl)

theorem judgeSet_keeps {F : Nat} {s0 : State} {s : State} (hs : Keeps F s0 s) (t : Nat) (g : Nat) (st : Nat) (hard : Bool) (afterRecal : Bool)  (hF : Within 0x1000000000000000000000000000000000000000000320002804000900 F) :
    Keeps F s0 (judgeSet s t g st hard afterRecal) := by
  unfold judgeSet
  repeat' first
    | with_reducible assumption | with_reducible refine Keeps.ite ?_ ?_ | with_reducible refine converterFault_keeps ?_ _ _ (hF.via rfl)
    | with_reducible refine enterRecal_keeps ?_ _ _ (hF.via rfl) | with_reducible refine setCalState_keeps ?_ _ _ _ (hF.via rfl)

theorem measureSet_keeps {F : Nat} {s0 : State} {s : State} (hs : Keeps F s0 s) (t : Nat) (g : Nat) (z : Nat)  (hF : Within 0x10000000000000000000000000000000000000000003a0002804000950 F) :
    Keeps F s0 (measureSet s t g z) := by
  unfold measureSet
  repeat' first
    | with_reducible assumption | with_reducible refine Keeps.ite ?_ ?_ | with_reducible refine wrBit_keeps ?_ _ _ _ (hF.reg rfl)
    | with_reducible refine draw_keeps ?_ (hF.bit rfl) | with_reducible refine onTile_keeps ?_ _ _ (hF.via rfl)
    | with_reducible refine onCal_keeps ?_ _ _ _ (hF.via rfl) | with_reducible refine count_keeps ?_ _ _ (hF.reg rfl)
    | with_reducible refine judgeSet_keeps ?_ _ _ _ _ _ (hF.via rfl) | with_reducible refine settleCal_keeps ?_ _ _ (hF.via rfl)

theorem execMeasurementSet_keeps {F : Nat} {s0 : State} {s : State} (hs : Keeps F s0 s) (t : Fin 128) (g : Fin 32) (zSlot : Fin 17)  (hF : Within 0x10000000000000000000000000000000000000000003a0002804000950 F) :
    Kept F s0 (execMeasurementSet t g zSlot s) := by
  unfold execMeasurementSet
  repeat' first
    | with_reducible assumption | with_reducible refine Keeps.ite ?_ ?_ | with_reducible refine Kept.next ?_
    | with_reducible refine measureSet_keeps ?_ _ _ _ (hF.via rfl)

theorem execProbationEnd_keeps {F : Nat} {s0 : State} {s : State} (hs : Keeps F s0 s) (t : Fin 128) (g : Fin 32)  (hF : Within 0x100000000000000 F) :
    Kept F s0 (execProbationEnd t g s) := by
  unfold execProbationEnd
  repeat' first
    | with_reducible assumption | with_reducible refine Keeps.ite ?_ ?_ | with_reducible refine Kept.next ?_
    | with_reducible refine setCalState_keeps ?_ _ _ _ (hF.via rfl)

theorem execProbationSet_keeps {F : Nat} {s0 : State} {s : State} (hs : Keeps F s0 s) (t : Fin 128) (g : Fin 32) (zSlot : Fin 17)  (hF : Within 0x10000000000000000000000000000000000000000003a0002804000950 F) :
    Kept F s0 (execProbationSet t g zSlot s) := by
  unfold execProbationSet
  repeat' first
    | with_reducible assumption | with_reducible refine Keeps.ite ?_ ?_ | with_reducible refine Kept.next ?_
    | with_reducible refine measureSet_keeps ?_ _ _ _ (hF.via rfl)

theorem execRepairStart_keeps {F : Nat} {s0 : State} {s : State} (hs : Keeps F s0 s) (t : Fin 128) (g : Fin 32) (slot : Fin 16)  (hF : Within 0x800000000 F) :
    Kept F s0 (execRepairStart t g slot s) := by
  unfold execRepairStart
  repeat' first
    | with_reducible assumption | with_reducible refine Keeps.ite ?_ ?_ | with_reducible refine Kept.next ?_
    | with_reducible refine setSpare_keeps ?_ _ _ _ (hF.via rfl) | with_reducible refine wrFld_keeps ?_ _ _ _ _ (hF.reg rfl)

theorem checkLatency_keeps {F : Nat} {s0 : State} {s : State} (hs : Keeps F s0 s) (d : XDecl) (t : Nat) (ns : Nat)  (hF : Within 0x1000000000000000000000000000000000000000018000000000000840 F) :
    Keeps F s0 (checkLatency s d t ns) := by
  unfold checkLatency
  repeat' first
    | with_reducible assumption | with_reducible refine Keeps.ite ?_ ?_ | with_reducible refine slackOverrun_keeps ?_ _ _ _ _ (hF.via rfl)

theorem landInstance_keeps {F : Nat} {s0 : State} {s : State} (hs : Keeps F s0 s) (p : Nat) (d : XDecl) (i : XInst) (bs : List Byte) (ns : Option Nat) (waited : Nat) (ecc : Ecc)  (hF : Within 0x10008002000000000000000000030000080408247fef003e6b1c17efdc F) :
    Keeps F s0 (landInstance s p d i bs ns waited ecc) := by
  unfold landInstance
  repeat' first
    | with_reducible assumption | (intro x; refine keeps_cut (F := F) (s0 := s0) x ?_ ?_ <;> [subst x; (clear_value x; intro _)])
    | with_reducible refine dropFlight_keeps ?_ _ _ _ (hF.via rfl) | with_reducible refine tileFault_keeps ?_ _ _ (hF.via rfl)
    | with_reducible refine onXing_keeps ?_ _ _ _ (hF.via rfl) | with_reducible refine spEcc_keeps ?_ _ _ _ _ _ (hF.via rfl)
    | with_reducible refine wrBytes_keeps ?_ _ _ (hF.via rfl) | with_reducible refine checkLatency_keeps ?_ _ _ _ (hF.via rfl)
    | with_reducible refine wakeTile_keeps ?_ _ _ (hF.via rfl) | lift_lets | split

theorem relayInstance_keeps {F : Nat} {s0 : State} {s : State} (hs : Keeps F s0 s) (p : Nat) (d : XDecl) (e : XDecl) (i : XInst) (ns : Nat) (waited : Nat)  (hF : Within 0x10008002000000000000000000030000080408247fef003e6b1c17efdc F) :
    Keeps F s0 (relayInstance s p d e i ns waited) := by
  unfold relayInstance
  repeat' first
    | with_reducible assumption | with_reducible refine Keeps.ite ?_ ?_ | with_reducible refine wakeTile_keeps ?_ _ _ (hF.via rfl)
    | with_reducible refine checkLatency_keeps ?_ _ _ _ (hF.via rfl) | with_reducible refine startInst_keeps ?_ _ _ _ (hF.via rfl)
    | with_reducible refine dropFlight_keeps ?_ _ _ _ (hF.via rfl)

theorem sendFeed_keeps {F : Nat} {s0 : State} {s : State} (hs : Keeps F s0 s) (p : Nat) (d : XDecl) (i : XInst) (waited : Nat)  (hF : Within 0x10008002000100000000000000030000080408247e6f003e6b1c17efdc F) :
    Keeps F s0 (sendFeed s p d i waited) := by
  unfold sendFeed
  repeat' first
    | with_reducible assumption | with_reducible refine onXing_keeps ?_ _ _ _ (hF.via rfl) | with_reducible refine feedRelease_keeps ?_ _ (hF.via rfl)
    | with_reducible refine feedInstance_keeps ?_ _ _ _ _ _ (hF.via rfl)

theorem sendInstance_keeps {F : Nat} {s0 : State} {s : State} (hs : Keeps F s0 s) (p : Nat) (d : XDecl) (i : XInst) (elapsed : Nat)  (hF : Within 0x100e80020000040aff40800000030000080408247e6f003e6b1c3fefdc F) :
    Keeps F s0 (sendInstance s p d i elapsed) := by
  unfold sendInstance
  repeat' first
    | with_reducible assumption | (intro x; refine keeps_cut (F := F) (s0 := s0) x ?_ ?_ <;> [subst x; (clear_value x; intro _)])
    | with_reducible refine onXing_keeps ?_ _ _ _ (hF.via rfl) | with_reducible refine startOp_keeps ?_ _ (hF.via rfl) | lift_lets | split

theorem execCrossingReady_keeps {F : Nat} {s0 : State} {s : State} (hs : Keeps F s0 s) (p : Fin 12) (xid : BitVec 12) (ns : Nat) (waited : Nat) (ecc : Ecc)  (hF : Within 0x100e80020001040aff40800000030000d80408247fef003e6b1c3fefdc F) :
    Kept F s0 (execCrossingReady p xid ns waited ecc s) := by
  unfold execCrossingReady
  repeat' first
    | with_reducible assumption | with_reducible refine Keeps.ite ?_ ?_ | with_reducible refine Kept.next ?_
    | with_reducible refine landInstance_keeps ?_ _ _ _ _ _ _ _ (hF.via rfl) | with_reducible refine dropFlight_keeps ?_ _ _ _ (hF.via rfl)
    | with_reducible refine tileFault_keeps ?_ _ _ (hF.via rfl) | with_reducible refine wakeTile_keeps ?_ _ _ (hF.via rfl)
    | with_reducible refine checkLatency_keeps ?_ _ _ _ (hF.via rfl) | with_reducible refine lpxWrite_keeps ?_ _ _ _ (hF.via rfl)
    | with_reducible refine lpxEcc_keeps ?_ _ _ (hF.via rfl) | with_reducible refine relayInstance_keeps ?_ _ _ _ _ _ _ (hF.via rfl)
    | with_reducible refine sendFeed_keeps ?_ _ _ _ _ (hF.via rfl) | with_reducible refine sendInstance_keeps ?_ _ _ _ _ (hF.via rfl) | lift_lets
    | split

theorem rxBegin_keeps {F : Nat} {s0 : State} {s : State} (hs : Keeps F s0 s) (p : Nat) (d : XDecl)  (hF : Within 0x80 F) :
    KeepsOpt F s0 (rxBegin s p d) := by
  unfold rxBegin
  repeat' first
    | with_reducible assumption | with_reducible refine KeepsOpt.ite ?_ ?_ | with_reducible refine KeepsOpt.some ?_
    | with_reducible exact KeepsOpt.none | with_reducible refine onXing_keeps ?_ _ _ _ (hF.via rfl)

theorem rxBytes_keeps {F : Nat} {s0 : State} {s : State} (hs : Keeps F s0 s) (p : Nat) (d : XDecl) (off : Nat) (bs : List Byte)  (hF : Within 0x6000c F) :
    Keeps F s0 (rxBytes s p d off bs) := by
  unfold rxBytes
  repeat' first
    | with_reducible assumption | with_reducible refine Keeps.ite ?_ ?_ | with_reducible refine wrBytes_keeps ?_ _ _ (hF.via rfl) | split

theorem rxEnd_keeps {F : Nat} {s0 : State} {s : State} (hs : Keeps F s0 s) (p : Nat) (d : XDecl) (ns : Option Nat) (waited : Nat) (ecc : Ecc)  (hF : Within 0x10008002000000000000000000030000080408247fef003e6b1c17efdc F) :
    Keeps F s0 (rxEnd s p d ns waited ecc) := by
  unfold rxEnd
  repeat' first
    | with_reducible assumption | with_reducible refine landInstance_keeps ?_ _ _ _ _ _ _ _ (hF.via rfl) | split

theorem rxFail_keeps {F : Nat} {s0 : State} {s : State} (hs : Keeps F s0 s) (p : Nat) (d : XDecl)  (hF : Within 0x80 F) :
    Keeps F s0 (rxFail s p d) := by
  unfold rxFail
  repeat' first
    | with_reducible assumption | with_reducible refine dropFlight_keeps ?_ _ _ _ (hF.via rfl) | split

theorem unfence_keeps {F : Nat} {s0 : State} {s : State} (hs : Keeps F s0 s) (p : Nat)  (hF : Within 0x100e80020000040aff68800000030000080408247e6f003e6b1c3fefdc F) :
    Keeps F s0 (unfence s p) := by
  unfold unfence
  repeat' first
    | with_reducible assumption | with_reducible refine Keeps.ite ?_ ?_ | with_reducible refine takeWork_keeps ?_ _ _ (hF.via rfl)
    | with_reducible refine takeEntry_keeps ?_ _ _ (hF.via rfl) | with_reducible refine onRma_keeps ?_ _ (hF.via rfl) | split

theorem unfenceAll_keeps {F : Nat} {s0 : State} {s : State} (hs : Keeps F s0 s)  (hF : Within 0x100e80020000040aff68800000030000080408247e6f003e6b1c3fefdc F) :
    Keeps F s0 (unfenceAll s) := by
  unfold unfenceAll
  repeat' first
    | with_reducible assumption | with_reducible intro _ | with_reducible refine forAll_keeps ?_ _ _ ?_
    | with_reducible refine unfence_keeps ?_ _ (hF.via rfl)

theorem letGo_keeps {F : Nat} {s0 : State} {sx : State} {s : State} (_hsx : Keeps F s0 sx) (hs : Keeps F s0 s) (ops : List Instr)  (hF : Within 0x10008002000000000000000000030000080408247e6f003e6b1c17efdc F) :
    Keeps F s0 (letGo sx ops s) := by
  unfold letGo
  repeat' first
    | with_reducible assumption | with_reducible refine Keeps.ite ?_ ?_ | with_reducible refine release_keeps ?_ _ _ (hF.via rfl)

theorem present_keeps {F : Nat} {s0 : State} {s : State} (hs : Keeps F s0 s) (sl : Slot) (i : Instr)  (hF : Within 0x10008002000000000000000000030000080408247e6f003e6b1c17efdc F) :
    Keeps F s0 (present s sl i) := by
  unfold present
  repeat' first
    | with_reducible assumption | with_reducible refine Keeps.ite ?_ ?_ | with_reducible refine onTile_keeps ?_ _ _ (hF.via rfl)
    | with_reducible refine letGo_keeps ?_ ?_ _ (hF.via rfl) | with_reducible refine judge_keeps ?_ _ _ (hF.via rfl)

theorem execCollect_keeps {F : Nat} {s0 : State} {s : State} (hs : Keeps F s0 s) (sl : Slot) (larray : BitVec 9) (desc : Fin 64)  (hF : Within 0x10008002000000000000000000030000080408247e6f003e6b1c17efdc F) :
    Kept F s0 (execCollect sl larray desc s) := by
  unfold execCollect
  repeat' first
    | with_reducible assumption | with_reducible refine Kept.next ?_ | with_reducible refine present_keeps ?_ _ _ (hF.via rfl)

theorem execCpy_keeps {F : Nat} {s0 : State} {s : State} (hs : Keeps F s0 s) (sl : Slot) (sbank : Fin 4) (saddr : BitVec 20) (dbank : Fin 4) (dline : BitVec 14)  (hF : Within 0x10008002000000000000000000030000080408247e6f003e6b1c17efdc F) :
    Kept F s0 (execCpy sl sbank saddr dbank dline s) := by
  unfold execCpy
  repeat' first
    | with_reducible assumption | with_reducible refine Kept.next ?_ | with_reducible refine present_keeps ?_ _ _ (hF.via rfl)

theorem execCtlWait_keeps {F : Nat} {s0 : State} {s : State} (hs : Keeps F s0 s) (sl : Slot) (n : BitVec 24)  (hF : Within 0x10008002000000000000000000030000080408247e6f003e6b1c17efdc F) :
    Kept F s0 (execCtlWait sl n s) := by
  unfold execCtlWait
  repeat' first
    | with_reducible assumption | with_reducible refine Kept.next ?_ | with_reducible refine present_keeps ?_ _ _ (hF.via rfl)

theorem execCvt_keeps {F : Nat} {s0 : State} {s : State} (hs : Keeps F s0 s) (sl : Slot) (o : VecOp)  (hF : Within 0x10008002000000000000000000030000080408247e6f003e6b1c17efdc F) :
    Kept F s0 (execCvt sl o s) := by
  unfold execCvt
  repeat' first
    | with_reducible assumption | with_reducible refine Kept.next ?_ | with_reducible refine present_keeps ?_ _ _ (hF.via rfl)

theorem execDrain_keeps {F : Nat} {s0 : State} {s : State} (hs : Keeps F s0 s) (sl : Slot) (set : Fin 2) (fmt : BitVec 4) (vd : Fin 32) (rnd : Bool)  (hF : Within 0x10008002000000000000000000030000080408247e6f003e6b1c17efdc F) :
    Kept F s0 (execDrain sl set fmt vd rnd s) := by
  unfold execDrain
  repeat' first
    | with_reducible assumption | with_reducible refine Kept.next ?_ | with_reducible refine present_keeps ?_ _ _ (hF.via rfl)

theorem execEndOp_keeps {F : Nat} {s0 : State} {s : State} (hs : Keeps F s0 s) (sl : Slot)  (hF : Within 0x10008002000000000000000000030000080408247e6f003e6b1c17efdc F) :
    Kept F s0 (execEndOp sl s) := by
  unfold execEndOp
  repeat' first
    | with_reducible assumption | with_reducible refine Kept.next ?_ | with_reducible refine present_keeps ?_ _ _ (hF.via rfl)

theorem execEndloop_keeps {F : Nat} {s0 : State} {s : State} (hs : Keeps F s0 s) (sl : Slot)  (hF : Within 0x10008002000000000000000000030000080408247e6f003e6b1c17efdc F) :
    Kept F s0 (execEndloop sl s) := by
  unfold execEndloop
  repeat' first
    | with_reducible assumption | with_reducible refine Kept.next ?_ | with_reducible refine present_keeps ?_ _ _ (hF.via rfl)

theorem execFallow_keeps {F : Nat} {s0 : State} {s : State} (hs : Keeps F s0 s) (sl : Slot) (wake : Bool) (last : Fin 32) (first : Fin 32)  (hF : Within 0x10008002000000000000000000030000080408247e6f003e6b1c17efdc F) :
    Kept F s0 (execFallow sl wake last first s) := by
  unfold execFallow
  repeat' first
    | with_reducible assumption | with_reducible refine Kept.next ?_ | with_reducible refine present_keeps ?_ _ _ (hF.via rfl)

theorem execFree_keeps {F : Nat} {s0 : State} {s : State} (hs : Keeps F s0 s) (sl : Slot) (xid : BitVec 12)  (hF : Within 0x10008002000000000000000000030000080408247e6f003e6b1c17efdc F) :
    Kept F s0 (execFree sl xid s) := by
  unfold execFree
  repeat' first
    | with_reducible assumption | with_reducible refine Kept.next ?_ | with_reducible refine present_keeps ?_ _ _ (hF.via rfl)

theorem execFunc_keeps {F : Nat} {s0 : State} {s : State} (hs : Keeps F s0 s) (sl : Slot) (o : VecOp)  (hF : Within 0x10008002000000000000000000030000080408247e6f003e6b1c17efdc F) :
    Kept F s0 (execFunc sl o s) := by
  unfold execFunc
  repeat' first
    | with_reducible assumption | with_reducible refine Kept.next ?_ | with_reducible refine present_keeps ?_ _ _ (hF.via rfl)

theorem execLaunch_keeps {F : Nat} {s0 : State} {s : State} (hs : Keeps F s0 s) (sl : Slot) (larray : BitVec 9) (iv : Fin 8) (desc : Fin 64)  (hF : Within 0x10008002000000000000000000030000080408247e6f003e6b1c17efdc F) :
    Kept F s0 (execLaunch sl larray iv desc s) := by
  unfold execLaunch
  repeat' first
    | with_reducible assumption | with_reducible refine Kept.next ?_ | with_reducible refine present_keeps ?_ _ _ (hF.via rfl)

theorem execLd_keeps {F : Nat} {s0 : State} {s : State} (hs : Keeps F s0 s) (sl : Slot) (bank : Fin 4) (addr : BitVec 20) (vr : Fin 32) (part : Fin 4)  (hF : Within 0x10008002000000000000000000030000080408247e6f003e6b1c17efdc F) :
    Kept F s0 (execLd sl bank addr vr part s) := by
  unfold execLd
  repeat' first
    | with_reducible assumption | with_reducible refine Kept.next ?_ | with_reducible refine present_keeps ?_ _ _ (hF.via rfl)

theorem execLoadiv_keeps {F : Nat} {s0 : State} {s : State} (hs : Keeps F s0 s) (sl : Slot) (iv : Fin 8) (bank : Fin 4) (line : BitVec 14)  (hF : Within 0x10008002000000000000000000030000080408247e6f003e6b1c17efdc F) :
    Kept F s0 (execLoadiv sl iv bank line s) := by
  unfold execLoadiv
  repeat' first
    | with_reducible assumption | with_reducible refine Kept.next ?_ | with_reducible refine present_keeps ?_ _ _ (hF.via rfl)

theorem execLoop_keeps {F : Nat} {s0 : State} {s : State} (hs : Keeps F s0 s) (sl : Slot) (count : BitVec 20)  (hF : Within 0x10008002000000000000000000030000080408247e6f003e6b1c17efdc F) :
    Kept F s0 (execLoop sl count s) := by
  unfold execLoop
  repeat' first
    | with_reducible assumption | with_reducible refine Kept.next ?_ | with_reducible refine present_keeps ?_ _ _ (hF.via rfl)

theorem execLread_keeps {F : Nat} {s0 : State} {s : State} (hs : Keeps F s0 s) (sl : Slot) (xid : BitVec 12)  (hF : Within 0x10008002000000000000000000030000080408247e6f003e6b1c17efdc F) :
    Kept F s0 (execLread sl xid s) := by
  unfold execLread
  repeat' first
    | with_reducible assumption | with_reducible refine Kept.next ?_ | with_reducible refine present_keeps ?_ _ _ (hF.via rfl)

theorem execMax_keeps {F : Nat} {s0 : State} {s : State} (hs : Keeps F s0 s) (sl : Slot) (o : VecOp)  (hF : Within 0x10008002000000000000000000030000080408247e6f003e6b1c17efdc F) :
    Kept F s0 (execMax sl o s) := by
  unfold execMax
  repeat' first
    | with_reducible assumption | with_reducible refine Kept.next ?_ | with_reducible refine present_keeps ?_ _ _ (hF.via rfl)

theorem execMin_keeps {F : Nat} {s0 : State} {s : State} (hs : Keeps F s0 s) (sl : Slot) (o : VecOp)  (hF : Within 0x10008002000000000000000000030000080408247e6f003e6b1c17efdc F) :
    Kept F s0 (execMin sl o s) := by
  unfold execMin
  repeat' first
    | with_reducible assumption | with_reducible refine Kept.next ?_ | with_reducible refine present_keeps ?_ _ _ (hF.via rfl)

theorem execMma_keeps {F : Nat} {s0 : State} {s : State} (hs : Keeps F s0 s) (sl : Slot) (set : Fin 2) (ddesc : Fin 64)  (hF : Within 0x10008002000000000000000000030000080408247e6f003e6b1c17efdc F) :
    Kept F s0 (execMma sl set ddesc s) := by
  unfold execMma
  repeat' first
    | with_reducible assumption | with_reducible refine Kept.next ?_ | with_reducible refine present_keeps ?_ _ _ (hF.via rfl)

theorem execMmaz_keeps {F : Nat} {s0 : State} {s : State} (hs : Keeps F s0 s) (sl : Slot) (set : Fin 2) (ddesc : Fin 64)  (hF : Within 0x10008002000000000000000000030000080408247e6f003e6b1c17efdc F) :
    Kept F s0 (execMmaz sl set ddesc s) := by
  unfold execMmaz
  repeat' first
    | with_reducible assumption | with_reducible refine Kept.next ?_ | with_reducible refine present_keeps ?_ _ _ (hF.via rfl)

theorem execMvmComplete_keeps {F : Nat} {s0 : State} {s : State} (hs : Keeps F s0 s) (t : Fin 128) (g : Fin 32) (slot : Fin 17) (waited : Nat)  (hF : Within 0x10008002000000000000000000030000080408247e6f003e6b1c17efdc F) :
    Kept F s0 (execMvmComplete t g slot waited s) := by
  unfold execMvmComplete
  repeat' first
    | with_reducible assumption | with_reducible refine Keeps.ite ?_ ?_ | with_reducible refine Kept.next ?_
    | with_reducible refine tileAdvance_keeps ?_ _ _ (hF.via rfl) | with_reducible refine completeMvm_keeps ?_ _ _ (hF.via rfl)
    | with_reducible refine retry_keeps ?_ _ _ (hF.via rfl) | lift_lets | split

theorem execMxdec_keeps {F : Nat} {s0 : State} {s : State} (hs : Keeps F s0 s) (sl : Slot) (o : VecOp)  (hF : Within 0x10008002000000000000000000030000080408247e6f003e6b1c17efdc F) :
    Kept F s0 (execMxdec sl o s) := by
  unfold execMxdec
  repeat' first
    | with_reducible assumption | with_reducible refine Kept.next ?_ | with_reducible refine present_keeps ?_ _ _ (hF.via rfl)

theorem execMxenc_keeps {F : Nat} {s0 : State} {s : State} (hs : Keeps F s0 s) (sl : Slot) (o : VecOp)  (hF : Within 0x10008002000000000000000000030000080408247e6f003e6b1c17efdc F) :
    Kept F s0 (execMxenc sl o s) := by
  unfold execMxenc
  repeat' first
    | with_reducible assumption | with_reducible refine Kept.next ?_ | with_reducible refine present_keeps ?_ _ _ (hF.via rfl)

theorem execRampGuardRelease_keeps {F : Nat} {s0 : State} {s : State} (hs : Keeps F s0 s) (t : Fin 128) (n : Nat) (waited : Nat) (delayNs : Nat)  (hF : Within 0x10008002000000000000000000030000080408247fef003e6b1c17efdc F) :
    Kept F s0 (execRampGuardRelease t n waited delayNs s) := by
  unfold execRampGuardRelease
  repeat' first
    | with_reducible assumption | with_reducible refine Keeps.ite ?_ ?_ | with_reducible refine Kept.next ?_
    | with_reducible refine onTile_keeps ?_ _ _ (hF.via rfl) | with_reducible refine retry_keeps ?_ _ _ (hF.via rfl)
    | with_reducible refine slackOverrun_keeps ?_ _ _ _ _ (hF.via rfl)

theorem execRcollect_keeps {F : Nat} {s0 : State} {s : State} (hs : Keeps F s0 s) (sl : Slot) (group : Fin 32) (desc : Fin 64)  (hF : Within 0x10008002000000000000000000030000080408247e6f003e6b1c17efdc F) :
    Kept F s0 (execRcollect sl group desc s) := by
  unfold execRcollect
  repeat' first
    | with_reducible assumption | with_reducible refine Kept.next ?_ | with_reducible refine present_keeps ?_ _ _ (hF.via rfl)

theorem execRlaunch_keeps {F : Nat} {s0 : State} {s : State} (hs : Keeps F s0 s) (sl : Slot) (group : Fin 32) (iv : Fin 8) (desc : Fin 64)  (hF : Within 0x10008002000000000000000000030000080408247e6f003e6b1c17efdc F) :
    Kept F s0 (execRlaunch sl group iv desc s) := by
  unfold execRlaunch
  repeat' first
    | with_reducible assumption | with_reducible refine Kept.next ?_ | with_reducible refine present_keeps ?_ _ _ (hF.via rfl)

theorem execRmax_keeps {F : Nat} {s0 : State} {s : State} (hs : Keeps F s0 s) (sl : Slot) (o : VecOp)  (hF : Within 0x10008002000000000000000000030000080408247e6f003e6b1c17efdc F) :
    Kept F s0 (execRmax sl o s) := by
  unfold execRmax
  repeat' first
    | with_reducible assumption | with_reducible refine Kept.next ?_ | with_reducible refine present_keeps ?_ _ _ (hF.via rfl)

theorem execRoute_keeps {F : Nat} {s0 : State} {s : State} (hs : Keeps F s0 s) (sl : Slot) (o : VecOp)  (hF : Within 0x10008002000000000000000000030000080408247e6f003e6b1c17efdc F) :
    Kept F s0 (execRoute sl o s) := by
  unfold execRoute
  repeat' first
    | with_reducible assumption | with_reducible refine Kept.next ?_ | with_reducible refine present_keeps ?_ _ _ (hF.via rfl)

theorem execRsum_keeps {F : Nat} {s0 : State} {s : State} (hs : Keeps F s0 s) (sl : Slot) (o : VecOp)  (hF : Within 0x10008002000000000000000000030000080408247e6f003e6b1c17efdc F) :
    Kept F s0 (execRsum sl o s) := by
  unfold execRsum
  repeat' first
    | with_reducible assumption | with_reducible refine Kept.next ?_ | with_reducible refine present_keeps ?_ _ _ (hF.via rfl)

theorem execSample_keeps {F : Nat} {s0 : State} {s : State} (hs : Keeps F s0 s) (sl : Slot) (o : VecOp)  (hF : Within 0x10008002000000000000000000030000080408247e6f003e6b1c17efdc F) :
    Kept F s0 (execSample sl o s) := by
  unfold execSample
  repeat' first
    | with_reducible assumption | with_reducible refine Kept.next ?_ | with_reducible refine present_keeps ?_ _ _ (hF.via rfl)

theorem execSeedld_keeps {F : Nat} {s0 : State} {s : State} (hs : Keeps F s0 s) (sl : Slot) (bank : Fin 4) (line : BitVec 14) (word : Fin 8)  (hF : Within 0x10008002000000000000000000030000080408247e6f003e6b1c17efdc F) :
    Kept F s0 (execSeedld sl bank line word s) := by
  unfold execSeedld
  repeat' first
    | with_reducible assumption | with_reducible refine Kept.next ?_ | with_reducible refine present_keeps ?_ _ _ (hF.via rfl)

theorem execSend_keeps {F : Nat} {s0 : State} {s : State} (hs : Keeps F s0 s) (sl : Slot) (xid : BitVec 12)  (hF : Within 0x10008002000000000000000000030000080408247e6f003e6b1c17efdc F) :
    Kept F s0 (execSend sl xid s) := by
  unfold execSend
  repeat' first
    | with_reducible assumption | with_reducible refine Kept.next ?_ | with_reducible refine present_keeps ?_ _ _ (hF.via rfl)

theorem execSt_keeps {F : Nat} {s0 : State} {s : State} (hs : Keeps F s0 s) (sl : Slot) (bank : Fin 4) (addr : BitVec 20) (vr : Fin 32) (part : Fin 4)  (hF : Within 0x10008002000000000000000000030000080408247e6f003e6b1c17efdc F) :
    Kept F s0 (execSt sl bank addr vr part s) := by
  unfold execSt
  repeat' first
    | with_reducible assumption | with_reducible refine Kept.next ?_ | with_reducible refine present_keeps ?_ _ _ (hF.via rfl)

theorem execVecAdd_keeps {F : Nat} {s0 : State} {s : State} (hs : Keeps F s0 s) (sl : Slot) (o : VecOp)  (hF : Within 0x10008002000000000000000000030000080408247e6f003e6b1c17efdc F) :
    Kept F s0 (execVecAdd sl o s) := by
  unfold execVecAdd
  repeat' first
    | with_reducible assumption | with_reducible refine Kept.next ?_ | with_reducible refine present_keeps ?_ _ _ (hF.via rfl)

theorem execVecFma_keeps {F : Nat} {s0 : State} {s : State} (hs : Keeps F s0 s) (sl : Slot) (o : VecOp)  (hF : Within 0x10008002000000000000000000030000080408247e6f003e6b1c17efdc F) :
    Kept F s0 (execVecFma sl o s) := by
  unfold execVecFma
  repeat' first
    | with_reducible assumption | with_reducible refine Kept.next ?_ | with_reducible refine present_keeps ?_ _ _ (hF.via rfl)

theorem execVecMul_keeps {F : Nat} {s0 : State} {s : State} (hs : Keeps F s0 s) (sl : Slot) (o : VecOp)  (hF : Within 0x10008002000000000000000000030000080408247e6f003e6b1c17efdc F) :
    Kept F s0 (execVecMul sl o s) := by
  unfold execVecMul
  repeat' first
    | with_reducible assumption | with_reducible refine Kept.next ?_ | with_reducible refine present_keeps ?_ _ _ (hF.via rfl)

theorem execXngWait_keeps {F : Nat} {s0 : State} {s : State} (hs : Keeps F s0 s) (sl : Slot) (xid : BitVec 12)  (hF : Within 0x10008002000000000000000000030000080408247e6f003e6b1c17efdc F) :
    Kept F s0 (execXngWait sl xid s) := by
  unfold execXngWait
  repeat' first
    | with_reducible assumption | with_reducible refine Kept.next ?_ | with_reducible refine present_keeps ?_ _ _ (hF.via rfl)

theorem execApertureTimeout_keeps {F : Nat} {s0 : State} {s : State} (hs : Keeps F s0 s) (t : Fin 128) (read : Bool)  (hF : Within 0x100000000000000200 F) :
    Kept F s0 (execApertureTimeout t read s) := by
  unfold execApertureTimeout
  repeat' first
    | with_reducible assumption | with_reducible refine Keeps.ite ?_ ?_ | with_reducible refine Kept.next ?_
    | with_reducible refine wrBit_keeps ?_ _ _ _ (hF.reg rfl) | with_reducible refine emit_keeps ?_ _ (hF.via rfl)

theorem execDqsTracking_keeps {F : Nat} {s0 : State} {s : State} (hs : Keeps F s0 s) (c : Fin 16)  (hF : Within 0x8000 F) :
    Kept F s0 (execDqsTracking c s) := by
  unfold execDqsTracking
  repeat' first
    | with_reducible assumption | (intro x; subst x) | with_reducible refine Keeps.ite ?_ ?_ | with_reducible refine Kept.next ?_ | lift_lets
    | with_reducible refine Keeps.mk_ ?_ rfl rfl id id

theorem execLpxRequest_keeps {F : Nat} {s0 : State} {s : State} (hs : Keeps F s0 s) (q : Requester) (addr : Nat) (len : Nat) (wdata : Option (List Byte)) (ecc : Ecc)  (hF : Within 0x10008002000000000000000000000000d8000004000000000000178b8c F) :
    Kept F s0 (execLpxRequest q addr len wdata ecc s) := by
  unfold execLpxRequest
  repeat' first
    | with_reducible assumption | (intro x; refine keeps_cut (F := F) (s0 := s0) x ?_ ?_ <;> [subst x; (clear_value x; intro _)])
    | (intro x; subst x) | with_reducible refine Keeps.ite ?_ ?_ | with_reducible refine Kept.next ?_
    | with_reducible refine emit_keeps ?_ _ (hF.via rfl) | with_reducible refine lpxRefused_keeps ?_ _ _ (hF.via rfl)
    | with_reducible refine lpxEcc_keeps ?_ _ _ (hF.via rfl) | with_reducible refine wrBytesQuiet_keeps ?_ _ _ (hF.bit rfl) (hF.bit rfl)
    | with_reducible refine clearBad_keeps ?_ _ _ (hF.via rfl) | with_reducible refine wrBytes_keeps ?_ _ _ (hF.via rfl) | lift_lets | split
    | with_reducible refine Keeps.mk_ ?_ rfl rfl id id

theorem execPatrolRead_keeps {F : Nat} {s0 : State} {s : State} (hs : Keeps F s0 s) (line : Nat) (ecc : Ecc)  (hF : Within 0x10008002000000000000000000000000d8000004000000000000178b8c F) :
    Kept F s0 (execPatrolRead line ecc s) := by
  unfold execPatrolRead
  repeat' first
    | with_reducible assumption | with_reducible refine Keeps.ite ?_ ?_ | with_reducible refine Kept.next ?_
    | with_reducible refine lpxEcc_keeps ?_ _ _ (hF.via rfl)

theorem secondCycle_keeps {F : Nat} {s0 : State} {s : State} (hs : Keeps F s0 s) (t : Nat) (b : Nat)  (hF : Within 0x40 F) :
    Keeps F s0 (secondCycle s t b) := by
  unfold secondCycle
  repeat' first
    | with_reducible assumption | with_reducible refine Keeps.ite ?_ ?_ | with_reducible refine onTile_keeps ?_ _ _ (hF.via rfl)

theorem execScratchpadDmAccess_keeps {F : Nat} {s0 : State} {s : State} (hs : Keeps F s0 s) (t : Fin 128) (addr : BitVec 22) (len : Fin 65) (wdata : Option (List Byte)) (ecc : Ecc)  (hF : Within 0x1000800200000000000000000000000008000004700000000000178bcc F) :
    Kept F s0 (execScratchpadDmAccess t addr len wdata ecc s) := by
  unfold execScratchpadDmAccess
  repeat' first
    | with_reducible assumption | with_reducible refine Kept.ite ?_ ?_ | with_reducible refine Keeps.ite ?_ ?_ | with_reducible exact Kept.fault
    | with_reducible refine Kept.next ?_ | with_reducible refine emit_keeps ?_ _ (hF.via rfl)
    | with_reducible refine spRecord_keeps ?_ _ _ _ _ (hF.via rfl) | with_reducible refine spEcc_keeps ?_ _ _ _ _ _ (hF.via rfl)
    | with_reducible refine secondCycle_keeps ?_ _ _ (hF.via rfl) | with_reducible refine wrBytes_keeps ?_ _ _ (hF.via rfl) | lift_lets | split

theorem clearPlot_keeps {F : Nat} {s0 : State} {s : State} (hs : Keeps F s0 s) (p : Nat)  (hF : Within 0x2000000000000000000000000080000030001000008040000c0 F) :
    Keeps F s0 (clearPlot s p) := by
  unfold clearPlot
  repeat' first
    | with_reducible assumption | with_reducible intro _ | with_reducible refine Keeps.ite ?_ ?_
    | with_reducible refine wrFld_keeps ?_ _ _ _ _ (hF.reg rfl) | with_reducible refine wrBit_keeps ?_ _ _ _ (hF.reg rfl)
    | with_reducible refine onPlot_keeps ?_ _ _ (hF.via rfl) | with_reducible refine forAll_keeps ?_ _ _ ?_
    | with_reducible refine wr_keeps ?_ _ _ (hF.reg rfl) | with_reducible refine setActive_keeps ?_ _ (hF.via rfl)
    | with_reducible refine onTile_keeps ?_ _ _ (hF.via rfl) | with_reducible refine applyCal_keeps ?_ _ _ (hF.via rfl)
    | with_reducible refine applyFallow_keeps ?_ _ _ (hF.via rfl) | with_reducible refine settleFreq_keeps ?_ _ (hF.via rfl)
    | with_reducible refine writeBudget_keeps ?_ _ (hF.via rfl) | with_reducible refine foldl_keeps ?_ _ _ ?_

theorem commitImage_keeps {F : Nat} {s0 : State} {s : State} (hs : Keeps F s0 s) (p : Nat) (im : Image) (alts : List Image)  (hF : Within 0x804000000000000000040014010184061821c0 F) :
    Keeps F s0 (commitImage s p im alts) := by
  unfold commitImage
  repeat' first
    | with_reducible assumption | with_reducible intro _ | with_reducible refine Keeps.ite ?_ ?_
    | with_reducible refine releasePlan_keeps ?_ _ (hF.via rfl) | with_reducible refine forAll_keeps ?_ _ _ ?_
    | with_reducible refine idleTile_keeps ?_ _ (hF.via rfl) | with_reducible refine commitTile_keeps ?_ _ (hF.via rfl)
    | with_reducible refine onPlot_keeps ?_ _ _ (hF.via rfl) | with_reducible refine applyPlan_keeps ?_ _ _ (hF.via rfl)
    | with_reducible refine wrFld_keeps ?_ _ _ _ _ (hF.reg rfl) | with_reducible refine wrBit_keeps ?_ _ _ _ (hF.reg rfl)
    | with_reducible refine aimFreq_keeps ?_ _ (hF.via rfl) | with_reducible refine changeBudget_keeps ?_ _ (hF.via rfl)
    | with_reducible refine foldl_keeps ?_ _ _ ?_

theorem harrowTile_keeps {F : Nat} {s0 : State} {s : State} (hs : Keeps F s0 s) (t : Nat)  (hF : Within 0x1000000000000000000000000000000000040801fffffffffffe0629d4 F) :
    Keeps F s0 (harrowTile s t) := by
  unfold harrowTile
  repeat' first
    | with_reducible assumption | with_reducible intro _ | with_reducible refine Keeps.ite ?_ ?_
    | with_reducible refine resetTile_keeps ?_ _ _ (hF.via rfl) | with_reducible refine forAll_keeps ?_ _ _ ?_
    | with_reducible refine wr_keeps ?_ _ _ (hF.reg rfl) | with_reducible refine wrFld_keeps ?_ _ _ _ _ (hF.reg rfl)
    | with_reducible refine onTile_keeps ?_ _ _ (hF.via rfl) | with_reducible refine tileReleased_keeps ?_ _ _ (hF.via rfl) | lift_lets | dsimp only
    | with_reducible refine Keeps.mk_ ?_ rfl rfl (wf_memForget _ _ _) id

theorem finishHarrow_keeps {F : Nat} {s0 : State} {s : State} (hs : Keeps F s0 s) (p : Nat)  (hF : Within 0x1000000280000000000000000003000408040805fffffffffffe06efd4 F) :
    Keeps F s0 (finishHarrow s p) := by
  unfold finishHarrow
  repeat' first
    | with_reducible assumption | with_reducible intro _ | with_reducible refine Keeps.ite ?_ ?_ | with_reducible refine forAll_keeps ?_ _ _ ?_
    | with_reducible refine harrowTile_keeps ?_ _ (hF.via rfl) | with_reducible refine newKey_keeps ?_ _ (hF.via rfl)
    | with_reducible refine wrBit_keeps ?_ _ _ _ (hF.reg rfl) | with_reducible refine onPlot_keeps ?_ _ _ (hF.via rfl)
    | with_reducible refine setPlt_keeps ?_ _ _ (hF.via rfl) | with_reducible refine wrFld_keeps ?_ _ _ _ _ (hF.reg rfl)
    | with_reducible refine startFreq_keeps ?_ _ (hF.via rfl) | with_reducible refine changeBudget_keeps ?_ _ (hF.via rfl)
    | with_reducible refine answerPlot_keeps ?_ _ (hF.via rfl) | with_reducible refine recordEvent_keeps ?_ _ _ _ _ _ _ _ (hF.via rfl)
    | with_reducible refine foldl_keeps ?_ _ _ ?_

theorem execAvsAck_keeps {F : Nat} {s0 : State} {s : State} (hs : Keeps F s0 s) (d : Fin 8)  (hF : Within 0x4000000000000000002040 F) :
    Kept F s0 (execAvsAck d s) := by
  unfold execAvsAck
  repeat' first
    | with_reducible assumption | (intro x; subst x) | with_reducible intro _ | with_reducible refine Keeps.ite ?_ ?_
    | with_reducible refine Kept.next ?_ | with_reducible refine wrBit_keeps ?_ _ _ _ (hF.reg rfl)
    | with_reducible refine requestVolt_keeps ?_ _ (hF.via rfl) | with_reducible refine forAll_keeps ?_ _ _ ?_
    | with_reducible refine settleFreq_keeps ?_ _ (hF.via rfl) | lift_lets | split | with_reducible refine Keeps.mk_ ?_ rfl rfl id id

theorem execAvsTimeout_keeps {F : Nat} {s0 : State} {s : State} (hs : Keeps F s0 s) (d : Fin 8)  (hF : Within 0x1000000000000000000000000000000000004000000000000000002900 F) :
    Kept F s0 (execAvsTimeout d s) := by
  unfold execAvsTimeout
  repeat' first
    | with_reducible assumption | (intro x; refine keeps_cut (F := F) (s0 := s0) x ?_ ?_ <;> [subst x; (clear_value x; intro _)])
    | (intro x; subst x) | with_reducible refine Kept.next ?_ | with_reducible refine wrBit_keeps ?_ _ _ _ (hF.reg rfl)
    | with_reducible refine irqCores_keeps ?_ _ _ (hF.via rfl) | with_reducible refine recordEvent_keeps ?_ _ _ _ _ _ _ _ (hF.via rfl) | lift_lets
    | split | with_reducible refine Keeps.mk_ ?_ rfl rfl id id

theorem execClkFsel_keeps {F : Nat} {s0 : State} {s : State} (hs : Keeps F s0 s) (island : BitVec 8) (cycles : Nat)  (hF : Within 0xc00000000000000000002000 F) :
    Kept F s0 (execClkFsel island cycles s) := by
  unfold execClkFsel
  repeat' first
    | with_reducible assumption | (intro x; refine keeps_cut (F := F) (s0 := s0) x ?_ ?_ <;> [subst x; (clear_value x; intro _)])
    | (intro x; subst x) | with_reducible refine Keeps.ite ?_ ?_ | with_reducible refine Kept.next ?_
    | with_reducible refine wr_keeps ?_ _ _ (hF.reg rfl) | lift_lets | with_reducible refine Keeps.mk_ ?_ rfl rfl id id

theorem execHalvingEnd_keeps {F : Nat} {s0 : State} {s : State} (hs : Keeps F s0 s) (d : Fin 8)  (hF : Within 0x8000000000000004000040 F) :
    Kept F s0 (execHalvingEnd d s) := by
  unfold execHalvingEnd
  repeat' first
    | with_reducible assumption | with_reducible intro _ | with_reducible refine Keeps.ite ?_ ?_ | with_reducible refine Kept.next ?_
    | with_reducible refine forAll_keeps ?_ _ _ ?_ | with_reducible refine changeBudget_keeps ?_ _ (hF.via rfl)
    | with_reducible refine wrBit_keeps ?_ _ _ _ (hF.reg rfl)

theorem thermalEvent_keeps {F : Nat} {s0 : State} {s : State} (hs : Keeps F s0 s) (object : Nat) (sev : Nat) (level : Nat)  (hF : Within 0x1000000000000000000000000000000000000000000000000000000900 F) :
    Keeps F s0 (thermalEvent s object sev level) := by
  unfold thermalEvent
  repeat' first
    | with_reducible assumption | with_reducible refine irqCores_keeps ?_ _ _ (hF.via rfl)
    | with_reducible refine recordEvent_keeps ?_ _ _ _ _ _ _ _ (hF.via rfl)

theorem execHot_keeps {F : Nat} {s0 : State} {s : State} (hs : Keeps F s0 s) (d : Fin 8)  (hF : Within 0x1000000000000000000000000000000000008000000000000000002940 F) :
    Kept F s0 (execHot d s) := by
  unfold execHot
  repeat' first
    | with_reducible assumption | with_reducible intro _ | with_reducible refine Keeps.ite ?_ ?_ | with_reducible refine Kept.next ?_
    | with_reducible refine thermalEvent_keeps ?_ _ _ _ (hF.via rfl) | with_reducible refine forAll_keeps ?_ _ _ ?_
    | with_reducible refine aimFreq_keeps ?_ _ (hF.via rfl) | with_reducible refine wrBit_keeps ?_ _ _ _ (hF.reg rfl)

theorem execHotEnd_keeps {F : Nat} {s0 : State} {s : State} (hs : Keeps F s0 s) (d : Fin 8)  (hF : Within 0x8000000000000000002040 F) :
    Kept F s0 (execHotEnd d s) := by
  unfold execHotEnd
  repeat' first
    | with_reducible assumption | with_reducible intro _ | with_reducible refine Keeps.ite ?_ ?_ | with_reducible refine Kept.next ?_
    | with_reducible refine forAll_keeps ?_ _ _ ?_ | with_reducible refine aimFreq_keeps ?_ _ (hF.via rfl)
    | with_reducible refine wrBit_keeps ?_ _ _ _ (hF.reg rfl)

theorem execRailWarningEnd_keeps {F : Nat} {s0 : State} {s : State} (hs : Keeps F s0 s) (rail : Fin 24)  (hF : Within 0x800000000000000002000 F) :
    Kept F s0 (execRailWarningEnd rail s) := by
  unfold execRailWarningEnd
  repeat' first
    | with_reducible assumption | (intro x; subst x) | with_reducible refine Keeps.ite ?_ ?_ | with_reducible refine Kept.next ?_
    | with_reducible refine wrBit_keeps ?_ _ _ _ (hF.reg rfl) | lift_lets | with_reducible refine Keeps.mk_ ?_ rfl rfl id id

theorem execRetentionLoss_arrErrorQuiet_keeps {F : Nat} {s0 : State} {s : State} (hs : Keeps F s0 s) (t : Nat)  (hF : Within 0x18000000 F) :
    Keeps F s0 (execRetentionLoss.arrErrorQuiet s t) := by
  unfold execRetentionLoss.arrErrorQuiet
  repeat' first
    | with_reducible assumption | with_reducible refine arrError_keeps ?_ _ _ _ _ (hF.via rfl)

theorem execRetentionLoss_keeps {F : Nat} {s0 : State} {s : State} (hs : Keeps F s0 s) (d : Fin 8)  (hF : Within 0x1000000000000000000000000000000000000000000000002018000850 F) :
    Kept F s0 (execRetentionLoss d s) := by
  unfold execRetentionLoss
  repeat' first
    | with_reducible assumption | with_reducible intro _ | with_reducible refine Kept.next ?_ | with_reducible refine forAll_keeps ?_ _ _ ?_
    | with_reducible refine wr_keeps ?_ _ _ (hF.reg rfl) | with_reducible refine execRetentionLoss_arrErrorQuiet_keeps ?_ _ (hF.via rfl)
    | with_reducible refine onTile_keeps ?_ _ _ (hF.via rfl) | with_reducible refine draw_keeps ?_ (hF.bit rfl)
    | with_reducible refine recordEvent_keeps ?_ _ _ _ _ _ _ _ (hF.via rfl)

theorem execSupplyWarning_keeps {F : Nat} {s0 : State} {s : State} (hs : Keeps F s0 s) (rail : Fin 24) (stallNs : Nat)  (hF : Within 0x1000000000000000000000000000000000029800060000000204000f40 F) :
    Kept F s0 (execSupplyWarning rail stallNs s) := by
  unfold execSupplyWarning
  repeat' first
    | with_reducible assumption | with_reducible intro _ | with_reducible refine Kept.ite ?_ ?_ | with_reducible refine Keeps.ite ?_ ?_
    | with_reducible refine Kept.next ?_ | with_reducible refine count_keeps ?_ _ _ (hF.reg rfl)
    | with_reducible refine wrBit_keeps ?_ _ _ _ (hF.reg rfl) | with_reducible refine recordEvent_keeps ?_ _ _ _ _ _ _ _ (hF.via rfl)
    | with_reducible refine signalFn_keeps ?_ _ _ (hF.via rfl) | with_reducible refine irqCores_keeps ?_ _ _ (hF.via rfl)
    | with_reducible refine forAll_keeps ?_ _ _ ?_ | with_reducible refine chargeStall_keeps ?_ _ _ _ (hF.via rfl)
    | with_reducible refine writeBudget_keeps ?_ _ (hF.via rfl) | lift_lets | split

theorem setThermalLevel_keeps {F : Nat} {s0 : State} {s : State} (hs : Keeps F s0 s) (d : Nat) (v : Nat)  (hF : Within 0x4000000000000000000000 F) :
    Keeps F s0 (setThermalLevel s d v) := by
  unfold setThermalLevel
  repeat' first
    | with_reducible assumption | with_reducible refine wrBit_keeps ?_ _ _ _ (hF.reg rfl)

theorem execThermalLevelChange_keeps {F : Nat} {s0 : State} {s : State} (hs : Keeps F s0 s) (d : Fin 8)  (hF : Within 0x1000000000000000000000000000000000084000000000000004000f40 F) :
    Kept F s0 (execThermalLevelChange d s) := by
  unfold execThermalLevelChange
  repeat' first
    | with_reducible assumption | with_reducible intro _ | with_reducible refine Keeps.ite ?_ ?_ | with_reducible refine Kept.next ?_
    | with_reducible refine signalFn_keeps ?_ _ _ (hF.via rfl) | with_reducible refine thermalEvent_keeps ?_ _ _ _ (hF.via rfl)
    | with_reducible refine forAll_keeps ?_ _ _ ?_ | with_reducible refine changeBudget_keeps ?_ _ (hF.via rfl)
    | with_reducible refine count_keeps ?_ _ _ (hF.reg rfl) | with_reducible refine setThermalLevel_keeps ?_ _ _ (hF.via rfl)

theorem execThermtripRelease_keeps {F : Nat} {s0 : State} {s : State} (hs : Keeps F s0 s)  (hF : Within 0x2000 F) :
    Kept F s0 (execThermtripRelease s) := by
  unfold execThermtripRelease
  repeat' first
    | with_reducible assumption | (intro x; subst x) | with_reducible refine Keeps.ite ?_ ?_ | with_reducible refine Kept.next ?_ | lift_lets
    | with_reducible refine Keeps.mk_ ?_ rfl rfl id id

theorem startWaking_keeps {F : Nat} {s0 : State} {s : State} (hs : Keeps F s0 s) (t : Nat)  (hF : Within 0x800000040 F) :
    Keeps F s0 (startWaking s t) := by
  unfold startWaking
  repeat' first
    | with_reducible assumption | with_reducible intro _ | with_reducible refine forAll_keeps ?_ _ _ ?_
    | with_reducible refine wrFld_keeps ?_ _ _ _ _ (hF.reg rfl) | with_reducible refine onTile_keeps ?_ _ _ (hF.via rfl)

theorem execWakeGrant_keeps {F : Nat} {s0 : State} {s : State} (hs : Keeps F s0 s) (t : Fin 128) (delayNs : Nat)  (hF : Within 0x1000000000000000000000000000000000000800018000000800002840 F) :
    Kept F s0 (execWakeGrant t delayNs s) := by
  unfold execWakeGrant
  repeat' first
    | with_reducible assumption | with_reducible refine Keeps.ite ?_ ?_ | with_reducible refine Kept.next ?_
    | with_reducible refine slackOverrun_keeps ?_ _ _ _ _ (hF.via rfl) | with_reducible refine startWaking_keeps ?_ _ (hF.via rfl)
    | with_reducible refine takeToken_keeps ?_ (hF.via rfl)

theorem execWakeTokenReturn_keeps {F : Nat} {s0 : State} {s : State} (hs : Keeps F s0 s)  (hF : Within 0x800000000000000002000 F) :
    Kept F s0 (execWakeTokenReturn s) := by
  unfold execWakeTokenReturn
  repeat' first
    | with_reducible assumption | (intro x; subst x) | with_reducible refine Kept.next ?_ | with_reducible refine showTokens_keeps ?_ (hF.via rfl)
    | lift_lets | with_reducible refine Keeps.mk_ ?_ rfl rfl id id

theorem enterProbation_keeps {F : Nat} {s0 : State} {s : State} (hs : Keeps F s0 s) (t : Nat) (g : Nat) (source : Nat) (f : GroupCal → GroupCal)  (hF : Within 0x100000000000040 F) :
    Keeps F s0 (enterProbation s t g source f) := by
  unfold enterProbation
  repeat' first
    | with_reducible assumption | with_reducible refine wrFld_keeps ?_ _ _ _ _ (hF.reg rfl)
    | with_reducible refine setCalState_keeps ?_ _ _ _ (hF.via rfl) | with_reducible refine onCal_keeps ?_ _ _ _ (hF.via rfl)

theorem calibrateGroup_keeps {F : Nat} {s0 : State} {s : State} (hs : Keeps F s0 s) (t : Nat) (g : Nat)  (hF : Within 0x100000000000040 F) :
    Keeps F s0 (calibrateGroup s t g) := by
  unfold calibrateGroup
  repeat' first
    | with_reducible assumption | with_reducible refine Keeps.ite ?_ ?_ | with_reducible refine setCalState_keeps ?_ _ _ _ (hF.via rfl)
    | with_reducible refine enterProbation_keeps ?_ _ _ _ _ (hF.via rfl) | with_reducible refine applyCal_keeps ?_ _ _ (hF.via rfl) | lift_lets
    | split

theorem calibrateTile_keeps {F : Nat} {s0 : State} {s : State} (hs : Keeps F s0 s) (t : Nat)  (hF : Within 0x100000000000040 F) :
    Keeps F s0 (calibrateTile s t) := by
  unfold calibrateTile
  repeat' first
    | with_reducible assumption | with_reducible intro _ | with_reducible refine forAll_keeps ?_ _ _ ?_
    | with_reducible refine calibrateGroup_keeps ?_ _ _ (hF.via rfl) | with_reducible refine onTile_keeps ?_ _ _ (hF.via rfl)

theorem execSensorSample_keeps {F : Nat} {s0 : State} {s : State} (hs : Keeps F s0 s) (d : Fin 8) (cim : Vector Byte 16) (die : Byte) (base : Byte)  (hF : Within 0x8000000100000024002040 F) :
    Kept F s0 (execSensorSample d cim die base s) := by
  unfold execSensorSample
  repeat' first
    | with_reducible assumption | (intro x; subst x) | with_reducible intro _ | with_reducible refine Keeps.ite ?_ ?_
    | with_reducible refine Kept.next ?_ | with_reducible refine wr_keeps ?_ _ _ (hF.reg rfl)
    | with_reducible refine wrBit_keeps ?_ _ _ _ (hF.reg rfl) | with_reducible refine forAll_keeps ?_ _ _ ?_
    | with_reducible refine wrFld_keeps ?_ _ _ _ _ (hF.reg rfl) | with_reducible refine calibrateTile_keeps ?_ _ (hF.via rfl) | lift_lets | dsimp only
    | with_reducible refine Keeps.mk_ ?_ rfl rfl id id

theorem boundaryTile_keeps {F : Nat} {s0 : State} {s : State} (hs : Keeps F s0 s) (first : Bool) (t : Nat)  (hF : Within 0x1000100004804000058 F) :
    Keeps F s0 (boundaryTile first s t) := by
  unfold boundaryTile
  repeat' first
    | with_reducible assumption | with_reducible intro _ | with_reducible refine Keeps.ite ?_ ?_
    | with_reducible refine completeMvm_keeps ?_ _ _ (hF.via rfl) | with_reducible refine wr_keeps ?_ _ _ (hF.reg rfl)
    | with_reducible refine onTile_keeps ?_ _ _ (hF.via rfl) | with_reducible refine KeepsFst.fst (unwatch_keeps ?_ _ (hF.via rfl))
    | with_reducible refine forAll_keeps ?_ _ _ ?_ | with_reducible refine measureSpare_keeps ?_ _ _ (hF.via rfl)
    | with_reducible refine commitSubstitution_keeps ?_ _ _ (hF.via rfl) | with_reducible refine writeBudget_keeps ?_ _ (hF.via rfl)
    | with_reducible refine applyCal_keeps ?_ _ _ (hF.via rfl) | with_reducible refine settleFreq_keeps ?_ _ (hF.via rfl)
    | with_reducible refine foldl_keeps ?_ _ _ ?_

theorem execFaultNotice_keeps {F : Nat} {s0 : State} {s : State} (hs : Keeps F s0 s) (p : Fin 12) (job : DWord)  (hF : Within 0x80 F) :
    Kept F s0 (execFaultNotice p job s) := by
  unfold execFaultNotice
  repeat' first
    | with_reducible assumption | with_reducible refine Keeps.ite ?_ ?_ | with_reducible refine Kept.next ?_
    | with_reducible refine onPlot_keeps ?_ _ _ (hF.via rfl)

theorem execHold_keeps {F : Nat} {s0 : State} {s : State} (hs : Keeps F s0 s) (p : Fin 12) (forwarded : Bool)  (hF : Within 0x200000000000000000000000000000006000000000000010280 F) :
    Kept F s0 (execHold p forwarded s) := by
  unfold execHold
  repeat' first
    | with_reducible assumption | with_reducible refine Keeps.ite ?_ ?_ | with_reducible refine Kept.next ?_
    | with_reducible refine onPlot_keeps ?_ _ _ (hF.via rfl) | with_reducible refine holdJob_keeps ?_ _ (hF.via rfl)

theorem execLeaderStart_keeps {F : Nat} {s0 : State} {s : State} (hs : Keeps F s0 s) (p : Fin 12) (sinceNs : Nat)  (hF : Within 0x200000000000000000000000000000004000000000000010280 F) :
    Kept F s0 (execLeaderStart p sinceNs s) := by
  unfold execLeaderStart
  repeat' first
    | with_reducible assumption | with_reducible refine Keeps.ite ?_ ?_ | with_reducible refine Kept.next ?_
    | with_reducible refine holdPlot_keeps ?_ _ (hF.via rfl) | with_reducible refine emit_keeps ?_ _ (hF.via rfl)
    | with_reducible refine onPlot_keeps ?_ _ _ (hF.via rfl)

theorem markerFault_keeps {F : Nat} {s0 : State} {s : State} (hs : Keeps F s0 s) (p : Nat)  (hF : Within 0x10000002000000000000000000030000000000042064003e001816cfdc F) :
    Keeps F s0 (markerFault s p) := by
  unfold markerFault
  repeat' first
    | with_reducible assumption | with_reducible refine tileFault_keeps ?_ _ _ (hF.via rfl) | split

theorem execMarkerStartReceived_keeps {F : Nat} {s0 : State} {s : State} (hs : Keeps F s0 s) (p : Fin 12) (job : DWord) (step : DWord)  (hF : Within 0x10000002000000000000000000030000000000042064003e001816cfdc F) :
    Kept F s0 (execMarkerStartReceived p job step s) := by
  unfold execMarkerStartReceived
  repeat' first
    | with_reducible assumption | with_reducible refine Keeps.ite ?_ ?_ | with_reducible refine Kept.next ?_
    | with_reducible refine markerFault_keeps ?_ _ (hF.via rfl) | with_reducible refine onPlot_keeps ?_ _ _ (hF.via rfl)
    | with_reducible refine setPlt_keeps ?_ _ _ (hF.via rfl)

theorem execMarkerStopReceived_keeps {F : Nat} {s0 : State} {s : State} (hs : Keeps F s0 s) (p : Fin 12) (job : DWord) (_fault : Bool)  (hF : Within 0x200000000000000000000000000000004000000000000010080 F) :
    Kept F s0 (execMarkerStopReceived p job _fault s) := by
  unfold execMarkerStopReceived
  repeat' first
    | with_reducible assumption | with_reducible refine Keeps.ite ?_ ?_ | with_reducible refine Kept.next ?_
    | with_reducible refine onPlot_keeps ?_ _ _ (hF.via rfl) | with_reducible refine holdPlot_keeps ?_ _ (hF.via rfl)

theorem execMarkerTimeout_keeps {F : Nat} {s0 : State} {s : State} (hs : Keeps F s0 s) (p : Fin 12) (sinceNs : Nat)  (hF : Within 0x10000002000000000000000000030000000000042064003e001816cfdc F) :
    Kept F s0 (execMarkerTimeout p sinceNs s) := by
  unfold execMarkerTimeout
  repeat' first
    | with_reducible assumption | with_reducible refine Keeps.ite ?_ ?_ | with_reducible refine Kept.next ?_
    | with_reducible refine markerFault_keeps ?_ _ (hF.via rfl)

theorem stepSums_keeps {F : Nat} {s0 : State} {s : State} (hs : Keeps F s0 s) (p : Nat)  (hF : Within 0x1c000000000000000000000000000000000000000000000000000000000 F) :
    Keeps F s0 (stepSums s p) := by
  unfold stepSums
  repeat' first
    | with_reducible assumption | with_reducible intro _ | with_reducible refine Keeps.ite ?_ ?_ | with_reducible refine forAll_keeps ?_ _ _ ?_
    | with_reducible refine wr_keeps ?_ _ _ (hF.reg rfl)

theorem moveFlows_keeps {F : Nat} {s0 : State} {s : State} (hs : Keeps F s0 s) (p : Nat)  (hF : Within 0x80 F) :
    Keeps F s0 (moveFlows s p) := by
  unfold moveFlows
  repeat' first
    | with_reducible assumption | with_reducible refine Keeps.ite ?_ ?_ | with_reducible refine onPlot_keeps ?_ _ _ (hF.via rfl) | split

theorem startTile_keeps {F : Nat} {s0 : State} {s : State} (hs : Keeps F s0 s) (t : Nat)  (hF : Within 0xc00000000000000 F) :
    Keeps F s0 (startTile s t) := by
  unfold startTile
  repeat' first
    | with_reducible assumption | with_reducible refine wr_keeps ?_ _ _ (hF.reg rfl) | with_reducible refine wrFld_keeps ?_ _ _ _ _ (hF.reg rfl)
    | with_reducible refine setTileRun_keeps ?_ _ _ (hF.via rfl)

theorem startStep_keeps {F : Nat} {s0 : State} {s : State} (hs : Keeps F s0 s) (p : Nat) (late : Nat)  (hF : Within 0x1c000000200000000000000000000000000000047000d000048040123d8 F) :
    Keeps F s0 (startStep s p late) := by
  unfold startStep
  repeat' first
    | with_reducible assumption | with_reducible intro _ | with_reducible refine Keeps.ite ?_ ?_
    | with_reducible refine stepSums_keeps ?_ _ (hF.via rfl) | with_reducible refine moveFlows_keeps ?_ _ (hF.via rfl)
    | with_reducible refine forAll_keeps ?_ _ _ ?_ | with_reducible refine boundaryTile_keeps ?_ _ _ (hF.via rfl)
    | with_reducible refine requestVolt_keeps ?_ _ (hF.via rfl) | with_reducible refine onPlot_keeps ?_ _ _ (hF.via rfl)
    | with_reducible refine startTile_keeps ?_ _ (hF.via rfl) | with_reducible refine irqCores_keeps ?_ _ _ (hF.via rfl)
    | with_reducible refine wr_keeps ?_ _ _ (hF.reg rfl) | with_reducible refine holdJob_keeps ?_ _ (hF.via rfl)

theorem execStepStart_keeps {F : Nat} {s0 : State} {s : State} (hs : Keeps F s0 s) (p : Fin 12) (sinceNs : Nat) (markerNs : Nat) (lateNs : Nat)  (hF : Within 0x1c000000200000000000000000000000000000047000d000048040123d8 F) :
    Kept F s0 (execStepStart p sinceNs markerNs lateNs s) := by
  unfold execStepStart
  repeat' first
    | with_reducible assumption | with_reducible refine Keeps.ite ?_ ?_ | with_reducible refine Kept.next ?_
    | with_reducible refine startStep_keeps ?_ _ _ (hF.via rfl)

theorem execStepWatchdog_keeps {F : Nat} {s0 : State} {s : State} (hs : Keeps F s0 s) (t : Fin 128) (waited : Nat)  (hF : Within 0x10000002000000000000000000030000000000042664003e021816cfdc F) :
    Kept F s0 (execStepWatchdog t waited s) := by
  unfold execStepWatchdog
  repeat' first
    | with_reducible assumption | with_reducible refine Keeps.ite ?_ ?_ | with_reducible refine Kept.next ?_
    | with_reducible refine chargeWait_keeps ?_ _ _ (hF.via rfl)

end Sys2Proof.Machine
end

