-- ==== Sys2Proof/Laws/KeepsPlots.lean ====
section
/-! SUPPORT. What Keeps says of the commands of the host interface, firmware, plots, security, bring-up and checkpoints, and of what rests on
them: one lemma an operation. -/
set_option Elab.async false
namespace Sys2Proof.Machine

theorem onPower_keeps {F : Nat} {s0 : State} {s : State} (hs : Keeps F s0 s) (f : PowerState → PowerState)  (hF : Within 0x2000 F) :
    Keeps F s0 (onPower s f) := by
  unfold onPower
  repeat' first
    | with_reducible assumption | with_reducible refine Keeps.mk_ ?_ rfl rfl id id

theorem setStage_keeps {F : Nat} {s0 : State} {s : State} (hs : Keeps F s0 s) (n : Nat) (st : Nat) (code : Nat)  (hF : Within 0x1000000000000000000000000000000000000000000000000000 F) :
    Keeps F s0 (setStage s n st code) := by
  unfold setStage
  repeat' first
    | with_reducible assumption | with_reducible refine wrFld_keeps ?_ _ _ _ _ (hF.reg rfl)

theorem completeStage_keeps {F : Nat} {s0 : State} {s : State} (hs : Keeps F s0 s) (n : Nat)  (hF : Within 0x1000000000000000000000000000000000000000000000000000 F) :
    Keeps F s0 (completeStage s n) := by
  unfold completeStage
  repeat' first
    | with_reducible assumption | with_reducible refine wrBit_keeps ?_ _ _ _ (hF.reg rfl) | with_reducible refine setStage_keeps ?_ _ _ _ (hF.via rfl)

theorem beginStage_keeps {F : Nat} {s0 : State} {s : State} (hs : Keeps F s0 s) (n : Nat)  (hF : Within 0x3000200000000000000000000000000000000000000000002000 F) :
    Keeps F s0 (beginStage s n) := by
  unfold beginStage
  repeat' first
    | with_reducible assumption | with_reducible refine Keeps.ite ?_ ?_ | with_reducible refine onPower_keeps ?_ _ (hF.via rfl)
    | with_reducible refine setStage_keeps ?_ _ _ _ (hF.via rfl) | with_reducible refine wrFld_keeps ?_ _ _ _ _ (hF.reg rfl)
    | with_reducible refine completeStage_keeps ?_ _ (hF.via rfl)

theorem bootNotice_keeps {F : Nat} {s0 : State} {s : State} (hs : Keeps F s0 s)  (hF : Within 0x1000000000000000000000000000000000000000000000000000000800 F) :
    Keeps F s0 (bootNotice s) := by
  unfold bootNotice
  repeat' first
    | with_reducible assumption | with_reducible refine recordEvent_keeps ?_ _ _ _ _ _ _ _ (hF.via rfl)

theorem showComponent_keeps {F : Nat} {s0 : State} {s : State} (hs : Keeps F s0 s) (k : Component)  (hF : Within 0x70000000000000000000000000000 F) :
    Keeps F s0 (showComponent s k) := by
  unfold showComponent
  repeat' first
    | with_reducible assumption | with_reducible intro _ | with_reducible refine wrFld_keeps ?_ _ _ _ _ (hF.reg rfl)
    | with_reducible refine wr_keeps ?_ _ _ (hF.reg rfl) | with_reducible refine forAll_keeps ?_ _ _ ?_

theorem takeComponents_keeps {F : Nat} {s0 : State} {s : State} (hs : Keeps F s0 s) (ks : List Component)  (hF : Within 0x1000000000000000000000040000079800000000000000000000084900 F) :
    Keeps F s0 (takeComponents s ks) := by
  unfold takeComponents
  repeat' first
    | with_reducible assumption | (intro x; subst x) | with_reducible intro _ | with_reducible refine showComponent_keeps ?_ _ (hF.via rfl)
    | with_reducible refine loadReceivers_keeps ?_ _ (hF.via rfl) | with_reducible refine foldl_keeps ?_ _ _ ?_ | lift_lets | split
    | with_reducible refine Keeps.mk_ ?_ rfl rfl id id

theorem copyRom_keeps {F : Nat} {s0 : State} {s : State} (hs : Keeps F s0 s) (roms : List (List Byte))  (hF : Within 0x1000000000000000000000000000000000000000000000000000000c00 F) :
    Keeps F s0 (copyRom s roms) := by
  unfold copyRom
  repeat' first
    | with_reducible assumption | with_reducible refine Keeps.ite ?_ ?_ | with_reducible refine onHost_keeps ?_ _ (hF.via rfl)
    | with_reducible refine bootNotice_keeps ?_ (hF.via rfl) | split

theorem commitConfig_keeps {F : Nat} {s0 : State} {s : State} (hs : Keeps F s0 s) (c : List Byte)  (hF : Within 0x10000000000000000000080000000000f80000000000004000040 F) :
    Keeps F s0 (commitConfig s c) := by
  unfold commitConfig
  repeat' first
    | with_reducible assumption | with_reducible refine Keeps.ite ?_ ?_ | with_reducible refine wrCommit_keeps ?_ _ _ (hF.reg rfl)
    | with_reducible refine writePwrWake_keeps ?_ _ (hF.via rfl) | with_reducible refine writePwrCtrl_keeps ?_ _ (hF.via rfl)

theorem riseEpoch_keeps {F : Nat} {s0 s : State} (hs : Keeps F s0 s) (n : Nat) (hn : s.sec.epoch ≤ n) (hF : F.testBit 22 = true) : Keeps F s0 (onSec s (fun c => { c with epoch := n })) :=
  hs.trans ⟨rfl, fun c => ⟨c.mem, c.regs, c.tiles, c.plots, c.cores, c.ckp⟩, le_refl _, FusesHold.refl _, hn, fun _ => .inr rfl,
    .refl _, .refl _, .refl _, .refl _, .refl _, .refl _, .refl _, .refl _, .refl _, .refl _, .refl _, .refl _, .refl _, .refl _, .refl _, .refl _, .refl _, .refl _, .refl _, .refl _, .inl hF, .refl _⟩

theorem startEpoch_keeps {F : Nat} {s0 s : State} (hs : Keeps F s0 s) (hF : Within 0xe00000000000000000000000000000000000000000400010 F) : Keeps F s0 (startEpoch s) := by
  unfold startEpoch
  extract_lets n s1 s2
  have h1 : Keeps F s0 s1 := wr_keeps (wrFld_keeps hs _ _ _ _ (hF.reg rfl)) _ _ (hF.reg rfl)
  have h2 : Keeps F s0 s2 := onSec_keeps h1 _ rfl rfl (hF.bit rfl)
  have hn : s2.sec.epoch ≤ n + 1 := Nat.le_succ s.sec.epoch
  clear_value s2 n
  exact Keeps.ite (wrBit_keeps (wr_keeps h2 _ _ (hF.reg rfl)) _ _ _ (hF.reg rfl))
    (draw_keeps (wr_keeps (riseEpoch_keeps h2 _ hn (hF.bit rfl)) _ _ (hF.reg rfl)) (hF.bit rfl))

theorem bootSlot_keeps {F : Nat} {s0 : State} {s : State} (hs : Keeps F s0 s) (k : Nat) (fallback : Bool) (layout : List (Fin 12 × PlotDef))  (hF : Within 0x1000115a00e00002000000440c80079b00000f84000000000004c84d50 F) :
    Keeps F s0 (bootSlot s k fallback layout) := by
  unfold bootSlot
  repeat' first
    | with_reducible assumption | (intro x; subst x) | with_reducible intro _ | with_reducible refine wrBit_keeps ?_ _ _ _ (hF.reg rfl)
    | with_reducible refine wr_keeps ?_ _ _ (hF.reg rfl) | with_reducible refine bootNotice_keeps ?_ (hF.via rfl)
    | with_reducible refine takeComponents_keeps ?_ _ (hF.via rfl) | with_reducible refine copyRom_keeps ?_ _ (hF.via rfl)
    | with_reducible refine commitConfig_keeps ?_ _ (hF.via rfl) | with_reducible refine definePlot_keeps ?_ _ _ (hF.via rfl)
    | with_reducible refine completeStage_keeps ?_ _ (hF.via rfl) | (with_reducible refine onSec_keeps ?_ _ ?_ ?_ (hF.bit rfl)) <;> [skip; rfl; rfl]
    | with_reducible refine startEpoch_keeps ?_ (hF.via rfl) | with_reducible refine foldl_keeps ?_ _ _ ?_ | lift_lets | split
    | with_reducible refine Keeps.mk_ ?_ rfl rfl id id

theorem checkLanes_keeps {F : Nat} {s0 : State} {s : State} (hs : Keeps F s0 s) (p : Nat)  (hF : Within 0x80000 F) :
    Keeps F s0 (checkLanes s p) := by
  unfold checkLanes
  repeat' first
    | with_reducible assumption | (intro x; subst x) | lift_lets | with_reducible refine Keeps.mk_ ?_ rfl rfl id id

theorem emptyBox_keeps {F : Nat} {s0 : State} {s : State} (hs : Keeps F s0 s) (o : Nat)  (hF : Within 0x7800000000000000000000000004000 F) :
    Keeps F s0 (emptyBox s o) := by
  unfold emptyBox
  repeat' first
    | with_reducible assumption | with_reducible refine onBox_keeps ?_ _ _ (hF.via rfl) | with_reducible refine wr_keeps ?_ _ _ (hF.reg rfl)

theorem closeSession_keeps {F : Nat} {s0 : State} {s : State} (hs : Keeps F s0 s) (k : Nat)  (hF : Within 0x7800000000000000000000000404200 F) :
    Keeps F s0 (closeSession s k) := by
  unfold closeSession
  repeat' first
    | with_reducible assumption | (intro x; subst x) | with_reducible refine Keeps.ite ?_ ?_ | with_reducible refine emit_keeps ?_ _ (hF.via rfl)
    | with_reducible refine emptyBox_keeps ?_ _ (hF.via rfl) | lift_lets | with_reducible refine Keeps.mk_ ?_ rfl rfl id id

theorem closeSessions_keeps {F : Nat} {s0 : State} {s : State} (hs : Keeps F s0 s)  (hF : Within 0x7800000000000000000000000404200 F) :
    Keeps F s0 (closeSessions s) := by
  unfold closeSessions
  repeat' first
    | with_reducible assumption | with_reducible intro _ | with_reducible refine forAll_keeps ?_ _ _ ?_
    | with_reducible refine closeSession_keeps ?_ _ (hF.via rfl)

theorem eraseKeys_keeps {F : Nat} {s0 : State} {s : State} (hs : Keeps F s0 s)  (hF : Within 0x100e800200a0040aff40000000078004080408247e6f003e6b1c77efdc F) :
    Keeps F s0 (eraseKeys s) := by
  unfold eraseKeys
  repeat' first
    | with_reducible assumption | (intro x; subst x) | with_reducible intro _ | with_reducible refine Keeps.ite ?_ ?_
    | with_reducible refine forAll_keeps ?_ _ _ ?_ | with_reducible refine eraseKey_keeps ?_ _ (hF.via rfl)
    | with_reducible refine onCtx_keeps ?_ _ _ (hF.via rfl) | with_reducible refine endContext_keeps ?_ _ _ _ (hF.via rfl)
    | with_reducible refine refuseOwed_keeps ?_ _ (hF.via rfl) | with_reducible refine stgTransport_keeps ?_ _ (hF.via rfl)
    | with_reducible refine ckpFail_keeps ?_ _ _ (hF.via rfl) | with_reducible refine dropLoads_keeps ?_ _ (hF.via rfl)
    | with_reducible refine closeSessions_keeps ?_ (hF.via rfl) | with_reducible refine answer_keeps ?_ _ _ _ _ _ _ _ (hF.via rfl)
    | with_reducible refine wr_keeps ?_ _ _ (hF.reg rfl) | with_reducible refine wrFld_keeps ?_ _ _ _ _ (hF.reg rfl)
    | with_reducible refine foldl_keeps ?_ _ _ ?_ | lift_lets | with_reducible refine Keeps.mk_ ?_ rfl rfl id id

theorem resetSecurity_keeps {F : Nat} {s0 : State} {s : State} (hs : Keeps F s0 s)  (hF : Within 0x100e800202a0040aff4000000007800c080408267e6f003e6b1c77efdc F) :
    Keeps F s0 (resetSecurity s) := by
  unfold resetSecurity
  repeat' first
    | with_reducible assumption | with_reducible refine eraseKeys_keeps ?_ (hF.via rfl) | with_reducible refine wr_keeps ?_ _ _ (hF.reg rfl)
    | with_reducible refine resetCores_keeps ?_ _ (hF.via rfl) | with_reducible refine endDebug_keeps ?_ (hF.via rfl)

theorem ringFail_keeps {F : Nat} {s0 : State} {s : State} (hs : Keeps F s0 s) (p : Nat)  (hF : Within 0x800000000000000000000000000000000100400 F) :
    Keeps F s0 (ringFail s p) := by
  unfold ringFail
  repeat' first
    | with_reducible assumption | with_reducible refine wrBit_keeps ?_ _ _ _ (hF.reg rfl) | with_reducible refine dropSource_keeps ?_ _ (hF.via rfl)
    | with_reducible refine onRma_keeps ?_ _ (hF.via rfl)

theorem endInvalidation_keeps {F : Nat} {s0 : State} {s : State} (hs : Keeps F s0 s) (v : Invalidation)  (hF : Within 0x8000000000000000000000000000000000000000000600 F) :
    Keeps F s0 (endInvalidation s v) := by
  unfold endInvalidation
  repeat' first
    | with_reducible assumption | with_reducible refine onHost_keeps ?_ _ (hF.via rfl) | with_reducible refine count_keeps ?_ _ _ (hF.reg rfl)
    | with_reducible refine emit_keeps ?_ _ (hF.via rfl)

theorem resetDone_keeps {F : Nat} {s0 : State} {s : State} (hs : Keeps F s0 s) (cause : Nat) (object : Nat)  (hF : Within 0x1000020000000000000000000000000000000000000000000000000800 F) :
    Keeps F s0 (resetDone s cause object) := by
  unfold resetDone
  repeat' first
    | with_reducible assumption | with_reducible refine wrBit_keeps ?_ _ _ _ (hF.reg rfl)
    | with_reducible refine recordEvent_keeps ?_ _ _ _ _ _ _ _ (hF.via rfl)

theorem resetRequest_keeps {F : Nat} {s0 : State} {s : State} (hs : Keeps F s0 s) (b : ResetBy) (run : State → State) (krun : ∀ a0, Keeps F s0 a0 → Keeps F s0 (run a0)) (hF : Within 0x8000000000000000000003000000000000000000000000004700 F) :
    Keeps F s0 (resetRequest s b run) := by
  unfold resetRequest
  repeat' first
    | with_reducible assumption | with_reducible intro _ | with_reducible apply krun | with_reducible refine serve_keeps ?_ _ _ _ ?_ (hF.via rfl)
    | with_reducible refine irqCores_keeps ?_ _ _ (hF.via rfl) | with_reducible refine respond_keeps ?_ _ _ _ _ _ (hF.via rfl)
    | with_reducible refine wrBit_keeps ?_ _ _ _ (hF.reg rfl) | split

theorem noteCopy_keeps {F : Nat} {s0 : State} {s : State} (hs : Keeps F s0 s) (k : Component)  (hF : Within 0x70000000000000000000000004000 F) :
    Keeps F s0 (noteCopy s k) := by
  unfold noteCopy
  repeat' first
    | with_reducible assumption | (intro x; subst x) | with_reducible refine Keeps.ite ?_ ?_
    | with_reducible refine showComponent_keeps ?_ _ (hF.via rfl) | lift_lets | with_reducible refine Keeps.mk_ ?_ rfl rfl id id

theorem reloadCores_keeps {F : Nat} {s0 : State} {s : State} (hs : Keeps F s0 s) (comp : Nat)  (hF : Within 0x1000000000000000000000040000079800000000000000000000084900 F) :
    Keeps F s0 (reloadCores s comp) := by
  unfold reloadCores
  repeat' first
    | with_reducible assumption | with_reducible refine loadReceivers_keeps ?_ _ (hF.via rfl) | with_reducible refine noteCopy_keeps ?_ _ (hF.via rfl)
    | split

theorem headlandReset_keeps {F : Nat} {s0 : State} {s : State} (hs : Keeps F s0 s) (cause : Nat)  (hF : Within 0x1000020000000000000000040000079800000000000000000000084f00 F) :
    Keeps F s0 (headlandReset s cause) := by
  unfold headlandReset
  repeat' first
    | with_reducible assumption | (intro x; subst x) | with_reducible intro _ | with_reducible refine Keeps.ite ?_ ?_
    | with_reducible refine resetDone_keeps ?_ _ _ (hF.via rfl) | with_reducible refine resetCores_keeps ?_ _ (hF.via rfl)
    | with_reducible refine wrBit_keeps ?_ _ _ _ (hF.reg rfl) | with_reducible refine forAll_keeps ?_ _ _ ?_
    | with_reducible refine setNvState_keeps ?_ _ _ (hF.via rfl) | with_reducible refine signalFn_keeps ?_ _ _ (hF.via rfl)
    | with_reducible refine recordEvent_keeps ?_ _ _ _ _ _ _ _ (hF.via rfl) | with_reducible refine reloadCores_keeps ?_ _ (hF.via rfl) | lift_lets
    | with_reducible refine Keeps.mk_ ?_ rfl rfl id id

theorem execHeadlandReset_keeps {F : Nat} {s0 : State} {s : State} (hs : Keeps F s0 s) (by_ : ResetBy)  (hF : Within 0x1000028000000000000000040003079800000000000000000000084f00 F) :
    Kept F s0 (execHeadlandReset by_ s) := by
  unfold execHeadlandReset
  repeat' first
    | with_reducible assumption | with_reducible intro _ | with_reducible refine Keeps.ite ?_ ?_ | with_reducible refine Kept.next ?_
    | with_reducible refine resetRequest_keeps ?_ _ _ ?_ (hF.via rfl) | with_reducible refine headlandReset_keeps ?_ _ (hF.via rfl)
    | with_reducible refine wrBit_keeps ?_ _ _ _ (hF.reg rfl)

theorem postRestart_keeps {F : Nat} {s0 : State} {s : State} (hs : Keeps F s0 s)  (hF : Within 0x2000000000000000000000000004600 F) :
    Keeps F s0 (postRestart s) := by
  unfold postRestart
  repeat' first
    | with_reducible assumption | with_reducible intro _ | with_reducible refine Keeps.ite ?_ ?_ | with_reducible refine forAll_keeps ?_ _ _ ?_
    | with_reducible refine postUnsol_keeps ?_ _ _ _ _ _ (hF.via rfl)

theorem trainController_keeps {F : Nat} {s0 : State} {s : State} (hs : Keeps F s0 s) (c : Nat) (run : TrainRun)  (hF : Within 0x1000000000000000000000000000000006000000000000000000008800 F) :
    Keeps F s0 (trainController s c run) := by
  unfold trainController
  repeat' first
    | with_reducible assumption | (intro x; refine keeps_cut (F := F) (s0 := s0) x ?_ ?_ <;> [subst x; (clear_value x; intro _)])
    | (intro x; subst x) | with_reducible refine Keeps.ite ?_ ?_ | with_reducible refine wrBit_keeps ?_ _ _ _ (hF.reg rfl)
    | with_reducible refine recordEvent_keeps ?_ _ _ _ _ _ _ _ (hF.via rfl) | lift_lets | split | with_reducible refine Keeps.mk_ ?_ rfl rfl id id

theorem islandOut_keeps {F : Nat} {s0 : State} {s : State} (hs : Keeps F s0 s) (i : Nat) (train : TrainRun) (cold : Bool)  (hF : Within 0x100000b00020000000000004000207980604080000230000280408ef40 F) :
    Keeps F s0 (islandOut s i train cold) := by
  unfold islandOut
  repeat' first
    | with_reducible assumption | (intro x; refine keeps_cut (F := F) (s0 := s0) x ?_ ?_ <;> [subst x; (clear_value x; intro _)])
    | (intro x; subst x) | with_reducible intro _ | with_reducible refine Keeps.ite ?_ ?_ | with_reducible refine reloadCores_keeps ?_ _ (hF.via rfl)
    | with_reducible refine runBootRom_keeps ?_ (hF.via rfl) | with_reducible refine postRestart_keeps ?_ (hF.via rfl)
    | with_reducible refine wrBit_keeps ?_ _ _ _ (hF.reg rfl) | with_reducible refine beginStage_keeps ?_ _ (hF.via rfl)
    | with_reducible refine forAll_keeps ?_ _ _ ?_ | with_reducible refine checkLanes_keeps ?_ _ (hF.via rfl)
    | with_reducible refine trainController_keeps ?_ _ _ (hF.via rfl) | with_reducible refine tileReleased_keeps ?_ _ _ (hF.via rfl)
    | with_reducible refine loadEngine_keeps ?_ _ _ (hF.via rfl) | with_reducible refine onPower_keeps ?_ _ (hF.via rfl) | lift_lets | split
    | with_reducible refine Keeps.mk_ ?_ rfl rfl id id

theorem execIslandRelease_keeps {F : Nat} {s0 : State} {s : State} (hs : Keeps F s0 s) (i : Fin 192) (train : TrainRun)  (hF : Within 0x100020b00020000000000004000207980624080000230000280408ef40 F) :
    Kept F s0 (execIslandRelease i train s) := by
  unfold execIslandRelease
  repeat' first
    | with_reducible assumption | with_reducible refine Keeps.ite ?_ ?_ | with_reducible refine Kept.next ?_
    | with_reducible refine wrBit_keeps ?_ _ _ _ (hF.reg rfl) | with_reducible refine onPower_keeps ?_ _ (hF.via rfl)
    | with_reducible refine islandOut_keeps ?_ _ _ _ (hF.via rfl)

theorem stopStage_keeps {F : Nat} {s0 : State} {s : State} (hs : Keeps F s0 s) (n : Nat) (code : Nat)  (hF : Within 0x1000005000000000000000000000000000000000000000000000000c00 F) :
    Keeps F s0 (stopStage s n code) := by
  unfold stopStage
  repeat' first
    | with_reducible assumption | with_reducible refine Keeps.ite ?_ ?_ | with_reducible refine wrBit_keeps ?_ _ _ _ (hF.reg rfl)
    | with_reducible refine setStage_keeps ?_ _ _ _ (hF.via rfl) | with_reducible refine recordEvent_keeps ?_ _ _ _ _ _ _ _ (hF.via rfl)
    | with_reducible refine onHost_keeps ?_ _ (hF.via rfl)

theorem failRelease_keeps {F : Nat} {s0 : State} {s : State} (hs : Keeps F s0 s) (i : Nat)  (hF : Within 0x1000405000000000000004000018000000000000000000000000082c00 F) :
    Keeps F s0 (failRelease s i) := by
  unfold failRelease
  repeat' first
    | with_reducible assumption | with_reducible intro _ | with_reducible refine Keeps.ite ?_ ?_
    | with_reducible refine onPower_keeps ?_ _ (hF.via rfl) | with_reducible refine wrBit_keeps ?_ _ _ _ (hF.reg rfl)
    | with_reducible refine forAll_keeps ?_ _ _ ?_ | with_reducible refine laneChange_keeps ?_ _ _ (hF.via rfl)
    | with_reducible refine wrFld_keeps ?_ _ _ _ _ (hF.reg rfl) | with_reducible refine stopStage_keeps ?_ _ _ (hF.via rfl)

theorem execPllLockTimeout_keeps {F : Nat} {s0 : State} {s : State} (hs : Keeps F s0 s) (i : Fin 192)  (hF : Within 0x1000405000000000000004000018000000000000000000000000082c00 F) :
    Kept F s0 (execPllLockTimeout i s) := by
  unfold execPllLockTimeout
  repeat' first
    | with_reducible assumption | with_reducible refine Keeps.ite ?_ ?_ | with_reducible refine Kept.next ?_
    | with_reducible refine failRelease_keeps ?_ _ (hF.via rfl) | with_reducible refine onPower_keeps ?_ _ (hF.via rfl)

theorem execPowerOnReset_keeps {F : Nat} {s0 s : State} (hs : Keeps F s0 s) (hF : Within 0x1fffffffffffffffffffffffffffffffffffffffffffffffffffffffffc F) : Kept F s0 (execPowerOnReset s) :=
  Kept.next (hs.trans ⟨rfl, fun _ => ⟨rfl, List.nodup_nil, rfl, rfl, rfl, rfl⟩, Nat.le_succ _, FusesHold.refl s, le_refl _,
    fun r => .inl (hF.reg (Within.reg (h := by exact rfl) (anyReg_bit r))), .inl (hF.bit rfl), .inl (hF.bit rfl), .inl (hF.bit rfl), .inl (hF.bit rfl), .inl (hF.bit rfl), .inl (hF.bit rfl), .inl (hF.bit rfl), .inl (hF.bit rfl), .inl (hF.bit rfl), .inl (hF.bit rfl), .inl (hF.bit rfl), .inl (hF.bit rfl), .inl (hF.bit rfl), .inl (hF.bit rfl), .inl (hF.bit rfl), .inl (hF.bit rfl), .inl (hF.bit rfl), .inl (hF.bit rfl), .inl (hF.bit rfl), .inl (hF.bit rfl), .inl (hF.bit rfl), .inl (hF.bit rfl)⟩)

theorem referenceEvent_keeps {F : Nat} {s0 : State} {s : State} (hs : Keeps F s0 s) (k : Nat)  (hF : Within 0x1000000000000000000000000000000000000000000000000000000f00 F) :
    Keeps F s0 (referenceEvent s k) := by
  unfold referenceEvent
  repeat' first
    | with_reducible assumption | with_reducible refine signalFn_keeps ?_ _ _ (hF.via rfl) | with_reducible refine irqCores_keeps ?_ _ _ (hF.via rfl)
    | with_reducible refine recordEvent_keeps ?_ _ _ _ _ _ _ _ (hF.via rfl)

theorem execRefclkReturn_keeps {F : Nat} {s0 : State} {s : State} (hs : Keeps F s0 s) (k : Fin 3)  (hF : Within 0x1000001000000000000000000000000000100000000000000000000f00 F) :
    Kept F s0 (execRefclkReturn k s) := by
  unfold execRefclkReturn
  repeat' first
    | with_reducible assumption | with_reducible refine Keeps.ite ?_ ?_ | with_reducible refine Kept.next ?_
    | with_reducible refine referenceEvent_keeps ?_ _ (hF.via rfl) | with_reducible refine wrBit_keeps ?_ _ _ _ (hF.reg rfl)
    | with_reducible refine setStage_keeps ?_ _ _ _ (hF.via rfl)

theorem execReferenceBack_keeps {F : Nat} {s0 : State} {s : State} (hs : Keeps F s0 s)  (hF : Within 0x1000000000000000000000000000000000100000000000000000000f00 F) :
    Kept F s0 (execReferenceBack s) := by
  unfold execReferenceBack
  repeat' first
    | with_reducible assumption | with_reducible refine Keeps.ite ?_ ?_ | with_reducible refine Kept.next ?_
    | with_reducible refine referenceEvent_keeps ?_ _ (hF.via rfl) | with_reducible refine wrBit_keeps ?_ _ _ _ (hF.reg rfl)

theorem writeGate_keeps {F : Nat} {s0 : State} {s : State} (hs : Keeps F s0 s) (n : Nat)  (hF : Within 0x3000200000000000000000000000000000000000000000002100 F) :
    Keeps F s0 (writeGate s n) := by
  unfold writeGate
  repeat' first
    | with_reducible assumption | with_reducible refine Keeps.ite ?_ ?_ | with_reducible refine irqCores_keeps ?_ _ _ (hF.via rfl)
    | with_reducible refine wrBit_keeps ?_ _ _ _ (hF.reg rfl) | with_reducible refine beginStage_keeps ?_ _ (hF.via rfl)
    | with_reducible refine wrFld_keeps ?_ _ _ _ _ (hF.reg rfl)

theorem execRstGate_keeps {F : Nat} {s0 : State} {s : State} (hs : Keeps F s0 s) (m : Option Msg) (n : BitVec 3)  (hF : Within 0x3000200000000000000003000000000000000000000000006700 F) :
    Kept F s0 (execRstGate m n s) := by
  unfold execRstGate
  repeat' first
    | with_reducible assumption | with_reducible intro _ | with_reducible refine Kept.next ?_
    | with_reducible refine writeGate_keeps ?_ _ (hF.via rfl) | with_reducible refine serve_keeps ?_ _ _ _ ?_ (hF.via rfl)
    | with_reducible refine respond_keeps ?_ _ _ _ _ _ (hF.via rfl) | split

theorem execSeedCommit_keeps {F : Nat} {s0 : State} {s : State} (hs : Keeps F s0 s) (m : Msg) (header : List Byte)  (hF : Within 0x3000000000000000000000000804700 F) :
    Kept F s0 (execSeedCommit m header s) := by
  unfold execSeedCommit
  repeat' first
    | with_reducible assumption | (intro x; subst x) | with_reducible intro _ | with_reducible refine Keeps.ite ?_ ?_
    | with_reducible refine Kept.next ?_ | with_reducible refine serve_keeps ?_ _ _ _ ?_ (hF.via rfl)
    | with_reducible refine respond_keeps ?_ _ _ _ _ _ (hF.via rfl) | with_reducible refine setSeedSlot_keeps ?_ _ _ (hF.via rfl)
    | with_reducible refine irqCores_keeps ?_ _ _ (hF.via rfl) | lift_lets | with_reducible refine Keeps.mk_ ?_ rfl rfl id id

theorem execSeedQuery_keeps {F : Nat} {s0 : State} {s : State} (hs : Keeps F s0 s) (m : Msg)  (hF : Within 0x3000000000000000000000000004700 F) :
    Kept F s0 (execSeedQuery m s) := by
  unfold execSeedQuery
  repeat' first
    | with_reducible assumption | with_reducible intro _ | with_reducible refine Kept.next ?_
    | with_reducible refine serve_keeps ?_ _ _ _ ?_ (hF.via rfl) | with_reducible refine respond_keeps ?_ _ _ _ _ _ (hF.via rfl)

theorem execSeedWrite_keeps {F : Nat} {s0 : State} {s : State} (hs : Keeps F s0 s) (m : Msg) (off : Nat) (src : SecBuf) (len : Nat)  (hF : Within 0x3000000000000000000000000804700 F) :
    Kept F s0 (execSeedWrite m off src len s) := by
  unfold execSeedWrite
  repeat' first
    | with_reducible assumption | (intro x; subst x) | with_reducible intro _ | with_reducible refine Keeps.ite ?_ ?_
    | with_reducible refine Kept.next ?_ | with_reducible refine serve_keeps ?_ _ _ _ ?_ (hF.via rfl)
    | with_reducible refine respond_keeps ?_ _ _ _ _ _ (hF.via rfl) | with_reducible refine setSeedSlot_keeps ?_ _ _ (hF.via rfl)
    | with_reducible refine irqCores_keeps ?_ _ _ (hF.via rfl) | lift_lets | split | with_reducible refine Keeps.mk_ ?_ rfl rfl id id

theorem sampleOptsel_keeps {F : Nat} {s0 : State} {s : State} (hs : Keeps F s0 s) (m : Nat)  (hF : Within 0x1000004000000000000000000000000000000000000000000000002800 F) :
    Keeps F s0 (sampleOptsel s m) := by
  unfold sampleOptsel
  repeat' first
    | with_reducible assumption | with_reducible refine Keeps.ite ?_ ?_ | with_reducible refine wrBit_keeps ?_ _ _ _ (hF.reg rfl)
    | with_reducible refine wrFld_keeps ?_ _ _ _ _ (hF.reg rfl) | with_reducible refine onPower_keeps ?_ _ (hF.via rfl)
    | with_reducible refine recordEvent_keeps ?_ _ _ _ _ _ _ _ (hF.via rfl)

theorem execStageBegin_keeps {F : Nat} {s0 : State} {s : State} (hs : Keeps F s0 s) (n : Fin 7) (median : Byte)  (hF : Within 0x100000f000200000000000000000000000000000000000000000002800 F) :
    Kept F s0 (execStageBegin n median s) := by
  unfold execStageBegin
  repeat' first
    | with_reducible assumption | with_reducible refine Keeps.ite ?_ ?_ | with_reducible refine Kept.next ?_
    | with_reducible refine onPower_keeps ?_ _ (hF.via rfl) | with_reducible refine wrBit_keeps ?_ _ _ _ (hF.reg rfl)
    | with_reducible refine beginStage_keeps ?_ _ (hF.via rfl) | with_reducible refine sampleOptsel_keeps ?_ _ (hF.via rfl)

theorem showRunning_keeps {F : Nat} {s0 : State} {s : State} (hs : Keeps F s0 s) (c : Nat)  (hF : Within 0x70000000000000000000000000000 F) :
    Keeps F s0 (showRunning s c) := by
  unfold showRunning
  repeat' first
    | with_reducible assumption | with_reducible refine showComponent_keeps ?_ _ (hF.via rfl) | split

theorem execStageComplete_keeps {F : Nat} {s0 : State} {s : State} (hs : Keeps F s0 s) (n : Fin 7) (layout : List (Fin 12 × PlotDef))  (hF : Within 0x1000115a00e00002000000440c80079b00000f84000000000004c84d50 F) :
    Kept F s0 (execStageComplete n layout s) := by
  unfold execStageComplete
  repeat' first
    | with_reducible assumption | (intro x; subst x) | with_reducible refine Keeps.ite ?_ ?_ | with_reducible refine Kept.next ?_
    | with_reducible refine completeStage_keeps ?_ _ (hF.via rfl) | with_reducible refine bootSlot_keeps ?_ _ _ _ (hF.via rfl)
    | with_reducible refine stopStage_keeps ?_ _ _ (hF.via rfl) | with_reducible refine showRunning_keeps ?_ _ (hF.via rfl) | lift_lets | split
    | with_reducible refine Keeps.mk_ ?_ rfl rfl id id

theorem execStageStop_keeps {F : Nat} {s0 : State} {s : State} (hs : Keeps F s0 s) (n : Fin 7) (code : Byte)  (hF : Within 0x1000005000000000000000000000000000000000000000000000000c00 F) :
    Kept F s0 (execStageStop n code s) := by
  unfold execStageStop
  repeat' first
    | with_reducible assumption | with_reducible refine Keeps.ite ?_ ?_ | with_reducible refine Kept.next ?_
    | with_reducible refine stopStage_keeps ?_ _ _ (hF.via rfl)

theorem faultPlots_keeps {F : Nat} {s0 : State} {s : State} (hs : Keeps F s0 s) (ts : List Nat)  (hF : Within 0x10000002000000000000000000030000000000040064003e000016cfdc F) :
    Keeps F s0 (faultPlots s ts) := by
  unfold faultPlots
  repeat' first
    | with_reducible assumption | with_reducible intro _ | with_reducible refine Keeps.ite ?_ ?_ | with_reducible refine forAll_keeps ?_ _ _ ?_
    | with_reducible refine plotFault_keeps ?_ _ _ _ (hF.via rfl) | split

theorem execTrimLoadCommit_keeps {F : Nat} {s0 : State} {s : State} (hs : Keeps F s0 s) (i : Fin 192) (ok : Bool)  (hF : Within 0x1000405000000000000004000018000000000000000000000000082c00 F) :
    Kept F s0 (execTrimLoadCommit i ok s) := by
  unfold execTrimLoadCommit
  repeat' first
    | with_reducible assumption | with_reducible refine Keeps.ite ?_ ?_ | with_reducible refine Kept.next ?_
    | with_reducible refine onPower_keeps ?_ _ (hF.via rfl) | with_reducible refine failRelease_keeps ?_ _ (hF.via rfl)

theorem execWatchdogExpiry_keeps {F : Nat} {s0 : State} {s : State} (hs : Keeps F s0 s) (c : Fin 24)  (hF : Within 0x10000200000000000000000400030f9800000000000000000000084f00 F) :
    Kept F s0 (execWatchdogExpiry c s) := by
  unfold execWatchdogExpiry
  repeat' first
    | with_reducible assumption | with_reducible refine Keeps.ite ?_ ?_ | with_reducible refine Kept.next ?_
    | with_reducible refine haltCore_keeps ?_ _ _ (hF.via rfl) | with_reducible refine wrFld_keeps ?_ _ _ _ _ (hF.reg rfl)
    | with_reducible refine headlandReset_keeps ?_ _ (hF.via rfl)

theorem execXspiRelease_keeps {F : Nat} {s0 : State} {s : State} (hs : Keeps F s0 s)  (hF : Within 0x4000000000000000000000000000000000000000000000000000 F) :
    Kept F s0 (execXspiRelease s) := by
  unfold execXspiRelease
  repeat' first
    | with_reducible assumption | with_reducible refine Keeps.ite ?_ ?_ | with_reducible refine Kept.next ?_
    | with_reducible refine wrBit_keeps ?_ _ _ _ (hF.reg rfl)

theorem enterRequest_keeps {F : Nat} {s0 : State} {s : State} (hs : Keeps F s0 s) (m : Msg) (type : Nat)  (hF : Within 0x3800000000000000000000000004700 F) :
    Keeps F s0 (enterRequest s m type) := by
  unfold enterRequest
  repeat' first
    | with_reducible assumption | with_reducible refine Keeps.ite ?_ ?_ | with_reducible refine wr_keeps ?_ _ _ (hF.reg rfl)
    | with_reducible refine onBox_keeps ?_ _ _ (hF.via rfl) | with_reducible refine respond_keeps ?_ _ _ _ _ _ (hF.via rfl)
    | with_reducible refine irqCores_keeps ?_ _ _ (hF.via rfl) | with_reducible refine answer_keeps ?_ _ _ _ _ _ _ _ (hF.via rfl) | lift_lets | split

theorem enterUpTo_keeps {F : Nat} {s0 : State} {s : State} (hs : Keeps F s0 s) (a1 : Nat) (a3 : Fin 14) (a4 : Nat)  (hF : Within 0x3800000000000000000000000004700 F) :
    Keeps F s0 (enterUpTo a1 s a3 a4) := by
  induction a1 generalizing s a3 a4 with
  | zero =>
    unfold enterUpTo
    exact hs
  | succ n ih =>
    unfold enterUpTo
    repeat' first
      | with_reducible apply ih | with_reducible assumption | with_reducible refine Keeps.ite ?_ ?_
      | with_reducible refine enterRequest_keeps ?_ _ _ (hF.via rfl)

theorem postHeld_keeps {F : Nat} {s0 : State} {s : State} (hs : Keeps F s0 s) (a1 : Nat) (a3 : Nat)  (hF : Within 0x2000000000000000000000000004600 F) :
    Keeps F s0 (postHeld a1 s a3) := by
  induction a1 generalizing s a3 with
  | zero =>
    unfold postHeld
    exact hs
  | succ n ih =>
    unfold postHeld
    repeat' first
      | with_reducible apply ih | with_reducible assumption | with_reducible refine Keeps.ite ?_ ?_
      | with_reducible refine postMsg_keeps ?_ _ _ (hF.via rfl) | with_reducible refine onBox_keeps ?_ _ _ (hF.via rfl) | split

theorem execMbxFfci_keeps {F : Nat} {s0 : State} {s : State} (hs : Keeps F s0 s) (owner : Fin 14) (index : BitVec 16)  (hF : Within 0x6000000000000000000000000004700 F) :
    Kept F s0 (execMbxFfci owner index s) := by
  unfold execMbxFfci
  repeat' first
    | with_reducible assumption | with_reducible refine Keeps.ite ?_ ?_ | with_reducible refine Kept.next ?_
    | with_reducible refine onBox_keeps ?_ _ _ (hF.via rfl) | with_reducible refine wr_keeps ?_ _ _ (hF.reg rfl)
    | with_reducible refine postHeld_keeps ?_ _ _ (hF.via rfl) | with_reducible refine irqCores_keeps ?_ _ _ (hF.via rfl)

theorem execHeartbeat_keeps {F : Nat} {s0 : State} {s : State} (hs : Keeps F s0 s) (f : Fin 13) (v : Word)  (hF : Within 0x500000000000000000000000000000000000000000000 F) :
    Kept F s0 (execHeartbeat f v s) := by
  unfold execHeartbeat
  repeat' first
    | with_reducible assumption | with_reducible refine Keeps.ite ?_ ?_ | with_reducible refine Kept.next ?_
    | with_reducible refine wr_keeps ?_ _ _ (hF.reg rfl) | with_reducible refine wrBit_keeps ?_ _ _ _ (hF.reg rfl)

theorem execEvrCursorWrite_keeps {F : Nat} {s0 : State} {s : State} (hs : Keeps F s0 s) (reader : Fin 14) (lo : Word)  (hF : Within 0x200000000000000000000000000000000000000000000000000000800 F) :
    Kept F s0 (execEvrCursorWrite reader lo s) := by
  unfold execEvrCursorWrite
  repeat' first
    | with_reducible assumption | (intro x; subst x) | with_reducible refine Kept.next ?_ | with_reducible refine wr_keeps ?_ _ _ (hF.reg rfl)
    | lift_lets | with_reducible refine Keeps.mk_ ?_ rfl rfl id id

theorem takeSnapshot_keeps {F : Nat} {s0 : State} {s : State} (hs : Keeps F s0 s) (groups : Nat)  (hF : Within 0x1000 F) :
    Keeps F s0 (takeSnapshot s groups) := by
  unfold takeSnapshot
  repeat' first
    | with_reducible assumption | (intro x; subst x) | lift_lets | with_reducible refine Keeps.mk_ ?_ rfl rfl id id

theorem telSnap_keeps {F : Nat} {s0 : State} {s : State} (hs : Keeps F s0 s) (groups : Nat)  (hF : Within 0x2000000000000000000000000000000000000000000000000000001000 F) :
    Keeps F s0 (telSnap s groups) := by
  unfold telSnap
  repeat' first
    | with_reducible assumption | with_reducible refine takeSnapshot_keeps ?_ _ (hF.via rfl)
    | with_reducible refine wrFld_keeps ?_ _ _ _ _ (hF.reg rfl)

theorem answerRestore_keeps {F : Nat} {s0 : State} {s : State} (hs : Keeps F s0 s) (owed : Nat × Nat × Nat)  (hF : Within 0x3000000000000000000000000014700 F) :
    Keeps F s0 (answerRestore s owed) := by
  unfold answerRestore
  repeat' first
    | with_reducible assumption | (intro x; refine keeps_cut (F := F) (s0 := s0) x ?_ ?_ <;> [subst x; (clear_value x; intro _)])
    | with_reducible intro _ | with_reducible refine Keeps.ite ?_ ?_ | with_reducible refine forAll_keeps ?_ _ _ ?_
    | with_reducible refine onCkp_keeps ?_ _ _ (hF.via rfl) | with_reducible refine answer_keeps ?_ _ _ _ _ _ _ _ (hF.via rfl) | lift_lets | split

theorem execCheckpointCut_keeps {F : Nat} {s0 : State} {s : State} (hs : Keeps F s0 s) (p : Fin 12)  (hF : Within 0x100380000000000000000000000000000000000000000000000047890c F) :
    Kept F s0 (execCheckpointCut p s) := by
  unfold execCheckpointCut
  repeat' first
    | with_reducible assumption | with_reducible refine Keeps.ite ?_ ?_ | with_reducible refine Kept.next ?_
    | with_reducible refine onCkp_keeps ?_ _ _ (hF.via rfl) | with_reducible refine wr_keeps ?_ _ _ (hF.reg rfl)
    | with_reducible refine ckpFail_keeps ?_ _ _ (hF.via rfl) | (with_reducible refine onSec_keeps ?_ _ ?_ ?_ (hF.bit rfl)) <;> [skip; rfl; rfl]
    | with_reducible refine setCkp_keeps ?_ _ _ _ (hF.via rfl) | lift_lets | with_reducible refine Keeps.mk_ ?_ rfl rfl id id

theorem execCkpArm_keeps {F : Nat} {s0 : State} {s : State} (hs : Keeps F s0 s) (m : Msg) (full : Bool) (ckptId : DWord) (hstep : DWord) (slot : Fin 256) (binding : Fin 256) (lba : Nat) (region : Fin 32) (off : Nat) (cap : Nat)  (hF : Within 0x800000000000000000000003000000000000000000000000014700 F) :
    Kept F s0 (execCkpArm m full ckptId hstep slot binding lba region off cap s) := by
  unfold execCkpArm
  repeat' first
    | with_reducible assumption | with_reducible intro _ | with_reducible refine Keeps.ite ?_ ?_ | with_reducible refine Kept.next ?_
    | with_reducible refine serve_keeps ?_ _ _ _ ?_ (hF.via rfl) | with_reducible refine respond_keeps ?_ _ _ _ _ _ (hF.via rfl)
    | with_reducible refine onCkp_keeps ?_ _ _ (hF.via rfl) | with_reducible refine setCkp_keeps ?_ _ _ _ (hF.via rfl)
    | with_reducible refine wrBit_keeps ?_ _ _ _ (hF.reg rfl)

theorem execCkpDisarm_keeps {F : Nat} {s0 : State} {s : State} (hs : Keeps F s0 s) (m : Msg)  (hF : Within 0x800000000000000000000003000000000000000000000000004700 F) :
    Kept F s0 (execCkpDisarm m s) := by
  unfold execCkpDisarm
  repeat' first
    | with_reducible assumption | with_reducible intro _ | with_reducible refine Keeps.ite ?_ ?_ | with_reducible refine Kept.next ?_
    | with_reducible refine serve_keeps ?_ _ _ _ ?_ (hF.via rfl) | with_reducible refine respond_keeps ?_ _ _ _ _ _ (hF.via rfl)
    | with_reducible refine setCkp_keeps ?_ _ _ _ (hF.via rfl)

theorem execCkpQuery_keeps {F : Nat} {s0 : State} {s : State} (hs : Keeps F s0 s) (m : Msg)  (hF : Within 0x3000000000000000000000000004700 F) :
    Kept F s0 (execCkpQuery m s) := by
  unfold execCkpQuery
  repeat' first
    | with_reducible assumption | with_reducible intro _ | with_reducible refine Kept.next ?_
    | with_reducible refine serve_keeps ?_ _ _ _ ?_ (hF.via rfl) | with_reducible refine respond_keeps ?_ _ _ _ _ _ (hF.via rfl)

theorem execCkpRestore_keeps {F : Nat} {s0 : State} {s : State} (hs : Keeps F s0 s) (m : Msg) (step : DWord) (slot : Fin 256) (chains : List (Fin 12 × List Sheaf))  (hF : Within 0x800000000000000000000003000000000000000000000000014700 F) :
    Kept F s0 (execCkpRestore m step slot chains s) := by
  unfold execCkpRestore
  repeat' first
    | with_reducible assumption | with_reducible intro _ | with_reducible refine Keeps.ite ?_ ?_ | with_reducible refine Kept.next ?_
    | with_reducible refine serve_keeps ?_ _ _ _ ?_ (hF.via rfl) | with_reducible refine respond_keeps ?_ _ _ _ _ _ (hF.via rfl)
    | with_reducible refine setCkp_keeps ?_ _ _ _ (hF.via rfl) | with_reducible refine onCkp_keeps ?_ _ _ (hF.via rfl)
    | with_reducible refine foldl_keeps ?_ _ _ ?_

theorem execCopyBeforeWrite_keeps {F : Nat} {s0 : State} {s : State} (hs : Keeps F s0 s) (p : Fin 12) (page : Nat) (waitNs : Nat)  (hF : Within 0xc00000000000000000000000000000000000000000000000007800c F) :
    Kept F s0 (execCopyBeforeWrite p page waitNs s) := by
  unfold execCopyBeforeWrite
  repeat' first
    | with_reducible assumption | with_reducible refine Keeps.ite ?_ ?_ | with_reducible refine Kept.next ?_
    | with_reducible refine cowCopy_keeps ?_ _ _ (hF.via rfl) | with_reducible refine releaseHeld_keeps ?_ _ (hF.via rfl)
    | with_reducible refine noteWait_keeps ?_ _ _ (hF.via rfl)

theorem restoreFailed_keeps {F : Nat} {s0 : State} {s : State} (hs : Keeps F s0 s) (p : Nat) (code : Nat)  (hF : Within 0x800000000000000000000000000000000000000000000000000100 F) :
    Keeps F s0 (restoreFailed s p code) := by
  unfold restoreFailed
  repeat' first
    | with_reducible assumption | with_reducible refine setCkp_keeps ?_ _ _ _ (hF.via rfl) | with_reducible refine wrBit_keeps ?_ _ _ _ (hF.reg rfl)

theorem restoreRecords_keeps {F : Nat} {s0 : State} {s : State} (hs : Keeps F s0 s) (key : List Byte) (p : Nat) (h : List Byte) (a1 : List (List Byte)) (a2 : Nat) (a3 : Option Nat) (a5 : List Nat)  (hF : Within 0x800c F) :
    KeepsFst F s0 (restoreRecords key p h a1 a2 a3 s a5) := by
  induction a1 generalizing key p h a2 a3 s a5 with
  | nil =>
    unfold restoreRecords
    exact KeepsFst.of hs
  | cons x rest ih =>
    unfold restoreRecords
    repeat' first
      | with_reducible apply ih | with_reducible assumption | with_reducible refine KeepsFst.ite ?_ ?_
      | with_reducible refine wrBytesQuiet_keeps ?_ _ _ (hF.bit rfl) (hF.bit rfl) | with_reducible refine clearBad_keeps ?_ _ _ (hF.via rfl) | split
      | with_reducible refine KeepsFst.of ?_

theorem restoreChain_keeps {F : Nat} {s0 : State} {s : State} (hs : Keeps F s0 s) (key : List Byte) (p : Nat) (a1 : List Sheaf) (a2 : Option Nat) (a4 : List Nat)  (hF : Within 0x800c F) :
    KeepsFst F s0 (restoreChain key p a1 a2 s a4) := by
  induction a1 generalizing key p a2 s a4 with
  | nil =>
    unfold restoreChain
    exact KeepsFst.of hs
  | cons x rest ih =>
    unfold restoreChain
    repeat' first
      | with_reducible apply ih | with_reducible assumption | with_reducible refine KeepsFst.ite ?_ ?_
      | with_reducible refine restoreRecords_keeps ?_ _ _ _ _ _ _ _ (hF.via rfl)
      | with_reducible refine KeepsFst.fst (restoreRecords_keeps ?_ _ _ _ _ _ _ _ (hF.via rfl)) | lift_lets | with_reducible refine KeepsFst.of ?_

theorem loadSeeds_keeps {F : Nat} {s0 : State} {s : State} (hs : Keeps F s0 s) (h : List Byte) (ts : List Nat)  (hF : Within 0x40 F) :
    Keeps F s0 (loadSeeds s h ts) := by
  unfold loadSeeds
  repeat' first
    | with_reducible assumption | with_reducible intro _ | with_reducible refine onTile_keeps ?_ _ _ (hF.via rfl)
    | with_reducible refine foldl_keeps ?_ _ _ ?_

theorem execRestoreComplete_keeps {F : Nat} {s0 : State} {s : State} (hs : Keeps F s0 s) (p : Fin 12) (reads : Option Nat)  (hF : Within 0x80020000000000000000000300000000000000000000000007c7cc F) :
    Kept F s0 (execRestoreComplete p reads s) := by
  unfold execRestoreComplete
  repeat' first
    | with_reducible assumption | (intro x; refine keeps_cut (F := F) (s0 := s0) x ?_ ?_ <;> [subst x; (clear_value x; intro _)])
    | (intro x; subst x) | with_reducible refine Keeps.ite ?_ ?_ | with_reducible refine Kept.next ?_
    | with_reducible refine onCkp_keeps ?_ _ _ (hF.via rfl) | with_reducible refine restoreFailed_keeps ?_ _ _ (hF.via rfl)
    | with_reducible refine wrFld_keeps ?_ _ _ _ _ (hF.reg rfl) | with_reducible refine KeepsFst.fst (restoreChain_keeps ?_ _ _ _ _ _ (hF.via rfl))
    | with_reducible refine loadSeeds_keeps ?_ _ _ (hF.via rfl) | with_reducible refine onPlot_keeps ?_ _ _ (hF.via rfl)
    | with_reducible refine setCkp_keeps ?_ _ _ _ (hF.via rfl) | with_reducible refine wrBit_keeps ?_ _ _ _ (hF.reg rfl)
    | with_reducible refine answerRestore_keeps ?_ _ (hF.via rfl) | lift_lets | split | with_reducible refine Keeps.mk_ ?_ rfl rfl id id

theorem execSnapshotComplete_keeps {F : Nat} {s0 : State} {s : State} (hs : Keeps F s0 s) (p : Fin 12)  (hF : Within 0x800000000000000000000000000000000000000000000000010100 F) :
    Kept F s0 (execSnapshotComplete p s) := by
  unfold execSnapshotComplete
  repeat' first
    | with_reducible assumption | with_reducible refine Keeps.ite ?_ ?_ | with_reducible refine Kept.next ?_
    | with_reducible refine onCkp_keeps ?_ _ _ (hF.via rfl) | with_reducible refine setCkp_keeps ?_ _ _ _ (hF.via rfl)

theorem readOut_keeps {F : Nat} {s0 : State} {s : State} (hs : Keeps F s0 s) (w : Word)  (hF : Within 0x200 F) :
    Keeps F s0 (readOut s w) := by
  unfold readOut
  repeat' first
    | with_reducible assumption | with_reducible refine emit_keeps ?_ _ (hF.via rfl)

theorem execArrConvLoRead_keeps {F : Nat} {s0 : State} {s : State} (hs : Keeps F s0 s) (t : Fin 128)  (hF : Within 0x80000200 F) :
    Kept F s0 (execArrConvLoRead t s) := by
  unfold execArrConvLoRead
  repeat' first
    | with_reducible assumption | with_reducible refine Kept.next ?_ | with_reducible refine readOut_keeps ?_ _ (hF.via rfl)
    | with_reducible refine wr_keeps ?_ _ _ (hF.reg rfl)

theorem execCkpSteploRead_keeps {F : Nat} {s0 : State} {s : State} (hs : Keeps F s0 s) (p : Fin 12)  (hF : Within 0x20000000000000000000000000000000000000000000000000000200 F) :
    Kept F s0 (execCkpSteploRead p s) := by
  unfold execCkpSteploRead
  repeat' first
    | with_reducible assumption | with_reducible refine Kept.next ?_ | with_reducible refine readOut_keeps ?_ _ (hF.via rfl)
    | with_reducible refine wr_keeps ?_ _ _ (hF.reg rfl)

theorem placeDropRecord_keeps {F : Nat} {s0 : State} {s : State} (hs : Keeps F s0 s) (i : Nat)  (hF : Within 0x800 F) :
    Keeps F s0 (placeDropRecord s i) := by
  unfold placeDropRecord
  repeat' first
    | with_reducible assumption | (intro x; subst x) | with_reducible refine Keeps.ite ?_ ?_ | lift_lets
    | with_reducible refine Keeps.mk_ ?_ rfl rfl id id

theorem execEventRecordWrite_keeps {F : Nat} {s0 : State} {s : State} (hs : Keeps F s0 s)  (hF : Within 0x800000000000000000000000000000000000000000000000000000f00 F) :
    Kept F s0 (execEventRecordWrite s) := by
  unfold execEventRecordWrite
  repeat' first
    | with_reducible assumption | (intro x; subst x) | with_reducible intro _ | with_reducible refine Kept.next ?_
    | with_reducible refine placeDropRecord_keeps ?_ _ (hF.via rfl) | with_reducible refine notifyReader_keeps ?_ _ _ (hF.via rfl)
    | with_reducible refine foldl_keeps ?_ _ _ ?_ | lift_lets | split | dsimp only | with_reducible refine Keeps.mk_ ?_ rfl rfl id id

theorem execEvrHeadLoRead_keeps {F : Nat} {s0 : State} {s : State} (hs : Keeps F s0 s) (reader : Fin 14)  (hF : Within 0x100000000000000000000000000000000000000000000000000000200 F) :
    Kept F s0 (execEvrHeadLoRead reader s) := by
  unfold execEvrHeadLoRead
  repeat' first
    | with_reducible assumption | with_reducible refine Kept.next ?_ | with_reducible refine readOut_keeps ?_ _ (hF.via rfl)
    | with_reducible refine wr_keeps ?_ _ _ (hF.reg rfl)

theorem execSchPstepLoRead_keeps {F : Nat} {s0 : State} {s : State} (hs : Keeps F s0 s) (p : Fin 12)  (hF : Within 0x10000000000000000200 F) :
    Kept F s0 (execSchPstepLoRead p s) := by
  unfold execSchPstepLoRead
  repeat' first
    | with_reducible assumption | with_reducible refine Kept.next ?_ | with_reducible refine readOut_keeps ?_ _ (hF.via rfl)
    | with_reducible refine wr_keeps ?_ _ _ (hF.reg rfl)

theorem execTilSeedLoRead_keeps {F : Nat} {s0 : State} {s : State} (hs : Keeps F s0 s) (t : Fin 128)  (hF : Within 0x800000000200 F) :
    Kept F s0 (execTilSeedLoRead t s) := by
  unfold execTilSeedLoRead
  repeat' first
    | with_reducible assumption | with_reducible refine Kept.next ?_ | with_reducible refine readOut_keeps ?_ _ (hF.via rfl)
    | with_reducible refine wr_keeps ?_ _ _ (hF.reg rfl)

theorem distFrame_keeps {F : Nat} {s0 : State} {s : State} (hs : Keeps F s0 s) (d : DistSession) (kind : Nat) (index : Nat) (payload : List Byte)  (hF : Within 0x80000 F) :
    Keeps F s0 (distFrame s d kind index payload) := by
  unfold distFrame
  repeat' first
    | with_reducible assumption | with_reducible refine enqueueFw_keeps ?_ _ _ (hF.via rfl)

theorem answerRanges_keeps {F : Nat} {s0 : State} {s : State} (hs : Keeps F s0 s) (d : DistSession) (ranges : List (Nat × Nat))  (hF : Within 0x80000 F) :
    Keeps F s0 (answerRanges s d ranges) := by
  unfold answerRanges
  repeat' first
    | with_reducible assumption | with_reducible intro _ | with_reducible refine distFrame_keeps ?_ _ _ _ _ (hF.via rfl)
    | with_reducible refine foldl_keeps ?_ _ _ ?_ | split

theorem distStatus_keeps {F : Nat} {s0 : State} {s : State} (hs : Keeps F s0 s) (status : Nat) (detail : Nat)  (hF : Within 0x2000000000000000000000000004600 F) :
    Keeps F s0 (distStatus s status detail) := by
  unfold distStatus
  repeat' first
    | with_reducible assumption | with_reducible refine postUnsol_keeps ?_ _ _ _ _ _ (hF.via rfl)

theorem setSess_keeps {F : Nat} {s0 : State} {s : State} (hs : Keeps F s0 s) (i : Nat) (d : DistSession)  (hF : Within 0x4000 F) :
    Keeps F s0 (setSess s i d) := by
  unfold setSess
  repeat' first
    | with_reducible assumption | (intro x; subst x) | lift_lets | with_reducible refine Keeps.mk_ ?_ rfl rfl id id

theorem distComplete_keeps {F : Nat} {s0 : State} {s : State} (hs : Keeps F s0 s) (i : Nat) (d : DistSession)  (hF : Within 0x20000000000000000000000000e460c F) :
    Keeps F s0 (distComplete s i d) := by
  unfold distComplete
  repeat' first
    | with_reducible assumption | with_reducible refine wrBytes_keeps ?_ _ _ (hF.via rfl) | with_reducible refine distStatus_keeps ?_ _ _ (hF.via rfl)
    | with_reducible refine distFrame_keeps ?_ _ _ _ _ (hF.via rfl) | with_reducible refine setSess_keeps ?_ _ _ (hF.via rfl)

theorem execDistAnswerWindowEnd_keeps {F : Nat} {s0 : State} {s : State} (hs : Keeps F s0 s) (session : Fin 64)  (hF : Within 0x4000 F) :
    Kept F s0 (execDistAnswerWindowEnd session s) := by
  unfold execDistAnswerWindowEnd
  repeat' first
    | with_reducible assumption | with_reducible refine Keeps.ite ?_ ?_ | with_reducible refine Kept.next ?_
    | with_reducible refine setSess_keeps ?_ _ _ (hF.via rfl) | split

theorem execDistEnd_keeps {F : Nat} {s0 : State} {s : State} (hs : Keeps F s0 s) (digest : BitVec 128)  (hF : Within 0x4000 F) :
    Kept F s0 (execDistEnd digest s) := by
  unfold execDistEnd
  repeat' first
    | with_reducible assumption | (intro x; subst x) | with_reducible refine Keeps.ite ?_ ?_ | with_reducible refine Kept.next ?_
    | with_reducible refine setSess_keeps ?_ _ _ (hF.via rfl) | lift_lets | split | with_reducible refine Keeps.mk_ ?_ rfl rfl id id

theorem execDistGapTimer_keeps {F : Nat} {s0 : State} {s : State} (hs : Keeps F s0 s) (session : Fin 64)  (hF : Within 0x2000000000000000000000000084700 F) :
    Kept F s0 (execDistGapTimer session s) := by
  unfold execDistGapTimer
  repeat' first
    | with_reducible assumption | with_reducible refine Keeps.ite ?_ ?_ | with_reducible refine Kept.next ?_
    | with_reducible refine distStatus_keeps ?_ _ _ (hF.via rfl) | with_reducible refine setSess_keeps ?_ _ _ (hF.via rfl)
    | with_reducible refine irqCores_keeps ?_ _ _ (hF.via rfl) | with_reducible refine distFrame_keeps ?_ _ _ _ _ (hF.via rfl) | lift_lets | split

theorem execDistHave_keeps {F : Nat} {s0 : State} {s : State} (hs : Keeps F s0 s) (digest : BitVec 128) (peer : Nat)  (hF : Within 0x4000 F) :
    Kept F s0 (execDistHave digest peer s) := by
  unfold execDistHave
  repeat' first
    | with_reducible assumption | with_reducible refine Kept.next ?_ | with_reducible refine setSess_keeps ?_ _ _ (hF.via rfl) | split

theorem execDistJoin_keeps {F : Nat} {s0 : State} {s : State} (hs : Keeps F s0 s) (m : Msg) (session : Fin 64) (digest : BitVec 256) (region : Fin 32) (off : Word) (size : Word)  (hF : Within 0x3000000000000000000000000004700 F) :
    Kept F s0 (execDistJoin m session digest region off size s) := by
  unfold execDistJoin
  repeat' first
    | with_reducible assumption | (intro x; subst x) | with_reducible intro _ | with_reducible refine Keeps.ite ?_ ?_
    | with_reducible refine Kept.next ?_ | with_reducible refine serve_keeps ?_ _ _ _ ?_ (hF.via rfl)
    | with_reducible refine respond_keeps ?_ _ _ _ _ _ (hF.via rfl) | with_reducible refine setSess_keeps ?_ _ _ (hF.via rfl) | lift_lets | split
    | with_reducible refine Keeps.mk_ ?_ rfl rfl id id

theorem execDistLeave_keeps {F : Nat} {s0 : State} {s : State} (hs : Keeps F s0 s) (m : Msg) (session : Fin 64)  (hF : Within 0x3000000000000000000000000004700 F) :
    Kept F s0 (execDistLeave m session s) := by
  unfold execDistLeave
  repeat' first
    | with_reducible assumption | (intro x; subst x) | with_reducible intro _ | with_reducible refine Kept.next ?_
    | with_reducible refine serve_keeps ?_ _ _ _ ?_ (hF.via rfl) | with_reducible refine respond_keeps ?_ _ _ _ _ _ (hF.via rfl) | lift_lets | split
    | with_reducible refine Keeps.mk_ ?_ rfl rfl id id

theorem execDistNack_keeps {F : Nat} {s0 : State} {s : State} (hs : Keeps F s0 s) (digest : BitVec 128) (ranges : List (Nat × Nat))  (hF : Within 0x80000 F) :
    Kept F s0 (execDistNack digest ranges s) := by
  unfold execDistNack
  repeat' first
    | with_reducible assumption | with_reducible refine Keeps.ite ?_ ?_ | with_reducible refine Kept.next ?_
    | with_reducible refine answerRanges_keeps ?_ _ _ (hF.via rfl) | split

theorem execDistReq_keeps {F : Nat} {s0 : State} {s : State} (hs : Keeps F s0 s) (digest : BitVec 128) (ranges : List (Nat × Nat))  (hF : Within 0x80000 F) :
    Kept F s0 (execDistReq digest ranges s) := by
  unfold execDistReq
  repeat' first
    | with_reducible assumption | with_reducible refine Keeps.ite ?_ ?_ | with_reducible refine Kept.next ?_
    | with_reducible refine answerRanges_keeps ?_ _ _ (hF.via rfl) | split

theorem execDistSeg_keeps {F : Nat} {s0 : State} {s : State} (hs : Keeps F s0 s) (digest : BitVec 128) (peer : Nat) (index : Nat) (total : Nat) (data : List Byte)  (hF : Within 0x20000000000000000000000000e460c F) :
    Kept F s0 (execDistSeg digest peer index total data s) := by
  unfold execDistSeg
  repeat' first
    | with_reducible assumption | (intro x; subst x) | with_reducible refine Keeps.ite ?_ ?_ | with_reducible refine Kept.next ?_
    | with_reducible refine setSess_keeps ?_ _ _ (hF.via rfl) | with_reducible refine distComplete_keeps ?_ _ _ (hF.via rfl) | lift_lets | split
    | with_reducible refine Keeps.mk_ ?_ rfl rfl id id

theorem execDistSend_keeps {F : Nat} {s0 : State} {s : State} (hs : Keeps F s0 s) (m : Msg) (session : Fin 64) (region : Fin 32) (off : Word) (len : Word) (rate : Nat) (queue : Fin 8192)  (hF : Within 0x3000000000000000000000000004700 F) :
    Kept F s0 (execDistSend m session region off len rate queue s) := by
  unfold execDistSend
  repeat' first
    | with_reducible assumption | (intro x; clear_value x) | with_reducible intro _ | with_reducible refine Keeps.ite ?_ ?_
    | with_reducible refine Kept.next ?_ | with_reducible refine serve_keeps ?_ _ _ _ ?_ (hF.via rfl)
    | with_reducible refine respond_keeps ?_ _ _ _ _ _ (hF.via rfl) | with_reducible refine setSess_keeps ?_ _ _ (hF.via rfl) | lift_lets | split

theorem execDistSourceSend_keeps {F : Nat} {s0 : State} {s : State} (hs : Keeps F s0 s) (session : Fin 64)  (hF : Within 0x84000 F) :
    Kept F s0 (execDistSourceSend session s) := by
  unfold execDistSourceSend
  repeat' first
    | with_reducible assumption | with_reducible refine Keeps.ite ?_ ?_ | with_reducible refine Kept.next ?_
    | with_reducible refine setSess_keeps ?_ _ _ (hF.via rfl) | with_reducible refine distFrame_keeps ?_ _ _ _ _ (hF.via rfl) | split

theorem execDistStatus_keeps {F : Nat} {s0 : State} {s : State} (hs : Keeps F s0 s) (m : Msg) (session : Fin 64)  (hF : Within 0x3000000000000000000000000004700 F) :
    Kept F s0 (execDistStatus m session s) := by
  unfold execDistStatus
  repeat' first
    | with_reducible assumption | with_reducible intro _ | with_reducible refine Kept.next ?_
    | with_reducible refine serve_keeps ?_ _ _ _ ?_ (hF.via rfl) | with_reducible refine respond_keeps ?_ _ _ _ _ _ (hF.via rfl) | split

theorem takeFrame_keeps {F : Nat} {s0 : State} {s : State} (hs : Keeps F s0 s) (r : Nat) (f : BcastFrame)  (hF : Within 0x4000 F) :
    Keeps F s0 (takeFrame s r f) := by
  unfold takeFrame
  repeat' first
    | with_reducible assumption | (intro x; subst x) | with_reducible refine Keeps.ite ?_ ?_ | lift_lets
    | with_reducible refine Keeps.mk_ ?_ rfl rfl id id

theorem execFabricBroadcastFrame_keeps {F : Nat} {s0 : State} {s : State} (hs : Keeps F s0 s) (receiver : Nat) (frame : BcastFrame)  (hF : Within 0x4000 F) :
    Kept F s0 (execFabricBroadcastFrame receiver frame s) := by
  unfold execFabricBroadcastFrame
  repeat' first
    | with_reducible assumption | with_reducible refine Keeps.ite ?_ ?_ | with_reducible refine Kept.next ?_
    | with_reducible refine takeFrame_keeps ?_ _ _ (hF.via rfl)

theorem execFabricBroadcastRepair_keeps {F : Nat} {s0 : State} {s : State} (hs : Keeps F s0 s) (run : RepairRun)  (hF : Within 0x10000000000000000000000400030a9800000000000000000000084f00 F) :
    Kept F s0 (execFabricBroadcastRepair run s) := by
  unfold execFabricBroadcastRepair
  repeat' first
    | with_reducible assumption | (intro x; refine keeps_cut (F := F) (s0 := s0) x ?_ ?_ <;> [subst x; (clear_value x; intro _)])
    | with_reducible intro _ | with_reducible refine Keeps.ite ?_ ?_ | with_reducible refine Kept.next ?_
    | with_reducible refine takeFrame_keeps ?_ _ _ (hF.via rfl) | with_reducible refine setUpd_keeps ?_ _ _ _ (hF.via rfl)
    | with_reducible refine endUpdate_keeps ?_ _ _ (hF.via rfl) | with_reducible refine foldl_keeps ?_ _ _ ?_ | lift_lets | split

theorem execFwActivate_keeps {F : Nat} {s0 : State} {s : State} (hs : Keeps F s0 s) (m : Msg)  (hF : Within 0x30a0000000000000000000000004700 F) :
    Kept F s0 (execFwActivate m s) := by
  unfold execFwActivate
  repeat' first
    | with_reducible assumption | (intro x; subst x) | with_reducible intro _ | with_reducible refine Keeps.ite ?_ ?_
    | with_reducible refine Kept.next ?_ | with_reducible refine serve_keeps ?_ _ _ _ ?_ (hF.via rfl)
    | with_reducible refine respond_keeps ?_ _ _ _ _ _ (hF.via rfl) | with_reducible refine setUpd_keeps ?_ _ _ _ (hF.via rfl)
    | with_reducible refine wrBit_keeps ?_ _ _ _ (hF.reg rfl) | lift_lets | split | with_reducible refine Keeps.mk_ ?_ rfl rfl id id

theorem execFwQuery_keeps {F : Nat} {s0 : State} {s : State} (hs : Keeps F s0 s) (m : Msg)  (hF : Within 0x3000000000000000000000000004700 F) :
    Kept F s0 (execFwQuery m s) := by
  unfold execFwQuery
  repeat' first
    | with_reducible assumption | with_reducible intro _ | with_reducible refine Kept.next ?_
    | with_reducible refine serve_keeps ?_ _ _ _ ?_ (hF.via rfl) | with_reducible refine respond_keeps ?_ _ _ _ _ _ (hF.via rfl)

theorem execFwStage_keeps {F : Nat} {s0 : State} {s : State} (hs : Keeps F s0 s) (m : Msg) (region : Fin 32) (off : Word) (len : Word)  (hF : Within 0x30a0000000000000000000000004700 F) :
    Kept F s0 (execFwStage m region off len s) := by
  unfold execFwStage
  repeat' first
    | with_reducible assumption | (intro x; refine keeps_cut (F := F) (s0 := s0) x ?_ ?_ <;> [subst x; (clear_value x; intro _)])
    | (intro x; subst x) | with_reducible intro _ | with_reducible refine Keeps.ite ?_ ?_ | with_reducible refine Kept.next ?_
    | with_reducible refine serve_keeps ?_ _ _ _ ?_ (hF.via rfl) | with_reducible refine respond_keeps ?_ _ _ _ _ _ (hF.via rfl)
    | with_reducible refine setUpd_keeps ?_ _ _ _ (hF.via rfl) | with_reducible refine wrBit_keeps ?_ _ _ _ (hF.reg rfl) | lift_lets | split
    | with_reducible refine Keeps.mk_ ?_ rfl rfl id id

theorem execLiveUpdateSwitch_keeps {F : Nat} {s0 : State} {s : State} (hs : Keeps F s0 s) (receiver : Nat)  (hF : Within 0x10000000000000000000000400030f9800000000000000000000084f00 F) :
    Kept F s0 (execLiveUpdateSwitch receiver s) := by
  unfold execLiveUpdateSwitch
  repeat' first
    | with_reducible assumption | with_reducible intro _ | with_reducible refine Keeps.ite ?_ ?_ | with_reducible refine Kept.next ?_
    | with_reducible refine forAll_keeps ?_ _ _ ?_ | with_reducible refine loadReceiver_keeps ?_ _ _ _ (hF.via rfl)
    | with_reducible refine setUpd_keeps ?_ _ _ _ (hF.via rfl) | with_reducible refine irqCores_keeps ?_ _ _ (hF.via rfl)
    | with_reducible refine showComponent_keeps ?_ _ (hF.via rfl) | with_reducible refine recordEvent_keeps ?_ _ _ _ _ _ _ _ (hF.via rfl)
    | with_reducible refine answer_keeps ?_ _ _ _ _ _ _ _ (hF.via rfl) | lift_lets | split | with_reducible refine Keeps.mk_ ?_ rfl rfl id id

theorem execLiveUpdateTimeout_keeps {F : Nat} {s0 : State} {s : State} (hs : Keeps F s0 s) (receiver : Nat)  (hF : Within 0x10000000000000000000000400030a9800000000000000000000084f00 F) :
    Kept F s0 (execLiveUpdateTimeout receiver s) := by
  unfold execLiveUpdateTimeout
  repeat' first
    | with_reducible assumption | with_reducible refine Keeps.ite ?_ ?_ | with_reducible refine Kept.next ?_
    | with_reducible refine endUpdate_keeps ?_ _ _ (hF.via rfl) | split

theorem fillRequest_keeps {F : Nat} {s0 : State} {s : State} (hs : Keeps F s0 s) (m : Msg) (type : Nat)  (hF : Within 0x4000 F) :
    Keeps F s0 (fillRequest s m type) := by
  unfold fillRequest
  repeat' first
    | with_reducible assumption | with_reducible refine Keeps.ite ?_ ?_ | with_reducible refine onBox_keeps ?_ _ _ (hF.via rfl)

theorem mailboxRequest_keeps {F : Nat} {s0 : State} {s : State} (hs : Keeps F s0 s) (m : Msg) (type : Nat)  (hF : Within 0x3800000000000000000000000004700 F) :
    Keeps F s0 (mailboxRequest s m type) := by
  unfold mailboxRequest
  repeat' first
    | with_reducible assumption | with_reducible refine Keeps.ite ?_ ?_ | with_reducible refine enterRequest_keeps ?_ _ _ (hF.via rfl)
    | with_reducible refine fillRequest_keeps ?_ _ _ (hF.via rfl)

theorem execMailboxRequest_keeps {F : Nat} {s0 : State} {s : State} (hs : Keeps F s0 s) (m : Msg) (type : BitVec 16)  (hF : Within 0x3800000000000000000000000004700 F) :
    Kept F s0 (execMailboxRequest m type s) := by
  unfold execMailboxRequest
  repeat' first
    | with_reducible assumption | with_reducible refine Kept.next ?_ | with_reducible refine mailboxRequest_keeps ?_ _ _ (hF.via rfl)

theorem unsupported_keeps {F : Nat} {s0 : State} {s : State} (hs : Keeps F s0 s) (f : Nat) (row : Nat) (posted : Bool)  (hF : Within 0x1000000000000000000000000000000000000000000600 F) :
    Keeps F s0 (unsupported s f row posted) := by
  unfold unsupported
  repeat' first
    | with_reducible assumption | with_reducible refine Keeps.ite ?_ ?_ | with_reducible refine count_keeps ?_ _ _ (hF.reg rfl)
    | with_reducible refine onFn_keeps ?_ _ _ (hF.via rfl) | with_reducible refine emit_keeps ?_ _ (hF.via rfl)

theorem bar2Read_keeps {F : Nat} {s0 : State} {s : State} (hs : Keeps F s0 s) (off : Nat) (n : Nat) (ecc : Ecc)  (hF : Within 0x10008002000010000000000000000000d8000004000000000000178f8c F) :
    Keeps F s0 (bar2Read s off n ecc) := by
  unfold bar2Read
  repeat' first
    | with_reducible assumption | with_reducible refine Keeps.ite ?_ ?_ | with_reducible refine unsupported_keeps ?_ _ _ _ (hF.via rfl)
    | with_reducible refine lpxEcc_keeps ?_ _ _ (hF.via rfl) | with_reducible refine emit_keeps ?_ _ (hF.via rfl)
    | with_reducible refine onFn_keeps ?_ _ _ (hF.via rfl) | split

theorem bar2Write_keeps {F : Nat} {s0 : State} {s : State} (hs : Keeps F s0 s) (off : Nat) (bs : List Byte) (ecc : Ecc)  (hF : Within 0x10008002000010000000000000000000d8000004000000000000178f8c F) :
    Keeps F s0 (bar2Write s off bs ecc) := by
  unfold bar2Write
  repeat' first
    | with_reducible assumption | with_reducible intro _ | with_reducible refine Keeps.ite ?_ ?_
    | with_reducible refine unsupported_keeps ?_ _ _ _ (hF.via rfl) | with_reducible refine lpxEcc_keeps ?_ _ _ (hF.via rfl)
    | with_reducible refine wrBytes_keeps ?_ _ _ (hF.via rfl) | with_reducible refine foldl_keeps ?_ _ _ ?_ | lift_lets | split | dsimp only
    | with_reducible refine Keeps.mk_ ?_ rfl rfl id id

theorem bar2Drain_keeps {F : Nat} {s0 : State} {s : State} (hs : Keeps F s0 s)  (hF : Within 0x10008002000010000000000000000000d8000004000000000000178f8c F) :
    Keeps F s0 (bar2Drain s) := by
  unfold bar2Drain
  repeat' first
    | with_reducible assumption | (intro x; subst x) | with_reducible intro _ | with_reducible refine bar2Read_keeps ?_ _ _ _ (hF.via rfl)
    | with_reducible refine bar2Write_keeps ?_ _ _ _ (hF.via rfl) | with_reducible refine foldl_keeps ?_ _ _ ?_ | lift_lets | split
    | with_reducible refine Keeps.mk_ ?_ rfl rfl id id

theorem drainInvalidations_keeps {F : Nat} {s0 : State} {s : State} (hs : Keeps F s0 s)  (hF : Within 0x8000000000000000000000000000000000000000000600 F) :
    Keeps F s0 (drainInvalidations s) := by
  unfold drainInvalidations
  repeat' first
    | with_reducible assumption | with_reducible intro _ | with_reducible refine endInvalidation_keeps ?_ _ (hF.via rfl)
    | with_reducible refine foldl_keeps ?_ _ _ ?_

theorem execBar2Read_keeps {F : Nat} {s0 : State} {s : State} (hs : Keeps F s0 s) (off : BitVec 34) (len : Nat) (ecc : Ecc)  (hF : Within 0x10008002000010000000000000000000d8000004000000000000178f8c F) :
    Kept F s0 (execBar2Read off len ecc s) := by
  unfold execBar2Read
  repeat' first
    | with_reducible assumption | (intro x; subst x) | with_reducible refine Keeps.ite ?_ ?_ | with_reducible refine Kept.next ?_
    | with_reducible refine bar2Read_keeps ?_ _ _ _ (hF.via rfl) | lift_lets | with_reducible refine Keeps.mk_ ?_ rfl rfl id id

theorem execBar2Write_keeps {F : Nat} {s0 : State} {s : State} (hs : Keeps F s0 s) (off : BitVec 34) (bytes : List Byte) (ecc : Ecc)  (hF : Within 0x10008002000010000000000000000000d8000004000000000000178f8c F) :
    Kept F s0 (execBar2Write off bytes ecc s) := by
  unfold execBar2Write
  repeat' first
    | with_reducible assumption | (intro x; subst x) | with_reducible refine Keeps.ite ?_ ?_ | with_reducible refine Kept.next ?_
    | with_reducible refine bar2Write_keeps ?_ _ _ _ (hF.via rfl) | lift_lets | with_reducible refine Keeps.mk_ ?_ rfl rfl id id

theorem execExpansionRomRead_keeps {F : Nat} {s0 : State} {s : State} (hs : Keeps F s0 s) (off : Nat) (len : Nat)  (hF : Within 0x1000000000000000000000000000000000000000000600 F) :
    Kept F s0 (execExpansionRomRead off len s) := by
  unfold execExpansionRomRead
  repeat' first
    | with_reducible assumption | with_reducible refine Keeps.ite ?_ ?_ | with_reducible refine Kept.next ?_
    | with_reducible refine emit_keeps ?_ _ (hF.via rfl) | with_reducible refine unsupported_keeps ?_ _ _ _ (hF.via rfl) | split

theorem hostError_keeps {F : Nat} {s0 : State} {s : State} (hs : Keeps F s0 s) (q : HostSource)  (hF : Within 0x100280000001440a80088000000300000000000000000000000037cf0c F) :
    Keeps F s0 (hostError s q) := by
  unfold hostError
  repeat' first
    | with_reducible assumption | (intro x; refine keeps_cut (F := F) (s0 := s0) x ?_ ?_ <;> [subst x; (clear_value x; intro _)])
    | with_reducible refine count_keeps ?_ _ _ (hF.reg rfl) | with_reducible refine recordEvent_keeps ?_ _ _ _ _ _ _ _ (hF.via rfl)
    | with_reducible refine dropSource_keeps ?_ _ (hF.via rfl) | with_reducible refine stgEnd_keeps ?_ _ _ _ (hF.via rfl)
    | with_reducible refine dropOp_keeps ?_ _ (hF.via rfl) | with_reducible refine ringFail_keeps ?_ _ (hF.via rfl)
    | with_reducible refine fetchFail_keeps ?_ _ (hF.via rfl) | with_reducible refine feedDrop_keeps ?_ _ _ (hF.via rfl) | lift_lets | split

theorem execHostAccessError_keeps {F : Nat} {s0 : State} {s : State} (hs : Keeps F s0 s) (tag : Option Nat) (src : HostSource)  (hF : Within 0x100280020001c40a8008800000030000080408247e6f003e6b1c37efdc F) :
    Kept F s0 (execHostAccessError tag src s) := by
  unfold execHostAccessError
  repeat' first
    | with_reducible assumption | with_reducible refine Kept.next ?_ | with_reducible refine onFn_keeps ?_ _ _ (hF.via rfl)
    | with_reducible refine feedRelease_keeps ?_ _ (hF.via rfl) | with_reducible refine retryHost_keeps ?_ (hF.via rfl)
    | with_reducible refine hostError_keeps ?_ _ (hF.via rfl) | with_reducible refine drainInvalidations_keeps ?_ (hF.via rfl)
    | with_reducible refine onHost_keeps ?_ _ (hF.via rfl) | split

theorem execInvalidationRequest_keeps {F : Nat} {s0 : State} {s : State} (hs : Keeps F s0 s) (f : Fin 13) (tag : Nat) (page : Nat) (pages : Nat)  (hF : Within 0x8000000000000000000000000000000000000000000600 F) :
    Kept F s0 (execInvalidationRequest f tag page pages s) := by
  unfold execInvalidationRequest
  repeat' first
    | with_reducible assumption | with_reducible refine Keeps.ite ?_ ?_ | with_reducible refine Kept.next ?_
    | with_reducible refine onHost_keeps ?_ _ (hF.via rfl) | with_reducible refine endInvalidation_keeps ?_ _ (hF.via rfl)
    | with_reducible refine drainInvalidations_keeps ?_ (hF.via rfl)

theorem execInvalidationTimeout_keeps {F : Nat} {s0 : State} {s : State} (hs : Keeps F s0 s) (f : Fin 13) (tag : Nat)  (hF : Within 0x100280000001c40a80088000000300000000000000000000000037cf0c F) :
    Kept F s0 (execInvalidationTimeout f tag s) := by
  unfold execInvalidationTimeout
  repeat' first
    | with_reducible assumption | with_reducible intro _ | with_reducible refine Kept.next ?_ | with_reducible refine onHost_keeps ?_ _ (hF.via rfl)
    | with_reducible refine endInvalidation_keeps ?_ _ (hF.via rfl) | with_reducible refine hostError_keeps ?_ _ (hF.via rfl)
    | with_reducible refine foldl_keeps ?_ _ _ ?_ | lift_lets | split

theorem execLinkUp_keeps {F : Nat} {s0 : State} {s : State} (hs : Keeps F s0 s) (rate : Fin 7) (width : Fin 17) (flit : Bool)  (hF : Within 0x80000000000000000000000000000000000000000000 F) :
    Kept F s0 (execLinkUp rate width flit s) := by
  unfold execLinkUp
  repeat' first
    | with_reducible assumption | with_reducible refine Keeps.ite ?_ ?_ | with_reducible refine Kept.next ?_
    | with_reducible refine wr_keeps ?_ _ _ (hF.reg rfl)

theorem execReceivedTlpFault_keeps {F : Nat} {s0 : State} {s : State} (hs : Keeps F s0 s) (f : Fin 13) (row : Fin 9) (posted : Bool)  (hF : Within 0x100280020001f40a8008800000030000080408247e6f003e6b1c37efdc F) :
    Kept F s0 (execReceivedTlpFault f row posted s) := by
  unfold execReceivedTlpFault
  repeat' first
    | with_reducible assumption | with_reducible refine Kept.next ?_ | with_reducible refine onFn_keeps ?_ _ _ (hF.via rfl)
    | with_reducible refine count_keeps ?_ _ _ (hF.reg rfl) | with_reducible refine unsupported_keeps ?_ _ _ _ (hF.via rfl)
    | with_reducible refine emit_keeps ?_ _ (hF.via rfl) | with_reducible refine feedRelease_keeps ?_ _ (hF.via rfl)
    | with_reducible refine retryHost_keeps ?_ (hF.via rfl) | with_reducible refine hostError_keeps ?_ _ (hF.via rfl)
    | with_reducible refine drainInvalidations_keeps ?_ (hF.via rfl) | with_reducible refine onHost_keeps ?_ _ (hF.via rfl) | lift_lets | split

theorem execTranslationCompletion_keeps {F : Nat} {s0 : State} {s : State} (hs : Keeps F s0 s) (f : Fin 13) (page : Nat) (grant : Option (Nat × Nat))  (hF : Within 0x100280020001440a8008800000030000080408247e6f003e6b1c37efdc F) :
    Kept F s0 (execTranslationCompletion f page grant s) := by
  unfold execTranslationCompletion
  repeat' first
    | with_reducible assumption | (intro x; refine keeps_cut (F := F) (s0 := s0) x ?_ ?_ <;> [subst x; (clear_value x; intro _)])
    | (intro x; clear_value x) | with_reducible intro _ | with_reducible refine Keeps.ite ?_ ?_ | with_reducible refine Kept.next ?_
    | with_reducible refine onHost_keeps ?_ _ (hF.via rfl) | with_reducible refine feedRelease_keeps ?_ _ (hF.via rfl)
    | with_reducible refine retryHost_keeps ?_ (hF.via rfl) | with_reducible refine hostError_keeps ?_ _ (hF.via rfl)
    | with_reducible refine foldl_keeps ?_ _ _ ?_ | lift_lets | split

theorem clearDegraded_keeps {F : Nat} {s0 : State} {s : State} (hs : Keeps F s0 s) (t : Nat)  (hF : Within 0x4000000 F) :
    Keeps F s0 (clearDegraded s t) := by
  unfold clearDegraded
  repeat' first
    | with_reducible assumption | with_reducible refine Keeps.ite ?_ ?_ | with_reducible refine wrBit_keeps ?_ _ _ _ (hF.reg rfl)

theorem runLoad_refuse_keeps {F : Nat} {s0 : State} {s : State} (hs : Keeps F s0 s) (w : HuskWait)  (hF : Within 0x3000000000000000000000800004740 F) :
    Keeps F s0 (runLoad.refuse s w) := by
  unfold runLoad.refuse
  repeat' first
    | with_reducible assumption | with_reducible refine answer_keeps ?_ _ _ _ _ _ _ _ (hF.via rfl)
    | with_reducible refine endLoad_keeps ?_ _ (hF.via rfl)

theorem loadSegment_keeps {F : Nat} {s0 : State} {s : State} (hs : Keeps F s0 s) (p : Nat) (src : HuskSource) (h : List Byte) (key : List Byte) (bad : List (Nat × Nat)) (keep : Option Nat) (i : Nat) (ents : List ArrEnt)  (hF : Within 0x100000001000000000000000000000000000000000030000381c00094c F) :
    KeepsFst F s0 (loadSegment s p src h key bad keep i ents) := by
  unfold loadSegment
  repeat' first
    | with_reducible assumption | (intro x; refine keeps_cut (F := F) (s0 := s0) x ?_ ?_ <;> [subst x; (clear_value x; intro _)])
    | (intro x; refine keepsFst_cut (F := F) (s0 := s0) x ?_ ?_ <;> [subst x; (clear_value x; intro _)])
    | with_reducible intro _ | with_reducible refine Keeps.ite ?_ ?_ | with_reducible refine wrBytesQuiet_keeps ?_ _ _ (hF.bit rfl) (hF.bit rfl)
    | with_reducible refine count_keeps ?_ _ _ (hF.reg rfl) | with_reducible refine recordEvent_keeps ?_ _ _ _ _ _ _ _ (hF.via rfl)
    | with_reducible refine writeArray_keeps ?_ _ _ _ _ _ (hF.via rfl) | with_reducible refine foldlFst_keeps ?_ _ _ ?_
    | with_reducible refine KeepsFst.fst ?_ | lift_lets | split | with_reducible refine KeepsFst.of ?_

theorem runLoad_keeps {F : Nat} {s0 : State} {s : State} (hs : Keeps F s0 s) (w : HuskWait)  (hF : Within 0x100000001000000000000000000300000000000000030000381c004fcc F) :
    Keeps F s0 (runLoad s w) := by
  unfold runLoad
  repeat' first
    | with_reducible assumption | (intro x; refine keepsFst_cut (F := F) (s0 := s0) x ?_ ?_ <;> [subst x; (clear_value x; intro _)])
    | (intro x; clear_value x) | with_reducible intro _ | with_reducible refine Keeps.ite ?_ ?_
    | with_reducible refine runLoad_refuse_keeps ?_ _ (hF.via rfl) | with_reducible refine loadSegment_keeps ?_ _ _ _ _ _ _ _ _ (hF.via rfl)
    | with_reducible refine endLoad_keeps ?_ _ (hF.via rfl) | with_reducible refine onPlot_keeps ?_ _ _ (hF.via rfl)
    | with_reducible refine forAll_keeps ?_ _ _ ?_ | with_reducible refine clearDegraded_keeps ?_ _ (hF.via rfl)
    | with_reducible refine answer_keeps ?_ _ _ _ _ _ _ _ (hF.via rfl) | with_reducible refine foldlFst_keeps ?_ _ _ ?_
    | with_reducible refine KeepsFst.fst ?_ | lift_lets | split | with_reducible refine KeepsFst.of ?_

theorem runLoads_keeps {F : Nat} {s0 : State} {s : State} (hs : Keeps F s0 s)  (hF : Within 0x100000001000000000000000000300000000000000030000381c404fcc F) :
    Keeps F s0 (runLoads s) := by
  unfold runLoads
  repeat' first
    | with_reducible assumption | with_reducible intro _ | with_reducible refine runLoad_keeps ?_ _ (hF.via rfl)
    | (with_reducible refine onSec_keeps ?_ _ ?_ ?_ (hF.bit rfl)) <;> [skip; rfl; rfl]
    | with_reducible refine foldl_keeps ?_ _ _ ?_

theorem execGroupAwake_keeps {F : Nat} {s0 : State} {s : State} (hs : Keeps F s0 s) (t : Fin 128) (g : Fin 32) (waited : Nat)  (hF : Within 0x10008002100000000000000000030000080408247e6f003e7b1c57efdc F) :
    Kept F s0 (execGroupAwake t g waited s) := by
  unfold execGroupAwake
  repeat' first
    | with_reducible assumption | with_reducible intro _ | with_reducible refine Kept.ite ?_ ?_ | with_reducible refine Kept.next ?_
    | with_reducible refine wrFld_keeps ?_ _ _ _ _ (hF.reg rfl) | with_reducible refine openWrite_keeps ?_ _ _ (hF.via rfl)
    | with_reducible refine retry_keeps ?_ _ _ (hF.via rfl) | with_reducible refine runLoads_keeps ?_ (hF.via rfl)
    | with_reducible refine foldl_keeps ?_ _ _ ?_

theorem execHuskLoad_keeps {F : Nat} {s0 : State} {s : State} (hs : Keeps F s0 s) (m : Msg) (slot : Fin 256) (src : HuskSource) (imgRegion : Fin 32) (imgOff : Nat) (range : Option (Nat × Nat)) (keep : Option Nat) (bad : List (Nat × Nat))  (hF : Within 0x100000001000000000000000000300000004080000030000381c406fcc F) :
    Kept F s0 (execHuskLoad m slot src imgRegion imgOff range keep bad s) := by
  unfold execHuskLoad
  repeat' first
    | with_reducible assumption | (intro x; clear_value x) | with_reducible intro _ | with_reducible refine Keeps.ite ?_ ?_
    | with_reducible refine Kept.next ?_ | with_reducible refine serve_keeps ?_ _ _ _ ?_ (hF.via rfl)
    | with_reducible refine respond_keeps ?_ _ _ _ _ _ (hF.via rfl) | with_reducible refine onPlot_keeps ?_ _ _ (hF.via rfl)
    | with_reducible refine irqCores_keeps ?_ _ _ (hF.via rfl) | with_reducible refine askWrite_keeps ?_ _ _ (hF.via rfl)
    | with_reducible refine runLoad_keeps ?_ _ (hF.via rfl) | (with_reducible refine onSec_keeps ?_ _ ?_ ?_ (hF.bit rfl)) <;> [skip; rfl; rfl]
    | with_reducible refine foldl_keeps ?_ _ _ ?_ | lift_lets | split

theorem execRepairSegmentRead_keeps {F : Nat} {s0 : State} {s : State} (hs : Keeps F s0 s) (t : Fin 128) (g : Fin 32) (src : HuskSource)  (hF : Within 0x1000000000000000000000000000000000000000000000000000000840 F) :
    Kept F s0 (execRepairSegmentRead t g src s) := by
  unfold execRepairSegmentRead
  repeat' first
    | with_reducible assumption | (intro x; clear_value x) | with_reducible refine Keeps.ite ?_ ?_ | with_reducible refine Kept.next ?_
    | with_reducible refine onTile_keeps ?_ _ _ (hF.via rfl) | with_reducible refine recordEvent_keeps ?_ _ _ _ _ _ _ _ (hF.via rfl) | lift_lets
    | split

theorem alternateEvent_keeps {F : Nat} {s0 : State} {s : State} (hs : Keeps F s0 s) (p : Nat) (t : Nat)  (hF : Within 0x1000000000000000000000000000000000000000000000000000000800 F) :
    Keeps F s0 (alternateEvent s p t) := by
  unfold alternateEvent
  repeat' first
    | with_reducible assumption | with_reducible refine recordEvent_keeps ?_ _ _ _ _ _ _ _ (hF.via rfl)

theorem execFillComplete_keeps {F : Nat} {s0 : State} {s : State} (hs : Keeps F s0 s) (p : Fin 12)  (hF : Within 0x20000000000000000000000008800000000000000000006808c F) :
    Kept F s0 (execFillComplete p s) := by
  unfold execFillComplete
  repeat' first
    | with_reducible assumption | (intro x; subst x) | with_reducible intro _ | with_reducible refine Keeps.ite ?_ ?_
    | with_reducible refine Kept.next ?_ | with_reducible refine wrBytes_keeps ?_ _ _ (hF.via rfl) | with_reducible refine forAll_keeps ?_ _ _ ?_
    | with_reducible refine wr_keeps ?_ _ _ (hF.reg rfl) | with_reducible refine wrBit_keeps ?_ _ _ _ (hF.reg rfl)
    | with_reducible refine onPlot_keeps ?_ _ _ (hF.via rfl) | lift_lets | split | with_reducible refine Keeps.mk_ ?_ rfl rfl id id

theorem execHarrowComplete_keeps {F : Nat} {s0 : State} {s : State} (hs : Keeps F s0 s) (p : Fin 12)  (hF : Within 0x1000000280000000000000000003000408040805fffffffffffe06efd4 F) :
    Kept F s0 (execHarrowComplete p s) := by
  unfold execHarrowComplete
  repeat' first
    | with_reducible assumption | with_reducible refine Keeps.ite ?_ ?_ | with_reducible refine Kept.next ?_
    | with_reducible refine finishHarrow_keeps ?_ _ (hF.via rfl)

theorem execLpxRateChange_keeps {F : Nat} {s0 : State} {s : State} (hs : Keeps F s0 s) (toFull : Bool) (done : Bool)  (hF : Within 0x10008002000010000000000000030000da01000400000000000017ef8c F) :
    Kept F s0 (execLpxRateChange toFull done s) := by
  unfold execLpxRateChange
  repeat' first
    | with_reducible assumption | (intro x; subst x) | with_reducible intro _ | with_reducible refine Keeps.ite ?_ ?_
    | with_reducible refine Kept.next ?_ | with_reducible refine wrBit_keeps ?_ _ _ _ (hF.reg rfl)
    | with_reducible refine bar2Drain_keeps ?_ (hF.via rfl) | with_reducible refine forAll_keeps ?_ _ _ ?_
    | with_reducible refine startWaiting_keeps ?_ _ (hF.via rfl) | lift_lets | with_reducible refine Keeps.mk_ ?_ rfl rfl id id

theorem refuseImage_keeps {F : Nat} {s0 : State} {s : State} (hs : Keeps F s0 s) (m : Msg) (p : Nat) (code : Nat)  (hF : Within 0x1000000000000000000000000003000000000004000000000000004f00 F) :
    Keeps F s0 (refuseImage s m p code) := by
  unfold refuseImage
  repeat' first
    | with_reducible assumption | with_reducible refine wrFld_keeps ?_ _ _ _ _ (hF.reg rfl)
    | with_reducible refine respond_keeps ?_ _ _ _ _ _ (hF.via rfl) | with_reducible refine recordEvent_keeps ?_ _ _ _ _ _ _ _ (hF.via rfl)

theorem execPltCommit_keeps {F : Nat} {s0 : State} {s : State} (hs : Keeps F s0 s) (m : Msg) (region : Fin 32) (off : Nat)  (hF : Within 0x1000000200000000000080400003000000000004001401018406186fc0 F) :
    Kept F s0 (execPltCommit m region off s) := by
  unfold execPltCommit
  repeat' first
    | with_reducible assumption | with_reducible intro _ | with_reducible refine Keeps.ite ?_ ?_ | with_reducible refine Kept.next ?_
    | with_reducible refine serve_keeps ?_ _ _ _ ?_ (hF.via rfl) | with_reducible refine respond_keeps ?_ _ _ _ _ _ (hF.via rfl)
    | with_reducible refine refuseImage_keeps ?_ _ _ _ (hF.via rfl) | with_reducible refine commitImage_keeps ?_ _ _ _ (hF.via rfl)
    | with_reducible refine setPlt_keeps ?_ _ _ (hF.via rfl) | with_reducible refine onPlot_keeps ?_ _ _ (hF.via rfl) | lift_lets | split

theorem execPltDefine_keeps {F : Nat} {s0 : State} {s : State} (hs : Keeps F s0 s) (m : Msg) (d : PlotDef)  (hF : Within 0xa00000002000000400c03000300000004000000000000004700 F) :
    Kept F s0 (execPltDefine m d s) := by
  unfold execPltDefine
  repeat' first
    | with_reducible assumption | with_reducible intro _ | with_reducible refine Keeps.ite ?_ ?_ | with_reducible refine Kept.next ?_
    | with_reducible refine serve_keeps ?_ _ _ _ ?_ (hF.via rfl) | with_reducible refine respond_keeps ?_ _ _ _ _ _ (hF.via rfl)
    | with_reducible refine definePlot_keeps ?_ _ _ (hF.via rfl)

theorem execPltLoad_keeps {F : Nat} {s0 : State} {s : State} (hs : Keeps F s0 s) (m : Msg)  (hF : Within 0x200000000000000000003000000000004000000000000006780 F) :
    Kept F s0 (execPltLoad m s) := by
  unfold execPltLoad
  repeat' first
    | with_reducible assumption | with_reducible intro _ | with_reducible refine Keeps.ite ?_ ?_ | with_reducible refine Kept.next ?_
    | with_reducible refine serve_keeps ?_ _ _ _ ?_ (hF.via rfl) | with_reducible refine respond_keeps ?_ _ _ _ _ _ (hF.via rfl)
    | with_reducible refine riseForNeed_keeps ?_ (hF.via rfl) | with_reducible refine onPlot_keeps ?_ _ _ (hF.via rfl)
    | with_reducible refine setPlt_keeps ?_ _ _ (hF.via rfl)

theorem execPltQuery_keeps {F : Nat} {s0 : State} {s : State} (hs : Keeps F s0 s) (m : Msg)  (hF : Within 0x3000000000000000000000000004700 F) :
    Kept F s0 (execPltQuery m s) := by
  unfold execPltQuery
  repeat' first
    | with_reducible assumption | with_reducible intro _ | with_reducible refine Kept.next ?_
    | with_reducible refine serve_keeps ?_ _ _ _ ?_ (hF.via rfl) | with_reducible refine respond_keeps ?_ _ _ _ _ _ (hF.via rfl)

theorem execPltStart_keeps {F : Nat} {s0 : State} {s : State} (hs : Keeps F s0 s) (m : Msg) (step : DWord)  (hF : Within 0x1000000200000000000000000003000000010004000000000000004f80 F) :
    Kept F s0 (execPltStart m step s) := by
  unfold execPltStart
  repeat' first
    | with_reducible assumption | with_reducible intro _ | with_reducible refine Keeps.ite ?_ ?_ | with_reducible refine Kept.next ?_
    | with_reducible refine serve_keeps ?_ _ _ _ ?_ (hF.via rfl) | with_reducible refine respond_keeps ?_ _ _ _ _ _ (hF.via rfl)
    | with_reducible refine irqCores_keeps ?_ _ _ (hF.via rfl) | with_reducible refine onPlot_keeps ?_ _ _ (hF.via rfl)
    | with_reducible refine admitStart_keeps ?_ _ _ _ _ _ (hF.via rfl)

theorem execPltUndefine_keeps {F : Nat} {s0 : State} {s : State} (hs : Keeps F s0 s) (m : Msg)  (hF : Within 0xa00000002000000400c0300078000000400000000000000c700 F) :
    Kept F s0 (execPltUndefine m s) := by
  unfold execPltUndefine
  repeat' first
    | with_reducible assumption | with_reducible intro _ | with_reducible refine Keeps.ite ?_ ?_ | with_reducible refine Kept.next ?_
    | with_reducible refine serve_keeps ?_ _ _ _ ?_ (hF.via rfl) | with_reducible refine respond_keeps ?_ _ _ _ _ _ (hF.via rfl)
    | with_reducible refine undefinePlot_keeps ?_ _ (hF.via rfl)

theorem execQuarantineRelease_keeps {F : Nat} {s0 : State} {s : State} (hs : Keeps F s0 s) (slot : Nat)  (hF : Within 0x100000 F) :
    Kept F s0 (execQuarantineRelease slot s) := by
  unfold execQuarantineRelease
  repeat' first
    | with_reducible assumption | with_reducible refine Kept.next ?_ | with_reducible refine onRma_keeps ?_ _ (hF.via rfl)

theorem restartAlternate_keeps {F : Nat} {s0 : State} {s : State} (hs : Keeps F s0 s) (p : Nat) (t : Nat) (a : Image)  (hF : Within 0x1000000200000000000080400000000000050806001401018c061829c0 F) :
    Keeps F s0 (restartAlternate s p t a) := by
  unfold restartAlternate
  repeat' first
    | with_reducible assumption | with_reducible intro _ | with_reducible refine Keeps.ite ?_ ?_
    | with_reducible refine onPlot_keeps ?_ _ _ (hF.via rfl) | with_reducible refine setPlt_keeps ?_ _ _ (hF.via rfl)
    | with_reducible refine admitRefused_keeps ?_ _ _ (hF.via rfl) | with_reducible refine wrBit_keeps ?_ _ _ _ (hF.reg rfl)
    | with_reducible refine commitImage_keeps ?_ _ _ _ (hF.via rfl) | with_reducible refine alternateEvent_keeps ?_ _ _ (hF.via rfl)
    | with_reducible refine forAll_keeps ?_ _ _ ?_ | with_reducible refine fallowReq_keeps ?_ _ _ _ (hF.via rfl)

theorem execTileDegradedHold_keeps {F : Nat} {s0 : State} {s : State} (hs : Keeps F s0 s) (t : Fin 128)  (hF : Within 0x1000000200000000000080400000000000050806001401018c06192bc0 F) :
    Kept F s0 (execTileDegradedHold t s) := by
  unfold execTileDegradedHold
  repeat' first
    | with_reducible assumption | with_reducible refine Keeps.ite ?_ ?_ | with_reducible refine Kept.next ?_
    | with_reducible refine alternateEvent_keeps ?_ _ _ (hF.via rfl) | with_reducible refine holdJob_keeps ?_ _ (hF.via rfl)
    | with_reducible refine onPlot_keeps ?_ _ _ (hF.via rfl) | with_reducible refine setPlt_keeps ?_ _ _ (hF.via rfl)
    | with_reducible refine restartAlternate_keeps ?_ _ _ _ (hF.via rfl) | split

theorem alarmErase_keeps {F : Nat} {s0 : State} {s : State} (hs : Keeps F s0 s) (b : Nat)  (hF : Within 0x100e800205a0040aff40000000078004080408247e6f003e6b1c77efdc F) :
    Keeps F s0 (alarmErase s b) := by
  unfold alarmErase
  repeat' first
    | with_reducible assumption | with_reducible refine count_keeps ?_ _ _ (hF.reg rfl) | with_reducible refine wrBit_keeps ?_ _ _ _ (hF.reg rfl)
    | with_reducible refine eraseKeys_keeps ?_ (hF.via rfl) | with_reducible refine irqCores_keeps ?_ _ _ (hF.via rfl)
    | with_reducible refine recordEvent_keeps ?_ _ _ _ _ _ _ _ (hF.via rfl)

theorem alertClose_keeps {F : Nat} {s0 : State} {s : State} (hs : Keeps F s0 s) (k : Nat)  (hF : Within 0x7800000000000000000000000404200 F) :
    Keeps F s0 (alertClose s k) := by
  unfold alertClose
  repeat' first
    | with_reducible assumption | with_reducible refine closeSession_keeps ?_ _ (hF.via rfl) | with_reducible refine emit_keeps ?_ _ (hF.via rfl)

theorem blow_keeps {F : Nat} {s0 : State} {s : State} (hs : Keeps F s0 s) (k : Nat) (w : Word) (hF : Within 0x400000 F) :
    Keeps F s0 (blow s k w) := by
  refine hs.trans ⟨rfl, fun c => ⟨c.mem, c.regs, c.tiles, c.plots, c.cores, c.ckp⟩, le_refl _, fun j => ?_, le_refl _, fun _ => .inr rfl,
    .refl _, .refl _, .refl _, .refl _, .refl _, .refl _, .refl _, .refl _, .refl _, .refl _, .refl _, .refl _, .refl _, .refl _, .refl _, .refl _, .refl _, .refl _, .refl _, .refl _, .inl (hF.bit rfl), .refl _⟩
  simp only [fuse, blow, onSec, mapGet_mapSet]
  split
  · rename_i h
    subst h
    ext i
    simp only [BitVec.getElem_and, BitVec.getElem_or]
    cases (mapGet 0 s.sec.fuses k)[i] <;> rfl
  · exact BitVec.and_self

theorem blowCheck_keeps {F : Nat} {s0 : State} {s : State} (hs : Keeps F s0 s) (k : Nat) (d : List Byte)  (hF : Within 0x400000 F) :
    Keeps F s0 (blowCheck s k d) := by
  unfold blowCheck
  repeat' first
    | with_reducible assumption | with_reducible refine blow_keeps ?_ _ _ (hF.via rfl)

theorem blowDigest_keeps {F : Nat} {s0 : State} {s : State} (hs : Keeps F s0 s) (k : Nat) (d : List Byte)  (hF : Within 0x400000 F) :
    Keeps F s0 (blowDigest s k d) := by
  unfold blowDigest
  repeat' first
    | with_reducible assumption | with_reducible intro _ | with_reducible refine forAll_keeps ?_ _ _ ?_
    | with_reducible refine blow_keeps ?_ _ _ (hF.via rfl)

theorem bufWrite_keeps {F : Nat} {s0 : State} {s : State} (hs : Keeps F s0 s) (b : SecBuf) (bs : List Byte)  (hF : Within 0x46000c F) :
    Keeps F s0 (bufWrite s b bs) := by
  unfold bufWrite
  repeat' first
    | with_reducible assumption | with_reducible refine wrBytes_keeps ?_ _ _ (hF.via rfl)
    | (with_reducible refine onSec_keeps ?_ _ ?_ ?_ (hF.bit rfl)) <;> [skip; rfl; rfl]
    | split

theorem dualMismatch_keeps {F : Nat} {s0 : State} {s : State} (hs : Keeps F s0 s)  (hF : Within 0x1000000008000000000000000000000000000000000000000000000800 F) :
    Keeps F s0 (dualMismatch s) := by
  unfold dualMismatch
  repeat' first
    | with_reducible assumption | with_reducible refine count_keeps ?_ _ _ (hF.reg rfl)
    | with_reducible refine recordEvent_keeps ?_ _ _ _ _ _ _ _ (hF.via rfl)

theorem dualRun_keeps {F : Nat} {s0 : State} {s : State} (hs : Keeps F s0 s) (n : Nat) (run : State → State) (refused : State → State) (krun : ∀ a0, Keeps F s0 a0 → Keeps F s0 (run a0)) (krefused : ∀ a0, Keeps F s0 a0 → Keeps F s0 (refused a0)) (hF : Within 0x100e80020da0040aff40000000078004080408247e6f003e6b1c77efdc F) :
    Keeps F s0 (dualRun s n run refused) := by
  unfold dualRun
  repeat' first
    | with_reducible assumption | with_reducible apply krun | with_reducible apply krefused | with_reducible refine Keeps.ite ?_ ?_
    | with_reducible refine dualMismatch_keeps ?_ (hF.via rfl) | with_reducible refine alarmErase_keeps ?_ _ (hF.via rfl)

theorem execAlarmRecovery_keeps {F : Nat} {s0 : State} {s : State} (hs : Keeps F s0 s)  (hF : Within 0x1e00000000000000000000000000000000000000000400010 F) :
    Kept F s0 (execAlarmRecovery s) := by
  unfold execAlarmRecovery
  repeat' first
    | with_reducible assumption | with_reducible refine Keeps.ite ?_ ?_ | with_reducible refine Kept.next ?_
    | with_reducible refine startEpoch_keeps ?_ (hF.via rfl) | (with_reducible refine onSec_keeps ?_ _ ?_ ?_ (hF.bit rfl)) <;> [skip; rfl; rfl]
    | with_reducible refine wrBit_keeps ?_ _ _ _ (hF.reg rfl)

theorem produceReport_keeps {F : Nat} {s0 : State} {s : State} (hs : Keeps F s0 s) (r : ReportReq)  (hF : Within 0xa0000000000000000300000000000000000000000046470c F) :
    Keeps F s0 (produceReport s r) := by
  unfold produceReport
  repeat' first
    | with_reducible assumption | with_reducible refine Keeps.ite ?_ ?_ | with_reducible refine wrBit_keeps ?_ _ _ _ (hF.reg rfl)
    | (with_reducible refine onSec_keeps ?_ _ ?_ ?_ (hF.bit rfl)) <;> [skip; rfl; rfl]
    | with_reducible refine answer_keeps ?_ _ _ _ _ _ _ _ (hF.via rfl) | with_reducible refine wr_keeps ?_ _ _ (hF.reg rfl)
    | with_reducible refine irqCores_keeps ?_ _ _ (hF.via rfl) | with_reducible refine bufWrite_keeps ?_ _ _ (hF.via rfl) | lift_lets | split

theorem execBottomTreeReady_keeps {F : Nat} {s0 : State} {s : State} (hs : Keeps F s0 s)  (hF : Within 0xa0000000000000000300000000000000000000000046470c F) :
    Kept F s0 (execBottomTreeReady s) := by
  unfold execBottomTreeReady
  repeat' first
    | with_reducible assumption | with_reducible intro _ | with_reducible refine Keeps.ite ?_ ?_ | with_reducible refine Kept.next ?_
    | with_reducible refine wr_keeps ?_ _ _ (hF.reg rfl) | with_reducible refine wrBit_keeps ?_ _ _ _ (hF.reg rfl)
    | with_reducible refine produceReport_keeps ?_ _ (hF.via rfl) | (with_reducible refine onSec_keeps ?_ _ ?_ ?_ (hF.bit rfl)) <;> [skip; rfl; rfl]
    | with_reducible refine foldl_keeps ?_ _ _ ?_

theorem execDbgChallenge_keeps {F : Nat} {s0 : State} {s : State} (hs : Keeps F s0 s) (m : Msg)  (hF : Within 0x3000000000000000000000000404700 F) :
    Kept F s0 (execDbgChallenge m s) := by
  unfold execDbgChallenge
  repeat' first
    | with_reducible assumption | with_reducible intro _ | with_reducible refine Keeps.ite ?_ ?_ | with_reducible refine Kept.next ?_
    | with_reducible refine serve_keeps ?_ _ _ _ ?_ (hF.via rfl) | with_reducible refine respond_keeps ?_ _ _ _ _ _ (hF.via rfl)
    | (with_reducible refine onSec_keeps ?_ _ ?_ ?_ (hF.bit rfl)) <;> [skip; rfl; rfl]

theorem execDbgCoreHalt_keeps {F : Nat} {s0 : State} {s : State} (hs : Keeps F s0 s) (m : Msg) (c : Fin 24)  (hF : Within 0x10000000000000000000000400030a9800000000000000000000084f00 F) :
    Kept F s0 (execDbgCoreHalt m c s) := by
  unfold execDbgCoreHalt
  repeat' first
    | with_reducible assumption | with_reducible intro _ | with_reducible refine Keeps.ite ?_ ?_ | with_reducible refine Kept.next ?_
    | with_reducible refine serve_keeps ?_ _ _ _ ?_ (hF.via rfl) | with_reducible refine respond_keeps ?_ _ _ _ _ _ (hF.via rfl)
    | with_reducible refine haltCore_keeps ?_ _ _ (hF.via rfl)

theorem execDbgCoreRelease_keeps {F : Nat} {s0 : State} {s : State} (hs : Keeps F s0 s) (m : Msg) (c : Fin 24)  (hF : Within 0x3000800000000000000000000004700 F) :
    Kept F s0 (execDbgCoreRelease m c s) := by
  unfold execDbgCoreRelease
  repeat' first
    | with_reducible assumption | with_reducible intro _ | with_reducible refine Keeps.ite ?_ ?_ | with_reducible refine Kept.next ?_
    | with_reducible refine serve_keeps ?_ _ _ _ ?_ (hF.via rfl) | with_reducible refine respond_keeps ?_ _ _ _ _ _ (hF.via rfl)
    | with_reducible refine setNvState_keeps ?_ _ _ (hF.via rfl)

theorem execDbgNonceExpiry_keeps {F : Nat} {s0 : State} {s : State} (hs : Keeps F s0 s)  (hF : Within 0x400000 F) :
    Kept F s0 (execDbgNonceExpiry s) := by
  unfold execDbgNonceExpiry
  repeat' first
    | with_reducible assumption | with_reducible refine Kept.next ?_
    | (with_reducible refine onSec_keeps ?_ _ ?_ ?_ (hF.bit rfl)) <;> [skip; rfl; rfl]

theorem execDbgUnlock_keeps {F : Nat} {s0 : State} {s : State} (hs : Keeps F s0 s) (m : Msg) (token : List Byte)  (hF : Within 0x2000000000000000003000000000000000000000000404700 F) :
    Kept F s0 (execDbgUnlock m token s) := by
  unfold execDbgUnlock
  repeat' first
    | with_reducible assumption | with_reducible intro _ | with_reducible refine Keeps.ite ?_ ?_ | with_reducible refine Kept.next ?_
    | with_reducible refine serve_keeps ?_ _ _ _ ?_ (hF.via rfl) | with_reducible refine respond_keeps ?_ _ _ _ _ _ (hF.via rfl)
    | with_reducible refine wr_keeps ?_ _ _ (hF.reg rfl) | (with_reducible refine onSec_keeps ?_ _ ?_ ?_ (hF.bit rfl)) <;> [skip; rfl; rfl]

theorem fuseOp_keeps {F : Nat} {s0 : State} {s : State} (hs : Keeps F s0 s) (m : Msg) (op : Nat) (v : Nat) (block : List Byte) (supply : Bool) (accepted : Bool) (f : State → State) (kf : ∀ a0, Keeps F s0 a0 → Keeps F s0 (f a0)) (hF : Within 0x3000000000000000000000000004700 F) :
    Keeps F s0 (fuseOp s m op v block supply accepted f) := by
  unfold fuseOp
  repeat' first
    | with_reducible assumption | with_reducible intro _ | with_reducible apply kf | with_reducible refine Keeps.ite ?_ ?_
    | with_reducible refine serve_keeps ?_ _ _ _ ?_ (hF.via rfl) | with_reducible refine respond_keeps ?_ _ _ _ _ _ (hF.via rfl)
    | with_reducible refine irqCores_keeps ?_ _ _ (hF.via rfl)

theorem execFuseClass_keeps {F : Nat} {s0 : State} {s : State} (hs : Keeps F s0 s) (m : Msg) (v : BitVec 4) (block : List Byte) (supply : Bool)  (hF : Within 0x3000000000000000000000000404700 F) :
    Kept F s0 (execFuseClass m v block supply s) := by
  unfold execFuseClass
  repeat' first
    | with_reducible assumption | with_reducible intro _ | with_reducible refine Kept.next ?_
    | with_reducible refine fuseOp_keeps ?_ _ _ _ _ _ _ _ ?_ (hF.via rfl) | with_reducible refine blow_keeps ?_ _ _ (hF.via rfl)

theorem execFuseCompactOff_keeps {F : Nat} {s0 : State} {s : State} (hs : Keeps F s0 s) (m : Msg) (block : List Byte) (supply : Bool)  (hF : Within 0x3000000000000000000000000404700 F) :
    Kept F s0 (execFuseCompactOff m block supply s) := by
  unfold execFuseCompactOff
  repeat' first
    | with_reducible assumption | with_reducible intro _ | with_reducible refine Kept.next ?_
    | with_reducible refine fuseOp_keeps ?_ _ _ _ _ _ _ _ ?_ (hF.via rfl) | with_reducible refine blow_keeps ?_ _ _ (hF.via rfl)

theorem execFuseDbgowner_keeps {F : Nat} {s0 : State} {s : State} (hs : Keeps F s0 s) (m : Msg) (block : List Byte) (supply : Bool)  (hF : Within 0x3000000000000000000000000404700 F) :
    Kept F s0 (execFuseDbgowner m block supply s) := by
  unfold execFuseDbgowner
  repeat' first
    | with_reducible assumption | with_reducible intro _ | with_reducible refine Kept.next ?_
    | with_reducible refine fuseOp_keeps ?_ _ _ _ _ _ _ _ ?_ (hF.via rfl) | with_reducible refine blow_keeps ?_ _ _ (hF.via rfl)

theorem execFuseFloor_keeps {F : Nat} {s0 : State} {s : State} (hs : Keeps F s0 s) (m : Msg) (v : Nat) (block : List Byte) (supply : Bool)  (hF : Within 0x3000000000000000000000000404700 F) :
    Kept F s0 (execFuseFloor m v block supply s) := by
  unfold execFuseFloor
  repeat' first
    | with_reducible assumption | with_reducible intro _ | with_reducible refine Kept.next ?_
    | with_reducible refine fuseOp_keeps ?_ _ _ _ _ _ _ _ ?_ (hF.via rfl) | with_reducible refine blow_keeps ?_ _ _ (hF.via rfl)

theorem execFusePermlock_keeps {F : Nat} {s0 : State} {s : State} (hs : Keeps F s0 s) (m : Msg) (block : List Byte) (supply : Bool)  (hF : Within 0x3000000000000000000000000404700 F) :
    Kept F s0 (execFusePermlock m block supply s) := by
  unfold execFusePermlock
  repeat' first
    | with_reducible assumption | with_reducible intro _ | with_reducible refine Kept.next ?_
    | with_reducible refine fuseOp_keeps ?_ _ _ _ _ _ _ _ ?_ (hF.via rfl) | with_reducible refine blow_keeps ?_ _ _ (hF.via rfl)

theorem mgmtConnect_keeps {F : Nat} {s0 : State} {s : State} (hs : Keeps F s0 s) (hit : Bool) (port : Nat)  (hF : Within 0x200 F) :
    Keeps F s0 (mgmtConnect s hit port) := by
  unfold mgmtConnect
  repeat' first
    | with_reducible assumption | with_reducible refine Keeps.ite ?_ ?_ | with_reducible refine emit_keeps ?_ _ (hF.via rfl)

theorem execManagementPortFrame_keeps {F : Nat} {s0 : State} {s : State} (hs : Keeps F s0 s) (f : MgmtFrame)  (hF : Within 0x200 F) :
    Kept F s0 (execManagementPortFrame f s) := by
  unfold execManagementPortFrame
  repeat' first
    | with_reducible assumption | with_reducible refine Keeps.ite ?_ ?_ | with_reducible refine Kept.next ?_
    | with_reducible refine emit_keeps ?_ _ (hF.via rfl) | with_reducible refine mgmtConnect_keeps ?_ _ _ (hF.via rfl) | lift_lets | split

theorem execMgmtRecord_keeps {F : Nat} {s0 : State} {s : State} (hs : Keeps F s0 s) (k : Fin 2) (r : MgmtRecord)  (hF : Within 0x7800000000000000000000000404700 F) :
    Kept F s0 (execMgmtRecord k r s) := by
  unfold execMgmtRecord
  repeat' first
    | with_reducible assumption | (intro x; refine keeps_cut (F := F) (s0 := s0) x ?_ ?_ <;> [subst x; (clear_value x; intro _)])
    | (intro x; clear_value x) | with_reducible refine Keeps.ite ?_ ?_ | with_reducible refine Kept.next ?_
    | with_reducible refine irqCores_keeps ?_ _ _ (hF.via rfl) | with_reducible refine alertClose_keeps ?_ _ (hF.via rfl)
    | with_reducible refine emit_keeps ?_ _ (hF.via rfl) | (with_reducible refine onSec_keeps ?_ _ ?_ ?_ (hF.bit rfl)) <;> [skip; rfl; rfl]
    | with_reducible refine mailboxRequest_keeps ?_ _ _ (hF.via rfl) | with_reducible refine closeSession_keeps ?_ _ (hF.via rfl) | lift_lets | split

theorem execMgmtSessionTimeout_keeps {F : Nat} {s0 : State} {s : State} (hs : Keeps F s0 s) (k : Fin 2)  (hF : Within 0x7800000000000000000000000404200 F) :
    Kept F s0 (execMgmtSessionTimeout k s) := by
  unfold execMgmtSessionTimeout
  repeat' first
    | with_reducible assumption | with_reducible refine Keeps.ite ?_ ?_ | with_reducible refine Kept.next ?_
    | with_reducible refine alertClose_keeps ?_ _ (hF.via rfl)

theorem execSecKeydrop_keeps {F : Nat} {s0 : State} {s : State} (hs : Keeps F s0 s) (m : Msg) (slot : Fin 256)  (hF : Within 0x100080000020000000000000000300000000000000000000000047cf0c F) :
    Kept F s0 (execSecKeydrop m slot s) := by
  unfold execSecKeydrop
  repeat' first
    | with_reducible assumption | with_reducible intro _ | with_reducible refine Keeps.ite ?_ ?_ | with_reducible refine Kept.next ?_
    | with_reducible refine serve_keeps ?_ _ _ _ ?_ (hF.via rfl) | with_reducible refine respond_keeps ?_ _ _ _ _ _ (hF.via rfl)
    | with_reducible refine showSlots_keeps ?_ (hF.via rfl) | (with_reducible refine onSec_keeps ?_ _ ?_ ?_ (hF.bit rfl)) <;> [skip; rfl; rfl]
    | with_reducible refine forAll_keeps ?_ _ _ ?_ | with_reducible refine ckpFail_keeps ?_ _ _ (hF.via rfl)

theorem refuseKey_keeps {F : Nat} {s0 : State} {s : State} (hs : Keeps F s0 s) (m : Msg) (detail : Nat)  (hF : Within 0x20000000000000000003000000000000000000000000004700 F) :
    Keeps F s0 (refuseKey s m detail) := by
  unfold refuseKey
  repeat' first
    | with_reducible assumption | with_reducible refine respond_keeps ?_ _ _ _ _ _ (hF.via rfl)
    | with_reducible refine count_keeps ?_ _ _ (hF.reg rfl)

theorem fillSlot_keeps {F : Nat} {s0 : State} {s : State} (hs : Keeps F s0 s) (n : Nat) (k : KeySlot) (release : Bool)  (hF : Within 0x200000000000000000000000000000000000000000400000 F) :
    Keeps F s0 (fillSlot s n k release) := by
  unfold fillSlot
  repeat' first
    | with_reducible assumption | with_reducible refine Keeps.ite ?_ ?_ | with_reducible refine showSlots_keeps ?_ (hF.via rfl)
    | (with_reducible refine onSec_keeps ?_ _ ?_ ?_ (hF.bit rfl)) <;> [skip; rfl; rfl]
    | with_reducible refine wrFld_keeps ?_ _ _ _ _ (hF.reg rfl)

theorem loadBlob_keeps {F : Nat} {s0 : State} {s : State} (hs : Keeps F s0 s) (m : Msg) (bs : List Byte)  (hF : Within 0x20200000000000000003000000000000000000000000404700 F) :
    Keeps F s0 (loadBlob s m bs) := by
  unfold loadBlob
  repeat' first
    | with_reducible assumption | with_reducible refine Keeps.ite ?_ ?_ | with_reducible refine refuseKey_keeps ?_ _ _ (hF.via rfl)
    | with_reducible refine respond_keeps ?_ _ _ _ _ _ (hF.via rfl) | with_reducible refine irqCores_keeps ?_ _ _ (hF.via rfl)
    | with_reducible refine fillSlot_keeps ?_ _ _ _ (hF.via rfl) | lift_lets | split | dsimp only

theorem loadRelease_keeps {F : Nat} {s0 : State} {s : State} (hs : Keeps F s0 s) (m : Msg) (bs : List Byte) (owner : Nat) (mask : Nat)  (hF : Within 0x20200000000000000003000000000000000000000000404700 F) :
    Keeps F s0 (loadRelease s m bs owner mask) := by
  unfold loadRelease
  repeat' first
    | with_reducible assumption | (intro x; clear_value x) | with_reducible refine Keeps.ite ?_ ?_
    | with_reducible refine refuseKey_keeps ?_ _ _ (hF.via rfl) | with_reducible refine respond_keeps ?_ _ _ _ _ _ (hF.via rfl)
    | with_reducible refine irqCores_keeps ?_ _ _ (hF.via rfl) | with_reducible refine fillSlot_keeps ?_ _ _ _ (hF.via rfl) | lift_lets | split

theorem execSecKeyload_keeps {F : Nat} {s0 : State} {s : State} (hs : Keeps F s0 s) (m : Msg) (buf : SecBuf) (owner : Fin 13) (mask : BitVec 12) (dual : Fin 3)  (hF : Within 0x100e80022da0040aff40000000078004080408247e6f003e6b1c77efdc F) :
    Kept F s0 (execSecKeyload m buf owner mask dual s) := by
  unfold execSecKeyload
  repeat' first
    | with_reducible assumption | with_reducible intro _ | with_reducible refine Keeps.ite ?_ ?_ | with_reducible refine Kept.next ?_
    | with_reducible refine serve_keeps ?_ _ _ _ ?_ (hF.via rfl) | with_reducible refine respond_keeps ?_ _ _ _ _ _ (hF.via rfl)
    | with_reducible refine dualRun_keeps ?_ _ _ _ ?_ ?_ (hF.via rfl) | with_reducible refine loadBlob_keeps ?_ _ _ (hF.via rfl)
    | with_reducible refine refuseKey_keeps ?_ _ _ (hF.via rfl) | with_reducible refine loadRelease_keeps ?_ _ _ _ _ (hF.via rfl) | split

theorem execSecKeystore_keeps {F : Nat} {s0 : State} {s : State} (hs : Keeps F s0 s) (m : Msg) (slot : Fin 256) (dual : Fin 3)  (hF : Within 0x100e80020da0040aff40000000078004080408247e6f003e6b1c77efdc F) :
    Kept F s0 (execSecKeystore m slot dual s) := by
  unfold execSecKeystore
  repeat' first
    | with_reducible assumption | with_reducible intro _ | with_reducible refine Keeps.ite ?_ ?_ | with_reducible refine Kept.next ?_
    | with_reducible refine serve_keeps ?_ _ _ _ ?_ (hF.via rfl) | with_reducible refine respond_keeps ?_ _ _ _ _ _ (hF.via rfl)
    | with_reducible refine dualRun_keeps ?_ _ _ _ ?_ ?_ (hF.via rfl) | with_reducible refine irqCores_keeps ?_ _ _ (hF.via rfl) | lift_lets | split

theorem execSecNewepoch_keeps {F : Nat} {s0 : State} {s : State} (hs : Keeps F s0 s) (m : Msg)  (hF : Within 0x100e800202e0040aff4000040007879c080408267e6f003e6b1c7fefdc F) :
    Kept F s0 (execSecNewepoch m s) := by
  unfold execSecNewepoch
  repeat' first
    | with_reducible assumption | with_reducible intro _ | with_reducible refine Kept.next ?_
    | with_reducible refine serve_keeps ?_ _ _ _ ?_ (hF.via rfl) | with_reducible refine respond_keeps ?_ _ _ _ _ _ (hF.via rfl)
    | (with_reducible refine onSec_keeps ?_ _ ?_ ?_ (hF.bit rfl)) <;> [skip; rfl; rfl]
    | with_reducible refine startEpoch_keeps ?_ (hF.via rfl) | with_reducible refine reloadCores_keeps ?_ _ (hF.via rfl)
    | with_reducible refine resetSecurity_keeps ?_ (hF.via rfl)

theorem execSecProvision_keeps {F : Nat} {s0 : State} {s : State} (hs : Keeps F s0 s) (m : Msg) (key : List Byte) (model : BitVec 256) (config : Word) (sig : List Byte) (supply : Bool)  (hF : Within 0x3000000000000000000000000404700 F) :
    Kept F s0 (execSecProvision m key model config sig supply s) := by
  unfold execSecProvision
  repeat' first
    | with_reducible assumption | with_reducible intro _ | with_reducible refine Keeps.ite ?_ ?_ | with_reducible refine Kept.next ?_
    | with_reducible refine serve_keeps ?_ _ _ _ ?_ (hF.via rfl) | with_reducible refine respond_keeps ?_ _ _ _ _ _ (hF.via rfl)
    | with_reducible refine irqCores_keeps ?_ _ _ (hF.via rfl) | with_reducible refine blowCheck_keeps ?_ _ _ (hF.via rfl)
    | with_reducible refine blow_keeps ?_ _ _ (hF.via rfl) | with_reducible refine blowDigest_keeps ?_ _ _ (hF.via rfl)

theorem execSecReport_keeps {F : Nat} {s0 : State} {s : State} (hs : Keeps F s0 s) (m : Msg) (full : Bool) (nonce : BitVec 256) (buf : SecBuf) (dual : Fin 3)  (hF : Within 0x100e80020da0040aff40000000078004080408247e6f003e6b1c77efdc F) :
    Kept F s0 (execSecReport m full nonce buf dual s) := by
  unfold execSecReport
  repeat' first
    | with_reducible assumption | with_reducible intro _ | with_reducible refine Keeps.ite ?_ ?_ | with_reducible refine Kept.next ?_
    | with_reducible refine serve_keeps ?_ _ _ _ ?_ (hF.via rfl) | with_reducible refine respond_keeps ?_ _ _ _ _ _ (hF.via rfl)
    | (with_reducible refine onSec_keeps ?_ _ ?_ ?_ (hF.bit rfl)) <;> [skip; rfl; rfl]
    | with_reducible refine dualRun_keeps ?_ _ _ _ ?_ ?_ (hF.via rfl) | with_reducible refine produceReport_keeps ?_ _ (hF.via rfl)

theorem execSecXfer_keeps {F : Nat} {s0 : State} {s : State} (hs : Keeps F s0 s) (m : Msg) (off : BitVec 16) (len : Nat) (data : Option (List Byte))  (hF : Within 0x300000000000000000000000046470c F) :
    Kept F s0 (execSecXfer m off len data s) := by
  unfold execSecXfer
  repeat' first
    | with_reducible assumption | with_reducible intro _ | with_reducible refine Keeps.ite ?_ ?_ | with_reducible refine Kept.next ?_
    | with_reducible refine serve_keeps ?_ _ _ _ ?_ (hF.via rfl) | with_reducible refine respond_keeps ?_ _ _ _ _ _ (hF.via rfl)
    | with_reducible refine bufWrite_keeps ?_ _ _ (hF.via rfl) | lift_lets | split

theorem execSecurityAlarm_keeps {F : Nat} {s0 : State} {s : State} (hs : Keeps F s0 s) (kind : Fin 5) (lasts : Bool)  (hF : Within 0x100e800205a0040aff40000000078004080408247e6f003e6b1c77efdc F) :
    Kept F s0 (execSecurityAlarm kind lasts s) := by
  unfold execSecurityAlarm
  repeat' first
    | with_reducible assumption | with_reducible refine Keeps.ite ?_ ?_ | with_reducible refine Kept.next ?_
    | with_reducible refine alarmErase_keeps ?_ _ (hF.via rfl) | with_reducible refine wrBit_keeps ?_ _ _ _ (hF.reg rfl)

theorem onSub_keeps {F : Nat} {s0 : State} {s : State} (hs : Keeps F s0 s) (k : Nat) (x : Subscription)  (hF : Within 0x1000 F) :
    Keeps F s0 (onSub s k x) := by
  unfold onSub
  repeat' first
    | with_reducible assumption | (intro x; subst x) | lift_lets | with_reducible refine Keeps.mk_ ?_ rfl rfl id id

theorem telSend_keeps {F : Nat} {s0 : State} {s : State} (hs : Keeps F s0 s) (x : Subscription)  (hF : Within 0x200000000000000000000000006460c F) :
    Keeps F s0 (telSend s x) := by
  unfold telSend
  repeat' first
    | with_reducible assumption | (intro x; clear_value x) | with_reducible intro _ | with_reducible refine Keeps.ite ?_ ?_
    | with_reducible refine postUnsol_keeps ?_ _ _ _ _ _ (hF.via rfl) | with_reducible refine wrBytes_keeps ?_ _ _ (hF.via rfl)
    | with_reducible refine foldl_keeps ?_ _ _ ?_ | lift_lets | split

theorem execTelExport_keeps {F : Nat} {s0 : State} {s : State} (hs : Keeps F s0 s) (sub : Fin 4) (done : Bool)  (hF : Within 0x200000000000000000000000000200000000000000000000000006560c F) :
    Kept F s0 (execTelExport sub done s) := by
  unfold execTelExport
  repeat' first
    | with_reducible assumption | with_reducible refine Keeps.ite ?_ ?_ | with_reducible refine Kept.next ?_
    | with_reducible refine onSub_keeps ?_ _ _ (hF.via rfl) | with_reducible refine telSend_keeps ?_ _ (hF.via rfl)
    | with_reducible refine telSnap_keeps ?_ _ (hF.via rfl) | lift_lets | split

theorem execTelSnap_keeps {F : Nat} {s0 : State} {s : State} (hs : Keeps F s0 s) (groups : Byte)  (hF : Within 0x2000000000000000000000000000000000000000000000000000001000 F) :
    Kept F s0 (execTelSnap groups s) := by
  unfold execTelSnap
  repeat' first
    | with_reducible assumption | with_reducible refine Kept.next ?_ | with_reducible refine telSnap_keeps ?_ _ (hF.via rfl)

theorem execTelSubscribe_keeps {F : Nat} {s0 : State} {s : State} (hs : Keeps F s0 s) (m : Msg) (period : Nat) (groups : Byte) (ring : Option (Fin 32 × Word)) (slots : Nat) (size : Nat)  (hF : Within 0x3000000000000000000000000005700 F) :
    Kept F s0 (execTelSubscribe m period groups ring slots size s) := by
  unfold execTelSubscribe
  repeat' first
    | with_reducible assumption | (intro x; subst x) | with_reducible intro _ | with_reducible refine Keeps.ite ?_ ?_
    | with_reducible refine Kept.next ?_ | with_reducible refine serve_keeps ?_ _ _ _ ?_ (hF.via rfl)
    | with_reducible refine respond_keeps ?_ _ _ _ _ _ (hF.via rfl) | lift_lets | with_reducible refine Keeps.mk_ ?_ rfl rfl id id

end Sys2Proof.Machine
end

