-- ==== Sys2Proof/Laws/KeepsNet.lean ====
section
/-! SUPPORT. What Keeps says of the commands of the network, remote memory and storage, and of what rests on
them: one lemma an operation. -/
set_option Elab.async false
namespace Sys2Proof.Machine

theorem releaseCtx_keeps {F : Nat} {s0 : State} {s : State} (hs : Keeps F s0 s) (cid : Nat)  (hF : Within 0x100000 F) :
    Keeps F s0 (releaseCtx s cid) := by
  unfold releaseCtx
  repeat' first
    | with_reducible assumption | with_reducible refine onCtx_keeps ?_ _ _ (hF.via rfl) | with_reducible refine onRma_keeps ?_ _ (hF.via rfl)

theorem failSetups_keeps {F : Nat} {s0 : State} {s : State} (hs : Keeps F s0 s)  (hF : Within 0x3000000000000000000000000104700 F) :
    Keeps F s0 (failSetups s) := by
  unfold failSetups
  repeat' first
    | with_reducible assumption | with_reducible intro _ | with_reducible refine releaseCtx_keeps ?_ _ (hF.via rfl)
    | with_reducible refine refuseOwed_keeps ?_ _ (hF.via rfl) | with_reducible refine foldl_keeps ?_ _ _ ?_

theorem resetMgmt_keeps {F : Nat} {s0 : State} {s : State} (hs : Keeps F s0 s)  (hF : Within 0x10000000000000000000000400078a980000000000000000080058cf40 F) :
    Keeps F s0 (resetMgmt s) := by
  unfold resetMgmt
  repeat' first
    | with_reducible assumption | (intro x; subst x) | with_reducible intro _ | with_reducible refine endUpdate_keeps ?_ _ _ (hF.via rfl)
    | with_reducible refine resetCores_keeps ?_ _ (hF.via rfl) | with_reducible refine failSetups_keeps ?_ (hF.via rfl)
    | with_reducible refine dropLoads_keeps ?_ _ (hF.via rfl) | with_reducible refine closeSessions_keeps ?_ (hF.via rfl)
    | with_reducible refine forAll_keeps ?_ _ _ ?_ | with_reducible refine loseRequests_keeps ?_ _ (hF.via rfl) | lift_lets | split
    | with_reducible refine Keeps.mk_ ?_ rfl rfl id id

theorem setRegion_keeps {F : Nat} {s0 : State} {s : State} (hs : Keeps F s0 s) (i : Nat) (e : RegionEntry)  (hF : Within 0x100000 F) :
    Keeps F s0 (setRegion s i e) := by
  unfold setRegion
  repeat' first
    | with_reducible assumption | with_reducible refine onRma_keeps ?_ _ (hF.via rfl)

theorem admitRevoke_keeps {F : Nat} {s0 : State} {s : State} (hs : Keeps F s0 s) (v : Revocation)  (hF : Within 0x180000 F) :
    Keeps F s0 (admitRevoke s v) := by
  unfold admitRevoke
  repeat' first
    | with_reducible assumption | (intro x; subst x) | with_reducible refine setRegion_keeps ?_ _ _ (hF.via rfl)
    | with_reducible refine onRma_keeps ?_ _ (hF.via rfl) | lift_lets | with_reducible refine Keeps.mk_ ?_ rfl rfl id id

theorem endRevoke_keeps {F : Nat} {s0 : State} {s : State} (hs : Keeps F s0 s) (v : Revocation)  (hF : Within 0x3000000000000000000000000184700 F) :
    Keeps F s0 (endRevoke s v) := by
  unfold endRevoke
  repeat' first
    | with_reducible assumption | (intro x; refine keeps_cut (F := F) (s0 := s0) x ?_ ?_ <;> [subst x; (clear_value x; intro _)])
    | (intro x; clear_value x) | with_reducible refine setRegion_keeps ?_ _ _ (hF.via rfl) | with_reducible refine onRma_keeps ?_ _ (hF.via rfl)
    | with_reducible refine answer_keeps ?_ _ _ _ _ _ _ _ (hF.via rfl) | with_reducible refine admitRevoke_keeps ?_ _ (hF.via rfl) | lift_lets | split

theorem resetPacket_keeps {F : Nat} {s0 : State} {s : State} (hs : Keeps F s0 s)  (hF : Within 0x7ffffffffffffb000000000000000000000000384700 F) :
    Keeps F s0 (resetPacket s) := by
  unfold resetPacket
  repeat' first
    | with_reducible assumption | with_reducible intro _ | with_reducible refine refuseOwed_keeps ?_ _ (hF.via rfl)
    | with_reducible refine endRevoke_keeps ?_ _ (hF.via rfl) | with_reducible refine stgUnbindDone_keeps ?_ _ (hF.via rfl)
    | with_reducible refine onStg_keeps ?_ _ (hF.via rfl) | with_reducible refine onRma_keeps ?_ _ (hF.via rfl)
    | with_reducible refine onHost_keeps ?_ _ (hF.via rfl) | with_reducible refine resetRegs_keeps ?_ _ ?_
    | with_reducible refine foldl_keeps ?_ _ _ ?_ | lift_lets | with_reducible refine Keeps.mk_ ?_ rfl rfl id id
    | exact hF.reg (Within.reg (h := by exact rfl) (island4_bit _ ‹_›))

theorem stgAsk_keeps {F : Nat} {s0 : State} {s : State} (hs : Keeps F s0 s) (n : Nat) (code : Nat)  (hF : Within 0x100280000000040aff000000000300000000000000000000000037cf0c F) :
    Keeps F s0 (stgAsk s n code) := by
  unfold stgAsk
  repeat' first
    | with_reducible assumption | with_reducible refine Keeps.ite ?_ ?_ | with_reducible refine wrFld_keeps ?_ _ _ _ _ (hF.reg rfl)
    | with_reducible refine onStg_keeps ?_ _ (hF.via rfl) | with_reducible refine stgSettled_keeps ?_ _ (hF.via rfl)
    | with_reducible refine onRma_keeps ?_ _ (hF.via rfl) | with_reducible refine dropOp_keeps ?_ _ (hF.via rfl)
    | with_reducible refine putOp_keeps ?_ _ (hF.via rfl) | lift_lets | split

theorem enterLoss_keeps {F : Nat} {s0 : State} {s : State} (hs : Keeps F s0 s) (f : Nat)  (hF : Within 0x100280020000840aff08800000030000080408247e6f003e6b1c37efdc F) :
    Keeps F s0 (enterLoss s f) := by
  unfold enterLoss
  repeat' first
    | with_reducible assumption | with_reducible intro _ | with_reducible refine Keeps.ite ?_ ?_
    | with_reducible refine onFn_keeps ?_ _ _ (hF.via rfl) | with_reducible refine wr_keeps ?_ _ _ (hF.reg rfl)
    | with_reducible refine irqCores_keeps ?_ _ _ (hF.via rfl) | with_reducible refine recordEvent_keeps ?_ _ _ _ _ _ _ _ (hF.via rfl)
    | with_reducible refine stgAsk_keeps ?_ _ _ (hF.via rfl) | with_reducible refine ringFail_keeps ?_ _ (hF.via rfl)
    | with_reducible refine fetchFail_keeps ?_ _ (hF.via rfl) | with_reducible refine endInvalidation_keeps ?_ _ (hF.via rfl)
    | with_reducible refine onHost_keeps ?_ _ (hF.via rfl) | with_reducible refine feedRelease_keeps ?_ _ (hF.via rfl)
    | with_reducible refine foldl_keeps ?_ _ _ ?_

theorem resetPcie_keeps {F : Nat} {s0 : State} {s : State} (hs : Keeps F s0 s)  (hF : Within 0x10028002001fff8aff0880000007c000080408247e6f003e6b1d37efdc F) :
    Keeps F s0 (resetPcie s) := by
  unfold resetPcie
  repeat' first
    | with_reducible assumption | with_reducible intro _ | with_reducible refine resetRegs_keeps ?_ _ ?_
    | with_reducible refine forAll_keeps ?_ _ _ ?_ | with_reducible refine onFn_keeps ?_ _ _ (hF.via rfl)
    | with_reducible refine emptyBox_keeps ?_ _ (hF.via rfl) | with_reducible refine enterLoss_keeps ?_ _ (hF.via rfl)
    | with_reducible refine onHost_keeps ?_ _ (hF.via rfl) | lift_lets | exact hF.reg (Within.reg (h := by exact rfl) (island5_bit _ ‹_›))

theorem resetIsland_keeps {F : Nat} {s0 : State} {s : State} (hs : Keeps F s0 s) (cold : Bool) (load : Bool) (i : Nat)  (hF : Within 0x107fa40202bfffffffffffffffffca9ffe240827ffffffffffff7fefdc F) :
    Keeps F s0 (resetIsland cold load s i) := by
  unfold resetIsland
  repeat' first
    | with_reducible assumption | (intro x; subst x) | with_reducible refine Keeps.ite ?_ ?_ | with_reducible refine count_keeps ?_ _ _ (hF.reg rfl)
    | with_reducible refine wrBit_keeps ?_ _ _ _ (hF.reg rfl) | with_reducible refine resetCores_keeps ?_ _ (hF.via rfl)
    | with_reducible refine resetSecurity_keeps ?_ (hF.via rfl) | with_reducible refine resetMgmt_keeps ?_ (hF.via rfl)
    | with_reducible refine resetFabric_keeps ?_ (hF.via rfl) | with_reducible refine resetPacket_keeps ?_ (hF.via rfl)
    | with_reducible refine resetPcie_keeps ?_ (hF.via rfl) | with_reducible refine resetPort_keeps ?_ _ (hF.via rfl)
    | with_reducible refine lpxLost_keeps ?_ (hF.via rfl) | with_reducible refine startFreq_keeps ?_ _ (hF.via rfl)
    | with_reducible refine resetTile_keeps ?_ _ _ (hF.via rfl) | lift_lets | split | dsimp only | with_reducible refine Keeps.mk_ ?_ rfl rfl id id

theorem linkDown_keeps {F : Nat} {s0 : State} {s : State} (hs : Keeps F s0 s)  (hF : Within 0x100280020000848aff08800000030000080408247e6f003e6b1c37efdc F) :
    Keeps F s0 (linkDown s) := by
  unfold linkDown
  repeat' first
    | with_reducible assumption | with_reducible intro _ | with_reducible refine forAll_keeps ?_ _ _ ?_
    | with_reducible refine enterLoss_keeps ?_ _ (hF.via rfl) | with_reducible refine wr_keeps ?_ _ _ (hF.reg rfl)

theorem clockDrop_keeps {F : Nat} {s0 : State} {s : State} (hs : Keeps F s0 s) (i : Nat)  (hF : Within 0x107fae0202bfffffffffffffffffca9fff240827ffffffffffff7fefdc F) :
    Keeps F s0 (clockDrop s i) := by
  unfold clockDrop
  repeat' first
    | with_reducible assumption | (intro x; refine keeps_cut (F := F) (s0 := s0) x ?_ ?_ <;> [subst x; (clear_value x; intro _)])
    | with_reducible refine Keeps.ite ?_ ?_ | with_reducible refine count_keeps ?_ _ _ (hF.reg rfl)
    | with_reducible refine resetIsland_keeps ?_ _ _ _ (hF.via rfl) | with_reducible refine linkDown_keeps ?_ (hF.via rfl)
    | with_reducible refine resetDone_keeps ?_ _ _ (hF.via rfl) | with_reducible refine onPower_keeps ?_ _ (hF.via rfl)
    | with_reducible refine plotFault_keeps ?_ _ _ _ (hF.via rfl) | lift_lets | split

theorem execClockReadyDrop_keeps {F : Nat} {s0 : State} {s : State} (hs : Keeps F s0 s) (i : Fin 192)  (hF : Within 0x107fae0202bfffffffffffffffffca9fff240827ffffffffffff7fefdc F) :
    Kept F s0 (execClockReadyDrop i s) := by
  unfold execClockReadyDrop
  repeat' first
    | with_reducible assumption | with_reducible refine Kept.next ?_ | with_reducible refine clockDrop_keeps ?_ _ (hF.via rfl)

theorem pcieReset_keeps {F : Nat} {s0 : State} {s : State} (hs : Keeps F s0 s) (cause : Nat)  (hF : Within 0x107fa60202bfffffffffffffffffca9ffe240827ffffffffffff7fefdc F) :
    Keeps F s0 (pcieReset s cause) := by
  unfold pcieReset
  repeat' first
    | with_reducible assumption | with_reducible refine resetDone_keeps ?_ _ _ (hF.via rfl)
    | with_reducible refine resetIsland_keeps ?_ _ _ _ (hF.via rfl) | with_reducible refine linkDown_keeps ?_ (hF.via rfl)

theorem execHotReset_keeps {F : Nat} {s0 : State} {s : State} (hs : Keeps F s0 s)  (hF : Within 0x107fa60202bfffffffffffffffffca9ffe240827ffffffffffff7fefdc F) :
    Kept F s0 (execHotReset s) := by
  unfold execHotReset
  repeat' first
    | with_reducible assumption | with_reducible refine Keeps.ite ?_ ?_ | with_reducible refine Kept.next ?_
    | with_reducible refine pcieReset_keeps ?_ _ (hF.via rfl)

theorem managementReset_keeps {F : Nat} {s0 : State} {s : State} (hs : Keeps F s0 s)  (hF : Within 0x107fa40202bfffffffffffffffffca9ffe240827ffffffffffff7fefdc F) :
    Keeps F s0 (managementReset s) := by
  unfold managementReset
  repeat' first
    | with_reducible assumption | with_reducible refine onPower_keeps ?_ _ (hF.via rfl)
    | with_reducible refine resetIsland_keeps ?_ _ _ _ (hF.via rfl)

theorem execManagementIslandReset_keeps {F : Nat} {s0 : State} {s : State} (hs : Keeps F s0 s) (by_ : ResetBy)  (hF : Within 0x107fa68202bfffffffffffffffffca9ffe240827ffffffffffff7fefdc F) :
    Kept F s0 (execManagementIslandReset by_ s) := by
  unfold execManagementIslandReset
  repeat' first
    | with_reducible assumption | with_reducible intro _ | with_reducible refine Keeps.ite ?_ ?_ | with_reducible refine Kept.next ?_
    | with_reducible refine resetRequest_keeps ?_ _ _ ?_ (hF.via rfl) | with_reducible refine resetDone_keeps ?_ _ _ (hF.via rfl)
    | with_reducible refine onPower_keeps ?_ _ (hF.via rfl) | with_reducible refine managementReset_keeps ?_ (hF.via rfl)

theorem idleRequests_keeps {F : Nat} {s0 : State} {s : State} (hs : Keeps F s0 s) (p : Nat)  (hF : Within 0x100280000000040aff08040000030000000000000004000000003fcf4c F) :
    Keeps F s0 (idleRequests s p) := by
  unfold idleRequests
  repeat' first
    | with_reducible assumption | (intro x; subst x) | with_reducible intro _ | with_reducible refine Keeps.ite ?_ ?_
    | with_reducible refine forAll_keeps ?_ _ _ ?_ | with_reducible refine onTile_keeps ?_ _ _ (hF.via rfl)
    | with_reducible refine setTileRun_keeps ?_ _ _ (hF.via rfl) | with_reducible refine wrBit_keeps ?_ _ _ _ (hF.reg rfl)
    | with_reducible refine onRma_keeps ?_ _ (hF.via rfl) | with_reducible refine stgAsk_keeps ?_ _ _ (hF.via rfl)
    | with_reducible refine flushQueue_keeps ?_ _ (hF.via rfl) | with_reducible refine ckpFail_keeps ?_ _ _ (hF.via rfl) | lift_lets | dsimp only
    | with_reducible refine Keeps.mk_ ?_ rfl rfl id id

theorem moduleReset_keeps {F : Nat} {s0 : State} {s : State} (hs : Keeps F s0 s)  (hF : Within 0x107ff47202bfffffffffffffffffca9ffe240827ffffffffffff7fffdc F) :
    Keeps F s0 (moduleReset s) := by
  unfold moduleReset
  repeat' first
    | with_reducible assumption | with_reducible intro _ | with_reducible refine Keeps.ite ?_ ?_ | with_reducible refine forAll_keeps ?_ _ _ ?_
    | with_reducible refine resetIsland_keeps ?_ _ _ _ (hF.via rfl) | with_reducible refine closeRegion_keeps ?_ _ (hF.via rfl)
    | with_reducible refine linkDown_keeps ?_ (hF.via rfl) | with_reducible refine resetRegs_keeps ?_ _ ?_
    | with_reducible refine onPlot_keeps ?_ _ _ (hF.via rfl) | with_reducible refine setPlt_keeps ?_ _ _ (hF.via rfl)
    | with_reducible refine resetCores_keeps ?_ _ (hF.via rfl) | with_reducible refine draw_keeps ?_ (hF.bit rfl)
    | with_reducible refine startFreq_keeps ?_ _ (hF.via rfl) | lift_lets | with_reducible refine Keeps.mk_ ?_ rfl rfl id id
    | with_reducible refine Keeps.mk_ ?_ rfl rfl (fun _ => wf_nil) (fun _ => mapRising_nil)
    | (rename_i r h; cases r <;> first | exact hF.reg rfl | cases h)

theorem execModuleReset_keeps {F : Nat} {s0 : State} {s : State} (hs : Keeps F s0 s) (by_ : ResetBy)  (hF : Within 0x107ff6f202bfffffffffffffffffca9ffe240827ffffffffffff7fffdc F) :
    Kept F s0 (execModuleReset by_ s) := by
  unfold execModuleReset
  repeat' first
    | with_reducible assumption | with_reducible intro _ | with_reducible refine Keeps.ite ?_ ?_ | with_reducible refine Kept.next ?_
    | with_reducible refine resetRequest_keeps ?_ _ _ ?_ (hF.via rfl) | with_reducible refine forAll_keeps ?_ _ _ ?_
    | with_reducible refine idleRequests_keeps ?_ _ (hF.via rfl) | with_reducible refine resetDone_keeps ?_ _ _ (hF.via rfl)
    | with_reducible refine onPower_keeps ?_ _ (hF.via rfl) | with_reducible refine moduleReset_keeps ?_ (hF.via rfl)

theorem execPerstN_keeps {F : Nat} {s0 : State} {s : State} (hs : Keeps F s0 s) (asserted : Bool)  (hF : Within 0x107fa60202bfffffffffffffffffca9ffe240827ffffffffffff7fefdc F) :
    Kept F s0 (execPerstN asserted s) := by
  unfold execPerstN
  repeat' first
    | with_reducible assumption | with_reducible refine Keeps.ite ?_ ?_ | with_reducible refine Kept.next ?_
    | with_reducible refine onHost_keeps ?_ _ (hF.via rfl) | with_reducible refine wrBit_keeps ?_ _ _ _ (hF.reg rfl)
    | with_reducible refine pcieReset_keeps ?_ _ (hF.via rfl)

theorem execReferenceLost_keeps {F : Nat} {s0 : State} {s : State} (hs : Keeps F s0 s) (k : Fin 3)  (hF : Within 0x107fae0202bfffffffffffffffffca9fff340827ffffffffffff7fefdc F) :
    Kept F s0 (execReferenceLost k s) := by
  unfold execReferenceLost
  repeat' first
    | with_reducible assumption | with_reducible intro _ | with_reducible refine Keeps.ite ?_ ?_ | with_reducible refine Kept.next ?_
    | with_reducible refine wrBit_keeps ?_ _ _ _ (hF.reg rfl) | with_reducible refine referenceEvent_keeps ?_ _ (hF.via rfl)
    | with_reducible refine forAll_keeps ?_ _ _ ?_ | with_reducible refine clockDrop_keeps ?_ _ (hF.via rfl)

theorem execResetIdleTimeout_keeps {F : Nat} {s0 : State} {s : State} (hs : Keeps F s0 s)  (hF : Within 0x107ff47202bfffffffffffffffffca9ffe240827ffffffffffff7fffdc F) :
    Kept F s0 (execResetIdleTimeout s) := by
  unfold execResetIdleTimeout
  repeat' first
    | with_reducible assumption | with_reducible refine Keeps.ite ?_ ?_ | with_reducible refine Kept.next ?_
    | with_reducible refine moduleReset_keeps ?_ (hF.via rfl) | with_reducible refine managementReset_keeps ?_ (hF.via rfl)

theorem execSupplyReset_keeps {F : Nat} {s0 : State} {s : State} (hs : Keeps F s0 s) (rail : Fin 24) (deep : Bool)  (hF : Within 0x1fffffffffffffffffffffffffffffffffffffffffffffffffffffffffc F) :
    Kept F s0 (execSupplyReset rail deep s) := by
  unfold execSupplyReset
  repeat' first
    | with_reducible assumption | with_reducible intro _ | with_reducible refine Kept.ite ?_ ?_ | with_reducible refine Keeps.ite ?_ ?_
    | with_reducible refine Kept.next ?_ | with_reducible refine execPowerOnReset_keeps ?_ (hF.via rfl)
    | with_reducible refine wrBit_keeps ?_ _ _ _ (hF.reg rfl) | with_reducible refine onPower_keeps ?_ _ (hF.via rfl)
    | with_reducible refine irqCores_keeps ?_ _ _ (hF.via rfl) | with_reducible refine recordEvent_keeps ?_ _ _ _ _ _ _ _ (hF.via rfl)
    | with_reducible refine forAll_keeps ?_ _ _ ?_ | with_reducible refine resetIsland_keeps ?_ _ _ _ (hF.via rfl)
    | with_reducible refine linkDown_keeps ?_ (hF.via rfl) | with_reducible refine setStage_keeps ?_ _ _ _ (hF.via rfl)
    | with_reducible refine faultPlots_keeps ?_ _ (hF.via rfl)

theorem execThermalTrip_keeps {F : Nat} {s0 : State} {s : State} (hs : Keeps F s0 s) (die : Fin 9)  (hF : Within 0x107fa61202bfffffffffffffffffca9ffe240827ffffffffffff7fefdc F) :
    Kept F s0 (execThermalTrip die s) := by
  unfold execThermalTrip
  repeat' first
    | with_reducible assumption | with_reducible intro _ | with_reducible refine Kept.next ?_ | with_reducible refine onPower_keeps ?_ _ (hF.via rfl)
    | with_reducible refine recordEvent_keeps ?_ _ _ _ _ _ _ _ (hF.via rfl) | with_reducible refine irqCores_keeps ?_ _ _ (hF.via rfl)
    | with_reducible refine wrBit_keeps ?_ _ _ _ (hF.reg rfl) | with_reducible refine forAll_keeps ?_ _ _ ?_
    | with_reducible refine resetIsland_keeps ?_ _ _ _ (hF.via rfl) | with_reducible refine linkDown_keeps ?_ (hF.via rfl)
    | with_reducible refine faultPlots_keeps ?_ _ (hF.via rfl) | with_reducible refine setStage_keeps ?_ _ _ _ (hF.via rfl)

theorem execWardenHaltResponse_keeps {F : Nat} {s0 : State} {s : State} (hs : Keeps F s0 s) (c : Fin 24)  (hF : Within 0x107fa60202bfffffffffffffffffcf9ffe240827ffffffffffff7fefdc F) :
    Kept F s0 (execWardenHaltResponse c s) := by
  unfold execWardenHaltResponse
  repeat' first
    | with_reducible assumption | (intro x; refine keeps_cut (F := F) (s0 := s0) x ?_ ?_ <;> [subst x; (clear_value x; intro _)])
    | (intro x; subst x) | with_reducible refine Keeps.ite ?_ ?_ | with_reducible refine Kept.next ?_
    | with_reducible refine recordEvent_keeps ?_ _ _ _ _ _ _ _ (hF.via rfl) | with_reducible refine wrBit_keeps ?_ _ _ _ (hF.reg rfl)
    | with_reducible refine resetMgmt_keeps ?_ (hF.via rfl) | with_reducible refine managementReset_keeps ?_ (hF.via rfl)
    | with_reducible refine resetDone_keeps ?_ _ _ (hF.via rfl) | with_reducible refine resetIsland_keeps ?_ _ _ _ (hF.via rfl)
    | with_reducible refine loadCore_keeps ?_ _ _ _ (hF.via rfl) | with_reducible refine resetCores_keeps ?_ _ (hF.via rfl)
    | with_reducible refine noteCopy_keeps ?_ _ (hF.via rfl) | lift_lets | split | with_reducible refine Keeps.mk_ ?_ rfl rfl id id

theorem execMbxReset_keeps {F : Nat} {s0 : State} {s : State} (hs : Keeps F s0 s) (owner : Fin 14)  (hF : Within 0x100280020000840aff08800000078000080408247e6f003e6b1c37efdc F) :
    Kept F s0 (execMbxReset owner s) := by
  unfold execMbxReset
  repeat' first
    | with_reducible assumption | with_reducible refine Keeps.ite ?_ ?_ | with_reducible refine Kept.next ?_
    | with_reducible refine emptyBox_keeps ?_ _ (hF.via rfl) | with_reducible refine enterLoss_keeps ?_ _ (hF.via rfl)

theorem execLaneReenable_keeps {F : Nat} {s0 : State} {s : State} (hs : Keeps F s0 s) (m : Master) (port : Fin 16) (lane : Fin 4)  (hF : Within 0x8000000000000000000000000080000 F) :
    Kept F s0 (execLaneReenable m port lane s) := by
  unfold execLaneReenable
  repeat' first
    | with_reducible assumption | (intro x; refine keeps_cut (F := F) (s0 := s0) x ?_ ?_ <;> [subst x; (clear_value x; intro _)])
    | (intro x; subst x) | with_reducible refine Keeps.ite ?_ ?_ | with_reducible refine Kept.next ?_
    | with_reducible refine wrBit_keeps ?_ _ _ _ (hF.reg rfl) | lift_lets | with_reducible refine Keeps.mk_ ?_ rfl rfl id id

theorem prsDone_keeps {F : Nat} {s0 : State} {s : State} (hs : Keeps F s0 s) (cmd : Word) (err : Bool)  (hF : Within 0x100000000000000000000000000000000 F) :
    Keeps F s0 (prsDone s cmd err) := by
  unfold prsDone
  repeat' first
    | with_reducible assumption | with_reducible refine wr_keeps ?_ _ _ (hF.reg rfl)

theorem execPrsWrite_keeps {F : Nat} {s0 : State} {s : State} (hs : Keeps F s0 s) (m : Master) (cmd : Word)  (hF : Within 0x100000000000000000000000000080000 F) :
    Kept F s0 (execPrsWrite m cmd s) := by
  unfold execPrsWrite
  repeat' first
    | with_reducible assumption | (intro x; subst x) | with_reducible refine Keeps.ite ?_ ?_ | with_reducible refine Kept.next ?_
    | with_reducible refine prsDone_keeps ?_ _ _ (hF.via rfl) | lift_lets | split | dsimp only | with_reducible refine Keeps.mk_ ?_ rfl rfl id id

theorem putWords_keeps {F : Nat} {s0 : State} {s : State} (hs : Keeps F s0 s) (k : Nat) (a1 : List Word)  (hF : Within 0x200000000000000000000000000000000 F) :
    Keeps F s0 (putWords s k a1) := by
  induction a1 generalizing s k with
  | nil =>
    unfold putWords
    exact hs
  | cons x rest ih =>
    unfold putWords
    repeat' first
      | with_reducible apply ih | with_reducible assumption | with_reducible refine wr_keeps ?_ _ _ (hF.reg rfl)

theorem execPrsRead_keeps {F : Nat} {s0 : State} {s : State} (hs : Keeps F s0 s) (m : Master) (cmd : Word)  (hF : Within 0x300000000000000000000000000000000 F) :
    Kept F s0 (execPrsRead m cmd s) := by
  unfold execPrsRead
  repeat' first
    | with_reducible assumption | with_reducible refine Keeps.ite ?_ ?_ | with_reducible refine Kept.next ?_
    | with_reducible refine prsDone_keeps ?_ _ _ (hF.via rfl) | with_reducible refine putWords_keeps ?_ _ _ (hF.via rfl)

theorem execQueueFlush_keeps {F : Nat} {s0 : State} {s : State} (hs : Keeps F s0 s) (m : Master)  (hF : Within 0x4400000000000000000000000000000080000 F) :
    Kept F s0 (execQueueFlush m s) := by
  unfold execQueueFlush
  repeat' first
    | with_reducible assumption | with_reducible refine Keeps.ite ?_ ?_ | with_reducible refine Kept.next ?_
    | with_reducible refine flushQueue_keeps ?_ _ (hF.via rfl) | with_reducible refine drainHeld_keeps ?_ _ _ (hF.via rfl)
    | with_reducible refine wrBit_keeps ?_ _ _ _ (hF.reg rfl)

theorem execQavgClear_keeps {F : Nat} {s0 : State} {s : State} (hs : Keeps F s0 s) (m : Master)  (hF : Within 0x80000 F) :
    Kept F s0 (execQavgClear m s) := by
  unfold execQavgClear
  repeat' first
    | with_reducible assumption | with_reducible refine Keeps.ite ?_ ?_ | with_reducible refine Kept.next ?_
    | with_reducible refine onQueue_keeps ?_ _ _ (hF.via rfl)

theorem rmaCmdDone_keeps {F : Nat} {s0 : State} {s : State} (hs : Keeps F s0 s) (op : Nat) (index : Nat) (ok : Bool)  (hF : Within 0x40000000000000000000000000000000000100 F) :
    Keeps F s0 (rmaCmdDone s op index ok) := by
  unfold rmaCmdDone
  repeat' first
    | with_reducible assumption | with_reducible refine irqCores_keeps ?_ _ _ (hF.via rfl) | with_reducible refine wr_keeps ?_ _ _ (hF.reg rfl)

theorem rmaCmd_keeps {F : Nat} {s0 : State} {s : State} (hs : Keeps F s0 s) (m : Master) (op : Nat) (index : BitVec 18) (ok : Bool) (f : State → State) (kf : ∀ a0, Keeps F s0 a0 → Keeps F s0 (f a0)) (hF : Within 0x40000000000000000000000000000000000100 F) :
    Keeps F s0 (rmaCmd m op index s ok f) := by
  unfold rmaCmd
  repeat' first
    | with_reducible assumption | with_reducible apply kf | with_reducible refine Keeps.ite ?_ ?_
    | with_reducible refine rmaCmdDone_keeps ?_ _ _ _ (hF.via rfl)

theorem putRmaData_keeps {F : Nat} {s0 : State} {s : State} (hs : Keeps F s0 s) (bs : List Byte)  (hF : Within 0x100000000000000000000000000000000000000 F) :
    Keeps F s0 (putRmaData s bs) := by
  unfold putRmaData
  repeat' first
    | with_reducible assumption | with_reducible intro _ | with_reducible refine forAll_keeps ?_ _ _ ?_
    | with_reducible refine wr_keeps ?_ _ _ (hF.reg rfl)

theorem execRmaReadContext_keeps {F : Nat} {s0 : State} {s : State} (hs : Keeps F s0 s) (m : Master) (index : BitVec 18)  (hF : Within 0x140000000000000000000000000000000000100 F) :
    Kept F s0 (execRmaReadContext m index s) := by
  unfold execRmaReadContext
  repeat' first
    | with_reducible assumption | with_reducible intro _ | with_reducible refine Kept.next ?_
    | with_reducible refine rmaCmd_keeps ?_ _ _ _ _ _ ?_ (hF.via rfl) | with_reducible refine putRmaData_keeps ?_ _ (hF.via rfl)

theorem execRmaWriteContext_keeps {F : Nat} {s0 : State} {s : State} (hs : Keeps F s0 s) (m : Master) (index : BitVec 18)  (hF : Within 0x40000000000000000000000000000000100100 F) :
    Kept F s0 (execRmaWriteContext m index s) := by
  unfold execRmaWriteContext
  repeat' first
    | with_reducible assumption | with_reducible intro _ | with_reducible refine Kept.next ?_
    | with_reducible refine rmaCmd_keeps ?_ _ _ _ _ _ ?_ (hF.via rfl) | with_reducible refine onCtx_keeps ?_ _ _ (hF.via rfl)

theorem execRmaReadRegion_keeps {F : Nat} {s0 : State} {s : State} (hs : Keeps F s0 s) (m : Master) (index : BitVec 18)  (hF : Within 0x140000000000000000000000000000000000100 F) :
    Kept F s0 (execRmaReadRegion m index s) := by
  unfold execRmaReadRegion
  repeat' first
    | with_reducible assumption | with_reducible intro _ | with_reducible refine Kept.next ?_
    | with_reducible refine rmaCmd_keeps ?_ _ _ _ _ _ ?_ (hF.via rfl) | with_reducible refine putRmaData_keeps ?_ _ (hF.via rfl)

theorem execRmaWriteRegion_keeps {F : Nat} {s0 : State} {s : State} (hs : Keeps F s0 s) (m : Master) (index : BitVec 18)  (hF : Within 0x40000000000000000000000000000000100100 F) :
    Kept F s0 (execRmaWriteRegion m index s) := by
  unfold execRmaWriteRegion
  repeat' first
    | with_reducible assumption | with_reducible intro _ | with_reducible refine Kept.next ?_
    | with_reducible refine rmaCmd_keeps ?_ _ _ _ _ _ ?_ (hF.via rfl) | with_reducible refine setRegion_keeps ?_ _ _ (hF.via rfl)

theorem execRmaPin_keeps {F : Nat} {s0 : State} {s : State} (hs : Keeps F s0 s) (m : Master) (index : BitVec 18)  (hF : Within 0xc0000000000000000000000000000000100100 F) :
    Kept F s0 (execRmaPin m index s) := by
  unfold execRmaPin
  repeat' first
    | with_reducible assumption | with_reducible intro _ | with_reducible refine Keeps.ite ?_ ?_ | with_reducible refine Kept.next ?_
    | with_reducible refine rmaCmd_keeps ?_ _ _ _ _ _ ?_ (hF.via rfl) | with_reducible refine onCtx_keeps ?_ _ _ (hF.via rfl)
    | with_reducible refine fetchStart_keeps ?_ _ (hF.via rfl)

theorem execRmaUnpin_keeps {F : Nat} {s0 : State} {s : State} (hs : Keeps F s0 s) (m : Master) (index : BitVec 18)  (hF : Within 0x40000000000000000000000000000000100100 F) :
    Kept F s0 (execRmaUnpin m index s) := by
  unfold execRmaUnpin
  repeat' first
    | with_reducible assumption | with_reducible intro _ | with_reducible refine Kept.next ?_
    | with_reducible refine rmaCmd_keeps ?_ _ _ _ _ _ ?_ (hF.via rfl) | with_reducible refine onCtx_keeps ?_ _ _ (hF.via rfl)

theorem startRevoke_keeps {F : Nat} {s0 : State} {s : State} (hs : Keeps F s0 s) (v : Revocation)  (hF : Within 0x180000 F) :
    Keeps F s0 (startRevoke s v) := by
  unfold startRevoke
  repeat' first
    | with_reducible assumption | with_reducible refine Keeps.ite ?_ ?_ | with_reducible refine admitRevoke_keeps ?_ _ (hF.via rfl)
    | with_reducible refine onRma_keeps ?_ _ (hF.via rfl)

theorem revokeCmd_keeps {F : Nat} {s0 : State} {s : State} (hs : Keeps F s0 s) (m : Master) (index : BitVec 18)  (hF : Within 0x40000000000000000000000000000000180100 F) :
    Keeps F s0 (revokeCmd m index s) := by
  unfold revokeCmd
  repeat' first
    | with_reducible assumption | with_reducible intro _ | with_reducible refine rmaCmd_keeps ?_ _ _ _ _ _ ?_ (hF.via rfl)
    | with_reducible refine startRevoke_keeps ?_ _ (hF.via rfl)

theorem execWorkRequest_keeps {F : Nat} {s0 : State} {s : State} (hs : Keeps F s0 s) (m : Master) (p : Fin 12) (index : BitVec 16)  (hF : Within 0x100e80020000040aff78800000030000080408247e6f003e6b1c3fefdc F) :
    Kept F s0 (execWorkRequest m p index s) := by
  unfold execWorkRequest
  repeat' first
    | with_reducible assumption | with_reducible refine Keeps.ite ?_ ?_ | with_reducible refine Kept.next ?_
    | with_reducible refine takeWork_keeps ?_ _ _ (hF.via rfl) | with_reducible refine wr_keeps ?_ _ _ (hF.reg rfl)

theorem drainRecs_keeps {F : Nat} {s0 : State} {s : State} (hs : Keeps F s0 s) (a1 : Nat) (a3 : Nat)  (hF : Within 0x100c000200000000004000000000000000000000200000000000178e0c F) :
    Keeps F s0 (drainRecs a1 s a3) := by
  induction a1 generalizing s a3 with
  | zero =>
    unfold drainRecs
    exact hs
  | succ n ih =>
    unfold drainRecs
    repeat' first
      | with_reducible apply ih | with_reducible assumption | with_reducible refine Keeps.ite ?_ ?_
      | with_reducible refine postRecord_keeps ?_ _ _ (hF.via rfl) | with_reducible refine onRma_keeps ?_ _ (hF.via rfl) | split

theorem execRmaCqci_keeps {F : Nat} {s0 : State} {s : State} (hs : Keeps F s0 s) (m : Master) (p : Fin 12) (index : BitVec 16)  (hF : Within 0x100c00020000000000c000000000000000000000200000000000178e0c F) :
    Kept F s0 (execRmaCqci m p index s) := by
  unfold execRmaCqci
  repeat' first
    | with_reducible assumption | with_reducible intro _ | with_reducible refine Keeps.ite ?_ ?_ | with_reducible refine Kept.next ?_
    | with_reducible refine onCtx_keeps ?_ _ _ (hF.via rfl) | with_reducible refine onRma_keeps ?_ _ (hF.via rfl)
    | with_reducible refine drainRecs_keeps ?_ _ _ (hF.via rfl) | with_reducible refine wr_keeps ?_ _ _ (hF.reg rfl)
    | with_reducible refine foldl_keeps ?_ _ _ ?_

theorem stgGo_keeps {F : Nat} {s0 : State} {s : State} (hs : Keeps F s0 s) (m : Master) (n : Nat) (op : Nat) (irq : Bool) (nsb : Nat) (tag : Nat)  (hF : Within 0x100e80020000044bff40800000030000080408247e6f003e6b1c3fefdc F) :
    Keeps F s0 (stgGo m n op irq nsb tag s) := by
  unfold stgGo
  repeat' first
    | with_reducible assumption | (intro x; refine keeps_cut (F := F) (s0 := s0) x ?_ ?_ <;> [subst x; (clear_value x; intro _)])
    | (intro x; refine keepsFst_cut (F := F) (s0 := s0) x ?_ ?_ <;> [subst x; (clear_value x; intro _)])
    | (intro x; clear_value x) | with_reducible refine Keeps.ite ?_ ?_ | with_reducible refine count_keeps ?_ _ _ (hF.reg rfl)
    | with_reducible refine wr_keeps ?_ _ _ (hF.reg rfl) | with_reducible refine stgSignal_keeps ?_ _ _ (hF.via rfl)
    | with_reducible refine wrFld_keeps ?_ _ _ _ _ (hF.reg rfl) | with_reducible refine onStg_keeps ?_ _ (hF.via rfl)
    | with_reducible refine stgEnd_keeps ?_ _ _ _ (hF.via rfl) | with_reducible refine sheafData_keeps ?_ _ _ _ _ (hF.via rfl)
    | with_reducible refine startOp_keeps ?_ _ (hF.via rfl) | with_reducible refine KeepsFst.fst ?_ | lift_lets | split
    | with_reducible refine KeepsFst.of ?_

theorem execChannelPowerOn_keeps {F : Nat} {s0 : State} {s : State} (hs : Keeps F s0 s) (m : Master) (n : Fin 64)  (hF : Within 0x2000000000000000000000000000000000000200000 F) :
    Kept F s0 (execChannelPowerOn m n s) := by
  unfold execChannelPowerOn
  repeat' first
    | with_reducible assumption | with_reducible refine Keeps.ite ?_ ?_ | with_reducible refine Kept.next ?_
    | with_reducible refine wrFld_keeps ?_ _ _ _ _ (hF.reg rfl) | with_reducible refine onStg_keeps ?_ _ (hF.via rfl)

theorem stgOff_keeps {F : Nat} {s0 : State} {s : State} (hs : Keeps F s0 s) (n : Nat)  (hF : Within 0x2000000000000000000000000000000000000200000 F) :
    Keeps F s0 (stgOff s n) := by
  unfold stgOff
  repeat' first
    | with_reducible assumption | with_reducible refine Keeps.ite ?_ ?_ | with_reducible refine onStg_keeps ?_ _ (hF.via rfl)
    | with_reducible refine wrFld_keeps ?_ _ _ _ _ (hF.reg rfl)

theorem execStgAbort_keeps {F : Nat} {s0 : State} {s : State} (hs : Keeps F s0 s) (m : Master) (n : Fin 64) (atag : Half)  (hF : Within 0x100280000000042aff000000000300000000000000000000000037cf0c F) :
    Kept F s0 (execStgAbort m n atag s) := by
  unfold execStgAbort
  repeat' first
    | with_reducible assumption | with_reducible refine Keeps.ite ?_ ?_ | with_reducible refine Kept.next ?_
    | with_reducible refine wrFld_keeps ?_ _ _ _ _ (hF.reg rfl) | with_reducible refine stgAsk_keeps ?_ _ _ (hF.via rfl)
    | with_reducible refine count_keeps ?_ _ _ (hF.reg rfl)

theorem stgReset_keeps {F : Nat} {s0 : State} {s : State} (hs : Keeps F s0 s) (n : Nat)  (hF : Within 0x100280000000040aff000000000300000000000000000000000037cf0c F) :
    Keeps F s0 (stgReset s n) := by
  unfold stgReset
  repeat' first
    | with_reducible assumption | with_reducible refine Keeps.ite ?_ ?_ | with_reducible refine stgAsk_keeps ?_ _ _ (hF.via rfl)
    | with_reducible refine wr_keeps ?_ _ _ (hF.reg rfl) | with_reducible refine stgClearTask_keeps ?_ _ (hF.via rfl)

theorem startAbort_keeps {F : Nat} {s0 : State} {s : State} (hs : Keeps F s0 s) (p : Nat)  (hF : Within 0x100280020000040aff08040000030000000000040004000008007fcfcc F) :
    Keeps F s0 (startAbort s p) := by
  unfold startAbort
  repeat' first
    | with_reducible assumption | with_reducible refine Keeps.ite ?_ ?_ | with_reducible refine tellLeader_keeps ?_ _ (hF.via rfl)
    | with_reducible refine answer_keeps ?_ _ _ _ _ _ _ _ (hF.via rfl) | with_reducible refine onPlot_keeps ?_ _ _ (hF.via rfl)
    | with_reducible refine setPlt_keeps ?_ _ _ (hF.via rfl) | with_reducible refine idleRequests_keeps ?_ _ (hF.via rfl)
    | with_reducible refine wrFld_keeps ?_ _ _ _ _ (hF.reg rfl) | with_reducible refine snapshotTiles_keeps ?_ _ (hF.via rfl)
    | with_reducible refine dropLoads_keeps ?_ _ (hF.via rfl) | lift_lets | split

theorem requestAbort_keeps {F : Nat} {s0 : State} {s : State} (hs : Keeps F s0 s) (p : Nat) (who : Nat × Nat × Nat × Nat) (harrow : Bool)  (hF : Within 0x100280028000040aff08040000030000000000040004000008007fcfcc F) :
    Keeps F s0 (requestAbort s p who harrow) := by
  unfold requestAbort
  repeat' first
    | with_reducible assumption | with_reducible refine Keeps.ite ?_ ?_ | with_reducible refine wrBit_keeps ?_ _ _ _ (hF.reg rfl)
    | with_reducible refine answer_keeps ?_ _ _ _ _ _ _ _ (hF.via rfl) | with_reducible refine onPlot_keeps ?_ _ _ (hF.via rfl)
    | with_reducible refine startAbort_keeps ?_ _ (hF.via rfl)

theorem plotCommand_keeps {F : Nat} {s0 : State} {s : State} (hs : Keeps F s0 s) (v : Word)  (hF : Within 0x100280028000040aff08040000030000000000040004000008007fcfcc F) :
    Keeps F s0 (plotCommand s v) := by
  unfold plotCommand
  repeat' first
    | with_reducible assumption | with_reducible refine Keeps.ite ?_ ?_ | with_reducible refine wr_keeps ?_ _ _ (hF.reg rfl)
    | with_reducible refine wrBit_keeps ?_ _ _ _ (hF.reg rfl) | with_reducible refine requestAbort_keeps ?_ _ _ _ (hF.via rfl)

theorem execDStateChange_keeps {F : Nat} {s0 : State} {s : State} (hs : Keeps F s0 s) (f : Fin 13) (d : Fin 5)  (hF : Within 0x100280020000848aff08800000030000080408247e6f003e6b1c37efdc F) :
    Kept F s0 (execDStateChange f d s) := by
  unfold execDStateChange
  repeat' first
    | with_reducible assumption | with_reducible intro _ | with_reducible refine Keeps.ite ?_ ?_ | with_reducible refine Kept.next ?_
    | with_reducible refine onFn_keeps ?_ _ _ (hF.via rfl) | with_reducible refine onHost_keeps ?_ _ (hF.via rfl)
    | with_reducible refine feedRelease_keeps ?_ _ (hF.via rfl) | with_reducible refine sendMsix_keeps ?_ _ _ (hF.via rfl)
    | with_reducible refine issueReq_keeps ?_ _ (hF.via rfl) | with_reducible refine forAll_keeps ?_ _ _ ?_
    | with_reducible refine stgOff_keeps ?_ _ (hF.via rfl) | with_reducible refine linkDown_keeps ?_ (hF.via rfl)
    | with_reducible refine foldl_keeps ?_ _ _ ?_

theorem resetFn_keeps {F : Nat} {s0 s : State} (hs : Keeps F s0 s) (f : Nat) (hF : Within 0x100280020000870aff08800000078000080408247e6f003e6b1c37efdc F) : Keeps F s0 (resetFn s f) := by
  unfold resetFn
  refine wrBit_keeps (resetRegs_keeps (onFn_keeps (emptyBox_keeps (enterLoss_keeps hs _ (hF.via rfl)) _ (hF.via rfl)) _ _ (hF.via rfl)) _ (fun r h => ?_)) _ _ _ (hF.reg rfl)
  simp only [Bool.or_eq_true, beq_iff_eq] at h
  rcases h with (rfl | rfl) | rfl <;> exact hF.reg rfl

theorem execFlr_keeps {F : Nat} {s0 : State} {s : State} (hs : Keeps F s0 s) (f : Fin 13)  (hF : Within 0x100280020000870aff08800000078000080408247e6f003e6b1c37efdc F) :
    Kept F s0 (execFlr f s) := by
  unfold execFlr
  repeat' first
    | with_reducible assumption | with_reducible intro _ | with_reducible refine Keeps.ite ?_ ?_ | with_reducible refine Kept.next ?_
    | with_reducible refine resetFn_keeps ?_ _ (hF.via rfl) | with_reducible refine onHost_keeps ?_ _ (hF.via rfl)
    | with_reducible refine forAll_keeps ?_ _ _ ?_ | with_reducible refine enterLoss_keeps ?_ _ (hF.via rfl)

theorem execHeartbeatLoss_keeps {F : Nat} {s0 : State} {s : State} (hs : Keeps F s0 s) (f : Fin 13)  (hF : Within 0x100280020000840aff08800000030000080408247e6f003e6b1c37efdc F) :
    Kept F s0 (execHeartbeatLoss f s) := by
  unfold execHeartbeatLoss
  repeat' first
    | with_reducible assumption | with_reducible refine Keeps.ite ?_ ?_ | with_reducible refine Kept.next ?_
    | with_reducible refine enterLoss_keeps ?_ _ (hF.via rfl)

theorem execHello_keeps {F : Nat} {s0 : State} {s : State} (hs : Keeps F s0 s) (m : Msg) (features : BitVec 256) (vmax : Byte) (vmin : Byte)  (hF : Within 0x100280000000040aff000000000320000000000000000000000037cf0c F) :
    Kept F s0 (execHello m features vmax vmin s) := by
  unfold execHello
  repeat' first
    | with_reducible assumption | with_reducible intro _ | with_reducible refine Keeps.ite ?_ ?_ | with_reducible refine Kept.next ?_
    | with_reducible refine takeRequest_keeps ?_ _ _ (hF.via rfl) | with_reducible refine answer_keeps ?_ _ _ _ _ _ _ _ (hF.via rfl)
    | with_reducible refine wr_keeps ?_ _ _ (hF.reg rfl) | with_reducible refine onBox_keeps ?_ _ _ (hF.via rfl)
    | with_reducible refine helloDone_keeps ?_ _ (hF.via rfl) | with_reducible refine stgAsk_keeps ?_ _ _ (hF.via rfl)
    | with_reducible refine foldl_keeps ?_ _ _ ?_

theorem authenticate_keeps {F : Nat} {s0 : State} {s : State} (hs : Keeps F s0 s) (cid : Nat) (a : Arrival)  (hF : Within 0x80000000000000000000000000000000100000 F) :
    KeepsFst F s0 (authenticate s cid a) := by
  unfold authenticate
  repeat' first
    | with_reducible assumption | (intro x; subst x) | with_reducible refine KeepsFst.ite ?_ ?_
    | with_reducible refine count_keeps ?_ _ _ (hF.reg rfl) | with_reducible refine onCtx_keeps ?_ _ _ (hF.via rfl) | lift_lets | split
    | with_reducible refine KeepsFst.of ?_

theorem violation_keeps {F : Nat} {s0 : State} {s : State} (hs : Keeps F s0 s) (cid : Nat) (a : Arrival) (reason : Nat)  (hF : Within 0x100e80020000040aff40800000030000080408247e6f003e6b1c3fefdc F) :
    Keeps F s0 (violation s cid a reason) := by
  unfold violation
  repeat' first
    | with_reducible assumption | with_reducible refine Keeps.ite ?_ ?_ | with_reducible refine count_keeps ?_ _ _ (hF.reg rfl)
    | with_reducible refine onCtx_keeps ?_ _ _ (hF.via rfl) | with_reducible refine recordEvent_keeps ?_ _ _ _ _ _ _ _ (hF.via rfl)
    | with_reducible refine sendPkt_keeps ?_ _ _ _ (hF.via rfl) | with_reducible refine endContext_keeps ?_ _ _ _ (hF.via rfl)

theorem concludeReq_keeps {F : Nat} {s0 : State} (cid : Nat) (a : Arrival) {r : ReqRes} (h : ReqResKeeps F s0 r) (hF : Within 0x100e80020000040aff40800000030000080408247e6f003e6b1c3fefdc F) :
    Keeps F s0 (concludeReq cid a r) := by
  unfold concludeReq
  cases h
  all_goals dsimp only
  all_goals
  repeat' first
    | with_reducible assumption | with_reducible refine Keeps.ite ?_ ?_ | with_reducible refine onCtx_keeps ?_ _ _ (hF.via rfl)
    | with_reducible refine sendAck_keeps ?_ _ (hF.via rfl) | with_reducible refine rxFail_keeps ?_ _ _ (hF.via rfl)
    | with_reducible refine sendNak_keeps ?_ _ _ _ (hF.via rfl) | with_reducible refine violation_keeps ?_ _ _ _ (hF.via rfl) | lift_lets | split

theorem sendAtomic_keeps {F : Nat} {s0 : State} {s : State} (hs : Keeps F s0 s) (cid : Nat) (psn : Nat) (old : DWord)  (hF : Within 0x1000000000000000000080000000000000000000000000000000180900 F) :
    Keeps F s0 (sendAtomic s cid psn old) := by
  unfold sendAtomic
  repeat' first
    | with_reducible assumption | with_reducible refine sendPkt_keeps ?_ _ _ _ (hF.via rfl)

theorem request_keeps {F : Nat} {s0 : State} {s : State} (hs : Keeps F s0 s) (code : Nat) (perform : State → ReqRes) (a : Arrival) (cid : Nat) (kperform : ∀ a0, Keeps F s0 a0 → ReqResKeeps F s0 (perform a0)) (hF : Within 0x100e80020000040aff40800000030000080408247e6f003e6b1c3fefdc F) :
    Keeps F s0 (request code perform a cid s) := by
  unfold request
  repeat' first
    | with_reducible assumption | with_reducible apply kperform | with_reducible refine Keeps.ite ?_ ?_ | with_reducible refine ReqResKeeps.ite ?_ ?_
    | with_reducible refine ReqResKeeps.nak ?_ _ | with_reducible refine onCtx_keeps ?_ _ _ (hF.via rfl)
    | with_reducible refine concludeReq_keeps _ _ ?_ (hF.via rfl) | with_reducible refine sendAtomic_keeps ?_ _ _ _ (hF.via rfl)
    | with_reducible refine sendNak_keeps ?_ _ _ _ (hF.via rfl) | with_reducible refine sendAck_keeps ?_ _ (hF.via rfl) | lift_lets | split

theorem memEcc_keeps {F : Nat} {s0 : State} {s : State} (hs : Keeps F s0 s) (a : Nat) (e : Ecc)  (hF : Within 0x10008002000000000000000000000000d8000004700000000000178bcc F) :
    Keeps F s0 (memEcc s a e) := by
  unfold memEcc
  repeat' first
    | with_reducible assumption | with_reducible refine Keeps.ite ?_ ?_ | with_reducible refine spEcc_keeps ?_ _ _ _ _ _ (hF.via rfl)
    | with_reducible refine lpxEcc_keeps ?_ _ _ (hF.via rfl)

theorem targetAccess_keeps {F : Nat} {s0 : State} {s : State} (hs : Keeps F s0 s) (c : Ctx) (addr : Nat) (n : Nat) (write : Bool) (ecc : Ecc) (f : State → State) (kf : ∀ a0, Keeps F s0 a0 → Keeps F s0 (f a0)) (hF : Within 0x10008002000000000000000000000000d8000004700000000000178bcc F) :
    ReqResKeeps F s0 (targetAccess s c addr n write ecc f) := by
  unfold targetAccess
  repeat' first
    | with_reducible assumption | with_reducible apply kf | with_reducible refine ReqResKeeps.ite ?_ ?_ | with_reducible refine ReqResKeeps.done ?_
    | with_reducible refine ReqResKeeps.nak ?_ _ | with_reducible refine engineRefused_keeps ?_ _ _ _ _ (hF.via rfl)
    | with_reducible refine memEcc_keeps ?_ _ _ (hF.via rfl)

theorem doWrite_keeps {F : Nat} {s0 : State} {s : State} (hs : Keeps F s0 s) (a : Arrival) (cid : Nat)  (hF : Within 0x100c8002000000000000000000000000d8000004700000000000178bcc F) :
    ReqResKeeps F s0 (doWrite a cid s) := by
  unfold doWrite
  repeat' first
    | with_reducible assumption | (intro x; subst x) | with_reducible intro _ | with_reducible refine Keeps.ite ?_ ?_
    | with_reducible refine ReqResKeeps.nak ?_ _ | with_reducible refine targetAccess_keeps ?_ _ _ _ _ _ _ ?_ (hF.via rfl)
    | with_reducible refine engineWrite_keeps ?_ _ _ (hF.via rfl) | lift_lets | split

theorem doCrossing_keeps {F : Nat} {s0 : State} {s : State} (hs : Keeps F s0 s) (a : Arrival) (cid : Nat)  (hF : Within 0x10008002000000000000000000030000080408247fef003e6b1c17efdc F) :
    ReqResKeeps F s0 (doCrossing a cid s) := by
  unfold doCrossing
  repeat' first
    | with_reducible assumption | (intro x; subst x) | with_reducible refine ReqResKeeps.ite ?_ ?_ | with_reducible refine Keeps.ite ?_ ?_
    | with_reducible refine KeepsOpt.ite ?_ ?_ | with_reducible refine KeepsOpt.some ?_ | with_reducible refine ReqResKeeps.done ?_
    | with_reducible refine ReqResKeeps.nak ?_ _ | with_reducible refine rxBegin_keeps ?_ _ _ (hF.via rfl)
    | with_reducible refine rxBytes_keeps ?_ _ _ _ _ (hF.via rfl) | with_reducible refine rxEnd_keeps ?_ _ _ _ _ _ (hF.via rfl)
    | with_reducible refine KeepsOpt.eq (by assumption) ?_ | lift_lets | split

theorem doCrossingWrite_keeps {F : Nat} {s0 : State} {s : State} (hs : Keeps F s0 s) (a : Arrival) (cid : Nat)  (hF : Within 0x100c8002000000000000000000030000d80408247fef003e6b1c17efdc F) :
    ReqResKeeps F s0 (doCrossingWrite a cid s) := by
  unfold doCrossingWrite
  repeat' first
    | with_reducible assumption | (intro x; subst x) | with_reducible refine Keeps.ite ?_ ?_ | with_reducible refine KeepsOpt.ite ?_ ?_
    | with_reducible refine KeepsOpt.some ?_ | with_reducible refine ReqResKeeps.done ?_ | with_reducible refine ReqResKeeps.nak ?_ _
    | with_reducible refine rxBegin_keeps ?_ _ _ (hF.via rfl) | with_reducible refine doWrite_keeps ?_ _ _ (hF.via rfl)
    | with_reducible refine rxFail_keeps ?_ _ _ (hF.via rfl) | with_reducible refine rxEnd_keeps ?_ _ _ _ _ _ (hF.via rfl)
    | with_reducible refine KeepsOpt.eq (by assumption) ?_ | with_reducible refine ReqResKeeps.eqDone (by assumption) ?_
    | with_reducible refine ReqResKeeps.eqNak (by assumption) ?_ | lift_lets | split

theorem recvRecord_keeps {F : Nat} {s0 : State} {s : State} (hs : Keeps F s0 s) (cid : Nat) (bytes : Nat) (imm : DWord) (off : Nat) (slot : Bool)  (hF : Within 0x100c000200000000004000000000000000000000200000000000178e0c F) :
    Keeps F s0 (recvRecord s cid bytes imm off slot) := by
  unfold recvRecord
  repeat' first
    | with_reducible assumption | with_reducible refine Keeps.ite ?_ ?_ | with_reducible refine onRma_keeps ?_ _ (hF.via rfl)
    | with_reducible refine postRecord_keeps ?_ _ _ (hF.via rfl)

theorem toFirmware_keeps {F : Nat} {s0 : State} {s : State} (hs : Keeps F s0 s) (cid : Nat) (bs : List Byte)  (hF : Within 0x100100 F) :
    Keeps F s0 (toFirmware s cid bs) := by
  unfold toFirmware
  repeat' first
    | with_reducible assumption | with_reducible refine irqCores_keeps ?_ _ _ (hF.via rfl) | with_reducible refine onRma_keeps ?_ _ (hF.via rfl)

theorem doWriteImm_keeps {F : Nat} {s0 : State} {s : State} (hs : Keeps F s0 s) (a : Arrival) (cid : Nat)  (hF : Within 0x100c8002000000000040000000030000d80408247fef003e6b1c17efdc F) :
    ReqResKeeps F s0 (doWriteImm a cid s) := by
  unfold doWriteImm
  repeat' first
    | with_reducible assumption | with_reducible refine ReqResKeeps.ite ?_ ?_ | with_reducible refine ReqResKeeps.done ?_
    | with_reducible refine ReqResKeeps.nak ?_ _ | with_reducible refine doCrossing_keeps ?_ _ _ (hF.via rfl)
    | with_reducible refine doCrossingWrite_keeps ?_ _ _ (hF.via rfl) | with_reducible refine doWrite_keeps ?_ _ _ (hF.via rfl)
    | with_reducible refine recvRecord_keeps ?_ _ _ _ _ _ (hF.via rfl) | with_reducible refine toFirmware_keeps ?_ _ _ (hF.via rfl)
    | with_reducible refine ReqResKeeps.eqDone (by assumption) ?_ | with_reducible refine ReqResKeeps.eqNak (by assumption) ?_ | lift_lets | split

theorem sendData_keeps {F : Nat} {s0 : State} {s : State} (hs : Keeps F s0 s) (a1 : Nat) (a3 : Nat) (a4 : Arrival) (a5 : Nat) (a6 : Nat) (a7 : Nat)  (hF : Within 0x1000000000000000000080000000000000000000000000000000180900 F) :
    Keeps F s0 (sendData a1 s a3 a4 a5 a6 a7) := by
  induction a1 generalizing s a3 a4 a5 a6 a7 with
  | zero =>
    unfold sendData
    exact hs
  | succ n ih =>
    unfold sendData
    repeat' first
      | with_reducible apply ih | with_reducible assumption | with_reducible refine Keeps.ite ?_ ?_
      | with_reducible refine sendPkt_keeps ?_ _ _ _ (hF.via rfl)

theorem doReadReq_keeps {F : Nat} {s0 : State} {s : State} (hs : Keeps F s0 s) (a : Arrival) (cid : Nat)  (hF : Within 0x10008002000000000000800000000000d80000047000000000001f8bcc F) :
    ReqResKeeps F s0 (doReadReq a cid s) := by
  unfold doReadReq
  repeat' first
    | with_reducible assumption | (intro x; subst x) | with_reducible intro _ | with_reducible refine ReqResKeeps.nak ?_ _
    | with_reducible refine targetAccess_keeps ?_ _ _ _ _ _ _ ?_ (hF.via rfl) | with_reducible refine sendData_keeps ?_ _ _ _ _ _ _ (hF.via rfl)
    | lift_lets | split

theorem doSend_keeps {F : Nat} {s0 : State} {s : State} (hs : Keeps F s0 s) (a : Arrival) (cid : Nat)  (hF : Within 0x100c8002000000000040000000030000d80408247fef003e6b1c17efdc F) :
    ReqResKeeps F s0 (doSend a cid s) := by
  unfold doSend
  repeat' first
    | with_reducible assumption | (intro x; subst x) | with_reducible intro _ | with_reducible refine ReqResKeeps.ite ?_ ?_
    | with_reducible refine Keeps.ite ?_ ?_ | with_reducible refine ReqResKeeps.done ?_ | with_reducible refine ReqResKeeps.nak ?_ _
    | with_reducible refine doCrossing_keeps ?_ _ _ (hF.via rfl) | with_reducible refine toFirmware_keeps ?_ _ _ (hF.via rfl)
    | with_reducible refine targetAccess_keeps ?_ _ _ _ _ _ _ ?_ (hF.via rfl) | with_reducible refine engineWrite_keeps ?_ _ _ (hF.via rfl)
    | with_reducible refine recvRecord_keeps ?_ _ _ _ _ _ (hF.via rfl) | with_reducible refine onCtx_keeps ?_ _ _ (hF.via rfl)
    | with_reducible refine ReqResKeeps.eqDone (by assumption) ?_ | with_reducible refine ReqResKeeps.eqNak (by assumption) ?_ | lift_lets | split

theorem doAtomic_keeps {F : Nat} {s0 : State} {s : State} (hs : Keeps F s0 s) (a : Arrival) (cid : Nat) (f : DWord → Option DWord)  (hF : Within 0x100c8002000000000000800000000000d80000047000000000001f8bcc F) :
    ReqResKeeps F s0 (doAtomic a cid f s) := by
  unfold doAtomic
  repeat' first
    | with_reducible assumption | (intro x; subst x) | with_reducible intro _ | with_reducible refine ReqResKeeps.ite ?_ ?_
    | with_reducible refine ReqResKeeps.nak ?_ _ | with_reducible refine targetAccess_keeps ?_ _ _ _ _ _ _ ?_ (hF.via rfl)
    | with_reducible refine engineWrite_keeps ?_ _ _ (hF.via rfl) | with_reducible refine sendAtomic_keeps ?_ _ _ _ (hF.via rfl)
    | with_reducible refine onCtx_keeps ?_ _ _ (hF.via rfl) | lift_lets | split

theorem doFadd_keeps {F : Nat} {s0 : State} {s : State} (hs : Keeps F s0 s) (a : Arrival) (cid : Nat)  (hF : Within 0x100c8002000000000000800000000000d80000047000000000001f8bcc F) :
    ReqResKeeps F s0 (doFadd a cid s) := by
  unfold doFadd
  repeat' first
    | with_reducible assumption | with_reducible refine doAtomic_keeps ?_ _ _ _ (hF.via rfl)

theorem doCswap_keeps {F : Nat} {s0 : State} {s : State} (hs : Keeps F s0 s) (a : Arrival) (cid : Nat)  (hF : Within 0x100c8002000000000000800000000000d80000047000000000001f8bcc F) :
    ReqResKeeps F s0 (doCswap a cid s) := by
  unfold doCswap
  repeat' first
    | with_reducible assumption | with_reducible refine ReqResKeeps.ite ?_ ?_ | with_reducible refine ReqResKeeps.nak ?_ _
    | with_reducible refine doAtomic_keeps ?_ _ _ _ (hF.via rfl)

theorem malformed_keeps {F : Nat} {s0 : State} {s : State} (hs : Keeps F s0 s) (o : RmaOp)  (hF : Within 0x100e80020000041aff40000000030000080408247e6f003e6b1c37efdc F) :
    Keeps F s0 (malformed s o) := by
  unfold malformed
  repeat' first
    | with_reducible assumption | with_reducible refine recordEvent_keeps ?_ _ _ _ _ _ _ _ (hF.via rfl)
    | with_reducible refine count_keeps ?_ _ _ (hF.reg rfl) | with_reducible refine stgEnd_keeps ?_ _ _ _ (hF.via rfl)
    | with_reducible refine dropOp_keeps ?_ _ (hF.via rfl) | with_reducible refine completeOp_keeps ?_ _ _ _ (hF.via rfl) | split

theorem putLocal_keeps {F : Nat} {s0 : State} {s : State} (hs : Keeps F s0 s) (o : RmaOp) (bs : List Byte) (ecc : Ecc)  (hF : Within 0x100c8002000000000000000000000000d8000004700000000000178fcc F) :
    KeepsOpt F s0 (putLocal s o bs ecc) := by
  unfold putLocal
  repeat' first
    | with_reducible assumption | with_reducible refine KeepsOpt.ite ?_ ?_ | with_reducible refine KeepsOpt.some ?_
    | with_reducible exact KeepsOpt.none | with_reducible refine hostWrite_keeps ?_ _ _ _ _ (hF.via rfl)
    | with_reducible refine engineWrite_keeps ?_ _ _ (hF.via rfl) | with_reducible refine memEcc_keeps ?_ _ _ (hF.via rfl) | lift_lets | split

theorem showDone_keeps {F : Nat} {s0 : State} {s : State} (hs : Keeps F s0 s) (o : RmaOp) (bytes : Nat)  (hF : Within 0x1000000000000000000000000000000000000000000 F) :
    Keeps F s0 (showDone s o bytes) := by
  unfold showDone
  repeat' first
    | with_reducible assumption | with_reducible refine wr_keeps ?_ _ _ (hF.reg rfl) | split

theorem rxReadResp_keeps {F : Nat} {s0 : State} {s : State} (hs : Keeps F s0 s) (a : Arrival) (cid : Nat)  (hF : Within 0x100e80020000041bff40000000030000d80408247e6f003e6b1c37efdc F) :
    Keeps F s0 (rxReadResp a cid s) := by
  unfold rxReadResp
  repeat' first
    | with_reducible assumption | (intro x; subst x) | with_reducible refine Keeps.ite ?_ ?_ | with_reducible refine malformed_keeps ?_ _ (hF.via rfl)
    | with_reducible refine staleResult_keeps ?_ _ (hF.via rfl) | with_reducible refine dropOp_keeps ?_ _ (hF.via rfl)
    | with_reducible refine putLocal_keeps ?_ _ _ _ (hF.via rfl) | with_reducible refine refuseOp_keeps ?_ _ _ _ _ (hF.via rfl)
    | with_reducible refine memEcc_keeps ?_ _ _ (hF.via rfl) | with_reducible refine showDone_keeps ?_ _ _ (hF.via rfl)
    | with_reducible refine putOp_keeps ?_ _ (hF.via rfl) | with_reducible refine onCtx_keeps ?_ _ _ (hF.via rfl)
    | with_reducible refine completeOp_keeps ?_ _ _ _ (hF.via rfl) | with_reducible refine KeepsOpt.eq (by assumption) ?_ | lift_lets | split

theorem rxAtomicResp_keeps {F : Nat} {s0 : State} {s : State} (hs : Keeps F s0 s) (a : Arrival) (cid : Nat)  (hF : Within 0x100e80020000041aff40000000030000080408247e6f003e6b1c37efdc F) :
    Keeps F s0 (rxAtomicResp a cid s) := by
  unfold rxAtomicResp
  repeat' first
    | with_reducible assumption | with_reducible refine completeOp_keeps ?_ _ _ _ (hF.via rfl) | with_reducible refine onCtx_keeps ?_ _ _ (hF.via rfl)
    | with_reducible refine malformed_keeps ?_ _ (hF.via rfl) | split

theorem ackOp_keeps {F : Nat} {s0 : State} {s : State} (hs : Keeps F s0 s) (cid : Nat) (psn : Nat) (o : RmaOp)  (hF : Within 0x100e80020000040bff40000000030000080408247e6f003e6b1c37efdc F) :
    Keeps F s0 (ackOp cid psn s o) := by
  unfold ackOp
  repeat' first
    | with_reducible assumption | with_reducible refine Keeps.ite ?_ ?_ | with_reducible refine putOp_keeps ?_ _ (hF.via rfl)
    | with_reducible refine onCtx_keeps ?_ _ _ (hF.via rfl) | with_reducible refine showDone_keeps ?_ _ _ (hF.via rfl)
    | with_reducible refine completeOp_keeps ?_ _ _ _ (hF.via rfl)

theorem ackUpTo_keeps {F : Nat} {s0 : State} {s : State} (hs : Keeps F s0 s) (cid : Nat) (psn : Nat)  (hF : Within 0x100e80020000040bff40000000030000080408247e6f003e6b1c37efdc F) :
    Keeps F s0 (ackUpTo s cid psn) := by
  unfold ackUpTo
  repeat' first
    | with_reducible assumption | with_reducible intro _ | with_reducible refine Keeps.ite ?_ ?_
    | with_reducible refine ackOp_keeps ?_ _ _ _ (hF.via rfl) | with_reducible refine foldl_keeps ?_ _ _ ?_

theorem chargeSenders_keeps {F : Nat} {s0 : State} {s : State} (hs : Keeps F s0 s) (cid : Nat) (waited : Nat)  (hF : Within 0x60000000200000040 F) :
    Keeps F s0 (chargeSenders s cid waited) := by
  unfold chargeSenders
  repeat' first
    | with_reducible assumption | with_reducible intro _ | with_reducible refine Keeps.ite ?_ ?_
    | with_reducible refine chargeStall_keeps ?_ _ _ _ (hF.via rfl) | with_reducible refine foldl_keeps ?_ _ _ ?_ | split

theorem rxAck_keeps {F : Nat} {s0 : State} {s : State} (hs : Keeps F s0 s) (a : Arrival) (cid : Nat)  (hF : Within 0x100e80020000040bff68800000030000080408247e6f003e6b1c3fefdc F) :
    Keeps F s0 (rxAck a cid s) := by
  unfold rxAck
  repeat' first
    | with_reducible assumption | with_reducible refine unfenceAll_keeps ?_ (hF.via rfl) | with_reducible refine pumpCtx_keeps ?_ _ (hF.via rfl)
    | with_reducible refine ackUpTo_keeps ?_ _ _ (hF.via rfl) | with_reducible refine chargeSenders_keeps ?_ _ _ (hF.via rfl)

theorem nakOp_keeps {F : Nat} {s0 : State} {s : State} (hs : Keeps F s0 s) (cid : Nat) (found : Option RmaOp) (reason : Nat)  (hF : Within 0x100e80020000040aff68800000030000080408247e6f003e6b1c3fefdc F) :
    Keeps F s0 (nakOp cid s found reason) := by
  unfold nakOp
  repeat' first
    | with_reducible assumption | (intro x; clear_value x) | with_reducible refine Keeps.ite ?_ ?_
    | with_reducible refine onCtx_keeps ?_ _ _ (hF.via rfl) | with_reducible refine putOp_keeps ?_ _ (hF.via rfl)
    | with_reducible refine recordEvent_keeps ?_ _ _ _ _ _ _ _ (hF.via rfl) | with_reducible refine unfenceAll_keeps ?_ (hF.via rfl)
    | with_reducible refine pumpCtx_keeps ?_ _ (hF.via rfl) | with_reducible refine completeOp_keeps ?_ _ _ _ (hF.via rfl) | lift_lets | split

theorem rxNak_keeps {F : Nat} {s0 : State} {s : State} (hs : Keeps F s0 s) (a : Arrival) (cid : Nat)  (hF : Within 0x100e80020000040bff68800000030000080408247e6f003e6b1c3fefdc F) :
    Keeps F s0 (rxNak a cid s) := by
  unfold rxNak
  repeat' first
    | with_reducible assumption | with_reducible refine ackUpTo_keeps ?_ _ _ (hF.via rfl) | with_reducible refine nakOp_keeps ?_ _ _ _ (hF.via rfl)

theorem rxClose_keeps {F : Nat} {s0 : State} {s : State} (hs : Keeps F s0 s) (_a : Arrival) (cid : Nat)  (hF : Within 0x100e80020000040aff68800000030000080408247e6f003e6b1c3fefdc F) :
    Keeps F s0 (rxClose _a cid s) := by
  unfold rxClose
  repeat' first
    | with_reducible assumption | with_reducible refine unfenceAll_keeps ?_ (hF.via rfl) | with_reducible refine irqCores_keeps ?_ _ _ (hF.via rfl)
    | with_reducible refine endContext_keeps ?_ _ _ _ (hF.via rfl)

theorem nextEpoch_keeps {F : Nat} {s0 : State} {s : State} (hs : Keeps F s0 s) (cid : Nat) (own : BitVec 128) (peer : BitVec 128)  (hF : Within 0x100000 F) :
    Keeps F s0 (nextEpoch s cid own peer) := by
  unfold nextEpoch
  repeat' first
    | with_reducible assumption | with_reducible refine onCtx_keeps ?_ _ _ (hF.via rfl)

theorem switchTx_keeps {F : Nat} {s0 : State} {s : State} (hs : Keeps F s0 s) (cid : Nat)  (hF : Within 0x100000 F) :
    Keeps F s0 (switchTx s cid) := by
  unfold switchTx
  repeat' first
    | with_reducible assumption | with_reducible refine onCtx_keeps ?_ _ _ (hF.via rfl)

theorem rxRekey_keeps {F : Nat} {s0 : State} {s : State} (hs : Keeps F s0 s) (a : Arrival) (cid : Nat)  (hF : Within 0x100e80020000040aff40800000030000080408247e6f003e6b1c3fefdc F) :
    Keeps F s0 (rxRekey a cid s) := by
  unfold rxRekey
  repeat' first
    | with_reducible assumption | with_reducible refine sendPkt_keeps ?_ _ _ _ (hF.via rfl)
    | with_reducible refine nextEpoch_keeps ?_ _ _ _ (hF.via rfl) | with_reducible refine draw_keeps ?_ (hF.bit rfl)
    | with_reducible refine pumpCtx_keeps ?_ _ (hF.via rfl) | with_reducible refine irqCores_keeps ?_ _ _ (hF.via rfl)
    | with_reducible refine switchTx_keeps ?_ _ (hF.via rfl)

theorem rxRekeyAck_keeps {F : Nat} {s0 : State} {s : State} (hs : Keeps F s0 s) (a : Arrival) (cid : Nat)  (hF : Within 0x100e80020000040aff40800000030000080408247e6f003e6b1c3fefdc F) :
    Keeps F s0 (rxRekeyAck a cid s) := by
  unfold rxRekeyAck
  repeat' first
    | with_reducible assumption | with_reducible refine Keeps.ite ?_ ?_ | with_reducible refine switchTx_keeps ?_ _ (hF.via rfl)
    | with_reducible refine nextEpoch_keeps ?_ _ _ _ (hF.via rfl) | with_reducible refine onCtx_keeps ?_ _ _ (hF.via rfl)
    | with_reducible refine answer_keeps ?_ _ _ _ _ _ _ _ (hF.via rfl) | with_reducible refine pumpCtx_keeps ?_ _ (hF.via rfl)
    | with_reducible refine irqCores_keeps ?_ _ _ (hF.via rfl) | lift_lets | split

theorem handlePkt_keeps {F : Nat} {s0 : State} {s : State} (hs : Keeps F s0 s) (code : Nat) (a : Arrival) (cid : Nat)  (hF : Within 0x100e80020000041bff68800000030000d80408247fef003e6b1c3fefdc F) :
    Keeps F s0 (handlePkt code a cid s) := by
  unfold handlePkt
  repeat' first
    | with_reducible assumption | with_reducible intro _ | with_reducible refine Keeps.ite ?_ ?_ | with_reducible refine ReqResKeeps.nak ?_ _
    | with_reducible refine request_keeps ?_ _ _ _ _ ?_ (hF.via rfl) | with_reducible refine doWrite_keeps ?_ _ _ (hF.via rfl)
    | with_reducible refine doWriteImm_keeps ?_ _ _ (hF.via rfl) | with_reducible refine doReadReq_keeps ?_ _ _ (hF.via rfl)
    | with_reducible refine doSend_keeps ?_ _ _ (hF.via rfl) | with_reducible refine doFadd_keeps ?_ _ _ (hF.via rfl)
    | with_reducible refine doCswap_keeps ?_ _ _ (hF.via rfl) | with_reducible refine unfenceAll_keeps ?_ (hF.via rfl)
    | with_reducible refine rxReadResp_keeps ?_ _ _ (hF.via rfl) | with_reducible refine rxAtomicResp_keeps ?_ _ _ (hF.via rfl)
    | with_reducible refine rxAck_keeps ?_ _ _ (hF.via rfl) | with_reducible refine rxNak_keeps ?_ _ _ (hF.via rfl)
    | with_reducible refine rxClose_keeps ?_ _ _ (hF.via rfl) | with_reducible refine rxRekey_keeps ?_ _ _ (hF.via rfl)
    | with_reducible refine rxRekeyAck_keeps ?_ _ _ (hF.via rfl)

theorem processPkt_keeps {F : Nat} {s0 : State} {s : State} (hs : Keeps F s0 s) (code : Nat) (a : Arrival)  (hF : Within 0x100e80020000041bff68800000030000d80408247fef003e6b1c3fefdc F) :
    Keeps F s0 (processPkt code a s) := by
  unfold processPkt
  repeat' first
    | with_reducible assumption | (intro x; refine keeps_cut (F := F) (s0 := s0) x ?_ ?_ <;> [subst x; (clear_value x; intro _)])
    | with_reducible refine Keeps.ite ?_ ?_ | with_reducible refine onCtx_keeps ?_ _ _ (hF.via rfl)
    | with_reducible refine irqCores_keeps ?_ _ _ (hF.via rfl) | with_reducible refine answer_keeps ?_ _ _ _ _ _ _ _ (hF.via rfl)
    | with_reducible refine count_keeps ?_ _ _ (hF.reg rfl) | with_reducible refine authenticate_keeps ?_ _ _ (hF.via rfl)
    | with_reducible refine handlePkt_keeps ?_ _ _ _ (hF.via rfl) | with_reducible refine KeepsFst.eq (by assumption) ?_ | lift_lets | split

theorem fetchDone_keeps {F : Nat} {s0 : State} {s : State} (hs : Keeps F s0 s) (cid : Nat)  (hF : Within 0x100e80020000041bff68800000030000d80408247fef003e6b1c3fefdc F) :
    Keeps F s0 (fetchDone s cid) := by
  unfold fetchDone
  repeat' first
    | with_reducible assumption | (intro x; subst x) | with_reducible intro _ | with_reducible refine Keeps.ite ?_ ?_
    | with_reducible refine fetchFail_keeps ?_ _ (hF.via rfl) | with_reducible refine cacheIn_keeps ?_ _ (hF.via rfl)
    | with_reducible refine onRma_keeps ?_ _ (hF.via rfl) | with_reducible refine pumpCtx_keeps ?_ _ (hF.via rfl)
    | with_reducible refine processPkt_keeps ?_ _ _ (hF.via rfl) | with_reducible refine foldl_keeps ?_ _ _ ?_
    | with_reducible refine KeepsOpt.eq (by assumption) ?_ | lift_lets | split

theorem execHostReadCompletion_keeps {F : Nat} {s0 : State} {s : State} (hs : Keeps F s0 s) (tag : Nat) (bytes : List Byte)  (hF : Within 0x100e80020000841bff68800000030000d80408247fef003e6b1c3fefdc F) :
    Kept F s0 (execHostReadCompletion tag bytes s) := by
  unfold execHostReadCompletion
  repeat' first
    | with_reducible assumption | with_reducible refine Keeps.ite ?_ ?_ | with_reducible refine Kept.next ?_
    | with_reducible refine onFn_keeps ?_ _ _ (hF.via rfl) | with_reducible refine drainInvalidations_keeps ?_ (hF.via rfl)
    | with_reducible refine onHost_keeps ?_ _ (hF.via rfl) | with_reducible refine staleResult_keeps ?_ _ (hF.via rfl)
    | with_reducible refine pumpCtx_keeps ?_ _ (hF.via rfl) | with_reducible refine putOp_keeps ?_ _ (hF.via rfl)
    | with_reducible refine onRma_keeps ?_ _ (hF.via rfl) | with_reducible refine takeWork_keeps ?_ _ _ (hF.via rfl)
    | with_reducible refine takeEntry_keeps ?_ _ _ (hF.via rfl) | with_reducible refine fetchDone_keeps ?_ _ (hF.via rfl)
    | with_reducible refine feedRelease_keeps ?_ _ (hF.via rfl) | with_reducible refine retryHost_keeps ?_ (hF.via rfl) | lift_lets | split

theorem execLinkDown_keeps {F : Nat} {s0 : State} {s : State} (hs : Keeps F s0 s)  (hF : Within 0x100280020000848aff08800000030000080408247e6f003e6b1c37efdc F) :
    Kept F s0 (execLinkDown s) := by
  unfold execLinkDown
  repeat' first
    | with_reducible assumption | with_reducible refine Kept.next ?_ | with_reducible refine linkDown_keeps ?_ (hF.via rfl)

theorem punt_keeps {F : Nat} {s0 : State} {s : State} (hs : Keeps F s0 s) (reason : Nat) (port : Nat) (sub : Nat) (key : BitVec 512) (f : List Byte) (ns : Nat)  (hF : Within 0x40000000000000000000000000000080100 F) :
    Keeps F s0 (punt s reason port sub key f ns) := by
  unfold punt
  repeat' first
    | with_reducible assumption | (intro x; subst x) | with_reducible refine Keeps.ite ?_ ?_ | with_reducible refine count_keeps ?_ _ _ (hF.reg rfl)
    | with_reducible refine coreIrq_keeps ?_ _ _ (hF.via rfl) | lift_lets | split | dsimp only | with_reducible refine Keeps.mk_ ?_ rfl rfl id id

theorem deliver_keeps {F : Nat} {s0 : State} {s : State} (hs : Keeps F s0 s) (kind : Nat) (plt : Nat) (port : Nat) (queue : Nat) (ring : Nat) (inPort : Nat) (inSub : Nat) (key : BitVec 512) (f : List Byte) (ns : Nat)  (hF : Within 0x4060000000000000000000000000000080100 F) :
    Keeps F s0 (deliver s kind plt port queue ring inPort inSub key f ns) := by
  unfold deliver
  repeat' first
    | with_reducible assumption | (intro x; subst x) | with_reducible refine Keeps.ite ?_ ?_ | with_reducible refine count_keeps ?_ _ _ (hF.reg rfl)
    | with_reducible refine irqCores_keeps ?_ _ _ (hF.via rfl) | with_reducible refine punt_keeps ?_ _ _ _ _ _ _ (hF.via rfl)
    | with_reducible refine enqueueForward_keeps ?_ _ _ _ (hF.via rfl) | lift_lets | with_reducible refine Keeps.mk_ ?_ rfl rfl id id

theorem act_keeps {F : Nat} {s0 : State} {s : State} (hs : Keeps F s0 s) (q : Nat) (e : ClsEntry) (port : Nat) (sub : Nat) (key : BitVec 512) (r : Parsed) (f : List Byte) (ns : Nat)  (hF : Within 0x4060000000000000000000000000000080100 F) :
    Keeps F s0 (act s q e port sub key r f ns) := by
  unfold act
  repeat' first
    | with_reducible assumption | with_reducible refine Keeps.ite ?_ ?_ | with_reducible refine punt_keeps ?_ _ _ _ _ _ _ (hF.via rfl)
    | with_reducible refine count_keeps ?_ _ _ (hF.reg rfl) | with_reducible refine deliver_keeps ?_ _ _ _ _ _ _ _ _ _ _ (hF.via rfl) | lift_lets
    | split

theorem meterFrame_keeps {F : Nat} {s0 : State} {s : State} (hs : Keeps F s0 s) (e : ClsEntry) (len : Nat) (ns : Nat)  (hF : Within 0x10000000000000000000000000000080000 F) :
    KeepsSnd F s0 (meterFrame s e len ns) := by
  unfold meterFrame
  repeat' first
    | with_reducible assumption | (intro x; subst x) | with_reducible refine KeepsSnd.ite ?_ ?_
    | with_reducible refine count_keeps ?_ _ _ (hF.reg rfl) | lift_lets | with_reducible refine KeepsSnd.of ?_
    | with_reducible refine Keeps.mk_ ?_ rfl rfl id id

theorem classify_keeps {F : Nat} {s0 : State} {s : State} (hs : Keeps F s0 s) (port : Nat) (sub : Nat) (f : List Byte) (ns : Nat)  (hF : Within 0x407c000000000000000000000000000080100 F) :
    Keeps F s0 (classify s port sub f ns) := by
  unfold classify
  repeat' first
    | with_reducible assumption | (intro x; refine keeps_cut (F := F) (s0 := s0) x ?_ ?_ <;> [subst x; (clear_value x; intro _)])
    | (intro x; subst x) | with_reducible refine Keeps.ite ?_ ?_ | with_reducible refine punt_keeps ?_ _ _ _ _ _ _ (hF.via rfl)
    | with_reducible refine count_keeps ?_ _ _ (hF.reg rfl) | with_reducible refine KeepsSnd.snd (meterFrame_keeps ?_ _ _ _ (hF.via rfl))
    | with_reducible refine act_keeps ?_ _ _ _ _ _ _ _ _ (hF.via rfl) | lift_lets | split | with_reducible refine Keeps.mk_ ?_ rfl rfl id id

theorem drrPick_keeps {F : Nat} {s0 : State} {s : State} (hs : Keeps F s0 s) (a1 : Nat) (a3 : List Nat) (a4 : Nat) (a5 : Bool)  (hF : Within 0x80000 F) :
    KeepsOptSnd F s0 (drrPick a1 s a3 a4 a5) := by
  induction a1 generalizing s a3 a4 a5 with
  | zero =>
    unfold drrPick
    exact KeepsOptSnd.none
  | succ n ih =>
    unfold drrPick
    repeat' first
      | with_reducible apply ih | with_reducible assumption | with_reducible refine KeepsOptSnd.ite ?_ ?_ | with_reducible refine KeepsOptSnd.some ?_
      | with_reducible refine onQueue_keeps ?_ _ _ (hF.via rfl)

theorem netCount_keeps {F : Nat} {s0 : State} {s : State} (hs : Keeps F s0 s) (port : Nat) (i : Nat)  (hF : Within 0x80000 F) :
    Keeps F s0 (netCount s port i) := by
  unfold netCount
  repeat' first
    | with_reducible assumption | (intro x; subst x) | lift_lets | with_reducible refine Keeps.mk_ ?_ rfl rfl id id

theorem execFrameReceive_keeps {F : Nat} {s0 : State} {s : State} (hs : Keeps F s0 s) (port : Fin 16) (sub : Fin 4) (bytes : List Byte) (fcsOk : Bool) (room : Bool) (ns : Nat)  (hF : Within 0x407c000000000000000000000000000080100 F) :
    Kept F s0 (execFrameReceive port sub bytes fcsOk room ns s) := by
  unfold execFrameReceive
  repeat' first
    | with_reducible assumption | with_reducible refine Keeps.ite ?_ ?_ | with_reducible refine Kept.next ?_
    | with_reducible refine netCount_keeps ?_ _ _ (hF.via rfl) | with_reducible refine classify_keeps ?_ _ _ _ _ (hF.via rfl)

theorem execLaneCheckDone_keeps {F : Nat} {s0 : State} {s : State} (hs : Keeps F s0 s) (port : Fin 16) (lane : Fin 4) (pass : Bool)  (hF : Within 0x4000018000000000000000000000000080000 F) :
    Kept F s0 (execLaneCheckDone port lane pass s) := by
  unfold execLaneCheckDone
  repeat' first
    | with_reducible assumption | (intro x; subst x) | with_reducible refine Keeps.ite ?_ ?_ | with_reducible refine Kept.next ?_
    | with_reducible refine laneChange_keeps ?_ _ _ (hF.via rfl) | with_reducible refine wrBit_keeps ?_ _ _ _ (hF.reg rfl) | lift_lets
    | with_reducible refine Keeps.mk_ ?_ rfl rfl id id

theorem execLaneFail_keeps {F : Nat} {s0 : State} {s : State} (hs : Keeps F s0 s) (port : Fin 16) (lane : Fin 4)  (hF : Within 0x1000000000000000000004000018000000000000000000000000080900 F) :
    Kept F s0 (execLaneFail port lane s) := by
  unfold execLaneFail
  repeat' first
    | with_reducible assumption | with_reducible refine Keeps.ite ?_ ?_ | with_reducible refine Kept.next ?_
    | with_reducible refine wrBit_keeps ?_ _ _ _ (hF.reg rfl) | with_reducible refine laneChange_keeps ?_ _ _ (hF.via rfl)
    | with_reducible refine irqCores_keeps ?_ _ _ (hF.via rfl) | with_reducible refine recordEvent_keeps ?_ _ _ _ _ _ _ _ (hF.via rfl)

theorem execLaserLoss_keeps {F : Nat} {s0 : State} {s : State} (hs : Keeps F s0 s) (input : Fin 4)  (hF : Within 0x1000000000000000000004000018000000000000000000000000080900 F) :
    Kept F s0 (execLaserLoss input s) := by
  unfold execLaserLoss
  repeat' first
    | with_reducible assumption | with_reducible intro _ | with_reducible refine Kept.ite ?_ ?_ | with_reducible refine Kept.next ?_
    | with_reducible refine forAll_keeps ?_ _ _ ?_ | with_reducible refine laneChange_keeps ?_ _ _ (hF.via rfl)
    | with_reducible refine wrFld_keeps ?_ _ _ _ _ (hF.reg rfl) | with_reducible refine irqCores_keeps ?_ _ _ (hF.via rfl)
    | with_reducible refine recordEvent_keeps ?_ _ _ _ _ _ _ _ (hF.via rfl)

theorem execLaserReturn_keeps {F : Nat} {s0 : State} {s : State} (hs : Keeps F s0 s) (input : Fin 4)  (hF : Within 0x10000000000000000000000000000000 F) :
    Kept F s0 (execLaserReturn input s) := by
  unfold execLaserReturn
  repeat' first
    | with_reducible assumption | with_reducible intro _ | with_reducible refine Kept.next ?_ | with_reducible refine forAll_keeps ?_ _ _ ?_
    | with_reducible refine wrFld_keeps ?_ _ _ _ _ (hF.reg rfl)

theorem execQueueSample_keeps {F : Nat} {s0 : State} {s : State} (hs : Keeps F s0 s) (ns : Nat)  (hF : Within 0x3000000000000000000000000000000080000 F) :
    Kept F s0 (execQueueSample ns s) := by
  unfold execQueueSample
  repeat' first
    | with_reducible assumption | with_reducible intro _ | with_reducible refine Kept.next ?_
    | with_reducible refine onQueue_keeps ?_ _ _ (hF.via rfl) | with_reducible refine wr_keeps ?_ _ _ (hF.reg rfl)
    | with_reducible refine forAll_keeps ?_ _ _ ?_

theorem execSubportRetrainDone_keeps {F : Nat} {s0 : State} {s : State} (hs : Keeps F s0 s) (port : Fin 16) (sub : Fin 4)  (hF : Within 0x10000000000000000000000000080000 F) :
    Kept F s0 (execSubportRetrainDone port sub s) := by
  unfold execSubportRetrainDone
  repeat' first
    | with_reducible assumption | with_reducible intro _ | with_reducible refine Keeps.ite ?_ ?_ | with_reducible refine Kept.next ?_
    | with_reducible refine wrBit_keeps ?_ _ _ _ (hF.reg rfl) | with_reducible refine wrFld_keeps ?_ _ _ _ _ (hF.reg rfl)
    | with_reducible refine forAll_keeps ?_ _ _ ?_ | with_reducible refine drainHeld_keeps ?_ _ _ (hF.via rfl)

theorem sendHead_keeps {F : Nat} {s0 : State} {s : State} (hs : Keeps F s0 s) (k : Nat) (ns : Nat)  (hF : Within 0x80200 F) :
    Keeps F s0 (sendHead s k ns) := by
  unfold sendHead
  repeat' first
    | with_reducible assumption | with_reducible refine onQueue_keeps ?_ _ _ (hF.via rfl) | with_reducible refine emit_keeps ?_ _ (hF.via rfl)
    | with_reducible refine netCount_keeps ?_ _ _ (hF.via rfl) | lift_lets | split | dsimp only

theorem schedule_keeps {F : Nat} {s0 : State} {s : State} (hs : Keeps F s0 s) (port : Nat) (sub : Nat) (ns : Nat) (hF : Within 0x80200 F) :
    KeepsOpt F s0 (schedule s port sub ns) := by
  unfold schedule
  lift_lets
  intro el
  split
  · exact KeepsOpt.none
  · refine ⟨fun t h => ?_⟩
    obtain ⟨r, hr, rfl⟩ := Option.map_eq_some_iff.1 h
    have h1 := (drrPick_keeps hs 700000 _ _ _ (hF.via rfl)).holds r.1 r.2 hr
    exact sendHead_keeps (h1.mk_ rfl rfl id id) _ _ (hF.via rfl)

theorem harrowStorage_keeps {F : Nat} {s0 : State} {s : State} (hs : Keeps F s0 s) (p : Nat)  (hF : Within 0x100280000000040aff000000000300000000000000000000000037cf0c F) :
    Keeps F s0 (harrowStorage s p) := by
  unfold harrowStorage
  repeat' first
    | with_reducible assumption | with_reducible intro _ | with_reducible refine forAll_keeps ?_ _ _ ?_
    | with_reducible refine stgReset_keeps ?_ _ (hF.via rfl) | with_reducible refine onStg_keeps ?_ _ (hF.via rfl)

theorem harrowRma_keeps {F : Nat} {s0 : State} {s : State} (hs : Keeps F s0 s) (p : Nat)  (hF : Within 0x3000000000000000000000000104700 F) :
    Keeps F s0 (harrowRma s p) := by
  unfold harrowRma
  repeat' first
    | with_reducible assumption | with_reducible intro _ | with_reducible refine forAll_keeps ?_ _ _ ?_
    | with_reducible refine onCtx_keeps ?_ _ _ (hF.via rfl) | with_reducible refine releaseCtx_keeps ?_ _ (hF.via rfl)
    | with_reducible refine refuseOwed_keeps ?_ _ (hF.via rfl) | with_reducible refine onRma_keeps ?_ _ (hF.via rfl)

theorem startHarrow_keeps {F : Nat} {s0 : State} {s : State} (hs : Keeps F s0 s) (p : Nat)  (hF : Within 0x100280020030840aff08840000078004080408247e6f003e6b1c7fefdc F) :
    Keeps F s0 (startHarrow s p) := by
  unfold startHarrow
  repeat' first
    | with_reducible assumption | with_reducible intro _ | with_reducible refine Keeps.ite ?_ ?_
    | with_reducible refine setPlt_keeps ?_ _ _ (hF.via rfl) | with_reducible refine eraseKey_keeps ?_ _ (hF.via rfl)
    | with_reducible refine forAll_keeps ?_ _ _ ?_ | with_reducible refine flushQueue_keeps ?_ _ (hF.via rfl)
    | with_reducible refine harrowClassifier_keeps ?_ _ (hF.via rfl) | with_reducible refine harrowKeys_keeps ?_ _ (hF.via rfl)
    | with_reducible refine harrowStorage_keeps ?_ _ (hF.via rfl) | with_reducible refine harrowRma_keeps ?_ _ (hF.via rfl)
    | with_reducible refine emptyBox_keeps ?_ _ (hF.via rfl) | with_reducible refine enterLoss_keeps ?_ _ (hF.via rfl)
    | with_reducible refine wrBit_keeps ?_ _ _ _ (hF.reg rfl) | with_reducible refine harrowOpen_keeps ?_ _ (hF.via rfl)
    | with_reducible refine harrowCkp_keeps ?_ _ (hF.via rfl)

theorem finishAbort_keeps {F : Nat} {s0 : State} {s : State} (hs : Keeps F s0 s) (p : Nat)  (hF : Within 0x100280068030840aff08844000078004880408277e6f003e6b1c7fefdc F) :
    Keeps F s0 (finishAbort s p) := by
  unfold finishAbort
  repeat' first
    | with_reducible assumption | with_reducible intro _ | with_reducible refine Keeps.ite ?_ ?_ | with_reducible refine wr_keeps ?_ _ _ (hF.reg rfl)
    | with_reducible refine endRevoke_keeps ?_ _ (hF.via rfl) | with_reducible refine releasePlan_keeps ?_ _ (hF.via rfl)
    | with_reducible refine clearPlot_keeps ?_ _ (hF.via rfl) | with_reducible refine forAll_keeps ?_ _ _ ?_
    | with_reducible refine fillLines_keeps ?_ _ (hF.via rfl) | with_reducible refine fillLogged_keeps ?_ _ (hF.via rfl)
    | with_reducible refine wrBit_keeps ?_ _ _ _ (hF.reg rfl) | with_reducible refine setPlt_keeps ?_ _ _ (hF.via rfl)
    | with_reducible refine wrFld_keeps ?_ _ _ _ _ (hF.reg rfl) | with_reducible refine onPlot_keeps ?_ _ _ (hF.via rfl)
    | with_reducible refine recordEvent_keeps ?_ _ _ _ _ _ _ _ (hF.via rfl) | with_reducible refine answerPlot_keeps ?_ _ (hF.via rfl)
    | with_reducible refine startHarrow_keeps ?_ _ (hF.via rfl) | with_reducible refine foldl_keeps ?_ _ _ ?_

theorem execAbortBlocksIdle_keeps {F : Nat} {s0 : State} {s : State} (hs : Keeps F s0 s) (p : Fin 12)  (hF : Within 0x100280068030840aff08844000078004880408277e6f003e6b1c7fefdc F) :
    Kept F s0 (execAbortBlocksIdle p s) := by
  unfold execAbortBlocksIdle
  repeat' first
    | with_reducible assumption | with_reducible refine Keeps.ite ?_ ?_ | with_reducible refine Kept.next ?_
    | with_reducible refine finishAbort_keeps ?_ _ (hF.via rfl)

theorem execAbortIdleTimeout_keeps {F : Nat} {s0 : State} {s : State} (hs : Keeps F s0 s) (p : Fin 12)  (hF : Within 0x100280068030840aff08844000078004880408277e6f003e6b1c7fefdc F) :
    Kept F s0 (execAbortIdleTimeout p s) := by
  unfold execAbortIdleTimeout
  repeat' first
    | with_reducible assumption | with_reducible intro _ | with_reducible refine Keeps.ite ?_ ?_ | with_reducible refine Kept.next ?_
    | with_reducible refine forAll_keeps ?_ _ _ ?_ | with_reducible refine wrBit_keeps ?_ _ _ _ (hF.reg rfl)
    | with_reducible refine forceBlock_keeps ?_ _ _ (hF.via rfl) | with_reducible refine finishAbort_keeps ?_ _ (hF.via rfl)

theorem execAbortRateWaitEnd_keeps {F : Nat} {s0 : State} {s : State} (hs : Keeps F s0 s) (p : Fin 12)  (hF : Within 0x100280020000040aff08040000030000000000040004000008007fcfcc F) :
    Kept F s0 (execAbortRateWaitEnd p s) := by
  unfold execAbortRateWaitEnd
  repeat' first
    | with_reducible assumption | with_reducible refine Keeps.ite ?_ ?_ | with_reducible refine Kept.next ?_
    | with_reducible refine startAbort_keeps ?_ _ (hF.via rfl)

theorem execPltAbort_keeps {F : Nat} {s0 : State} {s : State} (hs : Keeps F s0 s) (m : Msg)  (hF : Within 0x100280028000040aff08040000030000000000040004000008007fcfcc F) :
    Kept F s0 (execPltAbort m s) := by
  unfold execPltAbort
  repeat' first
    | with_reducible assumption | with_reducible intro _ | with_reducible refine Kept.next ?_
    | with_reducible refine serve_keeps ?_ _ _ _ ?_ (hF.via rfl) | with_reducible refine requestAbort_keeps ?_ _ _ _ (hF.via rfl)

theorem execPltHarrow_keeps {F : Nat} {s0 : State} {s : State} (hs : Keeps F s0 s) (m : Msg)  (hF : Within 0x100280028000040aff08040000030000000000040004000008007fcfcc F) :
    Kept F s0 (execPltHarrow m s) := by
  unfold execPltHarrow
  repeat' first
    | with_reducible assumption | with_reducible intro _ | with_reducible refine Kept.next ?_
    | with_reducible refine serve_keeps ?_ _ _ _ ?_ (hF.via rfl) | with_reducible refine requestAbort_keeps ?_ _ _ _ (hF.via rfl)

theorem execAckTimer_keeps {F : Nat} {s0 : State} {s : State} (hs : Keeps F s0 s) (cid : BitVec 16)  (hF : Within 0x1000000000000000000080000000000000000000000000000000180900 F) :
    Kept F s0 (execAckTimer cid s) := by
  unfold execAckTimer
  repeat' first
    | with_reducible assumption | with_reducible refine Keeps.ite ?_ ?_ | with_reducible refine Kept.next ?_
    | with_reducible refine sendAck_keeps ?_ _ (hF.via rfl)

theorem sendRnr_keeps {F : Nat} {s0 : State} {s : State} (hs : Keeps F s0 s) (cid : Nat) (pctr : DWord)  (hF : Within 0x80000 F) :
    Keeps F s0 (sendRnr s cid pctr) := by
  unfold sendRnr
  repeat' first
    | with_reducible assumption | with_reducible refine placeFrame_keeps ?_ _ _ (hF.via rfl)

theorem park_keeps {F : Nat} {s0 : State} {s : State} (hs : Keeps F s0 s) (code : Nat) (a : Arrival)  (hF : Within 0x80000000000000000000000000000000180100 F) :
    Keeps F s0 (park s code a) := by
  unfold park
  repeat' first
    | with_reducible assumption | with_reducible refine Keeps.ite ?_ ?_ | with_reducible refine sendRnr_keeps ?_ _ _ (hF.via rfl)
    | with_reducible refine count_keeps ?_ _ _ (hF.reg rfl) | with_reducible refine fetchStart_keeps ?_ _ (hF.via rfl)
    | with_reducible refine onRma_keeps ?_ _ (hF.via rfl)

theorem receivePkt_keeps {F : Nat} {s0 : State} {s : State} (hs : Keeps F s0 s) (code : Nat) (a : Arrival)  (hF : Within 0x100e80020000041bff68800000030000d80408247fef003e6b1c3fefdc F) :
    Keeps F s0 (receivePkt code a s) := by
  unfold receivePkt
  repeat' first
    | with_reducible assumption | (intro x; subst x) | with_reducible refine Keeps.ite ?_ ?_ | with_reducible refine count_keeps ?_ _ _ (hF.reg rfl)
    | with_reducible refine processPkt_keeps ?_ _ _ (hF.via rfl) | with_reducible refine cacheIn_keeps ?_ _ (hF.via rfl)
    | with_reducible refine park_keeps ?_ _ _ (hF.via rfl) | with_reducible refine KeepsOpt.getD ?_ ?_ | lift_lets
    | with_reducible refine Keeps.mk_ ?_ rfl rfl id id

theorem execBlockVerb_keeps {F : Nat} {s0 : State} {s : State} (hs : Keeps F s0 s) (code : Fin 4) (a : Arrival)  (hF : Within 0x100e80020000041bff68800000030000d80408247fef003e6b1c3fefdc F) :
    Kept F s0 (execBlockVerb code a s) := by
  unfold execBlockVerb
  repeat' first
    | with_reducible assumption | with_reducible refine Kept.next ?_ | with_reducible refine receivePkt_keeps ?_ _ _ (hF.via rfl)

theorem execContextFetchDone_keeps {F : Nat} {s0 : State} {s : State} (hs : Keeps F s0 s) (cid : BitVec 16)  (hF : Within 0x100e80020000041bff68800000030000d80408247fef003e6b1c3fefdc F) :
    Kept F s0 (execContextFetchDone cid s) := by
  unfold execContextFetchDone
  repeat' first
    | with_reducible assumption | with_reducible refine Kept.next ?_ | with_reducible refine fetchDone_keeps ?_ _ (hF.via rfl)

theorem execContextFetchFail_keeps {F : Nat} {s0 : State} {s : State} (hs : Keeps F s0 s) (cid : BitVec 16)  (hF : Within 0x80000000000000000000000000000000100100 F) :
    Kept F s0 (execContextFetchFail cid s) := by
  unfold execContextFetchFail
  repeat' first
    | with_reducible assumption | with_reducible refine Keeps.ite ?_ ?_ | with_reducible refine Kept.next ?_
    | with_reducible refine fetchFail_keeps ?_ _ (hF.via rfl)

theorem execEgressSchedule_keeps {F : Nat} {s0 : State} {s : State} (hs : Keeps F s0 s) (port : Fin 16) (sub : Fin 4) (ns : Nat)  (hF : Within 0x100e80020000040aff40800000030000080408247e6f003e6b1c3fefdc F) :
    Kept F s0 (execEgressSchedule port sub ns s) := by
  unfold execEgressSchedule
  repeat' first
    | with_reducible assumption | with_reducible intro _ | with_reducible refine Kept.next ?_
    | with_reducible refine schedule_keeps ?_ _ _ _ (hF.via rfl) | with_reducible refine forAll_keeps ?_ _ _ ?_
    | with_reducible refine drainHeld_keeps ?_ _ _ (hF.via rfl) | with_reducible refine pumpCtx_keeps ?_ _ (hF.via rfl)
    | with_reducible refine KeepsOpt.eq (by assumption) ?_ | lift_lets | split

theorem execKphaseWindowEnd_keeps {F : Nat} {s0 : State} {s : State} (hs : Keeps F s0 s) (cid : BitVec 16)  (hF : Within 0x100000 F) :
    Kept F s0 (execKphaseWindowEnd cid s) := by
  unfold execKphaseWindowEnd
  repeat' first
    | with_reducible assumption | with_reducible refine Keeps.ite ?_ ?_ | with_reducible refine Kept.next ?_
    | with_reducible refine onCtx_keeps ?_ _ _ (hF.via rfl)

theorem execOmfAck_keeps {F : Nat} {s0 : State} {s : State} (hs : Keeps F s0 s) (a : Arrival)  (hF : Within 0x100e80020000041bff68800000030000d80408247fef003e6b1c3fefdc F) :
    Kept F s0 (execOmfAck a s) := by
  unfold execOmfAck
  repeat' first
    | with_reducible assumption | with_reducible refine Kept.next ?_ | with_reducible refine receivePkt_keeps ?_ _ _ (hF.via rfl)

theorem execOmfAtomicResp_keeps {F : Nat} {s0 : State} {s : State} (hs : Keeps F s0 s) (a : Arrival)  (hF : Within 0x100e80020000041bff68800000030000d80408247fef003e6b1c3fefdc F) :
    Kept F s0 (execOmfAtomicResp a s) := by
  unfold execOmfAtomicResp
  repeat' first
    | with_reducible assumption | with_reducible refine Kept.next ?_ | with_reducible refine receivePkt_keeps ?_ _ _ (hF.via rfl)

theorem execOmfClose_keeps {F : Nat} {s0 : State} {s : State} (hs : Keeps F s0 s) (a : Arrival)  (hF : Within 0x100e80020000041bff68800000030000d80408247fef003e6b1c3fefdc F) :
    Kept F s0 (execOmfClose a s) := by
  unfold execOmfClose
  repeat' first
    | with_reducible assumption | with_reducible refine Kept.next ?_ | with_reducible refine receivePkt_keeps ?_ _ _ (hF.via rfl)

theorem execOmfCswap_keeps {F : Nat} {s0 : State} {s : State} (hs : Keeps F s0 s) (a : Arrival)  (hF : Within 0x100e80020000041bff68800000030000d80408247fef003e6b1c3fefdc F) :
    Kept F s0 (execOmfCswap a s) := by
  unfold execOmfCswap
  repeat' first
    | with_reducible assumption | with_reducible refine Kept.next ?_ | with_reducible refine receivePkt_keeps ?_ _ _ (hF.via rfl)

theorem execOmfFadd_keeps {F : Nat} {s0 : State} {s : State} (hs : Keeps F s0 s) (a : Arrival)  (hF : Within 0x100e80020000041bff68800000030000d80408247fef003e6b1c3fefdc F) :
    Kept F s0 (execOmfFadd a s) := by
  unfold execOmfFadd
  repeat' first
    | with_reducible assumption | with_reducible refine Kept.next ?_ | with_reducible refine receivePkt_keeps ?_ _ _ (hF.via rfl)

theorem execOmfNak_keeps {F : Nat} {s0 : State} {s : State} (hs : Keeps F s0 s) (a : Arrival)  (hF : Within 0x100e80020000041bff68800000030000d80408247fef003e6b1c3fefdc F) :
    Kept F s0 (execOmfNak a s) := by
  unfold execOmfNak
  repeat' first
    | with_reducible assumption | with_reducible refine Kept.next ?_ | with_reducible refine receivePkt_keeps ?_ _ _ (hF.via rfl)

theorem execOmfReadReq_keeps {F : Nat} {s0 : State} {s : State} (hs : Keeps F s0 s) (a : Arrival)  (hF : Within 0x100e80020000041bff68800000030000d80408247fef003e6b1c3fefdc F) :
    Kept F s0 (execOmfReadReq a s) := by
  unfold execOmfReadReq
  repeat' first
    | with_reducible assumption | with_reducible refine Kept.next ?_ | with_reducible refine receivePkt_keeps ?_ _ _ (hF.via rfl)

theorem execOmfReadResp_keeps {F : Nat} {s0 : State} {s : State} (hs : Keeps F s0 s) (a : Arrival)  (hF : Within 0x100e80020000041bff68800000030000d80408247fef003e6b1c3fefdc F) :
    Kept F s0 (execOmfReadResp a s) := by
  unfold execOmfReadResp
  repeat' first
    | with_reducible assumption | with_reducible refine Kept.next ?_ | with_reducible refine receivePkt_keeps ?_ _ _ (hF.via rfl)

theorem execOmfRnr_keeps {F : Nat} {s0 : State} {s : State} (hs : Keeps F s0 s) (a : Arrival)  (hF : Within 0x80000000000000000000000000000000180000 F) :
    Kept F s0 (execOmfRnr a s) := by
  unfold execOmfRnr
  repeat' first
    | with_reducible assumption | (intro x; subst x) | with_reducible refine Keeps.ite ?_ ?_ | with_reducible refine Kept.next ?_
    | with_reducible refine count_keeps ?_ _ _ (hF.reg rfl) | with_reducible refine onCtx_keeps ?_ _ _ (hF.via rfl) | lift_lets
    | with_reducible refine Keeps.mk_ ?_ rfl rfl id id

theorem execOmfSend_keeps {F : Nat} {s0 : State} {s : State} (hs : Keeps F s0 s) (a : Arrival)  (hF : Within 0x100e80020000041bff68800000030000d80408247fef003e6b1c3fefdc F) :
    Kept F s0 (execOmfSend a s) := by
  unfold execOmfSend
  repeat' first
    | with_reducible assumption | with_reducible refine Kept.next ?_ | with_reducible refine receivePkt_keeps ?_ _ _ (hF.via rfl)

theorem execOmfWrite_keeps {F : Nat} {s0 : State} {s : State} (hs : Keeps F s0 s) (a : Arrival)  (hF : Within 0x100e80020000041bff68800000030000d80408247fef003e6b1c3fefdc F) :
    Kept F s0 (execOmfWrite a s) := by
  unfold execOmfWrite
  repeat' first
    | with_reducible assumption | with_reducible refine Kept.next ?_ | with_reducible refine receivePkt_keeps ?_ _ _ (hF.via rfl)

theorem execOmfWriteImm_keeps {F : Nat} {s0 : State} {s : State} (hs : Keeps F s0 s) (a : Arrival)  (hF : Within 0x100e80020000041bff68800000030000d80408247fef003e6b1c3fefdc F) :
    Kept F s0 (execOmfWriteImm a s) := by
  unfold execOmfWriteImm
  repeat' first
    | with_reducible assumption | with_reducible refine Kept.next ?_ | with_reducible refine receivePkt_keeps ?_ _ _ (hF.via rfl)

theorem execOperationSlotGrant_keeps {F : Nat} {s0 : State} {s : State} (hs : Keeps F s0 s)  (hF : Within 0x100e80020000040aff68800000030000080408247e6f003e6b1c3fefdc F) :
    Kept F s0 (execOperationSlotGrant s) := by
  unfold execOperationSlotGrant
  repeat' first
    | with_reducible assumption | with_reducible refine Kept.next ?_ | with_reducible refine startOp_keeps ?_ _ (hF.via rfl)
    | with_reducible refine onRma_keeps ?_ _ (hF.via rfl) | with_reducible refine takeWork_keeps ?_ _ _ (hF.via rfl) | lift_lets | split | dsimp only

theorem execRekey_keeps {F : Nat} {s0 : State} {s : State} (hs : Keeps F s0 s) (a : Arrival)  (hF : Within 0x100e80020000041bff68800000030000d80408247fef003e6b1c3fefdc F) :
    Kept F s0 (execRekey a s) := by
  unfold execRekey
  repeat' first
    | with_reducible assumption | with_reducible refine Kept.next ?_ | with_reducible refine receivePkt_keeps ?_ _ _ (hF.via rfl)

theorem execRekeyAck_keeps {F : Nat} {s0 : State} {s : State} (hs : Keeps F s0 s) (a : Arrival)  (hF : Within 0x100e80020000041bff68800000030000d80408247fef003e6b1c3fefdc F) :
    Kept F s0 (execRekeyAck a s) := by
  unfold execRekeyAck
  repeat' first
    | with_reducible assumption | with_reducible refine Kept.next ?_ | with_reducible refine receivePkt_keeps ?_ _ _ (hF.via rfl)

theorem execRekeyTimeout_keeps {F : Nat} {s0 : State} {s : State} (hs : Keeps F s0 s) (cid : BitVec 16)  (hF : Within 0x100e80020000040aff68800000030000080408247e6f003e6b1c3fefdc F) :
    Kept F s0 (execRekeyTimeout cid s) := by
  unfold execRekeyTimeout
  repeat' first
    | with_reducible assumption | with_reducible refine Keeps.ite ?_ ?_ | with_reducible refine Kept.next ?_
    | with_reducible refine unfenceAll_keeps ?_ (hF.via rfl) | with_reducible refine endContext_keeps ?_ _ _ _ (hF.via rfl)

theorem resendOp_keeps {F : Nat} {s0 : State} (cid : Nat) (r : State × Nat) (o : RmaOp) (h : KeepsFst F s0 r) (hF : Within 0x1000000000000000000080000000000000000000000000000000180900 F) :
    KeepsFst F s0 (resendOp cid r o) := by
  unfold resendOp
  obtain ⟨s, n⟩ := r
  have h : Keeps F s0 s := h.holds
  repeat' first
    | with_reducible assumption | (intro x; subst x) | with_reducible intro _ | with_reducible refine KeepsFst.ite ?_ ?_
    | with_reducible refine sendPkt_keeps ?_ _ _ _ (hF.via rfl) | with_reducible refine onCtx_keeps ?_ _ _ (hF.via rfl)
    | with_reducible refine putOp_keeps ?_ _ (hF.via rfl) | with_reducible refine foldlFst_keeps ?_ _ _ ?_ | with_reducible refine KeepsFst.fst ?_
    | lift_lets | split | with_reducible refine KeepsFst.of ?_

theorem resendAll_keeps {F : Nat} {s0 : State} {s : State} (hs : Keeps F s0 s) (cid : Nat) (hF : Within 0x1000000000000000000080000000000000000000000000000000180900 F) :
    KeepsFst F s0 (resendAll s cid) :=
  foldlFst_keeps (KeepsFst.of hs) _ _ (fun p o h => resendOp_keeps cid p o h (hF.via rfl))

theorem execRetransmitTimeout_keeps {F : Nat} {s0 : State} {s : State} (hs : Keeps F s0 s) (cid : BitVec 16)  (hF : Within 0x100e80020000040aff68800000030000080408247e6f003e6b1c3fefdc F) :
    Kept F s0 (execRetransmitTimeout cid s) := by
  unfold execRetransmitTimeout
  repeat' first
    | with_reducible assumption | with_reducible refine Keeps.ite ?_ ?_ | with_reducible refine Kept.next ?_
    | with_reducible refine unfenceAll_keeps ?_ (hF.via rfl) | with_reducible refine endContext_keeps ?_ _ _ _ (hF.via rfl)
    | with_reducible refine KeepsFst.fst (resendAll_keeps ?_ _ (hF.via rfl)) | with_reducible refine onCtx_keeps ?_ _ _ (hF.via rfl)
    | with_reducible refine count_keeps ?_ _ _ (hF.reg rfl)

theorem execRnrResend_keeps {F : Nat} {s0 : State} {s : State} (hs : Keeps F s0 s) (cid : BitVec 16)  (hF : Within 0x100e80020000040aff40800000030000080408247e6f003e6b1c3fefdc F) :
    Kept F s0 (execRnrResend cid s) := by
  unfold execRnrResend
  repeat' first
    | with_reducible assumption | with_reducible refine Keeps.ite ?_ ?_ | with_reducible refine Kept.next ?_
    | with_reducible refine pumpCtx_keeps ?_ _ (hF.via rfl) | with_reducible refine KeepsFst.fst (resendAll_keeps ?_ _ (hF.via rfl))
    | with_reducible refine onCtx_keeps ?_ _ _ (hF.via rfl)

theorem allocCtx_keeps {F : Nat} {s0 : State} {s : State} (hs : Keeps F s0 s) (cid : Nat) (f : Ctx → Ctx)  (hF : Within 0x100000 F) :
    Keeps F s0 (allocCtx s cid f) := by
  unfold allocCtx
  repeat' first
    | with_reducible assumption | with_reducible refine onCtx_keeps ?_ _ _ (hF.via rfl)

theorem newKeys_keeps {F : Nat} {s0 : State} {s : State} (hs : Keeps F s0 s) (cid : Nat)  (hF : Within 0x100000 F) :
    Keeps F s0 (newKeys s cid) := by
  unfold newKeys
  repeat' first
    | with_reducible assumption | with_reducible refine onCtx_keeps ?_ _ _ (hF.via rfl)

theorem execOpenAck_keeps {F : Nat} {s0 : State} {s : State} (hs : Keeps F s0 s) (cid : BitVec 16) (ctag : BitVec 16) (ver : Byte) (q : OpenPkt)  (hF : Within 0x80000003000000000000000000000000104700 F) :
    Kept F s0 (execOpenAck cid ctag ver q s) := by
  unfold execOpenAck
  repeat' first
    | with_reducible assumption | with_reducible refine Keeps.ite ?_ ?_ | with_reducible refine Kept.next ?_
    | with_reducible refine count_keeps ?_ _ _ (hF.reg rfl) | with_reducible refine newKeys_keeps ?_ _ (hF.via rfl)
    | with_reducible refine onCtx_keeps ?_ _ _ (hF.via rfl) | with_reducible refine answer_keeps ?_ _ _ _ _ _ _ _ (hF.via rfl)
    | with_reducible refine irqCores_keeps ?_ _ _ (hF.via rfl) | lift_lets | split

theorem refuseOpen_keeps {F : Nat} {s0 : State} {s : State} (hs : Keeps F s0 s) (q : OpenPkt)  (hF : Within 0x80000 F) :
    Keeps F s0 (refuseOpen s q) := by
  unfold refuseOpen
  repeat' first
    | with_reducible assumption | with_reducible refine placeFrame_keeps ?_ _ _ (hF.via rfl)

theorem sendOpen_keeps {F : Nat} {s0 : State} {s : State} (hs : Keeps F s0 s) (cid : Nat) (op : Nat) (ver : Nat)  (hF : Within 0x80000 F) :
    Keeps F s0 (sendOpen s cid op ver) := by
  unfold sendOpen
  repeat' first
    | with_reducible assumption | with_reducible refine placeFrame_keeps ?_ _ _ (hF.via rfl)

theorem execOpenReq_keeps {F : Nat} {s0 : State} {s : State} (hs : Keeps F s0 s) (q : OpenPkt) (plot : Fin 13)  (hF : Within 0x80000000000000000000000000000000180110 F) :
    Kept F s0 (execOpenReq q plot s) := by
  unfold execOpenReq
  repeat' first
    | with_reducible assumption | with_reducible refine Keeps.ite ?_ ?_ | with_reducible refine Kept.next ?_
    | with_reducible refine count_keeps ?_ _ _ (hF.reg rfl) | with_reducible refine irqCores_keeps ?_ _ _ (hF.via rfl)
    | with_reducible refine refuseOpen_keeps ?_ _ (hF.via rfl) | with_reducible refine allocCtx_keeps ?_ _ _ (hF.via rfl)
    | with_reducible refine draw_keeps ?_ (hF.bit rfl) | with_reducible refine newKeys_keeps ?_ _ (hF.via rfl)
    | with_reducible refine onCtx_keeps ?_ _ _ (hF.via rfl) | with_reducible refine cacheIn_keeps ?_ _ (hF.via rfl)
    | with_reducible refine sendOpen_keeps ?_ _ _ _ (hF.via rfl) | with_reducible refine KeepsOpt.getD ?_ ?_ | lift_lets | split

theorem execRevokeComplete_keeps {F : Nat} {s0 : State} {s : State} (hs : Keeps F s0 s) (index : BitVec 18)  (hF : Within 0x3000000000000000000000000184700 F) :
    Kept F s0 (execRevokeComplete index s) := by
  unfold execRevokeComplete
  repeat' first
    | with_reducible assumption | with_reducible refine Keeps.ite ?_ ?_ | with_reducible refine Kept.next ?_
    | with_reducible refine endRevoke_keeps ?_ _ (hF.via rfl) | split

theorem execRmaClose_keeps {F : Nat} {s0 : State} {s : State} (hs : Keeps F s0 s) (m : Msg) (dcid : Word)  (hF : Within 0x100e80020000040aff68800000030000080408247e6f003e6b1c3fefdc F) :
    Kept F s0 (execRmaClose m dcid s) := by
  unfold execRmaClose
  repeat' first
    | with_reducible assumption | with_reducible intro _ | with_reducible refine Keeps.ite ?_ ?_ | with_reducible refine Kept.next ?_
    | with_reducible refine serve_keeps ?_ _ _ _ ?_ (hF.via rfl) | with_reducible refine respond_keeps ?_ _ _ _ _ _ (hF.via rfl)
    | with_reducible refine sendPkt_keeps ?_ _ _ _ (hF.via rfl) | with_reducible refine releaseCtx_keeps ?_ _ (hF.via rfl)
    | with_reducible refine unfenceAll_keeps ?_ (hF.via rfl) | with_reducible refine endContext_keeps ?_ _ _ _ (hF.via rfl)

theorem execRmaOpen_keeps {F : Nat} {s0 : State} {s : State} (hs : Keeps F s0 s) (m : Msg) (addr : BitVec 128) (port : BitVec 16) (keyId : Word) (deliver : Fin 4) (recvKey : Word) (hostStore : Bool) (ipv6 : Bool)  (hF : Within 0x3000000000000000000000000184710 F) :
    Kept F s0 (execRmaOpen m addr port keyId deliver recvKey hostStore ipv6 s) := by
  unfold execRmaOpen
  repeat' first
    | with_reducible assumption | with_reducible intro _ | with_reducible refine Keeps.ite ?_ ?_ | with_reducible refine Kept.next ?_
    | with_reducible refine serve_keeps ?_ _ _ _ ?_ (hF.via rfl) | with_reducible refine respond_keeps ?_ _ _ _ _ _ (hF.via rfl)
    | with_reducible refine allocCtx_keeps ?_ _ _ (hF.via rfl) | with_reducible refine draw_keeps ?_ (hF.bit rfl)
    | with_reducible refine onCtx_keeps ?_ _ _ (hF.via rfl) | with_reducible refine sendOpen_keeps ?_ _ _ _ (hF.via rfl)
    | with_reducible refine cacheIn_keeps ?_ _ (hF.via rfl) | with_reducible refine KeepsOpt.getD ?_ ?_ | lift_lets | split

theorem execRmaReg_keeps {F : Nat} {s0 : State} {s : State} (hs : Keeps F s0 s) (m : Msg) (base : Nat) (len : Nat) (read : Bool) (write : Bool) (atomic : Bool)  (hF : Within 0x3000000000000000000000000104700 F) :
    Kept F s0 (execRmaReg m base len read write atomic s) := by
  unfold execRmaReg
  repeat' first
    | with_reducible assumption | with_reducible intro _ | with_reducible refine Keeps.ite ?_ ?_ | with_reducible refine Kept.next ?_
    | with_reducible refine serve_keeps ?_ _ _ _ ?_ (hF.via rfl) | with_reducible refine respond_keeps ?_ _ _ _ _ _ (hF.via rfl)
    | with_reducible refine setRegion_keeps ?_ _ _ (hF.via rfl) | lift_lets | split

theorem execRmaRekey_keeps {F : Nat} {s0 : State} {s : State} (hs : Keeps F s0 s) (m : Msg) (dcid : Word)  (hF : Within 0x1000000000000000000080000003000000000000000000000000184f10 F) :
    Kept F s0 (execRmaRekey m dcid s) := by
  unfold execRmaRekey
  repeat' first
    | with_reducible assumption | with_reducible intro _ | with_reducible refine Keeps.ite ?_ ?_ | with_reducible refine Kept.next ?_
    | with_reducible refine serve_keeps ?_ _ _ _ ?_ (hF.via rfl) | with_reducible refine respond_keeps ?_ _ _ _ _ _ (hF.via rfl)
    | with_reducible refine onCtx_keeps ?_ _ _ (hF.via rfl) | with_reducible refine draw_keeps ?_ (hF.bit rfl)
    | with_reducible refine sendPkt_keeps ?_ _ _ _ (hF.via rfl)

theorem execRmaRevoke_keeps {F : Nat} {s0 : State} {s : State} (hs : Keeps F s0 s) (m : Msg) (key : Word)  (hF : Within 0x3000000000000000000000000184700 F) :
    Kept F s0 (execRmaRevoke m key s) := by
  unfold execRmaRevoke
  repeat' first
    | with_reducible assumption | with_reducible intro _ | with_reducible refine Keeps.ite ?_ ?_ | with_reducible refine Kept.next ?_
    | with_reducible refine serve_keeps ?_ _ _ _ ?_ (hF.via rfl) | with_reducible refine respond_keeps ?_ _ _ _ _ _ (hF.via rfl)
    | with_reducible refine startRevoke_keeps ?_ _ (hF.via rfl)

theorem execAbortSettleTimeout_keeps {F : Nat} {s0 : State} {s : State} (hs : Keeps F s0 s) (n : Fin 64)  (hF : Within 0x100280000000040aff000000000300000000000000000000000037cf0c F) :
    Kept F s0 (execAbortSettleTimeout n s) := by
  unfold execAbortSettleTimeout
  repeat' first
    | with_reducible assumption | with_reducible refine Keeps.ite ?_ ?_ | with_reducible refine Kept.next ?_
    | with_reducible refine stgSettled_keeps ?_ _ (hF.via rfl) | with_reducible refine dropOp_keeps ?_ _ (hF.via rfl) | split

theorem execChannelDoze_keeps {F : Nat} {s0 : State} {s : State} (hs : Keeps F s0 s) (n : Fin 64)  (hF : Within 0x2000000000000000000000000000000000000000000 F) :
    Kept F s0 (execChannelDoze n s) := by
  unfold execChannelDoze
  repeat' first
    | with_reducible assumption | with_reducible refine Keeps.ite ?_ ?_ | with_reducible refine Kept.next ?_
    | with_reducible refine wrFld_keeps ?_ _ _ _ _ (hF.reg rfl)

theorem execChannelPowerOff_keeps {F : Nat} {s0 : State} {s : State} (hs : Keeps F s0 s) (m : Master) (n : Fin 64)  (hF : Within 0x2000000000000000000000000000000000000200000 F) :
    Kept F s0 (execChannelPowerOff m n s) := by
  unfold execChannelPowerOff
  repeat' first
    | with_reducible assumption | with_reducible refine Keeps.ite ?_ ?_ | with_reducible refine Kept.next ?_
    | with_reducible refine stgOff_keeps ?_ _ (hF.via rfl)

theorem execChannelReset_keeps {F : Nat} {s0 : State} {s : State} (hs : Keeps F s0 s) (m : Master) (n : Fin 64)  (hF : Within 0x100280000000040aff000000000300000000000000000000000037cf0c F) :
    Kept F s0 (execChannelReset m n s) := by
  unfold execChannelReset
  repeat' first
    | with_reducible assumption | with_reducible refine Keeps.ite ?_ ?_ | with_reducible refine Kept.next ?_
    | with_reducible refine stgReset_keeps ?_ _ (hF.via rfl)

theorem execStgBind_keeps {F : Nat} {s0 : State} {s : State} (hs : Keeps F s0 s) (m : Msg) (dcid : Word) (nsid : Word) (capacity : Nat) (readOnly : Bool) (owner : Fin 16)  (hF : Within 0x3000000000000000000000000204700 F) :
    Kept F s0 (execStgBind m dcid nsid capacity readOnly owner s) := by
  unfold execStgBind
  repeat' first
    | with_reducible assumption | (intro x; clear_value x) | with_reducible intro _ | with_reducible refine Keeps.ite ?_ ?_
    | with_reducible refine Kept.next ?_ | with_reducible refine serve_keeps ?_ _ _ _ ?_ (hF.via rfl)
    | with_reducible refine respond_keeps ?_ _ _ _ _ _ (hF.via rfl) | with_reducible refine onStg_keeps ?_ _ (hF.via rfl) | lift_lets | split

theorem execStgDealloc_keeps {F : Nat} {s0 : State} {s : State} (hs : Keeps F s0 s) (m : Master) (n : Fin 64) (irq : Bool) (nsb : Byte) (tag : Half)  (hF : Within 0x100e80020000044bff40800000030000080408247e6f003e6b1c3fefdc F) :
    Kept F s0 (execStgDealloc m n irq nsb tag s) := by
  unfold execStgDealloc
  repeat' first
    | with_reducible assumption | with_reducible refine Kept.next ?_ | with_reducible refine stgGo_keeps ?_ _ _ _ _ _ _ (hF.via rfl)

theorem execStgFlush_keeps {F : Nat} {s0 : State} {s : State} (hs : Keeps F s0 s) (m : Master) (n : Fin 64) (irq : Bool) (nsb : Byte) (tag : Half)  (hF : Within 0x100e80020000044bff40800000030000080408247e6f003e6b1c3fefdc F) :
    Kept F s0 (execStgFlush m n irq nsb tag s) := by
  unfold execStgFlush
  repeat' first
    | with_reducible assumption | with_reducible refine Kept.next ?_ | with_reducible refine stgGo_keeps ?_ _ _ _ _ _ _ (hF.via rfl)

theorem execStgQuery_keeps {F : Nat} {s0 : State} {s : State} (hs : Keeps F s0 s) (m : Msg) (index : Byte)  (hF : Within 0x3000000000000000000000000004700 F) :
    Kept F s0 (execStgQuery m index s) := by
  unfold execStgQuery
  repeat' first
    | with_reducible assumption | with_reducible intro _ | with_reducible refine Keeps.ite ?_ ?_ | with_reducible refine Kept.next ?_
    | with_reducible refine serve_keeps ?_ _ _ _ ?_ (hF.via rfl) | with_reducible refine respond_keeps ?_ _ _ _ _ _ (hF.via rfl) | split

theorem execStgRead_keeps {F : Nat} {s0 : State} {s : State} (hs : Keeps F s0 s) (m : Master) (n : Fin 64) (irq : Bool) (nsb : Byte) (tag : Half)  (hF : Within 0x100e80020000044bff40800000030000080408247e6f003e6b1c3fefdc F) :
    Kept F s0 (execStgRead m n irq nsb tag s) := by
  unfold execStgRead
  repeat' first
    | with_reducible assumption | with_reducible refine Kept.next ?_ | with_reducible refine stgGo_keeps ?_ _ _ _ _ _ _ (hF.via rfl)

theorem execStgUnbind_keeps {F : Nat} {s0 : State} {s : State} (hs : Keeps F s0 s) (m : Msg) (index : Byte)  (hF : Within 0x3000000000000000000000000204700 F) :
    Kept F s0 (execStgUnbind m index s) := by
  unfold execStgUnbind
  repeat' first
    | with_reducible assumption | with_reducible intro _ | with_reducible refine Keeps.ite ?_ ?_ | with_reducible refine Kept.next ?_
    | with_reducible refine serve_keeps ?_ _ _ _ ?_ (hF.via rfl) | with_reducible refine respond_keeps ?_ _ _ _ _ _ (hF.via rfl)
    | with_reducible refine stgUnbindDone_keeps ?_ _ (hF.via rfl) | with_reducible refine onStg_keeps ?_ _ (hF.via rfl) | split

theorem execStgWrite_keeps {F : Nat} {s0 : State} {s : State} (hs : Keeps F s0 s) (m : Master) (n : Fin 64) (irq : Bool) (nsb : Byte) (tag : Half)  (hF : Within 0x100e80020000044bff40800000030000080408247e6f003e6b1c3fefdc F) :
    Kept F s0 (execStgWrite m n irq nsb tag s) := by
  unfold execStgWrite
  repeat' first
    | with_reducible assumption | with_reducible refine Kept.next ?_ | with_reducible refine stgGo_keeps ?_ _ _ _ _ _ _ (hF.via rfl)

end Sys2Proof.Machine
end

