-- ==== Sys2Proof/Laws/KeepsCores.lean ====
section
/-! SUPPORT. What Keeps says of register accesses and the commands of the Novdy cores, and of what rests on
them: one lemma an operation. -/
set_option Elab.async false
namespace Sys2Proof.Machine

theorem clearSources_keeps {F : Nat} {s0 : State} {s : State} (hs : Keeps F s0 s) (c : Nat) (a : Word)  (hF : Within 0x100 F) :
    Keeps F s0 (clearSources s c a) := by
  unfold clearSources
  repeat' first
    | with_reducible assumption | with_reducible refine onCore_keeps ?_ _ _ (hF.via rfl)

theorem after_keeps {F : Nat} {s0 s : State} (hs : Keeps F s0 s) {o : Host.Outcome State Fault Refusal} (ho : Kept F s0 o) : Keeps F s0 (after s o) := by
  unfold after
  split
  · exact ho.holds _ rfl
  · exact hs

theorem regLatch_keeps {F : Nat} {s0 : State} {s : State} (hs : Keeps F s0 s) (e : Nat) (r : Reg)  (hF : Within 0x120000000000000000000000040000000000010000000800080000000 F) :
    Keeps F s0 (regLatch s e r) := by
  unfold regLatch
  repeat' first
    | with_reducible assumption | with_reducible refine wr_keeps ?_ _ _ (hF.reg rfl) | split

theorem regLoad_keeps {F : Nat} {s0 : State} {s : State} (hs : Keeps F s0 s) (m : Master) (off : Nat)  (hF : Within 0x120000000000000000000000040000000000010000000800080000000 F) :
    KeepsSnd F s0 (regLoad s m off) := by
  unfold regLoad
  repeat' first
    | with_reducible assumption | with_reducible refine regLatch_keeps ?_ _ _ (hF.via rfl) | split | with_reducible refine KeepsSnd.of ?_

theorem coreRegRead_keeps {F : Nat} {s0 s : State} (hs : Keeps F s0 s) (m : Master) (off : Nat) (hF : Within 0x1120800200001000000000000040000008000014700000800080178bcc F) :
    KeepsSnd F s0 (coreRegRead s m off) := by
  unfold coreRegRead
  split
  · rename_i t o _
    have h1 := after_keeps hs (execApertureAccess_keeps hs m (Fin.ofNat 128 t) (BitVec.ofNat 12 o) false none .clean (hF.via rfl))
    simp only
    split
    · exact KeepsSnd.of (h1.mk_ rfl rfl id id)
    · exact KeepsSnd.of h1
  · exact regLoad_keeps hs m off (hF.via rfl)

theorem takeRings_keeps {F : Nat} {s0 : State} {s : State} (hs : Keeps F s0 s) (c : Nat) (o : Nat)  (hF : Within 0x80000 F) :
    Keeps F s0 (takeRings s c o) := by
  unfold takeRings
  repeat' first
    | with_reducible assumption | (intro x; subst x) | lift_lets | split | with_reducible refine Keeps.mk_ ?_ rfl rfl id id

theorem coreLoad_keeps {F : Nat} {s0 : State} {s : State} (hs : Keeps F s0 s) (c : Nat) (a : Word) (n : Nat)  (hF : Within 0x11208002000010000000000000400000080000147000008000801f8bdc F) :
    KeepsSnd F s0 (coreLoad s c a n) := by
  unfold coreLoad
  repeat' first
    | with_reducible assumption | (intro x; refine keepsSnd_cut (F := F) (s0 := s0) x ?_ ?_ <;> [subst x; (clear_value x; intro _)])
    | (intro x; subst x) | with_reducible refine clearSources_keeps ?_ _ _ (hF.via rfl) | with_reducible refine coreIrq_keeps ?_ _ _ (hF.via rfl)
    | with_reducible refine coreRegRead_keeps ?_ _ _ (hF.via rfl) | with_reducible refine takeRings_keeps ?_ _ _ (hF.via rfl)
    | with_reducible refine draw_keeps ?_ (hF.bit rfl) | with_reducible refine KeepsSnd.snd ?_ | lift_lets | split
    | with_reducible refine KeepsSnd.of ?_

theorem storeArrGrp_keeps {F : Nat} {s0 : State} {s : State} (hs : Keeps F s0 s) (t : Nat) (g : Nat) (v : Word)  (hF : Within 0x40800000000000800002040 F) :
    Keeps F s0 (storeArrGrp s t g v) := by
  unfold storeArrGrp
  repeat' first
    | with_reducible assumption | with_reducible refine fallowReq_keeps ?_ _ _ _ (hF.via rfl) | with_reducible refine after_keeps ?_ ?_
    | with_reducible refine execRetiredNext_keeps ?_ _ _ _ (hF.via rfl)

theorem storeCalCtrl_keeps {F : Nat} {s0 : State} {s : State} (hs : Keeps F s0 s) (t : Nat) (v : Word)  (hF : Within 0x122000000000000 F) :
    Keeps F s0 (storeCalCtrl s t v) := by
  unfold storeCalCtrl
  repeat' first
    | with_reducible assumption | with_reducible refine Keeps.ite ?_ ?_ | with_reducible refine wrFld_keeps ?_ _ _ _ _ (hF.reg rfl)
    | with_reducible refine after_keeps ?_ ?_ | with_reducible refine execFgReq_keeps ?_ _ (hF.via rfl)
    | with_reducible refine execRecalReq_keeps ?_ _ (hF.via rfl)

theorem storePctrl_keeps {F : Nat} {s0 : State} {s : State} (hs : Keeps F s0 s) (m : Master) (p : Nat) (v : Word)  (hF : Within 0x10008002000000000000000000030000080408267e6f003e6b1c17efdc F) :
    Keeps F s0 (storePctrl s m p v) := by
  unfold storePctrl
  repeat' first
    | with_reducible assumption | with_reducible refine Keeps.ite ?_ ?_ | with_reducible refine holdJob_keeps ?_ _ (hF.via rfl)
    | with_reducible refine after_keeps ?_ ?_ | with_reducible refine execHoldResume_keeps ?_ _ (hF.via rfl)
    | with_reducible refine execHalt_keeps ?_ _ _ (hF.via rfl)

theorem clearInfo_keeps {F : Nat} {s0 s : State} (hs : Keeps F s0 s) (r : Reg) (hF : Within 0x204000040010000000 F) : Keeps F s0 (clearInfo s r) := by
  have h : ∀ x, infoOf r = some x → x.1.within F = true := by
    intro x hx
    unfold infoOf at hx
    split at hx <;> first | (cases hx; exact hF.reg rfl) | cases hx
  unfold clearInfo
  split
  · exact Keeps.ite (wrBit_keeps hs _ _ _ (h _ ‹_›)) hs
  · exact hs

theorem plainWrite_keeps {F : Nat} {s0 s : State} (hs : Keeps F s0 s) (r : Reg) (v : Word) (hF : Within 0x1ffffffffffffffffffffffffffffffffffffffffffffffffffff000000 F) : Keeps F s0 (plainWrite s r v) := by
  unfold plainWrite
  exact clearInfo_keeps (wr_keeps hs _ _ (hF.reg (Within.reg (h := by exact rfl) (anyReg_bit r)))) _ (hF.via rfl)

theorem storeFsel_keeps {F : Nat} {s0 : State} {s : State} (hs : Keeps F s0 s) (v : Word)  (hF : Within 0x1ffffffffffffffffffffffffffffffffffffffffffffffffffff002000 F) :
    Keeps F s0 (storeFsel s v) := by
  unfold storeFsel
  repeat' first
    | with_reducible assumption | (intro x; refine keeps_cut (F := F) (s0 := s0) x ?_ ?_ <;> [subst x; (clear_value x; intro _)])
    | (intro x; subst x) | with_reducible refine wr_keeps ?_ _ _ (hF.reg rfl) | with_reducible refine plainWrite_keeps ?_ _ _ (hF.via rfl) | lift_lets
    | with_reducible refine Keeps.mk_ ?_ rfl rfl id id

theorem writeIf_keeps {F : Nat} {s0 : State} {s : State} (hs : Keeps F s0 s) (ok : Bool) (r : Reg) (v : Word)  (hF : Within 0x1ffffffffffffffffffffffffffffffffffffffffffffffffffff000000 F) :
    Keeps F s0 (writeIf s ok r v) := by
  unfold writeIf
  repeat' first
    | with_reducible assumption | with_reducible refine Keeps.ite ?_ ?_ | with_reducible refine plainWrite_keeps ?_ _ _ (hF.via rfl)

theorem storeRgn_keeps {F : Nat} {s0 : State} {s : State} (hs : Keeps F s0 s) (m : Master) (n : Nat) (r : Reg) (most : Nat) (v : Word)  (hF : Within 0x1ffffffffffffffffffffffffffffffffffffffffffffffffffff000800 F) :
    Keeps F s0 (storeRgn s m n r most v) := by
  unfold storeRgn
  repeat' first
    | with_reducible assumption | with_reducible refine Keeps.ite ?_ ?_ | with_reducible refine regionWriteRefused_keeps ?_ _ _ (hF.via rfl)
    | with_reducible refine writeIf_keeps ?_ _ _ _ (hF.via rfl)

theorem storeRgnctl_keeps {F : Nat} {s0 : State} {s : State} (hs : Keeps F s0 s) (m : Master) (n : Nat) (v : Word)  (hF : Within 0x1000000000000000000000000000000480000000000000000000068814 F) :
    Keeps F s0 (storeRgnctl s m n v) := by
  unfold storeRgnctl
  repeat' first
    | with_reducible assumption | with_reducible refine Keeps.ite ?_ ?_ | with_reducible refine after_keeps ?_ ?_
    | with_reducible refine execRegionEnable_keeps ?_ _ _ (hF.via rfl) | with_reducible refine execRegionDisable_keeps ?_ _ _ (hF.via rfl)

theorem storeLdis_keeps {F : Nat} {s0 : State} {s : State} (hs : Keeps F s0 s) (m : Master) (p : Nat) (v : Word)  (hF : Within 0x4000018000000000000000000000000080000 F) :
    Keeps F s0 (storeLdis s m p v) := by
  unfold storeLdis
  repeat' first
    | with_reducible assumption | with_reducible intro _ | with_reducible refine Keeps.ite ?_ ?_ | with_reducible refine forAll_keeps ?_ _ _ ?_
    | with_reducible refine laneChange_keeps ?_ _ _ (hF.via rfl) | with_reducible refine wrBit_keeps ?_ _ _ _ (hF.reg rfl)
    | with_reducible refine after_keeps ?_ ?_ | with_reducible refine execLaneReenable_keeps ?_ _ _ _ (hF.via rfl)

theorem storePcfg_keeps {F : Nat} {s0 : State} {s : State} (hs : Keeps F s0 s) (m : Master) (p : Nat) (v : Word)  (hF : Within 0x4000018000000000000000000000000080000 F) :
    Keeps F s0 (storePcfg s m p v) := by
  unfold storePcfg
  repeat' first
    | with_reducible assumption | with_reducible refine Keeps.ite ?_ ?_ | with_reducible refine wrFld_keeps ?_ _ _ _ _ (hF.reg rfl)
    | with_reducible refine storeLdis_keeps ?_ _ _ _ (hF.via rfl)

theorem setNetCount_keeps {F : Nat} {s0 : State} {s : State} (hs : Keeps F s0 s) (port : Nat) (i : Nat) (v : Word)  (hF : Within 0x80000 F) :
    Keeps F s0 (setNetCount s port i v) := by
  unfold setNetCount
  repeat' first
    | with_reducible assumption | (intro x; subst x) | lift_lets | with_reducible refine Keeps.mk_ ?_ rfl rfl id id

theorem storePart_keeps {F : Nat} {s0 : State} {s : State} (hs : Keeps F s0 s) (m : Master) (mk : Nat → Reg) (q : Nat) (v : Word)  (hF : Within 0x1ffffffffffffffffffffffffffffffffffffffffffffffffffff000000 F) :
    Keeps F s0 (storePart s m mk q v) := by
  unfold storePart
  repeat' first
    | with_reducible assumption | with_reducible refine writeIf_keeps ?_ _ _ _ (hF.via rfl)

theorem storeQcfg_keeps {F : Nat} {s0 : State} {s : State} (hs : Keeps F s0 s) (m : Master) (k : Nat) (v : Word)  (hF : Within 0x1ffffffffffffffffffffffffffffffffffffffffffffffffffff080000 F) :
    Keeps F s0 (storeQcfg s m k v) := by
  unfold storeQcfg
  repeat' first
    | with_reducible assumption | with_reducible refine Keeps.ite ?_ ?_ | with_reducible refine wrBit_keeps ?_ _ _ _ (hF.reg rfl)
    | with_reducible refine after_keeps ?_ ?_ | with_reducible refine execQueueFlush_keeps ?_ _ (hF.via rfl)
    | with_reducible refine plainWrite_keeps ?_ _ _ (hF.via rfl)

theorem storeRmaCmd_keeps {F : Nat} {s0 : State} {s : State} (hs : Keeps F s0 s) (m : Master) (v : Word)  (hF : Within 0x1ffffffffffffffffffffffffffffffffffffffffffffffffffff180100 F) :
    Keeps F s0 (storeRmaCmd s m v) := by
  unfold storeRmaCmd
  repeat' first
    | with_reducible assumption | with_reducible refine Keeps.ite ?_ ?_ | with_reducible refine plainWrite_keeps ?_ _ _ (hF.via rfl)
    | with_reducible refine after_keeps ?_ ?_ | with_reducible refine execRmaReadContext_keeps ?_ _ _ (hF.via rfl)
    | with_reducible refine execRmaWriteContext_keeps ?_ _ _ (hF.via rfl) | with_reducible refine execRmaReadRegion_keeps ?_ _ _ (hF.via rfl)
    | with_reducible refine execRmaWriteRegion_keeps ?_ _ _ (hF.via rfl) | with_reducible refine execRmaPin_keeps ?_ _ _ (hF.via rfl)
    | with_reducible refine execRmaUnpin_keeps ?_ _ _ (hF.via rfl) | with_reducible refine revokeCmd_keeps ?_ _ _ (hF.via rfl)
    | with_reducible refine rmaCmdDone_keeps ?_ _ _ _ (hF.via rfl) | lift_lets | split

theorem storeRctl_keeps {F : Nat} {s0 : State} {s : State} (hs : Keeps F s0 s) (m : Master) (p : Nat) (v : Word)  (hF : Within 0x1ffffffffffffffffffffffffffffffffffffffffffffffffffff3fefdc F) :
    Keeps F s0 (storeRctl s m p v) := by
  unfold storeRctl
  repeat' first
    | with_reducible assumption | with_reducible refine Keeps.ite ?_ ?_ | with_reducible refine plainWrite_keeps ?_ _ _ (hF.via rfl)
    | with_reducible refine takeWork_keeps ?_ _ _ (hF.via rfl) | with_reducible refine onRma_keeps ?_ _ (hF.via rfl)

theorem storeStgCmd_keeps {F : Nat} {s0 : State} {s : State} (hs : Keeps F s0 s) (m : Master) (n : Nat) (v : Word)  (hF : Within 0x1ffffffffffffffffffffffffffffffffffffffffffffffffffff3fefdc F) :
    Keeps F s0 (storeStgCmd s m n v) := by
  unfold storeStgCmd
  repeat' first
    | with_reducible assumption | with_reducible refine Keeps.ite ?_ ?_ | with_reducible refine stgGo_keeps ?_ _ _ _ _ _ _ (hF.via rfl)
    | with_reducible refine plainWrite_keeps ?_ _ _ (hF.via rfl)

theorem storeStgCtl_keeps {F : Nat} {s0 : State} {s : State} (hs : Keeps F s0 s) (m : Master) (n : Nat) (v : Word)  (hF : Within 0x100280000000042aff000000000300000000000000000000000037cf0c F) :
    Keeps F s0 (storeStgCtl s m n v) := by
  unfold storeStgCtl
  repeat' first
    | with_reducible assumption | with_reducible refine Keeps.ite ?_ ?_ | with_reducible refine after_keeps ?_ ?_
    | with_reducible refine execChannelPowerOn_keeps ?_ _ _ (hF.via rfl) | with_reducible refine stgOff_keeps ?_ _ (hF.via rfl)
    | with_reducible refine wrFld_keeps ?_ _ _ _ _ (hF.reg rfl) | with_reducible refine execStgAbort_keeps ?_ _ _ _ (hF.via rfl)
    | with_reducible refine stgReset_keeps ?_ _ (hF.via rfl)

theorem storeCpend_keeps {F : Nat} {s0 : State} {s : State} (hs : Keeps F s0 s) (m : Master) (h : Nat) (v : Word)  (hF : Within 0x1ffffffffffffffffffffffffffffffffffffffffffffffffffff000000 F) :
    Keeps F s0 (storeCpend s m h v) := by
  unfold storeCpend
  repeat' first
    | with_reducible assumption | with_reducible refine plainWrite_keeps ?_ _ _ (hF.via rfl)

theorem storeFwinCtl_keeps {F : Nat} {s0 : State} {s : State} (hs : Keeps F s0 s) (m : Master) (k : Nat) (v : Word)  (hF : Within 0x1ffffffffffffffffffffffffffffffffffffffffffffffffffff000000 F) :
    Keeps F s0 (storeFwinCtl s m k v) := by
  unfold storeFwinCtl
  repeat' first
    | with_reducible assumption | with_reducible refine writeIf_keeps ?_ _ _ _ (hF.via rfl)

theorem storeRstGate_keeps {F : Nat} {s0 : State} {s : State} (hs : Keeps F s0 s) (v : Word)  (hF : Within 0x1ffffffffffffffffffffffffffffffffffffffffffffffffffff002100 F) :
    Keeps F s0 (storeRstGate s v) := by
  unfold storeRstGate
  repeat' first
    | with_reducible assumption | with_reducible refine Keeps.ite ?_ ?_ | with_reducible refine plainWrite_keeps ?_ _ _ (hF.via rfl)
    | with_reducible refine writeGate_keeps ?_ _ (hF.via rfl)

theorem storeRstCmd_keeps {F : Nat} {s0 : State} {s : State} (hs : Keeps F s0 s) (m : Master) (v : Word)  (hF : Within 0x1ffffffffffffffffffffffffffffffffffffffffffffffffffff7fffdc F) :
    Keeps F s0 (storeRstCmd s m v) := by
  unfold storeRstCmd
  repeat' first
    | with_reducible assumption | with_reducible refine Keeps.ite ?_ ?_ | with_reducible refine plainWrite_keeps ?_ _ _ (hF.via rfl)
    | with_reducible refine after_keeps ?_ ?_ | with_reducible refine execManagementIslandReset_keeps ?_ _ (hF.via rfl)
    | with_reducible refine execHeadlandReset_keeps ?_ _ (hF.via rfl) | with_reducible refine execModuleReset_keeps ?_ _ (hF.via rfl)
    | with_reducible refine wrBit_keeps ?_ _ _ _ (hF.reg rfl) | lift_lets | split

theorem storeReg_keeps {F : Nat} {s0 : State} {s : State} (hs : Keeps F s0 s) (m : Master) (r : Reg) (v : Word)  (hF : Within 0x1ffffffffffffffffffffffffffffffffffffffffffffffffffff7fffdc F) :
    Keeps F s0 (storeReg s m r v) := by
  unfold storeReg
  repeat' first
    | with_reducible assumption | with_reducible refine Keeps.ite ?_ ?_ | with_reducible refine aimFreq_keeps ?_ _ (hF.via rfl)
    | with_reducible refine wrFld_keeps ?_ _ _ _ _ (hF.reg rfl) | with_reducible refine wrBit_keeps ?_ _ _ _ (hF.reg rfl)
    | with_reducible refine storeArrGrp_keeps ?_ _ _ _ (hF.via rfl) | with_reducible refine storeCalCtrl_keeps ?_ _ _ (hF.via rfl)
    | with_reducible refine after_keeps ?_ ?_ | with_reducible refine execRegionRegisterWrite_keeps ?_ _ _ _ _ _ (hF.via rfl)
    | with_reducible refine storePctrl_keeps ?_ _ _ _ (hF.via rfl) | with_reducible refine writePwrCtrl_keeps ?_ _ (hF.via rfl)
    | with_reducible refine writePwrWake_keeps ?_ _ (hF.via rfl) | with_reducible refine wrCommit_keeps ?_ _ _ (hF.reg rfl)
    | with_reducible refine storeFsel_keeps ?_ _ (hF.via rfl) | with_reducible refine writeIf_keeps ?_ _ _ _ (hF.via rfl)
    | with_reducible refine storeRgn_keeps ?_ _ _ _ _ _ (hF.via rfl) | with_reducible refine storeRgnctl_keeps ?_ _ _ _ (hF.via rfl)
    | with_reducible refine execMbxReset_keeps ?_ _ (hF.via rfl) | with_reducible refine enterUpTo_keeps ?_ _ _ _ (hF.via rfl)
    | with_reducible refine execMbxFfci_keeps ?_ _ _ (hF.via rfl) | with_reducible refine storePcfg_keeps ?_ _ _ _ (hF.via rfl)
    | with_reducible refine setNetCount_keeps ?_ _ _ _ (hF.via rfl) | with_reducible refine plainWrite_keeps ?_ _ _ (hF.via rfl)
    | with_reducible refine execPrsWrite_keeps ?_ _ _ (hF.via rfl) | with_reducible refine execPrsRead_keeps ?_ _ _ (hF.via rfl)
    | with_reducible refine storePart_keeps ?_ _ _ _ _ (hF.via rfl) | with_reducible refine storeQcfg_keeps ?_ _ _ _ (hF.via rfl)
    | with_reducible refine settleBucket_keeps ?_ _ (hF.via rfl) | with_reducible refine execQavgClear_keeps ?_ _ (hF.via rfl)
    | with_reducible refine storeRmaCmd_keeps ?_ _ _ (hF.via rfl) | with_reducible refine storeRctl_keeps ?_ _ _ _ (hF.via rfl)
    | with_reducible refine execWorkRequest_keeps ?_ _ _ _ (hF.via rfl) | with_reducible refine execRmaCqci_keeps ?_ _ _ _ (hF.via rfl)
    | with_reducible refine storeStgCmd_keeps ?_ _ _ _ (hF.via rfl) | with_reducible refine storeStgCtl_keeps ?_ _ _ _ (hF.via rfl)
    | with_reducible refine storeCpend_keeps ?_ _ _ _ (hF.via rfl) | with_reducible refine execHeartbeat_keeps ?_ _ _ (hF.via rfl)
    | with_reducible refine riseForNeed_keeps ?_ (hF.via rfl) | with_reducible refine storeFwinCtl_keeps ?_ _ _ _ (hF.via rfl)
    | with_reducible refine plotCommand_keeps ?_ _ (hF.via rfl) | with_reducible refine storeRstGate_keeps ?_ _ (hF.via rfl)
    | with_reducible refine storeRstCmd_keeps ?_ _ _ (hF.via rfl) | with_reducible refine execEvrCursorWrite_keeps ?_ _ _ (hF.via rfl)
    | with_reducible refine telSnap_keeps ?_ _ (hF.via rfl) | split

theorem releaseMsix_keeps {F : Nat} {s0 : State} {s : State} (hs : Keeps F s0 s) (f : Nat)  (hF : Within 0x600 F) :
    Keeps F s0 (releaseMsix s f) := by
  unfold releaseMsix
  repeat' first
    | with_reducible assumption | with_reducible intro _ | with_reducible refine Keeps.ite ?_ ?_
    | with_reducible refine sendMsix_keeps ?_ _ _ (hF.via rfl) | with_reducible refine onFn_keeps ?_ _ _ (hF.via rfl)
    | with_reducible refine foldl_keeps ?_ _ _ ?_

theorem storeMsix_keeps {F : Nat} {s0 : State} {s : State} (hs : Keeps F s0 s) (f : Nat) (i : Nat) (k : Nat) (v : Word)  (hF : Within 0x600 F) :
    Keeps F s0 (storeMsix s f i k v) := by
  unfold storeMsix
  repeat' first
    | with_reducible assumption | with_reducible refine Keeps.ite ?_ ?_ | with_reducible refine onFn_keeps ?_ _ _ (hF.via rfl)
    | with_reducible refine releaseMsix_keeps ?_ _ (hF.via rfl)

theorem storeRing_keeps {F : Nat} {s0 : State} {s : State} (hs : Keeps F s0 s) (m : Master) (o : Nat) (ff : Bool) (off : Nat) (v : Word)  (hF : Within 0x4000 F) :
    Keeps F s0 (storeRing s m o ff off v) := by
  unfold storeRing
  repeat' first
    | with_reducible assumption | with_reducible refine Keeps.ite ?_ ?_ | with_reducible refine onBox_keeps ?_ _ _ (hF.via rfl) | split

theorem apertureStore_keeps {F : Nat} {s0 : State} {s : State} (hs : Keeps F s0 s) (m : Master) (t : Nat) (off : Nat) (v : Word)  (hF : Within 0x1000800200001000000000000000000008000004700000000000178bcc F) :
    Keeps F s0 (apertureStore s m t off v) := by
  unfold apertureStore
  repeat' first
    | with_reducible assumption | with_reducible refine after_keeps ?_ ?_ | with_reducible refine execApertureAccess_keeps ?_ _ _ _ _ _ _ (hF.via rfl)

theorem regStore_keeps {F : Nat} {s0 : State} {s : State} (hs : Keeps F s0 s) (m : Master) (off : Nat) (v : Word)  (hF : Within 0x1ffffffffffffffffffffffffffffffffffffffffffffffffffff7fffdc F) :
    Keeps F s0 (regStore s m off v) := by
  unfold regStore
  repeat' first
    | with_reducible assumption | with_reducible refine storeReg_keeps ?_ _ _ _ (hF.via rfl)
    | with_reducible refine storeMsix_keeps ?_ _ _ _ _ (hF.via rfl) | with_reducible refine storeRing_keeps ?_ _ _ _ _ _ (hF.via rfl)
    | with_reducible refine apertureStore_keeps ?_ _ _ _ _ (hF.via rfl) | split

theorem coreStore_keeps {F : Nat} {s0 : State} {s : State} (hs : Keeps F s0 s) (c : Nat) (a : Word) (n : Nat) (v : Nat)  (hF : Within 0x1ffffffffffffffffffffffffffffffffffffffffffffffffffff7fffdc F) :
    Keeps F s0 (coreStore s c a n v) := by
  unfold coreStore
  repeat' first
    | with_reducible assumption | (intro x; clear_value x) | with_reducible refine Keeps.ite ?_ ?_
    | with_reducible refine setCore_keeps ?_ _ _ (hF.bit rfl) | with_reducible refine onCore_keeps ?_ _ _ (hF.via rfl)
    | with_reducible refine clearSources_keeps ?_ _ _ (hF.via rfl) | with_reducible refine coreIrq_keeps ?_ _ _ (hF.via rfl)
    | with_reducible refine regStore_keeps ?_ _ _ _ (hF.via rfl) | with_reducible refine lpxWrite_keeps ?_ _ _ _ (hF.via rfl) | lift_lets | split

theorem refuseWrite_keeps {F : Nat} {s0 : State} {s : State} (hs : Keeps F s0 s) (m : Master) (off : Nat)  (hF : Within 0x1000000000000000000000000000000000000000000000000000000800 F) :
    Keeps F s0 (refuseWrite s m off) := by
  unfold refuseWrite
  repeat' first
    | with_reducible assumption | with_reducible refine regionWriteRefused_keeps ?_ _ _ (hF.via rfl) | split

theorem noteRefusal_keeps {F : Nat} {s0 : State} {s : State} (hs : Keeps F s0 s) (c : Nat) (sv : Option (Fin 32)) (a : Word) (write : Bool) (e : Nat × Nat)  (hF : Within 0x1000000000000000000000000000000000000000000000000000000800 F) :
    Keeps F s0 (noteRefusal s c sv a write e) := by
  unfold noteRefusal
  repeat' first
    | with_reducible assumption | with_reducible refine Keeps.ite ?_ ?_ | with_reducible refine lpxRefused_keeps ?_ _ _ (hF.via rfl)
    | with_reducible refine refuseWrite_keeps ?_ _ _ (hF.via rfl) | split

theorem refusedAccess_keeps {F : Nat} {s0 : State} {s : State} (hs : Keeps F s0 s) (c : Nat) (sv : Option (Fin 32)) (a : Word) (write : Bool) (e : Nat × Nat)  (hF : Within 0x1000000000000000000000000000000000000000000000000000000800 F) :
    NvcResKeeps F s0 (refusedAccess s c sv a write e) := by
  unfold refusedAccess
  repeat' first
    | with_reducible assumption | with_reducible refine NvcResKeeps.exc ?_ _ _ _ | with_reducible refine noteRefusal_keeps ?_ _ _ _ _ _ (hF.via rfl)

theorem takeException_keeps {F : Nat} {s0 : State} {s : State} (hs : Keeps F s0 s) (c : Nat) (v : Nat) (cause : Nat) (addr : Word) (pc : Word)  (hF : Within 0x10000000000000000000000400030ab800000000000000000000084f00 F) :
    Keeps F s0 (takeException s c v cause addr pc) := by
  unfold takeException
  repeat' first
    | with_reducible assumption | with_reducible refine Keeps.ite ?_ ?_ | with_reducible refine haltCore_keeps ?_ _ _ (hF.via rfl)
    | with_reducible refine setCore_keeps ?_ _ _ (hF.bit rfl) | with_reducible refine wrFld_keeps ?_ _ _ _ _ (hF.reg rfl)
    | with_reducible refine count_keeps ?_ _ _ (hF.reg rfl)

theorem spillCheck_keeps {F : Nat} {s0 : State} {s : State} (hs : Keeps F s0 s) (c : Nat) (inHandler : Bool)  (hF : Within 0x10000000000000000000000400030ab800000000000000000000084f00 F) :
    Keeps F s0 (spillCheck s c inHandler) := by
  unfold spillCheck
  repeat' first
    | with_reducible assumption | with_reducible refine Keeps.ite ?_ ?_ | with_reducible refine takeException_keeps ?_ _ _ _ _ _ (hF.via rfl)

theorem raise_keeps {F : Nat} {s0 : State} {s : State} (hs : Keeps F s0 s) (c : Nat) (v : Nat) (cause : Nat) (addr : Word)  (hF : Within 0x10000000000000000000000400030ab800000000000000000000084f00 F) :
    Keeps F s0 (raise s c v cause addr) := by
  unfold raise
  repeat' first
    | with_reducible assumption | with_reducible refine Keeps.ite ?_ ?_ | with_reducible refine takeException_keeps ?_ _ _ _ _ _ (hF.via rfl)
    | with_reducible refine spillCheck_keeps ?_ _ _ (hF.via rfl)

theorem spend_keeps {F : Nat} {s0 : State} {s : State} (hs : Keeps F s0 s) (c : Nat) (n : Nat)  (hF : Within 0x100 F) :
    Keeps F s0 (spend s c n) := by
  unfold spend
  repeat' first
    | with_reducible assumption | with_reducible refine onCore_keeps ?_ _ _ (hF.via rfl)

theorem runInstr_keeps {F : Nat} {s0 : State} {s : State} (hs : Keeps F s0 s) (k : Nvc) (cycles : Nat) (rep : Bool) (op : State → Nat → NvcRes) (kop : ∀ a0 a1, Keeps F s0 a0 → NvcResKeeps F s0 (op a0 a1)) (hF : Within 0x10000000000000000000000400030af800000000000000000000084f00 F) :
    Keeps F s0 (runInstr k cycles rep op s) := by
  unfold runInstr
  repeat' first
    | with_reducible assumption | with_reducible apply kop | with_reducible refine Keeps.ite ?_ ?_
    | with_reducible refine raise_keeps ?_ _ _ _ _ (hF.via rfl) | with_reducible refine haltCore_keeps ?_ _ _ (hF.via rfl)
    | with_reducible refine count_keeps ?_ _ _ (hF.reg rfl) | with_reducible refine spend_keeps ?_ _ _ (hF.via rfl)
    | with_reducible refine NvcResKeeps.eq (by assumption) ?_ | with_reducible refine NvcResKeeps.eqExc (by assumption) ?_ | lift_lets | split

theorem plainOp_keeps {F : Nat} {s0 : State} {s : State} (hs : Keeps F s0 s) (f : CoreState → CoreState) (a2 : Nat)  (hF : Within 0x100 F) :
    NvcResKeeps F s0 (plainOp f s a2) := by
  unfold plainOp
  repeat' first
    | with_reducible assumption | with_reducible refine NvcResKeeps.done ?_ | with_reducible refine setCore_keeps ?_ _ _ (hF.bit rfl)

theorem aluI_keeps {F : Nat} {s0 : State} {s : State} (hs : Keeps F s0 s) (k : Nvc) (f : Nat) (signed : Bool) (o : AluI)  (hF : Within 0x10000000000000000000000400030af800000000000000000000084f00 F) :
    Keeps F s0 (aluI k f signed o s) := by
  unfold aluI
  repeat' first
    | with_reducible assumption | with_reducible intro _ | with_reducible refine runInstr_keeps ?_ _ _ _ _ ?_ (hF.via rfl)
    | with_reducible refine plainOp_keeps ?_ _ _ (hF.via rfl)

theorem aluR_keeps {F : Nat} {s0 : State} {s : State} (hs : Keeps F s0 s) (k : Nvc) (f : Nat) (cycles : Nat) (o : AluR)  (hF : Within 0x10000000000000000000000400030af800000000000000000000084f00 F) :
    Keeps F s0 (aluR k f cycles o s) := by
  unfold aluR
  repeat' first
    | with_reducible assumption | with_reducible intro _ | with_reducible refine runInstr_keeps ?_ _ _ _ _ ?_ (hF.via rfl)
    | with_reducible refine plainOp_keeps ?_ _ _ (hF.via rfl)

theorem callTo_keeps {F : Nat} {s0 : State} {s : State} (hs : Keeps F s0 s) (c : Nat) (target : Word)  (hF : Within 0x10000000000000000000000400030ab800000000000000000000084f00 F) :
    Keeps F s0 (callTo s c target) := by
  unfold callTo
  repeat' first
    | with_reducible assumption | with_reducible refine Keeps.ite ?_ ?_ | with_reducible refine haltCore_keeps ?_ _ _ (hF.via rfl)
    | with_reducible refine spillCheck_keeps ?_ _ _ (hF.via rfl) | with_reducible refine setCore_keeps ?_ _ _ (hF.bit rfl)

theorem execAdc_keeps {F : Nat} {s0 : State} {s : State} (hs : Keeps F s0 s) (k : Nvc) (o : AluR)  (hF : Within 0x10000000000000000000000400030af800000000000000000000084f00 F) :
    Kept F s0 (execAdc k o s) := by
  unfold execAdc
  repeat' first
    | with_reducible assumption | with_reducible refine Kept.next ?_ | with_reducible refine aluR_keeps ?_ _ _ _ _ (hF.via rfl)

theorem execAdd_keeps {F : Nat} {s0 : State} {s : State} (hs : Keeps F s0 s) (k : Nvc) (o : AluR)  (hF : Within 0x10000000000000000000000400030af800000000000000000000084f00 F) :
    Kept F s0 (execAdd k o s) := by
  unfold execAdd
  repeat' first
    | with_reducible assumption | with_reducible refine Kept.next ?_ | with_reducible refine aluR_keeps ?_ _ _ _ _ (hF.via rfl)

theorem execAddi_keeps {F : Nat} {s0 : State} {s : State} (hs : Keeps F s0 s) (k : Nvc) (o : AluI)  (hF : Within 0x10000000000000000000000400030af800000000000000000000084f00 F) :
    Kept F s0 (execAddi k o s) := by
  unfold execAddi
  repeat' first
    | with_reducible assumption | with_reducible refine Kept.next ?_ | with_reducible refine aluI_keeps ?_ _ _ _ _ (hF.via rfl)

theorem execAnd_keeps {F : Nat} {s0 : State} {s : State} (hs : Keeps F s0 s) (k : Nvc) (o : AluR)  (hF : Within 0x10000000000000000000000400030af800000000000000000000084f00 F) :
    Kept F s0 (execAnd k o s) := by
  unfold execAnd
  repeat' first
    | with_reducible assumption | with_reducible refine Kept.next ?_ | with_reducible refine aluR_keeps ?_ _ _ _ _ (hF.via rfl)

theorem execAndi_keeps {F : Nat} {s0 : State} {s : State} (hs : Keeps F s0 s) (k : Nvc) (o : AluI)  (hF : Within 0x10000000000000000000000400030af800000000000000000000084f00 F) :
    Kept F s0 (execAndi k o s) := by
  unfold execAndi
  repeat' first
    | with_reducible assumption | with_reducible refine Kept.next ?_ | with_reducible refine aluI_keeps ?_ _ _ _ _ (hF.via rfl)

theorem execAndn_keeps {F : Nat} {s0 : State} {s : State} (hs : Keeps F s0 s) (k : Nvc) (o : AluR)  (hF : Within 0x10000000000000000000000400030af800000000000000000000084f00 F) :
    Kept F s0 (execAndn k o s) := by
  unfold execAndn
  repeat' first
    | with_reducible assumption | with_reducible refine Kept.next ?_ | with_reducible refine aluR_keeps ?_ _ _ _ _ (hF.via rfl)

theorem jumpTo_keeps {F : Nat} {s0 : State} {s : State} (hs : Keeps F s0 s) (c : Nat) (pc : Word)  (hF : Within 0x100 F) :
    Keeps F s0 (jumpTo s c pc) := by
  unfold jumpTo
  repeat' first
    | with_reducible assumption | with_reducible refine onCore_keeps ?_ _ _ (hF.via rfl)

theorem execB_keeps {F : Nat} {s0 : State} {s : State} (hs : Keeps F s0 s) (k : Nvc) (cond : BitVec 4) (off : BitVec 22)  (hF : Within 0x10000000000000000000000400030af800000000000000000000084f00 F) :
    Kept F s0 (execB k cond off s) := by
  unfold execB
  repeat' first
    | with_reducible assumption | with_reducible intro _ | with_reducible refine Kept.next ?_ | with_reducible refine NvcResKeeps.done ?_
    | with_reducible refine NvcResKeeps.exc ?_ _ _ _ | with_reducible refine runInstr_keeps ?_ _ _ _ _ ?_ (hF.via rfl)
    | with_reducible refine spend_keeps ?_ _ _ (hF.via rfl) | with_reducible refine jumpTo_keeps ?_ _ _ (hF.via rfl)
    | with_reducible refine onCore_keeps ?_ _ _ (hF.via rfl) | split

theorem execCall_keeps {F : Nat} {s0 : State} {s : State} (hs : Keeps F s0 s) (k : Nvc) (off : BitVec 26)  (hF : Within 0x10000000000000000000000400030af800000000000000000000084f00 F) :
    Kept F s0 (execCall k off s) := by
  unfold execCall
  repeat' first
    | with_reducible assumption | with_reducible intro _ | with_reducible refine Kept.next ?_ | with_reducible refine NvcResKeeps.done ?_
    | with_reducible refine runInstr_keeps ?_ _ _ _ _ ?_ (hF.via rfl) | with_reducible refine callTo_keeps ?_ _ _ (hF.via rfl)

theorem execCallr_keeps {F : Nat} {s0 : State} {s : State} (hs : Keeps F s0 s) (k : Nvc) (w : Fin 16)  (hF : Within 0x10000000000000000000000400030af800000000000000000000084f00 F) :
    Kept F s0 (execCallr k w s) := by
  unfold execCallr
  repeat' first
    | with_reducible assumption | with_reducible intro _ | with_reducible refine Kept.next ?_ | with_reducible refine NvcResKeeps.ite ?_ ?_
    | with_reducible refine NvcResKeeps.done ?_ | with_reducible refine NvcResKeeps.exc ?_ _ _ _
    | with_reducible refine runInstr_keeps ?_ _ _ _ _ ?_ (hF.via rfl) | with_reducible refine callTo_keeps ?_ _ _ (hF.via rfl)

theorem execCoreTimerExpiry_keeps {F : Nat} {s0 : State} {s : State} (hs : Keeps F s0 s) (c : Fin 24)  (hF : Within 0x100 F) :
    Kept F s0 (execCoreTimerExpiry c s) := by
  unfold execCoreTimerExpiry
  repeat' first
    | with_reducible assumption | with_reducible refine Keeps.ite ?_ ?_ | with_reducible refine Kept.next ?_
    | with_reducible refine coreIrq_keeps ?_ _ _ (hF.via rfl)

theorem microBad_keeps {F : Nat} {s0 : State} {s : State} (hs : Keeps F s0 s) :
    MicroResKeeps F s0 (microBad s) := by
  unfold microBad
  repeat' first
    | with_reducible assumption | with_reducible refine MicroResKeeps.exc ?_ _ _ _

theorem microAlu_keeps {F : Nat} {s0 : State} {s : State} (hs : Keeps F s0 s) (m : Micro) (at_ : Nat) (f : Nat) (dst : Nat) (a : Option Word) (b : Option Word) (fl : Bool) :
    MicroResKeeps F s0 (microAlu s m at_ f dst a b fl) := by
  unfold microAlu
  repeat' first
    | with_reducible assumption | (intro x; subst x) | with_reducible refine MicroResKeeps.go ?_ _ _ | with_reducible refine microBad_keeps ?_
    | lift_lets | split

theorem microStep_keeps {F : Nat} {s0 : State} {s : State} (hs : Keeps F s0 s) (c : Nat) (sv : Option (Fin 32)) (m : Micro) (a : Nat)  (hF : Within 0x1ffffffffffffffffffffffffffffffffffffffffffffffffffff7fffdc F) :
    MicroResKeeps F s0 (microStep s c sv m a) := by
  unfold microStep
  repeat' first
    | with_reducible assumption | (intro x; subst x) | with_reducible refine MicroResKeeps.ite ?_ ?_ | with_reducible refine MicroResKeeps.go ?_ _ _
    | with_reducible refine MicroResKeeps.exc ?_ _ _ _ | with_reducible refine microBad_keeps ?_
    | with_reducible refine microAlu_keeps ?_ _ _ _ _ _ _ _ | with_reducible refine noteRefusal_keeps ?_ _ _ _ _ _ (hF.via rfl)
    | with_reducible refine KeepsSnd.snd (coreLoad_keeps ?_ _ _ _ (hF.via rfl)) | with_reducible refine coreStore_keeps ?_ _ _ _ _ (hF.via rfl)
    | lift_lets | split

theorem runMicro_keeps {F : Nat} {s0 : State} {s : State} (hs : Keeps F s0 s) (n c : Nat) (sv : Option (Fin 32)) (m : Micro) (a used : Nat) (hF : Within 0x1ffffffffffffffffffffffffffffffffffffffffffffffffffff7fffdc F) :
    RunKeeps F s0 (runMicro n s c sv m a used) := by
  induction n generalizing s m a used with
  | zero => exact RunKeeps.inr hs _
  | succ n ih =>
    unfold runMicro
    extract_lets last
    clear_value last
    split
    · exact RunKeeps.inr (MicroResKeeps.eqExc (by assumption) (microStep_keeps hs _ _ _ _ (hF.via rfl))) _
    · have h1 := MicroResKeeps.eqGo (by assumption) (microStep_keeps hs _ _ _ _ (hF.via rfl))
      split
      · exact RunKeeps.inl (spend_keeps (onCore_keeps h1 _ _ (hF.via rfl)) _ _ (hF.via rfl))
      · exact ih h1 _ _ _

theorem execCustom_keeps {F : Nat} {s0 : State} {s : State} (hs : Keeps F s0 s) (k : Nvc) (index : Fin 16) (rd : Fin 16) (ra : Fin 16) (rb : Fin 16) (imm : BitVec 10)  (hF : Within 0x1ffffffffffffffffffffffffffffffffffffffffffffffffffff7fffdc F) :
    Kept F s0 (execCustom k index rd ra rb imm s) := by
  unfold execCustom
  repeat' first
    | with_reducible assumption | with_reducible intro _ | with_reducible refine Kept.next ?_ | with_reducible refine NvcResKeeps.ite ?_ ?_
    | with_reducible refine NvcResKeeps.done ?_ | with_reducible refine NvcResKeeps.exc ?_ _ _ _
    | with_reducible refine runInstr_keeps ?_ _ _ _ _ ?_ (hF.via rfl) | with_reducible refine runMicro_keeps ?_ _ _ _ _ _ _ (hF.via rfl)
    | with_reducible refine raise_keeps ?_ _ _ _ _ (hF.via rfl) | with_reducible refine RunKeeps.eqInl (by assumption) ?_
    | with_reducible refine RunKeeps.eqInr (by assumption) ?_ | lift_lets | split

theorem execFence_keeps {F : Nat} {s0 : State} {s : State} (hs : Keeps F s0 s) (k : Nvc)  (hF : Within 0x10000000000000000000000400030af800000000000000000000084f00 F) :
    Kept F s0 (execFence k s) := by
  unfold execFence
  repeat' first
    | with_reducible assumption | with_reducible intro _ | with_reducible refine Kept.next ?_
    | with_reducible refine runInstr_keeps ?_ _ _ _ _ ?_ (hF.via rfl) | with_reducible refine plainOp_keeps ?_ _ _ (hF.via rfl)

theorem execFill_keeps {F : Nat} {s0 : State} {s : State} (hs : Keeps F s0 s) (k : Nvc)  (hF : Within 0x11208002000010000000000400430af8080000147000008000801fcfdc F) :
    Kept F s0 (execFill k s) := by
  unfold execFill
  repeat' first
    | with_reducible assumption | (intro x; refine keepsSnd_cut (F := F) (s0 := s0) x ?_ ?_ <;> [subst x; (clear_value x; intro _)])
    | with_reducible intro _ | with_reducible refine Kept.next ?_ | with_reducible refine NvcResKeeps.ite ?_ ?_
    | with_reducible refine NvcResKeeps.done ?_ | with_reducible refine NvcResKeeps.exc ?_ _ _ _
    | with_reducible refine runInstr_keeps ?_ _ _ _ _ ?_ (hF.via rfl) | with_reducible refine haltCore_keeps ?_ _ _ (hF.via rfl)
    | with_reducible refine refusedAccess_keeps ?_ _ _ _ _ _ (hF.via rfl) | with_reducible refine coreLoad_keeps ?_ _ _ _ (hF.via rfl)
    | with_reducible refine onCore_keeps ?_ _ _ (hF.via rfl) | with_reducible refine KeepsSnd.snd ?_ | lift_lets | split

theorem execInterruptEntry_keeps {F : Nat} {s0 : State} {s : State} (hs : Keeps F s0 s) (c : Fin 24)  (hF : Within 0x10000000000000000000000400030ab800000000000000000000084f00 F) :
    Kept F s0 (execInterruptEntry c s) := by
  unfold execInterruptEntry
  repeat' first
    | with_reducible assumption | with_reducible refine Keeps.ite ?_ ?_ | with_reducible refine Kept.next ?_
    | with_reducible refine haltCore_keeps ?_ _ _ (hF.via rfl) | with_reducible refine spillCheck_keeps ?_ _ _ (hF.via rfl)
    | with_reducible refine setCore_keeps ?_ _ _ (hF.bit rfl) | lift_lets | split

theorem execJmp_keeps {F : Nat} {s0 : State} {s : State} (hs : Keeps F s0 s) (k : Nvc) (off : BitVec 26)  (hF : Within 0x10000000000000000000000400030af800000000000000000000084f00 F) :
    Kept F s0 (execJmp k off s) := by
  unfold execJmp
  repeat' first
    | with_reducible assumption | with_reducible intro _ | with_reducible refine Kept.next ?_ | with_reducible refine NvcResKeeps.done ?_
    | with_reducible refine runInstr_keeps ?_ _ _ _ _ ?_ (hF.via rfl) | with_reducible refine jumpTo_keeps ?_ _ _ (hF.via rfl)

theorem execJmpr_keeps {F : Nat} {s0 : State} {s : State} (hs : Keeps F s0 s) (k : Nvc) (w : Fin 16)  (hF : Within 0x10000000000000000000000400030af800000000000000000000084f00 F) :
    Kept F s0 (execJmpr k w s) := by
  unfold execJmpr
  repeat' first
    | with_reducible assumption | with_reducible intro _ | with_reducible refine Kept.next ?_ | with_reducible refine NvcResKeeps.ite ?_ ?_
    | with_reducible refine NvcResKeeps.done ?_ | with_reducible refine NvcResKeeps.exc ?_ _ _ _
    | with_reducible refine runInstr_keeps ?_ _ _ _ _ ?_ (hF.via rfl) | with_reducible refine jumpTo_keeps ?_ _ _ (hF.via rfl)

theorem loadOp_keeps {F : Nat} {s0 : State} {s : State} (hs : Keeps F s0 s) (sv : Option (Fin 32)) (n : Nat) (signed : Bool) (o : MemM) (a2 : Nat)  (hF : Within 0x11208002000010000000000000400000080000147000008000801f8bdc F) :
    NvcResKeeps F s0 (loadOp sv n signed o s a2) := by
  unfold loadOp
  repeat' first
    | with_reducible assumption | with_reducible refine NvcResKeeps.done ?_ | with_reducible refine NvcResKeeps.exc ?_ _ _ _
    | with_reducible refine refusedAccess_keeps ?_ _ _ _ _ _ (hF.via rfl) | with_reducible refine KeepsSnd.snd (coreLoad_keeps ?_ _ _ _ (hF.via rfl))
    | with_reducible refine setCore_keeps ?_ _ _ (hF.bit rfl) | lift_lets | split | dsimp only

theorem execLdb_keeps {F : Nat} {s0 : State} {s : State} (hs : Keeps F s0 s) (k : Nvc) (o : MemM)  (hF : Within 0x11208002000010000000000400430af8080000147000008000801fcfdc F) :
    Kept F s0 (execLdb k o s) := by
  unfold execLdb
  repeat' first
    | with_reducible assumption | with_reducible intro _ | with_reducible refine Kept.next ?_
    | with_reducible refine runInstr_keeps ?_ _ _ _ _ ?_ (hF.via rfl) | with_reducible refine loadOp_keeps ?_ _ _ _ _ _ (hF.via rfl)

theorem execLdbs_keeps {F : Nat} {s0 : State} {s : State} (hs : Keeps F s0 s) (k : Nvc) (o : MemM)  (hF : Within 0x11208002000010000000000400430af8080000147000008000801fcfdc F) :
    Kept F s0 (execLdbs k o s) := by
  unfold execLdbs
  repeat' first
    | with_reducible assumption | with_reducible intro _ | with_reducible refine Kept.next ?_
    | with_reducible refine runInstr_keeps ?_ _ _ _ _ ?_ (hF.via rfl) | with_reducible refine loadOp_keeps ?_ _ _ _ _ _ (hF.via rfl)

theorem execLdh_keeps {F : Nat} {s0 : State} {s : State} (hs : Keeps F s0 s) (k : Nvc) (o : MemM)  (hF : Within 0x11208002000010000000000400430af8080000147000008000801fcfdc F) :
    Kept F s0 (execLdh k o s) := by
  unfold execLdh
  repeat' first
    | with_reducible assumption | with_reducible intro _ | with_reducible refine Kept.next ?_
    | with_reducible refine runInstr_keeps ?_ _ _ _ _ ?_ (hF.via rfl) | with_reducible refine loadOp_keeps ?_ _ _ _ _ _ (hF.via rfl)

theorem execLdhs_keeps {F : Nat} {s0 : State} {s : State} (hs : Keeps F s0 s) (k : Nvc) (o : MemM)  (hF : Within 0x11208002000010000000000400430af8080000147000008000801fcfdc F) :
    Kept F s0 (execLdhs k o s) := by
  unfold execLdhs
  repeat' first
    | with_reducible assumption | with_reducible intro _ | with_reducible refine Kept.next ?_
    | with_reducible refine runInstr_keeps ?_ _ _ _ _ ?_ (hF.via rfl) | with_reducible refine loadOp_keeps ?_ _ _ _ _ _ (hF.via rfl)

theorem execLdw_keeps {F : Nat} {s0 : State} {s : State} (hs : Keeps F s0 s) (k : Nvc) (o : MemM)  (hF : Within 0x11208002000010000000000400430af8080000147000008000801fcfdc F) :
    Kept F s0 (execLdw k o s) := by
  unfold execLdw
  repeat' first
    | with_reducible assumption | with_reducible intro _ | with_reducible refine Kept.next ?_
    | with_reducible refine runInstr_keeps ?_ _ _ _ _ ?_ (hF.via rfl) | with_reducible refine loadOp_keeps ?_ _ _ _ _ _ (hF.via rfl)

theorem execMfc_keeps {F : Nat} {s0 : State} {s : State} (hs : Keeps F s0 s) (k : Nvc) (w : Fin 16) (index : BitVec 6)  (hF : Within 0x10000000000000000000000400030af800000000000000000000084f00 F) :
    Kept F s0 (execMfc k w index s) := by
  unfold execMfc
  repeat' first
    | with_reducible assumption | (intro x; subst x) | with_reducible intro _ | with_reducible refine Kept.next ?_
    | with_reducible refine NvcResKeeps.done ?_ | with_reducible refine NvcResKeeps.exc ?_ _ _ _
    | with_reducible refine runInstr_keeps ?_ _ _ _ _ ?_ (hF.via rfl) | with_reducible refine setCore_keeps ?_ _ _ (hF.bit rfl) | lift_lets | split

theorem execMov_keeps {F : Nat} {s0 : State} {s : State} (hs : Keeps F s0 s) (k : Nvc) (o : AluR)  (hF : Within 0x10000000000000000000000400030af800000000000000000000084f00 F) :
    Kept F s0 (execMov k o s) := by
  unfold execMov
  repeat' first
    | with_reducible assumption | with_reducible refine Kept.next ?_ | with_reducible refine aluR_keeps ?_ _ _ _ _ (hF.via rfl)

theorem moveImm_keeps {F : Nat} {s0 : State} {s : State} (hs : Keeps F s0 s) (k : Nvc) (o : AluI) (f : Word → Word)  (hF : Within 0x10000000000000000000000400030af800000000000000000000084f00 F) :
    Keeps F s0 (moveImm k o f s) := by
  unfold moveImm
  repeat' first
    | with_reducible assumption | with_reducible intro _ | with_reducible refine runInstr_keeps ?_ _ _ _ _ ?_ (hF.via rfl)
    | with_reducible refine plainOp_keeps ?_ _ _ (hF.via rfl)

theorem execMovhi_keeps {F : Nat} {s0 : State} {s : State} (hs : Keeps F s0 s) (k : Nvc) (o : AluI)  (hF : Within 0x10000000000000000000000400030af800000000000000000000084f00 F) :
    Kept F s0 (execMovhi k o s) := by
  unfold execMovhi
  repeat' first
    | with_reducible assumption | with_reducible refine Kept.next ?_ | with_reducible refine moveImm_keeps ?_ _ _ _ (hF.via rfl)

theorem execMovi_keeps {F : Nat} {s0 : State} {s : State} (hs : Keeps F s0 s) (k : Nvc) (o : AluI)  (hF : Within 0x10000000000000000000000400030af800000000000000000000084f00 F) :
    Kept F s0 (execMovi k o s) := by
  unfold execMovi
  repeat' first
    | with_reducible assumption | with_reducible refine Kept.next ?_ | with_reducible refine moveImm_keeps ?_ _ _ _ (hF.via rfl)

theorem execMovp_keeps {F : Nat} {s0 : State} {s : State} (hs : Keeps F s0 s) (k : Nvc) (pd : Fin 8) (ps : Fin 8)  (hF : Within 0x1ffffffffffffffffffffffffffffffffffffffffffffffffffff7fffdc F) :
    Kept F s0 (execMovp k pd ps s) := by
  unfold execMovp
  repeat' first
    | with_reducible assumption | (intro x; refine keepsSnd_cut (F := F) (s0 := s0) x ?_ ?_ <;> [subst x; (clear_value x; intro _)])
    | (intro x; subst x) | with_reducible intro _ | with_reducible refine Kept.next ?_ | with_reducible refine NvcResKeeps.done ?_
    | with_reducible refine NvcResKeeps.exc ?_ _ _ _ | with_reducible refine runInstr_keeps ?_ _ _ _ _ ?_ (hF.via rfl)
    | with_reducible refine refusedAccess_keeps ?_ _ _ _ _ _ (hF.via rfl) | with_reducible refine coreLoad_keeps ?_ _ _ _ (hF.via rfl)
    | with_reducible refine onCore_keeps ?_ _ _ (hF.via rfl) | with_reducible refine coreStore_keeps ?_ _ _ _ _ (hF.via rfl)
    | with_reducible refine KeepsSnd.snd ?_ | lift_lets | split

theorem execMtc_keeps {F : Nat} {s0 : State} {s : State} (hs : Keeps F s0 s) (k : Nvc) (w : Fin 16) (index : BitVec 6)  (hF : Within 0x10000000000000000000000400030af800000000000000000000084f00 F) :
    Kept F s0 (execMtc k w index s) := by
  unfold execMtc
  repeat' first
    | with_reducible assumption | (intro x; subst x) | with_reducible intro _ | with_reducible refine Kept.next ?_
    | with_reducible refine NvcResKeeps.done ?_ | with_reducible refine NvcResKeeps.exc ?_ _ _ _
    | with_reducible refine runInstr_keeps ?_ _ _ _ _ ?_ (hF.via rfl) | with_reducible refine setCore_keeps ?_ _ _ (hF.bit rfl) | lift_lets | split

theorem execMul_keeps {F : Nat} {s0 : State} {s : State} (hs : Keeps F s0 s) (k : Nvc) (o : AluR)  (hF : Within 0x10000000000000000000000400030af800000000000000000000084f00 F) :
    Kept F s0 (execMul k o s) := by
  unfold execMul
  repeat' first
    | with_reducible assumption | with_reducible refine Kept.next ?_ | with_reducible refine aluR_keeps ?_ _ _ _ _ (hF.via rfl)

theorem execMulhs_keeps {F : Nat} {s0 : State} {s : State} (hs : Keeps F s0 s) (k : Nvc) (o : AluR)  (hF : Within 0x10000000000000000000000400030af800000000000000000000084f00 F) :
    Kept F s0 (execMulhs k o s) := by
  unfold execMulhs
  repeat' first
    | with_reducible assumption | with_reducible refine Kept.next ?_ | with_reducible refine aluR_keeps ?_ _ _ _ _ (hF.via rfl)

theorem execMulhu_keeps {F : Nat} {s0 : State} {s : State} (hs : Keeps F s0 s) (k : Nvc) (o : AluR)  (hF : Within 0x10000000000000000000000400030af800000000000000000000084f00 F) :
    Kept F s0 (execMulhu k o s) := by
  unfold execMulhu
  repeat' first
    | with_reducible assumption | with_reducible refine Kept.next ?_ | with_reducible refine aluR_keeps ?_ _ _ _ _ (hF.via rfl)

theorem execNop_keeps {F : Nat} {s0 : State} {s : State} (hs : Keeps F s0 s) (k : Nvc)  (hF : Within 0x10000000000000000000000400030af800000000000000000000084f00 F) :
    Kept F s0 (execNop k s) := by
  unfold execNop
  repeat' first
    | with_reducible assumption | with_reducible intro _ | with_reducible refine Kept.next ?_
    | with_reducible refine runInstr_keeps ?_ _ _ _ _ ?_ (hF.via rfl) | with_reducible refine plainOp_keeps ?_ _ _ (hF.via rfl)

theorem execOr_keeps {F : Nat} {s0 : State} {s : State} (hs : Keeps F s0 s) (k : Nvc) (o : AluR)  (hF : Within 0x10000000000000000000000400030af800000000000000000000084f00 F) :
    Kept F s0 (execOr k o s) := by
  unfold execOr
  repeat' first
    | with_reducible assumption | with_reducible refine Kept.next ?_ | with_reducible refine aluR_keeps ?_ _ _ _ _ (hF.via rfl)

theorem execOri_keeps {F : Nat} {s0 : State} {s : State} (hs : Keeps F s0 s) (k : Nvc) (o : AluI)  (hF : Within 0x10000000000000000000000400030af800000000000000000000084f00 F) :
    Kept F s0 (execOri k o s) := by
  unfold execOri
  repeat' first
    | with_reducible assumption | with_reducible refine Kept.next ?_ | with_reducible refine aluI_keeps ?_ _ _ _ _ (hF.via rfl)

theorem execPadd_keeps {F : Nat} {s0 : State} {s : State} (hs : Keeps F s0 s) (k : Nvc) (p : Fin 8)  (hF : Within 0x10000000000000000000000400030af800000000000000000000084f00 F) :
    Kept F s0 (execPadd k p s) := by
  unfold execPadd
  repeat' first
    | with_reducible assumption | with_reducible intro _ | with_reducible refine Kept.next ?_ | with_reducible refine NvcResKeeps.done ?_
    | with_reducible refine NvcResKeeps.exc ?_ _ _ _ | with_reducible refine runInstr_keeps ?_ _ _ _ _ ?_ (hF.via rfl)
    | with_reducible refine setCore_keeps ?_ _ _ (hF.bit rfl) | split

theorem execPget_keeps {F : Nat} {s0 : State} {s : State} (hs : Keeps F s0 s) (k : Nvc) (w : Fin 16) (p : Fin 8) (f : BitVec 3)  (hF : Within 0x10000000000000000000000400030af800000000000000000000084f00 F) :
    Kept F s0 (execPget k w p f s) := by
  unfold execPget
  repeat' first
    | with_reducible assumption | with_reducible intro _ | with_reducible refine Kept.next ?_ | with_reducible refine NvcResKeeps.done ?_
    | with_reducible refine NvcResKeeps.exc ?_ _ _ _ | with_reducible refine runInstr_keeps ?_ _ _ _ _ ?_ (hF.via rfl)
    | with_reducible refine setCore_keeps ?_ _ _ (hF.bit rfl) | split

theorem popOp_keeps {F : Nat} {s0 : State} {s : State} (hs : Keeps F s0 s) (sv : Option (Fin 32)) (rs : List Nat) (a2 : Nat)  (hF : Within 0x11208002000010000000000000400000080000147000008000801f8bdc F) :
    NvcResKeeps F s0 (popOp sv rs s a2) := by
  unfold popOp
  repeat' first
    | with_reducible assumption | (intro x; refine keeps_cut (F := F) (s0 := s0) x ?_ ?_ <;> [subst x; (clear_value x; intro _)])
    | with_reducible intro _ | with_reducible refine NvcResKeeps.ite ?_ ?_ | with_reducible refine NvcResKeeps.done ?_
    | with_reducible refine NvcResKeeps.exc ?_ _ _ _ | with_reducible refine refusedAccess_keeps ?_ _ _ _ _ _ (hF.via rfl)
    | with_reducible refine KeepsSnd.snd (coreLoad_keeps ?_ _ _ _ (hF.via rfl)) | with_reducible refine onCore_keeps ?_ _ _ (hF.via rfl)
    | with_reducible refine foldl_keeps ?_ _ _ ?_ | lift_lets | split

theorem execPop_keeps {F : Nat} {s0 : State} {s : State} (hs : Keeps F s0 s) (k : Nvc) (w : Fin 16)  (hF : Within 0x11208002000010000000000400430af8080000147000008000801fcfdc F) :
    Kept F s0 (execPop k w s) := by
  unfold execPop
  repeat' first
    | with_reducible assumption | with_reducible intro _ | with_reducible refine Kept.next ?_
    | with_reducible refine runInstr_keeps ?_ _ _ _ _ ?_ (hF.via rfl) | with_reducible refine popOp_keeps ?_ _ _ _ (hF.via rfl)

theorem execPopm_keeps {F : Nat} {s0 : State} {s : State} (hs : Keeps F s0 s) (k : Nvc) (mask : BitVec 16)  (hF : Within 0x11208002000010000000000400430af8080000147000008000801fcfdc F) :
    Kept F s0 (execPopm k mask s) := by
  unfold execPopm
  repeat' first
    | with_reducible assumption | with_reducible intro _ | with_reducible refine Kept.next ?_
    | with_reducible refine runInstr_keeps ?_ _ _ _ _ ?_ (hF.via rfl) | with_reducible refine popOp_keeps ?_ _ _ _ (hF.via rfl)

theorem execPset_keeps {F : Nat} {s0 : State} {s : State} (hs : Keeps F s0 s) (k : Nvc) (w : Fin 16) (p : Fin 8) (f : BitVec 3)  (hF : Within 0x10000000000000000000000400030af800000000000000000000084f00 F) :
    Kept F s0 (execPset k w p f s) := by
  unfold execPset
  repeat' first
    | with_reducible assumption | with_reducible intro _ | with_reducible refine Kept.next ?_ | with_reducible refine NvcResKeeps.done ?_
    | with_reducible refine NvcResKeeps.exc ?_ _ _ _ | with_reducible refine runInstr_keeps ?_ _ _ _ _ ?_ (hF.via rfl)
    | with_reducible refine setCore_keeps ?_ _ _ (hF.bit rfl) | split

theorem pushOp_keeps {F : Nat} {s0 : State} {s : State} (hs : Keeps F s0 s) (sv : Option (Fin 32)) (rs : List Nat) (a2 : Nat)  (hF : Within 0x1ffffffffffffffffffffffffffffffffffffffffffffffffffff7fffdc F) :
    NvcResKeeps F s0 (pushOp sv rs s a2) := by
  unfold pushOp
  repeat' first
    | with_reducible assumption | (intro x; refine keeps_cut (F := F) (s0 := s0) x ?_ ?_ <;> [subst x; (clear_value x; intro _)])
    | with_reducible intro _ | with_reducible refine NvcResKeeps.ite ?_ ?_ | with_reducible refine NvcResKeeps.done ?_
    | with_reducible refine NvcResKeeps.exc ?_ _ _ _ | with_reducible refine refusedAccess_keeps ?_ _ _ _ _ _ (hF.via rfl)
    | with_reducible refine coreStore_keeps ?_ _ _ _ _ (hF.via rfl) | with_reducible refine onCore_keeps ?_ _ _ (hF.via rfl)
    | with_reducible refine foldl_keeps ?_ _ _ ?_ | lift_lets | split

theorem execPush_keeps {F : Nat} {s0 : State} {s : State} (hs : Keeps F s0 s) (k : Nvc) (w : Fin 16)  (hF : Within 0x1ffffffffffffffffffffffffffffffffffffffffffffffffffff7fffdc F) :
    Kept F s0 (execPush k w s) := by
  unfold execPush
  repeat' first
    | with_reducible assumption | with_reducible intro _ | with_reducible refine Kept.next ?_
    | with_reducible refine runInstr_keeps ?_ _ _ _ _ ?_ (hF.via rfl) | with_reducible refine pushOp_keeps ?_ _ _ _ (hF.via rfl)

theorem execPushm_keeps {F : Nat} {s0 : State} {s : State} (hs : Keeps F s0 s) (k : Nvc) (mask : BitVec 16)  (hF : Within 0x1ffffffffffffffffffffffffffffffffffffffffffffffffffff7fffdc F) :
    Kept F s0 (execPushm k mask s) := by
  unfold execPushm
  repeat' first
    | with_reducible assumption | with_reducible intro _ | with_reducible refine Kept.next ?_
    | with_reducible refine runInstr_keeps ?_ _ _ _ _ ?_ (hF.via rfl) | with_reducible refine pushOp_keeps ?_ _ _ _ (hF.via rfl)

theorem repeatOp_keeps {F : Nat} {s0 : State} {s : State} (hs : Keeps F s0 s) (repi : Bool) (src : Bool) (w : Nat) (count : Nat) (a2 : Nat)  (hF : Within 0x100 F) :
    NvcResKeeps F s0 (repeatOp repi src w count s a2) := by
  unfold repeatOp
  repeat' first
    | with_reducible assumption | with_reducible refine NvcResKeeps.ite ?_ ?_ | with_reducible refine NvcResKeeps.done ?_
    | with_reducible refine NvcResKeeps.exc ?_ _ _ _ | with_reducible refine setCore_keeps ?_ _ _ (hF.bit rfl)

theorem execRep_keeps {F : Nat} {s0 : State} {s : State} (hs : Keeps F s0 s) (k : Nvc) (src : Bool) (w : Fin 16) (count : BitVec 16)  (hF : Within 0x10000000000000000000000400030af800000000000000000000084f00 F) :
    Kept F s0 (execRep k src w count s) := by
  unfold execRep
  repeat' first
    | with_reducible assumption | with_reducible intro _ | with_reducible refine Kept.next ?_
    | with_reducible refine runInstr_keeps ?_ _ _ _ _ ?_ (hF.via rfl) | with_reducible refine repeatOp_keeps ?_ _ _ _ _ _ (hF.via rfl)

theorem execRepi_keeps {F : Nat} {s0 : State} {s : State} (hs : Keeps F s0 s) (k : Nvc) (src : Bool) (w : Fin 16) (count : BitVec 16)  (hF : Within 0x10000000000000000000000400030af800000000000000000000084f00 F) :
    Kept F s0 (execRepi k src w count s) := by
  unfold execRepi
  repeat' first
    | with_reducible assumption | with_reducible intro _ | with_reducible refine Kept.next ?_
    | with_reducible refine runInstr_keeps ?_ _ _ _ _ ?_ (hF.via rfl) | with_reducible refine repeatOp_keeps ?_ _ _ _ _ _ (hF.via rfl)

theorem returnOp_keeps {F : Nat} {s0 : State} {s : State} (hs : Keeps F s0 s) (handler : Bool) (f : CoreState → RsEntry → CoreState) (a2 : Nat)  (hF : Within 0x100 F) :
    NvcResKeeps F s0 (returnOp handler f s a2) := by
  unfold returnOp
  repeat' first
    | with_reducible assumption | (intro x; subst x) | with_reducible refine NvcResKeeps.ite ?_ ?_ | with_reducible refine NvcResKeeps.done ?_
    | with_reducible refine NvcResKeeps.exc ?_ _ _ _ | with_reducible refine setCore_keeps ?_ _ _ (hF.bit rfl) | lift_lets | split

theorem execRet_keeps {F : Nat} {s0 : State} {s : State} (hs : Keeps F s0 s) (k : Nvc)  (hF : Within 0x10000000000000000000000400030af800000000000000000000084f00 F) :
    Kept F s0 (execRet k s) := by
  unfold execRet
  repeat' first
    | with_reducible assumption | with_reducible intro _ | with_reducible refine Kept.next ?_
    | with_reducible refine runInstr_keeps ?_ _ _ _ _ ?_ (hF.via rfl) | with_reducible refine returnOp_keeps ?_ _ _ _ (hF.via rfl)

theorem execReti_keeps {F : Nat} {s0 : State} {s : State} (hs : Keeps F s0 s) (k : Nvc)  (hF : Within 0x10000000000000000000000400030af800000000000000000000084f00 F) :
    Kept F s0 (execReti k s) := by
  unfold execReti
  repeat' first
    | with_reducible assumption | with_reducible intro _ | with_reducible refine Kept.next ?_
    | with_reducible refine runInstr_keeps ?_ _ _ _ _ ?_ (hF.via rfl) | with_reducible refine returnOp_keeps ?_ _ _ _ (hF.via rfl)

theorem execRor_keeps {F : Nat} {s0 : State} {s : State} (hs : Keeps F s0 s) (k : Nvc) (o : AluR)  (hF : Within 0x10000000000000000000000400030af800000000000000000000084f00 F) :
    Kept F s0 (execRor k o s) := by
  unfold execRor
  repeat' first
    | with_reducible assumption | with_reducible refine Kept.next ?_ | with_reducible refine aluR_keeps ?_ _ _ _ _ (hF.via rfl)

theorem execSar_keeps {F : Nat} {s0 : State} {s : State} (hs : Keeps F s0 s) (k : Nvc) (o : AluR)  (hF : Within 0x10000000000000000000000400030af800000000000000000000084f00 F) :
    Kept F s0 (execSar k o s) := by
  unfold execSar
  repeat' first
    | with_reducible assumption | with_reducible refine Kept.next ?_ | with_reducible refine aluR_keeps ?_ _ _ _ _ (hF.via rfl)

theorem execSbc_keeps {F : Nat} {s0 : State} {s : State} (hs : Keeps F s0 s) (k : Nvc) (o : AluR)  (hF : Within 0x10000000000000000000000400030af800000000000000000000084f00 F) :
    Kept F s0 (execSbc k o s) := by
  unfold execSbc
  repeat' first
    | with_reducible assumption | with_reducible refine Kept.next ?_ | with_reducible refine aluR_keeps ?_ _ _ _ _ (hF.via rfl)

theorem execShi_keeps {F : Nat} {s0 : State} {s : State} (hs : Keeps F s0 s) (k : Nvc) (o : AluI)  (hF : Within 0x10000000000000000000000400030af800000000000000000000084f00 F) :
    Kept F s0 (execShi k o s) := by
  unfold execShi
  repeat' first
    | with_reducible assumption | with_reducible refine Kept.next ?_ | with_reducible refine aluI_keeps ?_ _ _ _ _ (hF.via rfl)

theorem execShl_keeps {F : Nat} {s0 : State} {s : State} (hs : Keeps F s0 s) (k : Nvc) (o : AluR)  (hF : Within 0x10000000000000000000000400030af800000000000000000000084f00 F) :
    Kept F s0 (execShl k o s) := by
  unfold execShl
  repeat' first
    | with_reducible assumption | with_reducible refine Kept.next ?_ | with_reducible refine aluR_keeps ?_ _ _ _ _ (hF.via rfl)

theorem execShr_keeps {F : Nat} {s0 : State} {s : State} (hs : Keeps F s0 s) (k : Nvc) (o : AluR)  (hF : Within 0x10000000000000000000000400030af800000000000000000000084f00 F) :
    Kept F s0 (execShr k o s) := by
  unfold execShr
  repeat' first
    | with_reducible assumption | with_reducible refine Kept.next ?_ | with_reducible refine aluR_keeps ?_ _ _ _ _ (hF.via rfl)

theorem execSpill_keeps {F : Nat} {s0 : State} {s : State} (hs : Keeps F s0 s) (k : Nvc)  (hF : Within 0x1ffffffffffffffffffffffffffffffffffffffffffffffffffff7fffdc F) :
    Kept F s0 (execSpill k s) := by
  unfold execSpill
  repeat' first
    | with_reducible assumption | (intro x; subst x) | with_reducible intro _ | with_reducible refine Kept.next ?_
    | with_reducible refine NvcResKeeps.ite ?_ ?_ | with_reducible refine NvcResKeeps.done ?_ | with_reducible refine NvcResKeeps.exc ?_ _ _ _
    | with_reducible refine runInstr_keeps ?_ _ _ _ _ ?_ (hF.via rfl) | with_reducible refine refusedAccess_keeps ?_ _ _ _ _ _ (hF.via rfl)
    | with_reducible refine coreStore_keeps ?_ _ _ _ _ (hF.via rfl) | with_reducible refine onCore_keeps ?_ _ _ (hF.via rfl) | lift_lets | split

theorem storeOp_keeps {F : Nat} {s0 : State} {s : State} (hs : Keeps F s0 s) (sv : Option (Fin 32)) (n : Nat) (o : MemM) (a2 : Nat)  (hF : Within 0x1ffffffffffffffffffffffffffffffffffffffffffffffffffff7fffdc F) :
    NvcResKeeps F s0 (storeOp sv n o s a2) := by
  unfold storeOp
  repeat' first
    | with_reducible assumption | with_reducible refine NvcResKeeps.done ?_ | with_reducible refine NvcResKeeps.exc ?_ _ _ _
    | with_reducible refine refusedAccess_keeps ?_ _ _ _ _ _ (hF.via rfl) | with_reducible refine onCore_keeps ?_ _ _ (hF.via rfl)
    | with_reducible refine coreStore_keeps ?_ _ _ _ _ (hF.via rfl) | with_reducible refine setCore_keeps ?_ _ _ (hF.bit rfl) | split

theorem execStb_keeps {F : Nat} {s0 : State} {s : State} (hs : Keeps F s0 s) (k : Nvc) (o : MemM)  (hF : Within 0x1ffffffffffffffffffffffffffffffffffffffffffffffffffff7fffdc F) :
    Kept F s0 (execStb k o s) := by
  unfold execStb
  repeat' first
    | with_reducible assumption | with_reducible intro _ | with_reducible refine Kept.next ?_
    | with_reducible refine runInstr_keeps ?_ _ _ _ _ ?_ (hF.via rfl) | with_reducible refine storeOp_keeps ?_ _ _ _ _ (hF.via rfl)

theorem execSth_keeps {F : Nat} {s0 : State} {s : State} (hs : Keeps F s0 s) (k : Nvc) (o : MemM)  (hF : Within 0x1ffffffffffffffffffffffffffffffffffffffffffffffffffff7fffdc F) :
    Kept F s0 (execSth k o s) := by
  unfold execSth
  repeat' first
    | with_reducible assumption | with_reducible intro _ | with_reducible refine Kept.next ?_
    | with_reducible refine runInstr_keeps ?_ _ _ _ _ ?_ (hF.via rfl) | with_reducible refine storeOp_keeps ?_ _ _ _ _ (hF.via rfl)

theorem execStw_keeps {F : Nat} {s0 : State} {s : State} (hs : Keeps F s0 s) (k : Nvc) (o : MemM)  (hF : Within 0x1ffffffffffffffffffffffffffffffffffffffffffffffffffff7fffdc F) :
    Kept F s0 (execStw k o s) := by
  unfold execStw
  repeat' first
    | with_reducible assumption | with_reducible intro _ | with_reducible refine Kept.next ?_
    | with_reducible refine runInstr_keeps ?_ _ _ _ _ ?_ (hF.via rfl) | with_reducible refine storeOp_keeps ?_ _ _ _ _ (hF.via rfl)

theorem execSub_keeps {F : Nat} {s0 : State} {s : State} (hs : Keeps F s0 s) (k : Nvc) (o : AluR)  (hF : Within 0x10000000000000000000000400030af800000000000000000000084f00 F) :
    Kept F s0 (execSub k o s) := by
  unfold execSub
  repeat' first
    | with_reducible assumption | with_reducible refine Kept.next ?_ | with_reducible refine aluR_keeps ?_ _ _ _ _ (hF.via rfl)

theorem execSubi_keeps {F : Nat} {s0 : State} {s : State} (hs : Keeps F s0 s) (k : Nvc) (o : AluI)  (hF : Within 0x10000000000000000000000400030af800000000000000000000084f00 F) :
    Kept F s0 (execSubi k o s) := by
  unfold execSubi
  repeat' first
    | with_reducible assumption | with_reducible refine Kept.next ?_ | with_reducible refine aluI_keeps ?_ _ _ _ _ (hF.via rfl)

theorem execTrap_keeps {F : Nat} {s0 : State} {s : State} (hs : Keeps F s0 s) (k : Nvc) (code : Byte)  (hF : Within 0x10000000000000000000000400030af800000000000000000000084f00 F) :
    Kept F s0 (execTrap k code s) := by
  unfold execTrap
  repeat' first
    | with_reducible assumption | with_reducible intro _ | with_reducible refine Kept.next ?_ | with_reducible refine NvcResKeeps.done ?_
    | with_reducible refine runInstr_keeps ?_ _ _ _ _ ?_ (hF.via rfl) | with_reducible refine raise_keeps ?_ _ _ _ _ (hF.via rfl)

theorem execWatchdogWarning_keeps {F : Nat} {s0 : State} {s : State} (hs : Keeps F s0 s) (c : Fin 24)  (hF : Within 0x100 F) :
    Kept F s0 (execWatchdogWarning c s) := by
  unfold execWatchdogWarning
  repeat' first
    | with_reducible assumption | with_reducible refine Keeps.ite ?_ ?_ | with_reducible refine Kept.next ?_
    | with_reducible refine coreIrq_keeps ?_ _ _ (hF.via rfl) | with_reducible refine onCore_keeps ?_ _ _ (hF.via rfl)

theorem execWfi_keeps {F : Nat} {s0 : State} {s : State} (hs : Keeps F s0 s) (k : Nvc)  (hF : Within 0x10000000000000000000000400030af800000000000000000000084f00 F) :
    Kept F s0 (execWfi k s) := by
  unfold execWfi
  repeat' first
    | with_reducible assumption | with_reducible intro _ | with_reducible refine Keeps.ite ?_ ?_ | with_reducible refine Kept.next ?_
    | with_reducible refine NvcResKeeps.done ?_ | with_reducible refine runInstr_keeps ?_ _ _ _ _ ?_ (hF.via rfl)
    | with_reducible refine onCore_keeps ?_ _ _ (hF.via rfl) | with_reducible refine setNvState_keeps ?_ _ _ (hF.via rfl)

theorem execWfiResume_keeps {F : Nat} {s0 : State} {s : State} (hs : Keeps F s0 s) (c : Fin 24)  (hF : Within 0x10000000000000000000000400030ab800000000000000000000084f00 F) :
    Kept F s0 (execWfiResume c s) := by
  unfold execWfiResume
  repeat' first
    | with_reducible assumption | with_reducible refine Kept.ite ?_ ?_ | with_reducible refine Kept.next ?_
    | with_reducible refine execInterruptEntry_keeps ?_ _ (hF.via rfl) | with_reducible refine setNvState_keeps ?_ _ _ (hF.via rfl)

theorem execXor_keeps {F : Nat} {s0 : State} {s : State} (hs : Keeps F s0 s) (k : Nvc) (o : AluR)  (hF : Within 0x10000000000000000000000400030af800000000000000000000084f00 F) :
    Kept F s0 (execXor k o s) := by
  unfold execXor
  repeat' first
    | with_reducible assumption | with_reducible refine Kept.next ?_ | with_reducible refine aluR_keeps ?_ _ _ _ _ (hF.via rfl)

theorem execXori_keeps {F : Nat} {s0 : State} {s : State} (hs : Keeps F s0 s) (k : Nvc) (o : AluI)  (hF : Within 0x10000000000000000000000400030af800000000000000000000084f00 F) :
    Kept F s0 (execXori k o s) := by
  unfold execXori
  repeat' first
    | with_reducible assumption | with_reducible refine Kept.next ?_ | with_reducible refine aluI_keeps ?_ _ _ _ _ (hF.via rfl)

theorem execNetCntLowRead_keeps {F : Nat} {s0 : State} {s : State} (hs : Keeps F s0 s) (port : Fin 16) (i : Fin 11)  (hF : Within 0x120000000000000000000000040000000000010000000800080000200 F) :
    Kept F s0 (execNetCntLowRead port i s) := by
  unfold execNetCntLowRead
  repeat' first
    | with_reducible assumption | with_reducible refine Kept.next ?_ | with_reducible refine readOut_keeps ?_ _ (hF.via rfl)
    | with_reducible refine regLatch_keeps ?_ _ _ (hF.via rfl)

theorem execNetCntLowWrite_keeps {F : Nat} {s0 : State} {s : State} (hs : Keeps F s0 s) (m : Master) (port : Fin 16) (i : Fin 11) (v : Word)  (hF : Within 0x80000 F) :
    Kept F s0 (execNetCntLowWrite m port i v s) := by
  unfold execNetCntLowWrite
  repeat' first
    | with_reducible assumption | with_reducible refine Keeps.ite ?_ ?_ | with_reducible refine Kept.next ?_
    | with_reducible refine setNetCount_keeps ?_ _ _ _ (hF.via rfl)

theorem hostStore_keeps {F : Nat} {s0 : State} {s : State} (hs : Keeps F s0 s) (m : Master) (f : Nat) (off : Nat) (v : Word)  (hF : Within 0x1ffffffffffffffffffffffffffffffffffffffffffffffffffff7fffdc F) :
    Keeps F s0 (hostStore s m f off v) := by
  unfold hostStore
  repeat' first
    | with_reducible assumption | with_reducible refine Keeps.ite ?_ ?_ | with_reducible refine unsupported_keeps ?_ _ _ _ (hF.via rfl)
    | with_reducible refine regStore_keeps ?_ _ _ _ (hF.via rfl)

theorem storeConfig_keeps {F : Nat} {s0 : State} {s : State} (hs : Keeps F s0 s) (f : Nat) (x : CfgField)  (hF : Within 0x100280020000840aff08800000030000080408247e6f003e6b1c37efdc F) :
    Keeps F s0 (storeConfig s f x) := by
  unfold storeConfig
  repeat' first
    | with_reducible assumption | with_reducible intro _ | with_reducible refine Keeps.ite ?_ ?_
    | with_reducible refine onFn_keeps ?_ _ _ (hF.via rfl) | with_reducible refine releaseMsix_keeps ?_ _ (hF.via rfl)
    | with_reducible refine onHost_keeps ?_ _ (hF.via rfl) | with_reducible refine forAll_keeps ?_ _ _ ?_
    | with_reducible refine enterLoss_keeps ?_ _ (hF.via rfl) | split

theorem execRegisterWrite_keeps {F : Nat} {s0 : State} {s : State} (hs : Keeps F s0 s) (m : Master) (target : RegTarget) (v : Word)  (hF : Within 0x1ffffffffffffffffffffffffffffffffffffffffffffffffffff7fffdc F) :
    Kept F s0 (execRegisterWrite m target v s) := by
  unfold execRegisterWrite
  repeat' first
    | with_reducible assumption | with_reducible refine Keeps.ite ?_ ?_ | with_reducible refine Kept.next ?_
    | with_reducible refine regStore_keeps ?_ _ _ _ (hF.via rfl) | with_reducible refine refuseWrite_keeps ?_ _ _ (hF.via rfl)
    | with_reducible refine hostStore_keeps ?_ _ _ _ _ (hF.via rfl) | with_reducible refine emit_keeps ?_ _ (hF.via rfl)
    | with_reducible refine storeConfig_keeps ?_ _ _ (hF.via rfl) | split

end Sys2Proof.Machine
end

