-- ==== Sys2Proof/Laws/Frame.lean ====
section
/-! SUPPORT. From the footprint of an operation to the parts of the state that a command leaves alone. -/
set_option Elab.async false
namespace Sys2Proof.Machine

/-- A register outside the footprint reads as before. -/
theorem Keeps.rd_eq {F : Nat} {s t : State} (h : Keeps F s t) {r : Reg} (hr : r.within F = false) : rd t r = rd s r := by
  rcases h.regs r with e | e
  · rw [hr] at e; cases e
  · exact e

/-- A field outside the footprint is as before. -/
theorem Same.eq {F k : Nat} {α : Type} {a b : α} (h : Same F k a b) (hk : F.testBit k = false) : b = a := by
  rcases h with e | e
  · rw [hk] at e; cases e
  · exact e

/-- What each round of `forAll` establishes of its number, and every round keeps, holds of every number of the list. -/
theorem forAll_each {P : Nat → State → Prop} {f : State → Nat → State} (hset : ∀ s n, P n (f s n)) (hkeep : ∀ s n m, P n s → P n (f s m))
    (l : List Nat) (s : State) : ∀ n ∈ l, P n (forAll f s l) := by
  have stay : ∀ (l : List Nat) (s : State) (n : Nat), P n s → P n (forAll f s l) := by
    intro l
    induction l with
    | nil => exact fun _ _ h => h
    | cons m rest ih => exact fun s n h => ih _ n (hkeep s n m h)
  induction l generalizing s with
  | nil => intro n h; cases h
  | cons m rest ih =>
    intro n h
    rcases List.mem_cons.1 h with e | e
    · subst e; exact stay rest _ n (hset s n)
    · exact ih _ n e

/-- What every round of `forAll` keeps holds after it. -/
theorem forAll_inv {P : State → Prop} {f : State → Nat → State} (hkeep : ∀ s n, P s → P (f s n)) (l : List Nat) (s : State) (h : P s) :
    P (forAll f s l) := by
  induction l generalizing s with
  | nil => exact h
  | cons m rest ih => exact ih _ (hkeep s m h)

/-- The bits of a part in a footprint. -/
def Part.bits : Part → Nat
  | .reg r => 1 <<< (24 + r.ctorIdx)
  | .anyReg => 0x1ffffffffffffffffffffffffffffffffffffffffffffffffffff000000
  | .mem => 1 <<< 2
  | .watched => 1 <<< 3
  | .fresh => 1 <<< 4
  | .tick => 1 <<< 5
  | .tiles => 1 <<< 6
  | .plots => 1 <<< 7
  | .cores => 1 <<< 8
  | .out => 1 <<< 9
  | .host => 1 <<< 10
  | .evr => 1 <<< 11
  | .tel => 1 <<< 12
  | .power => 1 <<< 13
  | .fw => 1 <<< 14
  | .ram => 1 <<< 15
  | .ckp => 1 <<< 16
  | .dirtyC => 1 <<< 17
  | .dirtyD => 1 <<< 18
  | .net => 1 <<< 19
  | .rma => 1 <<< 20
  | .stg => 1 <<< 21
  | .sec => 1 <<< 22
  | .seed => 1 <<< 23

/-- The footprint of a list of parts. -/
def partBits : List Part → Nat
  | [] => 0
  | p :: rest => p.bits ||| partBits rest

theorem partBits_testBit {l : List Part} {k : Nat} (h : (partBits l).testBit k = true) : ∃ p ∈ l, p.bits.testBit k = true := by
  induction l with
  | nil => simp [partBits] at h
  | cons p rest ih =>
    simp only [partBits, Nat.testBit_or, Bool.or_eq_true] at h
    rcases h with h | h
    · exact ⟨p, .head _, h⟩
    · obtain ⟨q, hq, hb⟩ := ih h
      exact ⟨q, .tail _ hq, hb⟩

theorem bits_reg {r : Reg} {k : Nat} (h : (Part.reg r).bits.testBit k = true) : k = 24 + r.ctorIdx := by
  simp only [Part.bits, Nat.one_shiftLeft, Nat.testBit_two_pow, decide_eq_true_eq] at h
  exact h.symm

theorem bits_ge {r : Reg} {k : Nat} (hk : k < 24) : (Part.reg r).bits.testBit k = false := by
  rcases hb : (Part.reg r).bits.testBit k with _ | _
  · rfl
  · have := bits_reg hb
    omega

theorem partBits_field {F : Nat} {l : List Part} {k : Nat} {α : Type} {a b : α} (p : Part)
    (hp : ∀ q : Part, q.bits.testBit k = true → q = p) (hF : F ||| partBits l = partBits l) (h : Same F k a b) : p ∈ l ∨ b = a := by
  rcases h with h | h
  · left
    have h2 : (partBits l).testBit k = true := by rw [← hF, Nat.testBit_or, h, Bool.true_or]
    obtain ⟨q, hq, hb⟩ := partBits_testBit h2
    exact hp q hb ▸ hq
  · exact .inr h

theorem field_bits {p : Part} (k : Nat) (hp : p.bits = 1 <<< k) (hk : k < 24) (q : Part) (h : q.bits.testBit k = true) : q = p := by
  cases q with
  | reg r => rw [bits_ge hk] at h; exact absurd h (by decide)
  | anyReg =>
    exfalso
    have : k = 0 ∨ k = 1 ∨ k = 2 ∨ k = 3 ∨ k = 4 ∨ k = 5 ∨ k = 6 ∨ k = 7 ∨ k = 8 ∨ k = 9 ∨ k = 10 ∨ k = 11 ∨ k = 12 ∨ k = 13 ∨ k = 14 ∨ k = 15 ∨
      k = 16 ∨ k = 17 ∨ k = 18 ∨ k = 19 ∨ k = 20 ∨ k = 21 ∨ k = 22 ∨ k = 23 := by omega
    rcases this with e | e | e | e | e | e | e | e | e | e | e | e | e | e | e | e | e | e | e | e | e | e | e | e <;> subst e <;> exact absurd h (by decide)
  | _ =>
    simp only [Part.bits, Nat.one_shiftLeft, Nat.testBit_two_pow, decide_eq_true_eq] at h
    subst h
    revert hp
    cases p with
    | reg r =>
      intro hp
      exfalso
      simp only [Part.bits, Nat.one_shiftLeft] at hp
      have := Nat.pow_right_injective (le_refl 2) hp
      omega
    | _ => first | (intro _; rfl) | (intro hp; exact absurd hp (by decide))

/-- What an operation keeps, as the parts it leaves alone. -/
theorem Keeps.sameBut {F : Nat} {s t : State} (h : Keeps F s t) (l : List Part) (hF : F ||| partBits l = partBits l) : SameBut l s t where
  pending := h.pending
  regs := fun r => by
    rcases h.regs r with e | e
    · rw [within_eq] at e
      have h2 : (partBits l).testBit (24 + r.ctorIdx) = true := by rw [← hF, Nat.testBit_or, e, Bool.true_or]
      obtain ⟨q, hq, hb⟩ := partBits_testBit h2
      cases q with
      | reg q => exact .inr (.inl ⟨q, hq, (Nat.add_left_cancel (bits_reg hb)).symm⟩)
      | anyReg => exact .inl hq
      | _ =>
        exfalso
        simp only [Part.bits, Nat.one_shiftLeft, Nat.testBit_two_pow, decide_eq_true_eq] at hb
        omega
    · exact .inr (.inr e)
  mem := partBits_field .mem (field_bits 2 rfl (by decide)) hF h.mem
  watched := partBits_field .watched (field_bits 3 rfl (by decide)) hF h.watched
  fresh := partBits_field .fresh (field_bits 4 rfl (by decide)) hF h.fresh
  tick := partBits_field .tick (field_bits 5 rfl (by decide)) hF h.tick
  tiles := partBits_field .tiles (field_bits 6 rfl (by decide)) hF h.tiles
  plots := partBits_field .plots (field_bits 7 rfl (by decide)) hF h.plots
  cores := partBits_field .cores (field_bits 8 rfl (by decide)) hF h.cores
  out := partBits_field .out (field_bits 9 rfl (by decide)) hF h.out
  host := partBits_field .host (field_bits 10 rfl (by decide)) hF h.host
  evr := partBits_field .evr (field_bits 11 rfl (by decide)) hF h.evr
  tel := partBits_field .tel (field_bits 12 rfl (by decide)) hF h.tel
  power := partBits_field .power (field_bits 13 rfl (by decide)) hF h.power
  fw := partBits_field .fw (field_bits 14 rfl (by decide)) hF h.fw
  ram := partBits_field .ram (field_bits 15 rfl (by decide)) hF h.ram
  ckp := partBits_field .ckp (field_bits 16 rfl (by decide)) hF h.ckp
  dirtyC := partBits_field .dirtyC (field_bits 17 rfl (by decide)) hF h.dirtyC
  dirtyD := partBits_field .dirtyD (field_bits 18 rfl (by decide)) hF h.dirtyD
  net := partBits_field .net (field_bits 19 rfl (by decide)) hF h.net
  rma := partBits_field .rma (field_bits 20 rfl (by decide)) hF h.rma
  stg := partBits_field .stg (field_bits 21 rfl (by decide)) hF h.stg
  sec := partBits_field .sec (field_bits 22 rfl (by decide)) hF h.sec
  seed := partBits_field .seed (field_bits 23 rfl (by decide)) hF h.seed

end Sys2Proof.Machine
end

