-- ==== Sys2Proof/Laws/State.lean ====
section
/-! SUPPORT. The state's fields after each named update: what the update leaves alone, field by field, and what it changes, read back through the
accessors. -/
set_option Elab.async false
namespace Sys2Proof.Machine

/-! ### wr -/
@[simp] theorem wr_pending (s : State) (r : Reg) (v : Word) : (wr s r v).pending = s.pending := rfl
@[simp] theorem wr_mem (s : State) (r : Reg) (v : Word) : (wr s r v).mem = s.mem := rfl
@[simp] theorem wr_watched (s : State) (r : Reg) (v : Word) : (wr s r v).watched = s.watched := rfl
@[simp] theorem wr_fresh (s : State) (r : Reg) (v : Word) : (wr s r v).fresh = s.fresh := rfl
@[simp] theorem wr_tick (s : State) (r : Reg) (v : Word) : (wr s r v).tick = s.tick := rfl
@[simp] theorem wr_tiles (s : State) (r : Reg) (v : Word) : (wr s r v).tiles = s.tiles := rfl
@[simp] theorem wr_plots (s : State) (r : Reg) (v : Word) : (wr s r v).plots = s.plots := rfl
@[simp] theorem wr_cores (s : State) (r : Reg) (v : Word) : (wr s r v).cores = s.cores := rfl
@[simp] theorem wr_out (s : State) (r : Reg) (v : Word) : (wr s r v).out = s.out := rfl
@[simp] theorem wr_host (s : State) (r : Reg) (v : Word) : (wr s r v).host = s.host := rfl
@[simp] theorem wr_evr (s : State) (r : Reg) (v : Word) : (wr s r v).evr = s.evr := rfl
@[simp] theorem wr_tel (s : State) (r : Reg) (v : Word) : (wr s r v).tel = s.tel := rfl
@[simp] theorem wr_power (s : State) (r : Reg) (v : Word) : (wr s r v).power = s.power := rfl
@[simp] theorem wr_fw (s : State) (r : Reg) (v : Word) : (wr s r v).fw = s.fw := rfl
@[simp] theorem wr_ram (s : State) (r : Reg) (v : Word) : (wr s r v).ram = s.ram := rfl
@[simp] theorem wr_ckp (s : State) (r : Reg) (v : Word) : (wr s r v).ckp = s.ckp := rfl
@[simp] theorem wr_dirtyC (s : State) (r : Reg) (v : Word) : (wr s r v).dirtyC = s.dirtyC := rfl
@[simp] theorem wr_dirtyD (s : State) (r : Reg) (v : Word) : (wr s r v).dirtyD = s.dirtyD := rfl
@[simp] theorem wr_net (s : State) (r : Reg) (v : Word) : (wr s r v).net = s.net := rfl
@[simp] theorem wr_rma (s : State) (r : Reg) (v : Word) : (wr s r v).rma = s.rma := rfl
@[simp] theorem wr_stg (s : State) (r : Reg) (v : Word) : (wr s r v).stg = s.stg := rfl
@[simp] theorem wr_sec (s : State) (r : Reg) (v : Word) : (wr s r v).sec = s.sec := rfl
@[simp] theorem wr_seed (s : State) (r : Reg) (v : Word) : (wr s r v).seed = s.seed := rfl

/-! ### wrCommit -/
@[simp] theorem wrCommit_pending (s : State) (r : Reg) (v : Word) : (wrCommit s r v).pending = s.pending := rfl
@[simp] theorem wrCommit_mem (s : State) (r : Reg) (v : Word) : (wrCommit s r v).mem = s.mem := rfl
@[simp] theorem wrCommit_watched (s : State) (r : Reg) (v : Word) : (wrCommit s r v).watched = s.watched := rfl
@[simp] theorem wrCommit_fresh (s : State) (r : Reg) (v : Word) : (wrCommit s r v).fresh = s.fresh := rfl
@[simp] theorem wrCommit_tick (s : State) (r : Reg) (v : Word) : (wrCommit s r v).tick = s.tick := rfl
@[simp] theorem wrCommit_tiles (s : State) (r : Reg) (v : Word) : (wrCommit s r v).tiles = s.tiles := rfl
@[simp] theorem wrCommit_plots (s : State) (r : Reg) (v : Word) : (wrCommit s r v).plots = s.plots := rfl
@[simp] theorem wrCommit_cores (s : State) (r : Reg) (v : Word) : (wrCommit s r v).cores = s.cores := rfl
@[simp] theorem wrCommit_out (s : State) (r : Reg) (v : Word) : (wrCommit s r v).out = s.out := rfl
@[simp] theorem wrCommit_host (s : State) (r : Reg) (v : Word) : (wrCommit s r v).host = s.host := rfl
@[simp] theorem wrCommit_evr (s : State) (r : Reg) (v : Word) : (wrCommit s r v).evr = s.evr := rfl
@[simp] theorem wrCommit_tel (s : State) (r : Reg) (v : Word) : (wrCommit s r v).tel = s.tel := rfl
@[simp] theorem wrCommit_power (s : State) (r : Reg) (v : Word) : (wrCommit s r v).power = s.power := rfl
@[simp] theorem wrCommit_fw (s : State) (r : Reg) (v : Word) : (wrCommit s r v).fw = s.fw := rfl
@[simp] theorem wrCommit_ram (s : State) (r : Reg) (v : Word) : (wrCommit s r v).ram = s.ram := rfl
@[simp] theorem wrCommit_ckp (s : State) (r : Reg) (v : Word) : (wrCommit s r v).ckp = s.ckp := rfl
@[simp] theorem wrCommit_dirtyC (s : State) (r : Reg) (v : Word) : (wrCommit s r v).dirtyC = s.dirtyC := rfl
@[simp] theorem wrCommit_dirtyD (s : State) (r : Reg) (v : Word) : (wrCommit s r v).dirtyD = s.dirtyD := rfl
@[simp] theorem wrCommit_net (s : State) (r : Reg) (v : Word) : (wrCommit s r v).net = s.net := rfl
@[simp] theorem wrCommit_rma (s : State) (r : Reg) (v : Word) : (wrCommit s r v).rma = s.rma := rfl
@[simp] theorem wrCommit_stg (s : State) (r : Reg) (v : Word) : (wrCommit s r v).stg = s.stg := rfl
@[simp] theorem wrCommit_sec (s : State) (r : Reg) (v : Word) : (wrCommit s r v).sec = s.sec := rfl
@[simp] theorem wrCommit_seed (s : State) (r : Reg) (v : Word) : (wrCommit s r v).seed = s.seed := rfl

/-! ### wrFld -/
@[simp] theorem wrFld_pending (s : State) (r : Reg) (hi lo v : Nat) : (wrFld s r hi lo v).pending = s.pending := rfl
@[simp] theorem wrFld_mem (s : State) (r : Reg) (hi lo v : Nat) : (wrFld s r hi lo v).mem = s.mem := rfl
@[simp] theorem wrFld_watched (s : State) (r : Reg) (hi lo v : Nat) : (wrFld s r hi lo v).watched = s.watched := rfl
@[simp] theorem wrFld_fresh (s : State) (r : Reg) (hi lo v : Nat) : (wrFld s r hi lo v).fresh = s.fresh := rfl
@[simp] theorem wrFld_tick (s : State) (r : Reg) (hi lo v : Nat) : (wrFld s r hi lo v).tick = s.tick := rfl
@[simp] theorem wrFld_tiles (s : State) (r : Reg) (hi lo v : Nat) : (wrFld s r hi lo v).tiles = s.tiles := rfl
@[simp] theorem wrFld_plots (s : State) (r : Reg) (hi lo v : Nat) : (wrFld s r hi lo v).plots = s.plots := rfl
@[simp] theorem wrFld_cores (s : State) (r : Reg) (hi lo v : Nat) : (wrFld s r hi lo v).cores = s.cores := rfl
@[simp] theorem wrFld_out (s : State) (r : Reg) (hi lo v : Nat) : (wrFld s r hi lo v).out = s.out := rfl
@[simp] theorem wrFld_host (s : State) (r : Reg) (hi lo v : Nat) : (wrFld s r hi lo v).host = s.host := rfl
@[simp] theorem wrFld_evr (s : State) (r : Reg) (hi lo v : Nat) : (wrFld s r hi lo v).evr = s.evr := rfl
@[simp] theorem wrFld_tel (s : State) (r : Reg) (hi lo v : Nat) : (wrFld s r hi lo v).tel = s.tel := rfl
@[simp] theorem wrFld_power (s : State) (r : Reg) (hi lo v : Nat) : (wrFld s r hi lo v).power = s.power := rfl
@[simp] theorem wrFld_fw (s : State) (r : Reg) (hi lo v : Nat) : (wrFld s r hi lo v).fw = s.fw := rfl
@[simp] theorem wrFld_ram (s : State) (r : Reg) (hi lo v : Nat) : (wrFld s r hi lo v).ram = s.ram := rfl
@[simp] theorem wrFld_ckp (s : State) (r : Reg) (hi lo v : Nat) : (wrFld s r hi lo v).ckp = s.ckp := rfl
@[simp] theorem wrFld_dirtyC (s : State) (r : Reg) (hi lo v : Nat) : (wrFld s r hi lo v).dirtyC = s.dirtyC := rfl
@[simp] theorem wrFld_dirtyD (s : State) (r : Reg) (hi lo v : Nat) : (wrFld s r hi lo v).dirtyD = s.dirtyD := rfl
@[simp] theorem wrFld_net (s : State) (r : Reg) (hi lo v : Nat) : (wrFld s r hi lo v).net = s.net := rfl
@[simp] theorem wrFld_rma (s : State) (r : Reg) (hi lo v : Nat) : (wrFld s r hi lo v).rma = s.rma := rfl
@[simp] theorem wrFld_stg (s : State) (r : Reg) (hi lo v : Nat) : (wrFld s r hi lo v).stg = s.stg := rfl
@[simp] theorem wrFld_sec (s : State) (r : Reg) (hi lo v : Nat) : (wrFld s r hi lo v).sec = s.sec := rfl
@[simp] theorem wrFld_seed (s : State) (r : Reg) (hi lo v : Nat) : (wrFld s r hi lo v).seed = s.seed := rfl

/-! ### wrBit -/
@[simp] theorem wrBit_pending (s : State) (r : Reg) (i : Nat) (b : Bool) : (wrBit s r i b).pending = s.pending := rfl
@[simp] theorem wrBit_mem (s : State) (r : Reg) (i : Nat) (b : Bool) : (wrBit s r i b).mem = s.mem := rfl
@[simp] theorem wrBit_watched (s : State) (r : Reg) (i : Nat) (b : Bool) : (wrBit s r i b).watched = s.watched := rfl
@[simp] theorem wrBit_fresh (s : State) (r : Reg) (i : Nat) (b : Bool) : (wrBit s r i b).fresh = s.fresh := rfl
@[simp] theorem wrBit_tick (s : State) (r : Reg) (i : Nat) (b : Bool) : (wrBit s r i b).tick = s.tick := rfl
@[simp] theorem wrBit_tiles (s : State) (r : Reg) (i : Nat) (b : Bool) : (wrBit s r i b).tiles = s.tiles := rfl
@[simp] theorem wrBit_plots (s : State) (r : Reg) (i : Nat) (b : Bool) : (wrBit s r i b).plots = s.plots := rfl
@[simp] theorem wrBit_cores (s : State) (r : Reg) (i : Nat) (b : Bool) : (wrBit s r i b).cores = s.cores := rfl
@[simp] theorem wrBit_out (s : State) (r : Reg) (i : Nat) (b : Bool) : (wrBit s r i b).out = s.out := rfl
@[simp] theorem wrBit_host (s : State) (r : Reg) (i : Nat) (b : Bool) : (wrBit s r i b).host = s.host := rfl
@[simp] theorem wrBit_evr (s : State) (r : Reg) (i : Nat) (b : Bool) : (wrBit s r i b).evr = s.evr := rfl
@[simp] theorem wrBit_tel (s : State) (r : Reg) (i : Nat) (b : Bool) : (wrBit s r i b).tel = s.tel := rfl
@[simp] theorem wrBit_power (s : State) (r : Reg) (i : Nat) (b : Bool) : (wrBit s r i b).power = s.power := rfl
@[simp] theorem wrBit_fw (s : State) (r : Reg) (i : Nat) (b : Bool) : (wrBit s r i b).fw = s.fw := rfl
@[simp] theorem wrBit_ram (s : State) (r : Reg) (i : Nat) (b : Bool) : (wrBit s r i b).ram = s.ram := rfl
@[simp] theorem wrBit_ckp (s : State) (r : Reg) (i : Nat) (b : Bool) : (wrBit s r i b).ckp = s.ckp := rfl
@[simp] theorem wrBit_dirtyC (s : State) (r : Reg) (i : Nat) (b : Bool) : (wrBit s r i b).dirtyC = s.dirtyC := rfl
@[simp] theorem wrBit_dirtyD (s : State) (r : Reg) (i : Nat) (b : Bool) : (wrBit s r i b).dirtyD = s.dirtyD := rfl
@[simp] theorem wrBit_net (s : State) (r : Reg) (i : Nat) (b : Bool) : (wrBit s r i b).net = s.net := rfl
@[simp] theorem wrBit_rma (s : State) (r : Reg) (i : Nat) (b : Bool) : (wrBit s r i b).rma = s.rma := rfl
@[simp] theorem wrBit_stg (s : State) (r : Reg) (i : Nat) (b : Bool) : (wrBit s r i b).stg = s.stg := rfl
@[simp] theorem wrBit_sec (s : State) (r : Reg) (i : Nat) (b : Bool) : (wrBit s r i b).sec = s.sec := rfl
@[simp] theorem wrBit_seed (s : State) (r : Reg) (i : Nat) (b : Bool) : (wrBit s r i b).seed = s.seed := rfl

/-! ### orReg -/
@[simp] theorem orReg_pending (s : State) (r : Reg) (m : Word) : (orReg s r m).pending = s.pending := rfl
@[simp] theorem orReg_mem (s : State) (r : Reg) (m : Word) : (orReg s r m).mem = s.mem := rfl
@[simp] theorem orReg_watched (s : State) (r : Reg) (m : Word) : (orReg s r m).watched = s.watched := rfl
@[simp] theorem orReg_fresh (s : State) (r : Reg) (m : Word) : (orReg s r m).fresh = s.fresh := rfl
@[simp] theorem orReg_tick (s : State) (r : Reg) (m : Word) : (orReg s r m).tick = s.tick := rfl
@[simp] theorem orReg_tiles (s : State) (r : Reg) (m : Word) : (orReg s r m).tiles = s.tiles := rfl
@[simp] theorem orReg_plots (s : State) (r : Reg) (m : Word) : (orReg s r m).plots = s.plots := rfl
@[simp] theorem orReg_cores (s : State) (r : Reg) (m : Word) : (orReg s r m).cores = s.cores := rfl
@[simp] theorem orReg_out (s : State) (r : Reg) (m : Word) : (orReg s r m).out = s.out := rfl
@[simp] theorem orReg_host (s : State) (r : Reg) (m : Word) : (orReg s r m).host = s.host := rfl
@[simp] theorem orReg_evr (s : State) (r : Reg) (m : Word) : (orReg s r m).evr = s.evr := rfl
@[simp] theorem orReg_tel (s : State) (r : Reg) (m : Word) : (orReg s r m).tel = s.tel := rfl
@[simp] theorem orReg_power (s : State) (r : Reg) (m : Word) : (orReg s r m).power = s.power := rfl
@[simp] theorem orReg_fw (s : State) (r : Reg) (m : Word) : (orReg s r m).fw = s.fw := rfl
@[simp] theorem orReg_ram (s : State) (r : Reg) (m : Word) : (orReg s r m).ram = s.ram := rfl
@[simp] theorem orReg_ckp (s : State) (r : Reg) (m : Word) : (orReg s r m).ckp = s.ckp := rfl
@[simp] theorem orReg_dirtyC (s : State) (r : Reg) (m : Word) : (orReg s r m).dirtyC = s.dirtyC := rfl
@[simp] theorem orReg_dirtyD (s : State) (r : Reg) (m : Word) : (orReg s r m).dirtyD = s.dirtyD := rfl
@[simp] theorem orReg_net (s : State) (r : Reg) (m : Word) : (orReg s r m).net = s.net := rfl
@[simp] theorem orReg_rma (s : State) (r : Reg) (m : Word) : (orReg s r m).rma = s.rma := rfl
@[simp] theorem orReg_stg (s : State) (r : Reg) (m : Word) : (orReg s r m).stg = s.stg := rfl
@[simp] theorem orReg_sec (s : State) (r : Reg) (m : Word) : (orReg s r m).sec = s.sec := rfl
@[simp] theorem orReg_seed (s : State) (r : Reg) (m : Word) : (orReg s r m).seed = s.seed := rfl

/-! ### count -/
@[simp] theorem count_pending (s : State) (r : Reg) (n : Nat) : (count s r n).pending = s.pending := rfl
@[simp] theorem count_mem (s : State) (r : Reg) (n : Nat) : (count s r n).mem = s.mem := rfl
@[simp] theorem count_watched (s : State) (r : Reg) (n : Nat) : (count s r n).watched = s.watched := rfl
@[simp] theorem count_fresh (s : State) (r : Reg) (n : Nat) : (count s r n).fresh = s.fresh := rfl
@[simp] theorem count_tick (s : State) (r : Reg) (n : Nat) : (count s r n).tick = s.tick := rfl
@[simp] theorem count_tiles (s : State) (r : Reg) (n : Nat) : (count s r n).tiles = s.tiles := rfl
@[simp] theorem count_plots (s : State) (r : Reg) (n : Nat) : (count s r n).plots = s.plots := rfl
@[simp] theorem count_cores (s : State) (r : Reg) (n : Nat) : (count s r n).cores = s.cores := rfl
@[simp] theorem count_out (s : State) (r : Reg) (n : Nat) : (count s r n).out = s.out := rfl
@[simp] theorem count_host (s : State) (r : Reg) (n : Nat) : (count s r n).host = s.host := rfl
@[simp] theorem count_evr (s : State) (r : Reg) (n : Nat) : (count s r n).evr = s.evr := rfl
@[simp] theorem count_tel (s : State) (r : Reg) (n : Nat) : (count s r n).tel = s.tel := rfl
@[simp] theorem count_power (s : State) (r : Reg) (n : Nat) : (count s r n).power = s.power := rfl
@[simp] theorem count_fw (s : State) (r : Reg) (n : Nat) : (count s r n).fw = s.fw := rfl
@[simp] theorem count_ram (s : State) (r : Reg) (n : Nat) : (count s r n).ram = s.ram := rfl
@[simp] theorem count_ckp (s : State) (r : Reg) (n : Nat) : (count s r n).ckp = s.ckp := rfl
@[simp] theorem count_dirtyC (s : State) (r : Reg) (n : Nat) : (count s r n).dirtyC = s.dirtyC := rfl
@[simp] theorem count_dirtyD (s : State) (r : Reg) (n : Nat) : (count s r n).dirtyD = s.dirtyD := rfl
@[simp] theorem count_net (s : State) (r : Reg) (n : Nat) : (count s r n).net = s.net := rfl
@[simp] theorem count_rma (s : State) (r : Reg) (n : Nat) : (count s r n).rma = s.rma := rfl
@[simp] theorem count_stg (s : State) (r : Reg) (n : Nat) : (count s r n).stg = s.stg := rfl
@[simp] theorem count_sec (s : State) (r : Reg) (n : Nat) : (count s r n).sec = s.sec := rfl
@[simp] theorem count_seed (s : State) (r : Reg) (n : Nat) : (count s r n).seed = s.seed := rfl

/-! ### resetRegs -/
@[simp] theorem resetRegs_pending (s : State) (p : Reg → Bool) : (resetRegs s p).pending = s.pending := rfl
@[simp] theorem resetRegs_mem (s : State) (p : Reg → Bool) : (resetRegs s p).mem = s.mem := rfl
@[simp] theorem resetRegs_watched (s : State) (p : Reg → Bool) : (resetRegs s p).watched = s.watched := rfl
@[simp] theorem resetRegs_fresh (s : State) (p : Reg → Bool) : (resetRegs s p).fresh = s.fresh := rfl
@[simp] theorem resetRegs_tick (s : State) (p : Reg → Bool) : (resetRegs s p).tick = s.tick := rfl
@[simp] theorem resetRegs_tiles (s : State) (p : Reg → Bool) : (resetRegs s p).tiles = s.tiles := rfl
@[simp] theorem resetRegs_plots (s : State) (p : Reg → Bool) : (resetRegs s p).plots = s.plots := rfl
@[simp] theorem resetRegs_cores (s : State) (p : Reg → Bool) : (resetRegs s p).cores = s.cores := rfl
@[simp] theorem resetRegs_out (s : State) (p : Reg → Bool) : (resetRegs s p).out = s.out := rfl
@[simp] theorem resetRegs_host (s : State) (p : Reg → Bool) : (resetRegs s p).host = s.host := rfl
@[simp] theorem resetRegs_evr (s : State) (p : Reg → Bool) : (resetRegs s p).evr = s.evr := rfl
@[simp] theorem resetRegs_tel (s : State) (p : Reg → Bool) : (resetRegs s p).tel = s.tel := rfl
@[simp] theorem resetRegs_power (s : State) (p : Reg → Bool) : (resetRegs s p).power = s.power := rfl
@[simp] theorem resetRegs_fw (s : State) (p : Reg → Bool) : (resetRegs s p).fw = s.fw := rfl
@[simp] theorem resetRegs_ram (s : State) (p : Reg → Bool) : (resetRegs s p).ram = s.ram := rfl
@[simp] theorem resetRegs_ckp (s : State) (p : Reg → Bool) : (resetRegs s p).ckp = s.ckp := rfl
@[simp] theorem resetRegs_dirtyC (s : State) (p : Reg → Bool) : (resetRegs s p).dirtyC = s.dirtyC := rfl
@[simp] theorem resetRegs_dirtyD (s : State) (p : Reg → Bool) : (resetRegs s p).dirtyD = s.dirtyD := rfl
@[simp] theorem resetRegs_net (s : State) (p : Reg → Bool) : (resetRegs s p).net = s.net := rfl
@[simp] theorem resetRegs_rma (s : State) (p : Reg → Bool) : (resetRegs s p).rma = s.rma := rfl
@[simp] theorem resetRegs_stg (s : State) (p : Reg → Bool) : (resetRegs s p).stg = s.stg := rfl
@[simp] theorem resetRegs_sec (s : State) (p : Reg → Bool) : (resetRegs s p).sec = s.sec := rfl
@[simp] theorem resetRegs_seed (s : State) (p : Reg → Bool) : (resetRegs s p).seed = s.seed := rfl

/-! ### setTile -/
@[simp] theorem setTile_pending (s : State) (t : Nat) (x : TileState) : (setTile s t x).pending = s.pending := rfl
@[simp] theorem setTile_regs (s : State) (t : Nat) (x : TileState) : (setTile s t x).regs = s.regs := rfl
@[simp] theorem setTile_mem (s : State) (t : Nat) (x : TileState) : (setTile s t x).mem = s.mem := rfl
@[simp] theorem setTile_watched (s : State) (t : Nat) (x : TileState) : (setTile s t x).watched = s.watched := rfl
@[simp] theorem setTile_fresh (s : State) (t : Nat) (x : TileState) : (setTile s t x).fresh = s.fresh := rfl
@[simp] theorem setTile_tick (s : State) (t : Nat) (x : TileState) : (setTile s t x).tick = s.tick := rfl
@[simp] theorem setTile_plots (s : State) (t : Nat) (x : TileState) : (setTile s t x).plots = s.plots := rfl
@[simp] theorem setTile_cores (s : State) (t : Nat) (x : TileState) : (setTile s t x).cores = s.cores := rfl
@[simp] theorem setTile_out (s : State) (t : Nat) (x : TileState) : (setTile s t x).out = s.out := rfl
@[simp] theorem setTile_host (s : State) (t : Nat) (x : TileState) : (setTile s t x).host = s.host := rfl
@[simp] theorem setTile_evr (s : State) (t : Nat) (x : TileState) : (setTile s t x).evr = s.evr := rfl
@[simp] theorem setTile_tel (s : State) (t : Nat) (x : TileState) : (setTile s t x).tel = s.tel := rfl
@[simp] theorem setTile_power (s : State) (t : Nat) (x : TileState) : (setTile s t x).power = s.power := rfl
@[simp] theorem setTile_fw (s : State) (t : Nat) (x : TileState) : (setTile s t x).fw = s.fw := rfl
@[simp] theorem setTile_ram (s : State) (t : Nat) (x : TileState) : (setTile s t x).ram = s.ram := rfl
@[simp] theorem setTile_ckp (s : State) (t : Nat) (x : TileState) : (setTile s t x).ckp = s.ckp := rfl
@[simp] theorem setTile_dirtyC (s : State) (t : Nat) (x : TileState) : (setTile s t x).dirtyC = s.dirtyC := rfl
@[simp] theorem setTile_dirtyD (s : State) (t : Nat) (x : TileState) : (setTile s t x).dirtyD = s.dirtyD := rfl
@[simp] theorem setTile_net (s : State) (t : Nat) (x : TileState) : (setTile s t x).net = s.net := rfl
@[simp] theorem setTile_rma (s : State) (t : Nat) (x : TileState) : (setTile s t x).rma = s.rma := rfl
@[simp] theorem setTile_stg (s : State) (t : Nat) (x : TileState) : (setTile s t x).stg = s.stg := rfl
@[simp] theorem setTile_sec (s : State) (t : Nat) (x : TileState) : (setTile s t x).sec = s.sec := rfl
@[simp] theorem setTile_seed (s : State) (t : Nat) (x : TileState) : (setTile s t x).seed = s.seed := rfl

/-! ### setPlot -/
@[simp] theorem setPlot_pending (s : State) (p : Nat) (x : PlotState) : (setPlot s p x).pending = s.pending := rfl
@[simp] theorem setPlot_regs (s : State) (p : Nat) (x : PlotState) : (setPlot s p x).regs = s.regs := rfl
@[simp] theorem setPlot_mem (s : State) (p : Nat) (x : PlotState) : (setPlot s p x).mem = s.mem := rfl
@[simp] theorem setPlot_watched (s : State) (p : Nat) (x : PlotState) : (setPlot s p x).watched = s.watched := rfl
@[simp] theorem setPlot_fresh (s : State) (p : Nat) (x : PlotState) : (setPlot s p x).fresh = s.fresh := rfl
@[simp] theorem setPlot_tick (s : State) (p : Nat) (x : PlotState) : (setPlot s p x).tick = s.tick := rfl
@[simp] theorem setPlot_tiles (s : State) (p : Nat) (x : PlotState) : (setPlot s p x).tiles = s.tiles := rfl
@[simp] theorem setPlot_cores (s : State) (p : Nat) (x : PlotState) : (setPlot s p x).cores = s.cores := rfl
@[simp] theorem setPlot_out (s : State) (p : Nat) (x : PlotState) : (setPlot s p x).out = s.out := rfl
@[simp] theorem setPlot_host (s : State) (p : Nat) (x : PlotState) : (setPlot s p x).host = s.host := rfl
@[simp] theorem setPlot_evr (s : State) (p : Nat) (x : PlotState) : (setPlot s p x).evr = s.evr := rfl
@[simp] theorem setPlot_tel (s : State) (p : Nat) (x : PlotState) : (setPlot s p x).tel = s.tel := rfl
@[simp] theorem setPlot_power (s : State) (p : Nat) (x : PlotState) : (setPlot s p x).power = s.power := rfl
@[simp] theorem setPlot_fw (s : State) (p : Nat) (x : PlotState) : (setPlot s p x).fw = s.fw := rfl
@[simp] theorem setPlot_ram (s : State) (p : Nat) (x : PlotState) : (setPlot s p x).ram = s.ram := rfl
@[simp] theorem setPlot_ckp (s : State) (p : Nat) (x : PlotState) : (setPlot s p x).ckp = s.ckp := rfl
@[simp] theorem setPlot_dirtyC (s : State) (p : Nat) (x : PlotState) : (setPlot s p x).dirtyC = s.dirtyC := rfl
@[simp] theorem setPlot_dirtyD (s : State) (p : Nat) (x : PlotState) : (setPlot s p x).dirtyD = s.dirtyD := rfl
@[simp] theorem setPlot_net (s : State) (p : Nat) (x : PlotState) : (setPlot s p x).net = s.net := rfl
@[simp] theorem setPlot_rma (s : State) (p : Nat) (x : PlotState) : (setPlot s p x).rma = s.rma := rfl
@[simp] theorem setPlot_stg (s : State) (p : Nat) (x : PlotState) : (setPlot s p x).stg = s.stg := rfl
@[simp] theorem setPlot_sec (s : State) (p : Nat) (x : PlotState) : (setPlot s p x).sec = s.sec := rfl
@[simp] theorem setPlot_seed (s : State) (p : Nat) (x : PlotState) : (setPlot s p x).seed = s.seed := rfl

/-! ### setCore -/
@[simp] theorem setCore_pending (s : State) (c : Nat) (x : CoreState) : (setCore s c x).pending = s.pending := rfl
@[simp] theorem setCore_regs (s : State) (c : Nat) (x : CoreState) : (setCore s c x).regs = s.regs := rfl
@[simp] theorem setCore_mem (s : State) (c : Nat) (x : CoreState) : (setCore s c x).mem = s.mem := rfl
@[simp] theorem setCore_watched (s : State) (c : Nat) (x : CoreState) : (setCore s c x).watched = s.watched := rfl
@[simp] theorem setCore_fresh (s : State) (c : Nat) (x : CoreState) : (setCore s c x).fresh = s.fresh := rfl
@[simp] theorem setCore_tick (s : State) (c : Nat) (x : CoreState) : (setCore s c x).tick = s.tick := rfl
@[simp] theorem setCore_tiles (s : State) (c : Nat) (x : CoreState) : (setCore s c x).tiles = s.tiles := rfl
@[simp] theorem setCore_plots (s : State) (c : Nat) (x : CoreState) : (setCore s c x).plots = s.plots := rfl
@[simp] theorem setCore_out (s : State) (c : Nat) (x : CoreState) : (setCore s c x).out = s.out := rfl
@[simp] theorem setCore_host (s : State) (c : Nat) (x : CoreState) : (setCore s c x).host = s.host := rfl
@[simp] theorem setCore_evr (s : State) (c : Nat) (x : CoreState) : (setCore s c x).evr = s.evr := rfl
@[simp] theorem setCore_tel (s : State) (c : Nat) (x : CoreState) : (setCore s c x).tel = s.tel := rfl
@[simp] theorem setCore_power (s : State) (c : Nat) (x : CoreState) : (setCore s c x).power = s.power := rfl
@[simp] theorem setCore_fw (s : State) (c : Nat) (x : CoreState) : (setCore s c x).fw = s.fw := rfl
@[simp] theorem setCore_ram (s : State) (c : Nat) (x : CoreState) : (setCore s c x).ram = s.ram := rfl
@[simp] theorem setCore_ckp (s : State) (c : Nat) (x : CoreState) : (setCore s c x).ckp = s.ckp := rfl
@[simp] theorem setCore_dirtyC (s : State) (c : Nat) (x : CoreState) : (setCore s c x).dirtyC = s.dirtyC := rfl
@[simp] theorem setCore_dirtyD (s : State) (c : Nat) (x : CoreState) : (setCore s c x).dirtyD = s.dirtyD := rfl
@[simp] theorem setCore_net (s : State) (c : Nat) (x : CoreState) : (setCore s c x).net = s.net := rfl
@[simp] theorem setCore_rma (s : State) (c : Nat) (x : CoreState) : (setCore s c x).rma = s.rma := rfl
@[simp] theorem setCore_stg (s : State) (c : Nat) (x : CoreState) : (setCore s c x).stg = s.stg := rfl
@[simp] theorem setCore_sec (s : State) (c : Nat) (x : CoreState) : (setCore s c x).sec = s.sec := rfl
@[simp] theorem setCore_seed (s : State) (c : Nat) (x : CoreState) : (setCore s c x).seed = s.seed := rfl

/-! ### wrByte -/
@[simp] theorem wrByte_pending (s : State) (a : Nat) (b : Byte) : (wrByte s a b).pending = s.pending := rfl
@[simp] theorem wrByte_regs (s : State) (a : Nat) (b : Byte) : (wrByte s a b).regs = s.regs := rfl
@[simp] theorem wrByte_fresh (s : State) (a : Nat) (b : Byte) : (wrByte s a b).fresh = s.fresh := rfl
@[simp] theorem wrByte_tick (s : State) (a : Nat) (b : Byte) : (wrByte s a b).tick = s.tick := rfl
@[simp] theorem wrByte_tiles (s : State) (a : Nat) (b : Byte) : (wrByte s a b).tiles = s.tiles := rfl
@[simp] theorem wrByte_plots (s : State) (a : Nat) (b : Byte) : (wrByte s a b).plots = s.plots := rfl
@[simp] theorem wrByte_cores (s : State) (a : Nat) (b : Byte) : (wrByte s a b).cores = s.cores := rfl
@[simp] theorem wrByte_out (s : State) (a : Nat) (b : Byte) : (wrByte s a b).out = s.out := rfl
@[simp] theorem wrByte_host (s : State) (a : Nat) (b : Byte) : (wrByte s a b).host = s.host := rfl
@[simp] theorem wrByte_evr (s : State) (a : Nat) (b : Byte) : (wrByte s a b).evr = s.evr := rfl
@[simp] theorem wrByte_tel (s : State) (a : Nat) (b : Byte) : (wrByte s a b).tel = s.tel := rfl
@[simp] theorem wrByte_power (s : State) (a : Nat) (b : Byte) : (wrByte s a b).power = s.power := rfl
@[simp] theorem wrByte_fw (s : State) (a : Nat) (b : Byte) : (wrByte s a b).fw = s.fw := rfl
@[simp] theorem wrByte_ram (s : State) (a : Nat) (b : Byte) : (wrByte s a b).ram = s.ram := rfl
@[simp] theorem wrByte_ckp (s : State) (a : Nat) (b : Byte) : (wrByte s a b).ckp = s.ckp := rfl
@[simp] theorem wrByte_dirtyC (s : State) (a : Nat) (b : Byte) : (wrByte s a b).dirtyC = s.dirtyC := rfl
@[simp] theorem wrByte_dirtyD (s : State) (a : Nat) (b : Byte) : (wrByte s a b).dirtyD = s.dirtyD := rfl
@[simp] theorem wrByte_net (s : State) (a : Nat) (b : Byte) : (wrByte s a b).net = s.net := rfl
@[simp] theorem wrByte_rma (s : State) (a : Nat) (b : Byte) : (wrByte s a b).rma = s.rma := rfl
@[simp] theorem wrByte_stg (s : State) (a : Nat) (b : Byte) : (wrByte s a b).stg = s.stg := rfl
@[simp] theorem wrByte_sec (s : State) (a : Nat) (b : Byte) : (wrByte s a b).sec = s.sec := rfl
@[simp] theorem wrByte_seed (s : State) (a : Nat) (b : Byte) : (wrByte s a b).seed = s.seed := rfl

/-! ### wrBytesQuiet -/
@[simp] theorem wrBytesQuiet_pending (s : State) (a : Nat) (bs : List Byte) : (wrBytesQuiet s a bs).pending = s.pending := rfl
@[simp] theorem wrBytesQuiet_regs (s : State) (a : Nat) (bs : List Byte) : (wrBytesQuiet s a bs).regs = s.regs := rfl
@[simp] theorem wrBytesQuiet_fresh (s : State) (a : Nat) (bs : List Byte) : (wrBytesQuiet s a bs).fresh = s.fresh := rfl
@[simp] theorem wrBytesQuiet_tick (s : State) (a : Nat) (bs : List Byte) : (wrBytesQuiet s a bs).tick = s.tick := rfl
@[simp] theorem wrBytesQuiet_tiles (s : State) (a : Nat) (bs : List Byte) : (wrBytesQuiet s a bs).tiles = s.tiles := rfl
@[simp] theorem wrBytesQuiet_plots (s : State) (a : Nat) (bs : List Byte) : (wrBytesQuiet s a bs).plots = s.plots := rfl
@[simp] theorem wrBytesQuiet_cores (s : State) (a : Nat) (bs : List Byte) : (wrBytesQuiet s a bs).cores = s.cores := rfl
@[simp] theorem wrBytesQuiet_out (s : State) (a : Nat) (bs : List Byte) : (wrBytesQuiet s a bs).out = s.out := rfl
@[simp] theorem wrBytesQuiet_host (s : State) (a : Nat) (bs : List Byte) : (wrBytesQuiet s a bs).host = s.host := rfl
@[simp] theorem wrBytesQuiet_evr (s : State) (a : Nat) (bs : List Byte) : (wrBytesQuiet s a bs).evr = s.evr := rfl
@[simp] theorem wrBytesQuiet_tel (s : State) (a : Nat) (bs : List Byte) : (wrBytesQuiet s a bs).tel = s.tel := rfl
@[simp] theorem wrBytesQuiet_power (s : State) (a : Nat) (bs : List Byte) : (wrBytesQuiet s a bs).power = s.power := rfl
@[simp] theorem wrBytesQuiet_fw (s : State) (a : Nat) (bs : List Byte) : (wrBytesQuiet s a bs).fw = s.fw := rfl
@[simp] theorem wrBytesQuiet_ram (s : State) (a : Nat) (bs : List Byte) : (wrBytesQuiet s a bs).ram = s.ram := rfl
@[simp] theorem wrBytesQuiet_ckp (s : State) (a : Nat) (bs : List Byte) : (wrBytesQuiet s a bs).ckp = s.ckp := rfl
@[simp] theorem wrBytesQuiet_dirtyC (s : State) (a : Nat) (bs : List Byte) : (wrBytesQuiet s a bs).dirtyC = s.dirtyC := rfl
@[simp] theorem wrBytesQuiet_dirtyD (s : State) (a : Nat) (bs : List Byte) : (wrBytesQuiet s a bs).dirtyD = s.dirtyD := rfl
@[simp] theorem wrBytesQuiet_net (s : State) (a : Nat) (bs : List Byte) : (wrBytesQuiet s a bs).net = s.net := rfl
@[simp] theorem wrBytesQuiet_rma (s : State) (a : Nat) (bs : List Byte) : (wrBytesQuiet s a bs).rma = s.rma := rfl
@[simp] theorem wrBytesQuiet_stg (s : State) (a : Nat) (bs : List Byte) : (wrBytesQuiet s a bs).stg = s.stg := rfl
@[simp] theorem wrBytesQuiet_sec (s : State) (a : Nat) (bs : List Byte) : (wrBytesQuiet s a bs).sec = s.sec := rfl
@[simp] theorem wrBytesQuiet_seed (s : State) (a : Nat) (bs : List Byte) : (wrBytesQuiet s a bs).seed = s.seed := rfl

/-! ### draw -/
@[simp] theorem draw_pending (s : State) : (draw s).pending = s.pending := rfl
@[simp] theorem draw_regs (s : State) : (draw s).regs = s.regs := rfl
@[simp] theorem draw_mem (s : State) : (draw s).mem = s.mem := rfl
@[simp] theorem draw_watched (s : State) : (draw s).watched = s.watched := rfl
@[simp] theorem draw_tick (s : State) : (draw s).tick = s.tick := rfl
@[simp] theorem draw_tiles (s : State) : (draw s).tiles = s.tiles := rfl
@[simp] theorem draw_plots (s : State) : (draw s).plots = s.plots := rfl
@[simp] theorem draw_cores (s : State) : (draw s).cores = s.cores := rfl
@[simp] theorem draw_out (s : State) : (draw s).out = s.out := rfl
@[simp] theorem draw_host (s : State) : (draw s).host = s.host := rfl
@[simp] theorem draw_evr (s : State) : (draw s).evr = s.evr := rfl
@[simp] theorem draw_tel (s : State) : (draw s).tel = s.tel := rfl
@[simp] theorem draw_power (s : State) : (draw s).power = s.power := rfl
@[simp] theorem draw_fw (s : State) : (draw s).fw = s.fw := rfl
@[simp] theorem draw_ram (s : State) : (draw s).ram = s.ram := rfl
@[simp] theorem draw_ckp (s : State) : (draw s).ckp = s.ckp := rfl
@[simp] theorem draw_dirtyC (s : State) : (draw s).dirtyC = s.dirtyC := rfl
@[simp] theorem draw_dirtyD (s : State) : (draw s).dirtyD = s.dirtyD := rfl
@[simp] theorem draw_net (s : State) : (draw s).net = s.net := rfl
@[simp] theorem draw_rma (s : State) : (draw s).rma = s.rma := rfl
@[simp] theorem draw_stg (s : State) : (draw s).stg = s.stg := rfl
@[simp] theorem draw_sec (s : State) : (draw s).sec = s.sec := rfl
@[simp] theorem draw_seed (s : State) : (draw s).seed = s.seed := rfl

/-! ### emit -/
@[simp] theorem emit_pending (s : State) (o : Output) : (emit s o).pending = s.pending := rfl
@[simp] theorem emit_regs (s : State) (o : Output) : (emit s o).regs = s.regs := rfl
@[simp] theorem emit_mem (s : State) (o : Output) : (emit s o).mem = s.mem := rfl
@[simp] theorem emit_watched (s : State) (o : Output) : (emit s o).watched = s.watched := rfl
@[simp] theorem emit_fresh (s : State) (o : Output) : (emit s o).fresh = s.fresh := rfl
@[simp] theorem emit_tick (s : State) (o : Output) : (emit s o).tick = s.tick := rfl
@[simp] theorem emit_tiles (s : State) (o : Output) : (emit s o).tiles = s.tiles := rfl
@[simp] theorem emit_plots (s : State) (o : Output) : (emit s o).plots = s.plots := rfl
@[simp] theorem emit_cores (s : State) (o : Output) : (emit s o).cores = s.cores := rfl
@[simp] theorem emit_host (s : State) (o : Output) : (emit s o).host = s.host := rfl
@[simp] theorem emit_evr (s : State) (o : Output) : (emit s o).evr = s.evr := rfl
@[simp] theorem emit_tel (s : State) (o : Output) : (emit s o).tel = s.tel := rfl
@[simp] theorem emit_power (s : State) (o : Output) : (emit s o).power = s.power := rfl
@[simp] theorem emit_fw (s : State) (o : Output) : (emit s o).fw = s.fw := rfl
@[simp] theorem emit_ram (s : State) (o : Output) : (emit s o).ram = s.ram := rfl
@[simp] theorem emit_ckp (s : State) (o : Output) : (emit s o).ckp = s.ckp := rfl
@[simp] theorem emit_dirtyC (s : State) (o : Output) : (emit s o).dirtyC = s.dirtyC := rfl
@[simp] theorem emit_dirtyD (s : State) (o : Output) : (emit s o).dirtyD = s.dirtyD := rfl
@[simp] theorem emit_net (s : State) (o : Output) : (emit s o).net = s.net := rfl
@[simp] theorem emit_rma (s : State) (o : Output) : (emit s o).rma = s.rma := rfl
@[simp] theorem emit_stg (s : State) (o : Output) : (emit s o).stg = s.stg := rfl
@[simp] theorem emit_sec (s : State) (o : Output) : (emit s o).sec = s.sec := rfl
@[simp] theorem emit_seed (s : State) (o : Output) : (emit s o).seed = s.seed := rfl

/-! ### What an update changes, read back -/

@[simp] theorem emit_out (s : State) (o : Output) : (emit s o).out = o :: s.out := rfl
@[simp] theorem draw_fresh (s : State) : (draw s).fresh = s.fresh + 1 := rfl

theorem tile_setTile (s : State) (t u : Nat) (x : TileState) : tile (setTile s t x) u = if t = u then x else tile s u := mapGet_mapInsert _ _ _ _ _
theorem plot_setPlot (s : State) (p q : Nat) (x : PlotState) : plot (setPlot s p x) q = if p = q then x else plot s q := mapGet_mapInsert _ _ _ _ _
theorem core_setCore (s : State) (c d : Nat) (x : CoreState) : core (setCore s c x) d = if c = d then x else core s d := mapGet_mapInsert _ _ _ _ _

@[simp] theorem tile_setTile_self (s : State) (t : Nat) (x : TileState) : tile (setTile s t x) t = x := by simp [tile_setTile]
@[simp] theorem plot_setPlot_self (s : State) (p : Nat) (x : PlotState) : plot (setPlot s p x) p = x := by simp [plot_setPlot]
@[simp] theorem core_setCore_self (s : State) (c : Nat) (x : CoreState) : core (setCore s c x) c = x := by simp [core_setCore]
@[simp] theorem tile_onTile_self (s : State) (t : Nat) (f : TileState → TileState) : tile (onTile s t f) t = f (tile s t) := by simp [onTile]
@[simp] theorem plot_onPlot_self (s : State) (p : Nat) (f : PlotState → PlotState) : plot (onPlot s p f) p = f (plot s p) := by simp [onPlot]
@[simp] theorem core_onCore_self (s : State) (c : Nat) (f : CoreState → CoreState) : core (onCore s c f) c = f (core s c) := by simp [onCore]

theorem rd_wrFld (s : State) (r q : Reg) (hi lo v : Nat) : rd (wrFld s r hi lo v) q = if r = q then setFld (rd s r) hi lo v else rd s q := rd_wr _ _ _ _
theorem rd_wrBit (s : State) (r q : Reg) (i : Nat) (b : Bool) : rd (wrBit s r i b) q = if r = q then setBit (rd s r) i b else rd s q := rd_wr _ _ _ _
theorem rd_orReg (s : State) (r q : Reg) (m : Word) : rd (orReg s r m) q = if r = q then rd s r ||| m else rd s q := rd_wr _ _ _ _
theorem rd_count (s : State) (r q : Reg) (n : Nat) : rd (count s r n) q = if r = q then satAdd (rd s r) n else rd s q := rd_wr _ _ _ _

/-! ### Accessors that an update leaves alone -/

@[simp] theorem rd_setTile_eq (s : State) (t : Nat) (x : TileState) (q : Reg) : rd (setTile s t x) q = rd s q := rfl
@[simp] theorem rd_setPlot_eq (s : State) (p : Nat) (x : PlotState) (q : Reg) : rd (setPlot s p x) q = rd s q := rfl
@[simp] theorem rd_setCore_eq (s : State) (c : Nat) (x : CoreState) (q : Reg) : rd (setCore s c x) q = rd s q := rfl
@[simp] theorem rd_wrByte_eq (s : State) (a : Nat) (b : Byte) (q : Reg) : rd (wrByte s a b) q = rd s q := rfl
@[simp] theorem rd_wrBytesQuiet_eq (s : State) (a : Nat) (bs : List Byte) (q : Reg) : rd (wrBytesQuiet s a bs) q = rd s q := rfl
@[simp] theorem rd_draw_eq (s : State) (q : Reg) : rd (draw s) q = rd s q := rfl
@[simp] theorem rd_emit_eq (s : State) (o : Output) (q : Reg) : rd (emit s o) q = rd s q := rfl
@[simp] theorem tile_wr_eq (s : State) (r : Reg) (v : Word) (u : Nat) : tile (wr s r v) u = tile s u := rfl
@[simp] theorem tile_wrCommit_eq (s : State) (r : Reg) (v : Word) (u : Nat) : tile (wrCommit s r v) u = tile s u := rfl
@[simp] theorem tile_wrFld_eq (s : State) (r : Reg) (hi lo v : Nat) (u : Nat) : tile (wrFld s r hi lo v) u = tile s u := rfl
@[simp] theorem tile_wrBit_eq (s : State) (r : Reg) (i : Nat) (b : Bool) (u : Nat) : tile (wrBit s r i b) u = tile s u := rfl
@[simp] theorem tile_orReg_eq (s : State) (r : Reg) (m : Word) (u : Nat) : tile (orReg s r m) u = tile s u := rfl
@[simp] theorem tile_count_eq (s : State) (r : Reg) (n : Nat) (u : Nat) : tile (count s r n) u = tile s u := rfl
@[simp] theorem tile_resetRegs_eq (s : State) (p : Reg → Bool) (u : Nat) : tile (resetRegs s p) u = tile s u := rfl
@[simp] theorem tile_setPlot_eq (s : State) (p : Nat) (x : PlotState) (u : Nat) : tile (setPlot s p x) u = tile s u := rfl
@[simp] theorem tile_setCore_eq (s : State) (c : Nat) (x : CoreState) (u : Nat) : tile (setCore s c x) u = tile s u := rfl
@[simp] theorem tile_wrByte_eq (s : State) (a : Nat) (b : Byte) (u : Nat) : tile (wrByte s a b) u = tile s u := rfl
@[simp] theorem tile_wrBytesQuiet_eq (s : State) (a : Nat) (bs : List Byte) (u : Nat) : tile (wrBytesQuiet s a bs) u = tile s u := rfl
@[simp] theorem tile_draw_eq (s : State) (u : Nat) : tile (draw s) u = tile s u := rfl
@[simp] theorem tile_emit_eq (s : State) (o : Output) (u : Nat) : tile (emit s o) u = tile s u := rfl
@[simp] theorem plot_wr_eq (s : State) (r : Reg) (v : Word) (q : Nat) : plot (wr s r v) q = plot s q := rfl
@[simp] theorem plot_wrCommit_eq (s : State) (r : Reg) (v : Word) (q : Nat) : plot (wrCommit s r v) q = plot s q := rfl
@[simp] theorem plot_wrFld_eq (s : State) (r : Reg) (hi lo v : Nat) (q : Nat) : plot (wrFld s r hi lo v) q = plot s q := rfl
@[simp] theorem plot_wrBit_eq (s : State) (r : Reg) (i : Nat) (b : Bool) (q : Nat) : plot (wrBit s r i b) q = plot s q := rfl
@[simp] theorem plot_orReg_eq (s : State) (r : Reg) (m : Word) (q : Nat) : plot (orReg s r m) q = plot s q := rfl
@[simp] theorem plot_count_eq (s : State) (r : Reg) (n : Nat) (q : Nat) : plot (count s r n) q = plot s q := rfl
@[simp] theorem plot_resetRegs_eq (s : State) (p : Reg → Bool) (q : Nat) : plot (resetRegs s p) q = plot s q := rfl
@[simp] theorem plot_setTile_eq (s : State) (t : Nat) (x : TileState) (q : Nat) : plot (setTile s t x) q = plot s q := rfl
@[simp] theorem plot_setCore_eq (s : State) (c : Nat) (x : CoreState) (q : Nat) : plot (setCore s c x) q = plot s q := rfl
@[simp] theorem plot_wrByte_eq (s : State) (a : Nat) (b : Byte) (q : Nat) : plot (wrByte s a b) q = plot s q := rfl
@[simp] theorem plot_wrBytesQuiet_eq (s : State) (a : Nat) (bs : List Byte) (q : Nat) : plot (wrBytesQuiet s a bs) q = plot s q := rfl
@[simp] theorem plot_draw_eq (s : State) (q : Nat) : plot (draw s) q = plot s q := rfl
@[simp] theorem plot_emit_eq (s : State) (o : Output) (q : Nat) : plot (emit s o) q = plot s q := rfl
@[simp] theorem core_wr_eq (s : State) (r : Reg) (v : Word) (d : Nat) : core (wr s r v) d = core s d := rfl
@[simp] theorem core_wrCommit_eq (s : State) (r : Reg) (v : Word) (d : Nat) : core (wrCommit s r v) d = core s d := rfl
@[simp] theorem core_wrFld_eq (s : State) (r : Reg) (hi lo v : Nat) (d : Nat) : core (wrFld s r hi lo v) d = core s d := rfl
@[simp] theorem core_wrBit_eq (s : State) (r : Reg) (i : Nat) (b : Bool) (d : Nat) : core (wrBit s r i b) d = core s d := rfl
@[simp] theorem core_orReg_eq (s : State) (r : Reg) (m : Word) (d : Nat) : core (orReg s r m) d = core s d := rfl
@[simp] theorem core_count_eq (s : State) (r : Reg) (n : Nat) (d : Nat) : core (count s r n) d = core s d := rfl
@[simp] theorem core_resetRegs_eq (s : State) (p : Reg → Bool) (d : Nat) : core (resetRegs s p) d = core s d := rfl
@[simp] theorem core_setTile_eq (s : State) (t : Nat) (x : TileState) (d : Nat) : core (setTile s t x) d = core s d := rfl
@[simp] theorem core_setPlot_eq (s : State) (p : Nat) (x : PlotState) (d : Nat) : core (setPlot s p x) d = core s d := rfl
@[simp] theorem core_wrByte_eq (s : State) (a : Nat) (b : Byte) (d : Nat) : core (wrByte s a b) d = core s d := rfl
@[simp] theorem core_wrBytesQuiet_eq (s : State) (a : Nat) (bs : List Byte) (d : Nat) : core (wrBytesQuiet s a bs) d = core s d := rfl
@[simp] theorem core_draw_eq (s : State) (d : Nat) : core (draw s) d = core s d := rfl
@[simp] theorem core_emit_eq (s : State) (o : Output) (d : Nat) : core (emit s o) d = core s d := rfl

end Sys2Proof.Machine
end

