-- ==== Sys2Proof/Laws/Messages.lean ====
section
/-! SUPPORT. Requests taken and responses posted. -/
set_option Elab.async false
namespace Sys2Proof.Machine

@[simp] theorem box_onBox_self (s : State) (o : Nat) (f : MailboxState → MailboxState) : box (onBox s o f) o = f (box s o) := by simp [box, onBox, mapGet]
@[simp] theorem box_wr (s : State) (r : Reg) (v : Word) (o : Nat) : box (wr s r v) o = box s o := rfl

/-- A message posted stands in the ring, or waits for room. -/
theorem mem_postMsg (s : State) (o : Nat) (r : Response) : r ∈ (box (postMsg s o r) o).posted ++ (box (postMsg s o r) o).held := by
  have hs : ∀ (x : State) f v, box (signalFn x f v) o = box x o := by
    intro x f v
    unfold box signalFn sendMsix raisePme
    repeat' split
    all_goals rfl
  have he : ∀ (x : State) e, box (emit x e) o = box x o := fun _ _ => rfl
  unfold postMsg
  split
  · simp
  · dsimp only
    split <;> simp [hs, he]

/-- A response to a request that is owed one is posted. -/
theorem answered_respond (s : State) (m : Msg) (type status detail : Nat) (payload : List Byte)
    (h : (box s m.owner).requests.any (fun r => r.seq == m.seq) = true) : Answered (respond s m type status detail payload) m type status := by
  unfold respond answer
  rw [if_neg (by simp [h])]
  exact ⟨_, mem_postMsg _ _ _, rfl, rfl, rfl, rfl⟩

/-- A message that meets every check is served by its own rule. -/
theorem serve_admitted {s : State} {m : Msg} {r : MsgRule} (h : Admitted s m r) (f : State → State) : serve s m r f = f (takeRequest s m r.type) := by
  simp [serve, h.1, h.2]

/-- A message beyond the N that may be outstanding stays in its ring (R244). -/
theorem serve_beyond {s : State} {m : Msg} (h : beyondLimit s m = true) (r : MsgRule) (f : State → State) : serve s m r f = s := by simp [serve, h]

/-- A message that a check turns away is answered with the check's status, and has no other effect. -/
theorem serve_refused {s : State} {m : Msg} {r : MsgRule} {st v : Nat} (hb : beyondLimit s m = false) (h : gateStatus (takeRequest s m r.type) m r = some (st, v))
    (f : State → State) : serve s m r f = answer (takeRequest s m r.type) m.owner m.seq v r.type st 0 [] := by simp [serve, hb, h]

end Sys2Proof.Machine
end

