-- ==== Sys2Proof/Laws/Nvc.lean ====
section
/-! SUPPORT. Running one instruction of a control core, case by case. -/
set_option Elab.async false
namespace Sys2Proof.Machine

@[simp] theorem core_fetched (s : State) (k : Nvc) (c : Nat) : core (fetched s k) c = core s c := by unfold fetched; split <;> rfl
@[simp] theorem core_spend (s : State) (c n : Nat) : core (spend s c n) c = { core s c with cyc := (core s c).cyc + BitVec.ofNat 64 n } := by
  simp [spend]

/-- What runs of an instruction that executes: its operation, on the state that its fetch leaves. -/
theorem runInstr_runs {s : State} {k : Nvc} {r : Bool} (h : Executes s k r) (cycles : Nat) (op : State → Nat → NvcRes) :
    runInstr k cycles r op s = match op (fetched s k) k.core with
      | .done s2 => spend s2 k.core (cycles + k.stall)
      | .exc s2 v cause a => raise s2 k.core v cause a := by
  have hr : ((core s k.core).rep && !r) = false := by
    cases e : (core s k.core).rep
    · rfl
    · simp [h.prefixed e]
  have hf := h.fetch
  cases e : op (fetched s k) k.core <;> unfold fetched at e <;>
    simp only [runInstr, h.running, ne_eq, not_true, if_false, hf.1, hf.2, decide_true, Bool.and_self, Bool.not_true, Bool.false_eq_true,
      if_neg h.sound, h.plain, hr, e]

/-- An executing instruction whose operation ends spends its cycles. -/
theorem runInstr_done {s s2 : State} {k : Nvc} {r : Bool} (h : Executes s k r) {cycles : Nat} {op : State → Nat → NvcRes}
    (ho : op (fetched s k) k.core = .done s2) : runInstr k cycles r op s = spend s2 k.core (cycles + k.stall) := by rw [runInstr_runs h, ho]

/-- An executing instruction whose operation breaks a rule raises its exception, with what the operation did before it. -/
theorem runInstr_exc {s s2 : State} {k : Nvc} {r : Bool} (h : Executes s k r) {cycles v cause : Nat} {a : Word} {op : State → Nat → NvcRes}
    (ho : op (fetched s k) k.core = .exc s2 v cause a) : runInstr k cycles r op s = raise s2 k.core v cause a := by rw [runInstr_runs h, ho]

/-- A core that does not run executes nothing. -/
theorem runInstr_idle {s : State} {k : Nvc} (h : nvState s k.core ≠ nvRun) (cycles : Nat) (r : Bool) (op : State → Nat → NvcRes) :
    runInstr k cycles r op s = s := by simp [runInstr, h]

end Sys2Proof.Machine
end

