-- ==== Sys2Proof/Laws/Slot.lean ====
section
/-! SUPPORT. What presenting a slot operation does, case by case. -/
set_option Elab.async false
namespace Sys2Proof.Machine

@[simp] theorem issueAll_append (s : State) (l k : List Instr) : issueAll s (l ++ k) = issueAll (issueAll s l) k := by simp [issueAll]
@[simp] theorem issueAll_cons (s : State) (i : Instr) (l : List Instr) : issueAll s (i :: l) = issueAll ((slotOp i).issue s) l := rfl
@[simp] theorem issueAll_nil (s : State) : issueAll s [] = s := rfl

/-- A slot operation that completes a bundle which may issue: the bundle issues, every operation in its turn. -/
theorem present_issues {s : State} {sl : Slot} {i : Instr} {before after : List Instr} (h : MayIssue s sl i before after) :
    present s sl i = letGo s (before ++ i :: after) (issueAll ((slotOp i).issue (effectStart s sl i before after)) after) := by
  have h1 := h.lawful
  have h2 := h.free
  have h3 := h.onTime
  unfold judged cleared at *
  unfold judged at h3
  simp only [present, h.next, h.gathered, h.whole, Bool.not_true, Bool.false_eq_true, if_false]
  congr 1
  simp only [judge, h1, h2, Bool.not_true, Bool.false_eq_true, if_false, List.isEmpty_nil, h3, effectStart, cleared, judged, issueAll_append, issueAll_cons]

/-- A command that presents such an operation answers the operation's own effect, with the bundle's later operations after it. -/
theorem issues_of_mayIssue {s : State} {sl : Slot} {i : Instr} {before after : List Instr} {P : State → Prop} (h : MayIssue s sl i before after)
    (he : exec i s = .next (present s sl i)) (hp : P ((slotOp i).issue (effectStart s sl i before after))) : Issues s i before after P :=
  ⟨_, hp, he.trans (congrArg _ (present_issues h))⟩

/-- An operation that is not the next of its tile's stream has no effect. -/
theorem present_stopped {s : State} {sl : Slot} {i : Instr} (h : inStream s sl i = false) : present s sl i = s := by simp [present, h]

/-- An operation of a bundle that is not whole yet is kept for it. -/
theorem present_gathers {s : State} {sl : Slot} {i : Instr} (h : inStream s sl i = true)
    (hw : bundleWhole (bundleAt s sl.tile sl.pc.toNat) (gatherIn i (tile s sl.tile).gather) = false) :
    present s sl i = onTile s sl.tile (fun x => { x with gather := gatherIn i (tile s sl.tile).gather }) := by simp [present, h, hw]

/-- A bundle that breaks a rule of its own faults its tile, and none of its operations takes effect (R146, R460). -/
theorem judge_faults {s : State} {sl : Slot} {ops : List Instr} (h : (bundleAlone (presented s sl) ops).none? = false) :
    judge s sl ops = tileFault (presented s sl) sl.tile ((bundleAlone (presented s sl) ops).join (bundleLate (presented s sl) ops)) := by simp [judge, h]

/-- A bundle that a source holds waits whole (R127, R128). -/
theorem judge_holds {s : State} {sl : Slot} {ops : List Instr} (h : (bundleAlone (presented s sl) ops).none? = true) {a : Nat} {rest : List Nat}
    (hh : bundleHolds (presented s sl) sl.tile ops = a :: rest) :
    judge s sl ops = holdBundle (chargeBank (presented s sl) sl.tile sl.cyc ops true) sl.tile ops (topSource (a :: rest)) := by simp [judge, h, hh]

/-- A result set on its way is on its way. -/
theorem lands_land (s : State) (t : Nat) (l : Landing) : Lands (land s t l) t l := by
  have : ∀ ls, l ∈ landInsert ls l := by
    intro ls
    induction ls with
    | nil => simp [landInsert]
    | cons k rest ih => simp only [landInsert]; split <;> simp [ih]
  simp [Lands, land, this]

end Sys2Proof.Machine
end

