-- ==== Sys2Proof/Machine/Lands.lean ====
section
/-! DEFINITION. The lands of the package: what each site carries (R453, Tables ELE-3 and ELE-4). -/
set_option Elab.async false
namespace Sys2Proof.Machine

/-- What a land carries; supplies by the rail numbers of Table PWR-4, signals by the lands of Table ELE-4. -/
inductive Land where
  | none
  | gnd
  | supply (rail : Nat)
  | vfuse
  | pet (lane : Nat) (n : Bool)
  | per (lane : Nat) (n : Bool)
  | sense (k : Nat) (rtn : Bool)
  | avs (die wire : Nat)
  | signal (name : String)
  | reserved
  deriving DecidableEq, Repr

/-- Row index, 1 to 76, of a row's two letters counted from A: AA to AZ, BA to BZ, CA to CX. -/
def rowIndex (first second : Nat) : Nat := 26 * first + second + 1

/-- A checkerboard region's land: the supply when row index plus column is even. -/
def checkered (row col : Nat) (l : Land) : Land := if (row + col) % 2 = 0 then l else .gnd

/-- Compute die of a block by its column, of the four in a band of rows. -/
def bandDie (col : Nat) : Nat := (col - 1) / 18

/-- A PCIe lane's pair of lands from a column: lane n at 3n + 1 and 3n + 2. -/
def pcieLand (mk : Nat → Bool → Land) (col : Nat) : Land := if col % 3 = 1 then mk ((col - 1) / 3) false else if col % 3 = 2 then mk ((col - 1) / 3) true else .gnd

/-- The single signals of rows CV to CX (Table ELE-4), by row index and column. -/
def signalLands : List (Nat × Nat × String) :=
  [(74, 1, "MGMT_TXP"), (74, 2, "MGMT_TXN"), (74, 4, "MGMT_RXP"), (74, 5, "MGMT_RXN"), (74, 7, "MGMT_MDC"), (74, 8, "MGMT_MDIO"), (74, 10, "MGMT_PHYRST_N"),
   (75, 1, "NVM_CLK"), (75, 3, "NVM_CS_N"), (75, 5, "NVM_DQS"), (75, 7, "NVM_DQ0"), (75, 8, "NVM_DQ1"), (75, 9, "NVM_DQ2"), (75, 10, "NVM_DQ3"),
   (75, 11, "NVM_DQ4"), (75, 12, "NVM_DQ5"), (75, 13, "NVM_DQ6"), (75, 14, "NVM_DQ7"), (75, 16, "NVM_RESET_N")]
  ++ [(76, 1, "OSC25"), (76, 3, "REFCLK156_P"), (76, 4, "REFCLK156_N"), (76, 6, "REFCLK100_P"), (76, 7, "REFCLK100_N"), (76, 9, "PERST_N"), (76, 10, "WAKE_N"),
   (76, 12, "OPTSEL"), (76, 13, "THERMTRIP_N"), (76, 14, "PWR_ALERT_N"), (76, 15, "MODPRES_N")]

/-- A land of the sideband region, rows CR to CX at columns 1 to 48. -/
def sidebandLand (row col : Nat) : Land :=
  if row = 70 then (if col ≤ 40 then .reserved else .gnd)
  else if row = 71 then (if col ≤ 42 then .sense ((col - 1) / 2) (col % 2 == 0) else .gnd)
  else if row = 73 then (if col ≤ 24 then .avs ((col - 1) / 3) ((col - 1) % 3) else .gnd)
  else if row = 76 ∧ (col = 17 ∨ col = 18) then .vfuse
  else match signalLands.find? (fun e => e.1 == row && e.2.1 == col) with
    | some e => .signal e.2.2
    | none => .gnd

/-- The land at a row index, 1 to 76, and a column, 1 to 72 (Table ELE-3); no land elsewhere, nor on rows BA to BL at columns 25 to 48. -/
def landAt (row col : Nat) : Land :=
  if row = 0 ∨ 76 < row ∨ col = 0 ∨ 72 < col then .none
  else if row ≤ 8 then
    (if 49 ≤ col then checkered row col (.supply 4) else if row = 2 then pcieLand .pet col else if row = 5 then pcieLand .per col else .gnd)
  else if row = 9 ∨ row = 26 ∨ row = 69 then checkered row col (.supply 1)
  else if row ≤ 25 then checkered row col (.supply ((if row ≤ 17 then 8 else 16) + bandDie col))
  else if row ≤ 38 then (if 25 ≤ col ∧ col ≤ 48 then .none else checkered row col (.supply 3))
  else if row ≤ 52 then checkered row col (.supply 2)
  else if row ≤ 68 then checkered row col (.supply ((if row ≤ 60 then 8 else 16) + 4 + bandDie col))
  else if col ≤ 48 then sidebandLand row col
  else if row = 76 ∧ col ≤ 56 then .supply 0
  else .gnd

/-- How many sites carry a land that meets a test. -/
def landCount (f : Land → Bool) : Nat := ((List.range 77).flatMap (fun r => (List.range 73).filter (fun c => f (landAt r c)))).length

end Sys2Proof.Machine
end

