-- ==== Sys2Proof/Tests/Slice0.lean ====
section
/-! SUPPORT. Tests: the checks of WellFormed, the reset state's form, and for each statement concrete states and operands that meet its hypotheses. -/
open Sys2Proof Sys2Proof.Machine
namespace Sys2Proof.Tests
set_option linter.all false
set_option Elab.async false
set_option maxRecDepth 20000

/-! ### Each check of WellFormed refuses an ill-formed term -/

/-- A message of a firmware family: owner, sequence number, version and length, with nothing else. -/
def msg0 : Msg := { owner := 3, seq := 1, version := 1, plot := none, length := 16 }
/-- A packet in which every field that the tables reserve is 0. -/
def pkt0 : OmfPkt := { ver := 1, cid := 3, ctag := 5, pctr := 1, psn := 0 }

theorem test_version_of_two_bytes_refused : (Instr.pltLoad { msg0 with version := 0x100 }).wellFormed = false := by decide
theorem test_length_of_three_bytes_refused : (Instr.pltLoad { msg0 with length := 0x10000 }).wellFormed = false := by decide
theorem test_message_accepted : (Instr.pltLoad msg0).wellFormed = true := by decide
theorem test_empty_dm_access_refused : (Instr.scratchpadDmAccess 0 0 0 none .clean).wellFormed = false := by decide
theorem test_dm_access_over_64_bytes_refused : (Instr.scratchpadDmAccess 0 0 0 (some (List.replicate 65 0)) .clean).wellFormed = false := by decide
theorem test_dm_access_across_banks_refused : (Instr.scratchpadDmAccess 0 0x0FFFC0 64 none .clean).wellFormed = true
    ∧ (Instr.scratchpadDmAccess 0 0x0FFFC1 64 none .clean).wellFormed = false := by decide
theorem test_empty_device_memory_access_refused : (Instr.lpxRequest .host 0 0 none .clean).wellFormed = false := by decide
theorem test_device_memory_access_past_40_bits_refused : (Instr.lpxRequest .host 0xFFFFFFFFFF 2 none .clean).wellFormed = false := by decide
theorem test_empty_tlp_refused : (Instr.bar2Read 0 0 .clean).wellFormed = false := by decide
theorem test_tlp_over_4096_bytes_refused : (Instr.bar2Read 0 4097 .clean).wellFormed = false := by decide
theorem test_bar2_write_without_bytes_refused : (Instr.bar2Write 0 [] .clean).wellFormed = false := by decide
theorem test_packet_over_mss_refused : (Instr.omfWrite ⟨{ pkt0 with data := List.replicate 8193 0 }, true, 0, 0, .clean, 0, 0⟩).wellFormed = false := by decide +kernel
theorem test_packet_of_mss_accepted : (Instr.omfWrite ⟨{ pkt0 with data := List.replicate 8192 0 }, true, 0, 0, .clean, 0, 0⟩).wellFormed = true := by decide +kernel
theorem test_segment_over_8192_bytes_refused : (Instr.distSeg 0 0 0 1 (List.replicate 8193 0)).wellFormed = false := by decide +kernel
theorem test_short_sheaf_refused : (Instr.ckpRestore msg0 0 0 [(0, [⟨[], [], []⟩])]).wellFormed = false := by decide

/-! ### The reset state -/

theorem test_reset_memory_form : State.reset.mem.wf = true := by decide
theorem test_reset_canonical : State.reset.Canonical := ⟨by decide, by decide +kernel, by decide, by decide, by decide, by decide⟩
theorem test_reset_queue_empty : State.reset.pending = [] := by decide

/-! ### Premises that are not decided by evaluation alone -/

/-- A premise about whatever a partial function answers, by looking at the answer. -/
theorem holds_of_some {α : Type} {o : Option α} {P : α → Prop} [DecidablePred P] (h : (o.all fun x => decide (P x)) = true) : ∀ x, o = some x → P x := by
  rintro x rfl
  simpa using h

theorem listed_of_find {α : Type} {m : List (Nat × α)} {i : Nat} {x : α} (h : mapFind m i = some x) : (i, x) ∈ m := by
  induction m with
  | nil => cases h
  | cons e m ih =>
    obtain ⟨k, v⟩ := e
    simp only [mapFind] at h
    split at h
    · cases h; subst_vars; exact List.mem_cons_self ..
    · exact List.mem_cons_of_mem _ (ih h)

/-- No tile holds an operation where no listed tile does. -/
theorem none_held {s : State} (h : (s.tiles.all fun e => e.2.held.isEmpty) = true) (n : Nat) : (tile s n).held = [] := by
  unfold tile mapGet
  cases hf : mapFind s.tiles n with
  | none => rfl
  | some x => simpa using List.all_eq_true.mp h _ (listed_of_find hf)

/-- No crossing feeds a window where no plot has a crossing in use. -/
theorem no_feeds {s : State} (h : (s.plots.all fun e => e.2.xings.isEmpty) = true) : NoFeeds s := by
  intro p _ e he
  have hx : (plot s p).xings = [] := by
    unfold plot mapGet
    cases hf : mapFind s.plots p with
    | none => rfl
    | some x => simpa using List.all_eq_true.mp h _ (listed_of_find hf)
  rw [hx] at he
  cases he

/-- A report fits the staging buffer of a part whose running slot holds no certificate. -/
theorem staging_fits {s : State} (h : (deviceCert s).length = 0) : ∀ n ≤ 16384 + (deviceCert s).length, bufFits s (.staging 0) n = true := by
  intro n hn
  rw [h] at hn
  simp only [bufFits, decide_eq_true_eq]
  omega

/-- A report's middle does not rest on the certificate of the last full report. -/
theorem report_keeps_cert (s : State) (x : Option (List Byte × List Byte)) : reportMiddle { s with sec := { s.sec with cert := x } } = reportMiddle s := rfl

/-- Fuses of a layout class above 4 are refused, whatever their check values. -/
theorem class_refused {s : State} (h : 4 < fld (fuse s 35) 3 0) : fusesAccepted s = false := by
  simp [fusesAccepted, Nat.not_le.mpr h]

/-- The reset state with registers set. -/
def regsAt (l : List (Reg × Word)) (s : State := State.reset) : State := l.foldl (fun s e => wr s e.1 e.2) s
/-- A state whose temperature sensors show a value on die 0. -/
def warm (t : Nat) (level : Nat) : State := { regsAt [(.pwrCtrl, BitVec.ofNat 32 (90 * 8192 + 100)), (.pwrDie, BitVec.ofNat 32 level)] with power := { State.reset.power with dieTemp := [(0, t)] } }
/-- Power states with a field set. -/
def powerAt (f : PowerState → PowerState) (s : State := State.reset) : State := { s with power := f s.power }
def tileAt (n : Nat) (f : TileState → TileState) (s : State := State.reset) : State := onTile s n f

/-- A region register that grants both directions on the whole of a bank. -/
def whole (b : Nat) : Word := BitVec.ofNat 32 (0xC0003FFF + b * 0x10000000)
/-- Tile 1 runs, its five masters may use banks 1 and 2, and plot 0 holds it; further registers may be set. -/
def running (l : List (Reg × Word) := []) : State :=
  regsAt ([(.schStatus 1, 0x40000000), (.pltTiles 0 0, 2), (.pltPstat 0, 0x40000000), (.schPstat 0, 0x40000000), (.arrStatus 1, 0x140000),
    (.tilRgn 1 0 0, whole 0), (.tilRgn 1 1 0, whole 1), (.tilRgn 1 1 1, whole 2), (.tilRgn 1 2 0, whole 2)] ++ l)
def slot1 : Slot := { tile := 1, pc := 9, cyc := 40 }
/-- An MVM of group 3, slot 5, launched at cycle 0 in the 4-bit mode. -/
def mvm1 (mode : Nat := 0) : Mvm :=
  { group := 3, slot := 5, logical := 5, start := 0, bits := 1, phase := 4, mode := mode, desc := 0x1001, rows := 0, skipped := false, void := false,
    done := true, heldNs := 0, lanes := List.replicate (laneCount mode) 5 }
def mvmR : Mvm := { mvm1 with slot := 16, logical := 16, skipped := true, lanes := [] }
def vop : VecOp := { w := 0, ef := 0, rnd := false, ovf := false, vd := 4, va := 1, vb := 2, vc := 3, imm := 0 }
def xd (cls : Nat) (src dst : Nat) : XDecl :=
  { xid := 6, cls := cls, nbuf := 2, dir := 0, lpx := false, src := src, dst := dst, srcLine := 0, dstLine := 8, lines := 1, count := 1, maxNs := 900, ext := 0, pathNs := 0 }
def cfg1 : TileCfg := { tile := 1, phaseCyc := 4, tbudget := 20, freq := 1000, len := 100, streamOff := 0, nbundles := 1, ldesc := [], ppdesc := [], dmx := [], scale := [], stream := [] }
/-- An image of one tile that leads a job of one plot or more. -/
def image1 (x : List XDecl := []) (plots : Nat := 1) (flags : Nat := 2) : Image :=
  { format := 2, compiler := 0, layoutClass := 0, size := 0, flags := flags, digest := [], modelId := 5, job := 7, plotIndex := 0, jobPlots := plots, stepNs := 1000,
    wdogNs := 500, markerDly := 10, ntiles := 1, altTile := 0, lpxGbps := 0, tiles := [cfg1], arrtab := [], xdecl := x, power := [], fallow := [], flow := [], alts := [] }
def plotAt (p : Nat) (f : PlotState → PlotState) (s : State) : State := onPlot s p f
/-- Tile 1 runs in a plot with one crossing in a state of its own. -/
def crossing (d : XDecl) (x : Xing := {}) : State := plotAt 0 (fun q => { q with image := some (image1 [d]), xings := [(6, x)] }) (running)
/-- A bundle of slot operations (Table SCH-7). -/
def bundleOf (ops : List Instr) : BitVec 256 :=
  BitVec.ofNat 256 (ops.foldl (fun n i => match encSlot i with | some (k, w) => n + w * 2 ^ [224, 176, 112, 88, 40, 0].getD k 0 | none => n) 0)
/-- The bundle stands at the program counter of tile 1, cycle 40, its earlier operations presented. -/
def stored (ops : List Instr) (s : State) (gathered : List Instr := []) : State :=
  wrFld (tileAt 1 (fun x => { x with bundles := [(9, bundleOf ops)], due := 40, gather := gathered }) s) (.schStatus 1) 13 0 9

/-- Plot 0 of tile 1, serving, between steps: its image, and what its state differs in. -/
def serving (i : Image) (f : PlotState → PlotState) (l : List (Reg × Word) := []) : State :=
  plotAt 0 (fun q => f { q with image := some i }) (regsAt ([(.pltTiles 0 0, 2), (.pltPstat 0, 0x40000000), (.schPstat 0, 0x40000000)] ++ l))
/-- The same, HELD. -/
def heldPlot (i : Image) (f : PlotState → PlotState) (l : List (Reg × Word) := []) : State :=
  serving i f ([(.pltPstat 0, 0x50000000), (.schPstat 0, 0x60000000)] ++ l)
def onFw (f : FwState → FwState) (s : State) : State := { s with fw := f s.fw }
def onSec' (f : SecState → SecState) (s : State) : State := { s with sec := f s.sec }
/-- The part after bring-up, management firmware serving every mailbox with every feature. -/
def upAt (l : List (Reg × Word) := []) (s : State := State.reset) : State :=
  onFw (fun w => { w with up := true, boxes := (List.range 14).map (fun o => (o, { version := 3, features := List.replicate 32 0xFF })) }) (regsAt ((.rstStage, 0xE0000000) :: l) s)
def msg (owner : Fin 14) (plot : Option (Fin 12) := some 0) (length : Nat := 0) : Msg := { owner := owner, seq := 77, version := 3, plot := plot, length := length }
def calIs (v : Nat) : Word := BitVec.ofNat 32 (v * 2 ^ 29)
/-- The fallow-slot plan's entry of group 31 of tile 1, for one step in four, and its image. -/
def fallow1 : FallowEnt := ⟨1, 4, 2, 0x80000000, 0, 100⟩
def fallowImage : Image := { image1 with fallow := [fallow1] }
/-- Tile 1 in its fallow window of group 3, with a step of its plot in progress. -/
def inFallow (l : List (Reg × Word)) : State :=
  tileAt 1 (fun x => { x with window := some (0x8, 100) }) (serving fallowImage (fun q => { q with inStep := true, step := 6 })
    ([(.schStatus 1, 0x40000000), (.arrStatus 1, 0x140000), (.arrGrp 1 3, 0x200000)] ++ l))
def calAt (f : GroupCal → GroupCal) (s : State) : State := tileAt 1 (fun x => { x with cal := [(3, f {})] }) s
def modelSlot : KeySlot := { kind := 1, ident := 5, plots := 1, key := [] }
/-- A storage binding of plot 0. -/
def bind0 : Binding := { cid := 3, ctag := 5, nsid := 1, capacity := 100, readOnly := false, owner := 0 }

/-- Region n is open: 16 MiB at a base in 16 MiB units. -/
def region (n b : Nat) (l : List (Reg × Word) := []) (s : State := State.reset) : State :=
  regsAt ([(.lpxRgnbase n, BitVec.ofNat 32 b), (.lpxRgnsize n, 1), (.lpxRgnctl n, 0xC0000000)] ++ l) s
/-- Bank 1 of tile 1 is granted to one master. -/
def granted (m : Nat) (l : List (Reg × Word) := []) : State := regsAt ([(.tilRgn 1 m 2, whole 1)] ++ l)
def onHost (f : HostState → HostState) (s : State := State.reset) : State := { s with host := f s.host }
def onRam (f : MemState → MemState) (s : State := State.reset) : State := { s with ram := f s.ram }
def fnAt (k : Nat) (f : FnState → FnState) (s : State := State.reset) : State := onFn s k f
def hostRd (tag : Nat) : HostReq := { fn := 1, gen := 0, hgen := 0, write := false, addr := 0x1000, bytes := [], len := 64, source := .ring 0, tag := tag, off := 0, relaxed := false, page := none }

/-- Core 6 runs at 0x100 with one MPU region over everything and registers w1 to w3 set. -/
def coreRun (f : CoreState → CoreState := id) (l : List (Reg × Word) := []) : State :=
  onCore (regsAt ([(.nvcStatus 6, 0x40000000)] ++ l)) 6 (fun _ => f { pc := 0x100, mpu := [(0, (0xF, 0xFFFFFFC0))], w := [(1, 0x80000000), (2, 0xFFFFFFFF), (3, 5), (4, 0x300)], vbase := 0x200, lvl := 32 })
def k6 : Nvc := { core := 6 }
def alu : AluR := { rd := 5, ra := 1, rb := 2, s := true }
def alui : AluI := { rd := 5, ra := 1, s := true, imm := 0xFFFF }
/-- A pointer into data SRAM. -/
def ptr0 (a : Word := 0x10000040) : List (Nat × Pointer) := [(0, { pa := a, pm := 4 }), (1, { pa := 0x10000100, pm := 8 })]
def memm (am : BitVec 2 := 0) (imm : BitVec 17 := 0) : MemM := { rd := 5, p := 0, am := am, imm := imm }
def entry (handler : Bool) : RsEntry := { handler := handler, rep := true, repi := true, count := 3, lvl := 9, ie := true, flags := 5, pcw := 0x20 }
/-- Entry 0 of the decode table is enabled, and its microcode is one word, the last. -/
def coreMicro : State := coreRun (fun x => { x with decode := [(0, 0x80000000)], micro := [(0, 0x100000000)] })
/-- The state in which that microcode ends. -/
def microEnd : State :=
  match runMicro 64 coreMicro 6 none { x := Machine.core coreMicro 6, t := [], rd := 1, ra := 2, rb := 3, imm := 4, mask := 0 } 0 0 with
  | .inl u => u
  | .inr _ => coreMicro

/-- A component image with a header alone, at the start of device memory. -/
def header (comp : Nat) : List Byte :=
  [0x53, 0x4C, 0x43, 0x4D, BitVec.ofNat 8 comp, 1, 0, 0, 3, 0, 0, 0, 0, 0, 0, 0, 0, 1, 0, 0] ++ List.replicate 236 0
def inMemory (bs : List Byte) (s : State) : State := { s with mem := (List.range bs.length).zip bs }
def withImage (comp : Nat) : State := inMemory (header comp) (upAt (s := region 12 0))
def comp1 (n : Nat) : Component := { comp := n, version := 3, svn := 0, entry := 0x40, wdog := 1, mpu := [], code := [], data := [], custom := none, digest := sha256 [] }
def session (receiving : Bool) : DistSession := { receiving := receiving, digest := List.replicate 32 7, owner := 0, base := 0x1000000, total := 0, held := [], manifest := false, peers := [], barred := [], rounds := 2, holdoff := true, complete := !receiving, answering := true, next := 0, ends := 0, rate := 10, queue := 3, failed := false }
def inSession (d : DistSession) (s : State := State.reset) : State := onFw (fun w => { w with sessions := [(5, d)] }) s
def digest7 : BitVec 128 := BitVec.ofNat 128 (leNat (List.replicate 16 7))
def updating (c : Nat) (left : List Nat) (st : Nat) (s : State := State.reset) : State :=
  onFw (fun w => { w with update := some { comp := comp1 c, image := [], owner := 0, seq := 9, version := 3, left := left, switched := [] }, frameCount := 1 }) (regsAt [(.fwmUpd, BitVec.ofNat 32 (st * 0x10000000))] s)
def upd (c : Nat) (left : List Nat) : Update := { comp := comp1 c, image := [], owner := 0, seq := 9, version := 3, left := left, switched := [] }
def frame1 : EgressFrame := { body := .raw (List.replicate 60 0xAB), len := 64, entered := 0 }
/-- Sub-port 0 of port 1 runs at full width. -/
def portUp (l : List (Reg × Word) := []) (f : NetState → NetState := id) : State :=
  let s := regsAt ([(.netPstat 1, 0x10030000)] ++ l); { s with net := f s.net }
def queued (q : Queue) (l : List (Reg × Word) := []) : State :=
  portUp ([(.tmsQcfg 515, 0x18000010), (.tmsQsel, 0x403)] ++ l) (fun n => { n with queues := [(515, q)], rr := [(32, (515, true))] })

/-- Plot 0 serves with its region open at 32 MiB, context 5 is open and cached, and region entry 9 grants it 4 KiB there. -/
def linked (fc : Ctx → Ctx := id) (f : RmaState → RmaState := id) (l : List (Reg × Word) := []) (c : Nat := 5) : State :=
  let s := region 0 2 l (serving { image1 with lpxGbps := 100 } id)
  { s with rma := f { s.rma with ctxs := [(c, fc { state := cxOpen, ver := 2, owner := 0, ctag := 7, rxPsn := 40, txPsn := 20 })], cached := [c],
                                 regions := [(9, { tag := 3, owner := 0, read := true, write := true, atomic := true, valid := true, base := 0x2000000, len := 0x1000 })] } }
def pkt : OmfPkt := { ver := 2, cid := 5, ctag := 7, pctr := 1, psn := 40, rkey := BitVec.ofNat 32 (3 * 2 ^ 18 + 9), roff := 8, oplen := 4, data := [1, 2, 3, 4], ackreq := true }
def arr (p : OmfPkt := pkt) : Arrival := { pkt := p, auth := true, stamp := 3, plot := 0 }
def rop : RmaOp := { slot := 0, cid := 5, src := .ring 0 77 true, gen := 0, hgen := 0, plot := 0, code := omReadReq, rkey := 1, roff := 0x40, len := 8, laddr := 0x2000100, firstPsn := some 19, sent := 1 }
def fop : RmaOp := { rop with src := .firmware, plot := 12 }
def opk : OpenPkt := { vmin := 1, vmax := 5, peerCid := 88, peerTag := 99, nonce := 3, keyId := 0x55, mss := 2048, macOk := true }
def connSlot : KeySlot := { kind := 3, ident := 0x55, plots := 1, key := [] }
def keyed (s : State) : State := onSec' (fun x => { x with slots := [(0, connSlot)] }) s
/-- A work entry in device memory at the base of plot 0's rings. -/
def workEntry (code : Byte) : List (Nat × Byte) := (List.range 64).map (fun i => (0x2000000 + i, if i = 0 then code else if i = 2 then 5 else if i = 24 then 16 else 0))

/-- Context 5 with a binding on it, and channel n of plot 0 with a command of 4 blocks at block 16 of the namespace set up. -/
def storage (n : Nat) (f : StgState → StgState) (g : RmaState → RmaState := id) (l : List (Reg × Word) := []) : State :=
  let s := linked id g ([(.stgCtl n, 0), (.stgBuflo n, 0x1000), (.stgBlks n, 4), (.stgLbalo n, 16)] ++ l)
  { s with stg := f { s.stg with bindings := [(2, { cid := 5, ctag := 7, nsid := 9, capacity := 20, readOnly := false, owner := 0 })] } }
def stgc : StgCmd := { code := 0x30, nsb := 2, lba := 16, blks := 4, buf := 0x2001000, host := false, tag := 6, irq := true, gen := 0, hgen := 0, slot := some 0 }
def sop : RmaOp := { rop with src := .storage 4, code := 0x30, sent := 2, acked := 1 }

/-- Security set up by a function, on a part that is up. -/
def secure (f : SecState → SecState) (l : List (Reg × Word) := []) (s : State := State.reset) : State := onSec' f (upAt l s)
/-- A seedbed configuration entry with a static address and port 7610, management port on. -/
def managed (f : SecState → SecState := id) : State :=
  let s := secure f [(.rstBoot, 0x00400000)]
  { s with seed := { s.seed with slotA := [(64, 2), (65, 0), (68, 0), (69, 2), (70, 0), (71, 0), (72, 4), (73, 1), (74, 0), (75, 0), (540, 7), (541, 0), (542, 0), (543, 10), (560, 0), (561, 0)] } }
def kslot (kind : Nat) : KeySlot := { kind := kind, ident := 5, plots := 1, key := [] }
/-- A release for kind 1 in the staging buffer, or with another magic. -/
def releaseBytes (kind : Byte) : List (Nat × Byte) := [(0, 0x53), (1, 0x4C), (2, 0x4B), (3, 0x52), (4, 1), (5, kind), (8, 4)]

def le (n v : Nat) : List Byte := leBytes n v
/-- A tile record of tile 1 whose stream is one bundle. -/
def tileRecord : List Byte := le 2 1 ++ [12, 20] ++ le 2 1000 ++ le 2 0 ++ le 4 0 ++ le 4 0 ++ le 4 1 ++ List.replicate 17708 0
def dirEntry (type off len cnt : Nat) : List Byte := le 4 type ++ le 4 off ++ le 4 len ++ le 4 cnt
/-- The header from byte 64 on, and the sections: a stream of END alone, no array, one power segment, no fallow-slot entry. -/
def imageBody : List Byte :=
  le 16 5 ++ le 8 7 ++ le 4 0 ++ le 4 1 ++ le 4 10000 ++ le 4 10000 ++ le 4 0 ++ le 2 1 ++ le 2 0 ++ le 16 0
    ++ dirEntry 1 256 17728 1 ++ dirEntry 2 17984 32 1 ++ dirEntry 3 18048 0 0 ++ dirEntry 5 18048 16 1 ++ dirEntry 6 18048 0 0 ++ List.replicate 48 0
    ++ tileRecord ++ List.replicate 31 0 ++ [0xF0] ++ List.replicate 32 0 ++ List.replicate 16 0
def imageHead : List Byte := le 4 0x49444C53 ++ le 2 2 ++ le 2 256 ++ le 4 0 ++ le 4 0 ++ le 4 18064 ++ le 12 2
def imageFile : List Byte := imageHead ++ sha256 imageBody ++ imageBody
/-- Plot 0 in a state, with tile 1 and its region open. -/
def plotIs (v : Nat) (f : PlotState → PlotState := id) (l : List (Reg × Word) := []) (s : State := State.reset) : State :=
  plotAt 0 f (region 0 2 ([(.pltTiles 0 0, 2), (.pltPstat 0, BitVec.ofNat 32 (v * 0x10000000))] ++ l) s)
def def1 : PlotDef := { tiles := 0xFFFF0000, base := 64, size := 16, entries := (0, 16), meters := (0, 4), queues := [(2, (0, 7))], channels := [9] }

/-- Bring-up stands at a stage, in a state of it (0 running, 1 complete, 2 stopped), with the islands out of reset. -/
def stageAt (n st : Nat) (l : List (Reg × Word) := []) : State :=
  regsAt ([(.rstStage, BitVec.ofNat 32 (n * 0x20000000 + st * 0x8000000))] ++ (List.range 6).map (fun k => (Reg.rstInrst k, 0)) ++ l)
def onPow (f : PowerState → PowerState) (s : State) : State := { s with power := f s.power }
/-- The islands are out of reset and firmware serves. -/
def released (l : List (Reg × Word) := []) : State := upAt ((List.range 6).map (fun k => (Reg.rstInrst k, (0 : Word))) ++ l)

def ckptSlot : KeySlot := { kind := 2, ident := 7, plots := 1, key := [] }
/-- Plot 0 in a state, its image and one checkpoint key in slot 4, with a checkpoint state and record. -/
def saving (v c : Nat) (f : CkpState → CkpState := id) (dirty : List Nat := []) (g : State → State := id) : State :=
  let s := upAt [] (plotIs v (fun q => { q with image := some { image1 with lpxGbps := 100 } }) [(.ckpPstat 0, BitVec.ofNat 32 (c * 0x10000000)), (.lpxRgnbase 16, 3), (.lpxRgnsize 16, 1), (.lpxRgnctl 16, 0xC0000000)])
  g { s with ckp := [(0, f {})], dirtyC := dirty, dirtyD := dirty, sec := { s.sec with slots := [(4, ckptSlot)] }, ram := { s.ram with owner := [(16, 3)] },
             stg := { s.stg with bindings := [(2, { cid := 5, ctag := 7, nsid := 9, capacity := 100000, readOnly := false, owner := 0 })] } }
def sheaf1 : Sheaf := { header := List.replicate 84 0, records := [List.replicate 20 0], trailer := [] }

def ev (sev : Nat) : Event := { code := 0x0701, plot := 0xFF, sev := sev, dropped := false, island := 8, tick := 5, object := 0, value := 1, extra := 0 }
def recording (d : Nat) (more : List Event) : State := { State.reset with evr := { State.reset.evr with queues := [(8, { events := ev 2 :: more, dropped := d })], order := [8, 3], next := 4096 } }
def sub1 (busy : Bool) : Subscription := { owner := 0, period := 10, groups := 1, ring := none, slots := 4, size := 4096, nextSlot := 3, skipped := 2, busy := busy }
def subbed (l : List Subscription) (s : State := State.reset) : State := { s with tel := { s.tel with subs := l } }

/-! ### SupplySagAndReset: states and operands that meet its hypotheses -/

theorem witness_supply_sag_and_reset_A1 : ∃ (rail : Fin 24), isRail (↑rail : ℕ) = true :=
  ⟨0, by decide +kernel⟩

theorem witness_supply_sag_and_reset_A1b : ∃ (rail : Fin 24), isRail (↑rail : ℕ) = true :=
  ⟨10, by decide +kernel⟩

theorem witness_supply_sag_and_reset_A2 : ∃ (rail : Fin 24), isRail (↑rail : ℕ) = true :=
  ⟨0, by decide +kernel⟩

theorem witness_supply_sag_and_reset_A3 : ∃ (d : Fin 8) (s : State), halved s (↑d : ℕ) = true :=
  ⟨0, regsAt [(.pwrTemp, 0x100)], by decide +kernel⟩

theorem witness_supply_sag_and_reset_A5 : ∃ (rail : Fin 24), isRail (↑rail : ℕ) = true ∧ (↑rail : ℕ) ≠ 0 :=
  ⟨8, by decide +kernel, by decide +kernel⟩

theorem witness_supply_sag_and_reset_A5x2 : ∃ (rail : Fin 24), isRail (↑rail : ℕ) = true ∧ (↑rail : ℕ) ≠ 0 :=
  ⟨23, by decide +kernel, by decide +kernel⟩

/-! ### TemperatureLevelsAndTrip: states and operands that meet its hypotheses -/

theorem witness_temperature_levels_and_trip_A6 : ∃ (d : Fin 8) (s : State), rdFld s Reg.pwrCtrl 19 13 + 64 ≤ dieTemp s (↑d : ℕ) ∧ thermalLevel s (↑d : ℕ) < 3 :=
  ⟨0, warm 154 0, by decide +kernel, by decide +kernel⟩

theorem witness_temperature_levels_and_trip_A7 : ∃ (d : Fin 8) (s : State), dieTemp s (↑d : ℕ) + 5 < rdFld s Reg.pwrCtrl 19 13 + 64 ∧ 0 < thermalLevel s (↑d : ℕ) :=
  ⟨0, warm 148 256, by decide +kernel, by decide +kernel⟩

theorem witness_temperature_levels_and_trip_A8 : ∃ (d : Fin 8) (s : State), isHot s (↑d : ℕ) = false ∧ 164 ≤ dieTemp s (↑d : ℕ) :=
  ⟨0, warm 164 0, by decide +kernel, by decide +kernel⟩

theorem witness_temperature_levels_and_trip_A9 : ∃ (d : Fin 8) (s : State), isHot s (↑d : ℕ) = true ∧ dieTemp s (↑d : ℕ) < 159 :=
  ⟨0, regsAt [(.pwrTemp, 0x10000)], by decide +kernel, by decide +kernel⟩

theorem witness_temperature_levels_and_trip_A11 : ∃ (s : State), s.power.baseTemp < 154 ∧ (∀ d < 8, dieTemp s d < 154) :=
  ⟨State.reset, by decide +kernel, by decide +kernel⟩

/-! ### VoltagesRatesAndWakes: states and operands that meet its hypotheses -/

theorem witness_voltages_rates_and_wakes_A13 : ∃ (d : Fin 8) (v : ℕ) (s : State), mapFind s.power.request (↑d : ℕ) = some v :=
  ⟨7, 800, powerAt (fun p => { p with request := [(7, 800)] }), by decide +kernel⟩

theorem witness_voltages_rates_and_wakes_A14 : ∃ (d : Fin 8) (s : State), (mapFind s.power.request (↑d : ℕ)).isSome = true :=
  ⟨7, powerAt (fun p => { p with request := [(7, 800)] }), by decide +kernel⟩

theorem witness_voltages_rates_and_wakes_A15 : ∃ (full : Bool) (s : State), s.power.changing = none ∧ bit (rd s Reg.lpxStatus) 0 ≠ full ∧ (full = false → fullRateNeeded s = false) :=
  ⟨true, State.reset, by decide +kernel, by decide +kernel, by decide +kernel⟩

theorem witness_voltages_rates_and_wakes_A15b : ∃ (full : Bool) (s : State), s.power.changing = none ∧ bit (rd s Reg.lpxStatus) 0 ≠ full ∧ (full = false → fullRateNeeded s = false) :=
  ⟨false, regsAt [(.lpxStatus, 1)], by decide +kernel, by decide +kernel, by decide +kernel⟩

theorem witness_voltages_rates_and_wakes_A16 : ∃ (full : Bool) (s : State), s.power.changing = some full :=
  ⟨true, powerAt (fun p => { p with changing := some true }), by decide +kernel⟩

theorem witness_voltages_rates_and_wakes_A16b : ∃ (full : Bool) (s : State), s.power.changing = some full :=
  ⟨false, powerAt (fun p => { p with changing := some false }) (regsAt [(.lpxStatus, 1)]), by decide +kernel⟩

theorem witness_voltages_rates_and_wakes_A17 : ∃ (n : Fin 128) (s : State), tokens s ≠ 0 ∧ nextWaking s (↑n : ℕ) = true :=
  ⟨5, tileAt 5 (fun x => { x with wakeWaits := [3] }) (regsAt [(.rstInrst 2, 0), (.arrGrp 5 3, 0)]), by decide +kernel, by decide +kernel⟩

theorem witness_voltages_rates_and_wakes_A19 : ∃ (n : Fin 128) (g : Fin 32) (s : State), grpPwr s (↑n : ℕ) (↑g : ℕ) = 1 ∧ (tile s (↑n : ℕ)).held = [] ∧ s.sec.huskWaits = [] ∧ (tile s (↑n : ℕ)).writes = [] :=
  ⟨127, 31, regsAt [(.arrGrp 127 31, 0x100000)], by decide +kernel, by decide +kernel, by decide +kernel, by decide +kernel⟩

theorem witness_voltages_rates_and_wakes_A19b : ∃ (n : Fin 128) (g : Fin 32) (s : State) (w : WeightWrite), grpPwr s (↑n : ℕ) (↑g : ℕ) = 1 ∧ (tile s (↑n : ℕ)).held = [] ∧ s.sec.huskWaits = [] ∧ (tile s (↑n : ℕ)).writes = [w] ∧ w.group = (↑g : ℕ) ∧ w.waiting = true ∧ w.load = false :=
  ⟨127, 31, tileAt 127 (fun x => { x with writes := [⟨31, 5, 0, 5, .husk, 0, true, false, false⟩] }) (regsAt [(.arrGrp 127 31, 0x100000)]), ⟨31, 5, 0, 5, .husk, 0, true, false, false⟩, by decide +kernel, by decide +kernel, by decide +kernel, by decide +kernel, by decide +kernel, by decide +kernel, by decide +kernel⟩

theorem witness_voltages_rates_and_wakes_A20 : ∃ (n : Fin 128) (s : State), (tile s (↑n : ℕ)).held = [] :=
  ⟨127, tileAt 127 (fun x => { x with rampRise := 5 }), by decide +kernel⟩

/-! ### ReferencesClocksAndLasers: states and operands that meet its hypotheses -/

theorem witness_references_clocks_and_lasers_A25 : ∃ (i : Fin 192) (s : State), isIsland (↑i : ℕ) = true ∧ inReset s (↑i : ℕ) = false :=
  ⟨64, regsAt [(.rstInrst 2, 0)], by decide +kernel, by decide +kernel⟩

theorem witness_references_clocks_and_lasers_A26 : ∃ (input : Fin 4) (s : State), ∃ p ∈ List.map (fun x ↦ x + 4 * (↑input : ℕ)) (List.range 4), rdFld s (Reg.netPstat p) 11 8 ≠ 15 :=
  ⟨3, regsAt [(.netPstat 12, 0)], by decide +kernel⟩

/-! ### WeightWritesAndGroups: states and operands that meet its hypotheses -/

theorem witness_weight_writes_and_groups_B1 : ∃ (n : Fin 128) (g : Fin 32) (slot : Fin 17) (target : Fin 16) (kind : WriteKind) (s : State), writePermitted s (↑n : ℕ) (↑g : ℕ) (↑slot : ℕ) (↑target : ℕ) kind = false :=
  ⟨1, 31, 16, 3, .husk, State.reset, by decide +kernel⟩

theorem witness_weight_writes_and_groups_B2 : ∃ (n : Fin 128) (g : Fin 32) (slot : Fin 17) (target : Fin 16) (kind : WriteKind) (s : State), writePermitted s (↑n : ℕ) (↑g : ℕ) (↑slot : ℕ) (↑target : ℕ) kind = true ∧ grpPwr s (↑n : ℕ) (↑g : ℕ) = 2 :=
  ⟨1, 31, 5, 5, .husk, regsAt [(.pltPstat 0, 0x20000000), (.pltTiles 0 0, 2), (.arrGrp 1 31, 0x200000), (.arrValid 1 31, 0x1FFFF)], by decide +kernel, by decide +kernel⟩

theorem witness_weight_writes_and_groups_B3 : ∃ (n : Fin 128) (g : Fin 32) (slot : Fin 17) (target : Fin 16) (kind : WriteKind) (s : State), writePermitted s (↑n : ℕ) (↑g : ℕ) (↑slot : ℕ) (↑target : ℕ) kind = true ∧ grpPwr s (↑n : ℕ) (↑g : ℕ) ≠ 2 :=
  ⟨1, 31, 5, 5, .husk, regsAt [(.pltPstat 0, 0x20000000), (.pltTiles 0 0, 2), (.arrGrp 1 31, 0)], by decide +kernel, by decide +kernel⟩

theorem witness_weight_writes_and_groups_B4 : ∃ (n : Fin 128) (g : Fin 32) (slot : Fin 17) (bad : Fin 3) (w : WeightWrite) (s : State), (List.find? (fun w ↦ w.group == (↑g : ℕ) && w.slot == (↑slot : ℕ) && !w.waiting && !w.failed && decide (w.nextRow < 512)) (tile s (↑n : ℕ)).writes = some w) ∧ (↑bad : ℕ) ≠ 2 :=
  ⟨1, 3, 5, 0, ⟨3, 5, 0, 5, .husk, 511, false, false, false⟩, tileAt 1 (fun x => { x with writes := [⟨3, 5, 0, 5, .husk, 511, false, false, false⟩] }), by decide +kernel, by decide +kernel⟩

theorem witness_weight_writes_and_groups_B4b : ∃ (n : Fin 128) (g : Fin 32) (slot : Fin 17) (bad : Fin 3) (w : WeightWrite) (s : State), (List.find? (fun w ↦ w.group == (↑g : ℕ) && w.slot == (↑slot : ℕ) && !w.waiting && !w.failed && decide (w.nextRow < 512)) (tile s (↑n : ℕ)).writes = some w) ∧ (↑bad : ℕ) ≠ 2 :=
  ⟨1, 3, 5, 1, ⟨3, 5, 2, 5, .husk, 0, false, false, false⟩, tileAt 1 (fun x => { x with writes := [⟨3, 5, 2, 5, .husk, 0, false, false, false⟩] }), by decide +kernel, by decide +kernel⟩

theorem witness_weight_writes_and_groups_B5 : ∃ (n : Fin 128) (g : Fin 32) (slot : Fin 17) (bad : Fin 3) (w : WeightWrite) (s : State), (List.find? (fun w ↦ w.group == (↑g : ℕ) && w.slot == (↑slot : ℕ) && !w.waiting && !w.failed && decide (w.nextRow < 512)) (tile s (↑n : ℕ)).writes = some w) ∧ (↑bad : ℕ) = 2 :=
  ⟨1, 3, 5, 2, ⟨3, 5, 0, 5, .husk, 0, false, false, false⟩, tileAt 1 (fun x => { x with writes := [⟨3, 5, 0, 5, .husk, 0, false, false, false⟩] }), by decide +kernel, by decide +kernel⟩

theorem witness_weight_writes_and_groups_B6 : ∃ (n : Fin 128) (g : Fin 32) (slot : Fin 17) (s : State), List.find? (fun w ↦ w.group == (↑g : ℕ) && w.slot == (↑slot : ℕ) && !w.waiting) (tile s (↑n : ℕ)).writes = none :=
  ⟨1, 3, 5, State.reset, by decide +kernel⟩

theorem witness_weight_writes_and_groups_B7 : ∃ (n : Fin 128) (g : Fin 32) (slot : Fin 17) (w : WeightWrite) (s : State), (List.find? (fun w ↦ w.group == (↑g : ℕ) && w.slot == (↑slot : ℕ) && !w.waiting) (tile s (↑n : ℕ)).writes = some w) ∧ w.failed = false ∧ 512 ≤ w.nextRow ∧ w.kind = WriteKind.husk ∧ w.slot < 16 :=
  ⟨1, 3, 15, ⟨3, 15, 2, 5, .husk, 512, false, false, false⟩, tileAt 1 (fun x => { x with writes := [⟨3, 15, 2, 5, .husk, 512, false, false, false⟩] }), by decide +kernel, by decide +kernel, by decide +kernel, by decide +kernel, by decide +kernel⟩

theorem witness_weight_writes_and_groups_B9 : ∃ (n : Fin 128) (g : Fin 32) (v : BitVec 5) (s : State), (spare s (↑n : ℕ) (↑g : ℕ) = spEmpty ∨ spare s (↑n : ℕ) (↑g : ℕ) = spReference) ∧ v.toNat ≤ 16 :=
  ⟨1, 3, 16, State.reset, by decide +kernel⟩

theorem witness_weight_writes_and_groups_B10 : ∃ (n : Fin 128) (g : Fin 32) (v : BitVec 5) (s : State), ¬((spare s (↑n : ℕ) (↑g : ℕ) = spEmpty ∨ spare s (↑n : ℕ) (↑g : ℕ) = spReference) ∧ v.toNat ≤ 16) :=
  ⟨1, 3, 17, State.reset, by decide +kernel⟩

/-! ### CrossingOperations: states and operands that meet its hypotheses -/

theorem witness_crossing_operations_B36 : ∃ (p : Fin 12) (xid : BitVec 12) (d : XDecl) (i : XInst) (s : State), xdecl s (↑p : ℕ) xid.toNat = some d ∧ d.xid = xid.toNat ∧ d.cls = 0 ∧ (List.find? (fun i ↦ !i.sent && (d.cls == 2 || i.lines.length == d.lines)) (xing s (↑p : ℕ) xid.toNat).flight = some i) ∧ bufferRefused s d i.inst = none ∧ (tile s d.dst).held = [] :=
  ⟨0, 6, xd 0 2 1, ⟨3, [7], 0, false⟩, crossing (xd 0 2 1) { flight := [⟨3, [7], 0, false⟩] }, by decide +kernel, by decide +kernel, by decide +kernel, by decide +kernel, by decide +kernel, by decide +kernel⟩

/-! ### LoadsAndLaunches: states and operands that meet its hypotheses -/

theorem witness_loads_and_launches_B11 : ∃ (sl : Slot) (iv : Fin 8) (bank : Fin 4) (line : BitVec 14) (before : List Instr) (afterV : List Instr) (s : State), MayIssue s sl (Instr.loadiv sl iv bank line) before afterV :=
  ⟨slot1, 7, 1, 16376, [], [], stored [.loadiv slot1 7 1 16376] (running), by constructor <;> decide +kernel⟩

theorem witness_loads_and_launches_B12 : ∃ (sl : Slot) (larray : BitVec 9) (iv : Fin 8) (desc : Fin 64) (before : List Instr) (afterV : List Instr) (s : State), MayIssue s sl (Instr.launch sl larray iv desc) before afterV :=
  ⟨slot1, 53, 2, 63, [], [], stored [.launch slot1 53 2 63] (running [(.arrGrp 1 3, 0x201010), (.arrValid 1 3, 0x20), (.arrLdesc 1 63, 0x1001)]), by constructor <;> decide +kernel⟩

theorem witness_loads_and_launches_B13 : ∃ (sl : Slot) (g : Fin 32) (iv : Fin 8) (desc : Fin 64) (before : List Instr) (afterV : List Instr) (s : State), MayIssue s sl (Instr.rlaunch sl g iv desc) before afterV :=
  ⟨slot1, 3, 2, 63, [], [], stored [.rlaunch slot1 3 2 63] (running [(.arrGrp 1 3, 0x211010), (.arrLdesc 1 63, 0x1001)]), by constructor <;> decide +kernel⟩

/-! ### MvmsAndCollects: states and operands that meet its hypotheses -/

theorem witness_mvms_and_collects_B14 : ∃ (n : Fin 128) (g : Fin 32) (slot : Fin 17) (m : Mvm) (s : State), (tile s (↑n : ℕ)).held = [] ∧ tileRun s (↑n : ℕ) ≠ tRunning ∧ (List.find? (fun m ↦ mvmActive m && m.group == (↑g : ℕ) && m.slot == (↑slot : ℕ)) (tile s (↑n : ℕ)).mvms = some m) :=
  ⟨1, 3, 5, { mvm1 with done := false, lanes := [] }, tileAt 1 (fun x => { x with mvms := [{ mvm1 with done := false, lanes := [] }] }), by decide +kernel, by decide +kernel, by decide +kernel⟩

theorem witness_mvms_and_collects_B14b : ∃ (n : Fin 128) (g : Fin 32) (slot : Fin 17) (m : Mvm) (s : State), (List.find? (fun m ↦ mvmActive m && m.group == (↑g : ℕ) && m.slot == (↑slot : ℕ)) (tile s (↑n : ℕ)).mvms = some m) ∧ mvmMayEnd s (↑n : ℕ) m = false :=
  ⟨1, 3, 5, { mvm1 with done := false, lanes := [] }, tileAt 1 (fun x => { x with mvms := [{ mvm1 with done := false, lanes := [] }] }) running, by decide +kernel, by decide +kernel⟩

theorem witness_mvms_and_collects_B15 : ∃ (sl : Slot) (larray : BitVec 9) (desc : Fin 64) (m : Mvm) (before : List Instr) (afterV : List Instr) (s : State), MayIssue s sl (Instr.collect sl larray desc) before afterV ∧ lastLaunch (tile (effectStart s sl (Instr.collect sl larray desc) before afterV) (↑sl.tile : ℕ)) (larray.toNat / 16) (larray.toNat % 16) = some m :=
  ⟨slot1, 53, 2, mvm1, [], [], stored [.collect slot1 53 2] (tileAt 1 (fun x => { x with mvms := [mvm1] }) (running [(.tilPpda 1 2, 0x00900000)])), by constructor <;> decide +kernel, by decide +kernel⟩

theorem witness_mvms_and_collects_B15b : ∃ (sl : Slot) (larray : BitVec 9) (desc : Fin 64) (m : Mvm) (before : List Instr) (afterV : List Instr) (s : State), MayIssue s sl (Instr.collect sl larray desc) before afterV ∧ lastLaunch (tile (effectStart s sl (Instr.collect sl larray desc) before afterV) (↑sl.tile : ℕ)) (larray.toNat / 16) (larray.toNat % 16) = some m :=
  ⟨slot1, 53, 2, mvm1 1, [], [], stored [.collect slot1 53 2] (tileAt 1 (fun x => { x with mvms := [mvm1 1] }) (running [(.tilPpda 1 2, 0x00000000)])), by constructor <;> decide +kernel, by decide +kernel⟩

theorem witness_mvms_and_collects_B15c : ∃ (sl : Slot) (larray : BitVec 9) (desc : Fin 64) (m : Mvm) (before : List Instr) (afterV : List Instr) (s : State), MayIssue s sl (Instr.collect sl larray desc) before afterV ∧ lastLaunch (tile (effectStart s sl (Instr.collect sl larray desc) before afterV) (↑sl.tile : ℕ)) (larray.toNat / 16) (larray.toNat % 16) = some m :=
  ⟨slot1, 53, 2, { mvm1 with lanes := List.replicate 516 0x2000 }, [], [], stored [.collect slot1 53 2] (tileAt 1 (fun x => { x with mvms := [{ mvm1 with lanes := List.replicate 516 0x2000 }] }) (running)), by constructor <;> decide +kernel, by decide +kernel⟩

theorem witness_mvms_and_collects_B16 : ∃ (sl : Slot) (g : Fin 32) (desc : Fin 64) (m : Mvm) (before : List Instr) (afterV : List Instr) (s : State), MayIssue s sl (Instr.rcollect sl g desc) before afterV ∧ lastLaunch (tile (effectStart s sl (Instr.rcollect sl g desc) before afterV) (↑sl.tile : ℕ)) (↑g : ℕ) 16 = some m :=
  ⟨slot1, 3, 2, mvmR, [], [], stored [.rcollect slot1 3 2] (tileAt 1 (fun x => { x with mvms := [mvmR] }) (running [(.tilPpda 1 2, 0x00000000)])), by constructor <;> decide +kernel, by decide +kernel⟩

/-! ### LaneWiseVectorOperations: states and operands that meet its hypotheses -/

theorem witness_lane_wise_vector_operations_B17a : ∃ (sl : Slot) (o : VecOp) (before : List Instr) (afterV : List Instr) (s : State), MayIssue s sl (Instr.vecFma sl o) before afterV :=
  ⟨slot1, vop, [], [], stored [.vecFma slot1 vop] (tileAt 1 (fun x => { x with vr := [(64, 0x3F800000), (128, 0x40000000), (192, 0x40400000)] }) running), by constructor <;> decide +kernel⟩

theorem witness_lane_wise_vector_operations_B17b : ∃ (sl : Slot) (o : VecOp) (before : List Instr) (afterV : List Instr) (s : State), MayIssue s sl (Instr.vecAdd sl o) before afterV :=
  ⟨slot1, { vop with vc := 0 }, [], [], stored [.vecAdd slot1 ({ vop with vc := 0 })] (tileAt 1 (fun x => { x with vr := [(64, 0x3F800000), (128, 0x40000000), (192, 0x40400000)] }) running), by constructor <;> decide +kernel⟩

theorem witness_lane_wise_vector_operations_B17c : ∃ (sl : Slot) (o : VecOp) (before : List Instr) (afterV : List Instr) (s : State), MayIssue s sl (Instr.vecMul sl o) before afterV :=
  ⟨slot1, { vop with vc := 0 }, [], [], stored [.vecMul slot1 ({ vop with vc := 0 })] (tileAt 1 (fun x => { x with vr := [(64, 0x3F800000), (128, 0x40000000), (192, 0x40400000)] }) running), by constructor <;> decide +kernel⟩

theorem witness_lane_wise_vector_operations_B17d : ∃ (sl : Slot) (o : VecOp) (before : List Instr) (afterV : List Instr) (s : State), MayIssue s sl (Instr.max sl o) before afterV :=
  ⟨slot1, { vop with vc := 0 }, [], [], stored [.max slot1 ({ vop with vc := 0 })] (tileAt 1 (fun x => { x with vr := [(64, 0x3F800000), (128, 0x40000000), (192, 0x40400000)] }) running), by constructor <;> decide +kernel⟩

theorem witness_lane_wise_vector_operations_B17e : ∃ (sl : Slot) (o : VecOp) (before : List Instr) (afterV : List Instr) (s : State), MayIssue s sl (Instr.min sl o) before afterV :=
  ⟨slot1, { vop with vc := 0 }, [], [], stored [.min slot1 ({ vop with vc := 0 })] (tileAt 1 (fun x => { x with vr := [(64, 0x3F800000), (128, 0x40000000), (192, 0x40400000)] }) running), by constructor <;> decide +kernel⟩

theorem witness_lane_wise_vector_operations_B17f : ∃ (sl : Slot) (o : VecOp) (before : List Instr) (afterV : List Instr) (s : State), MayIssue s sl (Instr.vecAdd sl o) before afterV :=
  ⟨slot1, { vop with w := 1, vd := 31, vc := 0 }, [], [], stored [.vecAdd slot1 { vop with w := 1, vd := 31, vc := 0 }] (tileAt 1 (fun x => { x with vr := [(64, 0x3F80), (128, 0x4000)] }) running), by constructor <;> decide +kernel⟩

/-! ### ConversionsFunctionsReductions: states and operands that meet its hypotheses -/

theorem witness_conversions_functions_reductions_B18a : ∃ (sl : Slot) (o : VecOp) (before : List Instr) (afterV : List Instr) (s : State), MayIssue s sl (Instr.cvt sl o) before afterV :=
  ⟨slot1, { vop with vb := 0, vc := 0, imm := 3 }, [], [], stored [.cvt slot1 { vop with vb := 0, vc := 0, imm := 3 }] (tileAt 1 (fun x => { x with vr := [(64, 0x3F800000), (128, 0x40000000), (192, 0x40400000)] }) running), by constructor <;> decide +kernel⟩

theorem witness_conversions_functions_reductions_B18b : ∃ (sl : Slot) (o : VecOp) (before : List Instr) (afterV : List Instr) (s : State), MayIssue s sl (Instr.mxenc sl o) before afterV :=
  ⟨slot1, { vop with vb := 0, vc := 0, ef := 3 }, [], [], stored [.mxenc slot1 { vop with vb := 0, vc := 0, ef := 3 }] (tileAt 1 (fun x => { x with vr := [(64, 0x3F800000), (128, 0x40000000), (192, 0x40400000)] }) running), by constructor <;> decide +kernel⟩

theorem witness_conversions_functions_reductions_B18c : ∃ (sl : Slot) (o : VecOp) (before : List Instr) (afterV : List Instr) (s : State), MayIssue s sl (Instr.mxdec sl o) before afterV :=
  ⟨slot1, { vop with vb := 0, vc := 0 }, [], [], stored [.mxdec slot1 { vop with vb := 0, vc := 0 }] (tileAt 1 (fun x => { x with vr := [(64, 0x3F800000), (128, 0x40000000), (192, 0x40400000)] }) running), by constructor <;> decide +kernel⟩

theorem witness_conversions_functions_reductions_B18d : ∃ (sl : Slot) (o : VecOp) (before : List Instr) (afterV : List Instr) (s : State), MayIssue s sl (Instr.func sl o) before afterV :=
  ⟨slot1, { vop with vb := 0, vc := 0, imm := 2 }, [], [], stored [.func slot1 { vop with vb := 0, vc := 0, imm := 2 }] (tileAt 1 (fun x => { x with vr := [(64, 0x3F800000), (128, 0x40000000), (192, 0x40400000)] }) running), by constructor <;> decide +kernel⟩

theorem witness_conversions_functions_reductions_B18e : ∃ (sl : Slot) (o : VecOp) (before : List Instr) (afterV : List Instr) (s : State), MayIssue s sl (Instr.rsum sl o) before afterV :=
  ⟨slot1, { vop with vb := 0, vc := 0 }, [], [], stored [.rsum slot1 { vop with vb := 0, vc := 0 }] (tileAt 1 (fun x => { x with vr := [(64, 0x3F800000), (128, 0x40000000), (192, 0x40400000)] }) running), by constructor <;> decide +kernel⟩

theorem witness_conversions_functions_reductions_B18f : ∃ (sl : Slot) (o : VecOp) (before : List Instr) (afterV : List Instr) (s : State), MayIssue s sl (Instr.rmax sl o) before afterV :=
  ⟨slot1, { vop with vb := 0, vc := 0, imm := 1 }, [], [], stored [.rmax slot1 { vop with vb := 0, vc := 0, imm := 1 }] (tileAt 1 (fun x => { x with vr := [(64, 0x3F800000), (128, 0x40000000), (192, 0x40400000)] }) running), by constructor <;> decide +kernel⟩

/-! ### RouteAndSample: states and operands that meet its hypotheses -/

theorem witness_route_and_sample_B19 : ∃ (sl : Slot) (o : VecOp) (before : List Instr) (afterV : List Instr) (s : State), MayIssue s sl (Instr.route sl o) before afterV :=
  ⟨slot1, { vop with vd := 0, vb := 0, vc := 0, imm := 7 }, [], [], stored [.route slot1 { vop with vd := 0, vb := 0, vc := 0, imm := 7 }] (tileAt 1 (fun x => { x with vr := [(65, 0x400), (66, 0x800)] }) running), by constructor <;> decide +kernel⟩

theorem witness_route_and_sample_B20 : ∃ (sl : Slot) (o : VecOp) (before : List Instr) (afterV : List Instr) (s : State), MayIssue s sl (Instr.sample sl o) before afterV :=
  ⟨slot1, { vop with vd := 0, vb := 0, vc := 0, imm := 15 }, [], [], stored [.sample slot1 { vop with vd := 0, vb := 0, vc := 0, imm := 15 }] (tileAt 1 (fun x => { x with vr := [(65, 0x400), (66, 0x800)] }) running), by constructor <;> decide +kernel⟩

/-! ### MatrixUnit: states and operands that meet its hypotheses -/

theorem witness_matrix_unit_B21a : ∃ (sl : Slot) (setV : Fin 2) (ddesc : Fin 64) (before : List Instr) (afterV : List Instr) (s : State), MayIssue s sl (Instr.mma sl setV ddesc) before afterV :=
  ⟨slot1, 1, 5, [], [], stored [.mma slot1 1 5] (tileAt 1 (fun x => { x with dmxDesc := [(5, 0x10000000 + 0x10000 * 64)], dacc := [(1024, 0x3F800000)] }) running), by constructor <;> decide +kernel⟩

theorem witness_matrix_unit_B21b : ∃ (sl : Slot) (setV : Fin 2) (ddesc : Fin 64) (before : List Instr) (afterV : List Instr) (s : State), MayIssue s sl (Instr.mmaz sl setV ddesc) before afterV :=
  ⟨slot1, 1, 5, [], [], stored [.mmaz slot1 1 5] (tileAt 1 (fun x => { x with dmxDesc := [(5, 0x10000000 + 0x10000 * 64)], dacc := [(1024, 0x3F800000)] }) running), by constructor <;> decide +kernel⟩

theorem witness_matrix_unit_B22 : ∃ (sl : Slot) (setV : Fin 2) (fmt : BitVec 4) (vd : Fin 32) (rnd : Bool) (before : List Instr) (afterV : List Instr) (s : State), MayIssue s sl (Instr.drain sl setV fmt vd rnd) before afterV :=
  ⟨slot1, 1, 7, 31, false, [], [], stored [.drain slot1 1 7 31 false] (running), by constructor <;> decide +kernel⟩

/-! ### MoveOperations: states and operands that meet its hypotheses -/

theorem witness_move_operations_B23 : ∃ (sl : Slot) (bank : Fin 4) (addr : BitVec 20) (vr : Fin 32) (part : Fin 4) (before : List Instr) (afterV : List Instr) (s : State), MayIssue s sl (Instr.ld sl bank addr vr part) before afterV :=
  ⟨slot1, 1, 0xFFFC0, 31, 3, [], [], stored [.ld slot1 1 0xFFFC0 31 3] (running), by constructor <;> decide +kernel⟩

theorem witness_move_operations_B23b : ∃ (sl : Slot) (bank : Fin 4) (addr : BitVec 20) (vr : Fin 32) (part : Fin 4) (before : List Instr) (afterV : List Instr) (s : State), MayIssue s sl (Instr.ld sl bank addr vr part) before afterV :=
  ⟨slot1, 1, 0x00010, 0, 0, [], [], stored [.ld slot1 1 0x00010 0 0] (running), by constructor <;> decide +kernel⟩

theorem witness_move_operations_B24 : ∃ (sl : Slot) (bank : Fin 4) (addr : BitVec 20) (vr : Fin 32) (part : Fin 4) (before : List Instr) (afterV : List Instr) (s : State), MayIssue s sl (Instr.st sl bank addr vr part) before afterV :=
  ⟨slot1, 1, 0x00020, 31, 3, [], [], stored [.st slot1 1 0x00020 31 3] (tileAt 1 (fun x => { x with vr := [(31 * 64 + 48, 0x12345678)] }) running), by constructor <;> decide +kernel⟩

theorem witness_move_operations_B25 : ∃ (sl : Slot) (sbank : Fin 4) (saddr : BitVec 20) (dbank : Fin 4) (dline : BitVec 14) (before : List Instr) (afterV : List Instr) (s : State), MayIssue s sl (Instr.cpy sl sbank saddr dbank dline) before afterV :=
  ⟨slot1, 1, 0x00020, 2, 7, [], [], stored [.cpy slot1 1 0x00020 2 7] (running), by constructor <;> decide +kernel⟩

/-! ### ControlOperations: states and operands that meet its hypotheses -/

theorem witness_control_operations_B26 : ∃ (sl : Slot) (k : BitVec 24) (before : List Instr) (afterV : List Instr) (s : State), MayIssue s sl (Instr.ctlWait sl k) before afterV :=
  ⟨slot1, 100, [], [], stored [.ctlWait slot1 100] (running), by constructor <;> decide +kernel⟩

theorem witness_control_operations_B27 : ∃ (sl : Slot) (countV : BitVec 20) (before : List Instr) (afterV : List Instr) (s : State), MayIssue s sl (Instr.loop sl countV) before afterV :=
  ⟨slot1, 100, [], [], stored [.loop slot1 100] (running), by constructor <;> decide +kernel⟩

theorem witness_control_operations_B28 : ∃ (sl : Slot) (f : LoopFrame) (rest : List LoopFrame) (before : List Instr) (afterV : List Instr) (s : State), MayIssue s sl (Instr.endloop sl) before afterV ∧ (tile (effectStart s sl (Instr.endloop sl) before afterV) (↑sl.tile : ℕ)).loops = f :: rest ∧ 1 < f.left :=
  ⟨slot1, ⟨2, 2⟩, [], [], [], stored [.endloop slot1] (tileAt 1 (fun x => { x with loops := [⟨2, 2⟩] }) running), by constructor <;> decide +kernel, by decide +kernel, by decide +kernel⟩

theorem witness_control_operations_B28b : ∃ (sl : Slot) (f : LoopFrame) (rest : List LoopFrame) (before : List Instr) (afterV : List Instr) (s : State), MayIssue s sl (Instr.endloop sl) before afterV ∧ (tile (effectStart s sl (Instr.endloop sl) before afterV) (↑sl.tile : ℕ)).loops = f :: rest ∧ f.left ≤ 1 :=
  ⟨slot1, ⟨2, 1⟩, [⟨1, 3⟩], [], [], stored [.endloop slot1] (tileAt 1 (fun x => { x with loops := [⟨2, 1⟩, ⟨1, 3⟩] }) running), by constructor <;> decide +kernel, by decide +kernel, by decide +kernel⟩

theorem witness_control_operations_B29 : ∃ (sl : Slot) (bank : Fin 4) (line : BitVec 14) (word : Fin 8) (before : List Instr) (afterV : List Instr) (s : State), MayIssue s sl (Instr.seedld sl bank line word) before afterV :=
  ⟨slot1, 1, 16383, 7, [], [], stored [.seedld slot1 1 16383 7] (running), by constructor <;> decide +kernel⟩

theorem witness_control_operations_B30 : ∃ (sl : Slot) (wake : Bool) (last : Fin 32) (first : Fin 32) (before : List Instr) (afterV : List Instr) (s : State), MayIssue s sl (Instr.fallow sl wake last first) before afterV :=
  ⟨slot1, true, 31, 30, [], [], stored [.fallow slot1 true 31 30] (running), by constructor <;> decide +kernel⟩

theorem witness_control_operations_B30b : ∃ (sl : Slot) (wake : Bool) (last : Fin 32) (first : Fin 32) (before : List Instr) (afterV : List Instr) (s : State), MayIssue s sl (Instr.fallow sl wake last first) before afterV :=
  ⟨slot1, false, 3, 3, [], [], stored [.fallow slot1 false 3 3] (running), by constructor <;> decide +kernel⟩

theorem witness_control_operations_B31 : ∃ (sl : Slot) (before : List Instr) (afterV : List Instr) (s : State), MayIssue s sl (Instr.endOp sl) before afterV :=
  ⟨slot1, [], [], stored [.endOp slot1] (plotAt 0 (fun q => { q with image := some (image1) }) running), by constructor <;> decide +kernel⟩

theorem witness_control_operations_B31b : ∃ (sl : Slot) (before : List Instr) (afterV : List Instr) (s : State), MayIssue s sl (Instr.endOp sl) before afterV :=
  ⟨slot1, [.launch slot1 53 2 63], [], stored [.launch slot1 53 2 63, .endOp slot1] (plotAt 0 (fun q => { q with image := some (image1) }) (running [(.arrGrp 1 3, 0x201010), (.arrValid 1 3, 0x20), (.arrLdesc 1 63, 0x1001)])) [.launch slot1 53 2 63], by constructor <;> decide +kernel⟩

/-! ### CrossingOperations: states and operands that meet its hypotheses -/

theorem witness_crossing_operations_B32 : ∃ (sl : Slot) (xid : BitVec 12) (p : ℕ) (d : XDecl) (before : List Instr) (afterV : List Instr) (s : State), plotOf (effectStart s sl (Instr.send sl xid) before afterV) (↑sl.tile : ℕ) = some p ∧ xdecl (effectStart s sl (Instr.send sl xid) before afterV) p xid.toNat = some d ∧ MayIssue s sl (Instr.send sl xid) before afterV :=
  ⟨slot1, 6, 0, xd 0 1 2, [], [], stored [.send slot1 6] (crossing (xd 0 1 2)), by decide +kernel, by decide +kernel, by constructor <;> decide +kernel⟩

theorem witness_crossing_operations_B32b : ∃ (sl : Slot) (xid : BitVec 12) (p : ℕ) (d : XDecl) (before : List Instr) (afterV : List Instr) (s : State), plotOf (effectStart s sl (Instr.send sl xid) before afterV) (↑sl.tile : ℕ) = some p ∧ xdecl (effectStart s sl (Instr.send sl xid) before afterV) p xid.toNat = some d ∧ MayIssue s sl (Instr.send sl xid) before afterV :=
  ⟨slot1, 6, 0, xd 3 1 2, [], [], stored [.send slot1 6] (plotAt 0 (fun q => { q with freezeDue := true }) (crossing (xd 3 1 2))), by decide +kernel, by decide +kernel, by constructor <;> decide +kernel⟩

theorem witness_crossing_operations_B33 : ∃ (sl : Slot) (xid : BitVec 12) (p : ℕ) (before : List Instr) (afterV : List Instr) (s : State), plotOf (effectStart s sl (Instr.lread sl xid) before afterV) (↑sl.tile : ℕ) = some p ∧ MayIssue s sl (Instr.lread sl xid) before afterV :=
  ⟨slot1, 6, 0, [], [], stored [.lread slot1 6] (crossing (xd 2 5 1)), by decide +kernel, by constructor <;> decide +kernel⟩

theorem witness_crossing_operations_B34 : ∃ (sl : Slot) (xid : BitVec 12) (p : ℕ) (k : ℕ) (rest : List ℕ) (before : List Instr) (afterV : List Instr) (s : State), plotOf (effectStart s sl (Instr.xngWait sl xid) before afterV) (↑sl.tile : ℕ) = some p ∧ (xing (effectStart s sl (Instr.xngWait sl xid) before afterV) p xid.toNat).arrived = k :: rest ∧ MayIssue s sl (Instr.xngWait sl xid) before afterV :=
  ⟨slot1, 6, 0, 4, [5], [], [], stored [.xngWait slot1 6] (crossing (xd 0 2 1) { arrived := [4, 5] }), by decide +kernel, by decide +kernel, by constructor <;> decide +kernel⟩

theorem witness_crossing_operations_B35 : ∃ (sl : Slot) (xid : BitVec 12) (p : ℕ) (before : List Instr) (afterV : List Instr) (s : State), plotOf (effectStart s sl (Instr.free sl xid) before afterV) (↑sl.tile : ℕ) = some p ∧ MayIssue s sl (Instr.free sl xid) before afterV :=
  ⟨slot1, 6, 0, [], [], stored [.free slot1 6] (crossing (xd 0 2 1) { consumed := [4] }), by decide +kernel, by constructor <;> decide +kernel⟩

theorem witness_crossing_operations_B37 : ∃ (p : Fin 12) (xid : BitVec 12) (d : XDecl) (i : XInst) (s : State), xdecl s (↑p : ℕ) xid.toNat = some d ∧ d.xid = xid.toNat ∧ d.cls = 0 ∧ (List.find? (fun i ↦ !i.sent && (d.cls == 2 || i.lines.length == d.lines)) (xing s (↑p : ℕ) xid.toNat).flight = some i) :=
  ⟨0, 6, { xd 0 2 1 with dstLine := 16383 }, ⟨3, [7], 0, false⟩, crossing { xd 0 2 1 with dstLine := 16383 } { flight := [⟨3, [7], 0, false⟩] }, by decide +kernel, by decide +kernel, by decide +kernel, by decide +kernel⟩

/-! ### SlotOperationsThatDoNotIssue: states and operands that meet its hypotheses -/

theorem witness_slot_operations_that_do_not_issue_B38 : ∃ (i : Instr) (sl : Slot) (s : State), slotOf i = some sl ∧ inStream s sl i = false :=
  ⟨.endOp slot1, slot1, State.reset, by decide +kernel, by decide +kernel⟩

theorem witness_slot_operations_that_do_not_issue_B38b : ∃ (i : Instr) (sl : Slot) (s : State), slotOf i = some sl ∧ inStream s sl i = true ∧ bundleWhole (bundleAt s (↑sl.tile : ℕ) sl.pc.toNat) (gatherIn i (tile s (↑sl.tile : ℕ)).gather) = false :=
  ⟨.endOp slot1, slot1, stored [.launch slot1 53 2 63, .endOp slot1] (running), by decide +kernel, by decide +kernel, by decide +kernel⟩

theorem witness_slot_operations_that_do_not_issue_B39 : ∃ (i : Instr) (sl : Slot) (s : State), slotOf i = some sl ∧ (tileRun s (↑sl.tile : ℕ) ≠ tRunning ∨ (tile s (↑sl.tile : ℕ)).held ≠ []) :=
  ⟨.endOp slot1, slot1, tileAt 1 (fun x => { x with held := [.loop slot1 0] }) running, by decide +kernel, by decide +kernel⟩

theorem witness_slot_operations_that_do_not_issue_B40 : ∃ (sl : Slot) (ops : List Instr) (s : State), (bundleAlone (presented s sl) ops).none? = false :=
  ⟨slot1, [.loop slot1 0], running, by decide +kernel⟩

theorem witness_slot_operations_that_do_not_issue_B41 : ∃ (sl : Slot) (ops : List Instr) (s : State), (bundleAlone (presented s sl) ops).none? = true ∧ bundleHolds (presented s sl) (↑sl.tile : ℕ) ops ≠ [] :=
  ⟨slot1, [.xngWait slot1 6], crossing (xd 0 2 1), by decide +kernel, by decide +kernel⟩

/-! ### StepsAndMarkers: states and operands that meet its hypotheses -/

theorem witness_steps_and_markers_C1 : ∃ (p : Fin 12) (sinceNs : ℕ) (markerNs : ℕ) (s : State), stepReady s (↑p : ℕ) = true ∧ (if inJob s (↑p : ℕ) = false then (plot s (↑p : ℕ)).started = false ∨ stepNs s (↑p : ℕ) ≤ sinceNs else if isLeader s (↑p : ℕ) = true then (plot s (↑p : ℕ)).startSent = true ∧ markerDly s (↑p : ℕ) ≤ markerNs else (plot s (↑p : ℕ)).startHeld = true) ∧ ((plot s (↑p : ℕ)).started = false → groupsAdmitted s (↑p : ℕ) = true) :=
  ⟨0, 1000, 900, serving image1 (fun q => { q with started := true, step := 4 }), by decide +kernel, by decide +kernel, by decide +kernel⟩

theorem witness_steps_and_markers_C1b : ∃ (p : Fin 12) (sinceNs : ℕ) (markerNs : ℕ) (s : State), stepReady s (↑p : ℕ) = true ∧ (if inJob s (↑p : ℕ) = false then (plot s (↑p : ℕ)).started = false ∨ stepNs s (↑p : ℕ) ≤ sinceNs else if isLeader s (↑p : ℕ) = true then (plot s (↑p : ℕ)).startSent = true ∧ markerDly s (↑p : ℕ) ≤ markerNs else (plot s (↑p : ℕ)).startHeld = true) ∧ ((plot s (↑p : ℕ)).started = false → groupsAdmitted s (↑p : ℕ) = true) :=
  ⟨0, 1000, 900, serving (image1 [] 2 0) (fun q => { q with started := false, startHeld := true, step := 4 }), by decide +kernel, by decide +kernel, by decide +kernel⟩

theorem witness_steps_and_markers_C1c : ∃ (p : Fin 12) (sinceNs : ℕ) (markerNs : ℕ) (s : State), stepReady s (↑p : ℕ) = true ∧ (if inJob s (↑p : ℕ) = false then (plot s (↑p : ℕ)).started = false ∨ stepNs s (↑p : ℕ) ≤ sinceNs else if isLeader s (↑p : ℕ) = true then (plot s (↑p : ℕ)).startSent = true ∧ markerDly s (↑p : ℕ) ≤ markerNs else (plot s (↑p : ℕ)).startHeld = true) ∧ ((plot s (↑p : ℕ)).started = false → groupsAdmitted s (↑p : ℕ) = true) :=
  ⟨0, 1000, 900, serving (image1 [] 2 2) (fun q => { q with started := true, startSent := true, step := 4 }), by decide +kernel, by decide +kernel, by decide +kernel⟩

theorem witness_steps_and_markers_C2 : ∃ (p : Fin 12) (sinceNs : ℕ) (s : State), inJob s (↑p : ℕ) = true ∧ isLeader s (↑p : ℕ) = true ∧ stepReady s (↑p : ℕ) = true ∧ (plot s (↑p : ℕ)).startSent = false ∧ ((plot s (↑p : ℕ)).started = false ∨ stepNs s (↑p : ℕ) ≤ sinceNs + markerDly s (↑p : ℕ)) ∧ (plot s (↑p : ℕ)).faultDue = false ∧ (plot s (↑p : ℕ)).holdDue = false :=
  ⟨0, 990, serving (image1 [] 2 2) (fun q => { q with started := true, step := 4 }), by decide +kernel, by decide +kernel, by decide +kernel, by decide +kernel, by decide +kernel, by decide +kernel, by decide +kernel⟩

theorem witness_steps_and_markers_C3 : ∃ (p : Fin 12) (sinceNs : ℕ) (s : State), inJob s (↑p : ℕ) = true ∧ isLeader s (↑p : ℕ) = true ∧ stepReady s (↑p : ℕ) = true ∧ (plot s (↑p : ℕ)).startSent = false ∧ ((plot s (↑p : ℕ)).started = false ∨ stepNs s (↑p : ℕ) ≤ sinceNs + markerDly s (↑p : ℕ)) ∧ ((plot s (↑p : ℕ)).faultDue = true ∨ (plot s (↑p : ℕ)).holdDue = true) :=
  ⟨0, 990, serving (image1 [] 2 2) (fun q => { q with started := true, step := 4, holdDue := true }), by decide +kernel, by decide +kernel, by decide +kernel, by decide +kernel, by decide +kernel, by decide +kernel⟩

theorem witness_steps_and_markers_C3b : ∃ (p : Fin 12) (sinceNs : ℕ) (s : State), inJob s (↑p : ℕ) = true ∧ isLeader s (↑p : ℕ) = true ∧ stepReady s (↑p : ℕ) = true ∧ (plot s (↑p : ℕ)).startSent = false ∧ ((plot s (↑p : ℕ)).started = false ∨ stepNs s (↑p : ℕ) ≤ sinceNs + markerDly s (↑p : ℕ)) ∧ ((plot s (↑p : ℕ)).faultDue = true ∨ (plot s (↑p : ℕ)).holdDue = true) :=
  ⟨0, 990, serving (image1 [] 2 2) (fun q => { q with started := false, step := 4, faultDue := true }), by decide +kernel, by decide +kernel, by decide +kernel, by decide +kernel, by decide +kernel, by decide +kernel⟩

theorem witness_steps_and_markers_C4 : ∃ (p : Fin 12) (job : DWord) (stepV : DWord) (s : State), follows s (↑p : ℕ) job = true ∧ nextStep s (↑p : ℕ) = stepV ∧ (plotRun s (↑p : ℕ) = pServing ∨ plotRun s (↑p : ℕ) = pHeld ∧ frozen s (↑p : ℕ) = false) :=
  ⟨0, 7, 5, serving (image1 [] 2 0) (fun q => { q with started := true, step := 4 }), by decide +kernel, by decide +kernel, by decide +kernel⟩

theorem witness_steps_and_markers_C4b : ∃ (p : Fin 12) (job : DWord) (stepV : DWord) (s : State), follows s (↑p : ℕ) job = true ∧ nextStep s (↑p : ℕ) = stepV ∧ (plotRun s (↑p : ℕ) = pServing ∨ plotRun s (↑p : ℕ) = pHeld ∧ frozen s (↑p : ℕ) = false) :=
  ⟨0, 7, 5, heldPlot (image1 [] 2 0) (fun q => { q with started := true, step := 4, stopped := true }), by decide +kernel, by decide +kernel, by decide +kernel⟩

theorem witness_steps_and_markers_C5 : ∃ (p : Fin 12) (job : DWord) (stepV : DWord) (n : ℕ) (s : State), follows s (↑p : ℕ) job = true ∧ nextStep s (↑p : ℕ) ≠ stepV ∧ (plotRun s (↑p : ℕ) = pServing ∨ plotRun s (↑p : ℕ) = pHeld ∧ frozen s (↑p : ℕ) = false) ∧ (tilesOf s (↑p : ℕ)).head? = some n ∧ plotOf s n = some (↑p : ℕ) :=
  ⟨0, 7, 6, 1, serving (image1 [] 2 0) (fun q => { q with started := true, step := 4 }), by decide +kernel, by decide +kernel, by decide +kernel, by decide +kernel, by decide +kernel⟩

theorem witness_steps_and_markers_C6 : ∃ (p : Fin 12) (job : DWord) (s : State), follows s (↑p : ℕ) job = true ∧ plotRun s (↑p : ℕ) = pServing :=
  ⟨0, 7, serving (image1 [] 2 0) (fun q => { q with started := true, inStep := true }), by decide +kernel, by decide +kernel⟩

theorem witness_steps_and_markers_C6b : ∃ (p : Fin 12) (job : DWord) (s : State), follows s (↑p : ℕ) job = true ∧ plotRun s (↑p : ℕ) = pServing :=
  ⟨0, 7, serving (image1 [] 2 0) (fun q => { q with started := true, inStep := false }), by decide +kernel, by decide +kernel⟩

theorem witness_steps_and_markers_C7 : ∃ (p : Fin 12) (sinceNs : ℕ) (n : ℕ) (s : State), follows s (↑p : ℕ) (jobOf s (↑p : ℕ)) = true ∧ plotRun s (↑p : ℕ) = pServing ∧ (plot s (↑p : ℕ)).started = true ∧ (plot s (↑p : ℕ)).stopped = false ∧ (plot s (↑p : ℕ)).startHeld = false ∧ stepNs s (↑p : ℕ) + wdogNs s (↑p : ℕ) ≤ sinceNs ∧ (tilesOf s (↑p : ℕ)).head? = some n ∧ plotOf s n = some (↑p : ℕ) :=
  ⟨0, 1500, 1, serving (image1 [] 2 0) (fun q => { q with started := true }), by decide +kernel, by decide +kernel, by decide +kernel, by decide +kernel, by decide +kernel, by decide +kernel, by decide +kernel, by decide +kernel⟩

theorem witness_steps_and_markers_C8 : ∃ (p : Fin 12) (s : State), inJob s (↑p : ℕ) = true ∧ isLeader s (↑p : ℕ) = true :=
  ⟨0, serving (image1 [] 2 2) id, by decide +kernel, by decide +kernel⟩

/-! ### HoldsHaltsAndStepWatchdog: states and operands that meet its hypotheses -/

theorem witness_holds_halts_and_step_watchdog_C9 : ∃ (p : Fin 12) (s : State), inJob s (↑p : ℕ) = true ∧ isLeader s (↑p : ℕ) = true :=
  ⟨0, serving (image1 [] 2 2) id, by decide +kernel, by decide +kernel⟩

theorem witness_holds_halts_and_step_watchdog_C10 : ∃ (p : Fin 12) (s : State), inJob s (↑p : ℕ) = true ∧ isLeader s (↑p : ℕ) = false :=
  ⟨0, serving (image1 [] 2 0) id, by decide +kernel, by decide +kernel⟩

theorem witness_holds_halts_and_step_watchdog_C11 : ∃ (p : Fin 12) (s : State), inJob s (↑p : ℕ) = false ∧ plotRun s (↑p : ℕ) = pServing ∧ (plot s (↑p : ℕ)).inStep = false :=
  ⟨0, serving (image1) (fun q => { q with started := true }), by decide +kernel, by decide +kernel, by decide +kernel⟩

theorem witness_holds_halts_and_step_watchdog_C12 : ∃ (p : Fin 12) (s : State), isLeader s (↑p : ℕ) = true ∧ plotRun s (↑p : ℕ) = pHeld ∧ frozen s (↑p : ℕ) = false ∧ (plot s (↑p : ℕ)).reload = false :=
  ⟨0, heldPlot (image1) (fun q => { q with stopped := true }) [(.schPctrl 0, 1)], by decide +kernel, by decide +kernel, by decide +kernel, by decide +kernel⟩

theorem witness_holds_halts_and_step_watchdog_C13 : ∃ (s : State), (∃ m, s.sec.dbgScope = some m ∧ m.testBit 0 = true) ∧ (∀ (n : ℕ), (tile s n).held = []) :=
  ⟨onSec' (fun c => { c with dbgScope := some 1 }) (serving image1 id), by decide +kernel, none_held (by decide +kernel)⟩

theorem witness_holds_halts_and_step_watchdog_C14 : ∃ (s : State), s.sec.dbgScope = none :=
  ⟨State.reset, by decide +kernel⟩

theorem witness_holds_halts_and_step_watchdog_C15 : ∃ (n : Fin 128) (waited : ℕ) (p : ℕ) (s : State), plotOf s (↑n : ℕ) = some p ∧ tileRun s (↑n : ℕ) = tRunning ∧ (tile s (↑n : ℕ)).held ≠ [] ∧ rdFld s (Reg.schStatus (↑n : ℕ)) 25 23 ≠ 0 ∧ rdFld s (Reg.schStatus (↑n : ℕ)) 25 23 ≠ srcDebug + 1 ∧ wdogNs s p < (tile (chargeStall s (↑n : ℕ) (rdFld s (Reg.schStatus (↑n : ℕ)) 25 23 - 1) waited) (↑n : ℕ)).stallNs :=
  ⟨1, 501, 0, tileAt 1 (fun x => { x with held := [.endOp slot1] }) (serving image1 id [(.schStatus 1, 0x41000000)]), by decide +kernel, by decide +kernel, by decide +kernel, by decide +kernel, by decide +kernel, by decide +kernel⟩

/-! ### ForegroundCalibration: states and operands that meet its hypotheses -/

theorem witness_foreground_calibration_C16 : ∃ (n : Fin 128) (s : State), inService s (↑n : ℕ) = false :=
  ⟨1, regsAt [(.calGmask 1, 0xA), (.calGstat 1 3, calIs 6)], by decide +kernel⟩

theorem witness_foreground_calibration_C17 : ∃ (n : Fin 128) (s : State), inService s (↑n : ℕ) = true :=
  ⟨1, serving image1 id [(.calGmask 1, 0x8), (.calGstat 1 3, calIs 3)], by decide +kernel⟩

theorem witness_foreground_calibration_C18 : ∃ (n : Fin 128) (g : Fin 32) (s : State), (calState s (↑n : ℕ) (↑g : ℕ) = calForeground ∨ calState s (↑n : ℕ) (↑g : ℕ) = calRecal) ∧ calMayLaunch s (↑n : ℕ) (↑g : ℕ) = false :=
  ⟨1, 3, regsAt [(.calGstat 1 3, calIs 1)], by decide +kernel, by decide +kernel⟩

theorem witness_foreground_calibration_C18bz : ∃ (n : Fin 128) (g : Fin 32) (s : State), (calState s (↑n : ℕ) (↑g : ℕ) = calForeground ∨ calState s (↑n : ℕ) (↑g : ℕ) = calRecal) ∧ calMayLaunch s (↑n : ℕ) (↑g : ℕ) = true :=
  ⟨1, 3, regsAt [(.calGstat 1 3, calIs 1), (.arrGrp 1 3, 0x211010), (.arrStatus 1, 0x10000), (.arrValid 1 3, 0x1FFFF)], by decide +kernel, by decide +kernel⟩

theorem witness_foreground_calibration_C19z : ∃ (n : Fin 128) (g : Fin 32) (s : State), (calState s (↑n : ℕ) (↑g : ℕ) = calForeground ∨ calState s (↑n : ℕ) (↑g : ℕ) = calRecal) ∧ calMayLaunch s (↑n : ℕ) (↑g : ℕ) = true :=
  ⟨1, 3, inFallow [(.calGstat 1 3, calIs 4)], by decide +kernel, by decide +kernel⟩

theorem witness_foreground_calibration_C20z : ∃ (n : Fin 128) (entry : ℕ) (p : ℕ) (i : Image) (e : FallowEnt) (s : State), plotOf s (↑n : ℕ) = some p ∧ imageOf s p = some i ∧ i.fallow[entry]? = some e ∧ e.tile = (↑n : ℕ) ∧ stepping s (↑n : ℕ) = true ∧ BitVec.toNat (plot s p).step % e.period = e.phase ∧ scheduleAt s (↑n : ℕ) e.start (e.start + e.length) = true :=
  ⟨1, 0, 0, fallowImage, fallow1, tileAt 1 (fun x => { x with karrDue := [31] }) (serving fallowImage (fun q => { q with inStep := true, step := 6 }) [(.arrGrp 1 31, 0x230000), (.arrStatus 1, 0x10000), (.schStatus 1, 0x60000000)]), by decide +kernel, by decide +kernel, by decide +kernel, by decide +kernel, by decide +kernel, by decide +kernel, by decide +kernel⟩

theorem witness_foreground_calibration_C20b : ∃ (n : Fin 128) (entry : ℕ) (p : ℕ) (i : Image) (e : FallowEnt) (s : State), plotOf s (↑n : ℕ) = some p ∧ imageOf s p = some i ∧ i.fallow[entry]? = some e ∧ e.tile = (↑n : ℕ) ∧ stepping s (↑n : ℕ) = true ∧ BitVec.toNat (plot s p).step % e.period = e.phase ∧ scheduleAt s (↑n : ℕ) e.start (e.start + e.length) = true :=
  ⟨1, 0, 0, fallowImage, fallow1, serving fallowImage (fun q => { q with inStep := true, step := 6 }) [(.schStatus 1, 0x40000000)], by decide +kernel, by decide +kernel, by decide +kernel, by decide +kernel, by decide +kernel, by decide +kernel, by decide +kernel⟩

/-! ### MeasurementSetsAndProbation: states and operands that meet its hypotheses -/

theorem witness_measurement_sets_and_probation_C21z : ∃ (n : Fin 128) (g : Fin 32) (s : State), (calState s (↑n : ℕ) (↑g : ℕ) = calProbation ∨ calState s (↑n : ℕ) (↑g : ℕ) = calAdmitted ∨ calState s (↑n : ℕ) (↑g : ℕ) = calStale) ∧ calMayLaunch s (↑n : ℕ) (↑g : ℕ) = true ∧ inWindow s (↑n : ℕ) (↑g : ℕ) = true :=
  ⟨1, 3, inFallow [(.calGstat 1 3, calIs 2)], by decide +kernel, by decide +kernel, by decide +kernel⟩

theorem witness_measurement_sets_and_probation_C21b : ∃ (n : Fin 128) (g : Fin 32) (s : State), (calState s (↑n : ℕ) (↑g : ℕ) = calProbation ∨ calState s (↑n : ℕ) (↑g : ℕ) = calAdmitted ∨ calState s (↑n : ℕ) (↑g : ℕ) = calStale) ∧ calMayLaunch s (↑n : ℕ) (↑g : ℕ) = true ∧ inWindow s (↑n : ℕ) (↑g : ℕ) = false :=
  ⟨1, 3, regsAt [(.calGstat 1 3, calIs 5), (.arrGrp 1 3, 0x200000), (.arrStatus 1, 0x10000)], by decide +kernel, by decide +kernel, by decide +kernel⟩

theorem witness_measurement_sets_and_probation_C22z : ∃ (n : Fin 128) (g : Fin 32) (s : State), calState s (↑n : ℕ) (↑g : ℕ) = calProbation ∧ stepping s (↑n : ℕ) = false ∧ calMayLaunch s (↑n : ℕ) (↑g : ℕ) = true :=
  ⟨1, 3, serving image1 id [(.calGstat 1 3, calIs 2), (.arrGrp 1 3, 0x200000), (.arrStatus 1, 0x10000)], by decide +kernel, by decide +kernel, by decide +kernel⟩

theorem witness_measurement_sets_and_probation_C23 : ∃ (n : Fin 128) (g : Fin 32) (s : State), inService s (↑n : ℕ) = true ∧ (calState s (↑n : ℕ) (↑g : ℕ) = calProbation ∨ calState s (↑n : ℕ) (↑g : ℕ) = calAdmitted) ∧ (calOf s (↑n : ℕ) (↑g : ℕ)).lastSet + 100000 < s.tick :=
  ⟨1, 3, { serving image1 id [(.calGstat 1 3, calIs 3)] with tick := 100001 }, by decide +kernel, by decide +kernel, by decide +kernel⟩

theorem witness_measurement_sets_and_probation_C24 : ∃ (n : Fin 128) (g : Fin 32) (s : State), calState s (↑n : ℕ) (↑g : ℕ) = calProbation ∧ (calOf s (↑n : ℕ) (↑g : ℕ)).probEnd ≤ s.tick ∧ (calOf s (↑n : ℕ) (↑g : ℕ)).probSet = true ∧ (calOf s (↑n : ℕ) (↑g : ℕ)).hardSeen = false :=
  ⟨1, 3, calAt (fun c => { c with probSet := true, probEnd := 0 }) (regsAt [(.calGstat 1 3, calIs 2)]), by decide +kernel, by decide +kernel, by decide +kernel, by decide +kernel⟩

/-! ### RepairsAndDegradedTiles: states and operands that meet its hypotheses -/

theorem witness_repairs_and_degraded_tiles_C25 : ∃ (n : Fin 128) (g : Fin 32) (slot : Fin 16) (s : State), bit (rd s (Reg.calFlag (↑n : ℕ) (↑g : ℕ))) (↑slot : ℕ) = true ∧ (spare s (↑n : ℕ) (↑g : ℕ) = spEmpty ∨ spare s (↑n : ℕ) (↑g : ℕ) = spReference) :=
  ⟨1, 3, 15, regsAt [(.calFlag 1 3, 0x8000), (.arrGrp 1 3, 0x11010)], by decide +kernel, by decide +kernel⟩

theorem witness_repairs_and_degraded_tiles_C26 : ∃ (n : Fin 128) (g : Fin 32) (p : ℕ) (s : State), spare s (↑n : ℕ) (↑g : ℕ) = spProgramming ∧ plotOf s (↑n : ℕ) = some p :=
  ⟨1, 3, 0, onSec' (fun c => { c with slots := [(2, modelSlot)] }) (serving image1 (fun q => { q with modelId := some 5 }) [(.arrGrp 1 3, 0x20000)]), by decide +kernel, by decide +kernel⟩

theorem witness_repairs_and_degraded_tiles_C27 : ∃ (m : Msg) (type : BitVec 16) (s : State), Admitted s m { type := type.toNat, vf := false, feature := some 1 } ∧ s.ram.saving.isSome = true :=
  ⟨msg 0, 0x30, { upAt with ram := { upAt.ram with saving := some ⟨3, 9, 3, 0x30, [1], []⟩ } }, by unfold Admitted; decide +kernel, by decide +kernel⟩

theorem witness_repairs_and_degraded_tiles_C28 : ∃ (m : Msg) (type : BitVec 16) (s : State), Admitted s m { type := type.toNat, vf := false, feature := some 1 } ∧ s.ram.saving = none ∧ (∀ n < 128, stepping s n = false) :=
  ⟨msg 0, 0x30, upAt, by unfold Admitted; decide +kernel, by decide +kernel, by decide +kernel⟩

theorem witness_repairs_and_degraded_tiles_C28b : ∃ (m : Msg) (type : BitVec 16) (s : State), Admitted s m { type := type.toNat, vf := false, feature := some 1 } ∧ s.ram.saving = none ∧ (∃ n < 128, stepping s n = true) :=
  ⟨msg 0, 0x30, upAt [] (inFallow []), by unfold Admitted; decide +kernel, by decide +kernel, by decide +kernel⟩

theorem witness_repairs_and_degraded_tiles_C29 : ∃ (n : Fin 128) (p : ℕ) (s : State), plotOf s (↑n : ℕ) = some p ∧ bit (rd s (Reg.arrStatus (↑n : ℕ))) 31 = true ∧ pltState s p = pltHeld ∧ frozen s p = false ∧ (plot s p).altOf = none ∧ usableAlternate s p (↑n : ℕ) = none :=
  ⟨1, 0, heldPlot image1 id [(.arrStatus 1, 0x80000000)], by decide +kernel, by decide +kernel, by decide +kernel, by decide +kernel, by decide +kernel, by decide +kernel⟩

theorem witness_repairs_and_degraded_tiles_C30 : ∃ (n : Fin 128) (p : ℕ) (s : State) (a : Image), plotOf s (↑n : ℕ) = some p ∧ bit (rd s (Reg.arrStatus (↑n : ℕ))) 31 = true ∧ pltState s p = pltHeld ∧ frozen s p = false ∧ (plot s p).altOf = none ∧ usableAlternate s p (↑n : ℕ) = some a :=
  ⟨1, 0, onSec' (fun c => { c with slots := [(2, modelSlot)] }) { heldPlot image1 (fun q => { q with modelId := some 5, husk := some (.storage 2 0 []), alts := [{ image1 with altTile := 1 }] }) [(.arrStatus 1, 0x80000000)] with stg := { State.reset.stg with bindings := [(2, bind0)] } }, { image1 with altTile := 1 }, by decide +kernel, by decide +kernel, by decide +kernel, by decide +kernel, by decide +kernel, by decide +kernel⟩

theorem witness_repairs_and_degraded_tiles_C31 : ∃ (n : Fin 128) (p : ℕ) (s : State), plotOf s (↑n : ℕ) = some p ∧ bit (rd s (Reg.arrStatus (↑n : ℕ))) 31 = true ∧ pltState s p = pltLoading ∧ (plot s p).altOf = some (↑n : ℕ) ∧ usableAlternate s p (↑n : ℕ) = none :=
  ⟨1, 0, serving image1 (fun q => { q with altOf := some 1 }) [(.pltPstat 0, 0x20000000), (.arrStatus 1, 0x80000000)], by decide +kernel, by decide +kernel, by decide +kernel, by decide +kernel, by decide +kernel⟩

/-! ### ScratchpadAccesses: states and operands that meet its hypotheses -/

theorem witness_scratchpad_accesses_D1 : ∃ (n : Fin 128) (addr : BitVec 22) (s : State) (bs : List Byte), 1 ≤ bs.length ∧ bs.length ≤ 64 ∧ spByte addr.toNat + bs.length ≤ 1048576 ∧ rgnGrants s (↑n : ℕ) 3 (spBank addr.toNat) (lineOf (spByte addr.toNat)) (lineOf (spByte addr.toNat + bs.length - 1)) true = true :=
  ⟨1, 0x1FFFC0, granted 3, List.replicate 64 7, by decide +kernel, by decide +kernel, by decide +kernel, by decide +kernel⟩

theorem witness_scratchpad_accesses_D1b : ∃ (n : Fin 128) (addr : BitVec 22) (s : State) (bs : List Byte), 1 ≤ bs.length ∧ bs.length ≤ 64 ∧ spByte addr.toNat + bs.length ≤ 1048576 ∧ rgnGrants s (↑n : ℕ) 3 (spBank addr.toNat) (lineOf (spByte addr.toNat)) (lineOf (spByte addr.toNat + bs.length - 1)) true = true :=
  ⟨1, 0x100010, granted 3, [1,2,3], by decide +kernel, by decide +kernel, by decide +kernel, by decide +kernel⟩

theorem witness_scratchpad_accesses_D2 : ∃ (n : Fin 128) (addr : BitVec 22) (s : State) (bs : List Byte), 1 ≤ bs.length ∧ bs.length ≤ 64 ∧ spByte addr.toNat + bs.length ≤ 1048576 ∧ rgnGrants s (↑n : ℕ) 3 (spBank addr.toNat) (lineOf (spByte addr.toNat)) (lineOf (spByte addr.toNat + bs.length - 1)) true = false :=
  ⟨1, 0x000010, granted 3, [1,2,3], by decide +kernel, by decide +kernel, by decide +kernel, by decide +kernel⟩

theorem witness_scratchpad_accesses_D3 : ∃ (n : Fin 128) (addr : BitVec 22) (len : Fin 65) (s : State), 1 ≤ (↑len : ℕ) ∧ spByte addr.toNat + (↑len : ℕ) ≤ 1048576 ∧ rgnGrants s (↑n : ℕ) 3 (spBank addr.toNat) (lineOf (spByte addr.toNat)) (lineOf (spByte addr.toNat + (↑len : ℕ) - 1)) false = true :=
  ⟨1, 0x100010, 64, granted 3, by decide +kernel, by decide +kernel, by decide +kernel⟩

theorem witness_scratchpad_accesses_D4 : ∃ (addr : BitVec 22) (len : Fin 65), (↑len : ℕ) = 0 ∨ 1048576 < spByte addr.toNat + (↑len : ℕ) :=
  ⟨0x100010, 0, by decide +kernel⟩

theorem witness_scratchpad_accesses_D4b : ∃ (addr : BitVec 22) (len : Fin 65), (↑len : ℕ) = 0 ∨ 1048576 < spByte addr.toNat + (↑len : ℕ) :=
  ⟨0x1FFFFF, 2, by decide +kernel⟩

theorem witness_scratchpad_accesses_D5 : ∃ (m : Master) (n : Fin 128) (off : BitVec 12) (s : State), off.toNat % 8 = 0 ∧ (m = Master.pf ∧ debugScope s 1 = true ∨ ∃ c, m = Master.core c ∧ (22 ≤ (↑c : ℕ) ∨ 2 ≤ (↑c : ℕ) ∧ (↑c : ℕ) ≤ 5)) ∧ rgnGrants s (↑n : ℕ) 4 (rdFld s (Reg.tilSpapbase (↑n : ℕ)) 9 0 / 256) (lineOf (rdFld s (Reg.tilSpapbase (↑n : ℕ)) 9 0 % 256 * 4096 + off.toNat)) (lineOf (rdFld s (Reg.tilSpapbase (↑n : ℕ)) 9 0 % 256 * 4096 + off.toNat)) true = true :=
  ⟨.core 2, 1, 0xFF8, granted 4 [(.tilSpapbase 1, 0x100)], by decide +kernel, by decide +kernel, by decide +kernel⟩

theorem witness_scratchpad_accesses_D6 : ∃ (m : Master) (n : Fin 128) (off : BitVec 12) (s : State), off.toNat % 8 = 0 ∧ (m = Master.pf ∧ debugScope s 1 = true ∨ ∃ c, m = Master.core c ∧ (22 ≤ (↑c : ℕ) ∨ 2 ≤ (↑c : ℕ) ∧ (↑c : ℕ) ≤ 5)) ∧ rgnGrants s (↑n : ℕ) 4 (rdFld s (Reg.tilSpapbase (↑n : ℕ)) 9 0 / 256) (lineOf (rdFld s (Reg.tilSpapbase (↑n : ℕ)) 9 0 % 256 * 4096 + off.toNat)) (lineOf (rdFld s (Reg.tilSpapbase (↑n : ℕ)) 9 0 % 256 * 4096 + off.toNat)) false = true :=
  ⟨.core 23, 1, 0xFF8, granted 4 [(.tilSpapbase 1, 0x100)], by decide +kernel, by decide +kernel, by decide +kernel⟩

theorem witness_scratchpad_accesses_D7 : ∃ (m : Master) (n : Fin 128) (off : BitVec 12) (s : State), off.toNat % 8 = 0 ∧ (m = Master.pf ∧ debugScope s 1 = true ∨ ∃ c, m = Master.core c ∧ (22 ≤ (↑c : ℕ) ∨ 2 ≤ (↑c : ℕ) ∧ (↑c : ℕ) ≤ 5)) ∧ rgnGrants s (↑n : ℕ) 4 (rdFld s (Reg.tilSpapbase (↑n : ℕ)) 9 0 / 256) (lineOf (rdFld s (Reg.tilSpapbase (↑n : ℕ)) 9 0 % 256 * 4096 + off.toNat)) (lineOf (rdFld s (Reg.tilSpapbase (↑n : ℕ)) 9 0 % 256 * 4096 + off.toNat)) false = false :=
  ⟨.pf, 1, 0, onSec' (fun c => { c with dbgScope := some 2 }) (granted 4), by decide +kernel, by decide +kernel, by decide +kernel⟩

theorem witness_scratchpad_accesses_D9 : ∃ (m : Master) (s : State), mayProgramRegions s m = false :=
  ⟨.pf, State.reset, by decide +kernel⟩

theorem witness_scratchpad_accesses_D10 : ∃ (m : Master) (n : Fin 128) (s : State), mayProgramRegions s m = true ∧ (∀ (p : ℕ), plotOf s (↑n : ℕ) = some p → plotRun s p ≠ pServing) :=
  ⟨.core 22, 1, State.reset, by decide +kernel, holds_of_some (by decide +kernel)⟩

theorem witness_scratchpad_accesses_D11 : ∃ (m : Master) (n : Fin 128) (s : State) (p : ℕ), mayProgramRegions s m = true ∧ plotOf s (↑n : ℕ) = some p ∧ plotRun s p = pServing :=
  ⟨.core 22, 1, serving image1 id, 0, by decide +kernel, by decide +kernel, by decide +kernel⟩

/-! ### LpxRequestsAndRegions: states and operands that meet its hypotheses -/

theorem witness_lpx_requests_and_regions_D12 : ∃ (q : Requester) (addr : ℕ) (ecc : Ecc) (r : ℕ) (s : State) (bs : List Byte), lpxPermits s q addr bs.length = some r ∧ (ecc ≠ Ecc.uncorrectable ∨ readsFirst addr bs.length = false) ∧ (r < 12 → (pagesOf addr bs.length).any (cowHeld s r) = false) :=
  ⟨.plot 3, 0x10FFFFFF, .clean, 3, region 3 16, [9], by decide +kernel, by decide +kernel, by decide +kernel⟩

theorem witness_lpx_requests_and_regions_D13 : ∃ (q : Requester) (addr : ℕ) (len : ℕ) (ecc : Ecc) (r : ℕ) (s : State), lpxPermits s q addr len = some r ∧ ecc ≠ Ecc.uncorrectable :=
  ⟨.host, 0x10000000, 64, .corrected, 12, region 12 16, by decide +kernel, by decide +kernel⟩

theorem witness_lpx_requests_and_regions_D14 : ∃ (q : Requester) (addr : ℕ) (len : ℕ) (s : State), lpxPermits s q addr len = none :=
  ⟨.plot 3, 0x10FFFFFF, 2, region 3 16, by decide +kernel⟩

theorem witness_lpx_requests_and_regions_D15 : ∃ (m : Master) (n : Fin 32) (s : State), mayProgramRegions s m = true ∧ bit (rd s (Reg.lpxRgnctl (↑n : ℕ))) 31 = false ∧ rdFld s (Reg.lpxRgnsize (↑n : ℕ)) 13 0 ≠ 0 ∧ rdFld s (Reg.lpxRgnbase (↑n : ℕ)) 13 0 + rdFld s (Reg.lpxRgnsize (↑n : ℕ)) 13 0 ≤ 14336 ∧ (∀ k < 32, bit (rd s (Reg.lpxRgnctl k)) 31 = true → overlaps (rdFld s (Reg.lpxRgnbase (↑n : ℕ)) 13 0) (rdFld s (Reg.lpxRgnsize (↑n : ℕ)) 13 0) (rdFld s (Reg.lpxRgnbase k) 13 0) (rdFld s (Reg.lpxRgnsize k) 13 0) = false) :=
  ⟨.core 23, 12, regsAt [(.lpxRgnbase 12, 14335), (.lpxRgnsize 12, 1)], by decide +kernel, by decide +kernel, by decide +kernel, by decide +kernel, by decide +kernel⟩

theorem witness_lpx_requests_and_regions_D16 : ∃ (m : Master) (n : Fin 32) (s : State), mayProgramRegions s m = true ∧ bit (rd s (Reg.lpxRgnctl (↑n : ℕ))) 31 = false ∧ rdFld s (Reg.lpxRgnsize (↑n : ℕ)) 13 0 = 0 :=
  ⟨.core 23, 12, State.reset, by decide +kernel, by decide +kernel, by decide +kernel⟩

theorem witness_lpx_requests_and_regions_D17 : ∃ (m : Master) (s : State), mayProgramRegions s m = true :=
  ⟨.core 23, region 12 3, by decide +kernel⟩

theorem witness_lpx_requests_and_regions_D18 : ∃ (m : Master) (s : State), mayProgramRegions s m = false :=
  ⟨.pf, region 12 3, by decide +kernel⟩

theorem witness_lpx_requests_and_regions_D18b : ∃ (m : Master) (s : State), mayProgramRegions s m = false :=
  ⟨.core 6, region 12 3, by decide +kernel⟩

theorem witness_lpx_requests_and_regions_D19 : ∃ (s : State), rdFld s Reg.lpxPatrol 7 0 = 0 :=
  ⟨regsAt [(.lpxPatrol, 0)], by decide +kernel⟩

theorem witness_lpx_requests_and_regions_D20 : ∃ (line : ℕ) (s : State), rdFld s Reg.lpxPatrol 7 0 ≠ 0 ∧ line * 64 < 240518168576 ∧ regionOf s (line * 64) = none :=
  ⟨0xDFFFFFFF, State.reset, by decide +kernel, by decide +kernel, by decide +kernel⟩

theorem witness_lpx_requests_and_regions_D21 : ∃ (line : ℕ) (s : State), rdFld s Reg.lpxPatrol 7 0 ≠ 0 ∧ line * 64 < 240518168576 ∧ regionOf s (line * 64) = none ∧ (∀ p < 12, stagedAt s p (line * 64) = false) :=
  ⟨5, State.reset, by decide +kernel, by decide +kernel, by decide +kernel, by decide +kernel⟩

theorem witness_lpx_requests_and_regions_D22 : ∃ (s : State), s.power.changing ≠ none :=
  ⟨powerAt (fun p => { p with changing := some true }), by decide +kernel⟩

theorem witness_lpx_requests_and_regions_D23 : ∃ (s : State), s.power.changing = none :=
  ⟨State.reset, by decide +kernel⟩

/-! ### HostMemoryWindows: states and operands that meet its hypotheses -/

theorem witness_host_memory_windows_D24 : ∃ (off : BitVec 34) (len : ℕ) (a : ℕ) (s : State), s.power.changing = none ∧ bar2Addr s off.toNat len = some a ∧ pagesBad s a len = false :=
  ⟨0x100000040, 64, 0x20000040, region 13 32 [(.hifB2ctl, 0x80000000)] (fnAt 0 (fun x => { x with memEnable := true })), by decide +kernel, by decide +kernel, by decide +kernel⟩

theorem witness_host_memory_windows_D25 : ∃ (off : BitVec 34) (len : ℕ) (s : State), s.power.changing = none ∧ bar2Addr s off.toNat len = none :=
  ⟨0, 64, State.reset, by decide +kernel, by decide +kernel⟩

theorem witness_host_memory_windows_D26 : ∃ (off : BitVec 34) (bs : List Byte) (a : ℕ) (s : State), s.power.changing = none ∧ bar2Addr s off.toNat bs.length = some a ∧ s.ram.bad = [] :=
  ⟨0x40, [1,2,3], 0x20000040, region 12 32 [(.hifB2ctl, 0x80000000)] (fnAt 0 (fun x => { x with memEnable := true })), by decide +kernel, by decide +kernel, by decide +kernel⟩

theorem witness_host_memory_windows_D27 : ∃ (s : State), s.power.changing ≠ none :=
  ⟨powerAt (fun p => { p with changing := some true }), by decide +kernel⟩

theorem witness_host_memory_windows_D27b : ∃ (s : State), s.power.changing ≠ none :=
  ⟨powerAt (fun p => { p with changing := some true }), by decide +kernel⟩

theorem witness_host_memory_windows_D28 : ∃ (off : ℕ) (len : ℕ) (rom : List Byte) (s : State), s.host.rom = some rom ∧ s.host.romEnable = true ∧ (fnState s 0).memEnable = true ∧ off + len ≤ 1048576 :=
  ⟨0xFFFFC, 4, [1,2], fnAt 0 (fun x => { x with memEnable := true }) (onHost (fun h => { h with rom := some [1,2], romEnable := true })), by decide +kernel, by decide +kernel, by decide +kernel, by decide +kernel⟩

/-! ### LinkHeartbeatsAndHello: states and operands that meet its hypotheses -/

theorem witness_link_heartbeats_and_hello_D30 : ∃ (f : Fin 13) (s : State), fnLost s (↑f : ℕ) = true :=
  ⟨12, regsAt [(.hifHstat 12, 0x80000000)], by decide +kernel⟩

theorem witness_link_heartbeats_and_hello_D31 : ∃ (f : Fin 13) (s : State), fnLost s (↑f : ℕ) = false :=
  ⟨12, fnAt 12 (fun x => { x with hello := true }), by decide +kernel⟩

theorem witness_link_heartbeats_and_hello_D32 : ∃ (f : Fin 13) (s : State), bit (rd s (Reg.hifHstat (↑f : ℕ))) 30 = true ∧ (fnState s (↑f : ℕ)).dstate = 0 ∧ (box s (↑f : ℕ)).helloDue = none ∧ NoFeeds s :=
  ⟨12, regsAt [(.hifHstat 12, 0x400000FF)], by decide +kernel, by decide +kernel, by decide +kernel, no_feeds (by decide +kernel)⟩

theorem witness_link_heartbeats_and_hello_D33 : ∃ (rate : Fin 7) (width : Fin 17) (flit : Bool) (s : State), s.host.perst = false ∧ bit (rd s (Reg.rstInrst 0)) 5 = false ∧ linkLegal s (↑rate : ℕ) (↑width : ℕ) flit = true :=
  ⟨6, 16, true, regsAt [(.rstInrst 0, 0)], by decide +kernel, by decide +kernel, by decide +kernel⟩

theorem witness_link_heartbeats_and_hello_D34 : ∃ (s : State), ∀ f < 13, (box s f).helloDue = none :=
  ⟨fnAt 0 (fun x => { x with hello := true }) (regsAt [(.hifLink, 0x80000000)]), by decide +kernel⟩

theorem witness_link_heartbeats_and_hello_D35 : ∃ (o : Fin 14), (↑o : ℕ) ≠ mgmtPort :=
  ⟨12, by decide +kernel⟩

theorem witness_link_heartbeats_and_hello_D36 : ∃ (m : Msg) (vmax : Byte) (vmin : Byte) (s : State), s.fw.up = true ∧ beyondLimit s m = false ∧ ((↑m.owner : ℕ) = 0 ∨ (↑m.owner : ℕ) = mgmtPort ∨ ∃ p, m.plot = some p ∧ (↑p : ℕ) + 1 = (↑m.owner : ℕ)) ∧ m.length = 40 ∧ m.version = 1 ∧ BitVec.toNat vmin ≤ min (BitVec.toNat vmax) 3 ∧ 1 ≤ BitVec.toNat vmax ∧ s.stg.cmds = [] :=
  ⟨msg 1 (some 0) 40 |> (fun m => { m with version := 1 }), 255, 3, upAt [(.hifLink, 0x80000000), (.hifHstat 1, 0x80000000)], by decide +kernel, by decide +kernel, by decide +kernel, by decide +kernel, by decide +kernel, by decide +kernel, by decide +kernel, by decide +kernel⟩

theorem witness_link_heartbeats_and_hello_D36b : ∃ (m : Msg) (vmax : Byte) (vmin : Byte) (s : State), s.fw.up = true ∧ beyondLimit s m = false ∧ ((↑m.owner : ℕ) = 0 ∨ (↑m.owner : ℕ) = mgmtPort ∨ ∃ p, m.plot = some p ∧ (↑p : ℕ) + 1 = (↑m.owner : ℕ)) ∧ m.length = 40 ∧ m.version = 1 ∧ BitVec.toNat vmin ≤ min (BitVec.toNat vmax) 3 ∧ 1 ≤ BitVec.toNat vmax ∧ s.stg.cmds = [] :=
  ⟨msg 13 (some 0) 40 |> (fun m => { m with version := 1 }), 1, 1, upAt, by decide +kernel, by decide +kernel, by decide +kernel, by decide +kernel, by decide +kernel, by decide +kernel, by decide +kernel, by decide +kernel⟩

theorem witness_link_heartbeats_and_hello_D38 : ∃ (f : Fin 13) (d : Fin 5) (s : State), ((↑f : ℕ) = 0 ∨ (↑d : ℕ) = 0 ∨ (↑d : ℕ) = 3) ∧ (fnState s (↑f : ℕ)).dstate ≠ 4 :=
  ⟨0, 1, State.reset, by decide +kernel, by decide +kernel⟩

theorem witness_link_heartbeats_and_hello_D38b : ∃ (f : Fin 13) (d : Fin 5) (s : State), ((↑f : ℕ) = 0 ∨ (↑d : ℕ) = 0 ∨ (↑d : ℕ) = 3) ∧ (fnState s (↑f : ℕ)).dstate ≠ 4 :=
  ⟨12, 3, State.reset, by decide +kernel, by decide +kernel⟩

theorem witness_link_heartbeats_and_hello_D39 : ∃ (f : Fin 13) (d : Fin 5) (s : State), (↑f : ℕ) ≠ 0 ∧ (↑d : ℕ) ≠ 0 ∧ (↑d : ℕ) ≠ 3 ∨ (fnState s (↑f : ℕ)).dstate = 4 :=
  ⟨12, 4, State.reset, by decide +kernel⟩

/-! ### TranslationsAndHostReads: states and operands that meet its hypotheses -/

theorem witness_translations_and_host_reads_D40 : ∃ (f : Fin 13) (s : State), fnLost s (↑f : ℕ) = true ∨ s.host.reads = [] :=
  ⟨3, onHost (fun h => { h with atc := [⟨3, 17, 1, 0, false, 0⟩, ⟨3, 20, 1, 0, false, 0⟩] }), by decide +kernel⟩

theorem witness_translations_and_host_reads_D41 : ∃ (f : Fin 13) (tag : ℕ) (v : Invalidation) (s : State), List.find? (fun v ↦ v.fn == (↑f : ℕ) && v.tag == tag) s.host.invalidations = some v :=
  ⟨3, 9, ⟨3, 9, 1, 1⟩, onHost (fun h => { h with invalidations := [⟨3, 9, 1, 1⟩] }), by decide +kernel⟩

theorem witness_translations_and_host_reads_D42 : ∃ (f : Fin 13) (page : ℕ) (s : State), s.host.translating.contains ((↑f : ℕ), page) = true ∧ s.host.atc.length < 4096 ∧ s.host.waiting = [] ∧ s.host.granted = [] ∧ NoFeeds s :=
  ⟨3, 9, onHost (fun h => { h with translating := [(3, 9)] }), by decide +kernel, by decide +kernel, by decide +kernel, by decide +kernel, no_feeds (by decide +kernel)⟩

theorem witness_translations_and_host_reads_D42b : ∃ (f : Fin 13) (page : ℕ) (s : State), s.host.translating.contains ((↑f : ℕ), page) = true ∧ s.host.atc.length < 4096 ∧ s.host.waiting = [] ∧ s.host.granted = [] ∧ NoFeeds s :=
  ⟨3, 9, onHost (fun h => { h with translating := [(3, 9)] }), by decide +kernel, by decide +kernel, by decide +kernel, by decide +kernel, no_feeds (by decide +kernel)⟩

theorem witness_translations_and_host_reads_D43 : ∃ (tag : ℕ) (s : State), List.find? (fun r ↦ r.tag == tag) s.host.reads = none :=
  ⟨3, State.reset, by decide +kernel⟩

theorem witness_translations_and_host_reads_D44 : ∃ (tag : ℕ) (s : State) (r : HostReq) (p : ℕ), (List.find? (fun r ↦ r.tag == tag) s.host.reads = some r) ∧ r.hgen = hgen s r.fn ∧ fnLost s r.fn = false ∧ r.gen = sourceGen s r.source ∧ r.source = HostSource.ring p ∧ ringOn s p = false ∧ NoFeeds s ∧ s.host.invalidations = [] ∧ s.host.waiting = [] :=
  ⟨3, { onHost (fun h => { h with reads := [hostRd 3] }) with rma := { State.reset.rma with ringReads := [0] } }, hostRd 3, 0, by decide +kernel, by decide +kernel, by decide +kernel, by decide +kernel, by decide +kernel, by decide +kernel, no_feeds (by decide +kernel), by decide +kernel, by decide +kernel⟩

theorem witness_translations_and_host_reads_D45 : ∃ (tag : ℕ) (s : State) (r : HostReq), (List.find? (fun r ↦ r.tag == tag) s.host.reads = some r) ∧ (r.hgen ≠ hgen s r.fn ∨ fnLost s r.fn = true) ∧ NoFeeds s ∧ s.host.invalidations = [] ∧ s.host.waiting = [] :=
  ⟨3, onHost (fun h => { h with reads := [hostRd 3] }) (regsAt [(.fwmHgen 1, 1)]), hostRd 3, by decide +kernel, by decide +kernel, no_feeds (by decide +kernel), by decide +kernel, by decide +kernel⟩

/-! ### NovdyRegisterArithmetic: states and operands that meet its hypotheses -/

theorem witness_novdy_register_arithmetic_E1 : ∃ (k : Nvc) (s : State), Executes s k true :=
  ⟨k6, coreRun, by constructor <;> decide +kernel⟩

theorem witness_novdy_register_arithmetic_E1b : ∃ (k : Nvc) (s : State), Executes s k true :=
  ⟨k6, coreRun (fun x => { x with c := true }), by constructor <;> decide +kernel⟩

theorem witness_novdy_register_arithmetic_E1c : ∃ (k : Nvc) (s : State), Executes s k true :=
  ⟨k6, coreRun (fun x => { x with rep := true, rptcnt := 2 }), by constructor <;> decide +kernel⟩

theorem witness_novdy_register_arithmetic_E2 : ∃ (k : Nvc) (s : State), Executes s k true :=
  ⟨k6, coreRun (fun x => { x with c := true, v := true }), by constructor <;> decide +kernel⟩

theorem witness_novdy_register_arithmetic_E2b : ∃ (k : Nvc) (s : State), Executes s k true :=
  ⟨{ k6 with stall := 3, ecc := .corrected }, coreRun, by constructor <;> decide +kernel⟩

/-! ### NovdyImmediates: states and operands that meet its hypotheses -/

theorem witness_novdy_immediates_E3 : ∃ (k : Nvc) (s : State), Executes s k true :=
  ⟨k6, coreRun, by constructor <;> decide +kernel⟩

theorem witness_novdy_immediates_E3b : ∃ (k : Nvc) (s : State), Executes s k true :=
  ⟨k6, coreRun, by constructor <;> decide +kernel⟩

theorem witness_novdy_immediates_E3c : ∃ (k : Nvc) (s : State), Executes s k true :=
  ⟨k6, coreRun, by constructor <;> decide +kernel⟩

/-! ### NovdyLoadsAndStores: states and operands that meet its hypotheses -/

theorem witness_novdy_loads_and_stores_E4_1 : ∃ (k : Nvc) (o : MemM) (a : Word) (post : Option ℕ) (z : CoreState) (s : State), Executes s k true ∧ memAddr (Machine.core s (↑k.core : ℕ)) (↑o.p : ℕ) o.am.toNat o.imm.toNat = MemAddr.at a post ∧ dataFault (fetched s k) (↑k.core : ℕ) k.serving a 4 false = none ∧ postOf (Machine.core (coreLoad (fetched s k) (↑k.core : ℕ) a 4).2 (↑k.core : ℕ)) post = some z :=
  ⟨k6, memm, 0x10000040, some 0, setPreg (Machine.core (coreRun (fun x => { x with ptr := ptr0, dmem := [(0x40, 0x81), (0x41, 0x92)] })) 6) 0 { pa := 0x10000044, pm := 4 }, coreRun (fun x => { x with ptr := ptr0, dmem := [(0x40, 0x81), (0x41, 0x92)] }), by constructor <;> decide +kernel, by decide +kernel, by decide +kernel, by decide +kernel⟩

theorem witness_novdy_loads_and_stores_E4_2 : ∃ (k : Nvc) (o : MemM) (a : Word) (post : Option ℕ) (z : CoreState) (s : State), Executes s k true ∧ memAddr (Machine.core s (↑k.core : ℕ)) (↑o.p : ℕ) o.am.toNat o.imm.toNat = MemAddr.at a post ∧ dataFault (fetched s k) (↑k.core : ℕ) k.serving a 2 false = none ∧ postOf (Machine.core (coreLoad (fetched s k) (↑k.core : ℕ) a 2).2 (↑k.core : ℕ)) post = some z :=
  ⟨k6, memm, 0x10000040, some 0, setPreg (Machine.core (coreRun (fun x => { x with ptr := ptr0, dmem := [(0x40, 0x81), (0x41, 0x92)] })) 6) 0 { pa := 0x10000044, pm := 4 }, coreRun (fun x => { x with ptr := ptr0, dmem := [(0x40, 0x81), (0x41, 0x92)] }), by constructor <;> decide +kernel, by decide +kernel, by decide +kernel, by decide +kernel⟩

theorem witness_novdy_loads_and_stores_E4_3 : ∃ (k : Nvc) (o : MemM) (a : Word) (post : Option ℕ) (z : CoreState) (s : State), Executes s k true ∧ memAddr (Machine.core s (↑k.core : ℕ)) (↑o.p : ℕ) o.am.toNat o.imm.toNat = MemAddr.at a post ∧ dataFault (fetched s k) (↑k.core : ℕ) k.serving a 2 false = none ∧ postOf (Machine.core (coreLoad (fetched s k) (↑k.core : ℕ) a 2).2 (↑k.core : ℕ)) post = some z :=
  ⟨k6, memm, 0x10000040, some 0, setPreg (Machine.core (coreRun (fun x => { x with ptr := ptr0, dmem := [(0x40, 0x81), (0x41, 0x92)] })) 6) 0 { pa := 0x10000044, pm := 4 }, coreRun (fun x => { x with ptr := ptr0, dmem := [(0x40, 0x81), (0x41, 0x92)] }), by constructor <;> decide +kernel, by decide +kernel, by decide +kernel, by decide +kernel⟩

theorem witness_novdy_loads_and_stores_E4_4 : ∃ (k : Nvc) (o : MemM) (a : Word) (post : Option ℕ) (z : CoreState) (s : State), Executes s k true ∧ memAddr (Machine.core s (↑k.core : ℕ)) (↑o.p : ℕ) o.am.toNat o.imm.toNat = MemAddr.at a post ∧ dataFault (fetched s k) (↑k.core : ℕ) k.serving a 1 false = none ∧ postOf (Machine.core (coreLoad (fetched s k) (↑k.core : ℕ) a 1).2 (↑k.core : ℕ)) post = some z :=
  ⟨k6, memm, 0x10000040, some 0, setPreg (Machine.core (coreRun (fun x => { x with ptr := ptr0, dmem := [(0x40, 0x81), (0x41, 0x92)] })) 6) 0 { pa := 0x10000044, pm := 4 }, coreRun (fun x => { x with ptr := ptr0, dmem := [(0x40, 0x81), (0x41, 0x92)] }), by constructor <;> decide +kernel, by decide +kernel, by decide +kernel, by decide +kernel⟩

theorem witness_novdy_loads_and_stores_E4_5 : ∃ (k : Nvc) (o : MemM) (a : Word) (post : Option ℕ) (z : CoreState) (s : State), Executes s k true ∧ memAddr (Machine.core s (↑k.core : ℕ)) (↑o.p : ℕ) o.am.toNat o.imm.toNat = MemAddr.at a post ∧ dataFault (fetched s k) (↑k.core : ℕ) k.serving a 1 false = none ∧ postOf (Machine.core (coreLoad (fetched s k) (↑k.core : ℕ) a 1).2 (↑k.core : ℕ)) post = some z :=
  ⟨k6, memm, 0x10000040, some 0, setPreg (Machine.core (coreRun (fun x => { x with ptr := ptr0, dmem := [(0x40, 0x81), (0x41, 0x92)] })) 6) 0 { pa := 0x10000044, pm := 4 }, coreRun (fun x => { x with ptr := ptr0, dmem := [(0x40, 0x81), (0x41, 0x92)] }), by constructor <;> decide +kernel, by decide +kernel, by decide +kernel, by decide +kernel⟩

theorem witness_novdy_loads_and_stores_E4_6 : ∃ (k : Nvc) (o : MemM) (a : Word) (post : Option ℕ) (z : CoreState) (s : State) (off : ℕ), Executes s k true ∧ memAddr (Machine.core s (↑k.core : ℕ)) (↑o.p : ℕ) o.am.toNat o.imm.toNat = MemAddr.at a post ∧ dataFault (fetched s k) (↑k.core : ℕ) k.serving a 4 true = none ∧ postOf (Machine.core s (↑k.core : ℕ)) post = some z ∧ spaceOf (Machine.core s (↑k.core : ℕ)) (BitVec.toNat a) = Space.dsram off :=
  ⟨k6, memm, 0x10000040, some 0, setPreg (Machine.core (coreRun (fun x => { x with ptr := ptr0, dmem := [(0x40, 0x81), (0x41, 0x92)] })) 6) 0 { pa := 0x10000044, pm := 4 }, coreRun (fun x => { x with ptr := ptr0, dmem := [(0x40, 0x81), (0x41, 0x92)] }), 0x40, by constructor <;> decide +kernel, by decide +kernel, by decide +kernel, by decide +kernel, by decide +kernel⟩

theorem witness_novdy_loads_and_stores_E4_7 : ∃ (k : Nvc) (o : MemM) (a : Word) (post : Option ℕ) (z : CoreState) (s : State) (off : ℕ), Executes s k true ∧ memAddr (Machine.core s (↑k.core : ℕ)) (↑o.p : ℕ) o.am.toNat o.imm.toNat = MemAddr.at a post ∧ dataFault (fetched s k) (↑k.core : ℕ) k.serving a 2 true = none ∧ postOf (Machine.core s (↑k.core : ℕ)) post = some z ∧ spaceOf (Machine.core s (↑k.core : ℕ)) (BitVec.toNat a) = Space.dsram off :=
  ⟨k6, memm, 0x10000040, some 0, setPreg (Machine.core (coreRun (fun x => { x with ptr := ptr0, dmem := [(0x40, 0x81), (0x41, 0x92)] })) 6) 0 { pa := 0x10000044, pm := 4 }, coreRun (fun x => { x with ptr := ptr0, dmem := [(0x40, 0x81), (0x41, 0x92)] }), 0x40, by constructor <;> decide +kernel, by decide +kernel, by decide +kernel, by decide +kernel, by decide +kernel⟩

theorem witness_novdy_loads_and_stores_E4_8 : ∃ (k : Nvc) (o : MemM) (a : Word) (post : Option ℕ) (z : CoreState) (s : State) (off : ℕ), Executes s k true ∧ memAddr (Machine.core s (↑k.core : ℕ)) (↑o.p : ℕ) o.am.toNat o.imm.toNat = MemAddr.at a post ∧ dataFault (fetched s k) (↑k.core : ℕ) k.serving a 1 true = none ∧ postOf (Machine.core s (↑k.core : ℕ)) post = some z ∧ spaceOf (Machine.core s (↑k.core : ℕ)) (BitVec.toNat a) = Space.dsram off :=
  ⟨k6, memm, 0x10000040, some 0, setPreg (Machine.core (coreRun (fun x => { x with ptr := ptr0, dmem := [(0x40, 0x81), (0x41, 0x92)] })) 6) 0 { pa := 0x10000044, pm := 4 }, coreRun (fun x => { x with ptr := ptr0, dmem := [(0x40, 0x81), (0x41, 0x92)] }), 0x40, by constructor <;> decide +kernel, by decide +kernel, by decide +kernel, by decide +kernel, by decide +kernel⟩

theorem witness_novdy_loads_and_stores_E4_b : ∃ (k : Nvc) (o : MemM) (a : Word) (post : Option ℕ) (z : CoreState) (s : State), Executes s k true ∧ memAddr (Machine.core s (↑k.core : ℕ)) (↑o.p : ℕ) o.am.toNat o.imm.toNat = MemAddr.at a post ∧ dataFault (fetched s k) (↑k.core : ℕ) k.serving a 4 false = none ∧ postOf (Machine.core (coreLoad (fetched s k) (↑k.core : ℕ) a 4).2 (↑k.core : ℕ)) post = some z :=
  ⟨k6, (memm 1 0x1FFFC), 0x1000003C, none, Machine.core (coreRun (fun x => { x with ptr := ptr0, dmem := [(0x40, 0x81), (0x41, 0x92)] })) 6, coreRun (fun x => { x with ptr := ptr0, dmem := [(0x40, 0x81), (0x41, 0x92)] }), by constructor <;> decide +kernel, by decide +kernel, by decide +kernel, by decide +kernel⟩

theorem witness_novdy_loads_and_stores_E4_c : ∃ (k : Nvc) (o : MemM) (a : Word) (post : Option ℕ) (z : CoreState) (s : State) (off : ℕ), Executes s k true ∧ memAddr (Machine.core s (↑k.core : ℕ)) (↑o.p : ℕ) o.am.toNat o.imm.toNat = MemAddr.at a post ∧ dataFault (fetched s k) (↑k.core : ℕ) k.serving a 1 true = none ∧ postOf (Machine.core s (↑k.core : ℕ)) post = some z ∧ spaceOf (Machine.core s (↑k.core : ℕ)) (BitVec.toNat a) = Space.dsram off :=
  ⟨k6, (memm 1 0x1FFFC), 0x1000003C, none, Machine.core (coreRun (fun x => { x with ptr := ptr0, dmem := [(0x40, 0x81), (0x41, 0x92)] })) 6, coreRun (fun x => { x with ptr := ptr0, dmem := [(0x40, 0x81), (0x41, 0x92)] }), 0x3C, by constructor <;> decide +kernel, by decide +kernel, by decide +kernel, by decide +kernel, by decide +kernel⟩

/-! ### NovdyPointersAndDataStack: states and operands that meet its hypotheses -/

theorem witness_novdy_pointers_and_data_stack_E5 : ∃ (k : Nvc) (w : Fin 16) (p : Fin 8) (f : BitVec 3) (s : State) (q : Pointer), Executes s k false ∧ setField (preg (Machine.core s (↑k.core : ℕ)) (↑p : ℕ)) f.toNat (wreg (Machine.core s (↑k.core : ℕ)) (↑w : ℕ)) = some q :=
  ⟨k6, 3, 7, 0, coreRun, { pa := 5 }, by constructor <;> decide +kernel, by decide +kernel⟩

theorem witness_novdy_pointers_and_data_stack_E5b : ∃ (k : Nvc) (p : Fin 8) (f : BitVec 3) (s : State) (v : Word), Executes s k false ∧ getField (preg (Machine.core s (↑k.core : ℕ)) (↑p : ℕ)) f.toNat = some v :=
  ⟨k6, 7, 4, coreRun, 0, by constructor <;> decide +kernel, by decide +kernel⟩

theorem witness_novdy_pointers_and_data_stack_E6 : ∃ (k : Nvc) (p : Fin 8) (q : Pointer) (s : State), Executes s k true ∧ postModify (preg (Machine.core s (↑k.core : ℕ)) (↑p : ℕ)) = some q :=
  ⟨k6, 0, { pa := 0x10000044, pm := 4 }, coreRun (fun x => { x with ptr := ptr0 }), by constructor <;> decide +kernel, by decide +kernel⟩

theorem witness_novdy_pointers_and_data_stack_E7 : ∃ (k : Nvc) (pd : Fin 8) (ps : Fin 8) (off : ℕ) (offd : ℕ) (y : CoreState) (z : CoreState) (s : State), Executes s k true ∧ dataFault (fetched s k) (↑k.core : ℕ) k.serving (preg (Machine.core s (↑k.core : ℕ)) (↑ps : ℕ)).pa 4 false = none ∧ dataFault (fetched s k) (↑k.core : ℕ) k.serving (preg (Machine.core s (↑k.core : ℕ)) (↑pd : ℕ)).pa 4 true = none ∧ spaceOf (Machine.core s (↑k.core : ℕ)) (BitVec.toNat (preg (Machine.core s (↑k.core : ℕ)) (↑ps : ℕ)).pa) = Space.dsram off ∧ spaceOf (Machine.core s (↑k.core : ℕ)) (BitVec.toNat (preg (Machine.core s (↑k.core : ℕ)) (↑pd : ℕ)).pa) = Space.dsram offd ∧ postOf (Machine.core s (↑k.core : ℕ)) (some (↑ps : ℕ)) = some y ∧ postOf y (some (↑pd : ℕ)) = some z :=
  ⟨k6, 0, 1, 0x100, 0x40, (setPreg (Machine.core (coreRun (fun x => { x with ptr := ptr0, dmem := [(0x100, 9)] })) 6) 1 { pa := 0x10000108, pm := 8 }), (setPreg (setPreg (Machine.core (coreRun (fun x => { x with ptr := ptr0, dmem := [(0x100, 9)] })) 6) 1 { pa := 0x10000108, pm := 8 }) 0 { pa := 0x10000044, pm := 4 }), coreRun (fun x => { x with ptr := ptr0, dmem := [(0x100, 9)] }), by constructor <;> decide +kernel, by decide +kernel, by decide +kernel, by decide +kernel, by decide +kernel, by decide +kernel, by decide +kernel⟩

theorem witness_novdy_pointers_and_data_stack_E8 : ∃ (k : Nvc) (off : ℕ) (s : State), Executes s k false ∧ BitVec.toNat (Machine.core s (↑k.core : ℕ)).dslim + 4 ≤ BitVec.toNat (Machine.core s (↑k.core : ℕ)).dsp ∧ dataFault (fetched s k) (↑k.core : ℕ) k.serving ((Machine.core s (↑k.core : ℕ)).dsp - 4) 4 true = none ∧ spaceOf (Machine.core s (↑k.core : ℕ)) (BitVec.toNat ((Machine.core s (↑k.core : ℕ)).dsp - 4)) = Space.dsram off :=
  ⟨k6, 0x3C, coreRun (fun x => { x with dsp := 0x10000040, dslim := 0x1000003C, dstop := 0x10000100 }), by constructor <;> decide +kernel, by decide +kernel, by decide +kernel, by decide +kernel⟩

theorem witness_novdy_pointers_and_data_stack_E9 : ∃ (k : Nvc) (off : ℕ) (s : State), Executes s k false ∧ BitVec.toNat (Machine.core s (↑k.core : ℕ)).dsp + 4 ≤ BitVec.toNat (Machine.core s (↑k.core : ℕ)).dstop ∧ dataFault (fetched s k) (↑k.core : ℕ) k.serving (Machine.core s (↑k.core : ℕ)).dsp 4 false = none ∧ spaceOf (Machine.core s (↑k.core : ℕ)) (BitVec.toNat (Machine.core s (↑k.core : ℕ)).dsp) = Space.dsram off :=
  ⟨k6, 0x40, coreRun (fun x => { x with dsp := 0x10000040, dslim := 0x1000003C, dstop := 0x10000044, dmem := [(0x40, 7)] }), by constructor <;> decide +kernel, by decide +kernel, by decide +kernel, by decide +kernel⟩

theorem witness_novdy_pointers_and_data_stack_E10 : ∃ (k : Nvc) (mask : BitVec 16) (s : State), Executes s k false ∧ BitVec.toNat (Machine.core s (↑k.core : ℕ)).dslim + 4 * (maskRegs mask).length ≤ BitVec.toNat (Machine.core s (↑k.core : ℕ)).dsp ∧ (∀ (i : ℕ), 4 * i < 4 * (maskRegs mask).length → dataFault (fetched s k) (↑k.core : ℕ) k.serving (BitVec.ofNat 32 (BitVec.toNat (Machine.core s (↑k.core : ℕ)).dsp - 4 * (maskRegs mask).length + 4 * i)) 4 true = none) :=
  ⟨k6, 0x8006, coreRun (fun x => { x with dsp := 0x10000040, dslim := 0x10000034, dstop := 0x1000004C }), by constructor <;> decide +kernel, by decide +kernel, (by intro i h; rw [show (maskRegs 0x8006).length = 3 from by decide +kernel] at h; rcases (show i = 0 ∨ i = 1 ∨ i = 2 by omega) with rfl | rfl | rfl <;> decide +kernel)⟩

theorem witness_novdy_pointers_and_data_stack_E11 : ∃ (k : Nvc) (mask : BitVec 16) (s : State), Executes s k false ∧ BitVec.toNat (Machine.core s (↑k.core : ℕ)).dsp + 4 * (maskRegs mask).length ≤ BitVec.toNat (Machine.core s (↑k.core : ℕ)).dstop ∧ (∀ (i : ℕ), 4 * i < 4 * (maskRegs mask).length → dataFault (fetched s k) (↑k.core : ℕ) k.serving ((Machine.core s (↑k.core : ℕ)).dsp + BitVec.ofNat 32 (4 * i)) 4 false = none) :=
  ⟨k6, 0x8006, coreRun (fun x => { x with dsp := 0x10000040, dslim := 0x10000034, dstop := 0x1000004C }), by constructor <;> decide +kernel, by decide +kernel, (by intro i h; rw [show (maskRegs 0x8006).length = 3 from by decide +kernel] at h; rcases (show i = 0 ∨ i = 1 ∨ i = 2 by omega) with rfl | rfl | rfl <;> decide +kernel)⟩

/-! ### NovdyControlTransfer: states and operands that meet its hypotheses -/

theorem witness_novdy_control_transfer_E12 : ∃ (k : Nvc) (condV : BitVec 4) (s : State), Executes s k false ∧ condHolds (Machine.core s (↑k.core : ℕ)) condV.toNat = some true :=
  ⟨k6, 0, coreRun (fun x => { x with z := true }), by constructor <;> decide +kernel, by decide +kernel⟩

theorem witness_novdy_control_transfer_E12b : ∃ (k : Nvc) (condV : BitVec 4) (s : State), Executes s k false ∧ condHolds (Machine.core s (↑k.core : ℕ)) condV.toNat = some true :=
  ⟨k6, 1, coreRun (fun x => { x with z := false }), by constructor <;> decide +kernel, by decide +kernel⟩

theorem witness_novdy_control_transfer_E12c : ∃ (k : Nvc) (condV : BitVec 4) (s : State), Executes s k false ∧ condHolds (Machine.core s (↑k.core : ℕ)) condV.toNat = some false :=
  ⟨k6, 0, coreRun (fun x => { x with z := false, n := true }), by constructor <;> decide +kernel, by decide +kernel⟩

theorem witness_novdy_control_transfer_E13 : ∃ (k : Nvc) (s : State), Executes s k false :=
  ⟨k6, coreRun, by constructor <;> decide +kernel⟩

theorem witness_novdy_control_transfer_E14 : ∃ (k : Nvc) (s : State), Executes s k false ∧ roomOnStack (Machine.core s (↑k.core : ℕ)) = true :=
  ⟨k6, coreRun, by constructor <;> decide +kernel, by decide +kernel⟩

theorem witness_novdy_control_transfer_E15 : ∃ (k : Nvc) (w : Fin 16) (s : State), Executes s k false ∧ aligned (wreg (Machine.core s (↑k.core : ℕ)) (↑w : ℕ)) 4 = true :=
  ⟨k6, 4, coreRun, by constructor <;> decide +kernel, by decide +kernel⟩

theorem witness_novdy_control_transfer_E15b : ∃ (k : Nvc) (w : Fin 16) (s : State), Executes s k false ∧ aligned (wreg (Machine.core s (↑k.core : ℕ)) (↑w : ℕ)) 4 = true ∧ roomOnStack (Machine.core s (↑k.core : ℕ)) = true :=
  ⟨k6, 4, coreRun, by constructor <;> decide +kernel, by decide +kernel, by decide +kernel⟩

theorem witness_novdy_control_transfer_E16 : ∃ (k : Nvc) (e : RsEntry) (rest : List RsEntry) (s : State), Executes s k false ∧ (Machine.core s (↑k.core : ℕ)).rs = e :: rest ∧ e.handler = false :=
  ⟨k6, entry false, [], coreRun (fun x => { x with rs := [entry false] }), by constructor <;> decide +kernel, by decide +kernel, by decide +kernel⟩

theorem witness_novdy_control_transfer_E16b : ∃ (k : Nvc) (e : RsEntry) (rest : List RsEntry) (s : State), Executes s k false ∧ (Machine.core s (↑k.core : ℕ)).rs = e :: rest ∧ e.handler = true :=
  ⟨k6, entry true, [], coreRun (fun x => { x with rs := [entry true], handlers := [4] }), by constructor <;> decide +kernel, by decide +kernel, by decide +kernel⟩

theorem witness_novdy_control_transfer_E17 : ∃ (k : Nvc) (src : Bool) (countV : BitVec 16) (s : State), Executes s k false ∧ (src = true → countV = 0) :=
  ⟨k6, false, 0, coreRun, by constructor <;> decide +kernel, by decide +kernel⟩

theorem witness_novdy_control_transfer_E17b : ∃ (k : Nvc) (src : Bool) (countV : BitVec 16) (s : State), Executes s k false ∧ (src = true → countV = 0) :=
  ⟨k6, true, 0, coreRun, by constructor <;> decide +kernel, by decide +kernel⟩

/-! ### NovdyControlRegistersAndCustom: states and operands that meet its hypotheses -/

theorem witness_novdy_control_registers_and_custom_E18 : ∃ (k : Nvc) (index : BitVec 6) (v : Word) (s : State), Executes s k false ∧ readControl (↑k.core : ℕ) (Machine.core s (↑k.core : ℕ)) index.toNat = some v :=
  ⟨k6, 15, 0, coreRun (fun x => { x with cyc := 0x700000000 }), by constructor <;> decide +kernel, by decide +kernel⟩

theorem witness_novdy_control_registers_and_custom_E19 : ∃ (k : Nvc) (w : Fin 16) (index : BitVec 6) (z : CoreState) (s : State), Executes s k false ∧ writeControl (Machine.core s (↑k.core : ℕ)) index.toNat (wreg (Machine.core s (↑k.core : ℕ)) (↑w : ℕ)) = some z :=
  ⟨k6, 4, 1, { Machine.core coreRun 6 with dsp := 0x300 }, coreRun, by constructor <;> decide +kernel, by decide +kernel⟩

theorem witness_novdy_control_registers_and_custom_E20 : ∃ (k : Nvc) (w : Fin 16) (s : State), Executes s k false ∧ BitVec.toNat (wreg (Machine.core s (↑k.core : ℕ)) (↑w : ℕ)) = 42435 :=
  ⟨k6, 1, coreRun (fun x => { x with w := [(1, 0xA5C3)], wdogHalf := true, pend := 0x200 }), by constructor <;> decide +kernel, by decide +kernel⟩

theorem witness_novdy_control_registers_and_custom_E21 : ∃ (k : Nvc) (s : State), Executes s k false ∧ roomOnStack (Machine.core s (↑k.core : ℕ)) = true :=
  ⟨k6, coreRun, by constructor <;> decide +kernel, by decide +kernel⟩

theorem witness_novdy_control_registers_and_custom_E21b : ∃ (k : Nvc) (s : State), Executes s k false ∧ roomOnStack (Machine.core s (↑k.core : ℕ)) = true :=
  ⟨k6, coreRun, by constructor <;> decide +kernel, by decide +kernel⟩

theorem witness_novdy_control_registers_and_custom_E22 : ∃ (k : Nvc) (s : State), Executes s k false :=
  ⟨k6, coreRun, by constructor <;> decide +kernel⟩

theorem witness_novdy_control_registers_and_custom_E23 : ∃ (k : Nvc) (s : State), Executes s k true :=
  ⟨k6, coreRun, by constructor <;> decide +kernel⟩

theorem witness_novdy_control_registers_and_custom_E24 : ∃ (k : Nvc) (index : Fin 16) (s : State), Executes s k (bit (mapGet 0 (Machine.core s (↑k.core : ℕ)).decode (↑index : ℕ)) 30) ∧ bit (mapGet 0 (Machine.core s (↑k.core : ℕ)).decode (↑index : ℕ)) 31 = false ∧ roomOnStack (Machine.core s (↑k.core : ℕ)) = true :=
  ⟨k6, 0, coreRun, by constructor <;> decide +kernel, by decide +kernel, by decide +kernel⟩

/-! ### NovdyTrapsAndInterrupts: states and operands that meet its hypotheses -/

theorem witness_novdy_traps_and_interrupts_E25 : ∃ (k : Nvc) (s : State), Executes s k false ∧ roomOnStack (Machine.core s (↑k.core : ℕ)) = true :=
  ⟨k6, coreRun, by constructor <;> decide +kernel, by decide +kernel⟩

theorem witness_novdy_traps_and_interrupts_E26 : ∃ (k : Nvc) (e : RsEntry) (off : ℕ) (s : State), Executes s k false ∧ (Machine.core s (↑k.core : ℕ)).rs.getLast? = some e ∧ (Machine.core s (↑k.core : ℕ)).rsspill < (Machine.core s (↑k.core : ℕ)).rslen ∧ spillFault (fetched s k) (↑k.core : ℕ) k.serving ((Machine.core s (↑k.core : ℕ)).rsbase + BitVec.ofNat 32 (8 * (Machine.core s (↑k.core : ℕ)).rsspill)) true = none ∧ spaceOf (Machine.core s (↑k.core : ℕ)) (BitVec.toNat ((Machine.core s (↑k.core : ℕ)).rsbase + BitVec.ofNat 32 (8 * (Machine.core s (↑k.core : ℕ)).rsspill))) = Space.dsram off ∧ spaceOf (Machine.core s (↑k.core : ℕ)) (BitVec.toNat ((Machine.core s (↑k.core : ℕ)).rsbase + BitVec.ofNat 32 (8 * (Machine.core s (↑k.core : ℕ)).rsspill) + 4)) = Space.dsram (off + 4) :=
  ⟨k6, entry true, 0x80, coreRun (fun x => { x with rs := [entry false, entry true], rsbase := 0x10000080, rslen := 1 }), by constructor <;> decide +kernel, by decide +kernel, by decide +kernel, by decide +kernel, by decide +kernel, by decide +kernel⟩

theorem witness_novdy_traps_and_interrupts_E27 : ∃ (k : Nvc) (off : ℕ) (s : State), Executes s k false ∧ (Machine.core s (↑k.core : ℕ)).rsspill ≠ 0 ∧ rscnt (Machine.core s (↑k.core : ℕ)) < 32 ∧ spillFault (fetched s k) (↑k.core : ℕ) k.serving ((Machine.core s (↑k.core : ℕ)).rsbase + BitVec.ofNat 32 (8 * ((Machine.core s (↑k.core : ℕ)).rsspill - 1))) false = none ∧ spaceOf (Machine.core s (↑k.core : ℕ)) (BitVec.toNat ((Machine.core s (↑k.core : ℕ)).rsbase + BitVec.ofNat 32 (8 * ((Machine.core s (↑k.core : ℕ)).rsspill - 1)))) = Space.dsram off ∧ spaceOf (Machine.core s (↑k.core : ℕ)) (BitVec.toNat ((Machine.core s (↑k.core : ℕ)).rsbase + BitVec.ofNat 32 (8 * ((Machine.core s (↑k.core : ℕ)).rsspill - 1)) + 4)) = Space.dsram (off + 4) :=
  ⟨k6, 0x80, coreRun (fun x => { x with rsbase := 0x10000080, rslen := 1, rsspill := 1, dmem := [(0x80, 5), (0x87, 2)] }), by constructor <;> decide +kernel, by decide +kernel, by decide +kernel, by decide +kernel, by decide +kernel, by decide +kernel⟩

theorem witness_novdy_traps_and_interrupts_E28 : ∃ (c : Fin 24) (v : ℕ) (s : State), nvState s (↑c : ℕ) = nvRun ∧ eligible (Machine.core s (↑c : ℕ)) = some v ∧ ((Machine.core s (↑c : ℕ)).rep = false ∨ (Machine.core s (↑c : ℕ)).repi = true) ∧ roomOnStack (Machine.core s (↑c : ℕ)) = true :=
  ⟨6, 10, coreRun (fun x => { x with ie := true, pend := 0xC00, imask := 0xC00 }), by decide +kernel, by decide +kernel, by decide +kernel, by decide +kernel⟩

theorem witness_novdy_traps_and_interrupts_E28b : ∃ (c : Fin 24) (v : ℕ) (s : State), nvState s (↑c : ℕ) = nvRun ∧ eligible (Machine.core s (↑c : ℕ)) = some v ∧ ((Machine.core s (↑c : ℕ)).rep = false ∨ (Machine.core s (↑c : ℕ)).repi = true) ∧ roomOnStack (Machine.core s (↑c : ℕ)) = true :=
  ⟨6, 9, coreRun (fun x => { x with ie := true, pend := 0x200, imask := 0x200, lvl := 10 }), by decide +kernel, by decide +kernel, by decide +kernel, by decide +kernel⟩

theorem witness_novdy_traps_and_interrupts_E29 : ∃ (c : Fin 24) (s : State), nvState s (↑c : ℕ) = nvRun ∨ nvState s (↑c : ℕ) = nvWfi :=
  ⟨6, coreRun, by decide +kernel⟩

/-! ### NovdyReservedFields: states and operands that meet its hypotheses -/

theorem witness_novdy_reserved_fields_E30 : ∃ (i : Instr) (k : Nvc) (s : State), coreInstr i = some k ∧ k.reserved = true ∧ nvState s (↑k.core : ℕ) = nvRun ∧ BitVec.toNat (Machine.core s (↑k.core : ℕ)).pc < 65536 ∧ mpuGrants (Machine.core s (↑k.core : ℕ)) (BitVec.toNat (Machine.core s (↑k.core : ℕ)).pc) 4 2 = true ∧ k.ecc ≠ Ecc.uncorrectable ∧ roomOnStack (Machine.core s (↑k.core : ℕ)) = true :=
  ⟨.trap { k6 with reserved := true } 3, { k6 with reserved := true }, coreRun, by decide +kernel, by decide +kernel, by decide +kernel, by decide +kernel, by decide +kernel, by decide +kernel, by decide +kernel⟩

theorem witness_novdy_reserved_fields_E30b : ∃ (i : Instr) (k : Nvc) (s : State), coreInstr i = some k ∧ k.reserved = true ∧ nvState s (↑k.core : ℕ) = nvRun ∧ BitVec.toNat (Machine.core s (↑k.core : ℕ)).pc < 65536 ∧ mpuGrants (Machine.core s (↑k.core : ℕ)) (BitVec.toNat (Machine.core s (↑k.core : ℕ)).pc) 4 2 = true ∧ k.ecc ≠ Ecc.uncorrectable ∧ roomOnStack (Machine.core s (↑k.core : ℕ)) = true :=
  ⟨.add { k6 with reserved := true, ecc := .corrected } alu, { k6 with reserved := true, ecc := .corrected }, coreRun, by decide +kernel, by decide +kernel, by decide +kernel, by decide +kernel, by decide +kernel, by decide +kernel, by decide +kernel⟩

/-! ### ReturnStackFaults: states and operands that meet its hypotheses -/

theorem witness_return_stack_faults_E31 : ∃ (i : Instr) (k : Nvc) (s : State), Executes s k false ∧ rscnt (Machine.core s (↑k.core : ℕ)) = 32 ∧ ((∃ off, i = Instr.call k off) ∨ (∃ w, i = Instr.callr k w ∧ aligned (wreg (Machine.core s (↑k.core : ℕ)) (↑w : ℕ)) 4 = true) ∨ (∃ code, i = Instr.trap k code) ∨ (i = Instr.ret k ∧ ∃ e rest, (Machine.core s (↑k.core : ℕ)).rs = e :: rest ∧ e.handler = true) ∨ i = Instr.reti k ∧ ∃ e rest, (Machine.core s (↑k.core : ℕ)).rs = e :: rest ∧ e.handler = false) :=
  ⟨.trap k6 3, k6, coreRun (fun x => { x with rs := List.replicate 32 (entry true) }), by constructor <;> decide +kernel, by decide +kernel, Or.inr (Or.inr (Or.inl ⟨_, rfl⟩))⟩

theorem witness_return_stack_faults_E31b : ∃ (i : Instr) (k : Nvc) (s : State), Executes s k false ∧ rscnt (Machine.core s (↑k.core : ℕ)) = 32 ∧ ((∃ off, i = Instr.call k off) ∨ (∃ w, i = Instr.callr k w ∧ aligned (wreg (Machine.core s (↑k.core : ℕ)) (↑w : ℕ)) 4 = true) ∨ (∃ code, i = Instr.trap k code) ∨ (i = Instr.ret k ∧ ∃ e rest, (Machine.core s (↑k.core : ℕ)).rs = e :: rest ∧ e.handler = true) ∨ i = Instr.reti k ∧ ∃ e rest, (Machine.core s (↑k.core : ℕ)).rs = e :: rest ∧ e.handler = false) :=
  ⟨.call k6 3, k6, coreRun (fun x => { x with rs := List.replicate 32 (entry true) }), by constructor <;> decide +kernel, by decide +kernel, Or.inl ⟨_, rfl⟩⟩

theorem witness_return_stack_faults_E32 : ∃ (c : Fin 24) (v : ℕ) (s : State), nvState s (↑c : ℕ) = nvRun ∧ eligible (Machine.core s (↑c : ℕ)) = some v ∧ ((Machine.core s (↑c : ℕ)).rep = false ∨ (Machine.core s (↑c : ℕ)).repi = true) ∧ rscnt (Machine.core s (↑c : ℕ)) = 32 :=
  ⟨6, 10, coreRun (fun x => { x with ie := true, pend := 0xC00, imask := 0xC00, rs := List.replicate 32 (entry true) }), by decide +kernel, by decide +kernel, by decide +kernel, by decide +kernel⟩

theorem witness_return_stack_faults_E32b : ∃ (c : Fin 24) (s : State), rscnt (Machine.core s (↑c : ℕ)) = 32 :=
  ⟨6, coreRun (fun x => { x with rs := List.replicate 32 (entry true) }), by decide +kernel⟩

theorem witness_novdy_traps_and_interrupts_E29f : ∃ (k : Nvc) (s : State), Executes s k false ∧ (Machine.core s (↑k.core : ℕ)).rsspill ≠ 0 ∧ rscnt (Machine.core s (↑k.core : ℕ)) = 32 :=
  ⟨k6, coreRun (fun x => { x with rsspill := 1, rs := List.replicate 32 (entry true) }), by constructor <;> decide +kernel, by decide +kernel, by decide +kernel⟩

theorem witness_return_stack_faults_E33 : ∃ (k : Nvc) (e : RsEntry) (rest : List RsEntry) (s : State), Executes s k false ∧ (Machine.core s (↑k.core : ℕ)).rs = e :: rest ∧ roomOnStack (Machine.core s (↑k.core : ℕ)) = true ∧ e.handler = true :=
  ⟨k6, entry true, [], coreRun (fun x => { x with rs := [entry true] }), by constructor <;> decide +kernel, by decide +kernel, by decide +kernel, by decide +kernel⟩

theorem witness_return_stack_faults_E33b : ∃ (k : Nvc) (e : RsEntry) (rest : List RsEntry) (s : State), Executes s k false ∧ (Machine.core s (↑k.core : ℕ)).rs = e :: rest ∧ roomOnStack (Machine.core s (↑k.core : ℕ)) = true ∧ e.handler = false :=
  ⟨k6, entry false, [], coreRun (fun x => { x with rs := [entry false] }), by constructor <;> decide +kernel, by decide +kernel, by decide +kernel, by decide +kernel⟩

theorem witness_return_stack_faults_E34 : ∃ (k : Nvc) (e : RsEntry) (rest : List RsEntry) (s : State), Executes s k false ∧ (Machine.core s (↑k.core : ℕ)).rs = e :: rest ∧ rscnt (Machine.core s (↑k.core : ℕ)) < 32 ∧ e.handler = true :=
  ⟨k6, entry true, List.replicate 30 (entry true), coreRun (fun x => { x with rs := List.replicate 31 (entry true) }), by constructor <;> decide +kernel, by decide +kernel, by decide +kernel, by decide +kernel⟩

/-! ### WaitForInterrupt: states and operands that meet its hypotheses -/

theorem witness_wait_for_interrupt_E35 : ∃ (k : Nvc) (s : State), Executes s k false :=
  ⟨k6, coreRun, by constructor <;> decide +kernel⟩

theorem witness_wait_for_interrupt_E35b : ∃ (k : Nvc) (s : State), Executes s k false :=
  ⟨k6, coreRun (fun x => { x with pend := 0x200, imask := 0x200 }), by constructor <;> decide +kernel⟩

theorem witness_wait_for_interrupt_E36 : ∃ (i : Instr) (k : Nvc) (s : State), coreInstr i = some k ∧ nvState s (↑k.core : ℕ) = nvWfi :=
  ⟨.trap k6 3, k6, coreRun id [(.nvcStatus 6, 0x60000000)], by decide +kernel, by decide +kernel⟩

theorem witness_wait_for_interrupt_E37 : ∃ (c : Fin 24) (s : State), nvState s (↑c : ℕ) = nvWfi :=
  ⟨6, coreRun id [(.nvcStatus 6, 0x60000000)], by decide +kernel⟩

theorem witness_wait_for_interrupt_E37b : ∃ (c : Fin 24) (s : State), nvState s (↑c : ℕ) = nvWfi :=
  ⟨6, coreRun (fun x => { x with pend := 0x200, imask := 0x200 }) [(.nvcStatus 6, 0x60000000)], by decide +kernel⟩

theorem witness_wait_for_interrupt_E37c : ∃ (c : Fin 24) (s : State) (v : ℕ), nvState s (↑c : ℕ) = nvWfi ∧ eligible (Machine.core s (↑c : ℕ)) = some v ∧ (Machine.core s (↑c : ℕ)).rep = false ∧ roomOnStack (Machine.core s (↑c : ℕ)) = true :=
  ⟨6, coreRun (fun x => { x with ie := true, pend := 0x200, imask := 0x200 }) [(.nvcStatus 6, 0x60000000)], 9, by decide +kernel, by decide +kernel, by decide +kernel, by decide +kernel⟩

/-! ### NovdyControlRegistersAndCustom: states and operands that meet its hypotheses -/

theorem witness_novdy_control_registers_and_custom_E24b : ∃ (k : Nvc) (index : Fin 16) (rdV : Fin 16) (ra : Fin 16) (rb : Fin 16) (imm : BitVec 10) (s : State) (u : State), Executes s k (bit (mapGet 0 (Machine.core s (↑k.core : ℕ)).decode (↑index : ℕ)) 30) ∧ bit (mapGet 0 (Machine.core s (↑k.core : ℕ)).decode (↑index : ℕ)) 31 = true ∧ runMicro 64 (fetched s k) (↑k.core : ℕ) k.serving { x := Machine.core s (↑k.core : ℕ), t := [], rd := (↑rdV : ℕ), ra := (↑ra : ℕ), rb := (↑rb : ℕ), imm := imm.toNat, mask := fld (mapGet 0 (Machine.core s (↑k.core : ℕ)).decode (↑index : ℕ)) 29 26 } (fld (mapGet 0 (Machine.core s (↑k.core : ℕ)).decode (↑index : ℕ)) 9 0) 0 = Sum.inl u :=
  ⟨k6, 0, 1, 2, 3, 4, coreMicro, microEnd, by constructor <;> decide +kernel, by decide +kernel, by decide +kernel⟩

/-! ### ReturnStackFaults: states and operands that meet its hypotheses -/

theorem witness_return_stack_faults_E34b : ∃ (k : Nvc) (e : RsEntry) (rest : List RsEntry) (s : State), Executes s k false ∧ (Machine.core s (↑k.core : ℕ)).rs = e :: rest ∧ rscnt (Machine.core s (↑k.core : ℕ)) < 32 ∧ e.handler = false :=
  ⟨k6, entry false, List.replicate 30 (entry false), coreRun (fun x => { x with rs := List.replicate 31 (entry false) }), by constructor <;> decide +kernel, by decide +kernel, by decide +kernel, by decide +kernel⟩

/-! ### MailboxesWatchdogsAndWarden: states and operands that meet its hypotheses -/

theorem witness_mailboxes_watchdogs_and_warden_F1 : ∃ (m : Msg) (s : State), ringFull s (↑m.owner : ℕ) = false :=
  ⟨msg 13, State.reset, by decide +kernel⟩

theorem witness_mailboxes_watchdogs_and_warden_F1b : ∃ (m : Msg) (s : State), ringFull s (↑m.owner : ℕ) = false :=
  ⟨msg 13, upAt, by decide +kernel⟩

theorem witness_mailboxes_watchdogs_and_warden_F1c : ∃ (m : Msg) (s : State), ringFull s (↑m.owner : ℕ) = false :=
  ⟨msg 0, upAt [(.mbxTfpi 0, 0xFFFF), (.mbxTfci 0, 0xFFFF)], by decide +kernel⟩

theorem witness_mailboxes_watchdogs_and_warden_F2 : ∃ (m : Msg) (s : State), ringFull s (↑m.owner : ℕ) = true :=
  ⟨msg 3, regsAt [(.mbxTfpi 3, 16)], by decide +kernel⟩

theorem witness_mailboxes_watchdogs_and_warden_F4 : ∃ (c : Fin 24) (s : State), (nvState s (↑c : ℕ) = nvRun ∨ nvState s (↑c : ℕ) = nvWfi) ∧ (↑c : ℕ) ≠ 0 :=
  ⟨23, coreRun (l := [(.nvcStatus 23, 0x40000000), (.nvcWdog 23, 0xFFFF0000)]), by decide +kernel, by decide +kernel⟩

theorem witness_mailboxes_watchdogs_and_warden_F5 : ∃ (c : Fin 24) (s : State), nvState s (↑c : ℕ) = nvHalted ∧ nvState s 0 ≠ nvHalted ∧ bit (rd s (Reg.fwmState (componentOf (↑c : ℕ)))) 30 = false :=
  ⟨21, onFw (fun w => { w with running := [(4, comp1 4)] }) (regsAt [(.nvcStatus 21, 0x81000000), (.nvcStatus 0, 0x40000000), (.rstStage, 0xE0000000)]), by decide +kernel, by decide +kernel, by decide +kernel⟩

theorem witness_mailboxes_watchdogs_and_warden_F5b : ∃ (c : Fin 24) (s : State), nvState s (↑c : ℕ) = nvHalted ∧ nvState s 0 ≠ nvHalted ∧ bit (rd s (Reg.fwmState (componentOf (↑c : ℕ)))) 30 = false :=
  ⟨6, onFw (fun w => { w with halts := [(4, [0, 0])] }) (regsAt [(.nvcStatus 6, 0x81000000), (.nvcStatus 0, 0x40000000)]), by decide +kernel, by decide +kernel, by decide +kernel⟩

theorem witness_mailboxes_watchdogs_and_warden_F5c : ∃ (c : Fin 24) (s : State), nvState s (↑c : ℕ) = nvHalted ∧ nvState s 0 ≠ nvHalted ∧ bit (rd s (Reg.fwmState (componentOf (↑c : ℕ)))) 30 = false :=
  ⟨21, regsAt [(.nvcStatus 21, 0x81000000), (.nvcStatus 0, 0x40000000)], by decide +kernel, by decide +kernel, by decide +kernel⟩

/-! ### ComponentUpdates: states and operands that meet its hypotheses -/

theorem witness_component_updates_F6 : ∃ (m : Msg) (regionV : Fin 32) (off : Word) (len : Word) (bs : List Byte) (k : Component) (s : State), Admitted s m { type := 16, vf := false, feature := some 0 } ∧ 12 ≤ (↑regionV : ℕ) ∧ (↑regionV : ℕ) ≤ 15 ∧ lpxRead (takeRequest s m 16) (Requester.component 3 (some regionV)) (regionBase (takeRequest s m 16) (↑regionV : ℕ) + BitVec.toNat off) (BitVec.toNat len) = some bs ∧ parseComponent bs = some k ∧ k.comp = 2 :=
  ⟨msg 0, 12, 0, 256, header 2, ((parseComponent (header 2)).getD (comp1 0)), withImage 2, by unfold Admitted; decide +kernel, by decide +kernel, by decide +kernel, by decide +kernel, by decide +kernel, by decide +kernel⟩

theorem witness_component_updates_F6b : ∃ (m : Msg) (k : Component) (s : State), Admitted s m { type := 17, vf := false, feature := some 0 } ∧ s.fw.update = none ∧ s.fw.staged = some k ∧ frameCount (digestedBytes s.fw.staging) ≤ 16384 :=
  ⟨msg 0, comp1 4, onFw (fun w => { w with staged := some (comp1 4) }) upAt, by unfold Admitted; decide +kernel, by decide +kernel, by decide +kernel, by decide +kernel⟩

theorem witness_component_updates_F6c : ∃ (m : Msg) (s : State), Admitted s m { type := 17, vf := false, feature := some 0 } ∧ s.fw.update ≠ none :=
  ⟨msg 0, updating 4 [6] 2 upAt, by unfold Admitted; decide +kernel, by decide +kernel⟩

theorem witness_component_updates_F7 : ∃ (m : Msg) (s : State), Admitted s m { type := 18, vf := false } :=
  ⟨msg 13, upAt, by unfold Admitted; decide +kernel⟩

theorem witness_component_updates_F8 : ∃ (u : Update) (s : State) (receiver : ℕ) (f : BcastFrame), s.fw.update = some u ∧ f.index < s.fw.frameCount ∧ rdFld s Reg.fwmUpd 31 28 = 2 ∧ u.left.contains receiver = true :=
  ⟨upd 4 [6, 7], updating 4 [6, 7] 2, 6, ⟨0, [9]⟩, by decide +kernel, by decide +kernel, by decide +kernel, by decide +kernel⟩

theorem witness_component_updates_F8b : ∃ (u : Update) (s : State), s.fw.update = some u ∧ rdFld s Reg.fwmUpd 31 28 = 2 :=
  ⟨upd 4 [6, 7], updating 4 [6, 7] 2, by decide +kernel, by decide +kernel⟩

theorem witness_component_updates_F8c : ∃ (u : Update) (s : State), s.fw.update = some u ∧ rdFld s Reg.fwmUpd 31 28 = 2 :=
  ⟨upd 4 [6, 7], updating 4 [6, 7] 2, by decide +kernel, by decide +kernel⟩

theorem witness_component_updates_F8d : ∃ (u : Update) (s : State) (receiver : ℕ) (rest : List ℕ), s.fw.update = some u ∧ 3 ≤ rdFld s Reg.fwmUpd 31 28 ∧ u.comp.comp = 4 ∧ receiver < 24 ∧ quiescent s u receiver = true ∧ u.left = receiver :: rest ∧ receiver ∉ rest ∧ rest ≠ [] :=
  ⟨upd 4 [6, 7], updating 4 [6, 7] 3, 6, [7], by decide +kernel, by decide +kernel, by decide +kernel, by decide +kernel, by decide +kernel, by decide +kernel, by decide +kernel, by decide +kernel⟩

theorem witness_component_updates_F8e : ∃ (u : Update) (s : State) (receiver : ℕ), s.fw.update = some u ∧ 3 ≤ rdFld s Reg.fwmUpd 31 28 ∧ u.comp.comp = 4 ∧ receiver < 24 ∧ quiescent s u receiver = true ∧ u.left = [receiver] :=
  ⟨upd 4 [21], updating 4 [21] 3, 21, by decide +kernel, by decide +kernel, by decide +kernel, by decide +kernel, by decide +kernel, by decide +kernel⟩

theorem witness_component_updates_F8f : ∃ (u : Update) (s : State) (receiver : ℕ), s.fw.update = some u ∧ 3 ≤ rdFld s Reg.fwmUpd 31 28 ∧ u.left.contains receiver = true :=
  ⟨upd 4 [21], updating 4 [21] 3, 21, by decide +kernel, by decide +kernel, by decide +kernel⟩

/-! ### ImageDistribution: states and operands that meet its hypotheses -/

theorem witness_image_distribution_F9 : ∃ (m : Msg) (digest : BitVec 256) (regionV : Fin 32) (off : Word) (size : Word) (s : State), Admitted s m { type := 24, vf := false, feature := some 2 } ∧ (List.find? (fun e ↦ e.2.digest == leBytes 32 digest.toNat && e.2.complete) s.fw.sessions = none) ∧ 16 ≤ (↑regionV : ℕ) ∧ regionOpen s (↑regionV : ℕ) = true ∧ BitVec.toNat size ≤ s.fw.free ∧ BitVec.toNat off + BitVec.toNat size ≤ regionSize s (↑regionV : ℕ) :=
  ⟨msg 0, 5, 16, 0, 0x100000, upAt (s := region 16 1), by unfold Admitted; decide +kernel, by decide +kernel, by decide +kernel, by decide +kernel, by decide +kernel, by decide +kernel⟩

theorem witness_image_distribution_F9b : ∃ (m : Msg) (digest : BitVec 256) (regionV : Fin 32) (size : Word) (s : State), Admitted s m { type := 24, vf := false, feature := some 2 } ∧ (List.find? (fun e ↦ e.2.digest == leBytes 32 digest.toNat && e.2.complete) s.fw.sessions = none) ∧ 16 ≤ (↑regionV : ℕ) ∧ regionOpen s (↑regionV : ℕ) = true ∧ s.fw.free < BitVec.toNat size :=
  ⟨msg 0, 5, 16, 0x100000, onFw (fun w => { w with free := 0xFFFFF }) (upAt (s := region 16 1)), by unfold Admitted; decide +kernel, by decide +kernel, by decide +kernel, by decide +kernel, by decide +kernel⟩

theorem witness_image_distribution_F10 : ∃ (m : Msg) (regionV : Fin 32) (off : Word) (len : Word) (rate : ℕ) (queue : Fin 8192) (img : List Byte) (s : State), Admitted s m { type := 25, vf := false, feature := some 2 } ∧ lpxRead (takeRequest s m 25) (Requester.component 3 (some regionV)) (regionBase (takeRequest s m 25) (↑regionV : ℕ) + BitVec.toNat off) (BitVec.toNat len) = some img ∧ 1 ≤ rate ∧ rate ≤ 100 ∧ 12 ≤ (↑regionV : ℕ) ∧ (↑regionV : ℕ) ≤ 15 ∧ queueOwner s (↑queue : ℕ) = 12 :=
  ⟨msg 0, 15, 0, 16, 100, 8191, List.replicate 16 3, inMemory (List.replicate 16 3) (upAt (s := region 15 0)), by unfold Admitted; decide +kernel, by decide +kernel, by decide +kernel, by decide +kernel, by decide +kernel, by decide +kernel, by decide +kernel⟩

theorem witness_image_distribution_F11 : ∃ (m : Msg) (i : Fin 64) (d : DistSession) (s : State), sess s (↑i : ℕ) = some d ∧ Admitted s m { type := 26, vf := false, feature := some 2 } :=
  ⟨msg 0, 5, session true, inSession (session true) upAt, by decide +kernel, by unfold Admitted; decide +kernel⟩

theorem witness_image_distribution_F11b : ∃ (m : Msg) (i : Fin 64) (d : DistSession) (s : State), sess s (↑i : ℕ) = some d ∧ Admitted s m { type := 27, vf := false, feature := some 2 } :=
  ⟨msg 0, 5, session true, inSession (session true) upAt, by decide +kernel, by unfold Admitted; decide +kernel⟩

theorem witness_image_distribution_F12 : ∃ (i : Fin 64) (d : DistSession) (s : State) (bs : List Byte), sess s (↑i : ℕ) = some d ∧ d.receiving = false ∧ mapFind d.held d.next = some bs :=
  ⟨5, { session false with held := [(0, [1])] }, inSession { session false with held := [(0, [1])] }, [1], by decide +kernel, by decide +kernel, by decide +kernel⟩

theorem witness_image_distribution_F12b : ∃ (i : Fin 64) (d : DistSession) (s : State), sess s (↑i : ℕ) = some d ∧ d.receiving = false ∧ mapFind d.held d.next = none ∧ d.ends < 3 :=
  ⟨5, session false, inSession (session false), by decide +kernel, by decide +kernel, by decide +kernel, by decide +kernel⟩

theorem witness_image_distribution_F12c : ∃ (i : Fin 64) (d : DistSession) (s : State), sess s (↑i : ℕ) = some d ∧ d.receiving = true ∧ d.complete = false ∧ d.failed = false ∧ d.rounds < 8 :=
  ⟨5, session true, inSession (session true), by decide +kernel, by decide +kernel, by decide +kernel, by decide +kernel, by decide +kernel⟩

theorem witness_image_distribution_F12d : ∃ (i : Fin 64) (d : DistSession) (s : State), sess s (↑i : ℕ) = some d ∧ d.receiving = true ∧ d.complete = false ∧ d.failed = false ∧ 8 ≤ d.rounds :=
  ⟨5, { session true with rounds := 8 }, inSession { session true with rounds := 8 }, by decide +kernel, by decide +kernel, by decide +kernel, by decide +kernel, by decide +kernel⟩

theorem witness_image_distribution_F12e : ∃ (i : Fin 64) (d : DistSession) (s : State), sess s (↑i : ℕ) = some d ∧ d.receiving = true :=
  ⟨5, session true, inSession (session true), by decide +kernel, by decide +kernel⟩

theorem witness_image_distribution_F13 : ∃ (digest : BitVec 128) (index : ℕ) (total : ℕ) (data : List Byte) (i : ℕ) (d : DistSession) (s : State), sessionOf s digest = some (i, d) ∧ d.receiving = true ∧ d.complete = false ∧ mapFind d.held index = none ∧ manifestBytes { receiving := d.receiving, digest := d.digest, owner := d.owner, base := d.base, total := total, held := mapInsert d.held index data, manifest := d.manifest, peers := d.peers, barred := d.barred, rounds := d.rounds, holdoff := d.holdoff, complete := d.complete, answering := d.answering, next := d.next, ends := d.ends, rate := d.rate, queue := d.queue, failed := d.failed } = none :=
  ⟨digest7, 4, 30, [1], 5, session true, inSession (session true), by decide +kernel, by decide +kernel, by decide +kernel, by decide +kernel, by decide +kernel⟩

theorem witness_image_distribution_F13b : ∃ (digest : BitVec 128) (i : ℕ) (d : DistSession) (s : State), sessionOf s digest = some (i, d) ∧ d.receiving = true ∧ d.complete = false :=
  ⟨digest7, 5, session true, inSession (session true), by decide +kernel, by decide +kernel, by decide +kernel⟩

theorem witness_image_distribution_F13c : ∃ (digest : BitVec 128) (i : ℕ) (d : DistSession) (s : State), sessionOf s digest = some (i, d) :=
  ⟨digest7, 5, session true, inSession (session true), by decide +kernel⟩

theorem witness_image_distribution_F13d : ∃ (digest : BitVec 128) (index : ℕ) (i : ℕ) (d : DistSession) (s : State) (bs : List Byte), sessionOf s digest = some (i, d) ∧ d.complete = true ∧ 1 ≤ d.total ∧ mapFind d.held index = some bs :=
  ⟨digest7, 0, 5, { session false with held := [(0, [1])], total := 1, queue := 515 }, inSession { session false with held := [(0, [1])], total := 1, queue := 515 } (queued {}), [1], by decide +kernel, by decide +kernel, by decide +kernel, by decide +kernel⟩

theorem witness_image_distribution_F13e : ∃ (digest : BitVec 128) (index : ℕ) (i : ℕ) (d : DistSession) (s : State) (bs : List Byte), sessionOf s digest = some (i, d) ∧ d.complete = true ∧ d.answering = true ∧ 1 ≤ d.total ∧ mapFind d.held index = some bs :=
  ⟨digest7, 0, 5, { session false with held := [(0, [1])], total := 1, queue := 515 }, inSession { session false with held := [(0, [1])], total := 1, queue := 515 } (queued {}), [1], by decide +kernel, by decide +kernel, by decide +kernel, by decide +kernel, by decide +kernel⟩

theorem witness_image_distribution_F13f : ∃ (digest : BitVec 128) (i : ℕ) (d : DistSession) (s : State), sessionOf s digest = some (i, d) ∧ d.complete = false :=
  ⟨digest7, 5, session true, inSession (session true), by decide +kernel, by decide +kernel⟩

theorem witness_image_distribution_F14 : ∃ (digest : BitVec 128) (s : State), sessionOf s digest = none :=
  ⟨digest7, State.reset, by decide +kernel⟩

/-! ### LanesSubportsAndFrames: states and operands that meet its hypotheses -/

theorem witness_lanes_subports_and_frames_F15 : ∃ (port : Fin 16) (lane : Fin 4) (s : State), bit (rd s (Reg.netPcfg (↑port : ℕ))) (8 + (↑lane : ℕ)) = false :=
  ⟨1, 3, portUp, by decide +kernel⟩

theorem witness_lanes_subports_and_frames_F15b : ∃ (port : Fin 16) (lane : Fin 4) (s : State) (m : Master), mayWriteNet m = true ∧ bit (rd s (Reg.netPcfg (↑port : ℕ))) (8 + (↑lane : ℕ)) = true :=
  ⟨15, 0, portUp [(.netPcfg 15, 0x100)], .pf, by decide +kernel, by decide +kernel⟩

theorem witness_lanes_subports_and_frames_F15c : ∃ (port : Fin 16) (lane : Fin 4) (s : State), s.net.checking.contains (4 * (↑port : ℕ) + (↑lane : ℕ)) = true :=
  ⟨15, 0, portUp [(.netPcfg 15, 0x100)] (fun n => { n with checking := [60] }), by decide +kernel⟩

theorem witness_lanes_subports_and_frames_F15d : ∃ (port : Fin 16) (lane : Fin 4) (s : State), s.net.checking.contains (4 * (↑port : ℕ) + (↑lane : ℕ)) = true :=
  ⟨15, 0, portUp [(.netPcfg 15, 0x100)] (fun n => { n with checking := [60] }), by decide +kernel⟩

theorem witness_lanes_subports_and_frames_F16 : ∃ (port : Fin 16) (sub : Fin 4) (s : State), subRetrain s (↑port : ℕ) (↑sub : ℕ) = true :=
  ⟨1, 0, portUp [(.netPstat 1, 0x11030000)], by decide +kernel⟩

theorem witness_lanes_subports_and_frames_F17a : ∃ (port : Fin 16) (sub : Fin 4) (s : State), subUp s (↑port : ℕ) (↑sub : ℕ) = false :=
  ⟨2, 0, portUp, by decide +kernel⟩

theorem witness_lanes_subports_and_frames_F17b : ∃ (port : Fin 16) (sub : Fin 4) (bytes : List Byte) (s : State) (ok : Bool), subUp s (↑port : ℕ) (↑sub : ℕ) = true ∧ (ok = false ∨ bytes.length < 64 ∨ maxFrame s (↑port : ℕ) < bytes.length) :=
  ⟨1, 0, List.replicate 63 1, portUp, true, by decide +kernel, by decide +kernel⟩

theorem witness_lanes_subports_and_frames_F17b2 : ∃ (port : Fin 16) (sub : Fin 4) (bytes : List Byte) (s : State) (ok : Bool), subUp s (↑port : ℕ) (↑sub : ℕ) = true ∧ (ok = false ∨ bytes.length < 64 ∨ maxFrame s (↑port : ℕ) < bytes.length) :=
  ⟨1, 0, List.replicate 1519 1, portUp [(.netPcfg 1, BitVec.ofNat 32 (1518 * 2^18))], true, by decide +kernel, by decide +kernel⟩

theorem witness_lanes_subports_and_frames_F17c : ∃ (port : Fin 16) (sub : Fin 4) (bytes : List Byte) (s : State), subUp s (↑port : ℕ) (↑sub : ℕ) = true ∧ 64 ≤ bytes.length ∧ bytes.length ≤ maxFrame s (↑port : ℕ) ∧ fw16 bytes 12 = 34824 :=
  ⟨1, 0, List.replicate 12 1 ++ [0x88, 0x08] ++ List.replicate 50 0, portUp [(.netPcfg 1, BitVec.ofNat 32 (1518 * 2^18))], by decide +kernel, by decide +kernel, by decide +kernel, by decide +kernel⟩

theorem witness_lanes_subports_and_frames_F17d : ∃ (port : Fin 16) (sub : Fin 4) (bytes : List Byte) (s : State), subUp s (↑port : ℕ) (↑sub : ℕ) = true ∧ 64 ≤ bytes.length ∧ bytes.length ≤ maxFrame s (↑port : ℕ) ∧ fw16 bytes 12 ≠ 34824 :=
  ⟨1, 0, List.replicate 64 1, portUp [(.netPcfg 1, BitVec.ofNat 32 (1518 * 2^18))], by decide +kernel, by decide +kernel, by decide +kernel, by decide +kernel⟩

theorem witness_lanes_subports_and_frames_F17e : ∃ (port : Fin 16) (sub : Fin 4) (bytes : List Byte) (s : State), subUp s (↑port : ℕ) (↑sub : ℕ) = true ∧ 64 ≤ bytes.length ∧ bytes.length ≤ maxFrame s (↑port : ℕ) ∧ fw16 bytes 12 ≠ 34824 :=
  ⟨1, 0, List.replicate 1518 1, portUp [(.netPcfg 1, BitVec.ofNat 32 (1518 * 2^18))], by decide +kernel, by decide +kernel, by decide +kernel, by decide +kernel⟩

/-! ### EgressQueuesAndClassifierObjects: states and operands that meet its hypotheses -/

theorem witness_egress_queues_and_classifier_objects_F18 : ∃ (port : Fin 16) (sub : Fin 4) (ns : ℕ) (k : ℕ) (f : EgressFrame) (rest : List EgressFrame) (s : State), s.rma.ops = [] ∧ (queueOf s k).frames = f :: rest ∧ (List.filter (fun k ↦ queueEligible s k ns) (subQueues s (↑port : ℕ) (↑sub : ℕ)) = [k]) ∧ queueClass s k < 8 ∧ mapGet (512 * (↑port : ℕ) + 511, false) s.net.rr (8 * (4 * (↑port : ℕ) + (↑sub : ℕ)) + queueClass s k) = (k, true) ∧ headLen s k ≤ (queueOf s k).deficit :=
  ⟨1, 0, 100, 515, frame1, [], queued { frames := [frame1], deficit := 1000 }, by decide +kernel, by decide +kernel, by decide +kernel, by decide +kernel, by decide +kernel, by decide +kernel⟩

theorem witness_egress_queues_and_classifier_objects_F20 : ∃ (m : Master) (s : State), mayWritePart m (queueOwner s (selQueue s)) = true ∧ s.net.held = [] :=
  ⟨.core 2, queued { frames := [frame1, frame1], deficit := 9 }, by decide +kernel, by decide +kernel⟩

theorem witness_egress_queues_and_classifier_objects_F20b : ∃ (m : Master) (s : State), mayWritePart m (queueOwner s (selQueue s)) = true ∧ s.net.held = [] :=
  ⟨.pf, queued { frames := [frame1, frame1], deficit := 9, avg := some (1, 2) }, by decide +kernel, by decide +kernel⟩

theorem witness_egress_queues_and_classifier_objects_F20c : ∃ (m : Master) (s : State), mayWritePart m (queueOwner s (selQueue s)) = false :=
  ⟨.vf 3, queued { frames := [frame1, frame1], deficit := 9 }, by decide +kernel⟩

theorem witness_egress_queues_and_classifier_objects_F21 : ∃ (m : Master) (cmd : Word), (∀ (p : Fin 12), m ≠ Master.vf p) ∧ 5 < fld cmd 27 25 :=
  ⟨.pf, 0x0C000000, by decide +kernel, by decide +kernel⟩

theorem witness_egress_queues_and_classifier_objects_F21b : ∃ (m : Master) (cmd : Word), (∀ (p : Fin 12), m ≠ Master.vf p) ∧ fld cmd 27 25 = 4 ∧ fld cmd 24 21 ≤ 12 ∧ fld cmd 11 0 ≤ 511 :=
  ⟨.pf, 0x099801FF, by decide +kernel, by decide +kernel, by decide +kernel, by decide +kernel⟩

theorem witness_egress_queues_and_classifier_objects_F21c : ∃ (m : Master) (cmd : Word), (∀ (p : Fin 12), m ≠ Master.vf p) ∧ fld cmd 27 25 = 4 ∧ fld cmd 24 21 ≤ 12 ∧ fld cmd 11 0 ≤ 511 :=
  ⟨.pf, 0x086001FF, by decide +kernel, by decide +kernel, by decide +kernel, by decide +kernel⟩

theorem witness_egress_queues_and_classifier_objects_F21d : ∃ (m : Master) (cmd : Word), (∀ (p : Fin 12), m ≠ Master.vf p) ∧ fld cmd 27 25 = 2 :=
  ⟨.core 3, 0x040000FF, by decide +kernel, by decide +kernel⟩

theorem witness_egress_queues_and_classifier_objects_F21e : ∃ (m : Master) (cmd : Word), (∀ (p : Fin 12), m ≠ Master.vf p) ∧ fld cmd 27 25 = 1 ∧ (∀ (c : Fin 24), m = Master.core c → (↑c : ℕ) < 22) :=
  ⟨.core 21, 0x02000000, by decide +kernel, by decide +kernel, by decide +kernel⟩

/-! ### PacketsTurnedAway: states and operands that meet its hypotheses -/

theorem witness_packets_turned_away_G1 : ∃ (a : Arrival) (code : Fin 4) (s : State) (cmd : Instr), cmd ∈ [Instr.omfWrite a, Instr.omfWriteImm a, Instr.omfReadReq a, Instr.omfReadResp a, Instr.omfSend a, Instr.omfFadd a, Instr.omfCswap a, Instr.omfAtomicResp a, Instr.omfAck a, Instr.omfNak a, Instr.omfClose a, Instr.rekey a, Instr.rekeyAck a, Instr.blockVerb code a] ∧ ((ctxOf s a.pkt.cid.toNat).state = cxFree ∨ (ctxOf s a.pkt.cid.toNat).ctag ≠ a.pkt.ctag.toNat) :=
  ⟨arr, 0, State.reset, .blockVerb 0 arr, by decide +kernel, by decide +kernel⟩

theorem witness_packets_turned_away_G1b : ∃ (a : Arrival) (code : Fin 4) (s : State) (cmd : Instr), cmd ∈ [Instr.omfWrite a, Instr.omfWriteImm a, Instr.omfReadReq a, Instr.omfReadResp a, Instr.omfSend a, Instr.omfFadd a, Instr.omfCswap a, Instr.omfAtomicResp a, Instr.omfAck a, Instr.omfNak a, Instr.omfClose a, Instr.rekey a, Instr.rekeyAck a, Instr.blockVerb code a] ∧ ((ctxOf s a.pkt.cid.toNat).state = cxFree ∨ (ctxOf s a.pkt.cid.toNat).ctag ≠ a.pkt.ctag.toNat) :=
  ⟨arr { pkt with ctag := 8 }, 0, linked, .omfNak (arr { pkt with ctag := 8 }), by decide +kernel, by decide +kernel⟩

theorem witness_packets_turned_away_G2 : ∃ (a : Arrival) (code : Fin 4) (s : State) (cmd : Instr), cmd ∈ [Instr.omfWrite a, Instr.omfWriteImm a, Instr.omfReadReq a, Instr.omfReadResp a, Instr.omfSend a, Instr.omfFadd a, Instr.omfCswap a, Instr.omfAtomicResp a, Instr.omfAck a, Instr.omfNak a, Instr.omfClose a, Instr.rekey a, Instr.rekeyAck a, Instr.blockVerb code a] ∧ (ctxOf s a.pkt.cid.toNat).state = cxOpen ∧ (ctxOf s a.pkt.cid.toNat).ctag = a.pkt.ctag.toNat ∧ s.rma.cached.contains a.pkt.cid.toNat = true ∧ ((s.rma.parked.all fun q ↦ q.cid != a.pkt.cid.toNat) = true) ∧ (a.auth = false ∨ rxPhaseOf (ctxOf s a.pkt.cid.toNat) a.pkt.kphase = none) :=
  ⟨{ arr with auth := false }, 0, linked, .omfWrite { arr with auth := false }, by decide +kernel, by decide +kernel, by decide +kernel, by decide +kernel, by decide +kernel, by decide +kernel⟩

theorem witness_packets_turned_away_G3 : ∃ (a : Arrival) (code : Fin 4) (s : State) (cmd : Instr), cmd ∈ [Instr.omfWrite a, Instr.omfWriteImm a, Instr.omfReadReq a, Instr.omfReadResp a, Instr.omfSend a, Instr.omfFadd a, Instr.omfCswap a, Instr.omfAtomicResp a, Instr.omfAck a, Instr.omfNak a, Instr.omfClose a, Instr.rekey a, Instr.rekeyAck a, Instr.blockVerb code a] ∧ (ctxOf s a.pkt.cid.toNat).state = cxOpen ∧ (ctxOf s a.pkt.cid.toNat).ctag = a.pkt.ctag.toNat ∧ s.rma.cached.contains a.pkt.cid.toNat = true ∧ ((s.rma.parked.all fun q ↦ q.cid != a.pkt.cid.toNat) = true) ∧ a.auth = true ∧ a.pkt.kphase = (ctxOf s a.pkt.cid.toNat).rxPhase ∧ freshCtr (ctxOf s a.pkt.cid.toNat).rxHi (ctxOf s a.pkt.cid.toNat).rxWin (BitVec.toNat a.pkt.pctr) = false :=
  ⟨arr { pkt with pctr := 0 }, 3, linked (fun c => { c with rxHi := 900 }), .omfFadd (arr { pkt with pctr := 0 }), by decide +kernel, by decide +kernel, by decide +kernel, by decide +kernel, by decide +kernel, by decide +kernel, by decide +kernel, by decide +kernel⟩

theorem witness_packets_turned_away_G3b : ∃ (a : Arrival) (code : Fin 4) (s : State) (cmd : Instr), cmd ∈ [Instr.omfWrite a, Instr.omfWriteImm a, Instr.omfReadReq a, Instr.omfReadResp a, Instr.omfSend a, Instr.omfFadd a, Instr.omfCswap a, Instr.omfAtomicResp a, Instr.omfAck a, Instr.omfNak a, Instr.omfClose a, Instr.rekey a, Instr.rekeyAck a, Instr.blockVerb code a] ∧ (ctxOf s a.pkt.cid.toNat).state = cxOpen ∧ (ctxOf s a.pkt.cid.toNat).ctag = a.pkt.ctag.toNat ∧ s.rma.cached.contains a.pkt.cid.toNat = true ∧ ((s.rma.parked.all fun q ↦ q.cid != a.pkt.cid.toNat) = true) ∧ a.auth = true ∧ a.pkt.kphase = (ctxOf s a.pkt.cid.toNat).rxPhase ∧ freshCtr (ctxOf s a.pkt.cid.toNat).rxHi (ctxOf s a.pkt.cid.toNat).rxWin (BitVec.toNat a.pkt.pctr) = false :=
  ⟨arr { pkt with pctr := 0 }, 3, linked (fun c => { c with rxHi := 900 }), .rekeyAck (arr { pkt with pctr := 0 }), by decide +kernel, by decide +kernel, by decide +kernel, by decide +kernel, by decide +kernel, by decide +kernel, by decide +kernel, by decide +kernel⟩

/-! ### RemoteRequests: states and operands that meet its hypotheses -/

theorem witness_remote_requests_G4 : ∃ (a : Arrival) (addr : ℕ) (s : State), Arrives s a ∧ InOrder s omWrite a ∧ (Granted s a a.pkt.data.length addr (fun e ↦ e.write) false true) :=
  ⟨arr, 0x2000008, linked, by refine ⟨⟨?_, ?_, ?_⟩, ?_, ?_, ?_⟩ <;> decide +kernel, by constructor <;> decide +kernel, ⟨by decide +kernel, by decide +kernel, by decide +kernel, holds_of_some (by decide +kernel)⟩⟩

theorem witness_remote_requests_G5 : ∃ (a : Arrival) (addr : ℕ) (s : State), Arrives s a ∧ InOrder s omWriteImm a ∧ (Granted s a a.pkt.data.length addr (fun e ↦ e.write) false true) ∧ (ctxOf s a.pkt.cid.toNat).deliver = 2 ∧ a.pkt.last = true :=
  ⟨arr { pkt with rkey := BitVec.ofNat 32 (3 * 2 ^ 18 + 9), imm := 0x123 }, 0x2000008, linked (fun c => { c with deliver := 2 }), by refine ⟨⟨?_, ?_, ?_⟩, ?_, ?_, ?_⟩ <;> decide +kernel, by constructor <;> decide +kernel, ⟨by decide +kernel, by decide +kernel, by decide +kernel, holds_of_some (by decide +kernel)⟩, by decide +kernel, by decide +kernel⟩

theorem witness_remote_requests_G6 : ∃ (a : Arrival) (addr : ℕ) (s : State), Arrives s a ∧ InOrder s omReadReq a ∧ (Granted s a (BitVec.toNat a.pkt.oplen) addr (fun e ↦ e.read) false false) ∧ (ctxOf s a.pkt.cid.toNat).stopped = false ∧ pagesBad s addr (BitVec.toNat a.pkt.oplen) = false :=
  ⟨arr { pkt with oplen := 4096, roff := 0, data := [] }, 0x2000000, linked, by refine ⟨⟨?_, ?_, ?_⟩, ?_, ?_, ?_⟩ <;> decide +kernel, by constructor <;> decide +kernel, ⟨by decide +kernel, by decide +kernel, by decide +kernel, holds_of_some (by decide +kernel)⟩, by decide +kernel, by decide +kernel⟩

theorem witness_remote_requests_G6b : ∃ (a : Arrival) (addr : ℕ) (s : State), Arrives s a ∧ InOrder s omReadReq a ∧ (Granted s a (BitVec.toNat a.pkt.oplen) addr (fun e ↦ e.read) false false) ∧ (ctxOf s a.pkt.cid.toNat).stopped = false ∧ pagesBad s addr (BitVec.toNat a.pkt.oplen) = false :=
  ⟨arr { pkt with oplen := 1024, roff := 0x0C00, data := [] }, 0x2000C00, linked, by refine ⟨⟨?_, ?_, ?_⟩, ?_, ?_, ?_⟩ <;> decide +kernel, by constructor <;> decide +kernel, ⟨by decide +kernel, by decide +kernel, by decide +kernel, holds_of_some (by decide +kernel)⟩, by decide +kernel, by decide +kernel⟩

theorem witness_remote_requests_G7 : ∃ (a : Arrival) (addr : ℕ) (s : State), Arrives s a ∧ InOrder s omFadd a ∧ (Granted s a 8 addr (fun e ↦ e.atomic) true true) ∧ (ctxOf s a.pkt.cid.toNat).ver = 2 ∧ (ctxOf s a.pkt.cid.toNat).stopped = false ∧ pagesBad s addr 8 = false :=
  ⟨arr { pkt with imm := 0xFFFFFFFFFFFFFFFF, data := [] }, 0x2000008, linked, by refine ⟨⟨?_, ?_, ?_⟩, ?_, ?_, ?_⟩ <;> decide +kernel, by constructor <;> decide +kernel, ⟨by decide +kernel, by decide +kernel, by decide +kernel, holds_of_some (by decide +kernel)⟩, by decide +kernel, by decide +kernel, by decide +kernel⟩

theorem witness_remote_requests_G8 : ∃ (a : Arrival) (addr : ℕ) (s : State), Arrives s a ∧ InOrder s omCswap a ∧ (Granted s a 8 addr (fun e ↦ e.atomic) true true) ∧ (ctxOf s a.pkt.cid.toNat).ver = 2 ∧ (ctxOf s a.pkt.cid.toNat).stopped = false ∧ pagesBad s addr 8 = false ∧ 8 ≤ a.pkt.data.length :=
  ⟨arr { pkt with imm := 0, data := [1, 2, 3, 4, 5, 6, 7, 8], oplen := 8 }, 0x2000008, linked, by refine ⟨⟨?_, ?_, ?_⟩, ?_, ?_, ?_⟩ <;> decide +kernel, by constructor <;> decide +kernel, ⟨by decide +kernel, by decide +kernel, by decide +kernel, holds_of_some (by decide +kernel)⟩, by decide +kernel, by decide +kernel, by decide +kernel, by decide +kernel⟩

theorem witness_remote_requests_G9 : ∃ (a : Arrival) (s : State), Arrives s a ∧ InOrder s omSend a ∧ (ctxOf s a.pkt.cid.toNat).deliver = 2 :=
  ⟨arr, linked (fun c => { c with deliver := 2 }), by refine ⟨⟨?_, ?_, ?_⟩, ?_, ?_, ?_⟩ <;> decide +kernel, by constructor <;> decide +kernel, by decide +kernel⟩

theorem witness_remote_requests_G10 : ∃ (a : Arrival) (s : State), Arrives s a ∧ InOrder s omSend a ∧ (ctxOf s a.pkt.cid.toNat).deliver = 0 ∧ (ctxOf s a.pkt.cid.toNat).owner < 12 ∧ (mapGet { } s.rma.regions (BitVec.toNat (ctxOf s a.pkt.cid.toNat).recvKey % 2 ^ 18)).valid = true ∧ (mapGet { } s.rma.regions (BitVec.toNat (ctxOf s a.pkt.cid.toNat).recvKey % 2 ^ 18)).tag = BitVec.toNat (ctxOf s a.pkt.cid.toNat).recvKey / 2 ^ 18 ∧ (ctxOf s a.pkt.cid.toNat).recvUsed - (ctxOf s a.pkt.cid.toNat).recvFreed < (mapGet { } s.rma.regions (BitVec.toNat (ctxOf s a.pkt.cid.toNat).recvKey % 2 ^ 18)).len / max 1 (ctxOf s a.pkt.cid.toNat).mss ∧ engineMay s (engineFor s (ctxOf s a.pkt.cid.toNat).owner ((mapGet { } s.rma.regions (BitVec.toNat (ctxOf s a.pkt.cid.toNat).recvKey % 2 ^ 18)).base + (ctxOf s a.pkt.cid.toNat).recvUsed % ((mapGet { } s.rma.regions (BitVec.toNat (ctxOf s a.pkt.cid.toNat).recvKey % 2 ^ 18)).len / max 1 (ctxOf s a.pkt.cid.toNat).mss) * (ctxOf s a.pkt.cid.toNat).mss)) ((mapGet { } s.rma.regions (BitVec.toNat (ctxOf s a.pkt.cid.toNat).recvKey % 2 ^ 18)).base + (ctxOf s a.pkt.cid.toNat).recvUsed % ((mapGet { } s.rma.regions (BitVec.toNat (ctxOf s a.pkt.cid.toNat).recvKey % 2 ^ 18)).len / max 1 (ctxOf s a.pkt.cid.toNat).mss) * (ctxOf s a.pkt.cid.toNat).mss) a.pkt.data.length true = true ∧ a.ecc = Ecc.clean ∧ (∀ (r : ℕ), regionOf s ((mapGet { } s.rma.regions (BitVec.toNat (ctxOf s a.pkt.cid.toNat).recvKey % 2 ^ 18)).base + (ctxOf s a.pkt.cid.toNat).recvUsed % ((mapGet { } s.rma.regions (BitVec.toNat (ctxOf s a.pkt.cid.toNat).recvKey % 2 ^ 18)).len / max 1 (ctxOf s a.pkt.cid.toNat).mss) * (ctxOf s a.pkt.cid.toNat).mss) = some r → r < 12 → (pagesOf ((mapGet { } s.rma.regions (BitVec.toNat (ctxOf s a.pkt.cid.toNat).recvKey % 2 ^ 18)).base + (ctxOf s a.pkt.cid.toNat).recvUsed % ((mapGet { } s.rma.regions (BitVec.toNat (ctxOf s a.pkt.cid.toNat).recvKey % 2 ^ 18)).len / max 1 (ctxOf s a.pkt.cid.toNat).mss) * (ctxOf s a.pkt.cid.toNat).mss) a.pkt.data.length).any (cowHeld s r) = false) ∧ bit (rd s (Reg.rmaRctl (ctxOf s a.pkt.cid.toNat).owner)) 30 = false :=
  ⟨arr, linked (fun c => { c with recvKey := BitVec.ofNat 32 (3 * 2 ^ 18 + 9), recvUsed := 7, recvFreed := 4 }), by refine ⟨⟨?_, ?_, ?_⟩, ?_, ?_, ?_⟩ <;> decide +kernel, by constructor <;> decide +kernel, by decide +kernel, by decide +kernel, by decide +kernel, by decide +kernel, by decide +kernel, by decide +kernel, by decide +kernel, holds_of_some (by decide +kernel), by decide +kernel⟩

theorem witness_remote_requests_G11 : ∃ (a : Arrival) (s : State), Arrives s a ∧ InOrder s omSend a ∧ (ctxOf s a.pkt.cid.toNat).deliver = 0 ∧ (ctxOf s a.pkt.cid.toNat).owner < 12 ∧ (mapGet { } s.rma.regions (BitVec.toNat (ctxOf s a.pkt.cid.toNat).recvKey % 2 ^ 18)).valid = true ∧ (mapGet { } s.rma.regions (BitVec.toNat (ctxOf s a.pkt.cid.toNat).recvKey % 2 ^ 18)).tag = BitVec.toNat (ctxOf s a.pkt.cid.toNat).recvKey / 2 ^ 18 ∧ (mapGet { } s.rma.regions (BitVec.toNat (ctxOf s a.pkt.cid.toNat).recvKey % 2 ^ 18)).len / max 1 (ctxOf s a.pkt.cid.toNat).mss ≤ (ctxOf s a.pkt.cid.toNat).recvUsed - (ctxOf s a.pkt.cid.toNat).recvFreed ∧ a.pkt.first = true ∧ (ctxOf s a.pkt.cid.toNat).stopped = false :=
  ⟨arr, linked (fun c => { c with recvKey := BitVec.ofNat 32 (3 * 2 ^ 18 + 9), recvUsed := 8, recvFreed := 4 }), by refine ⟨⟨?_, ?_, ?_⟩, ?_, ?_, ?_⟩ <;> decide +kernel, by constructor <;> decide +kernel, by decide +kernel, by decide +kernel, by decide +kernel, by decide +kernel, by decide +kernel, by decide +kernel, by decide +kernel⟩

theorem witness_remote_requests_G12 : ∃ (a : Arrival) (s : State), Arrives s a ∧ BitVec.toNat a.pkt.psn = (ctxOf s a.pkt.cid.toNat).rxPsn ∧ a.pkt.first = true ∧ (ctxOf s a.pkt.cid.toNat).stopped = false ∧ s.rma.ops = [] ∧ s.rma.waitOps = [] :=
  ⟨arr, linked (fun c => { c with viols := 254 }) id [(.rmaCfg, 0xFF000000)], by refine ⟨⟨?_, ?_, ?_⟩, ?_, ?_, ?_⟩ <;> decide +kernel, by decide +kernel, by decide +kernel, by decide +kernel, by decide +kernel, by decide +kernel⟩

/-! ### RemoteAnswers: states and operands that meet its hypotheses -/

theorem witness_remote_answers_G13 : ∃ (a : Arrival) (o : RmaOp) (s : State), Arrives s a ∧ s.rma.ops = [o] ∧ o.cid = a.pkt.cid.toNat ∧ o.settling = false ∧ plainSource o ∧ s.rma.ringHeld = [] ∧ o.code = omReadReq ∧ o.firstPsn = some (BitVec.toNat a.pkt.psn) ∧ o.got + a.pkt.data.length ≤ o.len ∧ BitVec.toNat a.pkt.roff = o.roff + o.got ∧ o.host = false ∧ 1 ≤ a.pkt.data.length ∧ (o.plot < 12 → rdFld s (Reg.pltGen o.plot) 15 0 = o.gen) ∧ engineMay s (engineFor s o.plot (o.laddr + o.got)) (o.laddr + o.got) a.pkt.data.length true = true ∧ a.ecc = Ecc.clean ∧ (∀ (r : ℕ), regionOf s (o.laddr + o.got) = some r → r < 12 → (pagesOf (o.laddr + o.got) a.pkt.data.length).any (cowHeld s r) = false) ∧ o.got + a.pkt.data.length < o.len :=
  ⟨arr { pkt with psn := 19, roff := 0x40 }, rop, linked id (fun r => { r with ops := [rop] }), by refine ⟨⟨?_, ?_, ?_⟩, ?_, ?_, ?_⟩ <;> decide +kernel, by decide +kernel, by decide +kernel, by decide +kernel, by first | exact Or.inl rfl | exact Or.inr ⟨_, _, _, rfl⟩, by decide +kernel, by decide +kernel, by decide +kernel, by decide +kernel, by decide +kernel, by decide +kernel, by decide +kernel, by decide +kernel, by decide +kernel, by decide +kernel, holds_of_some (by decide +kernel), by decide +kernel⟩

theorem witness_remote_answers_G13b : ∃ (a : Arrival) (o : RmaOp) (s : State), Arrives s a ∧ s.rma.ops = [o] ∧ o.cid = a.pkt.cid.toNat ∧ o.settling = false ∧ plainSource o ∧ s.rma.ringHeld = [] ∧ o.code = omReadReq ∧ o.firstPsn = some (BitVec.toNat a.pkt.psn) ∧ o.got + a.pkt.data.length ≤ o.len ∧ BitVec.toNat a.pkt.roff = o.roff + o.got ∧ o.host = false ∧ 1 ≤ a.pkt.data.length ∧ (o.plot < 12 → rdFld s (Reg.pltGen o.plot) 15 0 = o.gen) ∧ engineMay s (engineFor s o.plot (o.laddr + o.got)) (o.laddr + o.got) a.pkt.data.length true = true ∧ a.ecc = Ecc.clean ∧ (∀ (r : ℕ), regionOf s (o.laddr + o.got) = some r → r < 12 → (pagesOf (o.laddr + o.got) a.pkt.data.length).any (cowHeld s r) = false) ∧ o.got + a.pkt.data.length = o.len :=
  ⟨arr { pkt with psn := 19, roff := 0x44 }, { rop with got := 4 }, linked id (fun r => { r with ops := [{ rop with got := 4 }] }), by refine ⟨⟨?_, ?_, ?_⟩, ?_, ?_, ?_⟩ <;> decide +kernel, by decide +kernel, by decide +kernel, by decide +kernel, by first | exact Or.inl rfl | exact Or.inr ⟨_, _, _, rfl⟩, by decide +kernel, by decide +kernel, by decide +kernel, by decide +kernel, by decide +kernel, by decide +kernel, by decide +kernel, by decide +kernel, by decide +kernel, by decide +kernel, holds_of_some (by decide +kernel), by decide +kernel⟩

theorem witness_remote_answers_G13c : ∃ (a : Arrival) (o : RmaOp) (s : State), Arrives s a ∧ s.rma.ops = [o] ∧ o.cid = a.pkt.cid.toNat ∧ o.settling = false ∧ plainSource o ∧ s.rma.ringHeld = [] ∧ o.code = omReadReq ∧ o.firstPsn = some (BitVec.toNat a.pkt.psn) ∧ o.got + a.pkt.data.length ≤ o.len ∧ BitVec.toNat a.pkt.roff = o.roff + o.got ∧ o.host = false ∧ 1 ≤ a.pkt.data.length ∧ (o.plot < 12 → rdFld s (Reg.pltGen o.plot) 15 0 = o.gen) ∧ engineMay s (engineFor s o.plot (o.laddr + o.got)) (o.laddr + o.got) a.pkt.data.length true = true ∧ a.ecc = Ecc.clean ∧ (∀ (r : ℕ), regionOf s (o.laddr + o.got) = some r → r < 12 → (pagesOf (o.laddr + o.got) a.pkt.data.length).any (cowHeld s r) = false) ∧ o.got + a.pkt.data.length = o.len :=
  ⟨arr { pkt with psn := 19, roff := 0x44 }, { fop with got := 4, laddr := 0x3000100 }, onRam (fun x => { x with owner := [(16, 3)] }) (region 16 3 [] (linked id (fun r => { r with ops := [{ fop with got := 4, laddr := 0x3000100 }] }))), by refine ⟨⟨?_, ?_, ?_⟩, ?_, ?_, ?_⟩ <;> decide +kernel, by decide +kernel, by decide +kernel, by decide +kernel, by first | exact Or.inl rfl | exact Or.inr ⟨_, _, _, rfl⟩, by decide +kernel, by decide +kernel, by decide +kernel, by decide +kernel, by decide +kernel, by decide +kernel, by decide +kernel, by decide +kernel, by decide +kernel, by decide +kernel, holds_of_some (by decide +kernel), by decide +kernel⟩

theorem witness_remote_answers_G14 : ∃ (a : Arrival) (o : RmaOp) (s : State), Arrives s a ∧ s.rma.ops = [o] ∧ o.cid = a.pkt.cid.toNat ∧ o.settling = false ∧ plainSource o ∧ s.rma.ringHeld = [] ∧ (o.code = omFadd ∨ o.code = omCswap) ∧ o.firstPsn = some (BitVec.toNat a.pkt.psn) :=
  ⟨arr { pkt with psn := 19 }, { rop with code := omFadd }, linked id (fun r => { r with ops := [{ rop with code := omFadd }] }), by refine ⟨⟨?_, ?_, ?_⟩, ?_, ?_, ?_⟩ <;> decide +kernel, by decide +kernel, by decide +kernel, by decide +kernel, by first | exact Or.inl rfl | exact Or.inr ⟨_, _, _, rfl⟩, by decide +kernel, by decide +kernel, by decide +kernel⟩

theorem witness_remote_answers_G15 : ∃ (a : Arrival) (o : RmaOp) (s : State) (p : ℕ) (wrid : DWord), Arrives s a ∧ s.rma.ops = [o] ∧ o.cid = a.pkt.cid.toNat ∧ o.settling = false ∧ plainSource o ∧ s.rma.ringHeld = [] ∧ o.src = OpSource.ring p wrid true ∧ o.code = omFadd ∧ o.firstPsn = some (BitVec.toNat a.pkt.psn) ∧ p < 12 ∧ o.plot = p ∧ rdFld s (Reg.pltGen p) 15 0 = o.gen ∧ hgen s (mapGet 0 s.rma.ringFn p) = o.hgen ∧ o.mute = false ∧ ringOn s p = true ∧ (rdFld s (Reg.rmaCqpi p) 15 0 + 65536 - rdFld s (Reg.rmaCqci p) 15 0) % 65536 < ringN s p :=
  ⟨arr { pkt with psn := 19 }, { rop with code := omFadd }, linked id (fun r => { r with ops := [{ rop with code := omFadd }] }) [(.rmaRctl 0, 0xC0000002), (.rmaCqpi 0, 0xFFFF), (.rmaCqci 0, 0xFFFC)], 0, 77, by refine ⟨⟨?_, ?_, ?_⟩, ?_, ?_, ?_⟩ <;> decide +kernel, by decide +kernel, by decide +kernel, by decide +kernel, by first | exact Or.inl rfl | exact Or.inr ⟨_, _, _, rfl⟩, by decide +kernel, by decide +kernel, by decide +kernel, by decide +kernel, by decide +kernel, by decide +kernel, by decide +kernel, by decide +kernel, by decide +kernel, by decide +kernel, by decide +kernel⟩

theorem witness_remote_answers_G16 : ∃ (a : Arrival) (o : RmaOp) (s : State), Arrives s a ∧ s.rma.ops = [o] ∧ o.cid = a.pkt.cid.toNat ∧ o.settling = false ∧ plainSource o ∧ s.rma.ringHeld = [] ∧ o.code = omWrite ∧ opPackets (ctxOf s a.pkt.cid.toNat).mss o ≤ coveredBy o (BitVec.toNat a.pkt.psn) ∧ o.acked < coveredBy o (BitVec.toNat a.pkt.psn) ∧ psnBefore (ctxOf s a.pkt.cid.toNat).txPsn (BitVec.toNat a.pkt.psn) = false :=
  ⟨arr { pkt with psn := 20 }, { rop with code := omWrite }, linked id (fun r => { r with ops := [{ rop with code := omWrite }] }), by refine ⟨⟨?_, ?_, ?_⟩, ?_, ?_, ?_⟩ <;> decide +kernel, by decide +kernel, by decide +kernel, by decide +kernel, by first | exact Or.inl rfl | exact Or.inr ⟨_, _, _, rfl⟩, by decide +kernel, by decide +kernel, by decide +kernel, by decide +kernel, by decide +kernel⟩

theorem witness_remote_answers_G17 : ∃ (a : Arrival) (o : RmaOp) (s : State), Arrives s a ∧ s.rma.ops = [o] ∧ o.cid = a.pkt.cid.toNat ∧ o.settling = false ∧ plainSource o ∧ s.rma.ringHeld = [] ∧ o.firstPsn = some (BitVec.toNat a.pkt.psn) ∧ BitVec.toNat a.pkt.oplen % 256 ≠ rsRnr :=
  ⟨arr { pkt with psn := 19, oplen := 1 }, rop, linked id (fun r => { r with ops := [rop] }), by refine ⟨⟨?_, ?_, ?_⟩, ?_, ?_, ?_⟩ <;> decide +kernel, by decide +kernel, by decide +kernel, by decide +kernel, by first | exact Or.inl rfl | exact Or.inr ⟨_, _, _, rfl⟩, by decide +kernel, by decide +kernel, by decide +kernel⟩

theorem witness_remote_answers_G17b : ∃ (a : Arrival) (o : RmaOp) (s : State), Arrives s a ∧ s.rma.ops = [o] ∧ o.cid = a.pkt.cid.toNat ∧ o.settling = false ∧ plainSource o ∧ s.rma.ringHeld = [] ∧ o.firstPsn = some (BitVec.toNat a.pkt.psn) ∧ BitVec.toNat a.pkt.oplen % 256 = rsRnr :=
  ⟨arr { pkt with psn := 19, oplen := BitVec.ofNat 32 rsRnr }, rop, linked id (fun r => { r with ops := [rop] }), by refine ⟨⟨?_, ?_, ?_⟩, ?_, ?_, ?_⟩ <;> decide +kernel, by decide +kernel, by decide +kernel, by decide +kernel, by first | exact Or.inl rfl | exact Or.inr ⟨_, _, _, rfl⟩, by decide +kernel, by decide +kernel, by decide +kernel⟩

theorem witness_remote_answers_G18 : ∃ (a : Arrival) (s : State), (ctxOf s a.pkt.cid.toNat).state ≠ cxFree ∧ (ctxOf s a.pkt.cid.toNat).ctag = a.pkt.ctag.toNat ∧ (((ctxOf s a.pkt.cid.toNat).recent.any fun e ↦ e.1 == BitVec.toNat a.pkt.pctr && decide (s.tick ≤ e.2 + 2 * rtoUs s)) = true) :=
  ⟨arr, linked (fun c => { c with recent := [(1, 0)] }), by decide +kernel, by decide +kernel, by decide +kernel⟩

theorem witness_remote_answers_G18b : ∃ (a : Arrival) (s : State), (ctxOf s a.pkt.cid.toNat).state ≠ cxFree ∧ (ctxOf s a.pkt.cid.toNat).ctag = a.pkt.ctag.toNat ∧ (((ctxOf s a.pkt.cid.toNat).recent.any fun e ↦ e.1 == BitVec.toNat a.pkt.pctr && decide (s.tick ≤ e.2 + 2 * rtoUs s)) = false) :=
  ⟨arr, linked (fun c => { c with recent := [(2, 0)] }), by decide +kernel, by decide +kernel, by decide +kernel⟩

/-! ### RemoteConnections: states and operands that meet its hypotheses -/

theorem witness_remote_connections_G19 : ∃ (m : Msg) (keyId : Word) (s : State) (cid : ℕ), Admitted s m { type := 64, vf := true } ∧ connKeyHeld s keyId = true ∧ freeCtx s = some cid :=
  ⟨msg 0, 0x55, keyed upAt, 0, by unfold Admitted; decide +kernel, by decide +kernel, by decide +kernel⟩

theorem witness_remote_connections_G19b : ∃ (m : Msg) (keyId : Word) (s : State), Admitted s m { type := 64, vf := true } ∧ connKeyHeld s keyId = false :=
  ⟨msg 0, 0x54, keyed upAt, by unfold Admitted; decide +kernel, by decide +kernel⟩

theorem witness_remote_connections_G20 : ∃ (q : OpenPkt), q.macOk = false :=
  ⟨{ opk with macOk := false }, by decide +kernel⟩

theorem witness_remote_connections_G21 : ∃ (q : OpenPkt) (s : State) (cid : ℕ), q.macOk = true ∧ connKeyHeld s q.keyId = true ∧ freeCtx s = some cid ∧ BitVec.toNat q.vmin ≤ min (BitVec.toNat q.vmax) 2 ∧ 1 ≤ BitVec.toNat q.vmax :=
  ⟨opk, keyed upAt, 0, by decide +kernel, by decide +kernel, by decide +kernel, by decide +kernel, by decide +kernel⟩

theorem witness_remote_connections_G21b : ∃ (q : OpenPkt) (s : State) (cid : ℕ), q.macOk = true ∧ connKeyHeld s q.keyId = true ∧ freeCtx s = some cid ∧ min (BitVec.toNat q.vmax) 2 < BitVec.toNat q.vmin :=
  ⟨{ opk with vmax := 3, vmin := 3 }, keyed upAt, 0, by decide +kernel, by decide +kernel, by decide +kernel, by decide +kernel⟩

theorem witness_remote_connections_G21c : ∃ (q : OpenPkt) (s : State) (cid : ℕ), q.macOk = true ∧ connKeyHeld s q.keyId = true ∧ freeCtx s = some cid ∧ min (BitVec.toNat q.vmax) 2 < BitVec.toNat q.vmin :=
  ⟨{ opk with vmax := 0, vmin := 1 }, keyed upAt, 0, by decide +kernel, by decide +kernel, by decide +kernel, by decide +kernel⟩

theorem witness_remote_connections_G22 : ∃ (cid : BitVec 16) (ctag : BitVec 16) (q : OpenPkt) (s : State), (ctxOf s cid.toNat).state = cxConnecting ∧ (ctxOf s cid.toNat).ctag = ctag.toNat ∧ q.macOk = true :=
  ⟨5, 7, opk, linked (fun c => { c with state := cxConnecting }), by decide +kernel, by decide +kernel, by decide +kernel⟩

theorem witness_remote_connections_G22b : ∃ (cid : BitVec 16) (ctag : BitVec 16) (q : OpenPkt) (s : State), (ctxOf s cid.toNat).state = cxConnecting ∧ (ctxOf s cid.toNat).ctag = ctag.toNat ∧ q.macOk = false :=
  ⟨5, 7, { opk with macOk := false }, linked (fun c => { c with state := cxConnecting }), by decide +kernel, by decide +kernel, by decide +kernel⟩

theorem witness_remote_connections_G23 : ∃ (a : Arrival) (s : State), Arrives s a ∧ s.rma.ringHeld = [] ∧ (∀ o ∈ s.rma.ops, o.cid = a.pkt.cid.toNat → o.src = OpSource.firmware) ∧ (∀ o ∈ s.rma.waitOps, o.cid ≠ a.pkt.cid.toNat) :=
  ⟨arr, linked, by refine ⟨⟨?_, ?_, ?_⟩, ?_, ?_, ?_⟩ <;> decide +kernel, by decide +kernel, by decide +kernel, by decide +kernel⟩

theorem witness_remote_connections_G23b : ∃ (a : Arrival) (s : State), Arrives s a ∧ s.rma.ringHeld = [] ∧ (∀ o ∈ s.rma.ops, o.cid = a.pkt.cid.toNat → o.src = OpSource.firmware) ∧ (∀ o ∈ s.rma.waitOps, o.cid ≠ a.pkt.cid.toNat) :=
  ⟨arr, linked id (fun r => { r with ops := [fop] }), by refine ⟨⟨?_, ?_, ?_⟩, ?_, ?_, ?_⟩ <;> decide +kernel, by decide +kernel, by decide +kernel, by decide +kernel⟩

theorem witness_remote_connections_G24 : ∃ (a : Arrival) (s : State), Arrives s a ∧ (∀ o ∈ s.rma.ops, o.cid ≠ a.pkt.cid.toNat) ∧ (ctxOf s a.pkt.cid.toNat).stopped = false :=
  ⟨arr, linked, by refine ⟨⟨?_, ?_, ?_⟩, ?_, ?_, ?_⟩ <;> decide +kernel, by decide +kernel, by decide +kernel⟩

theorem witness_remote_connections_G25 : ∃ (a : Arrival) (s : State), Arrives s a ∧ (∀ o ∈ s.rma.ops, o.cid ≠ a.pkt.cid.toNat) ∧ (ctxOf s a.pkt.cid.toNat).rekeying = true :=
  ⟨arr, linked (fun c => { c with rekeying := true }), by refine ⟨⟨?_, ?_, ?_⟩, ?_, ?_, ?_⟩ <;> decide +kernel, by decide +kernel, by decide +kernel⟩

theorem witness_remote_connections_G26 : ∃ (m : Msg) (dcid : Word) (s : State), Admitted s m { type := 65, vf := true } ∧ (ctxOf s (BitVec.toNat dcid % 65536)).state ≠ cxFree ∧ (ctxOf s (BitVec.toNat dcid % 65536)).ctag = BitVec.toNat dcid / 65536 ∧ ownsCtx m (ctxOf s (BitVec.toNat dcid % 65536)) = true ∧ (∀ o ∈ s.rma.ops ++ s.rma.waitOps, o.cid ≠ BitVec.toNat dcid % 65536) ∧ s.rma.ringHeld = [] :=
  ⟨msg 0, 0x70005, upAt [] linked, by unfold Admitted; decide +kernel, by decide +kernel, by decide +kernel, by decide +kernel, by decide +kernel, by decide +kernel⟩

theorem witness_remote_connections_G26b : ∃ (m : Msg) (dcid : Word) (s : State), Admitted s m { type := 65, vf := true } ∧ ((ctxOf s (BitVec.toNat dcid % 65536)).state = cxFree ∨ (ctxOf s (BitVec.toNat dcid % 65536)).ctag ≠ BitVec.toNat dcid / 65536 ∨ ownsCtx m (ctxOf s (BitVec.toNat dcid % 65536)) = false) :=
  ⟨msg 2 (some 1), 5, upAt [] linked, by unfold Admitted; decide +kernel, by decide +kernel⟩

theorem witness_remote_connections_G27 : ∃ (m : Msg) (dcid : Word) (s : State), Admitted s m { type := 66, vf := true } ∧ (ctxOf s (BitVec.toNat dcid % 65536)).state = cxOpen ∧ (ctxOf s (BitVec.toNat dcid % 65536)).ctag = BitVec.toNat dcid / 65536 ∧ ownsCtx m (ctxOf s (BitVec.toNat dcid % 65536)) = true ∧ (ctxOf s (BitVec.toNat dcid % 65536)).rekeying = false ∧ (ctxOf s (BitVec.toNat dcid % 65536)).stopped = false :=
  ⟨msg 0, 0x70005, upAt [] linked, by unfold Admitted; decide +kernel, by decide +kernel, by decide +kernel, by decide +kernel, by decide +kernel, by decide +kernel⟩

theorem witness_remote_connections_G27b : ∃ (m : Msg) (dcid : Word) (s : State), Admitted s m { type := 66, vf := true } ∧ (ctxOf s (BitVec.toNat dcid % 65536)).state = cxOpen ∧ (ctxOf s (BitVec.toNat dcid % 65536)).ctag = BitVec.toNat dcid / 65536 ∧ ownsCtx m (ctxOf s (BitVec.toNat dcid % 65536)) = true ∧ (ctxOf s (BitVec.toNat dcid % 65536)).rekeying = true :=
  ⟨msg 1, 0x70005, upAt [] (linked (fun c => { c with rekeying := true })), by unfold Admitted; decide +kernel, by decide +kernel, by decide +kernel, by decide +kernel, by decide +kernel⟩

/-! ### RemoteTimersFetchesAndRings: states and operands that meet its hypotheses -/

theorem witness_remote_timers_fetches_and_rings_G28 : ∃ (cid : BitVec 16) (s : State), (ctxOf s cid.toNat).state = cxOpen ∧ 0 < (ctxOf s cid.toNat).unacked ∧ (ctxOf s cid.toNat).stopped = false :=
  ⟨5, linked (fun c => { c with unacked := 1 }), by decide +kernel, by decide +kernel, by decide +kernel⟩

theorem witness_remote_timers_fetches_and_rings_G28b : ∃ (cid : BitVec 16) (s : State), (ctxOf s cid.toNat).unacked = 0 :=
  ⟨5, linked, by decide +kernel⟩

theorem witness_remote_timers_fetches_and_rings_G29 : ∃ (cid : BitVec 16) (s : State) (o : RmaOp), s.rma.ops = [o] ∧ o.cid = cid.toNat ∧ plainSource o ∧ o.settling = false ∧ o.acked < o.sent ∧ answered o.code = false ∧ (ctxOf s cid.toNat).state = cxOpen ∧ (ctxOf s cid.toNat).paused = false ∧ s.rma.ringHeld = [] :=
  ⟨5, linked id (fun r => { r with ops := [{ rop with code := omWrite }] }) [(.rmaTimers, 0x70000)], { rop with code := omWrite }, by decide +kernel, by decide +kernel, by first | exact Or.inl rfl | exact Or.inr ⟨_, _, _, rfl⟩, by decide +kernel, by decide +kernel, by decide +kernel, by decide +kernel, by decide +kernel, by decide +kernel⟩

theorem witness_remote_timers_fetches_and_rings_G29b : ∃ (cid : BitVec 16) (s : State) (o : RmaOp), s.rma.ops = [o] ∧ o.cid = cid.toNat ∧ plainSource o ∧ o.settling = false ∧ o.acked < o.sent ∧ answered o.code = false ∧ (ctxOf s cid.toNat).state = cxOpen ∧ (ctxOf s cid.toNat).paused = false ∧ s.rma.ringHeld = [] ∧ retryMax s ≤ (ctxOf s cid.toNat).retries :=
  ⟨5, linked (fun c => { c with retries := 7 }) (fun r => { r with ops := [{ rop with code := omWrite }] }) [(.rmaTimers, 0x70000)], { rop with code := omWrite }, by decide +kernel, by decide +kernel, by first | exact Or.inl rfl | exact Or.inr ⟨_, _, _, rfl⟩, by decide +kernel, by decide +kernel, by decide +kernel, by decide +kernel, by decide +kernel, by decide +kernel, by decide +kernel⟩

theorem witness_remote_timers_fetches_and_rings_G30 : ∃ (cid : BitVec 16) (s : State) (o : RmaOp) (bs : List Byte) (p : ℕ), s.rma.ops = [o] ∧ o.cid = cid.toNat ∧ o.settling = false ∧ o.acked = 0 ∧ o.code = omWrite ∧ o.data = some bs ∧ opPackets (ctxOf s cid.toNat).mss o = 1 ∧ o.sent = 1 ∧ o.firstPsn = some p ∧ (ctxOf s cid.toNat).paused = true ∧ (ctxOf s cid.toNat).stopped = false ∧ stopsFrozen s o = false :=
  ⟨5, linked (fun c => { c with paused := true }) (fun r => { r with ops := [{ rop with code := omWrite, data := some [1,2,3,4,5,6,7,8] }] }), { rop with code := omWrite, data := some [1,2,3,4,5,6,7,8] }, [1,2,3,4,5,6,7,8], 19, by decide +kernel, by decide +kernel, by decide +kernel, by decide +kernel, by decide +kernel, by decide +kernel, by decide +kernel, by decide +kernel, by decide +kernel, by decide +kernel, by decide +kernel, by decide +kernel⟩

theorem witness_remote_timers_fetches_and_rings_G31 : ∃ (cid : BitVec 16) (s : State), (∀ o ∈ s.rma.ops, o.cid = cid.toNat → o.src = OpSource.firmware) ∧ (∀ o ∈ s.rma.waitOps, o.cid ≠ cid.toNat) ∧ s.rma.ringHeld = [] ∧ (ctxOf s cid.toNat).stopped = true ∧ (ctxOf s cid.toNat).state = cxOpen :=
  ⟨5, linked (fun c => { c with stopped := true }), by decide +kernel, by decide +kernel, by decide +kernel, by decide +kernel, by decide +kernel⟩

theorem witness_remote_timers_fetches_and_rings_G32 : ∃ (cid : BitVec 16) (s : State), (ctxOf s cid.toNat).oldOk = true :=
  ⟨5, linked (fun c => { c with oldOk := true }), by decide +kernel⟩

theorem witness_remote_timers_fetches_and_rings_G33 : ∃ (cid : BitVec 16) (s : State) (q : Parked) (addr : ℕ), s.rma.fetching.contains cid.toNat = true ∧ ((ctxOf s cid.toNat).hostStore = false ∨ fnLost s (backingFn (ctxOf s cid.toNat)) = false) ∧ s.rma.parked = [q] ∧ q.cid = cid.toNat ∧ q.arr.pkt.cid = cid ∧ q.code = omWrite ∧ s.rma.cached.contains cid.toNat = false ∧ s.rma.cached.length < 4096 ∧ s.rma.ops = [] ∧ Authentic s q.arr ∧ InOrder s omWrite q.arr ∧ (Granted s q.arr q.arr.pkt.data.length addr (fun e ↦ e.write) false true) :=
  ⟨5, linked id (fun r => { r with cached := [], fetching := [5], parked := [{ cid := 5, code := omWrite, arr := arr }] }), { cid := 5, code := omWrite, arr := arr }, 0x2000008, by decide +kernel, by decide +kernel, by decide +kernel, by decide +kernel, by decide +kernel, by decide +kernel, by decide +kernel, by decide +kernel, by decide +kernel, by constructor <;> decide +kernel, by constructor <;> decide +kernel, ⟨by decide +kernel, by decide +kernel, by decide +kernel, holds_of_some (by decide +kernel)⟩⟩

theorem witness_remote_timers_fetches_and_rings_G34 : ∃ (cid : BitVec 16) (s : State), s.rma.fetching.contains cid.toNat = true :=
  ⟨5, linked id (fun r => { r with cached := [], fetching := [5], parked := [{ cid := 5, code := omWrite, arr := arr }] }), by decide +kernel⟩

theorem witness_remote_timers_fetches_and_rings_G35 : ∃ (m : Master) (p : Fin 12) (index : BitVec 16) (s : State), mayRing m (↑p : ℕ) = true ∧ ringOn s (↑p : ℕ) = true ∧ index.toNat = (rdFld s (Reg.rmaWqci (↑p : ℕ)) 15 0 + 1) % 65536 ∧ ringWaits s (↑p : ℕ) = false ∧ s.rma.ringReads.contains (↑p : ℕ) = false ∧ ((s.rma.ringHeld.any fun e ↦ e.1 == (↑p : ℕ)) = false) ∧ bit (rd s (Reg.rmaRctl (↑p : ℕ))) 30 = false :=
  ⟨.pf, 0, 1, linked id id [(.rmaRctl 0, 0x80000002)], by decide +kernel, by decide +kernel, by decide +kernel, by decide +kernel, by decide +kernel, by decide +kernel, by decide +kernel⟩

theorem witness_remote_timers_fetches_and_rings_G36 : ∃ (m : Master) (p : Fin 12) (index : BitVec 16) (s : State) (k : ℕ), mayRing m (↑p : ℕ) = true ∧ ringOn s (↑p : ℕ) = true ∧ index.toNat = (rdFld s (Reg.rmaWqci (↑p : ℕ)) 15 0 + 1) % 65536 ∧ ringWaits s (↑p : ℕ) = false ∧ s.rma.ringReads.contains (↑p : ℕ) = false ∧ ((s.rma.ringHeld.any fun e ↦ e.1 == (↑p : ℕ)) = false) ∧ bit (rd s (Reg.rmaRctl (↑p : ℕ))) 30 = true ∧ leAt (rdBytes s (regionBase s (↑p : ℕ) + ringBase s (↑p : ℕ) + rdFld s (Reg.rmaWqci (↑p : ℕ)) 15 0 % ringN s (↑p : ℕ) * 64) 64) 1 1 / 2 % 2 = 0 ∧ engineMay s (Requester.plot p) (regionBase s (↑p : ℕ) + ringBase s (↑p : ℕ) + rdFld s (Reg.rmaWqci (↑p : ℕ)) 15 0 % ringN s (↑p : ℕ) * 64) 64 false = true ∧ freeSlot s = some k ∧ [1, 2, 3, 5, 6, 7].contains (leAt (rdBytes s (regionBase s (↑p : ℕ) + ringBase s (↑p : ℕ) + rdFld s (Reg.rmaWqci (↑p : ℕ)) 15 0 % ringN s (↑p : ℕ) * 64) 64) 0 1) = true ∧ (ctxOf s (leAt (rdBytes s (regionBase s (↑p : ℕ) + ringBase s (↑p : ℕ) + rdFld s (Reg.rmaWqci (↑p : ℕ)) 15 0 % ringN s (↑p : ℕ) * 64) 64) 2 2)).state = cxOpen ∧ (ctxOf s (leAt (rdBytes s (regionBase s (↑p : ℕ) + ringBase s (↑p : ℕ) + rdFld s (Reg.rmaWqci (↑p : ℕ)) 15 0 % ringN s (↑p : ℕ) * 64) 64) 2 2)).owner = (↑p : ℕ) ∧ leAt (rdBytes s (regionBase s (↑p : ℕ) + ringBase s (↑p : ℕ) + rdFld s (Reg.rmaWqci (↑p : ℕ)) 15 0 % ringN s (↑p : ℕ) * 64) 64) 24 4 ≤ 2 ^ 30 ∧ (leAt (rdBytes s (regionBase s (↑p : ℕ) + ringBase s (↑p : ℕ) + rdFld s (Reg.rmaWqci (↑p : ℕ)) 15 0 % ringN s (↑p : ℕ) * 64) 64) 0 1 = omSend → leAt (rdBytes s (regionBase s (↑p : ℕ) + ringBase s (↑p : ℕ) + rdFld s (Reg.rmaWqci (↑p : ℕ)) 15 0 % ringN s (↑p : ℕ) * 64) 64) 24 4 ≤ (ctxOf s (leAt (rdBytes s (regionBase s (↑p : ℕ) + ringBase s (↑p : ℕ) + rdFld s (Reg.rmaWqci (↑p : ℕ)) 15 0 % ringN s (↑p : ℕ) * 64) 64) 2 2)).mss) ∧ s.rma.cached.contains (leAt (rdBytes s (regionBase s (↑p : ℕ) + ringBase s (↑p : ℕ) + rdFld s (Reg.rmaWqci (↑p : ℕ)) 15 0 % ringN s (↑p : ℕ) * 64) 64) 2 2) = false :=
  ⟨.pf, 0, 0, (let s := linked id (fun r => { r with cached := [] }) [(.rmaRctl 0, 0xC0000002), (.rmaWqci 0, 0xFFFF)]; { s with mem := workEntry 1 ++ (workEntry 1).map (fun e => (e.1 + 192, e.2)) }), 0, by decide +kernel, by decide +kernel, by decide +kernel, by decide +kernel, by decide +kernel, by decide +kernel, by decide +kernel, by decide +kernel, by decide +kernel, by decide +kernel, by decide +kernel, by decide +kernel, by decide +kernel, by decide +kernel, by decide +kernel, by decide +kernel⟩

theorem witness_remote_timers_fetches_and_rings_G37 : ∃ (m : Master) (p : Fin 12) (index : BitVec 16) (s : State), mayRing m (↑p : ℕ) = true ∧ ringOn s (↑p : ℕ) = true ∧ index.toNat = (rdFld s (Reg.rmaWqci (↑p : ℕ)) 15 0 + 1) % 65536 ∧ ringWaits s (↑p : ℕ) = false ∧ s.rma.ringReads.contains (↑p : ℕ) = false ∧ ((s.rma.ringHeld.any fun e ↦ e.1 == (↑p : ℕ)) = false) ∧ bit (rd s (Reg.rmaRctl (↑p : ℕ))) 30 = true ∧ leAt (rdBytes s (regionBase s (↑p : ℕ) + ringBase s (↑p : ℕ) + rdFld s (Reg.rmaWqci (↑p : ℕ)) 15 0 % ringN s (↑p : ℕ) * 64) 64) 1 1 / 2 % 2 = 0 ∧ engineMay s (Requester.plot p) (regionBase s (↑p : ℕ) + ringBase s (↑p : ℕ) + rdFld s (Reg.rmaWqci (↑p : ℕ)) 15 0 % ringN s (↑p : ℕ) * 64) 64 false = true ∧ [1, 2, 3, 5, 6, 7].contains (leAt (rdBytes s (regionBase s (↑p : ℕ) + ringBase s (↑p : ℕ) + rdFld s (Reg.rmaWqci (↑p : ℕ)) 15 0 % ringN s (↑p : ℕ) * 64) 64) 0 1) = false ∧ (rdFld s (Reg.rmaCqpi (↑p : ℕ)) 15 0 + 65536 - rdFld s (Reg.rmaCqci (↑p : ℕ)) 15 0) % 65536 < ringN s (↑p : ℕ) :=
  ⟨.vf 0, 0, 1, (let s := linked id (fun r => { r with cached := [] }) [(.rmaRctl 0, 0xC0000002)]; { s with mem := workEntry 4 }), by decide +kernel, by decide +kernel, by decide +kernel, by decide +kernel, by decide +kernel, by decide +kernel, by decide +kernel, by decide +kernel, by decide +kernel, by decide +kernel, by decide +kernel⟩

theorem witness_remote_timers_fetches_and_rings_G38 : ∃ (o : RmaOp) (rest : List RmaOp) (k : ℕ) (s : State), s.rma.waitOps = o :: rest ∧ freeSlot s = some k ∧ ctxDown s o.cid = false ∧ o.src = OpSource.firmware ∧ s.rma.cached.contains o.cid = false :=
  ⟨fop, [rop], 0, linked id (fun r => { r with waitOps := [fop, rop], cached := [] }), by decide +kernel, by decide +kernel, by decide +kernel, by decide +kernel, by decide +kernel⟩

theorem witness_remote_timers_fetches_and_rings_G39 : ∃ (m : Master) (p : Fin 12), mayRing m (↑p : ℕ) = false :=
  ⟨.vf 1, 0, by decide +kernel⟩

theorem witness_remote_timers_fetches_and_rings_G39b : ∃ (m : Master) (p : Fin 12) (s : State), mayRing m (↑p : ℕ) = true ∧ s.rma.recvRecs = [] ∧ s.rma.heldRecs = [] :=
  ⟨.vf 0, 0, linked, by decide +kernel, by decide +kernel, by decide +kernel⟩

theorem witness_remote_timers_fetches_and_rings_G39c : ∃ (m : Master) (p : Fin 12) (index : BitVec 16) (s : State) (r : List Byte), mayRing m (↑p : ℕ) = true ∧ s.rma.recvRecs = [] ∧ s.rma.heldRecs = [((↑p : ℕ), r)] ∧ ringOn s (↑p : ℕ) = true ∧ (rdFld s (Reg.rmaCqpi (↑p : ℕ)) 15 0 + 65536 - index.toNat) % 65536 < ringN s (↑p : ℕ) :=
  ⟨.vf 0, 0, 5, linked id (fun r => { r with heldRecs := [(0, List.replicate 32 1)] }) [(.rmaRctl 0, 0xC0000002), (.rmaCqpi 0, 5)], List.replicate 32 1, by decide +kernel, by decide +kernel, by decide +kernel, by decide +kernel, by decide +kernel⟩

/-! ### RegionsRevocationsAndRmaCommands: states and operands that meet its hypotheses -/

theorem witness_regions_revocations_and_rma_commands_G40 : ∃ (m : Msg) (base : ℕ) (len : ℕ) (s : State) (i : ℕ), Admitted s m { type := 67, vf := true } ∧ regionFits s (msgOwner m) base len = true ∧ (List.find? (fun i ↦ !(regionEnt s i).valid && (regionEnt s i).revoking.isNone) (List.range 262144) = some i) :=
  ⟨msg 1, 0x2000000, 0x1000000, upAt [] linked, 0, by unfold Admitted; decide +kernel, by decide +kernel, by decide +kernel⟩

theorem witness_regions_revocations_and_rma_commands_G40b : ∃ (m : Msg) (base : ℕ) (len : ℕ) (s : State), Admitted s m { type := 67, vf := true } ∧ regionFits s (msgOwner m) base len = false :=
  ⟨msg 1, 0x2000000, 0x1000001, upAt [] linked, by unfold Admitted; decide +kernel, by decide +kernel⟩

theorem witness_regions_revocations_and_rma_commands_G41 : ∃ (m : Msg) (key : Word) (s : State), Admitted s m { type := 68, vf := true } ∧ (regionEnt s (BitVec.toNat key % 2 ^ 18)).valid = true ∧ (regionEnt s (BitVec.toNat key % 2 ^ 18)).tag = BitVec.toNat key / 2 ^ 18 ∧ (1 ≤ (↑m.owner : ℕ) → (↑m.owner : ℕ) ≤ 12 → (regionEnt s (BitVec.toNat key % 2 ^ 18)).owner + 1 = (↑m.owner : ℕ)) ∧ s.rma.revokeWait = [] ∧ s.rma.revocations.length < 64 :=
  ⟨msg 1, BitVec.ofNat 32 (3 * 2 ^ 18 + 9), upAt [] linked, by unfold Admitted; decide +kernel, by decide +kernel, by decide +kernel, by decide +kernel, by decide +kernel, by decide +kernel⟩

theorem witness_regions_revocations_and_rma_commands_G41b : ∃ (m : Msg) (key : Word) (s : State), Admitted s m { type := 68, vf := true } ∧ ((regionEnt s (BitVec.toNat key % 2 ^ 18)).valid = false ∨ (regionEnt s (BitVec.toNat key % 2 ^ 18)).tag ≠ BitVec.toNat key / 2 ^ 18) :=
  ⟨msg 1, BitVec.ofNat 32 (2 * 2 ^ 18 + 9), upAt [] linked, by unfold Admitted; decide +kernel, by decide +kernel⟩

theorem witness_regions_revocations_and_rma_commands_G42 : ∃ (index : BitVec 18) (v : Revocation) (s : State), (List.find? (fun v ↦ v.index == index.toNat) s.rma.revocations = some v) ∧ s.rma.revokeWait = [] ∧ s.rma.parked = [] ∧ s.net.toRma = [] :=
  ⟨9, { index := 9, stamp := 4, owed := some (1, 77, 3) }, onFw (fun w => { w with boxes := [(1, { version := 3, requests := [⟨0x44, 77, true, 0⟩] })] }) (linked id (fun r => { r with revocations := [{ index := 9, stamp := 4, owed := some (1, 77, 3) }] })), by decide +kernel, by decide +kernel, by decide +kernel, by decide +kernel⟩

theorem witness_regions_revocations_and_rma_commands_G43 : ∃ (index : BitVec 18) (v : Revocation) (s : State) (q : Parked), (List.find? (fun v ↦ v.index == index.toNat) s.rma.revocations = some v) ∧ s.rma.revokeWait = [] ∧ q ∈ s.rma.parked ∧ q.arr.pkt.rkey = regionKey s v.index ∧ q.arr.stamp < v.stamp :=
  ⟨9, { index := 9, stamp := 4, owed := none }, linked id (fun r => { r with revocations := [{ index := 9, stamp := 4, owed := none }], parked := [{ cid := 5, code := omWrite, arr := arr }] }), { cid := 5, code := omWrite, arr := arr }, by decide +kernel, by decide +kernel, by decide +kernel, by decide +kernel, by decide +kernel⟩

theorem witness_regions_revocations_and_rma_commands_G44 : ∃ (m : Master) (index : BitVec 18) (cmd : Instr), mayRmaCmd m = false ∧ cmd ∈ [Instr.rmaReadContext m index, Instr.rmaWriteContext m index, Instr.rmaReadRegion m index, Instr.rmaWriteRegion m index, Instr.rmaPin m index, Instr.rmaUnpin m index] :=
  ⟨.pf, 5, .rmaPin .pf 5, by decide +kernel, by decide +kernel⟩

theorem witness_regions_revocations_and_rma_commands_G45a : ∃ (m : Master) (index : BitVec 18), mayRmaCmd m = true ∧ index.toNat < 65536 :=
  ⟨.core 2, 5, by decide +kernel, by decide +kernel⟩

theorem witness_regions_revocations_and_rma_commands_G45b : ∃ (m : Master) (index : BitVec 18), mayRmaCmd m = true ∧ index.toNat < 65536 :=
  ⟨.core 21, 5, by decide +kernel, by decide +kernel⟩

theorem witness_regions_revocations_and_rma_commands_G45c : ∃ (m : Master) (index : BitVec 18) (s : State), mayRmaCmd m = true ∧ index.toNat < 65536 ∧ ((ctxOf s index.toNat).pinned = true ∨ (ctxOf s index.toNat).planned = true ∨ pinnedCount s < 2048) :=
  ⟨.core 2, 5, linked, by decide +kernel, by decide +kernel, by decide +kernel⟩

theorem witness_regions_revocations_and_rma_commands_G45d : ∃ (m : Master) (index : BitVec 18) (s : State), mayRmaCmd m = true ∧ index.toNat < 65536 ∧ (ctxOf s index.toNat).pinned = false ∧ (ctxOf s index.toNat).planned = false ∧ 2048 ≤ pinnedCount s :=
  ⟨.core 2, 0, linked id (fun r => { r with ctxs := (List.range 2048).map (fun i => (i + 1, { pinned := true })) }), by decide +kernel, by decide +kernel, by decide +kernel, by decide +kernel, by decide +kernel⟩

theorem witness_regions_revocations_and_rma_commands_G45e : ∃ (m : Master) (index : BitVec 18), mayRmaCmd m = true ∧ index.toNat < 65536 :=
  ⟨.core 2, 5, by decide +kernel, by decide +kernel⟩

theorem witness_regions_revocations_and_rma_commands_G46 : ∃ (m : Master) (index : BitVec 18), mayRmaCmd m = true ∧ 65536 ≤ index.toNat :=
  ⟨.core 2, 0x10000, by decide +kernel, by decide +kernel⟩

theorem witness_regions_revocations_and_rma_commands_G47 : ∃ (m : Master), mayRmaCmd m = true :=
  ⟨.core 2, by decide +kernel⟩

theorem witness_regions_revocations_and_rma_commands_G47b : ∃ (m : Master), mayRmaCmd m = true :=
  ⟨.core 2, by decide +kernel⟩

theorem witness_regions_revocations_and_rma_commands_G48a : ∃ (m : Master) (index : BitVec 18) (s : State), mayRmaCmd m = true ∧ bit (rd s (Reg.rmaData 1)) 11 = true ∧ rdFld s (Reg.rmaData 1) 7 0 ≤ 12 ∧ (regionEnt s index.toNat).revoking = none ∧ regionFits s (rdFld s (Reg.rmaData 1) 7 0) (rdFld s (Reg.rmaData 2) 31 0 + rdFld s (Reg.rmaData 3) 31 0 % 256 * 2 ^ 32) (rdFld s (Reg.rmaData 4) 31 0 + rdFld s (Reg.rmaData 5) 31 0 * 2 ^ 32) = true :=
  ⟨.core 2, 9, linked id id [(.rmaData 1, 0xF00), (.rmaData 2, 0x2000000), (.rmaData 4, 0x1000)], by decide +kernel, by decide +kernel, by decide +kernel, by decide +kernel, by decide +kernel⟩

theorem witness_regions_revocations_and_rma_commands_G48b : ∃ (m : Master) (s : State), mayRmaCmd m = true ∧ bit (rd s (Reg.rmaData 1)) 11 = true ∧ rdFld s (Reg.rmaData 1) 7 0 ≤ 12 ∧ regionFits s (rdFld s (Reg.rmaData 1) 7 0) (rdFld s (Reg.rmaData 2) 31 0 + rdFld s (Reg.rmaData 3) 31 0 % 256 * 2 ^ 32) (rdFld s (Reg.rmaData 4) 31 0 + rdFld s (Reg.rmaData 5) 31 0 * 2 ^ 32) = false :=
  ⟨.core 2, linked id id [(.rmaData 1, 0xF0C), (.rmaData 2, 0x2000000), (.rmaData 4, 0x1000)], by decide +kernel, by decide +kernel, by decide +kernel, by decide +kernel⟩

/-! ### StorageChannels: states and operands that meet its hypotheses -/

theorem witness_storage_channels_H1 : ∃ (m : Master) (n : Fin 64) (irq : Bool) (nsb : Byte) (tag : Half) (op : ℕ) (cmd : Instr) (s : State), (op, cmd) ∈ [(0, Instr.stgRead m n irq nsb tag), (1, Instr.stgWrite m n irq nsb tag), (2, Instr.stgFlush m n irq nsb tag), (3, Instr.stgDealloc m n irq nsb tag)] ∧ mayStg s m (↑n : ℕ) = true ∧ (stgState s (↑n : ℕ) = sgBusy ∨ stgState s (↑n : ℕ) = sgAborting) :=
  ⟨.core 2, 4, true, 2, 6, 0, .stgRead (.core 2) 4 true 2 6, storage 4 id id [(.stgStatus 4, 0x20000000)], by decide +kernel, by decide +kernel, by decide +kernel⟩

theorem witness_storage_channels_H2 : ∃ (m : Master) (n : Fin 64) (irq : Bool) (nsb : Byte) (tag : Half) (op : ℕ) (cmd : Instr) (s : State) (code : ℕ), (op, cmd) ∈ [(0, Instr.stgRead m n irq nsb tag), (1, Instr.stgWrite m n irq nsb tag), (2, Instr.stgFlush m n irq nsb tag), (3, Instr.stgDealloc m n irq nsb tag)] ∧ mayStg s m (↑n : ℕ) = true ∧ (stgState s (↑n : ℕ) = sgIdle ∨ stgState s (↑n : ℕ) = sgDone) ∧ stgCheck s (↑n : ℕ) op (BitVec.toNat nsb) = some code :=
  ⟨.core 2, 4, true, 3, 6, 0, .stgRead (.core 2) 4 true 3 6, storage 4 id, 3, by decide +kernel, by decide +kernel, by decide +kernel, by decide +kernel⟩

theorem witness_storage_channels_H3 : ∃ (m : Master) (n : Fin 64) (irq : Bool) (nsb : Byte) (tag : Half) (op : ℕ) (cmd : Instr) (s : State) (b : Binding) (k : ℕ), (op, cmd) ∈ [(0, Instr.stgRead m n irq nsb tag), (1, Instr.stgWrite m n irq nsb tag), (2, Instr.stgFlush m n irq nsb tag), (3, Instr.stgDealloc m n irq nsb tag)] ∧ mayStg s m (↑n : ℕ) = true ∧ (stgState s (↑n : ℕ) = sgIdle ∨ stgState s (↑n : ℕ) = sgDone) ∧ stgCheck s (↑n : ℕ) op (BitVec.toNat nsb) = none ∧ bindingOf s (↑n : ℕ) (BitVec.toNat nsb) = some b ∧ (ctxOf s b.cid).ctag = b.ctag ∧ ctxDown s b.cid = false ∧ freeSlot s = some k ∧ s.rma.cached.contains b.cid = false ∧ ((ctxOf s b.cid).hostStore = false ∨ fnLost s (backingFn (ctxOf s b.cid)) = false) :=
  ⟨.core 2, 4, true, 2, 6, 0, .stgRead (.core 2) 4 true 2 6, storage 4 id (fun r => { r with cached := [] }), { cid := 5, ctag := 7, nsid := 9, capacity := 20, readOnly := false, owner := 0 }, 0, by decide +kernel, by decide +kernel, by decide +kernel, by decide +kernel, by decide +kernel, by decide +kernel, by decide +kernel, by decide +kernel, by decide +kernel, by decide +kernel⟩

theorem witness_storage_channels_H3b : ∃ (m : Master) (n : Fin 64) (irq : Bool) (nsb : Byte) (tag : Half) (op : ℕ) (cmd : Instr) (s : State) (b : Binding) (k : ℕ), (op, cmd) ∈ [(0, Instr.stgRead m n irq nsb tag), (1, Instr.stgWrite m n irq nsb tag), (2, Instr.stgFlush m n irq nsb tag), (3, Instr.stgDealloc m n irq nsb tag)] ∧ mayStg s m (↑n : ℕ) = true ∧ (stgState s (↑n : ℕ) = sgIdle ∨ stgState s (↑n : ℕ) = sgDone) ∧ stgCheck s (↑n : ℕ) op (BitVec.toNat nsb) = none ∧ bindingOf s (↑n : ℕ) (BitVec.toNat nsb) = some b ∧ (ctxOf s b.cid).ctag = b.ctag ∧ ctxDown s b.cid = false ∧ freeSlot s = some k ∧ s.rma.cached.contains b.cid = false ∧ ((ctxOf s b.cid).hostStore = false ∨ fnLost s (backingFn (ctxOf s b.cid)) = false) :=
  ⟨.core 2, 63, false, 2, 0xFFFF, 3, .stgDealloc (.core 2) 63 false 2 0xFFFF, storage 63 id (fun r => { r with cached := [] }), { cid := 5, ctag := 7, nsid := 9, capacity := 20, readOnly := false, owner := 0 }, 0, by decide +kernel, by decide +kernel, by decide +kernel, by decide +kernel, by decide +kernel, by decide +kernel, by decide +kernel, by decide +kernel, by decide +kernel, by decide +kernel⟩

theorem witness_storage_channels_H3c : ∃ (m : Master) (n : Fin 64) (irq : Bool) (nsb : Byte) (tag : Half) (op : ℕ) (cmd : Instr) (s : State) (b : Binding) (k : ℕ), (op, cmd) ∈ [(0, Instr.stgRead m n irq nsb tag), (1, Instr.stgWrite m n irq nsb tag), (2, Instr.stgFlush m n irq nsb tag), (3, Instr.stgDealloc m n irq nsb tag)] ∧ mayStg s m (↑n : ℕ) = true ∧ (stgState s (↑n : ℕ) = sgIdle ∨ stgState s (↑n : ℕ) = sgDone) ∧ stgCheck s (↑n : ℕ) op (BitVec.toNat nsb) = none ∧ bindingOf s (↑n : ℕ) (BitVec.toNat nsb) = some b ∧ (ctxOf s b.cid).ctag = b.ctag ∧ ctxDown s b.cid = false ∧ freeSlot s = some k ∧ s.rma.cached.contains b.cid = false ∧ ((ctxOf s b.cid).hostStore = false ∨ fnLost s (backingFn (ctxOf s b.cid)) = false) :=
  ⟨.core 2, 0, false, 2, 0xFFFF, 2, .stgFlush (.core 2) 0 false 2 0xFFFF, storage 0 id (fun r => { r with cached := [] }) [(.stgBlks 0, 0)], { cid := 5, ctag := 7, nsid := 9, capacity := 20, readOnly := false, owner := 0 }, 0, by decide +kernel, by decide +kernel, by decide +kernel, by decide +kernel, by decide +kernel, by decide +kernel, by decide +kernel, by decide +kernel, by decide +kernel, by decide +kernel⟩

theorem witness_storage_channels_H3d : ∃ (m : Master) (n : Fin 64) (irq : Bool) (nsb : Byte) (tag : Half) (op : ℕ) (cmd : Instr) (s : State) (b : Binding) (k : ℕ), (op, cmd) ∈ [(0, Instr.stgRead m n irq nsb tag), (1, Instr.stgWrite m n irq nsb tag), (2, Instr.stgFlush m n irq nsb tag), (3, Instr.stgDealloc m n irq nsb tag)] ∧ mayStg s m (↑n : ℕ) = true ∧ (stgState s (↑n : ℕ) = sgIdle ∨ stgState s (↑n : ℕ) = sgDone) ∧ stgCheck s (↑n : ℕ) op (BitVec.toNat nsb) = none ∧ bindingOf s (↑n : ℕ) (BitVec.toNat nsb) = some b ∧ (ctxOf s b.cid).ctag = b.ctag ∧ ctxDown s b.cid = false ∧ freeSlot s = some k ∧ s.rma.cached.contains b.cid = false ∧ ((ctxOf s b.cid).hostStore = false ∨ fnLost s (backingFn (ctxOf s b.cid)) = false) :=
  ⟨.core 2, 0, false, 2, 0xFFFF, 1, .stgWrite (.core 2) 0 false 2 0xFFFF, storage 0 id (fun r => { r with cached := [] }), { cid := 5, ctag := 7, nsid := 9, capacity := 20, readOnly := false, owner := 0 }, 0, by decide +kernel, by decide +kernel, by decide +kernel, by decide +kernel, by decide +kernel, by decide +kernel, by decide +kernel, by decide +kernel, by decide +kernel, by decide +kernel⟩

theorem witness_storage_channels_H4 : ∃ (m : Master) (n : Fin 64) (atag : Half) (c : StgCmd) (s : State), mayStg s m (↑n : ℕ) = true ∧ stgCmdOf s (↑n : ℕ) = some c ∧ stgState s (↑n : ℕ) = sgBusy ∧ c.tag = BitVec.toNat atag ∧ c.ending = none ∧ (∀ (o : RmaOp), stgOp s (↑n : ℕ) = some o → o.sent ≤ o.acked) :=
  ⟨.core 2, 4, 6, stgc, storage 4 (fun x => { x with cmds := [(4, stgc)] }) id [(.stgStatus 4, 0x20000000)], by decide +kernel, by decide +kernel, by decide +kernel, by decide +kernel, by decide +kernel, holds_of_some (by decide +kernel)⟩

theorem witness_storage_channels_H4b : ∃ (m : Master) (n : Fin 64) (atag : Half) (c : StgCmd) (s : State) (o : RmaOp), mayStg s m (↑n : ℕ) = true ∧ stgCmdOf s (↑n : ℕ) = some c ∧ stgState s (↑n : ℕ) = sgBusy ∧ c.tag = BitVec.toNat atag ∧ c.ending = none ∧ stgOp s (↑n : ℕ) = some o ∧ o.acked < o.sent :=
  ⟨.core 2, 4, 6, stgc, storage 4 (fun x => { x with cmds := [(4, stgc)] }) (fun r => { r with ops := [sop] }) [(.stgStatus 4, 0x20000000)], sop, by decide +kernel, by decide +kernel, by decide +kernel, by decide +kernel, by decide +kernel, by decide +kernel, by decide +kernel⟩

theorem witness_storage_channels_H4c : ∃ (m : Master) (n : Fin 64) (atag : Half) (c : StgCmd) (s : State), mayStg s m (↑n : ℕ) = true ∧ stgCmdOf s (↑n : ℕ) = some c ∧ c.tag ≠ BitVec.toNat atag :=
  ⟨.core 2, 4, 7, stgc, storage 4 (fun x => { x with cmds := [(4, stgc)] }) (fun r => { r with ops := [sop] }) [(.stgStatus 4, 0x20000000)], by decide +kernel, by decide +kernel, by decide +kernel⟩

theorem witness_storage_channels_H4d : ∃ (m : Master) (n : Fin 64) (c : StgCmd) (s : State), mayStg s m (↑n : ℕ) = true ∧ stgCmdOf s (↑n : ℕ) = some c ∧ (∀ (o : RmaOp), stgOp s (↑n : ℕ) = some o → o.sent ≤ o.acked) :=
  ⟨.core 2, 4, stgc, storage 4 (fun x => { x with cmds := [(4, stgc)] }) id [(.stgStatus 4, 0x20000000)], by decide +kernel, by decide +kernel, holds_of_some (by decide +kernel)⟩

theorem witness_storage_channels_H4e : ∃ (m : Master) (n : Fin 64) (c : StgCmd) (s : State) (o : RmaOp) (e : ℕ), mayStg s m (↑n : ℕ) = true ∧ stgCmdOf s (↑n : ℕ) = some c ∧ stgOp s (↑n : ℕ) = some o ∧ o.settling = true ∧ c.ending = some e ∧ e ≠ 12 :=
  ⟨.core 2, 4, { stgc with ending := some 1 }, storage 4 (fun x => { x with cmds := [(4, { stgc with ending := some 1 })] }) (fun r => { r with ops := [{ sop with settling := true }] }) [(.stgStatus 4, 0x20000000)], { sop with settling := true }, 1, by decide +kernel, by decide +kernel, by decide +kernel, by decide +kernel, by decide +kernel, by decide +kernel⟩

theorem witness_storage_channels_H5 : ∃ (m : Master) (n : Fin 64) (s : State) (irq : Bool) (nsb : Byte) (tag : Half) (cmd : Instr), mayStg s m (↑n : ℕ) = false ∧ cmd ∈ [Instr.stgRead m n irq nsb tag, Instr.stgWrite m n irq nsb tag, Instr.stgFlush m n irq nsb tag, Instr.stgDealloc m n irq nsb tag, Instr.stgAbort m n tag, Instr.channelReset m n, Instr.channelPowerOn m n, Instr.channelPowerOff m n] :=
  ⟨.vf 1, 4, storage 4 id id [(.stgCtl 4, 0x00800000)], true, 2, 6, .channelReset (.vf 1) 4, by decide +kernel, by decide +kernel⟩

theorem witness_storage_channels_H6 : ∃ (m : Master) (n : Fin 64) (s : State), mayStg s m (↑n : ℕ) = true ∧ stgCmdOf s (↑n : ℕ) = none :=
  ⟨.core 2, 4, storage 4 id, by decide +kernel, by decide +kernel⟩

theorem witness_storage_channels_H6b : ∃ (m : Master) (n : Fin 64) (s : State), mayStg s m (↑n : ℕ) = true :=
  ⟨.core 2, 4, storage 4 id id [(.stgCtl 4, 0x20000000)], by decide +kernel⟩

theorem witness_storage_channels_H6c : ∃ (m : Master) (n : Fin 64) (s : State), mayStg s m (↑n : ℕ) = true ∧ (↑n : ℕ) < 4 :=
  ⟨.core 2, 3, storage 3 id, by decide +kernel, by decide +kernel⟩

theorem witness_storage_channels_H6d : ∃ (m : Master) (n : Fin 64) (s : State), mayStg s m (↑n : ℕ) = true ∧ 4 ≤ (↑n : ℕ) ∧ stgCmdOf s (↑n : ℕ) = none :=
  ⟨.core 2, 4, storage 4 id, by decide +kernel, by decide +kernel, by decide +kernel⟩

theorem witness_storage_channels_H6e : ∃ (m : Master) (n : Fin 64) (s : State) (c : StgCmd), mayStg s m (↑n : ℕ) = true ∧ 4 ≤ (↑n : ℕ) ∧ stgCmdOf s (↑n : ℕ) = some c :=
  ⟨.core 2, 4, storage 4 (fun x => { x with cmds := [(4, stgc)] }) id [(.stgStatus 4, 0x20000000)], stgc, by decide +kernel, by decide +kernel, by decide +kernel⟩

theorem witness_storage_channels_H7 : ∃ (n : Fin 64) (s : State), stgCmdOf s (↑n : ℕ) = none ∧ rdFld s (Reg.stgCtl (↑n : ℕ)) 29 28 = 0 :=
  ⟨4, storage 4 id, by decide +kernel, by decide +kernel⟩

theorem witness_storage_channels_H8 : ∃ (m : Msg) (dcid : Word) (owner : Fin 16) (s : State) (i : ℕ), Admitted s m { type := 80, vf := true } ∧ mayBind m (↑owner : ℕ) = true ∧ (ctxOf s (BitVec.toNat dcid % 65536)).state = cxOpen ∧ (ctxOf s (BitVec.toNat dcid % 65536)).ctag = BitVec.toNat dcid / 65536 ∧ (ctxOf s (BitVec.toNat dcid % 65536)).ver = 2 ∧ (ctxOf s (BitVec.toNat dcid % 65536)).owner = min (↑owner : ℕ) 12 ∧ (List.find? (fun i ↦ (mapFind s.stg.bindings i).isNone) (List.range 256) = some i) :=
  ⟨msg 0, 0x70005, 0, upAt [] (storage 4 id), 0, by unfold Admitted; decide +kernel, by decide +kernel, by decide +kernel, by decide +kernel, by decide +kernel, by decide +kernel, by decide +kernel⟩

theorem witness_storage_channels_H8b : ∃ (m : Msg) (dcid : Word) (owner : Fin 16) (s : State), Admitted s m { type := 80, vf := true } ∧ mayBind m (↑owner : ℕ) = true ∧ ((ctxOf s (BitVec.toNat dcid % 65536)).state ≠ cxOpen ∨ (ctxOf s (BitVec.toNat dcid % 65536)).ctag ≠ BitVec.toNat dcid / 65536 ∨ (ctxOf s (BitVec.toNat dcid % 65536)).ver ≠ 2 ∨ (ctxOf s (BitVec.toNat dcid % 65536)).owner ≠ min (↑owner : ℕ) 12) :=
  ⟨msg 0, 0x70005, 1, upAt [] (storage 4 id), by unfold Admitted; decide +kernel, by decide +kernel, by decide +kernel⟩

theorem witness_storage_channels_H9 : ∃ (m : Msg) (index : Byte) (b : Binding) (s : State), mapFind s.stg.bindings (BitVec.toNat index) = some b ∧ mayBind m b.owner = true ∧ Admitted s m { type := 81, vf := true } ∧ b.unbind = none ∧ ((s.stg.cmds.any fun e ↦ e.2.nsb == BitVec.toNat index) = false) :=
  ⟨msg 0, 2, { cid := 5, ctag := 7, nsid := 9, capacity := 20, readOnly := false, owner := 0 }, upAt [] (storage 4 id), by decide +kernel, by decide +kernel, by unfold Admitted; decide +kernel, by decide +kernel, by decide +kernel⟩

theorem witness_storage_channels_H9b : ∃ (m : Msg) (index : Byte) (b : Binding) (s : State), mapFind s.stg.bindings (BitVec.toNat index) = some b ∧ mayBind m b.owner = true ∧ Admitted s m { type := 81, vf := true } ∧ b.unbind = none ∧ ((s.stg.cmds.any fun e ↦ e.2.nsb == BitVec.toNat index) = true) :=
  ⟨msg 0, 2, { cid := 5, ctag := 7, nsid := 9, capacity := 20, readOnly := false, owner := 0 }, upAt [] (storage 4 (fun x => { x with cmds := [(4, stgc)] })), by decide +kernel, by decide +kernel, by unfold Admitted; decide +kernel, by decide +kernel, by decide +kernel⟩

theorem witness_storage_channels_H9c : ∃ (m : Msg) (index : Byte) (b : Binding) (s : State), mapFind s.stg.bindings (BitVec.toNat index) = some b ∧ mayBind m b.owner = true ∧ Admitted s m { type := 82, vf := true } :=
  ⟨msg 0, 2, { cid := 5, ctag := 7, nsid := 9, capacity := 20, readOnly := false, owner := 0 }, upAt [] (storage 4 id), by decide +kernel, by decide +kernel, by unfold Admitted; decide +kernel⟩

/-! ### EpochsReportsAndKeys: states and operands that meet its hypotheses -/

theorem witness_epochs_reports_and_keys_I1 : ∃ (m : Msg) (buf : SecBuf) (s : State), Admitted s m { type := 96, vf := false, stage := 5 } ∧ epochOut s = false ∧ (∀ n ≤ 16384 + (deviceCert s).length, bufFits s buf n = true) ∧ bit (rd s Reg.secStatus) 28 = false :=
  ⟨msg 0, .staging 0, upAt, by unfold Admitted; decide +kernel, by decide +kernel, staging_fits (by decide +kernel), by decide +kernel⟩

theorem witness_epochs_reports_and_keys_I1b : ∃ (m : Msg) (full : Bool) (buf : SecBuf) (s : State), Admitted s m { type := 96, vf := false, stage := 5 } ∧ epochOut s = false ∧ (∀ n ≤ 16384 + (deviceCert s).length, bufFits s buf n = true) ∧ bit (rd s Reg.secStatus) 28 = true ∧ full = true ∧ 1 ≤ BitVec.toNat (rd s Reg.secLowleft) :=
  ⟨msg 0, true, .staging 0, upAt [(.secStatus, 0x10000000), (.secLowleft, 9)], by unfold Admitted; decide +kernel, by decide +kernel, staging_fits (by decide +kernel), by decide +kernel, by decide +kernel, by decide +kernel⟩

theorem witness_epochs_reports_and_keys_I1c : ∃ (m : Msg) (full : Bool) (buf : SecBuf) (s : State), Admitted s m { type := 96, vf := false, stage := 5 } ∧ epochOut s = false ∧ (∀ n ≤ 16384 + (deviceCert s).length, bufFits s buf n = true) ∧ bit (rd s Reg.secStatus) 28 = true ∧ full = true ∧ rd s Reg.secLowleft = 0 :=
  ⟨msg 0, true, .staging 0, upAt [(.secStatus, 0x10000000)], by unfold Admitted; decide +kernel, by decide +kernel, staging_fits (by decide +kernel), by decide +kernel, by decide +kernel, by decide +kernel⟩

theorem witness_epochs_reports_and_keys_I1d : ∃ (m : Msg) (full : Bool) (buf : SecBuf) (s : State) (meas : List Byte), Admitted s m { type := 96, vf := false, stage := 5 } ∧ epochOut s = false ∧ (∀ n ≤ 16384 + (deviceCert s).length, bufFits s buf n = true) ∧ bit (rd s Reg.secStatus) 28 = true ∧ full = false ∧ fuseCompactOff s = false ∧ s.sec.cert = some (reportMiddle s, meas) :=
  ⟨msg 0, false, .staging 0, (let s := upAt [(.secStatus, 0x10000000), (.secLowleft, 9)]; onSec' (fun c => { c with cert := some (reportMiddle s, [1]) }) s), [1], by unfold Admitted; decide +kernel, by decide +kernel, staging_fits (by decide +kernel), by decide +kernel, by decide +kernel, by decide +kernel, by exact congrArg (fun r => some (r, [(1 : Byte)])) (report_keeps_cert _ _).symm⟩

theorem witness_epochs_reports_and_keys_I2 : ∃ (s : State), s.sec.erasing = false ∧ epochOut s = false ∧ bit (rd s Reg.secStatus) 28 = false ∧ s.sec.reportsDue = [] :=
  ⟨State.reset, by decide +kernel, by decide +kernel, by decide +kernel, by decide +kernel⟩

theorem witness_epochs_reports_and_keys_I3b : ∃ (m : Msg) (buf : SecBuf) (h : List Byte) (bs : List Byte) (s : State), Admitted s m { type := 97, vf := false, stage := 5 } ∧ bufRead s buf 80 = some h ∧ leAt h 0 4 ≠ 1263750227 ∧ bufRead s buf 1672 = some bs ∧ leAt bs 0 4 = 1380666451 ∧ leAt bs 4 1 = 1 ∧ 1 ≤ leAt bs 5 1 ∧ leAt bs 5 1 ≤ 4 ∧ epochOut s = false ∧ leAt bs 8 4 = BitVec.toNat (rd s Reg.secEpoch) ∧ s.sec.reports.contains (List.take 32 (List.drop 32 bs)) = false :=
  ⟨msg 0, .staging 0, (List.range 80).map (fun i => mapGet 0 (releaseBytes 3) i), (List.range 1672).map (fun i => mapGet 0 (releaseBytes 3) i), secure (fun c => { c with staging := releaseBytes 3 }) [(.secEpoch, 4)], by unfold Admitted; decide +kernel, by decide +kernel, by decide +kernel, by decide +kernel, by decide +kernel, by decide +kernel, by decide +kernel, by decide +kernel, by decide +kernel, by decide +kernel, by decide +kernel⟩

theorem witness_epochs_reports_and_keys_I4 : ∃ (m : Msg) (slot : Fin 256) (k : KeySlot) (s : State), mapFind s.sec.slots (↑slot : ℕ) = some k ∧ Admitted s m { type := 98, vf := false } ∧ (k.kind = 3 ∨ k.kind = 4) :=
  ⟨msg 0, 255, kslot 3, secure (fun c => { c with slots := [(255, kslot 3)] }), by decide +kernel, by unfold Admitted; decide +kernel, by decide +kernel⟩

theorem witness_epochs_reports_and_keys_I4b : ∃ (m : Msg) (slot : Fin 256) (k : KeySlot) (s : State), mapFind s.sec.slots (↑slot : ℕ) = some k ∧ Admitted s m { type := 98, vf := false } ∧ k.kind ≠ 3 ∧ k.kind ≠ 4 :=
  ⟨msg 0, 255, kslot 2, secure (fun c => { c with slots := [(255, kslot 2)] }), by decide +kernel, by unfold Admitted; decide +kernel, by decide +kernel, by decide +kernel⟩

theorem witness_epochs_reports_and_keys_I4c : ∃ (m : Msg) (slot : Fin 256) (k : KeySlot) (s : State), mapFind s.sec.slots (↑slot : ℕ) = some k ∧ Admitted s m { type := 99, vf := false } :=
  ⟨msg 0, 255, kslot 2, secure (fun c => { c with slots := [(255, kslot 2)] }), by decide +kernel, by unfold Admitted; decide +kernel⟩

theorem witness_epochs_reports_and_keys_I6 : ∃ (m : Msg) (s : State), Admitted s m { type := 101, vf := false } ∧ s.sec.epoch < 32768 :=
  ⟨msg 0, secure (fun c => { c with epoch := 32767, slots := [(0, kslot 1)] }), by unfold Admitted; decide +kernel, by decide +kernel⟩

theorem witness_epochs_reports_and_keys_I7 : ∃ (m : Msg) (off : BitVec 16) (s : State) (bs : List Byte), Admitted s m { type := 102, vf := false } ∧ bs.length ≤ 1000 ∧ off.toNat + bs.length ≤ 65536 :=
  ⟨msg 0, 0xFFFE, upAt, [1, 2], by unfold Admitted; decide +kernel, by decide +kernel, by decide +kernel⟩

theorem witness_epochs_reports_and_keys_I7b : ∃ (m : Msg) (off : BitVec 16) (s : State) (len : ℕ), Admitted s m { type := 102, vf := false } ∧ len ≤ 1000 ∧ off.toNat + len ≤ 65536 :=
  ⟨msg 0, 0xFC18, upAt, 1000, by unfold Admitted; decide +kernel, by decide +kernel, by decide +kernel⟩

theorem witness_epochs_reports_and_keys_I7c : ∃ (m : Msg) (off : BitVec 16) (s : State) (len : ℕ), Admitted s m { type := 102, vf := false } ∧ (1000 < len ∨ 65536 < off.toNat + len) :=
  ⟨msg 0, 0xFFFE, upAt, 3, by unfold Admitted; decide +kernel, by decide +kernel⟩

theorem witness_epochs_reports_and_keys_I9 : ∃ (s : State), s.sec.erasing = true ∧ s.sec.epoch < 32768 :=
  ⟨secure (fun c => { c with erasing := true }), by decide +kernel, by decide +kernel⟩

/-! ### FusesDebugAndManagementPort: states and operands that meet its hypotheses -/

theorem witness_fuses_debug_and_management_port_I10b : ∃ (m : Msg) (s : State), Admitted s m { type := 104, vf := false } :=
  ⟨msg 0, upAt, by unfold Admitted; decide +kernel⟩

theorem witness_fuses_debug_and_management_port_I12 : ∃ (m : Msg) (s : State), Admitted s m { type := 106, vf := false, feature := some 7 } ∧ debugClass s = true ∧ s.sec.nonce = false :=
  ⟨msg 0, secure (fun c => { c with layoutClass := 0 }), by unfold Admitted; decide +kernel, by decide +kernel, by decide +kernel⟩

theorem witness_fuses_debug_and_management_port_I12b : ∃ (m : Msg) (s : State), Admitted s m { type := 106, vf := false, feature := some 7 } ∧ debugClass s = true ∧ s.sec.nonce = true :=
  ⟨msg 0, secure (fun c => { c with nonce := true }), by unfold Admitted; decide +kernel, by decide +kernel, by decide +kernel⟩

theorem witness_fuses_debug_and_management_port_I14b : ∃ (m : Msg) (s : State), Admitted s m { type := 107, vf := false, feature := some 7 } ∧ debugClass s = true ∧ (s.sec.nonce = false ∨ noWeights s = false) :=
  ⟨msg 0, upAt, by unfold Admitted; decide +kernel, by decide +kernel, by decide +kernel⟩

theorem witness_fuses_debug_and_management_port_I15 : ∃ (m : Msg) (c : Fin 24) (s : State), Admitted s m { type := 108, vf := false, feature := some 7 } ∧ coreScope s (↑c : ℕ) = true ∧ (nvState s (↑c : ℕ) = nvRun ∨ nvState s (↑c : ℕ) = nvWfi) :=
  ⟨msg 0, 21, secure (fun c => { c with dbgScope := some 4 }) [(.nvcStatus 21, 0x40000000)], by unfold Admitted; decide +kernel, by decide +kernel, by decide +kernel⟩

theorem witness_fuses_debug_and_management_port_I15b : ∃ (m : Msg) (c : Fin 24) (s : State), Admitted s m { type := 108, vf := false, feature := some 7 } ∧ coreScope s (↑c : ℕ) = true ∧ nvState s (↑c : ℕ) = nvHalted ∧ rdFld s (Reg.nvcStatus (↑c : ℕ)) 28 24 = 5 :=
  ⟨msg 0, 2, secure (fun c => { c with dbgScope := some 4 }) [(.nvcStatus 2, 0x85000000)], by unfold Admitted; decide +kernel, by decide +kernel, by decide +kernel, by decide +kernel⟩

theorem witness_fuses_debug_and_management_port_I15c : ∃ (m : Msg) (c : Fin 24) (s : State), Admitted s m { type := 108, vf := false, feature := some 7 } ∧ coreScope s (↑c : ℕ) = false :=
  ⟨msg 0, 22, secure (fun c => { c with dbgScope := some 4 }), by unfold Admitted; decide +kernel, by decide +kernel⟩

theorem witness_fuses_debug_and_management_port_I16 : ∃ (k : Fin 2) (s : State) (ident : BitVec 128), mgmtOn s = true ∧ s.sec.sessions.contains (↑k : ℕ) = false ∧ ((s.sec.slots.any fun e ↦ e.2.kind == 4 && e.2.ident == ident) = true) :=
  ⟨1, managed (fun c => { c with slots := [(3, kslot 4)] }), 5, by decide +kernel, by decide +kernel, by decide +kernel⟩

theorem witness_fuses_debug_and_management_port_I16b : ∃ (k : Fin 2) (s : State) (m : Msg) (type : BitVec 16), mgmtOn s = true ∧ s.sec.sessions.contains (↑k : ℕ) = true ∧ (↑m.owner : ℕ) = mgmtPort ∧ knownTypes.contains type.toNat = true ∧ ringFull s mgmtPort = false :=
  ⟨1, managed (fun c => { c with sessions := [1] }), msg 13, 0x20, by decide +kernel, by decide +kernel, by decide +kernel, by decide +kernel, by decide +kernel⟩

theorem witness_fuses_debug_and_management_port_I16c : ∃ (k : Fin 2) (s : State) (r : MgmtRecord), mgmtOn s = true ∧ s.sec.sessions.contains (↑k : ℕ) = true ∧ r ∈ [MgmtRecord.alert, MgmtRecord.badAuth, MgmtRecord.unsupported, MgmtRecord.malformed] :=
  ⟨1, managed (fun c => { c with sessions := [1] }), .alert, by decide +kernel, by decide +kernel, by decide +kernel⟩

theorem witness_fuses_debug_and_management_port_I17 : ∃ (k : Fin 2) (s : State), s.sec.sessions.contains (↑k : ℕ) = true :=
  ⟨1, managed (fun c => { c with sessions := [0, 1] }), by decide +kernel⟩

theorem witness_fuses_debug_and_management_port_I17b : ∃ (k : Fin 2) (s : State), s.sec.sessions.contains (↑k : ℕ) = false :=
  ⟨0, managed (fun c => { c with sessions := [1] }), by decide +kernel⟩

theorem witness_fuses_debug_and_management_port_I16d : ∃ (s : State) (a : Word), mgmtOn s = true ∧ a ≠ 0 ∧ BitVec.toNat a = mgmtIpv4 s :=
  ⟨managed, 0x0A000007, by decide +kernel, by decide +kernel, by decide +kernel⟩

theorem witness_fuses_debug_and_management_port_I16e : ∃ (s : State) (a : Word) (port : Half), mgmtOn s = true ∧ a ≠ 0 ∧ BitVec.toNat a = mgmtIpv4 s ∧ BitVec.toNat port = mgmtTcp s ∧ s.sec.sessions.length < 2 :=
  ⟨managed, 0x0A000007, 7610, by decide +kernel, by decide +kernel, by decide +kernel, by decide +kernel, by decide +kernel⟩

/-! ### PlotLifecycle: states and operands that meet its hypotheses -/

theorem witness_plot_lifecycle_J1 : ∃ (m : Msg) (s : State), Admitted s m { type := 112, vf := true, needsPlot := true, stage := 5 } ∧ (pltState s (msgPlot m) = pltIdle ∨ pltState s (msgPlot m) = pltReady) :=
  ⟨msg 0, upAt [] (plotIs 3), by unfold Admitted; decide +kernel, by decide +kernel⟩

theorem witness_plot_lifecycle_J1b : ∃ (m : Msg) (s : State), Admitted s m { type := 112, vf := true, needsPlot := true, stage := 5 } ∧ pltState s (msgPlot m) ≠ pltIdle ∧ pltState s (msgPlot m) ≠ pltReady :=
  ⟨msg 0, upAt [] (plotIs 4), by unfold Admitted; decide +kernel, by decide +kernel, by decide +kernel⟩

theorem witness_plot_lifecycle_J2 : ∃ (m : Msg) (s : State), Admitted s m { type := 113, vf := true, needsPlot := true, stage := 5 } ∧ pltState s (msgPlot m) ≠ pltLoading :=
  ⟨msg 0, upAt [] (plotIs 1), by unfold Admitted; decide +kernel, by decide +kernel⟩

theorem witness_plot_lifecycle_J2c : ∃ (m : Msg) (regionV : Fin 32) (off : ℕ) (bs : List Byte) (s : State), Admitted s m { type := 113, vf := true, needsPlot := true, stage := 5 } ∧ pltState s (msgPlot m) = pltLoading ∧ imageBytes s m (msgPlot m) (↑regionV : ℕ) off = some bs ∧ loadCode s (msgPlot m) bs ≠ 0 :=
  ⟨msg 0, 12, 0, header 2, region 12 0 [] (upAt [] (plotIs 2 id [] (withImage 2))), by unfold Admitted; decide +kernel, by decide +kernel, by decide +kernel, by decide +kernel⟩

theorem witness_plot_lifecycle_J3 : ∃ (m : Msg) (im : Image) (s : State), Admitted s m { type := 114, vf := true, needsPlot := true, stage := 6 } ∧ pltState s (msgPlot m) = pltReady ∧ bit (rd s (Reg.pltPstat (msgPlot m))) 26 = false ∧ (plot s (msgPlot m)).startDue = none ∧ bit (rd s (Reg.ckpPstat (msgPlot m))) 26 = false ∧ (plot s (msgPlot m)).onlyStep = none ∧ imageOf s (msgPlot m) = some im ∧ s.power.changing = none ∧ bit (rd s Reg.lpxStatus) 0 = true ∧ admits s (msgPlot m) im = true :=
  ⟨msg 0, image1, upAt [] (plotIs 3 (fun q => { q with image := some image1 }) [(.lpxStatus, 1), (.rstStage, 0xE0000006)]), by unfold Admitted; decide +kernel, by decide +kernel, by decide +kernel, by decide +kernel, by decide +kernel, by decide +kernel, by decide +kernel, by decide +kernel, by decide +kernel, by decide +kernel⟩

theorem witness_plot_lifecycle_J3b : ∃ (m : Msg) (im : Image) (s : State), Admitted s m { type := 114, vf := true, needsPlot := true, stage := 6 } ∧ pltState s (msgPlot m) = pltReady ∧ bit (rd s (Reg.pltPstat (msgPlot m))) 26 = false ∧ (plot s (msgPlot m)).startDue = none ∧ bit (rd s (Reg.ckpPstat (msgPlot m))) 26 = false ∧ (plot s (msgPlot m)).onlyStep = none ∧ imageOf s (msgPlot m) = some im ∧ s.power.changing = none ∧ bit (rd s Reg.lpxStatus) 0 = true ∧ admits s (msgPlot m) im = false :=
  ⟨msg 0, image1, upAt [] (plotIs 3 (fun q => { q with image := some image1 }) [(.lpxStatus, 1), (.pwrCap, 0)]), by unfold Admitted; decide +kernel, by decide +kernel, by decide +kernel, by decide +kernel, by decide +kernel, by decide +kernel, by decide +kernel, by decide +kernel, by decide +kernel, by decide +kernel⟩

theorem witness_plot_lifecycle_J3c : ∃ (m : Msg) (im : Image) (s : State), Admitted s m { type := 114, vf := true, needsPlot := true, stage := 6 } ∧ pltState s (msgPlot m) = pltReady ∧ bit (rd s (Reg.pltPstat (msgPlot m))) 26 = false ∧ (plot s (msgPlot m)).startDue = none ∧ bit (rd s (Reg.ckpPstat (msgPlot m))) 26 = false ∧ (plot s (msgPlot m)).onlyStep = none ∧ imageOf s (msgPlot m) = some im ∧ (s.power.changing ≠ none ∨ bit (rd s Reg.lpxStatus) 0 = false) :=
  ⟨msg 0, image1, upAt [] (plotIs 3 (fun q => { q with image := some image1 })), by unfold Admitted; decide +kernel, by decide +kernel, by decide +kernel, by decide +kernel, by decide +kernel, by decide +kernel, by decide +kernel, by decide +kernel⟩

theorem witness_plot_lifecycle_J4 : ∃ (m : Msg) (s : State), Admitted s m { type := 115, vf := true, needsPlot := true } ∧ (pltState s (msgPlot m) ≠ pltUndefined ∧ pltState s (msgPlot m) ≠ pltAborting ∧ pltState s (msgPlot m) ≠ pltScrubbing ∧ (plot s (msgPlot m)).abort ≠ AbortPhase.rate) ∧ (∀ (k : ℕ), (plot s (msgPlot m)).lastAbort = some k → k + 100 ≤ s.tick) :=
  ⟨msg 0, upAt [] (plotIs 4), by unfold Admitted; decide +kernel, by decide +kernel, holds_of_some (by decide +kernel)⟩

theorem witness_plot_lifecycle_J4b : ∃ (m : Msg) (s : State) (k : ℕ), Admitted s m { type := 115, vf := true, needsPlot := true } ∧ (pltState s (msgPlot m) ≠ pltUndefined ∧ pltState s (msgPlot m) ≠ pltAborting ∧ pltState s (msgPlot m) ≠ pltScrubbing ∧ (plot s (msgPlot m)).abort ≠ AbortPhase.rate) ∧ (plot s (msgPlot m)).lastAbort = some k ∧ s.tick < k + 100 :=
  ⟨msg 0, upAt [] (plotIs 4 (fun q => { q with lastAbort := some 0 })), 0, by unfold Admitted; decide +kernel, by decide +kernel, by decide +kernel, by decide +kernel⟩

theorem witness_plot_lifecycle_J4c : ∃ (m : Msg) (s : State), Admitted s m { type := 115, vf := true, needsPlot := true } ∧ (pltState s (msgPlot m) = pltAborting ∨ pltState s (msgPlot m) = pltScrubbing) :=
  ⟨msg 0, upAt [] (plotIs 8), by unfold Admitted; decide +kernel, by decide +kernel⟩

theorem witness_plot_lifecycle_J4d : ∃ (m : Msg) (s : State), Admitted s m { type := 115, vf := true, needsPlot := true } ∧ pltState s (msgPlot m) = pltUndefined :=
  ⟨msg 0, upAt [] (plotIs 0), by unfold Admitted; decide +kernel, by decide +kernel⟩

theorem witness_plot_lifecycle_J4e : ∃ (m : Msg) (s : State), Admitted s m { type := 116, vf := false, needsPlot := true } ∧ (pltState s (msgPlot m) ≠ pltUndefined ∧ pltState s (msgPlot m) ≠ pltAborting ∧ pltState s (msgPlot m) ≠ pltScrubbing ∧ (plot s (msgPlot m)).abort ≠ AbortPhase.rate) ∧ (∀ (k : ℕ), (plot s (msgPlot m)).lastAbort = some k → k + 100 ≤ s.tick) :=
  ⟨msg 0, upAt [] (plotIs 1), by unfold Admitted; decide +kernel, by decide +kernel, holds_of_some (by decide +kernel)⟩

theorem witness_plot_lifecycle_J5 : ∃ (p : Fin 12) (s : State), (plot s (↑p : ℕ)).abort = AbortPhase.idle ∧ (plot s (↑p : ℕ)).harrow = false ∧ (busyBlocks s (↑p : ℕ)).isEmpty = true :=
  ⟨0, plotIs 7 (fun q => { q with abort := .idle, owed := [(0, 1, 3, 0x73)] }) [(.pltPstat 0, 0x700000FF), (.pltGen 0, 0xFFFF)], by decide +kernel, by decide +kernel, by decide +kernel⟩

theorem witness_plot_lifecycle_J5b : ∃ (p : Fin 12) (s : State), (plot s (↑p : ℕ)).abort = AbortPhase.idle ∧ (plot s (↑p : ℕ)).harrow = false ∧ (busyBlocks s (↑p : ℕ)).isEmpty = false :=
  ⟨0, plotIs 7 (fun q => { q with abort := .idle, image := some image1 }) [(.schStatus 1, 0x40000000)] (tileAt 1 (fun x => { x with mvms := [{ mvm1 with done := false }] }) State.reset), by decide +kernel, by decide +kernel, by decide +kernel⟩

theorem witness_plot_lifecycle_J5c : ∃ (p : Fin 12) (s : State), (plot s (↑p : ℕ)).abort = AbortPhase.idle ∧ (plot s (↑p : ℕ)).harrow = false :=
  ⟨0, plotIs 7 (fun q => { q with abort := .idle, image := some image1 }) [(.schStatus 1, 0x40000000)] (tileAt 1 (fun x => { x with mvms := [{ mvm1 with done := false }] }) State.reset), by decide +kernel, by decide +kernel⟩

theorem witness_plot_lifecycle_J6 : ∃ (p : Fin 12) (s : State), (plot s (↑p : ℕ)).abort = AbortPhase.idle ∧ (plot s (↑p : ℕ)).harrow = true ∧ (busyBlocks s (↑p : ℕ)).isEmpty = true :=
  ⟨0, plotIs 7 (fun q => { q with abort := .idle, harrow := true }), by decide +kernel, by decide +kernel, by decide +kernel⟩

theorem witness_plot_lifecycle_J7 : ∃ (p : Fin 12) (s : State), (plot s (↑p : ℕ)).abort = AbortPhase.rate ∧ (∀ (k : ℕ), (plot s (↑p : ℕ)).lastAbort = some k → k + 100 ≤ s.tick) :=
  ⟨0, plotIs 4 (fun q => { q with abort := .rate }), by decide +kernel, holds_of_some (by decide +kernel)⟩

theorem witness_plot_lifecycle_J8z : ∃ (p : Fin 12) (s : State), pltState s (↑p : ℕ) = pltScrubbing ∧ s.sec.erasing = false ∧ harrowReady s (↑p : ℕ) = true :=
  ⟨0, plotIs 8 (fun q => { q with owed := [(0, 1, 3, 0x74)], image := some image1 }) ((List.range 6).map (fun k => (Reg.rstInrst k, (0 : Word))) ++ (List.range 32).map (fun g => (Reg.arrGrp 1 g, (0x200000 : Word)))), by decide +kernel, by decide +kernel, by decide +kernel⟩

theorem witness_plot_lifecycle_J8b : ∃ (p : Fin 12) (s : State), pltState s (↑p : ℕ) = pltScrubbing ∧ s.sec.erasing = false ∧ harrowReady s (↑p : ℕ) = false :=
  ⟨0, plotIs 8 (fun q => { q with image := some image1 }) [] (tileAt 1 (fun x => { x with writes := [⟨3, 5, 0, 5, .husk, 0, true, false, false⟩] }) State.reset), by decide +kernel, by decide +kernel, by decide +kernel⟩

theorem witness_plot_lifecycle_J9z : ∃ (p : Fin 12) (s : State), bit (rd s (Reg.pltPstat (↑p : ℕ))) 26 = true ∧ regionOpen s (↑p : ℕ) = true :=
  ⟨0, plotIs 1 id [(.pltPstat 0, 0x14000000)], by decide +kernel, by decide +kernel⟩

theorem witness_plot_lifecycle_J11 : ∃ (m : Msg) (d : PlotDef) (s : State), Admitted s m { type := 117, vf := false, needsPlot := true } ∧ (↑m.owner : ℕ) = 0 ∧ s.sec.layoutClass = 4 ∧ pltState s (msgPlot m) = pltUndefined ∧ defOk 4 (msgPlot m) d = true ∧ unclaimed s d = true :=
  ⟨msg 0 (some 5), def1, secure (fun c => { c with layoutClass := 4 }), by unfold Admitted; decide +kernel, by decide +kernel, by decide +kernel, by decide +kernel, by decide +kernel, by decide +kernel⟩

theorem witness_plot_lifecycle_J11b : ∃ (m : Msg) (s : State), Admitted s m { type := 117, vf := false, needsPlot := true } ∧ (↑m.owner : ℕ) ≠ 0 :=
  ⟨msg 13 (some 5), secure (fun c => { c with layoutClass := 4 }), by unfold Admitted; decide +kernel, by decide +kernel⟩

theorem witness_plot_lifecycle_J12 : ∃ (m : Msg) (s : State), Admitted s m { type := 118, vf := false, needsPlot := true } ∧ (↑m.owner : ℕ) = 0 ∧ s.sec.layoutClass = 4 ∧ pltState s (msgPlot m) = pltIdle ∧ (plot s (msgPlot m)).used = false ∧ (plot s (msgPlot m)).abort = AbortPhase.none :=
  ⟨msg 0, secure (fun c => { c with layoutClass := 4 }) [] (plotIs 1), by unfold Admitted; decide +kernel, by decide +kernel, by decide +kernel, by decide +kernel, by decide +kernel, by decide +kernel⟩

theorem witness_plot_lifecycle_J12b : ∃ (m : Msg) (s : State), Admitted s m { type := 118, vf := false, needsPlot := true } ∧ (↑m.owner : ℕ) = 0 ∧ (plot s (msgPlot m)).used = true :=
  ⟨msg 0, secure (fun c => { c with layoutClass := 4 }) [] (plotIs 1 (fun q => { q with used := true })), by unfold Admitted; decide +kernel, by decide +kernel, by decide +kernel⟩

theorem witness_plot_lifecycle_J13 : ∃ (m : Msg) (s : State), Admitted s m { type := 119, vf := true, needsPlot := true } :=
  ⟨msg 1, upAt [] (plotIs 1), by unfold Admitted; decide +kernel⟩

/-! ### BringUpStagesAndReleases: states and operands that meet its hypotheses -/

theorem witness_bring_up_stages_and_releases_K2 : ∃ (n : BitVec 3) (s : State), (¬(n.toNat < 2 ∨ 6 < n.toNat ∨ n.toNat ≠ stageNo s + 1)) ∧ stageState s = stComplete :=
  ⟨4, stageAt 3 1, by decide +kernel, by decide +kernel⟩

theorem witness_bring_up_stages_and_releases_K2b : ∃ (n : BitVec 3) (s : State), (¬(n.toNat < 2 ∨ 6 < n.toNat ∨ n.toNat ≠ stageNo s + 1)) ∧ stageState s = stComplete :=
  ⟨6, stageAt 5 1, by decide +kernel, by decide +kernel⟩

theorem witness_bring_up_stages_and_releases_K2c : ∃ (n : BitVec 3) (s : State), (¬(n.toNat < 2 ∨ 6 < n.toNat ∨ n.toNat ≠ stageNo s + 1)) ∧ stageState s = stRunning :=
  ⟨4, stageAt 3 0, by decide +kernel, by decide +kernel⟩

theorem witness_bring_up_stages_and_releases_K2d : ∃ (n : BitVec 3) (s : State), n.toNat < 2 ∨ 6 < n.toNat ∨ n.toNat ≠ stageNo s + 1 :=
  ⟨7, stageAt 6 1, by decide +kernel⟩

theorem witness_bring_up_stages_and_releases_K2e : ∃ (n : BitVec 3) (s : State) (m : Msg), Admitted s m { type := 128, vf := false } ∧ (¬(n.toNat < 2 ∨ 6 < n.toNat ∨ n.toNat ≠ stageNo s + 1)) :=
  ⟨2, upAt [(.rstStage, 0x28000000)], msg 0, by unfold Admitted; decide +kernel, by decide +kernel⟩

theorem witness_bring_up_stages_and_releases_K2f : ∃ (n : BitVec 3) (s : State) (m : Msg), Admitted s m { type := 128, vf := false } ∧ (n.toNat < 2 ∨ 6 < n.toNat ∨ n.toNat ≠ stageNo s + 1) :=
  ⟨1, upAt [(.rstStage, 0x08000000)], msg 0, by unfold Admitted; decide +kernel, by decide +kernel⟩

theorem witness_bring_up_stages_and_releases_K3 : ∃ (n : Fin 7) (s : State), stageDue s (↑n : ℕ) = true :=
  ⟨0, stageAt 0 0, by decide +kernel⟩

theorem witness_bring_up_stages_and_releases_K3b : ∃ (n : Fin 7) (s : State), stageDue s (↑n : ℕ) = true :=
  ⟨5, stageAt 4 1 [(.rstBoot, 0x10000000)], by decide +kernel⟩

theorem witness_bring_up_stages_and_releases_K3c : ∃ (n : Fin 7) (s : State), stageDue s (↑n : ℕ) = false :=
  ⟨2, stageAt 4 1, by decide +kernel⟩

theorem witness_bring_up_stages_and_releases_K4c : ∃ (s : State), stageState s = stRunning ∧ stageNo s = 2 ∧ inReset s 3 = false ∧ s.fw.up = true ∧ rdFld s Reg.lpxStatus 31 16 = 65535 :=
  ⟨onFw (fun w => { w with up := true }) (stageAt 2 0 [(.lpxStatus, 0xFFFF0000)]), by decide +kernel, by decide +kernel, by decide +kernel, by decide +kernel, by decide +kernel⟩

theorem witness_bring_up_stages_and_releases_K4d : ∃ (s : State), stageState s = stRunning ∧ stageNo s = 3 ∧ s.fw.up = true ∧ allTiles.all (tileCalibrated s) = true :=
  ⟨onFw (fun w => { w with up := true }) (stageAt 3 0 ((List.range 4).map (fun k => (Reg.rstTilefail k, 0xFFFFFFFF)))), by decide +kernel, by decide +kernel, by decide +kernel, by decide +kernel⟩

theorem witness_bring_up_stages_and_releases_K4e : ∃ (s : State), stageState s = stRunning ∧ stageNo s = 4 ∧ inReset s 4 = false ∧ s.net.checking = [] ∧ bit (rd s Reg.clkRefstat) 1 = true ∧ (∀ p < 16, inReset s (8 + p) = true → rdFld s (Reg.netPcfg p) 11 8 = 15) :=
  ⟨stageAt 4 0 [(.clkRefstat, 2)], by decide +kernel, by decide +kernel, by decide +kernel, by decide +kernel, by decide +kernel, by decide +kernel⟩

theorem witness_bring_up_stages_and_releases_K4f : ∃ (s : State), stageState s = stRunning ∧ stageNo s = 0 ∧ fusesAccepted s = false :=
  ⟨onSec' (fun c => { c with fuses := [(35, 5)] }) (stageAt 0 0), by decide +kernel, by decide +kernel, (class_refused (by decide +kernel))⟩

theorem witness_bring_up_stages_and_releases_K4g : ∃ (s : State), stageState s = stRunning ∧ stageNo s = 1 ∧ chooseSlot s = none :=
  ⟨stageAt 1 0, by decide +kernel, by decide +kernel, by decide +kernel⟩

theorem witness_bring_up_stages_and_releases_K5 : ∃ (s : State), stageNo s = 1 ∧ stageState s = stStopped :=
  ⟨stageAt 1 2, by decide +kernel, by decide +kernel⟩

theorem witness_bring_up_stages_and_releases_K6 : ∃ (i : Fin 192) (s : State), s.power.loading.contains (↑i : ℕ) = true :=
  ⟨191, onPow (fun w => { w with loading := [191], trimTries := [(191, 2)] }) State.reset, by decide +kernel⟩

theorem witness_bring_up_stages_and_releases_K6b : ∃ (i : Fin 192) (s : State), s.power.loading.contains (↑i : ℕ) = true ∧ mapGet 0 s.power.trimTries (↑i : ℕ) < 3 :=
  ⟨191, onPow (fun w => { w with loading := [191], trimTries := [(191, 2)] }) State.reset, by decide +kernel, by decide +kernel⟩

theorem witness_bring_up_stages_and_releases_K6c : ∃ (i : Fin 192) (s : State), s.power.loading.contains (↑i : ℕ) = true ∧ 64 ≤ (↑i : ℕ) ∧ 3 ≤ mapGet 0 s.power.trimTries (↑i : ℕ) :=
  ⟨191, onPow (fun w => { w with loading := [191], trimTries := [(191, 3)] }) State.reset, by decide +kernel, by decide +kernel, by decide +kernel⟩

theorem witness_bring_up_stages_and_releases_K7 : ∃ (i : Fin 192) (s : State), isIsland (↑i : ℕ) = true ∧ inReset s (↑i : ℕ) = true ∧ s.power.trimmed.contains (↑i : ℕ) = true ∧ railsGood s (↑i : ℕ) = true ∧ s.power.thermtrip = false :=
  ⟨64, onPow (fun w => { w with trimmed := [64] }) State.reset, by decide +kernel, by decide +kernel, by decide +kernel, by decide +kernel, by decide +kernel⟩

theorem witness_bring_up_stages_and_releases_K8 : ∃ (i : Fin 192) (s : State), inReset s (↑i : ℕ) = true ∧ s.power.trimmed.contains (↑i : ℕ) = true ∧ mapGet 0 s.power.pllTries (↑i : ℕ) < 3 :=
  ⟨64, onPow (fun w => { w with trimmed := [64] }) State.reset, by decide +kernel, by decide +kernel, by decide +kernel⟩

theorem witness_bring_up_stages_and_releases_K8b : ∃ (i : Fin 192) (s : State), inReset s (↑i : ℕ) = true ∧ s.power.trimmed.contains (↑i : ℕ) = true ∧ 64 ≤ (↑i : ℕ) ∧ 3 ≤ mapGet 0 s.power.pllTries (↑i : ℕ) :=
  ⟨64, onPow (fun w => { w with trimmed := [64], pllTries := [(64, 3)] }) State.reset, by decide +kernel, by decide +kernel, by decide +kernel, by decide +kernel⟩

/-! ### ResetsAndSeedbed: states and operands that meet its hypotheses -/

theorem witness_resets_and_seedbed_K9 : ∃ (by_ : ResetBy) (s : State), (by_ = ResetBy.host ∨ by_ = ResetBy.warden) ∧ s.power.idleWait.contains 3 = false ∧ inReset s 2 = false ∧ s.power.idleWait.contains 1 = false ∧ managementBusy s = false :=
  ⟨.host, released, by decide +kernel, by decide +kernel, by decide +kernel, by decide +kernel, by decide +kernel⟩

theorem witness_resets_and_seedbed_K9b : ∃ (by_ : ResetBy) (s : State), (by_ = ResetBy.host ∨ by_ = ResetBy.warden) ∧ s.power.idleWait.contains 3 = false ∧ inReset s 2 = false ∧ managementBusy s = true :=
  ⟨.warden, onFw (fun w => { w with boxes := [(0, { requests := [⟨0x10, 5, true, 0xFF⟩] })] }) released, by decide +kernel, by decide +kernel, by decide +kernel, by decide +kernel⟩

theorem witness_resets_and_seedbed_K9c : ∃ (by_ : ResetBy) (s : State), (by_ = ResetBy.host ∨ by_ = ResetBy.warden) ∧ s.power.idleWait.contains 3 = false ∧ (∀ p < 12, pltState s p = pltUndefined) ∧ moduleBusy s = false :=
  ⟨.warden, released, by decide +kernel, by decide +kernel, by decide +kernel, by decide +kernel⟩

theorem witness_resets_and_seedbed_K9d : ∃ (by_ : ResetBy) (s : State), (by_ = ResetBy.host ∨ by_ = ResetBy.warden) ∧ s.power.idleWait.contains 3 = false ∧ (∀ p < 12, pltState s p = pltUndefined) ∧ moduleBusy s = true ∧ s.power.idleWait = [] :=
  ⟨.host, onFw (fun w => { w with boxes := [(0, { requests := [⟨0x10, 5, true, 0xFF⟩] })] }) released, by decide +kernel, by decide +kernel, by decide +kernel, by decide +kernel, by decide +kernel⟩

theorem witness_resets_and_seedbed_K10 : ∃ (s : State), s.power.idleWait.contains 3 = true :=
  ⟨onPow (fun w => { w with idleWait := [3] }) released, by decide +kernel⟩

theorem witness_resets_and_seedbed_K10b : ∃ (s : State), s.power.idleWait.contains 3 = false ∧ s.power.idleWait.contains 1 = true :=
  ⟨onPow (fun w => { w with idleWait := [1] }) released, by decide +kernel, by decide +kernel⟩

theorem witness_resets_and_seedbed_K11 : ∃ (s : State) (k : Component), ((List.filter (fun k ↦ decide (s.tick ≤ k + 60000000)) s.fw.headlandResets).length < 2) ∧ mapFind s.fw.running 1 = some k :=
  ⟨onFw (fun w => { w with running := [(1, comp1 1)], headlandResets := [0] }) released, comp1 1, by decide +kernel, by decide +kernel⟩

theorem witness_resets_and_seedbed_K11b : ∃ (s : State), (List.filter (fun k ↦ decide (s.tick ≤ k + 60000000)) s.fw.headlandResets).length = 2 :=
  ⟨onFw (fun w => { w with running := [(1, comp1 1)], headlandResets := [0, 0] }) released, by decide +kernel⟩

theorem witness_resets_and_seedbed_K11c : ∃ (s : State), 3 ≤ (List.filter (fun k ↦ decide (s.tick ≤ k + 60000000)) s.fw.headlandResets).length :=
  ⟨onFw (fun w => { w with running := [(1, comp1 1)], headlandResets := [0, 0, 0] }) released, by decide +kernel⟩

theorem witness_resets_and_seedbed_K12 : ∃ (s : State), s.host.perst = false ∧ inReset s 5 = false :=
  ⟨released, by decide +kernel, by decide +kernel⟩

theorem witness_resets_and_seedbed_K12c : ∃ (s : State), inReset s 5 = false :=
  ⟨released, by decide +kernel⟩

theorem witness_resets_and_seedbed_K12d : ∃ (s : State), inReset s 5 = true :=
  ⟨State.reset, by decide +kernel⟩

theorem witness_resets_and_seedbed_K13 : ∃ (m : Msg) (off : ℕ) (src : SecBuf) (bs : List Byte) (s : State), Admitted s m { type := 130, vf := false } ∧ 512 ≤ off ∧ off + bs.length ≤ slotSize ∧ bufRead s src bs.length = some bs :=
  ⟨msg 0, 512, .staging 0, [0, 0, 0], upAt, by unfold Admitted; decide +kernel, by decide +kernel, by decide +kernel, by decide +kernel⟩

theorem witness_resets_and_seedbed_K13b : ∃ (m : Msg) (off : ℕ) (s : State), Admitted s m { type := 130, vf := false } ∧ off < 512 :=
  ⟨msg 0, 511, upAt, by unfold Admitted; decide +kernel, by decide +kernel⟩

theorem witness_resets_and_seedbed_K13d : ∃ (m : Msg) (headerV : List Byte) (s : State), Admitted s m { type := 131, vf := false } ∧ seedPasses s (seedSlot s (1 - runningSlot s)) headerV = false :=
  ⟨msg 0, [], upAt, by unfold Admitted; decide +kernel, by decide +kernel⟩

theorem witness_resets_and_seedbed_K13e : ∃ (m : Msg) (s : State), Admitted s m { type := 132, vf := false } :=
  ⟨msg 0, upAt, by unfold Admitted; decide +kernel⟩

/-! ### CheckpointsAndRestores: states and operands that meet its hypotheses -/

theorem witness_checkpoints_and_restores_L1 : ∃ (m : Msg) (full : Bool) (ckptId : DWord) (slot : Fin 256) (binding : Fin 256) (regionV : Fin 32) (off : ℕ) (cap : ℕ) (s : State), Admitted s m { type := 144, vf := true, needsPlot := true } ∧ armCode s (msgPlot m) full (↑slot : ℕ) = 0 ∧ armNamed s ckptId (↑binding : ℕ) (↑regionV : ℕ) off cap = true :=
  ⟨msg 0, true, 77, 4, 2, 16, 0, 256, saving 5 0, by unfold Admitted; decide +kernel, by decide +kernel, by decide +kernel⟩

theorem witness_checkpoints_and_restores_L1b : ∃ (m : Msg) (full : Bool) (slot : Fin 256) (s : State), Admitted s m { type := 144, vf := true, needsPlot := true } ∧ armCode s (msgPlot m) full (↑slot : ℕ) ≠ 0 :=
  ⟨msg 0, false, 4, saving 5 0, by unfold Admitted; decide +kernel, by decide +kernel⟩

theorem witness_checkpoints_and_restores_L2 : ∃ (m : Msg) (s : State), Admitted s m { type := 145, vf := true, needsPlot := true } ∧ ckpState s (msgPlot m) = ckArmed :=
  ⟨msg 0, saving 4 1, by unfold Admitted; decide +kernel, by decide +kernel⟩

theorem witness_checkpoints_and_restores_L2b : ∃ (m : Msg) (s : State), Admitted s m { type := 145, vf := true, needsPlot := true } ∧ ckpState s (msgPlot m) ≠ ckArmed :=
  ⟨msg 0, saving 4 0, by unfold Admitted; decide +kernel, by decide +kernel⟩

theorem witness_checkpoints_and_restores_L2c : ∃ (m : Msg) (s : State), Admitted s m { type := 147, vf := true, needsPlot := true } :=
  ⟨msg 0, saving 4 0, by unfold Admitted; decide +kernel⟩

theorem witness_checkpoints_and_restores_L3 : ∃ (p : Fin 12) (s : State), ckpState s (↑p : ℕ) = ckArmed ∧ pltState s (↑p : ℕ) = pltHeld ∧ frozen s (↑p : ℕ) = false ∧ (ckpOf s (↑p : ℕ)).heldAtArm = false ∧ settled s (↑p : ℕ) = true ∧ cutCode s (↑p : ℕ) (captured s (↑p : ℕ)).length = 0 :=
  ⟨0, saving 5 1 (fun k => { k with slot := 4, dest := (2, 0), full := true }) [0x200, 0x201], by decide +kernel, by decide +kernel, by decide +kernel, by decide +kernel, by decide +kernel, by decide +kernel⟩

theorem witness_checkpoints_and_restores_L3b : ∃ (p : Fin 12) (s : State), ckpState s (↑p : ℕ) = ckArmed ∧ pltState s (↑p : ℕ) = pltHeld ∧ frozen s (↑p : ℕ) = false ∧ (ckpOf s (↑p : ℕ)).heldAtArm = false ∧ settled s (↑p : ℕ) = true ∧ cutCode s (↑p : ℕ) (captured s (↑p : ℕ)).length ≠ 0 :=
  ⟨0, saving 5 1 (fun k => { k with slot := 3, dest := (2, 0), full := true }) [0x200, 0x201], by decide +kernel, by decide +kernel, by decide +kernel, by decide +kernel, by decide +kernel, by decide +kernel⟩

theorem witness_checkpoints_and_restores_L3c : ∃ (p : Fin 12) (s : State), pltState s (↑p : ℕ) ≠ pltHeld :=
  ⟨0, saving 4 1, by decide +kernel⟩

theorem witness_checkpoints_and_restores_L4 : ∃ (p : Fin 12) (s : State), ckpState s (↑p : ℕ) = ckCutting :=
  ⟨0, saving 5 2 (fun k => { k with pages := [0x200], cap := 4 }), by decide +kernel⟩

theorem witness_checkpoints_and_restores_L5 : ∃ (p : Fin 12) (s : State) (page : ℕ), ckpState s (↑p : ℕ) = ckWriting ∧ cowHeld s (↑p : ℕ) page = true ∧ stagingRoom s (↑p : ℕ) = true ∧ ((s.ram.held.any fun e ↦ e.1 == (↑p : ℕ) && (pagesOf e.2.1 e.2.2.length).contains page) = true) :=
  ⟨0, saving 5 3 (fun k => { k with pages := [0x200], cap := 4 }) [] (fun s => { s with ram := { s.ram with held := [(0, (0x2000005, [7]))] } }), 0x200, by decide +kernel, by decide +kernel, by decide +kernel, by decide +kernel⟩

theorem witness_checkpoints_and_restores_L6b : ∃ (m : Msg) (stepV : DWord) (slot : Fin 256) (p : Fin 12) (c : List Sheaf) (s : State), Admitted s m { type := 146, vf := true } ∧ ((↑m.owner : ℕ) = 0 ∨ (↑m.owner : ℕ) = (↑p : ℕ) + 1) ∧ restoreCode s (↑slot : ℕ) stepV [(p, c)] ≠ 0 :=
  ⟨msg 0, 5, 4, 0, [sheaf1], saving 3 0, by unfold Admitted; decide +kernel, by decide +kernel, by decide +kernel⟩

theorem witness_checkpoints_and_restores_L6c : ∃ (m : Msg) (p : Fin 12) (s : State), Admitted s m { type := 146, vf := true } ∧ 1 ≤ (↑m.owner : ℕ) ∧ (↑m.owner : ℕ) ≤ 12 ∧ (↑m.owner : ℕ) ≠ (↑p : ℕ) + 1 :=
  ⟨msg 1 (some 0), 1, saving 3 0, by unfold Admitted; decide +kernel, by decide +kernel, by decide +kernel, by decide +kernel⟩

/-! ### EventsAndTelemetry: states and operands that meet its hypotheses -/

theorem witness_events_and_telemetry_M1 : ∃ (i : ℕ) (rest : List ℕ) (evV : Event) (more : List Event) (s : State), s.evr.order = i :: rest ∧ (eventQueue s i).events = evV :: more :=
  ⟨8, [3], ev 2, [], recording 0 [], by decide +kernel, by decide +kernel⟩

theorem witness_events_and_telemetry_M1b : ∃ (i : ℕ) (rest : List ℕ) (evV : Event) (more : List Event) (s : State), s.evr.order = i :: rest ∧ (eventQueue s i).events = evV :: more :=
  ⟨8, [3], ev 2, [ev 1], recording 9 [ev 1], by decide +kernel, by decide +kernel⟩

theorem witness_events_and_telemetry_M2 : ∃ (s : State), s.evr.order = [] :=
  ⟨State.reset, by decide +kernel⟩

theorem witness_events_and_telemetry_M3b : ∃ (s : State), stoppedInS1 s = false :=
  ⟨State.reset, by decide +kernel⟩

theorem witness_events_and_telemetry_M3c : ∃ (s : State), stoppedInS1 s = true :=
  ⟨stageAt 1 2, by decide +kernel⟩

theorem witness_events_and_telemetry_M5 : ∃ (m : Msg) (period : ℕ) (s : State), Admitted s m { type := 160, vf := true, feature := some 6 } ∧ 1 ≤ period ∧ period ≤ 60000 ∧ (↑m.owner : ℕ) = 0 ∧ s.tel.subs.length < 4 :=
  ⟨msg 0, 60000, upAt [] (subbed [sub1 false, sub1 false, sub1 false]), by unfold Admitted; decide +kernel, by decide +kernel, by decide +kernel, by decide +kernel, by decide +kernel⟩

theorem witness_events_and_telemetry_M5b : ∃ (m : Msg) (period : ℕ) (s : State), Admitted s m { type := 160, vf := true, feature := some 6 } ∧ 1 ≤ period ∧ period ≤ 60000 ∧ (↑m.owner : ℕ) = 0 ∧ 4 ≤ s.tel.subs.length :=
  ⟨msg 0, 1, upAt [] (subbed [sub1 false, sub1 false, sub1 false, sub1 false]), by unfold Admitted; decide +kernel, by decide +kernel, by decide +kernel, by decide +kernel, by decide +kernel⟩

theorem witness_events_and_telemetry_M5c : ∃ (m : Msg) (period : ℕ) (groups : Byte) (s : State), Admitted s m { type := 160, vf := true, feature := some 6 } ∧ 1 ≤ period ∧ period ≤ 60000 ∧ 1 ≤ (↑m.owner : ℕ) ∧ (↑m.owner : ℕ) ≤ 12 ∧ BitVec.toNat groups &&& vfGroups ≠ BitVec.toNat groups :=
  ⟨msg 1, 1, 0x04, upAt, by unfold Admitted; decide +kernel, by decide +kernel, by decide +kernel, by decide +kernel, by decide +kernel, by decide +kernel⟩

theorem witness_events_and_telemetry_M6 : ∃ (k : Fin 4) (x : Subscription) (s : State), s.tel.subs[(↑k : ℕ)]? = some x ∧ x.busy = true :=
  ⟨0, sub1 true, subbed [sub1 true], by decide +kernel, by decide +kernel⟩

theorem witness_events_and_telemetry_M6b : ∃ (k : Fin 4) (x : Subscription) (s : State), s.tel.subs[(↑k : ℕ)]? = some x ∧ x.busy = false :=
  ⟨0, sub1 false, subbed [sub1 false], by decide +kernel, by decide +kernel⟩

/-! ### RegisterReadsAndWrites: states and operands that meet its hypotheses -/

theorem witness_register_reads_and_writes_M7_2 : ∃ (s : State), stoppedInS1 s = false :=
  ⟨State.reset, by decide +kernel⟩

theorem witness_register_reads_and_writes_M7_3 : ∃ (s : State), stoppedInS1 s = false :=
  ⟨State.reset, by decide +kernel⟩

theorem witness_register_reads_and_writes_M7_4 : ∃ (s : State), stoppedInS1 s = false :=
  ⟨State.reset, by decide +kernel⟩

theorem witness_register_reads_and_writes_M7_5 : ∃ (s : State), stoppedInS1 s = false :=
  ⟨State.reset, by decide +kernel⟩

theorem witness_register_reads_and_writes_M7c : ∃ (m : Master), mayWriteNet m = true :=
  ⟨.core 2, by decide +kernel⟩

theorem witness_register_reads_and_writes_M7d : ∃ (m : Master), mayWriteNet m = false :=
  ⟨.vf 2, by decide +kernel⟩

theorem witness_register_reads_and_writes_M8 : ∃ (off : ℕ) (n : Fin 128) (r : Reg) (s : State), (fnState s 0).dstate = 0 ∧ (fnState s 0).memEnable = true ∧ off < 67108864 ∧ off % 4 = 0 ∧ pfPlace s 0 off = RegPlace.reg r ∧ r ∈ [Reg.arrErr (↑n : ℕ), Reg.schErr (↑n : ℕ), Reg.tilSherr (↑n : ℕ), Reg.tilSperr (↑n : ℕ), Reg.evrCurHi 0, Reg.evrIrq 0] :=
  ⟨0x02004008, 0, .arrErr 0, fnAt 0 (fun x => { x with memEnable := true }) (regsAt [(.arrErr 0, 0x3FF)]), by decide +kernel, by decide +kernel, by decide +kernel, by decide +kernel, by decide +kernel, by decide +kernel⟩

theorem witness_register_reads_and_writes_M9 : ∃ (off : ℕ) (r : Reg) (v : Word) (s : State), (fnState s 0).dstate = 0 ∧ (fnState s 0).memEnable = true ∧ off < 67108864 ∧ off % 4 = 0 ∧ pfPlace s 0 off = RegPlace.reg r ∧ r = Reg.pltCfg ∧ 60 ≤ fld v 10 0 ∧ fld v 10 0 ≤ 1100 :=
  ⟨0x01000004, .pltCfg, 60, fnAt 0 (fun x => { x with memEnable := true }), by decide +kernel, by decide +kernel, by decide +kernel, by decide +kernel, by decide +kernel, by decide +kernel, by decide +kernel, by decide +kernel⟩

theorem witness_register_reads_and_writes_M9b : ∃ (off : ℕ) (r : Reg) (v : Word) (s : State), (fnState s 0).dstate = 0 ∧ (fnState s 0).memEnable = true ∧ off < 67108864 ∧ off % 4 = 0 ∧ pfPlace s 0 off = RegPlace.reg r ∧ r = Reg.pltCfg ∧ fld v 10 0 < 60 :=
  ⟨0x01000004, .pltCfg, 59, fnAt 0 (fun x => { x with memEnable := true }), by decide +kernel, by decide +kernel, by decide +kernel, by decide +kernel, by decide +kernel, by decide +kernel, by decide +kernel⟩

theorem witness_register_reads_and_writes_M10 : ∃ (off : ℕ) (s : State), (fnState s 0).dstate = 0 ∧ (fnState s 0).memEnable = true ∧ off < 67108864 ∧ off % 4 ≠ 0 :=
  ⟨2, fnAt 0 (fun x => { x with memEnable := true }), by decide +kernel, by decide +kernel, by decide +kernel, by decide +kernel⟩

theorem witness_register_reads_and_writes_M10b : ∃ (s : State), (fnState s 0).dstate = 0 ∧ (fnState s 0).memEnable = false :=
  ⟨State.reset, by decide +kernel, by decide +kernel⟩

theorem witness_register_reads_and_writes_M10c : ∃ (off : ℕ) (s : State) (c : Fin 24), reach s (↑c : ℕ) off < 2 :=
  ⟨0x02004008, State.reset, 6, by decide +kernel⟩

theorem witness_register_reads_and_writes_M10d : ∃ (off : ℕ) (s : State) (c : Fin 24), reach s (↑c : ℕ) off < 2 ∧ (off % 4 ≠ 0 ∨ regionObject s (Master.core c) off = none) :=
  ⟨0x02004008, State.reset, 6, by decide +kernel, by decide +kernel⟩

theorem witness_register_reads_and_writes_M10e : ∃ (off : ℕ) (s : State) (c : Fin 24) (x : ℕ), reach s (↑c : ℕ) off < 2 ∧ off % 4 = 0 ∧ regionObject s (Master.core c) off = some x ∧ (eventQueue s islSecurity).events.length < 4 :=
  ⟨33566976, State.reset, 6, 0, by decide +kernel, by decide +kernel, by decide +kernel, by decide +kernel⟩

theorem witness_register_reads_and_writes_M10f : ∃ (s : State), configHeld s = true :=
  ⟨State.reset, by decide +kernel⟩

theorem witness_register_reads_and_writes_M10g : ∃ (s : State), configHeld s = false :=
  ⟨released, by decide +kernel⟩

theorem witness_register_reads_and_writes_M7_6 : ∃ (s : State), stoppedInS1 s = false :=
  ⟨State.reset, by decide +kernel⟩

/-! ### Witnesses that take a premise about an unconstrained function of Config -/

/-- An HSS public key of one level. -/
def hssPk : List Byte := [0, 0, 0, 1, 0, 0, 0, 5, 0, 0, 0, 1] ++ List.replicate 48 0
/-- A signature block of that key. -/
def block0 : List Byte := le 4 64 ++ hssPk
/-- The words of a digest from a fuse word on. -/
def fusesOf (k : Nat) (d : List Byte) : List (Nat × Word) := (List.range 8).map (fun i => (k + i, BitVec.ofNat 32 (leAt d (4 * i) 4)))
/-- A part whose vendor, owner and model digests are of that key. -/
def signedFuses : List (Nat × Word) := fusesOf vendorKey (sha256 hssPk) ++ fusesOf ownerKey (sha256 hssPk) ++ fusesOf modelKey (sha256 hssPk)
def ofOwner (f : SecState → SecState := id) (l : List (Reg × Word) := []) (s : State := State.reset) : State := secure (fun c => f { c with fuses := signedFuses }) l s

theorem hss_accepts (verifies : ∀ m k g, Config.hssVerifies m k g = true) {m k g : List Byte} (h : hssParams k = true) : hssAccepts m k g = true := by
  simp [hssAccepts, h, verifies]

theorem sig_accepted (verifies : ∀ m k g, Config.hssVerifies m k g = true) {s : State} {signer : Nat} {m : List Byte}
    (h : (sha256 hssPk == fuseDigest s signer) = true) : sigAccepted s signer m block0 = true := by
  simp only [sigAccepted, Bool.and_eq_true]
  exact ⟨h, hss_accepts verifies (by decide +kernel)⟩

theorem witness_fuses_debug_and_management_port_Q1 (verifies : ∀ m k g, Config.hssVerifies m k g = true) :
    ∃ (m : Msg) (key : List Byte) (model : BitVec 256) (config : Word) (sig : List Byte) (s : State), Admitted s m { type := 0x68, vf := false }
      ∧ digestWithin s ownerKey (sha256 (fitBytes 60 key)) = true ∧ digestWithin s modelKey (leBytes 32 model.toNat) = true ∧ fuse s 25 = 0 ∧ within (fuse s 35) config = true
      ∧ configValue config = true ∧ hssAccepts (fitBytes 60 key ++ leBytes 32 model.toNat ++ leBytes 4 config.toNat ++ deviceId s) (fitBytes 60 key) sig = true :=
  ⟨msg 0, hssPk, 9, 4, [], secure id, by unfold Admitted; decide +kernel, by decide +kernel, by decide +kernel, by decide +kernel, by decide +kernel, by decide +kernel,
    hss_accepts verifies (by decide +kernel)⟩

theorem witness_fuses_debug_and_management_port_Q2 (verifies : ∀ m k g, Config.hssVerifies m k g = true) :
    ∃ (m : Msg) (block : List Byte) (s : State) (v : BitVec 4), Admitted s m { type := 0x69, vf := false } ∧ 1 ≤ v.toNat ∧ v.toNat ≤ 4
      ∧ within (fuse s 35 &&& 0xF) (v.setWidth 32) = true ∧ sigAccepted s ownerKey (leBytes 1 1 ++ leBytes 4 v.toNat ++ deviceId s) block = true :=
  ⟨msg 0, block0, ofOwner, 4, by unfold Admitted; decide +kernel, by decide +kernel, by decide +kernel, by decide +kernel, sig_accepted verifies (by decide +kernel)⟩

theorem witness_fuses_debug_and_management_port_Q3 (verifies : ∀ m k g, Config.hssVerifies m k g = true) :
    ∃ (m : Msg) (block : List Byte) (s : State) (v : Nat), Admitted s m { type := 0x69, vf := false } ∧ 1 ≤ v ∧ v ≤ 63 ∧ svnFloor s < v ∧ svnsReach s v = true
      ∧ sigAccepted s ownerKey (leBytes 1 2 ++ leBytes 4 v ++ deviceId s) block = true :=
  ⟨msg 0, block0, ofOwner, 63, by unfold Admitted; decide +kernel, by decide +kernel, by decide +kernel, by decide +kernel, by decide +kernel, sig_accepted verifies (by decide +kernel)⟩

theorem witness_fuses_debug_and_management_port_Q4 (verifies : ∀ m k g, Config.hssVerifies m k g = true) :
    ∃ (m : Msg) (block : List Byte) (s : State), Admitted s m { type := 0x69, vf := false } ∧ fusePermlock s = false
      ∧ ∀ op ∈ [3, 4, 5], sigAccepted s ownerKey (leBytes 1 op ++ leBytes 4 0 ++ deviceId s) block = true :=
  ⟨msg 0, block0, ofOwner, by unfold Admitted; decide +kernel, by decide +kernel, fun _ _ => sig_accepted verifies (by decide +kernel)⟩

theorem witness_fuses_debug_and_management_port_Q5 : ∃ (m : Msg) (s : State), Admitted s m { type := 0x69, vf := false } :=
  ⟨msg 0, secure id, by unfold Admitted; decide +kernel⟩

theorem length_deviceIdOf (r : List Byte) : (deviceIdOf r).length = 16 := by
  simp only [deviceIdOf, kdfKey, kdf, ceilDiv, List.length_take, List.length_flatMap, length_leBytes]; simp

theorem length_fitBytes (n : Nat) (bs : List Byte) : (fitBytes n bs).length = n := by
  simp only [fitBytes, List.length_take, List.length_append, List.length_replicate]; omega

/-- An unlock token of the part, its nonce outstanding. -/
def token0 (s : State) : List Byte := le 4 0x47444C53 ++ (deviceId s ++ (debugNonce s ++ (le 4 7 ++ block0)))
def challenged : State := ofOwner (fun c => { c with nonce := true }) [(.rstStage, 0xE0000000)]

theorem token_fields (s : State) : leAt (token0 s) 0 4 = 0x47444C53 ∧ ((token0 s).drop 4).take 16 = deviceId s ∧ ((token0 s).drop 20).take 32 = debugNonce s
    ∧ (token0 s).drop 56 = block0 := by
  have hd : (deviceId s).length = 16 := length_deviceIdOf _
  have hn : (debugNonce s).length = 32 := length_fitBytes 32 _
  have h4 : ∀ v, (le 4 v).length = 4 := fun v => length_leBytes 4 v
  refine ⟨?_, ?_, ?_, ?_⟩
  · simp [leAt, token0, List.take_append, h4]; decide
  · simp [token0, List.drop_append, List.take_append, h4, hd]
  · simp [token0, List.drop_append, List.take_append, h4, hd, hn, List.drop_of_length_le]
  · simp [token0, List.drop_append, h4, hd, hn, List.drop_of_length_le]

theorem witness_fuses_debug_and_management_port_Q6 (verifies : ∀ m k g, Config.hssVerifies m k g = true) :
    ∃ (m : Msg) (token : List Byte) (s : State), Admitted s m { type := 0x6B, vf := false, feature := some 7 } ∧ debugClass s = true ∧ s.sec.nonce = true
      ∧ leAt token 0 4 = 0x47444C53 ∧ (token.drop 4).take 16 = deviceId s ∧ (token.drop 20).take 32 = debugNonce s ∧ noWeights s = true
      ∧ sigAccepted s (if s.sec.layoutClass = 0 then vendorKey else ownerKey) (token.take 56) (token.drop 56) = true := by
  have h := token_fields challenged
  refine ⟨msg 0, token0 challenged, challenged, by unfold Admitted; decide +kernel, by decide +kernel, by decide +kernel, h.1, h.2.1, h.2.2.1, by decide +kernel, ?_⟩
  rw [h.2.2.2, show challenged.sec.layoutClass = 0 from by decide +kernel]
  exact sig_accepted verifies (by decide +kernel)

/-- A component image with its signature block, in host region 12. -/
def signedImage : List Byte := header 1 ++ block0
def withSigned : State := inMemory signedImage (ofOwner id [] (region 12 0))

theorem witness_component_updates_Q1 (verifies : ∀ m k g, Config.hssVerifies m k g = true) :
    ∃ (m : Msg) (region : Fin 32) (off len : Word) (bs : List Byte) (k : Component) (s : State), Admitted s m { type := 0x10, vf := false, feature := some 0 } ∧ 12 ≤ region.val ∧ region.val ≤ 15
      ∧ lpxRead (takeRequest s m 0x10) (.component 3 (some region)) (regionBase (takeRequest s m 0x10) region + off.toNat) len.toNat = some bs ∧ parseComponent bs = some k
      ∧ k.comp = 1 ∧ componentSigned (takeRequest s m 0x10) bs k = true ∧ svnFloor (takeRequest s m 0x10) ≤ k.svn := by
  refine ⟨msg 0, 12, 0, 320, signedImage, (parseComponent signedImage).getD (comp1 1), withSigned, by unfold Admitted; decide +kernel, by decide, by decide, by decide +kernel, by decide +kernel,
    by decide +kernel, ?_, by decide +kernel⟩
  simp only [componentSigned, Bool.and_eq_true]
  refine ⟨?_, by decide +kernel⟩
  rw [show signedImage.drop (leAt signedImage 16 4) = block0 from by decide +kernel]
  exact sig_accepted verifies (by decide +kernel)

theorem many_frames (n : Nat) (hn : 67108864 < n) : 16384 < frameCount (digestedBytes (List.replicate n (0xFF : Byte))) := by
  have h : leAt (List.replicate n (0xFF : Byte)) 16 4 = 0xFFFFFFFF := by
    rw [leAt, List.drop_replicate, List.take_replicate, Nat.min_eq_left (by omega)]; decide
  rw [frameCount, digestedBytes, h]
  simp only [List.length_append, List.length_take, List.length_replicate, List.drop_replicate, ceilDiv]
  omega

theorem witness_component_updates_Q2 : ∃ (m : Msg) (k : Component) (s : State), Admitted s m { type := 0x11, vf := false, feature := some 0 } ∧ s.fw.update = none ∧ s.fw.staged = some k
    ∧ 16384 < frameCount (digestedBytes s.fw.staging) :=
  ⟨msg 0, comp1 1, onFw (fun w => { w with staged := some (comp1 1), staging := List.replicate 67108865 0xFF }) (upAt []), by unfold Admitted; decide +kernel, by decide +kernel,
    by decide +kernel, many_frames 67108865 (by decide)⟩

theorem key_unwraps (shares : ∀ t c, Config.kemDecaps t c = some []) (unwraps : ∀ k w, Config.kwpUnwrap k w = some (List.replicate 32 0)) (tree : Nat) (bs : List Byte) :
    keyUnwrap tree bs = some (List.replicate 32 0) := by
  simp [keyUnwrap, shares, unwraps]

theorem witness_epochs_reports_and_keys_Q1 (shares : ∀ t c, Config.kemDecaps t c = some []) (unwraps : ∀ k w, Config.kwpUnwrap k w = some (List.replicate 32 0)) :
    ∃ (m : Msg) (buf : SecBuf) (mask : BitVec 12) (h bs key : List Byte) (n : Nat) (s : State), Admitted s m { type := 0x61, vf := false, stage := 5 }
      ∧ bufRead s buf 80 = some h ∧ leAt h 0 4 ≠ 0x4B534C53 ∧ bufRead s buf 1672 = some bs ∧ leAt bs 0 4 = 0x524B4C53 ∧ leAt bs 4 1 = 1 ∧ 1 ≤ leAt bs 5 1 ∧ leAt bs 5 1 ≤ 4
      ∧ epochOut s = false ∧ leAt bs 8 4 = (rd s .secEpoch).toNat ∧ s.sec.reports.contains ((bs.drop 32).take 32) = true
      ∧ (leAt bs 5 1 ≤ 2 → s.sec.layoutClass ≠ 0 ∧ s.sec.dbgScope = none ∧ maskUndefined s mask.toNat = false) ∧ keyUnwrap s.sec.tree bs = some key ∧ freeKeySlot s = some n :=
  ⟨msg 0, .staging 0, 1, (List.range 80).map (fun i => mapGet 0 (releaseBytes 2) i), (List.range 1672).map (fun i => mapGet 0 (releaseBytes 2) i), _, 0,
    secure (fun c => { c with staging := releaseBytes 2, reports := [List.replicate 32 0], layoutClass := 1 }) [(.secEpoch, 4)] (plotIs 1), by unfold Admitted; decide +kernel, by decide +kernel, by decide +kernel,
    by decide +kernel, by decide +kernel, by decide +kernel, by decide +kernel, by decide +kernel, by decide +kernel, by decide +kernel, by decide +kernel, fun _ => by decide +kernel,
    key_unwraps shares unwraps _ _, by decide +kernel⟩

theorem witness_register_reads_and_writes_Q1 : ∃ (t : Fin 128) (p : Fin 12) (port : Fin 16) (i : Fin 11) (s : State), stoppedInS1 s = true
    ∧ ∃ cmd, cmd ∈ [Instr.arrConvLoRead t, .tilSeedLoRead t, .schPstepLoRead p, .ckpSteploRead p, .netCntLowRead port i] :=
  ⟨127, 11, 15, 10, stageAt 1 2, by decide +kernel, _, List.mem_cons_self ..⟩

/-- An image of no tile with one array-table entry: group 3 of tile 1, slot 5. -/
def smallBody : List Byte :=
  le 16 5 ++ le 8 7 ++ le 4 0 ++ le 4 1 ++ le 4 10000 ++ le 4 10000 ++ le 4 0 ++ le 2 1 ++ le 2 0 ++ le 16 0
    ++ dirEntry 1 256 0 0 ++ dirEntry 2 256 0 0 ++ dirEntry 3 256 8 1 ++ dirEntry 5 256 0 0 ++ dirEntry 6 256 0 0 ++ List.replicate 48 0 ++ le 8 (2 ^ 57 + 53 * 2 ^ 48)
def smallImage : List Byte := le 4 0x49444C53 ++ le 2 2 ++ le 2 256 ++ le 4 0 ++ le 4 0 ++ le 4 264 ++ le 12 0 ++ sha256 smallBody ++ smallBody
def entry1 : ArrEnt := { tile := 1, larray := 53, mode := 0, sub := 0, segment := 0 }
/-- A husk's header of one record, and its record of bytes 0x04 alone. -/
def huskHead : List Byte := (le 4 0x4B484C53 ++ le 4 1 ++ le 16 5 ++ le 4 0 ++ le 4 0 ++ le 4 1 ++ le 4 0 ++ hssPk) ++ List.replicate 16284 0
def huskRecord : List Byte := List.replicate 1048600 4
def huskFile : HuskSource := .storage 0 0 (huskHead ++ huskRecord)
def unloaded (pwr : Word) (tiles : Word) : State :=
  let s := ofOwner (fun c => { c with layoutClass := 1, slots := [(0, modelSlot)] }) [] (inMemory smallImage (region 12 0 [(.pltTiles 0 0, tiles), (.arrGrp 1 3, pwr)] (plotIs 2)))
  { s with stg := { s.stg with bindings := [(0, bind0)] } }

theorem length_huskHead : huskHead.length = 16384 := by
  rw [huskHead, List.length_append, List.length_replicate]; decide +kernel

theorem reads_header (s : State) (h : (mapFind s.stg.bindings 0).isNone = false) : huskRead s huskFile 0 0 16384 = some huskHead := by
  have hr : huskRecord.length = 1048600 := List.length_replicate
  simp only [huskRead, huskFile, List.length_append, length_huskHead, hr]
  rw [if_neg (by simp [h]), List.drop_zero, List.take_append_of_le_length (by rw [length_huskHead]), List.take_of_length_le (by rw [length_huskHead])]

theorem reads_record (s : State) (h : (mapFind s.stg.bindings 0).isNone = false) : huskRead s huskFile 0 (recordAt 0) 1048600 = some huskRecord := by
  have hr : huskRecord.length = 1048600 := List.length_replicate
  simp only [huskRead, huskFile, List.length_append, length_huskHead, hr, recordAt]
  rw [if_neg (by simp [h]), Nat.zero_mul, Nat.add_zero, List.drop_append_of_le_length (by rw [length_huskHead]), List.drop_of_length_le (by rw [length_huskHead]),
    List.nil_append, List.take_of_length_le (by rw [hr])]

theorem header_fields : leAt huskHead 0 4 = 0x4B484C53 ∧ leAt huskHead 4 1 = 1 ∧ (huskHead.drop 40).take 60 = hssPk ∧ leAt huskHead 8 16 = 5 ∧ leAt huskHead 24 4 = 0 ∧ huskSegments huskHead = 1 := by
  refine ⟨?_, ?_, ?_, ?_, ?_, ?_⟩ <;> decide +kernel

theorem header_ok (verifies : ∀ m k g, Config.hssVerifies m k g = true) (s : State) (h : (sha256 hssPk == fuseDigest s modelKey) = true) : huskHeaderOk s huskHead modelSlot = true := by
  obtain ⟨h1, h2, h3, h4, h5, -⟩ := header_fields
  simp only [huskHeaderOk, h1, h2, h3, h4, h5, h, hss_accepts verifies (show hssParams hssPk = true from by decide +kernel)]
  decide

theorem record_fields : (huskRecord.drop 1048584).take 16 = List.replicate 16 4 ∧ huskRecord.take 8 = List.replicate 8 4 := by
  constructor
  · rw [huskRecord, List.drop_replicate, List.take_replicate, Nat.min_eq_left (by decide)]
  · rw [huskRecord, List.take_replicate, Nat.min_eq_left (by decide)]

theorem opens_of {h r key : List Byte} {i : Nat} {ents : List ArrEnt} {T : BitVec 128} (tags : ∀ k iv a c, Config.gcmTag k iv a c = T)
    (ht : (r.drop 1048584).take 16 = leBytes 16 T.toNat)
    (hc : i < huskSegments h ∧ ents.all (fun e => (leAt (r.take 8) e.sub 1).testBit 2 && leAt (r.take 8) e.sub 1 % 4 == e.mode) = true) :
    ∃ pt, Machine.openSegment h r key i ents = some pt := by
  unfold Machine.openSegment gcmOpen
  simp only [ht, tags, if_true]
  exact ⟨_, if_pos hc⟩

theorem refused_of {h r key : List Byte} {i : Nat} {ents : List ArrEnt} {T : BitVec 128} (tags : ∀ k iv a c, Config.gcmTag k iv a c = T)
    (ht : leBytes 16 T.toNat ≠ (r.drop 1048584).take 16) : Machine.openSegment h r key i ents = none := by
  unfold Machine.openSegment gcmOpen
  simp only [tags, ht, if_false]

theorem record_opens (tags : ∀ k iv a c, Config.gcmTag k iv a c = 0x04040404040404040404040404040404) : ∃ pt, Machine.openSegment huskHead huskRecord [] 0 [entry1] = some pt :=
  opens_of tags (record_fields.1.trans (by decide)) (by rw [record_fields.2]; exact ⟨by decide +kernel, by decide⟩)

theorem record_refused (tags : ∀ k iv a c, Config.gcmTag k iv a c = 0) : Machine.openSegment huskHead huskRecord [] 0 [entry1] = none :=
  refused_of tags (by rw [record_fields.1]; decide)

/-- What every clause of a load shares. -/
theorem load_shared (verifies : ∀ m k g, Config.hssVerifies m k g = true) (pwr tiles : Word) (hp : pwr = 0x00200000 ∧ tiles = 4 ∨ pwr = 0x00200000 ∧ tiles = 2 ∨ pwr = 0 ∧ tiles = 2) :
    let s := unloaded pwr tiles
    Admitted s (msg 0) { type := 0x64, vf := false, needsPlot := true, stage := 5 } ∧ pltState s 0 = pltLoading ∧ s.sec.layoutClass ≠ 0 ∧ s.sec.dbgScope = none
      ∧ mapFind s.sec.slots 0 = some modelSlot ∧ huskRead s huskFile 0 0 16384 = some huskHead ∧ loadImage s 0 12 0 = some (readImage smallImage) ∧ huskHeaderOk s huskHead modelSlot = true
      ∧ (readImage smallImage).modelId = modelSlot.ident := by
  have hk : (sha256 hssPk == fuseDigest (unloaded pwr tiles) modelKey) = true ∧ (mapFind (unloaded pwr tiles).stg.bindings 0).isNone = false := by
    obtain ⟨rfl, rfl⟩ | ⟨rfl, rfl⟩ | ⟨rfl, rfl⟩ := hp <;> exact ⟨by decide +kernel, by decide +kernel⟩
  refine ⟨?_, ?_, ?_, ?_, ?_, reads_header _ hk.2, ?_, header_ok verifies _ hk.1, by decide +kernel⟩ <;>
    (obtain ⟨rfl, rfl⟩ | ⟨rfl, rfl⟩ | ⟨rfl, rfl⟩ := hp <;> first | (unfold Admitted; decide +kernel) | decide +kernel)

theorem witness_epochs_reports_and_keys_Q2 (verifies : ∀ m k g, Config.hssVerifies m k g = true) :
    ∃ (m : Msg) (slot : Fin 256) (src : HuskSource) (imgRegion : Fin 32) (imgOff : Nat) (k : KeySlot) (h : List Byte) (im : Image) (s : State),
      Admitted s m { type := 0x64, vf := false, needsPlot := true, stage := 5 } ∧ pltState s (msgPlot m) = pltLoading ∧ s.sec.layoutClass ≠ 0 ∧ s.sec.dbgScope = none
      ∧ mapFind s.sec.slots slot.val = some k ∧ huskRead s src (msgPlot m) 0 16384 = some h ∧ loadImage s (msgPlot m) imgRegion imgOff = some im ∧ k.kind = 1 ∧ k.plots.testBit (msgPlot m) = true
      ∧ huskHeaderOk s h k = true ∧ im.modelId = k.ident ∧ im.arrtab.filter (fun e => inPlot s (msgPlot m) e.tile) = [] := by
  obtain ⟨h1, h2, h3, h4, h5, h6, h7, h8, h9⟩ := load_shared verifies 0x00200000 4 (.inl ⟨rfl, rfl⟩)
  exact ⟨msg 0, 0, huskFile, 12, 0, modelSlot, huskHead, readImage smallImage, unloaded 0x00200000 4, h1, h2, h3, h4, h5, h6, h7, rfl, by decide +kernel, h8, h9, by decide +kernel⟩

/-- One array of a plot of tile 1 is to be filled from `huskFile`, and the state has a property besides. -/
def LoadOfOne (P : State → Prop) : Prop :=
  ∃ (m : Msg) (slot : Fin 256) (src : HuskSource) (imgRegion : Fin 32) (imgOff : Nat) (k : KeySlot) (h r : List Byte) (im : Image) (e : ArrEnt) (s : State),
      Admitted s m { type := 0x64, vf := false, needsPlot := true, stage := 5 } ∧ pltState s (msgPlot m) = pltLoading ∧ s.sec.layoutClass ≠ 0 ∧ s.sec.dbgScope = none
      ∧ mapFind s.sec.slots slot.val = some k ∧ huskRead s src (msgPlot m) 0 16384 = some h ∧ loadImage s (msgPlot m) imgRegion imgOff = some im ∧ k.kind = 1 ∧ k.plots.testBit (msgPlot m) = true
      ∧ huskHeaderOk s h k = true ∧ im.modelId = k.ident ∧ im.arrtab.filter (fun e => inPlot s (msgPlot m) e.tile) = [e] ∧ huskRead s src (msgPlot m) (recordAt e.segment) 1048600 = some r
      ∧ h = huskHead ∧ r = huskRecord ∧ k.key = [] ∧ e = entry1 ∧ P s

theorem load_of_one (verifies : ∀ m k g, Config.hssVerifies m k g = true) (pwr : Word) (hp : pwr = 0x00200000 ∨ pwr = 0) (P : State → Prop) (hP : P (unloaded pwr 2)) : LoadOfOne P := by
  obtain ⟨h1, h2, h3, h4, h5, h6, h7, h8, h9⟩ := load_shared verifies pwr 2 (hp.elim (fun h => .inr (.inl ⟨h, rfl⟩)) (fun h => .inr (.inr ⟨h, rfl⟩)))
  have hb : (mapFind (unloaded pwr 2).stg.bindings 0).isNone = false ∧ (readImage smallImage).arrtab.filter (fun e => inPlot (unloaded pwr 2) 0 e.tile) = [entry1] := by
    obtain rfl | rfl := hp <;> exact ⟨by decide +kernel, by decide +kernel⟩
  exact ⟨msg 0, 0, huskFile, 12, 0, modelSlot, huskHead, huskRecord, readImage smallImage, entry1, unloaded pwr 2, h1, h2, h3, h4, h5, h6, h7, rfl, by decide +kernel, h8, h9, hb.2,
    reads_record _ hb.1, rfl, rfl, rfl, rfl, hP⟩

theorem witness_epochs_reports_and_keys_Q3 (verifies : ∀ m k g, Config.hssVerifies m k g = true) (tags : ∀ k iv a c, Config.gcmTag k iv a c = 0) :
    LoadOfOne fun s => grpPwr s 1 3 = 2 ∧ Machine.openSegment huskHead huskRecord [] 0 [entry1] = none :=
  load_of_one verifies 0x00200000 (.inl rfl) _ ⟨by decide +kernel, record_refused tags⟩

theorem witness_epochs_reports_and_keys_Q4 (verifies : ∀ m k g, Config.hssVerifies m k g = true) : LoadOfOne fun s => grpPwr s 1 3 ≠ 2 :=
  load_of_one verifies 0 (.inr rfl) _ (by decide +kernel)

theorem witness_epochs_reports_and_keys_Q5 (verifies : ∀ m k g, Config.hssVerifies m k g = true) (tags : ∀ k iv a c, Config.gcmTag k iv a c = 0x04040404040404040404040404040404) :
    LoadOfOne fun s => grpPwr s 1 3 = 2 ∧ (∃ pt, Machine.openSegment huskHead huskRecord [] 0 [entry1] = some pt) ∧ writePermitted s 1 3 (loadSlot s 1 3 5) 5 .husk = true
      ∧ bit (rd s (.arrGrp 1 3)) 22 = false :=
  load_of_one verifies 0x00200000 (.inl rfl) _ ⟨by decide +kernel, record_opens tags, by decide +kernel, by decide +kernel⟩

/-! ### A seedbed slot -/

/-- A component image of the seedbed, and the CONFIG record. -/
def signedComp (n : Nat) : List Byte := header n ++ block0
def configRecord : List Byte := let b := le 4 0x46434C53 ++ List.replicate 252 0; b ++ le 4 (crc32c b).toNat
def seedEnt (type off len : Nat) : List Byte := le 4 type ++ le 4 off ++ le 4 len ++ le 4 0
def seedHeader : List Byte :=
  le 4 0x42534C53 ++ le 4 1 ++ le 4 9 ++ le 4 2372 ++ List.replicate 48 0
    ++ seedEnt 1 512 320 ++ seedEnt 1 832 320 ++ seedEnt 1 1152 320 ++ seedEnt 1 1472 320 ++ seedEnt 1 1792 320 ++ seedEnt 2 2112 260 ++ seedEnt 3 2372 0
    ++ seedEnt 0x10 0x2000000 0 ++ seedEnt 0x11 0x2000000 0 ++ List.replicate 304 0
def seedFile : List Byte := seedHeader ++ signedComp 1 ++ signedComp 2 ++ signedComp 3 ++ signedComp 4 ++ signedComp 5 ++ configRecord ++ block0
/-- A slot that holds bytes from its start on. -/
def slotOf : Nat → List Byte → List (Nat × Byte)
  | _, [] => []
  | k, b :: rest => (k, b) :: slotOf (k + 1) rest

theorem mapGet_slotOf (bs : List Byte) (k i : Nat) (h : i < bs.length) : mapGet 0xFF (slotOf k bs) (k + i) = bs[i] := by
  induction bs generalizing k i with
  | nil => cases h
  | cons b rest ih =>
    cases i with
    | zero => simp [slotOf, mapGet, mapFind]
    | succ i =>
      have hi : i < rest.length := by simpa using h
      have := ih (k + 1) i hi
      simp only [slotOf, mapGet, mapFind, List.getElem_cons_succ] at this ⊢
      rw [if_neg (by omega), show k + (i + 1) = k + 1 + i by omega]
      exact this

theorem slotBytes_slotOf (bs : List Byte) (off n : Nat) (h : off + n ≤ bs.length) : slotBytes (slotOf 0 bs) off n = (bs.drop off).take n := by
  apply List.ext_getElem
  · simp [slotBytes]; omega
  · intro i h1 h2
    have hi : i < n := by simpa [slotBytes] using h1
    have := mapGet_slotOf bs 0 (off + i) (by omega)
    simp only [Nat.zero_add] at this
    simp only [slotBytes, List.getElem_map, List.getElem_range, List.getElem_take, List.getElem_drop]
    exact this

theorem component_ok (verifies : ∀ m k g, Config.hssVerifies m k g = true) (s : State) (hk : (sha256 hssPk == fuseDigest s vendorKey) = true) (hf : svnFloor s = 0)
    (n : Nat) (hn : n = 1 ∨ n = 2 ∨ n = 3 ∨ n = 4 ∨ n = 5) : componentOk s (signedComp n) = true := by
  obtain ⟨k, hp, hc, hu⟩ : ∃ k, parseComponent (signedComp n) = some k ∧ k.comp = n ∧ k.custom = none := by
    obtain rfl | rfl | rfl | rfl | rfl := hn <;> exact ⟨_, rfl, rfl, rfl⟩
  have hb : (signedComp n).drop (leAt (signedComp n) 16 4) = block0 := by obtain rfl | rfl | rfl | rfl | rfl := hn <;> decide +kernel
  have hs : componentSigned s (signedComp n) k = true := by
    simp only [componentSigned, hb, hu, Bool.and_true]
    exact sig_accepted verifies hk
  simp only [componentOk, hp, hc, hs, hf]
  obtain rfl | rfl | rfl | rfl | rfl := hn <;> simp

theorem seed_passes (verifies : ∀ m k g, Config.hssVerifies m k g = true) (s : State) (ho : (sha256 hssPk == fuseDigest s ownerKey) = true)
    (hk : (sha256 hssPk == fuseDigest s vendorKey) = true) (hf : svnFloor s = 0) : seedPasses s (slotOf 0 seedFile) seedHeader = true := by
  have hl : seedFile.length = 2436 := by decide +kernel
  have h1 : seedFormed seedHeader = true := by decide +kernel
  have h2 : seedSize seedHeader = 2372 := by decide +kernel
  have h3 : leNat (slotBytes (slotOf 0 seedFile) 2372 4) = 64 := by rw [slotBytes_slotOf _ _ _ (by rw [hl]; decide)]; decide +kernel
  have h4 : slotBytes (slotOf 0 seedFile) 2372 64 = block0 := by rw [slotBytes_slotOf _ _ _ (by rw [hl])]; decide +kernel
  have h5 : slotEntries (slotOf 0 seedFile) seedHeader 1 = [signedComp 1, signedComp 2, signedComp 3, signedComp 4, signedComp 5] := by
    rw [slotEntries, show dirOf seedHeader 1 = [(512, 320), (832, 320), (1152, 320), (1472, 320), (1792, 320)] from by decide +kernel]
    simp only [List.map]
    rw [slotBytes_slotOf _ _ _ (by rw [hl]; decide), slotBytes_slotOf _ _ _ (by rw [hl]; decide), slotBytes_slotOf _ _ _ (by rw [hl]; decide), slotBytes_slotOf _ _ _ (by rw [hl]; decide),
      slotBytes_slotOf _ _ _ (by rw [hl]; decide)]
    decide +kernel
  have h6 : slotEntries (slotOf 0 seedFile) seedHeader 2 = [configRecord] := by
    rw [slotEntries, show dirOf seedHeader 2 = [(2112, 260)] from by decide +kernel]
    simp only [List.map]
    rw [slotBytes_slotOf _ _ _ (by rw [hl]; decide)]
    decide +kernel
  have h7 : ([1, 2, 3, 4, 5].all fun n => [signedComp 1, signedComp 2, signedComp 3, signedComp 4, signedComp 5].filterMap parseComponent |>.any fun k => k.comp == n) = true := by decide +kernel
  have h8 : [configRecord].all configOk = true := by decide +kernel
  simp only [seedPasses, h1, h2, h3, h4, slotComponents, h5, h6, h7, h8, sig_accepted verifies ho]
  simp only [List.all_cons, List.all_nil, component_ok verifies s hk hf _ (.inl rfl), component_ok verifies s hk hf _ (.inr (.inl rfl)), component_ok verifies s hk hf _ (.inr (.inr (.inl rfl))),
    component_ok verifies s hk hf _ (.inr (.inr (.inr (.inl rfl)))), component_ok verifies s hk hf _ (.inr (.inr (.inr (.inr rfl))))]
  rw [if_neg (by decide), if_neg (by decide)]
  simp

/-- A part with that slot as slot A, at the start of stage S1. -/
def seeded (s : State) : State := { onSec' (fun c => { c with fuses := signedFuses }) s with seed := { s.seed with slotA := slotOf 0 seedFile, slotB := slotOf 0 seedFile } }

theorem chooses_slot (verifies : ∀ m k g, Config.hssVerifies m k g = true) (s : State) : chooseSlot (seeded s) = some (0, false) := by
  have hf : (seeded s).sec.fuses = signedFuses := rfl
  have fd : ∀ k, fuseDigest (seeded s) k = fuseDigest (seeded State.reset) k := fun k => by simp only [fuseDigest, fuse, hf]; rfl
  have fl : svnFloor (seeded s) = 0 := by
    have : svnFloor (seeded State.reset) = 0 := by decide +kernel
    rw [← this]; simp only [svnFloor, fuse, hf]; rfl
  have hh : slotHeader (slotOf 0 seedFile) = seedHeader := by
    rw [slotHeader, slotBytes_slotOf _ _ _ (by rw [show seedFile.length = 2436 from by decide +kernel]; decide)]; decide +kernel
  have hp : seedPasses (seeded s) (slotOf 0 seedFile) seedHeader = true :=
    seed_passes verifies _ (by rw [fd]; decide +kernel) (by rw [fd]; decide +kernel) fl
  have ha : (seeded s).seed.slotA = slotOf 0 seedFile := rfl
  have hb : (seeded s).seed.slotB = slotOf 0 seedFile := rfl
  simp only [chooseSlot, ha, hb, hh, Nat.lt_irrefl, if_false, if_true, hp]

theorem witness_bring_up_stages_and_releases_Q1 (macs : ∀ k b, Config.aesCmac k b = 0) : ∃ s : State, stageState s = stRunning ∧ stageNo s = 0 ∧ inReset s 1 = false ∧ fusesAccepted s = true := by
  refine ⟨onSec' (fun c => { c with fuses := [(vendorKey + 8, crc32c (List.replicate 32 0))] }) (stageAt 0 0), by decide +kernel, by decide +kernel, by decide +kernel, ?_⟩
  have hr : ∀ r, rootChkOf r = 0 := fun r => by simp only [rootChkOf, kdfKey, kdf, macs]; decide
  simp only [fusesAccepted, hr]
  decide +kernel

theorem witness_bring_up_stages_and_releases_Q2 (verifies : ∀ m k g, Config.hssVerifies m k g = true) : ∃ (layout : List (Fin 12 × PlotDef)) (k : Nat) (fb : Bool) (s : State), stageState s = stRunning ∧ stageNo s = 1
    ∧ inReset s 2 = false ∧ inReset s 5 = false ∧ layoutOk s.sec.layoutClass layout = true ∧ chooseSlot s = some (k, fb) ∧ s.sec.epoch < 32768 :=
  ⟨[], 0, false, seeded (stageAt 1 0), by decide +kernel, by decide +kernel, by decide +kernel, by decide +kernel, by decide +kernel, chooses_slot verifies _, by decide +kernel⟩

theorem witness_bring_up_stages_and_releases_Q3 (verifies : ∀ m k g, Config.hssVerifies m k g = true) : ∃ (layout : List (Fin 12 × PlotDef)) (k : Nat) (fb : Bool) (s : State), stageState s = stRunning ∧ stageNo s = 1
    ∧ inReset s 2 = false ∧ inReset s 5 = false ∧ layoutOk s.sec.layoutClass layout = false ∧ chooseSlot s = some (k, fb) :=
  ⟨[(0, def1), (1, def1)], 0, false, seeded (stageAt 1 0), by decide +kernel, by decide +kernel, by decide +kernel, by decide +kernel, by decide +kernel, chooses_slot verifies _⟩

theorem witness_resets_and_seedbed_Q1 (verifies : ∀ m k g, Config.hssVerifies m k g = true) : ∃ (m : Msg) (header : List Byte) (s : State), Admitted s m { type := 0x83, vf := false } ∧ header.length = 512
    ∧ seedPasses s (seedSlot s (1 - runningSlot s)) header = true := by
  refine ⟨msg 0, seedHeader, seeded (upAt []), by unfold Admitted; decide +kernel, by decide +kernel, ?_⟩
  rw [show seedSlot (seeded (upAt [])) (1 - runningSlot (seeded (upAt []))) = slotOf 0 seedFile from by rw [show runningSlot (seeded (upAt [])) = 0 from by decide +kernel]; rfl]
  exact seed_passes verifies _ (by decide +kernel) (by decide +kernel) (by decide +kernel)

/-! ### Restores -/

theorem opens_sealed (tags : ∀ k iv a c, Config.gcmTag k iv a c = 0) (key h : List Byte) (ctr : Nat) (aad ct tag : List Byte) (ht : tag = List.replicate 16 0) :
    ∃ bs, sheafOpen key h ctr aad ct tag = some bs := by
  subst ht
  exact ⟨_, by unfold sheafOpen gcmOpen; rw [tags]; exact if_pos (by decide)⟩

/-- A sheaf of one page of plot 0's region, its record of bytes 0x00 alone. -/
def pageRecord : List Byte := List.replicate 0x10020 0
def pageSheaf : Sheaf := { header := List.replicate 80 0 ++ [1, 0, 0, 0], records := [pageRecord], trailer := [] }

theorem page_record_at (n : Nat) (h : n ≤ 65568) (off : Nat) (ho : off + n ≤ 65568) : leAt pageRecord off n = 0 := by
  rw [leAt, pageRecord, List.drop_replicate, List.take_replicate]
  generalize min n (0x10020 - off) = k
  induction k with
  | zero => rfl
  | succ k ih => rw [List.replicate_succ, leNat, ih]; rfl

theorem witness_checkpoints_and_restores_Q1 (tags : ∀ k iv a c, Config.gcmTag k iv a c = 0) (gen : Nat) (hg : gen = 0 ∨ gen = 1) :
    ∃ (p : Fin 12) (x : Sheaf) (r bs : List Byte) (a : Nat) (key : KeySlot) (s : State), ckpState s p = ckRestoring ∧ (ckpOf s p).chain = [x] ∧ x.records = [r] ∧ sheafPages x.header = 1
      ∧ mapFind s.sec.slots (ckpOf s p).slot = some key ∧ recordAddr s p r = some a
      ∧ sheafOpen key.key x.header (firstCtr x.header + 1) ((x.header.drop 32).take 8 ++ r.take 16) ((r.drop 16).take 0x10000) (r.drop 0x10010) = some bs
      ∧ (rdFld s (.pltGen p) 15 0 = (ckpOf s p).gen ↔ gen = 0) := by
  obtain ⟨bs, hb⟩ := opens_sealed tags [] pageSheaf.header (firstCtr pageSheaf.header + 1) ((pageSheaf.header.drop 32).take 8 ++ pageRecord.take 16) ((pageRecord.drop 16).take 0x10000)
    (pageRecord.drop 0x10010) (by rw [pageRecord, List.drop_replicate])
  have ha : ∀ s : State, regionBase s 0 = 0x2000000 → plotPage s 0 0x200 = true → recordAddr s 0 pageRecord = some 0x2000000 := fun s h1 h2 => by
    simp only [recordAddr, page_record_at 4 (by decide) 0 (by decide), page_record_at 1 (by decide) 4 (by decide), h1]
    simp [h2]; decide
  refine ⟨0, pageSheaf, pageRecord, bs, 0x2000000, ckptSlot, saving 3 ckRestoring (fun k => { k with chain := [pageSheaf], slot := 4, gen := gen }), ?_, ?_, rfl, by decide +kernel, ?_, ?_, hb, ?_⟩
  · obtain rfl | rfl := hg <;> decide +kernel
  · obtain rfl | rfl := hg <;> rfl
  · obtain rfl | rfl := hg <;> decide +kernel
  · obtain rfl | rfl := hg <;> exact ha _ (by decide +kernel) (by decide +kernel)
  · obtain rfl | rfl := hg <;> decide +kernel

/-- A plot whose image has a digest of zeros, and the header of a full sheaf of no page for it. -/
def imageZ : Image := { image1 with digest := List.replicate 32 0 }
def restorable : State := saving 3 0 id [] (fun s => onPlot s 0 (fun q => { q with image := some imageZ }))
def fullHeader : List Byte :=
  le 4 0x48534C53 ++ le 4 1 ++ le 8 7 ++ le 8 9 ++ le 8 0 ++ List.replicate 56 0 ++ le 16 5 ++ List.replicate 32 0 ++ le 16 2 ++ List.replicate 3944 0
def fullSheaf : Sheaf := { header := fullHeader, records := [], trailer := le 4 0x54534C53 ++ List.replicate 4092 0 }

theorem witness_checkpoints_and_restores_Q2 (tags : ∀ k iv a c, Config.gcmTag k iv a c = 0) :
    ∃ (m : Msg) (step : DWord) (slot : Fin 256) (p : Fin 12) (c : List Sheaf) (s : State), Admitted s m { type := 0x92, vf := true } ∧ (m.owner.val = 0 ∨ m.owner.val = p.val + 1)
      ∧ restoreCode s slot step [(p, c)] = 0 := by
  refine ⟨msg 0, 9, 4, 0, [fullSheaf], restorable, by unfold Admitted; decide +kernel, .inl rfl, ?_⟩
  have hv : ∀ key, sheafVerifies key fullSheaf = true := fun key => by
    obtain ⟨b1, h1⟩ := opens_sealed tags key fullSheaf.header (firstCtr fullSheaf.header) (fullSheaf.header.take 4080) [] (fullSheaf.header.drop 4080) (by decide +kernel)
    obtain ⟨b2, h2⟩ := opens_sealed tags key fullSheaf.header (firstCtr fullSheaf.header + sheafPages fullSheaf.header + 1) (fullSheaf.trailer.take 4080) [] (fullSheaf.trailer.drop 4080) (by decide +kernel)
    simp only [sheafVerifies, h1, h2, Option.isSome_some, Bool.and_true]
    decide +kernel
  have hk : (ckptKey restorable 0 4).isNone = false := by decide +kernel
  have hr : (pltState restorable 0 != pltReady || ckpBusy restorable 0 || ckpState restorable 0 == ckRestoring) = false := by decide +kernel
  have hd : restorable.sec.dbgScope.isSome = false := by decide +kernel
  have hc : chainOk [fullSheaf] = true := by decide +kernel
  have hf : sheafFits restorable 0 imageZ fullSheaf = true := by decide +kernel
  have hi : imageOf restorable 0 = some imageZ := by decide +kernel
  have hj : leAt fullSheaf.header 8 8 = (jobOf restorable 0).toNat ∧ sheafStep (chainTip [fullSheaf]) = 9 := by decide +kernel
  simp [restoreCode, hv, hk, hr, hd, hc, hf, hi, hj]

/-! ### An image committed -/

theorem length_sha256 (m : List Byte) : (sha256 m).length = 32 := by
  simp only [sha256]; rfl

/-- The digest of `imageBody`, byte by byte, and the image with it. -/
def bodyDigest : List Byte := (List.range 32).map (fun i => (sha256 imageBody).getD i 0)
def imageBytes1 : List Byte := imageHead ++ (bodyDigest ++ imageBody)
def holdingImage : State := wrBytes (region 12 0 [] (upAt [] (plotIs 2))) 0 imageBytes1

theorem bodyDigest_eq : bodyDigest = sha256 imageBody := by
  apply List.ext_getElem
  · rw [length_sha256]; simp [bodyDigest]
  · intro i h1 h2
    simp [bodyDigest, List.getD, h2]

theorem length_imageBytes1 : imageBytes1.length = 18064 := by
  have h1 : imageHead.length = 32 := by decide +kernel
  have h2 : bodyDigest.length = 32 := by simp [bodyDigest]
  have h3 : imageBody.length = 18000 := by decide +kernel
  rw [imageBytes1, List.length_append, List.length_append, h1, h2, h3]

theorem rdBytes_prefix (s : State) (a n m : Nat) (h : n ≤ m) : rdBytes s a n = (rdBytes s a m).take n := by
  induction n generalizing a m with
  | zero => rfl
  | succ n ih =>
    cases m with
    | zero => omega
    | succ m => rw [rdBytes, rdBytes, List.take_succ_cons, ih (a + 1) m (by omega)]

theorem holding_reads (n : Nat) (h : n ≤ 18064) : rdBytes holdingImage 0 n = imageBytes1.take n := by
  rw [rdBytes_prefix _ 0 n 18064 h, ← length_imageBytes1, holdingImage, rdBytes_wrBytes]

theorem holding_bytes : imageBytes holdingImage (msg 0) 0 12 0 = some imageBytes1 := by
  have hb : regionBase holdingImage 12 = 0 ∧ regionSize holdingImage 12 = 0x1000000 := by decide +kernel
  have h1 : lpxPermits holdingImage (.loader 0 (some 12)) 0 256 = some 12 := by decide +kernel
  have h2 : lpxPermits holdingImage (.loader 0 (some 12)) 0 18064 = some 12 := by decide +kernel
  have hs : leAt (imageBytes1.take 256) 16 4 = 18064 := by decide +kernel
  have hf : (Fin.ofNat 12 0 : Fin 12) = 0 ∧ (Fin.ofNat 32 12 : Fin 32) = 12 := by decide
  simp only [imageBytes]
  rw [if_neg (by decide), if_pos (by decide), hf.1, hf.2, hb.1, hb.2]
  simp only [lpxRead, Nat.add_zero, h1, holding_reads 256 (by decide), hs]
  rw [show max 256 (min 18064 (0x1000000 - 0)) = 18064 from by decide]
  simp only [h2, holding_reads 18064 (Nat.le_refl _)]
  rw [List.take_of_length_le (by rw [length_imageBytes1])]

theorem holding_loads : loadCode holdingImage 0 imageBytes1 = 0 := by
  have h1 : imageHead.length = 32 := by decide +kernel
  have h2 : bodyDigest.length = 32 := by simp [bodyDigest]
  have hz : (readImage imageBytes1).size = 18064 := by decide +kernel
  have hb : (imageBytes1.take (readImage imageBytes1).size).drop 64 = imageBody := by
    rw [hz, List.take_of_length_le (by rw [length_imageBytes1]), imageBytes1, ← List.append_assoc, List.drop_append_of_le_length (by rw [List.length_append, h1, h2]),
      List.drop_of_length_le (by rw [List.length_append, h1, h2]), List.nil_append]
  have hd : (readImage imageBytes1).digest = bodyDigest := by
    show (imageBytes1.drop 32).take 32 = bodyDigest
    rw [imageBytes1, List.drop_append_of_le_length (by rw [h1]), List.drop_of_length_le (by rw [h1]), List.nil_append, List.take_append_of_le_length (by rw [h2]),
      List.take_of_length_le (by rw [h2])]
  have hc : imageCode holdingImage 0 imageBytes1 = 0 := by
    simp only [imageCode]
    rw [if_neg (by rw [hb, hd, bodyDigest_eq]; simp)]
    decide +kernel
  rw [loadCode, if_neg (by decide +kernel), hc, if_neg (by decide)]
  decide +kernel

theorem witness_plot_lifecycle_Q1 : ∃ (m : Msg) (regionV : Fin 32) (off : Nat) (bs : List Byte) (s : State), Admitted s m { type := 0x71, vf := true, needsPlot := true, stage := 5 }
    ∧ pltState s (msgPlot m) = pltLoading ∧ imageBytes s m (msgPlot m) regionV off = some bs ∧ loadCode s (msgPlot m) bs = 0 :=
  ⟨msg 0, 12, 0, imageBytes1, holdingImage, by unfold Admitted; decide +kernel, by decide +kernel, holding_bytes, holding_loads⟩

end Sys2Proof.Tests
end

section
/-! SUPPORT. What the reset state holds, and why ResetState fails as it is typed: it sets a byte read beside `memDefault`, which names no byte in LPDDR5X. -/
namespace Sys2Proof.Machine

/-- The lists of the reset state are empty, hence in their form. -/
theorem canonical_reset : State.reset.Canonical := ⟨wf_nil, List.nodup_nil, mapRising_nil, mapRising_nil, mapRising_nil, mapRising_nil⟩

@[simp] theorem rd_reset (r : Reg) : rd State.reset r = regReset r := rfl

@[simp] theorem fuse_reset (k : Nat) : fuse State.reset k = 0 := rfl

/-- An unlisted byte of LPDDR5X has no value of its own (R195). -/
theorem memDefault_lpx {a : Nat} (h : a < scratchBase) : memDefault a = none := if_neg (Nat.not_le.2 h)

/-- After reset a byte of a scratchpad reads 0 (R186), a byte of LPDDR5X a free value (log entry 42). -/
theorem rdByte_reset (a : Nat) : rdByte State.reset a = (memDefault a).getD (Config.lpxUnwritten 0 a) := rfl

/-- What ResetState says but for the bytes of LPDDR5X, which read as a free value. -/
theorem reset_leaves : State.reset.Canonical ∧ State.reset.pending = [] ∧ (∀ r, rd State.reset r = regReset r)
    ∧ (∀ a, rdByte State.reset a = (memDefault a).getD (Config.lpxUnwritten 0 a)) ∧ ∀ k, fuse State.reset k = 0 :=
  ⟨canonical_reset, rfl, rd_reset, rdByte_reset, fuse_reset⟩

/-- Refutes O2: every read gives a byte, and `memDefault` gives none at LPDDR5X address 0.  Every other clause holds, and the clause on memory does with the free
value of log entry 42 in place of none (`reset_leaves`). -/
theorem not_resetState : ¬ Obligations.ResetState := by
  unfold Obligations.ResetState
  rintro ⟨-, -, -, hmem, -⟩
  have hbyte : some (rdByte State.reset 0) = memDefault 0 := hmem 0
  rw [memDefault_lpx (by decide)] at hbyte
  exact Option.some_ne_none _ hbyte

end Sys2Proof.Machine
end

section
/-! SUPPORT. Reads of 64-bit values: what the answer to a read of a low word is, and what the high word's register holds after it. -/
namespace Sys2Proof.Machine

@[simp] theorem rd_readOut (s : State) (w : Word) (q : Reg) : rd (readOut s w) q = rd s q := rfl

theorem readOut_out (s : State) (w : Word) : (readOut s w).out = .completion 0 (leBytes 4 (if stoppedInS1 s then 0 else w).toNat) :: s.out := rfl

theorem rdFld_wr_ne (s : State) {r q : Reg} (v : Word) (hi lo : Nat) (h : r ≠ q) : rdFld (wr s r v) q hi lo = rdFld s q hi lo := by
  rw [rdFld, rd_wr_ne s v h, rdFld]

/-- Only a write of RST_STAGE bears on the stop in S1. -/
theorem stoppedInS1_wr (s : State) {r : Reg} (v : Word) (h : r ≠ .rstStage) : stoppedInS1 (wr s r v) = stoppedInS1 s := by
  simp only [stoppedInS1, rdFld_wr_ne s v _ _ h]

/-- In a stop in S1 the answer is 0 (R403). -/
theorem readOut_wr_stopped {s : State} {r : Reg} (hi lo : Word) (hr : r ≠ .rstStage) (hs : stoppedInS1 s = true) :
    (readOut (wr s r hi) lo).out = .completion 0 (leBytes 4 0) :: s.out := by
  rw [readOut_out, stoppedInS1_wr s hi hr, if_pos hs, wr_out]
  rfl

/-- Elsewhere it is the low word, and the high word is latched. -/
theorem readOut_wr_running {s : State} {r : Reg} (hi lo : Word) (hr : r ≠ .rstStage) (hs : stoppedInS1 s = false) :
    (readOut (wr s r hi) lo).out = .completion 0 (leBytes 4 lo.toNat) :: s.out ∧ rd (readOut (wr s r hi) lo) r = hi := by
  rw [readOut_out, stoppedInS1_wr s hi hr, if_neg (by simp [hs]), wr_out, rd_readOut, rd_wr_self]
  exact ⟨rfl, rfl⟩

/-- The whole count is set (R286). -/
theorem mapGet_setNetCount (s : State) (port i : Nat) (v : Word) : mapGet 0 (setNetCount s port i v).net.counts (11 * port + i) = v.setWidth 64 := by
  rw [setNetCount, mapGet_mapInsert, if_pos rfl, BitVec.ofNat_toNat]

/-! ### The commands that read a low word: each latches the high word and answers the low one -/

theorem exec_arrConvLoRead (t : Fin 128) (s : State) :
    exec (.arrConvLoRead t) s = .next (readOut (wr s (.arrConvHi t) (hi32 (tile s t).conv)) (lo32 (tile s t).conv)) := rfl
theorem exec_tilSeedLoRead (t : Fin 128) (s : State) :
    exec (.tilSeedLoRead t) s = .next (readOut (wr s (.tilSeedHi t) (hi32 (tile s t).seed)) (lo32 (tile s t).seed)) := rfl
theorem exec_schPstepLoRead (p : Fin 12) (s : State) :
    exec (.schPstepLoRead p) s = .next (readOut (wr s (.schPstepHi p) (hi32 (plot s p).step)) (lo32 (plot s p).step)) := rfl
theorem exec_ckpSteploRead (p : Fin 12) (s : State) :
    exec (.ckpSteploRead p) s = .next (readOut (wr s (.ckpStephi p) (hi32 (ckpOf s p).step)) (lo32 (ckpOf s p).step)) := rfl
theorem exec_netCntLowRead (port : Fin 16) (i : Fin 11) (s : State) : exec (.netCntLowRead port i) s
    = .next (readOut (wr s (.netCntHi port i) (hi32 (mapGet 0 s.net.counts (11 * port.val + i.val)))) (lo32 (mapGet 0 s.net.counts (11 * port.val + i.val)))) := rfl
theorem exec_netCntLowWrite (m : Master) (port : Fin 16) (i : Fin 11) (v : Word) (s : State) :
    exec (.netCntLowWrite m port i v) s = .next (if mayWriteNet m then setNetCount s port i v else s) := rfl

theorem gives_zero_stopped {s : State} {c : Instr} {r : Reg} {hi lo : Word} (hc : exec c s = .next (readOut (wr s r hi) lo)) (hr : r ≠ .rstStage)
    (hs : stoppedInS1 s = true) : Gives s c fun u => u.out = .completion 0 (leBytes 4 0) :: s.out := ⟨_, hc, readOut_wr_stopped hi lo hr hs⟩

theorem gives_words_running {s : State} {c : Instr} {r : Reg} {hi lo : Word} (hc : exec c s = .next (readOut (wr s r hi) lo)) (hr : r ≠ .rstStage)
    (hs : stoppedInS1 s = false) : Gives s c fun u => u.out = .completion 0 (leBytes 4 lo.toNat) :: s.out ∧ rd u r = hi :=
  ⟨_, hc, readOut_wr_running hi lo hr hs⟩

/-- Each of the five reads answers 0 while the SL-1 is stopped in S1 (R403). -/
theorem lowReads_stopped (t : Fin 128) (p : Fin 12) (port : Fin 16) (i : Fin 11) {s : State} (hs : stoppedInS1 s = true) :
    ∀ cmd ∈ [Instr.arrConvLoRead t, .tilSeedLoRead t, .schPstepLoRead p, .ckpSteploRead p, .netCntLowRead port i],
      Gives s cmd fun u => u.out = .completion 0 (leBytes 4 0) :: s.out := by
  intro cmd hcmd
  simp only [List.mem_cons, List.not_mem_nil, or_false] at hcmd
  rcases hcmd with rfl | rfl | rfl | rfl | rfl
  · exact gives_zero_stopped (exec_arrConvLoRead t s) nofun hs
  · exact gives_zero_stopped (exec_tilSeedLoRead t s) nofun hs
  · exact gives_zero_stopped (exec_schPstepLoRead p s) nofun hs
  · exact gives_zero_stopped (exec_ckpSteploRead p s) nofun hs
  · exact gives_zero_stopped (exec_netCntLowRead port i s) nofun hs

end Sys2Proof.Machine
end

section
/-! SUPPORT. A register write by the PF: the access codes (R10), the info register of an error register, and the writes that are not taken (R344). -/
namespace Sys2Proof.Machine

/-- What a register holds after a word is written to it: its RW bits are the word's, its W1C bits are cleared where the word is 1 (R10). -/
def busWord (a : RegAccess) (old v : Word) : Word := (old &&& ~~~a.rw &&& ~~~(a.w1c &&& v)) ||| (v &&& a.rw)

/-- A plain write of a register without RWL fields. -/
theorem plainWrite_eq (s : State) {r : Reg} (v : Word) (h : (regAccess r).rwl = 0) :
    plainWrite s r v = clearInfo (wr s r (busWord (regAccess r) (rd s r) v)) r := by
  simp [plainWrite, busWord, h]

theorem bit_busWord_of_rw {a : RegAccess} {j : Nat} (h : bit a.rw j = true) (old v : Word) : bit (busWord a old v) j = bit v j := by
  simp only [bit, BitVec.testBit_toNat] at h ⊢
  simp only [busWord, BitVec.getLsbD_or, BitVec.getLsbD_and, BitVec.getLsbD_not, h, Bool.not_true, Bool.and_false, Bool.false_and, Bool.false_or, Bool.and_true]

/-- A field of RW bits takes the word's own field. -/
theorem fld_busWord {a : RegAccess} {hi lo : Nat} (h : ∀ j, lo ≤ j → j ≤ hi → bit a.rw j = true) (old v : Word) : fld (busWord a old v) hi lo = fld v hi lo := by
  apply Nat.eq_of_testBit_eq
  intro j
  rw [fld_testBit, fld_testBit]
  by_cases hj : j < hi + 1 - lo
  · rw [bit_busWord_of_rw (h _ (by omega) (by omega))]
  · rw [decide_eq_false hj, Bool.false_and, Bool.false_and]

/-- An error register is not its own info register. -/
theorem infoOf_ne {r i : Reg} {b : Nat} (h : infoOf r = some (i, b)) : r ≠ i := by
  rintro rfl
  unfold infoOf at h
  split at h <;> cases h

/-- VALID of the info register falls once the error register is all zero (Tables ARR-21, SHL-13, SCH-28, MEM-12). -/
theorem rd_clearInfo_info (s : State) {r i : Reg} {b : Nat} (h : infoOf r = some (i, b)) :
    rd (clearInfo s r) i = if rd s r = 0 then setBit (rd s i) b false else rd s i := by
  simp only [clearInfo, h]
  split
  · rw [rd_wrBit, if_pos rfl]
  · rfl

theorem rd_clearInfo_ne (s : State) {r q : Reg} (h : ∀ i b, infoOf r = some (i, b) → q ≠ i) : rd (clearInfo s r) q = rd s q := by
  cases hi : infoOf r with
  | none => simp only [clearInfo, hi]
  | some e =>
    simp only [clearInfo, hi]
    split
    · rw [rd_wrBit, if_neg (h _ _ hi).symm]
    · rfl

theorem rd_plainWrite_self (s : State) {r : Reg} (v : Word) (h : (regAccess r).rwl = 0) :
    rd (plainWrite s r v) r = busWord (regAccess r) (rd s r) v := by
  rw [plainWrite_eq s v h, rd_clearInfo_ne _ fun i b hi => infoOf_ne hi, rd_wr_self]

theorem rd_plainWrite_ne (s : State) {r q : Reg} (v : Word) (h : (regAccess r).rwl = 0) (hq : q ≠ r) (hi : ∀ i b, infoOf r = some (i, b) → q ≠ i) :
    rd (plainWrite s r v) q = rd s q := by
  rw [plainWrite_eq s v h, rd_clearInfo_ne _ hi, rd_wr_ne _ _ hq.symm]

theorem rd_plainWrite_info (s : State) {r i : Reg} {b : Nat} (v : Word) (h : (regAccess r).rwl = 0) (hi : infoOf r = some (i, b)) :
    rd (plainWrite s r v) i = if rd (plainWrite s r v) r = 0 then setBit (rd s i) b false else rd s i := by
  rw [rd_plainWrite_self s v h, plainWrite_eq s v h, rd_clearInfo_info _ hi, rd_wr_self, rd_wr_ne _ _ (infoOf_ne hi)]

/-- The PF reaches its BAR0: it is in D0 with memory space enabled. -/
structure PfUp (s : State) : Prop where
  d0 : (fnState s 0).dstate = 0
  memory : (fnState s 0).memEnable = true

theorem exec_registerWrite_pf (off : Nat) (v : Word) (s : State) : exec (.registerWrite .pf (.bar off) v) s = .next (hostStore s .pf 0 off v) := rfl

/-- A PF write at an aligned offset of BAR0 writes the register that lies there. -/
theorem exec_registerWrite_pf_reg {s : State} {off : Nat} {r : Reg} (hup : PfUp s) (hoff : off < 0x4000000) (halign : off % 4 = 0) (hplace : pfPlace s 0 off = .reg r)
    (v : Word) : exec (.registerWrite .pf (.bar off) v) s = .next (storeReg s .pf r v) := by
  have hp : placeOf s .pf off = .reg r := hplace
  simp [exec_registerWrite_pf, hostStore, vfExists, hup.d0, hup.memory, Nat.not_le.2 hoff, halign, vfTakes, regStore, hp]

/-- A PF write off a 4-byte boundary is an Unsupported Request (R344). -/
theorem exec_registerWrite_pf_unaligned {s : State} {off : Nat} (hup : PfUp s) (hoff : off < 0x4000000) (halign : off % 4 ≠ 0) (v : Word) :
    exec (.registerWrite .pf (.bar off) v) s = .next (unsupported s 0 2 true) := by
  simp [exec_registerWrite_pf, hostStore, vfExists, hup.d0, hup.memory, Nat.not_le.2 hoff, halign]

/-- With memory space disabled no BAR claims the write (log entry 44). -/
theorem exec_registerWrite_pf_disabled {s : State} (hd : (fnState s 0).dstate = 0) (hm : (fnState s 0).memEnable = false) (off : Nat) (v : Word) :
    exec (.registerWrite .pf (.bar off) v) s = .next (unsupported s 0 1 true) := by
  simp [exec_registerWrite_pf, hostStore, vfExists, hd, hm]

theorem rd_unsupported_posted (s : State) (f row : Nat) : rd (unsupported s f row true) .hifUrcnt = satAdd (rd s .hifUrcnt) 1 := by
  rw [unsupported, if_pos rfl, rd_count, if_pos rfl]
  rfl

/-- The registers under access codes alone that RegisterReadsAndWrites names: a write of one is plain, and none has an RWL field. -/
theorem storeReg_plain {n : Nat} {r : Reg} (h : r ∈ [Reg.arrErr n, .schErr n, .tilSherr n, .tilSperr n, .evrCurHi 0, .evrIrq 0]) (s : State) (m : Master) (v : Word) :
    storeReg s m r v = plainWrite s r v ∧ (regAccess r).rwl = 0 := by
  simp only [List.mem_cons, List.not_mem_nil, or_false] at h
  rcases h with rfl | rfl | rfl | rfl | rfl | rfl <;> exact ⟨rfl, rfl⟩

theorem storeReg_pltCfg (s : State) (v : Word) : storeReg s .pf .pltCfg v = writeIf s (fieldIn v 10 0 60 1100) .pltCfg v := rfl

/-- PLT_CFG takes a SCRUB_GBPS in its range. -/
theorem rdFld_store_pltCfg (s : State) {v : Word} (hlo : 60 ≤ fld v 10 0) (hhi : fld v 10 0 ≤ 1100) :
    rdFld (storeReg s .pf .pltCfg v) .pltCfg 10 0 = fld v 10 0 := by
  have hrw : ∀ j, 0 ≤ j → j ≤ 10 → bit (regAccess .pltCfg).rw j = true := by decide
  rw [storeReg_pltCfg, fieldIn, decide_eq_true hlo, decide_eq_true hhi, Bool.and_self, writeIf, if_pos rfl, rdFld, rd_plainWrite_self s v rfl, fld_busWord hrw]

/-- Below its range the write is ignored. -/
theorem store_pltCfg_below (s : State) {v : Word} (h : fld v 10 0 < 60) : storeReg s .pf .pltCfg v = s := by
  rw [storeReg_pltCfg, fieldIn, decide_eq_false (Nat.not_le.2 h), Bool.false_and, writeIf]
  rfl

/-! ### Writes by a core beyond its reach, and configuration writes -/

theorem exec_registerWrite_core (c : Fin 24) (off : Nat) (v : Word) (s : State) : exec (.registerWrite (.core c) (.bar off) v) s
    = .next (if off % 4 ≠ 0 then s else if 2 ≤ reach s c off then regStore s (.core c) off v else refuseWrite s (.core c) off) := rfl

/-- A core's write beyond its reach is dropped, and reported where it meant a region register (R6, R256). -/
theorem exec_registerWrite_beyond {s : State} {c : Fin 24} {off : Nat} (h : reach s c off < 2) (v : Word) :
    exec (.registerWrite (.core c) (.bar off) v) s = .next (if off % 4 ≠ 0 then s else refuseWrite s (.core c) off) := by
  rw [exec_registerWrite_core, if_neg (Nat.not_le.2 h)]

/-- An event changes no register but the count of dropped events. -/
theorem rd_recordEvent (s : State) (code plot sev island object : Nat) (value : Word) (extra : Nat) {q : Reg} (h : q ≠ .evrDropcnt) :
    rd (recordEvent s code plot sev island object value extra) q = rd s q := by
  unfold recordEvent
  dsimp only
  split
  · rfl
  · rw [rd_count, if_neg h.symm]
    rfl

/-- A queue with room takes the event as its last (R438). -/
theorem events_recordEvent (s : State) (code plot sev island object : Nat) (value : Word) (extra : Nat) (h : (eventQueue s island).events.length < 4) :
    ∃ e, (eventQueue (recordEvent s code plot sev island object value extra) island).events = (eventQueue s island).events ++ [e]
      ∧ e.code = code ∧ e.sev = sev ∧ e.object = object := by
  rw [recordEvent, if_pos h, eventQueue, mapGet_mapInsert, if_pos rfl]
  exact ⟨_, rfl, rfl, rfl, rfl⟩

theorem rd_refuseWrite (s : State) (m : Master) (off : Nat) {q : Reg} (h : q ≠ .evrDropcnt) : rd (refuseWrite s m off) q = rd s q := by
  unfold refuseWrite
  split
  · exact rd_recordEvent _ _ _ _ _ _ _ _ h
  · rfl

theorem exec_registerWrite_config (f : CfgField) (v : Word) (s : State) : exec (.registerWrite .pf (.config 0 f) v) s
    = .next (if configHeld s then emit s (.message 0 "RETRY_STATUS" 0) else if vfExists s 0 then storeConfig s 0 f else s) := rfl

theorem memEnable_storeConfig (s : State) (f : Nat) (on : Bool) : (fnState (storeConfig s f (.memory on)) f).memEnable = on := by
  simp [storeConfig, fnState, onFn, mapGet]

end Sys2Proof.Machine
end

section
/-! SUPPORT. RegisterReadsAndWrites, from the laws of reads of low words and of register writes. -/
namespace Sys2Proof.Machine

/-- Settles O60: the commands' own equations reduce it to what the answer to a low-word read is (R57, R87, R149, R286, R403, R436), what a plain write leaves in a
register and its info register (R10), and what becomes of the writes that are not taken (R6, R256, R344, R406). -/
theorem registerReadsAndWrites : Obligations.RegisterReadsAndWrites := by
  unfold Obligations.RegisterReadsAndWrites
  refine ⟨fun t p port i s => ⟨lowReads_stopped t p port i, gives_words_running (exec_arrConvLoRead t s) nofun,
      gives_words_running (exec_tilSeedLoRead t s) nofun, gives_words_running (exec_schPstepLoRead p s) nofun,
      gives_words_running (exec_ckpSteploRead p s) nofun, ?netRead, fun m v => ⟨?netWrite, ?netRefused⟩⟩,
    fun off n r v s hd hm hoff halign hplace => ?placed, fun off v s => ⟨?unaligned, ?disabled, ?reach, ?dropped, ?event, ?held, ?config⟩⟩
  case netRead =>
    intro hs
    exact ⟨_, exec_netCntLowRead port i s, and_assoc.1 ⟨readOut_wr_running _ _ nofun hs, rfl⟩⟩
  case netWrite =>
    intro hmay
    exact ⟨_, exec_netCntLowWrite m port i v s, by rw [if_pos hmay]; exact mapGet_setNetCount s port i v⟩
  case netRefused =>
    intro hmay
    rw [exec_netCntLowWrite, if_neg (Bool.eq_false_iff.1 hmay)]
  case placed =>
    have hexec := exec_registerWrite_pf_reg ⟨hd, hm⟩ hoff halign hplace v
    refine ⟨fun hr => ⟨_, hexec, ?_⟩, ?_⟩
    · obtain ⟨hplain, hrwl⟩ := storeReg_plain hr s .pf v
      rw [hplain]
      exact ⟨rd_plainWrite_self s v hrwl, fun q hq hi => rd_plainWrite_ne s v hrwl hq hi, fun i b hi => rd_plainWrite_info s v hrwl hi⟩
    · rintro rfl
      exact ⟨fun hlo hhi => ⟨_, hexec, rdFld_store_pltCfg s hlo hhi⟩, fun hlow => hexec.trans (congrArg _ (store_pltCfg_below s hlow))⟩
  case unaligned =>
    intro hd hm hoff halign
    exact ⟨_, exec_registerWrite_pf_unaligned ⟨hd, hm⟩ hoff halign v, rd_unsupported_posted s 0 2⟩
  case disabled =>
    intro hd hm
    exact ⟨_, exec_registerWrite_pf_disabled hd hm off v, rd_unsupported_posted s 0 1⟩
  case reach =>
    intro c hreach
    refine ⟨_, exec_registerWrite_beyond hreach v, fun r hr => ?_⟩
    split
    · rfl
    · exact rd_refuseWrite s _ off hr
  case dropped =>
    intro c hreach hnone
    rw [exec_registerWrite_beyond hreach]
    split
    · rfl
    next halign => rw [refuseWrite, hnone.resolve_left halign]
  case event =>
    intro c x hreach halign hobj hroom
    refine ⟨_, exec_registerWrite_beyond hreach v, ?_⟩
    rw [if_neg (not_not.2 halign), refuseWrite, hobj]
    exact events_recordEvent _ _ _ _ _ _ _ _ hroom
  case held =>
    intro on hheld
    exact ⟨_, exec_registerWrite_config (.memory on) v s, by rw [if_pos hheld]; exact ⟨rfl, rfl⟩⟩
  case config =>
    intro on hheld
    exact ⟨_, exec_registerWrite_config (.memory on) v s, by rw [hheld]; exact memEnable_storeConfig s 0 on⟩

end Sys2Proof.Machine
end

section
/-! SUPPORT. What the shared operations of a tile leave of its state: fields and bits read back after a write, footprints read as equations, held bundles, slots and
results on their way. -/
namespace Sys2Proof.Machine

/-! ### Fields and bits of a register just written -/

theorem rdFld_wrFld_self (s : State) (r : Reg) {hi lo : Nat} (v : Nat) (hh : hi < 32) (h : lo ≤ hi) :
    rdFld (wrFld s r hi lo v) r hi lo = v % 2 ^ (hi + 1 - lo) := by
  rw [rdFld, rd_wrFld, if_pos rfl, fld_setFld_self _ _ _ _ hh h]

theorem rdFld_wrFld_of_disjoint (s : State) (r : Reg) {hi lo a b : Nat} (v : Nat) (hh : hi < 32) (h : lo ≤ hi) (hd : a < lo ∨ hi < b) :
    rdFld (wrFld s r hi lo v) r a b = rdFld s r a b := by
  rw [rdFld, rd_wrFld, if_pos rfl, fld_setFld_of_disjoint _ _ _ _ _ _ hh h hd, rdFld]

theorem bit_wrFld_of_disjoint (s : State) (r : Reg) {hi lo j : Nat} (v : Nat) (hh : hi < 32) (h : lo ≤ hi) (hd : j < lo ∨ hi < j) :
    bit (rd (wrFld s r hi lo v) r) j = bit (rd s r) j := by
  rw [rd_wrFld, if_pos rfl, bit_setFld_of_disjoint _ _ _ _ _ hh h hd]

theorem bit_wrBit_self (s : State) (r : Reg) {i : Nat} (b : Bool) (h : i < 32) : bit (rd (wrBit s r i b) r) i = b := by
  rw [rd_wrBit, if_pos rfl, bit_setBit _ _ _ _ h, if_pos rfl]

/-- A word has no bit beyond its 32. -/
theorem bit_eq_false_of_le (w : Word) {i : Nat} (h : 32 ≤ i) : bit w i = false := by
  rw [bit, BitVec.testBit_toNat, BitVec.getLsbD_of_ge _ _ h]

/-- A bit just cleared reads 0, wherever it lies. -/
theorem bit_wrBit_false (s : State) (r : Reg) (i : Nat) : bit (rd (wrBit s r i false) r) i = false := by
  by_cases h : i < 32
  · exact bit_wrBit_self s r false h
  · exact bit_eq_false_of_le _ (Nat.le_of_not_lt h)

/-! ### Footprints as equations -/

/-- A footprint lies within itself. -/
theorem Within.self (M : Nat) : Within M M := Nat.or_self M

/-- An operation without tiles in its footprint leaves every tile as it was. -/
theorem Keeps.tile_eq {F : Nat} {s t : State} (h : Keeps F s t) (hF : F.testBit 6 = false) (n : Nat) : tile t n = tile s n := by
  rw [tile, h.tiles.eq hF, tile]

@[simp] theorem tile_recordEvent (s : State) (code plot sev island object : Nat) (value : Word) (extra n : Nat) :
    tile (recordEvent s code plot sev island object value extra) n = tile s n :=
  (recordEvent_keeps (.refl s) code plot sev island object value extra (.self _)).tile_eq rfl n

@[simp] theorem tile_shError (s : State) (t cyc desc : Nat) (bits : List Nat) (n : Nat) : tile (shError s t cyc desc bits) n = tile s n :=
  (shError_keeps (.refl s) t cyc desc bits (.self _)).tile_eq rfl n

@[simp] theorem tile_voidLane (s : State) (t desc n : Nat) : tile (voidLane s t desc) n = tile s n :=
  (voidLane_keeps (.refl s) t desc (.self _)).tile_eq rfl n

@[simp] theorem rd_onTile (s : State) (t : Nat) (f : TileState → TileState) (q : Reg) : rd (onTile s t f) q = rd s q := rfl

@[simp] theorem tile_setActive (s : State) (t n : Nat) : tile (setActive s t) n = tile s n := rfl

@[simp] theorem tile_wrBytes (s : State) (a : Nat) (bs : List Byte) (n : Nat) : tile (wrBytes s a bs) n = tile s n := rfl

/-- Bytes written one run after another leave every tile as it was. -/
theorem tile_foldl_wrBytes {α : Type} (a : α → Nat) (b : State → α → List Byte) (l : List α) (s : State) (n : Nat) :
    tile (l.foldl (fun s w => wrBytes s (a w) (b s w)) s) n = tile s n := by
  induction l generalizing s with
  | nil => rfl
  | cons w rest ih => exact (ih _).trans (tile_wrBytes s (a w) (b s w) n)

@[simp] theorem tile_unwatch (s : State) (t n : Nat) : tile (unwatch s t).1 n = tile s n := rfl

/-- An error bit raised alone reads 1 (R57). -/
theorem bit_arrError (s : State) (t g sl : Nat) {b : Nat} (h : b < 32) : bit (rd (arrError s t g sl [b]) (.arrErr t)) b = true := by
  rw [arrError, if_neg (by simp)]
  dsimp only [forAll]
  split
  · exact bit_wrBit_self s _ true h
  · rw [rd_wr_ne _ _ (by nofun)]
    exact bit_wrBit_self s _ true h

theorem bit_shError (s : State) (t cyc desc : Nat) {b : Nat} (h : b < 32) : bit (rd (shError s t cyc desc [b]) (.tilSherr t)) b = true := by
  rw [shError, if_neg (by simp)]
  dsimp only [forAll]
  split
  · exact bit_wrBit_self s _ true h
  · rw [rd_wr_ne _ _ (by nofun)]
    exact bit_wrBit_self s _ true h

/-- ACTIVE counts the tile's active arrays (R41). -/
theorem rdFld_setActive (s : State) (t : Nat) : rdFld (setActive s t) (.arrStatus t) 13 8 = ((tile s t).mvms.filter mvmActive).length % 64 :=
  rdFld_wrFld_self s _ _ (by decide) (by decide)

/-- A fallow request takes effect or waits: of the tile it changes the list of those that wait. -/
theorem tile_applyFallow (s : State) (t g : Nat) : ∃ l, tile (applyFallow s t g) t = { tile s t with fallowDue := l } := by
  unfold applyFallow
  split
  · exact ⟨_, tile_onTile_self _ _ _⟩
  · exact ⟨_, (tile_wrFld_eq _ _ _ _ _ _).trans (tile_onTile_self _ _ _)⟩

/-! ### Held bundles -/

/-- A tile that holds no bundle has none to judge again. -/
theorem retry_unheld {s : State} {t : Nat} (h : (tile s t).held = []) (waited : Nat) : retry s [t] waited = s := by
  have hcharge : chargeWait waited s t = s := by rw [chargeWait, h]; rfl
  simp [retry, forAll, hcharge, h, release]

/-! ### Results on their way -/

theorem mem_landInsert {ls : List Landing} {k l : Landing} (h : l ∈ ls) : l ∈ landInsert ls k := by
  induction ls with
  | nil => cases h
  | cons j rest ih =>
    rw [landInsert]
    split
    · exact List.mem_cons_of_mem _ h
    · rcases List.mem_cons.1 h with rfl | h
      · exact List.mem_cons_self
      · exact List.mem_cons_of_mem _ (ih h)

theorem Lands.of_tile_eq {s u : State} {t : Nat} {l : Landing} (h : Lands s t l) (e : (tile u t).landing = (tile s t).landing) : Lands u t l := by
  rw [Lands, e]
  exact h

theorem tile_land (s : State) (t : Nat) (k : Landing) : tile (land s t k) t = { tile s t with landing := landInsert (tile s t).landing k } :=
  tile_onTile_self _ _ _

/-- Another result set on its way leaves this one there. -/
theorem Lands.land {s : State} {t : Nat} {l : Landing} (h : Lands s t l) (k : Landing) : Lands (land s t k) t l := by
  rw [Lands, tile_land]
  exact mem_landInsert h

/-- Each of a run of results is on its way. -/
theorem lands_forAll_land (s : State) (t : Nat) (f : Nat → Landing) (l : List Nat) : ∀ k ∈ l, Lands (forAll (fun s k => land s t (f k)) s l) t (f k) :=
  forAll_each (P := fun k s => Lands s t (f k)) (fun s k => lands_land s t (f k)) (fun _ _ m h => h.land (f m)) l s

theorem lands_landBeats (s : State) (t cyc addr : Nat) (bs : List Byte) :
    ∀ k < (bs.length + 255) / 256, Lands (landBeats s t cyc addr bs) t (.bytes (cyc + 10 + k) (addr + 256 * k) ((bs.drop (256 * k)).take 256)) :=
  fun k hk => lands_forAll_land s t (fun k => .bytes (cyc + 10 + k) (addr + 256 * k) ((bs.drop (256 * k)).take 256)) _ k (List.mem_range.2 hk)

theorem Lands.landBeats {s : State} {t : Nat} {l : Landing} (h : Lands s t l) (cyc addr : Nat) (bs : List Byte) : Lands (landBeats s t cyc addr bs) t l :=
  forAll_inv (P := fun s => Lands s t l) (fun _ _ h => h.land _) _ s h

theorem ppFree_landBeats (s : State) (t cyc addr : Nat) (bs : List Byte) : (tile (landBeats s t cyc addr bs) t).ppFree = (tile s t).ppFree :=
  forAll_inv (P := fun u => (tile u t).ppFree = (tile s t).ppFree) (fun u k h => by rw [tile_land]; exact h) _ s rfl

theorem tile_countMxNan (s : State) (t cyc desc n m : Nat) : tile (countMxNan s t cyc desc n) m = tile s m :=
  (countMxNan_keeps (.refl s) t cyc desc n (.self _)).tile_eq rfl m

/-- The output of a final collect joins what is on its way (R69, R70). -/
theorem Lands.finalOutput {s : State} {t : Nat} {l : Landing} (h : Lands s t l) (desc : Nat) (vals : List Int) (f : FinalOut) :
    Lands (finalOutput s t desc vals f) t l := by
  unfold Machine.finalOutput
  split
  · exact h.landBeats _ _ _
  · exact (h.of_tile_eq (by rw [tile_countMxNan])).landBeats _ _ _

/-- What one result does as it lands takes no other off its way. -/
theorem Lands.landOne {s : State} {t : Nat} {l : Landing} (h : Lands s t l) (k : Landing) : Lands (landOne s t k) t l := by
  cases k with
  | words due dest key vals scales => exact h.of_tile_eq (by cases dest <;> simp [Machine.landOne])
  | bytes due a bs => exact h
  | load due key a => exact h.land _
  | chunk due key b => exact h.of_tile_eq (by simp [Machine.landOne])
  | tail due a len head put => cases put <;> exact h.land _
  | accum due row add desc vals final =>
    cases final with
    | none =>
      simp only [Machine.landOne]
      split
      · exact h.of_tile_eq (by rw [tile_onTile_self])
      · exact h.of_tile_eq (by rw [tile_shError, tile_count_eq, tile_onTile_self])
    | some f =>
      simp only [Machine.landOne]
      split
      · exact (h.of_tile_eq (by rw [tile_onTile_self])).finalOutput _ _ _
      · exact (h.of_tile_eq (by rw [tile_shError, tile_count_eq, tile_onTile_self])).finalOutput _ _ _
  | choice due writes missing limit =>
    simp only [Machine.landOne]
    split
    · refine h.of_tile_eq (congrArg TileState.landing ((tile_draw_eq _ _).trans ?_))
      rw [tile_foldl_wrBytes, tile_unwatch]
    · have hwritten : tile (writes.foldl (fun s w => wrBytes s w.1 w.2) (unwatch s t).1) t = tile s t :=
        tile_foldl_wrBytes (fun w => w.1) (fun _ w => w.2) writes _ t
      split
      · exact h.of_tile_eq (congrArg TileState.landing hwritten)
      · exact h.of_tile_eq (by rw [tile_shError, tile_count_eq, hwritten])
  | line due p x i a => exact h

end Sys2Proof.Machine
end

section
/-! SUPPORT. Weight writes and the requests of a group (R45, R51, R52, R55): what opening, writing a row, closing, fallow and substitution requests leave. -/
namespace Sys2Proof.Machine

/-! ### The state of a group -/

theorem grpPwr_wrFld (s : State) (t g : Nat) {v : Nat} (h : v < 4) : grpPwr (wrFld s (.arrGrp t g) 21 20 v) t g = v :=
  (rdFld_wrFld_self s _ v (by decide) (by decide)).trans (Nat.mod_eq_of_lt h)

theorem grpPwr_of_rd_eq {s u : State} {t g : Nat} (h : rd u (.arrGrp t g) = rd s (.arrGrp t g)) : grpPwr u t g = grpPwr s t g := by
  rw [grpPwr, rdFld, h, grpPwr, rdFld]

theorem grpPwr_onTile (s : State) (t : Nat) (f : TileState → TileState) (n g : Nat) : grpPwr (onTile s t f) n g = grpPwr s n g := rfl

theorem rd_setSpare_ne (s : State) {t g : Nat} (v : Nat) {q : Reg} (h : .arrGrp t g ≠ q) : rd (setSpare s t g v) q = rd s q := rd_wr_ne s _ h

/-- The spare's state is another field than PWR. -/
theorem grpPwr_setSpare (s : State) (t g k v : Nat) : grpPwr (setSpare s t g v) t k = grpPwr s t k := by
  by_cases hg : g = k
  · subst hg
    exact rdFld_wrFld_of_disjoint s _ v (by decide) (by decide) (by decide)
  · exact grpPwr_of_rd_eq (rd_setSpare_ne s v fun e => hg (Reg.arrGrp.inj e).2)

/-- A fallow request writes no bit of ARR_GRP but PWR. -/
theorem bit_applyFallow (s : State) (t g : Nat) {j : Nat} (hj : j < 20 ∨ 21 < j) : bit (rd (applyFallow s t g) (.arrGrp t g)) j = bit (rd s (.arrGrp t g)) j := by
  unfold applyFallow
  split
  · rfl
  · exact bit_wrFld_of_disjoint _ _ _ (by decide) (by decide) hj

/-- Nor does a wake. -/
theorem bit_wakeGroup (s : State) (t g : Nat) {j : Nat} (hj : j < 20 ∨ 21 < j) : bit (rd (wakeGroup s t g) (.arrGrp t g)) j = bit (rd s (.arrGrp t g)) j := by
  have htoken : rd (takeToken s) (.arrGrp t g) = rd s (.arrGrp t g) := (takeToken_keeps (.refl s) (.self _)).rd_eq rfl
  unfold wakeGroup
  split_ifs
  · rfl
  · exact bit_wrFld_of_disjoint _ _ _ (by decide) (by decide) hj
  · rw [rd_count, if_neg nofun]
    rfl
  · rw [bit_wrFld_of_disjoint _ _ _ (by decide) (by decide) hj, htoken]
  · rfl

/-- FALLOW_REQ holds what was written to it (R55). -/
theorem bit_fallowReq (s : State) (t g : Nat) (v : Bool) : bit (rd (fallowReq s t g v) (.arrGrp t g)) 22 = v := by
  unfold fallowReq
  split
  · exact (bit_applyFallow _ t g (by decide)).trans (bit_wrBit_self s _ v (by decide))
  · exact (bit_wakeGroup _ t g (by decide)).trans (bit_wrBit_self s _ v (by decide))

/-! ### Opening -/

/-- An open write stands in the tile, its group being AWAKE (R51). -/
theorem writes_openWrite (s : State) (t : Nat) (w : WeightWrite) :
    (tile (openWrite s t w) t).writes = (tile s t).writes.filter (fun v => !(v.group == w.group && v.slot == w.slot)) ++ [{ w with waiting := false }] := by
  unfold openWrite
  split <;> simp [setSpare]

/-- The slot holds no valid image from the open on. -/
theorem valid_openWrite (s : State) (t : Nat) (w : WeightWrite) : bit (rd (openWrite s t w) (.arrValid t w.group)) w.slot = false := by
  unfold openWrite
  dsimp only
  rw [rd_onTile]
  split
  · rw [rd_setSpare_ne _ _ (by nofun)]
    exact bit_wrBit_false s _ _
  · exact bit_wrBit_false s _ _

/-- An open touches of ARR_GRP the spare's state alone. -/
theorem grpPwr_openWrite (s : State) (t g : Nat) (w : WeightWrite) : grpPwr (openWrite s t w) t g = grpPwr s t g := by
  have hvalid : grpPwr (wrBit s (.arrValid t w.group) w.slot false) t g = grpPwr s t g := grpPwr_of_rd_eq (rd_wr_ne s _ (by nofun))
  unfold openWrite
  dsimp only
  rw [grpPwr_onTile]
  split
  · exact (grpPwr_setSpare _ t w.group g _).trans hvalid
  · exact hvalid

/-- A write that waits for its group stands last among the tile's open writes (R55). -/
theorem mem_writes_askWrite (s : State) (t : Nat) (w : WeightWrite) : w ∈ (tile (askWrite s t w) t).writes := by
  simp [askWrite]

theorem exec_weightWriteOpen_refused {s : State} {n : Fin 128} {g : Fin 32} {slot : Fin 17} {target : Fin 16} {kind : WriteKind}
    (h : writePermitted s n g slot target kind = false) (mode : Fin 3) :
    exec (.weightWriteOpen n g slot mode target kind) s = .next (arrError s n g slot [6]) := by
  simp [exec, execWeightWriteOpen, h]

/-- The write that an open asks for. -/
def askedWrite (g : Fin 32) (slot : Fin 17) (mode : Fin 3) (target : Fin 16) (kind : WriteKind) : WeightWrite :=
  { group := g, slot := slot, mode := mode, target := target, kind := kind, nextRow := 0, waiting := true, failed := false }

theorem exec_weightWriteOpen_permitted {s : State} {n : Fin 128} {g : Fin 32} {slot : Fin 17} {target : Fin 16} {kind : WriteKind}
    (h : writePermitted s n g slot target kind = true) (mode : Fin 3) :
    exec (.weightWriteOpen n g slot mode target kind) s
      = .next (if grpPwr s n g = 2 then openWrite s n (askedWrite g slot mode target kind) else askWrite s n (askedWrite g slot mode target kind)) := by
  simp [exec, execWeightWriteOpen, h, askedWrite]

/-! ### Rows -/

/-- A row verified is in its cells, and the write goes on to the next (R51). -/
theorem gives_weightRowWrite_verified {s : State} {n : Fin 128} {g : Fin 32} {slot : Fin 17} {bad : Fin 3} {w : WeightWrite}
    (hw : (tile s n).writes.find? (fun w => w.group == g.val && w.slot == slot.val && !w.waiting && !w.failed && decide (w.nextRow < 512)) = some w)
    (hbad : bad.val ≠ 2) (row : BitVec 2048) :
    Gives s (.weightRowWrite n g slot row bad) fun t =>
      mapFind (tile t n).cells (512 * (17 * w.group + w.slot) + w.nextRow) = some (rowCells w (loaderRow s n w row))
        ∧ { w with nextRow := w.nextRow + 1 } ∈ (tile t n).writes := by
  have hmem : w ∈ (tile s n).writes := List.mem_of_find?_eq_some hw
  refine ⟨_, by simp only [exec, execWeightRowWrite, hw, if_neg hbad]; rfl, ?_⟩
  dsimp only
  rw [tile_onTile_self]
  exact ⟨mapFind_mapInsert_self _ _ _, List.mem_map.2 ⟨w, hmem, if_pos rfl⟩⟩

/-- What follows a failed verification, the flag, the spare's state and the loss of the group, leaves ARR_ERR as the failure set it. -/
theorem bit_arrErr_verifyFail (s : State) (t : Nat) (w : WeightWrite) : bit (rd (verifyFail s t w) (.arrErr t)) 7 = true := by
  have hset : ∀ u : State, bit (rd (arrError u t w.group w.slot [7]) (.arrErr t)) 7 = true := fun u => bit_arrError u t _ _ (by decide)
  unfold verifyFail
  dsimp only
  split
  · rw [(groupLost_keeps (F := 0x1000000000000000000000000000000000000000000300002804000900)
      (setSpare_keeps (irqCores_keeps (recordEvent_keeps (wrBit_keeps (.refl _) _ _ _ rfl) _ _ _ _ _ _ _ rfl) _ _ rfl) _ _ _ rfl) _ _ _ rfl).rd_eq rfl]
    exact hset _
  · rw [(flagSlot_keeps (.refl _) _ _ _ (.self _)).rd_eq rfl]
    exact hset _

theorem exec_weightRowWrite_failed {s : State} {n : Fin 128} {g : Fin 32} {slot : Fin 17} {bad : Fin 3} {w : WeightWrite}
    (hw : (tile s n).writes.find? (fun w => w.group == g.val && w.slot == slot.val && !w.waiting && !w.failed && decide (w.nextRow < 512)) = some w)
    (hbad : bad.val = 2) (row : BitVec 2048) : exec (.weightRowWrite n g slot row bad) s = .next (verifyFail s n w) := by
  simp only [exec, execWeightRowWrite, hw, if_pos hbad]

/-! ### Closing -/

theorem exec_weightWriteClose_none {s : State} {n : Fin 128} {g : Fin 32} {slot : Fin 17}
    (hw : (tile s n).writes.find? (fun w => w.group == g.val && w.slot == slot.val && !w.waiting) = none) :
    exec (.weightWriteClose n g slot) s = .next (arrError s n g slot [6]) := by
  simp only [exec, execWeightWriteClose, hw]

/-- The tile without its writes of a slot and without the rows kept for a repair of the group. -/
def dropWrites (s : State) (n g slot : Nat) : State :=
  onTile s n fun x => { x with writes := x.writes.filter (fun v => !(v.group == g && v.slot == slot)), repairRows := x.repairRows.filter (fun e => e.1 != g) }

theorem exec_weightWriteClose_complete {s : State} {n : Fin 128} {g : Fin 32} {slot : Fin 17} {w : WeightWrite}
    (hw : (tile s n).writes.find? (fun w => w.group == g.val && w.slot == slot.val && !w.waiting) = some w) (hfail : w.failed = false) (hrows : 512 ≤ w.nextRow) :
    exec (.weightWriteClose n g slot) s = .next (closeFallow (closedWrite (dropWrites s n g slot) n w) n g) := by
  simp [exec, execWeightWriteClose, hw, hfail, Nat.not_lt.2 hrows, dropWrites]

/-- A husk part closed in a slot below the spare: its mode is recorded and it is VALID. -/
theorem closedWrite_husk {s : State} {t : Nat} {w : WeightWrite} (hk : w.kind = .husk) (hslot : w.slot < 16) :
    closedWrite s t w = wrFld (wrBit s (.arrValid t w.group) w.slot true) (.arrMode t w.group) (2 * w.target + 1) (2 * w.target) w.mode := by
  simp [closedWrite, hk, Nat.ne_of_lt hslot]

theorem writes_closeFallow (s : State) (t g : Nat) : (tile (closeFallow s t g) t).writes = (tile s t).writes := by
  unfold closeFallow
  split
  · obtain ⟨l, hl⟩ := tile_applyFallow s t g
    rw [hl]
  · rfl

theorem valid_closed_husk {s : State} {t g : Nat} {w : WeightWrite} (hk : w.kind = .husk) (hslot : w.slot < 16) :
    bit (rd (closeFallow (closedWrite s t w) t g) (.arrValid t w.group)) w.slot = true := by
  rw [(closeFallow_keeps (.refl _) t g (.self _)).rd_eq rfl, closedWrite_husk hk hslot, rd_wrFld, if_neg nofun]
  exact bit_wrBit_self s _ true (by omega)

theorem not_mem_writes_closed_husk {s : State} {t g slot : Nat} {w v : WeightWrite} (hk : w.kind = .husk) (hslot : w.slot < 16)
    (hv : v ∈ (tile (closeFallow (closedWrite (dropWrites s t g slot) t w) t g) t).writes) : ¬ (v.group = g ∧ v.slot = slot) := by
  rw [writes_closeFallow, closedWrite_husk hk hslot, tile_wrFld_eq, tile_wrBit_eq, dropWrites, tile_onTile_self] at hv
  rintro ⟨rfl, rfl⟩
  simpa using (List.mem_filter.1 hv).2

/-! ### RETIRED_NEXT -/

theorem exec_retiredNext (n : Fin 128) (g : Fin 32) (v : BitVec 5) (s : State) : exec (.retiredNext n g v) s
    = .next (if (spare s n g = spEmpty ∨ spare s n g = spReference) ∧ v.toNat ≤ 16 then wrFld s (.arrGrp n g) 12 8 v.toNat else s) := rfl

/-- Settles O10: an open, a row and a close each have one equation for each outcome; what they leave in ARR_ERR, ARR_VALID and the tile's open writes is read off it. -/
theorem weightWritesAndGroups : Obligations.WeightWritesAndGroups := by
  unfold Obligations.WeightWritesAndGroups
  refine ⟨fun n g slot mode target kind s => ⟨fun h => ?refused, fun h hawake => ?opened, fun h hasleep => ?waits⟩,
    fun n g slot row bad w s hw => ⟨fun hbad => gives_weightRowWrite_verified hw hbad row, fun hbad => ?failed⟩,
    fun n g slot s hw => ?noWrite, fun n g slot w s hw hfail hrows hk hslot => ?closed,
    fun n g v s => ⟨_, rfl, bit_fallowReq s n g v⟩, fun n g v s => ⟨fun h => ?retired, fun h => ?ignored⟩⟩
  case refused => exact ⟨_, exec_weightWriteOpen_refused h mode, bit_arrError s n g slot (by decide)⟩
  case opened =>
    refine ⟨_, (exec_weightWriteOpen_permitted h mode).trans (by rw [if_pos hawake]), valid_openWrite s n (askedWrite g slot mode target kind),
      { askedWrite g slot mode target kind with waiting := false }, ?_, rfl, rfl, rfl, rfl, rfl, rfl⟩
    rw [writes_openWrite]
    exact List.mem_append_right _ List.mem_cons_self
  case waits =>
    exact ⟨_, (exec_weightWriteOpen_permitted h mode).trans (by rw [if_neg hasleep]), askedWrite g slot mode target kind,
      mem_writes_askWrite s n _, rfl, rfl, rfl⟩
  case failed => exact ⟨_, exec_weightRowWrite_failed hw hbad row, bit_arrErr_verifyFail s n w⟩
  case noWrite => exact ⟨_, exec_weightWriteClose_none hw, bit_arrError s n g slot (by decide)⟩
  case closed =>
    exact ⟨_, exec_weightWriteClose_complete hw hfail hrows, valid_closed_husk hk hslot, fun v hv => not_mem_writes_closed_husk hk hslot hv⟩
  case retired =>
    refine ⟨_, (exec_retiredNext n g v s).trans (by rw [if_pos h]), (rdFld_wrFld_self s _ _ (by decide) (by decide)).trans (Nat.mod_eq_of_lt ?_)⟩
    exact Nat.lt_of_le_of_lt h.2 (by decide)
  case ignored => rw [exec_retiredNext, if_neg h]

end Sys2Proof.Machine
end

section
/-! SUPPORT. Input loads and launches (R31, R33, R41, R46): a load's accesses are on their way until their own cycles, and a launch leaves its MVM active. -/
namespace Sys2Proof.Machine

/-- A result that is not due yet is still on its way once those due have landed. -/
theorem Lands.landUpTo {t c : Nat} {l : Landing} (hl : c < landDue l) (fuel : Nat) {s : State} (h : Lands s t l) : Lands (landUpTo fuel s t c) t l := by
  induction fuel generalizing s with
  | zero => exact h
  | succ fuel ih =>
    rw [Machine.landUpTo]
    split
    · exact h
    next k rest hk =>
      split
      · next hdue =>
        have hrest : l ∈ rest := by
          rw [Lands, hk] at h
          refine (List.mem_cons.1 h).resolve_left ?_
          rintro rfl
          exact absurd hdue (Nat.not_le.2 hl)
        refine ih (Lands.landOne ?_ k)
        rw [Lands, tile_onTile_self]
        exact hrest
      · exact h

/-- Of a load's accesses all but the first, which is made in the issue cycle, are still to come (R31). -/
theorem lands_issueLoadiv (sl : Slot) (iv bank line : Nat) (s : State) : ∀ k < 8, k ≠ 0 →
    Lands (issueLoadiv sl iv bank line s) sl.tile
      (.load (issueCycle s sl.tile + k) (8 * iv + k) (scratchAddr sl.tile (bank * 0x100000 + (line + k) * 64))) := by
  intro k hk hk0
  have hsent := lands_forAll_land (spEcc s sl.tile bank line 1 sl.ecc) sl.tile
    (fun k => .load (issueCycle s sl.tile + k) (8 * iv + k) (scratchAddr sl.tile (bank * 0x100000 + (line + k) * 64))) (List.range 8) k (List.mem_range.2 hk)
  exact Lands.landUpTo (Nat.lt_add_of_pos_right (Nat.pos_of_ne_zero hk0)) 17 hsent

/-! ### Launches -/

/-- A launch leaves its MVM last of the step's and raises the ramp guard's count by one (R33, R168). -/
theorem tile_issueLaunch (t : Nat) (mk : State → Mvm) (s : State) :
    tile (issueLaunch t mk s) t = { tile s t with mvms := (tile s t).mvms ++ [mk s], rampRise := (tile s t).rampRise + 1 } := by
  unfold issueLaunch
  dsimp only
  rw [tile_setActive]
  split
  · rw [tile_count_eq, tile_onTile_self]
  · exact tile_onTile_self _ _ _

theorem mem_mvms_issueLaunch (t : Nat) (mk : State → Mvm) (s : State) : mk s ∈ (tile (issueLaunch t mk s) t).mvms := by
  rw [tile_issueLaunch]
  exact List.mem_append_right _ List.mem_cons_self

/-- ACTIVE counts the active arrays, the one launched among them (R41). -/
theorem active_issueLaunch (t : Nat) (mk : State → Mvm) (s : State) :
    rdFld (issueLaunch t mk s) (.arrStatus t) 13 8 = ((tile (issueLaunch t mk s) t).mvms.filter mvmActive).length % 64 :=
  rdFld_setActive _ t

/-- A skipped reference launch is counted in ARR_REFSKIP (R46). -/
theorem refskip_issueLaunch (t : Nat) (mk : State → Mvm) (s : State) (h : (mk s).skipped = true) :
    rd (issueLaunch t mk s) (.arrRefskip t) = satAdd (rd s (.arrRefskip t)) 1 := by
  rw [issueLaunch, if_pos h, (setActive_keeps (.refl _) t (.self _)).rd_eq rfl, rd_count, if_pos rfl]
  rfl

/-- Settles O11: once its bundle may issue, the operation's own effect follows, and that is read off the laws of loads and launches. -/
theorem loadsAndLaunches : Obligations.LoadsAndLaunches := by
  unfold Obligations.LoadsAndLaunches
  refine ⟨fun sl iv bank line before after s => ?load, fun sl larray iv desc before after s => ?launch, fun sl g iv desc before after s => ?reference⟩
  case load =>
    intro i u hmay
    exact issues_of_mayIssue hmay rfl (lands_issueLoadiv sl iv bank line.toNat u)
  case launch =>
    intro n i u hmay
    refine issues_of_mayIssue hmay rfl ⟨?_, ?_, active_issueLaunch n _ u⟩
    · exact ⟨launchMvm n larray.toNat iv desc u, mem_mvms_issueLaunch n _ u, rfl, rfl, rfl, rfl, rfl, rfl, rfl, rfl, rfl, rfl, rfl⟩
    · exact congrArg TileState.rampRise (tile_issueLaunch n _ u)
  case reference =>
    intro n i u hmay
    refine issues_of_mayIssue hmay rfl ⟨?_, active_issueLaunch n _ u, fun hspare => ?_⟩
    · exact ⟨rlaunchMvm n g iv desc u, mem_mvms_issueLaunch n _ u, rfl, rfl, rfl, rfl, rfl, rfl, rfl, rfl, rfl⟩
    · exact refskip_issueLaunch n _ u (bne_iff_ne.2 hspare)

end Sys2Proof.Machine
end

section
/-! SUPPORT. The end of an MVM and the collects that take its codes (R36, R39, R46, R63, R66, R68, R121). -/
namespace Sys2Proof.Machine

/-! ### The end of an MVM -/

/-- The MVM as its last conversion phase ends: no longer active, its codes latched unless it was skipped (R33, R46). -/
def endedMvm (s : State) (t : Nat) (m : Mvm) : Mvm := { m with done := true, lanes := if m.skipped then [] else mvmLanes s t m }

/-- A fallow request that waited for the group, or none. -/
theorem tile_fallowIfDue (s : State) (t g : Nat) :
    ∃ l, tile (if (tile s t).fallowDue.contains g then applyFallow s t g else s) t = { tile s t with fallowDue := l } := by
  split
  · exact tile_applyFallow s t g
  · exact ⟨_, rfl⟩

/-- The end of an MVM changes no MVM but its own, and no held bundle. -/
theorem tile_completeMvm (s : State) (t : Nat) (m : Mvm) :
    (tile (completeMvm s t m) t).mvms = (tile s t).mvms.map (fun k => if k = m then endedMvm s t m else k) ∧ (tile (completeMvm s t m) t).held = (tile s t).held := by
  unfold completeMvm endedMvm
  dsimp only
  obtain ⟨l, hl⟩ := tile_fallowIfDue _ t m.group
  rw [hl, tile_setActive]
  split <;> simp

/-- The MVM that a completion names, of a tile that neither runs nor holds a bundle, ends. -/
theorem exec_mvmComplete_idle {s : State} {n : Fin 128} {g : Fin 32} {slot : Fin 17} {m : Mvm} (hheld : (tile s n).held = []) (hrun : tileRun s n ≠ tRunning)
    (hm : (tile s n).mvms.find? (fun m => mvmActive m && m.group == g.val && m.slot == slot.val) = some m) (waited : Nat) :
    exec (.mvmComplete n g slot waited) s = .next (completeMvm s n m) := by
  have hend : mvmMayEnd s n m = true := by rw [mvmMayEnd, if_pos hrun]
  have hretry : retry (completeMvm s n m) [n.val] waited = completeMvm s n m := retry_unheld ((tile_completeMvm s n m).2.trans hheld) waited
  simp [exec, execMvmComplete, hm, hend, hrun, hretry]

theorem exec_mvmComplete_early {s : State} {n : Fin 128} {g : Fin 32} {slot : Fin 17} {m : Mvm}
    (hm : (tile s n).mvms.find? (fun m => mvmActive m && m.group == g.val && m.slot == slot.val) = some m) (hend : mvmMayEnd s n m = false) (waited : Nat) :
    exec (.mvmComplete n g slot waited) s = .next s := by
  simp [exec, execMvmComplete, hm, hend]

/-! ### Collects -/

/-- The lanes that a collect takes: those latched, or NOREF lanes of a skipped reference launch (R46). -/
def collectLanes (m : Mvm) : List Half := if m.skipped then List.replicate (laneCount m.mode) (0x4000 : Half) else m.lanes

/-- Post-processing is busy with a collect of m issued in the tile's present cycle (R67). -/
def ppBusy (s : State) (t : Nat) (m : Mvm) : State := onTile s t (fun x => { x with ppFree := issueCycle s t + 3 * mvmConv m })

/-- The same, with the drift tracker's share taken (R65). -/
def ppTracked (s : State) (t : Nat) (m : Mvm) : State := if m.skipped then ppBusy s t m else trackCollect (ppBusy s t m) t m (collectLanes m)

theorem tile_onCal (s : State) (t g : Nat) (f : GroupCal → GroupCal) : ∃ c, tile (onCal s t g f) t = { tile s t with cal := c } := ⟨_, tile_onTile_self _ _ _⟩

/-- A flag for repair leaves every tile's state beyond its registers. -/
theorem tile_flagSlot (s : State) (t g p n : Nat) : tile (flagSlot s t g p) n = tile s n :=
  (flagSlot_keeps (.refl s) t g p (.self _)).tile_eq rfl n

/-- The drift tracker writes the engine's records alone. -/
theorem tile_trackFactor (s : State) (t g p : Nat) : ∃ c, tile (trackFactor s t g p) t = { tile s t with cal := c } := by
  unfold trackFactor
  dsimp only
  by_cases hfew : (mapGet {} (calOf s t g).slotTrack p).n < 64
  · rw [if_pos hfew]
    exact ⟨_, rfl⟩
  · rw [if_neg hfew, apply_ite (tile · t), tile_flagSlot, ite_self]
    exact tile_onCal s t g _

theorem tile_trackCollect (s : State) (t : Nat) (m : Mvm) (lanes : List Half) : ∃ c, tile (trackCollect s t m lanes) t = { tile s t with cal := c } := by
  obtain ⟨c, hc⟩ := tile_trackFactor _ t m.group m.slot
  exact ⟨c, hc.trans (by rw [onCal, tile_onTile_self])⟩

theorem ppFree_ppBusy (s : State) (t : Nat) (m : Mvm) : (tile (ppBusy s t m) t).ppFree = issueCycle s t + 3 * mvmConv m := by
  rw [ppBusy, tile_onTile_self]

theorem ppFree_ppTracked (s : State) (t : Nat) (m : Mvm) : (tile (ppTracked s t m) t).ppFree = issueCycle s t + 3 * mvmConv m := by
  unfold ppTracked
  split
  · exact ppFree_ppBusy s t m
  · obtain ⟨c, hc⟩ := tile_trackCollect (ppBusy s t m) t m (collectLanes m)
    rw [hc]
    exact ppFree_ppBusy s t m

/-- Past the error bit of a VOID lane, what follows leaves TIL_SHERR as it is. -/
theorem rd_tilSherr_voidLane (s : State) (t desc : Nat) : rd (voidLane s t desc) (.tilSherr t) = rd (shError s t (issueCycle s t) desc [3]) (.tilSherr t) := by
  unfold voidLane
  dsimp only
  split
  · rw [(freezeLater_keeps (.refl _) _ (.self _)).rd_eq rfl, rd_recordEvent _ _ _ _ _ _ _ _ (by nofun)]
  · exact rd_recordEvent _ _ _ _ _ _ _ _ (by nofun)

section
variable {s : State} {t g logical : Nat} {m : Mvm} (hm : lastLaunch (tile s t) g logical = some m)
include hm

/-- A VOID lane: nothing is written (R63). -/
theorem issueCollect_void (desc : Nat) (hv : (collectLanes m).any laneVoid = true) : issueCollect t g logical desc s = voidLane (ppBusy s t m) t desc := by
  rw [collectLanes] at hv
  simp only [issueCollect, hm, hv, if_true]
  rfl

/-- RAW16: the lanes themselves are on their way, to whole lines (R68). -/
theorem issueCollect_raw (desc : Nat) (hv : (collectLanes m).any laneVoid = false) (hfmt : fld (rd s (.tilPpda t desc)) 23 20 = 9) :
    issueCollect t g logical desc s = landBeats (ppTracked s t m) t (issueCycle s t) (scratchAddr t (fld (rd s (.tilPpdb t desc)) 13 0 * 64))
      (padLine ((collectLanes m).flatMap (fun l => leBytes 2 l.toNat))) := by
  rw [collectLanes] at hv
  simp only [issueCollect, hm, hv, hfmt, if_true, Bool.false_eq_true, if_false]
  rfl

/-- Any other format: the results are on their way to their accumulator row, with an output after them if FINAL is 1 (R66, R69). -/
theorem issueCollect_accum (desc : Nat) (hv : (collectLanes m).any laneVoid = false) (hfmt : fld (rd s (.tilPpda t desc)) 23 20 ≠ 9) :
    ∃ fin, issueCollect t g logical desc s = land (ppTracked s t m) t (.accum (issueCycle s t + 6) (fld (rd s (.tilPpda t desc)) 29 24) (bit (rd s (.tilPpda t desc)) 30) desc
      (collectResults m.mode (collectValues (tile s t) m (collectLanes m))) fin) ∧ fin.isSome = bit (rd s (.tilPpda t desc)) 31 := by
  rw [collectLanes] at hv
  simp only [issueCollect, hm, hv, hfmt, Bool.false_eq_true, if_false]
  refine ⟨_, rfl, ?_⟩
  cases bit (rd s (.tilPpda t desc)) 31 <;> rfl

/-- Every collect keeps post-processing busy for 3 cycles a conversion phase (R67). -/
theorem ppFree_issueCollect (desc : Nat) : (tile (issueCollect t g logical desc s) t).ppFree = issueCycle s t + 3 * mvmConv m := by
  cases hv : (collectLanes m).any laneVoid with
  | true => rw [issueCollect_void hm desc hv, tile_voidLane, ppFree_ppBusy]
  | false =>
    by_cases hfmt : fld (rd s (.tilPpda t desc)) 23 20 = 9
    · rw [issueCollect_raw hm desc hv hfmt, ppFree_landBeats, ppFree_ppTracked]
    · obtain ⟨fin, hissue, -⟩ := issueCollect_accum hm desc hv hfmt
      rw [hissue, tile_land]
      exact ppFree_ppTracked s t m

/-- A void lane puts nothing on its way and sets its error bit (R63). -/
theorem voided_issueCollect (desc : Nat) (hv : (collectLanes m).any laneVoid = true) :
    (tile (issueCollect t g logical desc s) t).landing = (tile s t).landing ∧ bit (rd (issueCollect t g logical desc s) (.tilSherr t)) 3 = true := by
  rw [issueCollect_void hm desc hv]
  refine ⟨by rw [tile_voidLane, ppBusy, tile_onTile_self], ?_⟩
  rw [rd_tilSherr_voidLane]
  exact bit_shError _ t _ _ (by decide)

theorem lands_issueCollect_raw (desc : Nat) (hv : (collectLanes m).any laneVoid = false) (hfmt : fld (rd s (.tilPpda t desc)) 23 20 = 9) :
    let bs := padLine ((collectLanes m).flatMap (fun l => leBytes 2 l.toNat))
    ∀ k < (bs.length + 255) / 256, Lands (issueCollect t g logical desc s) t (.bytes (issueCycle s t + 10 + k)
      (scratchAddr t (fld (rd s (.tilPpdb t desc)) 13 0 * 64) + 256 * k) ((bs.drop (256 * k)).take 256)) := by
  rw [issueCollect_raw hm desc hv hfmt]
  exact lands_landBeats _ t _ _ _

theorem lands_issueCollect_accum (desc : Nat) (hv : (collectLanes m).any laneVoid = false) (hfmt : fld (rd s (.tilPpda t desc)) 23 20 ≠ 9) :
    ∃ fin, Lands (issueCollect t g logical desc s) t (.accum (issueCycle s t + 6) (fld (rd s (.tilPpda t desc)) 29 24) (bit (rd s (.tilPpda t desc)) 30) desc
      (collectResults m.mode (collectValues (tile s t) m (collectLanes m))) fin) ∧ fin.isSome = bit (rd s (.tilPpda t desc)) 31 := by
  obtain ⟨fin, hissue, hfin⟩ := issueCollect_accum hm desc hv hfmt
  exact ⟨fin, hissue ▸ lands_land _ _ _, hfin⟩

end

/-- Settles O12: an MVM that may end latches its codes; a collect that issues is void, raw or accumulated by its lanes and its descriptor. -/
theorem mvmsAndCollects : Obligations.MvmsAndCollects := by
  unfold Obligations.MvmsAndCollects
  refine ⟨fun n g slot waited m s hheld hrun hm => ?ends, fun n g slot waited m s hm hend => exec_mvmComplete_early hm hend waited,
    fun sl larray desc m before after s => ?collect, fun sl g desc m before after s => ?reference⟩
  case ends =>
    obtain ⟨⟨-, hgroup⟩, hslot⟩ : (mvmActive m = true ∧ m.group = g) ∧ m.slot = slot := by simpa using List.find?_some hm
    refine ⟨_, exec_mvmComplete_idle hheld hrun hm waited, endedMvm s n m, ?_, hgroup, hslot, rfl, rfl, rfl⟩
    rw [(tile_completeMvm s n m).1]
    exact List.mem_map.2 ⟨m, List.mem_of_find?_eq_some hm, if_pos rfl⟩
  case collect =>
    intro n i u lanes hmay hm
    exact issues_of_mayIssue hmay rfl ⟨ppFree_issueCollect hm desc, voided_issueCollect hm desc, lands_issueCollect_raw hm desc, lands_issueCollect_accum hm desc⟩
  case reference =>
    intro n i u lanes hmay hm
    refine issues_of_mayIssue hmay rfl ⟨ppFree_issueCollect hm desc, fun hv hfmt => ?_⟩
    obtain ⟨fin, hlands, -⟩ := lands_issueCollect_accum hm desc hv hfmt
    exact ⟨fin, hlands⟩

end Sys2Proof.Machine
end

section
/-! SUPPORT. The power governor (R54, R55, R162 to R164, R167, R168, R178): voltages, the LPDDR5X rate, wake tokens, the wake of a group, the ramp guard. -/
namespace Sys2Proof.Machine

/-! ### Voltages (R163) -/

/-- A request to a regulator leaves the voltages in force. -/
theorem volt_requestVolt (s : State) (d : Nat) : (requestVolt s d).power.volt = s.power.volt := by
  unfold requestVolt
  dsimp only
  split <;> rfl

/-- The regulator of a die has acknowledged a voltage: it is in force, nothing is asked of it any more, and AVSFAIL is clear. -/
def avsAcked (s : State) (d v : Nat) : State :=
  wrBit { s with power := { s.power with volt := mapInsert s.power.volt d v, request := mapErase s.power.request d } } .pwrDie (24 + d) false

theorem exec_avsAck {s : State} {d : Fin 8} {v : Nat} (h : mapFind s.power.request d = some v) : exec (.avsAck d) s
    = .next (requestVolt (forAll (fun s t => if tileServing s t then s else settleFreq s t) (avsAcked s d v) (dieTiles d)) d) := by
  simp only [exec, execAvsAck, h, avsAcked]

/-- The tiles of a die take their frequencies: the governor's state and its registers are as before. -/
theorem settled_keeps (s : State) (l : List Nat) : Keeps 0x40 s (forAll (fun s t => if tileServing s t then s else settleFreq s t) s l) :=
  forAll_keeps (.refl s) _ l fun _ t h => .ite h (settleFreq_keeps h t rfl)

/-- The regulator of a die has not answered: its request is dropped and AVSFAIL is set. -/
def avsFailed (s : State) (d : Nat) : State := wrBit { s with power := { s.power with request := mapErase s.power.request d } } .pwrDie (24 + d) true

/-- The failure is recorded, and the headland cores are told. -/
def avsReported (s : State) (d : Nat) : State := irqCores (recordEvent s 0x0105 moduleEvent 2 islHeadland d (rd s .pwrDie) 0) headlandCores 17

theorem exec_avsTimeout {s : State} {d : Fin 8} (h : (mapFind s.power.request d).isSome = true) :
    exec (.avsTimeout d) s = .next (avsReported (avsFailed s d) d) := by
  obtain ⟨v, hv⟩ := Option.isSome_iff_exists.1 h
  simp only [exec, execAvsTimeout, hv, avsReported, avsFailed]

/-- The report reaches the recorder and the cores alone. -/
theorem avsReported_keeps (s : State) (d : Nat) : Keeps 0x1000000000000000000000000000000000000000000000000000000900 s (avsReported s d) :=
  irqCores_keeps (recordEvent_keeps (.refl s) _ _ _ _ _ _ _ rfl) _ _ rfl

/-! ### The LPDDR5X rate (R164) -/

theorem exec_lpxRateChange_begin {s : State} {full : Bool} (hidle : s.power.changing = none) (hrate : bit (rd s .lpxStatus) 0 ≠ full)
    (hneed : full = false → fullRateNeeded s = false) :
    exec (.lpxRateChange full false) s = .next { s with power := { s.power with changing := some full } } := by
  have hgo : ¬ (s.power.changing.isSome = true ∨ bit (rd s .lpxStatus) 0 = full ∨ full = false ∧ fullRateNeeded s = true) := by
    rintro (h | h | ⟨h, hn⟩)
    · simp [hidle] at h
    · exact hrate h
    · simp [hneed h] at hn
  simp only [exec, execLpxRateChange, Bool.not_false, if_true, if_neg hgo]

/-- The state in which a rate change has ended, before what waited for it. -/
def rateChanged (s : State) (full : Bool) : State :=
  wrBit { s with power := { s.power with changing := none, fabricSlow := !full }, ram := { s.ram with trackDue := [] } } .lpxStatus 0 full

theorem exec_lpxRateChange_end {s : State} {full : Bool} (h : s.power.changing = some full) : exec (.lpxRateChange full true) s
    = .next (if full then forAll startWaiting (bar2Drain (rateChanged s full)) allPlots else bar2Drain (rateChanged s full)) := by
  simp only [exec, execLpxRateChange, Bool.not_true, Bool.false_eq_true, if_false, h, ne_eq, not_true]
  rfl

/-- The footprint of what waits for the end of a rate change: BAR2 accesses and starts.  The governor's state and LPX_STATUS lie outside it. -/
def rateWaitersFootprint : Nat := 0x10008002000010000000000000000000d8000004000000000000178f8c ||| 0x1000000200000000000000000003000000010004000000000000004f80

/-- What waited for a rate change goes on. -/
theorem rateWaiters_keeps (s : State) (full : Bool) :
    Keeps rateWaitersFootprint s (if full then forAll startWaiting (bar2Drain s) allPlots else bar2Drain s) :=
  have hdrain : Keeps rateWaitersFootprint s (bar2Drain s) := bar2Drain_keeps (.refl s) rfl
  .ite (forAll_keeps hdrain _ _ fun _ p h => startWaiting_keeps h p rfl) hdrain

/-! ### Wake tokens (R167) -/

theorem rdFld_showTokens (s : State) : rdFld (showTokens s) .pwrStatus 27 24 = tokens s := by
  have hdepth : rdFld s .pwrWake 3 0 < 2 ^ 4 := Nat.mod_lt _ (by decide)
  have hfit : tokens s < 2 ^ 4 := Nat.lt_of_le_of_lt (Nat.sub_le _ _) hdepth
  exact (rdFld_wrFld_self s _ _ (by decide) (by decide)).trans (Nat.mod_eq_of_lt hfit)

/-- The display of the tokens is not their count. -/
theorem tokens_showTokens (s : State) : tokens (showTokens s) = tokens s := by
  rw [tokens, showTokens, rdFld, rd_wrFld, if_neg (by nofun)]
  rfl

theorem tokens_takeToken (s : State) : tokens (takeToken s) = tokens s - 1 :=
  (tokens_showTokens _).trans (Nat.sub_add_eq _ _ _)

theorem Keeps.tokens_eq {F : Nat} {s t : State} (h : Keeps F s t) (hp : F.testBit 13 = false) (hr : Reg.within F .pwrWake = false) : tokens t = tokens s := by
  rw [tokens, rdFld, h.rd_eq hr, h.power.eq hp]
  rfl

/-- The groups that waited wait no more. -/
theorem tile_startWaking (s : State) (t : Nat) : tile (startWaking s t) t = { tile s t with wakeWaits := [] } := by
  unfold startWaking
  exact forAll_inv (P := fun u => tile u t = { tile s t with wakeWaits := [] }) (fun u g h => (tile_wrFld_eq u _ 21 20 1 t).trans h) _ _ (tile_onTile_self _ _ _)

/-- A slack overrun is counted in its tile, which is otherwise as it was (R143). -/
theorem tile_slackOverrun (s : State) (t xid kind excess : Nat) : tile (slackOverrun s t xid kind excess) t = { tile s t with stepSlack := (tile s t).stepSlack + 1 } := by
  rw [slackOverrun, tile_recordEvent, tile_wr_eq, tile_onTile_self]
  rfl

theorem slackcnt_slackOverrun (s : State) (t xid kind excess : Nat) :
    rd (slackOverrun s t xid kind excess) (.schSlackcnt t) = satAdd (rd s (.schSlackcnt t)) 1 := by
  rw [slackOverrun, rd_recordEvent _ _ _ _ _ _ _ _ (by nofun), rd_wr_ne _ _ (by nofun)]
  exact rd_wr_self s _ _

theorem exec_wakeGrant {s : State} {n : Fin 128} (htokens : tokens s ≠ 0) (hnext : nextWaking s n = true) (ns : Nat) :
    exec (.wakeGrant n ns) s = .next (slackOverrun (startWaking (takeToken s) n) n 0 1 ns) := by
  simp [exec, execWakeGrant, htokens, hnext]

/-- A grant takes one token, which neither the wake nor the overrun's record changes. -/
theorem tokens_granted (s : State) (t ns : Nat) : tokens (slackOverrun (startWaking (takeToken s) t) t 0 1 ns) = tokens s - 1 := by
  rw [(slackOverrun_keeps (.refl _) t 0 1 ns (.self _)).tokens_eq rfl rfl, (startWaking_keeps (.refl _) t (.self _)).tokens_eq rfl rfl, tokens_takeToken]

/-- It is counted as a RAMP overrun (R143). -/
theorem slackcnt_granted (s : State) (t ns : Nat) :
    rd (slackOverrun (startWaking (takeToken s) t) t 0 1 ns) (.schSlackcnt t) = satAdd (rd s (.schSlackcnt t)) 1 := by
  rw [slackcnt_slackOverrun, (startWaking_keeps (.refl _) t (.self _)).rd_eq rfl, (takeToken_keeps (.refl s) (.self _)).rd_eq rfl]

/-- A token back in the bucket: one fewer is out. -/
def tokenBack (s : State) : State := { s with power := { s.power with tokensOut := s.power.tokensOut - 1 } }

theorem tokens_tokenBack {s : State} (hout : 0 < s.power.tokensOut) (hdepth : s.power.tokensOut ≤ rdFld s .pwrWake 3 0) : tokens (tokenBack s) = tokens s + 1 := by
  change rdFld s .pwrWake 3 0 - (s.power.tokensOut - 1) = rdFld s .pwrWake 3 0 - s.power.tokensOut + 1
  omega

/-! ### The wake of a group (R54, R55) -/

/-- With no husk load waiting there is none to go on. -/
theorem runLoads_none {s : State} (h : s.sec.huskWaits = []) : runLoads s = s := by
  have hsec : onSec s (fun c => { c with huskWaits := c.huskWaits.filter (fun w => !loadAwake s w) }) = s := by
    rw [onSec, h, List.filter_nil, ← h]
  rw [runLoads, h]
  exact hsec

/-- The opens of a tile that wait for a group and are no load's. -/
def waitingWrites (s : State) (t g : Nat) : List WeightWrite := (tile s t).writes.filter (fun w => w.group == g && w.waiting && !w.load)

/-- The group is AWAKE and the opens that waited for it proceed. -/
def awoken (s : State) (t g : Nat) : State := (waitingWrites s t g).foldl (fun s w => openWrite s t w) (wrFld s (.arrGrp t g) 21 20 2)

theorem sec_awoken (s : State) (t g : Nat) : (awoken s t g).sec = s.sec := by
  have hopens : Keeps 0x2800000040 (wrFld s (.arrGrp t g) 21 20 2) (awoken s t g) := foldl_keeps (.refl _) _ _ fun _ w h => openWrite_keeps h t w rfl
  exact hopens.sec.eq rfl

theorem held_openWrite (s : State) (t : Nat) (w : WeightWrite) : (tile (openWrite s t w) t).held = (tile s t).held := by
  unfold openWrite
  split <;> simp [setSpare]

theorem held_awoken (s : State) (t g : Nat) : (tile (awoken s t g) t).held = (tile s t).held := by
  have hfold : ∀ (l : List WeightWrite) (u : State), (tile (l.foldl (fun s w => openWrite s t w) u) t).held = (tile u t).held := by
    intro l
    induction l with
    | nil => exact fun _ => rfl
    | cons w rest ih => exact fun u => (ih _).trans (held_openWrite u t w)
  exact hfold _ _

theorem exec_groupAwake {s : State} {n : Fin 128} {g : Fin 32} (hwaking : grpPwr s n g = 1) (hheld : (tile s n).held = []) (hloads : s.sec.huskWaits = []) (waited : Nat) :
    exec (.groupAwake n g waited) s = .next (awoken s n g) := by
  have hload : runLoads (awoken s n g) = awoken s n g := runLoads_none (by rw [sec_awoken, hloads])
  have hretry : retry (runLoads (awoken s n g)) [n.val] waited = awoken s n g := by
    rw [hload]
    exact retry_unheld ((held_awoken s n g).trans hheld) waited
  rw [← hretry]
  simp only [exec, execGroupAwake, hwaking, ne_eq, not_true, if_false]
  rfl

/-- With no open waiting only the group's state changes. -/
theorem awoken_of_nil {s : State} {t g : Nat} (h : (tile s t).writes = []) : awoken s t g = wrFld s (.arrGrp t g) 21 20 2 := by
  rw [awoken, waitingWrites, h]
  rfl

theorem awoken_of_singleton {s : State} {t g : Nat} {w : WeightWrite} (h : (tile s t).writes = [w]) (hg : w.group = g) (hw : w.waiting = true) (hl : w.load = false) :
    awoken s t g = openWrite (wrFld s (.arrGrp t g) 21 20 2) t w := by
  rw [awoken, waitingWrites, h]
  simp [hg, hw, hl]

/-! ### The ramp guard (R168) -/

/-- Without a held bundle the guard holds no launch. -/
theorem exec_rampGuardRelease {s : State} {n : Fin 128} (h : (tile s n).held = []) (k waited ns : Nat) :
    exec (.rampGuardRelease n k waited ns) s = .next (onTile s n (fun x => { x with rampRise := x.rampRise - k })) := by
  have hguard : guardHolds s n = false := by rw [guardHolds, h, List.any_nil, Bool.and_false]
  have hretry : retry (onTile s n fun x => { x with rampRise := x.rampRise - k }) [n.val] waited = onTile s n (fun x => { x with rampRise := x.rampRise - k }) :=
    retry_unheld (by rw [tile_onTile_self]; exact h) waited
  simp only [exec, execRampGuardRelease, hguard, Bool.false_eq_true, if_false, hretry]

/-! ### The frequency monitor (R178) -/

/-- The selected island's count comes to MHz, and VALID, by the model's own reading of its ring monitor. -/
theorem gives_clkFsel (i : BitVec 8) (cycles : Nat) (s : State) :
    Gives s (.clkFsel i cycles) fun t => rd t .clkFsel = BitVec.ofNat 32 i.toNat
      ∧ rd t .clkFmeas = if isIsland i.toNat then BitVec.ofNat 32 (0x10000 + (countedCycles s i.toNat cycles + 8) / 16) else 0 := by
  refine ⟨_, rfl, ?_⟩
  have hsel : ∀ v : Word, rd (wr { wr s .clkFsel (BitVec.ofNat 32 i.toNat) with power := { s.power with measuring := some i.toNat } } .clkFmeas v) .clkFsel
      = BitVec.ofNat 32 i.toNat := fun v => (rd_wr_ne _ v (by nofun)).trans (rd_wr_self s _ _)
  split
  · exact ⟨hsel _, rd_wr_self _ _ _⟩
  · exact ⟨hsel _, rd_wr_self _ _ _⟩

/-- Settles O8: each command of the governor has one equation under its hypotheses, and what it leaves is read off that; what follows a rate change and a wake is outside the
footprint of what the statement names. -/
theorem voltagesRatesAndWakes : Obligations.VoltagesRatesAndWakes := by
  unfold Obligations.VoltagesRatesAndWakes
  refine ⟨fun d v s h => ⟨_, exec_avsAck h, ?volt, ?acked⟩, fun d s h => ⟨_, exec_avsTimeout h, ?failed⟩,
    fun full s hidle hrate hneed => ⟨_, exec_lpxRateChange_begin hidle hrate hneed, rfl, rfl⟩,
    fun full s h => ⟨_, exec_lpxRateChange_end h, ?unchanging, ?rate⟩,
    fun n ns s htokens hnext => ⟨_, exec_wakeGrant htokens hnext ns, tokens_granted s n ns, ?granted, slackcnt_granted s n ns⟩,
    fun s => ⟨showTokens (tokenBack s), rfl, rfl, (rdFld_showTokens _).trans (tokens_showTokens _).symm, fun hout hdepth => ?back⟩,
    fun n g waited s hwaking hheld hloads => ⟨fun hnone => ⟨_, exec_groupAwake hwaking hheld hloads waited, ?awake⟩,
      fun w hw hg hwait hload => ⟨_, exec_groupAwake hwaking hheld hloads waited, ?opened⟩⟩,
    fun n k waited ns s hheld => ⟨_, exec_rampGuardRelease hheld k waited ns, congrArg TileState.rampRise (tile_onTile_self _ _ _)⟩,
    fun i cycles s => gives_clkFsel i cycles s⟩
  case volt =>
    rw [dieVolt, volt_requestVolt, (settled_keeps _ _).power.eq rfl]
    exact (mapGet_mapInsert 750 _ _ _ _).trans (if_pos rfl)
  case acked =>
    rw [(requestVolt_keeps (.refl _) d (.self _)).rd_eq rfl, (settled_keeps _ _).rd_eq rfl]
    exact bit_wrBit_self _ _ false (by omega)
  case failed =>
    dsimp only
    rw [dieVolt, (avsReported_keeps _ d).power.eq rfl, (avsReported_keeps _ d).rd_eq rfl]
    exact ⟨mapFind_mapErase_self _ _, rfl, bit_wrBit_self _ _ true (by omega)⟩
  case unchanging =>
    rw [(rateWaiters_keeps _ full).power.eq rfl]
    rfl
  case rate =>
    rw [(rateWaiters_keeps _ full).rd_eq rfl]
    exact bit_wrBit_self _ _ full (by decide)
  case granted => rw [tile_slackOverrun, tile_startWaking]
  case back => rw [tokens_showTokens, tokens_tokenBack hout hdepth]
  case awake =>
    rw [awoken_of_nil hnone]
    exact grpPwr_wrFld s n g (by decide)
  case opened =>
    rw [awoken_of_singleton hw hg hwait hload]
    refine ⟨(grpPwr_openWrite _ n g w).trans (grpPwr_wrFld s n g (by decide)), ?_, hg ▸ valid_openWrite _ n w⟩
    rw [writes_openWrite, tile_wrFld_eq, hw]
    simp

end Sys2Proof.Machine
end

section
/-! SUPPORT. The vector unit (R68, R72, R73, R75 to R80, R85, R122, R459): packed results go on their way to vector registers, and a ROUTE or SAMPLE occupies the unit while
what it read is watched. -/
namespace Sys2Proof.Machine

/-! ### Packed results -/

/-- The result on its way that a packed result makes: lane words and block scales for the registers from VD on, none beyond the last register (R68). -/
def vrWords (due vd : Nat) (r : List Word × List Nat × Nat) : Landing :=
  .words due .vr (64 * vd) (r.1.take (64 * (32 - vd))) (r.2.1.zipIdx.map (fun e => (8 * vd + e.2, BitVec.ofNat 8 e.1)))

theorem lands_landVr (s : State) (t vd latency : Nat) (r : List Word × List Nat × Nat) : Lands (landVr s t vd latency r) t (vrWords (issueCycle s t + latency) vd r) :=
  lands_land _ t _

/-- Of the tile, a packed result changes what is on its way alone. -/
theorem tile_landVr (s : State) (t vd latency : Nat) (r : List Word × List Nat × Nat) :
    tile (landVr s t vd latency r) t = { tile s t with landing := landInsert (tile s t).landing (vrWords (issueCycle s t + latency) vd r) } := by
  rw [landVr, tile_land, tile_countMxNan]
  rfl

theorem vr_landVr (s : State) (t vd latency : Nat) (r : List Word × List Nat × Nat) : (tile (landVr s t vd latency r) t).vr = (tile s t).vr := by
  rw [tile_landVr]

/-- TIL_SHERR, TIL_SHERRINFO and TIL_MXNAN are the registers that a packed result may write (R73). -/
theorem rd_schStatus_landVr (s : State) (t vd latency : Nat) (r : List Word × List Nat × Nat) (n : Nat) :
    rd (landVr s t vd latency r) (.schStatus n) = rd s (.schStatus n) :=
  (landVr_keeps (.refl s) t vd latency r (.self _)).rd_eq rfl

theorem mem_landVr (s : State) (t vd latency : Nat) (r : List Word × List Nat × Nat) : (landVr s t vd latency r).mem = s.mem :=
  (landVr_keeps (.refl s) t vd latency r (.self _)).mem.eq rfl

/-- A packed result is on its way, and until it lands neither the status of the sequencer, nor the vector registers, nor the memory show it. -/
theorem landVr_only_lands (s : State) (t vd latency : Nat) (r : List Word × List Nat × Nat) :
    Lands (landVr s t vd latency r) t (vrWords (issueCycle s t + latency) vd r) ∧ rd (landVr s t vd latency r) (.schStatus t) = rd s (.schStatus t)
      ∧ (tile (landVr s t vd latency r) t).vr = (tile s t).vr ∧ (landVr s t vd latency r).mem = s.mem :=
  ⟨lands_landVr s t vd latency r, rd_schStatus_landVr s t vd latency r t, vr_landVr s t vd latency r, mem_landVr s t vd latency r⟩

/-- Settles O13: each lane-wise operation packs the exact lane results of its own function, and a packed result only shows in the registers once it lands. -/
theorem laneWiseVectorOperations : Obligations.LaneWiseVectorOperations := by
  unfold Obligations.LaneWiseVectorOperations
  intro sl o before after s n runs a b
  refine ⟨?fma, ?add, ?mul, ?max, ?min⟩ <;> exact fun hmay => issues_of_mayIssue hmay rfl (landVr_only_lands _ n o.vd 4 _)

/-- Settles O14: conversions, MX encoding and decoding and functions pack their results with the latency of each; a reduction sends one word to lane 0 of VD. -/
theorem conversionsFunctionsReductions : Obligations.ConversionsFunctionsReductions := by
  unfold Obligations.ConversionsFunctionsReductions
  intro sl o before after s n runs one
  refine ⟨fun hmay => ?cvt, fun hmay => ?mxenc, fun hmay => ?mxdec, fun hmay => ?func, fun hmay => ?rsum, fun hmay => ?rmax⟩
  case cvt => exact issues_of_mayIssue hmay rfl (lands_landVr _ n o.vd _ _)
  case mxenc => exact issues_of_mayIssue hmay rfl (lands_landVr _ n o.vd 6 _)
  case mxdec => exact issues_of_mayIssue hmay rfl (lands_landVr _ n o.vd 6 _)
  case func => exact issues_of_mayIssue hmay rfl (lands_landVr _ n o.vd 8 _)
  case rsum => exact issues_of_mayIssue hmay rfl (lands_land _ n _)
  case rmax => exact issues_of_mayIssue hmay rfl (lands_land _ n _)

/-! ### ROUTE and SAMPLE -/

@[simp] theorem tile_watch (s : State) (read : List (Nat × Nat)) (n : Nat) : tile (watch s read) n = tile s n := rfl

/-- The state as a ROUTE or SAMPLE of tile t leaves it: the vector unit is occupied until a cycle, the ranges that it read are watched, and its choice is on its way (R122). -/
def vecOccupied (s : State) (t free : Nat) (read : List (Nat × Nat)) (choice : Landing) : State :=
  land (watch (unwatch (onTile s t (fun x => { x with vecFree := free })) t).1 read) t choice

theorem vecFree_vecOccupied (s : State) (t free : Nat) (read : List (Nat × Nat)) (choice : Landing) : (tile (vecOccupied s t free read choice) t).vecFree = free := by
  rw [vecOccupied, tile_land, tile_watch, tile_unwatch, tile_onTile_self]

/-- Every range just read is watched, and no byte of it counts as written yet. -/
theorem mem_watched_vecOccupied {read : List (Nat × Nat)} {r : Nat × Nat} (h : r ∈ read) (s : State) (t free : Nat) (choice : Landing) :
    (r.1, r.2, false) ∈ (vecOccupied s t free read choice).watched :=
  List.mem_append_right _ (List.mem_map_of_mem h)

theorem lands_vecOccupied (s : State) (t free : Nat) (read : List (Nat × Nat)) (choice : Landing) : Lands (vecOccupied s t free read choice) t choice :=
  lands_land _ t choice

/-- Settles O15: ROUTE and SAMPLE both leave the vector unit occupied, with one range read and watched for ROUTE and two for SAMPLE, and their choice on its way. -/
theorem routeAndSample : Obligations.RouteAndSample := by
  unfold Obligations.RouteAndSample
  refine ⟨fun sl o before after s => ?route, fun sl o before after s => ?sample⟩
  case route =>
    intro n g k i u0 u a ch hmay
    have hscores : (a, g * routeSize o) ∈ [(a, g * routeSize o)] := List.mem_cons_self
    exact issues_of_mayIssue hmay rfl ⟨vecFree_vecOccupied u n _ _ _, mem_watched_vecOccupied hscores u n _ _, _, lands_vecOccupied u n _ _ _⟩
  case sample =>
    intro n i u0 u la pa tok occ hmay
    have hlogits : (la, 4 * sampleV o) ∈ [(la, 4 * sampleV o), (pa, 16)] := List.mem_cons_self
    have hparams : (pa, 16) ∈ [(la, 4 * sampleV o), (pa, 16)] := List.mem_cons_of_mem _ List.mem_cons_self
    exact issues_of_mayIssue hmay rfl ⟨vecFree_vecOccupied u n _ _ _, mem_watched_vecOccupied hlogits u n _ _, mem_watched_vecOccupied hparams u n _ _, _,
      lands_vecOccupied u n _ _ _⟩

end Sys2Proof.Machine
end

section
/-! SUPPORT. The dynamic-matrix unit (R81, R82, R124): a product occupies the accumulating path and sends its entries to its set, and DRAIN occupies the drain path. -/
namespace Sys2Proof.Machine

/-- The state as an MMA or MMAZ leaves it: the accumulating path is occupied by a set until a cycle, when the product's entries reach the set (R124). -/
def accOccupied (s : State) (t free set : Nat) (entries : List Word) : State :=
  land (onTile s t (fun x => { x with accFree := free, accSet := set })) t (.words free .dacc (1024 * set) entries [])

theorem tile_accOccupied (s : State) (t free set : Nat) (entries : List Word) :
    tile (accOccupied s t free set entries) t =
      { tile s t with accFree := free, accSet := set, landing := landInsert (tile s t).landing (.words free .dacc (1024 * set) entries []) } := by
  rw [accOccupied, tile_land, tile_onTile_self]

theorem accOccupied_lands (s : State) (t free set : Nat) (entries : List Word) :
    (tile (accOccupied s t free set entries) t).accFree = free ∧ (tile (accOccupied s t free set entries) t).accSet = set
      ∧ Lands (accOccupied s t free set entries) t (.words free .dacc (1024 * set) entries []) := by
  rw [tile_accOccupied]
  exact ⟨rfl, rfl, lands_land _ t _⟩

/-- The state with the drain path occupied by a set until a cycle (R124). -/
def drainOccupied (s : State) (t free set : Nat) : State := onTile s t (fun x => { x with drainFree := free, drainSet := set })

/-- A packed result sent by the drain path leaves the path occupied. -/
theorem tile_landVr_drainOccupied (s : State) (t free set vd latency : Nat) (r : List Word × List Nat × Nat) :
    (tile (landVr (drainOccupied s t free set) t vd latency r) t).drainFree = free ∧ (tile (landVr (drainOccupied s t free set) t vd latency r) t).drainSet = set := by
  rw [tile_landVr, drainOccupied, tile_onTile_self]
  exact ⟨rfl, rfl⟩

/-- Settles O16: MMA and MMAZ differ in the entries that they start from alone; DRAIN sends the packed entries of its set to vector registers. -/
theorem matrixUnit : Obligations.MatrixUnit := by
  unfold Obligations.MatrixUnit
  refine ⟨fun sl set ddesc before after s => ?product, fun sl set fmt vd rnd before after s => ?drain⟩
  case product =>
    intro n runs
    exact ⟨fun hmay => issues_of_mayIssue hmay rfl (accOccupied_lands _ n _ set _), fun hmay => issues_of_mayIssue hmay rfl (accOccupied_lands _ n _ set _)⟩
  case drain =>
    intro n i u c r hmay
    obtain ⟨hfree, hset⟩ := tile_landVr_drainOccupied u n (c + 10) set vd 10 r
    exact issues_of_mayIssue hmay rfl ⟨hfree, hset, lands_landVr (drainOccupied u n (c + 10) set) n vd 10 r⟩

end Sys2Proof.Machine
end

section
/-! SUPPORT. The calibration state and the calibration engine's record of a group (R89, R94, R98, R99), as the shared operations on groups leave them. -/
namespace Sys2Proof.Machine

/-! ### Plots and steps under a footprint -/

theorem Keeps.plotOf_eq {F : Nat} {s u : State} (h : Keeps F s u) (hF : F.testBit 203 = false) (t : Nat) : plotOf u t = plotOf s t := by
  have hin : (fun p => inPlot u p t) = fun p => inPlot s p t := funext fun p => congrArg (bit · (t % 32)) (h.rd_eq (r := .pltTiles p (t / 32)) hF)
  exact congrArg (allPlots.find? ·) hin

theorem Keeps.plotRun_eq {F : Nat} {s u : State} (h : Keeps F s u) (hF : F.testBit 74 = false) (p : Nat) : plotRun u p = plotRun s p :=
  congrArg (fld · 31 29) (h.rd_eq (r := .schPstat p) hF)

theorem Keeps.inService_eq {F : Nat} {s u : State} (h : Keeps F s u) (htiles : F.testBit 203 = false) (hrun : F.testBit 74 = false) (t : Nat) :
    inService u t = inService s t := by
  simp only [inService, h.plotOf_eq htiles, h.plotRun_eq hrun]

theorem Keeps.stepping_eq {F : Nat} {s u : State} (h : Keeps F s u) (htiles : F.testBit 203 = false) (hrun : F.testBit 74 = false) (hplots : F.testBit 7 = false)
    (t : Nat) : stepping u t = stepping s t := by
  simp only [stepping, plot, h.plotOf_eq htiles, h.plotRun_eq hrun, h.plots.eq hplots]

/-! ### CAL_GSTAT.STATE -/

theorem Keeps.calState_eq {F : Nat} {s u : State} (h : Keeps F s u) (hF : F.testBit 56 = false) (t g : Nat) : calState u t g = calState s t g :=
  congrArg (fld · 31 29) (h.rd_eq (r := .calGstat t g) hF)

theorem calState_setCalState_self (s : State) (t g : Nat) {v : Nat} (hv : v < 8) : calState (setCalState s t g v) t g = v :=
  (rdFld_wrFld_self s _ v (by decide) (by decide)).trans (Nat.mod_eq_of_lt hv)

theorem calState_setCalState_ne (s : State) (t : Nat) {g k : Nat} (v : Nat) (h : g ≠ k) : calState (setCalState s t g v) t k = calState s t k :=
  rdFld_wr_ne s _ _ _ fun e => h (Reg.calGstat.inj e).2

theorem calState_enterRecal_self (s : State) (t g : Nat) : calState (enterRecal s t g) t g = calRecal :=
  (rdFld_wr_ne _ _ _ _ (by nofun)).trans (calState_setCalState_self s t g (by decide))

theorem calState_enterRecal_ne (s : State) (t : Nat) {g k : Nat} (h : g ≠ k) : calState (enterRecal s t g) t k = calState s t k :=
  (rdFld_wr_ne _ _ _ _ (by nofun)).trans (calState_setCalState_ne s t _ h)

/-- An operation on one group after another of a list without repetition, each of which sets its own group's state alone. -/
theorem calState_forAll {t : Nat} {f : State → Nat → State} {next : Nat → Nat} (hself : ∀ s g, calState (f s g) t g = next (calState s t g))
    (hother : ∀ s g k, g ≠ k → calState (f s g) t k = calState s t k) {l : List Nat} (hl : l.Nodup) (s : State) :
    ∀ g ∈ l, calState (forAll f s l) t g = next (calState s t g) := by
  have houtside : ∀ (l : List Nat) (s : State) (k : Nat), k ∉ l → calState (forAll f s l) t k = calState s t k := by
    intro l
    induction l with
    | nil => exact fun _ _ _ => rfl
    | cons g rest ih =>
      intro s k hk
      obtain ⟨hkg, hkrest⟩ := not_or.1 (mt List.mem_cons.2 hk)
      exact (ih _ k hkrest).trans (hother s g k (Ne.symm hkg))
  induction l generalizing s with
  | nil => exact fun g hg => absurd hg List.not_mem_nil
  | cons g rest ih =>
    obtain ⟨hg, hrest⟩ := List.nodup_cons.1 hl
    intro k hk
    rcases List.mem_cons.1 hk with rfl | hk
    · exact (houtside rest _ k hg).trans (hself s k)
    · exact (ih hrest _ k hk).trans (congrArg next (hother s g k fun e => hg (e ▸ hk)))

theorem nodup_maskedGroups (s : State) (t : Nat) : (maskedGroups s t).Nodup := List.nodup_range.filter _

/-! ### The engine's record -/

theorem calOf_of_tile_eq {s u : State} {t : Nat} (h : tile u t = tile s t) (g : Nat) : calOf u t g = calOf s t g :=
  congrArg (fun x : TileState => mapGet ({} : GroupCal) x.cal g) h

theorem tile_onCal_self (s : State) (t g : Nat) (f : GroupCal → GroupCal) :
    tile (onCal s t g f) t = { tile s t with cal := mapInsert (tile s t).cal g (f (calOf s t g)) } := tile_onTile_self _ _ _

theorem calOf_onCal_self (s : State) (t g : Nat) (f : GroupCal → GroupCal) : calOf (onCal s t g f) t g = f (calOf s t g) :=
  (congrArg (fun x : TileState => mapGet ({} : GroupCal) x.cal g) (tile_onCal_self s t g f)).trans ((mapGet_mapInsert _ _ _ _ _).trans (if_pos rfl))

theorem conv_onCal (s : State) (t g : Nat) (f : GroupCal → GroupCal) : (tile (onCal s t g f) t).conv = (tile s t).conv :=
  (congrArg TileState.conv (tile_onCal_self s t g f)).trans rfl

/-! ### Trims and factors that take effect (R89, R99) -/

/-- Correction entries change the correction table alone. -/
theorem calOf_writeEntries (s : State) (t g k : Nat) (slots : List Nat) (kcol karr : Nat → Rat) :
    calOf (onTile s t (fun x => writeEntries x k slots kcol karr)) t g = calOf s t g :=
  (congrArg (fun x : TileState => mapGet ({} : GroupCal) x.cal g) (tile_onTile_self s t (fun x => writeEntries x k slots kcol karr))).trans rfl

theorem conv_writeEntries (s : State) (t k : Nat) (slots : List Nat) (kcol karr : Nat → Rat) :
    (tile (onTile s t (fun x => writeEntries x k slots kcol karr)) t).conv = (tile s t).conv :=
  (congrArg TileState.conv (tile_onTile_self s t (fun x => writeEntries x k slots kcol karr))).trans rfl

/-- The state in which the engine's record and entries of a group are in force, its calibration state as before. -/
def entriesInForce (s : State) (t g : Nat) : State :=
  let k := calOf s t g
  let kc := (List.range 516).map (kcolNow s t g k)
  onTile (onCal s t g (fun _ => { k with
    gt := k.gtNew
    ot := (List.range 516).map (fun c => (c, clampTrim ((mapGet 0 k.ot0 c).toInt + rneRat (mapGet 0 k.oOff c))))
    kcol := (List.range 516).map (fun c => (c, kc.getD c 1))
    due := false, recalDone := false, seeded := true, epoch := k.epoch + 1 })) t (fun x => writeEntries x g (List.range 17) (fun c => kc.getD c 1) (fun p =>
      mapGet 1 k.karr p))

theorem applyCal_eq (s : State) (t g : Nat) : applyCal s t g =
    if (calOf s t g).recalDone && (calState s t g == calRecal || calState s t g == calForeground)
    then wrFld (setCalState (entriesInForce s t g) t g calAdmitted) (.calGstat t g) 28 27 3 else entriesInForce s t g := rfl

theorem tile_applyCal (s : State) (t g n : Nat) : tile (applyCal s t g) n = tile (entriesInForce s t g) n := by
  rw [applyCal_eq]
  split <;> rfl

/-- The gain trims in force are the engine's own from now on, and the record of its measurement sets is as before. -/
theorem calOf_applyCal (s : State) (t g : Nat) : ∃ ot kcol, calOf (applyCal s t g) t g = { calOf s t g with
    gt := (calOf s t g).gtNew, ot := ot, kcol := kcol, due := false, recalDone := false, seeded := true, epoch := (calOf s t g).epoch + 1 } :=
  ⟨_, _, (calOf_of_tile_eq (tile_applyCal s t g t) g).trans ((calOf_writeEntries ..).trans (calOf_onCal_self ..))⟩

theorem conv_applyCal (s : State) (t g : Nat) : (tile (applyCal s t g) t).conv = (tile s t).conv :=
  (congrArg TileState.conv (tile_applyCal s t g t)).trans ((conv_writeEntries ..).trans (conv_onCal ..))

/-- A foreground calibration that has ended admits its group (R99). -/
theorem calGstat_applyCal {s : State} {t g : Nat} (hdone : (calOf s t g).recalDone = true) (hst : calState s t g = calForeground ∨ calState s t g = calRecal) :
    calState (applyCal s t g) t g = calAdmitted ∧ rdFld (applyCal s t g) (.calGstat t g) 28 27 = 3 := by
  have hends : ((calOf s t g).recalDone && (calState s t g == calRecal || calState s t g == calForeground)) = true := by
    rcases hst with h | h <;> rw [hdone, h] <;> rfl
  rw [applyCal_eq, if_pos hends]
  constructor
  · exact (rdFld_wrFld_of_disjoint _ _ _ (by decide) (by decide) (by decide)).trans (calState_setCalState_self _ t g (by decide))
  · exact rdFld_wrFld_self _ _ _ (by decide) (by decide)

theorem settleCal_inService {s : State} {t : Nat} (h : inService s t = true) (g : Nat) : settleCal s t g = onCal s t g (fun k => { k with due := true }) := if_pos h

theorem settleCal_outside {s : State} {t : Nat} (h : inService s t = false) (g : Nat) : settleCal s t g = applyCal s t g := if_neg (Bool.eq_false_iff.1 h)

/-- Now or at the step boundary: the time and the mark of the last complete set are as the set left them. -/
theorem lastSet_settleCal (s : State) (t g : Nat) :
    (calOf (settleCal s t g) t g).lastSet = (calOf s t g).lastSet ∧ (calOf (settleCal s t g) t g).probSet = (calOf s t g).probSet := by
  by_cases h : inService s t = true
  · rw [settleCal_inService h, calOf_onCal_self]
    exact ⟨rfl, rfl⟩
  · obtain ⟨ot, kcol, hcal⟩ := calOf_applyCal s t g
    rw [settleCal_outside (Bool.eq_false_iff.2 h), hcal]
    exact ⟨rfl, rfl⟩

theorem conv_settleCal (s : State) (t g : Nat) : (tile (settleCal s t g) t).conv = (tile s t).conv := by
  by_cases h : inService s t = true
  · rw [settleCal_inService h, conv_onCal]
  · rw [settleCal_outside (Bool.eq_false_iff.2 h), conv_applyCal]

/-! ### Faults of a converter, and groups that are lost (R47, R107) -/

/-- A group that is lost is LOST, and the physical slot's VALID clears. -/
theorem groupLost_loses (s : State) (t g phys : Nat) : calState (groupLost s t g phys) t g = calLost
    ∧ rd (groupLost s t g phys) (.arrValid t g) = setBit (rd s (.arrValid t g)) phys false := by
  unfold groupLost
  dsimp only
  constructor
  · rw [(irqCores_keeps (.refl _) _ _ (.self _)).calState_eq rfl, (recordEvent_keeps (.refl _) _ _ _ _ _ _ _ (.self _)).calState_eq rfl]
    exact rdFld_wrFld_self _ _ _ (by decide) (by decide)
  · rw [(irqCores_keeps (.refl _) _ _ (.self _)).rd_eq rfl, rd_recordEvent _ _ _ _ _ _ _ _ (by nofun), rd_wrFld, if_neg (by nofun), rd_wrBit, if_neg (by nofun),
      rd_wrBit, if_neg (by nofun), rd_wrBit, if_pos rfl]

/-- A converter fault flags the group, which is LOST on every slot. -/
theorem converterFault_loses (s : State) (t g : Nat) : calState (converterFault s t g) t g = calLost ∧ bit (rd (converterFault s t g) (.calFlag t g)) 31 = true
    ∧ rd (converterFault s t g) (.arrValid t g) = 0 := by
  unfold converterFault
  dsimp only
  refine ⟨(groupLost_loses _ t g 0).1, ?flag, ?valid⟩
  case flag =>
    rw [(groupLost_keeps (.refl _) t g 0 (.self _)).rd_eq rfl, rd_wr_ne _ _ (by nofun), (irqCores_keeps (.refl _) _ _ (.self _)).rd_eq rfl,
      rd_recordEvent _ _ _ _ _ _ _ _ (by nofun)]
    exact bit_wrBit_self s _ true (by decide)
  case valid =>
    rw [(groupLost_loses _ t g 0).2, rd_wr_self]
    decide

end Sys2Proof.Machine
end

section
/-! SUPPORT. Measurement sets, staleness and probation (R96 to R99, R102). -/
namespace Sys2Proof.Machine

/-- What a count that may not be due leaves of the record. -/
theorem calOf_countSome (s : State) (r : Reg) (n t g : Nat) : calOf (if n = 0 then s else count s r n) t g = calOf s t g := by
  split <;> rfl

/-- A set of a group in PROBATION, ADMITTED or STALE that the engine may launch for is complete: it is dated, and probation has had its set (R97, R102). -/
theorem calOf_measureSet {s : State} {t g : Nat} (hst : calState s t g = calProbation ∨ calState s t g = calAdmitted ∨ calState s t g = calStale)
    (hmay : calMayLaunch s t g = true) (z : Nat) : (calOf (measureSet s t g z) t g).lastSet = s.tick ∧ (calOf (measureSet s t g z) t g).probSet = true := by
  have htaken : (!(calState s t g == calProbation || calState s t g == calAdmitted || calState s t g == calStale) || !calMayLaunch s t g) = false := by
    rcases hst with h | h | h <;> rw [h, hmay] <;> rfl
  rw [measureSet, if_neg (Bool.eq_false_iff.1 htaken), calOf_of_tile_eq ((judgeSet_keeps (.refl _) t g _ _ _ (.self _)).tile_eq rfl t),
    (lastSet_settleCal _ t g).1, (lastSet_settleCal _ t g).2, calOf_countSome, calOf_onCal_self]
  exact ⟨rfl, rfl⟩

theorem exec_measurementSet (n : Fin 128) (g : Fin 32) (z : Fin 17) (s : State) :
    exec (.measurementSet n g z) s = .next (if inWindow s n g then measureSet s n g z else s) := rfl

theorem exec_probationSet {s : State} {n : Fin 128} {g : Fin 32} (hst : calState s n g = calProbation) (hstep : stepping s n = false) (z : Fin 17) :
    exec (.probationSet n g z) s = .next (measureSet s n g z) := congrArg _ (if_pos ⟨hst, hstep⟩)

/-- The state as a group goes STALE, counted, before the event is recorded (R97). -/
def goneStale (s : State) (t g : Nat) : State := count (setCalState s t g calStale) (.calStalecnt t) 1

theorem exec_groupStale {s : State} {n : Fin 128} {g : Fin 32} (hserves : inService s n = true) (hst : calState s n g = calProbation ∨ calState s n g = calAdmitted)
    (hold : (calOf s n g).lastSet + 100000 < s.tick) : exec (.groupStale n g) s
      = .next (recordEvent (goneStale s n g) 0x0404 (plotField (goneStale s n g) n) 1 (islTile n) n (gstatView (goneStale s n g) n g) g) := by
  have hstale : (inService s n && (calState s n g == calProbation || calState s n g == calAdmitted) && decide ((calOf s n g).lastSet + 100000 < s.tick)) = true := by
    rcases hst with h | h <;> rw [hserves, h, decide_eq_true hold] <;> rfl
  exact congrArg _ (if_pos hstale)

theorem exec_probationEnd {s : State} {n : Fin 128} {g : Fin 32} (hst : calState s n g = calProbation) (hend : (calOf s n g).probEnd ≤ s.tick)
    (hset : (calOf s n g).probSet = true) (hsoft : (calOf s n g).hardSeen = false) : exec (.probationEnd n g) s = .next (setCalState s n g calAdmitted) :=
  congrArg _ (if_pos ⟨hst, hend, hset, hsoft⟩)

/-- Settles O24: a set of the window and one outside steps are the same complete set, which is dated; staleness and the end of probation set the group's state. -/
theorem measurementSetsAndProbation : Obligations.MeasurementSetsAndProbation := by
  unfold Obligations.MeasurementSetsAndProbation
  refine ⟨fun n g z s hst hmay => ⟨fun hwindow => ?inside, fun hwindow => ?outside⟩, fun n g z s hst hstep hmay => ?probation,
    fun n g s hserves hst hold => ⟨_, exec_groupStale hserves hst hold, ?stale, ?counted⟩,
    fun n g s hst hend hset hsoft => ⟨_, exec_probationEnd hst hend hset hsoft, calState_setCalState_self s n g (by decide)⟩⟩
  case inside => exact ⟨_, (exec_measurementSet n g z s).trans (by rw [if_pos hwindow]), calOf_measureSet hst hmay z⟩
  case outside => rw [exec_measurementSet, if_neg (Bool.eq_false_iff.1 hwindow)]
  case probation => exact ⟨_, exec_probationSet hst hstep z, calOf_measureSet (.inl hst) hmay z⟩
  case stale =>
    rw [(recordEvent_keeps (.refl _) _ _ _ _ _ _ _ (.self _)).calState_eq rfl]
    exact (rdFld_wr_ne _ _ _ _ (by nofun)).trans (calState_setCalState_self s n g (by decide))
  case counted =>
    rw [rd_recordEvent _ _ _ _ _ _ _ _ (by nofun), goneStale, rd_count, if_pos rfl, setCalState, rd_wrFld, if_neg (by nofun)]

end Sys2Proof.Machine
end

section
/-! SUPPORT. Foreground calibration, recalibration and fallow windows (R89, R94, R95, R99, R107, R108, R144). -/
namespace Sys2Proof.Machine

/-! ### Foreground calibration and recalibration asked for (R94, R95, R99) -/

/-- FG_REQ of one masked group: a LOST group stays so. -/
def askForeground (t : Nat) (s : State) (g : Nat) : State := if calState s t g = calLost then s else setCalState s t g calForeground

/-- RECAL_REQ of one masked group. -/
def askRecal (t : Nat) (s : State) (g : Nat) : State :=
  if calState s t g = calProbation ∨ calState s t g = calAdmitted ∨ calState s t g = calStale then enterRecal s t g else s

theorem exec_fgReq {s : State} {n : Fin 128} (h : inService s n = false) : exec (.fgReq n) s = .next (forAll (askForeground n) s (maskedGroups s n)) :=
  congrArg _ (if_neg (Bool.eq_false_iff.1 h))

theorem exec_recalReq {s : State} {n : Fin 128} (h : inService s n = true) : exec (.recalReq n) s = .next (forAll (askRecal n) s (maskedGroups s n)) :=
  congrArg _ (if_pos h)

theorem calState_askForeground_self (t : Nat) (s : State) (g : Nat) :
    calState (askForeground t s g) t g = if calState s t g = calLost then calLost else calForeground := by
  unfold askForeground
  split
  next h => exact h
  · exact calState_setCalState_self s t g (by decide)

theorem calState_askForeground_ne (t : Nat) (s : State) (g k : Nat) (h : g ≠ k) : calState (askForeground t s g) t k = calState s t k := by
  unfold askForeground
  split
  · rfl
  · exact calState_setCalState_ne s t _ h

theorem calState_askRecal_self (t : Nat) (s : State) (g : Nat) : calState (askRecal t s g) t g =
    if calState s t g = calProbation ∨ calState s t g = calAdmitted ∨ calState s t g = calStale then calRecal else calState s t g := by
  unfold askRecal
  split
  · exact calState_enterRecal_self s t g
  · rfl

theorem calState_askRecal_ne (t : Nat) (s : State) (g k : Nat) (h : g ≠ k) : calState (askRecal t s g) t k = calState s t k := by
  unfold askRecal
  split
  · exact calState_enterRecal_ne s t h
  · rfl

/-! ### Foreground calibration complete (R94, R99, R107) -/

/-- The state as the conversions of a foreground calibration have been made and counted, and its health checks have flagged what they found. -/
def fgChecked (s : State) (t g : Nat) (r : FgResult) : State :=
  let s1 := draw (onTile s t (fun x => { x with conv := x.conv + BitVec.ofNat 64 r.phases }))
  forAll (fun s p => flagSlot s t g p) (if r.refBad then wrBit s1 (.calFlag t g) 30 true else s1) r.flagged

theorem fgChecked_of_unflagged {r : FgResult} (h : r.flagged = []) (s : State) (t g : Nat) : fgChecked s t g r =
    if r.refBad then wrBit (draw (onTile s t (fun x => { x with conv := x.conv + BitVec.ofNat 64 r.phases }))) (.calFlag t g) 30 true
    else draw (onTile s t (fun x => { x with conv := x.conv + BitVec.ofNat 64 r.phases })) := by
  rw [fgChecked, h]
  rfl

/-- Where no slot is flagged, the tile's state and its groups' flags alone change. -/
theorem fgChecked_keeps {r : FgResult} (h : r.flagged = []) (s : State) (t g : Nat) : Keeps 0x200000000000050 s (fgChecked s t g r) := by
  rw [fgChecked_of_unflagged h]
  have hcounted : Keeps 0x200000000000050 s (draw (onTile s t (fun x => { x with conv := x.conv + BitVec.ofNat 64 r.phases }))) :=
    draw_keeps (onTile_keeps (.refl s) t _ rfl) rfl
  exact .ite (wrBit_keeps hcounted _ _ _ rfl) hcounted

theorem conv_fgChecked {r : FgResult} (h : r.flagged = []) (s : State) (t g : Nat) :
    (tile (fgChecked s t g r) t).conv = (tile s t).conv + BitVec.ofNat 64 r.phases := by
  rw [fgChecked_of_unflagged h, apply_ite (tile · t), tile_wrBit_eq, ite_self, tile_draw_eq, tile_onTile_self]

theorem refBad_fgChecked {r : FgResult} (h : r.flagged = []) (s : State) (t g : Nat) :
    bit (rd (fgChecked s t g r) (.calFlag t g)) 30 = (bit (rd s (.calFlag t g)) 30 || r.refBad) := by
  rw [fgChecked_of_unflagged h]
  cases hbad : r.refBad with
  | true => rw [if_pos rfl, bit_wrBit_self _ _ _ (by decide), Bool.or_true]
  | false => rw [if_neg Bool.false_ne_true, rd_draw_eq, rd_onTile, Bool.or_false]

section
variable {s : State} {n : Fin 128} {g : Fin 32} (hst : calState s n g = calForeground ∨ calState s n g = calRecal)

theorem exec_foregroundCalComplete_early (h : calMayLaunch s n g = false) (z : Fin 17) : exec (.foregroundCalComplete n g z) s = .next s := by
  have hstopped : (!(calState s n g == calForeground || calState s n g == calRecal) || !calMayLaunch s n g) = true := by rw [h, Bool.not_false, Bool.or_true]
  exact congrArg _ (if_pos hstopped)

include hst

theorem fgComplete_runs (h : calMayLaunch s n g = true) :
    ¬ (!(calState s n g == calForeground || calState s n g == calRecal) || !calMayLaunch s n g) = true := by
  rcases hst with hst | hst <;> rw [h, hst] <;> decide

theorem exec_foregroundCalComplete_faulty (h : calMayLaunch s n g = true) {z : Fin 17} (hfaulty : (fgMeasure s n g z).faulty = true) :
    exec (.foregroundCalComplete n g z) s = .next (converterFault (fgChecked s n g (fgMeasure s n g z)) n g) := by
  rw [show exec (.foregroundCalComplete n g z) s = execForegroundCalComplete n g z s from rfl, execForegroundCalComplete, if_neg (fgComplete_runs hst h)]
  dsimp only
  rw [if_pos hfaulty, fgChecked]

/-- A sound group's results are recorded, dated and settled: now, or at the step boundary. -/
theorem exec_foregroundCalComplete_sound (h : calMayLaunch s n g = true) {z : Fin 17} (hsound : (fgMeasure s n g z).faulty = false)
    (hflagged : (fgMeasure s n g z).flagged = []) : ∃ f : GroupCal → GroupCal,
      exec (.foregroundCalComplete n g z) s = .next (settleCal (onCal (fgChecked s n g (fgMeasure s n g z)) n g f) n g)
      ∧ ∀ k, (f k).lastSet = s.tick ∧ (f k).recalDone = true ∧ (f k).gtNew = (List.range 516).map (fun c => (c, (fgMeasure s n g z).gt.getD c 0)) := by
  have hlost : calState (fgChecked s n g (fgMeasure s n g z)) n g ≠ calLost := by
    rw [(fgChecked_keeps hflagged s n g).calState_eq rfl]
    rcases hst with hst | hst <;> rw [hst] <;> decide
  rw [fgChecked] at hlost
  rw [show exec (.foregroundCalComplete n g z) s = execForegroundCalComplete n g z s from rfl, execForegroundCalComplete, if_neg (fgComplete_runs hst h)]
  dsimp only at hlost ⊢
  rw [if_neg (Bool.eq_false_iff.1 hsound), if_neg hlost, fgChecked]
  refine ⟨_, rfl, fun k => ?_⟩
  dsimp only
  exact ⟨rfl, rfl, rfl⟩

end

/-- A value listed for each number of a list is found. -/
theorem mapGet_map_of_mem {α : Type} (d : α) (f : Nat → α) {l : List Nat} {c : Nat} (h : c ∈ l) : mapGet d (l.map (fun c => (c, f c))) c = f c := by
  have hfind : mapFind (l.map (fun c => (c, f c))) c = some (f c) := by
    induction l with
    | nil => exact absurd h List.not_mem_nil
    | cons k rest ih =>
      by_cases hk : k = c
      · rw [List.map_cons, mapFind, if_pos hk, hk]
      · rw [List.map_cons, mapFind, if_neg hk, ih ((List.mem_cons.1 h).resolve_left (Ne.symm hk))]
  rw [mapGet, hfind]
  rfl

section
variable (s : State) (t g : Nat) (r : FgResult) (f : GroupCal → GroupCal)

/-- The state with the results of a foreground calibration recorded, before they are settled. -/
abbrev fgRecorded : State := onCal (fgChecked s t g r) t g f

variable {s t g r f}

theorem fgRecorded_keeps (h : r.flagged = []) : Keeps 0x200000000000050 s (fgRecorded s t g r f) := onCal_keeps (fgChecked_keeps h s t g) t g f rfl

theorem refBad_settled (h : r.flagged = []) :
    bit (rd (settleCal (fgRecorded s t g r f) t g) (.calFlag t g)) 30 = (bit (rd s (.calFlag t g)) 30 || r.refBad) := by
  rw [(settleCal_keeps (.refl _) t g (.self _)).rd_eq rfl]
  exact refBad_fgChecked h s t g

theorem conv_settled (h : r.flagged = []) : (tile (settleCal (fgRecorded s t g r f) t g) t).conv = (tile s t).conv + BitVec.ofNat 64 r.phases := by
  rw [conv_settleCal, conv_onCal, conv_fgChecked h]

/-- In service the results are due at the step boundary. -/
theorem settled_inService (h : r.flagged = []) (hserves : inService s t = true) :
    (calOf (settleCal (fgRecorded s t g r f) t g) t g).due = true ∧ calState (settleCal (fgRecorded s t g r f) t g) t g = calState s t g := by
  rw [settleCal_inService (((fgRecorded_keeps h).inService_eq rfl rfl t).trans hserves), calOf_onCal_self]
  exact ⟨rfl, (onCal_keeps (fgRecorded_keeps h) t g _ rfl).calState_eq rfl t g⟩

/-- Elsewhere they take effect, and admit the group. -/
theorem settled_outside (h : r.flagged = []) (hidle : inService s t = false) (hst : calState s t g = calForeground ∨ calState s t g = calRecal)
    (hdone : ∀ k, (f k).recalDone = true) : calState (settleCal (fgRecorded s t g r f) t g) t g = calAdmitted
      ∧ rdFld (settleCal (fgRecorded s t g r f) t g) (.calGstat t g) 28 27 = 3
      ∧ (calOf (settleCal (fgRecorded s t g r f) t g) t g).gt = (f (calOf (fgChecked s t g r) t g)).gtNew := by
  obtain ⟨ot, kcol, hcal⟩ := calOf_applyCal (fgRecorded s t g r f) t g
  rw [settleCal_outside (((fgRecorded_keeps h).inService_eq rfl rfl t).trans hidle), hcal, calOf_onCal_self, ← and_assoc]
  refine ⟨calGstat_applyCal (by rw [calOf_onCal_self]; exact hdone _) ?_, rfl⟩
  rw [(fgRecorded_keeps h).calState_eq rfl]
  exact hst

end

/-! ### Fallow windows and repaired spares (R108, R144) -/

/-- A window of the plan stands open on its tile, whose schedule has come to its START. -/
def windowOpened (s : State) (t : Nat) (e : FallowEnt) : State :=
  onTile (if tileRun s t = tEnded then s else tileAdvance s t e.start) t (fun x => { x with window := some (e.groups, e.start + e.length) })

/-- The spare of a group of the window, where it is repaired, due and may be launched, is measured. -/
def measureIfDue (t : Nat) (s : State) (g : Nat) : State :=
  if (tile s t).karrDue.contains g && spare s t g == spReady && calMayLaunch s t g then measureSpare s t g else s

/-- The groups of a window. -/
def windowGroups (e : FallowEnt) : List Nat := (List.range 32).filter (fun g => bit e.groups g)

theorem exec_fallowWindow_opens {s : State} {n : Fin 128} {entry p : Nat} {i : Image} {e : FallowEnt} (hplot : plotOf s n = some p) (himage : imageOf s p = some i)
    (hentry : i.fallow[entry]? = some e) (htile : e.tile = n) (hstep : stepping s n = true) (hphase : (plot s p).step.toNat % e.period = e.phase)
    (hat : scheduleAt s n e.start (e.start + e.length) = true) :
    exec (.fallowWindow n entry true) s = .next (forAll (measureIfDue n) (windowOpened s n e) (windowGroups e)) := by
  have hopens : ¬ (e.tile ≠ n.val ∨ stepping s n = false ∨ (plot s p).step.toNat % e.period ≠ e.phase ∨ scheduleAt s n e.start (e.start + e.length) = false) := by
    simp [htile, hstep, hphase, hat]
  rw [show exec (.fallowWindow n entry true) s = execFallowWindow n entry true s from rfl, execFallowWindow]
  simp only [Bool.not_true, Bool.false_eq_true, if_false, hplot, himage, Option.bind_some, hentry, if_neg hopens]
  rfl

theorem exec_fallowWindow_closes (n : Fin 128) (entry : Nat) (s : State) :
    exec (.fallowWindow n entry false) s = .next (onTile s n (fun x => { x with window := none })) := rfl

/-- What a measurement of the spare changes of the tile: its array factor, its entries, and that it is due. -/
theorem tile_measureSpare (s : State) (t g : Nat) : ∃ corr conv, tile (measureSpare s t g) t = { tile s t with
    cal := mapInsert (tile s t).cal g { calOf s t g with karr := mapInsert (calOf s t g).karr 16 (spareFactor s t g) }
    corr := corr, conv := conv, karrDue := (tile s t).karrDue.filter (· ≠ g) } := by
  unfold measureSpare
  dsimp only
  rw [tile_onTile_self, onCal, tile_onTile_self, tile_draw_eq]
  dsimp only [writeEntries]
  exact ⟨_, _, rfl⟩

theorem karrDue_measureSpare (s : State) (t g : Nat) : (tile (measureSpare s t g) t).karrDue = (tile s t).karrDue.filter (· ≠ g) := by
  obtain ⟨corr, conv, h⟩ := tile_measureSpare s t g
  rw [h]

theorem window_measureSpare (s : State) (t g : Nat) : (tile (measureSpare s t g) t).window = (tile s t).window := by
  obtain ⟨corr, conv, h⟩ := tile_measureSpare s t g
  rw [h]

theorem karr_measureSpare (s : State) (t g : Nat) : mapGet 1 (calOf (measureSpare s t g) t g).karr 16 = spareFactor s t g := by
  obtain ⟨corr, conv, h⟩ := tile_measureSpare s t g
  rw [calOf, h, mapGet_mapInsert, if_pos rfl, mapGet_mapInsert, if_pos rfl]

/-- Registers, plots and the window decide whether the engine may launch (R54, R90, R95). -/
theorem Keeps.calMayLaunch_eq {s u : State} (h : Keeps 0x50 s u) {t : Nat} (hw : (tile u t).window = (tile s t).window) (g : Nat) :
    calMayLaunch u t g = calMayLaunch s t g := by
  have hstep : stepping u t = stepping s t := h.stepping_eq rfl rfl rfl t
  have hrun : tileRun u t = tileRun s t := by rw [tileRun, rdFld, h.rd_eq rfl, tileRun, rdFld]
  have hwindow : inWindow u t g = inWindow s t g := by rw [inWindow, inWindow, hw, hstep, hrun, h.rd_eq rfl]
  rw [calMayLaunch, calMayLaunch, grpPwr_of_rd_eq (h.rd_eq rfl), hwindow, hstep, rdFld, h.rd_eq rfl, rdFld]

/-- A repaired spare that, once due, a window's opening measures: it is READY, and the engine may launch for its group. -/
def SpareMay (s : State) (t g : Nat) : Prop := spare s t g = spReady ∧ calMayLaunch s t g = true

theorem spareMay_iff_of_keeps {s u : State} (h : Keeps 0x50 s u) {t : Nat} (hw : (tile u t).window = (tile s t).window) (g : Nat) : SpareMay u t g ↔ SpareMay s t g := by
  have hspare : spare u t g = spare s t g := by rw [spare, rdFld, h.rd_eq rfl, spare, rdFld]
  rw [SpareMay, SpareMay, hspare, h.calMayLaunch_eq hw]

theorem measureIfDue_keeps (s : State) (t g : Nat) : Keeps 0x50 s (measureIfDue t s g) := .ite (measureSpare_keeps (.refl s) t g (.self _)) (.refl s)

theorem window_measureIfDue (s : State) (t g : Nat) : (tile (measureIfDue t s g) t).window = (tile s t).window := by
  unfold measureIfDue
  split
  · exact window_measureSpare s t g
  · rfl

theorem measureIfDue_of_due {s : State} {t g : Nat} (hdue : g ∈ (tile s t).karrDue) (h : SpareMay s t g) : measureIfDue t s g = measureSpare s t g := by
  rw [measureIfDue, if_pos (by simp [hdue, h.1, h.2])]

theorem measureIfDue_of_not_due {s : State} {t g : Nat} (hdue : g ∉ (tile s t).karrDue) : measureIfDue t s g = s := by
  rw [measureIfDue, if_neg (by simp [hdue])]

/-- No round makes a spare due. -/
theorem not_due_measureIfDue {s : State} {t k : Nat} (h : k ∉ (tile s t).karrDue) (g : Nat) : k ∉ (tile (measureIfDue t s g) t).karrDue := by
  unfold measureIfDue
  split
  · rw [karrDue_measureSpare]
    exact fun hk => h (List.mem_of_mem_filter hk)
  · exact h

/-- A spare measured is due no more. -/
theorem measured_not_due {s : State} {t g : Nat} (h : SpareMay s t g) : g ∉ (tile (measureIfDue t s g) t).karrDue := by
  by_cases hdue : g ∈ (tile s t).karrDue
  · rw [measureIfDue_of_due hdue h, karrDue_measureSpare]
    simp
  · rwa [measureIfDue_of_not_due hdue]

theorem window_measured (t : Nat) (l : List Nat) (s : State) : (tile (forAll (measureIfDue t) s l) t).window = (tile s t).window :=
  forAll_inv (P := fun u => (tile u t).window = (tile s t).window) (fun u g h => (window_measureIfDue u t g).trans h) l s rfl

/-- Every spare of the window that may be measured is due no more at its opening. -/
theorem not_due_measured {s : State} {t : Nat} {l : List Nat} {g : Nat} (hg : g ∈ l) (h : SpareMay s t g) :
    g ∉ (tile (forAll (measureIfDue t) s l) t).karrDue := by
  have hbefore : ∀ u k g, SpareMay (measureIfDue t u k) t g → SpareMay u t g := fun u k g =>
    (spareMay_iff_of_keeps (measureIfDue_keeps u t k) (window_measureIfDue u t k) g).1
  have hstill : SpareMay (forAll (measureIfDue t) s l) t g :=
    (spareMay_iff_of_keeps (forAll_keeps (.refl s) _ _ fun u k hu => hu.trans (measureIfDue_keeps u t k)) (window_measured t l s) g).2 h
  exact forAll_each (P := fun g u => SpareMay u t g → g ∉ (tile u t).karrDue) (fun u g hu => measured_not_due (hbefore u g g hu))
    (fun u g k hu hk => not_due_measureIfDue (hu (hbefore u k g hk)) k) l s g hg hstill

theorem measured_of_none_due {t : Nat} {s : State} (h : (tile s t).karrDue = []) (l : List Nat) : forAll (measureIfDue t) s l = s := by
  induction l with
  | nil => rfl
  | cons k rest ih => rw [forAll, measureIfDue_of_not_due (by rw [h]; exact List.not_mem_nil), ih]

/-- Where one spare alone is due, and may be measured, the window's opening comes to that measurement. -/
theorem measured_of_one_due {t : Nat} {s : State} {g : Nat} (h : (tile s t).karrDue = [g]) (hmay : SpareMay s t g) {l : List Nat} (hg : g ∈ l) :
    forAll (measureIfDue t) s l = measureSpare s t g := by
  induction l with
  | nil => exact absurd hg List.not_mem_nil
  | cons k rest ih =>
    rw [forAll]
    by_cases hk : k = g
    · subst hk
      rw [measureIfDue_of_due (by rw [h]; exact List.mem_cons_self) hmay, measured_of_none_due (by rw [karrDue_measureSpare, h]; simp)]
    · rw [measureIfDue_of_not_due (by rw [h]; simpa using hk), ih ((List.mem_cons.1 hg).resolve_left (Ne.symm hk))]

/-! ### A window on a tile that has ended -/

theorem windowOpened_of_ended {s : State} {t : Nat} (h : tileRun s t = tEnded) (e : FallowEnt) :
    windowOpened s t e = onTile s t (fun x => { x with window := some (e.groups, e.start + e.length) }) := by
  rw [windowOpened, if_pos h]

theorem window_windowOpened (s : State) (t : Nat) (e : FallowEnt) : (tile (windowOpened s t e) t).window = some (e.groups, e.start + e.length) := by
  rw [windowOpened, tile_onTile_self]

/-- On a tile that has ended, with a window open, the engine may launch for a group of it that is AWAKE, under a BUDGET of at least 1. -/
theorem spareMay_of_window {s : State} {t g c : Nat} {groups : Word} (hwindow : (tile s t).window = some (groups, c)) (hstep : stepping s t = true)
    (hended : tileRun s t = tEnded) (hgroup : bit groups g = true) (hawake : grpPwr s t g = 2) (hbudget : 1 ≤ rdFld s (.arrStatus t) 21 16)
    (hready : spare s t g = spReady) : SpareMay s t g := by
  have hin : inWindow s t g = true := by simp [inWindow, hwindow, hstep, hended, hgroup]
  exact ⟨hready, by simp [calMayLaunch, hawake, hbudget, hstep, hin]⟩

theorem spareMay_windowOpened {s : State} {t g : Nat} {e : FallowEnt} (hstep : stepping s t = true) (hended : tileRun s t = tEnded) (hgroup : bit e.groups g = true)
    (hawake : grpPwr s t g = 2) (hbudget : 1 ≤ rdFld s (.arrStatus t) 21 16) (hready : spare s t g = spReady) : SpareMay (windowOpened s t e) t g := by
  rw [windowOpened_of_ended hended]
  exact spareMay_of_window (congrArg TileState.window (tile_onTile_self s t _)) hstep hended hgroup hawake hbudget hready

theorem mem_windowGroups {e : FallowEnt} {g : Nat} (hg : g < 32) (h : bit e.groups g = true) : g ∈ windowGroups e :=
  List.mem_filter.2 ⟨List.mem_range.2 hg, h⟩

/-- Settles O23: the masked groups' states are set one by one; a calibration that ends is a converter fault or is settled now or at the step boundary; and a window's opening
measures each repaired spare that is due. -/
theorem foregroundCalibration : Obligations.ForegroundCalibration := by
  unfold Obligations.ForegroundCalibration
  refine ⟨fun n s hidle => ⟨_, exec_fgReq hidle, ?asked⟩, fun n s hserves => ⟨_, exec_recalReq hserves, ?recal⟩,
    fun n g z s hst => ⟨fun hearly => exec_foregroundCalComplete_early hearly z, fun hmay => ?complete⟩,
    fun n entry p i e s hplot himage hentry htile hstep hphase hat => ⟨_, exec_fallowWindow_opens hplot himage hentry htile hstep hphase hat, ?opens, ?measures⟩,
    fun n entry s => ⟨_, exec_fallowWindow_closes n entry s, congrArg TileState.window (tile_onTile_self _ _ _)⟩⟩
  case asked =>
    exact calState_forAll (next := fun v => if v = calLost then calLost else calForeground) (calState_askForeground_self n) (calState_askForeground_ne n)
      (nodup_maskedGroups s n) s
  case recal =>
    intro g hg hst
    rw [calState_forAll (next := fun v => if v = calProbation ∨ v = calAdmitted ∨ v = calStale then calRecal else v) (calState_askRecal_self n)
      (calState_askRecal_ne n) (nodup_maskedGroups s n) s g hg, if_pos hst]
  case complete =>
    by_cases hfaulty : (fgMeasure s n g z).faulty = true
    · refine ⟨_, exec_foregroundCalComplete_faulty hst hmay hfaulty, ?_⟩
      dsimp only
      rw [if_pos hfaulty]
      exact converterFault_loses _ n g
    · by_cases hflagged : (fgMeasure s n g z).flagged = []
      · obtain ⟨f, hexec, hf⟩ := exec_foregroundCalComplete_sound hst hmay (Bool.eq_false_iff.2 hfaulty) hflagged
        refine ⟨_, hexec, ?_⟩
        dsimp only
        rw [if_neg hfaulty]
        refine fun _ => ⟨?dated, conv_settled hflagged, refBad_settled hflagged, ?settled⟩
        case dated => rw [(lastSet_settleCal _ n g).1, calOf_onCal_self, (hf _).1]
        case settled =>
          split
          next hserves => exact settled_inService hflagged hserves
          next hidle =>
            obtain ⟨hstate, hseeds, hgt⟩ := settled_outside hflagged (Bool.eq_false_iff.2 hidle) hst fun k => (hf k).2.1
            refine ⟨hstate, hseeds, fun c hc => ?_⟩
            rw [hgt, (hf _).2.2]
            exact mapGet_map_of_mem 0 _ (List.mem_range.2 hc)
      · refine ⟨_, rfl, ?_⟩
        dsimp only
        rw [if_neg hfaulty]
        exact fun h => absurd h hflagged
  case opens => rw [window_measured, window_windowOpened]
  case measures =>
    intro g hg hended hgroup hawake hbudget hready
    have hmay := spareMay_windowOpened hstep hended hgroup hawake hbudget hready
    have hmem := mem_windowGroups hg hgroup
    refine ⟨not_due_measured hmem hmay, fun hdue => ?_⟩
    rw [measured_of_one_due (by rw [windowOpened_of_ended hended, tile_onTile_self]; exact hdue) hmay hmem, karr_measureSpare, windowOpened_of_ended hended]

end Sys2Proof.Machine
end

section
/-! SUPPORT. Repairs, the calibration store's saves, and degraded tiles (R105, R108 to R111). -/
namespace Sys2Proof.Machine

/-! ### The spare of a group under repair (R108) -/

theorem spare_setSpare (s : State) (t g : Nat) {v : Nat} (hv : v < 8) : spare (setSpare s t g v) t g = v :=
  (rdFld_wrFld_self s _ v (by decide) (by decide)).trans (Nat.mod_eq_of_lt hv)

/-- RETIRED_NEXT is another field than SPARE. -/
theorem retiredNext_setSpare (s : State) (t g v : Nat) : rdFld (setSpare s t g v) (.arrGrp t g) 12 8 = rdFld s (.arrGrp t g) 12 8 :=
  rdFld_wrFld_of_disjoint s _ v (by decide) (by decide) (by decide)

theorem exec_repairStart {s : State} {n : Fin 128} {g : Fin 32} {slot : Fin 16} (hflag : bit (rd s (.calFlag n g)) slot = true)
    (hspare : spare s n g = spEmpty ∨ spare s n g = spReference) :
    exec (.repairStart n g slot) s = .next (setSpare (wrFld s (.arrGrp n g) 12 8 slot) n g spProgramming) := by
  have hstarts : (bit (rd s (.calFlag n g)) slot && (spare s n g == spEmpty || spare s n g == spReference)) = true := by
    rcases hspare with h | h <;> rw [hflag, h] <;> rfl
  exact congrArg _ (if_pos hstarts)

/-- The rows of the husk segment that holds the retired slot are there for the spare; without them an event is recorded, and the repair waits. -/
theorem exec_repairSegmentRead {s : State} {n : Fin 128} {g : Fin 32} {p : Nat} (hspare : spare s n g = spProgramming) (hplot : plotOf s n = some p) (src : HuskSource) :
    ∃ value, exec (.repairSegmentRead n g src) s = .next ((repairRowsOf s p n (16 * g + rdFld s (.arrGrp n g) 12 8) src).elim
      (recordEvent s 0x0302 (plotField s n) 2 islSecurity (plotField s n) value 0)
      (fun rows => onTile s n (fun x => { x with repairRows := mapInsert x.repairRows g rows }))) := by
  rw [show exec (.repairSegmentRead n g src) s = execRepairSegmentRead n g src s from rfl, execRepairSegmentRead]
  simp only [hspare, ne_eq, not_true, if_false, hplot, Option.bind_some]
  cases repairRowsOf s p n (16 * g + rdFld s (.arrGrp n g) 12 8) src with
  | some rows => exact ⟨0, rfl⟩
  | none => exact ⟨_, rfl⟩

theorem tiles_recordEvent (s : State) (code plot sev island object : Nat) (value : Word) (extra : Nat) :
    (recordEvent s code plot sev island object value extra).tiles = s.tiles := (recordEvent_keeps (.refl s) _ _ _ _ _ _ _ (.self _)).tiles.eq rfl

/-! ### Requests taken -/

theorem Keeps.box_eq {F : Nat} {s u : State} (h : Keeps F s u) (hF : F.testBit 14 = false) (o : Nat) : box u o = box s o :=
  congrArg (fun w : FwState => mapGet ({} : MailboxState) w.boxes o) (h.fw.eq hF)

/-- A request that has been taken is owed its answer. -/
theorem owed_takeRequest (s : State) (m : Msg) (type : Nat) : (box (takeRequest s m type) m.owner).requests.any (fun r => r.seq == m.seq) = true := by
  unfold takeRequest
  dsimp only
  split
  next hwaits =>
    obtain ⟨r, hr, hseq⟩ := List.any_eq_true.1 hwaits
    obtain ⟨hseq, -⟩ := Bool.and_eq_true_iff.1 hseq
    rw [(showRequests_keeps (.refl _) (.self _)).box_eq rfl, box_wr, box_onBox_self]
    refine List.any_eq_true.2 ⟨_, List.mem_map_of_mem hr, ?_⟩
    rwa [if_pos (eq_of_beq hseq)]
  next =>
    split
    next howed => exact howed
    next =>
      rw [box_onBox_self]
      exact List.any_eq_true.2 ⟨_, List.mem_append_right _ List.mem_cons_self, beq_self_eq_true _⟩

theorem ram_takeRequest (s : State) (m : Msg) (type : Nat) : (takeRequest s m type).ram = s.ram := (takeRequest_keeps (.refl s) m type (.self _)).ram.eq rfl

/-! ### CALSTORE_SAVE (R105) -/

/-- A save of the calibration store begins: no tile has been snapshot. -/
def saveBegun (s : State) (m : Msg) (type : Nat) : State :=
  { s with ram := { s.ram with saving := some { owner := m.owner, seq := m.seq, version := m.version, type := type, due := allTiles, tiles := [] } } }

theorem exec_calstoreSave {s : State} {m : Msg} {type : BitVec 16} (h : Admitted s m { type := type.toNat, vf := false, feature := some 1 }) :
    exec (.calstoreSave m type) s = .next (if s.ram.saving.isSome then respond (takeRequest s m type.toNat) m type.toNat stBusy 0 []
      else snapshotTiles (saveBegun (takeRequest s m type.toNat) m type.toNat) (allTiles.filter (fun t => !stepping s t))) := by
  have hserved := serve_admitted h (fun s => if s.ram.saving.isSome then respond s m type.toNat stBusy 0 []
    else snapshotTiles (saveBegun s m type.toNat) (allTiles.filter (fun t => !stepping s t)))
  have hstep : stepping (takeRequest s m type.toNat) = stepping s := funext ((takeRequest_keeps (.refl s) m type.toNat (.self _)).stepping_eq rfl rfl rfl)
  dsimp only at hserved
  rw [ram_takeRequest, hstep] at hserved
  exact congrArg _ hserved

/-- The tiles named are snapshot for a save that has begun: with all of them the save ends, else it goes on. -/
theorem snapshotTiles_saveBegun (s : State) (m : Msg) (type : Nat) (now : List Nat) : ∃ k : CalSave,
    (k.owner = m.owner ∧ k.seq = m.seq ∧ k.version = m.version ∧ k.type = type)
    ∧ snapshotTiles (saveBegun s m type) now = if (allTiles.filter (fun t => !now.contains t)).isEmpty then finishSave (saveBegun s m type) k
      else { s with ram := { s.ram with saving := some k } } := by
  rw [snapshotTiles]
  exact ⟨_, ⟨rfl, rfl, rfl, rfl⟩, rfl⟩

theorem not_all_snapshot {t : Nat} (ht : t < 128) {now : List Nat} (hnow : t ∉ now) : ¬ (allTiles.filter (fun t => !now.contains t)).isEmpty = true := by
  have hdue : t ∈ allTiles.filter (fun t => !now.contains t) := List.mem_filter.2 ⟨List.mem_range.2 ht, by simpa using hnow⟩
  exact fun h => List.ne_nil_of_mem hdue (List.isEmpty_iff.1 h)

theorem all_snapshot : (allTiles.filter (fun t => !allTiles.contains t)).isEmpty = true := by
  rw [List.isEmpty_iff, List.filter_eq_nil_iff]
  intro t ht
  simp [ht]

/-- The fuses decide which copy of the store counts (R104). -/
theorem copySeq_of_sec_eq {s u : State} (h : u.sec = s.sec) (c : CalCopy) : copySeq u c = copySeq s c := by
  have hauthentic : copyAuthentic u c = copyAuthentic s c := by simp only [copyAuthentic, calstoreMac, rootSecret, fuseDigest, fuse, h]
  rw [copySeq, hauthentic, copySeq]

/-- Of the two copies of the store the one with the lower SEQ is written, one above the other's. -/
def SavedOver (a b : Nat) (r q : MemState) : Prop :=
  q.saving = none ∧ if a ≤ b then q.calA.seq = b + 1 ∧ q.calB = r.calB else q.calB.seq = a + 1 ∧ q.calA = r.calA

/-- A save that ends answers its message once the store is written. -/
theorem finishSave_eq (s : State) (k : CalSave) : ∃ u, finishSave s k = answer u k.owner k.seq k.version k.type stOk 0 [] ∧ u.fw = s.fw
    ∧ SavedOver (copySeq s s.ram.calA) (copySeq s s.ram.calB) s.ram u.ram := by
  unfold finishSave SavedOver
  dsimp only
  refine ⟨_, rfl, ?_⟩
  by_cases hcopy : copySeq s s.ram.calA ≤ copySeq s s.ram.calB
  · simp only [if_pos hcopy]
    split <;> exact ⟨rfl, rfl, rfl, rfl⟩
  · simp only [if_neg hcopy]
    split <;> exact ⟨rfl, rfl, rfl, rfl⟩

theorem answered_taken {s u : State} {m : Msg} {type : Nat} (h : u.fw = (takeRequest s m type).fw) (status : Nat) :
    Answered (respond u m type status 0 []) m type status :=
  answered_respond u m type status 0 [] (by rw [box, h]; exact owed_takeRequest s m type)

theorem ram_respond (s : State) (m : Msg) (type status detail : Nat) (payload : List Byte) : (respond s m type status detail payload).ram = s.ram :=
  (respond_keeps (.refl s) m type status detail payload (.self _)).ram.eq rfl

section
variable {s : State} {m : Msg} {type : BitVec 16} (h : Admitted s m { type := type.toNat, vf := false, feature := some 1 })
include h

theorem calstoreSave_busy (hbusy : s.ram.saving.isSome = true) : Gives s (.calstoreSave m type) fun t => Answered t m type.toNat stBusy ∧ t.ram = s.ram :=
  ⟨_, (exec_calstoreSave h).trans (by rw [if_pos hbusy]), answered_taken rfl stBusy, (ram_respond ..).trans (ram_takeRequest ..)⟩

theorem calstoreSave_waits (hfree : s.ram.saving = none) {n : Nat} (hn : n < 128) (hstep : stepping s n = true) : Gives s (.calstoreSave m type) fun t =>
    t.ram.saving.isSome = true ∧ t.ram.calA = s.ram.calA ∧ t.ram.calB = s.ram.calB := by
  have hlater : n ∉ allTiles.filter (fun t => !stepping s t) := fun hmem => by simpa [hstep] using List.of_mem_filter hmem
  obtain ⟨k, -, hk⟩ := snapshotTiles_saveBegun (takeRequest s m type.toNat) m type.toNat (allTiles.filter (fun t => !stepping s t))
  rw [if_neg (not_all_snapshot hn hlater)] at hk
  refine ⟨_, (exec_calstoreSave h).trans (by rw [if_neg (by rw [hfree]; exact Bool.false_ne_true), hk]), rfl, ?_, ?_⟩
  · dsimp only
    rw [ram_takeRequest]
  · dsimp only
    rw [ram_takeRequest]

theorem calstoreSave_ends (hfree : s.ram.saving = none) (hidle : ∀ n < 128, stepping s n = false) : Gives s (.calstoreSave m type) fun t =>
    Answered t m type.toNat stOk ∧ SavedOver (copySeq s s.ram.calA) (copySeq s s.ram.calB) s.ram t.ram := by
  have hall : allTiles.filter (fun t => !stepping s t) = allTiles :=
    List.filter_eq_self.2 fun t ht => by rw [hidle t (List.mem_range.1 ht), Bool.not_false]
  obtain ⟨k, ⟨howner, hseq, hversion, htype⟩, hk⟩ := snapshotTiles_saveBegun (takeRequest s m type.toNat) m type.toNat allTiles
  rw [if_pos all_snapshot] at hk
  obtain ⟨u, hu, hfw, hsaved⟩ := finishSave_eq (saveBegun (takeRequest s m type.toNat) m type.toNat) k
  rw [howner, hseq, hversion, htype] at hu
  refine ⟨_, (exec_calstoreSave h).trans (by rw [if_neg (by rw [hfree]; exact Bool.false_ne_true), hall, hk, hu]; rfl), answered_taken hfw stOk, ?_⟩
  have hsec : (saveBegun (takeRequest s m type.toNat) m type.toNat).sec = s.sec := (takeRequest_keeps (.refl s) m type.toNat (.self _)).sec.eq rfl
  have hram := ram_takeRequest s m type.toNat
  rw [copySeq_of_sec_eq hsec, copySeq_of_sec_eq hsec] at hsaved
  rw [← hram]
  exact (congrArg (SavedOver _ _ _) (ram_respond u m type.toNat stOk 0 [])).mpr hsaved

end

/-! ### Degraded tiles (R110, R111) -/

theorem pltState_setPlt (s : State) (p : Nat) {v : Nat} (hv : v < 16) : pltState (setPlt s p v) p = v :=
  (rdFld_wr_ne _ _ _ _ (by nofun)).trans ((rdFld_wrFld_self s _ v (by decide) (by decide)).trans (Nat.mod_eq_of_lt hv))

theorem pltState_onPlot (s : State) (p : Nat) (f : PlotState → PlotState) (q : Nat) : pltState (onPlot s p f) q = pltState s q := rfl

section
variable {s : State} {n : Fin 128} {p : Nat} (hplot : plotOf s n = some p) (hdegraded : bit (rd s (.arrStatus n)) 31 = true)
include hplot hdegraded

/-- A held plot goes LOADING for a usable alternate, else awaits a reload. -/
theorem exec_tileDegradedHold_held (hheld : pltState s p = pltHeld) (hthawed : frozen s p = false) (hown : (plot s p).altOf = none) :
    exec (.tileDegradedHold n) s = .next ((usableAlternate s p n).elim (onPlot s p (fun q => { q with reload := true }))
      (fun _ => onPlot (setPlt s p pltLoading) p (fun q => { q with altOf := some n.val }))) := by
  rw [show exec (.tileDegradedHold n) s = execTileDegradedHold n s from rfl, execTileDegradedHold]
  cases halternate : usableAlternate s p n <;> simp [hplot, hdegraded, hheld, hthawed, hown, halternate, pltHeld, pltServing]

theorem exec_tileDegradedHold_reload (hheld : pltState s p = pltHeld) (hthawed : frozen s p = false) (hown : (plot s p).altOf = none)
    (hnone : usableAlternate s p n = none) : exec (.tileDegradedHold n) s = .next (onPlot s p (fun q => { q with reload := true })) := by
  rw [exec_tileDegradedHold_held hplot hdegraded hheld hthawed hown, hnone, Option.elim_none]

theorem exec_tileDegradedHold_alternate (hheld : pltState s p = pltHeld) (hthawed : frozen s p = false) (hown : (plot s p).altOf = none) {a : Image}
    (hsome : usableAlternate s p n = some a) :
    exec (.tileDegradedHold n) s = .next (onPlot (setPlt s p pltLoading) p (fun q => { q with altOf := some n.val })) := by
  rw [exec_tileDegradedHold_held hplot hdegraded hheld hthawed hown, hsome, Option.elim_some]

/-- A plot that waits for an alternate's arrays is held again when no alternate is usable any more. -/
theorem exec_tileDegradedHold_abandoned (hloading : pltState s p = pltLoading) (halt : (plot s p).altOf = some n.val) (hnone : usableAlternate s p n = none) :
    exec (.tileDegradedHold n) s = .next (onPlot (setPlt s p pltHeld) p (fun q => { q with altOf := none, reload := true })) := by
  rw [show exec (.tileDegradedHold n) s = execTileDegradedHold n s from rfl, execTileDegradedHold]
  simp [hplot, hdegraded, hloading, halt, hnone, pltLoading, pltHeld, pltServing]

end

/-- Settles O25: a repair's commands and a degraded tile's each have one equation for each outcome; a save is answered BUSY, waits for a tile's step to end, or ends at once,
with the store's older copy written. -/
theorem repairsAndDegradedTiles : Obligations.RepairsAndDegradedTiles := by
  unfold Obligations.RepairsAndDegradedTiles
  refine ⟨fun n g slot s hflag hspare => ⟨_, exec_repairStart hflag hspare, spare_setSpare _ n g (by decide), ?retired⟩,
    fun n g src p s hspare hplot => ?segment,
    fun m type s h => ⟨calstoreSave_busy h, fun hfree hsome => ?waits, fun hfree hidle => calstoreSave_ends h hfree hidle⟩,
    fun n p s hplot hdegraded => ⟨fun hheld hthawed hown hnone => ?reload, fun a hheld hthawed hown hsome => ?alternate, fun hloading halt hnone => ?abandoned⟩⟩
  case retired =>
    rw [retiredNext_setSpare, rdFld_wrFld_self _ _ _ (by decide) (by decide)]
    exact Nat.mod_eq_of_lt (by omega)
  case segment =>
    obtain ⟨value, hexec⟩ := exec_repairSegmentRead hspare hplot src
    refine ⟨_, hexec, ?_⟩
    cases repairRowsOf s p n (16 * g + rdFld s (.arrGrp n g) 12 8) src with
    | some rows =>
      dsimp only [Option.elim_some]
      rw [tile_onTile_self]
      exact mapFind_mapInsert_self _ _ _
    | none => exact tiles_recordEvent ..
  case waits =>
    obtain ⟨n, hn, hstep⟩ := hsome
    exact calstoreSave_waits h hfree hn hstep
  case reload =>
    exact ⟨_, exec_tileDegradedHold_reload hplot hdegraded hheld hthawed hown hnone, congrArg PlotState.reload (plot_onPlot_self ..)⟩
  case alternate =>
    exact ⟨_, exec_tileDegradedHold_alternate hplot hdegraded hheld hthawed hown hsome, (pltState_onPlot ..).trans (pltState_setPlt s p (by decide)),
      congrArg PlotState.altOf (plot_onPlot_self ..)⟩
  case abandoned =>
    exact ⟨_, exec_tileDegradedHold_abandoned hplot hdegraded hloading halt hnone, (pltState_onPlot ..).trans (pltState_setPlt s p (by decide)),
      congrArg PlotState.altOf (plot_onPlot_self ..), congrArg PlotState.reload (plot_onPlot_self ..)⟩

end Sys2Proof.Machine
end

section
/-! SUPPORT. What landing results and a fault of a tile leave (R68, R146, R147): held bundles, crossings, the tile that stopped, and its plot. -/
namespace Sys2Proof.Machine

/-! ### Results that land -/

theorem tile_onTile (s : State) (t n : Nat) (f : TileState → TileState) : tile (onTile s t f) n = if t = n then f (tile s t) else tile s n := tile_setTile s t n _

/-- What a result's landing keeps, and the taking of it from the list, holds once all due have landed. -/
theorem landUpTo_inv {P : State → Prop} {t : Nat} (hdrop : ∀ s rest, P s → P (onTile s t (fun x => { x with landing := rest }))) (hone : ∀ s l, P s → P (landOne s t l))
    (fuel c : Nat) {s : State} (h : P s) : P (landUpTo fuel s t c) := by
  induction fuel generalizing s with
  | zero => exact h
  | succ fuel ih =>
    rw [landUpTo]
    split
    · exact h
    · split
      · exact ih (hone _ _ (hdrop _ _ h))
      · exact h

/-- A tile's change that leaves its held bundle leaves every tile's. -/
theorem held_onTile (s : State) (t n : Nat) {f : TileState → TileState} (hf : ∀ x, (f x).held = x.held) : (tile (onTile s t f) n).held = (tile s n).held := by
  rw [tile_onTile]
  split
  · next e => rw [hf, e]
  · rfl

theorem held_land (s : State) (t n : Nat) (l : Landing) : (tile (land s t l) n).held = (tile s n).held := held_onTile s t n fun _ => rfl

theorem held_finalOutput (s : State) (t desc : Nat) (vals : List Int) (f : FinalOut) (n : Nat) : (tile (finalOutput s t desc vals f) n).held = (tile s n).held := by
  have hbeats : ∀ (u : State) (cyc addr : Nat) (bs : List Byte), (tile (landBeats u t cyc addr bs) n).held = (tile u n).held := fun u cyc addr bs =>
    forAll_inv (P := fun v => (tile v n).held = (tile u n).held) (fun v k hv => (held_land v t n _).trans hv) _ u rfl
  unfold finalOutput
  split
  · exact hbeats _ _ _ _
  · exact (hbeats _ _ _ _).trans (by rw [tile_countMxNan])

/-- A result that lands leaves every held bundle. -/
theorem held_landOne (s : State) (t : Nat) (l : Landing) (n : Nat) : (tile (landOne s t l) n).held = (tile s n).held := by
  cases l with
  | words due dest key vals scales => exact held_onTile s t n fun x => by cases dest <;> rfl
  | bytes due a bs => rfl
  | load due key a => exact held_land s t n _
  | chunk due key b => exact held_onTile s t n fun _ => rfl
  | tail due a len head put => cases put <;> exact held_land s t n _
  | accum due row add desc vals final =>
    have hsum : ∀ acc sat, (tile (if sat = 0 then onTile s t (fun x => { x with acc := acc })
        else shError (count (onTile s t (fun x => { x with acc := acc })) (.tilAccsat t) sat) t due desc [4]) n).held = (tile s n).held := fun acc sat => by
      split
      · exact held_onTile s t n fun _ => rfl
      · rw [tile_shError, tile_count_eq]
        exact held_onTile s t n fun _ => rfl
    cases final with
    | none => exact hsum _ _
    | some f => exact (held_finalOutput _ t desc _ f n).trans (hsum _ _)
  | choice due writes missing limit =>
    simp only [landOne]
    split
    · rw [tile_draw_eq, tile_foldl_wrBytes, tile_unwatch]
    · have hwritten : tile (writes.foldl (fun s w => wrBytes s w.1 w.2) (unwatch s t).1) n = tile s n :=
        tile_foldl_wrBytes (fun w => w.1) (fun _ w => w.2) writes _ n
      split
      · rw [hwritten]
      · rw [tile_shError, tile_count_eq, hwritten]
  | line due p x i a => rfl

theorem held_landAll (s : State) (t n : Nat) : (tile (landAll s t) n).held = (tile s n).held :=
  landUpTo_inv (P := fun u => (tile u n).held = (tile s n).held) (fun u rest hu => (held_onTile u t n (f := fun x => { x with landing := rest }) fun _ => rfl).trans hu)
    (fun u l hu => (held_landOne u t l n).trans hu) _ _ rfl

/-! ### The tile at fault -/

/-- A tile that a violation stops (R146): the bits and records are set, the tile is FAULTED and holds no bundle. -/
def violated (s : State) (t : Nat) (v : Viol) (xid : Nat) : State :=
  let s1 := arrError s t v.group v.slot v.arr
  let s2 := shError s1 t (rd s1 (.schCycle t)).toNat v.desc v.sh
  let s3 := schError s2 t (lowest (violSch v)) xid
  let s4 := match v.refused with | [] => s3 | r :: _ => spRecord s3 t r.1 r.2.1 r.2.2
  onTile (setTileRun (forAll (fun s b => wrBit s (.schErr t) b true) s4 (violSch v)) t tFaulted) t (fun x => { x with held := [], gather := [] })

/-- The same once what the tile has issued has landed, before its plot faults. -/
def tileStopped (s : State) (t : Nat) (v : Viol) (xid : Nat) : State := landAll (violated s t v xid) t

/-- The fault of a tile is its stop, and the fault of the plot that holds it. -/
theorem tileFaultXid_eq (s : State) (t : Nat) (v : Viol) (xid : Nat) : tileFaultXid s t v xid
    = match plotOf (tileStopped s t v xid) t with | some p => plotFault (tileStopped s t v xid) p (lowest (violSch v)) t | none => tileStopped s t v xid := rfl

theorem tileRun_setTileRun (s : State) (t : Nat) {v : Nat} (hv : v < 8) : tileRun (setTileRun s t v) t = v :=
  (rdFld_wrFld_self s _ v (by decide) (by decide)).trans (Nat.mod_eq_of_lt hv)

/-- Results that land leave the registers of the sequencers as they are. -/
theorem rd_schStatus_landAll (s : State) (t n : Nat) : rd (landAll s t) (.schStatus n) = rd s (.schStatus n) := (landAll_keeps (.refl s) t (.self _)).rd_eq rfl

theorem rd_schErr_landAll (s : State) (t n : Nat) : rd (landAll s t) (.schErr n) = rd s (.schErr n) := (landAll_keeps (.refl s) t (.self _)).rd_eq rfl

theorem tileRun_tileStopped (s : State) (t : Nat) (v : Viol) (xid : Nat) : tileRun (tileStopped s t v xid) t = tFaulted := by
  rw [tileRun, rdFld, tileStopped, rd_schStatus_landAll, violated, rd_onTile]
  exact tileRun_setTileRun _ t (by decide)

theorem held_tileStopped (s : State) (t : Nat) (v : Viol) (xid : Nat) : (tile (tileStopped s t v xid) t).held = [] := by
  rw [tileStopped, held_landAll, violated, tile_onTile_self]

/-- The bit of a rule broken alone is set (R146, Table SCH-22). -/
theorem schErr_tileStopped (s : State) (t : Nat) {v : Viol} (xid : Nat) {b : Nat} (hv : violSch v = [b]) (hb : b < 32) :
    bit (rd (tileStopped s t v xid) (.schErr t)) b = true := by
  rw [tileStopped, rd_schErr_landAll, violated, rd_onTile, setTileRun, rd_wrFld, if_neg (by nofun), hv]
  exact bit_wrBit_self _ _ true hb

/-- A violation reaches its tile and the tile's own error and status registers. -/
theorem violated_keeps (s : State) (t : Nat) (v : Viol) (xid : Nat) : Keeps 0x206400060018000040 s (violated s t v xid) := by
  unfold violated
  dsimp only
  refine onTile_keeps (setTileRun_keeps (forAll_keeps ?_ _ _ fun _ _ h => wrBit_keeps h _ _ _ rfl) _ _ rfl) _ _ rfl
  have hbits : Keeps 0x206400060018000040 s _ := schError_keeps (shError_keeps (arrError_keeps (.refl s) t v.group v.slot v.arr rfl) t
    (rd (arrError s t v.group v.slot v.arr) (.schCycle t)).toNat v.desc v.sh rfl) t (lowest (violSch v)) xid rfl
  split
  · exact hbits
  · exact spRecord_keeps hbits _ _ _ _ rfl

/-- The plot that holds a tile and the plots' states stand while the tile stops. -/
theorem plotOf_tileStopped (s : State) (t : Nat) (v : Viol) (xid n : Nat) : plotOf (tileStopped s t v xid) n = plotOf s n :=
  ((landAll_keeps (.refl _) t (.self _)).plotOf_eq rfl n).trans ((violated_keeps s t v xid).plotOf_eq rfl n)

theorem plotRun_tileStopped (s : State) (t : Nat) (v : Viol) (xid p : Nat) : plotRun (tileStopped s t v xid) p = plotRun s p :=
  ((landAll_keeps (.refl _) t (.self _)).plotRun_eq rfl p).trans ((violated_keeps s t v xid).plotRun_eq rfl p)

/-! ### The plot at fault -/

/-- Every tile of the plot but the one at fault stops with SCH_ERR.PLOT (R147 step 2). -/
def othersStopped (s : State) (p ft : Nat) : State :=
  forAll (fun s t => if t = ft then s else landAll (setTileRun (schError s t 7 0) t tFaulted) t) s (tilesOf s p)

/-- The plot is FAULTED with the cause and the tile of its first fault (R147 step 3). -/
def plotMarked (s : State) (p cause ft : Nat) : State :=
  wrFld (wrFld (setPlt (othersStopped s p ft) p pltFaulted) (.schPstat p) 28 24 cause) (.schPstat p) 23 17 ft

theorem plotFault_of_faulted {s : State} {p : Nat} (h : plotRun s p = pFaulted) (cause ft : Nat) : plotFault s p cause ft = s := if_pos h

/-- Past the mark of the fault, what a fault tells the leader, the event recorder, a save and the host leaves the part's other registers as they are. -/
theorem plotFault_keeps_marked {s : State} {p : Nat} (h : plotRun s p ≠ pFaulted) (cause ft : Nat) :
    Keeps 0x100000000000000000000000000300000000000000000000000010cf80 (plotMarked s p cause ft) (plotFault s p cause ft) := by
  rw [plotFault, if_neg h]
  refine signalFn_keeps (signalFn_keeps (irqCores_keeps (snapshotTiles_keeps (recordEvent_keeps (tellLeader_keeps (discardUnsent_keeps ?_ _ rfl) _ rfl) _ _ _ _ _ _ _ rfl) _ rfl) _ _ rfl)
    _ _ rfl) _ _ rfl
  exact .refl _

/-- The stop of a tile for its plot's fault writes no other tile's status or errors. -/
theorem rd_plotStop (s : State) (t : Nat) {r : Reg} (herr : .schErr t ≠ r) (hinfo : .schErrinfo t ≠ r) (hstatus : .schStatus t ≠ r)
    (hland : r.within 0x3e00000600dc = false) : rd (landAll (setTileRun (schError s t 7 0) t tFaulted) t) r = rd s r := by
  rw [(landAll_keeps (.refl _) t (.self _)).rd_eq hland, setTileRun, rd_wrFld, if_neg hstatus, schError]
  split
  · rw [rd_wrBit, if_neg herr]
  · rw [rd_wr_ne _ _ hinfo, rd_wrBit, if_neg herr]

theorem rd_othersStopped (s : State) (p ft : Nat) {r : Reg} (h : r = .schStatus ft ∨ r = .schErr ft) : rd (othersStopped s p ft) r = rd s r := by
  refine forAll_inv (P := fun u => rd u r = rd s r) (fun u t hu => ?_) _ s rfl
  split
  · exact hu
  · next ht =>
    refine Eq.trans ?_ hu
    rcases h with rfl | rfl
    · exact rd_plotStop u t nofun nofun (fun e => ht (Reg.schStatus.inj e)) rfl
    · exact rd_plotStop u t (fun e => ht (Reg.schErr.inj e)) nofun nofun rfl

/-- A plot's fault leaves the status and the errors of the tile at fault. -/
theorem rd_plotFault (s : State) (p cause ft : Nat) {r : Reg} (h : r = .schStatus ft ∨ r = .schErr ft) : rd (plotFault s p cause ft) r = rd s r := by
  by_cases hrun : plotRun s p = pFaulted
  · rw [plotFault_of_faulted hrun]
  · rw [(plotFault_keeps_marked hrun cause ft).rd_eq (by rcases h with rfl | rfl <;> rfl), ← rd_othersStopped s p ft h]
    rcases h with rfl | rfl <;> simp [plotMarked, setPlt, rd_wrFld]

theorem held_plotFault (s : State) (p cause ft n : Nat) : (tile (plotFault s p cause ft) n).held = (tile s n).held := by
  by_cases hrun : plotRun s p = pFaulted
  · rw [plotFault_of_faulted hrun]
  · rw [(plotFault_keeps_marked hrun cause ft).tile_eq rfl]
    refine forAll_inv (P := fun u => (tile u n).held = (tile s n).held) (fun u t hu => ?_) _ s rfl
    split
    · exact hu
    · rw [held_landAll, setTileRun, tile_wrFld_eq, (schError_keeps (.refl u) t 7 0 (.self _)).tile_eq rfl]
      exact hu

/-! ### What a fault comes to -/

/-- A tile at fault is FAULTED (R146). -/
theorem tileRun_tileFaultXid (s : State) (t : Nat) (v : Viol) (xid : Nat) : tileRun (tileFaultXid s t v xid) t = tFaulted := by
  rw [tileFaultXid_eq]
  split
  · rw [tileRun, rdFld, rd_plotFault _ _ _ _ (.inl rfl)]
    exact tileRun_tileStopped s t v xid
  · exact tileRun_tileStopped s t v xid

/-- It holds no bundle. -/
theorem held_tileFaultXid (s : State) (t : Nat) (v : Viol) (xid : Nat) : (tile (tileFaultXid s t v xid) t).held = [] := by
  rw [tileFaultXid_eq]
  split
  · rw [held_plotFault]
    exact held_tileStopped s t v xid
  · exact held_tileStopped s t v xid

/-- SCH_ERR names the rule broken (Table SCH-22). -/
theorem schErr_tileFaultXid (s : State) (t : Nat) {v : Viol} (xid : Nat) {b : Nat} (hv : violSch v = [b]) (hb : b < 32) :
    bit (rd (tileFaultXid s t v xid) (.schErr t)) b = true := by
  rw [tileFaultXid_eq]
  split
  · rw [rd_plotFault _ _ _ _ (.inr rfl)]
    exact schErr_tileStopped s t xid hv hb
  · exact schErr_tileStopped s t xid hv hb

/-- SCH_PSTAT names the cause and the tile of the plot's first fault (R147 step 3). -/
theorem schPstat_tileFault {s : State} {t p : Nat} (hplot : plotOf s t = some p) (hrun : plotRun s p ≠ pFaulted) {v : Viol} {b : Nat} (hv : violSch v = [b]) (hb : b < 31) (ht : t < 128) :
    plotRun (tileFault s t v) p = pFaulted ∧ rdFld (tileFault s t v) (.schPstat p) 28 24 = b ∧ rdFld (tileFault s t v) (.schPstat p) 23 17 = t := by
  have hstopped : plotRun (tileStopped s t v 0) p ≠ pFaulted := by
    rw [plotRun_tileStopped]
    exact hrun
  have hcause : lowest (violSch v) = b := by rw [hv, lowest, lowest]; omega
  have hfault : tileFault s t v = plotFault (tileStopped s t v 0) p b t := by
    rw [tileFault, tileFaultXid_eq, plotOf_tileStopped, hplot, ← hcause]
  rw [hfault, plotRun, rdFld, rdFld, rdFld, (plotFault_keeps_marked hstopped b t).rd_eq rfl]
  refine ⟨?_, ?_, ?_⟩
  · change rdFld (plotMarked (tileStopped s t v 0) p b t) (.schPstat p) 31 29 = pFaulted
    rw [plotMarked, rdFld_wrFld_of_disjoint _ _ _ (by decide) (by decide) (by decide), rdFld_wrFld_of_disjoint _ _ _ (by decide) (by decide) (by decide), setPlt,
      rdFld_wrFld_self _ _ _ (by decide) (by decide)]
    rfl
  · change rdFld (plotMarked (tileStopped s t v 0) p b t) (.schPstat p) 28 24 = b
    rw [plotMarked, rdFld_wrFld_of_disjoint _ _ _ (by decide) (by decide) (by decide), rdFld_wrFld_self _ _ _ (by decide) (by decide)]
    exact Nat.mod_eq_of_lt (by omega)
  · change rdFld (plotMarked (tileStopped s t v 0) p b t) (.schPstat p) 23 17 = t
    rw [plotMarked, rdFld_wrFld_self _ _ _ (by decide) (by decide)]
    exact Nat.mod_eq_of_lt ht

end Sys2Proof.Machine
end

section
/-! SUPPORT. The move unit (R125, R182): each move puts what it read in a cycle on its way, and only the landing shows in the registers or the memory. -/
namespace Sys2Proof.Machine

/-- A result set on its way changes neither the memory nor the vector registers. -/
theorem land_only_lands (s : State) (t : Nat) (l : Landing) :
    (land s t l).mem = s.mem ∧ (tile (land s t l) t).vr = (tile s t).vr ∧ Lands (land s t l) t l :=
  ⟨rfl, by rw [tile_land], lands_land s t l⟩

section
variable (sl : Slot) (bank : Fin 4) (addr : BitVec 20) (s : State)

/-- What a move finds, the check bits of its first line having been read (R186). -/
abbrev moved : State := spEcc s sl.tile bank (lineOf addr.toNat) 1 sl.ecc

theorem issue_opLd_aligned (vr : Fin 32) (part : Fin 4) (h : addr.toNat % 64 = 0) : (opLd sl bank addr vr part).issue s = land (moved sl bank addr s) sl.tile
    (.words (issueCycle (moved sl bank addr s) sl.tile + 1) .vr (64 * vr.val + 16 * part.val)
      ((List.range 16).map (fun i => BitVec.ofNat 32 (rdLe (moved sl bank addr s) (bankAddr sl.tile bank (addr.toNat + 4 * i)) 4))) []) := if_pos h

/-- A load across two lines keeps the bytes of its first line until the second is read (R182). -/
theorem issue_opLd_split (vr : Fin 32) (part : Fin 4) (h : addr.toNat % 64 ≠ 0) : (opLd sl bank addr vr part).issue s = land (moved sl bank addr s) sl.tile
    (.tail (issueCycle (moved sl bank addr s) sl.tile + 1) (bankAddr sl.tile bank (addr.toNat + headBytes addr.toNat)) (addr.toNat % 64)
      (rdBytes (moved sl bank addr s) (bankAddr sl.tile bank addr.toNat) (headBytes addr.toNat)) (.vr (64 * vr.val + 16 * part.val))) := if_neg h

/-- The 64 bytes of a quarter of a vector register. -/
def quarterBytes (t : Nat) (vr : Fin 32) (part : Fin 4) : List Byte :=
  (List.range 16).flatMap (fun i => leBytes 4 (vrLane (tile s t) vr (16 * part.val + i)).toNat)

/-- The first cycle of a store writes what lies in its first line. -/
abbrev storedHead (vr : Fin 32) (part : Fin 4) : State := land (moved sl bank addr s) sl.tile
  (.bytes (issueCycle (moved sl bank addr s) sl.tile + 1) (bankAddr sl.tile bank addr.toNat)
    ((quarterBytes (moved sl bank addr s) sl.tile vr part).take (headBytes addr.toNat)))

theorem issue_opSt_aligned (vr : Fin 32) (part : Fin 4) (h : addr.toNat % 64 = 0) : (opSt sl bank addr vr part).issue s = storedHead sl bank addr s vr part := if_pos h

theorem issue_opSt_split (vr : Fin 32) (part : Fin 4) (h : addr.toNat % 64 ≠ 0) : (opSt sl bank addr vr part).issue s = land (storedHead sl bank addr s vr part) sl.tile
    (.bytes (issueCycle (moved sl bank addr s) sl.tile + 2) (bankAddr sl.tile bank (addr.toNat + headBytes addr.toNat))
      ((quarterBytes (moved sl bank addr s) sl.tile vr part).drop (headBytes addr.toNat))) := if_neg h

theorem issue_opCpy_aligned (dbank : Fin 4) (dline : BitVec 14) (h : addr.toNat % 64 = 0) : (opCpy sl bank addr dbank dline).issue s = land (moved sl bank addr s) sl.tile
    (.bytes (issueCycle (moved sl bank addr s) sl.tile + 2) (bankAddr sl.tile dbank (dline.toNat * 64))
      (rdBytes (moved sl bank addr s) (bankAddr sl.tile bank addr.toNat) 64)) := if_pos h

theorem issue_opCpy_split (dbank : Fin 4) (dline : BitVec 14) (h : addr.toNat % 64 ≠ 0) : (opCpy sl bank addr dbank dline).issue s = land (moved sl bank addr s) sl.tile
    (.tail (issueCycle (moved sl bank addr s) sl.tile + 1) (bankAddr sl.tile bank (addr.toNat + headBytes addr.toNat)) (addr.toNat % 64)
      (rdBytes (moved sl bank addr s) (bankAddr sl.tile bank addr.toNat) (headBytes addr.toNat)) (.mem (bankAddr sl.tile dbank (dline.toNat * 64)))) := if_neg h

end

/-- A word of a register that lands shows in its lane. -/
theorem vrLane_landOne_words (s : State) (t d k : Nat) {l : List Word} {i : Nat} (h : i < l.length) :
    vrLane (tile (landOne s t (.words d .vr (64 * k) l [])) t) k i = l.getD i 0 := by
  simp only [landOne, tile_onTile_self, vrLane, mapGet_storeWords, Nat.le_add_right, if_true, Nat.add_sub_cancel_left, List.getD_eq_getElem?_getD,
    List.getElem?_eq_getElem h, Option.getD_some]

/-- Settles O17: a move of one line lands in one piece; one across two lines keeps its first bytes until the second line's cycle. -/
theorem moveOperations : Obligations.MoveOperations := by
  unfold Obligations.MoveOperations
  refine ⟨fun sl bank addr vr part before after s => ?load, fun sl bank addr vr part before after s => ?store,
    fun sl sbank saddr dbank dline before after s => ?copy, fun t d a k bs s => ⟨rfl, fun l i h => vrLane_landOne_words s t d k h, fun n => lands_land s t _⟩⟩
  case load =>
    intro n a i u c hmay
    by_cases h : a % 64 = 0
    · obtain ⟨hmem, hvr, hlands⟩ := land_only_lands u n _
      refine issues_of_mayIssue hmay rfl ?_
      rw [show slotOp i = opLd sl bank addr vr part from rfl, issue_opLd_aligned sl bank addr _ vr part h]
      exact ⟨hmem, hvr, fun _ => hlands, fun hne => absurd h hne⟩
    · obtain ⟨hmem, hvr, hlands⟩ := land_only_lands u n _
      refine issues_of_mayIssue hmay rfl ?_
      rw [show slotOp i = opLd sl bank addr vr part from rfl, issue_opLd_split sl bank addr _ vr part h]
      exact ⟨hmem, hvr, fun heq => absurd heq h, fun _ => hlands⟩
  case store =>
    intro n a i u c bs hmay
    obtain ⟨hmem, hvr, hhead⟩ := land_only_lands u n _
    refine issues_of_mayIssue hmay rfl ?_
    rw [show slotOp i = opSt sl bank addr vr part from rfl]
    by_cases h : a % 64 = 0
    · rw [issue_opSt_aligned sl bank addr _ vr part h]
      exact ⟨hmem, hvr, hhead, fun hne => absurd h hne⟩
    · rw [issue_opSt_split sl bank addr _ vr part h]
      obtain ⟨hmem2, hvr2, htail⟩ := land_only_lands (storedHead sl bank addr (effectStart s sl i before after) vr part) n _
      exact ⟨hmem2, hvr2.trans hvr, hhead.land _, fun _ => htail⟩
  case copy =>
    intro n a i u c dst hmay
    by_cases h : a % 64 = 0
    · obtain ⟨hmem, -, hlands⟩ := land_only_lands u n _
      refine issues_of_mayIssue hmay rfl ?_
      rw [show slotOp i = opCpy sl sbank saddr dbank dline from rfl, issue_opCpy_aligned sl sbank saddr _ dbank dline h]
      exact ⟨hmem, fun _ => hlands, fun hne => absurd h hne⟩
    · obtain ⟨hmem, -, hlands⟩ := land_only_lands u n _
      refine issues_of_mayIssue hmay rfl ?_
      rw [show slotOp i = opCpy sl sbank saddr dbank dline from rfl, issue_opCpy_split sl sbank saddr _ dbank dline h]
      exact ⟨hmem, fun heq => absurd heq h, fun _ => hlands⟩

end Sys2Proof.Machine
end

section
/-! SUPPORT. The sequencer's control operations (R54, R83, R120, R128): the fields of SCH_STATUS that loops show, the groups that FALLOW names, and the end of a step. -/
namespace Sys2Proof.Machine

/-! ### Loops -/

/-- SCH_STATUS shows the loop depth, modulo its field (R120). -/
theorem depth_showLoops (s : State) (t : Nat) : rdFld (showLoops s t) (.schStatus t) 28 26 = (tile s t).loops.length % 8 :=
  rdFld_wrFld_self s _ _ (by decide) (by decide)

/-- The loop depth shown leaves the program counter as it is. -/
theorem pc_showLoops (s : State) (t : Nat) : rdFld (showLoops s t) (.schStatus t) 13 0 = rdFld s (.schStatus t) 13 0 :=
  rdFld_wrFld_of_disjoint s _ _ (by decide) (by decide) (by decide)

@[simp] theorem tile_showLoops (s : State) (t n : Nat) : tile (showLoops s t) n = tile s n := rfl

/-- LOOP opens its body innermost (R120). -/
theorem loops_opLoop (sl : Slot) (count : BitVec 20) (s : State) :
    (tile ((opLoop sl count).issue s) sl.tile).loops = ⟨sl.pc.toNat + 1, count.toNat⟩ :: (tile s sl.tile).loops := by
  simp only [opLoop, tile_showLoops, tile_onTile_self]

theorem depth_opLoop (sl : Slot) (count : BitVec 20) (s : State) :
    rdFld ((opLoop sl count).issue s) (.schStatus sl.tile) 28 26 = ((tile s sl.tile).loops.length + 1) % 8 := by
  simp only [opLoop, depth_showLoops, tile_onTile_self, List.length_cons]

/-- ENDLOOP goes back while the body has a run left. -/
theorem issue_opEndloop_again {s : State} {sl : Slot} {f : LoopFrame} {rest : List LoopFrame} (hloops : (tile s sl.tile).loops = f :: rest) (hleft : 1 < f.left) :
    (opEndloop sl).issue s = wrFld (onTile s sl.tile (fun x => { x with loops := { f with left := f.left - 1 } :: rest })) (.schStatus sl.tile) 13 0 f.body := by
  simp only [opEndloop, hloops, if_pos hleft]

/-- ENDLOOP leaves the loop after the body's last run. -/
theorem issue_opEndloop_last {s : State} {sl : Slot} {f : LoopFrame} {rest : List LoopFrame} (hloops : (tile s sl.tile).loops = f :: rest) (hleft : f.left ≤ 1) :
    (opEndloop sl).issue s = showLoops (onTile s sl.tile (fun x => { x with loops := rest })) sl.tile := by
  simp only [opEndloop, hloops, if_neg (Nat.not_lt.2 hleft)]

/-! ### Waits and seeds -/

theorem due_opCtlWait (sl : Slot) (k : BitVec 24) (s : State) : (tile ((opCtlWait sl k).issue s) sl.tile).due = (tile s sl.tile).due + k.toNat := by
  simp only [opCtlWait, tile_onTile_self]

/-- SEEDLD takes the seed as it reads after the check bits of its line (R83, R186). -/
theorem seed_opSeedld (sl : Slot) (bank : Fin 4) (line : BitVec 14) (word : Fin 8) (s : State) : (tile ((opSeedld sl bank line word).issue s) sl.tile).seed
    = BitVec.ofNat 64 (rdLe (spEcc s sl.tile bank line.toNat 1 sl.ecc) (bankAddr sl.tile bank (line.toNat * 64 + 8 * word.val)) 8) := by
  simp only [opSeedld, tile_onTile_self]

/-! ### Fallow requests of a range of groups -/

theorem mem_groupRange {first last g : Nat} : g ∈ groupRange first last ↔ g < 32 ∧ first ≤ g ∧ g ≤ last := by
  simp [groupRange]

/-- What each round keeps for the numbers of the list holds on after the last (`forAll_inv` asks it of every number). -/
theorem forAll_inv_of_mem {P : State → Prop} {f : State → Nat → State} {l : List Nat} (hkeep : ∀ s, ∀ n ∈ l, P s → P (f s n)) {s : State} (h : P s) : P (forAll f s l) := by
  induction l generalizing s with
  | nil => exact h
  | cons m rest ih => exact ih (fun s n hn => hkeep s n (List.mem_cons_of_mem _ hn)) (hkeep s m List.mem_cons_self h)

section
variable (s : State) (t : Nat) {g k : Nat} (h : g ≠ k)
include h

/-- A group that goes fallow, wakes or is asked to writes ARR_GRP of its own alone. -/
theorem arrGrp_applyFallow_ne : rd (applyFallow s t g) (.arrGrp t k) = rd s (.arrGrp t k) := by
  unfold applyFallow
  split
  · rfl
  · exact rd_wr_ne _ _ fun e => h (Reg.arrGrp.inj e).2

theorem arrGrp_wakeGroup_ne : rd (wakeGroup s t g) (.arrGrp t k) = rd s (.arrGrp t k) := by
  have hne : Reg.arrGrp t g ≠ .arrGrp t k := fun e => h (Reg.arrGrp.inj e).2
  have htoken : rd (takeToken s) (.arrGrp t k) = rd s (.arrGrp t k) := (takeToken_keeps (.refl s) (.self _)).rd_eq rfl
  unfold wakeGroup
  split_ifs
  · rfl
  · exact rd_wr_ne _ _ hne
  · exact rd_wr_ne _ _ nofun
  · exact (rd_wr_ne _ _ hne).trans htoken
  · rfl

theorem arrGrp_fallowReq_ne (v : Bool) : rd (fallowReq s t g v) (.arrGrp t k) = rd s (.arrGrp t k) := by
  have hne : Reg.arrGrp t g ≠ .arrGrp t k := fun e => h (Reg.arrGrp.inj e).2
  unfold fallowReq
  split
  · exact (arrGrp_applyFallow_ne _ t h).trans (rd_wr_ne s _ hne)
  · exact (arrGrp_wakeGroup_ne _ t h).trans (rd_wr_ne s _ hne)

end

/-- FALLOW writes the request of each group in its range (R54). -/
theorem bit_fallowRange (s : State) (t : Nat) (v : Bool) (l : List Nat) : ∀ g ∈ l, bit (rd (forAll (fun s g => fallowReq s t g v) s l) (.arrGrp t g)) 22 = v := by
  refine forAll_each (P := fun g s => bit (rd s (.arrGrp t g)) 22 = v) (fun s g => bit_fallowReq s t g v) (fun s g k hg => ?_) l s
  by_cases hk : k = g
  · subst hk
    exact bit_fallowReq s t k v
  · rw [arrGrp_fallowReq_ne s t hk]
    exact hg

/-- A group outside the range keeps its register. -/
theorem arrGrp_fallowRange_of_not_mem (s : State) (t : Nat) (v : Bool) {l : List Nat} {g : Nat} (h : g ∉ l) :
    rd (forAll (fun s g => fallowReq s t g v) s l) (.arrGrp t g) = rd s (.arrGrp t g) :=
  forAll_inv_of_mem (P := fun u => rd u (.arrGrp t g) = rd s (.arrGrp t g)) (fun u k hk hu => (arrGrp_fallowReq_ne u t (fun e : k = g => h (e ▸ hk)) v).trans hu) rfl

/-! ### END -/

/-- A tile at END: ENDED, the stall counts of the step latched (R128, R129). -/
def atEnd (s : State) (t : Nat) : State :=
  forAll (fun s k => wr s (.schLstall t k) (BitVec.ofNat 32 ((tile s t).stepStall.getD k 0))) (setTileRun s t tEnded) (List.range 5)

/-- Latching writes SCH_LSTALL alone. -/
theorem tileRun_atEnd (s : State) (t : Nat) : tileRun (atEnd s t) t = tEnded := by
  refine forAll_inv (P := fun u => tileRun u t = tEnded) (fun u k hu => ?_) _ _ (tileRun_setTileRun s t (by decide))
  rw [tileRun, rdFld, rd_wr_ne u _ (by nofun)]
  exact hu

/-- The counts to latch stand still while they are latched. -/
theorem latch_eq (t : Nat) (x : TileState) (l : List Nat) {s : State} (h : tile s t = x) :
    forAll (fun s k => wr s (.schLstall t k) (BitVec.ofNat 32 ((tile s t).stepStall.getD k 0))) s l
      = forAll (fun s k => wr s (.schLstall t k) (BitVec.ofNat 32 (x.stepStall.getD k 0))) s l := by
  induction l generalizing s with
  | nil => rfl
  | cons k rest ih =>
    rw [forAll, forAll, h]
    exact ih ((tile_wr_eq s _ _ t).trans h)

theorem lstall_atEnd (s : State) (t : Nat) : ∀ k < 5, rd (atEnd s t) (.schLstall t k) = BitVec.ofNat 32 ((tile s t).stepStall.getD k 0) := by
  intro k hk
  rw [atEnd, latch_eq t (tile s t) (s := setTileRun s t tEnded) _ rfl]
  refine forAll_each (P := fun k u => rd u (.schLstall t k) = BitVec.ofNat 32 ((tile s t).stepStall.getD k 0)) (fun u k => ?_) (fun u k j hu => ?_) _ _ k (List.mem_range.2 hk)
  · rw [rd_wr, if_pos rfl]
  · rw [rd_wr]
    split
    · next he => rw [(Reg.schLstall.inj he).2]
    · exact hu

/-- What follows the last END of a plot's step leaves the tiles' own registers as they are. -/
theorem issue_opEnd_keeps (sl : Slot) (s : State) : Keeps 0x20000000000000000000300000800002400000000000011c780 (atEnd (landAll s sl.tile) sl.tile) ((opEnd sl).issue s) := by
  change Keeps _ _ (match plotOf (atEnd (landAll s sl.tile) sl.tile) sl.tile with | some p => stepEnded (atEnd (landAll s sl.tile) sl.tile) p | none => atEnd (landAll s sl.tile) sl.tile)
  split
  · exact stepEnded_keeps (.refl _) _ (.self _)
  · exact .refl _

/-- Settles O18: each control operation writes the loops, the seed, the fallow requests or the end of the step, and the program counter where a body runs again. -/
theorem controlOperations : Obligations.ControlOperations := by
  unfold Obligations.ControlOperations
  refine ⟨fun sl k before after s => ?wait, fun sl count before after s => ?loop, fun sl f rest before after s => ?endloop, fun sl bank line word before after s => ?seed,
    fun sl wake last first before after s => ?fallow, fun sl before after s => ?ends⟩
  case wait =>
    intro i u hmay
    exact issues_of_mayIssue hmay rfl (due_opCtlWait sl k u)
  case loop =>
    intro i u hmay
    exact issues_of_mayIssue hmay rfl ⟨loops_opLoop sl count u, depth_opLoop sl count u⟩
  case endloop =>
    intro i u hmay hloops
    refine ⟨fun hleft => issues_of_mayIssue hmay rfl ?_, fun hleft => issues_of_mayIssue hmay rfl ?_⟩
    · rw [show slotOp i = opEndloop sl from rfl, issue_opEndloop_again hloops hleft, tile_wrFld_eq, tile_onTile_self]
      exact ⟨rfl, rdFld_wrFld_self _ _ _ (by decide) (by decide)⟩
    · rw [show slotOp i = opEndloop sl from rfl, issue_opEndloop_last hloops hleft, tile_showLoops, tile_onTile_self]
      exact ⟨rfl, pc_showLoops _ _⟩
  case seed =>
    intro i u hmay
    exact issues_of_mayIssue hmay rfl (seed_opSeedld sl bank line word _)
  case fallow =>
    intro i u hmay
    refine issues_of_mayIssue hmay rfl ⟨fun g hfirst hlast => bit_fallowRange u sl.tile (!wake) _ g (mem_groupRange.2 ⟨by omega, hfirst, hlast⟩),
      fun g hout => arrGrp_fallowRange_of_not_mem u sl.tile (!wake) fun hg => ?_⟩
    obtain ⟨-, hfirst, hlast⟩ := mem_groupRange.1 hg
    omega
  case ends =>
    intro i u hmay
    have hkeeps := issue_opEnd_keeps sl u
    refine issues_of_mayIssue hmay rfl ⟨?_, fun k hk => ?_⟩
    · rw [← tileRun_atEnd (landAll u sl.tile) sl.tile]
      exact congrArg (fld · 31 29) (hkeeps.rd_eq (r := .schStatus sl.tile) rfl)
    · rw [← lstall_atEnd (landAll u sl.tile) sl.tile k hk]
      exact hkeeps.rd_eq rfl

end Sys2Proof.Machine
end

section
/-! SUPPORT. Slot operations that do not issue (R119, R127, R128, R146, R460): those out of their stream, those of a bundle not whole, bundles at fault and bundles held. -/
namespace Sys2Proof.Machine

/-- A slot operation's command presents it. -/
theorem exec_slot {i : Instr} {sl : Slot} (h : slotOf i = some sl) (s : State) : exec i s = .next (present s sl i) := by
  cases i <;> cases h <;> rfl

/-- A tile that does not run, or that holds a bundle, takes no operation (R119). -/
theorem inStream_of_stopped {s : State} {sl : Slot} (h : tileRun s sl.tile ≠ tRunning ∨ (tile s sl.tile).held ≠ []) (i : Instr) : inStream s sl i = false := by
  unfold inStream
  rcases h with hrun | hheld
  · simp [hrun]
  · simp [hheld]

/-- A held bundle is kept whole, under the source of highest priority (R128). -/
theorem judge_held {s : State} {sl : Slot} {ops : List Instr} (hlawful : (bundleAlone (presented s sl) ops).none? = true)
    (hsource : bundleHolds (presented s sl) sl.tile ops ≠ []) :
    judge s sl ops = holdBundle (chargeBank (presented s sl) sl.tile sl.cyc ops true) sl.tile ops (topSource (bundleHolds (presented s sl) sl.tile ops)) := by
  obtain ⟨a, rest, hsources⟩ := List.exists_cons_of_ne_nil hsource
  rw [hsources]
  exact judge_holds hlawful hsources

theorem held_holdBundle (s : State) (t : Nat) (ops : List Instr) (src : Nat) : (tile (holdBundle s t ops src) t).held = ops := by
  rw [holdBundle, tile_wrFld_eq, tile_onTile_self]

theorem source_holdBundle (s : State) (t : Nat) (ops : List Instr) (src : Nat) : rdFld (holdBundle s t ops src) (.schStatus t) 25 23 = (1 + src) % 8 :=
  rdFld_wrFld_self _ _ _ (by decide) (by decide)

/-- Once a bundle issues, the program counter has left it and the next bundle falls in the next cycle (R119). -/
theorem pc_issuing (s : State) (sl : Slot) (ops : List Instr) : rdFld (issuing s sl ops) (.schStatus sl.tile) 13 0 = (sl.pc.toNat + 1) % 2 ^ 14 :=
  rdFld_wrFld_self _ _ _ (by decide) (by decide)

theorem due_issuing (s : State) (sl : Slot) (ops : List Instr) : (tile (issuing s sl ops) sl.tile).due = sl.cyc + 1 := by
  rw [issuing, tile_wrFld_eq, tile_onTile_self]

/-- Settles O20: what presenting an operation does in each case where its bundle does not issue, and where an issuing bundle leaves the program counter. -/
theorem slotOperationsThatDoNotIssue : Obligations.SlotOperationsThatDoNotIssue := by
  unfold Obligations.SlotOperationsThatDoNotIssue
  refine ⟨fun i sl s hslot => ⟨fun hout => ?ignored, fun hin hpart => ?gathered, fun hstopped => inStream_of_stopped hstopped i⟩, fun sl ops s hbroken => ?faults,
    fun sl ops s hlawful hsource => ?holds, fun sl ops s => ⟨pc_issuing s sl ops, due_issuing s sl ops⟩⟩
  case ignored => rw [exec_slot hslot, present_stopped hout]
  case gathered =>
    rw [exec_slot hslot, present_gathers hin hpart]
    rfl
  case faults =>
    rw [judge_faults hbroken]
    exact tileRun_tileFaultXid _ _ _ 0
  case holds =>
    rw [judge_held hlawful hsource]
    exact ⟨held_holdBundle _ _ _ _, source_holdBundle _ _ _ _⟩

end Sys2Proof.Machine
end

section
/-! SUPPORT. Holds and their end, the debug halt, and the step watchdog (R127, R139, R141, R376). -/
namespace Sys2Proof.Machine

/-! ### HELD -/

theorem plotRun_setPlt (s : State) (p v : Nat) : plotRun (setPlt s p v) p = schView v % 8 := rdFld_wrFld_self _ _ _ (by decide) (by decide)

theorem plotRun_onPlot (s : State) (p : Nat) (f : PlotState → PlotState) (q : Nat) : plotRun (onPlot s p f) q = plotRun s q := rfl

/-- A plot as it becomes HELD, before the checkpoint path sees it (R139, R200). -/
def heldMarked (s : State) (p : Nat) : State := onPlot (setPlt s p pltHeld) p (fun q => { q with startSent := false, startHeld := false })

/-- The checkpoint record is all that the hold of an armed plot changes beyond that. -/
theorem holdPlot_keeps_marked (s : State) (p : Nat) : Keeps 0x10000 (heldMarked s p) (holdPlot s p) := by
  refine Keeps.ite (onCkp_keeps (.refl _) p _ rfl) (.refl _)

/-- What a plot that becomes HELD keeps of its markers (R139). -/
theorem plot_holdPlot (s : State) (p : Nat) : plot (holdPlot s p) p = { plot s p with startSent := false, startHeld := false } := by
  rw [plot, (holdPlot_keeps_marked s p).plots.eq rfl]
  exact (plot_onPlot_self _ _ _).trans (by rw [setPlt, plot_wrFld_eq, plot_wrFld_eq])

/-- Becoming HELD writes the state of the plot and no other register. -/
theorem rd_holdPlot (s : State) (p : Nat) (r : Reg) : rd (holdPlot s p) r = rd (setPlt s p pltHeld) r :=
  ((holdPlot_keeps_marked s p).rd_eq (by cases r <;> rfl)).trans (rd_setPlot_eq _ _ _ _)

theorem plotRun_holdPlot (s : State) (p : Nat) : plotRun (holdPlot s p) p = pHeld := by
  rw [plotRun, rdFld, rd_holdPlot]
  exact (plotRun_setPlt s p pltHeld).trans (by decide)

theorem pltState_holdPlot (s : State) (p : Nat) : pltState (holdPlot s p) p = pltHeld := by
  rw [pltState, rdFld, rd_holdPlot]
  exact pltState_setPlt s p (by decide)

theorem out_holdPlot (s : State) (p : Nat) : (holdPlot s p).out = s.out := (holdPlot_keeps (.refl s) p (.self _)).out.eq rfl

/-! ### HOLD and its end -/

/-- A write of HOLD, before the job acts on it. -/
abbrev holdAsked (s : State) (p : Nat) : State := wrBit s (.schPctrl p) 0 true

section
variable {s : State} {p : Nat}

/-- A hold asked of the leader of several plots is owed. -/
theorem holdJob_leader (hjob : inJob s p = true) (hleader : isLeader s p = true) : holdJob s p = onPlot (holdAsked s p) p (fun q => { q with holdDue := true }) :=
  (if_pos hjob).trans (if_pos hleader)

/-- A follower forwards it. -/
theorem holdJob_follower (hjob : inJob s p = true) (hfollower : isLeader s p = false) : holdJob s p = emit (holdAsked s p) (.notice (jobOf s p) false) :=
  (if_pos hjob).trans (if_neg (Bool.eq_false_iff.1 hfollower))

/-- A plot alone between steps is HELD at once. -/
theorem holdJob_alone (hjob : inJob s p = false) (hrun : plotRun s p = pServing) (hstep : (plot s p).inStep = false) : holdJob s p = holdPlot (holdAsked s p) p := by
  have hserves : plotRun (holdAsked s p) p = pServing := by
    rw [plotRun, rdFld, rd_wrBit, if_neg nofun]
    exact hrun
  exact (if_neg (Bool.eq_false_iff.1 hjob)).trans (if_pos ⟨hserves, hstep⟩)

/-- A hold that a follower forwarded is owed by the leader, whose HOLD bit it leaves alone. -/
theorem exec_hold_forwarded {p : Fin 12} (hjob : inJob s p = true) (hleader : isLeader s p = true) : exec (.hold p true) s = .next (onPlot s p (fun q => { q with holdDue := true })) := by
  rw [show exec (.hold p true) s = execHold p true s from rfl, execHold]
  simp [hjob, hleader]

/-- The end of a hold: a HELD plot that leads itself or its job, is not frozen and awaits no reload serves again. -/
theorem exec_holdResume {p : Fin 12} (hleader : isLeader s p = true) (hrun : plotRun s p = pHeld) (hthawed : frozen s p = false) (hloaded : (plot s p).reload = false) :
    exec (.holdResume p) s = .next (onPlot (setPlt (wrBit s (.schPctrl p) 0 false) p pltServing) p (fun q => { q with stopped := false, holdDue := false, startSent := false })) := by
  rw [show exec (.holdResume p) s = execHoldResume p s from rfl, execHoldResume]
  simp [hleader, hrun, hthawed, hloaded]

end

/-! ### The debug halt -/

/-- With no bundle held, an end of stalls lets nothing go. -/
theorem retry_none_held {s : State} (h : ∀ n, (tile s n).held = []) (ts : List Nat) (waited : Nat) : retry s ts waited = s := by
  have hcharge : ∀ l : List Nat, forAll (chargeWait waited) s l = s := by
    intro l
    induction l with
    | nil => rfl
    | cons t rest ih => rw [forAll, chargeWait, h t, List.isEmpty_nil, if_pos rfl, ih]
  have hnone : ts.filter (fun t => !(tile s t).held.isEmpty) = [] := List.filter_eq_nil_iff.2 fun t _ => by simp [h t]
  simp only [retry, hcharge, hnone]
  rfl

/-- Under a debug session with scope PLOTHALT, the halt is set or cleared (R376). -/
theorem exec_halt {s : State} {m : Nat} (hscope : s.sec.dbgScope = some m) (hbit : m.testBit 0 = true) (hheld : ∀ n, (tile s n).held = []) (p : Fin 12) (v : Bool) :
    exec (.halt p v) s = .next (wrBit s (.schPctrl p) 1 v) := by
  have hretry := retry_none_held (s := wrBit s (.schPctrl p) 1 v) hheld (tilesOf (wrBit s (.schPctrl p) 1 v) p) 0
  rw [show exec (.halt p v) s = execHalt p v s from rfl, execHalt]
  cases v <;> simp [hscope, hbit, hretry]

/-! ### The step watchdog -/

theorem plotOf_chargeStall (s : State) (t src n k : Nat) : plotOf (chargeStall s t src n) k = plotOf s k := (chargeStall_keeps (.refl s) t src n (.self _)).plotOf_eq rfl k

theorem wdogNs_chargeStall (s : State) (t src n p : Nat) : wdogNs (chargeStall s t src n) p = wdogNs s p := by
  rw [wdogNs, imageOf, plot, (chargeStall_keeps (.refl s) t src n (.self _)).plots.eq rfl]
  rfl

/-- A stall that exceeds WDOG_NS faults the tile that holds a bundle (R141). -/
theorem chargeWait_expired {s : State} {t p waited : Nat} (hplot : plotOf s t = some p) (hheld : (tile s t).held ≠ []) (hsource : rdFld s (.schStatus t) 25 23 - 1 ≠ srcDebug)
    (hexpired : wdogNs s p < (tile (chargeStall s t (rdFld s (.schStatus t) 25 23 - 1) waited) t).stallNs) :
    ∃ xid, chargeWait waited s t = tileFaultXid (chargeStall s t (rdFld s (.schStatus t) 25 23 - 1) waited) t { sch := [6] } xid := by
  refine ⟨if rdFld s (.schStatus t) 25 23 - 1 = srcCross then heldXid (chargeStall s t (rdFld s (.schStatus t) 25 23 - 1) waited) t else 0, ?_⟩
  rw [chargeWait, if_neg (by simpa using hheld)]
  dsimp only
  rw [plotOf_chargeStall, hplot]
  dsimp only
  rw [wdogNs_chargeStall, if_pos ⟨hsource, hexpired⟩]

/-- Settles O22: a hold is owed, forwarded or taken at once by what the plot is to its job; a debug halt writes its bit; and an expired stall is a fault of its tile. -/
theorem holdsHaltsAndStepWatchdog : Obligations.HoldsHaltsAndStepWatchdog := by
  unfold Obligations.HoldsHaltsAndStepWatchdog
  refine ⟨fun p s => ⟨fun hjob hleader f => ?leader, fun hjob hfollower => ?follower, fun hjob hrun hstep => ?alone, fun hleader hrun hthawed hloaded => ?resume⟩,
    fun p v s => ⟨?halt, fun hscope => ?noDebug⟩, fun n waited p s hplot hrun hheld hshown hdebug hexpired => ?watchdog⟩
  case leader =>
    cases f with
    | true => exact ⟨_, exec_hold_forwarded hjob hleader, congrArg PlotState.holdDue (plot_onPlot_self ..)⟩
    | false => exact ⟨_, congrArg Host.Outcome.next (holdJob_leader hjob hleader), congrArg PlotState.holdDue (plot_onPlot_self ..)⟩
  case follower => exact ⟨_, congrArg Host.Outcome.next (holdJob_follower hjob hfollower), rfl, bit_wrBit_self s _ true (by decide)⟩
  case alone =>
    refine ⟨_, congrArg Host.Outcome.next (holdJob_alone hjob hrun hstep), plotRun_holdPlot _ p, ?_⟩
    rw [rd_holdPlot, setPlt, rd_wrFld, if_neg nofun, rd_wrFld, if_neg nofun]
    exact bit_wrBit_self s _ true (by decide)
  case resume =>
    refine ⟨_, exec_holdResume hleader hrun hthawed hloaded, ?_, ?_, ?_⟩
    · rw [plotRun_onPlot, plotRun_setPlt]
      decide
    · rw [plot_onPlot_self]
    rw [onPlot, rd_setPlot_eq, setPlt, rd_wrFld, if_neg nofun, rd_wrFld, if_neg nofun]
    exact bit_wrBit_self s _ false (by decide)
  case halt =>
    rintro ⟨m, hscope, hbit⟩ hheld
    exact ⟨_, exec_halt hscope hbit hheld p v, bit_wrBit_self s _ v (by decide)⟩
  case noDebug =>
    rw [show exec (.halt p v) s = execHalt p v s from rfl, execHalt]
    simp [hscope]
  case watchdog =>
    have hsource : rdFld s (.schStatus n) 25 23 - 1 ≠ srcDebug := by omega
    obtain ⟨xid, hfault⟩ := chargeWait_expired hplot hheld hsource hexpired
    exact ⟨_, congrArg Host.Outcome.next ((if_pos ⟨hrun, hdebug⟩).trans hfault), tileRun_tileFaultXid _ _ _ xid, schErr_tileFaultXid _ _ xid rfl (by decide), held_tileFaultXid _ _ _ xid⟩

end Sys2Proof.Machine
end

section
/-! SUPPORT. The start of a step and the markers of a job (R136 to R139, R147). -/
namespace Sys2Proof.Machine

/-! ### A tile at its step start -/

/-- A tile that runs from bundle 0 in cycle 0 (R136). -/
def AtStepStart (t : Nat) (s : State) : Prop := tileRun s t = tRunning ∧ rd s (.schCycle t) = 0 ∧ rdFld s (.schStatus t) 13 0 = 0

theorem atStepStart_of_rd {s u : State} {t : Nat} (hstatus : rd u (.schStatus t) = rd s (.schStatus t)) (hcycle : rd u (.schCycle t) = rd s (.schCycle t)) (h : AtStepStart t s) :
    AtStepStart t u := by
  rw [AtStepStart, tileRun, rdFld, rdFld, hstatus, hcycle]
  exact h

theorem rd_startTile_status (s : State) (m t : Nat) : rd (startTile s m) (.schStatus t)
    = rd (wrFld (wrFld (setTileRun s m tRunning) (.schStatus m) 28 23 0) (.schStatus m) 13 0 0) (.schStatus t) := rd_wr_ne _ _ nofun

theorem atStepStart_startTile (s : State) (t : Nat) : AtStepStart t (startTile s t) := by
  refine ⟨?_, rd_wr_self _ _ _, ?_⟩
  · rw [tileRun, rdFld, rd_startTile_status]
    change rdFld (wrFld (wrFld (setTileRun s t tRunning) (.schStatus t) 28 23 0) (.schStatus t) 13 0 0) (.schStatus t) 31 29 = tRunning
    rw [rdFld_wrFld_of_disjoint _ _ _ (by decide) (by decide) (by decide), rdFld_wrFld_of_disjoint _ _ _ (by decide) (by decide) (by decide)]
    exact tileRun_setTileRun s t (by decide)
  · rw [rdFld, rd_startTile_status]
    exact rdFld_wrFld_self _ _ _ (by decide) (by decide)

/-- The start of another tile leaves it. -/
theorem atStepStart_startTile_of {s : State} {t : Nat} (m : Nat) (h : AtStepStart t s) : AtStepStart t (startTile s m) := by
  by_cases e : m = t
  · exact e ▸ atStepStart_startTile s m
  · have hstatus : Reg.schStatus m ≠ .schStatus t := fun h => e (Reg.schStatus.inj h)
    have hcycle : Reg.schCycle m ≠ .schCycle t := fun h => e (Reg.schCycle.inj h)
    refine atStepStart_of_rd ?_ ?_ h
    · rw [rd_startTile_status, rd_wrFld, if_neg hstatus, rd_wrFld, if_neg hstatus, setTileRun, rd_wrFld, if_neg hstatus]
    · rw [startTile, rd_wr_ne _ _ hcycle, rd_wrFld, if_neg nofun, rd_wrFld, if_neg nofun, setTileRun, rd_wrFld, if_neg nofun]

/-! ### The plot at its step start -/

/-- A plot in step `n`, with no marker sent or held (R137). -/
def InStep (n : DWord) (q : PlotState) : Prop := q.step = n ∧ q.started = true ∧ q.inStep = true ∧ q.startSent = false ∧ q.startHeld = false

/-- The step state of a plot whose step `n` begins. -/
def beginStep (n : DWord) (q : PlotState) : PlotState :=
  { q with step := n, started := true, inStep := true, startSent := false, startHeld := false, xings := q.xings.map (fun e => (e.1, { e.2 with started := 0 })) }

/-- The tiles that the image of a plot configures. -/
def imageTiles (s : State) (p : Nat) : List Nat := match imageOf s p with | some i => i.tiles.map (fun c => c.tile) | none => []

theorem mem_imageTiles {s : State} {p : Nat} {i : Image} (h : imageOf s p = some i) {c : TileCfg} (hc : c ∈ i.tiles) : c.tile ∈ imageTiles s p := by
  rw [imageTiles, h]
  exact List.mem_map_of_mem hc

/-- The changes of a step boundary: the sums of the step that ended, the tiles' own, the flows moved and the voltages asked for. -/
def boundary (s : State) (p : Nat) : State :=
  let s1 := if (plot s p).started then stepSums s p else s
  forAll requestVolt (moveFlows (forAll (boundaryTile (!(plot s p).started)) s1 (tilesOf s1 p)) p) ((List.range 8).filter (fun d => (tilesOf s p).any (fun t => t / 16 == d)))

/-- The plot with its next step begun, before a hold step asks for a hold. -/
def stepBegun (s : State) (p late : Nat) : State :=
  irqCores (wr (onPlot (forAll startTile (boundary s p) (imageTiles s p)) p (beginStep (nextStep s p))) (.schPlate p)
    (BitVec.ofNat 32 (if inJob s p && !isLeader s p then satNat late 0xFFFFFFFF else 0))) headlandCores 19

/-- A step start is that, and a hold where the hold step of an armed plot has come (R425). -/
theorem startStep_eq (s : State) (p late : Nat) : startStep s p late
    = if rdFld (stepBegun s p late) (.ckpPstat p) 31 28 = 1 ∧ (ckpOf (stepBegun s p late) p).hstep = nextStep s p then holdJob (stepBegun s p late) p else stepBegun s p late := rfl

theorem inStep_stepBegun (s : State) (p late : Nat) : InStep (nextStep s p) (plot (stepBegun s p late) p) := by
  rw [stepBegun, plot, (irqCores_keeps (.refl _) headlandCores 19 (.self _)).plots.eq rfl]
  change InStep _ (plot (onPlot _ p _) p)
  rw [plot_onPlot_self]
  exact ⟨rfl, rfl, rfl, rfl, rfl⟩

/-- Beginning the plot's step writes SCH_PLATE and no other register past the tiles' own. -/
theorem rd_stepBegun (s : State) (p late : Nat) {r : Reg} (h : .schPlate p ≠ r) : rd (stepBegun s p late) r = rd (forAll startTile (boundary s p) (imageTiles s p)) r := by
  rw [stepBegun, (irqCores_keeps (.refl _) headlandCores 19 (.self _)).rd_eq (by cases r <;> rfl), rd_wr_ne _ _ h, onPlot, rd_setPlot_eq]

theorem atStepStart_stepBegun (s : State) (p late : Nat) : ∀ t ∈ imageTiles s p, AtStepStart t (stepBegun s p late) := fun t ht =>
  atStepStart_of_rd (rd_stepBegun s p late nofun) (rd_stepBegun s p late nofun)
    (forAll_each (P := AtStepStart) atStepStart_startTile (fun _ _ m h => atStepStart_startTile_of m h) _ (boundary s p) t ht)

/-- A hold asked for within a step leaves the step as it is. -/
theorem inStep_holdJob {s : State} {p : Nat} {n : DWord} (h : InStep n (plot s p)) : InStep n (plot (holdJob s p) p) := by
  have hin : ¬(plotRun (holdAsked s p) p = pServing ∧ (plot (holdAsked s p) p).inStep = false) := fun ⟨_, hout⟩ => by
    obtain ⟨-, -, hgoes, -, -⟩ := h
    exact Bool.false_ne_true (hout.symm.trans hgoes)
  rw [holdJob, if_neg hin]
  split
  · split
    · rw [plot_onPlot_self]
      exact h
    · exact h
  · exact h

/-- The plot is in its next step, each tile of its image at its step start (R136, R137). -/
theorem startStep_starts (s : State) (p late : Nat) : InStep (nextStep s p) (plot (startStep s p late) p) ∧ ∀ t ∈ imageTiles s p, AtStepStart t (startStep s p late) := by
  rw [startStep_eq]
  split
  · refine ⟨inStep_holdJob (inStep_stepBegun s p late), fun t ht => ?_⟩
    have hkeeps := holdJob_keeps (.refl (stepBegun s p late)) p (.self _)
    exact atStepStart_of_rd (hkeeps.rd_eq rfl) (hkeeps.rd_eq rfl) (atStepStart_stepBegun s p late t ht)
  · exact ⟨inStep_stepBegun s p late, atStepStart_stepBegun s p late⟩

section
variable {s : State} {p : Fin 12}

/-- A step that is ready and due, its groups admitted where it is the first, starts. -/
theorem exec_stepStart {sinceNs markerNs : Nat} (lateNs : Nat) (hready : stepReady s p = true)
    (hdue : if inJob s p = false then (plot s p).started = false ∨ stepNs s p ≤ sinceNs
      else if isLeader s p then (plot s p).startSent = true ∧ markerDly s p ≤ markerNs else (plot s p).startHeld = true)
    (hadmitted : (plot s p).started = false → groupsAdmitted s p = true) : exec (.stepStart p sinceNs markerNs lateNs) s = .next (startStep s p lateNs) := by
  have hgroups : (!(plot s p).started && !groupsAdmitted s p) = false := by
    cases hstarted : (plot s p).started
    · simp [hadmitted hstarted]
    · rfl
  refine congrArg Host.Outcome.next (if_neg ?_)
  cases hjob : inJob s p
  case false =>
    rw [if_pos hjob] at hdue
    rcases hdue with h | h <;> simp_all
  case true =>
    cases hleader : isLeader s p <;> simp_all

/-! ### The leader's markers -/

/-- With nothing owed, the leader sends START (R137). -/
theorem exec_leaderStart_start {sinceNs : Nat} (hjob : inJob s p = true) (hleader : isLeader s p = true) (hready : stepReady s p = true) (hunsent : (plot s p).startSent = false)
    (hdue : (plot s p).started = false ∨ stepNs s p ≤ sinceNs + markerDly s p) (hfault : (plot s p).faultDue = false) (hhold : (plot s p).holdDue = false) :
    exec (.leaderStart p sinceNs) s = .next (emit (onPlot s p (fun q => { q with startSent := true })) (.start (jobOf s p) (nextStep s p) (markerFlow s p))) := by
  rw [show exec (.leaderStart p sinceNs) s = execLeaderStart p sinceNs s from rfl, execLeaderStart]
  rcases hdue with h | h <;> simp_all

/-- A leader that owes a hold or a fault sends STOP in its place, and is HELD (R139, R147). -/
theorem exec_leaderStart_stop {sinceNs : Nat} (hjob : inJob s p = true) (hleader : isLeader s p = true) (hready : stepReady s p = true) (hunsent : (plot s p).startSent = false)
    (hdue : (plot s p).started = false ∨ stepNs s p ≤ sinceNs + markerDly s p) (howed : (plot s p).faultDue = true ∨ (plot s p).holdDue = true) :
    exec (.leaderStart p sinceNs) s = .next (holdPlot (emit (onPlot s p (fun q => { q with stopped := true, holdDue := false, faultDue := false }))
      (.stop (jobOf s p) (nextStep s p) (plot s p).faultDue (markerFlow s p))) p) := by
  rw [show exec (.leaderStart p sinceNs) s = execLeaderStart p sinceNs s from rfl, execLeaderStart]
  rcases hdue with h | h <;> simp_all

/-! ### Markers at a follower -/

/-- A follower that serves, or is HELD and not frozen, takes the START of its next step. -/
theorem exec_markerStart_next {job : DWord} (hfollows : follows s p job = true) (hrun : plotRun s p = pServing ∨ (plotRun s p = pHeld ∧ frozen s p = false)) :
    exec (.markerStartReceived p job (nextStep s p)) s
      = .next (onPlot (if plotRun s p = pHeld then setPlt s p pltServing else s) p (fun q => { q with startHeld := true, stopped := false })) := by
  refine congrArg Host.Outcome.next ((if_neg ?_).trans (if_neg (not_not.2 rfl)))
  rcases hrun with h | h <;> simp [hfollows, h]

/-- The START of another step is a marker fault (R138). -/
theorem exec_markerStart_other {job step : DWord} (hfollows : follows s p job = true) (hrun : plotRun s p = pServing ∨ (plotRun s p = pHeld ∧ frozen s p = false))
    (hother : nextStep s p ≠ step) : exec (.markerStartReceived p job step) s = .next (markerFault s p) := by
  refine congrArg Host.Outcome.next ((if_neg ?_).trans (if_pos hother))
  rcases hrun with h | h <;> simp [hfollows, h]

/-- STOP at a follower that serves (R139). -/
theorem exec_markerStop {job : DWord} (fault : Bool) (hfollows : follows s p job = true) (hrun : plotRun s p = pServing) :
    exec (.markerStopReceived p job fault) s = .next (if (plot s p).inStep then onPlot s p (fun q => { q with stopped := true, startHeld := false })
      else holdPlot (onPlot s p (fun q => { q with stopped := true, startHeld := false })) p) :=
  congrArg Host.Outcome.next (if_neg (by simp [hfollows, hrun]))

/-- No marker in time is a marker fault (R138). -/
theorem exec_markerTimeout {sinceNs : Nat} (hfollows : follows s p (jobOf s p) = true) (hrun : plotRun s p = pServing) (hstarted : (plot s p).started = true)
    (hgoes : (plot s p).stopped = false) (hnone : (plot s p).startHeld = false) (hlate : stepNs s p + wdogNs s p ≤ sinceNs) :
    exec (.markerTimeout p sinceNs) s = .next (markerFault s p) :=
  congrArg Host.Outcome.next (if_pos (by simp [hfollows, hrun, hstarted, hgoes, hnone, hlate]))

/-- A marker fault faults the plot, with its lowest tile in FTILE. -/
theorem schPstat_markerFault {n : Nat} (hfirst : (tilesOf s p).head? = some n) (hplot : plotOf s n = some p.val) (hrun : plotRun s p ≠ pFaulted) :
    plotRun (markerFault s p) p = pFaulted ∧ rdFld (markerFault s p) (.schPstat p) 28 24 = 8 ∧ rdFld (markerFault s p) (.schPstat p) 23 17 = n := by
  have hn : n < 128 := List.mem_range.1 (List.mem_filter.1 (List.mem_of_mem_head? hfirst)).1
  rw [markerFault, hfirst]
  exact schPstat_tileFault hplot hrun rfl (by decide) hn

theorem ne_faulted_of_runs (hrun : plotRun s p = pServing ∨ (plotRun s p = pHeld ∧ frozen s p = false)) : plotRun s p ≠ pFaulted := by
  rcases hrun with h | ⟨h, -⟩ <;> rw [h] <;> decide

end

/-- Settles O21: the step begun on every tile of the image, the leader's START and STOP, and the four ways in which a marker or its absence changes a follower. -/
theorem stepsAndMarkers : Obligations.StepsAndMarkers := by
  unfold Obligations.StepsAndMarkers
  refine ⟨fun p sinceNs markerNs lateNs s hready hdue hadmitted => ?start, fun p sinceNs s hjob hleader hready hunsent hdue => ⟨fun hfault hhold => ?leaderStart, fun howed => ?leaderStop⟩,
    fun p job step s hfollows hnext hrun => ?marker, fun p job step n s hfollows hother hrun hfirst hplot => ?wrong, fun p job fault s hfollows hrun => ?stop,
    fun p sinceNs n s hfollows hrun hstarted hgoes hnone hlate hfirst hplot => ?timeout, fun p s hjob hleader => ?notice⟩
  case start =>
    obtain ⟨⟨hstep, hbegun, hin, hsent, hheld⟩, htiles⟩ := startStep_starts s p lateNs
    exact ⟨_, exec_stepStart lateNs hready hdue hadmitted, hstep, hbegun, hin, hsent, hheld, fun i hi c hc => htiles _ (mem_imageTiles hi hc)⟩
  case leaderStart => exact ⟨_, exec_leaderStart_start hjob hleader hready hunsent hdue hfault hhold, by rw [plot_emit_eq, plot_onPlot_self], rfl⟩
  case leaderStop =>
    refine ⟨_, exec_leaderStart_stop hjob hleader hready hunsent hdue howed, pltState_holdPlot _ p, plotRun_holdPlot _ p, ?_, out_holdPlot _ p⟩
    rw [plot_holdPlot, plot_emit_eq, plot_onPlot_self]
  case marker =>
    subst hnext
    refine ⟨_, exec_markerStart_next hfollows hrun, ?_, ?_, ?_⟩
    · rw [plotRun_onPlot]
      split
      · rw [plotRun_setPlt]
        rfl
      · next hheld => exact hrun.resolve_right fun h => hheld h.1
    · rw [plot_onPlot_self]
    · rw [plot_onPlot_self]
  case wrong => exact ⟨_, exec_markerStart_other hfollows hrun hother, schPstat_markerFault hfirst hplot (ne_faulted_of_runs hrun)⟩
  case stop =>
    refine ⟨_, exec_markerStop fault hfollows hrun, ?_⟩
    split
    · exact ⟨congrArg PlotState.stopped (plot_onPlot_self ..), congrArg PlotState.startHeld (plot_onPlot_self ..), hrun⟩
    · refine ⟨?_, ?_, plotRun_holdPlot _ p⟩
      · rw [plot_holdPlot, plot_onPlot_self]
      · rw [plot_holdPlot, plot_onPlot_self]
  case timeout =>
    obtain ⟨hfaulted, hcause, -⟩ := schPstat_markerFault hfirst hplot (ne_faulted_of_runs (.inl hrun))
    exact ⟨_, exec_markerTimeout hfollows hrun hstarted hgoes hnone hlate, hfaulted, hcause⟩
  case notice => exact ⟨_, congrArg Host.Outcome.next (if_pos (by simp [hjob, hleader])), congrArg PlotState.faultDue (plot_onPlot_self ..)⟩

end Sys2Proof.Machine
end

section
/-! SUPPORT. The crossings of a plot (R126, R130, R131, R187): what each shared operation leaves of a crossing's instances, and what arrives. -/
namespace Sys2Proof.Machine

/-! ### One crossing of one plot -/

theorem plot_onPlot (s : State) (p q : Nat) (f : PlotState → PlotState) : plot (onPlot s p f) q = if p = q then f (plot s p) else plot s q := plot_setPlot s p q _

theorem xing_onXing (s : State) (p x q y : Nat) (f : Xing → Xing) : xing (onXing s p x f) q y = if p = q ∧ x = y then f (xing s p x) else xing s q y := by
  rw [xing, onXing, plot_onPlot]
  by_cases hp : p = q
  · subst hp
    simp only [if_true, true_and, mapGet_mapInsert]
    rfl
  · simp only [hp, false_and, if_false]
    rfl

theorem xing_onXing_self (s : State) (p x : Nat) (f : Xing → Xing) : xing (onXing s p x f) p x = f (xing s p x) := by
  rw [xing_onXing, if_pos ⟨rfl, rfl⟩]

theorem xing_eq_of_plots {s u : State} (h : u.plots = s.plots) (p x : Nat) : xing u p x = xing s p x := by
  rw [xing, plot, h]
  rfl

theorem xdecl_eq_of_plots {s u : State} (h : u.plots = s.plots) (p x : Nat) : xdecl u p x = xdecl s p x := by
  rw [xdecl, imageOf, plot, h]
  rfl

/-- A crossing's own declaration stands while its instances change. -/
theorem xdecl_onXing (s : State) (p x q y : Nat) (f : Xing → Xing) : xdecl (onXing s p x f) q y = xdecl s q y := by
  have himage : (plot (onXing s p x f) q).image = (plot s q).image := by
    rw [onXing, plot_onPlot]
    split
    · next e => rw [e]
    · rfl
  rw [xdecl, imageOf, himage]
  rfl

/-! ### What landing results leave of a crossing -/

/-- A crossing of which only the lines read for its instances differ. -/
structure Lined (p x : Nat) (s u : State) : Prop where
  started : (xing u p x).started = (xing s p x).started
  arrived : (xing u p x).arrived = (xing s p x).arrived
  insts : (xing u p x).flight.map XInst.inst = (xing s p x).flight.map XInst.inst

theorem Lined.of_plots {p x : Nat} {s u v : State} (h : Lined p x s u) (hplots : v.plots = u.plots) : Lined p x s v := by
  obtain ⟨hstarted, harrived, hinsts⟩ := h
  have hxing := xing_eq_of_plots hplots p x
  exact ⟨by rw [hxing, hstarted], by rw [hxing, harrived], by rw [hxing, hinsts]⟩

theorem Lined.refl (p x : Nat) (s : State) : Lined p x s s := ⟨rfl, rfl, rfl⟩

/-- A line read is kept for its SEND; no instances start or arrive by it. -/
theorem Lined.line {p x : Nat} {s u : State} (h : Lined p x s u) (t due q y i a : Nat) : Lined p x s (landOne u t (.line due q y i a)) := by
  obtain ⟨hstarted, harrived, hinsts⟩ := h
  have hread : ∀ l : List XInst, (l.map fun e => if e.inst = i then { e with lines := e.lines ++ [BitVec.ofNat 512 (rdLe u a 64)] } else e).map XInst.inst = l.map XInst.inst := fun l => by
    rw [List.map_map]
    exact List.map_congr_left fun e _ => by
      dsimp only [Function.comp]
      split <;> rfl
  by_cases hone : q = p ∧ y = x
  · obtain ⟨rfl, rfl⟩ := hone
    refine ⟨?_, ?_, ?_⟩ <;> rw [landOne, xing_onXing_self]
    · exact hstarted
    · exact harrived
    · exact (hread _).trans hinsts
  · have hxing : xing (landOne u t (.line due q y i a)) p x = xing u p x := by rw [landOne, xing_onXing, if_neg hone]
    exact ⟨by rw [hxing, hstarted], by rw [hxing, harrived], by rw [hxing, hinsts]⟩

/-- Results other than lines reach no plot. -/
theorem plots_landOne (s : State) (t : Nat) {l : Landing} (h : ∀ due p x i a, l ≠ .line due p x i a) : (landOne s t l).plots = s.plots := by
  cases l with
  | words due dest key vals scales => rfl
  | bytes due a bs => exact (wrBytes_keeps (.refl s) a bs (.self _)).plots.eq rfl
  | load due key a => rfl
  | chunk due key b => rfl
  | tail due a len head put => cases put <;> rfl
  | accum due row add desc vals final =>
    have hsum : ∀ acc sat, (if sat = 0 then onTile s t (fun x => { x with acc := acc })
        else shError (count (onTile s t (fun x => { x with acc := acc })) (.tilAccsat t) sat) t due desc [4]).plots = s.plots := fun acc sat => by
      split
      · rfl
      · exact (shError_keeps (.refl _) t due desc [4] (.self _)).plots.eq rfl
    cases final with
    | none => exact hsum _ _
    | some f => exact ((finalOutput_keeps (.refl _) t desc _ f (.self _)).plots.eq rfl).trans (hsum _ _)
  | choice due writes missing limit =>
    have hwatch : Keeps 0x3e000006005c s (unwatch s t).1 := (unwatch_keeps (.refl s) t rfl).fst
    simp only [landOne]
    split
    · exact (draw_keeps (foldl_keeps hwatch _ _ fun _ _ h => wrBytes_keeps h _ _ rfl) rfl).plots.eq rfl
    · have hwritten : Keeps 0x3e000006005c s (writes.foldl (fun s w => wrBytes s w.1 w.2) (unwatch s t).1) := foldl_keeps hwatch _ _ fun _ _ h => wrBytes_keeps h _ _ rfl
      split
      · exact hwritten.plots.eq rfl
      · exact (shError_keeps (count_keeps hwritten _ _ rfl) t _ 0 [6] rfl).plots.eq rfl
  | line due p x i a => exact absurd rfl (h due p x i a)

theorem Lined.landOne {p x : Nat} {s u : State} (h : Lined p x s u) (t : Nat) (l : Landing) : Lined p x s (landOne u t l) := by
  cases l with
  | line due q y i a => exact h.line t due q y i a
  | _ => exact h.of_plots (plots_landOne u t nofun)

theorem Lined.landUpTo {p x : Nat} {s u : State} (h : Lined p x s u) (fuel t c : Nat) : Lined p x s (landUpTo fuel u t c) :=
  landUpTo_inv (P := Lined p x s) (fun _ _ hv => hv.of_plots rfl) (fun _ l hv => hv.landOne t l) fuel c h

theorem Lined.landAll {p x : Nat} {s u : State} (h : Lined p x s u) (t : Nat) : Lined p x s (landAll u t) := h.landUpTo _ _ _

/-! ### What the fault and the freeze of a plot leave of a crossing -/

/-- A crossing of a plot that lets nothing leave: class-3 instances not yet transmitted are gone (R147, R200). -/
def unsentDropped (s : State) (p x : Nat) (q : Xing) : Xing :=
  match xdecl s p x with
  | some d => if d.cls = 3 ∧ d.dir = 0 then
      { q with flight := q.flight.filter (fun i => i.sent && !((s.rma.ops ++ s.rma.waitOps).filterMap (unsentInst p)).contains (x, i.inst)) }
    else q
  | none => q

theorem arrived_unsentDropped (s : State) (p x : Nat) (q : Xing) : (unsentDropped s p x q).arrived = q.arrived := by
  unfold unsentDropped
  split
  · split <;> rfl
  · rfl

theorem unsentDropped_of_ne_three {s : State} {p x : Nat} {d : XDecl} (hdecl : xdecl s p x = some d) (hcls : d.cls ≠ 3) (q : Xing) : unsentDropped s p x q = q := by
  rw [unsentDropped, hdecl]
  exact if_neg fun h => hcls h.1

theorem mapFind_map {α : Type} (f : Nat → α → α) (m : List (Nat × α)) (i : Nat) : mapFind (m.map fun e => (e.1, f e.1 e.2)) i = (mapFind m i).map (f i) := by
  induction m with
  | nil => rfl
  | cons e rest ih =>
    obtain ⟨k, v⟩ := e
    simp only [List.map_cons, mapFind]
    split
    · next h => rw [h]; rfl
    · exact ih

theorem xing_discardUnsent (s : State) (q p x : Nat) : xing (discardUnsent s q) p x = if q = p then unsentDropped s p x (xing s p x) else xing s p x := by
  have hmap : ∀ xs : List (Nat × Xing), (xs.map fun e => match xdecl s q e.1 with
      | some d => if d.cls = 3 ∧ d.dir = 0 then
          (e.1, { e.2 with flight := e.2.flight.filter (fun i => i.sent && !((s.rma.ops ++ s.rma.waitOps).filterMap (unsentInst q)).contains (e.1, i.inst)) }) else e
      | none => e) = xs.map fun e => (e.1, unsentDropped s q e.1 e.2) := fun xs => List.map_congr_left fun e _ => by
    unfold unsentDropped
    split
    · split <;> rfl
    · rfl
  have hempty : unsentDropped s q x {} = {} := by
    unfold unsentDropped
    split
    · split <;> rfl
    · rfl
  rw [xing, discardUnsent, plot_onPlot]
  split
  · next e =>
    subst e
    refine (congrArg (fun m => mapGet ({} : Xing) m x) (hmap _)).trans ?_
    rw [mapGet, mapFind_map, xing, mapGet]
    change (Option.map _ (mapFind (plot s q).xings x)).getD ({} : Xing) = _
    cases mapFind (plot s q).xings x with
    | none => exact hempty.symm
    | some v => rfl
  · rfl

theorem xing_onPlot {s : State} {f : PlotState → PlotState} (hf : ∀ q, (f q).xings = q.xings) (q p x : Nat) : xing (onPlot s q f) p x = xing s p x := by
  rw [xing, plot_onPlot]
  split
  · next e => rw [hf, e, xing]
  · rfl

theorem xing_tellLeader (s : State) (q p x : Nat) : xing (tellLeader s q) p x = xing s p x := by
  unfold tellLeader
  split_ifs
  · rfl
  · exact (xing_eq_of_plots rfl p x).trans (xing_onPlot (f := fun q => { q with stopped := true }) (fun _ => rfl) q p x)
  · rfl

section
variable {s : State} {p x : Nat} {d : XDecl} (hdecl : xdecl s p x = some d) (hcls : d.cls ≠ 3)
include hdecl hcls

theorem xing_discardUnsent_of_ne_three (q : Nat) : xing (discardUnsent s q) p x = xing s p x := by
  rw [xing_discardUnsent, unsentDropped_of_ne_three hdecl hcls, ite_self]

theorem xing_freezePlot (q object : Nat) (value : Word) (extra : Nat) : xing (freezePlot s q object value extra) p x = xing s p x := by
  have hrecord : ∀ island, (recordEvent s 0x0601 q 3 island object value extra).plots = s.plots := fun island => (recordEvent_keeps (.refl s) _ _ _ _ _ _ _ (.self _)).plots.eq rfl
  unfold freezePlot
  lift_lets
  intro s0 s1 s2
  have hmarked : s1.plots = s.plots := ((irqCores_keeps (.refl _) mgmtCores 17 (.self _)).plots.eq rfl).trans (hrecord _)
  have hkept : xing s2 p x = xing s p x := by
    rw [xing_tellLeader, xing_discardUnsent_of_ne_three ((xdecl_eq_of_plots hmarked p x).trans hdecl) hcls, xing_eq_of_plots hmarked]
  split_ifs
  · exact xing_eq_of_plots (hrecord _) p x
  · exact hkept
  · exact hkept

/-- The check bits of a line leave a crossing whose instances stay with the plot. -/
theorem xing_spEcc (t bank line m : Nat) (e : Ecc) : xing (spEcc s t bank line m e) p x = xing s p x := by
  cases e with
  | clean => rfl
  | corrected => rfl
  | uncorrectable =>
    have hrecord : ∀ u : State, (spRecord u t bank line m).plots = u.plots := fun u => (spRecord_keeps (.refl u) _ _ _ _ (.self _)).plots.eq rfl
    unfold spEcc
    lift_lets
    intro s1 s2
    have hread : s2.plots = s.plots := hrecord _
    dsimp only
    split
    · rw [xing_eq_of_plots ((ckpLost_keeps (.refl _) _ _ (.self _)).plots.eq rfl), xing_freezePlot ((xdecl_eq_of_plots hread p x).trans hdecl) hcls, xing_eq_of_plots hread]
    · exact xing_eq_of_plots hread p x

end

theorem held_spEcc (s : State) (t bank line m : Nat) (e : Ecc) (n : Nat) : (tile (spEcc s t bank line m e) n).held = (tile s n).held := by
  cases e with
  | clean => rfl
  | corrected => rfl
  | uncorrectable =>
    have hrecord : ∀ u : State, tile (spRecord u t bank line m) n = tile u n := fun u => (spRecord_keeps (.refl u) _ _ _ _ (.self _)).tile_eq rfl n
    unfold spEcc
    lift_lets
    intro s1 s2
    have hread : (tile s2 n).held = (tile s n).held :=
      (held_onTile s1 t n (f := fun x => { x with badLines := (bank * 16384 + line) :: x.badLines }) fun _ => rfl).trans (congrArg TileState.held (hrecord _))
    dsimp only
    split
    · rw [(ckpLost_keeps (.refl _) _ _ (.self _)).tile_eq rfl, (freezePlot_keeps (.refl _) _ _ _ _ (.self _)).tile_eq rfl, hread]
    · exact hread

theorem lined_othersStopped (s : State) (q ft p x : Nat) : Lined p x s (othersStopped s q ft) := by
  refine forAll_inv (P := Lined p x s) (fun u t hu => ?_) _ s (.refl p x s)
  split
  · exact hu
  · exact (hu.of_plots (v := setTileRun (schError u t 7 0) t tFaulted) ((schError_keeps (.refl u) t 7 0 (.self _)).plots.eq rfl)).landAll t

/-- Past what the leader is told, the event recorder, a save and the host's signals leave the plots. -/
theorem plots_plotFault {s : State} {q : Nat} (hrun : plotRun s q ≠ pFaulted) (cause ft : Nat) :
    (plotFault s q cause ft).plots = (tellLeader (discardUnsent (plotMarked s q cause ft) q) q).plots := by
  have hsignalled : ∀ (u : State) (island : Nat) (v : Word), Keeps 0x100000000000000000000000000300000000000000000000000000cf00 u
      (signalFn (signalFn (irqCores (snapshotTiles (recordEvent u 0x0502 q 2 island q v 0) (tilesOf s q)) mgmtCores 17) 0 3) (q + 1) 3) := fun u island v =>
    signalFn_keeps (signalFn_keeps (irqCores_keeps (snapshotTiles_keeps (recordEvent_keeps (.refl u) _ _ _ _ _ _ _ rfl) _ rfl) _ _ rfl) _ _ rfl) _ _ rfl
  rw [plotFault, if_neg hrun]
  exact (hsignalled _ _ _).plots.eq rfl

/-- A fault of a plot lets no instances arrive. -/
theorem arrived_plotFault (s : State) (q cause ft p x : Nat) : (xing (plotFault s q cause ft) p x).arrived = (xing s p x).arrived := by
  by_cases hrun : plotRun s q = pFaulted
  · rw [plotFault_of_faulted hrun]
  · have hmarked : (xing (plotMarked s q cause ft) p x).arrived = (xing s p x).arrived :=
      (congrArg Xing.arrived (xing_eq_of_plots rfl p x)).trans (lined_othersStopped s q ft p x).arrived
    rw [xing_eq_of_plots (plots_plotFault hrun cause ft), xing_tellLeader, xing_discardUnsent, ← hmarked]
    split
    · exact arrived_unsentDropped _ _ _ _
    · rfl

theorem arrived_tileFaultXid (s : State) (t : Nat) (v : Viol) (xid p x : Nat) : (xing (tileFaultXid s t v xid) p x).arrived = (xing s p x).arrived := by
  have hstopped : (xing (tileStopped s t v xid) p x).arrived = (xing s p x).arrived :=
    ((Lined.refl p x _).landAll t).arrived.trans (congrArg Xing.arrived (xing_eq_of_plots ((violated_keeps s t v xid).plots.eq rfl) p x))
  rw [tileFaultXid_eq]
  split
  · exact (arrived_plotFault _ _ _ _ p x).trans hstopped
  · exact hstopped

/-! ### Instances that reach their receiver -/

theorem wakeTile_of_not_held {s : State} {t : Nat} (h : (tile s t).held = []) (waited : Nat) : wakeTile s t waited = s := by
  rw [wakeTile, h]
  exact if_neg (by simp)

theorem xing_checkLatency (s : State) (d : XDecl) (t ns p x : Nat) : xing (checkLatency s d t ns) p x = xing s p x :=
  xing_eq_of_plots ((checkLatency_keeps (.refl s) d t ns (.self _)).plots.eq rfl) p x

theorem held_checkLatency (s : State) (d : XDecl) (t ns : Nat) : (tile (checkLatency s d t ns) t).held = (tile s t).held := by
  unfold checkLatency
  split
  · rw [tile_slackOverrun]
  · rfl

/-- What a receiver finds once the bytes are in its buffer, before the latency check. -/
def bufferFilled (s : State) (p : Nat) (d : XDecl) (i : XInst) (bs : List Byte) (ecc : Ecc) : State :=
  onXing (spEcc (wrBytes (dropFlight s p d.xid i) (bufferAddr d i.inst) bs) d.dst 2 d.dstLine 2 ecc) p d.xid (fun q => { q with arrived := q.arrived ++ [i.inst] })

theorem held_bufferFilled (s : State) (p : Nat) (d : XDecl) (i : XInst) (bs : List Byte) (ecc : Ecc) (n : Nat) : (tile (bufferFilled s p d i bs ecc) n).held = (tile s n).held :=
  (held_spEcc _ d.dst 2 d.dstLine 2 ecc n).trans rfl

theorem xing_bufferFilled {s : State} {p : Nat} {d : XDecl} (hdecl : xdecl s p d.xid = some d) (hcls : d.cls ≠ 3) (i : XInst) (bs : List Byte) (ecc : Ecc) :
    xing (bufferFilled s p d i bs ecc) p d.xid = { xing s p d.xid with flight := (xing s p d.xid).flight.erase i, arrived := (xing s p d.xid).arrived ++ [i.inst] } := by
  have hwritten : (wrBytes (dropFlight s p d.xid i) (bufferAddr d i.inst) bs).plots = (dropFlight s p d.xid i).plots := (wrBytes_keeps (.refl _) _ _ (.self _)).plots.eq rfl
  rw [bufferFilled, xing_onXing_self, xing_spEcc ((xdecl_eq_of_plots hwritten p d.xid).trans ((xdecl_onXing ..).trans hdecl)) hcls, xing_eq_of_plots hwritten, dropFlight, xing_onXing_self]

/-- Where the buffer may be written and the receiver holds no bundle, the bytes arrive (R131). -/
theorem landInstance_arrives {s : State} {d : XDecl} {i : XInst} (hgranted : bufferRefused s d i.inst = none) (hheld : (tile s d.dst).held = []) (p : Nat) (bs : List Byte)
    (ns waited : Nat) (ecc : Ecc) :
    landInstance s p d i bs (some ns) waited ecc = checkLatency (bufferFilled s p d i bs ecc) d d.dst ns := by
  rw [landInstance, hgranted]
  exact wakeTile_of_not_held ((held_checkLatency _ d d.dst ns).trans ((held_bufferFilled s p d i bs ecc d.dst).trans hheld)) waited

/-- A buffer that may not be written faults the receiver (R187). -/
theorem landInstance_refused {s : State} {d : XDecl} {i : XInst} {l : Nat} (h : bufferRefused s d i.inst = some l) (p : Nat) (bs : List Byte) (ns : Option Nat) (waited : Nat) (ecc : Ecc) :
    landInstance s p d i bs ns waited ecc = tileFaultXid (dropFlight s p d.xid i) d.dst { sch := [2], refused := [(2, l, 2)] } 0 := by
  rw [landInstance, h]
  rfl

theorem exec_crossingReady {p : Fin 12} {xid : BitVec 12} {d : XDecl} {i : XInst} {s : State} (hdecl : xdecl s p xid.toNat = some d) (hcls : d.cls = 0)
    (hnext : (xing s p xid.toNat).flight.find? (fun i => !i.sent && (d.cls == 2 || i.lines.length == d.lines)) = some i) (ns waited : Nat) (ecc : Ecc) :
    exec (.crossingReady p xid ns waited ecc) s = .next (landInstance s p d i (lineBytes i.lines) (some ns) waited ecc) := by
  rw [show exec (.crossingReady p xid ns waited ecc) s = execCrossingReady p xid ns waited ecc s from rfl, execCrossingReady]
  simp only [hdecl, hnext, if_pos hcls]

/-! ### Instances that start and buffers that are freed -/

/-- What starts is the newest in flight, numbered in the order of starts (R126). -/
theorem xing_startInst (s : State) (p x : Nat) (lines : List (BitVec 512)) : xing (startInst s p x lines) p x = { xing s p x with
    started := (xing s p x).started + 1, flight := (xing s p x).flight ++ [{ inst := (xing s p x).started, lines := lines, step := (plot s p).step }] } := xing_onXing_self _ _ _ _

/-- A tile's operation on a crossing is one on its plot's. -/
theorem onXingOf_eq {s : State} {t p : Nat} (h : plotOf s t = some p) (x : Nat) (f : Xing → Xing) : onXingOf s t x f = onXing s p x f := by
  rw [onXingOf, h]

section
variable {sl : Slot} {xid : BitVec 12} {s : State} {p : Nat} (hplot : plotOf s sl.tile = some p)
include hplot

theorem issue_opLread : (opLread sl xid).issue s = startInst s p xid.toNat [] := by
  simp only [opLread, hplot]

/-- WAIT moves the oldest of those arrived to those consumed. -/
theorem xing_opXngWait {k : Nat} {rest : List Nat} (harrived : (xing s p xid.toNat).arrived = k :: rest) : xing ((opXngWait sl xid).issue s) p xid.toNat
    = { xing s p xid.toNat with arrived := rest, consumed := (xing s p xid.toNat).consumed ++ [k] } := by
  simp only [opXngWait, onXingOf_eq hplot, xing_onXing_self, harrived]

theorem xing_opFree : xing ((opFree sl xid).issue s) p xid.toNat = { xing s p xid.toNat with consumed := (xing s p xid.toNat).consumed.drop 1 } := by
  simp only [opFree, onXingOf_eq hplot, xing_onXing_self]

variable {d : XDecl} (hdecl : xdecl s p xid.toNat = some d)
include hdecl

/-- A SEND that may not leave counts as started and goes nowhere. -/
theorem issue_opSend_discarded (h : d.cls = 3 ∧ nothingLeaves (spEcc s sl.tile 2 d.srcLine 2 sl.ecc) p = true) :
    (opSend sl xid).issue s = onXing (spEcc s sl.tile 2 d.srcLine 2 sl.ecc) p xid.toNat (fun q => { q with started := q.started + 1 }) := by
  simp only [opSend, xdeclOf, hplot, hdecl]
  exact if_pos h

/-- A SEND that leaves is in flight, its lines read as the cycles come. -/
theorem lined_opSend (h : ¬(d.cls = 3 ∧ nothingLeaves (spEcc s sl.tile 2 d.srcLine 2 sl.ecc) p = true)) :
    Lined p xid.toNat (startInst (spEcc s sl.tile 2 d.srcLine 2 sl.ecc) p xid.toNat []) ((opSend sl xid).issue s) := by
  simp only [opSend, xdeclOf, hplot, hdecl]
  rw [if_neg h]
  refine Lined.landUpTo (forAll_inv (P := Lined p xid.toNat (startInst (spEcc s sl.tile 2 d.srcLine 2 sl.ecc) p xid.toNat [])) ?_ _ _ (.refl _ _ _)) _ _ _
  exact fun u k hu => hu.of_plots rfl

end

/-- Settles O19: a crossing's own list of instances after each operation on it; an arrival reads them off the receive buffer's write, and a refused write leaves what has arrived. -/
theorem crossingOperations : Obligations.CrossingOperations := by
  unfold Obligations.CrossingOperations
  refine ⟨fun sl xid p d before after s => ?send, fun sl xid p before after s => ?lread, fun sl xid p k rest before after s => ?wait, fun sl xid p before after s => ?free,
    fun p xid ns waited ecc d i s hdecl hxid hcls hnext => ⟨fun hgranted hheld => ?arrives, fun l hrefused => ?refused⟩⟩
  case send =>
    intro i u0 u hplot hdecl hmay
    refine issues_of_mayIssue hmay rfl ?_
    rw [show slotOp i = opSend sl xid from rfl]
    by_cases hstays : d.cls = 3 ∧ nothingLeaves u p = true
    · rw [issue_opSend_discarded hplot hdecl hstays, xing_onXing_self]
      exact ⟨rfl, fun _ => rfl, fun hleaves => absurd hstays hleaves⟩
    · obtain ⟨hstarted, -, hinsts⟩ := lined_opSend hplot hdecl hstays
      rw [xing_startInst] at hstarted hinsts
      exact ⟨hstarted, fun h => absurd h hstays, fun _ => hinsts.trans List.map_append⟩
  case lread =>
    intro i u hplot hmay
    refine issues_of_mayIssue hmay rfl ?_
    rw [show slotOp i = opLread sl xid from rfl, issue_opLread hplot, xing_startInst]
    exact ⟨rfl, rfl⟩
  case wait =>
    intro i u hplot harrived hmay
    refine issues_of_mayIssue hmay rfl ?_
    rw [show slotOp i = opXngWait sl xid from rfl, xing_opXngWait hplot harrived]
    exact ⟨rfl, rfl⟩
  case free =>
    intro i u hplot hmay
    exact issues_of_mayIssue hmay rfl (congrArg Xing.consumed (xing_opFree hplot))
  case arrives =>
    refine ⟨_, exec_crossingReady hdecl hcls hnext ns waited ecc, ?_⟩
    rw [← hxid] at hdecl ⊢
    rw [landInstance_arrives hgranted hheld, xing_checkLatency, xing_bufferFilled hdecl (by omega)]
    exact ⟨rfl, rfl⟩
  case refused =>
    refine ⟨_, exec_crossingReady hdecl hcls hnext ns waited ecc, ?_⟩
    rw [landInstance_refused hrefused, hxid]
    refine ⟨tileRun_tileFaultXid _ _ _ 0, schErr_tileFaultXid _ _ 0 rfl (by decide), (arrived_tileFaultXid _ _ _ 0 p xid.toNat).trans ?_⟩
    rw [dropFlight, xing_onXing_self]

end Sys2Proof.Machine
end

section
/-! SUPPORT. O55 fails: the loss notice of a harrow runs the operations that its feeds held. -/
namespace Sys2Proof.Machine

/-- A feed of plot 1 whose sender is tile 0. -/
def strayFeed : XDecl := ⟨0, 1, 1, 0, false, 0, 0, 0, 0, 0, 0, 0, 0x50, 0⟩

/-- An image that declares nothing but that feed. -/
def strayImage : Image := {
  format := 0, compiler := 0, layoutClass := 0, size := 0, flags := 0, digest := [], modelId := 0, job := 0, plotIndex := 0, jobPlots := 0, stepNs := 0, wdogNs := 0, markerDly := 0,
  ntiles := 0, altTile := 0, lpxGbps := 0, tiles := [], arrtab := [], xdecl := [strayFeed], power := [], fallow := [], flow := [], alts := [] }

/-- Plot 0 at the end of its harrow holds tile 0, on which a LOOP 0 waits; a SEND on plot 1's feed from that tile is in flight. -/
def strayed : State := {
  regs := [(.pltTiles 0 0, 1)]
  tiles := [(0, { held := [.loop ⟨0, 0, 0, .clean⟩ 0] })]
  plots := [(0, { abort := .idle, harrow := true }), (1, { image := some strayImage, xings := [(0, { flight := [⟨0, [], 0, true⟩] })] })]
  host := { vfEnable := true, numVfs := 1 } }

set_option maxRecDepth 20000 in
/-- No block of plot 0 is busy. -/
theorem strayed_idle : (busyBlocks strayed 0).isEmpty = true := by decide +kernel

set_option maxRecDepth 20000 in
/-- Its scrub starts with the loss notice to VF 1, which frees the feed's sender: the LOOP 0 issues, and plot 0 is FAULTED. -/
theorem strayed_faults : pltState (finishAbort strayed 0) 0 = pltFaulted := by decide +kernel

/-- Refutes O55: at the end of a harrow that waited for its blocks, the plot need not be SCRUBBING. The start of the
harrow sends the loss notice of its VF, which frees the buffers of every feed with no write left to send, whichever plot's it is; the release retries the bundle that a feed's sender holds, and
when that tile is one of the plot's own and its bundle breaks a rule, the fault of the tile makes the plot FAULTED after SCRUBBING was written.
Nothing in the statement keeps the plot's own tiles from holding a bundle at this point. -/
theorem not_plotLifecycle : ¬ Obligations.PlotLifecycle := by
  rintro ⟨-, -, -, -, hblocks, -⟩
  obtain ⟨t, hstep, hscrubs⟩ := (hblocks 0 strayed).2.1 rfl rfl strayed_idle
  have hexec : exec (.abortBlocksIdle 0) strayed = .next (finishAbort strayed 0) := congrArg Host.Outcome.next (if_pos ⟨rfl, strayed_idle⟩)
  have heq : finishAbort strayed 0 = t := Host.Outcome.next.inj (hexec.symm.trans hstep)
  rw [← heq] at hscrubs
  exact absurd (strayed_faults.symm.trans hscrubs) (by decide)

end Sys2Proof.Machine
end

section
/-! SUPPORT. Which islands are in reset (R410 to R413): what a reset of an island adds to RST_INRST, and that what it loses leaves RST_INRST alone. -/
set_option Elab.async false
namespace Sys2Proof.Machine

/-- An operation without RST_INRST in its footprint leaves every island in or out of reset. -/
theorem Keeps.inReset_eq {F : Nat} {s t : State} (h : Keeps F s t) (hF : F.testBit 213 = false) (i : Nat) : inReset t i = inReset s i :=
  congrArg (bit · (i % 32)) (h.rd_eq (r := .rstInrst (i / 32)) hF)

/-- The bit of island i in RST_INRST is that of no other island. -/
theorem inReset_wrBit (s : State) (i j : Nat) : inReset (wrBit s (.rstInrst (i / 32)) (i % 32) true) j = (decide (i = j) || inReset s j) := by
  have hbit : i % 32 < 32 := Nat.mod_lt _ (by decide)
  rw [inReset, rd_wrBit]
  by_cases hreg : i / 32 = j / 32
  · rw [if_pos (congrArg Reg.rstInrst hreg), bit_setBit _ _ _ _ hbit, hreg]
    by_cases hi : i % 32 = j % 32
    · rw [if_pos hi, decide_eq_true (show i = j by omega), Bool.true_or]
    · rw [if_neg hi, decide_eq_false (show i ≠ j by omega), Bool.false_or, inReset]
  · rw [if_neg (fun h => hreg (Reg.rstInrst.inj h)), decide_eq_false (show i ≠ j by omega), Bool.false_or, inReset]

/-- Island i is marked as in reset and its clock as not ready, and a load of its records that was under way is counted. -/
def resetMarked (s : State) (i : Nat) : State :=
  wrBit (wrBit (if s.power.loading.contains i then count s .rstIldcnt 1 else s) (.rstInrst (i / 32)) (i % 32) true) (.clkRdy (i / 32)) (i % 32) false

theorem inReset_resetMarked (s : State) (i j : Nat) : inReset (resetMarked s i) j = (decide (i = j) || inReset s j) := by
  have hcounted : Keeps (1 <<< 210) s (if s.power.loading.contains i then count s .rstIldcnt 1 else s) := .ite (count_keeps (.refl s) _ 1 rfl) (.refl s)
  rw [← hcounted.inReset_eq rfl j, ← inReset_wrBit]
  exact (wrBit_keeps (F := 1 <<< 93) (.refl _) (.clkRdy (i / 32)) (i % 32) false rfl).inReset_eq rfl j

/-- The footprint of what an island loses in a reset: that of the reset without RST_INRST and RST_ILDCNT. -/
def islandFootprint : Nat := 0x107f800202bfffffffffffffffffca9ffe240827ffffffffffff7fefdc

/-- An LPDDR5X controller has lost its training. -/
def untrained (s : State) (k : Nat) : State := { s with ram := { s.ram with trained := mapErase s.ram.trained k } }

theorem untrained_keeps {s0 s : State} (h : Keeps islandFootprint s0 s) (k : Nat) : Keeps islandFootprint s0 (untrained s k) :=
  have hF : Within islandFootprint islandFootprint := .self _
  .mk_ h rfl rfl id id

/-- What an island loses once it is marked lies outside RST_INRST. -/
theorem resetIsland_keeps_marked (cold load : Bool) (s : State) (i : Nat) : Keeps islandFootprint (resetMarked s i) (resetIsland cold load s i) := by
  have h : ∀ p, Keeps islandFootprint (resetMarked s i) { resetMarked s i with power := p } := fun p => onPower_keeps (.refl _) (fun _ => p) rfl
  refine .ite (resetCores_keeps (h _) _ rfl) <| .ite (resetSecurity_keeps (h _) rfl) <| .ite (resetMgmt_keeps (h _) rfl) <| .ite (resetFabric_keeps (h _) rfl) <|
    .ite (resetPacket_keeps (resetCores_keeps (h _) _ rfl) rfl) <| .ite (resetPcie_keeps (h _) rfl) <| .ite (resetPort_keeps (h _) _ rfl) <| .ite ?lpddr <|
    .ite (startFreq_keeps (resetTile_keeps (h _) cold _ rfl) _ rfl) (h _)
  exact wrBit_keeps (wrBit_keeps (wrBit_keeps (lpxLost_keeps (untrained_keeps (h _) (i - 24)) rfl) _ _ _ rfl) _ _ _ rfl) _ _ _ rfl

/-- A reset of an island adds that island to those in reset. -/
theorem inReset_resetIsland (cold load : Bool) (s : State) (i j : Nat) : inReset (resetIsland cold load s i) j = (decide (i = j) || inReset s j) := by
  rw [(resetIsland_keeps_marked cold load s i).inReset_eq rfl, inReset_resetMarked]

/-- Each island of a list is in reset once all of them have been reset. -/
theorem inReset_forAll_resetIsland (cold load : Bool) (l : List Nat) (s : State) : ∀ i ∈ l, inReset (forAll (resetIsland cold load) s l) i = true :=
  forAll_each (P := fun i s => inReset s i = true) (fun s i => by rw [inReset_resetIsland, decide_eq_true rfl, Bool.true_or])
    (fun s i j h => by rw [inReset_resetIsland, h, Bool.or_true]) l s

end Sys2Proof.Machine
end

section
/-! SUPPORT. Supply sag and the resets of supplies (R165, R169 to R173, Table RST-5). -/
set_option Elab.async false
namespace Sys2Proof.Machine

/-! ### Warnings and halved dies (R165, R170, R171) -/

theorem Keeps.halved_eq {F : Nat} {s t : State} (h : Keeps F s t) (hF : F.testBit 87 = false) (d : Nat) : halved t d = halved s d :=
  congrArg (bit · (8 + d)) (h.rd_eq (r := .pwrTemp) hF)

theorem halved_wrBit (s : State) (d : Fin 8) (b : Bool) : halved (wrBit s .pwrTemp (8 + d) b) d = b := bit_wrBit_self s _ b (by omega)

/-- A warning of a rail is in force, logged and counted. -/
def warned (s : State) (rail : Nat) : State := count (wrBit (wrBit s .pwrStatus rail true) .pwrWarnlog rail true) .pwrWarncnt 1

theorem warned_shows (s : State) {rail : Nat} (h : rail < 32) : rd (warned s rail) .pwrWarncnt = satAdd (rd s .pwrWarncnt) 1
    ∧ bit (rd (warned s rail) .pwrStatus) rail = true ∧ bit (rd (warned s rail) .pwrWarnlog) rail = true := by
  refine ⟨?_, ?_, ?_⟩
  · rw [warned, rd_count, if_pos rfl, rd_wrBit, if_neg (by nofun), rd_wrBit, if_neg (by nofun)]
  · rw [warned, rd_count, if_neg (by nofun), rd_wrBit, if_neg (by nofun), bit_wrBit_self _ _ _ h]
  · rw [warned, rd_count, if_neg (by nofun), bit_wrBit_self _ _ _ h]

/-- The warning is recorded, and the headland cores and the PF are told. -/
def warningTold (s : State) (rail : Nat) : State :=
  signalFn (irqCores (recordEvent s 0x0101 moduleEvent 1 islHeadland rail (rd s .pwrStatus) 0) headlandCores 14) 0 4

/-- The running tiles of a die stall under SUPPLY. -/
def supplyStalled (s : State) (d ns : Nat) : State :=
  forAll (fun s t => if tileRun s t = tRunning then chargeStall s t srcSupply (ns * (tile s t).freq / 1000) else s) s (dieTiles d)

/-- The governor has halved a die, and its tiles have their halved budgets. -/
def dieHalved (s : State) (d : Nat) : State :=
  if halved s d then s else forAll (fun s t => if budgetWritten s t then writeBudget s t else s) (wrBit s .pwrTemp (8 + d) true) (dieTiles d)

/-- What a warning does to the die that its rail feeds, if any. -/
def dieWarning (s : State) (ns : Nat) : Option Nat → State
  | none => s
  | some d => dieHalved (supplyStalled s d ns) d

theorem exec_supplyWarning {rail : Fin 24} (h : isRail rail = true) (ns : Nat) (s : State) :
    exec (.supplyWarning rail ns) s = .next (dieWarning (warningTold (warned s rail) rail) ns (railDie rail)) := by
  simp only [exec, execSupplyWarning, h, Bool.not_true, Bool.false_eq_true, if_false]
  cases railDie rail <;> rfl

/-- What is told of a warning, and what it does to a die. -/
def warningFootprint : Nat := 0x1000000000000000000000000000000000008000060000000204000f40

/-- The tiles of a die take their halved budgets. -/
theorem halvedBudgets_keeps {F : Nat} {s0 s : State} (h : Keeps F s0 s) (l : List Nat) (hF : Within 0x4000040 F) :
    Keeps F s0 (forAll (fun s t => if budgetWritten s t then writeBudget s t else s) s l) :=
  forAll_keeps h _ l fun _ t h => .ite (writeBudget_keeps h t hF) h

theorem dieHalved_keeps {s0 s : State} (h : Keeps warningFootprint s0 s) (d : Nat) : Keeps warningFootprint s0 (dieHalved s d) :=
  .ite h (halvedBudgets_keeps (wrBit_keeps h _ _ _ rfl) _ rfl)

theorem dieWarning_keeps (s : State) (rail ns : Nat) (o : Option Nat) : Keeps warningFootprint s (dieWarning (warningTold s rail) ns o) := by
  have htold : Keeps warningFootprint s (warningTold s rail) := signalFn_keeps (irqCores_keeps (recordEvent_keeps (.refl s) _ _ _ _ _ _ _ rfl) _ _ rfl) _ _ rfl
  cases o with
  | none => exact htold
  | some d => exact dieHalved_keeps (forAll_keeps htold _ _ fun _ t h => .ite (chargeStall_keeps h t _ _ rfl) h) d

theorem halved_dieHalved (s : State) (d : Fin 8) : halved (dieHalved s d) d = true := by
  by_cases h : halved s d = true
  · rw [dieHalved, if_pos h, h]
  · rw [dieHalved, if_neg h, (halvedBudgets_keeps (.refl _) _ (.self _)).halved_eq rfl, halved_wrBit]

theorem lt_of_railDie {r d : Nat} (h : railDie r = some d) : d < 8 := by
  rw [railDie, Option.ite_none_right_eq_some] at h
  obtain ⟨-, ⟨⟩⟩ := h
  exact Nat.mod_lt _ (by decide)

/-- The die that a rail feeds is halved after its warning. -/
theorem halved_dieWarning (s : State) (ns : Nat) {r d : Nat} (h : railDie r = some d) : halved (dieWarning s ns (railDie r)) d = true := by
  rw [h, dieWarning]
  exact halved_dieHalved _ ⟨d, lt_of_railDie h⟩

theorem exec_railWarningEnd {rail : Fin 24} (h : isRail rail = true) (s : State) : exec (.railWarningEnd rail) s
    = .next (wrBit { s with power := { s.power with railReset := s.power.railReset.filter (· ≠ rail.val) } } .pwrStatus rail false) := by
  simp only [exec, execRailWarningEnd, h, if_true]

theorem exec_halvingEnd {s : State} {d : Fin 8} (h : halved s d = true) :
    exec (.halvingEnd d) s = .next (forAll changeBudget (wrBit s .pwrTemp (8 + d) false) (dieTiles d)) := by
  simp only [exec, execHalvingEnd, h, if_true]

/-- The tiles of a die take their changed budgets. -/
theorem budgetsChanged_keeps {F : Nat} {s0 s : State} (h : Keeps F s0 s) (l : List Nat) (hF : Within 0x4000040 F) : Keeps F s0 (forAll changeBudget s l) :=
  forAll_keeps h _ l fun _ t h => changeBudget_keeps h t hF

/-! ### Lost retention (R173) -/

/-- Tile t has lost what its slots hold. -/
def retentionLost (s : State) (t : Nat) : State :=
  arrError (onTile (forAll (fun s g => wr s (.arrValid t g) 0) s (List.range 32)) t
    (fun x => { x with cells := [], lost := some s.fresh, mvms := x.mvms.map (fun m => if m.done then m else { m with void := true }) })) t 0 0 [8]

/-- RET_LOSS is set on tile t, and no slot of it is valid. -/
def RetentionGone (t : Nat) (s : State) : Prop := bit (rd s (.arrErr t)) 8 = true ∧ ∀ g < 32, rd s (.arrValid t g) = 0

/-- An error changes no register but the tile's ARR_ERR and ARR_ERRINFO. -/
theorem rd_arrError_ne (s : State) (t g sl b : Nat) {q : Reg} (herr : .arrErr t ≠ q) (hinfo : .arrErrinfo t ≠ q) : rd (arrError s t g sl [b]) q = rd s q := by
  have hbit : rd (wrBit s (.arrErr t) b true) q = rd s q := rd_wr_ne _ _ herr
  rw [arrError, if_neg (by simp)]
  dsimp only [forAll]
  split
  · exact hbit
  · rw [rd_wr_ne _ _ hinfo, hbit]

theorem retentionGone_retentionLost (s : State) (t : Nat) : RetentionGone t (retentionLost s t) := by
  refine ⟨bit_arrError _ t 0 0 (by decide), fun g hg => ?_⟩
  rw [retentionLost, rd_arrError_ne _ _ _ _ _ (by nofun) (by nofun), rd_onTile]
  refine forAll_each (P := fun g s => rd s (.arrValid t g) = 0) (fun s g => rd_wr_self s _ _) (fun s g k h => ?_) _ s g (List.mem_range.2 hg)
  rw [rd_wr]
  split
  · rfl
  · exact h

/-- The loss of another tile changes neither register of tile t. -/
theorem RetentionGone.retentionLost {s : State} {t m : Nat} (h : RetentionGone t s) : RetentionGone t (retentionLost s m) := by
  by_cases hm : m = t
  · subst hm
    exact retentionGone_retentionLost s m
  · have hclears : ∀ q, (∀ g, Reg.arrValid m g ≠ q) → rd (forAll (fun s g => wr s (.arrValid m g) 0) s (List.range 32)) q = rd s q := fun q hq =>
      forAll_inv (P := fun u => rd u q = rd s q) (fun u g hu => (rd_wr_ne u _ (hq g)).trans hu) _ s rfl
    have hother : ∀ q, .arrErr m ≠ q → .arrErrinfo m ≠ q → (∀ g, Reg.arrValid m g ≠ q) → rd (Machine.retentionLost s m) q = rd s q := fun q herr hinfo hvalid => by
      rw [Machine.retentionLost, rd_arrError_ne _ _ _ _ _ herr hinfo, rd_onTile, hclears q hvalid]
    obtain ⟨herr, hvalid⟩ := h
    rw [RetentionGone, hother (.arrErr t) (fun e => hm (Reg.arrErr.inj e)) (by nofun) (by nofun)]
    exact ⟨herr, fun g hg => (hother _ (by nofun) (by nofun) (fun _ e => hm (Reg.arrValid.inj e).1)).trans (hvalid g hg)⟩

/-- Every tile of the die has lost its retention, and one event names the die. -/
theorem exec_retentionLoss (d : Fin 8) (s : State) : ∃ v, exec (.retentionLoss d) s
    = .next (recordEvent (draw (forAll retentionLost s (dieTiles d))) 0x0401 moduleEvent 3 islHeadland d v 0) := ⟨_, rfl⟩

theorem gives_retentionLoss (d : Fin 8) (s : State) : Gives s (.retentionLoss d) fun t => ∀ n ∈ dieTiles d, RetentionGone n t := by
  obtain ⟨v, hexec⟩ := exec_retentionLoss d s
  refine ⟨_, hexec, fun n hn => ?_⟩
  obtain ⟨herr, hvalid⟩ := forAll_each (P := RetentionGone) retentionGone_retentionLost (fun _ _ _ h => h.retentionLost) (dieTiles d) s n hn
  exact ⟨(congrArg (bit · 8) (rd_recordEvent _ _ _ _ _ _ _ _ (by nofun))).trans herr, fun g hg => (rd_recordEvent _ _ _ _ _ _ _ _ (by nofun)).trans (hvalid g hg)⟩

/-! ### Supply resets (R172, R173, R413) -/

/-- The supply reset of a rail is logged, its cause set, and the headland cores are told. -/
def supplyLogged (s : State) (r : Nat) : State :=
  let s0 := wrBit (onPower s (fun w => { w with railReset := addPage w.railReset r })) .pwrRstlog r true
  irqCores (recordEvent (wrBit s0 .rstCause 1 true) 0x0102 moduleEvent 3 islHeadland r (rd s0 .pwrRstlog) 0) headlandCores 14

theorem supplyLogged_shows (s : State) {r : Nat} (h : r < 32) : bit (rd (supplyLogged s r) .pwrRstlog) r = true ∧ bit (rd (supplyLogged s r) .rstCause) 1 = true := by
  have htold : ∀ u v, Keeps 0x1000000000000000000000000000000000000000000000000000000900 u
      (irqCores (recordEvent u 0x0102 moduleEvent 3 islHeadland r v 0) headlandCores 14) := fun u _ => irqCores_keeps (recordEvent_keeps (.refl u) _ _ _ _ _ _ _ rfl) _ _ rfl
  rw [supplyLogged, (htold _ _).rd_eq rfl, (htold _ _).rd_eq rfl, bit_wrBit_self _ _ _ (by decide), rd_wrBit, if_neg (by nofun), bit_wrBit_self _ _ _ h]
  exact ⟨rfl, rfl⟩

/-- The islands that a rail other than VAON supplies are reset. -/
def supplyIslands (s : State) (r : Nat) (deep : Bool) : State :=
  let lpx := (List.range 16).map (· + 24)
  if r = 1 then onPower (setStage (forAll (resetIsland deep false) (linkDown s) ([1, 2, 3, 4, 5] ++ lpx)) 0 stRunning 0) (fun w => { w with bootDue := true })
  else if r = 2 then forAll (resetIsland deep true) s ((List.range 16).map (· + 8))
  else if r = 3 then forAll (resetIsland deep true) s lpx
  else if r = 4 then resetIsland deep true (linkDown s) 5
  else faultPlots (forAll (resetIsland deep true) s ((dieTiles (r % 8)).map (· + 64))) (dieTiles (r % 8))

theorem exec_supplyReset {rail : Fin 24} (hrail : isRail rail = true) (hvaon : rail.val ≠ 0) (deep : Bool) (s : State) :
    exec (.supplyReset rail deep) s = .next (supplyIslands (supplyLogged s rail) rail deep) := by
  simp only [exec, execSupplyReset, hrail, Bool.not_true, Bool.false_eq_true, if_false, if_neg hvaon]
  rfl

/-- The footprint of the reset of islands, with what the end of the host link, the stage and the faults of plots add. -/
def resetsFootprint : Nat := 0x107fa40202bfffffffffffffffffca9ffe240827ffffffffffff7fefdc ||| 0x1000000000000000000000000000000000000000000000000000

theorem forAll_resetIsland_keeps {s0 s : State} (h : Keeps resetsFootprint s0 s) (cold load : Bool) (l : List Nat) :
    Keeps resetsFootprint s0 (forAll (resetIsland cold load) s l) :=
  forAll_keeps h _ _ fun _ i h => resetIsland_keeps h cold load i rfl

/-- PWR_RSTLOG and RST_CAUSE lie outside what the reset of the islands changes. -/
theorem supplyIslands_keeps (s : State) (r : Nat) (deep : Bool) : Keeps resetsFootprint s (supplyIslands s r deep) := by
  have h := Keeps.refl (F := resetsFootprint) s
  exact .ite (onPower_keeps (setStage_keeps (forAll_resetIsland_keeps (linkDown_keeps h rfl) deep false _) _ _ _ rfl) _ rfl) <|
    .ite (forAll_resetIsland_keeps h deep true _) <| .ite (forAll_resetIsland_keeps h deep true _) <|
    .ite (resetIsland_keeps (linkDown_keeps h rfl) deep true _ rfl) (faultPlots_keeps (forAll_resetIsland_keeps h deep true _) _ rfl)

/-- A tile rail resets the tiles of its die, and the faults of plots leave them in reset. -/
theorem inReset_supplyIslands (s : State) {r : Nat} (hr : 8 ≤ r) (deep : Bool) : ∀ n ∈ dieTiles (r % 8), inReset (supplyIslands s r deep) (64 + n) = true := by
  intro n hn
  rw [supplyIslands, if_neg (by omega), if_neg (by omega), if_neg (by omega), if_neg (by omega), (faultPlots_keeps (.refl _) _ (.self _)).inReset_eq rfl]
  exact inReset_forAll_resetIsland deep true _ s _ (List.mem_map.2 ⟨n, hn, Nat.add_comm n 64⟩)

/-- Settles O6: what a warning, its end, the end of halving, a retention loss and a supply reset write is read off each command's equation, and what follows the
writes lies outside the registers that the statement names. -/
theorem supplySagAndReset : Obligations.SupplySagAndReset := by
  unfold Obligations.SupplySagAndReset
  refine ⟨fun rail ns s hrail => ⟨_, exec_supplyWarning hrail ns s, ?warning⟩, fun rail s hrail => ⟨_, exec_railWarningEnd hrail s, ?railEnd⟩,
    fun d s h => ⟨_, exec_halvingEnd h, ?unhalved⟩, gives_retentionLoss, fun rail deep s hrail hvaon => ⟨_, exec_supplyReset hrail hvaon deep s, ?supply⟩⟩
  case warning =>
    obtain ⟨hcount, hstatus, hlog⟩ := warned_shows s (rail := rail) (by omega)
    have hrest := dieWarning_keeps (warned s rail) rail ns (railDie rail)
    rw [hrest.rd_eq rfl, hrest.rd_eq rfl, hrest.rd_eq rfl]
    exact ⟨hcount, hstatus, hlog, fun d hd => halved_dieWarning _ ns hd⟩
  case railEnd =>
    exact ⟨bit_wrBit_self _ _ false (by omega), fun h => by simpa using (List.mem_filter.1 h).2⟩
  case unhalved => exact ((budgetsChanged_keeps (.refl _) _ (.self _)).halved_eq rfl d).trans (halved_wrBit s d false)
  case supply =>
    dsimp only
    rw [(supplyIslands_keeps _ _ deep).rd_eq rfl, (supplyIslands_keeps _ _ deep).rd_eq rfl]
    obtain ⟨hlog, hcause⟩ := supplyLogged_shows s (r := rail) (by omega)
    exact ⟨hlog, hcause, fun h => inReset_supplyIslands _ h deep⟩

end Sys2Proof.Machine
end

section
/-! SUPPORT. Temperature (R174, R175): thermal levels, HOT, the thermal trip and its end, and the sensors' samples. -/
set_option Elab.async false
namespace Sys2Proof.Machine

/-! ### Thermal levels (R174) -/

theorem Keeps.thermalLevel_eq {F : Nat} {s t : State} (h : Keeps F s t) (hF : F.testBit 86 = false) (d : Nat) : thermalLevel t d = thermalLevel s d := by
  rw [thermalLevel, h.rd_eq (r := .pwrDie) hF, thermalLevel]

theorem thermalLevel_setThermalLevel (s : State) (d : Fin 8) {v : Nat} (hv : v < 4) : thermalLevel (setThermalLevel s d v) d = v := by
  have hhigh : bit (rd (setThermalLevel s d v) .pwrDie) (16 + d) = decide (2 ≤ v) := by
    rw [setThermalLevel, rd_wrBit, if_pos rfl, bit_setBit _ _ _ _ (by omega), if_neg (by omega)]
    exact bit_wrBit_self s _ _ (by omega)
  have hlow : bit (rd (setThermalLevel s d v) .pwrDie) (8 + d) = (v % 2 == 1) := bit_wrBit_self _ _ _ (by omega)
  rw [thermalLevel, hhigh, hlow]
  interval_cases v <;> rfl

/-- The tiles of a die take the budgets of its new level, which is recorded and told to the headland cores and the PF. -/
def levelTold (s : State) (d l : Nat) : State := signalFn (thermalEvent (forAll changeBudget s (dieTiles d)) d 1 l) 0 4

theorem levelTold_keeps (s : State) (d l : Nat) : Keeps 0x1000000000000000000000000000000000000000000000000004000f40 s (levelTold s d l) :=
  signalFn_keeps (thermalEvent_keeps (budgetsChanged_keeps (.refl s) _ rfl) _ _ _ rfl) _ _ rfl

theorem exec_thermalLevelChange_rise {s : State} {d : Fin 8} (hwarm : rdFld s .pwrCtrl 19 13 + 64 ≤ dieTemp s d) (hl : thermalLevel s d < 3) :
    exec (.thermalLevelChange d) s = .next (levelTold (count (setThermalLevel s d (thermalLevel s d + 1)) .pwrThrcnt 1) d (thermalLevel s d + 1)) :=
  congrArg Host.Outcome.next (if_pos ⟨hwarm, hl⟩)

theorem exec_thermalLevelChange_fall {s : State} {d : Fin 8} (hcool : dieTemp s d + 5 < rdFld s .pwrCtrl 19 13 + 64) (hl : 0 < thermalLevel s d) :
    exec (.thermalLevelChange d) s = .next (levelTold (setThermalLevel s d (thermalLevel s d - 1)) d (thermalLevel s d - 1)) :=
  congrArg Host.Outcome.next ((if_neg fun h => by omega).trans (if_pos ⟨hcool, hl⟩))

/-- A thermal level is of two bits. -/
theorem thermalLevel_lt (s : State) (d : Nat) : thermalLevel s d < 4 := by
  have hbit : ∀ b, boolNat b ≤ 1 := by decide
  have h1 := hbit (bit (rd s .pwrDie) (16 + d))
  have h0 := hbit (bit (rd s .pwrDie) (8 + d))
  rw [thermalLevel]
  omega

/-- A level's change is counted with a rise alone. -/
theorem thrcnt_setThermalLevel (s : State) (d v : Nat) : rd (setThermalLevel s d v) .pwrThrcnt = rd s .pwrThrcnt :=
  (setThermalLevel_keeps (.refl s) d v (.self _)).rd_eq rfl

/-! ### HOT (R174) -/

theorem isHot_wrBit (s : State) (d : Fin 8) (b : Bool) : isHot (wrBit s .pwrTemp (16 + d) b) d = b := bit_wrBit_self s _ b (by omega)

theorem exec_hot {s : State} {d : Fin 8} (hcool : isHot s d = false) (hwarm : 164 ≤ dieTemp s d) :
    exec (.hot d) s = .next (thermalEvent (forAll aimFreq (wrBit s .pwrTemp (16 + d) true) (dieTiles d)) d 2 (thermalLevel s d)) :=
  congrArg Host.Outcome.next (if_neg (by simp [hcool]; omega))

theorem exec_hotEnd {s : State} {d : Fin 8} (hhot : isHot s d = true) (hcool : dieTemp s d < 159) :
    exec (.hotEnd d) s = .next (forAll aimFreq (wrBit s .pwrTemp (16 + d) false) (dieTiles d)) :=
  congrArg Host.Outcome.next (if_pos ⟨hhot, hcool⟩)

/-- New targets for the tiles of a die touch the tiles and the governor's state alone. -/
theorem aimed_keeps (s : State) (l : List Nat) : Keeps 0x2040 s (forAll aimFreq s l) := forAll_keeps (.refl s) _ l fun _ t h => aimFreq_keeps h t rfl

/-- What becomes of HOT is what was written, through the tiles' new targets and the event of a die that is HOT. -/
theorem isHot_aimed (s : State) (d : Fin 8) (b : Bool) (l : List Nat) : isHot (forAll aimFreq (wrBit s .pwrTemp (16 + d) b) l) d = b :=
  (congrArg (bit · (16 + d)) ((aimed_keeps _ l).rd_eq rfl)).trans (isHot_wrBit s d b)

theorem isHot_thermalEvent (s : State) (object sev level d : Nat) : isHot (thermalEvent s object sev level) d = isHot s d :=
  congrArg (bit · (16 + d)) ((thermalEvent_keeps (.refl s) object sev level (.self _)).rd_eq rfl)

/-! ### The thermal trip (R175) -/

/-- THERMTRIP_N is low, the trip is recorded with its cause, and the headland cores are told. -/
def tripTold (s : State) (die : Fin 9) : State :=
  let s1 := onPower s (fun w => { w with thermtrip := true })
  let s2 := recordEvent s1 0x0104 moduleEvent 3 islHeadland (if die.val = 8 then 0xFF else die.val) (rd s1 .pwrTemp) (if die.val = 8 then 0 else thermalLevel s1 die)
  irqCores (wrBit s2 .rstCause 8 true) headlandCores 15

/-- The plots at fault, the host link down and every island but the headland in reset. -/
def tripReset (s : State) : State := forAll (resetIsland true false) (linkDown (faultPlots s allTiles)) allIslands

theorem exec_thermalTrip (die : Fin 9) (s : State) :
    exec (.thermalTrip die) s = .next (onPower (setStage (tripReset (tripTold s die)) 0 stRunning 0) (fun w => { w with bootDue := true })) := rfl

theorem cause_tripTold (s : State) (die : Fin 9) : bit (rd (tripTold s die) .rstCause) 8 = true :=
  (congrArg (bit · 8) ((irqCores_keeps (.refl _) _ _ (.self _)).rd_eq rfl)).trans (bit_wrBit_self _ _ true (by decide))

theorem tripReset_keeps (s : State) : Keeps resetsFootprint s (tripReset s) :=
  forAll_resetIsland_keeps (linkDown_keeps (faultPlots_keeps (.refl s) _ rfl) rfl) true false allIslands

/-- The governor's state is no register. -/
@[simp] theorem rd_onPower (s : State) (f : PowerState → PowerState) (r : Reg) : rd (onPower s f) r = rd s r := rfl
@[simp] theorem inReset_onPower (s : State) (f : PowerState → PowerState) (i : Nat) : inReset (onPower s f) i = inReset s i := rfl
@[simp] theorem stageNo_onPower (s : State) (f : PowerState → PowerState) : stageNo (onPower s f) = stageNo s := rfl
@[simp] theorem stageState_onPower (s : State) (f : PowerState → PowerState) : stageState (onPower s f) = stageState s := rfl

theorem stageNo_setStage (s : State) {n : Nat} (st code : Nat) (hn : n < 8) : stageNo (setStage s n st code) = n := by
  rw [stageNo, setStage, rdFld_wrFld_of_disjoint _ _ _ (by decide) (by decide) (by decide), rdFld_wrFld_of_disjoint _ _ _ (by decide) (by decide) (by decide),
    rdFld_wrFld_self _ _ _ (by decide) (by decide)]
  exact Nat.mod_eq_of_lt hn

theorem stageState_setStage (s : State) (n code : Nat) {st : Nat} (hst : st < 4) : stageState (setStage s n st code) = st := by
  rw [stageState, setStage, rdFld_wrFld_of_disjoint _ _ _ (by decide) (by decide) (by decide), rdFld_wrFld_self _ _ _ (by decide) (by decide)]
  exact Nat.mod_eq_of_lt hst

theorem inReset_setStage (s : State) (n st code i : Nat) : inReset (setStage s n st code) i = inReset s i :=
  (setStage_keeps (.refl s) n st code (.self _)).inReset_eq rfl i

theorem inReset_tripReset (s : State) : ∀ i ∈ allIslands, inReset (tripReset s) i = true := inReset_forAll_resetIsland true false allIslands _

theorem gives_thermalTrip (die : Fin 9) (s : State) : Gives s (.thermalTrip die) fun t =>
    bit (rd t .rstCause) 8 = true ∧ stageNo t = 0 ∧ stageState t = stRunning ∧ ∀ i ∈ allIslands, inReset t i = true := by
  refine ⟨_, exec_thermalTrip die s, ?_, ?_, ?_, fun i hi => ?_⟩
  · have hrest : Keeps resetsFootprint (tripTold s die) (setStage (tripReset (tripTold s die)) 0 stRunning 0) := setStage_keeps (tripReset_keeps _) _ _ _ rfl
    rw [rd_onPower, hrest.rd_eq rfl, cause_tripTold]
  · rw [stageNo_onPower, stageNo_setStage _ _ _ (by decide)]
  · rw [stageState_onPower, stageState_setStage _ _ _ (by decide)]
  · rw [inReset_onPower, inReset_setStage, inReset_tripReset _ i hi]

theorem exec_thermtripRelease {s : State} (hbase : s.power.baseTemp < 154) (hdies : ∀ d < 8, dieTemp s d < 154) :
    exec .thermtripRelease s = .next { s with power := { s.power with thermtrip := false } } :=
  congrArg Host.Outcome.next (if_pos ⟨hbase, List.all_eq_true.2 fun d hd => decide_eq_true (hdies d (List.mem_range.1 hd))⟩)

/-! ### Samples (R57, R101, R174) -/

/-- The hottest sensors of die d and of the base die are known, and PWR_TEMP shows them. -/
def hottestShown (s : State) (d hot base : Nat) : State :=
  let s1 := { s with power := { s.power with dieTemp := mapInsert s.power.dieTemp d hot, baseTemp := base } }
  wrFld (wrFld s1 .pwrTemp 31 24 base) .pwrTemp 7 0 (maxNat ((List.range 8).map (dieTemp s1)))

/-- After a sample each tile of the die that is due decides its calibration (R101). -/
def dueCalibrated (s : State) (d : Nat) : State := forAll (fun s t => if (tile s t).calDue then calibrateTile s t else s) s (dieTiles d)

theorem exec_sensorSample (d : Fin 8) (cim : Vector Byte 16) (die base : Byte) (s : State) : ∃ u, exec (.sensorSample d cim die base) s
    = .next (dueCalibrated (hottestShown u d (max die.toNat (maxNat (cim.toList.map BitVec.toNat))) base.toNat) d) := ⟨_, rfl⟩

theorem dueCalibrated_keeps (s : State) (d : Nat) : Keeps 0x100000000000040 s (dueCalibrated s d) :=
  forAll_keeps (.refl s) _ _ fun _ t h => .ite (calibrateTile_keeps h t rfl) h

theorem dieTemp_hottestShown (s : State) (d hot base : Nat) : dieTemp (hottestShown s d hot base) d = hot := by
  rw [dieTemp, show (hottestShown s d hot base).power.dieTemp = mapInsert s.power.dieTemp d hot from rfl, mapGet_mapInsert, if_pos rfl]

theorem baseTemp_hottestShown (s : State) (d hot : Nat) {base : Nat} (h : base < 256) : rdFld (hottestShown s d hot base) .pwrTemp 31 24 = base := by
  rw [hottestShown, rdFld_wrFld_of_disjoint _ _ _ (by decide) (by decide) (by decide), rdFld_wrFld_self _ _ _ (by decide) (by decide)]
  exact Nat.mod_eq_of_lt h

/-- Settles O7: levels and HOT read back as they were written, since budgets, frequencies and events lie outside their registers; the trip resets its islands one by one, and no
reset takes another island out. -/
theorem temperatureLevelsAndTrip : Obligations.TemperatureLevelsAndTrip := by
  unfold Obligations.TemperatureLevelsAndTrip
  refine ⟨fun d s hwarm hl => ⟨_, exec_thermalLevelChange_rise hwarm hl, ?rise⟩, fun d s hcool hl => ⟨_, exec_thermalLevelChange_fall hcool hl, ?fall⟩,
    fun d s hcool hwarm => ⟨_, exec_hot hcool hwarm, (isHot_thermalEvent _ _ _ _ _).trans (isHot_aimed s d true _)⟩,
    fun d s hhot hcool => ⟨_, exec_hotEnd hhot hcool, isHot_aimed s d false _⟩,
    gives_thermalTrip,
    fun s hbase hdies => ⟨_, exec_thermtripRelease hbase hdies, rfl⟩, fun d cim die base s => ?sample⟩
  case rise =>
    dsimp only
    rw [(levelTold_keeps _ _ _).thermalLevel_eq rfl, (levelTold_keeps _ _ _).rd_eq rfl]
    refine ⟨((count_keeps (F := 1 <<< 91) (.refl _) .pwrThrcnt 1 rfl).thermalLevel_eq rfl d).trans (thermalLevel_setThermalLevel s d (by omega)), ?_⟩
    rw [rd_count, if_pos rfl, thrcnt_setThermalLevel]
  case fall =>
    have hlevel := thermalLevel_lt s d
    dsimp only
    rw [(levelTold_keeps _ _ _).thermalLevel_eq rfl, (levelTold_keeps _ _ _).rd_eq rfl]
    exact ⟨thermalLevel_setThermalLevel s d (by omega), thrcnt_setThermalLevel s d _⟩
  case sample =>
    obtain ⟨u, hexec⟩ := exec_sensorSample d cim die base s
    have hdue := dueCalibrated_keeps (hottestShown u d (max die.toNat (maxNat (cim.toList.map BitVec.toNat))) base.toNat) d
    refine ⟨_, hexec, ?_, ?_, ?_⟩
    · rw [dieTemp, hdue.power.eq rfl]
      exact dieTemp_hottestShown u d _ _
    · rw [hdue.power.eq rfl]
      rfl
    · rw [rdFld, hdue.rd_eq rfl]
      exact baseTemp_hottestShown u d _ base.isLt

end Sys2Proof.Machine
end

section
/-! SUPPORT. References, clocks and laser inputs (R14, R160, R161, R260, R407, R412, Table PWR-2). -/
set_option Elab.async false
namespace Sys2Proof.Machine

/-! ### References lost and back (R161, R407) -/

/-- CLK_REFSTAT shows reference k lost, and for OSC25 the headland on its backup oscillator. -/
def referenceDown (s : State) (k : Fin 3) : State :=
  let s1 := wrBit (wrBit s .clkRefstat (10 - k.val) true) .clkRefstat (2 - k.val) false
  if k.val = 0 then wrBit s1 .clkRefstat 3 true else s1

theorem referenceDown_shows (s : State) (k : Fin 3) : bit (rd (referenceDown s k) .clkRefstat) (10 - k) = true
    ∧ bit (rd (referenceDown s k) .clkRefstat) (2 - k) = false ∧ (k.val = 0 → bit (rd (referenceDown s k) .clkRefstat) 3 = true) := by
  have hlost : bit (rd (wrBit (wrBit s .clkRefstat (10 - k.val) true) .clkRefstat (2 - k.val) false) .clkRefstat) (10 - k.val) = true := by
    rw [rd_wrBit, if_pos rfl, bit_setBit _ _ _ _ (by omega), if_neg (by omega), bit_wrBit_self _ _ _ (by omega)]
  have hgone : bit (rd (wrBit (wrBit s .clkRefstat (10 - k.val) true) .clkRefstat (2 - k.val) false) .clkRefstat) (2 - k.val) = false := bit_wrBit_false _ _ _
  by_cases hk : k.val = 0
  · rw [referenceDown, if_pos hk, rd_wrBit, if_pos rfl, bit_setBit _ _ _ _ (by decide), bit_setBit _ _ _ _ (by decide), bit_setBit _ _ _ _ (by decide),
      if_neg (by omega), if_neg (by omega), if_pos rfl]
    exact ⟨hlost, hgone, fun _ => rfl⟩
  · rw [referenceDown, if_neg hk]
    exact ⟨hlost, hgone, fun h => absurd h hk⟩

/-- The event of a reference and the drop of the clocks that it feeds. -/
def clocksFootprint : Nat := 0x107fae0202bfffffffffffffffffca9fff240827ffffffffffff7fefdc

/-- A lost reference is shown, and the event and the clocks that drop leave CLK_REFSTAT. -/
theorem exec_referenceLost (k : Fin 3) (s : State) : ∃ t, exec (.referenceLost k) s = .next t ∧ Keeps clocksFootprint (referenceDown s k) t := by
  refine ⟨_, rfl, ?_⟩
  by_cases hk : k.val = 0
  · rw [if_pos hk, referenceDown, if_pos hk]
    exact referenceEvent_keeps (.refl _) 0 rfl
  · rw [if_neg hk, referenceDown, if_neg hk]
    exact forAll_keeps (referenceEvent_keeps (.refl _) _ rfl) _ _ fun _ i h => clockDrop_keeps h i rfl

theorem refstat_referenceEvent (s : State) (k : Nat) : rd (referenceEvent s k) .clkRefstat = rd s .clkRefstat :=
  (referenceEvent_keeps (.refl s) k (.self _)).rd_eq rfl

theorem exec_referenceBack {s : State} (h : bit (rd s .clkRefstat) 2 = true) : exec .referenceBack s = .next (referenceEvent (wrBit s .clkRefstat 3 false) 0) :=
  congrArg Host.Outcome.next (if_pos h)

theorem exec_referenceBack_absent {s : State} (h : bit (rd s .clkRefstat) 2 = false) : exec .referenceBack s = .next s :=
  congrArg Host.Outcome.next (if_neg (by rw [h]; nofun))

/-- A reference that returns is present again; a stage that resumes does not write CLK_REFSTAT. -/
theorem gives_refclkReturn (k : Fin 3) (s : State) : Gives s (.refclkReturn k) fun t => bit (rd t .clkRefstat) (2 - k) = true := by
  have hback : bit (rd (referenceEvent (wrBit s .clkRefstat (2 - k.val) true) k) .clkRefstat) (2 - k) = true := by
    rw [refstat_referenceEvent, bit_wrBit_self _ _ _ (by omega)]
  refine ⟨_, rfl, ?_⟩
  dsimp only
  split
  · next hk =>
    rw [hk]
    exact bit_wrBit_self s _ true (by decide)
  · split
    · rw [(setStage_keeps (.refl _) _ _ _ (.self _)).rd_eq rfl, hback]
    · exact hback

/-! ### A clock-ready that drops (R160, R412) -/

/-- The loss of a clock and the reset that follows it are counted. -/
def clockCounted (s : State) : State := count (count s .clkLosscnt 1) .rstRereset 1

theorem clockCounted_shows (s : State) : rd (clockCounted s) .clkLosscnt = satAdd (rd s .clkLosscnt) 1 ∧ rd (clockCounted s) .rstRereset = satAdd (rd s .rstRereset) 1 := by
  simp [clockCounted, rd_count]

/-- The island is reset warm, for the PCIe island after its link goes down, and its records load again. -/
def dropReset (s : State) (i : Nat) : State := resetIsland false true (if i = 5 then linkDown s else s) i

theorem dropReset_keeps (s : State) (i : Nat) : Keeps resetsFootprint s (dropReset s i) :=
  resetIsland_keeps (.ite (linkDown_keeps (.refl s) rfl) (.refl s)) false true i rfl

theorem inReset_dropReset (s : State) (i : Nat) : inReset (dropReset s i) i = true := by
  rw [dropReset, inReset_resetIsland, decide_eq_true rfl, Bool.true_or]

/-- What follows the reset: its record, and for a tile's island the fault of a plot that serves on it. -/
def dropFootprint : Nat := 0x10000202000000000000000000030000000000040064003e000016ffdc

theorem clockDrop_keeps_dropReset {s : State} {i : Nat} (hisland : isIsland i = true) (hup : inReset s i = false) :
    Keeps dropFootprint (dropReset (clockCounted s) i) (clockDrop s i) := by
  have hrecord : Keeps dropFootprint (dropReset (clockCounted s) i) (resetDone (dropReset (clockCounted s) i) 9 i) := resetDone_keeps (.refl _) 9 i rfl
  have hdropped := onPower_keeps hrecord (fun w => { w with clkDropped := addPage w.clkDropped (i - 64) }) rfl
  rw [clockDrop, if_neg (by rw [hisland, hup]; nofun)]
  refine .ite ?_ hrecord
  dsimp only
  split
  · exact .ite (plotFault_keeps hdropped _ 9 (i - 64) rfl) hdropped
  · exact hdropped

/-! ### Laser inputs (R14, R260) -/

/-- The four ports of a laser input. -/
def laserPorts (input : Fin 4) : List Nat := (List.range 4).map (· + 4 * input.val)

/-- Every lane of a port reads DARK and is disabled. -/
def PortDark (p : Nat) (s : State) : Prop := rdFld s (.netPstat p) 11 8 = 15 ∧ rdFld s (.netPcfg p) 11 8 = 15

theorem rdFld_wrBit_of_lt (s : State) (r q : Reg) {i hi : Nat} (lo : Nat) (b : Bool) (hi32 : i < 32) (h : hi < i) : rdFld (wrBit s r i b) q hi lo = rdFld s q hi lo := by
  rw [rdFld, rd_wrBit]
  split
  · next hq => rw [← hq, fld_setBit_of_disjoint _ _ _ _ _ hi32 (.inl h), rdFld]
  · rfl

theorem rdFld_wrFld_of_lt (s : State) (r q : Reg) {hi lo a : Nat} (v b : Nat) (hi32 : hi < 32) (hlo : lo ≤ hi) (h : a < lo) :
    rdFld (wrFld s r hi lo v) q a b = rdFld s q a b := by
  rw [rdFld, rd_wrFld]
  split
  · next hq => rw [← hq, fld_setFld_of_disjoint _ _ _ _ _ _ hi32 hlo (.inl h), rdFld]
  · rfl

/-- A change of lanes writes the state of its sub-port, above the DARK bits of every port. -/
theorem dark_laneChange (s : State) (port q : Nat) {sub : Nat} (hsub : sub < 4) : rdFld (laneChange s port sub) (.netPstat q) 11 8 = rdFld s (.netPstat q) 11 8 := by
  have hflushed : ∀ (u : State) (l : List Nat), rdFld (forAll flushQueue u l) (.netPstat q) 11 8 = rdFld u (.netPstat q) 11 8 := fun u l =>
    congrArg (fld · 11 8) ((forAll_keeps (.refl u) _ l fun _ k h => flushQueue_keeps h k (.self _)).rd_eq rfl)
  have hbits : ∀ (u : State) (b : Bool), rdFld (wrBit (wrBit u (.netPstat port) (28 + sub) false) (.netPstat port) (24 + sub) b) (.netPstat q) 11 8
      = rdFld u (.netPstat q) 11 8 := fun u b => by
    rw [rdFld_wrBit_of_lt _ _ _ _ _ (by omega) (by omega), rdFld_wrBit_of_lt _ _ _ _ _ (by omega) (by omega)]
  rw [laneChange]
  dsimp only
  split
  · rw [hflushed, rdFld_wrFld_of_lt _ _ _ _ _ (by omega) (by omega) (by omega), hbits]
    rfl
  · split
    · rfl
    · exact hbits _ true

theorem PortDark.laneChange {s : State} {p : Nat} (h : PortDark p s) (port : Nat) {sub : Nat} (hsub : sub < 4) : PortDark p (laneChange s port sub) := by
  obtain ⟨hdark, hdisabled⟩ := h
  exact ⟨(dark_laneChange s port p hsub).trans hdark, (congrArg (fld · 11 8) ((laneChange_keeps (.refl s) port sub (.self _)).rd_eq rfl)).trans hdisabled⟩

/-- The lanes of port p go dark and are disabled. -/
def lanesDark (s : State) (p : Nat) : State := wrFld (wrFld s (.netPstat p) 11 8 15) (.netPcfg p) 11 8 15

theorem portDark_lanesDark (s : State) (p : Nat) : PortDark p (lanesDark s p) :=
  ⟨(congrArg (fld · 11 8) (rd_wr_ne _ _ (by nofun))).trans (rdFld_wrFld_self s _ 15 (by decide) (by decide)), rdFld_wrFld_self _ _ 15 (by decide) (by decide)⟩

theorem PortDark.lanesDark {s : State} {p : Nat} (h : PortDark p s) (m : Nat) : PortDark p (lanesDark s m) := by
  by_cases hm : m = p
  · subst hm
    exact portDark_lanesDark s m
  · obtain ⟨hdark, hdisabled⟩ := h
    refine ⟨(congrArg (fld · 11 8) ?_).trans hdark, (congrArg (fld · 11 8) ?_).trans hdisabled⟩
    · exact (rd_wr_ne _ _ (by nofun)).trans (rd_wr_ne s _ fun e => hm (Reg.netPstat.inj e))
    · exact (rd_wr_ne _ _ fun e => hm (Reg.netPcfg.inj e)).trans (rd_wr_ne s _ (by nofun))

/-- A port has lost its laser: its lanes are dark, and each of its sub-ports has changed. -/
def portUnlit (s : State) (p : Nat) : State := forAll (fun s sub => laneChange s p sub) (lanesDark s p) (List.range (subCount (split s p)))

theorem subCount_le (k : Nat) : subCount k ≤ 4 := by
  rw [subCount]
  split
  · decide
  · split <;> decide

theorem portDark_portUnlit {s : State} {p q : Nat} (h : PortDark q (lanesDark s p)) : PortDark q (portUnlit s p) :=
  forAll_inv_of_mem (fun _ _ hsub h => h.laneChange p (Nat.lt_of_lt_of_le (List.mem_range.1 hsub) (subCount_le _))) h

/-- Every port of an input is dark once each has lost its laser. -/
theorem portDark_forAll (s : State) (l : List Nat) : ∀ p ∈ l, PortDark p (forAll portUnlit s l) :=
  forAll_each (P := PortDark) (fun s p => portDark_portUnlit (portDark_lanesDark s p)) (fun _ _ m h => portDark_portUnlit (h.lanesDark m)) l s

/-- The loss of a laser is recorded, and the network cores are told. -/
def laserLossTold (s : State) (input : Fin 4) : State :=
  irqCores (recordEvent s 0x0701 moduleEvent 2 (islPort (4 * input)) (4 * input) (rd s (.netPstat (4 * input))) input.val) netCores 18

theorem exec_laserLoss {s : State} {input : Fin 4} (h : ∃ p ∈ laserPorts input, rdFld s (.netPstat p) 11 8 ≠ 15) :
    exec (.laserLoss input) s = .next (laserLossTold (forAll portUnlit s (laserPorts input)) input) := by
  obtain ⟨p, hp, hlit⟩ := h
  have hany : ¬ ((laserPorts input).all fun p => rdFld s (.netPstat p) 11 8 == 15) = true := fun hall => hlit (by simpa using List.all_eq_true.1 hall p hp)
  exact if_neg hany

theorem PortDark.laserLossTold {s : State} {p : Nat} (h : PortDark p s) (input : Fin 4) : PortDark p (laserLossTold s input) := by
  have htold : Keeps 0x1000000000000000000000000000000000000000000000000000000900 s (Machine.laserLossTold s input) :=
    irqCores_keeps (recordEvent_keeps (.refl s) _ _ _ _ _ _ _ rfl) _ _ rfl
  rw [PortDark, rdFld, rdFld, htold.rd_eq rfl, htold.rd_eq rfl]
  exact h

/-- Each port of a returned input reads no lane DARK. -/
theorem dark_laserReturn (s : State) (l : List Nat) : ∀ p ∈ l, rdFld (forAll (fun s p => wrFld s (.netPstat p) 11 8 0) s l) (.netPstat p) 11 8 = 0 := by
  have hself : ∀ (u : State) (p : Nat), rdFld (wrFld u (.netPstat p) 11 8 0) (.netPstat p) 11 8 = 0 := fun u p => rdFld_wrFld_self u _ 0 (by decide) (by decide)
  refine forAll_each (P := fun p s => rdFld s (.netPstat p) 11 8 = 0) hself (fun u p m h => ?_) l s
  by_cases hm : m = p
  · subst hm
    exact hself u m
  · exact (congrArg (fld · 11 8) (rd_wr_ne u _ fun e => hm (Reg.netPstat.inj e))).trans h

/-- Settles O9: references are read off CLK_REFSTAT, which no event, dropped clock or stage writes; a dropped clock counts and resets its island, and the record and fault that follow
leave both; the lanes of an input's ports stay dark through the changes of their sub-ports. -/
theorem referencesClocksAndLasers : Obligations.ReferencesClocksAndLasers := by
  unfold Obligations.ReferencesClocksAndLasers
  refine ⟨fun k s => ?lost, fun s => ⟨fun h => ⟨_, exec_referenceBack h, ?back⟩, exec_referenceBack_absent⟩, gives_refclkReturn, fun i s hisland hup => ⟨_, rfl, ?clock⟩,
    fun input s hlit => ⟨_, exec_laserLoss hlit, fun p hp => (portDark_forAll s _ p hp).laserLossTold input⟩, fun input s => ⟨_, rfl, dark_laserReturn s _⟩⟩
  case lost =>
    obtain ⟨t, hexec, hkeeps⟩ := exec_referenceLost k s
    refine ⟨t, hexec, ?_⟩
    dsimp only
    rw [hkeeps.rd_eq rfl]
    exact referenceDown_shows s k
  case back =>
    dsimp only
    rw [refstat_referenceEvent]
    refine ⟨bit_wrBit_self s _ false (by decide), ?_⟩
    rw [rd_wrBit, if_pos rfl, bit_setBit _ _ _ _ (by decide), if_neg (by decide), h]
  case clock =>
    obtain ⟨hloss, hreset⟩ := clockCounted_shows s
    have hafter := clockDrop_keeps_dropReset hisland hup
    have hduring := dropReset_keeps (clockCounted s) i
    rw [hafter.inReset_eq rfl, hafter.rd_eq rfl, hafter.rd_eq rfl, hduring.rd_eq rfl, hduring.rd_eq rfl]
    exact ⟨inReset_dropReset _ _, hloss, hreset⟩

end Sys2Proof.Machine
end

section
/-! SUPPORT. Device memory as the accesses of any master leave it: reads of equal memories agree, and what errors, events and port A add leaves the bytes alone. -/
set_option Elab.async false
namespace Sys2Proof.Machine

/-- A byte depends on the memory, and unlisted in LPDDR5X on the count of values drawn (log entry 42). -/
theorem rdByte_of_eq {s t : State} (hmem : t.mem = s.mem) (hfresh : t.fresh = s.fresh) (a : Nat) : rdByte t a = rdByte s a := by
  rw [rdByte, hmem, hfresh, rdByte]

theorem rdBytes_of_eq {s t : State} (hmem : t.mem = s.mem) (hfresh : t.fresh = s.fresh) (a n : Nat) : rdBytes t a n = rdBytes s a n := by
  induction n generalizing a with
  | zero => rfl
  | succ n ih => rw [rdBytes, rdBytes, rdByte_of_eq hmem hfresh, ih]

/-- Outside the memory's footprint every byte reads as before. -/
theorem Keeps.rdByte_eq {F : Nat} {s t : State} (h : Keeps F s t) (hmem : F.testBit 2 = false) (hfresh : F.testBit 4 = false) (a : Nat) : rdByte t a = rdByte s a :=
  rdByte_of_eq (h.mem.eq hmem) (h.fresh.eq hfresh) a

@[simp] theorem rdBytes_emit (s : State) (o : Output) (a n : Nat) : rdBytes (emit s o) a n = rdBytes s a n := rdBytes_of_eq (emit_mem s o) (emit_fresh s o) a n
@[simp] theorem rdByte_emit (s : State) (o : Output) (a : Nat) : rdByte (emit s o) a = rdByte s a := rfl
@[simp] theorem rdLe_emit (s : State) (o : Output) (a n : Nat) : rdLe (emit s o) a n = rdLe s a n := congrArg leNat (rdBytes_emit s o a n)

end Sys2Proof.Machine
end

section
/-! SUPPORT. Scratchpad accesses of the fabric, the firmware aperture and region registers (R182, R185, R187 to R190). -/
set_option Elab.async false
namespace Sys2Proof.Machine

/-! ### Accesses of a tile's DM master (R182, R183, R187, R188) -/

/-- An access that spans two lines takes port A a second cycle, once its check bits have reported. -/
def dmChecked (s : State) (n bank a len : Nat) (ecc : Ecc) : State :=
  if lineOf a = lineOf (a + len - 1) then spEcc s n bank (lineOf a) 3 ecc else secondCycle (spEcc s n bank (lineOf a) 3 ecc) n bank

section
variable {s : State} {n : Fin 128} {addr : BitVec 22} {len : Fin 65}

/-- A write within its bank that the regions grant is performed. -/
theorem exec_dmWrite_granted {bs : List Byte} (hlow : 1 ≤ bs.length) (hhigh : bs.length ≤ 64) (hbank : spByte addr.toNat + bs.length ≤ 0x100000)
    (hgrant : rgnGrants s n 3 (spBank addr.toNat) (lineOf (spByte addr.toNat)) (lineOf (spByte addr.toNat + bs.length - 1)) true = true) (ecc : Ecc) :
    exec (.scratchpadDmAccess n addr len (some bs) ecc) s
      = .next (emit (wrBytes (dmChecked s n (spBank addr.toNat) (spByte addr.toNat) bs.length ecc) (scratchAddr n (spBank addr.toNat * 0x100000 + spByte addr.toNat)) bs)
          (.memory 0 [])) := by
  have hformed : ¬(bs.length = 0 ∨ 64 < bs.length ∨ 0x100000 < spByte addr.toNat + bs.length) := by omega
  simp only [exec, execScratchpadDmAccess, if_neg hformed, Option.isSome_some, hgrant, Bool.not_true, Bool.false_eq_true, if_false, dmChecked]

/-- One that they refuse is recorded, and performs nothing (R188). -/
theorem exec_dmWrite_refused {bs : List Byte} (hlow : 1 ≤ bs.length) (hhigh : bs.length ≤ 64) (hbank : spByte addr.toNat + bs.length ≤ 0x100000)
    (hrefuse : rgnGrants s n 3 (spBank addr.toNat) (lineOf (spByte addr.toNat)) (lineOf (spByte addr.toNat + bs.length - 1)) true = false) (ecc : Ecc) :
    exec (.scratchpadDmAccess n addr len (some bs) ecc) s = .next (emit (spRecord s n (spBank addr.toNat) (lineOf (spByte addr.toNat)) 3) (.memory 1 [])) := by
  have hformed : ¬(bs.length = 0 ∨ 64 < bs.length ∨ 0x100000 < spByte addr.toNat + bs.length) := by omega
  simp only [exec, execScratchpadDmAccess, if_neg hformed, Option.isSome_some, hrefuse, Bool.not_false, if_true]

theorem exec_dmRead_granted (hlow : 1 ≤ len.val) (hbank : spByte addr.toNat + len.val ≤ 0x100000)
    (hgrant : rgnGrants s n 3 (spBank addr.toNat) (lineOf (spByte addr.toNat)) (lineOf (spByte addr.toNat + len.val - 1)) false = true) (ecc : Ecc) :
    exec (.scratchpadDmAccess n addr len none ecc) s
      = .next (emit (dmChecked s n (spBank addr.toNat) (spByte addr.toNat) len ecc)
          (.memory 0 (rdBytes (dmChecked s n (spBank addr.toNat) (spByte addr.toNat) len ecc) (scratchAddr n (spBank addr.toNat * 0x100000 + spByte addr.toNat)) len))) := by
  have hformed : ¬(len.val = 0 ∨ 64 < len.val ∨ 0x100000 < spByte addr.toNat + len.val) := by omega
  simp only [exec, execScratchpadDmAccess, if_neg hformed, Option.isSome_none, hgrant, Bool.not_true, Bool.false_eq_true, if_false, dmChecked]

/-- An access of no byte, or past its bank, is ill formed (log entry 93). -/
theorem exec_dmRead_illFormed (h : len.val = 0 ∨ 0x100000 < spByte addr.toNat + len.val) (ecc : Ecc) :
    exec (.scratchpadDmAccess n addr len none ecc) s = .fault .illFormed :=
  if_pos (h.imp_right .inr)

end

theorem out_spRecord (s : State) (t bank line m : Nat) : (spRecord s t bank line m).out = s.out := (spRecord_keeps (.refl s) t bank line m (.self _)).out.eq rfl
theorem mem_spRecord (s : State) (t bank line m : Nat) : (spRecord s t bank line m).mem = s.mem := (spRecord_keeps (.refl s) t bank line m (.self _)).mem.eq rfl

/-- Check bits that report no uncorrectable error touch their counter alone. -/
theorem spEcc_keeps_of_ne {ecc : Ecc} (h : ecc ≠ .uncorrectable) (s : State) (t bank line m : Nat) : Keeps (1 <<< 70) s (spEcc s t bank line m ecc) := by
  cases ecc with
  | clean => exact .refl s
  | corrected => exact count_keeps (.refl s) _ _ rfl
  | uncorrectable => exact absurd rfl h

/-- Without one no byte changes before the access's own. -/
theorem rdByte_dmChecked {ecc : Ecc} (h : ecc ≠ .uncorrectable) (s : State) (n bank a len b : Nat) : rdByte (dmChecked s n bank a len ecc) b = rdByte s b := by
  have hecc := (spEcc_keeps_of_ne h s n bank (lineOf a) 3).rdByte_eq rfl rfl b
  unfold dmChecked
  split
  · exact hecc
  · exact ((secondCycle_keeps (.refl _) n bank (.self _)).rdByte_eq rfl rfl b).trans hecc

/-! ### The firmware aperture (R185, R190) -/

/-- The masters that the aperture serves (R190). -/
def ApertureMaster (s : State) (m : Master) : Prop := m = .pf ∧ debugScope s 1 = true ∨ ∃ c : Fin 24, m = .core c ∧ (22 ≤ c.val ∨ (2 ≤ c.val ∧ c.val ≤ 5))

/-- Bank and byte in the bank that an aperture offset reaches. -/
def apertureBank (s : State) (n : Fin 128) : Nat := rdFld s (.tilSpapbase n) 9 0 / 256
def apertureByte (s : State) (n : Fin 128) (off : BitVec 12) : Nat := rdFld s (.tilSpapbase n) 9 0 % 256 * 0x1000 + off.toNat

/-- What a refused access of the aperture leaves but its answer: the error bit, the record and an event (R188). -/
def apertureRefused (s : State) (m : Master) (n : Fin 128) (off : BitVec 12) : State :=
  let s1 := wrBit (spRecord s n (apertureBank s n) (lineOf (apertureByte s n off)) 4) (.tilSperr n) 1 true
  recordEvent s1 0x0603 (plotField s1 n) 2 (islTile n) n (BitVec.ofNat 32 (masterNo m)) 0

section
variable {s : State} {m : Master} {n : Fin 128} {off : BitVec 12} (hoff : off.toNat % 8 = 0) (hm : ApertureMaster s m)
include hoff hm

/-- An aligned access of eight bytes by a master that the aperture serves is judged by the tile's regions. -/
theorem exec_apertureAccess (wdata : Option DWord) (ecc : Ecc) : exec (.apertureAccess m n off true wdata ecc) s
    = .next (if !rgnGrants s n 4 (apertureBank s n) (lineOf (apertureByte s n off)) (lineOf (apertureByte s n off)) wdata.isSome then
        if wdata.isNone then emit (apertureRefused s m n off) (.completion 0 (leBytes 8 (2 ^ 64 - 1))) else apertureRefused s m n off
      else
        let u := spEcc s n (apertureBank s n) (lineOf (apertureByte s n off)) 4 ecc
        let d := scratchAddr n (apertureBank s n * 0x100000 + apertureByte s n off)
        match wdata with
        | some v => wrBytes u d (leBytes 8 v.toNat)
        | none => emit u (.completion 0 (leBytes 8 (rdLe u d 8)))) := by
  refine (if_neg (not_not.2 hoff)).trans ?_
  rcases hm with ⟨rfl, hscope⟩ | ⟨c, rfl, hc⟩
  · exact (if_neg (by simp [hscope])).trans (by cases wdata <;> rfl)
  · have hserved : (decide (22 ≤ c.val) || (decide (2 ≤ c.val) && decide (c.val ≤ 5))) = true := by simpa using hc
    exact (if_neg (by simp only [hserved]; decide)).trans (by cases wdata <;> rfl)

/-- A write that the regions grant is performed. -/
theorem exec_apertureWrite_granted (v : DWord) (ecc : Ecc)
    (hgrant : rgnGrants s n 4 (apertureBank s n) (lineOf (apertureByte s n off)) (lineOf (apertureByte s n off)) true = true) :
    exec (.apertureAccess m n off true (some v) ecc) s = .next (wrBytes (spEcc s n (apertureBank s n) (lineOf (apertureByte s n off)) 4 ecc)
      (scratchAddr n (apertureBank s n * 0x100000 + apertureByte s n off)) (leBytes 8 v.toNat)) := by
  rw [exec_apertureAccess hoff hm, Option.isSome_some, hgrant]
  rfl

/-- A read that they grant answers the bytes. -/
theorem exec_apertureRead_granted (ecc : Ecc)
    (hgrant : rgnGrants s n 4 (apertureBank s n) (lineOf (apertureByte s n off)) (lineOf (apertureByte s n off)) false = true) :
    exec (.apertureAccess m n off true none ecc) s = .next (emit (spEcc s n (apertureBank s n) (lineOf (apertureByte s n off)) 4 ecc)
      (.completion 0 (leBytes 8 (rdLe (spEcc s n (apertureBank s n) (lineOf (apertureByte s n off)) 4 ecc)
        (scratchAddr n (apertureBank s n * 0x100000 + apertureByte s n off)) 8)))) := by
  rw [exec_apertureAccess hoff hm, Option.isSome_none, hgrant]
  rfl

/-- A read that they refuse answers ones. -/
theorem exec_apertureRead_refused (ecc : Ecc)
    (hrefuse : rgnGrants s n 4 (apertureBank s n) (lineOf (apertureByte s n off)) (lineOf (apertureByte s n off)) false = false) :
    exec (.apertureAccess m n off true none ecc) s = .next (emit (apertureRefused s m n off) (.completion 0 (leBytes 8 (2 ^ 64 - 1)))) := by
  rw [exec_apertureAccess hoff hm, Option.isSome_none, hrefuse]
  rfl

end

/-- The error bit of a refused access is set. -/
theorem bit_apertureRefused (s : State) (m : Master) (n : Fin 128) (off : BitVec 12) : bit (rd (apertureRefused s m n off) (.tilSperr n)) 1 = true :=
  (congrArg (bit · 1) (rd_recordEvent _ _ _ _ _ _ _ _ (by nofun))).trans (bit_wrBit_self _ _ true (by decide))

/-! ### Region registers (R6, R189) -/

/-- The write of a region register that takes effect at once. -/
def regionWritten (s : State) (n : Fin 128) (master : Fin 5) (r : Fin 16) (v : Word) : State := execRegionRegisterWrite.now n master r v s

section
variable {s : State} {m : Master} {n : Fin 128} (master : Fin 5) (r : Fin 16) (v : Word)

theorem exec_regionRegisterWrite_refused (hm : mayProgramRegions s m = false) : exec (.regionRegisterWrite m n master r v) s = .next (regionWriteRefused s m n) := by
  simp only [exec, execRegionRegisterWrite, hm, Bool.not_false, if_true]

/-- A tile of no serving plot takes the write at once. -/
theorem exec_regionRegisterWrite_now (hm : mayProgramRegions s m = true) (hidle : ∀ p, plotOf s n = some p → plotRun s p ≠ pServing) :
    exec (.regionRegisterWrite m n master r v) s = .next (regionWritten s n master r v) := by
  simp only [exec, execRegionRegisterWrite, hm, Bool.not_true, Bool.false_eq_true, if_false]
  split
  next p hp => rw [if_neg (hidle p hp)]; rfl
  next => rfl

/-- A tile of a serving plot keeps it for the next step boundary. -/
theorem exec_regionRegisterWrite_serving {p : Nat} (hm : mayProgramRegions s m = true) (hp : plotOf s n = some p) (hrun : plotRun s p = pServing) :
    exec (.regionRegisterWrite m n master r v) s = .next (onTile s n (fun x => { x with rgnDue := mapInsert x.rgnDue (16 * master.val + r.val) v })) := by
  simp only [exec, execRegionRegisterWrite, hm, hp, hrun, Bool.not_true, Bool.false_eq_true, if_false, if_true]

end

theorem tiles_regionWriteRefused (s : State) (m : Master) (object : Nat) : (regionWriteRefused s m object).tiles = s.tiles := tiles_recordEvent _ _ _ _ _ _ _ _

/-- A refused write changes no register but the count of dropped events (R6). -/
theorem rd_regionWriteRefused (s : State) (m : Master) (object : Nat) {q : Reg} (h : q ≠ .evrDropcnt) : rd (regionWriteRefused s m object) q = rd s q :=
  rd_recordEvent _ _ _ _ _ _ _ _ h

theorem rgnDue_regionWritten (s : State) (n : Fin 128) (master : Fin 5) (r : Fin 16) (v : Word) :
    mapFind (tile (regionWritten s n master r v) n).rgnDue (16 * master.val + r.val) = none := by
  rw [regionWritten, execRegionRegisterWrite.now, tile_wr_eq, tile_onTile_self, mapFind_mapErase_self]

/-- Settles O26: each command's equation for the case named, and the laws of writes of bytes, fields and tiles read it back. -/
theorem scratchpadAccesses : Obligations.ScratchpadAccesses := by
  unfold Obligations.ScratchpadAccesses
  refine ⟨fun n addr len ecc s => ⟨fun bs hlow hhigh hbank => ⟨fun hgrant => ⟨_, exec_dmWrite_granted hlow hhigh hbank hgrant ecc, ?write⟩,
      fun hrefuse => ⟨_, exec_dmWrite_refused hlow hhigh hbank hrefuse ecc, mem_spRecord _ _ _ _ _, congrArg _ (out_spRecord _ _ _ _ _)⟩⟩,
      fun hlow hbank hgrant => ⟨_, exec_dmRead_granted hlow hbank hgrant ecc, ?read⟩, fun h => exec_dmRead_illFormed h ecc⟩,
    fun m n off v ecc s => ?aperture, fun n read s => ?timeout,
    fun m n master r v s => ⟨fun hm => ⟨_, exec_regionRegisterWrite_refused master r v hm, rd_regionWriteRefused s m n nofun, tiles_regionWriteRefused s m n⟩,
      fun hm hidle => ⟨_, exec_regionRegisterWrite_now master r v hm hidle, rd_wr_self _ _ _, rgnDue_regionWritten s n master r v⟩,
      fun p hm hp hrun => ⟨_, exec_regionRegisterWrite_serving master r v hm hp hrun, rd_onTile _ _ _ _, ?due⟩⟩⟩
  case write =>
    refine ⟨(rdBytes_emit _ _ _ _).trans (rdBytes_wrBytes _ _ bs), ⟨_, emit_out _ _⟩, fun hecc b hb => ?_⟩
    rw [rdByte_emit, rdByte_wrBytes_ne _ _ bs b hb, rdByte_dmChecked hecc]
  case read => exact ⟨_, (emit_out _ _).trans (by rw [rdBytes_emit])⟩
  case aperture =>
    intro page l d hoff hm
    exact ⟨fun hgrant => ⟨_, exec_apertureWrite_granted hoff hm v ecc hgrant, rdBytes_wrBytes _ d (leBytes 8 v.toNat)⟩,
      fun hgrant => ⟨_, exec_apertureRead_granted hoff hm ecc hgrant, _, (emit_out _ _).trans (by rw [rdLe_emit]; rfl)⟩,
      fun hrefuse => ⟨_, exec_apertureRead_refused hoff hm ecc hrefuse, bit_apertureRefused s m n off, _, emit_out _ _⟩⟩
  case timeout =>
    refine ⟨_, rfl, ?_⟩
    cases read
    · exact ⟨bit_wrBit_self s _ true (by decide), rfl⟩
    · exact ⟨bit_wrBit_self s _ true (by decide), rfl⟩
  case due => rw [tile_onTile_self, mapFind_mapInsert_self]

end Sys2Proof.Machine
end

section
/-! SUPPORT. LPDDR5X requests, regions, patrol and tracking (R192 to R196, R199, R202, R203, R423). -/
set_option Elab.async false
namespace Sys2Proof.Machine

theorem mem_addPage (l : List Nat) (p : Nat) : p ∈ addPage l p := by
  unfold addPage
  split
  next h => exact List.contains_iff_mem.1 h
  next => exact List.mem_cons_self

/-! ### Requests (R193, R196, R199) -/

/-- Check bits that report no uncorrectable error touch a controller's counter alone (R199). -/
theorem lpxEcc_keeps_of_ne {ecc : Ecc} (h : ecc ≠ .uncorrectable) (s : State) (a : Nat) : Keeps (1 <<< 102) s (lpxEcc s a ecc) := by
  cases ecc with
  | clean => exact .refl s
  | corrected => exact count_keeps (.refl s) _ _ rfl
  | uncorrectable => exact absurd rfl h

/-- Which pages a checkpoint still holds stands in its records and its status register. -/
theorem Keeps.cowHeld_eq {F : Nat} {s t : State} (h : Keeps F s t) (hckp : F.testBit 16 = false) (hstat : F.testBit 215 = false) (p : Nat) : cowHeld t p = cowHeld s p := by
  funext g
  rw [cowHeld, ckpState, rdFld, h.rd_eq (r := .ckpPstat p) hstat, ckpOf, h.ckp.eq hckp]
  rfl

/-- What a write's read of a partly covered line reports; a write of whole lines reads nothing first (R193). -/
def writeEcc (addr len : Nat) (ecc : Ecc) : Ecc := if readsFirst addr len then ecc else .clean

theorem writeEcc_ne {addr len : Nat} {ecc : Ecc} (h : ecc ≠ .uncorrectable ∨ readsFirst addr len = false) : writeEcc addr len ecc ≠ .uncorrectable := by
  unfold writeEcc
  split
  next hreads => exact h.resolve_right (by simp [hreads])
  next => decide

/-- The bytes of a write stand in the memory: a requester's own are marked for the checkpoints, the loader's are not (R423). -/
def lpxStored (s : State) (q : Requester) (addr : Nat) (bs : List Byte) : State :=
  match q with
  | .loader _ _ => wrBytesQuiet (clearBad s addr bs.length) addr bs
  | _ => wrBytes (clearBad s addr bs.length) addr bs

/-- Marks for the checkpoints bear on no byte. -/
theorem lpxStored_eq (s : State) (q : Requester) (addr : Nat) (bs : List Byte) :
    (lpxStored s q addr bs).mem = (wrBytes s addr bs).mem ∧ (lpxStored s q addr bs).fresh = (wrBytes s addr bs).fresh ∧ (lpxStored s q addr bs).out = s.out := by
  cases q <;> exact ⟨rfl, rfl, rfl⟩

section
variable {s : State} {q : Requester} {addr r : Nat} {ecc : Ecc}

/-- A permitted write that meets no uncorrectable error, and no page that a checkpoint holds, is performed. -/
theorem exec_lpxWrite {bs : List Byte} (hgrant : lpxPermits s q addr bs.length = some r) (hecc : ecc ≠ .uncorrectable ∨ readsFirst addr bs.length = false)
    (hfree : r < 12 → (pagesOf addr bs.length).any (cowHeld s r) = false) (len : Nat) :
    exec (.lpxRequest q addr len (some bs) ecc) s = .next (emit (lpxStored (lpxEcc s addr (writeEcc addr bs.length ecc)) q addr bs) (.memory 0 [])) := by
  have hwrite := writeEcc_ne hecc
  have hunheld : ¬(r < 12 ∧ (pagesOf addr bs.length).any (cowHeld (lpxEcc s addr (writeEcc addr bs.length ecc)) r) = true) := by
    rintro ⟨hr, hany⟩
    rw [(lpxEcc_keeps_of_ne hwrite s addr).cowHeld_eq rfl rfl, hfree hr] at hany
    cases hany
  have hreport : (if (some bs).isSome && !readsFirst addr bs.length then Ecc.clean else ecc) = writeEcc addr bs.length ecc := by
    rw [writeEcc, Option.isSome_some, Bool.true_and]
    cases readsFirst addr bs.length <;> rfl
  simp only [exec, execLpxRequest, hgrant, hreport, hwrite, false_and, if_false]
  cases q <;> simp only [hunheld, if_false] <;> rfl

/-- A permitted read that meets no uncorrectable error answers the bytes. -/
theorem exec_lpxRead {len : Nat} (hgrant : lpxPermits s q addr len = some r) (hecc : ecc ≠ .uncorrectable) :
    exec (.lpxRequest q addr len none ecc) s = .next (emit (lpxEcc s addr ecc) (.memory 0 (rdBytes (lpxEcc s addr ecc) addr len))) := by
  simp [exec, execLpxRequest, hgrant, hecc]

theorem exec_lpxRead_refused {len : Nat} (hrefuse : lpxPermits s q addr len = none) :
    exec (.lpxRequest q addr len none ecc) s = .next (emit (lpxRefused s q addr) (.memory 1 [])) := by
  simp only [exec, execLpxRequest, hrefuse]

end

/-! ### Regions (R194, R195, R423) -/

/-- A region opens: enabled, with a fresh key, its owner set where it is a firmware region, and its pages out of the checkpoints' sets. -/
def regionOpened (s : State) (n : Fin 32) : State :=
  let s1 := newKey (wrBit s (.lpxRgnctl n) 31 true) n
  let s2 := if n.val < 16 then s1 else { s1 with ram := { s1.ram with owner := mapInsert s1.ram.owner n (1 + Config.regionOwner s.fresh n % 4) } }
  forgetDirty s2 (rdFld s (.lpxRgnbase n) 13 0 * 0x1000000) (rdFld s (.lpxRgnsize n) 13 0 * 0x1000000)

/-- A region whose enable is refused stays disabled without a key, and an event says why. -/
def regionRefused (s : State) (m : Master) (n : Fin 32) (why : Nat) : State :=
  recordEvent (wrFld s (.lpxRgnctl n) 31 30 0) 0x0603 moduleEvent 2 islFabric n (BitVec.ofNat 32 (masterNo m)) why

section
variable {s : State} {m : Master} {n : Fin 32}

theorem exec_regionEnable_opens (hm : mayProgramRegions s m = true) (hoff : bit (rd s (.lpxRgnctl n)) 31 = false) (hsize : rdFld s (.lpxRgnsize n) 13 0 ≠ 0)
    (hend : rdFld s (.lpxRgnbase n) 13 0 + rdFld s (.lpxRgnsize n) 13 0 ≤ 14336)
    (hapart : ∀ k < 32, bit (rd s (.lpxRgnctl k)) 31 = true → overlaps (rdFld s (.lpxRgnbase n) 13 0) (rdFld s (.lpxRgnsize n) 13 0) (rdFld s (.lpxRgnbase k) 13 0)
      (rdFld s (.lpxRgnsize k) 13 0) = false) : exec (.regionEnable m n) s = .next (regionOpened s n) := by
  have hfits : ¬(rdFld s (.lpxRgnsize n) 13 0 = 0 ∨ 14336 < rdFld s (.lpxRgnbase n) 13 0 + rdFld s (.lpxRgnsize n) 13 0) := by omega
  have halone : (List.range 32).any (fun k => bit (rd s (.lpxRgnctl k)) 31
      && overlaps (rdFld s (.lpxRgnbase n) 13 0) (rdFld s (.lpxRgnsize n) 13 0) (rdFld s (.lpxRgnbase k) 13 0) (rdFld s (.lpxRgnsize k) 13 0)) = false := by
    refine List.any_eq_false.2 fun k hk => ?_
    rw [Bool.and_eq_true]
    rintro ⟨hon, hover⟩
    rw [hapart k (List.mem_range.1 hk) hon] at hover
    cases hover
  simp only [exec, execRegionEnable, hm, hoff, if_neg hfits, halone, Bool.not_true, Bool.false_eq_true, if_false]
  rfl

theorem exec_regionEnable_empty (hm : mayProgramRegions s m = true) (hoff : bit (rd s (.lpxRgnctl n)) 31 = false) (hsize : rdFld s (.lpxRgnsize n) 13 0 = 0) :
    exec (.regionEnable m n) s = .next (regionRefused s m n 2) := by
  simp only [exec, execRegionEnable, hm, hoff, hsize, true_or, Bool.not_true, Bool.false_eq_true, if_false, if_true]
  rfl

theorem exec_regionDisable_closes (hm : mayProgramRegions s m = true) : exec (.regionDisable m n) s = .next (closeRegion s n) := by
  simp only [exec, execRegionDisable, hm, if_true]

theorem exec_regionEnable_refused (hm : mayProgramRegions s m = false) : exec (.regionEnable m n) s = .next (regionWriteRefused s m n) := by
  simp only [exec, execRegionEnable, hm, Bool.not_false, if_true]

theorem exec_regionDisable_refused (hm : mayProgramRegions s m = false) : exec (.regionDisable m n) s = .next (regionWriteRefused s m n) := by
  simp only [exec, execRegionDisable, hm, Bool.false_eq_true, if_false]

end

@[simp] theorem rd_ram (s : State) (x : MemState) (r : Reg) : rd { s with ram := x } r = rd s r := rfl
@[simp] theorem rd_forgetDirty (s : State) (base size : Nat) (r : Reg) : rd (forgetDirty s base size) r = rd s r := rfl

theorem rd_newKey_self (s : State) (n : Nat) : rd (newKey s n) (.lpxRgnctl n) = setBit (rd s (.lpxRgnctl n)) 30 true := rd_wr_self _ _ _

/-- The owner of a firmware region is no register. -/
theorem rd_regionOpened (s : State) (n : Fin 32) : rd (regionOpened s n) (.lpxRgnctl n) = setBit (setBit (rd s (.lpxRgnctl n)) 31 true) 30 true := by
  have hkey : rd (newKey (wrBit s (.lpxRgnctl n) 31 true) n) (.lpxRgnctl n) = setBit (setBit (rd s (.lpxRgnctl n)) 31 true) 30 true := by
    rw [rd_newKey_self, rd_wrBit, if_pos rfl]
  rw [regionOpened, rd_forgetDirty]
  split
  · exact hkey
  · rw [rd_ram, hkey]

theorem regionOpen_regionOpened (s : State) (n : Fin 32) : regionOpen (regionOpened s n) n = true := by
  rw [regionOpen, rd_regionOpened, bit_setBit _ _ _ _ (by decide), bit_setBit _ _ _ _ (by decide), bit_setBit _ _ _ _ (by decide)]
  rfl

/-- The key is the value drawn. -/
theorem key_regionOpened (s : State) (n : Fin 32) : mapFind (regionOpened s n).ram.keys n = some s.fresh := by
  unfold regionOpened
  split <;> exact mapFind_mapInsert_self _ _ _

theorem fresh_regionOpened (s : State) (n : Fin 32) : (regionOpened s n).fresh = s.fresh + 1 := by
  unfold regionOpened
  split <;> rfl

/-- No page of the region is left in a checkpoint's set (R423). -/
theorem dirty_regionOpened (s : State) (n : Fin 32) :
    ∀ g ∈ (regionOpened s n).dirtyC ++ (regionOpened s n).dirtyD, g * 0x10000 < regionBase s n ∨ regionBase s n + regionSize s n ≤ g * 0x10000 := by
  intro g hg
  have hkept : ∀ l : List Nat, g ∈ l.filter (fun g => decide (g * 0x10000 < regionBase s n) || decide (regionBase s n + regionSize s n ≤ g * 0x10000)) →
      g * 0x10000 < regionBase s n ∨ regionBase s n + regionSize s n ≤ g * 0x10000 := fun l hl => by simpa using (List.mem_filter.1 hl).2
  exact (List.mem_append.1 hg).elim (hkept _) (hkept _)

theorem regionOpen_regionRefused (s : State) (m : Master) (n : Fin 32) (why : Nat) : regionOpen (regionRefused s m n why) n = false := by
  have hctl : rd (regionRefused s m n why) (.lpxRgnctl n) = setFld (rd s (.lpxRgnctl n)) 31 30 0 := (rd_recordEvent _ _ _ _ _ _ _ _ (by nofun)).trans (rd_wr_self _ _ _)
  rw [regionOpen, hctl, bit_setFld _ _ _ _ _ (by decide) (by decide), if_pos (by decide), Nat.zero_testBit, Bool.false_and]

/-- The log entries of a closed region go, and its control register is left without its enable and its key. -/
theorem rd_closeRegion (s : State) (n : Nat) : rd (closeRegion s n) (.lpxRgnctl n) = setBit (setBit (rd s (.lpxRgnctl n)) 30 false) 31 false := by
  have hdisabled : rd (wrBit (eraseKey s n) (.lpxRgnctl n) 31 false) (.lpxRgnctl n) = setBit (setBit (rd s (.lpxRgnctl n)) 30 false) 31 false := by
    rw [rd_wrBit, if_pos rfl, eraseKey, rd_wrBit, if_pos rfl, rd_ram]
  rw [closeRegion, rd_ram]
  refine forAll_inv (P := fun u => rd u (.lpxRgnctl n) = setBit (setBit (rd s (.lpxRgnctl n)) 30 false) 31 false) (fun u k hu => ?_) _ _ (by rw [rd_ram, hdisabled])
  split
  · exact (rd_wr_ne _ _ (by nofun)).trans hu
  · exact hu

theorem closed_closeRegion (s : State) (n : Nat) : bit (rd (closeRegion s n) (.lpxRgnctl n)) 31 = false ∧ bit (rd (closeRegion s n) (.lpxRgnctl n)) 30 = false := by
  rw [rd_closeRegion, bit_setBit _ 31 31 _ (by decide), bit_setBit _ 31 30 _ (by decide), bit_setBit _ 30 30 _ (by decide)]
  exact ⟨rfl, rfl⟩

/-! ### Patrol (R199 to R203) -/

/-- A patrol of a line of no region reports what the check bits say. -/
theorem exec_patrolRead {s : State} {line : Nat} (hon : rdFld s .lpxPatrol 7 0 ≠ 0) (hline : line * 64 < 0x3800000000) (hregion : regionOf s (line * 64) = none) (ecc : Ecc) :
    exec (.patrolRead line ecc) s = .next (lpxEcc s (line * 64) ecc) := by
  have hreads : ¬(rdFld s .lpxPatrol 7 0 = 0 ∨ 0x3800000000 ≤ line * 64 ∨ False) := by simp only [hon, Nat.not_le.2 hline, or_false, not_false_eq_true]
  simp only [exec, execPatrolRead, hregion, Bool.false_eq_true, if_neg hreads]

theorem exec_patrolRead_off {s : State} (hoff : rdFld s .lpxPatrol 7 0 = 0) (line : Nat) (ecc : Ecc) : exec (.patrolRead line ecc) s = .next s := by
  simp only [exec, execPatrolRead, hoff, true_or, if_true]

/-- A line's uncorrectable error is counted, its line kept, and its page logged under a region or under 31 (log entry 125). -/
def uncorrectableLogged (s : State) (a : Nat) : State :=
  logPage (count { s with ram := { s.ram with bad := addPage s.ram.bad (a / 64) } } .lpxUecnt 1) ((regionOf s a).getD 31) (a / 0x10000)

/-- Staged copies stand in the checkpoints' records and status registers. -/
theorem Keeps.stagedAt_eq {F : Nat} {s t : State} (h : Keeps F s t) (hckp : F.testBit 16 = false) (hstat : F.testBit 215 = false) (p a : Nat) : stagedAt t p a = stagedAt s p a := by
  rw [stagedAt, ckpState, rdFld, h.rd_eq (r := .ckpPstat p) hstat, ckpOf, h.ckp.eq hckp]
  rfl

theorem uncorrectableLogged_keeps (s : State) (a : Nat) : Keeps 0x98000000000000000000008000 s (uncorrectableLogged s a) :=
  logPage_keeps (count_keeps (.mk_ (.refl s) rfl rfl id id (h_ram := .inl rfl)) _ _ rfl) _ _ rfl

/-- A log entry is no count of errors, and leaves the lost lines as they are. -/
theorem uncorrectableLogged_shows (s : State) (a : Nat) : rd (uncorrectableLogged s a) .lpxUecnt = satAdd (rd s .lpxUecnt) 1 ∧ a / 64 ∈ (uncorrectableLogged s a).ram.bad := by
  have hlog := logPage_keeps (.refl (count { s with ram := { s.ram with bad := addPage s.ram.bad (a / 64) } } .lpxUecnt 1)) ((regionOf s a).getD 31) (a / 0x10000) (.self _)
  rw [uncorrectableLogged, hlog.rd_eq rfl, hlog.ram.eq rfl, rd_count, if_pos rfl]
  exact ⟨rfl, mem_addPage _ _⟩

/-- With no staged copy there, an error of no region reaches past its log an event and the memory's owner alone. -/
theorem lpxUncorrectable_keeps_logged {s : State} {a : Nat} (hregion : regionOf s a = none) (hunstaged : ∀ p < 12, stagedAt s p a = false) :
    Keeps 0x1000000000000000000000000000000000000000000000000000000900 (uncorrectableLogged s a) (lpxUncorrectable s a) := by
  have hevent : ∀ v, Keeps 0x1000000000000000000000000000000000000000000000000000000900 (uncorrectableLogged s a)
      (recordEvent (uncorrectableLogged s a) 0x0601 moduleEvent 3 islFabric 0xFF v 0xFF) := fun v => recordEvent_keeps (.refl _) _ _ _ _ _ _ _ rfl
  have hnone : ∀ v (f : State → Nat → State), forAll (fun s p => if stagedAt s p a then f s p else s)
      (recordEvent (uncorrectableLogged s a) 0x0601 moduleEvent 3 islFabric 0xFF v 0xFF) allPlots
        = recordEvent (uncorrectableLogged s a) 0x0601 moduleEvent 3 islFabric 0xFF v 0xFF := fun v f =>
    forAll_inv_of_mem (P := fun u => u = recordEvent (uncorrectableLogged s a) 0x0601 moduleEvent 3 islFabric 0xFF v 0xFF) (fun u p hp hu => by
      subst hu
      rw [(hevent v).stagedAt_eq rfl rfl, (uncorrectableLogged_keeps s a).stagedAt_eq rfl rfl, hunstaged p (List.mem_range.1 hp)]
      rfl) rfl
  unfold lpxUncorrectable
  rw [uncorrectableLogged, hregion] at *
  simp only [Option.getD_none] at *
  rw [if_neg (by decide), hnone, if_neg (by decide)]
  split
  · exact irqCores_keeps (hevent _) _ _ rfl
  · exact hevent _

/-! ### Tracking (R192, R203) -/

/-- A tracking that falls due during a rate change waits for its end. -/
theorem exec_dqsTracking (c : Fin 16) (s : State) : exec (.dqsTracking c) s
    = .next (if s.power.changing.isSome then { s with ram := { s.ram with trackDue := addPage s.ram.trackDue c } } else s) := rfl

/-- Settles O27: requests, regions and patrol reads by their equations, each with the case's guard decided by the hypotheses. -/
theorem lpxRequestsAndRegions : Obligations.LpxRequestsAndRegions := by
  unfold Obligations.LpxRequestsAndRegions
  refine ⟨fun q addr len ecc r s => ⟨fun bs hgrant hecc hfree => ⟨_, exec_lpxWrite hgrant hecc hfree len, ?write⟩,
      fun hgrant hecc => ⟨_, exec_lpxRead hgrant hecc, ?read⟩, fun hrefuse => ⟨_, exec_lpxRead_refused hrefuse, ?refused⟩⟩,
    fun m n s hm => ⟨fun hoff hsize hend hapart => ⟨_, exec_regionEnable_opens hm hoff hsize hend hapart, regionOpen_regionOpened s n,
        fresh_regionOpened s n, key_regionOpened s n, dirty_regionOpened s n⟩,
      fun hoff hsize => ⟨_, exec_regionEnable_empty hm hoff hsize, regionOpen_regionRefused s m n 2⟩, ⟨_, exec_regionDisable_closes hm, closed_closeRegion s n⟩⟩,
    fun m n s hm => ⟨⟨_, exec_regionEnable_refused hm, rd_regionWriteRefused s m n nofun⟩, ⟨_, exec_regionDisable_refused hm, rd_regionWriteRefused s m n nofun⟩⟩,
    fun line ecc s => ⟨fun hoff => exec_patrolRead_off hoff line ecc,
      fun hon hline hregion => ⟨_, exec_patrolRead hon hline hregion .corrected, (rd_count _ _ _ _).trans (if_pos rfl)⟩,
      fun hon hline hregion hunstaged => ⟨_, exec_patrolRead hon hline hregion .uncorrectable, ?lost⟩⟩,
    fun c s => ⟨fun hchanging => ⟨_, exec_dqsTracking c s, ?due⟩, fun hsteady => ?steady⟩⟩
  case write =>
    obtain ⟨hmem, hfresh, hout⟩ := lpxStored_eq (lpxEcc s addr (writeEcc addr bs.length ecc)) q addr bs
    have hchecked := lpxEcc_keeps_of_ne (writeEcc_ne hecc) s addr
    refine ⟨?_, ?_, fun b hb => ?_⟩
    · rw [rdBytes_emit, rdBytes_of_eq hmem hfresh, rdBytes_wrBytes]
    · rw [emit_out, hout, hchecked.out.eq rfl]
    · rw [rdByte_emit, rdByte_of_eq hmem hfresh, rdByte_wrBytes_ne _ _ _ _ hb, hchecked.rdByte_eq rfl rfl]
  case read =>
    have hchecked := lpxEcc_keeps_of_ne hecc s addr
    refine ⟨hchecked.mem.eq rfl, ?_⟩
    rw [emit_out, rdBytes_of_eq (hchecked.mem.eq rfl) (hchecked.fresh.eq rfl), hchecked.out.eq rfl]
  case refused =>
    have hrecorded := lpxRefused_keeps (.refl s) q addr (.self _)
    exact ⟨hrecorded.mem.eq rfl, congrArg _ (hrecorded.out.eq rfl)⟩
  case lost =>
    have hrest := lpxUncorrectable_keeps_logged hregion hunstaged
    dsimp only [lpxEcc]
    rw [hrest.rd_eq rfl, hrest.ram.eq rfl]
    exact uncorrectableLogged_shows s (line * 64)
  case due =>
    rw [if_pos (Option.isSome_iff_ne_none.2 hchanging)]
    exact mem_addPage _ _
  case steady =>
    rw [exec_dqsTracking, hsteady]
    rfl

end Sys2Proof.Machine
end

section
/-! SUPPORT. The functions' logs of received faults (AER): only a fault received, or a completion without a read, writes them, so all that a failed read sets going leaves them alone. -/
set_option Elab.async false
namespace Sys2Proof.Machine

/-- Every function's log of faults is as it was. -/
def SameAer (s t : State) : Prop := ∀ f, (fnState t f).aer = (fnState s f).aer

theorem SameAer.refl (s : State) : SameAer s s := fun _ => rfl
theorem SameAer.trans {s t u : State} (h : SameAer s t) (k : SameAer t u) : SameAer s u := fun f => (k f).trans (h f)
theorem SameAer.ite {s0 a b : State} {c : Prop} {d : Decidable c} (ha : SameAer s0 a) (hb : SameAer s0 b) : SameAer s0 (if c then a else b) := by split <;> assumption

theorem SameAer.foldl {α : Type} {s0 s : State} (h : SameAer s0 s) (f : State → α → State) (l : List α) (hf : ∀ s a, SameAer s (f s a)) : SameAer s0 (l.foldl f s) := by
  induction l generalizing s with
  | nil => exact h
  | cons a rest ih => exact ih (h.trans (hf s a))

theorem SameAer.forAll {s0 s : State} (h : SameAer s0 s) (f : State → Nat → State) (l : List Nat) (hf : ∀ s n, SameAer s (f s n)) : SameAer s0 (forAll f s l) :=
  forAll_inv (P := SameAer s0) (fun s n hs => hs.trans (hf s n)) l s h

/-- The footprint of all but the host interface. -/
def beyondHost : Nat := 0x1fffffffffffffffffffffffffffffffffffffffffffffffffffffffbff

/-- An operation that leaves the host interface alone leaves the logs alone. -/
theorem SameAer.keep {s0 s t : State} (h : SameAer s0 s) (k : Keeps beyondHost s t) : SameAer s0 t := fun f => by
  rw [← h f, fnState, k.host.eq rfl, fnState]

/-- So does one that leaves the functions alone. -/
theorem SameAer.of_fns {s0 s t : State} (h : SameAer s0 s) (e : t.host.fns = s.host.fns) : SameAer s0 t := fun f => by rw [← h f, fnState, e, fnState]

theorem recordEvent_sameAer {s0 s : State} (h : SameAer s0 s) (code plot sev island object : Nat) (value : Word) (extra : Nat) :
    SameAer s0 (recordEvent s code plot sev island object value extra) := h.keep (recordEvent_keeps (.refl s) _ _ _ _ _ _ _ rfl)

theorem SameAer.onFn {s0 s : State} (h : SameAer s0 s) (f : Nat) {g : FnState → FnState} (hg : ∀ x, (g x).aer = x.aer) : SameAer s0 (onFn s f g) := fun k => by
  rw [← h k, fnState, Machine.onFn, mapGet_mapInsert]
  split
  next e => rw [hg, e]
  next => rfl

/-! ### Interrupts and messages (R346, R348) -/

theorem sendMsix_sameAer {s0 s : State} (h : SameAer s0 s) (f v : Nat) : SameAer s0 (sendMsix s f v) :=
  .ite (h.onFn f fun _ => rfl) <| .ite h <| .ite (h.onFn f fun _ => rfl) h

theorem raisePme_sameAer {s0 s : State} (h : SameAer s0 s) (f v : Nat) : SameAer s0 (raisePme s f v) := by
  have hpme : SameAer s0 (onFn s f (fun x => { x with pmeStatus := true })) := h.onFn f fun _ => rfl
  exact .ite (.ite hpme (.ite hpme (.ite hpme hpme))) h

theorem signalFn_sameAer {s0 s : State} (h : SameAer s0 s) (f v : Nat) : SameAer s0 (signalFn s f v) := .ite h (sendMsix_sameAer (raisePme_sameAer h f v) f v)

theorem postMsg_sameAer {s0 s : State} (h : SameAer s0 s) (o : Nat) (r : Response) : SameAer s0 (postMsg s o r) := by
  have hposted := h.keep (wr_keeps (onBox_keeps (fillSlotBytes_keeps (.refl s) o r rfl) o (fun b => { b with posted := b.posted ++ [r] }) rfl) (.mbxFfpi o)
    (BitVec.ofNat 32 ((rdFld (onBox (fillSlotBytes s o r) o (fun b => { b with posted := b.posted ++ [r] })) (.mbxFfpi o) 15 0 + 1) % 0x10000)) rfl)
  exact .ite (h.keep (onBox_keeps (.refl s) o _ rfl)) (.ite (hposted.keep (emit_keeps (.refl _) _ rfl)) (signalFn_sameAer hposted o 0))

theorem answer_sameAer {s0 s : State} (h : SameAer s0 s) (o : Nat) (seq : Word) (version type status detail : Nat) (payload : List Byte) :
    SameAer s0 (answer s o seq version type status detail payload) :=
  .ite h (postMsg_sameAer (.ite (h.keep (showRequests_keeps (wr_keeps (onBox_keeps (.refl s) o _ rfl) (.mbxTfci o) _ rfl) rfl)) (h.keep (onBox_keeps (.refl s) o _ rfl))) o _)

/-! ### Saves, and the end of steps (R105, R139) -/

theorem finishSave_sameAer {s0 s : State} (h : SameAer s0 s) (k : CalSave) : SameAer s0 (finishSave s k) := by
  unfold finishSave
  dsimp only
  refine answer_sameAer (fun f => ?_) _ _ _ _ _ _ _
  rw [← h f]
  split <;> split <;> rfl

theorem snapshotTiles_sameAer {s0 s : State} (h : SameAer s0 s) (ts : List Nat) : SameAer s0 (snapshotTiles s ts) := by
  unfold snapshotTiles
  split
  · exact h
  · exact .ite (finishSave_sameAer h _) h

theorem stepEnded_sameAer {s0 s : State} (h : SameAer s0 s) (p : Nat) : SameAer s0 (stepEnded s p) := by
  have hcounted : SameAer s0 (if stepNs s p < stepElapsed s p then count s (.schPovrcnt p) 1 else s) := .ite (h.keep (count_keeps (.refl s) _ _ rfl)) h
  have hended := snapshotTiles_sameAer (hcounted.keep (onPlot_keeps (.refl _) p (fun q => { q with inStep := false }) rfl)) (tilesOf s p)
  have hheld := hended.keep (holdPlot_keeps (.refl _) p rfl)
  exact .ite h <| .ite (hended.keep (holdPlot_keeps (discardUnsent_keeps (wrBit_keeps (wrBit_keeps (.refl _) _ _ _ rfl) _ _ _ rfl) p rfl) p rfl)) <|
    .ite hheld <| .ite hheld hended

/-! ### Faults of tiles and plots (R146, R147) -/

theorem othersStopped_keeps (s : State) (p ft : Nat) : Keeps beyondHost s (othersStopped s p ft) :=
  forAll_keeps (.refl s) _ _ fun _ t h => .ite h (landAll_keeps (setTileRun_keeps (schError_keeps h t 7 0 rfl) t tFaulted rfl) t rfl)

theorem plotFault_sameAer {s0 s : State} (h : SameAer s0 s) (p cause ft : Nat) : SameAer s0 (plotFault s p cause ft) := by
  have hmarked : Keeps beyondHost s (plotMarked s p cause ft) := wrFld_keeps (wrFld_keeps (setPlt_keeps (othersStopped_keeps s p ft) p pltFaulted rfl) _ _ _ _ rfl) _ _ _ _ rfl
  have htold := tellLeader_keeps (discardUnsent_keeps hmarked p rfl) p rfl
  have hsaved := snapshotTiles_sameAer (h.keep (recordEvent_keeps htold 0x0502 p 2 (islTile ft) p
    (rd (tellLeader (discardUnsent (plotMarked s p cause ft) p) p) (.schPstat p)) 0 rfl)) (tilesOf s p)
  exact .ite h (signalFn_sameAer (signalFn_sameAer (hsaved.keep (irqCores_keeps (.refl _) mgmtCores 17 rfl)) 0 3) (p + 1) 3)

theorem tileFaultXid_sameAer {s0 s : State} (h : SameAer s0 s) (t : Nat) (v : Viol) (xid : Nat) : SameAer s0 (tileFaultXid s t v xid) := by
  have hviolated : SameAer s0 (violated s t v xid) := fun f => by rw [← h f, fnState, (violated_keeps s t v xid).host.eq rfl, fnState]
  have hstopped : SameAer s0 (tileStopped s t v xid) := hviolated.keep (landAll_keeps (.refl _) t rfl)
  rw [tileFaultXid_eq]
  split
  · exact plotFault_sameAer hstopped _ _ t
  · exact hstopped

/-! ### Bundles that issue (R119, R127, R128) -/

/-- A slot operation that leaves the host interface alone. -/
theorem SlotOpKeeps.sameAer {o : SlotOp} (h : ∀ s, SlotOpKeeps beyondHost s o) (s : State) : SameAer s (o.issue s) := (SameAer.refl s).keep ((h s).holds s (.refl s))

theorem opEnd_sameAer (sl : Slot) (s : State) : SameAer s ((opEnd sl).issue s) := by
  have hlanded : Keeps beyondHost s (setTileRun (landAll s sl.tile) sl.tile tEnded) := setTileRun_keeps (landAll_keeps (.refl s) _ rfl) _ _ rfl
  have hend : SameAer s (atEnd (landAll s sl.tile) sl.tile) := (SameAer.refl s).keep (forAll_keeps hlanded _ _ fun _ _ h => wr_keeps h _ _ rfl)
  change SameAer s (match plotOf (atEnd (landAll s sl.tile) sl.tile) sl.tile with
    | some p => stepEnded (atEnd (landAll s sl.tile) sl.tile) p
    | none => atEnd (landAll s sl.tile) sl.tile)
  split
  · exact stepEnded_sameAer hend _
  · exact hend

/-- Of the slot operations only the end of a step reaches the host interface, with the answer to a save. -/
theorem slotOp_sameAer (i : Instr) (s : State) : SameAer s ((slotOp i).issue s) := by
  cases i with
  | endOp sl => exact opEnd_sameAer sl s
  | loadiv sl iv b l => exact SlotOpKeeps.sameAer (fun _ => opLoadiv_keeps sl iv b l.toNat rfl) s
  | launch sl a iv d => exact SlotOpKeeps.sameAer (fun _ => opLaunch_keeps sl.tile a.toNat iv d rfl) s
  | rlaunch sl g iv d => exact SlotOpKeeps.sameAer (fun _ => opRlaunch_keeps sl.tile g iv d rfl) s
  | collect sl a d => exact SlotOpKeeps.sameAer (fun _ => opCollect_keeps sl.tile (a.toNat / 16) (a.toNat % 16) d rfl) s
  | rcollect sl g d => exact SlotOpKeeps.sameAer (fun _ => opCollect_keeps sl.tile g 16 d rfl) s
  | vecFma sl o => exact SlotOpKeeps.sameAer (fun _ => opVecFma_keeps sl o rfl) s
  | vecAdd sl o => exact SlotOpKeeps.sameAer (fun _ => opVecAdd_keeps sl o rfl) s
  | vecMul sl o => exact SlotOpKeeps.sameAer (fun _ => opVecMul_keeps sl o rfl) s
  | max sl o => exact SlotOpKeeps.sameAer (fun _ => opMax_keeps sl o rfl) s
  | min sl o => exact SlotOpKeeps.sameAer (fun _ => opMin_keeps sl o rfl) s
  | cvt sl o => exact SlotOpKeeps.sameAer (fun _ => opCvt_keeps sl o rfl) s
  | func sl o => exact SlotOpKeeps.sameAer (fun _ => opFunc_keeps sl o rfl) s
  | rsum sl o => exact SlotOpKeeps.sameAer (fun _ => opRsum_keeps sl o rfl) s
  | rmax sl o => exact SlotOpKeeps.sameAer (fun _ => opRmax_keeps sl o rfl) s
  | mxenc sl o => exact SlotOpKeeps.sameAer (fun _ => opMxenc_keeps sl o rfl) s
  | mxdec sl o => exact SlotOpKeeps.sameAer (fun _ => opMxdec_keeps sl o rfl) s
  | route sl o => exact SlotOpKeeps.sameAer (fun _ => opRoute_keeps sl o rfl) s
  | sample sl o => exact SlotOpKeeps.sameAer (fun _ => opSample_keeps sl o rfl) s
  | mma sl c d => exact SlotOpKeeps.sameAer (fun _ => opMma_keeps sl c d true rfl) s
  | mmaz sl c d => exact SlotOpKeeps.sameAer (fun _ => opMma_keeps sl c d false rfl) s
  | drain sl c f v r => exact SlotOpKeeps.sameAer (fun _ => opDrain_keeps sl c f v r rfl) s
  | ld sl b a v p => exact SlotOpKeeps.sameAer (fun _ => opLd_keeps sl b a v p rfl) s
  | st sl b a v p => exact SlotOpKeeps.sameAer (fun _ => opSt_keeps sl b a v p rfl) s
  | cpy sl b a c l => exact SlotOpKeeps.sameAer (fun _ => opCpy_keeps sl b a c l rfl) s
  | ctlWait sl n => exact SlotOpKeeps.sameAer (fun _ => opCtlWait_keeps sl n rfl) s
  | loop sl n => exact SlotOpKeeps.sameAer (fun _ => opLoop_keeps sl n rfl) s
  | endloop sl => exact SlotOpKeeps.sameAer (fun _ => opEndloop_keeps sl rfl) s
  | seedld sl b l w => exact SlotOpKeeps.sameAer (fun _ => opSeedld_keeps sl b l w rfl) s
  | fallow sl w l f => exact SlotOpKeeps.sameAer (fun _ => opFallow_keeps sl w l f rfl) s
  | send sl x => exact SlotOpKeeps.sameAer (fun _ => opSend_keeps sl x rfl) s
  | xngWait sl x => exact SlotOpKeeps.sameAer (fun _ => opXngWait_keeps sl x rfl) s
  | lread sl x => exact SlotOpKeeps.sameAer (fun _ => opLread_keeps sl x rfl) s
  | free sl x => exact SlotOpKeeps.sameAer (fun _ => opFree_keeps sl x rfl) s
  | _ => exact .refl s

theorem issueAll_sameAer {s0 s : State} (h : SameAer s0 s) (ops : List Instr) : SameAer s0 (issueAll s ops) := h.foldl _ ops fun s i => slotOp_sameAer i s

theorem judge_sameAer {s0 s : State} (h : SameAer s0 s) (sl : Slot) (ops : List Instr) : SameAer s0 (judge s sl ops) := by
  have hpresented := h.keep (presented_keeps (.refl s) sl rfl)
  have hcharged := hpresented.keep (chargeBank_keeps (.refl _) sl.tile sl.cyc ops (!(bundleHolds (presented s sl) sl.tile ops).isEmpty) rfl)
  have hfree := hcharged.keep (unheld_keeps (.refl _) sl.tile rfl)
  exact .ite (tileFaultXid_sameAer hpresented _ _ 0) <| .ite (hcharged.keep (holdBundle_keeps (.refl _) _ _ _ rfl)) <|
    .ite (tileFaultXid_sameAer hfree _ _ 0) (issueAll_sameAer (hfree.keep (issuing_keeps (.refl _) sl ops rfl)) ops)

theorem judgeHeld_sameAer {s0 s : State} (h : SameAer s0 s) (t : Nat) : SameAer s0 (judgeHeld s t) := by
  unfold judgeHeld
  dsimp only
  split
  · exact judge_sameAer (h.keep (onTile_keeps (.refl s) t _ rfl)) _ _
  · exact h

theorem release_sameAer {s0 s : State} (h : SameAer s0 s) (n : Nat) (l : List Nat) : SameAer s0 (release n l s) := by
  induction n generalizing l s with
  | zero => unfold release; exact h
  | succ n ih =>
    cases l with
    | nil => unfold release; exact h
    | cons t rest => exact ih (judgeHeld_sameAer h t) _

theorem chargeWait_sameAer {s0 s : State} (h : SameAer s0 s) (waited t : Nat) : SameAer s0 (chargeWait waited s t) := by
  have hcharged := h.keep (chargeStall_keeps (.refl s) t (rdFld s (.schStatus t) 25 23 - 1) waited rfl)
  unfold chargeWait
  dsimp only
  split
  · exact h
  · split
    · exact hcharged
    · exact .ite (tileFaultXid_sameAer hcharged t _ _) hcharged

theorem retry_sameAer {s0 s : State} (h : SameAer s0 s) (ts : List Nat) (waited : Nat) : SameAer s0 (retry s ts waited) :=
  release_sameAer (h.forAll _ ts fun s t => chargeWait_sameAer (.refl s) waited t) 256 _

theorem wakeTile_sameAer {s0 s : State} (h : SameAer s0 s) (t waited : Nat) : SameAer s0 (wakeTile s t waited) := .ite (retry_sameAer h [t] waited) h

/-- The loss or the end of feeds lets bundles issue that waited for them. -/
theorem feedRelease_sameAer {s0 s : State} (h : SameAer s0 s) (waited : Nat) : SameAer s0 (feedRelease waited s) := by
  refine h.forAll _ allPlots fun s p => SameAer.foldl (.refl s) _ _ fun s e => ?_
  split
  · exact .ite (SameAer.foldl (.refl s) _ _ fun s i => wakeTile_sameAer ((SameAer.refl s).keep (dropFlight_keeps (.refl s) p e.1 i rfl)) _ waited) (.refl s)
  · exact .refl s

/-! ### Requests to the host (R337, R341 to R343) -/

theorem fillAtc_sameAer {s0 s : State} (h : SameAer s0 s) : SameAer s0 (fillAtc s) := by
  refine (h.of_fns (t := onHost s (fun h => { h with granted := [] })) rfl).foldl _ _ fun s e => ?_
  unfold atcInsert
  split
  · exact (SameAer.refl s).of_fns rfl
  · dsimp only
    split <;> exact (SameAer.refl s).of_fns rfl

theorem transmit_sameAer {s0 s : State} (h : SameAer s0 s) (r : HostReq) (addr : Nat) : SameAer s0 (transmit s r addr) := by
  unfold transmit
  refine .ite (.ite (h.keep (staleResult_keeps (.refl s) _ rfl)) (.ite h h)) ?_
  split <;> exact h.of_fns rfl

theorem issueReq_sameAer {s0 s : State} (h : SameAer s0 s) (r : HostReq) : SameAer s0 (issueReq s r) := by
  have hwaits : SameAer s0 (onHost s (fun h => { h with waiting := h.waiting ++ [r] })) := h.of_fns rfl
  unfold issueReq
  refine .ite h <| .ite (h.of_fns rfl) <| .ite hwaits <| .ite (transmit_sameAer h r _) ?_
  split
  · refine transmit_sameAer ?_ _ _
    exact h.of_fns rfl
  · exact .ite hwaits (h.of_fns rfl)

theorem retryHost_sameAer {s0 s : State} (h : SameAer s0 s) : SameAer s0 (retryHost s) :=
  ((fillAtc_sameAer h).of_fns (t := onHost (fillAtc s) (fun h => { h with waiting := [] })) rfl).foldl _ _ fun s r => issueReq_sameAer (.refl s) r

theorem endInvalidation_sameAer {s0 s : State} (h : SameAer s0 s) (v : Invalidation) : SameAer s0 (endInvalidation s v) :=
  h.of_fns rfl

theorem drainInvalidations_sameAer {s0 s : State} (h : SameAer s0 s) : SameAer s0 (drainInvalidations s) :=
  h.foldl _ _ fun s v => endInvalidation_sameAer (.refl s) v

/-! ### A read that failed, and the engine it was for (R343) -/

theorem stgSignal_sameAer {s0 s : State} (h : SameAer s0 s) (n : Nat) (gen : Option Nat) : SameAer s0 (stgSignal s n gen) := by
  have hpending := h.keep (wrBit_keeps (.refl s) (.stgCpend (n / 32)) (n % 32) true rfl)
  exact .ite (hpending.keep (irqCores_keeps (.refl _) _ _ rfl)) <| .ite (signalFn_sameAer hpending _ 1) <| .ite (signalFn_sameAer hpending 0 1) hpending

theorem helloDone_sameAer {s0 s : State} (h : SameAer s0 s) (o : Nat) : SameAer s0 (helloDone s o) := by
  have htaken := h.keep (onBox_keeps (.refl s) o (fun b => { b with helloDue := none }) rfl)
  unfold helloDone
  split
  · exact h
  · refine .ite h (answer_sameAer ?_ _ _ _ _ _ _ _)
    refine .ite htaken (.onFn ?_ o fun _ => rfl)
    exact .ite (htaken.of_fns rfl) htaken

theorem stgUnbindDone_sameAer {s0 s : State} (h : SameAer s0 s) (b : Nat) : SameAer s0 (stgUnbindDone s b) := by
  unfold stgUnbindDone
  split
  · split
    · exact .ite h (answer_sameAer (h.keep (onStg_keeps (.refl s) _ rfl)) _ _ _ _ _ _ _)
    · exact h
  · exact h

theorem stgEnd_sameAer {s0 s : State} (h : SameAer s0 s) (n code detail : Nat) : SameAer s0 (stgEnd s n code detail) := by
  unfold stgEnd
  split
  · exact h
  · refine helloDone_sameAer (.keep (stgUnbindDone_sameAer (.ite (.keep ?signalled (wrFld_keeps (.refl _) _ _ _ _ rfl)) ?signalled) _) (ckpStorageEnd_keeps (.refl _) n _ code rfl)) _
    refine .ite (stgSignal_sameAer ?_ n _) ?_
    all_goals exact h.of_fns rfl

theorem dropSource_sameAer {s0 s : State} (h : SameAer s0 s) (q : HostSource) : SameAer s0 (dropSource s q) := h.of_fns rfl

theorem ringFail_sameAer {s0 s : State} (h : SameAer s0 s) (p : Nat) : SameAer s0 (ringFail s p) :=
  (dropSource_sameAer h (.ring p)).of_fns rfl

theorem feedDrop_sameAer {s0 s : State} (h : SameAer s0 s) (k p : Nat) : SameAer s0 (feedDrop s k p) := by
  have hcounted : SameAer s0 (count s .hifFeeddrop 1) := h.of_fns rfl
  refine .ite hcounted (recordEvent_sameAer ?_ _ _ _ _ _ _ _)
  exact h.of_fns rfl

/-- A host access error, counted and recorded (R343). -/
def errorTold (s : State) (q : HostSource) : State :=
  recordEvent (count s .hifHaerr 1) 0x0A02 (fnPlot (governing s q)) 1 islPcie (governing s q) (rd (count s .hifHaerr 1) .hifHaerr) 0

theorem hostError_sameAer {s0 s : State} (h : SameAer s0 s) (q : HostSource) : SameAer s0 (hostError s q) := by
  have htold : SameAer s0 (errorTold s q) := recordEvent_sameAer (h.of_fns (t := count s .hifHaerr 1) rfl) _ _ _ _ _ _ _
  cases q with
  | storage n =>
    refine dropSource_sameAer (stgEnd_sameAer ?_ n 6 0) _
    split
    · exact htold.keep (dropOp_keeps (.refl _) _ rfl)
    · exact htold
  | ring p => exact ringFail_sameAer htold p
  | backing cid => exact htold.keep (fetchFail_keeps (.refl _) cid rfl)
  | feed k => exact feedDrop_sameAer htold k _

/-- Past its count, a host access error changes no count of errors. -/
theorem hostError_keeps_counted {F : Nat} {s0 s : State} (h : Keeps F s0 (count s .hifHaerr 1)) (q : HostSource)
    (hF : Within 0x100280000001040a80088000000300000000000000000000000037cf0c F) : Keeps F s0 (hostError s q) := by
  have htold : Keeps F s0 (errorTold s q) := recordEvent_keeps h _ _ _ _ _ _ _ (hF.via rfl)
  cases q with
  | storage n =>
    refine dropSource_keeps (stgEnd_keeps ?_ n 6 0 (hF.via rfl)) _ (hF.via rfl)
    split
    · exact dropOp_keeps htold _ (hF.via rfl)
    · exact htold
  | ring p => exact ringFail_keeps htold p (hF.via rfl)
  | backing cid => exact fetchFail_keeps htold cid (hF.via rfl)
  | feed k => exact feedDrop_keeps htold k _ (hF.via rfl)

end Sys2Proof.Machine
end

section
/-! SUPPORT. Host accesses of BAR2 and the expansion ROM, and faults of received TLPs (R202, R207, R335, R336, R344). -/
set_option Elab.async false
namespace Sys2Proof.Machine

/-! ### BAR2 (R202, R207, R335) -/

/-- While an LPDDR5X rate change runs, accesses of BAR2 wait (R164). -/
theorem exec_bar2Read_waits {s : State} (h : s.power.changing ≠ none) (off : BitVec 34) (len : Nat) (ecc : Ecc) : exec (.bar2Read off len ecc) s
    = .next { s with ram := { s.ram with bar2Waits := s.ram.bar2Waits ++ [.bar2Read off len ecc] } } := congrArg Host.Outcome.next (if_pos (Option.isSome_iff_ne_none.2 h))

theorem exec_bar2Write_waits {s : State} (h : s.power.changing ≠ none) (off : BitVec 34) (bs : List Byte) (ecc : Ecc) : exec (.bar2Write off bs ecc) s
    = .next { s with ram := { s.ram with bar2Waits := s.ram.bar2Waits ++ [.bar2Write off bs ecc] } } := congrArg Host.Outcome.next (if_pos (Option.isSome_iff_ne_none.2 h))

section
variable {s : State} (hsteady : s.power.changing = none)
include hsteady

theorem exec_bar2Read_now (off : BitVec 34) (len : Nat) (ecc : Ecc) : exec (.bar2Read off len ecc) s = .next (bar2Read s off.toNat len ecc) :=
  congrArg Host.Outcome.next (if_neg (by simp [hsteady]))

theorem exec_bar2Write_now (off : BitVec 34) (bs : List Byte) (ecc : Ecc) : exec (.bar2Write off bs ecc) s = .next (bar2Write s off.toNat bs ecc) :=
  congrArg Host.Outcome.next (if_neg (by simp [hsteady]))

end

/-- A clean read of lines without an uncorrectable error answers the bytes. -/
theorem bar2Read_clean {s : State} {off len a : Nat} (haddr : bar2Addr s off len = some a) (hgood : pagesBad s a len = false) :
    bar2Read s off len .clean = emit s (.completion 0 (rdBytes s a len)) := by
  simp [bar2Read, haddr, lpxEcc, hgood]

theorem bar2Read_unsupported {s : State} {off len : Nat} (haddr : bar2Addr s off len = none) (ecc : Ecc) : bar2Read s off len ecc = unsupported s 0 2 false := by
  rw [bar2Read, haddr]

/-- An address reached has at least one byte. -/
theorem one_le_of_bar2Addr {s : State} {off n a : Nat} (h : bar2Addr s off n = some a) : 1 ≤ n := by
  unfold bar2Addr at h
  dsimp only at h
  split at h
  next hmay =>
    simp only [Bool.and_eq_true, decide_eq_true_eq] at hmay
    exact hmay.1.2
  next => cases h

/-- The part of a write that falls in line l is written there. -/
def lineWritten (a : Nat) (bs : List Byte) (s : State) (l : Nat) : State :=
  wrBytes s (max a (l * 64)) ((bs.drop (max a (l * 64) - a)).take (min (a + bs.length) (l * 64 + 64) - max a (l * 64)))

/-- With no line at fault a clean write is performed line by line. -/
theorem bar2Write_clean {s : State} {off a : Nat} {bs : List Byte} (haddr : bar2Addr s off bs.length = some a) (hgood : s.ram.bad = []) :
    bar2Write s off bs .clean = (linesOf a bs.length).foldl (lineWritten a bs) s := by
  have hram : { s with ram := { s.ram with bad := ([] : List Nat) } } = s := by rw [← hgood]
  have hclean : ¬((Ecc.clean == Ecc.uncorrectable && !(decide (a % 64 = 0) && decide (bs.length % 64 = 0))) = true ∨ Ecc.clean = Ecc.corrected) := by simp
  simp only [bar2Write, haddr, if_neg hclean, hgood, List.filter_nil, hram, List.contains_nil, Bool.false_and, Bool.false_eq_true, if_false]
  rfl

/-- No byte outside the write changes. -/
theorem rdByte_lineWritten {a l : Nat} {bs : List Byte} (hpos : 1 ≤ bs.length) (hl : l ∈ linesOf a bs.length) {b : Nat} (hb : b < a ∨ a + bs.length ≤ b) (s : State) :
    rdByte (lineWritten a bs s l) b = rdByte s b := by
  have hline : l ≤ (a + bs.length - 1) / 64 := by
    obtain ⟨k, hk, rfl⟩ := List.mem_map.1 hl
    have := List.mem_range.1 hk
    have := Nat.div_le_div_right (c := 64) (show a ≤ a + bs.length - 1 by omega)
    omega
  have hstart : l * 64 ≤ a + bs.length - 1 := (Nat.mul_le_mul_right 64 hline).trans (Nat.div_mul_le_self _ _)
  have hlength : ((bs.drop (max a (l * 64) - a)).take (min (a + bs.length) (l * 64 + 64) - max a (l * 64))).length ≤ min (a + bs.length) (l * 64 + 64) - max a (l * 64) :=
    List.length_take_le _ _
  exact rdByte_wrBytes_ne _ _ _ _ (by omega)

theorem rdByte_linesWritten {a : Nat} {bs : List Byte} (hpos : 1 ≤ bs.length) {b : Nat} (hb : b < a ∨ a + bs.length ≤ b) (s : State) :
    rdByte ((linesOf a bs.length).foldl (lineWritten a bs) s) b = rdByte s b :=
  List.foldlRecOn (motive := fun u => rdByte u b = rdByte s b) (linesOf a bs.length) (lineWritten a bs) rfl
    fun u hu _ hl => (rdByte_lineWritten hpos hl hb u).trans hu

/-- A write within one line is written whole. -/
theorem linesWritten_of_one {a : Nat} {bs : List Byte} (hone : a / 64 = (a + bs.length - 1) / 64) (s : State) :
    (linesOf a bs.length).foldl (lineWritten a bs) s = wrBytes s a bs := by
  have hlines : linesOf a bs.length = [a / 64] := by rw [linesOf, ← hone, Nat.sub_self]; simp
  have hlow : max a (a / 64 * 64) = a := max_eq_left (Nat.div_mul_le_self _ _)
  have hhigh : min (a + bs.length) (a / 64 * 64 + 64) = a + bs.length := by
    have := Nat.lt_div_mul_add (a := a + bs.length - 1) (b := 64) (by decide)
    omega
  rw [hlines, List.foldl_cons, List.foldl_nil, lineWritten, hlow, hhigh, Nat.sub_self, List.drop_zero, Nat.add_sub_cancel_left, List.take_length]

/-! ### The expansion ROM (R336) -/

theorem exec_expansionRomRead {off len : Nat} {rom : List Byte} {s : State} (hrom : s.host.rom = some rom) (hon : s.host.romEnable = true)
    (hmem : (fnState s 0).memEnable = true) (hend : off + len ≤ 0x100000) :
    exec (.expansionRomRead off len) s = .next (emit s (.completion 0 ((List.range len).map (fun i => rom.getD (off + i) 0xFF)))) := by
  simp only [exec, execExpansionRomRead, hrom, hon, hmem, hend, decide_true, Bool.and_self, if_true]

/-! ### Received faults (R344) -/

/-- Function f's log names row. -/
def faultLogged (s : State) (f row : Nat) : State := onFn s f (fun x => { x with aer := addPage x.aer row })

theorem mem_aer_faultLogged (s : State) (f row : Nat) : row ∈ (fnState (faultLogged s f row) f).aer := by
  rw [fnState, faultLogged, onFn, mapGet_mapInsert, if_pos rfl]
  exact mem_addPage _ _

/-- The counts of malformed TLPs, of unsupported requests and of host access errors are those given. -/
structure FaultCounts (t : State) (mal ur haerr : Word) : Prop where
  mal : rd t .hifMalcnt = mal
  ur : rd t .hifUrcnt = ur
  haerr : rd t .hifHaerr = haerr

theorem rd_unsupported (s : State) (f row : Nat) (posted : Bool) {q : Reg} : rd (unsupported s f row posted) q = if .hifUrcnt = q then satAdd (rd s .hifUrcnt) 1 else rd s q := by
  have hcounted : rd (count (faultLogged s f row) .hifUrcnt 1) q = if .hifUrcnt = q then satAdd (rd s .hifUrcnt) 1 else rd s q := rd_count _ _ _ _
  cases posted <;> exact hcounted

theorem aer_unsupported (s : State) (f row : Nat) (posted : Bool) : (fnState (unsupported s f row posted) f).aer = (fnState (faultLogged s f row) f).aer := by
  cases posted <;> rfl

/-- The read that a poisoned completion or a timeout was of is gone, and invalidations that waited for it end. -/
def readGone (s : State) (r : HostReq) : State := drainInvalidations (onHost s (fun h => { h with reads := h.reads.erase r }))

/-- A read that failed is reported to its engine; requests and bundles that waited go on. -/
def readFailed (s : State) (r : HostReq) : State := feedRelease 0 (retryHost (hostError (readGone s r) r.source))

theorem readGone_keeps (s : State) (r : HostReq) : Keeps 0x8000000000000000000000000000000000000000000600 s (readGone s r) :=
  drainInvalidations_keeps (onHost_keeps (.refl s) _ rfl) rfl

theorem readFailed_sameAer (s : State) (r : HostReq) : SameAer s (readFailed s r) := by
  have hgone : SameAer s (readGone s r) := drainInvalidations_sameAer ((SameAer.refl s).of_fns (t := onHost s (fun h => { h with reads := h.reads.erase r })) rfl)
  exact feedRelease_sameAer (retryHost_sameAer (hostError_sameAer hgone r.source)) 0

/-- The footprint of a failed read past its count. -/
def failureFootprint : Nat := 0x10008002000000000000000000030000080408247e6f003e6b1c17efdc ||| 0x200000000000000000000000000000000000000000000000600
  ||| 0x100280000001040a80088000000300000000000000000000000037cf0c

theorem readFailed_keeps_counted (s : State) (r : HostReq) : Keeps failureFootprint (count (readGone s r) .hifHaerr 1) (readFailed s r) :=
  feedRelease_keeps (retryHost_keeps (hostError_keeps_counted (.refl _) r.source rfl) rfl) 0 rfl

/-- Past the log, a failed read's count and no other of the three changes. -/
theorem counts_readFailed (s : State) (r : HostReq) : FaultCounts (readFailed s r) (rd s .hifMalcnt) (rd s .hifUrcnt) (satAdd (rd s .hifHaerr) 1) := by
  have hrest := readFailed_keeps_counted s r
  have hgone := readGone_keeps s r
  refine ⟨?_, ?_, ?_⟩
  · rw [hrest.rd_eq rfl, rd_count, if_neg (by nofun), hgone.rd_eq rfl]
  · rw [hrest.rd_eq rfl, rd_count, if_neg (by nofun), hgone.rd_eq rfl]
  · rw [hrest.rd_eq rfl, rd_count, if_pos rfl, hgone.rd_eq rfl]

/-- A poisoned completion or a timeout is of the oldest read that the function governs, if any (log entry 132). -/
theorem exec_receivedTlpFault_read {s : State} {f : Fin 13} {r : HostReq} (h : s.host.reads.find? (fun r => r.fn == f.val) = some r) (posted : Bool) :
    exec (.receivedTlpFault f 6 posted) s = .next (readFailed (faultLogged s f 6) r) := by
  have hlogged : (faultLogged s f 6).host.reads.find? (fun r => r.fn == f.val) = some r := h
  have hexec : exec (.receivedTlpFault f 6 posted) s = .next (match (faultLogged s f 6).host.reads.find? (fun r => r.fn == f.val) with
    | some r => readFailed (faultLogged s f 6) r
    | none => faultLogged s f 6) := rfl
  rw [hexec, hlogged]

theorem exec_receivedTlpFault_unread {s : State} {f : Fin 13} (h : s.host.reads.find? (fun r => r.fn == f.val) = none) (posted : Bool) :
    exec (.receivedTlpFault f 6 posted) s = .next (faultLogged s f 6) := by
  have hlogged : (faultLogged s f 6).host.reads.find? (fun r => r.fn == f.val) = none := h
  have hexec : exec (.receivedTlpFault f 6 posted) s = .next (match (faultLogged s f 6).host.reads.find? (fun r => r.fn == f.val) with
    | some r => readFailed (faultLogged s f 6) r
    | none => faultLogged s f 6) := rfl
  rw [hexec, hlogged]

/-- What function f's fault of a row answers and counts, once it is logged: the rows of Table HIF-6. -/
theorem gives_receivedTlpFault (f : Fin 13) (row : Fin 9) (posted : Bool) (s : State) : Gives s (.receivedTlpFault f row posted) fun t => row.val ∈ (fnState t f).aer
    ∧ FaultCounts t (if row.val = 0 ∨ row.val = 5 then satAdd (rd s .hifMalcnt) 1 else rd s .hifMalcnt)
      (if row.val = 1 ∨ row.val = 2 ∨ row.val = 3 then satAdd (rd s .hifUrcnt) 1 else rd s .hifUrcnt)
      (if row.val = 6 ∧ s.host.reads.any (fun r => r.fn == f.val) = true then satAdd (rd s .hifHaerr) 1 else rd s .hifHaerr) := by
  have hlogged := mem_aer_faultLogged s f row
  have hmalformed : FaultCounts (count (faultLogged s f row) .hifMalcnt 1) (satAdd (rd s .hifMalcnt) 1) (rd s .hifUrcnt) (rd s .hifHaerr) :=
    ⟨rd_wr_self _ _ _, rd_wr_ne _ _ nofun, rd_wr_ne _ _ nofun⟩
  have hunsupported : ∀ k, FaultCounts (unsupported s f k posted) (rd s .hifMalcnt) (satAdd (rd s .hifUrcnt) 1) (rd s .hifHaerr) := fun k =>
    ⟨rd_unsupported s f k posted, rd_unsupported s f k posted, rd_unsupported s f k posted⟩
  have haer : ∀ k, k ∈ (fnState (unsupported s f k posted) f).aer := fun k => by
    rw [aer_unsupported]
    exact mem_aer_faultLogged s f k
  obtain ⟨row, hrow⟩ := row
  match row, hrow with
  | 0, _ | 5, _ => exact ⟨_, rfl, hlogged, hmalformed⟩
  | 1, _ => exact ⟨_, rfl, haer 1, hunsupported 1⟩
  | 2, _ => exact ⟨_, rfl, haer 2, hunsupported 2⟩
  | 3, _ => exact ⟨_, rfl, haer 3, hunsupported 3⟩
  | 4, _ | 7, _ | 8, _ => exact ⟨_, rfl, hlogged, rfl, rfl, rfl⟩
  | 6, _ =>
    cases hread : s.host.reads.find? (fun r => r.fn == f.val) with
    | none =>
      have hnone : ¬(6 = 6 ∧ s.host.reads.any (fun r => r.fn == f.val) = true) := by simpa using List.find?_eq_none.1 hread
      rw [if_neg hnone]
      exact ⟨_, exec_receivedTlpFault_unread hread posted, hlogged, rfl, rfl, rfl⟩
    | some r =>
      have hsome : 6 = 6 ∧ s.host.reads.any (fun r => r.fn == f.val) = true :=
        ⟨rfl, List.any_eq_true.2 ⟨r, List.mem_of_find?_eq_some hread, List.find?_some (p := fun r : HostReq => r.fn == f.val) hread⟩⟩
      rw [if_pos hsome]
      refine ⟨_, exec_receivedTlpFault_read hread posted, ?_, counts_readFailed (faultLogged s f 6) r⟩
      rw [readFailed_sameAer]
      exact hlogged

/-- Settles O28: BAR2 and the ROM by their equations, a write line by line; a received fault is logged and counted, and all that a failed read sets going (requests retried,
engines told, bundles that issue) writes neither log nor counts. -/
theorem hostMemoryWindows : Obligations.HostMemoryWindows := by
  unfold Obligations.HostMemoryWindows
  refine ⟨fun off len a s hsteady haddr hgood => ⟨_, exec_bar2Read_now hsteady off len .clean, ?read⟩,
    fun off len ecc s hsteady haddr => ⟨_, exec_bar2Read_now hsteady off len ecc, ?unsupported⟩,
    fun off bs a s hsteady haddr hgood => ⟨_, exec_bar2Write_now hsteady off bs .clean, ?write⟩,
    fun off len bs ecc s hchanging => ⟨⟨_, exec_bar2Read_waits hchanging off len ecc, rfl, rfl, rfl⟩, ⟨_, exec_bar2Write_waits hchanging off bs ecc, rfl, rfl, rfl⟩⟩,
    fun off len rom s hrom hon hmem hend => ⟨_, exec_expansionRomRead hrom hon hmem hend, rfl⟩, fun f row posted s => ?fault⟩
  case read =>
    rw [bar2Read_clean haddr hgood]
    exact ⟨rfl, rfl⟩
  case unsupported =>
    rw [bar2Read_unsupported haddr]
    exact ⟨rfl, rd_unsupported s 0 2 false⟩
  case write =>
    have hpos := one_le_of_bar2Addr haddr
    rw [bar2Write_clean haddr hgood]
    refine ⟨fun hone => ?_, fun b hb => rdByte_linesWritten hpos hb s⟩
    rw [linesWritten_of_one hone, rdBytes_wrBytes]
  case fault =>
    obtain ⟨t, hexec, hlogged, hmal, hur, hhaerr⟩ := gives_receivedTlpFault f row posted s
    exact ⟨t, hexec, hlogged, hmal, hur, hhaerr⟩

end Sys2Proof.Machine
end

section
/-! SUPPORT. The control cores: what their registers read after a write, what an instruction that ends leaves, and that every instruction runs through `runInstr`. -/
namespace Sys2Proof.Machine

/-! ### Registers, pointers and the step to the next instruction (R215, R223) -/

theorem wreg_setWreg (x : CoreState) (r i : Nat) (v : Word) : wreg (setWreg x r v) i = if r = i then v else wreg x i := mapGet_mapSet _ _ _ _ _

theorem preg_setPreg (x : CoreState) (p i : Nat) (q : Pointer) : preg (setPreg x p q) i = if p = i then q else preg x i := mapGet_mapSet _ _ _ _ _

/-- The step to the next instruction changes the program counter and the repeat in progress. -/
theorem advance_eq (x : CoreState) :
    advance x = { x with rep := (advance x).rep, repi := (advance x).repi, rptcnt := (advance x).rptcnt, pc := nextPc x } := by
  unfold advance nextPc
  split <;> rfl

@[simp] theorem advance_pc (x : CoreState) : (advance x).pc = nextPc x := by rw [advance_eq]
@[simp] theorem advance_w (x : CoreState) : (advance x).w = x.w := by rw [advance_eq]
@[simp] theorem advance_ptr (x : CoreState) : (advance x).ptr = x.ptr := by rw [advance_eq]
@[simp] theorem advance_n (x : CoreState) : (advance x).n = x.n := by rw [advance_eq]
@[simp] theorem advance_z (x : CoreState) : (advance x).z = x.z := by rw [advance_eq]
@[simp] theorem advance_c (x : CoreState) : (advance x).c = x.c := by rw [advance_eq]
@[simp] theorem advance_v (x : CoreState) : (advance x).v = x.v := by rw [advance_eq]
@[simp] theorem advance_cyc (x : CoreState) : (advance x).cyc = x.cyc := by rw [advance_eq]
@[simp] theorem advance_cychi (x : CoreState) : (advance x).cychi = x.cychi := by rw [advance_eq]
@[simp] theorem advance_rs (x : CoreState) : (advance x).rs = x.rs := by rw [advance_eq]
@[simp] theorem advance_rsspill (x : CoreState) : (advance x).rsspill = x.rsspill := by rw [advance_eq]
@[simp] theorem advance_dsp (x : CoreState) : (advance x).dsp = x.dsp := by rw [advance_eq]
@[simp] theorem advance_dmem (x : CoreState) : (advance x).dmem = x.dmem := by rw [advance_eq]
@[simp] theorem advance_pend (x : CoreState) : (advance x).pend = x.pend := by rw [advance_eq]
@[simp] theorem advance_wdogHalf (x : CoreState) : (advance x).wdogHalf = x.wdogHalf := by rw [advance_eq]

/-- Outside a repeat the program goes on behind the instruction. -/
theorem nextPc_unrepeated {x : CoreState} (h : x.rep = false) : nextPc x = x.pc + 4 := by
  rw [nextPc, h]
  rfl

/-- An instruction that may not be repeated executes outside a repeat (R223). -/
theorem Executes.unrepeated {s : State} {k : Nvc} (h : Executes s k false) : (core s k.core).rep = false :=
  Bool.eq_false_iff.2 fun hrep => nomatch h.prefixed hrep

/-! ### What an executing instruction leaves -/

theorem Gives.mono {s : State} {i : Instr} {P Q : State → Prop} (h : Gives s i P) (hPQ : ∀ t, P t → Q t) : Gives s i Q :=
  h.imp fun t ht => ⟨ht.1, hPQ t ht.2⟩

@[simp] theorem mem_fetched (s : State) (k : Nvc) : (fetched s k).mem = s.mem := by unfold fetched; split <;> rfl

@[simp] theorem rd_spend (s : State) (c n : Nat) (q : Reg) : rd (spend s c n) q = rd s q := rfl

@[simp] theorem nvState_spend (s : State) (c d n : Nat) : nvState (spend s c n) d = nvState s d := rfl

/-- The fetch counts corrected errors and nothing else (R213). -/
theorem rd_fetched (s : State) (k : Nvc) {q : Reg} (h : q ≠ .nvcCecnt k.core) : rd (fetched s k) q = rd s q := by
  unfold fetched
  split
  · exact rd_wr_ne _ _ h.symm
  · rfl

@[simp] theorem nvState_fetched (s : State) (k : Nvc) (c : Nat) : nvState (fetched s k) c = nvState s c := by
  rw [nvState, rdFld, rd_fetched s k (by nofun), nvState, rdFld]

section
variable {s : State} {k : Nvc} {r : Bool} {i : Instr} {cycles : Nat} {op : State → Nat → NvcRes} {P : State → Prop}

/-- An instruction whose operation ends answers the operation's state, its cycles counted. -/
theorem gives_done {u : State} (h : Executes s k r) (hi : exec i s = .next (runInstr k cycles r op s)) (ho : op (fetched s k) k.core = .done u)
    (hP : P (spend u k.core (cycles + k.stall))) : Gives s i P :=
  ⟨_, hi, by rwa [runInstr_done h ho]⟩

/-- An instruction whose operation breaks a rule answers the exception that it raises. -/
theorem gives_exc {u : State} {v cause : Nat} {a : Word} (h : Executes s k r) (hi : exec i s = .next (runInstr k cycles r op s))
    (ho : op (fetched s k) k.core = .exc u v cause a) (hP : P (raise u k.core v cause a)) : Gives s i P :=
  ⟨_, hi, by rwa [runInstr_exc h ho]⟩

/-- An instruction on its core alone ends in `t`: the core is `y` with n cycles counted, and device memory is as before. -/
structure CoreEnds (s t : State) (k : Nvc) (n : Nat) (y : CoreState) : Prop where
  core_eq : core t k.core = { y with cyc := y.cyc + BitVec.ofNat 64 n }
  mem_eq : t.mem = s.mem

theorem gives_coreEnds {y : CoreState} (h : Executes s k r) (hi : exec i s = .next (runInstr k cycles r op s))
    (ho : op (fetched s k) k.core = .done (setCore (fetched s k) k.core y)) : Gives s i fun t => CoreEnds s t k (cycles + k.stall) y :=
  gives_done h hi ho ⟨by rw [core_spend, core_setCore_self], mem_fetched s k⟩

/-- An operation on the core alone that then advances. -/
theorem gives_plainOp {f : CoreState → CoreState} (h : Executes s k r) (hi : exec i s = .next (runInstr k cycles r (plainOp f) s)) :
    Gives s i fun t => CoreEnds s t k (cycles + k.stall) (advance (f (core s k.core))) :=
  gives_coreEnds h hi (by rw [plainOp, core_fetched])

end

/-! ### Every instruction runs through `runInstr` (R228) -/

/-- A command runs as an instruction under `k`, for which its own encoding may have further fields that must be 0. -/
def RunsAs (k : Nvc) (i : Instr) (s : State) : Prop :=
  ∃ extra cycles r op, exec i s = .next (runInstr { k with reserved := k.reserved || extra } cycles r op s)

theorem RunsAs.of_exec {k : Nvc} {i : Instr} {s : State} {cycles : Nat} {r : Bool} {op : State → Nat → NvcRes}
    (h : exec i s = .next (runInstr k cycles r op s)) : RunsAs k i s :=
  ⟨false, cycles, r, op, by rw [h, Bool.or_false]⟩

/-- Every instruction of a control core runs so; SHI, MOVI and MOVHI have fields of their own that must be 0. -/
theorem runsAs_of_coreInstr {i : Instr} {k : Nvc} (h : coreInstr i = some k) (s : State) : RunsAs k i s := by
  cases i with
  | add _ _ | adc _ _ | sub _ _ | sbc _ _ | and _ _ | or _ _ | xor _ _ | andn _ _ | shl _ _ | shr _ _ | sar _ _ | ror _ _ | mul _ _ | mulhu _ _
  | mulhs _ _ | mov _ _ | addi _ _ | subi _ _ | andi _ _ | ori _ _ | xori _ _ | ldw _ _ | ldh _ _ | ldhs _ _ | ldb _ _ | ldbs _ _ | stw _ _ | sth _ _
  | stb _ _ | pset _ _ _ _ | pget _ _ _ _ | padd _ _ | movp _ _ _ | push _ _ | pushm _ _ | pop _ _ | popm _ _ | b _ _ _ | call _ _ | callr _ _
  | jmpr _ _ | ret _ | reti _ | jmp _ _ | rep _ _ _ _ | repi _ _ _ _ | mfc _ _ _ | mtc _ _ _ | trap _ _ | wfi _ | fence _ | spill _ | fill _
  | custom _ _ _ _ _ _ | nop _ =>
    cases h
    exact .of_exec rfl
  | shi _ o | movi _ o | movhi _ o =>
    cases h
    exact ⟨_, _, _, _, rfl⟩
  | _ => cases h

end Sys2Proof.Machine
end

section
/-! SUPPORT. The arithmetic of the control cores: how an instruction of formats R and I ends (R223, R228, R229, Tables NVC-9 to NVC-11). -/
namespace Sys2Proof.Machine

/-! ### How an arithmetic instruction ends -/

/-- The flags that a result writes under S. -/
theorem setFlags_shows (x : CoreState) (fl : Bool) (r : AluOut) :
    if fl then (setFlags x fl r).n = r.value.msb ∧ (setFlags x fl r).z = (r.value == 0) ∧ (setFlags x fl r).c = r.c.getD x.c ∧ (setFlags x fl r).v = r.v.getD x.v
    else (setFlags x fl r).n = x.n ∧ (setFlags x fl r).z = x.z ∧ (setFlags x fl r).c = x.c ∧ (setFlags x fl r).v = x.v := by
  cases fl <;> exact ⟨rfl, rfl, rfl, rfl⟩

/-- Beside the flags a result changes no part of the core. -/
theorem setFlags_eq (x : CoreState) (fl : Bool) (r : AluOut) :
    setFlags x fl r = { x with n := (setFlags x fl r).n, z := (setFlags x fl r).z, c := (setFlags x fl r).c, v := (setFlags x fl r).v } := by
  cases fl <;> rfl

/-- The core with a result in its destination, unless ND keeps it out. -/
def putResult (x : CoreState) (rd : Nat) (nd : Bool) (r : AluOut) : CoreState := if nd then x else setWreg x rd r.value

theorem putResult_eq (x : CoreState) (rd : Nat) (nd : Bool) (r : AluOut) : putResult x rd nd r = { x with w := (putResult x rd nd r).w } := by
  cases nd <;> rfl

theorem wreg_putResult (x : CoreState) (rd : Nat) (nd : Bool) (r : AluOut) (i : Nat) :
    wreg (putResult x rd nd r) i = if i = rd ∧ nd = false then r.value else wreg x i := by
  cases nd with
  | true => rw [if_neg (by simp)]; rfl
  | false => rw [putResult, if_neg (by simp), wreg_setWreg]; simp only [and_true, eq_comm]

/-- An instruction that puts a result in its destination, writes its flags and goes on ends as AluEnds says. -/
theorem CoreEnds.aluEnds {s t : State} {k : Nvc} {rd n : Nat} {nd fl : Bool} {r : AluOut}
    (h : CoreEnds s t k (n + k.stall) (advance (setFlags (putResult (core s k.core) rd nd r) fl r))) : AluEnds s t k rd nd fl n r.value r.c r.v := by
  have hflags := setFlags_shows (putResult (core s k.core) rd nd r) fl r
  rw [AluEnds, h.core_eq]
  refine ⟨fun i => ?registers, ?flagged, ?pointers, ?next, ?spent⟩
  case registers =>
    rw [← wreg_putResult, wreg, advance_w, setFlags_eq, wreg]
  case flagged =>
    simp only [advance_n, advance_z, advance_c, advance_v]
    cases nd <;> exact hflags
  case pointers => simp only [advance_ptr]; rw [setFlags_eq, putResult_eq]
  case next => simp only [advance_pc]; rw [setFlags_eq, putResult_eq]; rfl
  case spent => simp only [advance_cyc]; rw [setFlags_eq, putResult_eq]

section
variable {s : State} {k : Nvc} {i : Instr}

theorem gives_aluR {f cycles : Nat} {o : AluR} (h : Executes s k true) (hi : exec i s = .next (aluR k f cycles o s)) {r : AluOut}
    (hr : aluFunc f (core s k.core).c (wreg (core s k.core) o.ra) (wreg (core s k.core) o.rb) = r) :
    Gives s i fun t => AluEnds s t k o.rd o.nd o.s cycles r.value r.c r.v := by
  subst hr
  exact (gives_plainOp h hi).mono fun t ht => ht.aluEnds

theorem gives_aluI {f : Nat} {signed : Bool} {o : AluI} (h : Executes s k true) (hi : exec i s = .next (aluI k f signed o s)) {r : AluOut}
    (hr : aluFunc f (core s k.core).c (wreg (core s k.core) o.ra) (if signed then sextImm 16 o.imm.toNat else BitVec.ofNat 32 o.imm.toNat) = r) :
    Gives s i fun t => AluEnds s t k o.rd o.nd o.s 1 r.value r.c r.v := by
  subst hr
  exact (gives_plainOp h hi).mono fun t ht => ht.aluEnds

end

/-! ### The additive functions and their carry and overflow (Table NVC-10) -/

theorem addWith_eq (a b : Word) (cin : Bool) : addWith a b cin = ⟨a + b + BitVec.ofNat 32 (boolNat cin), some (decide (2 ^ 32 ≤ a.toNat + b.toNat + boolNat cin)),
    some (decide ((a + b + BitVec.ofNat 32 (boolNat cin)).toInt ≠ a.toInt + b.toInt + boolNat cin))⟩ := by
  have hsum : BitVec.ofNat 32 (a.toNat + b.toNat + boolNat cin) = a + b + BitVec.ofNat 32 (boolNat cin) := by
    rw [BitVec.ofNat_add, BitVec.ofNat_add, BitVec.ofNat_toNat, BitVec.ofNat_toNat, BitVec.setWidth_eq, BitVec.setWidth_eq]
  rw [← hsum]
  rfl

/-- Without a carry in. -/
theorem addWith_false (a b : Word) :
    addWith a b false = ⟨a + b, some (decide (2 ^ 32 ≤ a.toNat + b.toNat)), some (decide ((a + b).toInt ≠ a.toInt + b.toInt))⟩ := by
  simp [addWith_eq, boolNat]

/-- Without a borrow in. -/
theorem subWith_false (a b : Word) :
    subWith a b false = ⟨a - b, some (decide (b.toNat ≤ a.toNat)), some (decide ((a - b).toInt ≠ a.toInt - b.toInt))⟩ := by
  simp [subWith, boolNat]

theorem boolNat_not (b : Bool) : boolNat (!b) = 1 - boolNat b := by cases b <;> rfl

/-- With the carry flag as a borrow in that is 1 when the flag is 0. -/
theorem subWith_not (a b : Word) (c : Bool) : subWith a b (!c) = ⟨a - b - BitVec.ofNat 32 (1 - boolNat c), some (decide (b.toNat + (1 - boolNat c) ≤ a.toNat)),
    some (decide ((a - b - BitVec.ofNat 32 (1 - boolNat c)).toInt ≠ a.toInt - b.toInt - (1 - boolNat c : Nat)))⟩ := by
  rw [← boolNat_not]
  rfl

/-- Settles O31: each instruction puts the result of its ALU function in its destination and goes on (`gives_aluR`); the additive functions are the model's sums with
carry and borrow written out, the others are as the table has them. -/
theorem novdyRegisterArithmetic : Obligations.NovdyRegisterArithmetic := by
  unfold Obligations.NovdyRegisterArithmetic
  refine ⟨fun k o s h => ⟨?add, ?adc, ?sub, ?sbc⟩, fun k o s h => ⟨gives_aluR (f := 4) h rfl rfl, gives_aluR (f := 5) h rfl rfl, gives_aluR (f := 6) h rfl rfl,
    gives_aluR (f := 7) h rfl rfl, gives_aluR (f := 8) h rfl rfl, gives_aluR (f := 9) h rfl rfl, gives_aluR (f := 10) h rfl rfl, gives_aluR (f := 11) h rfl rfl,
    gives_aluR (f := 12) h rfl rfl, gives_aluR (f := 13) h rfl rfl, gives_aluR (f := 14) h rfl rfl, gives_aluR (f := 15) h rfl rfl⟩⟩
  case add => exact gives_aluR (f := 0) h rfl (addWith_false _ _)
  case adc => exact gives_aluR (f := 1) h rfl (addWith_eq _ _ _)
  case sub => exact gives_aluR (f := 2) h rfl (subWith_false _ _)
  case sbc => exact gives_aluR (f := 3) h rfl (subWith_not _ _ _)

/-! ### Immediates (Table NVC-11) -/

/-- SHI's count is the low five bits of its immediate, its kind the two above. -/
theorem toNat_shiftCount (n : Nat) : (BitVec.ofNat 32 (BitVec.ofNat 16 (n % 32)).toNat).toNat % 32 = n % 32 := by
  simp only [BitVec.toNat_ofNat]
  omega

section
variable {s : State} {k : Nvc} {o : AluI}

/-- Where the bits above are 0, SHI is the shift of its kind by its count. -/
theorem gives_shi (h : Executes s k true) (himm : o.imm.toNat < 128) {r : AluOut}
    (hr : aluFunc (8 + o.imm.toNat / 32 % 4) (core s k.core).c (wreg (core s k.core) o.ra) (BitVec.ofNat 32 (BitVec.ofNat 16 (o.imm.toNat % 32)).toNat) = r) :
    Gives s (.shi k o) fun t => AluEnds s t k o.rd o.nd o.s 1 r.value r.c r.v := by
  have hk : { k with reserved := k.reserved || decide (128 ≤ o.imm.toNat) } = k := by rw [decide_eq_false (Nat.not_le.2 himm), Bool.or_false]
  have hexec : exec (.shi k o) s = .next (aluI k (8 + o.imm.toNat / 32 % 4) false { o with imm := BitVec.ofNat 16 (o.imm.toNat % 32) } s) := by
    conv_rhs => rw [← hk]
    rfl
  exact gives_aluI h hexec hr

theorem exec_movi (k : Nvc) (o : AluI) (s : State) : exec (.movi k o) s = .next (moveImm k o (fun _ => sextImm 16 o.imm.toNat) s) := rfl
theorem exec_movhi (k : Nvc) (o : AluI) (s : State) :
    exec (.movhi k o) s = .next (moveImm k o (fun w => BitVec.ofNat 32 (o.imm.toNat * 2 ^ 16 + w.toNat % 2 ^ 16)) s) := rfl

/-- With ra 0 and outside a repeat, MOVI and MOVHI put their value in rd. -/
theorem gives_moveImm {i : Instr} {f : Word → Word} (h : Executes s k true) (hra : o.ra = 0) (hrep : (core s k.core).rep = false)
    (hi : exec i s = .next (moveImm k o f s)) : Gives s i fun t => AluEnds s t k o.rd o.nd o.s 1 (f (wreg (core s k.core) o.rd)) none none := by
  have hk : { k with reserved := k.reserved || o.ra.val != 0 } = k := by rw [hra]; exact congrArg (fun b => { k with reserved := b }) (Bool.or_false _)
  rw [moveImm, hk] at hi
  have hexec : Executes s k false := ⟨h.running, h.fetch, h.sound, h.plain, fun hr => nomatch hrep.symm.trans hr⟩
  exact (gives_plainOp hexec hi).mono fun t ht => CoreEnds.aluEnds (r := logicOut (f (wreg (core s k.core) o.rd))) ht

end

/-- Settles O32: format I with the sign-extended immediate for the two additive forms and the zero-extended one for logic; SHI by the four kinds of its immediate; MOVI
and MOVHI outside a repeat. -/
theorem novdyImmediates : Obligations.NovdyImmediates := by
  unfold Obligations.NovdyImmediates
  refine fun k o s h => ⟨gives_aluI (f := 0) (signed := true) h rfl (addWith_false _ _), gives_aluI (f := 2) (signed := true) h rfl (subWith_false _ _),
    gives_aluI (f := 4) (signed := false) h rfl rfl, gives_aluI (f := 5) (signed := false) h rfl rfl, gives_aluI (f := 6) (signed := false) h rfl rfl,
    fun himm => ?shi, fun hra hrep => ⟨gives_moveImm h hra hrep (exec_movi k o s), gives_moveImm h hra hrep (exec_movhi k o s)⟩⟩
  case shi =>
    have hkind : o.imm.toNat / 32 = 0 ∨ o.imm.toNat / 32 = 1 ∨ o.imm.toNat / 32 = 2 ∨ o.imm.toNat / 32 = 3 := by omega
    refine (gives_shi h himm rfl).mono fun t ht => ?_
    rcases hkind with hkind | hkind | hkind | hkind <;> rw [hkind] at ht ⊢ <;>
      simpa [aluFunc, shlOut, shrOut, sarOut, rorOut, toNat_shiftCount] using ht

end Sys2Proof.Machine
end

section
/-! SUPPORT. Halts of a control core (R213, R222, R235, R253): the core stands halted with its cause, and its return stack is as it was, whatever else the halt sets going. -/
namespace Sys2Proof.Machine

/-- What happens elsewhere leaves core c alone: its status, and its return stack. -/
structure Spares (c : Nat) (s t : State) : Prop where
  status : rd t (.nvcStatus c) = rd s (.nvcStatus c)
  stack : (core t c).rs = (core s c).rs

namespace Spares

theorem refl {c : Nat} (s : State) : Spares c s s := ⟨rfl, rfl⟩

theorem trans {c : Nat} {s t u : State} (h : Spares c s t) (g : Spares c t u) : Spares c s u := ⟨g.status.trans h.status, g.stack.trans h.stack⟩

theorem ite {c : Nat} {s0 a b : State} {p : Prop} [Decidable p] (ha : Spares c s0 a) (hb : Spares c s0 b) : Spares c s0 (if p then a else b) := by
  split <;> assumption

/-- An operation with neither the cores nor their status in its footprint. -/
theorem keep {c F : Nat} {s0 s t : State} (h : Spares c s0 s) (g : Keeps F s t) (hcores : F.testBit 8 = false) (hstatus : F.testBit 107 = false) : Spares c s0 t := by
  refine ⟨(g.rd_eq (r := .nvcStatus c) hstatus).trans h.status, ?_⟩
  rw [core, g.cores.eq hcores]
  exact h.stack

theorem forAll {c : Nat} {s0 s : State} {f : State → Nat → State} {l : List Nat} (h : Spares c s0 s) (hf : ∀ u, ∀ n ∈ l, Spares c u (f u n)) :
    Spares c s0 (forAll f s l) := by
  induction l generalizing s with
  | nil => exact h
  | cons n rest ih => exact ih (h.trans (hf s n List.mem_cons_self)) fun u m hm => hf u m (List.mem_cons_of_mem n hm)

/-- A change of a core that leaves its return stack alone. -/
theorem onCore {c : Nat} {s0 s : State} (h : Spares c s0 s) (d : Nat) {f : CoreState → CoreState} (hf : ∀ x, (f x).rs = x.rs) : Spares c s0 (onCore s d f) := by
  refine ⟨h.status, ?_⟩
  rw [Machine.onCore, core_setCore]
  split
  next hd => rw [hf, hd, h.stack]
  next => exact h.stack

/-- A register other than the core's status. -/
theorem wr {c : Nat} {s0 s : State} (h : Spares c s0 s) {r : Reg} (v : Word) (hr : r ≠ .nvcStatus c) : Spares c s0 (wr s r v) :=
  ⟨(rd_wr_ne s v hr).trans h.status, h.stack⟩

theorem wrFld {c : Nat} {s0 s : State} (h : Spares c s0 s) {r : Reg} {hi lo v : Nat} (hr : r ≠ .nvcStatus c) : Spares c s0 (wrFld s r hi lo v) := h.wr _ hr

theorem wrBit {c : Nat} {s0 s : State} (h : Spares c s0 s) {r : Reg} {i : Nat} {b : Bool} (hr : r ≠ .nvcStatus c) : Spares c s0 (wrBit s r i b) := h.wr _ hr

/-- Another core. -/
theorem setCore {c d : Nat} {s0 s : State} (h : Spares c s0 s) (hd : d ≠ c) (x : CoreState) : Spares c s0 (setCore s d x) :=
  ⟨h.status, by rw [core_setCore, if_neg hd, h.stack]⟩

theorem clearIrq {c : Nat} {s0 s : State} (h : Spares c s0 s) (d v : Nat) : Spares c s0 (clearIrq s d v) := h.onCore d fun _ => rfl

theorem irqCores {c : Nat} {s0 s : State} (h : Spares c s0 s) (cs : List Nat) (v : Nat) : Spares c s0 (irqCores s cs v) :=
  h.forAll fun u d _ => (refl u).onCore d fun _ => rfl

theorem recordEvent {c : Nat} {s0 s : State} (h : Spares c s0 s) (code plot sev island object : Nat) (value : Word) (extra : Nat) :
    Spares c s0 (recordEvent s code plot sev island object value extra) := h.keep (recordEvent_keeps (.refl s) _ _ _ _ _ _ _ (.self _)) rfl rfl

end Spares

/-! ### The end of an update (R253) -/

theorem showRequests_spares {c : Nat} {s0 s : State} (h : Spares c s0 s) : Spares c s0 (showRequests s) := by
  have hclear : ∀ {u : State} (v : Nat), Spares c s0 u → Spares c s0 (forAll (fun s d => clearIrq s d v) u mgmtCores) := fun v hu =>
    hu.forAll fun u d _ => (Spares.refl u).clearIrq d v
  have hvfs := Spares.ite (p := (List.range 12).any (fun p => (box s (p + 1)).requests.any (fun r => !r.taken)) = true) h (hclear 13 h)
  exact .ite hvfs (hclear 10 hvfs)

theorem answer_spares {c : Nat} {s0 s : State} (h : Spares c s0 s) (o : Nat) (seq : Word) (version type status detail : Nat) (payload : List Byte) :
    Spares c s0 (answer s o seq version type status detail payload) := by
  have htaken : ∀ f, Spares c s0 (onBox s o f) := fun f => h.keep (onBox_keeps (.refl s) o f (.self _)) rfl rfl
  refine .ite h (.keep ?_ (postMsg_keeps (.refl _) o _ (.self _)) rfl rfl)
  exact .ite (showRequests_spares ((htaken _).wr _ nofun)) (htaken _)

theorem haltsHandled_spares {c : Nat} {s0 s : State} (h : Spares c s0 s) : Spares c s0 (haltsHandled s) :=
  .ite h (h.forAll fun u d _ => (Spares.refl u).clearIrq d 13)

theorem dropRing_spares {c : Nat} {s0 s : State} (h : Spares c s0 s) (d : Nat) : Spares c s0 (dropRing s d) := h.keep (dropRing_keeps (.refl s) d (.self _)) rfl rfl

/-- The halt of another core. -/
theorem stopCore_spares {c d : Nat} {s0 s : State} (h : Spares c s0 s) (hd : d ≠ c) (cause : Nat) : Spares c s0 (stopCore s d cause) := by
  have hother : Reg.nvcStatus d ≠ .nvcStatus c := fun e => hd (Reg.nvcStatus.inj e)
  have hstopped : ∀ {u : State}, Spares c s0 u → Spares c s0 (dropRing (wrFld (setNvState u d nvHalted) (.nvcStatus d) 28 24 cause) d) := fun hu =>
    dropRing_spares (.wrFld (.wrFld hu hother) hother) d
  have hmarked := hstopped (.ite (p := nvState s d = nvHalted) h
    (h.wr (r := .nvcHaltpc d) (BitVec.ofNat 32 (((core s d).pc.toNat + (if nvState s d = nvWfi then 0xFFFC else 0)) % 0x10000)) (by nofun)))
  exact .ite ((hmarked.recordEvent _ _ _ _ _ _ _).irqCores _ _) hmarked

/-- The load of another core. -/
theorem loadCore_spares {c d : Nat} {s0 s : State} (h : Spares c s0 s) (hd : d ≠ c) (k : Component) (keep : Bool) : Spares c s0 (loadCore s d k keep) := by
  have hother : Reg.nvcStatus d ≠ .nvcStatus c := fun e => hd (Reg.nvcStatus.inj e)
  have hstopped := Spares.ite (p := nvState s d = nvRun ∨ nvState s d = nvWfi) (stopCore_spares h hd 4) h
  exact haltsHandled_spares (.wrFld (.wrFld (.wrBit (.wrFld (hstopped.setCore hd _) (by nofun)) hother) (by nofun)) hother)

theorem loadReceiver_spares {c d : Nat} {s0 s : State} (h : Spares c s0 s) (hd : d ≠ c) (k : Component) (keep : Bool) : Spares c s0 (loadReceiver s d k keep) :=
  .ite (loadCore_spares h hd k keep) (.ite (h.keep (loadEngine_keeps (.refl s) _ k (.self _)) rfl rfl) h)

/-- An update that ends loads again the receivers that had switched; a core that is none of them is left alone. -/
theorem endUpdate_spares {c : Nat} {s0 s : State} (h : Spares c s0 s) (result status : Nat) (hc : ∀ u, s.fw.update = some u → c ∉ u.switched) :
    Spares c s0 (endUpdate s result status) := by
  unfold endUpdate
  split
  · exact h
  next u hu =>
    refine answer_spares (.recordEvent (.keep ?_ (setUpd_keeps (.refl _) _ _ _ (.self _)) rfl rfl) _ _ _ _ _ _ _) _ _ _ _ _ _ _
    have hback : ∀ old, Spares c s0 (forAll (fun s r => loadReceiver s r old true) s u.switched) := fun old =>
      h.forAll fun v d hd => loadReceiver_spares (.refl v) (ne_of_mem_of_not_mem hd (hc u hu)) old true
    split
    · exact ⟨(hback _).status, (hback _).stack⟩
    · exact ⟨h.status, h.stack⟩

/-! ### The halted core -/

/-- The core stands halted with a cause, its return stack as it was. -/
structure HaltedWith (c cause : Nat) (s t : State) : Prop where
  state : nvState t c = nvHalted
  cause_eq : rdFld t (.nvcStatus c) 28 24 = cause
  stack : (core t c).rs = (core s c).rs

theorem HaltedWith.spared {c cause : Nat} {s t u : State} (h : HaltedWith c cause s t) (g : Spares c t u) : HaltedWith c cause s u :=
  ⟨by rw [← h.state, nvState, rdFld, g.status, nvState, rdFld], by rw [← h.cause_eq, rdFld, g.status, rdFld], g.stack.trans h.stack⟩

theorem HaltedWith.of_stack {c cause : Nat} {s s1 t : State} (h : HaltedWith c cause s1 t) (hs : (core s1 c).rs = (core s c).rs) : HaltedWith c cause s t :=
  ⟨h.state, h.cause_eq, h.stack.trans hs⟩

theorem stopCore_halts (s : State) (c : Nat) {cause : Nat} (h : cause < 32) : HaltedWith c cause s (stopCore s c cause) := by
  have hmarked : ∀ u, (core u c).rs = (core s c).rs → HaltedWith c cause s (wrFld (setNvState u c nvHalted) (.nvcStatus c) 28 24 cause) := fun u hu =>
    { state := by
        rw [nvState, rdFld_wrFld_of_disjoint _ _ _ (by decide) (by decide) (.inr (by decide)), setNvState, rdFld_wrFld_self _ _ _ (by decide) (by decide)]
        rfl
      cause_eq := (rdFld_wrFld_self _ _ _ (by decide) (by decide)).trans (Nat.mod_eq_of_lt h)
      stack := hu }
  have hstopped := (hmarked (if nvState s c = nvHalted then s else wr s (.nvcHaltpc c)
    (BitVec.ofNat 32 (((core s c).pc.toNat + (if nvState s c = nvWfi then 0xFFFC else 0)) % 0x10000))) (by split <;> rfl)).spared (dropRing_spares (.refl _) c)
  unfold stopCore
  dsimp only
  split
  · exact hstopped.spared (((Spares.refl _).recordEvent _ _ _ _ _ _ _).irqCores _ _)
  · exact hstopped

/-- A halt stands, whatever becomes of an update that the core was to receive: it is not loaded again (R236, R253). -/
theorem haltCore_halts (s : State) (c : Nat) {cause : Nat} (h : cause < 32) : HaltedWith c cause s (haltCore s c cause) := by
  have hstopped := stopCore_halts s c h
  unfold haltCore
  dsimp only
  split
  next u hu =>
    split
    · refine hstopped.spared (endUpdate_spares ?_ 6 stRefused fun v hv => ?_)
      · exact ⟨rfl, rfl⟩
      obtain rfl := Option.some.inj hv
      simp
    · exact hstopped
  next => exact hstopped

/-- A halted core stays so while cycles are counted. -/
theorem HaltedWith.spend {c cause : Nat} {s t : State} (h : HaltedWith c cause s t) (n : Nat) : HaltedWith c cause s (spend t c n) :=
  h.spared ((Spares.refl t).onCore c fun _ => rfl)

end Sys2Proof.Machine
end

section
/-! SUPPORT. Exceptions and interrupts of a control core (R221, R222, R224 to R228): what the entry of a vector leaves, and what becomes of a push that finds the return stack full. -/
namespace Sys2Proof.Machine

/-! ### The entry of a vector (R225) -/

/-- The core at the vector of an exception, interrupted where it stands. -/
def atException (x : CoreState) (v cause : Nat) (addr : Word) : CoreState := { enterVector x v x.pc with xcause := v * 256 + cause, xaddr := addr }

theorem entered_enterVector (x : CoreState) (v : Nat) : Entered x (enterVector x v x.pc) v := ⟨rfl, rfl, rfl, rfl, rfl, rfl, rfl, rfl⟩

theorem entered_atException (x : CoreState) (v cause : Nat) (addr : Word) : Entered x (atException x v cause addr) v := ⟨rfl, rfl, rfl, rfl, rfl, rfl, rfl, rfl⟩

theorem roomOnStack_iff (x : CoreState) : roomOnStack x = true ↔ rscnt x < 32 ∧ rscnt x < x.rshi := by simp [roomOnStack]

/-- The state after an exception whose entry the return stack takes. -/
def excepted (s : State) (c v cause : Nat) (addr pc : Word) : State :=
  wrFld (wrFld (count (setCore s c { enterVector (core s c) v pc with xcause := v * 256 + cause, xaddr := addr }) (.nvcXcnt c) 1) (.nvcStatus c) 23 16 cause)
    (.nvcStatus c) 15 11 v

theorem core_excepted (s : State) (c v cause : Nat) (addr : Word) : core (excepted s c v cause addr (core s c).pc) c = atException (core s c) v cause addr :=
  core_setCore_self _ _ _

section
variable {s : State} {c : Nat}

theorem takeException_room (h : rscnt (core s c) < 32) (v cause : Nat) (addr pc : Word) : takeException s c v cause addr pc = excepted s c v cause addr pc :=
  if_neg (Nat.not_le.2 h)

theorem takeException_full (h : rscnt (core s c) = 32) (v cause : Nat) (addr pc : Word) : takeException s c v cause addr pc = haltCore s c 2 := if_pos h.ge

/-- Up to RSHI entries no spill is raised (R221). -/
theorem spillCheck_low (h : rscnt (core s c) ≤ (core s c).rshi) (b : Bool) : spillCheck s c b = s := by
  rw [spillCheck]
  simp [Nat.not_lt.2 h]

/-- A push that leaves at most RSHI entries raises no spill. -/
theorem spillCheck_pushed {x y : CoreState} (hx : roomOnStack x = true) (hy : core s c = y) (hrs : rscnt y = rscnt x + 1) (hhi : y.rshi = x.rshi) (b : Bool) :
    spillCheck s c b = s :=
  spillCheck_low (by rw [hy, hrs, hhi]; exact ((roomOnStack_iff x).1 hx).2) b

/-- With room on the stack an exception is entered, and no spill follows. -/
theorem raise_room (h : roomOnStack (core s c) = true) (v cause : Nat) (addr : Word) : raise s c v cause addr = excepted s c v cause addr (core s c).pc := by
  unfold raise
  dsimp only
  rw [takeException_room ((roomOnStack_iff _).1 h).1]
  split
  · rfl
  · exact spillCheck_pushed h (core_excepted s c v cause addr) rfl rfl _

/-- With the stack full it is a double fault (R222). -/
theorem raise_full (h : rscnt (core s c) = 32) (v cause : Nat) (addr : Word) : raise s c v cause addr = haltCore s c 2 := by
  rw [raise, if_pos (.inr (.inr h.ge)), takeException_full h]

end

/-- An exception takes nothing off the return stack. -/
theorem takeException_stack (s : State) (c v cause : Nat) (addr pc : Word) : ∃ l, (core (takeException s c v cause addr pc) c).rs = l ++ (core s c).rs := by
  by_cases h : rscnt (core s c) < 32
  · rw [takeException_room h]
    exact ⟨[handlerEntry (core s c) pc], by rw [excepted, core_wrFld_eq, core_wrFld_eq, core_count_eq, core_setCore_self]; rfl⟩
  · rw [takeException, if_pos (Nat.le_of_not_lt h)]
    exact ⟨[], (haltCore_halts s c (by decide)).stack⟩

theorem spillCheck_stack (s : State) (c : Nat) (b : Bool) : ∃ l, (core (spillCheck s c b) c).rs = l ++ (core s c).rs := by
  unfold spillCheck
  dsimp only
  split
  · exact takeException_stack ..
  · exact ⟨[], rfl⟩

/-- An exception below a full stack pushes its entry, which a spill's may follow. -/
theorem raise_stack {s : State} {c : Nat} (h : rscnt (core s c) < 32) (v cause : Nat) (addr : Word) :
    ∃ l, (core (raise s c v cause addr) c).rs = l ++ handlerEntry (core s c) (core s c).pc :: (core s c).rs := by
  have hentry : (core (excepted s c v cause addr (core s c).pc) c).rs = handlerEntry (core s c) (core s c).pc :: (core s c).rs := by rw [core_excepted]; rfl
  unfold raise
  dsimp only
  rw [takeException_room h, ← hentry]
  split
  · exact ⟨[], rfl⟩
  · exact spillCheck_stack ..

section
variable {s u : State} {k : Nvc} {r : Bool} {i : Instr} {cycles v cause : Nat} {a : Word} {op : State → Nat → NvcRes}

/-- An instruction that breaks a rule with room on the stack enters its exception. -/
theorem gives_atException (h : Executes s k r) (hi : exec i s = .next (runInstr k cycles r op s)) (ho : op (fetched s k) k.core = .exc u v cause a)
    (hu : core u k.core = core s k.core) (hroom : roomOnStack (core s k.core) = true) : Gives s i fun t => core t k.core = atException (core s k.core) v cause a :=
  gives_exc h hi ho (by rw [← hu] at hroom ⊢; rw [raise_room hroom, core_excepted])

theorem gives_entered (h : Executes s k r) (hi : exec i s = .next (runInstr k cycles r op s)) (ho : op (fetched s k) k.core = .exc u 0 cause a)
    (hu : core u k.core = core s k.core) (hroom : roomOnStack (core s k.core) = true) :
    Gives s i fun t => Entered (core s k.core) (core t k.core) 0 ∧ (core t k.core).xcause = cause :=
  (gives_atException h hi ho hu hroom).mono fun t ht => by
    rw [ht]
    exact ⟨entered_atException .., (Nat.zero_mul 256).symm ▸ Nat.zero_add cause⟩

/-- With the stack full it halts the core (R222). -/
theorem gives_doubleFault (h : Executes s k r) (hi : exec i s = .next (runInstr k cycles r op s)) (ho : op (fetched s k) k.core = .exc u v cause a)
    (hu : core u k.core = core s k.core) (hfull : rscnt (core s k.core) = 32) : Gives s i (HaltedWith k.core 2 s) :=
  gives_exc h hi ho (by
    rw [raise_full (hu ▸ hfull)]
    exact (haltCore_halts u k.core (by decide)).of_stack (congrArg CoreState.rs hu))

/-- So does an operation that itself ends in a halt. -/
theorem gives_halt (h : Executes s k r) (hi : exec i s = .next (runInstr k cycles r op s)) (ho : op (fetched s k) k.core = .done (haltCore (fetched s k) k.core 2)) :
    Gives s i (HaltedWith k.core 2 s) :=
  gives_done h hi ho (((haltCore_halts (fetched s k) k.core (by decide)).of_stack (by rw [core_fetched])).spend _)

end

/-! ### Reserved fields (R228) -/

/-- A fetched instruction with a reserved field that is not 0 raises exception 0 with cause 1, whatever its operation. -/
theorem runInstr_reserved {s : State} {k : Nvc} (hrun : nvState s k.core = nvRun) (hpc : (core s k.core).pc.toNat < 0x10000)
    (hmpu : mpuGrants (core s k.core) (core s k.core).pc.toNat 4 2 = true) (hecc : k.ecc ≠ .uncorrectable) (hres : k.reserved = true) (cycles : Nat) (r : Bool)
    (op : State → Nat → NvcRes) : runInstr k cycles r op s = raise (fetched s k) k.core 0 1 0 := by
  simp only [runInstr, hrun, ne_eq, not_true, if_false, hpc, hmpu, decide_true, Bool.and_self, Bool.not_true, Bool.false_eq_true, if_neg hecc, hres, if_true]
  rfl

/-- Settles O38: every instruction runs through `runInstr` (`runsAs_of_coreInstr`), which raises the exception before the operation. -/
theorem novdyReservedFields : Obligations.NovdyReservedFields := by
  unfold Obligations.NovdyReservedFields
  intro i k s hi hres hrun hpc hmpu hecc hroom
  obtain ⟨extra, cycles, r, op, hexec⟩ := runsAs_of_coreInstr hi s
  rw [hres, Bool.true_or, runInstr_reserved (k := { k with reserved := true }) hrun hpc hmpu hecc rfl] at hexec
  have hfetched : core (fetched s { k with reserved := true }) k.core = core s k.core := core_fetched ..
  rw [← hfetched] at hroom ⊢
  refine ⟨_, hexec, ?_⟩
  rw [raise_room hroom]
  beta_reduce
  rw [core_excepted]
  exact ⟨entered_atException .., rfl, rfl, rfl, mem_fetched ..⟩

/-! ### Calls and returns on the return stack (R220, R222) -/

theorem callTo_full {s : State} {c : Nat} (h : rscnt (core s c) = 32) (target : Word) : callTo s c target = haltCore s c 2 := if_pos h.ge

section
variable {s : State} {c : Nat} {e : RsEntry} {rest : List RsEntry} {handler : Bool}

/-- A return takes an entry of its kind off the stack. -/
theorem returnOp_pops (h : (core s c).rs = e :: rest) (he : e.handler = handler) (f : CoreState → RsEntry → CoreState) :
    returnOp handler f s c = .done (setCore s c (f { core s c with rs := rest } e)) := by
  rw [returnOp, h]
  exact if_pos he

/-- An entry of the other kind on top raises exception 0 with cause 4. -/
theorem returnOp_wrong (h : (core s c).rs = e :: rest) (he : e.handler ≠ handler) (f : CoreState → RsEntry → CoreState) :
    returnOp handler f s c = .exc s 0 4 0 := by
  rw [returnOp, h]
  exact if_neg he

end

section
variable {s : State} {k : Nvc} {e : RsEntry} {rest : List RsEntry}

theorem exec_ret (k : Nvc) (s : State) : exec (.ret k) s
    = .next (runInstr k 2 false (returnOp false fun x e => { x with pc := BitVec.ofNat 32 (4 * e.pcw) }) s) := rfl
theorem exec_reti (k : Nvc) (s : State) : exec (.reti k) s = .next (runInstr k 3 false (returnOp true fun x e =>
    withFlags { x with pc := BitVec.ofNat 32 (4 * e.pcw), ie := e.ie, lvl := e.lvl, rep := e.rep, repi := e.repi, rptcnt := e.count, handlers := x.handlers.drop 1 }
      e.flags) s) := rfl

/-- RET with a handler entry on top breaks its rule, and so does RETI with a call entry. -/
theorem returnOp_wrong_fetched {handler : Bool} (hrs : (core s k.core).rs = e :: rest) (he : e.handler ≠ handler) (f : CoreState → RsEntry → CoreState) :
    returnOp handler f (fetched s k) k.core = .exc (fetched s k) 0 4 0 := returnOp_wrong (by rw [core_fetched, hrs]) he f

end

/-! ### Interrupts (R224, R226) -/

section
variable {s : State} {c : Fin 24} {v : Nat}

/-- Outside a REP a running core takes the vector that is eligible. -/
theorem execInterruptEntry_eligible (hrun : nvState s c = nvRun) (hv : eligible (core s c) = some v) (hrep : (core s c).rep = false ∨ (core s c).repi = true) :
    execInterruptEntry c s = .next (if 32 ≤ rscnt (core s c) then haltCore s c 2
      else spillCheck (setCore s c (enterVector (core s c) v (core s c).pc)) c (inSpillFill (core s c))) := by
  have hmay : ((core s c).rep && !(core s c).repi) = false := by rcases hrep with h | h <;> simp [h]
  simp only [execInterruptEntry, hrun, ne_eq, not_true, if_false, hv, hmay, Bool.false_eq_true]

/-- With room on the stack its entry is pushed, and no spill follows. -/
theorem execInterruptEntry_room (hrun : nvState s c = nvRun) (hv : eligible (core s c) = some v) (hrep : (core s c).rep = false ∨ (core s c).repi = true)
    (hroom : roomOnStack (core s c) = true) : execInterruptEntry c s = .next (setCore s c (enterVector (core s c) v (core s c).pc)) := by
  rw [execInterruptEntry_eligible hrun hv hrep, if_neg (Nat.not_le.2 ((roomOnStack_iff _).1 hroom).1),
    spillCheck_pushed hroom (core_setCore_self s c (enterVector (core s c) v (core s c).pc)) rfl rfl]

/-- With the stack full it is a double fault. -/
theorem execInterruptEntry_full (hrun : nvState s c = nvRun) (hv : eligible (core s c) = some v) (hrep : (core s c).rep = false ∨ (core s c).repi = true)
    (hfull : rscnt (core s c) = 32) : execInterruptEntry c s = .next (haltCore s c 2) := by
  rw [execInterruptEntry_eligible hrun hv hrep, if_pos hfull.ge]

/-- With IE 0 none is eligible. -/
theorem execInterruptEntry_masked (h : (core s c).ie = false) : execInterruptEntry c s = .next s := by
  simp [execInterruptEntry, eligible, h]

end

/-- An eligible vector is pending and enabled. -/
theorem pending_of_eligible {x : CoreState} {v : Nat} (h : eligible x = some v) : x.pend &&& x.imask ≠ 0 := by
  intro hnone
  rw [eligible] at h
  split at h
  · cases h
  · have hv := List.find?_some h
    simp only [Bool.and_eq_true, decide_eq_true_eq, bit, BitVec.testBit_toNat] at hv
    obtain ⟨⟨⟨-, hmask⟩, hpend⟩, -⟩ := hv
    have hbit : (x.pend &&& x.imask).getLsbD v = true := by rw [BitVec.getLsbD_and, hpend, hmask, Bool.true_and]
    exact absurd (hnone ▸ hbit) (by simp)

/-- Settles O39: a full stack makes every push a halt (`raise_full`, `callTo_full`), the halt leaves the stack as it was (`haltCore_halts`), and a return that meets the
other kind of entry raises its exception on the whole stack. -/
theorem returnStackFaults : Obligations.ReturnStackFaults := by
  unfold Obligations.ReturnStackFaults
  refine ⟨fun i k s h hfull hi => (?full : Gives s i (HaltedWith k.core 2 s)).mono fun t ht => ⟨ht.state, ht.cause_eq, ht.stack⟩,
    fun c v s hrun hv hrep hfull => ?interrupt, fun c v cause addr pc s hfull => ?exception,
    fun k e rest s h hrs hroom => ⟨fun he => ?ret, fun he => ?reti⟩, fun k e rest s h hrs hlow => ⟨fun he => ?retStack, fun he => ?retiStack⟩⟩
  case full =>
    have hfetched : rscnt (core (fetched s k) k.core) = 32 := by rw [core_fetched, hfull]
    rcases hi with ⟨off, rfl⟩ | ⟨w, rfl, hw⟩ | ⟨code, rfl⟩ | ⟨rfl, e, rest, hrs, he⟩ | ⟨rfl, e, rest, hrs, he⟩
    · exact gives_halt h rfl (congrArg NvcRes.done (callTo_full hfetched _))
    · refine gives_halt h rfl (if_pos ?_ |>.trans (congrArg NvcRes.done (callTo_full hfetched _)))
      rwa [core_fetched]
    · exact gives_halt h rfl (congrArg NvcRes.done (raise_full hfetched _ _ _))
    · exact gives_doubleFault h (exec_ret k s) (returnOp_wrong_fetched hrs (by simp [he]) _) (core_fetched ..) hfull
    · exact gives_doubleFault h (exec_reti k s) (returnOp_wrong_fetched hrs (by simp [he]) _) (core_fetched ..) hfull
  case interrupt =>
    have hhalt := haltCore_halts s c (cause := 2) (by decide)
    exact ⟨_, execInterruptEntry_full hrun hv hrep hfull, hhalt.state, hhalt.cause_eq, hhalt.stack⟩
  case exception =>
    have hhalt := haltCore_halts s c (cause := 2) (by decide)
    rw [takeException_full hfull]
    exact ⟨hhalt.state, hhalt.cause_eq, hhalt.stack⟩
  case ret => exact gives_entered h (exec_ret k s) (returnOp_wrong_fetched hrs (by simp [he]) _) (core_fetched ..) hroom
  case reti => exact gives_entered h (exec_reti k s) (returnOp_wrong_fetched hrs (by simp [he]) _) (core_fetched ..) hroom
  all_goals rw [← core_fetched s k k.core] at hlow
  case retStack =>
    exact gives_exc h (exec_ret k s) (returnOp_wrong_fetched hrs (by simp [he]) _) (by simpa only [core_fetched] using raise_stack hlow 0 4 0)
  case retiStack =>
    exact gives_exc h (exec_reti k s) (returnOp_wrong_fetched hrs (by simp [he]) _) (by simpa only [core_fetched] using raise_stack hlow 0 4 0)

/-! ### Waiting, the core timer and the watchdog (R227, R235) -/

theorem nvState_setNvState (s : State) (c : Nat) {v : Nat} (h : v < 8) : nvState (setNvState s c v) c = v :=
  (rdFld_wrFld_self s _ _ (by decide) (by decide)).trans (Nat.mod_eq_of_lt h)

@[simp] theorem nvState_onCore (s : State) (c d : Nat) (f : CoreState → CoreState) : nvState (onCore s c f) d = nvState s d := rfl

theorem bit_pend_coreIrq (s : State) (c : Nat) {v : Nat} (h : v < 32) : bit (core (coreIrq s c v) c).pend v = true := by
  rw [coreIrq, core_onCore_self, bit_setBit _ _ _ _ h, if_pos rfl]

theorem wdogRuns_of_up {s : State} {c : Nat} (h : nvState s c = nvRun ∨ nvState s c = nvWfi) : wdogRuns s c = true := by
  rcases h with h | h <;> simp [wdogRuns, h]

section
variable {s : State} {c : Fin 24}

theorem gives_coreTimerExpiry (h : nvState s c = nvRun ∨ nvState s c = nvWfi) : Gives s (.coreTimerExpiry c) fun t => bit (core t c).pend 8 = true :=
  ⟨coreIrq s c 8, congrArg Host.Outcome.next (if_pos (wdogRuns_of_up h)), bit_pend_coreIrq s c (by decide)⟩

theorem gives_watchdogWarning (h : nvState s c = nvRun ∨ nvState s c = nvWfi) :
    Gives s (.watchdogWarning c) fun t => (core t c).wdogHalf = true ∧ bit (core t c).pend 9 = true :=
  ⟨coreIrq (onCore s c fun x => { x with wdogHalf := true }) c 9, congrArg Host.Outcome.next (if_pos (wdogRuns_of_up h)),
    by rw [coreIrq, core_onCore_self, core_onCore_self], bit_pend_coreIrq _ c (by decide)⟩

theorem gives_watchdogExpiry (h : nvState s c = nvRun ∨ nvState s c = nvWfi) (hc : c.val ≠ 0) :
    Gives s (.watchdogExpiry c) fun t => nvState t c = nvHalted ∧ rdFld t (.nvcStatus c) 28 24 = 1 := by
  have hhalt := haltCore_halts (wrFld s (.nvcWdog c) 31 16 (satNat (rdFld s (.nvcWdog c) 31 16 + 1) 0xFFFF)) c (cause := 1) (by decide)
  have hexec : execWatchdogExpiry c s = .next (haltCore (wrFld s (.nvcWdog c) 31 16 (satNat (rdFld s (.nvcWdog c) 31 16 + 1) 0xFFFF)) c 1) := by
    simp only [execWatchdogExpiry, wdogRuns_of_up h, Bool.not_true, Bool.false_eq_true, if_false, if_neg hc]
  exact ⟨_, hexec, hhalt.state, hhalt.cause_eq⟩

/-- A core that waits with an enabled vector pending runs again and looks for an interrupt. -/
theorem execWfiResume_pending (hwfi : nvState s c = nvWfi) (hpend : (core s c).pend &&& (core s c).imask ≠ 0) :
    exec (.wfiResume c) s = execInterruptEntry c (setNvState s c nvRun) := if_pos ⟨hwfi, hpend⟩

/-- Without one it waits on. -/
theorem execWfiResume_waits (hpend : (core s c).pend &&& (core s c).imask = 0) : exec (.wfiResume c) s = .next s := if_neg fun h => h.2 hpend

end

/-- WFI goes on behind itself; with no enabled vector pending, the core then waits. -/
theorem gives_wfi {s : State} {k : Nvc} (h : Executes s k false) : Gives s (.wfi k) fun t => (core t k.core).pc = (core s k.core).pc + 4
    ∧ (core t k.core).w = (core s k.core).w ∧ nvState t k.core = if (core s k.core).pend &&& (core s k.core).imask = 0 then nvWfi else nvRun := by
  have hstep : ∀ u, core u k.core = advance (core s k.core) → (core (spend u k.core (1 + k.stall)) k.core).pc = (core s k.core).pc + 4
      ∧ (core (spend u k.core (1 + k.stall)) k.core).w = (core s k.core).w := fun u hu => by
    rw [core_spend, hu]
    exact ⟨by rw [advance_pc, nextPc_unrepeated h.unrepeated], advance_w _⟩
  have hadvanced : core (onCore (fetched s k) k.core advance) k.core = advance (core s k.core) := by rw [core_onCore_self, core_fetched]
  refine gives_done h rfl rfl ?_
  rw [core_fetched, nvState_spend]
  by_cases hnone : (core s k.core).pend &&& (core s k.core).imask = 0
  · rw [if_pos hnone, if_pos hnone]
    obtain ⟨hpc, hw⟩ := hstep (setNvState (onCore (fetched s k) k.core advance) k.core nvWfi) hadvanced
    exact ⟨hpc, hw, nvState_setNvState _ _ (by decide)⟩
  · rw [if_neg hnone, if_neg hnone]
    obtain ⟨hpc, hw⟩ := hstep (onCore (fetched s k) k.core advance) hadvanced
    exact ⟨hpc, hw, by rw [nvState_onCore, nvState_fetched, h.running]⟩

/-- Settles O40: WFI leaves the core waiting (`gives_wfi`); while it waits no instruction runs (`runInstr_idle`), and a pending vector that IMASK enables ends the wait,
through the interrupt's entry where IE is 1. -/
theorem waitForInterrupt : Obligations.WaitForInterrupt := by
  unfold Obligations.WaitForInterrupt
  refine ⟨fun k s h => gives_wfi h, fun i k s hi hwfi => ?idle, fun c s hwfi => ⟨execWfiResume_waits, fun hpend hie => ?masked, fun v hv hrep hroom => ?taken,
    gives_coreTimerExpiry (.inr hwfi), gives_watchdogWarning (.inr hwfi), gives_watchdogExpiry (.inr hwfi)⟩⟩
  case idle =>
    obtain ⟨extra, cycles, r, op, hexec⟩ := runsAs_of_coreInstr hi s
    rw [hexec, runInstr_idle]
    exact fun hrun => absurd (hwfi.symm.trans hrun) (by decide)
  case masked =>
    exact ⟨setNvState s c nvRun, (execWfiResume_pending hwfi hpend).trans (execInterruptEntry_masked hie), nvState_setNvState s c (by decide), rfl⟩
  case taken =>
    have hrun : nvState (setNvState s c nvRun) c = nvRun := nvState_setNvState s c (by decide)
    refine ⟨_, (execWfiResume_pending hwfi (pending_of_eligible hv)).trans (execInterruptEntry_room hrun hv (.inl hrep) hroom), hrun, ?_⟩
    rw [core_setCore_self]
    exact entered_enterVector ..

end Sys2Proof.Machine
end

section
/-! SUPPORT. Bytes in a core's SRAM, and its loads and stores there (R212, R217, R218, R230). -/
namespace Sys2Proof.Machine

/-! ### Sparse byte maps -/

theorem mapStore_cons (m : List (Nat × Byte)) (off : Nat) (b : Byte) (bs : List Byte) : mapStore m off (b :: bs) = mapStore (mapSet 0 m off b) (off + 1) bs := by
  simp only [mapStore, List.zipIdx_cons, List.foldl_cons, Nat.add_zero, List.zipIdx_succ, List.foldl_map, Nat.add_assoc, Nat.add_comm 1]

/-- Bytes stored from an offset on: each is found at its place, every other byte as before. -/
theorem mapGet_mapStore (bs : List Byte) (m : List (Nat × Byte)) (off j : Nat) :
    mapGet 0 (mapStore m off bs) j = if off ≤ j then (bs[j - off]?).getD (mapGet 0 m j) else mapGet 0 m j := by
  induction bs generalizing m off with
  | nil => simp [mapStore]
  | cons b rest ih =>
    rw [mapStore_cons, ih, mapGet_mapSet]
    rcases Nat.lt_trichotomy j off with h | rfl | h
    · rw [if_neg (by omega), if_neg (by omega), if_neg (by omega)]
    · simp
    · obtain ⟨i, rfl⟩ : ∃ i, j = off + 1 + i := ⟨j - (off + 1), by omega⟩
      rw [if_pos (show off + 1 ≤ off + 1 + i by omega), if_pos (show off ≤ off + 1 + i by omega), if_neg (show off ≠ off + 1 + i by omega), Nat.add_sub_cancel_left,
        show off + 1 + i - off = i + 1 by omega, List.getElem?_cons_succ]

section
variable (m : List (Nat × Byte)) (off n v : Nat)

theorem mapGet_mapPut_outside {j : Nat} (h : j < off ∨ off + n ≤ j) : mapGet 0 (mapPut m off n v) j = mapGet 0 m j := by
  rw [mapPut, mapGet_mapStore]
  split
  · rw [List.getElem?_eq_none (by rw [length_leBytes]; omega), Option.getD_none]
  · rfl

/-- Bytes read back where they were put. -/
theorem mapBytes_mapPut : mapBytes (mapPut m off n v) off n = v % 2 ^ (8 * n) := by
  have hbytes : (List.range n).map (fun i => mapGet 0 (mapPut m off n v) (off + i)) = leBytes n v := by
    refine List.ext_getElem (by simp) fun i hi _ => ?_
    have hlen : i < (leBytes n v).length := by simpa using hi
    rw [List.getElem_map, List.getElem_range, mapPut, mapGet_mapStore, if_pos (Nat.le_add_right off i), Nat.add_sub_cancel_left, List.getElem?_eq_getElem hlen,
      Option.getD_some]
  rw [mapBytes, hbytes, leNat_leBytes, Nat.pow_mul]

/-- Bytes beside those put are as before. -/
theorem mapBytes_mapPut_of_disjoint {a k : Nat} (h : a + k ≤ off ∨ off + n ≤ a) : mapBytes (mapPut m off n v) a k = mapBytes m a k := by
  unfold mapBytes
  refine congrArg leNat (List.map_congr_left fun i hi => mapGet_mapPut_outside m off n v ?_)
  rw [List.mem_range] at hi
  omega

theorem leNat_lt (bs : List Byte) : leNat bs < 256 ^ bs.length := by
  induction bs with
  | nil => exact Nat.one_pos
  | cons b rest ih =>
    have hb := b.isLt
    rw [leNat, List.length_cons, Nat.pow_succ]
    omega

theorem mapBytes_lt : mapBytes m off n < 2 ^ (8 * n) := by
  have h := leNat_lt ((List.range n).map (fun i => mapGet 0 m (off + i)))
  rwa [List.length_map, List.length_range, ← Nat.pow_mul 2 8 n] at h

end

/-! ### Accesses of data SRAM (Table NVC-2) -/

theorem wreg_of_w_eq {x y : CoreState} (h : x.w = y.w) (i : Nat) : wreg x i = wreg y i := congrArg (mapGet 0 · i) h

theorem preg_of_ptr_eq {x y : CoreState} (h : x.ptr = y.ptr) (i : Nat) : preg x i = preg y i := congrArg (mapGet ({} : Pointer) · i) h

/-- Of a core only FABBASE bears on where its addresses lie (R212). -/
theorem spaceOf_of_fabbase_eq {x y : CoreState} (h : x.fabbase = y.fabbase) (a : Nat) : spaceOf x a = spaceOf y a := by
  simp only [spaceOf, h]

section
variable {s : State} {c off : Nat} {a : Word}

/-- A load of data SRAM reads its bytes and changes nothing. -/
theorem coreLoad_dsram (h : spaceOf (core s c) a.toNat = .dsram off) (n : Nat) : coreLoad s c a n = (mapBytes (core s c).dmem off n, s) := by
  simp only [coreLoad, h]

theorem coreStore_dsram (h : spaceOf (core s c) a.toNat = .dsram off) (n v : Nat) :
    coreStore s c a n v = setCore s c { core s c with dmem := mapPut (core s c).dmem off n v } := by
  simp only [coreStore, h]

/-- The core after a store in data SRAM. -/
theorem core_coreStore_dsram (h : spaceOf (core s c) a.toNat = .dsram off) (n v : Nat) :
    core (coreStore s c a n v) c = { core s c with dmem := mapPut (core s c).dmem off n v } := by
  rw [coreStore_dsram h, core_setCore_self]

/-- A store moves no address range. -/
theorem spaceOf_coreStore_dsram (h : spaceOf (core s c) a.toNat = .dsram off) (n v b : Nat) : spaceOf (core (coreStore s c a n v) c) b = spaceOf (core s c) b := by
  rw [core_coreStore_dsram h]
  exact spaceOf_of_fabbase_eq rfl b

theorem mem_coreStore_dsram (h : spaceOf (core s c) a.toNat = .dsram off) (n v : Nat) : (coreStore s c a n v).mem = s.mem := by
  rw [coreStore_dsram h, setCore_mem]

end

/-- A post-modify changes the pointers alone. -/
theorem exists_ptr_of_postOf {x z : CoreState} {p : Option Nat} (h : postOf x p = some z) : ∃ l, z = { x with ptr := l } := by
  cases p with
  | none => exact ⟨x.ptr, (Option.some.inj h).symm⟩
  | some p =>
    obtain ⟨q, -, rfl⟩ := Option.map_eq_some_iff.1 h
    exact ⟨_, rfl⟩

/-! ### Loads and stores (R230) -/

section
variable {s : State} {c : Nat} {sv : Option (Fin 32)} {n : Nat} {o : MemM} {a : Word} {post : Option Nat} {z : CoreState}

theorem loadOp_granted (signed : Bool) (ha : memAddr (core s c) o.p o.am.toNat o.imm.toNat = .at a post) (hf : dataFault s c sv a n false = none)
    (hz : postOf (core (coreLoad s c a n).2 c) post = some z) : loadOp sv n signed o s c = .done (setCore (coreLoad s c a n).2 c
      (advance (setWreg z o.rd (if signed then sextImm (8 * n) (coreLoad s c a n).1 else BitVec.ofNat 32 (coreLoad s c a n).1)))) := by
  simp only [loadOp, ha, hf, hz]

theorem storeOp_granted (ha : memAddr (core s c) o.p o.am.toNat o.imm.toNat = .at a post) (hf : dataFault s c sv a n true = none)
    (hz : postOf (core s c) post = some z) : storeOp sv n o s c = .done (onCore (coreStore (setCore s c z) c a n (wreg (core s c) o.rd).toNat) c advance) := by
  simp only [storeOp, ha, hf, hz]

end

section
variable {s : State} {k : Nvc} {i : Instr} {n : Nat} {o : MemM} {a : Word} {post : Option Nat} {z : CoreState}

/-- A load puts its value, extended, in rd, and its pointer is post-modified. -/
theorem gives_load {signed : Bool} (h : Executes s k true) (hi : exec i s = .next (runInstr k 1 true (loadOp k.serving n signed o) s))
    (ha : memAddr (core s k.core) o.p o.am.toNat o.imm.toNat = .at a post) (hf : dataFault (fetched s k) k.core k.serving a n false = none)
    (hz : postOf (core (coreLoad (fetched s k) k.core a n).2 k.core) post = some z) : Gives s i fun t =>
      wreg (core t k.core) o.rd = (if signed then sextImm (8 * n) (coreLoad (fetched s k) k.core a n).1 else BitVec.ofNat 32 (coreLoad (fetched s k) k.core a n).1)
        ∧ (∀ i, i ≠ o.rd.val → wreg (core t k.core) i = wreg z i) ∧ (core t k.core).ptr = z.ptr ∧ (core t k.core).pc = nextPc z := by
  refine gives_done h hi (loadOp_granted signed (by rw [core_fetched, ha]) hf hz) ?_
  rw [core_spend, core_setCore_self]
  refine ⟨?_, fun j hj => ?_, advance_ptr _, advance_pc _⟩
  · exact (wreg_of_w_eq (advance_w _) _).trans ((wreg_setWreg _ _ _ _).trans (if_pos rfl))
  · exact (wreg_of_w_eq (advance_w _) _).trans ((wreg_setWreg _ _ _ _).trans (if_neg hj.symm))

/-- A store in data SRAM puts the low bytes of rd there, and its pointer is post-modified. -/
theorem gives_store {off : Nat} (h : Executes s k true) (hi : exec i s = .next (runInstr k 1 true (storeOp k.serving n o) s))
    (ha : memAddr (core s k.core) o.p o.am.toNat o.imm.toNat = .at a post) (hf : dataFault (fetched s k) k.core k.serving a n true = none)
    (hz : postOf (core s k.core) post = some z) (hoff : spaceOf (core s k.core) a.toNat = .dsram off) : Gives s i fun t =>
      mapBytes (core t k.core).dmem off n = (wreg (core s k.core) o.rd).toNat % 2 ^ (8 * n)
        ∧ (∀ j, j < off ∨ off + n ≤ j → mapGet 0 (core t k.core).dmem j = mapGet 0 (core s k.core).dmem j)
        ∧ (core t k.core).w = (core s k.core).w ∧ (core t k.core).ptr = z.ptr ∧ (core t k.core).pc = nextPc (core s k.core) ∧ t.mem = s.mem := by
  obtain ⟨l, rfl⟩ := exists_ptr_of_postOf hz
  have hspace : spaceOf (core (setCore (fetched s k) k.core { core s k.core with ptr := l }) k.core) a.toNat = .dsram off := by
    rw [core_setCore_self, ← hoff]
    exact spaceOf_of_fabbase_eq rfl _
  refine gives_done h hi (storeOp_granted (by rw [core_fetched, ha]) hf (by rw [core_fetched, hz])) ?_
  rw [core_spend, core_onCore_self, core_coreStore_dsram hspace, core_setCore_self, core_fetched]
  refine ⟨?_, fun j hj => ?_, advance_w _, advance_ptr _, advance_pc _, (mem_coreStore_dsram hspace _ _).trans (mem_fetched s k)⟩
  · rw [advance_dmem, mapBytes_mapPut]
  · rw [advance_dmem, mapGet_mapPut_outside _ _ _ _ hj]

end

/-- Settles O33: the five loads and three stores are one load and one store (`gives_load`, `gives_store`) of their sizes. -/
theorem novdyLoadsAndStores : Obligations.NovdyLoadsAndStores := by
  unfold Obligations.NovdyLoadsAndStores
  intro k o a post z s h ha
  exact ⟨gives_load (n := 4) (signed := false) h rfl ha, gives_load (n := 2) (signed := false) h rfl ha, gives_load (n := 2) (signed := true) h rfl ha,
    gives_load (n := 1) (signed := false) h rfl ha, gives_load (n := 1) (signed := true) h rfl ha,
    fun off => gives_store (n := 4) h rfl ha, fun off => gives_store (n := 2) h rfl ha, fun off => gives_store (n := 1) h rfl ha⟩

end Sys2Proof.Machine
end

section
/-! SUPPORT. Pointer registers, MOVP, and transfers of the data stack (R218, R219). -/
namespace Sys2Proof.Machine

/-! ### Pointers (R218) -/

section
variable {s : State} {k : Nvc}

theorem gives_pset {w : Fin 16} {p : Fin 8} {f : BitVec 3} {q : Pointer} (h : Executes s k false)
    (hq : setField (preg (core s k.core) p) f.toNat (wreg (core s k.core) w) = some q) :
    Gives s (.pset k w p f) fun t => CoreEnds s t k (1 + k.stall) (advance (setPreg (core s k.core) p q)) :=
  gives_coreEnds h rfl (by simp only [core_fetched, hq])

theorem gives_pget {w : Fin 16} {p : Fin 8} {f : BitVec 3} {v : Word} (h : Executes s k false) (hv : getField (preg (core s k.core) p) f.toNat = some v) :
    Gives s (.pget k w p f) fun t => CoreEnds s t k (1 + k.stall) (advance (setWreg (core s k.core) w v)) :=
  gives_coreEnds h rfl (by simp only [core_fetched, hv])

theorem gives_padd {p : Fin 8} {q : Pointer} (h : Executes s k true) (hq : postModify (preg (core s k.core) p) = some q) :
    Gives s (.padd k p) fun t => CoreEnds s t k (1 + k.stall) (advance (setPreg (core s k.core) p q)) :=
  gives_coreEnds h rfl (by simp only [core_fetched, postOf, hq, Option.map_some])

/-- MOVP between two words of data SRAM: the word is copied, and both pointers are post-modified. -/
theorem gives_movp {pd ps : Fin 8} {off offd : Nat} {y z : CoreState} (h : Executes s k true)
    (hload : dataFault (fetched s k) k.core k.serving (preg (core s k.core) ps).pa 4 false = none)
    (hstore : dataFault (fetched s k) k.core k.serving (preg (core s k.core) pd).pa 4 true = none)
    (hsrc : spaceOf (core s k.core) (preg (core s k.core) ps).pa.toNat = .dsram off) (hdst : spaceOf (core s k.core) (preg (core s k.core) pd).pa.toNat = .dsram offd)
    (hy : postOf (core s k.core) (some ps.val) = some y) (hz : postOf y (some pd.val) = some z) : Gives s (.movp k pd ps) fun t =>
      mapBytes (core t k.core).dmem offd 4 = mapBytes (core s k.core).dmem off 4 ∧ (core t k.core).ptr = z.ptr ∧ (core t k.core).pc = nextPc (core s k.core) := by
  have hsource : spaceOf (core (fetched s k) k.core) (preg (core s k.core) ps).pa.toNat = .dsram off := by rw [core_fetched, hsrc]
  have htarget : spaceOf (core (onCore (fetched s k) k.core fun x => { x with ptr := z.ptr }) k.core) (preg (core s k.core) pd).pa.toNat = .dsram offd := by
    rw [core_onCore_self, core_fetched, ← hdst]
    exact spaceOf_of_fabbase_eq rfl _
  refine gives_done (u := onCore (coreStore (onCore (fetched s k) k.core fun x => { x with ptr := z.ptr }) k.core (preg (core s k.core) pd).pa 4
    (mapBytes (core s k.core).dmem off 4)) k.core advance) h rfl ?_ ?_
  · simp only [core_fetched, hload, hstore, hy, hz, coreLoad_dsram hsource]
  · rw [core_spend, core_onCore_self, core_coreStore_dsram htarget, core_onCore_self, core_fetched]
    refine ⟨?_, advance_ptr _, advance_pc _⟩
    rw [advance_dmem, mapBytes_mapPut, Nat.mod_eq_of_lt (mapBytes_lt _ off 4)]

end

/-! ### The data stack (R219) -/

section
variable {s : State} {c : Nat} {sv : Option (Fin 32)} {rs : List Nat}

/-- A push with room above DSLIM whose every word is granted stores the words and lowers DSP. -/
theorem pushOp_granted (hroom : (core s c).dslim.toNat + 4 * rs.length ≤ (core s c).dsp.toNat)
    (hf : ∀ i < rs.length, dataFault s c sv (BitVec.ofNat 32 ((core s c).dsp.toNat - 4 * rs.length + 4 * i)) 4 true = none) : pushOp sv rs s c
      = .done (onCore (rs.zipIdx.foldl (fun u e => coreStore u c (BitVec.ofNat 32 ((core s c).dsp.toNat - 4 * (e.2 + 1))) 4 (wreg (core s c) e.1).toNat) s) c
        fun y => advance { y with dsp := BitVec.ofNat 32 ((core s c).dsp.toNat - 4 * rs.length) }) := by
  have hnone : (List.range rs.length).findSome? (fun i => (dataFault s c sv (BitVec.ofNat 32 ((core s c).dsp.toNat - 4 * rs.length + 4 * i)) 4 true).map
      (fun e => (e, (core s c).dsp.toNat - 4 * rs.length + 4 * i))) = none :=
    List.findSome?_eq_none_iff.2 fun i hi => by rw [hf i (List.mem_range.1 hi), Option.map_none]
  have hfit : ¬((core s c).dsp.toNat < 4 * rs.length ∨ (core s c).dsp.toNat - 4 * rs.length < (core s c).dslim.toNat) := by omega
  simp only [pushOp, if_neg hfit, hnone]

/-- A pop with its words below DSTOP, every one granted, loads them and raises DSP. -/
theorem popOp_granted (hroom : (core s c).dsp.toNat + 4 * rs.length ≤ (core s c).dstop.toNat)
    (hf : ∀ i < rs.length, dataFault s c sv ((core s c).dsp + BitVec.ofNat 32 (4 * i)) 4 false = none) : popOp sv rs s c
      = .done (onCore (rs.zipIdx.foldl (fun u e => onCore (coreLoad u c ((core s c).dsp + BitVec.ofNat 32 (4 * e.2)) 4).2 c
          fun y => setWreg y e.1 (BitVec.ofNat 32 (coreLoad u c ((core s c).dsp + BitVec.ofNat 32 (4 * e.2)) 4).1)) s) c
        fun y => advance { y with dsp := (core s c).dsp + BitVec.ofNat 32 (4 * rs.length) }) := by
  have hnone : (List.range rs.length).findSome? (fun i => (dataFault s c sv ((core s c).dsp + BitVec.ofNat 32 (4 * i)) 4 false).map
      (fun e => (e, (core s c).dsp + BitVec.ofNat 32 (4 * i)))) = none :=
    List.findSome?_eq_none_iff.2 fun i hi => by rw [hf i (List.mem_range.1 hi), Option.map_none]
  simp only [popOp, if_neg (Nat.not_lt.2 hroom), hnone]

end

section
variable {s : State} {k : Nvc} {w : Fin 16} {off : Nat} {mask : BitVec 16}

/-- The word below the top of the stack. -/
theorem ofNat_dsp_sub {d : Word} (h : 4 ≤ d.toNat) : BitVec.ofNat 32 (d.toNat - 4) = d - 4 := by
  apply BitVec.eq_of_toNat_eq
  rw [BitVec.toNat_ofNat, BitVec.toNat_sub_of_le (show (4 : Word) ≤ d from h), Nat.mod_eq_of_lt (by have := d.isLt; omega)]
  rfl

theorem gives_push (h : Executes s k false) (hroom : (core s k.core).dslim.toNat + 4 ≤ (core s k.core).dsp.toNat)
    (hf : dataFault (fetched s k) k.core k.serving ((core s k.core).dsp - 4) 4 true = none) (hoff : spaceOf (core s k.core) ((core s k.core).dsp - 4).toNat = .dsram off) :
    Gives s (.push k w) fun t => (core t k.core).dsp = (core s k.core).dsp - 4 ∧ mapBytes (core t k.core).dmem off 4 = (wreg (core s k.core) w).toNat
      ∧ (core t k.core).pc = (core s k.core).pc + 4 := by
  have hlow := ofNat_dsp_sub (show 4 ≤ (core s k.core).dsp.toNat by omega)
  have hspace : spaceOf (core (fetched s k) k.core) (BitVec.ofNat 32 ((core s k.core).dsp.toNat - 4)).toNat = .dsram off := by rw [core_fetched, hlow, hoff]
  refine gives_done h rfl (pushOp_granted (rs := [w.val]) (by rwa [core_fetched]) fun i hi => ?_) ?_
  · obtain rfl : i = 0 := Nat.lt_one_iff.1 hi
    rw [core_fetched, List.length_singleton, Nat.mul_one, Nat.mul_zero, Nat.add_zero, hlow, hf]
  · simp only [core_fetched, List.zipIdx_singleton, List.foldl_cons, List.foldl_nil, List.length_singleton, Nat.zero_add, Nat.mul_one]
    rw [core_spend, core_onCore_self, core_coreStore_dsram hspace, core_fetched, hlow]
    refine ⟨advance_dsp _, ?_, (advance_pc _).trans (nextPc_unrepeated h.unrepeated)⟩
    rw [advance_dmem, mapBytes_mapPut, Nat.mod_eq_of_lt (BitVec.isLt _)]

/-- The core with a word popped into a register. -/
def popped (x : CoreState) (w : Nat) (v : Word) : CoreState := { setWreg x w v with dsp := x.dsp + 4 }

theorem wreg_popped (x : CoreState) (w : Nat) (v : Word) : wreg (popped x w v) w = v := (wreg_setWreg x w w v).trans (if_pos rfl)
theorem popped_dsp (x : CoreState) (w : Nat) (v : Word) : (popped x w v).dsp = x.dsp + 4 := rfl
theorem popped_dmem (x : CoreState) (w : Nat) (v : Word) : (popped x w v).dmem = x.dmem := rfl
theorem nextPc_popped {x : CoreState} (h : x.rep = false) (w : Nat) (v : Word) : nextPc (popped x w v) = x.pc + 4 := nextPc_unrepeated (x := popped x w v) h

/-- A pop from data SRAM acts on its core alone. -/
theorem gives_popped (h : Executes s k false) (hroom : (core s k.core).dsp.toNat + 4 ≤ (core s k.core).dstop.toNat)
    (hf : dataFault (fetched s k) k.core k.serving (core s k.core).dsp 4 false = none) (hoff : spaceOf (core s k.core) (core s k.core).dsp.toNat = .dsram off) :
    Gives s (.pop k w) fun t => core t k.core = { advance (popped (core s k.core) w (BitVec.ofNat 32 (mapBytes (core s k.core).dmem off 4))) with
      cyc := (advance (popped (core s k.core) w (BitVec.ofNat 32 (mapBytes (core s k.core).dmem off 4)))).cyc + BitVec.ofNat 64 (1 + k.stall) } := by
  have hspace : spaceOf (core (fetched s k) k.core) (core s k.core).dsp.toNat = .dsram off := by rw [core_fetched, hoff]
  refine gives_done h rfl (popOp_granted (rs := [w.val]) (by rwa [core_fetched]) fun i hi => ?_) ?_
  · obtain rfl : i = 0 := Nat.lt_one_iff.1 hi
    rw [core_fetched, Nat.mul_zero, BitVec.add_zero, hf]
  · simp only [core_fetched, List.zipIdx_singleton, List.foldl_cons, List.foldl_nil, List.length_singleton, Nat.mul_zero, Nat.mul_one, BitVec.add_zero,
      coreLoad_dsram hspace]
    rw [core_spend, core_onCore_self, core_onCore_self, core_fetched]
    rfl

theorem gives_pop (h : Executes s k false) (hroom : (core s k.core).dsp.toNat + 4 ≤ (core s k.core).dstop.toNat)
    (hf : dataFault (fetched s k) k.core k.serving (core s k.core).dsp 4 false = none) (hoff : spaceOf (core s k.core) (core s k.core).dsp.toNat = .dsram off) :
    Gives s (.pop k w) fun t => (core t k.core).dsp = (core s k.core).dsp + 4 ∧ wreg (core t k.core) w = BitVec.ofNat 32 (mapBytes (core s k.core).dmem off 4)
      ∧ (core t k.core).dmem = (core s k.core).dmem ∧ (core t k.core).pc = (core s k.core).pc + 4 :=
  (gives_popped h hroom hf hoff).mono fun t ht => by
    rw [ht]
    exact ⟨(advance_dsp _).trans (popped_dsp ..), (wreg_of_w_eq (advance_w _) _).trans (wreg_popped ..), (advance_dmem _).trans (popped_dmem ..),
      (advance_pc _).trans (nextPc_popped h.unrepeated ..)⟩

theorem gives_pushm (h : Executes s k false) (hroom : (core s k.core).dslim.toNat + 4 * (maskRegs mask).length ≤ (core s k.core).dsp.toNat)
    (hf : ∀ i, 4 * i < 4 * (maskRegs mask).length →
      dataFault (fetched s k) k.core k.serving (BitVec.ofNat 32 ((core s k.core).dsp.toNat - 4 * (maskRegs mask).length + 4 * i)) 4 true = none) :
    Gives s (.pushm k mask) fun t => (core t k.core).dsp = BitVec.ofNat 32 ((core s k.core).dsp.toNat - 4 * (maskRegs mask).length) := by
  rw [← List.length_reverse] at hroom hf ⊢
  refine gives_done h rfl (pushOp_granted (by rwa [core_fetched]) fun i hi => ?_) ?_
  · rw [core_fetched]
    exact hf i (by omega)
  · rw [core_spend, core_onCore_self, core_fetched]
    exact advance_dsp _

theorem gives_popm (h : Executes s k false) (hroom : (core s k.core).dsp.toNat + 4 * (maskRegs mask).length ≤ (core s k.core).dstop.toNat)
    (hf : ∀ i, 4 * i < 4 * (maskRegs mask).length → dataFault (fetched s k) k.core k.serving ((core s k.core).dsp + BitVec.ofNat 32 (4 * i)) 4 false = none) :
    Gives s (.popm k mask) fun t => (core t k.core).dsp = (core s k.core).dsp + BitVec.ofNat 32 (4 * (maskRegs mask).length) := by
  refine gives_done h rfl (popOp_granted (by rwa [core_fetched]) fun i hi => ?_) ?_
  · rw [core_fetched]
    exact hf i (by omega)
  · rw [core_spend, core_onCore_self, core_fetched]
    exact advance_dsp _

end

/-- Settles O34: the pointer instructions act on their core alone, MOVP is a load and a store with both pointers judged first, and a transfer of the data stack whose every
word is granted moves DSP by its length. -/
theorem novdyPointersAndDataStack : Obligations.NovdyPointersAndDataStack := by
  unfold Obligations.NovdyPointersAndDataStack
  refine ⟨fun k w p f s h => ⟨fun q hq => (gives_pset h hq).mono fun t ht => ?pset, fun v hv => (gives_pget h hv).mono fun t ht => ?pget⟩,
    fun k p q s h hq => (gives_padd h hq).mono fun t ht => ?padd, fun k pd ps off offd y z s h => gives_movp h,
    fun k w off s h => ⟨gives_push h, gives_pop h⟩, fun k mask s h => ⟨gives_pushm h, gives_popm h⟩⟩
  all_goals rw [ht.core_eq]
  case pset =>
    exact ⟨(preg_of_ptr_eq (advance_ptr _) _).trans ((preg_setPreg _ _ _ _).trans (if_pos rfl)), advance_w _, (advance_pc _).trans (nextPc_unrepeated h.unrepeated)⟩
  case pget =>
    exact ⟨(wreg_of_w_eq (advance_w _) _).trans ((wreg_setWreg _ _ _ _).trans (if_pos rfl)), advance_ptr _, (advance_pc _).trans (nextPc_unrepeated h.unrepeated)⟩
  case padd =>
    exact ⟨(preg_of_ptr_eq (advance_ptr _) _).trans ((preg_setPreg _ _ _ _).trans (if_pos rfl)), advance_w _, advance_pc _⟩

end Sys2Proof.Machine
end

section
/-! SUPPORT. Control transfer, control registers, custom instructions, and spills and fills of the return stack (R214, R216, R220 to R226, R232 to R236). -/
namespace Sys2Proof.Machine

/-! ### Branches, jumps and calls (R220, Table NVC-12) -/

@[simp] theorem core_jumpTo (s : State) (c : Nat) (pc : Word) : core (jumpTo s c pc) c = { core s c with pc := pc } := core_onCore_self ..

/-- The entry that a call pushes (Table NVC-6). -/
def callEntry (x : CoreState) : RsEntry :=
  { handler := false, rep := false, repi := false, count := 0, lvl := 0, ie := false, flags := 0, pcw := (x.pc + 4).toNat / 4 % 2 ^ 28 }

/-- From a fetched instruction the return address fits its field. -/
theorem callEntry_pcw {x : CoreState} (h : x.pc.toNat < 0x10000) : (callEntry x).pcw = (x.pc + 4).toNat / 4 := by
  have hpc : (x.pc + 4).toNat = x.pc.toNat + 4 := by
    rw [BitVec.toNat_add]
    exact Nat.mod_eq_of_lt (by change x.pc.toNat + 4 < 4294967296; omega)
  exact Nat.mod_eq_of_lt (by rw [hpc]; omega)

/-- With room on the stack a call pushes its entry, and no spill follows. -/
theorem callTo_room {s : State} {c : Nat} (h : roomOnStack (core s c) = true) (target : Word) :
    callTo s c target = setCore s c { core s c with rs := callEntry (core s c) :: (core s c).rs, pc := target } := by
  rw [callTo]
  dsimp only
  rw [if_neg (Nat.not_le.2 ((roomOnStack_iff _).1 h).1)]
  exact spillCheck_pushed h (core_setCore_self s c { core s c with rs := callEntry (core s c) :: (core s c).rs, pc := target }) rfl rfl _

section
variable {s : State} {k : Nvc} {i : Instr} {cycles : Nat} {op : State → Nat → NvcRes} {target : Word}

theorem gives_jump (h : Executes s k false) (hi : exec i s = .next (runInstr k cycles false op s))
    (ho : op (fetched s k) k.core = .done (jumpTo (fetched s k) k.core target)) :
    Gives s i fun t => CoreEnds s t k (cycles + k.stall) { core s k.core with pc := target } :=
  gives_coreEnds h hi (by rw [ho, jumpTo, onCore, core_fetched])

theorem gives_call (h : Executes s k false) (hi : exec i s = .next (runInstr k cycles false op s))
    (ho : op (fetched s k) k.core = .done (callTo (fetched s k) k.core target)) (hroom : roomOnStack (core s k.core) = true) : Gives s i fun t =>
      (core t k.core).pc = target ∧ ∃ e, (core t k.core).rs = e :: (core s k.core).rs ∧ e.handler = false ∧ e.pcw = ((core s k.core).pc + 4).toNat / 4 := by
  have hcalled := callTo_room (s := fetched s k) (c := k.core) (by rwa [core_fetched]) target
  rw [core_fetched] at hcalled
  refine (gives_coreEnds h hi (ho.trans (congrArg NvcRes.done hcalled))).mono fun t ht => ?_
  rw [ht.core_eq]
  exact ⟨rfl, callEntry (core s k.core), rfl, rfl, callEntry_pcw h.fetch.1⟩

/-- A return takes its entry off the stack and goes on as the entry says. -/
theorem gives_return {handler : Bool} {f : CoreState → RsEntry → CoreState} {e : RsEntry} {rest : List RsEntry} (h : Executes s k false)
    (hi : exec i s = .next (runInstr k cycles false (returnOp handler f) s)) (hrs : (core s k.core).rs = e :: rest) (he : e.handler = handler) :
    Gives s i fun t => CoreEnds s t k (cycles + k.stall) (f { core s k.core with rs := rest } e) :=
  gives_coreEnds h hi (by rw [returnOp_pops (by rw [core_fetched, hrs]) he, core_fetched])

end

section
variable {s : State} {k : Nvc} {cond : BitVec 4} {off : BitVec 22}

/-- A branch taken spends a second cycle. -/
theorem gives_b_taken (h : Executes s k false) (hcond : condHolds (core s k.core) cond.toNat = some true) : Gives s (.b k cond off) fun t =>
    (core t k.core).pc = (core s k.core).pc + BitVec.ofInt 32 (4 * sext 22 off.toNat) ∧ (core t k.core).cyc = (core s k.core).cyc + BitVec.ofNat 64 (2 + k.stall)
      ∧ (core t k.core).w = (core s k.core).w := by
  refine gives_done (u := spend (jumpTo (fetched s k) k.core ((core s k.core).pc + BitVec.ofInt 32 (4 * sext 22 off.toNat))) k.core 1) h rfl
    (by simp only [core_fetched, hcond]) ?_
  rw [core_spend, core_spend, core_jumpTo, core_fetched]
  refine ⟨rfl, ?_, rfl⟩
  rw [BitVec.add_assoc, ← BitVec.ofNat_add, ← Nat.add_assoc]

theorem gives_b_untaken (h : Executes s k false) (hcond : condHolds (core s k.core) cond.toNat = some false) :
    Gives s (.b k cond off) fun t => CoreEnds s t k (1 + k.stall) (advance (core s k.core)) :=
  gives_coreEnds h rfl (by simp only [core_fetched, hcond, onCore])

end

/-- The core after a REP or REPI of a count: the next instruction is to be repeated, or skipped where the count is 0 (R223). -/
def repeatSet (x : CoreState) (repi : Bool) (n : Nat) : CoreState :=
  if n = 0 then { x with pc := x.pc + 8 } else { x with pc := x.pc + 4, rep := true, repi := repi, rptcnt := n }

theorem gives_repeat {s : State} {k : Nvc} {i : Instr} {repi src : Bool} {w : Fin 16} {count : BitVec 16} (h : Executes s k false)
    (hi : exec i s = .next (runInstr k 1 false (repeatOp repi src w count.toNat) s)) (hcount : src = true → count = 0) : Gives s i fun t =>
      CoreEnds s t k (1 + k.stall) (repeatSet (core s k.core) repi (if src then (wreg (core s k.core) w).toNat % 0x10000 else count.toNat)) := by
  have hfield : (src && count.toNat != 0) = false := by
    cases src with
    | false => rfl
    | true => rw [hcount rfl]; rfl
  refine gives_coreEnds h hi ?_
  rw [repeatOp, core_fetched]
  dsimp only
  rw [hfield]
  rfl

/-- The program counter and the repeat in progress after it. -/
theorem CoreEnds.repeatSet_shows {s t : State} {k : Nvc} {m n : Nat} {repi : Bool} (h : CoreEnds s t k m (repeatSet (core s k.core) repi n)) :
    if n = 0 then (core t k.core).pc = (core s k.core).pc + 8
    else (core t k.core).pc = (core s k.core).pc + 4 ∧ (core t k.core).rep = true ∧ (core t k.core).repi = repi ∧ (core t k.core).rptcnt = n := by
  rw [h.core_eq, repeatSet]
  split
  · rfl
  · exact ⟨rfl, rfl, rfl, rfl⟩

/-- Settles O35: each instruction acts on its core alone; calls and returns move one entry of the return stack, and with room on it no spill follows a call. -/
theorem novdyControlTransfer : Obligations.NovdyControlTransfer := by
  unfold Obligations.NovdyControlTransfer
  refine ⟨fun k cond off s h => ⟨gives_b_taken h, fun hcond => (gives_b_untaken h hcond).mono fun t ht => ?untaken⟩,
    fun k off s h => ⟨(gives_jump h rfl (by rw [core_fetched])).mono fun t ht => ?jmp, gives_call h rfl (by rw [core_fetched])⟩,
    fun k w s h hw => ⟨(gives_jump h rfl (by rw [core_fetched, if_pos hw])).mono fun t ht => ?jmpr, gives_call h rfl (by rw [core_fetched, if_pos hw])⟩,
    fun k e rest s h hrs => ⟨fun he => (gives_return h (exec_ret k s) hrs he).mono fun t ht => ?ret, fun he => (gives_return h (exec_reti k s) hrs he).mono fun t ht => ?reti⟩,
    fun k src w count s h hcount => ⟨(gives_repeat h rfl hcount).mono fun t ht => ht.repeatSet_shows, (gives_repeat h rfl hcount).mono fun t ht => ht.repeatSet_shows⟩⟩
  all_goals rw [ht.core_eq]
  case untaken => exact ⟨(advance_pc _).trans (nextPc_unrepeated h.unrepeated), congrArg (· + BitVec.ofNat 64 (1 + k.stall)) (advance_cyc _)⟩
  case jmp => exact ⟨rfl, rfl⟩
  case jmpr => exact ⟨rfl, rfl⟩
  case ret => exact ⟨rfl, rfl⟩
  case reti => exact ⟨rfl, rfl, rfl, rfl, rfl, rfl, rfl, rfl, rfl, rfl⟩

end Sys2Proof.Machine
end

section
/-! SUPPORT. Control registers and custom instructions (R214, R216, R232 to R235). -/
namespace Sys2Proof.Machine

section
variable {s : State} {k : Nvc} {w : Fin 16} {index : BitVec 6}

/-- MFC of a readable index; a read of CYCLO latches CYCHI. -/
theorem gives_mfc {v : Word} (h : Executes s k false) (hv : readControl k.core (core s k.core) index.toNat = some v) : Gives s (.mfc k w index) fun t =>
    CoreEnds s t k (1 + k.stall)
      (advance (setWreg (if index.toNat = 15 then { core s k.core with cychi := hi32 (core s k.core).cyc } else core s k.core) w v)) :=
  gives_coreEnds h rfl (by simp only [core_fetched, hv])

/-- MTC of a writable index. -/
theorem gives_mtc {z : CoreState} (h : Executes s k false) (hz : writeControl (core s k.core) index.toNat (wreg (core s k.core) w) = some z) :
    Gives s (.mtc k w index) fun t => CoreEnds s t k (1 + k.stall) (advance z) :=
  gives_coreEnds h rfl (by simp only [core_fetched, hz])

/-- The kick clears the watchdog's half period and its warning (R235). -/
theorem writeControl_kick (x : CoreState) {v : Word} (hv : v.toNat = 0xA5C3) :
    writeControl x 17 v = some { x with wdogHalf := false, pend := setBit x.pend 9 false } := by
  have hkick : writeControl x 17 v = some (if v.toNat = 0xA5C3 then { x with wdogHalf := false, pend := setBit x.pend 9 false } else x) := rfl
  rw [hkick, if_pos hv]

/-- A read-only index may not be written, nor a write-only one read. -/
theorem gives_mtc_refused (h : Executes s k false) (hz : writeControl (core s k.core) index.toNat (wreg (core s k.core) w) = none)
    (hroom : roomOnStack (core s k.core) = true) : Gives s (.mtc k w index) fun t => Entered (core s k.core) (core t k.core) 0 ∧ (core t k.core).xcause = 2 :=
  gives_entered (u := fetched s k) (a := 0) h rfl (by simp only [core_fetched, hz]) (core_fetched ..) hroom

theorem gives_mfc_refused (h : Executes s k false) (hv : readControl k.core (core s k.core) index.toNat = none) (hroom : roomOnStack (core s k.core) = true) :
    Gives s (.mfc k w index) fun t => Entered (core s k.core) (core t k.core) 0 ∧ (core t k.core).xcause = 2 :=
  gives_entered (u := fetched s k) (a := 0) h rfl (by simp only [core_fetched, hv]) (core_fetched ..) hroom

end

/-- A CUSTOM before its first microword: its core's registers, no temporaries, its operand fields, and FLAGMASK of its decode-table entry. -/
def microStart (x : CoreState) (index rd ra rb : Fin 16) (imm : BitVec 10) : Micro :=
  { x := x, t := [], rd := rd, ra := ra, rb := rb, imm := imm.toNat, mask := fld (mapGet 0 x.decode index) 29 26 }

section
variable {s : State} {k : Nvc} {index rd ra rb : Fin 16} {imm : BitVec 10}

/-- An enabled CUSTOM whose microcode reaches its LAST word ends as the microcode leaves it. -/
theorem gives_custom {u : State} (h : Executes s k (bit (mapGet 0 (core s k.core).decode index) 30)) (hon : bit (mapGet 0 (core s k.core).decode index) 31 = true)
    (hrun : runMicro 64 (fetched s k) k.core k.serving (microStart (core s k.core) index rd ra rb imm) (fld (mapGet 0 (core s k.core).decode index) 9 0) 0 = .inl u) :
    Gives s (.custom k index rd ra rb imm) fun t => t = spend u k.core (1 + k.stall) := by
  unfold microStart at hrun
  exact gives_done h rfl (by simp only [hon, Bool.not_true, Bool.false_eq_true, if_false, hrun]) rfl

/-- A disabled entry raises exception 0 with cause 3. -/
theorem gives_custom_disabled (h : Executes s k (bit (mapGet 0 (core s k.core).decode index) 30)) (hoff : bit (mapGet 0 (core s k.core).decode index) 31 = false)
    (hroom : roomOnStack (core s k.core) = true) :
    Gives s (.custom k index rd ra rb imm) fun t => Entered (core s k.core) (core t k.core) 0 ∧ (core t k.core).xcause = 3 :=
  gives_entered (u := fetched s k) (a := 0) h rfl (by simp only [hoff, Bool.not_false, if_true]) (core_fetched ..) hroom

end

theorem exec_fence (k : Nvc) (s : State) : exec (.fence k) s = .next (runInstr k 1 false (plainOp id) s) := rfl
theorem exec_nop (k : Nvc) (s : State) : exec (.nop k) s = .next (runInstr k 1 true (plainOp id) s) := rfl

/-- Settles O36: MFC, MTC, FENCE and NOP act on their core alone, an index that may not be read or written raises the exception, and CUSTOM is its microcode. -/
theorem novdyControlRegistersAndCustom : Obligations.NovdyControlRegistersAndCustom := by
  unfold Obligations.NovdyControlRegistersAndCustom
  refine ⟨fun k w index v s h hv => (gives_mfc h hv).mono fun t ht => ?mfc, fun k w index z s h hz => (gives_mtc h hz).mono fun t ht => ?mtc,
    fun k w s h hw => (gives_mtc h (writeControl_kick _ hw)).mono fun t ht => ?kick, fun k w s h hroom => ⟨gives_mtc_refused h rfl hroom, gives_mfc_refused h rfl hroom⟩,
    fun k s h => (gives_plainOp h (exec_fence k s)).mono fun t ht => ?fence, fun k s h => (gives_plainOp h (exec_nop k s)).mono fun t ht => ?nop,
    fun k index rd ra rb imm s h => ⟨fun u hon hrun => gives_custom h hon hrun, gives_custom_disabled h⟩⟩
  case fence =>
    refine ⟨?_, ?_, ht.mem_eq⟩ <;> rw [ht.core_eq]
    · exact (advance_pc _).trans (nextPc_unrepeated h.unrepeated)
    · exact advance_w _
  all_goals rw [ht.core_eq]
  case mfc =>
    refine ⟨(wreg_of_w_eq (advance_w _) _).trans ((wreg_setWreg _ _ _ _).trans (if_pos rfl)), (advance_pc _).trans ?_, (advance_cychi _).trans ?_⟩
    · split <;> exact nextPc_unrepeated h.unrepeated
    · split <;> rfl
  case mtc => rw [advance_cyc]
  case kick => exact ⟨advance_wdogHalf _, (congrArg (bit · 9) (advance_pend _)).trans ((bit_setBit _ 9 9 _ (by decide)).trans (if_pos rfl))⟩
  case nop => exact ⟨advance_pc _, advance_w _⟩

end Sys2Proof.Machine
end

section
/-! SUPPORT. Traps, spills and fills (R221, R222, R225), and the obligation on traps and interrupts. -/
namespace Sys2Proof.Machine

section
variable {s : State} {k : Nvc}

/-- TRAP enters exception 7 with its code as the cause, and is counted. -/
theorem gives_trap {code : Byte} (h : Executes s k false) (hroom : roomOnStack (core s k.core) = true) : Gives s (.trap k code) fun t =>
    Entered (core s k.core) (core t k.core) 7 ∧ (core t k.core).xcause = 7 * 256 + code.toNat ∧ rd t (.nvcXcnt k.core) = satAdd (rd s (.nvcXcnt k.core)) 1 := by
  rw [← core_fetched s k k.core] at hroom
  refine gives_done h rfl (congrArg NvcRes.done (raise_room hroom 7 code.toNat 0)) ?_
  rw [core_spend, core_excepted, core_fetched, rd_spend]
  refine ⟨entered_atException (core s k.core) 7 code.toNat 0, rfl, ?_⟩
  rw [excepted, rd_wrFld, if_neg nofun, rd_wrFld, if_neg nofun, rd_count, if_pos rfl, rd_setCore_eq, rd_fetched s k (by nofun)]

/-- SPILL into data SRAM: the oldest entry's two words, low word first, and one entry fewer on the stack. -/
theorem gives_spill {e : RsEntry} {off : Nat} {a : Word} (h : Executes s k false) (he : (core s k.core).rs.getLast? = some e)
    (hlen : (core s k.core).rsspill < (core s k.core).rslen) (ha : (core s k.core).rsbase + BitVec.ofNat 32 (8 * (core s k.core).rsspill) = a)
    (hf : spillFault (fetched s k) k.core k.serving a true = none) (hlow : spaceOf (core s k.core) a.toNat = .dsram off)
    (hhigh : spaceOf (core s k.core) (a + 4).toNat = .dsram (off + 4)) : Gives s (.spill k) fun t =>
      (core t k.core).rsspill = (core s k.core).rsspill + 1 ∧ (core t k.core).rs = (core s k.core).rs.dropLast
        ∧ mapBytes (core t k.core).dmem off 4 = entryBits e % 2 ^ 32 := by
  have hfirst : spaceOf (core (fetched s k) k.core) a.toNat = .dsram off := by rw [core_fetched, hlow]
  have hsecond : spaceOf (core (coreStore (fetched s k) k.core a 4 (entryBits e)) k.core) (a + 4).toNat = .dsram (off + 4) := by
    rw [spaceOf_coreStore_dsram hfirst, core_fetched, hhigh]
  refine gives_done (u := onCore (coreStore (coreStore (fetched s k) k.core a 4 (entryBits e)) k.core (a + 4) 4 (entryBits e / 2 ^ 32)) k.core
    fun y => advance { y with rs := y.rs.dropLast, rsspill := y.rsspill + 1 }) h rfl ?_ ?_
  · simp only [core_fetched, he, if_neg (Nat.not_le.2 hlen), ha, hf]
  · rw [core_spend, core_onCore_self, core_coreStore_dsram hsecond, core_coreStore_dsram hfirst, core_fetched]
    refine ⟨advance_rsspill _, advance_rs _, ?_⟩
    rw [advance_dmem, mapBytes_mapPut_of_disjoint _ _ _ _ (.inl (Nat.le_refl _)), mapBytes_mapPut, show 8 * 4 = 32 from rfl]

/-- FILL from data SRAM: the entry last spilled comes back beneath the others. -/
theorem gives_fill {off : Nat} {a : Word} (h : Executes s k false) (hspill : (core s k.core).rsspill ≠ 0) (hroom : rscnt (core s k.core) < 32)
    (ha : (core s k.core).rsbase + BitVec.ofNat 32 (8 * ((core s k.core).rsspill - 1)) = a) (hf : spillFault (fetched s k) k.core k.serving a false = none)
    (hlow : spaceOf (core s k.core) a.toNat = .dsram off) (hhigh : spaceOf (core s k.core) (a + 4).toNat = .dsram (off + 4)) : Gives s (.fill k) fun t =>
      (core t k.core).rsspill = (core s k.core).rsspill - 1
        ∧ (core t k.core).rs = (core s k.core).rs ++ [entryOf (mapBytes (core s k.core).dmem off 4 + 2 ^ 32 * mapBytes (core s k.core).dmem (off + 4) 4)] := by
  rw [← core_fetched s k k.core] at hlow hhigh
  refine gives_done (u := onCore (fetched s k) k.core fun y => advance { y with
    rs := y.rs ++ [entryOf (mapBytes (core s k.core).dmem off 4 + 2 ^ 32 * mapBytes (core s k.core).dmem (off + 4) 4)], rsspill := y.rsspill - 1 }) h rfl ?_ ?_
  · simp only [core_fetched, if_neg hspill, if_neg (Nat.not_le.2 hroom), ha, hf, coreLoad_dsram hlow, coreLoad_dsram hhigh]
  · rw [core_spend, core_onCore_self, core_fetched]
    exact ⟨advance_rsspill _, advance_rs _⟩

/-- A FILL that finds 32 entries is a double fault (log entry 126). -/
theorem gives_fill_full (h : Executes s k false) (hspill : (core s k.core).rsspill ≠ 0) (hfull : rscnt (core s k.core) = 32) : Gives s (.fill k) (HaltedWith k.core 2 s) :=
  gives_halt h rfl (by simp only [core_fetched, if_neg hspill, if_pos hfull.ge])

end

/-- Settles O37: TRAP by the entry of an exception, SPILL and FILL by two words of data SRAM each, an interrupt by the entry of its vector, and the timers by the vectors
they make pending. -/
theorem novdyTrapsAndInterrupts : Obligations.NovdyTrapsAndInterrupts := by
  unfold Obligations.NovdyTrapsAndInterrupts
  refine ⟨fun k code s h hroom => gives_trap h hroom, fun k e off s h he hlen => gives_spill h he hlen rfl, fun k off s h hspill hroom => gives_fill h hspill hroom rfl,
    fun k s h hspill hfull => (gives_fill_full h hspill hfull).mono fun t ht => ⟨ht.state, ht.cause_eq, ht.stack⟩,
    fun c v s hrun hv hrep hroom => ⟨_, execInterruptEntry_room hrun hv hrep hroom, ?interrupt⟩,
    fun c s hup => ⟨gives_watchdogWarning hup, gives_coreTimerExpiry hup⟩⟩
  case interrupt =>
    beta_reduce
    rw [core_setCore_self]
    exact ⟨entered_enterVector .., rfl⟩

end Sys2Proof.Machine
end

section
/-! SUPPORT. Messages and the firmware's state (R244 to R247): taking a request and answering it change the mailboxes alone, an admitted message is served by its own rule,
and a message posted enters its ring or waits for room. -/
set_option Elab.async false
namespace Sys2Proof.Machine

/-! ### Of the firmware's state only the mailboxes differ -/

/-- Of the firmware's state only the mailboxes may differ. -/
structure BoxesOnly (s t : State) : Prop where
  fw_eq : t.fw = { s.fw with boxes := t.fw.boxes }

namespace BoxesOnly
variable {s t u : State}

theorem refl (s : State) : BoxesOnly s s := ⟨rfl⟩

theorem trans (h : BoxesOnly s t) (g : BoxesOnly t u) : BoxesOnly s u := ⟨g.fw_eq.trans (congrArg (fun w : FwState => { w with boxes := u.fw.boxes }) h.fw_eq)⟩

theorem ite {c : Prop} [Decidable c] (ht : BoxesOnly s t) (hu : BoxesOnly s u) : BoxesOnly s (if c then t else u) := by split <;> assumption

theorem of_fw (h : BoxesOnly s t) (e : u.fw = t.fw) : BoxesOnly s u := ⟨by rw [e]; exact h.fw_eq⟩

theorem keep {F : Nat} (h : BoxesOnly s t) (k : Keeps F t u) (hF : F.testBit 14 = false) : BoxesOnly s u := h.of_fw (k.fw.eq hF)

theorem onBox (h : BoxesOnly s t) (o : Nat) (f : MailboxState → MailboxState) : BoxesOnly s (onBox t o f) := h.trans ⟨rfl⟩

theorem wr (h : BoxesOnly s t) (r : Reg) (v : Word) : BoxesOnly s (wr t r v) := h.of_fw rfl

theorem signalFn (h : BoxesOnly s t) (f v : Nat) : BoxesOnly s (signalFn t f v) := h.keep (signalFn_keeps (.refl t) f v (.self _)) rfl

theorem showRequests (h : BoxesOnly s t) : BoxesOnly s (showRequests t) := h.keep (showRequests_keeps (.refl t) (.self _)) rfl

theorem postMsg (h : BoxesOnly s t) (o : Nat) (r : Response) : BoxesOnly s (postMsg t o r) := by
  have hfilled : BoxesOnly s (fillSlotBytes t o r) := .ite h (h.onBox o _)
  have hposted := (hfilled.onBox o fun b => { b with posted := b.posted ++ [r] }).wr (.mbxFfpi o)
    (BitVec.ofNat 32 ((rdFld (Machine.onBox (fillSlotBytes t o r) o fun b => { b with posted := b.posted ++ [r] }) (.mbxFfpi o) 15 0 + 1) % 0x10000))
  exact .ite (h.onBox o _) (.ite (hposted.of_fw rfl) (hposted.signalFn o 0))

theorem answer (h : BoxesOnly s t) (o : Nat) (seq : Word) (version type status detail : Nat) (payload : List Byte) :
    BoxesOnly s (answer t o seq version type status detail payload) := by
  have hgone := h.onBox o fun b => { b with requests := b.requests.filter (fun r => !(r.seq == seq)) }
  exact .ite h (.postMsg (.ite (hgone.wr _ _).showRequests hgone) o _)

theorem respond (h : BoxesOnly s t) (m : Msg) (type status detail : Nat) (payload : List Byte) : BoxesOnly s (respond t m type status detail payload) :=
  h.answer _ _ _ _ _ _ _

theorem takeRequest (h : BoxesOnly s t) (m : Msg) (type : Nat) : BoxesOnly s (takeRequest t m type) :=
  .ite ((h.onBox m.owner _).wr _ _).showRequests (.ite h (h.onBox m.owner _))

theorem recordEvent (h : BoxesOnly s t) (code plot sev island object : Nat) (value : Word) (extra : Nat) :
    BoxesOnly s (recordEvent t code plot sev island object value extra) := h.keep (recordEvent_keeps (.refl t) _ _ _ _ _ _ _ (.self _)) rfl

theorem field {α : Type} (h : BoxesOnly s t) (p : FwState → α) (hp : ∀ w b, p { w with boxes := b } = p w) : p t.fw = p s.fw :=
  (congrArg p h.fw_eq).trans (hp _ _)

theorem staged (h : BoxesOnly s t) : t.fw.staged = s.fw.staged := h.field FwState.staged fun _ _ => rfl
theorem staging (h : BoxesOnly s t) : t.fw.staging = s.fw.staging := h.field FwState.staging fun _ _ => rfl
theorem update (h : BoxesOnly s t) : t.fw.update = s.fw.update := h.field FwState.update fun _ _ => rfl
theorem running (h : BoxesOnly s t) : t.fw.running = s.fw.running := h.field FwState.running fun _ _ => rfl
theorem sessions (h : BoxesOnly s t) : t.fw.sessions = s.fw.sessions := h.field FwState.sessions fun _ _ => rfl
theorem free (h : BoxesOnly s t) : t.fw.free = s.fw.free := h.field FwState.free fun _ _ => rfl

end BoxesOnly

/-! ### Messages served -/

/-- A request has been taken: its answer is owed, and nothing but its mailbox and what shows its requests has changed. -/
structure Taken (s : State) (m : Msg) (u : State) : Prop extends BoxesOnly s u where
  owed : (box u m.owner).requests.any (fun r => r.seq == m.seq) = true
  regs : ∀ r : Reg, r.within 0x1000000000000000000000000004100 = false → rd u r = rd s r

theorem taken_takeRequest (s : State) (m : Msg) (type : Nat) : Taken s m (takeRequest s m type) where
  toBoxesOnly := (BoxesOnly.refl s).takeRequest m type
  owed := owed_takeRequest s m type
  regs := fun _ hr => (takeRequest_keeps (.refl s) m type (.self _)).rd_eq hr

/-- An admitted message is served: what its own rule makes of the state in which it has been taken is what the command gives. -/
theorem gives_served {c : Instr} {s : State} {m : Msg} {r : MsgRule} {f : State → State} {P : State → Prop} (hc : exec c s = .next (serve s m r f)) (h : Admitted s m r)
    (hp : ∀ u, takeRequest s m r.type = u → Taken s m u → P (f u)) : Gives s c P :=
  ⟨_, hc.trans (congrArg _ (serve_admitted h f)), hp _ rfl (taken_takeRequest s m r.type)⟩

/-- A request taken is answered, whatever has been done in between to all but the mailboxes. -/
theorem Taken.answered {s u v : State} {m : Msg} (h : Taken s m u) (hv : v.fw.boxes = u.fw.boxes) (type status detail : Nat) (payload : List Byte) :
    Answered (respond v m type status detail payload) m type status :=
  answered_respond v m type status detail payload (by rw [box, hv]; exact h.owed)

theorem boxesOnly_respond (s : State) (m : Msg) (type status detail : Nat) (payload : List Byte) : BoxesOnly s (respond s m type status detail payload) :=
  (BoxesOnly.refl s).respond m type status detail payload

/-! ### A mailbox after a message -/

theorem box_onBox (s : State) (o : Nat) (f : MailboxState → MailboxState) (p : Nat) : box (onBox s o f) p = if o = p then f (box s o) else box s p :=
  mapGet_mapInsert ..

theorem fillSlotBytes_eq (s : State) (o : Nat) (r : Response) : fillSlotBytes s o r = s ∨ ∃ bytes : MailboxState → List (Nat × Byte), fillSlotBytes s o r = onBox s o fun b => { b with ff := bytes b } := by
  unfold fillSlotBytes
  split
  · exact .inl rfl
  · exact .inr ⟨_, rfl⟩

theorem box_fillSlotBytes (s : State) (o : Nat) (r : Response) : ∃ ff, box (fillSlotBytes s o r) o = { box s o with ff := ff } := by
  obtain h | ⟨bytes, h⟩ := fillSlotBytes_eq s o r
  · exact ⟨(box s o).ff, by rw [h]⟩
  · exact ⟨bytes (box s o), by rw [h, box_onBox_self]⟩

/-- A message that finds room is posted behind those that stand in the ring. -/
theorem box_postMsg_of_room {s : State} {o : Nat} (h : ffUsed s o < ringSlots o) (r : Response) :
    ∃ ff, box (postMsg s o r) o = { box s o with ff := ff, posted := (box s o).posted ++ [r] } := by
  obtain ⟨ff, hff⟩ := box_fillSlotBytes s o r
  refine ⟨ff, ?_⟩
  have hposted : box (onBox (fillSlotBytes s o r) o fun b => { b with posted := b.posted ++ [r] }) o = { box s o with ff := ff, posted := (box s o).posted ++ [r] } := by
    rw [box_onBox_self, hff]
  rw [postMsg, if_neg (Nat.not_le.2 h)]
  dsimp only
  split
  · exact hposted
  · rw [(signalFn_keeps (.refl _) o 0 (.self _)).box_eq rfl, box_wr, hposted]

/-- A message that finds the ring full is held behind those that wait. -/
theorem box_postMsg_of_full {s : State} {o : Nat} (h : ringSlots o ≤ ffUsed s o) (r : Response) :
    box (postMsg s o r) o = { box s o with held := (box s o).held ++ [r] } := by
  rw [postMsg, if_pos h, box_onBox_self]

/-- An answer changes of its mailbox the requests, the ring and the messages that wait. -/
theorem box_answer (s : State) (o : Nat) (seq : Word) (version type status detail : Nat) (payload : List Byte) : ∃ requests ff posted held,
    box (answer s o seq version type status detail payload) o = { box s o with requests := requests, ff := ff, posted := posted, held := held } := by
  have hpost : ∀ (u : State) (r : Response), (∃ requests, box u o = { box s o with requests := requests }) →
      ∃ requests ff posted held, box (postMsg u o r) o = { box s o with requests := requests, ff := ff, posted := posted, held := held } := by
    rintro u r ⟨requests, hu⟩
    rcases Nat.lt_or_ge (ffUsed u o) (ringSlots o) with hroom | hfull
    · obtain ⟨ff, h⟩ := box_postMsg_of_room hroom r
      exact ⟨requests, ff, _, _, h.trans (by rw [hu])⟩
    · exact ⟨requests, _, _, _, (box_postMsg_of_full hfull r).trans (by rw [hu])⟩
  unfold answer
  split
  · exact ⟨(box s o).requests, (box s o).ff, (box s o).posted, (box s o).held, rfl⟩
  · refine hpost _ _ ⟨(box s o).requests.filter (fun r => !(r.seq == seq)), ?_⟩
    split
    · rw [(showRequests_keeps (.refl _) (.self _)).box_eq rfl, box_wr, box_onBox_self]
    · rw [box_onBox_self]

end Sys2Proof.Machine
end

section
/-! SUPPORT. Sessions of the image distribution (R251, R252): what a command makes of its session, and a frame queued stands in its queue or waits for room in it. -/
set_option Elab.async false
namespace Sys2Proof.Machine

/-! ### Sessions -/

theorem sess_setSess_self (s : State) (i : Nat) (d : DistSession) : sess (setSess s i d) i = some d := mapFind_mapInsert_self ..

theorem BoxesOnly.sess_eq {s t : State} (h : BoxesOnly s t) (i : Nat) : sess t i = sess s i := by rw [sess, h.sessions, sess]

theorem boxesOnly_distStatus (s : State) (status detail : Nat) : BoxesOnly s (distStatus s status detail) := ((BoxesOnly.refl s).postMsg 0 _).postMsg mgmtPort _

/-! ### What a request taken leaves alone -/

section
variable {s u : State} {m : Msg} (h : Taken s m u)
include h

theorem Taken.regionOpen_eq (n : Nat) : regionOpen u n = regionOpen s n := by rw [regionOpen, h.regs _ rfl, regionOpen]

theorem Taken.regionSize_eq (n : Nat) : regionSize u n = regionSize s n := by rw [regionSize, rdFld, h.regs _ rfl, regionSize, rdFld]

theorem Taken.queueOwner_eq (k : Nat) : queueOwner u k = queueOwner s k := by rw [queueOwner, rdFld, h.regs _ rfl, queueOwner, rdFld]

end

/-! ### Joining, sourcing, asking and leaving -/

section
variable {s : State} {m : Msg} {i : Fin 64}

/-- A session that is not held complete, joined in an open firmware region with room for the image. -/
theorem gives_distJoin {digest : BitVec 256} {region : Fin 32} {off size : Word} (h : Admitted s m { type := 0x18, vf := false, feature := some 2 })
    (hnew : s.fw.sessions.find? (fun e => e.2.digest == leBytes 32 digest.toNat && e.2.complete) = none) (hregion : 16 ≤ region.val) (hopen : regionOpen s region = true)
    (hfree : size.toNat ≤ s.fw.free) (hfits : off.toNat + size.toNat ≤ regionSize s region) : Gives s (.distJoin m i digest region off size) fun t =>
      Answered t m 0x18 stOk ∧ t.fw.free = s.fw.free - size.toNat
        ∧ ∃ d, sess t i = some d ∧ d.digest = leBytes 32 digest.toNat ∧ d.receiving = true ∧ d.complete = false ∧ d.held = [] := by
  refine gives_served rfl h fun u _ htaken => ?_
  dsimp only
  rw [htaken.sessions, hnew]
  dsimp only
  rw [if_neg (by simpa [htaken.regionOpen_eq, hopen] using hregion), if_neg (by rw [htaken.free, htaken.regionSize_eq]; omega), htaken.free]
  exact ⟨htaken.answered (by rfl) _ _ _ _, (boxesOnly_respond ..).free, _, ((boxesOnly_respond ..).sess_eq i).trans (sess_setSess_self ..), rfl, rfl, rfl, rfl⟩

/-- One larger than what is left of the firmware region is not joined. -/
theorem gives_distJoin_noSpace {digest : BitVec 256} {region : Fin 32} {off size : Word} (h : Admitted s m { type := 0x18, vf := false, feature := some 2 })
    (hnew : s.fw.sessions.find? (fun e => e.2.digest == leBytes 32 digest.toNat && e.2.complete) = none) (hregion : 16 ≤ region.val) (hopen : regionOpen s region = true)
    (hfull : s.fw.free < size.toNat) : Gives s (.distJoin m i digest region off size) fun t => Answered t m 0x18 stNoSpace ∧ sess t i = sess s i := by
  refine gives_served rfl h fun u _ htaken => ?_
  dsimp only
  rw [htaken.sessions, hnew]
  dsimp only
  rw [if_neg (by simpa [htaken.regionOpen_eq, hopen] using hregion), if_pos (.inl (by rwa [htaken.free]))]
  exact ⟨htaken.answered (by rfl) _ _ _ _, (htaken.respond ..).sess_eq i⟩

/-- The session's segments are those of the image read. -/
theorem gives_distSend {region : Fin 32} {off len : Word} {rate : Nat} {queue : Fin 8192} {img : List Byte} (h : Admitted s m { type := 0x19, vf := false, feature := some 2 })
    (himg : lpxRead (takeRequest s m 0x19) (.component 3 (some region)) (regionBase (takeRequest s m 0x19) region + off.toNat) len.toNat = some img)
    (hrate : 1 ≤ rate ∧ rate ≤ 100) (hregion : 12 ≤ region.val ∧ region.val ≤ 15) (hqueue : queueOwner s queue = 12) :
    Gives s (.distSend m i region off len rate queue) fun t => Answered t m 0x19 stOk
      ∧ ∃ d, sess t i = some d ∧ d.receiving = false ∧ d.complete = true ∧ d.held = (sessionSegs img).1 ∧ d.next = 0 ∧ d.ends = 0 := by
  refine gives_served rfl h fun u hu htaken => ?_
  rw [hu] at himg
  dsimp only
  rw [himg]
  dsimp only
  rw [if_neg (by rw [htaken.queueOwner_eq]; omega)]
  exact ⟨htaken.answered (by rfl) _ _ _ _, _, ((boxesOnly_respond ..).sess_eq i).trans (sess_setSess_self ..), rfl, rfl, rfl, rfl, rfl⟩

variable {d : DistSession} (hd : sess s i = some d)
include hd

theorem gives_distStatus (h : Admitted s m { type := 0x1A, vf := false, feature := some 2 }) : Gives s (.distStatus m i) fun t =>
    Answered t m 0x1A (if d.complete then stOk else if d.failed then stRefused else stNotReady) ∧ sess t i = some d := by
  refine gives_served rfl h fun u _ htaken => ?_
  rw [htaken.sess_eq, hd]
  exact ⟨htaken.answered (by rfl) _ _ _ _, ((htaken.respond ..).sess_eq i).trans hd⟩

theorem gives_distLeave (h : Admitted s m { type := 0x1B, vf := false, feature := some 2 }) : Gives s (.distLeave m i) fun t =>
    Answered t m 0x1B stOk ∧ sess t i = none ∧ t.fw.free = s.fw.free + if d.receiving then d.next else 0 := by
  refine gives_served rfl h fun u _ htaken => ?_
  dsimp only
  rw [htaken.sess_eq, hd]
  dsimp only
  rw [htaken.free]
  exact ⟨htaken.answered (by rfl) _ _ _ _, ((boxesOnly_respond ..).sess_eq i).trans (mapFind_mapErase_self ..), (boxesOnly_respond ..).free⟩

end

/-! ### What the source and the timers do -/

section
variable {s : State} {i : Fin 64} {d : DistSession} (hd : sess s i = some d)
include hd

theorem gives_distSourceSend {bs : List Byte} (hsource : d.receiving = false) (hnext : mapFind d.held d.next = some bs) :
    Gives s (.distSourceSend i) fun t => sess t i = some { d with next := d.next + 1 } := by
  refine ⟨_, congrArg Host.Outcome.next ?_, sess_setSess_self (distFrame s d 1 d.next bs) i _⟩
  simp only [hd, hsource, hnext, Bool.false_eq_true, if_false]

theorem gives_distSourceSend_end (hsource : d.receiving = false) (hlast : mapFind d.held d.next = none) (hends : d.ends < 3) :
    Gives s (.distSourceSend i) fun t => sess t i = some { d with ends := d.ends + 1 } := by
  refine ⟨_, congrArg Host.Outcome.next ?_, sess_setSess_self (distFrame s d 2 0 []) i _⟩
  simp only [hd, hsource, hlast, hends, Bool.false_eq_true, if_false, if_true]

theorem gives_distGapTimer (hreceives : d.receiving = true) (hopen : d.complete = false) (hlives : d.failed = false) (hrounds : d.rounds < 8) :
    Gives s (.distGapTimer i) fun t => sess t i = some { d with rounds := d.rounds + 1, holdoff := false } := by
  refine ⟨_, congrArg Host.Outcome.next ?_, sess_setSess_self (irqCores (distFrame s d (if (d.peers.filter (fun p => !d.barred.contains p)).isEmpty then 3 else 5) 0
    (((missing d).take 128).flatMap (fun i => leBytes 4 i ++ leBytes 4 1))) netCores 20) i _⟩
  simp only [hd, hreceives, hopen, hlives, Bool.not_true, Bool.or_self, Bool.false_eq_true, if_false, if_neg (Nat.not_le.2 hrounds)]

/-- After 8 rounds the session has failed, and DIST_STATUS says so. -/
theorem gives_distGapTimer_fails (hreceives : d.receiving = true) (hopen : d.complete = false) (hlives : d.failed = false) (hrounds : 8 ≤ d.rounds) :
    Gives s (.distGapTimer i) fun t => sess t i = some { d with failed := true } := by
  refine ⟨_, congrArg Host.Outcome.next ?_, ((boxesOnly_distStatus (setSess s i { d with failed := true }) stRefused (missing d).length).sess_eq i).trans (sess_setSess_self ..)⟩
  simp only [hd, hreceives, hopen, hlives, Bool.not_true, Bool.or_self, Bool.false_eq_true, if_false, if_pos hrounds]

theorem gives_distAnswerWindowEnd (hreceives : d.receiving = true) : Gives s (.distAnswerWindowEnd i) fun t => sess t i = some { d with answering := false } := by
  refine ⟨_, congrArg Host.Outcome.next ?_, sess_setSess_self s i _⟩
  simp only [hd, hreceives, if_true]

end

/-! ### A frame given to a queue -/

/-- A frame stands in a queue, or waits for room in it (R281). -/
def FrameQueued (s : State) (k : Nat) (f : EgressFrame) : Prop := (k, f) ∈ s.net.held ∨ f ∈ (queueOf s k).frames

theorem queueOf_pushFrame_self (s : State) (k : Nat) (f : EgressFrame) : queueOf (pushFrame s k f) k = { queueOf s k with frames := (queueOf s k).frames ++ [f] } := by
  rw [queueOf, pushFrame, onQueue, mapGet_mapSet, if_pos rfl]

/-- As held frames enter their queue, a frame that waits goes on waiting or enters it. -/
theorem FrameQueued.drainHeld {s : State} {k : Nat} {f : EgressFrame} (h : FrameQueued s k f) (l : List (Nat × EgressFrame)) : FrameQueued (drainHeld s k l) k f := by
  induction l generalizing s with
  | nil => exact h
  | cons e rest ih =>
    rw [Machine.drainHeld]
    split
    next henters =>
      obtain ⟨hk, -, -⟩ := henters
      refine ih ?_
      have hframes : ∀ g, g ∈ (queueOf s k).frames ∨ g = e.2 → g ∈ (queueOf (pushFrame s k e.2) k).frames := fun g hg => by
        rw [queueOf_pushFrame_self]
        exact List.mem_append.2 (hg.imp id List.mem_singleton.2)
      rcases h with hheld | hin
      · by_cases he : (k, f) = e
        · exact .inr (hframes f (.inr (congrArg Prod.snd he)))
        · exact .inl ((List.mem_erase_of_ne he).2 hheld)
      · exact .inr (hframes f (.inl hin))
    next =>
      split
      · exact h
      · exact ih h

/-- A frame of firmware stands in its queue, or waits for it. -/
theorem frameQueued_distFrame (s : State) (d : DistSession) (kind index : Nat) (payload : List Byte) : ∃ f, FrameQueued (distFrame s d kind index payload) d.queue f :=
  ⟨_, FrameQueued.drainHeld (.inl (List.mem_append_right _ List.mem_cons_self)) _⟩

/-- A range of one segment held is answered by its SEG. -/
theorem answerRanges_one {s : State} {d : DistSession} {index : Nat} {bs : List Byte} (htotal : 1 ≤ d.total) (hbs : mapFind d.held index = some bs) :
    answerRanges s d [(index, 1)] = distFrame s d 1 index bs := by
  have hone : ([(index, 1)].take 128).flatMap (fun r => (List.range (min r.2 d.total)).map (· + r.1)) = [index] := by simp [Nat.min_eq_left htotal]
  rw [answerRanges, hone, List.foldl_cons, List.foldl_nil, hbs]

/-! ### What a frame of a session does -/

section
variable {s : State} {digest : BitVec 128} {i : Nat} {d : DistSession} (hd : sessionOf s digest = some (i, d))
include hd

theorem gives_distSeg {index total : Nat} {data : List Byte} (peer : Nat) (hreceives : d.receiving = true) (hopen : d.complete = false) (hnew : mapFind d.held index = none)
    (hmanifest : manifestBytes { d with total := total, held := mapInsert d.held index data } = none) :
    Gives s (.distSeg digest peer index total data) fun t => sess t i = some { d with total := total, held := mapInsert d.held index data } := by
  refine ⟨_, congrArg Host.Outcome.next ?_, sess_setSess_self s i _⟩
  rw [hd]
  dsimp only
  rw [if_neg (by simp [hreceives, hopen]), hnew, Option.isSome_none, if_neg Bool.false_ne_true, hmanifest]

theorem gives_distEnd (hreceives : d.receiving = true) (hopen : d.complete = false) : Gives s (.distEnd digest) fun t => sess t i = some { d with holdoff := true } := by
  refine ⟨_, congrArg Host.Outcome.next ?_, sess_setSess_self s i _⟩
  simp only [hd, hreceives, hopen, Bool.not_false, Bool.and_self, if_true]

theorem gives_distHave (peer : Nat) : Gives s (.distHave digest peer) fun t => sess t i = some { d with peers := addPage d.peers peer } := by
  refine ⟨_, congrArg Host.Outcome.next ?_, sess_setSess_self s i _⟩
  simp only [hd]

theorem gives_distNack {index : Nat} {bs : List Byte} (hcomplete : d.complete = true) (htotal : 1 ≤ d.total) (hbs : mapFind d.held index = some bs) :
    Gives s (.distNack digest [(index, 1)]) fun t => ∃ f, FrameQueued t d.queue f := by
  refine ⟨_, congrArg Host.Outcome.next ?_, frameQueued_distFrame s d 1 index bs⟩
  simp only [hd, hcomplete, if_true, answerRanges_one htotal hbs]

theorem gives_distReq {index : Nat} {bs : List Byte} (hcomplete : d.complete = true) (hanswers : d.answering = true) (htotal : 1 ≤ d.total)
    (hbs : mapFind d.held index = some bs) : Gives s (.distReq digest [(index, 1)]) fun t => ∃ f, FrameQueued t d.queue f := by
  refine ⟨_, congrArg Host.Outcome.next ?_, frameQueued_distFrame s d 1 index bs⟩
  simp only [hd, hcomplete, hanswers, Bool.and_self, if_true, answerRanges_one htotal hbs]

/-- A session that is not complete answers nothing. -/
theorem exec_distNack_incomplete (hopen : d.complete = false) (ranges : List (Nat × Nat)) : exec (.distNack digest ranges) s = .next s := by
  refine congrArg Host.Outcome.next ?_
  simp only [hd, hopen, Bool.false_eq_true, if_false]

theorem exec_distReq_incomplete (hopen : d.complete = false) (ranges : List (Nat × Nat)) : exec (.distReq digest ranges) s = .next s := by
  refine congrArg Host.Outcome.next ?_
  simp only [hd, hopen, Bool.false_and, Bool.false_eq_true, if_false]

end

section
variable {s : State} {digest : BitVec 128} (hnone : sessionOf s digest = none)
include hnone

/-- A frame of an unknown session is dropped and counted (R253). -/
theorem gives_distSeg_unknown (peer index total : Nat) (data : List Byte) : Gives s (.distSeg digest peer index total data) fun t =>
    t.fw.distDropped = s.fw.distDropped + 1 ∧ t.fw.sessions = s.fw.sessions := by
  refine ⟨{ s with fw := { s.fw with distDropped := s.fw.distDropped + 1 } }, congrArg Host.Outcome.next ?_, rfl, rfl⟩
  simp only [hnone]

theorem gives_distEnd_unknown : Gives s (.distEnd digest) fun t => t.fw.distDropped = s.fw.distDropped + 1 := by
  refine ⟨{ s with fw := { s.fw with distDropped := s.fw.distDropped + 1 } }, congrArg Host.Outcome.next ?_, rfl⟩
  simp only [hnone]

end

/-- Settles O43, command by command: each sets its session, and what it answers or sends changes no session. -/
theorem imageDistribution : Obligations.ImageDistribution := by
  unfold Obligations.ImageDistribution
  refine ⟨fun m i digest region off size s h hnew => ⟨fun hregion hopen hfree hfits => gives_distJoin h hnew hregion hopen hfree hfits,
      fun hregion hopen hfull => gives_distJoin_noSpace h hnew hregion hopen hfull⟩,
    fun m i region off len rate queue img s => fun h himg hlow hhigh hfirst hlast hqueue => gives_distSend h himg ⟨hlow, hhigh⟩ ⟨hfirst, hlast⟩ hqueue,
    fun m i d s hd => ⟨gives_distStatus hd, gives_distLeave hd⟩,
    fun i d s hd => ⟨fun bs => gives_distSourceSend hd, gives_distSourceSend_end hd, gives_distGapTimer hd, gives_distGapTimer_fails hd, gives_distAnswerWindowEnd hd⟩,
    fun digest peer index total data ranges i d s hd => ⟨gives_distSeg hd peer, gives_distEnd hd, gives_distHave hd peer, fun bs => gives_distNack hd, fun bs => gives_distReq hd,
      fun hopen => ⟨exec_distNack_incomplete hd hopen ranges, exec_distReq_incomplete hd hopen ranges⟩⟩,
    fun digest peer index total data s hnone => ⟨gives_distSeg_unknown hnone peer index total data, gives_distEnd_unknown hnone⟩⟩

end Sys2Proof.Machine
end

section
/-! SUPPORT. Component updates (R240, R249, R250, R253, R254): FWM_UPD read back, what staging and activation leave of the firmware's state, and the end of an update. -/
set_option Elab.async false
namespace Sys2Proof.Machine

/-! ### FWM_UPD (Table FWM-14) -/

theorem rdFld_setUpd_state (s : State) (st result comp : Nat) : rdFld (setUpd s st result comp) .fwmUpd 31 28 = st % 16 := by
  rw [setUpd, rdFld_wrFld_of_disjoint _ _ _ (by decide) (by decide) (.inr (by decide)), rdFld_wrFld_of_disjoint _ _ _ (by decide) (by decide) (.inr (by decide)),
    rdFld_wrFld_self _ _ _ (by decide) (by decide)]
  rfl

theorem rdFld_setUpd_result (s : State) (st result comp : Nat) : rdFld (setUpd s st result comp) .fwmUpd 27 24 = result % 16 := by
  rw [setUpd, rdFld_wrFld_of_disjoint _ _ _ (by decide) (by decide) (.inr (by decide)), rdFld_wrFld_self _ _ _ (by decide) (by decide)]
  rfl

theorem Keeps.rdFld_eq {F : Nat} {s t : State} (h : Keeps F s t) {r : Reg} (hr : r.within F = false) (hi lo : Nat) : rdFld t r hi lo = rdFld s r hi lo := by
  rw [rdFld, h.rd_eq hr, rdFld]

theorem rdFld_fwmUpd_respond (s : State) (m : Msg) (type status detail : Nat) (payload : List Byte) (hi lo : Nat) :
    rdFld (respond s m type status detail payload) .fwmUpd hi lo = rdFld s .fwmUpd hi lo :=
  (respond_keeps (.refl s) m type status detail payload (.self _)).rdFld_eq rfl hi lo

/-! ### Staging (R240, R249) -/

section
variable {s : State} {m : Msg} {region : Fin 32} {off len : Word} {bs : List Byte} {k : Component} (h : Admitted s m { type := 0x10, vf := false, feature := some 0 })
  (hregion : 12 ≤ region.val ∧ region.val ≤ 15)
  (hread : lpxRead (takeRequest s m 0x10) (.component 3 (some region)) (regionBase (takeRequest s m 0x10) region + off.toNat) len.toNat = some bs)
  (hparse : parseComponent bs = some k)
include h hregion hread hparse

/-- An image of a component that is updated this way, signed and not below the floor, is staged in place of one staged before. -/
theorem gives_fwStage (hcomp : k.comp = 1 ∨ k.comp = 3 ∨ k.comp = 4 ∨ k.comp = 5) (hsigned : componentSigned (takeRequest s m 0x10) bs k = true)
    (hfloor : svnFloor (takeRequest s m 0x10) ≤ k.svn) : Gives s (.fwStage m region off len) fun t => t.fw.staged = some k ∧ t.fw.staging = bs ∧ Answered t m 0x10 stOk := by
  refine gives_served rfl h fun u hu htaken => ?_
  rw [hu] at hread
  dsimp only
  rw [if_neg (by omega), hread]
  dsimp only
  rw [hparse]
  dsimp only
  rw [hu] at hsigned hfloor
  rw [if_neg (by omega), if_neg (by simp [hsigned]), if_neg (Nat.not_lt.2 hfloor)]
  have hdone : ∀ v : State, v.fw = { u.fw with staging := bs, staged := some k } →
      (respond v m 0x10 stOk 0 []).fw.staged = some k ∧ (respond v m 0x10 stOk 0 []).fw.staging = bs ∧ Answered (respond v m 0x10 stOk 0 []) m 0x10 stOk := fun v hv =>
    ⟨(boxesOnly_respond ..).staged.trans (by rw [hv]), (boxesOnly_respond ..).staging.trans (by rw [hv]), htaken.answered (by rw [hv]) _ _ _ _⟩
  refine hdone _ ?_
  split <;> split <;> rfl

/-- Security firmware is not updated this way: the image is refused with RESULT 4, and what was staged before stays (log entry 130). -/
theorem gives_fwStage_refused (hcomp : k.comp = 2) : Gives s (.fwStage m region off len) fun t =>
    t.fw.staged = s.fw.staged ∧ Answered t m 0x10 stRefused ∧ rdFld t .fwmUpd 27 24 = 4 := by
  refine gives_served rfl h fun u hu htaken => ?_
  rw [hu] at hread
  dsimp only
  rw [if_neg (by omega), hread]
  dsimp only
  rw [hparse]
  dsimp only
  rw [if_pos (.inr (.inl hcomp))]
  exact ⟨(boxesOnly_respond ..).staged.trans htaken.staged, htaken.answered (by rfl) _ _ _ _,
    (rdFld_fwmUpd_respond ..).trans (rdFld_setUpd_result ..)⟩

end

/-! ### Activation (R249, R253) -/

section
variable {s : State} {m : Msg} {k : Component} (h : Admitted s m { type := 0x11, vf := false, feature := some 0 })
include h

/-- Distribution to the component's receivers begins. -/
theorem gives_fwActivate (hidle : s.fw.update = none) (hstaged : s.fw.staged = some k) (hframes : frameCount (digestedBytes s.fw.staging) ≤ 16384) :
    Gives s (.fwActivate m) fun t => t.fw.staged = none ∧ rdFld t .fwmUpd 31 28 = 2
      ∧ ∃ u, t.fw.update = some u ∧ u.comp = k ∧ u.left = receivers k.comp ∧ u.seq = m.seq := by
  refine gives_served rfl h fun u _ htaken => ?_
  dsimp only
  rw [if_neg (by simp [htaken.update, hidle]), htaken.staged, hstaged]
  dsimp only
  rw [if_neg (by rwa [htaken.staging, Nat.not_lt])]
  exact ⟨rfl, rdFld_setUpd_state .., _, rfl, rfl, rfl, rfl⟩

/-- An image of more than 16,384 frames is not distributed. -/
theorem gives_fwActivate_tooLong (hidle : s.fw.update = none) (hstaged : s.fw.staged = some k) (hframes : 16384 < frameCount (digestedBytes s.fw.staging)) :
    Gives s (.fwActivate m) fun t => Answered t m 0x11 stRefused ∧ rdFld t .fwmUpd 27 24 = 8 ∧ t.fw.update = none := by
  refine gives_served rfl h fun u _ htaken => ?_
  dsimp only
  rw [if_neg (by simp [htaken.update, hidle]), htaken.staged, hstaged]
  dsimp only
  rw [if_pos (by rwa [htaken.staging])]
  exact ⟨htaken.answered (by rfl) _ _ _ _, (rdFld_fwmUpd_respond ..).trans (rdFld_setUpd_result ..), (boxesOnly_respond ..).update.trans (htaken.update.trans hidle)⟩

theorem gives_fwActivate_busy (hbusy : s.fw.update ≠ none) : Gives s (.fwActivate m) fun t => Answered t m 0x11 stBusy ∧ t.fw.update = s.fw.update := by
  refine gives_served rfl h fun u _ htaken => ?_
  dsimp only
  rw [if_pos (by rwa [htaken.update, Option.isSome_iff_ne_none])]
  exact ⟨htaken.answered (by rfl) _ _ _ _, (htaken.respond ..).update⟩

end

theorem gives_fwQuery {s : State} {m : Msg} (h : Admitted s m { type := 0x12, vf := false }) : Gives s (.fwQuery m) fun t => Answered t m 0x12 stOk :=
  gives_served rfl h fun _ _ htaken => htaken.answered (by rfl) _ _ _ _

/-! ### The end of an update (R249, R253) -/

/-- An update that ends has no effect but its RESULT. -/
theorem endUpdate_ends {s : State} {u : Update} (hu : s.fw.update = some u) (result status : Nat) : (endUpdate s result status).fw.update = none
    ∧ rdFld (endUpdate s result status) .fwmUpd 31 28 = 0 ∧ rdFld (endUpdate s result status) .fwmUpd 27 24 = result % 16 := by
  have hends : ∀ v : State, v.fw.update = none → ∀ w : Word, ∀ owner seq version,
      let t := answer (recordEvent (setUpd v 0 result u.comp.comp) 0x0D02 moduleEvent 0 islSecurity u.comp.comp w 0) owner seq version 0x11 status result []
      t.fw.update = none ∧ rdFld t .fwmUpd 31 28 = 0 ∧ rdFld t .fwmUpd 27 24 = result % 16 := fun v hv w owner seq version => by
    have hfw : BoxesOnly v (recordEvent (setUpd v 0 result u.comp.comp) 0x0D02 moduleEvent 0 islSecurity u.comp.comp w 0) :=
      (BoxesOnly.of_fw (u := setUpd v 0 result u.comp.comp) (.refl v) rfl).recordEvent ..
    have hregs : ∀ hi lo, rdFld (answer (recordEvent (setUpd v 0 result u.comp.comp) 0x0D02 moduleEvent 0 islSecurity u.comp.comp w 0) owner seq version 0x11 status result [])
        .fwmUpd hi lo = rdFld (setUpd v 0 result u.comp.comp) .fwmUpd hi lo := fun hi lo =>
      ((answer_keeps (.refl _) _ _ _ _ _ _ _ (.self _)).rdFld_eq rfl hi lo).trans ((recordEvent_keeps (.refl _) _ _ _ _ _ _ _ (.self _)).rdFld_eq rfl hi lo)
    exact ⟨(hfw.answer ..).update.trans hv, (hregs 31 28).trans (rdFld_setUpd_state ..), (hregs 27 24).trans (rdFld_setUpd_result ..)⟩
  rw [endUpdate, hu]
  exact hends _ rfl _ _ _ _

/-! ### Distribution (R250) -/

theorem takeFrame_update (s : State) (r : Nat) (f : BcastFrame) : (takeFrame s r f).fw.update = s.fw.update := by
  rw [takeFrame]
  split <;> rfl

theorem takeFrames_update (l : List (Nat × BcastFrame)) (s : State) : (l.foldl (fun s e => takeFrame s e.1 e.2) s).fw.update = s.fw.update := by
  induction l generalizing s with
  | nil => rfl
  | cons e rest ih => exact (ih _).trans (takeFrame_update s e.1 e.2)

section
variable {s : State} {u : Update} (hu : s.fw.update = some u)
include hu

/-- A receiver that has not switched holds the frame; one that it held already stays as it was. -/
theorem takeFrame_holds {receiver : Nat} {f : BcastFrame} (hindex : f.index < s.fw.frameCount) (hleft : u.left.contains receiver = true) :
    (mapFind (mapGet [] (takeFrame s receiver f).fw.frames receiver) f.index).isSome = true
      ∧ (mapFind (mapGet [] s.fw.frames receiver) f.index = none → mapFind (mapGet [] (takeFrame s receiver f).fw.frames receiver) f.index = some f.data) := by
  rw [takeFrame, hu]
  dsimp only [Option.map_some, Option.getD_some]
  cases hheld : mapFind (mapGet [] s.fw.frames receiver) f.index with
  | some bs =>
    rw [if_pos (.inr (.inr rfl)), hheld]
    exact ⟨rfl, nofun⟩
  | none =>
    rw [if_neg (by simpa [hindex] using hleft)]
    simp [mapGet_mapInsert]

theorem gives_fabricBroadcastFrame {receiver : Nat} {f : BcastFrame} (hindex : f.index < s.fw.frameCount) (hstate : rdFld s .fwmUpd 31 28 = 2)
    (hleft : u.left.contains receiver = true) : Gives s (.fabricBroadcastFrame receiver f) fun t => (mapFind (mapGet [] t.fw.frames receiver) f.index).isSome = true
      ∧ (mapFind (mapGet [] s.fw.frames receiver) f.index = none → mapFind (mapGet [] t.fw.frames receiver) f.index = some f.data) :=
  ⟨takeFrame s receiver f, congrArg Host.Outcome.next (if_pos (by simp [distributing, hstate])), takeFrame_holds hu hindex hleft⟩

/-- After the rounds of repair every receiver holds the image and waits for its quiescent point, or the distribution fails. -/
theorem gives_fabricBroadcastRepair (run : RepairRun) (hstate : rdFld s .fwmUpd 31 28 = 2) : Gives s (.fabricBroadcastRepair run) fun t =>
    if u.left.all (holdsImage ((run.rounds.take 4).flatten.foldl (fun s e => takeFrame s e.1 e.2) s) u run) then rdFld t .fwmUpd 31 28 = 3 ∧ t.fw.update = some u
    else t.fw.update = none ∧ rdFld t .fwmUpd 31 28 = 0 ∧ rdFld t .fwmUpd 27 24 = 8 := by
  have hrounds := (takeFrames_update (run.rounds.take 4).flatten s).trans hu
  have hexec : exec (.fabricBroadcastRepair run) s =
      .next (if u.left.all (holdsImage ((run.rounds.take 4).flatten.foldl (fun s e => takeFrame s e.1 e.2) s) u run) then
        setUpd ((run.rounds.take 4).flatten.foldl (fun s e => takeFrame s e.1 e.2) s) 3 0 u.comp.comp
      else endUpdate ((run.rounds.take 4).flatten.foldl (fun s e => takeFrame s e.1 e.2) s) 8 stRefused) := by
    refine congrArg Host.Outcome.next ?_
    simp only [hu, distributing, hstate, BEq.rfl, Bool.not_true, Bool.false_eq_true, if_false]
  refine ⟨_, hexec, ?_⟩
  beta_reduce
  split
  · exact ⟨rdFld_setUpd_state .., hrounds⟩
  · exact endUpdate_ends hrounds 8 stRefused

/-! ### Switching (R249) -/

theorem gives_liveUpdateTimeout {receiver : Nat} (hstate : 3 ≤ rdFld s .fwmUpd 31 28) (hleft : u.left.contains receiver = true) :
    Gives s (.liveUpdateTimeout receiver) fun t => t.fw.update = none ∧ rdFld t .fwmUpd 31 28 = 0 ∧ rdFld t .fwmUpd 27 24 = 5 := by
  refine ⟨endUpdate s 5 stRefused, congrArg Host.Outcome.next ?_, endUpdate_ends hu 5 stRefused⟩
  simp only [hu, if_pos (And.intro hleft hstate)]

end

/-- A core just loaded runs. -/
theorem nvState_loadCore (s : State) (c : Nat) (k : Component) (keep : Bool) : nvState (loadCore s c k keep) c = nvRun :=
  ((haltsHandled_keeps (.refl _) (.self _)).rdFld_eq rfl 31 29).trans (rdFld_wrFld_self _ _ _ (by decide) (by decide))

theorem rd_fwmVer_showComponent (s : State) (k : Component) : rd (showComponent s k) (.fwmVer k.comp) = k.version :=
  forAll_inv (P := fun t => rd t (.fwmVer k.comp) = k.version) (fun t _ ht => (rd_wr_ne t _ (by nofun)).trans ht) _ _ ((rd_wr_ne _ _ (by nofun)).trans (rd_wr_self ..))

/-- The state in which a network core has switched to the component of an update. -/
def coreSwitched (s : State) (u : Update) (receiver : Nat) : State := loadCore (setUpd (irqCores s mgmtCores 23) 4 0 u.comp.comp) receiver u.comp true

/-- The state in which the last receiver has switched, and the update is complete. -/
def updateComplete (s : State) (u : Update) : State :=
  let s2 := showComponent s u.comp
  setUpd { s2 with fw := { s2.fw with update := none, frames := [], frameCount := 0, lostCopies := s2.fw.lostCopies.filter (· ≠ u.comp.comp),
                                      running := mapInsert s2.fw.running u.comp.comp u.comp } } 0 1 u.comp.comp

theorem update_updateComplete (s : State) (u : Update) : (updateComplete s u).fw.update = none := rfl

theorem running_updateComplete (s : State) (u : Update) : mapFind (updateComplete s u).fw.running u.comp.comp = some u.comp := mapFind_mapInsert_self ..

theorem result_updateComplete (s : State) (u : Update) : rdFld (updateComplete s u) .fwmUpd 27 24 = 1 := rdFld_setUpd_result ..

theorem version_updateComplete (s : State) (u : Update) : rd (updateComplete s u) (.fwmVer u.comp.comp) = u.comp.version :=
  ((setUpd_keeps (.refl _) 0 1 u.comp.comp (.self _)).rd_eq rfl).trans (rd_fwmVer_showComponent s u.comp)

section
variable {s : State} {u : Update} {receiver : Nat} (hu : s.fw.update = some u) (hstate : 3 ≤ rdFld s .fwmUpd 31 28) (hcomp : u.comp.comp = 4) (hcore : receiver < 24)
  (hquiet : quiescent s u receiver = true)
include hu hstate hcomp hcore hquiet

/-- A network core that is next in order and at its quiescent point switches alone. -/
theorem exec_liveUpdateSwitch {rest : List Nat} (hleft : u.left = receiver :: rest) (hrest : receiver ∉ rest) : exec (.liveUpdateSwitch receiver) s =
    .next (if !rest.isEmpty then
      { coreSwitched s u receiver with fw := { (coreSwitched s u receiver).fw with update := some { u with left := rest, switched := u.switched ++ [receiver] } } }
    else answer (recordEvent (updateComplete (coreSwitched s u receiver) u) 0x0D02 moduleEvent 0 islSecurity u.comp.comp
      (rd (updateComplete (coreSwitched s u receiver) u) .fwmUpd) 0) u.owner u.seq u.version 0x11 stOk 0 []) := by
  have hnext : ¬ (rdFld s .fwmUpd 31 28 < 3 ∨ (!(if u.comp.comp = 5 then u.left.contains receiver else u.left.head? == some receiver)) = true ∨ (!quiescent s u receiver) = true) := by
    simp [hcomp, hleft, hquiet, hstate]
  have hload : ∀ v : State, loadReceiver v receiver u.comp true = loadCore v receiver u.comp true := fun v => if_pos hcore
  have hgone : u.left.filter (fun c => !([receiver].contains c)) = rest := by
    rw [hleft, List.filter_cons_of_neg (by simp), List.filter_eq_self]
    intro c hc
    simpa using fun e : c = receiver => hrest (e ▸ hc)
  refine congrArg Host.Outcome.next ?_
  simp only [hu]
  rw [if_neg hnext, if_neg (show ¬ u.comp.comp = 3 by omega), hgone]
  simp only [forAll, hload]
  rfl

theorem gives_liveUpdateSwitch {rest : List Nat} (hleft : u.left = receiver :: rest) (hrest : receiver ∉ rest) (hmore : rest ≠ []) :
    Gives s (.liveUpdateSwitch receiver) fun t => nvState t receiver = nvRun ∧ t.fw.update = some { u with left := rest, switched := u.switched ++ [receiver] } := by
  refine ⟨_, (exec_liveUpdateSwitch hu hstate hcomp hcore hquiet hleft hrest).trans (congrArg _ (if_pos (by simpa using hmore))), nvState_loadCore .., rfl⟩

/-- With the last receiver the component is the one that runs. -/
theorem gives_liveUpdateSwitch_last (hleft : u.left = [receiver]) : Gives s (.liveUpdateSwitch receiver) fun t => t.fw.update = none ∧ mapFind t.fw.running 4 = some u.comp
    ∧ rdFld t .fwmUpd 27 24 = 1 ∧ rd t (.fwmVer 4) = u.comp.version := by
  refine ⟨_, exec_liveUpdateSwitch hu hstate hcomp hcore hquiet hleft (by simp), ?_⟩
  rw [if_neg (by simp)]
  generalize coreSwitched s u receiver = v
  have hfw := ((BoxesOnly.refl (updateComplete v u)).recordEvent 0x0D02 moduleEvent 0 islSecurity u.comp.comp (rd (updateComplete v u) .fwmUpd) 0).answer
    u.owner u.seq u.version 0x11 stOk 0 []
  have htold := answer_keeps (recordEvent_keeps (.refl (updateComplete v u)) 0x0D02 moduleEvent 0 islSecurity u.comp.comp (rd (updateComplete v u) .fwmUpd) 0 rfl)
    u.owner u.seq u.version 0x11 stOk 0 [] (F := 0x1000000000000000000000000003000000000000000000000000004f00) rfl
  rw [← hcomp]
  exact ⟨hfw.update.trans (update_updateComplete v u), hfw.running ▸ running_updateComplete v u, (htold.rdFld_eq rfl 27 24).trans (result_updateComplete v u),
    (htold.rd_eq rfl).trans (version_updateComplete v u)⟩

end

/-- Settles O42: staging and activation set the staged image and the update, every end of an update clears it, and FWM_UPD shows the outcome past the answer. -/
theorem componentUpdates : Obligations.ComponentUpdates := by
  unfold Obligations.ComponentUpdates
  refine ⟨fun m region off len bs k s => fun h hfirst hlast hread hparse => ⟨fun hcomp hsigned hfloor => gives_fwStage h ⟨hfirst, hlast⟩ hread hparse hcomp hsigned hfloor,
      fun hcomp => gives_fwStage_refused h ⟨hfirst, hlast⟩ hread hparse hcomp⟩,
    fun m k s h => ⟨gives_fwActivate h, gives_fwActivate_tooLong h, gives_fwActivate_busy h⟩, fun m s h => gives_fwQuery h,
    fun u s hu => ⟨fun receiver f => gives_fabricBroadcastFrame hu, fun run hstate => gives_fabricBroadcastRepair hu run hstate,
      fun receiver hstate hcomp hcore hquiet => ⟨fun rest hleft hrest hmore => gives_liveUpdateSwitch hu hstate hcomp hcore hquiet hleft hrest hmore,
        gives_liveUpdateSwitch_last hu hstate hcomp hcore hquiet⟩,
      fun receiver hstate hleft => gives_liveUpdateTimeout hu hstate hleft⟩⟩

end Sys2Proof.Machine
end

section
/-! SUPPORT. Requests that enter a mailbox, and messages read from it (R244, R246). -/
set_option Elab.async false
namespace Sys2Proof.Machine

/-! ### Requests (R244, R246) -/

/-- A request stands in its ring, and TFPI has moved past it. -/
def requestEntered (s : State) (m : Msg) (type : Nat) : State :=
  onBox (wr (fillRequest s m type) (.mbxTfpi m.owner) (BitVec.ofNat 32 ((rdFld (fillRequest s m type) (.mbxTfpi m.owner) 15 0 + 1) % 0x10000))) m.owner
    fun b => { b with requests := b.requests ++ [⟨type, m.seq, false, plotByte m⟩] }

theorem fillRequest_eq (s : State) (m : Msg) (type : Nat) : fillRequest s m type = s ∨ ∃ bytes : MailboxState → List (Nat × Byte), fillRequest s m type = onBox s m.owner fun b => { b with tf := bytes b } := by
  unfold fillRequest
  dsimp only
  split
  · exact .inl rfl
  · exact .inr ⟨_, rfl⟩

theorem rd_fillRequest (s : State) (m : Msg) (type : Nat) (r : Reg) : rd (fillRequest s m type) r = rd s r := by
  obtain h | ⟨bytes, h⟩ := fillRequest_eq s m type <;> rw [h]
  rfl

theorem up_fillRequest (s : State) (m : Msg) (type : Nat) : (fillRequest s m type).fw.up = s.fw.up := by
  obtain h | ⟨bytes, h⟩ := fillRequest_eq s m type <;> rw [h]
  rfl

theorem box_requestEntered (s : State) (m : Msg) (type : Nat) : ∃ tf, box (requestEntered s m type) m.owner
    = { box s m.owner with tf := tf, requests := (box s m.owner).requests ++ [⟨type, m.seq, false, plotByte m⟩] } := by
  rw [requestEntered, box_onBox_self, box_wr]
  obtain h | ⟨bytes, h⟩ := fillRequest_eq s m type
  · exact ⟨(box s m.owner).tf, by rw [h]⟩
  · exact ⟨bytes (box s m.owner), by rw [h, box_onBox_self]⟩

theorem rd_requestEntered (s : State) (m : Msg) (type : Nat) {r : Reg} (hr : r ≠ .mbxTfpi m.owner) : rd (requestEntered s m type) r = rd s r :=
  (rd_wr_ne _ _ hr.symm).trans (rd_fillRequest ..)

theorem up_requestEntered (s : State) (m : Msg) (type : Nat) : (requestEntered s m type).fw.up = s.fw.up := up_fillRequest s m type

/-- The gates of every request ask nothing of its ring but what earlier messages left there. -/
theorem gateStatus_requestEntered (s : State) (m : Msg) (type : Nat) (r : MsgRule) : gateStatus (requestEntered s m type) m r = gateStatus s m r := by
  obtain ⟨tf, hbox⟩ := box_requestEntered s m type
  unfold gateStatus hasFeature stageReached rdFld
  rw [hbox, up_requestEntered, rd_requestEntered s m type (r := .rstStage) nofun]

/-- What becomes of a request that has entered its ring. -/
def requestHandled (s : State) (m : Msg) (type : Nat) : State :=
  if !s.fw.up then respond s m type stNotReady 0 []
  else if knownTypes.contains type then (if m.owner.val = 0 then irqCores s mgmtCores 10 else if m.owner.val < mgmtPort then irqCores s mgmtCores 13 else s)
  else match gateStatus s m { type := type, vf := true } with
    | some (st, v) => answer s m.owner m.seq v type st 0 []
    | none => respond s m type stUnknownType 0 []

theorem exec_mailboxRequest {m : Msg} {type : BitVec 16} {s : State} (hroom : ringFull s m.owner = false) :
    exec (.mailboxRequest m type) s = .next (requestHandled (requestEntered s m type.toNat) m type.toNat) :=
  congrArg Host.Outcome.next (if_neg (by simp [hroom]))

/-- Nothing that becomes of a request moves TFPI again. -/
theorem rd_mbxTfpi_requestHandled (s : State) (m : Msg) (type o : Nat) : rd (requestHandled s m type) (.mbxTfpi o) = rd s (.mbxTfpi o) := by
  have hkeeps : Keeps 0x3000000000000000000000000004700 s (requestHandled s m type) := by
    refine .ite (respond_keeps (.refl s) _ _ _ _ _ (.self _)) (.ite (.ite (irqCores_keeps (.refl s) _ _ rfl) (.ite (irqCores_keeps (.refl s) _ _ rfl) (.refl s))) ?_)
    split
    · exact answer_keeps (.refl s) _ _ _ _ _ _ _ (.self _)
    · exact respond_keeps (.refl s) _ _ _ _ _ (.self _)
  exact hkeeps.rd_eq rfl

/-- An answer to the request that has just entered is posted. -/
theorem answered_requestEntered (s : State) (m : Msg) (version type status : Nat) :
    Answered (answer (requestEntered s m type) m.owner m.seq version type status 0 []) m type status := by
  obtain ⟨tf, hbox⟩ := box_requestEntered s m type
  have howed : (box (requestEntered s m type) m.owner).requests.any (fun r => r.seq == m.seq) = true := by
    rw [hbox]
    exact List.any_eq_true.2 ⟨_, List.mem_append_right _ List.mem_cons_self, beq_self_eq_true _⟩
  exact answered_respond (requestEntered s m type) { m with version := version } type status 0 [] howed

section
variable {s : State} {m : Msg} {type : Nat}

/-- The hardware responder answers while management firmware is down. -/
theorem answered_down (hdown : s.fw.up = false) : Answered (requestHandled (requestEntered s m type) m type) m type stNotReady := by
  rw [requestHandled, up_requestEntered, hdown]
  exact answered_requestEntered s m m.version type stNotReady

variable (hup : s.fw.up = true)
include hup

theorem requestHandled_unknown (hunknown : knownTypes.contains type = false) : requestHandled (requestEntered s m type) m type =
    match gateStatus s m { type := type, vf := true } with
    | some (st, v) => answer (requestEntered s m type) m.owner m.seq v type st 0 []
    | none => respond (requestEntered s m type) m type stUnknownType 0 [] := by
  rw [requestHandled, up_requestEntered, hup, hunknown, gateStatus_requestEntered]
  rfl

theorem answered_unknown (hunknown : knownTypes.contains type = false) (hpasses : gateStatus s m { type := type, vf := true } = none) :
    Answered (requestHandled (requestEntered s m type) m type) m type stUnknownType := by
  rw [requestHandled_unknown hup hunknown, hpasses]
  exact answered_requestEntered s m m.version type stUnknownType

theorem answered_noHello (hunknown : knownTypes.contains type = false) (hhello : (box s m.owner).noHello = true) :
    Answered (requestHandled (requestEntered s m type) m type) m type stNoHello := by
  have hgate : gateStatus s m { type := type, vf := true } = some (stNoHello, 1) := by simp [gateStatus, hup, hhello]
  rw [requestHandled_unknown hup hunknown, hgate]
  exact answered_requestEntered s m 1 type stNoHello

/-- A request of a type of the manual waits to be served. -/
theorem requestHandled_waits (hknown : knownTypes.contains type = true) :
    (box (requestHandled (requestEntered s m type) m type) m.owner).requests = (box s m.owner).requests ++ [⟨type, m.seq, false, plotByte m⟩]
      ∧ rd (requestHandled (requestEntered s m type) m type) (.mbxTfci m.owner) = rd s (.mbxTfci m.owner) := by
  obtain ⟨tf, hbox⟩ := box_requestEntered s m type
  have htold : Keeps 0x100 (requestEntered s m type) (requestHandled (requestEntered s m type) m type) := by
    rw [requestHandled, up_requestEntered, hup, hknown, if_neg (by decide), if_pos rfl]
    exact .ite (irqCores_keeps (.refl _) _ _ rfl) (.ite (irqCores_keeps (.refl _) _ _ rfl) (.refl _))
  refine ⟨?_, (htold.rd_eq rfl).trans (rd_requestEntered s m type nofun)⟩
  rw [htold.box_eq rfl, hbox]

end

/-- A number of 16 bits in the low half of a word. -/
theorem fld_low_half {n : Nat} (h : n < 0x10000) : fld (BitVec.ofNat 32 n) 15 0 = n := by
  rw [fld, BitVec.toNat_ofNat]
  omega

theorem rdFld_mbxTfpi_requestEntered (s : State) (m : Msg) (type : Nat) :
    rdFld (requestEntered s m type) (.mbxTfpi m.owner) 15 0 = (rdFld s (.mbxTfpi m.owner) 15 0 + 1) % 0x10000 := by
  have hentered : rd (requestEntered s m type) (.mbxTfpi m.owner) = BitVec.ofNat 32 ((rdFld (fillRequest s m type) (.mbxTfpi m.owner) 15 0 + 1) % 0x10000) := rd_wr_self ..
  rw [rdFld, hentered, fld_low_half (Nat.mod_lt _ (by decide)), rdFld, rd_fillRequest, rdFld]

/-! ### Messages read (R244) -/

/-- Held messages that follow into the ring keep their order. -/
theorem postHeld_messages (n : Nat) (s : State) (o : Nat) :
    (box (postHeld n s o) o).posted ++ (box (postHeld n s o) o).held = (box s o).posted ++ (box s o).held := by
  induction n generalizing s with
  | zero => rfl
  | succ n ih =>
    rw [postHeld]
    split
    · rfl
    next r rest hheld =>
      split
      · rfl
      next hroom =>
        obtain ⟨ff, hposted⟩ := box_postMsg_of_room (s := onBox s o fun b => { b with held := rest }) (Nat.not_le.1 hroom) r
        rw [ih, hposted, box_onBox_self, hheld]
        simp

/-- MBX_FFCI frees what has been read, and held messages follow. -/
theorem gives_mbxFfci (o : Fin 14) (index : BitVec 16) (s : State) : Gives s (.mbxFfci o index) fun t => rdFld t (.mbxFfci o) 15 0 = index.toNat
    ∧ (box t o).posted ++ (box t o).held = (box s o).posted.drop ((index.toNat + 0x10000 - rdFld s (.mbxFfci o) 15 0) % 0x10000) ++ (box s o).held := by
  refine ⟨_, rfl, ?_⟩
  generalize (index.toNat + 0x10000 - rdFld s (.mbxFfci o) 15 0) % 0x10000 = freed
  have hfreed : ∀ u, Keeps 0x100 (onBox (wr s (.mbxFfci o) (BitVec.ofNat 32 index.toNat)) o fun b => { b with posted := b.posted.drop freed }) u →
      rdFld (postHeld 33 u o) (.mbxFfci o) 15 0 = index.toNat
        ∧ (box (postHeld 33 u o) o).posted ++ (box (postHeld 33 u o) o).held = (box s o).posted.drop freed ++ (box s o).held := fun u hu => by
    refine ⟨?_, ?_⟩
    · rw [(postHeld_keeps (.refl u) 33 o (.self _)).rdFld_eq rfl, hu.rdFld_eq rfl]
      exact (congrArg (fld · 15 0) (rd_wr_self ..)).trans (fld_low_half index.isLt)
    · rw [postHeld_messages, hu.box_eq rfl, box_onBox_self, box_wr]
  refine hfreed _ (.ite (.refl _) (irqCores_keeps (.refl _) _ _ rfl))

end Sys2Proof.Machine
end

section
/-! SUPPORT. Expired watchdogs and the warden's response to a halt (R235, R236, R241). -/
set_option Elab.async false
namespace Sys2Proof.Machine

/-! ### The registers of a halted core -/

/-- The watchdog's count of a core, or the program counter it halted at: written for the core alone. -/
def OfCore (c : Nat) (r : Reg) : Prop := r = .nvcWdog c ∨ r = .nvcHaltpc c

theorem OfCore.ne_status {c : Nat} {r : Reg} (h : OfCore c r) (d : Nat) : Reg.nvcStatus d ≠ r := by
  rcases h with rfl | rfl <;> nofun

section
variable {c d : Nat} {r : Reg} (hr : OfCore c r)
include hr

theorem Keeps.rd_ofCore {F : Nat} {s t : State} (h : Keeps F s t) (hwdog : F.testBit 108 = false) (hpc : F.testBit 111 = false) : rd t r = rd s r := by
  rcases hr with rfl | rfl
  · exact h.rd_eq hwdog
  · exact h.rd_eq hpc

/-- The halt of another core. -/
theorem rd_stopCore_ofCore (s : State) (hd : d ≠ c) (cause : Nat) : rd (stopCore s d cause) r = rd s r := by
  have hpc : Reg.nvcHaltpc d ≠ r := by
    rcases hr with rfl | rfl
    · nofun
    · exact fun e => hd (Reg.nvcHaltpc.inj e)
  have hmarked : ∀ u, rd u r = rd s r → rd (dropRing (wrFld (setNvState u d nvHalted) (.nvcStatus d) 28 24 cause) d) r = rd s r := fun u hu => by
    rw [(dropRing_keeps (.refl _) d (.self _)).rd_ofCore hr rfl rfl, rd_wrFld, if_neg (hr.ne_status d), setNvState, rd_wrFld, if_neg (hr.ne_status d), hu]
  have hstopped := hmarked (if nvState s d = nvHalted then s else wr s (.nvcHaltpc d)
    (BitVec.ofNat 32 (((core s d).pc.toNat + (if nvState s d = nvWfi then 0xFFFC else 0)) % 0x10000))) (by split; exacts [rfl, rd_wr_ne _ _ hpc])
  unfold stopCore
  dsimp only
  split
  · rw [(irqCores_keeps (.refl _) _ _ (.self _)).rd_ofCore hr rfl rfl, (recordEvent_keeps (.refl _) _ _ _ _ _ _ _ (.self _)).rd_ofCore hr rfl rfl, hstopped]
  · exact hstopped

/-- The load of another core. -/
theorem rd_loadCore_ofCore (s : State) (hd : d ≠ c) (k : Component) (keep : Bool) : rd (loadCore s d k keep) r = rd s r := by
  have hwdog : Reg.nvcWdog d ≠ r := by
    rcases hr with rfl | rfl
    · exact fun e => hd (Reg.nvcWdog.inj e)
    · nofun
  have hstate : ∀ n, Reg.fwmState n ≠ r := by
    rcases hr with rfl | rfl <;> exact fun n => nofun
  have hhalted : rd (if nvState s d = nvRun ∨ nvState s d = nvWfi then stopCore s d 4 else s) r = rd s r := by
    split
    · exact rd_stopCore_ofCore hr s hd 4
    · rfl
  rw [loadCore, (haltsHandled_keeps (.refl _) (.self _)).rd_ofCore hr rfl rfl, setNvState, rd_wrFld, if_neg (hr.ne_status d), rd_wrFld, if_neg (hstate _), rd_wrBit,
    if_neg (hr.ne_status d), rd_wrFld, if_neg hwdog, rd_setCore_eq, hhalted]

theorem rd_loadReceiver_ofCore (s : State) (hd : d ≠ c) (k : Component) (keep : Bool) : rd (loadReceiver s d k keep) r = rd s r := by
  unfold loadReceiver
  split
  · exact rd_loadCore_ofCore hr s hd k keep
  · split <;> rfl

/-- Receivers loaded again, none of them the core. -/
theorem rd_loadReceivers_ofCore (l : List Nat) (hl : c ∉ l) (s : State) (k : Component) (keep : Bool) : rd (forAll (fun s d => loadReceiver s d k keep) s l) r = rd s r := by
  induction l generalizing s with
  | nil => rfl
  | cons d rest ih =>
    obtain ⟨hd, hrest⟩ := not_or.1 (mt List.mem_cons.2 hl)
    exact (ih hrest _).trans (rd_loadReceiver_ofCore hr s (Ne.symm hd) k keep)

/-- An update that ends leaves a core that had not switched as it was. -/
theorem rd_endUpdate_ofCore {s : State} (result status : Nat) (hc : ∀ u, s.fw.update = some u → c ∉ u.switched) : rd (endUpdate s result status) r = rd s r := by
  unfold endUpdate
  split
  · rfl
  next u hu =>
    rw [(answer_keeps (.refl _) _ _ _ _ _ _ _ (.self _)).rd_ofCore hr rfl rfl, (recordEvent_keeps (.refl _) _ _ _ _ _ _ _ (.self _)).rd_ofCore hr rfl rfl,
      (setUpd_keeps (.refl _) _ _ _ (.self _)).rd_ofCore hr rfl rfl]
    split
    · exact rd_loadReceivers_ofCore hr u.switched (hc u hu) s _ true
    · rfl

/-- What a halt sets going besides leaves the halted core's own registers alone. -/
theorem rd_haltCore_ofCore (s : State) (cause : Nat) : rd (haltCore s c cause) r = rd (stopCore s c cause) r := by
  unfold haltCore
  dsimp only
  split
  next u hu =>
    split
    · refine rd_endUpdate_ofCore hr 6 stRefused fun v hv => ?_
      obtain rfl := Option.some.inj hv
      simp
    · rfl
  next => rfl

end

/-- HALTPC of a core that had not halted: the instruction in progress, which a WFI is while it waits. -/
theorem rd_nvcHaltpc_stopCore {s : State} {c : Nat} (hup : nvState s c ≠ nvHalted) (cause : Nat) :
    rd (stopCore s c cause) (.nvcHaltpc c) = BitVec.ofNat 32 (((core s c).pc.toNat + if nvState s c = nvWfi then 0xFFFC else 0) % 0x10000) := by
  have hof : OfCore c (.nvcHaltpc c) := .inr rfl
  have hmarked : ∀ u, rd (dropRing (wrFld (setNvState u c nvHalted) (.nvcStatus c) 28 24 cause) c) (.nvcHaltpc c) = rd u (.nvcHaltpc c) := fun u => by
    rw [(dropRing_keeps (.refl _) c (.self _)).rd_ofCore hof rfl rfl, rd_wrFld, if_neg nofun, setNvState, rd_wrFld, if_neg nofun]
  unfold stopCore
  dsimp only
  rw [if_neg hup]
  split
  · rw [(irqCores_keeps (.refl _) _ _ (.self _)).rd_ofCore hof rfl rfl, (recordEvent_keeps (.refl _) _ _ _ _ _ _ _ (.self _)).rd_ofCore hof rfl rfl, hmarked, rd_wr_self]
  · rw [hmarked, rd_wr_self]

theorem rd_nvcWdog_stopCore (s : State) (c cause : Nat) : rd (stopCore s c cause) (.nvcWdog c) = rd s (.nvcWdog c) := (stopCore_keeps (.refl s) c cause (.self _)).rd_eq rfl

/-! ### An expired watchdog (R235) -/

/-- An expiry has been counted. -/
def expiryCounted (s : State) (c : Nat) : State := wrFld s (.nvcWdog c) 31 16 (satNat (rdFld s (.nvcWdog c) 31 16 + 1) 0xFFFF)

theorem exec_watchdogExpiry {s : State} {c : Fin 24} (hup : nvState s c = nvRun ∨ nvState s c = nvWfi) (hc : c.val ≠ 0) :
    exec (.watchdogExpiry c) s = .next (haltCore (expiryCounted s c) c 1) := by
  refine congrArg Host.Outcome.next ?_
  rw [wdogRuns_of_up hup, if_neg (by decide)]
  exact if_neg hc

theorem nvState_expiryCounted (s : State) (c : Nat) : nvState (expiryCounted s c) c = nvState s c := rdFld_wr_ne s _ 31 29 nofun

/-- The core halts, the expiry counted and the instruction in progress kept. -/
theorem gives_watchdogExpiry_counted {s : State} {c : Fin 24} (hup : nvState s c = nvRun ∨ nvState s c = nvWfi) (hc : c.val ≠ 0) : Gives s (.watchdogExpiry c) fun t =>
    nvState t c = nvHalted ∧ rdFld t (.nvcStatus c) 28 24 = 1 ∧ rdFld t (.nvcWdog c) 31 16 = min 0xFFFF (rdFld s (.nvcWdog c) 31 16 + 1)
      ∧ rd t (.nvcHaltpc c) = BitVec.ofNat 32 (((core s c).pc.toNat + if nvState s c = nvWfi then 0xFFFC else 0) % 0x10000) := by
  have hhalts := haltCore_halts (expiryCounted s c) c (cause := 1) (by decide)
  have hstate := nvState_expiryCounted s c
  refine ⟨_, exec_watchdogExpiry hup hc, hhalts.state, hhalts.cause_eq, ?_, ?_⟩
  · rw [rdFld, rd_haltCore_ofCore (.inl rfl), rd_nvcWdog_stopCore]
    refine (rdFld_wrFld_self s (.nvcWdog c) _ (by decide) (by decide)).trans ?_
    rw [satNat]
    split <;> omega
  · have hrunning : nvState (expiryCounted s c) c ≠ nvHalted := by
      rw [hstate]
      rcases hup with h | h <;> rw [h] <;> decide
    rw [rd_haltCore_ofCore (.inr rfl), rd_nvcHaltpc_stopCore hrunning, hstate]
    rfl

/-! ### Cores reset and loaded again (R236) -/

theorem pc_haltsHandled (s : State) (c : Nat) : (core (haltsHandled s) c).pc = (core s c).pc := by
  unfold haltsHandled
  split
  · rfl
  · refine forAll_inv (P := fun t => (core t c).pc = (core s c).pc) (fun t d ht => ?_) headlandCores s rfl
    rw [clearIrq, onCore, core_setCore]
    split
    next e => exact e ▸ ht
    next => exact ht

/-- A core just loaded is at the component's entry. -/
theorem pc_loadCore (s : State) (c : Nat) (k : Component) (keep : Bool) : (core (loadCore s c k keep) c).pc = BitVec.ofNat 32 k.entry := by
  rw [loadCore, pc_haltsHandled]
  exact congrArg CoreState.pc (core_setCore_self ..)

theorem nvState_resetCores_one (s : State) (c : Nat) : nvState (resetCores s [c]) c = nvReset :=
  ((haltsHandled_keeps (.refl _) (.self _)).rdFld_eq rfl 31 29).trans (rdFld_wrFld_self _ _ _ (by decide) (by decide))

/-! ### A component held down (R241) -/

theorem heldDown_wrFld {s : State} {n : Nat} (d v : Nat) : bit (rd (wrFld s (.fwmState d) 7 0 v) (.fwmState n)) 30 = bit (rd s (.fwmState n)) 30 := by
  rw [rd_wrFld]
  split
  next e =>
    rw [e]
    exact bit_setFld_of_disjoint _ _ _ _ _ (by decide) (by decide) (.inr (by decide))
  next => rfl

/-- A load counts a restart and leaves the hold alone. -/
theorem heldDown_loadCore (s : State) (c : Nat) (k : Component) (keep : Bool) (n : Nat) :
    bit (rd (loadCore s c k keep) (.fwmState n)) 30 = bit (rd s (.fwmState n)) 30 := by
  have hhalted : rd (if nvState s c = nvRun ∨ nvState s c = nvWfi then stopCore s c 4 else s) (.fwmState n) = rd s (.fwmState n) := by
    split
    · exact (stopCore_keeps (.refl s) c 4 (.self _)).rd_eq rfl
    · rfl
  rw [loadCore, (haltsHandled_keeps (.refl _) (.self _)).rd_eq rfl, setNvState, rd_wrFld, if_neg nofun, heldDown_wrFld, rd_wrBit, if_neg nofun, rd_wrFld, if_neg nofun,
    rd_setCore_eq, hhalted]

theorem heldDown_endUpdate (s : State) (result status n : Nat) : bit (rd (endUpdate s result status) (.fwmState n)) 30 = bit (rd s (.fwmState n)) 30 := by
  have hload : ∀ (v : State) (d : Nat) (k : Component), bit (rd (loadReceiver v d k true) (.fwmState n)) 30 = bit (rd v (.fwmState n)) 30 := fun v d k => by
    unfold loadReceiver
    split
    · exact heldDown_loadCore v d k true n
    · split <;> rfl
  unfold endUpdate
  split
  · rfl
  next u hu =>
    rw [(answer_keeps (.refl _) _ _ _ _ _ _ _ (.self _)).rd_eq rfl, (recordEvent_keeps (.refl _) _ _ _ _ _ _ _ (.self _)).rd_eq rfl, (setUpd_keeps (.refl _) _ _ _ (.self _)).rd_eq rfl]
    split
    next old _ =>
      exact forAll_inv (P := fun t => bit (rd t (.fwmState n)) 30 = bit (rd s (.fwmState n)) 30) (fun t d ht => (hload t d old).trans ht) u.switched s rfl
    next => rfl

/-- A reset of the management island leaves what is held down so. -/
theorem heldDown_resetMgmt (s : State) (n : Nat) : bit (rd (resetMgmt s) (.fwmState n)) 30 = bit (rd s (.fwmState n)) 30 := by
  have hended : bit (rd (if s.fw.update.isSome then endUpdate s 6 stRefused else s) (.fwmState n)) 30 = bit (rd s (.fwmState n)) 30 := by
    split
    · exact heldDown_endUpdate s 6 stRefused n
    · rfl
  rw [resetMgmt, (failSetups_keeps (.refl _) (.self _)).rd_eq rfl, (dropLoads_keeps (.refl _) _ (.self _)).rd_eq rfl, (closeSessions_keeps (.refl _) (.self _)).rd_eq rfl,
    (forAll_keeps (.refl _) loseRequests (List.range 14) fun _ o h => loseRequests_keeps h o (.self _)).rd_eq rfl, (resetCores_keeps (.refl _) mgmtCores (.self _)).rd_eq rfl]
  exact hended

/-! ### The warden's response (R236, R241) -/

section
variable {s : State} {c : Fin 24} (hhalted : nvState s c = nvHalted) (hwarden : nvState s 0 ≠ nvHalted) (hfree : bit (rd s (.fwmState (componentOf c))) 30 = false)

/-- The halts of a core's component in the last 60 s, this one among them where its cause counts. -/
def haltsNow (s : State) (c : Nat) : List Nat :=
  recentHalts s (componentOf c) (decide (rdFld s (.nvcStatus c) 28 24 ≠ 4 ∧ rdFld s (.nvcStatus c) 28 24 ≠ 5))

/-- The halt has been noted. -/
def haltNoted (s : State) (c : Nat) : State := { s with fw := { s.fw with halts := mapInsert s.fw.halts (componentOf c) (haltsNow s c) } }

/-- The third halt: the component is held down. -/
def componentHeld (s : State) (n : Nat) (w : Word) : State :=
  if n = 3 then resetMgmt (recordEvent (wrBit s (.fwmState n) 30 true) 0x0D02 moduleEvent 3 islHeadland n w 0)
  else recordEvent (wrBit s (.fwmState n) 30 true) 0x0D02 moduleEvent 3 islHeadland n w 0

/-- The response to a halt that does not hold the component down: a reset of the island, or a core reset and a reload. -/
def haltAnswered (s : State) (c : Nat) (copy : Option Component) : State :=
  if componentOf c = 3 then managementReset (resetDone s 5 2)
  else if componentOf c = 2 then resetIsland false true (resetDone s 5 1) 1
  else match copy with
    | some k => loadCore (resetCores (noteCopy (resetDone s 5 (if c < 2 then 0 else 4)) k) [c]) c k false
    | none => resetCores (resetDone s 5 (if c < 2 then 0 else 4)) [c]

include hhalted hwarden hfree in
theorem exec_wardenHaltResponse : exec (.wardenHaltResponse c) s = .next (if 3 ≤ (haltsNow s c).length then
      componentHeld (haltNoted s c) (componentOf c) (rd (haltNoted s c) .fwmUpd)
    else haltAnswered (haltNoted s c) c (reloadCopy s (componentOf c))) := by
  refine congrArg Host.Outcome.next ?_
  rw [if_neg (by simp [hhalted, hwarden, hfree])]
  rfl

end

theorem heldDown_componentHeld (s : State) (n : Nat) (w : Word) : bit (rd (componentHeld s n w) (.fwmState n)) 30 = true := by
  have hset : bit (rd (recordEvent (wrBit s (.fwmState n) 30 true) 0x0D02 moduleEvent 3 islHeadland n w 0) (.fwmState n)) 30 = true := by
    rw [(recordEvent_keeps (.refl _) _ _ _ _ _ _ _ (.self _)).rd_eq rfl]
    exact bit_wrBit_self _ _ true (by decide)
  unfold componentHeld
  split
  · rw [heldDown_resetMgmt, hset]
  · exact hset

/-- Whatever the response resets, the cause stands. -/
theorem rstCause_haltAnswered (s : State) (c : Nat) (copy : Option Component) : bit (rd (haltAnswered s c copy) .rstCause) 5 = true := by
  have hdone : ∀ object, bit (rd (resetDone s 5 object) .rstCause) 5 = true := fun object => by
    rw [resetDone, (recordEvent_keeps (.refl _) _ _ _ _ _ _ _ (.self _)).rd_eq rfl]
    exact bit_wrBit_self _ _ true (by decide)
  unfold haltAnswered
  split
  · rw [(managementReset_keeps (.refl _) (.self _)).rd_eq rfl, hdone]
  · split
    · rw [(resetIsland_keeps (.refl _) false true 1 (.self _)).rd_eq rfl, hdone]
    · split
      · rw [(loadCore_keeps (.refl _) c _ false (.self _)).rd_eq rfl, (resetCores_keeps (.refl _) [c] (.self _)).rd_eq rfl, (noteCopy_keeps (.refl _) _ (.self _)).rd_eq rfl, hdone]
      · rw [(resetCores_keeps (.refl _) [c] (.self _)).rd_eq rfl, hdone]

/-- A headland or network core is reset, and runs again from the copy that a reload reads. -/
theorem core_haltAnswered (s : State) {c : Nat} (hc : c < 2 ∨ 6 ≤ c ∧ c ≤ 21) (copy : Option Component) : match copy with
    | some k => nvState (haltAnswered s c copy) c = nvRun ∧ (core (haltAnswered s c copy) c).pc = BitVec.ofNat 32 k.entry
    | none => nvState (haltAnswered s c copy) c = nvReset := by
  have hmgmt : componentOf c ≠ 3 := by
    unfold componentOf
    split <;> [skip; split <;> [skip; split]] <;> omega
  have hsec : componentOf c ≠ 2 := by
    unfold componentOf
    split <;> [skip; split <;> [skip; split]] <;> omega
  unfold haltAnswered
  rw [if_neg hmgmt, if_neg hsec]
  cases copy with
  | some k => exact ⟨nvState_loadCore .., pc_loadCore ..⟩
  | none => exact nvState_resetCores_one ..

/-- Settles O41. -/
theorem mailboxesWatchdogsAndWarden : Obligations.MailboxesWatchdogsAndWarden := by
  unfold Obligations.MailboxesWatchdogsAndWarden
  refine ⟨fun m type s hroom => ⟨_, exec_mailboxRequest hroom, ?tfpi, answered_down, answered_unknown, answered_noHello, requestHandled_waits⟩,
    fun m type s hfull => congrArg Host.Outcome.next (if_pos hfull), gives_mbxFfci, fun c s hup hc => gives_watchdogExpiry_counted hup hc,
    fun c s hhalted hwarden hfree => ⟨_, exec_wardenHaltResponse hhalted hwarden hfree, fun hthird => ?held, fun hless => ?cause, fun hless hc => ?reload⟩⟩
  case tfpi =>
    rw [rdFld, rd_mbxTfpi_requestHandled]
    exact rdFld_mbxTfpi_requestEntered s m type.toNat
  case held =>
    rw [if_pos (show 3 ≤ (haltsNow s c).length from hthird)]
    exact heldDown_componentHeld ..
  case cause =>
    rw [if_neg (show ¬ 3 ≤ (haltsNow s c).length from Nat.not_le.2 hless)]
    exact rstCause_haltAnswered ..
  case reload =>
    rw [if_neg (show ¬ 3 ≤ (haltsNow s c).length from Nat.not_le.2 hless)]
    exact core_haltAnswered _ hc _

end Sys2Proof.Machine
end

section
/-! SUPPORT. The functions' power states and heartbeats, and the HELLOs that wait (R345 to R350): what a host interface that lost a function, or lets bundles issue again,
sets going leaves them alone. -/
set_option Elab.async false
namespace Sys2Proof.Machine

theorem fnState_onFn (s : State) (f : Nat) (g : FnState → FnState) (k : Nat) : fnState (onFn s f g) k = if f = k then g (fnState s f) else fnState s k := mapGet_mapInsert ..

theorem fnState_onFn_self (s : State) (f : Nat) (g : FnState → FnState) : fnState (onFn s f g) f = g (fnState s f) := (fnState_onFn ..).trans (if_pos rfl)

/-- Every function's power state is as it was; no mailbox has come to wait for a HELLO, and a function whose mailbox waits for none has its heartbeat, armed or not and
lost or not, as it was. -/
structure SteadyFns (s t : State) : Prop where
  dstate : ∀ f, (fnState t f).dstate = (fnState s f).dstate
  due : ∀ o, (box s o).helloDue = none → (box t o).helloDue = none
  hello : ∀ f, (box s f).helloDue = none → (fnState t f).hello = (fnState s f).hello
  hstat : ∀ f, (box s f).helloDue = none → rd t (.hifHstat f) = rd s (.hifHstat f)

/-- The footprint of all but the functions, the mailboxes and the heartbeat status. -/
def beyondFns : Nat := 0x1fffffffffffffbffffffffffffffffffffffffffffffffffffffffbbff

namespace SteadyFns
variable {s0 s t : State}

theorem refl (s : State) : SteadyFns s s := ⟨fun _ => rfl, fun _ h => h, fun _ _ => rfl, fun _ _ => rfl⟩

theorem trans (h : SteadyFns s0 s) (k : SteadyFns s t) : SteadyFns s0 t :=
  ⟨fun f => (k.dstate f).trans (h.dstate f), fun o ho => k.due o (h.due o ho), fun f hf => (k.hello f (h.due f hf)).trans (h.hello f hf),
    fun f hf => (k.hstat f (h.due f hf)).trans (h.hstat f hf)⟩

theorem ite {c : Prop} {d : Decidable c} (hs : SteadyFns s0 s) (ht : SteadyFns s0 t) : SteadyFns s0 (if c then s else t) := by split <;> assumption

theorem foldl {α : Type} (h : SteadyFns s0 s) (f : State → α → State) (l : List α) (hf : ∀ s a, SteadyFns s (f s a)) : SteadyFns s0 (l.foldl f s) := by
  induction l generalizing s with
  | nil => exact h
  | cons a rest ih => exact ih (h.trans (hf s a))

theorem forAll (h : SteadyFns s0 s) (f : State → Nat → State) (l : List Nat) (hf : ∀ s n, SteadyFns s (f s n)) : SteadyFns s0 (forAll f s l) :=
  forAll_inv (P := SteadyFns s0) (fun s n hs => hs.trans (hf s n)) l s h

/-- An operation that leaves the functions, the mailboxes and the heartbeat status alone. -/
theorem of_eq (h : SteadyFns s0 s) (hfns : t.host.fns = s.host.fns) (hboxes : t.fw.boxes = s.fw.boxes) (hregs : ∀ f, rd t (.hifHstat f) = rd s (.hifHstat f)) : SteadyFns s0 t :=
  h.trans ⟨fun f => by rw [fnState, hfns, fnState], fun o ho => by rw [box, hboxes]; exact ho, fun f _ => by rw [fnState, hfns, fnState], fun f _ => hregs f⟩

theorem keep (h : SteadyFns s0 s) (k : Keeps beyondFns s t) : SteadyFns s0 t :=
  h.of_eq (congrArg HostState.fns (k.host.eq rfl)) (congrArg FwState.boxes (k.fw.eq rfl)) fun _ => k.rd_eq rfl

theorem onFn (h : SteadyFns s0 s) (f : Nat) {g : FnState → FnState} (hdstate : ∀ x, (g x).dstate = x.dstate) (hhello : ∀ x, (g x).hello = x.hello) :
    SteadyFns s0 (onFn s f g) := by
  have hfn : ∀ k, (fnState (Machine.onFn s f g) k).dstate = (fnState s k).dstate ∧ (fnState (Machine.onFn s f g) k).hello = (fnState s k).hello := fun k => by
    rw [fnState_onFn]
    split
    next e => rw [hdstate, hhello, e]; exact ⟨rfl, rfl⟩
    next => exact ⟨rfl, rfl⟩
  exact h.trans ⟨fun k => (hfn k).1, fun _ ho => ho, fun k _ => (hfn k).2, fun _ _ => rfl⟩

theorem onBox (h : SteadyFns s0 s) (o : Nat) {g : MailboxState → MailboxState} (hg : ∀ x, x.helloDue = none → (g x).helloDue = none) : SteadyFns s0 (onBox s o g) := by
  refine h.trans ⟨fun _ => rfl, fun k hk => ?_, fun _ _ => rfl, fun _ _ => rfl⟩
  rw [box_onBox]
  split
  next e => exact hg _ (by rw [e]; exact hk)
  next => exact hk

end SteadyFns

theorem recordEvent_steady {s0 s : State} (h : SteadyFns s0 s) (code plot sev island object : Nat) (value : Word) (extra : Nat) :
    SteadyFns s0 (recordEvent s code plot sev island object value extra) := h.keep (recordEvent_keeps (.refl s) _ _ _ _ _ _ _ rfl)

/-! ### Interrupts and messages (R346, R348) -/

theorem sendMsix_steady {s0 s : State} (h : SteadyFns s0 s) (f v : Nat) : SteadyFns s0 (sendMsix s f v) :=
  .ite (h.onFn f (fun _ => rfl) fun _ => rfl) <| .ite h <| .ite (h.onFn f (fun _ => rfl) fun _ => rfl) (h.of_eq rfl rfl fun _ => rfl)

theorem raisePme_steady {s0 s : State} (h : SteadyFns s0 s) (f v : Nat) : SteadyFns s0 (raisePme s f v) := by
  have hpme : SteadyFns s0 (onFn s f (fun x => { x with pmeStatus := true })) := h.onFn f (fun _ => rfl) fun _ => rfl
  exact .ite (.ite hpme <| .ite (hpme.of_eq rfl rfl fun _ => rfl) <| .ite (hpme.of_eq rfl rfl fun _ => rfl) hpme) h

theorem signalFn_steady {s0 s : State} (h : SteadyFns s0 s) (f v : Nat) : SteadyFns s0 (signalFn s f v) := .ite h (sendMsix_steady (raisePme_steady h f v) f v)

theorem postMsg_steady {s0 s : State} (h : SteadyFns s0 s) (o : Nat) (r : Response) : SteadyFns s0 (postMsg s o r) := by
  have hfilled : SteadyFns s0 (fillSlotBytes s o r) := .ite h (h.onBox o fun _ hx => hx)
  have hposted := (hfilled.onBox o (g := fun b => { b with posted := b.posted ++ [r] }) fun _ hx => hx).keep (wr_keeps (.refl _) (.mbxFfpi o)
    (BitVec.ofNat 32 ((rdFld (onBox (fillSlotBytes s o r) o (fun b => { b with posted := b.posted ++ [r] })) (.mbxFfpi o) 15 0 + 1) % 0x10000)) rfl)
  exact .ite (h.onBox o fun _ hx => hx) (.ite (hposted.of_eq rfl rfl fun _ => rfl) (signalFn_steady hposted o 0))

theorem answer_steady {s0 s : State} (h : SteadyFns s0 s) (o : Nat) (seq : Word) (version type status detail : Nat) (payload : List Byte) :
    SteadyFns s0 (answer s o seq version type status detail payload) := by
  have hgone := h.onBox o (g := fun b => { b with requests := b.requests.filter (fun r => !(r.seq == seq)) }) fun _ hx => hx
  exact .ite h (postMsg_steady (.ite (hgone.keep (showRequests_keeps (wr_keeps (.refl _) (.mbxTfci o) _ rfl) rfl)) hgone) o _)

/-! ### Saves, and the end of steps (R105, R139) -/

theorem finishSave_steady {s0 s : State} (h : SteadyFns s0 s) (k : CalSave) : SteadyFns s0 (finishSave s k) := by
  unfold finishSave
  dsimp only
  refine answer_steady (h.of_eq ?_ ?_ fun f => ?_) _ _ _ _ _ _ _ <;> split <;> split <;> rfl

theorem snapshotTiles_steady {s0 s : State} (h : SteadyFns s0 s) (ts : List Nat) : SteadyFns s0 (snapshotTiles s ts) := by
  unfold snapshotTiles
  split
  · exact h
  · exact .ite (finishSave_steady h _) (h.of_eq rfl rfl fun _ => rfl)

theorem stepEnded_steady {s0 s : State} (h : SteadyFns s0 s) (p : Nat) : SteadyFns s0 (stepEnded s p) := by
  have hcounted : SteadyFns s0 (if stepNs s p < stepElapsed s p then count s (.schPovrcnt p) 1 else s) := .ite (h.keep (count_keeps (.refl s) _ _ rfl)) h
  have hended := snapshotTiles_steady (hcounted.keep (onPlot_keeps (.refl _) p (fun q => { q with inStep := false }) rfl)) (tilesOf s p)
  have hheld := hended.keep (holdPlot_keeps (.refl _) p rfl)
  exact .ite h <| .ite (hended.keep (holdPlot_keeps (discardUnsent_keeps (wrBit_keeps (wrBit_keeps (.refl _) _ _ _ rfl) _ _ _ rfl) p rfl) p rfl)) <|
    .ite hheld <| .ite hheld hended

/-! ### Faults of tiles and plots (R146, R147) -/

theorem plotFault_steady {s0 s : State} (h : SteadyFns s0 s) (p cause ft : Nat) : SteadyFns s0 (plotFault s p cause ft) := by
  have hstopped : Keeps beyondFns s (othersStopped s p ft) :=
    forAll_keeps (.refl s) _ _ fun _ t hs => .ite hs (landAll_keeps (setTileRun_keeps (schError_keeps hs t 7 0 rfl) t tFaulted rfl) t rfl)
  have hmarked : Keeps beyondFns s (plotMarked s p cause ft) := wrFld_keeps (wrFld_keeps (setPlt_keeps hstopped p pltFaulted rfl) _ _ _ _ rfl) _ _ _ _ rfl
  have htold := tellLeader_keeps (discardUnsent_keeps hmarked p rfl) p rfl
  have hsaved := snapshotTiles_steady (recordEvent_steady (h.keep htold) 0x0502 p 2 (islTile ft) p
    (rd (tellLeader (discardUnsent (plotMarked s p cause ft) p) p) (.schPstat p)) 0) (tilesOf s p)
  exact .ite h (signalFn_steady (signalFn_steady (hsaved.keep (irqCores_keeps (.refl _) mgmtCores 17 rfl)) 0 3) (p + 1) 3)

theorem tileFaultXid_steady {s0 s : State} (h : SteadyFns s0 s) (t : Nat) (v : Viol) (xid : Nat) : SteadyFns s0 (tileFaultXid s t v xid) := by
  have hviolated := violated_keeps s t v xid
  have hstopped : SteadyFns s0 (tileStopped s t v xid) :=
    (h.of_eq (congrArg HostState.fns (hviolated.host.eq rfl)) (congrArg FwState.boxes (hviolated.fw.eq rfl)) fun _ => hviolated.rd_eq rfl).keep (landAll_keeps (.refl _) t rfl)
  rw [tileFaultXid_eq]
  split
  · exact plotFault_steady hstopped _ _ t
  · exact hstopped

/-! ### Bundles that issue (R119, R127, R128) -/

theorem opEnd_steady (sl : Slot) (s : State) : SteadyFns s ((opEnd sl).issue s) := by
  have hlanded : Keeps beyondFns s (setTileRun (landAll s sl.tile) sl.tile tEnded) := setTileRun_keeps (landAll_keeps (.refl s) _ rfl) _ _ rfl
  have hend : SteadyFns s (atEnd (landAll s sl.tile) sl.tile) := (SteadyFns.refl s).keep (forAll_keeps hlanded _ _ fun _ _ h => wr_keeps h _ _ rfl)
  change SteadyFns s (match plotOf (atEnd (landAll s sl.tile) sl.tile) sl.tile with
    | some p => stepEnded (atEnd (landAll s sl.tile) sl.tile) p
    | none => atEnd (landAll s sl.tile) sl.tile)
  split
  · exact stepEnded_steady hend _
  · exact hend

/-- A slot operation other than the end of a step reaches neither the host interface nor the mailboxes. -/
theorem slotOp_keeps_beyondFns {i : Instr} (hi : ∀ sl, i ≠ .endOp sl) (s : State) : Keeps beyondFns s ((slotOp i).issue s) := by
  cases i with
  | endOp sl => exact absurd rfl (hi sl)
  | loadiv sl iv b l => exact (opLoadiv_keeps sl iv b l.toNat rfl).holds s (.refl s)
  | launch sl a iv d => exact (opLaunch_keeps sl.tile a.toNat iv d rfl).holds s (.refl s)
  | rlaunch sl g iv d => exact (opRlaunch_keeps sl.tile g iv d rfl).holds s (.refl s)
  | collect sl a d => exact (opCollect_keeps sl.tile (a.toNat / 16) (a.toNat % 16) d rfl).holds s (.refl s)
  | rcollect sl g d => exact (opCollect_keeps sl.tile g 16 d rfl).holds s (.refl s)
  | vecFma sl o => exact (opVecFma_keeps sl o rfl).holds s (.refl s)
  | vecAdd sl o => exact (opVecAdd_keeps sl o rfl).holds s (.refl s)
  | vecMul sl o => exact (opVecMul_keeps sl o rfl).holds s (.refl s)
  | max sl o => exact (opMax_keeps sl o rfl).holds s (.refl s)
  | min sl o => exact (opMin_keeps sl o rfl).holds s (.refl s)
  | cvt sl o => exact (opCvt_keeps sl o rfl).holds s (.refl s)
  | func sl o => exact (opFunc_keeps sl o rfl).holds s (.refl s)
  | rsum sl o => exact (opRsum_keeps sl o rfl).holds s (.refl s)
  | rmax sl o => exact (opRmax_keeps sl o rfl).holds s (.refl s)
  | mxenc sl o => exact (opMxenc_keeps sl o rfl).holds s (.refl s)
  | mxdec sl o => exact (opMxdec_keeps sl o rfl).holds s (.refl s)
  | route sl o => exact (opRoute_keeps sl o rfl).holds s (.refl s)
  | sample sl o => exact (opSample_keeps sl o rfl).holds s (.refl s)
  | mma sl c d => exact (opMma_keeps sl c d true rfl).holds s (.refl s)
  | mmaz sl c d => exact (opMma_keeps sl c d false rfl).holds s (.refl s)
  | drain sl c f v r => exact (opDrain_keeps sl c f v r rfl).holds s (.refl s)
  | ld sl b a v p => exact (opLd_keeps sl b a v p rfl).holds s (.refl s)
  | st sl b a v p => exact (opSt_keeps sl b a v p rfl).holds s (.refl s)
  | cpy sl b a c l => exact (opCpy_keeps sl b a c l rfl).holds s (.refl s)
  | ctlWait sl n => exact (opCtlWait_keeps sl n rfl).holds s (.refl s)
  | loop sl n => exact (opLoop_keeps sl n rfl).holds s (.refl s)
  | endloop sl => exact (opEndloop_keeps sl rfl).holds s (.refl s)
  | seedld sl b l w => exact (opSeedld_keeps sl b l w rfl).holds s (.refl s)
  | fallow sl w l f => exact (opFallow_keeps sl w l f rfl).holds s (.refl s)
  | send sl x => exact (opSend_keeps sl x rfl).holds s (.refl s)
  | xngWait sl x => exact (opXngWait_keeps sl x rfl).holds s (.refl s)
  | lread sl x => exact (opLread_keeps sl x rfl).holds s (.refl s)
  | free sl x => exact (opFree_keeps sl x rfl).holds s (.refl s)
  | _ => exact .refl s

theorem slotOp_steady (i : Instr) (s : State) : SteadyFns s ((slotOp i).issue s) := by
  by_cases h : ∃ sl, i = .endOp sl
  · obtain ⟨sl, rfl⟩ := h
    exact opEnd_steady sl s
  · exact (SteadyFns.refl s).keep (slotOp_keeps_beyondFns (fun sl e => h ⟨sl, e⟩) s)

theorem judge_steady {s0 s : State} (h : SteadyFns s0 s) (sl : Slot) (ops : List Instr) : SteadyFns s0 (judge s sl ops) := by
  have hpresented := h.keep (presented_keeps (.refl s) sl rfl)
  have hcharged := hpresented.keep (chargeBank_keeps (.refl _) sl.tile sl.cyc ops (!(bundleHolds (presented s sl) sl.tile ops).isEmpty) rfl)
  have hfree := hcharged.keep (unheld_keeps (.refl _) sl.tile rfl)
  have hissued := (hfree.keep (issuing_keeps (.refl _) sl ops rfl)).foldl (fun s i => (slotOp i).issue s) ops fun s i => slotOp_steady i s
  exact .ite (tileFaultXid_steady hpresented _ _ 0) <| .ite (hcharged.keep (holdBundle_keeps (.refl _) _ _ _ rfl)) <| .ite (tileFaultXid_steady hfree _ _ 0) hissued

theorem judgeHeld_steady {s0 s : State} (h : SteadyFns s0 s) (t : Nat) : SteadyFns s0 (judgeHeld s t) := by
  unfold judgeHeld
  dsimp only
  split
  · exact judge_steady (h.keep (onTile_keeps (.refl s) t _ rfl)) _ _
  · exact h

theorem release_steady {s0 s : State} (h : SteadyFns s0 s) (n : Nat) (l : List Nat) : SteadyFns s0 (release n l s) := by
  induction n generalizing l s with
  | zero => unfold release; exact h
  | succ n ih =>
    cases l with
    | nil => unfold release; exact h
    | cons t rest => exact ih (judgeHeld_steady h t) _

theorem chargeWait_steady {s0 s : State} (h : SteadyFns s0 s) (waited t : Nat) : SteadyFns s0 (chargeWait waited s t) := by
  have hcharged := h.keep (chargeStall_keeps (.refl s) t (rdFld s (.schStatus t) 25 23 - 1) waited rfl)
  unfold chargeWait
  dsimp only
  split
  · exact h
  · split
    · exact hcharged
    · exact .ite (tileFaultXid_steady hcharged t _ _) hcharged

theorem wakeTile_steady {s0 s : State} (h : SteadyFns s0 s) (t waited : Nat) : SteadyFns s0 (wakeTile s t waited) :=
  .ite (release_steady (h.forAll _ [t] fun s t => chargeWait_steady (.refl s) waited t) 256 _) h

theorem feedRelease_steady {s0 s : State} (h : SteadyFns s0 s) (waited : Nat) : SteadyFns s0 (feedRelease waited s) := by
  refine h.forAll _ allPlots fun s p => SteadyFns.foldl (.refl s) _ _ fun s e => ?_
  split
  · exact .ite (SteadyFns.foldl (.refl s) _ _ fun s i => wakeTile_steady ((SteadyFns.refl s).keep (dropFlight_keeps (.refl s) p e.1 i rfl)) _ waited) (.refl s)
  · exact .refl s

/-! ### Requests to the host (R337, R341 to R343) -/

theorem transmit_steady {s0 s : State} (h : SteadyFns s0 s) (r : HostReq) (addr : Nat) : SteadyFns s0 (transmit s r addr) := by
  unfold transmit
  refine .ite (.ite (h.keep (staleResult_keeps (.refl s) _ rfl)) (.ite (h.of_eq rfl rfl fun _ => rfl) h)) ?_
  split <;> exact h.of_eq rfl rfl fun _ => rfl

theorem issueReq_steady {s0 s : State} (h : SteadyFns s0 s) (r : HostReq) : SteadyFns s0 (issueReq s r) := by
  have hwaits : SteadyFns s0 (onHost s (fun h => { h with waiting := h.waiting ++ [r] })) := h.of_eq rfl rfl fun _ => rfl
  unfold issueReq
  refine .ite h <| .ite (h.of_eq rfl rfl fun _ => rfl) <| .ite hwaits <| .ite (transmit_steady h r _) ?_
  split
  · refine transmit_steady ?_ _ _
    exact h.of_eq rfl rfl fun _ => rfl
  · exact .ite hwaits (h.of_eq rfl rfl fun _ => rfl)

/-! ### Commands, rings, fetches and invalidations that end (R302, R321, R342, R343) -/

theorem endInvalidation_steady {s0 s : State} (h : SteadyFns s0 s) (v : Invalidation) : SteadyFns s0 (endInvalidation s v) :=
  .keep (h.of_eq (t := emit (onHost s fun _ => { s.host with
    invalidations := s.host.invalidations.filter (fun x => !(x == v))
    atc := s.host.atc.filter (fun e => !(e.fn == v.fn && decide (e.page < v.page + v.pages) && decide (v.page < e.page + e.pages))) })
    (.message v.fn "INVALIDATION_COMPLETION" v.tag)) rfl rfl fun _ => rfl) (count_keeps (.refl _) _ _ rfl)

theorem stgSignal_steady {s0 s : State} (h : SteadyFns s0 s) (n : Nat) (gen : Option Nat) : SteadyFns s0 (stgSignal s n gen) := by
  have hpending := h.keep (wrBit_keeps (.refl s) (.stgCpend (n / 32)) (n % 32) true rfl)
  exact .ite (hpending.keep (irqCores_keeps (.refl _) _ _ rfl)) <| .ite (signalFn_steady hpending _ 1) <| .ite (signalFn_steady hpending 0 1) hpending

/-- A HELLO that waits may be answered, and the heartbeat of its function with it; one that does not leaves everything alone. -/
theorem helloDone_steady {s0 s : State} (h : SteadyFns s0 s) (o : Nat) : SteadyFns s0 (helloDone s o) := by
  refine h.trans ?_
  unfold helloDone
  split
  · exact .refl s
  next seq ver feats hdue =>
    refine .ite (.refl s) (answer_steady ?_ _ _ _ _ _ _ _)
    have hne : ∀ f, (box s f).helloDue = none → o ≠ f := fun f hf e => by rw [← e, hdue] at hf; cases hf
    have htaken : SteadyFns s (onBox s o fun b => { b with helloDue := none }) := (SteadyFns.refl s).onBox o fun _ _ => rfl
    have harmed : ∀ u, SteadyFns s u → SteadyFns s (onFn u o fun x => { x with hello := true }) := fun u hu => by
      refine ⟨fun f => ?_, hu.due, fun f hf => ?_, hu.hstat⟩
      · rw [← hu.dstate f, fnState_onFn]
        split
        next e => rw [← e]
        next => rfl
      · rw [← hu.hello f hf, fnState_onFn, if_neg (hne f hf)]
    have hended : SteadyFns s (wrBit (onBox s o fun b => { b with helloDue := none }) (.hifHstat o) 31 false) :=
      ⟨fun _ => rfl, htaken.due, fun _ _ => rfl, fun f hf => rd_wr_ne _ _ fun e => hne f hf (Reg.hifHstat.inj e)⟩
    refine .ite htaken (harmed _ ?_)
    exact .ite hended htaken

theorem stgUnbindDone_steady {s0 s : State} (h : SteadyFns s0 s) (b : Nat) : SteadyFns s0 (stgUnbindDone s b) := by
  unfold stgUnbindDone
  split
  · split
    · exact .ite h (answer_steady (h.keep (onStg_keeps (.refl s) _ rfl)) _ _ _ _ _ _ _)
    · exact h
  · exact h

theorem stgEnd_steady {s0 s : State} (h : SteadyFns s0 s) (n code detail : Nat) : SteadyFns s0 (stgEnd s n code detail) := by
  unfold stgEnd
  split
  · exact h
  next c hcmd =>
    have hended := h.keep (wr_keeps (onStg_keeps (.refl s) (fun g => { g with cmds := mapErase g.cmds n, offDue := g.offDue.filter (· ≠ n) }) rfl) (.stgStatus n)
      (stgStatusWord code detail c.tag) rfl)
    refine helloDone_steady (.keep (stgUnbindDone_steady (.ite (.keep ?signalled (wrFld_keeps (.refl _) _ _ _ _ rfl)) ?signalled) _) (ckpStorageEnd_keeps (.refl _) n _ code rfl)) _
    all_goals exact .ite (stgSignal_steady hended n (some c.hgen)) hended

theorem dropSource_steady {s0 s : State} (h : SteadyFns s0 s) (q : HostSource) : SteadyFns s0 (dropSource s q) := h.of_eq rfl rfl fun _ => rfl

theorem stgSettled_steady {s0 s : State} (h : SteadyFns s0 s) (n : Nat) : SteadyFns s0 (stgSettled s n) := by
  unfold stgSettled
  split
  · exact h
  next c hcmd =>
    have hended := dropSource_steady (stgEnd_steady h n (c.ending.getD 1) 0) (.storage n)
    exact .ite (hended.keep (wrFld_keeps (stgClearTask_keeps (.refl _) n rfl) _ _ _ _ rfl)) hended

theorem stgAsk_steady {s0 s : State} (h : SteadyFns s0 s) (n code : Nat) : SteadyFns s0 (stgAsk s n code) := by
  unfold stgAsk
  split
  · exact h
  next c hcmd =>
    refine .ite h ?_
    have hasked := h.keep (wrFld_keeps (onStg_keeps (.refl s) (fun g => { g with cmds := mapInsert g.cmds n { c with ending := some code } }) rfl) (.stgStatus n) 31 29 sgAborting rfl)
    dsimp only
    split
    · exact stgSettled_steady (hasked.keep (onRma_keeps (.refl _) _ rfl)) n
    · exact .ite (stgSettled_steady (hasked.keep (dropOp_keeps (.refl _) _ rfl)) n) (hasked.keep (putOp_keeps (.refl _) _ rfl))

theorem ringFail_steady {s0 s : State} (h : SteadyFns s0 s) (p : Nat) : SteadyFns s0 (ringFail s p) :=
  ((dropSource_steady h (.ring p)).keep (wrBit_keeps (.refl _) (.rmaRctl p) 31 false rfl)).of_eq rfl rfl fun _ => rfl

end Sys2Proof.Machine
end

section
/-! SUPPORT. The host link, heartbeats and their loss, mailbox reset and HELLO, function-level reset and power states (R247, R248, R332, R345 to R351). -/
set_option Elab.async false
namespace Sys2Proof.Machine

/-! ### Nothing to release where no feed is on its way (R339) -/

theorem noFeeds_of_plots {s t : State} (h : t.plots = s.plots) (hs : NoFeeds s) : NoFeeds t := fun p hp e he d hd => by
  rw [xdecl_eq_of_plots h] at hd
  rw [plot, h] at he
  exact hs p hp e he d hd

theorem feedRelease_of_noFeeds {s : State} (h : NoFeeds s) (waited : Nat) : feedRelease waited s = s := by
  refine forAll_inv_of_mem (P := fun t => t = s) (fun t p hp ht => ?_) rfl
  subst ht
  refine List.foldlRecOn (motive := fun u => u = t) _ _ rfl fun u hu e he => ?_
  subst hu
  split
  next d hd =>
    split
    next hfeed =>
      rw [h p (List.mem_range.1 hp) e he d hd hfeed]
      rfl
    · rfl
  · rfl

/-! ### Entry into heartbeat loss (R348) -/

/-- The heartbeat status of a function that enters loss: LOST, and one more loss counted. -/
def lossWord (n : Nat) : Word := BitVec.ofNat 32 (2 ^ 31 + satNat (n + 1) 255)

theorem bit_lossWord (n : Nat) : bit (lossWord n) 31 = true := by
  have hk : satNat (n + 1) 255 ≤ 255 := by unfold satNat; split <;> omega
  rw [bit, lossWord, BitVec.toNat_ofNat, Nat.testBit_eq_decide_div_mod_eq, decide_eq_true_eq]
  omega

theorem fld_lossWord (n : Nat) : fld (lossWord n) 7 0 = min 255 (n + 1) := by
  have hk : satNat (n + 1) 255 = min 255 (n + 1) := by unfold satNat; split <;> omega
  rw [fld, lossWord, BitVec.toNat_ofNat, hk]
  omega

/-- The function is marked lost: its vectors and its HELLO are gone. -/
def lossShown (s : State) (f : Nat) : State :=
  onFn (wr s (.hifHstat f) (lossWord (rdFld s (.hifHstat f) 7 0))) f (fun x => { x with heldVectors := [], hello := false })

/-- The loss is recorded and management firmware told. -/
def lossTold (s : State) (f : Nat) : State := irqCores (recordEvent s 0x0A01 (fnPlot f) 2 islPcie f (rd s (.hifHstat f)) 0) mgmtCores 20

/-- The storage commands that move data of the function's memory are asked to end (R350). -/
def commandsAsked (s : State) (f : Nat) : State := (hostCommands s f).foldl (fun s c => stgAsk s c 9) s

/-- The rings that the function's memory holds fail. -/
def ringsFailed (s : State) (f : Nat) : State :=
  (allPlots.filter (fun p => ringOn s p && !bit (rd s (.rmaRctl p)) 30 && mapGet 0 s.rma.ringFn p == f)).foldl ringFail s

/-- The fetches of contexts that the function's memory holds fail. -/
def fetchesFailed (s : State) (f : Nat) : State :=
  (s.rma.fetching.filter (fun c => (ctxOf s c).hostStore && backingFn (ctxOf s c) == f)).foldl fetchFail s

/-- The function's invalidations end. -/
def invalidationsEnded (s : State) (f : Nat) : State := (s.host.invalidations.filter (fun v => v.fn == f)).foldl endInvalidation s

/-- The function's translations and requests are dropped. -/
def trafficDropped (s : State) (f : Nat) : State := onHost s (fun h => { h with
  atc := h.atc.filter (fun e => e.fn != f), granted := h.granted.filter (fun e => e.fn != f), translating := h.translating.filter (fun e => e.1 != f)
  waiting := h.waiting.filter (fun r => r.fn != f), held := h.held.filter (fun r => r.fn != f), reads := h.reads.filter (fun r => r.fn != f) })

/-- What the loss of a function ends, from its mark on. -/
def lossDropped (s : State) (f : Nat) : State := trafficDropped (invalidationsEnded (fetchesFailed (ringsFailed (commandsAsked (lossTold s f) f) f) f) f) f

theorem enterLoss_of_lost {s : State} {f : Nat} (h : fnLost s f = true) : enterLoss s f = s := if_pos h

theorem enterLoss_eq {s : State} {f : Nat} (h : fnLost s f = false) : enterLoss s f = feedRelease 0 (lossDropped (lossShown s f) f) :=
  if_neg (by rw [h]; exact Bool.false_ne_true)

theorem commandsAsked_steady {s0 s : State} (h : SteadyFns s0 s) (f : Nat) : SteadyFns s0 (commandsAsked s f) := h.foldl _ _ fun s c => stgAsk_steady (.refl s) c 9

theorem lossDropped_steady (s : State) (f : Nat) : SteadyFns s (lossDropped s f) := by
  have htold : SteadyFns s (lossTold s f) := (recordEvent_steady (.refl s) _ _ _ _ _ _ _).keep (irqCores_keeps (.refl _) _ _ rfl)
  have hrings : SteadyFns s (ringsFailed (commandsAsked (lossTold s f) f) f) := (commandsAsked_steady htold f).foldl _ _ fun s p => ringFail_steady (.refl s) p
  have hfetches : SteadyFns s (fetchesFailed (ringsFailed (commandsAsked (lossTold s f) f) f) f) :=
    hrings.foldl _ _ fun s c => (SteadyFns.refl s).keep (fetchFail_keeps (.refl s) c rfl)
  exact (hfetches.foldl _ _ fun s v => endInvalidation_steady (.refl s) v).of_eq rfl rfl fun _ => rfl

theorem feedRelease_lossDropped_steady (s : State) (f : Nat) : SteadyFns s (feedRelease 0 (lossDropped s f)) := feedRelease_steady (lossDropped_steady s f) 0

/-- The plots keep serving. -/
theorem plots_lossDropped (s : State) (f : Nat) : (lossDropped s f).plots = s.plots := by
  have htold : Keeps 0x1ffffffffffffffffffffffffffffffffffffffffffffffffffffffff7f s (lossTold s f) :=
    irqCores_keeps (recordEvent_keeps (.refl s) _ _ _ _ _ _ _ rfl) _ _ rfl
  have hasked := foldl_keeps htold (fun s c => stgAsk s c 9) (hostCommands (lossTold s f) f) fun _ c h => stgAsk_keeps h c 9 rfl
  have hrings : Keeps _ s (ringsFailed (commandsAsked (lossTold s f) f) f) := foldl_keeps hasked _ _ fun _ p h => ringFail_keeps h p rfl
  have hfetches : Keeps _ s (fetchesFailed (ringsFailed (commandsAsked (lossTold s f) f) f) f) := foldl_keeps hrings _ _ fun _ c h => fetchFail_keeps h c rfl
  have hended : Keeps _ s (invalidationsEnded (fetchesFailed (ringsFailed (commandsAsked (lossTold s f) f) f) f) f) := foldl_keeps hfetches _ _ fun _ v h => endInvalidation_keeps h v rfl
  exact hended.plots.eq rfl

/-! ### Functions in loss (R347, R348) -/

theorem fnLost_lossShown_self (s : State) (f : Nat) : fnLost (lossShown s f) f = true :=
  (congrArg (bit · 31) (rd_wr_self s _ _)).trans (bit_lossWord _)

theorem SteadyFns.fnLost_eq {s t : State} (h : SteadyFns s t) {f : Nat} (hf : (box s f).helloDue = none) : fnLost t f = fnLost s f := congrArg (bit · 31) (h.hstat f hf)

theorem fnLost_enterLoss_self {s : State} {f : Nat} (hdue : (box s f).helloDue = none) : fnLost (enterLoss s f) f = true := by
  cases hlost : fnLost s f with
  | true => rw [enterLoss_of_lost hlost, hlost]
  | false => rw [enterLoss_eq hlost, (feedRelease_lossDropped_steady (lossShown s f) f).fnLost_eq hdue, fnLost_lossShown_self]

/-- No HELLO comes to wait, and no other function that waits for none leaves its loss or enters it. -/
theorem helloDue_enterLoss {s : State} {k : Nat} (hdue : (box s k).helloDue = none) (f : Nat) : (box (enterLoss s f) k).helloDue = none := by
  cases hlost : fnLost s f with
  | true => rw [enterLoss_of_lost hlost, hdue]
  | false => rw [enterLoss_eq hlost]; exact (feedRelease_lossDropped_steady (lossShown s f) f).due k hdue

theorem fnLost_enterLoss_of_lost {s : State} {k : Nat} (hdue : (box s k).helloDue = none) (hk : fnLost s k = true) (f : Nat) : fnLost (enterLoss s f) k = true := by
  cases hlost : fnLost s f with
  | true => rw [enterLoss_of_lost hlost, hk]
  | false =>
    have hne : f ≠ k := fun e => Bool.false_ne_true (hlost.symm.trans (e ▸ hk))
    rw [enterLoss_eq hlost, (feedRelease_lossDropped_steady (lossShown s f) f).fnLost_eq hdue, ← hk]
    exact congrArg (bit · 31) (rd_wr_ne s _ fun e => hne (Reg.hifHstat.inj e))

theorem dstate_enterLoss (s : State) (f k : Nat) : (fnState (enterLoss s f) k).dstate = (fnState s k).dstate := by
  cases hlost : fnLost s f with
  | true => rw [enterLoss_of_lost hlost]
  | false =>
    have hshown : (fnState (lossShown s f) k).dstate = (fnState s k).dstate := by
      rw [lossShown, fnState_onFn]
      split
      next e => rw [← e]; rfl
      next => rfl
    rw [enterLoss_eq hlost, (feedRelease_lossDropped_steady _ f).dstate, hshown]

theorem fnLost_forAll_enterLoss_of_lost {s : State} {k : Nat} (hdue : (box s k).helloDue = none) (hk : fnLost s k = true) (l : List Nat) : fnLost (forAll enterLoss s l) k = true :=
  (forAll_inv (P := fun t => (box t k).helloDue = none ∧ fnLost t k = true) (fun _ f h => ⟨helloDue_enterLoss h.1 f, fnLost_enterLoss_of_lost h.1 h.2 f⟩) l s ⟨hdue, hk⟩).2

theorem fnLost_forAll_enterLoss {l : List Nat} {s : State} (hdue : ∀ f ∈ l, (box s f).helloDue = none) : ∀ f ∈ l, fnLost (forAll enterLoss s l) f = true := by
  induction l generalizing s with
  | nil => exact fun _ h => absurd h List.not_mem_nil
  | cons g rest ih =>
    intro f hf
    rcases List.mem_cons.1 hf with rfl | hrest
    · have hf := hdue f List.mem_cons_self
      exact fnLost_forAll_enterLoss_of_lost (helloDue_enterLoss hf f) (fnLost_enterLoss_self hf) rest
    · exact ih (fun k hk => helloDue_enterLoss (hdue k (List.mem_cons_of_mem _ hk)) g) f hrest

/-! ### Heartbeats (R347) -/

theorem exec_heartbeat_lost {f : Fin 13} {v : Word} {s : State} (h : fnLost s f = true) : exec (.heartbeat f v) s = .next s := congrArg Host.Outcome.next (if_pos h)

theorem gives_heartbeat {f : Fin 13} (v : Word) {s : State} (h : fnLost s f = false) : Gives s (.heartbeat f v) fun t =>
    rd t (.hifHb f) = v ∧ ((fnState s f).hello = true → bit (rd t (.hifHstat f)) 30 = true) := by
  refine ⟨_, congrArg Host.Outcome.next (if_neg (by rw [h]; exact Bool.false_ne_true)), ?_⟩
  cases hhello : (fnState s f).hello with
  | true => exact ⟨(rd_wr_ne _ _ (by nofun)).trans (rd_wr_self ..), fun _ => bit_wrBit_self _ _ true (by decide)⟩
  | false => exact ⟨rd_wr_self .., nofun⟩

theorem gives_heartbeatLoss {f : Fin 13} {s : State} (harmed : bit (rd s (.hifHstat f)) 30 = true) (hd0 : (fnState s f).dstate = 0) (hdue : (box s f).helloDue = none)
    (hfeeds : NoFeeds s) : Gives s (.heartbeatLoss f) fun t => fnLost t f = true ∧ (fnLost s f = false → rdFld t (.hifHstat f) 7 0 = min 255 (rdFld s (.hifHstat f) 7 0 + 1)
      ∧ ∀ r ∈ t.host.reads, r.fn ≠ f.val) := by
  refine ⟨enterLoss s f, congrArg Host.Outcome.next (if_pos (by rw [harmed, hd0]; rfl)), fnLost_enterLoss_self hdue, fun hlost => ?_⟩
  have hquiet : NoFeeds (lossDropped (lossShown s f) f) := noFeeds_of_plots (s := s) (plots_lossDropped _ f) hfeeds
  rw [enterLoss_eq hlost, feedRelease_of_noFeeds hquiet]
  refine ⟨?_, fun r hr => by simpa using (List.mem_filter.1 hr).2⟩
  rw [rdFld, (lossDropped_steady (lossShown s f) f).hstat f hdue]
  exact (congrArg (fld · 7 0) (rd_wr_self s _ _)).trans (fld_lossWord _)

/-! ### The link (R332) -/

/-- HIF_LINK of a link that is up. -/
def linkWord (rate : Fin 7) (width : Fin 17) (flit : Bool) : Word := BitVec.ofNat 32 (2 ^ 31 + boolNat flit * 2 ^ 30 + rate.val * 2 ^ 27 + width.val * 2 ^ 22)

theorem linkWord_shows (rate : Fin 7) (width : Fin 17) (flit : Bool) : bit (linkWord rate width flit) 31 = true ∧ fld (linkWord rate width flit) 29 27 = rate
    ∧ fld (linkWord rate width flit) 26 22 = width ∧ bit (linkWord rate width flit) 30 = flit := by
  have hrate := rate.isLt
  have hwidth := width.isLt
  simp only [bit, fld, linkWord, boolNat, BitVec.toNat_ofNat, Nat.testBit_eq_decide_div_mod_eq]
  cases flit <;> simp <;> omega

theorem gives_linkUp {rate : Fin 7} {width : Fin 17} {flit : Bool} {s : State} (hperst : s.host.perst = false) (hreset : bit (rd s (.rstInrst 0)) 5 = false)
    (hlegal : linkLegal s rate width flit = true) : Gives s (.linkUp rate width flit) fun t =>
      linkUp t = true ∧ rdFld t .hifLink 29 27 = rate ∧ rdFld t .hifLink 26 22 = width ∧ bit (rd t .hifLink) 30 = flit := by
  refine ⟨wr s .hifLink (linkWord rate width flit), congrArg Host.Outcome.next (if_neg (by simp [hperst, hreset, hlegal])), ?_⟩
  beta_reduce
  rw [linkUp, rdFld, rdFld, rd_wr_self]
  exact linkWord_shows rate width flit

theorem gives_linkDown {s : State} (hdue : ∀ f < 13, (box s f).helloDue = none) : Gives s .linkDown fun t => linkUp t = false ∧ ∀ f ∈ functions s, fnLost t f = true := by
  have hwaits : ∀ f ∈ functions s, (box (wr s .hifLink 0) f).helloDue = none := fun f hf => hdue f (List.mem_range.1 (List.mem_of_mem_filter hf))
  refine ⟨linkDown s, rfl, ?_, fnLost_forAll_enterLoss hwaits⟩
  have hlost : Keeps 0x1ffffffffffffff7fffffffffffffffffffffffffffffffffffffffffff (wr s .hifLink 0) (linkDown s) := forAll_keeps (.refl _) _ _ fun _ f h => enterLoss_keeps h f rfl
  rw [linkUp, hlost.rd_eq rfl, rd_wr_self]
  rfl

/-! ### Mailbox reset (R247) -/

theorem box_emptyBox (s : State) (o : Nat) : box (emptyBox s o) o = { box s o with requests := [], posted := [], held := [], noHello := true, helloDue := none } := by
  rw [emptyBox, box_wr, box_wr, box_wr, box_wr, box_onBox_self]

theorem rd_emptyBox (s : State) (o : Nat) : rd (emptyBox s o) (.mbxTfpi o) = 0 ∧ rd (emptyBox s o) (.mbxTfci o) = 0 ∧ rd (emptyBox s o) (.mbxFfpi o) = 0
    ∧ rd (emptyBox s o) (.mbxFfci o) = 0 := by
  unfold emptyBox
  refine ⟨?_, ?_, ?_, rd_wr_self ..⟩
  · rw [rd_wr_ne _ _ (by nofun), rd_wr_ne _ _ (by nofun), rd_wr_ne _ _ (by nofun), rd_wr_self]
  · rw [rd_wr_ne _ _ (by nofun), rd_wr_ne _ _ (by nofun), rd_wr_self]
  · rw [rd_wr_ne _ _ (by nofun), rd_wr_self]

theorem gives_mbxReset {o : Fin 14} {s : State} (ho : o.val ≠ mgmtPort) : Gives s (.mbxReset o) fun t => (box t o).requests = [] ∧ (box t o).posted = [] ∧ (box t o).held = []
    ∧ (box t o).noHello = true ∧ rd t (.mbxTfpi o) = 0 ∧ rd t (.mbxTfci o) = 0 ∧ rd t (.mbxFfpi o) = 0 ∧ rd t (.mbxFfci o) = 0 := by
  refine ⟨_, congrArg Host.Outcome.next (if_neg ho), ?_⟩
  beta_reduce
  rw [box_emptyBox]
  exact ⟨rfl, rfl, rfl, rfl, rd_emptyBox _ _⟩

/-! ### HELLO (R247, R350) -/

/-- A HELLO's agreement: the next host generation, and of the mailbox the requests it sent, with its own answer due. -/
def helloAgreed (s : State) (o : Nat) (seq : Word) (ver : Nat) (feats : List Byte) : State :=
  onBox (wr s (.fwmHgen o) (rd s (.fwmHgen o) + 1)) o (fun b => { b with
    requests := b.requests.filter (fun r => r.seq == seq), held := [], noHello := false, version := ver, features := feats, helloDue := some (seq, ver, feats) })

/-- The wait of a HELLO is over: while the link is up its function is in loss no more. -/
def helloEnded (s : State) (o : Nat) : State :=
  let s1 := onBox s o (fun b => { b with helloDue := none })
  if o = mgmtPort then s1 else onFn (if linkUp s1 then wrBit s1 (.hifHstat o) 31 false else s1) o (fun x => { x with hello := true })

/-- With no command in progress a HELLO that is due is answered. -/
theorem helloDone_eq {s : State} {o : Nat} {seq : Word} {ver : Nat} {feats : List Byte} (hdue : (box s o).helloDue = some (seq, ver, feats)) (hcmds : s.stg.cmds = []) :
    helloDone s o = answer (helloEnded s o) o seq ver 0x01 stOk 0 (feats ++ leBytes 1 ver ++ leBytes 3 0 ++ leBytes 4 (rd s (.fwmHgen o)).toNat) := by
  unfold helloDone
  rw [hdue]
  exact if_neg (by rw [hcmds]; exact Bool.false_ne_true)

theorem exec_hello {m : Msg} {features : BitVec 256} {vmax vmin : Byte} {s : State} (hup : s.fw.up = true) (hroom : beyondLimit s m = false)
    (hown : m.owner.val = 0 ∨ m.owner.val = mgmtPort ∨ ∃ p, m.plot = some p ∧ p.val + 1 = m.owner.val) (hlength : m.length = 40) (hversion : m.version = 1)
    (hmin : vmin.toNat ≤ min vmax.toNat 3) (hmax : 1 ≤ vmax.toNat) :
    let u := helloAgreed (takeRequest s m 0x01) m.owner m.seq (min vmax.toNat 3) (leBytes 32 (Nat.land features.toNat (offered s m.owner)))
    exec (.hello m features vmax vmin) s = .next (helloDone (if m.owner.val = mgmtPort then u else commandsAsked u m.owner) m.owner) := by
  change Host.Outcome.next (if beyondLimit s m = true then s else if (!s.fw.up) = true then _ else if (!(_ || _ || _)) = true then _ else if m.length ≠ 40 then _ else
    if m.version ≠ 1 ∨ min vmax.toNat 3 < vmin.toNat ∨ min vmax.toNat 3 < 1 then _ else _) = _
  rw [if_neg (by rw [hroom]; exact Bool.false_ne_true), if_neg (by rw [hup]; exact Bool.false_ne_true), if_neg ?own, if_neg (not_not_intro hlength), if_neg (by omega)]
  · rfl
  · rcases hown with h | h | ⟨p, hp, h⟩
    · simp [h]
    · simp [h]
    · simp [hp, h]

/-- What a HELLO agrees, of a state in which its request has been taken and no command is in progress. -/
theorem helloDone_helloAgreed {u : State} {o : Nat} {seq : Word} {ver : Nat} {feats : List Byte} (hcmds : u.stg.cmds = []) :
    ∃ payload, helloDone (if o = mgmtPort then helloAgreed u o seq ver feats else commandsAsked (helloAgreed u o seq ver feats) o) o
      = answer (helloEnded (helloAgreed u o seq ver feats) o) o seq ver 0x01 stOk 0 payload := by
  have hnone : hostCommands (helloAgreed u o seq ver feats) o = [] := by
    unfold hostCommands
    rw [show (helloAgreed u o seq ver feats).stg.cmds = [] from hcmds]
    rfl
  have hasked : commandsAsked (helloAgreed u o seq ver feats) o = helloAgreed u o seq ver feats := by rw [commandsAsked, hnone]; rfl
  rw [hasked, ite_self]
  exact ⟨_, helloDone_eq (by rw [helloAgreed, box_onBox_self]) hcmds⟩

theorem box_helloEnded (s : State) (o : Nat) : box (helloEnded s o) o = { box s o with helloDue := none } := by
  unfold helloEnded
  dsimp only
  split
  · exact box_onBox_self ..
  · split <;> exact box_onBox_self s o fun b => { b with helloDue := none }

theorem rd_fwmHgen_helloEnded (s : State) (o k : Nat) : rd (helloEnded s o) (.fwmHgen k) = rd s (.fwmHgen k) := by
  unfold helloEnded
  dsimp only
  split
  · rfl
  · split
    · exact rd_wr_ne _ _ (by nofun)
    · rfl

/-- The answer to a HELLO leaves its function armed for heartbeats, and out of loss while the link is up. -/
theorem hello_helloEnded (s : State) {o : Nat} (ho : o ≠ mgmtPort) : (fnState (helloEnded s o) o).hello = true ∧ (linkUp s = true → fnLost (helloEnded s o) o = false) := by
  unfold helloEnded
  rw [if_neg ho]
  refine ⟨by rw [fnState_onFn_self], fun hlink => ?_⟩
  rw [if_pos (show linkUp (onBox s o fun b => { b with helloDue := none }) = true from hlink)]
  exact bit_wrBit_false ..

theorem gives_hello {m : Msg} (features : BitVec 256) {vmax vmin : Byte} {s : State} (hup : s.fw.up = true) (hroom : beyondLimit s m = false)
    (hown : m.owner.val = 0 ∨ m.owner.val = mgmtPort ∨ ∃ p, m.plot = some p ∧ p.val + 1 = m.owner.val) (hlength : m.length = 40) (hversion : m.version = 1)
    (hmin : vmin.toNat ≤ min vmax.toNat 3) (hmax : 1 ≤ vmax.toNat) (hcmds : s.stg.cmds = []) :
    Gives s (.hello m features vmax vmin) fun t => Answered t m 0x01 stOk ∧ (box t m.owner).version = min vmax.toNat 3 ∧ (box t m.owner).noHello = false
      ∧ rd t (.fwmHgen m.owner) = rd s (.fwmHgen m.owner) + 1
      ∧ (m.owner.val ≠ mgmtPort → (fnState t m.owner).hello = true ∧ (linkUp s = true → fnLost t m.owner = false)) := by
  have htakenStg : (takeRequest s m 0x01).stg.cmds = [] := by rw [(takeRequest_keeps (.refl s) m 0x01 (.self _)).stg.eq rfl, hcmds]
  obtain ⟨payload, hdone⟩ := helloDone_helloAgreed (u := takeRequest s m 0x01) (o := m.owner) (seq := m.seq) (ver := min vmax.toNat 3)
    (feats := leBytes 32 (Nat.land features.toNat (offered s m.owner))) htakenStg
  refine ⟨_, (exec_hello hup hroom hown hlength hversion hmin hmax).trans (congrArg _ hdone), ?_⟩
  have htaken := taken_takeRequest s m 0x01
  generalize takeRequest s m 0x01 = u at htaken
  generalize leBytes 32 _ = feats
  have hbox := box_helloEnded (helloAgreed u m.owner m.seq (min vmax.toNat 3) feats) m.owner
  rw [helloAgreed, box_onBox_self, ← helloAgreed] at hbox
  have hgen := (rd_fwmHgen_helloEnded (helloAgreed u m.owner m.seq (min vmax.toNat 3) feats) m.owner m.owner).trans (rd_wr_self u _ _)
  have hlink : linkUp (helloAgreed u m.owner m.seq (min vmax.toNat 3) feats) = linkUp s :=
    congrArg (bit · 31) ((rd_wr_ne u _ (by nofun)).trans (htaken.regs .hifLink rfl))
  have hhello := hello_helloEnded (helloAgreed u m.owner m.seq (min vmax.toNat 3) feats) (o := m.owner)
  generalize helloEnded _ _ = w at hbox hgen hhello
  have hdue : (box w m.owner).helloDue = none := by rw [hbox]
  have hsteady := answer_steady (.refl w) m.owner m.seq (min vmax.toNat 3) 0x01 stOk 0 payload
  obtain ⟨requests, ff, posted, held, hanswer⟩ := box_answer w m.owner m.seq (min vmax.toNat 3) 0x01 stOk 0 payload
  refine ⟨answered_respond w { m with version := min vmax.toNat 3 } 0x01 stOk 0 payload ?_, by rw [hanswer, hbox], by rw [hanswer, hbox], ?_, fun ho => ⟨?_, fun hup => ?_⟩⟩
  · rw [hbox]
    obtain ⟨r, hr, hseq⟩ := List.any_eq_true.1 htaken.owed
    exact List.any_eq_true.2 ⟨r, List.mem_filter.2 ⟨hr, hseq⟩, hseq⟩
  · rw [(answer_keeps (.refl w) m.owner m.seq (min vmax.toNat 3) 0x01 stOk 0 payload (.self _)).rd_eq rfl, hgen, htaken.regs _ rfl]
  · rw [hsteady.hello _ hdue]
    exact (hhello ho).1
  · rw [hsteady.fnLost_eq hdue]
    exact (hhello ho).2 (hlink.trans hup)

/-! ### Function-level reset (R351) -/

theorem fnLost_resetFn (s : State) (f : Nat) : fnLost (resetFn s f) f = true := bit_wrBit_self _ _ true (by decide)

theorem box_onFn (s : State) (f : Nat) (g : FnState → FnState) (o : Nat) : box (onFn s f g) o = box s o := rfl
theorem box_resetRegs (s : State) (p : Reg → Bool) (o : Nat) : box (resetRegs s p) o = box s o := rfl

theorem box_resetFn (s : State) (f : Nat) :
    box (resetFn s f) f = { box (enterLoss s f) f with requests := [], posted := [], held := [], noHello := true, helloDue := none } := by
  rw [resetFn, wrBit, box_wr, box_resetRegs, box_onFn, box_emptyBox]

theorem fnState_resetFn (s : State) (f : Nat) : (fnState (resetFn s f) f).dstate = 0 ∧ (fnState (resetFn s f) f).msixEnable = false := by
  have hreset : fnState (resetFn s f) f = _ := fnState_onFn_self (emptyBox (enterLoss s f) f) f fun x => { aer := x.aer, pmeEn := x.pmeEn, pmeStatus := x.pmeStatus }
  rw [hreset]
  exact ⟨rfl, rfl⟩

/-- A reset of the PF takes every VF into loss, and VF Enable with it. -/
theorem gives_flr (f : Fin 13) (s : State) : Gives s (.flr f) fun t => fnLost t f = true ∧ (f.val = 0 → t.host.vfEnable = false)
    ∧ (f.val ≠ 0 → (fnState t f).dstate = 0 ∧ (fnState t f).msixEnable = false ∧ (box t f).requests = [] ∧ (box t f).noHello = true) := by
  by_cases hf : f.val = 0
  · have hlost := fnLost_forAll_enterLoss_of_lost (by rw [box_resetFn]) (fnLost_resetFn s f) ((functions (resetFn s f)).filter (· ≠ 0))
    refine ⟨onHost (forAll enterLoss (resetFn s f) ((functions (resetFn s f)).filter (· ≠ 0))) fun h => { h with vfEnable := false, romEnable := false },
      congrArg Host.Outcome.next (if_pos hf), ?_⟩
    generalize forAll enterLoss _ _ = t at hlost
    exact ⟨hlost, fun _ => rfl, fun h => absurd hf h⟩
  · refine ⟨resetFn s f, congrArg Host.Outcome.next (if_neg hf), fnLost_resetFn s f, fun h => absurd h hf, fun _ => ?_⟩
    obtain ⟨hdstate, hmsix⟩ := fnState_resetFn s f
    exact ⟨hdstate, hmsix, by rw [box_resetFn], by rw [box_resetFn]⟩

/-! ### Power states (R345, R346) -/

theorem exec_dStateChange_refused {f : Fin 13} {d : Fin 5} {s : State} (h : f.val ≠ 0 ∧ d.val ≠ 0 ∧ d.val ≠ 3 ∨ (fnState s f).dstate = 4) :
    exec (.dStateChange f d) s = .next s := congrArg Host.Outcome.next (if_pos h)

/-- What held traffic and interrupts set going, and a link that goes down, leave the power state as the command has set it. -/
theorem gives_dStateChange {f : Fin 13} {d : Fin 5} {s : State} (hd : f.val = 0 ∨ d.val = 0 ∨ d.val = 3) (hold : (fnState s f).dstate ≠ 4) :
    Gives s (.dStateChange f d) fun t => (fnState t f).dstate = d := by
  refine ⟨_, congrArg Host.Outcome.next (if_neg (by omega)), ?_⟩
  have hset : (fnState (onFn s f fun x => { x with dstate := d }) f).dstate = d := by rw [fnState_onFn_self]
  have hsteady : ∀ {t}, SteadyFns (onFn s f fun x => { x with dstate := d }) t → (fnState t f).dstate = d := fun h => (h.dstate f).trans hset
  dsimp only
  split
  · split
    · exact hset
    · refine hsteady (feedRelease_steady (.foldl (.foldl ?_ _ _ fun s r => issueReq_steady (.refl s) r) _ _ fun s v => sendMsix_steady (.refl s) f v) 0)
      refine .onFn ?_ f (fun _ => rfl) fun _ => rfl
      exact (SteadyFns.refl _).of_eq rfl rfl fun _ => rfl
  · have hoff : (fnState (if (fnState s f).dstate = 0 then forAll stgOff (onFn s f fun x => { x with dstate := d }) (fnChannels (onFn s f fun x => { x with dstate := d }) f)
        else onFn s f fun x => { x with dstate := d }) f).dstate = d :=
      hsteady (.ite (.forAll (.refl _) _ _ fun s n => (SteadyFns.refl s).keep (stgOff_keeps (.refl s) n rfl)) (.refl _))
    split
    · exact forAll_inv (P := fun t => (fnState t f).dstate = d) (fun t g ht => (dstate_enterLoss t g f).trans ht) _ _ hoff
    · exact hoff

/-- Settles O29: the clauses of heartbeats, loss, link, mailbox reset, HELLO, function-level reset and power states, each by its own lemma. -/
theorem linkHeartbeatsAndHello : Obligations.LinkHeartbeatsAndHello := by
  unfold Obligations.LinkHeartbeatsAndHello
  exact ⟨fun f v s => ⟨exec_heartbeat_lost, gives_heartbeat v⟩, fun f s => gives_heartbeatLoss, fun rate width flit s => gives_linkUp, fun s => gives_linkDown,
    fun o s => gives_mbxReset, fun m features vmax vmin s => gives_hello features, gives_flr, fun f d s => ⟨gives_dStateChange, exec_dStateChange_refused⟩⟩

end Sys2Proof.Machine
end

section
/-! SUPPORT. Lanes and sub-ports (R260, R261, R285): what a change of a sub-port's lanes leaves alone, which lanes a retrained sub-port runs on, and O44, which fails for a
sub-port that its port's SPLIT does not have. -/
set_option Elab.async false
namespace Sys2Proof.Machine

/-! ### A change of lanes -/

theorem bit_wrBit_ne (s : State) (r q : Reg) {i j : Nat} (b : Bool) (hi : i < 32) (h : i ≠ j) : bit (rd (wrBit s r i b) q) j = bit (rd s q) j := by
  rw [rd_wrBit]
  split
  · next hq => rw [← hq, bit_setBit _ _ _ _ hi, if_neg h]
  · rfl

/-- The state of a sub-port stands above the lanes' bits in NET_PSTAT (Table NET-12). -/
theorem bit_laneChange (s : State) (port : Nat) {sub j : Nat} (hsub : sub < 4) (hj : j < 16) :
    bit (rd (laneChange s port sub) (.netPstat port)) j = bit (rd s (.netPstat port)) j := by
  have hflushed : ∀ (u : State) (l : List Nat), bit (rd (forAll flushQueue u l) (.netPstat port)) j = bit (rd u (.netPstat port)) j := fun u l =>
    congrArg (bit · j) ((forAll_keeps (.refl u) _ l fun _ k h => flushQueue_keeps h k (.self _)).rd_eq rfl)
  have hbits : ∀ (u : State) (b : Bool), bit (rd (wrBit (wrBit u (.netPstat port) (28 + sub) false) (.netPstat port) (24 + sub) b) (.netPstat port)) j
      = bit (rd u (.netPstat port)) j := fun u b => by rw [bit_wrBit_ne _ _ _ _ (by omega) (by omega), bit_wrBit_ne _ _ _ _ (by omega) (by omega)]
  rw [laneChange]
  dsimp only
  split
  · rw [hflushed, bit_wrFld_of_disjoint _ _ _ (by omega) (by omega) (by omega), hbits]
    rfl
  · split
    · rfl
    · exact hbits _ true

theorem pcfg_laneChange (s : State) (port sub p : Nat) : rd (laneChange s port sub) (.netPcfg p) = rd s (.netPcfg p) :=
  (laneChange_keeps (.refl s) port sub (.self _)).rd_eq rfl

/-- A change of lanes ends no lane's check. -/
theorem checking_laneChange (s : State) (port sub : Nat) : (laneChange s port sub).net.checking = s.net.checking := by
  rw [laneChange]
  dsimp only
  split
  · exact forAll_inv (P := fun t => t.net.checking = s.net.checking) (f := flushQueue) (fun t k h => h) _ _ rfl
  · split <;> rfl

theorem laneSub_lt (s : State) (port : Nat) {lane : Nat} (h : lane < 4) : laneSub s port lane < 4 := Nat.lt_of_le_of_lt (Nat.div_le_self _ _) h

/-! ### Lanes that fail and come back (R260) -/

/-- A lane is out: disabled, and shown as failed. -/
def laneOut (s : State) (port lane : Nat) : State := wrBit (wrBit s (.netPcfg port) (8 + lane) true) (.netPstat port) (12 + lane) true

theorem laneOut_shows (s : State) (port : Nat) {lane : Nat} (h : lane < 4) :
    bit (rd (laneOut s port lane) (.netPcfg port)) (8 + lane) = true ∧ bit (rd (laneOut s port lane) (.netPstat port)) (12 + lane) = true := by
  refine ⟨?_, bit_wrBit_self _ _ true (by omega)⟩
  rw [laneOut, rd_wrBit, if_neg nofun, bit_wrBit_self _ _ true (by omega)]

/-- The failure of a lane is recorded, and the network cores are told. -/
def laneFailTold (s : State) (port lane : Nat) : State :=
  irqCores (recordEvent s 0x0701 moduleEvent 2 (islPort port) port (rd s (.netPstat port)) lane) netCores 18

theorem laneFailTold_keeps (s : State) (port lane : Nat) :
    Keeps 0x1000000000000000000000000000000000000000000000000000000900 s (laneFailTold s port lane) :=
  irqCores_keeps (recordEvent_keeps (.refl s) _ _ _ _ _ _ _ rfl) _ _ rfl

theorem gives_laneFail {port : Fin 16} {lane : Fin 4} {s : State} (h : bit (rd s (.netPcfg port)) (8 + lane) = false) : Gives s (.laneFail port lane) fun t =>
    bit (rd t (.netPcfg port)) (8 + lane) = true ∧ bit (rd t (.netPstat port)) (12 + lane) = true := by
  have hlane : lane.val < 4 := lane.isLt
  refine ⟨laneFailTold (laneChange (laneOut s port lane) port (laneSub s port lane)) port lane, congrArg Host.Outcome.next (if_neg (by rw [h]; nofun)), ?_⟩
  have htold := laneFailTold_keeps (laneChange (laneOut s port lane) port (laneSub s port lane)) port lane
  dsimp only
  rw [htold.rd_eq rfl, htold.rd_eq rfl, pcfg_laneChange, bit_laneChange _ _ (laneSub_lt s port hlane) (by omega)]
  exact laneOut_shows s port hlane

theorem gives_laneReenable {m : Master} {port : Fin 16} {lane : Fin 4} {s : State} (hm : mayWriteNet m = true) (h : bit (rd s (.netPcfg port)) (8 + lane) = true) :
    Gives s (.laneReenable m port lane) fun t => bit (rd t (.netPcfg port)) (8 + lane) = false ∧ 4 * port.val + lane.val ∈ t.net.checking :=
  ⟨_, congrArg Host.Outcome.next (if_pos (by rw [hm, h]; rfl)), bit_wrBit_false s _ _, List.mem_cons_self⟩

/-- The check of a lane is over. -/
def laneChecked (s : State) (port lane : Nat) : State := { s with net := { s.net with checking := s.net.checking.filter (· ≠ 4 * port + lane) } }

section
variable {port : Fin 16} {lane : Fin 4} {s : State} (h : s.net.checking.contains (4 * port.val + lane.val) = true)
include h

theorem gives_laneCheckDone_pass : Gives s (.laneCheckDone port lane true) fun t =>
    bit (rd t (.netPstat port)) (12 + lane) = false ∧ 4 * port.val + lane.val ∉ t.net.checking := by
  have hlane : lane.val < 4 := lane.isLt
  refine ⟨laneChange (wrBit (laneChecked s port lane) (.netPstat port) (12 + lane) false) port (laneSub s port lane),
    congrArg Host.Outcome.next (if_neg (by rw [h]; nofun)), ?_, ?_⟩
  · rw [bit_laneChange _ _ (laneSub_lt s port hlane) (by omega), bit_wrBit_false]
  · rw [checking_laneChange]
    exact fun hmem => (of_decide_eq_true (List.mem_filter.1 hmem).2) rfl

theorem gives_laneCheckDone_fail : Gives s (.laneCheckDone port lane false) fun t =>
    bit (rd t (.netPstat port)) (12 + lane) = true ∧ bit (rd t (.netPcfg port)) (8 + lane) = true :=
  ⟨laneOut (laneChecked s port lane) port lane, congrArg Host.Outcome.next (if_neg (by rw [h]; nofun)), (laneOut_shows _ port lane.isLt).symm⟩

end

/-! ### Sub-ports that retrain (R261) -/

/-- The sub-port is up, its lanes as they are. -/
def subportUp (s : State) (port sub : Nat) : State := wrBit (wrBit s (.netPstat port) (24 + sub) false) (.netPstat port) (28 + sub) true

/-- The sub-port is up at the width of the lanes that it now runs on. -/
def subportRetrained (s : State) (port sub : Nat) : State :=
  wrFld (subportUp s port sub) (.netPstat port) (2 * sub + 17) (2 * sub + 16) (widthCode (runLanes (subportUp s port sub) port sub).length)

/-- Frames of firmware that waited for the sub-port enter their queues, and no register changes. -/
theorem exec_subportRetrainDone {port : Fin 16} {sub : Fin 4} {s : State} (h : subRetrain s port sub = true) :
    ∃ t, exec (.subportRetrainDone port sub) s = .next t ∧ Keeps 0x80000 (subportRetrained s port sub) t :=
  ⟨_, congrArg Host.Outcome.next (if_neg (by rw [h]; nofun)), forAll_keeps (.refl _) _ _ fun _ k hk => drainHeld_keeps hk k _ rfl⟩

theorem widthCode_lt (n : Nat) : widthCode n < 4 := by
  rw [widthCode]
  split
  · decide
  · split
    · decide
    · split <;> decide

theorem subportRetrained_shows (s : State) (port : Nat) {sub : Nat} (h : sub < 4) : subUp (subportRetrained s port sub) port sub = true
    ∧ subRetrain (subportRetrained s port sub) port sub = false
    ∧ subWidth (subportRetrained s port sub) port sub = widthCode (runLanes (subportUp s port sub) port sub).length := by
  refine ⟨?_, ?_, ?_⟩
  · rw [subUp, subportRetrained, bit_wrFld_of_disjoint _ _ _ (by omega) (by omega) (by omega), subportUp, bit_wrBit_self _ _ true (by omega)]
  · rw [subRetrain, subportRetrained, bit_wrFld_of_disjoint _ _ _ (by omega) (by omega) (by omega), subportUp, bit_wrBit_ne _ _ _ _ (by omega) (by omega),
      bit_wrBit_false]
  · rw [subWidth, subportRetrained, rdFld_wrFld_self _ _ _ (by omega) (by omega), show 2 * sub + 17 + 1 - (2 * sub + 16) = 2 by omega]
    exact Nat.mod_eq_of_lt (widthCode_lt _)

/-- The width is that of the lanes on which the sub-port runs once it is up. -/
theorem gives_subportRetrainDone {port : Fin 16} {sub : Fin 4} {s : State} (h : subRetrain s port sub = true) : Gives s (.subportRetrainDone port sub) fun t =>
    subUp t port sub = true ∧ subRetrain t port sub = false ∧ subWidth t port sub = widthCode (runLanes (subportUp s port sub) port sub).length := by
  obtain ⟨t, hexec, hkeeps⟩ := exec_subportRetrainDone h
  refine ⟨t, hexec, ?_⟩
  dsimp only
  rw [subUp, subRetrain, subWidth, rdFld, hkeeps.rd_eq rfl]
  exact subportRetrained_shows s port sub.isLt

/-- A sub-port that the port's SPLIT has uses lanes of the port (Table NET-1). -/
theorem lt_of_mem_subLanes {s : State} {port sub l : Nat} (hsub : sub < subCount (split s port)) (hl : l ∈ subLanes s port sub) : l < 4 := by
  obtain ⟨i, hi, rfl⟩ := List.mem_map.1 hl
  have hin : i < 4 / subCount (split s port) := List.mem_range.1 hi
  calc i + 4 / subCount (split s port) * sub
    _ < 4 / subCount (split s port) * (sub + 1) := by rw [Nat.mul_succ]; omega
    _ ≤ 4 / subCount (split s port) * subCount (split s port) := Nat.mul_le_mul_left _ hsub
    _ ≤ 4 := Nat.div_mul_le_self _ _

theorem pcfg_subportUp (s : State) (port sub p : Nat) : rd (subportUp s port sub) (.netPcfg p) = rd s (.netPcfg p) :=
  (rd_wr_ne _ _ (by nofun)).trans (rd_wr_ne s _ (by nofun))

theorem laneGood_subportUp (s : State) (port : Nat) {sub l : Nat} (hsub : sub < 4) (hl : l < 4) : laneGood (subportUp s port sub) port l = laneGood s port l := by
  have hpstat : ∀ j < 16, bit (rd (subportUp s port sub) (.netPstat port)) j = bit (rd s (.netPstat port)) j := fun j hj => by
    rw [subportUp, bit_wrBit_ne _ _ _ _ (by omega) (by omega), bit_wrBit_ne _ _ _ _ (by omega) (by omega)]
  rw [laneGood, pcfg_subportUp, hpstat _ (by omega), hpstat _ (by omega), laneGood]
  rfl

/-- Such a sub-port comes up on the lanes that were good as it retrained. -/
theorem runLanes_subportUp {s : State} {port sub : Nat} (hsub : sub < subCount (split s port)) : runLanes (subportUp s port sub) port sub = runLanes s port sub := by
  have hlanes : subLanes (subportUp s port sub) port sub = subLanes s port sub := by
    rw [subLanes, split, rdFld, pcfg_subportUp]
    rfl
  have hgood : (subLanes s port sub).filter (laneGood (subportUp s port sub) port) = (subLanes s port sub).filter (laneGood s port) :=
    List.filter_congr fun l hl => laneGood_subportUp s port (Nat.lt_of_lt_of_le hsub (subCount_le _)) (lt_of_mem_subLanes hsub hl)
  rw [runLanes, runLanes, hlanes, hgood]

/-- The clause of O44 on retraining, for a sub-port that the port has. -/
theorem gives_subportRetrainDone_of_split {port : Fin 16} {sub : Fin 4} {s : State} (hsub : sub.val < subCount (split s port)) (h : subRetrain s port sub = true) :
    Gives s (.subportRetrainDone port sub) fun t =>
      subUp t port sub = true ∧ subRetrain t port sub = false ∧ subWidth t port sub = widthCode (runLanes s port sub).length := by
  rw [← runLanes_subportUp hsub]
  exact gives_subportRetrainDone h

/-! ### Frames at the MAC (R259, R286) -/

/-- NET_CNTp_i. -/
def macCount (s : State) (port i : Nat) : DWord := mapGet 0 s.net.counts (11 * port + i)

theorem macCount_netCount_self (s : State) (port i : Nat) : macCount (netCount s port i) port i = macCount s port i + 1 := by
  rw [macCount, netCount, mapGet_mapInsert, if_pos rfl, macCount]

theorem macCount_netCount_ne (s : State) (port : Nat) {i j : Nat} (h : i ≠ j) : macCount (netCount s port i) port j = macCount s port j := by
  rw [macCount, netCount, mapGet_mapInsert, if_neg (by omega), macCount]

/-! ### The ingress path beyond the MAC counts nothing at the MAC -/

theorem counts_irqCores (s : State) (cs : List Nat) (v : Nat) : (irqCores s cs v).net.counts = s.net.counts :=
  forAll_inv (P := fun t => t.net.counts = s.net.counts) (f := fun s c => coreIrq s c v) (fun _ _ h => h) cs s rfl

theorem counts_punt (s : State) (reason port sub : Nat) (key : BitVec 512) (f : List Byte) (ns : Nat) : (punt s reason port sub key f ns).net.counts = s.net.counts := by
  unfold punt
  extract_lets
  split
  · rfl
  · split <;> rfl

theorem counts_enqueueForward (s : State) (k : Nat) (bytes : List Byte) (ns : Nat) : (enqueueForward s k bytes ns).net.counts = s.net.counts := by
  rw [enqueueForward]
  dsimp only
  split <;> rfl

theorem counts_deliver (s : State) (kind plt port queue ring inPort inSub : Nat) (key : BitVec 512) (f : List Byte) (ns : Nat) :
    (deliver s kind plt port queue ring inPort inSub key f ns).net.counts = s.net.counts := by
  rw [deliver]
  dsimp only
  split
  next => split <;> rfl
  next =>
    split
    next => exact counts_irqCores _ _ _
    next =>
      split
      next => exact counts_punt ..
      next =>
        split
        next =>
          split
          next => rfl
          next =>
            split
            next => exact counts_punt ..
            next => exact counts_enqueueForward ..
        next => rfl

theorem counts_act (s : State) (q : Nat) (e : ClsEntry) (port sub : Nat) (key : BitVec 512) (r : Parsed) (f : List Byte) (ns : Nat) :
    (act s q e port sub key r f ns).net.counts = s.net.counts := by
  rw [act]
  dsimp only
  split
  next => exact counts_punt ..
  next =>
    split
    next => rfl
    next =>
      split
      next => exact counts_deliver ..
      next => exact counts_deliver ..

theorem counts_meterFrame (s : State) (e : ClsEntry) (len ns : Nat) : (meterFrame s e len ns).2.net.counts = s.net.counts := by
  rw [meterFrame]
  dsimp only
  split
  next => rfl
  next => split <;> rfl

theorem counts_classify (s : State) (port sub : Nat) (f : List Byte) (ns : Nat) : (classify s port sub f ns).net.counts = s.net.counts := by
  rw [classify]
  dsimp only
  split
  next => exact counts_punt ..
  next =>
    split
    next => exact counts_punt ..
    next =>
      split
      next => exact (counts_act ..).trans (counts_meterFrame ..)
      next => exact counts_meterFrame ..

/-! ### Frames received (R259, R285, R286) -/

section
variable {port : Fin 16} {sub : Fin 4} {s : State}

theorem exec_frameReceive_down (h : subUp s port sub = false) (bytes : List Byte) (ok room : Bool) (ns : Nat) :
    exec (.frameReceive port sub bytes ok room ns) s = .next s := congrArg Host.Outcome.next (if_pos (by rw [h]; rfl))

variable {bytes : List Byte} (hup : subUp s port sub = true)
include hup

/-- A runt, a frame above MAXFRAME, or one with a wrong FCS. -/
theorem exec_frameReceive_bad {ok : Bool} (h : ok = false ∨ bytes.length < 64 ∨ maxFrame s port < bytes.length) (room : Bool) (ns : Nat) :
    exec (.frameReceive port sub bytes ok room ns) s = .next (netCount s port 2) :=
  congrArg Host.Outcome.next ((if_neg (by rw [hup]; nofun)).trans (if_pos (by simpa [or_assoc] using h)))

variable (hlong : 64 ≤ bytes.length) (hshort : bytes.length ≤ maxFrame s port)
include hlong hshort

theorem exec_frameReceive_control (h : fw16 bytes 12 = 0x8808) (room : Bool) (ns : Nat) :
    exec (.frameReceive port sub bytes true room ns) s = .next (netCount s port 3) :=
  congrArg Host.Outcome.next ((if_neg (by rw [hup]; nofun)).trans ((if_neg (by simp [hlong, hshort])).trans (if_pos h)))

theorem exec_frameReceive_good (h : fw16 bytes 12 ≠ 0x8808) (room : Bool) (ns : Nat) : exec (.frameReceive port sub bytes true room ns) s
    = .next (if room then classify (netCount s port 0) port sub bytes ns else netCount (netCount s port 0) port 1) :=
  congrArg Host.Outcome.next ((if_neg (by rw [hup]; nofun)).trans ((if_neg (by simp [hlong, hshort])).trans (if_neg h)))

/-- A frame for which there is no room is received, and dropped. -/
theorem gives_frameReceive_noRoom (h : fw16 bytes 12 ≠ 0x8808) (ns : Nat) : Gives s (.frameReceive port sub bytes true false ns) fun t =>
    macCount t port 0 = macCount s port 0 + 1 ∧ macCount t port 1 = macCount s port 1 + 1 ∧ t.net.queues = s.net.queues := by
  refine ⟨_, exec_frameReceive_good hup hlong hshort h false ns, ?_, ?_, rfl⟩
  · exact (macCount_netCount_ne _ _ (by decide)).trans (macCount_netCount_self s port 0)
  · exact (macCount_netCount_self _ _ 1).trans (congrArg (· + 1) (macCount_netCount_ne s port (by decide)))

theorem gives_frameReceive_room (h : fw16 bytes 12 ≠ 0x8808) (ns : Nat) : Gives s (.frameReceive port sub bytes true true ns) fun t =>
    macCount t port 0 = macCount s port 0 + 1 ∧ macCount t port 1 = macCount s port 1 := by
  refine ⟨_, exec_frameReceive_good hup hlong hshort h true ns, ?_, ?_⟩
  · exact (congrArg (mapGet 0 · _) (counts_classify ..)).trans (macCount_netCount_self s port 0)
  · exact (congrArg (mapGet 0 · _) (counts_classify ..)).trans (macCount_netCount_ne s port (by decide))

end

/-! ### The obligation -/

/-- What LanesSubportsAndFrames says, with the retraining of those sub-ports alone that their port's SPLIT has (Table NET-1). -/
theorem lanesSubportsAndFrames_of_split :
    (∀ (port : Fin 16) (lane : Fin 4) (s : State),
      (bit (rd s (.netPcfg port)) (8 + lane) = false → Gives s (.laneFail port lane) fun t =>
        bit (rd t (.netPcfg port)) (8 + lane) = true ∧ bit (rd t (.netPstat port)) (12 + lane) = true)
      ∧ (∀ m, mayWriteNet m = true → bit (rd s (.netPcfg port)) (8 + lane) = true → Gives s (.laneReenable m port lane) fun t =>
        bit (rd t (.netPcfg port)) (8 + lane) = false ∧ 4 * port.val + lane.val ∈ t.net.checking)
      ∧ (s.net.checking.contains (4 * port.val + lane.val) = true →
        (Gives s (.laneCheckDone port lane true) fun t => bit (rd t (.netPstat port)) (12 + lane) = false ∧ 4 * port.val + lane.val ∉ t.net.checking)
        ∧ Gives s (.laneCheckDone port lane false) fun t => bit (rd t (.netPstat port)) (12 + lane) = true ∧ bit (rd t (.netPcfg port)) (8 + lane) = true))
    ∧ (∀ (port : Fin 16) (sub : Fin 4) (s : State), sub.val < subCount (split s port) → subRetrain s port sub = true → Gives s (.subportRetrainDone port sub) fun t =>
      subUp t port sub = true ∧ subRetrain t port sub = false ∧ subWidth t port sub = widthCode (runLanes s port sub).length)
    ∧ (∀ (port : Fin 16) (sub : Fin 4) (bytes : List Byte) (ns : Nat) (s : State),
      (subUp s port sub = false → ∀ ok room, exec (.frameReceive port sub bytes ok room ns) s = .next s)
      ∧ (subUp s port sub = true → ∀ ok room, ok = false ∨ bytes.length < 64 ∨ maxFrame s port < bytes.length →
        Gives s (.frameReceive port sub bytes ok room ns) fun t =>
          macCount t port 2 = macCount s port 2 + 1 ∧ macCount t port 0 = macCount s port 0 ∧ t.net.queues = s.net.queues)
      ∧ (subUp s port sub = true → 64 ≤ bytes.length → bytes.length ≤ maxFrame s port → fw16 bytes 12 = 0x8808 → ∀ room,
        Gives s (.frameReceive port sub bytes true room ns) fun t => macCount t port 3 = macCount s port 3 + 1 ∧ macCount t port 0 = macCount s port 0)
      ∧ (subUp s port sub = true → 64 ≤ bytes.length → bytes.length ≤ maxFrame s port → fw16 bytes 12 ≠ 0x8808 →
        (Gives s (.frameReceive port sub bytes true false ns) fun t =>
          macCount t port 0 = macCount s port 0 + 1 ∧ macCount t port 1 = macCount s port 1 + 1 ∧ t.net.queues = s.net.queues)
        ∧ Gives s (.frameReceive port sub bytes true true ns) fun t => macCount t port 0 = macCount s port 0 + 1 ∧ macCount t port 1 = macCount s port 1)) :=
  ⟨fun port lane s => ⟨gives_laneFail, fun m => gives_laneReenable, fun h => ⟨gives_laneCheckDone_pass h, gives_laneCheckDone_fail h⟩⟩,
    fun port sub s => gives_subportRetrainDone_of_split,
    fun port sub bytes ns s => ⟨fun h ok room => exec_frameReceive_down h bytes ok room ns,
      fun hup ok room h => ⟨_, exec_frameReceive_bad hup h room ns, macCount_netCount_self s port 2, macCount_netCount_ne s port (by decide), rfl⟩,
      fun hup hlong hshort h room =>
        ⟨_, exec_frameReceive_control hup hlong hshort h room ns, macCount_netCount_self s port 3, macCount_netCount_ne s port (by decide)⟩,
      fun hup hlong hshort h => ⟨gives_frameReceive_noRoom hup hlong hshort h ns, gives_frameReceive_room hup hlong hshort h ns⟩⟩⟩

/-- Sub-port 3 of port 0 reads RETRAIN in SPLIT 0, in which the port has sub-port 0 alone. -/
def strayRetrain : State := { regs := [(.netPstat 0, 0x08000000)] }

/-- The RETRAIN bit of sub-port 3 reads as the failure of its last lane while it is set, and no longer once the sub-port is up. -/
theorem runLanes_strayRetrain : runLanes strayRetrain 0 3 = [12] ∧ runLanes (subportUp strayRetrain 0 3) 0 3 = [12, 13, 14, 15] := by
  constructor <;> decide +kernel

/-- Refutes O44: in SPLIT 0 the lanes of a sub-port 3 would be 12 to 15, and bit 12 + 15 of NET_PSTAT, the failure of lane 15, is the sub-port's own RETRAIN; so the width
given by its lanes before the command, 1, is not the width, 4, at which it comes up. Nothing in the statement asks that the port's SPLIT have the sub-port; with that the clause holds, and
every other clause holds as it stands (`lanesSubportsAndFrames_of_split`). -/
theorem not_lanesSubportsAndFrames : ¬ Obligations.LanesSubportsAndFrames := by
  unfold Obligations.LanesSubportsAndFrames
  rintro ⟨-, hretrain, -⟩
  have hretrains : subRetrain strayRetrain 0 3 = true := by decide +kernel
  obtain ⟨t, hexec, -, -, hclaimed⟩ := hretrain 0 3 strayRetrain hretrains
  obtain ⟨u, hexec', -, -, hshown⟩ := gives_subportRetrainDone (port := 0) (sub := 3) hretrains
  have htu : t = u := Host.Outcome.next.inj (hexec.symm.trans hexec')
  obtain ⟨hbefore, hafter⟩ := runLanes_strayRetrain
  have hwidths : widthCode (runLanes strayRetrain 0 3).length = widthCode (runLanes (subportUp strayRetrain 0 3) 0 3).length := hclaimed.symm.trans (htu ▸ hshown)
  rw [hbefore, hafter] at hwidths
  exact absurd hwidths (by decide)

end Sys2Proof.Machine
end

section
/-! SUPPORT. Egress queues and the classifier's objects (R269, R278, R279, R282, R283, R287): the pick of the scheduler, samples and flushes of queues, objects read and written,
and O45, which fails for a sub-port that is down. -/
set_option Elab.async false
namespace Sys2Proof.Machine

/-! ### Queues -/

theorem queueOf_onQueue (s : State) (k j : Nat) (f : Queue → Queue) : queueOf (onQueue s k f) j = if k = j then f (queueOf s k) else queueOf s j :=
  mapGet_mapSet ..

/-- Bytes waiting are those of the frames, with the port's OVERHEAD. -/
theorem queueDepth_congr {s t : State} {k : Nat} (hframes : (queueOf t k).frames = (queueOf s k).frames) (hport : rd t (.tmsPort (k / 512)) = rd s (.tmsPort (k / 512))) :
    queueDepth t k = queueDepth s k := by
  have hlen : countedLen t (k / 512) = countedLen s (k / 512) := by
    funext f
    rw [countedLen, rdFld, hport, countedLen, rdFld]
  rw [queueDepth, hframes, hlen, queueDepth]

/-! ### The scheduler (R278, R279) -/

/-- A sub-port that is down, retraining too, sends nothing. -/
theorem exec_egressSchedule_down {port : Fin 16} {sub : Fin 4} {s : State} (h : subUp s port sub = false) (ns : Nat) : exec (.egressSchedule port sub ns) s = .next s := by
  have hnone : schedule s port sub ns = none := by
    rw [schedule, h]
    rfl
  exact congrArg Host.Outcome.next (by rw [hnone])

/-- The round-robin position of a sub-port's class is at queue k, whose visit is open. -/
def visiting (s : State) (pos k : Nat) : State := { s with net := { s.net with rr := mapInsert s.net.rr pos (k, true) } }

/-- Of the eight classes, from the highest, the one in which the only eligible queue stands. -/
theorem find_class (s : State) {k : Nat} (h : queueClass s k < 8) :
    (List.range 8).reverse.find? (fun c => [k].any fun j => queueClass s j == c) = some (queueClass s k) := by
  have hfind : ∀ c < 8, (List.range 8).reverse.find? (c == ·) = some c := by decide
  simpa using hfind _ h

/-- A frame at the head of a queue leaves. -/
theorem frame_mem_sendHead {s : State} {k : Nat} {f : EgressFrame} {rest : List EgressFrame} (h : (queueOf s k).frames = f :: rest) (ns : Nat) :
    .frame (k / 512) (queueSub s k) f.body ∈ (sendHead s k ns).out := by
  rw [sendHead, h]
  exact List.mem_cons_self

section
variable {s : State} {ns k : Nat}

/-- The one eligible queue of a sub-port that is up, its visit open and its deficit enough, is served. -/
theorem schedule_visited {port sub : Nat} (hup : subUp s port sub = true) (hel : (subQueues s port sub).filter (fun k => queueEligible s k ns) = [k])
    (hclass : queueClass s k < 8) (hrr : mapGet (512 * port + 511, false) s.net.rr (8 * (4 * port + sub) + queueClass s k) = (k, true))
    (hdeficit : headLen s k ≤ (queueOf s k).deficit) :
    schedule s port sub ns = some (sendHead (visiting s (8 * (4 * port + sub) + queueClass s k) k) k ns) := by
  have hpick : drrPick 700000 s [k] k true = some (k, s) := if_pos (by simpa using hdeficit)
  have hall : [k].filter (fun j => queueClass s j == queueClass s k) = [k] := by simp
  rw [schedule]
  dsimp only
  rw [hup, if_pos rfl, hel, find_class s hclass]
  dsimp only
  rw [hall, hrr, hpick]
  rfl

/-- What waited for the room that a sent frame leaves enters its queue and puts nothing out. -/
theorem gives_egressSchedule {port : Fin 16} {sub : Fin 4} {f : EgressFrame} {rest : List EgressFrame} (hup : subUp s port sub = true) (hops : s.rma.ops = [])
    (hframes : (queueOf s k).frames = f :: rest) (hel : (subQueues s port sub).filter (fun k => queueEligible s k ns) = [k]) (hclass : queueClass s k < 8)
    (hrr : mapGet (512 * port.val + 511, false) s.net.rr (8 * (4 * port.val + sub.val) + queueClass s k) = (k, true)) (hdeficit : headLen s k ≤ (queueOf s k).deficit) :
    Gives s (.egressSchedule port sub ns) fun t => .frame (k / 512) (queueSub s k) f.body ∈ t.out := by
  have hsched := schedule_visited hup hel hclass hrr hdeficit
  generalize hv : visiting s (8 * (4 * port.val + sub.val) + queueClass s k) k = v at hsched
  have hsent : Keeps 0x80200 v (sendHead v k ns) := sendHead_keeps (.refl v) k ns rfl
  have hdrained : Keeps 0x80000 (sendHead v k ns) (forAll (fun s k => drainHeld s k s.net.held) (sendHead v k ns) (subQueues (sendHead v k ns) port sub)) :=
    forAll_keeps (.refl _) _ _ fun _ k h => drainHeld_keeps h k _ rfl
  have hout : .frame (k / 512) (queueSub s k) f.body ∈ (sendHead v k ns).out := by
    subst hv
    exact frame_mem_sendHead (s := visiting s _ k) hframes ns
  have hnoOps : (sendHead v k ns).rma.ops = [] := by
    rw [hsent.rma.eq rfl, ← hv]
    exact hops
  refine ⟨_, congrArg Host.Outcome.next (by rw [hsched]), ?_⟩
  dsimp only
  rw [hdrained.rma.eq rfl, hnoOps]
  exact (hdrained.out.eq rfl).symm ▸ hout

end

/-! ### Samples (R283) -/

/-- The averages of a queue after a sample of depth d and delay h, of weight w; the first seeds them. -/
def sampledAvg (w : Rat) (d h : Nat) : Option (Rat × Rat) → Rat × Rat
  | none => ((d : Rat), (h : Rat))
  | some a => (a.1 + ((d : Rat) - a.1) / w, a.2 + ((h : Rat) - a.2) / w)

/-- The delay of a queue's head frame. -/
def headDelay (s : State) (k ns : Nat) : Nat := match (queueOf s k).frames with | f :: _ => ns - f.entered | [] => 0

/-- The word of depth and delay of a sample (Table NET-14). -/
def sampleWord (d h : Nat) : Word := BitVec.ofNat 32 (satNat (d / 64) 0xFFFF * 2 ^ 16 + satNat (h / 10) 0xFFFF)

/-- A queue as its sample leaves it. -/
def sampleQueue (w : Rat) (ns : Nat) (s : State) (k : Nat) : State :=
  let a := sampledAvg w (queueDepth s k) (headDelay s k ns) (queueOf s k).avg
  wr (wr (onQueue s k fun q => { q with avg := some a }) (.tmsQstat k) (sampleWord (queueDepth s k) (headDelay s k ns))) (.tmsQavg k)
    (BitVec.ofNat 32 (satNat (a.1 / 256).floor.toNat 0x7FFF * 2 ^ 16 + satNat (a.2 / 40).floor.toNat 0x7FFF))

theorem exec_queueSample (ns : Nat) (s : State) :
    exec (.queueSample ns) s = .next (forAll (sampleQueue (2 ^ rdFld s .tmsSample 3 0 : Nat) ns) s (List.range 8192)) :=
  congrArg (fun f => Host.Outcome.next (forAll f s (List.range 8192))) (funext fun _ => funext fun _ => rfl)

theorem depth_sampleWord (d h : Nat) : fld (sampleWord d h) 31 16 = min 0xFFFF (d / 64) := by
  rw [fld, sampleWord, BitVec.toNat_ofNat, satNat, satNat]
  split <;> split <;> omega

section
variable (w : Rat) (ns : Nat) (s : State)

theorem queueOf_sampleQueue (k j : Nat) : queueOf (sampleQueue w ns s k) j
    = if k = j then { queueOf s k with avg := some (sampledAvg w (queueDepth s k) (headDelay s k ns) (queueOf s k).avg) } else queueOf s j :=
  queueOf_onQueue s k j fun q => { q with avg := some (sampledAvg w (queueDepth s k) (headDelay s k ns) (queueOf s k).avg) }

theorem frames_sampleQueue (k j : Nat) : (queueOf (sampleQueue w ns s k) j).frames = (queueOf s j).frames := by
  rw [queueOf_sampleQueue]
  split
  · next h => rw [← h]
  · rfl

theorem depth_sampleQueue (k j : Nat) : queueDepth (sampleQueue w ns s k) j = queueDepth s j :=
  queueDepth_congr (frames_sampleQueue w ns s k j) ((rd_wr_ne _ _ (by nofun)).trans (rd_wr_ne _ _ (by nofun)))

/-- A queue shows a sample of its present depth, and has averages. -/
def Sampled (k : Nat) (s : State) : Prop := (queueOf s k).avg.isSome = true ∧ rdFld s (.tmsQstat k) 31 16 = min 0xFFFF (queueDepth s k / 64)

theorem sampled_sampleQueue (k : Nat) : Sampled k (sampleQueue w ns s k) := by
  constructor
  · rw [queueOf_sampleQueue, if_pos rfl]
    rfl
  · rw [depth_sampleQueue, ← depth_sampleWord _ (headDelay s k ns)]
    exact congrArg (fld · 31 16) ((rd_wr_ne _ _ (by nofun)).trans (rd_wr_self ..))

theorem Sampled.sampleQueue {s : State} {k : Nat} (h : Sampled k s) (j : Nat) : Sampled k (sampleQueue w ns s j) := by
  by_cases hj : j = k
  · subst hj
    exact sampled_sampleQueue w ns s j
  · obtain ⟨havg, hstat⟩ := h
    constructor
    · rw [queueOf_sampleQueue, if_neg hj, havg]
    · rw [depth_sampleQueue, ← hstat]
      exact congrArg (fld · 31 16) ((rd_wr_ne _ _ (by nofun)).trans (rd_wr_ne _ _ fun e => hj (Reg.tmsQstat.inj e)))

theorem frames_forAll_sampleQueue (l : List Nat) (k : Nat) : (queueOf (forAll (Machine.sampleQueue w ns) s l) k).frames = (queueOf s k).frames :=
  forAll_inv (P := fun t => (queueOf t k).frames = (queueOf s k).frames) (fun t j h => (frames_sampleQueue w ns t j k).trans h) l s rfl

theorem depth_forAll_sampleQueue (l : List Nat) (k : Nat) : queueDepth (forAll (Machine.sampleQueue w ns) s l) k = queueDepth s k :=
  forAll_inv (P := fun t => queueDepth t k = queueDepth s k) (fun t j h => (depth_sampleQueue w ns t j k).trans h) l s rfl

end

theorem gives_queueSample (ns : Nat) (s : State) : Gives s (.queueSample ns) fun t => ∀ k < 8192, (queueOf t k).frames = (queueOf s k).frames
    ∧ (queueOf t k).avg.isSome = true ∧ rdFld t (.tmsQstat k) 31 16 = min 0xFFFF (queueDepth s k / 64) := by
  refine ⟨_, exec_queueSample ns s, fun k hk => ?_⟩
  obtain ⟨havg, hstat⟩ := forAll_each (P := Sampled) (sampled_sampleQueue _ ns) (fun _ _ j h => h.sampleQueue _ ns j) (List.range 8192) s k (List.mem_range.2 hk)
  rw [depth_forAll_sampleQueue] at hstat
  exact ⟨frames_forAll_sampleQueue _ ns s _ k, havg, hstat⟩

/-! ### Flushes and averages cleared (R282, R283, R285) -/

section
variable {m : Master} {s : State}

theorem gives_queueFlush (hm : mayWritePart m (queueOwner s (selQueue s)) = true) (hheld : s.net.held = []) : Gives s (.queueFlush m) fun t =>
    (queueOf t (selQueue s)).frames = [] ∧ (queueOf t (selQueue s)).deficit = 0
      ∧ rd t (.tmsQdrop (selQueue s)) = satAdd (rd s (.tmsQdrop (selQueue s))) (queueOf s (selQueue s)).frames.length := by
  have hnoneHeld : (flushQueue s (selQueue s)).net.held = [] := hheld
  refine ⟨flushQueue s (selQueue s), congrArg Host.Outcome.next ((if_pos hm).trans (congrArg (drainHeld _ _) hnoneHeld)), ?_⟩
  have hqueue : queueOf (flushQueue s (selQueue s)) (selQueue s) = { queueOf s (selQueue s) with frames := [], deficit := 0 } :=
    (queueOf_onQueue s _ _ fun q => { q with frames := [], deficit := 0 }).trans (if_pos rfl)
  dsimp only
  rw [hqueue]
  exact ⟨rfl, rfl, rd_wr_self ..⟩

theorem gives_queueFlush_refused (hm : mayWritePart m (queueOwner s (selQueue s)) = false) : Gives s (.queueFlush m) fun t =>
    bit (rd t (.tmsQcfg (selQueue s))) 30 = true ∧ t.net = s.net :=
  ⟨_, congrArg Host.Outcome.next (if_neg (by rw [hm]; nofun)), bit_wrBit_self s _ true (by decide), rfl⟩

theorem gives_qavgClear (hm : mayWritePart m (queueOwner s (selQueue s)) = true) : Gives s (.qavgClear m) fun t =>
    (queueOf t (selQueue s)).avg = none ∧ (queueOf t (selQueue s)).frames = (queueOf s (selQueue s)).frames := by
  have hqueue : queueOf (onQueue s (selQueue s) fun q => { q with avg := none }) (selQueue s) = { queueOf s (selQueue s) with avg := none } :=
    (queueOf_onQueue s _ _ _).trans (if_pos rfl)
  refine ⟨_, congrArg Host.Outcome.next (if_pos hm), ?_⟩
  dsimp only
  rw [hqueue]
  exact ⟨rfl, rfl⟩

end

/-! ### Objects of the classifier (R269, R285, R287) -/

/-- PRS_CMD shows a refusal in ERR. -/
theorem err_prsDone (s : State) (cmd : Word) : bit (rd (prsDone s cmd true) .prsCmd) 29 = true := by
  have hlow : fld cmd 28 0 < 2 ^ 29 := Nat.mod_lt _ (by decide)
  have hword : (rd (prsDone s cmd true) .prsCmd).toNat = 2 ^ 29 + fld cmd 28 0 := by
    rw [prsDone, rd_wr_self, Bool.true_or, if_pos rfl, BitVec.toNat_ofNat, Nat.mod_eq_of_lt (by omega), Nat.add_comm]
  rw [bit, hword, Nat.testBit_two_pow_add_eq, Nat.testBit_lt_two_pow hlow]
  rfl

theorem prsData_prsDone (s : State) (cmd : Word) (err : Bool) (k : Nat) : rd (prsDone s cmd err) (.prsData k) = rd s (.prsData k) := rd_wr_ne _ _ (by nofun)

theorem prsData_putWords_of_lt (ws : List Word) (s : State) {k j : Nat} (h : j < k) : rd (putWords s k ws) (.prsData j) = rd s (.prsData j) := by
  induction ws generalizing s k with
  | nil => rfl
  | cons w rest ih =>
    rw [putWords, ih _ (by omega)]
    exact rd_wr_ne _ _ fun e => Nat.ne_of_gt h (Reg.prsData.inj e)

/-- Words placed lie in order from their first register on. -/
theorem prsData_putWords (ws : List Word) (s : State) (k i : Nat) (h : i < ws.length) : rd (putWords s k ws) (.prsData (k + i)) = ws[i] := by
  induction ws generalizing s k i with
  | nil => exact absurd h (Nat.not_lt_zero _)
  | cons w rest ih =>
    rw [putWords]
    cases i with
    | zero => exact (prsData_putWords_of_lt _ _ (Nat.lt_succ_self k)).trans (rd_wr_self ..)
    | succ i =>
      have hrest := ih (wr s (.prsData k) w) (k + 1) i (Nat.lt_of_succ_lt_succ h)
      rw [Nat.add_right_comm] at hrest
      exact hrest

section
variable {m : Master} {cmd : Word} {s : State} (hm : ∀ p, m ≠ .vf p)
include hm

/-- All who may read at all read alike. -/
theorem exec_prsRead_pf : exec (.prsRead m cmd) s = exec (.prsRead .pf cmd) s := by
  cases m with
  | vf p => exact absurd rfl (hm p)
  | pf => rfl
  | core c => rfl

theorem exec_prsRead_refused (h : 5 < fld cmd 27 25) : exec (.prsRead m cmd) s = .next (prsDone s cmd true) :=
  (exec_prsRead_pf hm).trans (congrArg Host.Outcome.next ((if_neg (by decide)).trans (if_pos (.inl h))))

/-- An indirection entry is read. -/
theorem exec_prsRead_indir (htgt : fld cmd 27 25 = 4) (hpart : fld cmd 24 21 ≤ 12) (hindex : fld cmd 11 0 ≤ 511) : exec (.prsRead m cmd) s
    = .next (prsDone (putWords s 0 [mapGet 0 s.net.indir (512 * fld cmd 24 21 + fld cmd 11 0)]) cmd false) := by
  refine (exec_prsRead_pf hm).trans (congrArg Host.Outcome.next ((if_neg (by decide)).trans ((if_neg ?_).trans ?_)))
  · simp [htgt, prsTop, hpart, hindex]
  · rw [htgt]
    rfl

/-- A meter is read. -/
theorem exec_prsRead_meter (htgt : fld cmd 27 25 = 2) : exec (.prsRead m cmd) s = .next (prsDone (putWords s 0
    [BitVec.ofNat 32 (mapGet {} s.net.meters (fld cmd 11 0)).cir, BitVec.ofNat 32 (mapGet {} s.net.meters (fld cmd 11 0)).cbs,
      (mapGet {} s.net.meters (fld cmd 11 0)).red]) cmd false) := by
  have hindex : fld cmd 11 0 < 2 ^ 12 := Nat.mod_lt _ (by decide)
  refine (exec_prsRead_pf hm).trans (congrArg Host.Outcome.next ((if_neg (by decide)).trans ((if_neg ?_).trans ?_)))
  · simp [htgt, prsTop, Nat.le_of_lt_succ hindex]
  · rw [htgt]
    rfl

/-- A write is refused for a target that there is not, an indirection entry of another's partition, and a guard that security firmware does not write. -/
theorem exec_prsWrite_refused (h : 5 < fld cmd 27 25 ∨ (fld cmd 27 25 = 4 ∧ mayWritePart m (fld cmd 24 21) = false)
    ∨ (fld cmd 27 25 = 1 ∧ ∀ c : Fin 24, m = .core c → c.val < 22)) : exec (.prsWrite m cmd) s = .next (prsDone s cmd true) := by
  cases m with
  | vf p => exact absurd rfl (hm p)
  | pf =>
    refine congrArg Host.Outcome.next (if_pos ?_)
    rcases h with h | ⟨h, hmay⟩ | ⟨h, -⟩
    · simp [Nat.not_le.2 h]
    · simp [h, hmay]
    · simp [h]
  | core c =>
    refine congrArg Host.Outcome.next (if_pos ?_)
    rcases h with h | ⟨h, hmay⟩ | ⟨h, hsec⟩
    · simp [Nat.not_le.2 h]
    · simp [h, hmay]
    · simp [h, hsec c rfl]

/-- An indirection entry is replaced, by one that may write its partition's. -/
theorem exec_prsWrite_indir (htgt : fld cmd 27 25 = 4) (hpart : fld cmd 24 21 ≤ 12) (hindex : fld cmd 11 0 ≤ 511) (hmay : mayWritePart m (fld cmd 24 21) = true)
    (hkind : fld (rd s (.prsData 0)) 31 28 ≤ 4) : exec (.prsWrite m cmd) s = .next (prsDone
      { s with net := { s.net with indir := mapSet 0 s.net.indir (512 * fld cmd 24 21 + fld cmd 11 0) (rd s (.prsData 0)) } } cmd false) := by
  cases m with
  | vf p => exact absurd rfl (hm p)
  | pf =>
    refine congrArg Host.Outcome.next ((if_neg ?_).trans ?_)
    · simp [htgt, prsTop, hpart, hindex, hmay, hkind]
    · rw [htgt]
      rfl
  | core c =>
    refine congrArg Host.Outcome.next ((if_neg ?_).trans ?_)
    · simp [htgt, prsTop, hpart, hindex, hmay, hkind]
    · rw [htgt]
      rfl

end

/-! ### The obligation -/

/-- What EgressQueuesAndClassifierObjects says, with the scheduler of a sub-port that is up. -/
theorem egressQueuesAndClassifierObjects_of_up :
    (∀ (port : Fin 16) (sub : Fin 4) (ns k : Nat) (f : EgressFrame) (rest : List EgressFrame) (s : State), subUp s port sub = true → s.rma.ops = [] →
      (queueOf s k).frames = f :: rest → (subQueues s port sub).filter (fun k => queueEligible s k ns) = [k] → queueClass s k < 8 →
      mapGet (512 * port.val + 511, false) s.net.rr (8 * (4 * port.val + sub.val) + queueClass s k) = (k, true) → headLen s k ≤ (queueOf s k).deficit →
      Gives s (.egressSchedule port sub ns) fun t => .frame (k / 512) (queueSub s k) f.body ∈ t.out)
    ∧ (∀ (ns : Nat) (s : State), Gives s (.queueSample ns) fun t => ∀ k < 8192, (queueOf t k).frames = (queueOf s k).frames
      ∧ (queueOf t k).avg.isSome = true ∧ rdFld t (.tmsQstat k) 31 16 = min 0xFFFF (queueDepth s k / 64))
    ∧ (∀ (m : Master) (s : State), (mayWritePart m (queueOwner s (selQueue s)) = true → s.net.held = [] →
        (Gives s (.queueFlush m) fun t => (queueOf t (selQueue s)).frames = [] ∧ (queueOf t (selQueue s)).deficit = 0
          ∧ rd t (.tmsQdrop (selQueue s)) = satAdd (rd s (.tmsQdrop (selQueue s))) (queueOf s (selQueue s)).frames.length)
        ∧ Gives s (.qavgClear m) fun t => (queueOf t (selQueue s)).avg = none ∧ (queueOf t (selQueue s)).frames = (queueOf s (selQueue s)).frames)
      ∧ (mayWritePart m (queueOwner s (selQueue s)) = false → Gives s (.queueFlush m) fun t => bit (rd t (.tmsQcfg (selQueue s))) 30 = true ∧ t.net = s.net))
    ∧ (∀ (m : Master) (cmd : Word) (s : State), (∀ p, m ≠ .vf p) →
      (5 < fld cmd 27 25 → (Gives s (.prsRead m cmd) fun t => bit (rd t .prsCmd) 29 = true)
        ∧ Gives s (.prsWrite m cmd) fun t => bit (rd t .prsCmd) 29 = true ∧ t.net = s.net)
      ∧ (fld cmd 27 25 = 4 → fld cmd 24 21 ≤ 12 → fld cmd 11 0 ≤ 511 →
        (Gives s (.prsRead m cmd) fun t => rd t (.prsData 0) = mapGet 0 s.net.indir (512 * fld cmd 24 21 + fld cmd 11 0))
        ∧ (mayWritePart m (fld cmd 24 21) = true → fld (rd s (.prsData 0)) 31 28 ≤ 4 → Gives s (.prsWrite m cmd) fun t =>
          mapGet 0 t.net.indir (512 * fld cmd 24 21 + fld cmd 11 0) = rd s (.prsData 0))
        ∧ (mayWritePart m (fld cmd 24 21) = false → Gives s (.prsWrite m cmd) fun t => bit (rd t .prsCmd) 29 = true ∧ t.net = s.net))
      ∧ (fld cmd 27 25 = 2 → Gives s (.prsRead m cmd) fun t => rd t (.prsData 0) = BitVec.ofNat 32 (mapGet {} s.net.meters (fld cmd 11 0)).cir
        ∧ rd t (.prsData 1) = BitVec.ofNat 32 (mapGet {} s.net.meters (fld cmd 11 0)).cbs ∧ rd t (.prsData 2) = (mapGet {} s.net.meters (fld cmd 11 0)).red)
      ∧ (fld cmd 27 25 = 1 → (∀ c : Fin 24, m = .core c → c.val < 22) → Gives s (.prsWrite m cmd) fun t => bit (rd t .prsCmd) 29 = true ∧ t.net.guards = s.net.guards)) := by
  refine ⟨fun port sub ns k f rest s hup hops hframes => gives_egressSchedule hup hops hframes, gives_queueSample,
    fun m s => ⟨fun hm hheld => ⟨gives_queueFlush hm hheld, gives_qavgClear hm⟩, gives_queueFlush_refused⟩,
    fun m cmd s hm => ⟨fun h => ?noTarget, fun htgt hpart hindex => ?indir, fun htgt => ?meter, fun htgt hsec => ?guard⟩⟩
  case noTarget =>
    exact ⟨⟨_, exec_prsRead_refused hm h, err_prsDone s cmd⟩, _, exec_prsWrite_refused hm (.inl h), err_prsDone s cmd, rfl⟩
  case indir =>
    exact ⟨⟨_, exec_prsRead_indir hm htgt hpart hindex, (prsData_prsDone ..).trans (prsData_putWords _ s 0 0 (by simp))⟩,
      fun hmay hkind => ⟨_, exec_prsWrite_indir hm htgt hpart hindex hmay hkind, (mapGet_mapSet ..).trans (if_pos rfl)⟩,
      fun hmay => ⟨_, exec_prsWrite_refused hm (.inr (.inl ⟨htgt, hmay⟩)), err_prsDone s cmd, rfl⟩⟩
  case meter =>
    refine ⟨_, exec_prsRead_meter hm htgt, ?_⟩
    dsimp only
    rw [prsData_prsDone, prsData_prsDone, prsData_prsDone]
    exact ⟨prsData_putWords _ s 0 0 (by simp), prsData_putWords _ s 0 1 (by simp), prsData_putWords _ s 0 2 (by simp)⟩
  case guard =>
    exact ⟨_, exec_prsWrite_refused hm (.inr (.inr ⟨htgt, hsec⟩)), err_prsDone s cmd, rfl⟩

/-- Port 0's sub-port 0 retrains. Its queue 0 has kept a frame (R261), and the round robin has opened the queue's visit. -/
def keptThroughRetrain : State := {
  regs := [(.netPstat 0, 0x01000000)]
  net := { queues := [(0, { frames := [⟨.raw [], 64, 0⟩], deficit := 1000 })], rr := [(0, (0, true))] } }

/-- Refutes O45: a sub-port that retrains keeps the frames of its queues and sends none of them, and nothing in the statement asks that the sub-port be up. With that the clause holds, and
every other clause holds as it stands (`egressQueuesAndClassifierObjects_of_up`). -/
theorem not_egressQueuesAndClassifierObjects : ¬ Obligations.EgressQueuesAndClassifierObjects := by
  unfold Obligations.EgressQueuesAndClassifierObjects
  rintro ⟨hsched, -⟩
  obtain ⟨t, hexec, hsent⟩ := hsched 0 0 0 0 ⟨.raw [], 64, 0⟩ [] keptThroughRetrain rfl
    (by decide +kernel) (by decide +kernel) (by decide +kernel) (by decide +kernel) (by decide +kernel)
  have hdown : exec (.egressSchedule 0 0 0) keptThroughRetrain = .next keptThroughRetrain := exec_egressSchedule_down (by decide +kernel) 0
  have htw : t = keptThroughRetrain := Host.Outcome.next.inj (hexec.symm.trans hdown)
  rw [htw] at hsent
  exact List.not_mem_nil hsent

end Sys2Proof.Machine
end
section
/-! SUPPORT. Packets that the engine sends (R281, R289, R293, R294): a frame placed stands in its queue or waits for room in it, and stays so through all that the engine sends
later; of the engine's own state a packet sent touches the sender's counter and the record of what was sent alone. -/
set_option Elab.async false
namespace Sys2Proof.Machine

/-! ### Frames that stay queued -/

/-- Every frame that stands in an egress queue of `s`, or waits for room in one, does so in `t`. -/
def KeepsFrames (s t : State) : Prop := ∀ k f, FrameQueued s k f → FrameQueued t k f

theorem KeepsFrames.refl (s : State) : KeepsFrames s s := fun _ _ h => h

theorem KeepsFrames.trans {s t u : State} (h : KeepsFrames s t) (g : KeepsFrames t u) : KeepsFrames s u := fun k f hf => g k f (h k f hf)

theorem KeepsFrames.of_net {s t : State} (h : t.net = s.net) : KeepsFrames s t := fun k f hf => by
  rw [FrameQueued, queueOf, h]
  exact hf

/-- A frame that waits for room enters its queue, and no other frame moves. -/
theorem keepsFrames_enter (s : State) (j : Nat) (e : EgressFrame) :
    KeepsFrames s { pushFrame s j e with net := { (pushFrame s j e).net with held := (pushFrame s j e).net.held.erase (j, e) } } := by
  have hframes : ∀ k f, (f ∈ (queueOf s k).frames ∨ (j, e) = (k, f)) → f ∈ (queueOf (pushFrame s j e) k).frames := fun k f hf => by
    rw [pushFrame, queueOf_onQueue]
    split
    next hk =>
      subst hk
      exact List.mem_append.2 (hf.imp id fun he => List.mem_singleton.2 (congrArg Prod.snd he).symm)
    next hk => exact hf.resolve_right fun he => hk (congrArg Prod.fst he)
  intro k f hf
  by_cases he : (j, e) = (k, f)
  · exact .inr (hframes k f (.inr he))
  · exact hf.imp (fun hheld => (List.mem_erase_of_ne (Ne.symm he)).2 hheld) fun hin => hframes k f (.inl hin)

theorem keepsFrames_drainHeld (j : Nat) (l : List (Nat × EgressFrame)) (s : State) : KeepsFrames s (drainHeld s j l) := by
  induction l generalizing s with
  | nil => exact .refl s
  | cons e rest ih =>
    rw [drainHeld]
    split
    next henters =>
      obtain ⟨hj, -, -⟩ := henters
      subst hj
      exact (keepsFrames_enter s e.1 e.2).trans (ih _)
    next =>
      split
      · exact .refl s
      · exact ih s

theorem keepsFrames_placeFrame (s : State) (k : Nat) (f : EgressFrame) : KeepsFrames s (placeFrame s k f) :=
  fun j g hg => keepsFrames_drainHeld _ _ _ j g (hg.imp (List.mem_append_left _) id)

theorem frameQueued_placeFrame (s : State) (k : Nat) (f : EgressFrame) : FrameQueued (placeFrame s k f) k f :=
  keepsFrames_drainHeld _ _ _ k f (.inl (List.mem_append_right _ List.mem_cons_self))

theorem OmfSent.mono {s t : State} {cid op : Nat} {P : OmfPkt → Prop} (h : OmfSent s cid op P) (hk : KeepsFrames s t) : OmfSent t cid op P := by
  obtain ⟨k, f, q, bs, hf, hbody, hq⟩ := h
  exact ⟨k, f, q, bs, hk k f hf, hbody, hq⟩

theorem OmfSent.imp {s : State} {cid op : Nat} {P Q : OmfPkt → Prop} (h : OmfSent s cid op P) (hPQ : ∀ q, P q → Q q) : OmfSent s cid op Q := by
  obtain ⟨k, f, q, bs, hf, hbody, hq⟩ := h
  exact ⟨k, f, q, bs, hf, hbody, hPQ q hq⟩

theorem omfSent_placeFrame (s u : State) (k cid op : Nat) {q : OmfPkt} {P : OmfPkt → Prop} (hq : P q) : OmfSent (placeFrame s k (omfFrame u cid op q)) cid op P :=
  ⟨k, _, q, _, frameQueued_placeFrame s k _, rfl, hq⟩

/-! ### A packet sent -/

theorem ctxOf_onCtx (s : State) (cid j : Nat) (f : Ctx → Ctx) : ctxOf (onCtx s cid f) j = if cid = j then f (ctxOf s cid) else ctxOf s j := mapGet_mapInsert ..

@[simp] theorem ctxOf_onCtx_self (s : State) (cid : Nat) (f : Ctx → Ctx) : ctxOf (onCtx s cid f) cid = f (ctxOf s cid) := by rw [ctxOf_onCtx, if_pos rfl]

/-- What sending may touch: cores, the recorder, the network, contexts and the engine's counters. -/
def sendBits : Nat := 0x1000000000000000000080000000000000000000000000000000180900

/-- Packets have been sent on a context: its counter, its limits and its record of what was sent may differ, and of the engine's counters that of the counter limit. -/
structure Sent (cid : Nat) (s t : State) : Prop where
  keeps : Keeps sendBits s t
  counts : ∀ n, n ≠ cnCtrstop → rd t (.rmaCnt n) = rd s (.rmaCnt n)
  rma : t.rma = { s.rma with ctxs := t.rma.ctxs }
  ctx : ctxOf t cid = { ctxOf s cid with txCtr := (ctxOf t cid).txCtr, warned := (ctxOf t cid).warned, stopped := (ctxOf t cid).stopped, recent := (ctxOf t cid).recent }
  frames : KeepsFrames s t

namespace Sent
variable {cid : Nat} {s t u : State}

theorem refl (s : State) : Sent cid s s := ⟨.refl s, fun _ _ => rfl, rfl, rfl, .refl s⟩

theorem trans (h : Sent cid s t) (g : Sent cid t u) : Sent cid s u where
  keeps := h.keeps.trans g.keeps
  counts n hn := (g.counts n hn).trans (h.counts n hn)
  rma := g.rma.trans (congrArg (fun r : RmaState => { r with ctxs := u.rma.ctxs }) h.rma)
  ctx := by
    rw [g.ctx, h.ctx]
  frames := h.frames.trans g.frames

theorem ite {c : Prop} [Decidable c] (ht : Sent cid s t) (hu : Sent cid s u) : Sent cid s (if c then t else u) := by split <;> assumption

/-- What touches neither the engine's state nor the network's may follow. -/
theorem keep (h : Sent cid s t) (k : Keeps sendBits t u) (hrma : u.rma = t.rma) (hnet : u.net = t.net)
    (hcounts : ∀ n, n ≠ cnCtrstop → rd u (.rmaCnt n) = rd t (.rmaCnt n)) : Sent cid s u :=
  h.trans ⟨k, hcounts, by rw [hrma], by rw [ctxOf, ctxOf, hrma], .of_net hnet⟩

theorem field {α : Type} (h : Sent cid s t) (p : Ctx → α) (hp : ∀ c a b d e, p { c with txCtr := a, warned := b, stopped := d, recent := e } = p c) :
    p (ctxOf t cid) = p (ctxOf s cid) := (congrArg p h.ctx).trans (hp _ _ _ _ _)

end Sent

theorem sent_placeFrame (cid : Nat) (s : State) (k : Nat) (f : EgressFrame) : Sent cid s (placeFrame s k f) := by
  have hkeeps : Keeps 0x80000 s (placeFrame s k f) := placeFrame_keeps (.refl s) k f (.self _)
  have hrma := hkeeps.rma.eq rfl
  exact ⟨placeFrame_keeps (.refl s) k f rfl, fun _ _ => hkeeps.rd_eq rfl, by rw [hrma], by rw [ctxOf, ctxOf, hrma], keepsFrames_placeFrame s k f⟩

theorem sent_irqCores (cid : Nat) (s : State) (cs : List Nat) (v : Nat) : Sent cid s (irqCores s cs v) := by
  have hkeeps : Keeps 0x100 s (irqCores s cs v) := irqCores_keeps (.refl s) cs v (.self _)
  exact (Sent.refl s).keep (irqCores_keeps (.refl s) cs v rfl) (hkeeps.rma.eq rfl) (hkeeps.net.eq rfl) fun _ _ => hkeeps.rd_eq rfl

theorem sent_recordEvent (cid : Nat) (s : State) (code plot sev island object : Nat) (value : Word) (extra : Nat) :
    Sent cid s (recordEvent s code plot sev island object value extra) := by
  have hkeeps := recordEvent_keeps (.refl s) code plot sev island object value extra (.self _)
  exact (Sent.refl s).keep (recordEvent_keeps (.refl s) _ _ _ _ _ _ _ rfl) (hkeeps.rma.eq rfl) (hkeeps.net.eq rfl) fun _ _ => hkeeps.rd_eq rfl

theorem sent_stopCounted (cid : Nat) (s : State) : Sent cid s (count s (.rmaCnt cnCtrstop) 1) :=
  (Sent.refl s).keep (count_keeps (.refl s) _ 1 rfl) rfl rfl fun _ hn => rd_wr_ne s _ fun h => hn (Reg.rmaCnt.inj h).symm

/-- The context's record after a packet sent. -/
theorem sent_onCtx (s : State) (cid : Nat) {f : Ctx → Ctx}
    (hf : ∀ c, f c = { c with txCtr := (f c).txCtr, warned := (f c).warned, stopped := (f c).stopped, recent := (f c).recent }) : Sent cid s (onCtx s cid f) where
  keeps := onCtx_keeps (.refl s) cid f rfl
  counts _ _ := rfl
  rma := rfl
  ctx := by
    rw [ctxOf_onCtx_self]
    exact hf _
  frames := .refl s

/-- The packet as it leaves: with version, phase, address and counter of its context, and the fields that version 1 does not carry cut. -/
def stamped (c : Ctx) (p : OmfPkt) : OmfPkt :=
  { p with
    ver := BitVec.ofNat 8 c.ver
    kphase := c.txPhase
    cid := BitVec.ofNat 16 c.peerCid
    ctag := BitVec.ofNat 16 c.peerTag
    pctr := BitVec.ofNat 64 c.txCtr
    etime := if c.ver = 1 then 0 else p.etime
    imm := if c.ver = 1 then BitVec.ofNat 64 (p.imm.toNat % 2 ^ 32) else p.imm }

/-- A context not stopped places the packet's frame; what follows is its own record of the packet. -/
theorem sent_placed {s : State} {cid : Nat} (hgoes : (ctxOf s cid).stopped = false) (op : Nat) (p : OmfPkt) :
    Sent cid (placeFrame s (ctxQueue s cid) (omfFrame s cid op (stamped (ctxOf s cid) p))) (sendPkt s cid op p) := by
  unfold sendPkt
  dsimp only
  rw [hgoes, if_neg Bool.false_ne_true]
  refine .ite ?stopped ?goes
  case goes => exact .ite ((sent_onCtx _ cid fun _ => rfl).trans (sent_irqCores ..)) (sent_onCtx _ cid fun _ => rfl)
  case stopped =>
    refine .trans ?_ (sent_recordEvent ..)
    refine .trans ?_ (sent_stopCounted ..)
    exact .ite ((sent_onCtx _ cid fun _ => rfl).trans (sent_irqCores ..)) (sent_onCtx _ cid fun _ => rfl)

theorem sent_sendPkt (s : State) (cid op : Nat) (p : OmfPkt) : Sent cid s (sendPkt s cid op p) := by
  cases hstopped : (ctxOf s cid).stopped with
  | false => exact (sent_placeFrame ..).trans (sent_placed hstopped op p)
  | true =>
    rw [sendPkt]
    dsimp only
    rw [hstopped, if_pos rfl]
    exact .refl s

/-- The packet of a context that is not stopped goes out. -/
theorem omfSent_sendPkt {s : State} {cid op : Nat} {p : OmfPkt} {P : OmfPkt → Prop} (hgoes : (ctxOf s cid).stopped = false) (hp : P (stamped (ctxOf s cid) p)) :
    OmfSent (sendPkt s cid op p) cid op P :=
  (omfSent_placeFrame s s _ cid op hp).mono (sent_placed hgoes op p).frames

end Sys2Proof.Machine
end
section
/-! SUPPORT. Omfemos packets received (R291, R296, R301): the packets turned away, and the state in which an authentic one is acted on. -/
set_option Elab.async false
namespace Sys2Proof.Machine

/-! ### States that differ in the engine's and the network's part alone -/

/-- `t` differs from `s` in the remote-memory engine's state and the network's alone. -/
def EngineOnly (s t : State) : Prop := ∃ net rma, t = { s with net := net, rma := rma }

namespace EngineOnly
variable {s t u : State}

theorem refl (s : State) : EngineOnly s s := ⟨s.net, s.rma, rfl⟩

theorem trans (h : EngineOnly s t) (g : EngineOnly t u) : EngineOnly s u := by
  obtain ⟨n, r, rfl⟩ := h
  obtain ⟨m, q, rfl⟩ := g
  exact ⟨m, q, rfl⟩

/-- What reads neither part is the same. -/
theorem congr {α : Type} (h : EngineOnly s t) (f : State → α) (hf : ∀ net rma, f { s with net := net, rma := rma } = f s) : f t = f s := by
  obtain ⟨n, r, rfl⟩ := h
  exact hf n r

theorem onRma (h : EngineOnly s t) (f : RmaState → RmaState) : EngineOnly s (onRma t f) := h.trans ⟨t.net, f t.rma, rfl⟩

theorem onCtx (h : EngineOnly s t) (cid : Nat) (f : Ctx → Ctx) : EngineOnly s (onCtx t cid f) := h.onRma _

theorem rd_eq (h : EngineOnly s t) (r : Reg) : rd t r = rd s r := h.congr (rd · r) fun _ _ => rfl
theorem regionOf_eq (h : EngineOnly s t) (a : Nat) : regionOf t a = regionOf s a := h.congr (regionOf · a) fun _ _ => rfl
theorem cowHeld_eq (h : EngineOnly s t) (r : Nat) : cowHeld t r = cowHeld s r := h.congr (cowHeld · r) fun _ _ => rfl
theorem pagesBad_eq (h : EngineOnly s t) (a n : Nat) : pagesBad t a n = pagesBad s a n := h.congr (pagesBad · a n) fun _ _ => rfl
theorem engineFor_eq (h : EngineOnly s t) (owner a : Nat) : engineFor t owner a = engineFor s owner a := h.congr (engineFor · owner a) fun _ _ => rfl
theorem targetUp_eq (h : EngineOnly s t) (c : Ctx) (code : Nat) : targetUp t c code = targetUp s c code := h.congr (targetUp · c code) fun _ _ => rfl
theorem engineMay_eq (h : EngineOnly s t) (q : Requester) (a n : Nat) (w : Bool) : engineMay t q a n w = engineMay s q a n w :=
  h.congr (engineMay · q a n w) fun _ _ => by cases q <;> rfl
theorem rdBytes_eq (h : EngineOnly s t) (a n : Nat) : rdBytes t a n = rdBytes s a n :=
  rdBytes_of_eq (h.congr State.mem fun _ _ => rfl) (h.congr State.fresh fun _ _ => rfl) a n

end EngineOnly

/-! ### Authentication (R296) -/

/-- The context has accepted a packet's counter under its current phase. -/
def authenticated (s : State) (a : Arrival) : State :=
  onCtx s a.pkt.cid.toNat fun c => { c with rxHi := (acceptCtr c.rxHi c.rxWin a.pkt.pctr.toNat).1, rxWin := (acceptCtr c.rxHi c.rxWin a.pkt.pctr.toNat).2 }

theorem authenticate_authentic {s : State} {a : Arrival} (h : Authentic s a) : authenticate s a.pkt.cid.toNat a = (authenticated s a, true) := by
  obtain ⟨hauth, hphase⟩ := h.keyed
  simp only [authenticate, hauth, hphase, rxPhaseOf, h.unseen, if_true, Bool.not_true, Bool.false_eq_true, if_false]
  rfl

/-- A packet that is not authentic under any phase whose keys the context holds. -/
theorem authenticate_fails {s : State} {a : Arrival} (h : a.auth = false ∨ rxPhaseOf (ctxOf s a.pkt.cid.toNat) a.pkt.kphase = none) :
    authenticate s a.pkt.cid.toNat a = (count s (.rmaCnt cnAuthfail) 1, false) := by
  have hnone : (if a.auth then rxPhaseOf (ctxOf s a.pkt.cid.toNat) a.pkt.kphase else none) = none := by
    rcases h with h | h <;> simp [h]
  rw [authenticate, hnone]

/-- A packet of the current phase whose counter has been seen, or is too old. -/
theorem authenticate_replayed {s : State} {a : Arrival} (hauth : a.auth = true) (hphase : a.pkt.kphase = (ctxOf s a.pkt.cid.toNat).rxPhase)
    (hseen : freshCtr (ctxOf s a.pkt.cid.toNat).rxHi (ctxOf s a.pkt.cid.toNat).rxWin a.pkt.pctr.toNat = false) :
    authenticate s a.pkt.cid.toNat a = (count s (.rmaCnt cnReplay) 1, false) := by
  simp [authenticate, hauth, hphase, rxPhaseOf, hseen]

theorem processPkt_authentic {s : State} {a : Arrival} (h : Authentic s a) (code : Nat) :
    processPkt code a s = handlePkt code a a.pkt.cid.toNat (authenticated s a) := by
  have hopen := h.isOpen
  simp [processPkt, hopen, authenticate_authentic h, cxOpen, cxConnecting]

/-- An open context drops a packet that authentication refuses. -/
theorem processPkt_refused {s u : State} {a : Arrival} (hopen : (ctxOf s a.pkt.cid.toNat).state = cxOpen) (h : authenticate s a.pkt.cid.toNat a = (u, false)) (code : Nat) :
    processPkt code a s = u := by
  simp [processPkt, hopen, h, cxOpen, cxConnecting]

/-! ### A packet taken from the classifier (R291, R301) -/

/-- The frame has been taken from the classifier, and its context is the most recently used of the cache. -/
def packetTaken (s : State) (a : Arrival) : State :=
  onRma { s with net := { s.net with toRma := s.net.toRma.drop 1 } } fun r => { r with cached := a.pkt.cid.toNat :: r.cached.filter (· ≠ a.pkt.cid.toNat) }

theorem receivePkt_badCid {s : State} {a : Arrival} (h : (ctxOf s a.pkt.cid.toNat).state = cxFree ∨ (ctxOf s a.pkt.cid.toNat).ctag ≠ a.pkt.ctag.toNat) (code : Nat) :
    receivePkt code a s = count { s with net := { s.net with toRma := s.net.toRma.drop 1 } } (.rmaCnt cnBadcid) 1 := if_pos h

/-- A packet of a cached context with its own tag, and nothing parked before it, is processed at once. -/
theorem receivePkt_cached {s : State} {a : Arrival} (hopen : (ctxOf s a.pkt.cid.toNat).state = cxOpen) (htag : (ctxOf s a.pkt.cid.toNat).ctag = a.pkt.ctag.toNat)
    (hcached : s.rma.cached.contains a.pkt.cid.toNat = true) (hunparked : s.rma.parked.all (fun q => q.cid != a.pkt.cid.toNat) = true) (code : Nat) :
    receivePkt code a s = processPkt code a (packetTaken s a) := by
  have hin : cacheIn { s with net := { s.net with toRma := s.net.toRma.drop 1 } } a.pkt.cid.toNat = some (packetTaken s a) := if_pos hcached
  rw [receivePkt]
  dsimp only
  rw [if_neg (by simp [hopen, htag, cxOpen, cxFree]), hcached, hunparked, hin]
  rfl

theorem Arrives.packetTaken {s : State} {a : Arrival} (h : Arrives s a) : Authentic (packetTaken s a) a := ⟨h.isOpen, h.keyed, h.unseen⟩

theorem receivePkt_arrives {s : State} {a : Arrival} (h : Arrives s a) (code : Nat) :
    receivePkt code a s = handlePkt code a a.pkt.cid.toNat (authenticated (packetTaken s a) a) := by
  rw [receivePkt_cached h.isOpen h.tagged h.cached h.unparked, processPkt_authentic h.packetTaken]

/-! ### Packets turned away -/

/-- Of the commands that bring a packet, each is the reception of one operation code. -/
theorem exec_packet {a : Arrival} {code : Fin 4} {cmd : Instr} (h : cmd ∈ [Instr.omfWrite a, .omfWriteImm a, .omfReadReq a, .omfReadResp a, .omfSend a, .omfFadd a, .omfCswap a,
    .omfAtomicResp a, .omfAck a, .omfNak a, .omfClose a, .rekey a, .rekeyAck a, .blockVerb code a]) (s : State) :
    ∃ op, exec cmd s = .next (receivePkt op a s) := by
  simp only [List.mem_cons, List.not_mem_nil, or_false] at h
  rcases h with rfl | rfl | rfl | rfl | rfl | rfl | rfl | rfl | rfl | rfl | rfl | rfl | rfl | rfl <;> exact ⟨_, rfl⟩

/-- Settles O46: whatever the operation, the packet meets the checks of its context, its authentication and its counter before the operation is looked at. -/
theorem packetsTurnedAway : Obligations.PacketsTurnedAway := by
  unfold Obligations.PacketsTurnedAway
  intro a code s cid c cmd hcmd
  obtain ⟨op, hop⟩ := exec_packet hcmd s
  refine ⟨fun hbad => ⟨_, hop, ?badCid⟩, fun hopen htag hcached hunparked => ⟨fun hfails => ⟨_, hop, ?authFails⟩, fun hauth hphase hseen => ⟨_, hop, ?replayed⟩⟩⟩
  case badCid =>
    rw [receivePkt_badCid hbad]
    exact ⟨rd_wr_self .., rfl, rfl, rfl, rfl⟩
  case authFails =>
    rw [receivePkt_cached hopen htag hcached hunparked, processPkt_refused (s := packetTaken s a) hopen (authenticate_fails hfails)]
    exact ⟨rd_wr_self .., rfl, rfl, rfl, rfl, rfl⟩
  case replayed =>
    rw [receivePkt_cached hopen htag hcached hunparked, processPkt_refused (s := packetTaken s a) hopen (authenticate_replayed hauth hphase hseen)]
    exact ⟨rd_wr_self .., rfl, rfl, rfl, rfl, rfl⟩

end Sys2Proof.Machine
end
section
/-! SUPPORT. Requests at the target (R297 to R299, R304, R307): the state in which a request that is next in order is performed, the bytes that it writes, and what its end leaves. -/
set_option Elab.async false
namespace Sys2Proof.Machine

/-! ### The state in which a request is performed -/

/-- The first packet of an operation begins it. -/
def begun (s : State) (a : Arrival) : State :=
  if a.pkt.first then onCtx s a.pkt.cid.toNat fun c => { c with opFirst := a.pkt.psn.toNat, opBytes := 0, opFailed := false, opOpen := true } else s

/-- Of the state and the context only what receiving keeps has changed: cache, replay window, and the operation being received. -/
structure Readied (a : Arrival) (s u : State) : Prop where
  rest : EngineOnly s u
  rma : u.rma = { s.rma with ctxs := u.rma.ctxs, cached := u.rma.cached }
  ctx : let d := ctxOf u a.pkt.cid.toNat
    d = { ctxOf s a.pkt.cid.toNat with rxHi := d.rxHi, rxWin := d.rxWin, opFirst := d.opFirst, opBytes := d.opBytes, opFailed := d.opFailed, opOpen := d.opOpen }
  opFirst : a.pkt.first = true → (ctxOf u a.pkt.cid.toNat).opFirst = a.pkt.psn.toNat

/-- What the receiving does not keep of its context is as it was. -/
theorem Readied.field {α : Type} {a : Arrival} {s u : State} (h : Readied a s u) (p : Ctx → α)
    (hp : ∀ c hi win first bytes failed isOpen, p { c with rxHi := hi, rxWin := win, opFirst := first, opBytes := bytes, opFailed := failed, opOpen := isOpen } = p c) :
    p (ctxOf u a.pkt.cid.toNat) = p (ctxOf s a.pkt.cid.toNat) := (congrArg p h.ctx).trans (hp _ _ _ _ _ _ _)

theorem readied_begun (s : State) (a : Arrival) : Readied a s (begun (authenticated s a) a) := by
  unfold begun
  split
  next hfirst =>
    refine ⟨((EngineOnly.refl s).onCtx _ _).onCtx _ _, rfl, ?_, fun _ => ?_⟩
    · rw [ctxOf_onCtx_self, authenticated, ctxOf_onCtx_self]
    · rw [ctxOf_onCtx_self]
  next hfirst =>
    refine ⟨(EngineOnly.refl s).onCtx _ _, rfl, ?_, fun h => absurd h hfirst⟩
    rw [authenticated, ctxOf_onCtx_self]

theorem cached_begun (s : State) (a : Arrival) : (begun (authenticated s a) a).rma.cached = s.rma.cached := by
  unfold begun
  split <;> rfl

theorem Readied.of_packetTaken {a : Arrival} {s u : State} (h : Readied a (packetTaken s a) u) : Readied a s u :=
  ⟨.trans ⟨_, _, rfl⟩ h.rest, h.rma, h.ctx, h.opFirst⟩

/-- A packet next in order, once accepted by authentication, is performed in the state that its operation has begun in. -/
theorem request_inOrder {s : State} {a : Arrival} {code : Nat} (h : InOrder s code a) (perform : State → ReqRes) :
    request code perform a a.pkt.cid.toNat (authenticated s a) = concludeReq a.pkt.cid.toNat a (perform (begun (authenticated s a) a)) := by
  have hctx : ctxOf (authenticated s a) a.pkt.cid.toNat = _ := ctxOf_onCtx_self s _ _
  have hlawful : requestFault (ctxOf (authenticated s a) a.pkt.cid.toNat) code a = none := by rw [hctx]; exact h.lawful
  have hgoing : ((ctxOf (authenticated s a) a.pkt.cid.toNat).opFailed && !a.pkt.first) = false := by
    rw [hctx]
    rcases h.going with h | h <;> simp [h]
  have hup : targetUp (begun (authenticated s a) a) (ctxOf (authenticated s a) a.pkt.cid.toNat) code = true := by
    rw [(readied_begun s a).rest.targetUp_eq, hctx]
    exact h.up
  have hnext : a.pkt.psn.toNat = (ctxOf (authenticated s a) a.pkt.cid.toNat).rxPsn := by rw [hctx]; exact h.next
  rw [request]
  dsimp only
  rw [if_pos hnext, hgoing, if_neg Bool.false_ne_true, hlawful]
  dsimp only
  rw [← begun, hup, if_pos rfl]

section
variable {s : State} {a : Arrival} {code : Nat} {perform : State → ReqRes} (ho : InOrder s code a)
  (hcode : ∀ u, handlePkt code a a.pkt.cid.toNat u = request code perform a a.pkt.cid.toNat u)
include ho hcode

theorem processPkt_inOrder (h : Authentic s a) : ∃ u, Readied a s u ∧ u.rma.cached = s.rma.cached ∧ processPkt code a s = concludeReq a.pkt.cid.toNat a (perform u) :=
  ⟨_, readied_begun s a, cached_begun s a, by rw [processPkt_authentic h, hcode, request_inOrder ho]⟩

theorem receivePkt_inOrder (h : Arrives s a) : ∃ u, Readied a s u ∧ receivePkt code a s = concludeReq a.pkt.cid.toNat a (perform u) :=
  ⟨_, (readied_begun (packetTaken s a) a).of_packetTaken,
    by rw [receivePkt_arrives h, hcode, request_inOrder (s := packetTaken s a) ⟨ho.next, ho.going, ho.lawful, ho.up⟩]⟩

end

/-- What a key grants is read of the owner, the regions, and what receiving leaves alone. -/
theorem Granted.readied {s u : State} {a : Arrival} {n addr : Nat} {perm : RegionEntry → Bool} {align write : Bool} (h : Granted s a n addr perm align write)
    (hu : Readied a s u) : Granted u a n addr perm align write where
  entry := by
    have howner := hu.field Ctx.owner fun _ _ _ _ _ _ _ => rfl
    have hregions : u.rma.regions = s.rma.regions := by rw [hu.rma]
    rw [regionAddr, howner, hregions]
    exact h.entry
  path := by
    rw [hu.field Ctx.owner fun _ _ _ _ _ _ _ => rfl, hu.rest.engineFor_eq, hu.rest.engineMay_eq]
    exact h.path
  clean := h.clean
  uncopied r hr := by
    rw [hu.rest.regionOf_eq] at hr
    rw [hu.rest.cowHeld_eq]
    exact h.uncopied r hr

/-! ### Bytes that an engine writes (R193, R430) -/

/-- What writing bytes may touch: the memory, its marks for the checkpoints and its lines in error, and the checkpoint path. -/
def storeBits : Nat := 0xc00000000000000000000000000000000000000000000000007800c

/-- The memory holds bytes from an address on, and every other byte as before. -/
structure Holds (addr : Nat) (bs : List Byte) (s t : State) : Prop where
  mem : t.mem = memSetAll s.mem addr bs
  fresh : t.fresh = s.fresh

namespace Holds
variable {addr : Nat} {bs : List Byte} {s t u : State} (h : Holds addr bs s t)
include h

theorem of_eq (hmem : u.mem = t.mem) (hfresh : u.fresh = t.fresh) : Holds addr bs s u := ⟨hmem.trans h.mem, hfresh.trans h.fresh⟩

theorem keep {F : Nat} (k : Keeps F t u) (hmem : F.testBit 2 = false) (hfresh : F.testBit 4 = false) : Holds addr bs s u :=
  h.of_eq (k.mem.eq hmem) (k.fresh.eq hfresh)

theorem rdBytes : rdBytes t addr bs.length = bs :=
  (rdBytes_of_eq (s := wrBytes s addr bs) h.mem h.fresh addr bs.length).trans (rdBytes_wrBytes s addr bs)

theorem rdByte_outside {b : Nat} (hb : b < addr ∨ addr + bs.length ≤ b) : rdByte t b = rdByte s b :=
  (rdByte_of_eq (s := wrBytes s addr bs) h.mem h.fresh b).trans (rdByte_wrBytes_ne s addr bs b hb)

end Holds

/-- Bytes have been written from an address on. -/
structure Stored (addr : Nat) (bs : List Byte) (s t : State) : Prop where
  keeps : Keeps storeBits s t
  mem : t.mem = memSetAll s.mem addr bs

namespace Stored
variable {addr : Nat} {bs : List Byte} {s t : State} (h : Stored addr bs s t)
include h

theorem holds : Holds addr bs s t := ⟨h.mem, h.keeps.fresh.eq rfl⟩
theorem rma : t.rma = s.rma := h.keeps.rma.eq rfl
theorem ctxOf_eq (cid : Nat) : ctxOf t cid = ctxOf s cid := by rw [ctxOf, h.rma, ctxOf]

end Stored

theorem forAll_id {f : State → Nat → State} {s : State} {l : List Nat} (h : ∀ n ∈ l, f s n = s) : forAll f s l = s :=
  forAll_inv_of_mem (P := (· = s)) (fun t n hn ht => by rw [ht, h n hn]) rfl

/-- Where no page of a pending checkpoint is touched, nothing is copied. -/
theorem cowPages_none {s : State} {r a n : Nat} (h : (pagesOf a n).any (cowHeld s r) = false) : cowPages s r a n = s := by
  have hall : ∀ g ∈ pagesOf a n, cowHeld s r g = false := by simpa using h
  have hid : forAll (fun s g => if cowHeld s r g && stagingRoom s r then cowCopy s r g else s) s (pagesOf a n) = s :=
    forAll_id fun g hg => by rw [hall g hg, Bool.false_and, if_neg Bool.false_ne_true]
  rw [cowPages, hid, Nat.sub_self, if_pos rfl]

/-- A write that touches no page of a pending checkpoint is performed at once. -/
theorem stored_engineWrite {s : State} {addr : Nat} {bs : List Byte}
    (h : ∀ r, regionOf s addr = some r → r < 12 → (pagesOf addr bs.length).any (cowHeld s r) = false) : Stored addr bs s (engineWrite s addr bs) where
  keeps := engineWrite_keeps (.refl s) addr bs (.self _)
  mem := by
    unfold engineWrite
    split
    next r hr =>
      have hcopies : (if r < 12 then cowPages s r addr bs.length else s) = s := by
        split
        next hlt => exact cowPages_none (h r hr hlt)
        next => rfl
      have hfree : ¬(r < 12 ∧ (pagesOf addr bs.length).any (cowHeld s r) = true) := fun ⟨hlt, hany⟩ => by
        rw [h r hr hlt] at hany
        exact Bool.false_ne_true hany
      rw [lpxWrite, hcopies, if_neg hfree]
      rfl
    next => rfl

theorem stored_target {s : State} {addr : Nat} {bs : List Byte}
    (h : ∀ r, regionOf s addr = some r → r < 12 → (pagesOf addr bs.length).any (cowHeld s r) = false) :
    Stored addr bs s (if bs.isEmpty then s else engineWrite s addr bs) := by
  split
  next hempty =>
    rw [List.isEmpty_iff] at hempty
    subst hempty
    exact ⟨.refl s, rfl⟩
  next => exact stored_engineWrite h

/-- An access that is granted and meets no error is performed. -/
theorem targetAccess_granted {s : State} {c : Ctx} {addr n : Nat} {write : Bool} (hpath : n = 0 ∨ engineMay s (engineFor s c.owner addr) addr n write = true)
    (hgood : write = true ∨ pagesBad s addr n = false) (f : State → State) : targetAccess s c addr n write .clean f = .done (f s) := by
  have hclean : memEcc s addr .clean = s := ite_self s
  have hpass : ¬(n ≠ 0 ∧ engineMay s (engineFor s c.owner addr) addr n write = false) := fun ⟨hn, hno⟩ => by simp [hpath.resolve_left hn] at hno
  have hlines : (!write && pagesBad s addr n) = false := by rcases hgood with h | h <;> simp [h]
  rw [targetAccess, if_neg hpass, if_neg Ecc.noConfusion, hlines, if_neg Bool.false_ne_true, hclean]

/-! ### The end of a request that is next in order -/

/-- A request has been performed: the next packet is expected, the acknowledgement asked for has gone out, and nothing else has changed. -/
structure Concluded (a : Arrival) (s t : State) : Prop where
  keeps : Keeps sendBits s t
  rma : t.rma = { s.rma with ctxs := t.rma.ctxs }
  frames : KeepsFrames s t
  rxPsn : (ctxOf t a.pkt.cid.toNat).rxPsn = ((ctxOf s a.pkt.cid.toNat).rxPsn + 1) % 2 ^ 32
  recvUsed : (ctxOf t a.pkt.cid.toNat).recvUsed = (ctxOf s a.pkt.cid.toNat).recvUsed
  acked : a.pkt.ackreq = true → (ctxOf s a.pkt.cid.toNat).stopped = false →
    OmfSent t a.pkt.cid.toNat omAck fun q => q.psn = BitVec.ofNat 32 (((ctxOf s a.pkt.cid.toNat).rxPsn + 1) % 2 ^ 32)

/-- An acknowledgement names the packet expected next; sent or not, none is owed any more. -/
theorem sent_sendAck (s : State) (cid : Nat) : Sent cid (onCtx s cid fun c => { c with unacked := 0 }) (sendAck s cid) := sent_sendPkt ..

theorem omfSent_sendAck {s : State} {cid : Nat} (h : (ctxOf s cid).stopped = false) :
    OmfSent (sendAck s cid) cid omAck fun q => q.psn = BitVec.ofNat 32 (ctxOf s cid).rxPsn :=
  omfSent_sendPkt (by rw [ctxOf_onCtx_self]; exact h) rfl

theorem concluded_done (a : Arrival) (s : State) : Concluded a s (concludeReq a.pkt.cid.toNat a (.done s)) := by
  unfold concludeReq
  dsimp only
  have hself := ctxOf_onCtx_self s a.pkt.cid.toNat fun c =>
    { c with rxPsn := (c.rxPsn + 1) % 2 ^ 32, opBytes := c.opBytes + a.pkt.data.length, opOpen := !a.pkt.last, unacked := c.unacked + 1 }
  split
  next hack =>
    have hsent := sent_sendAck (onCtx s a.pkt.cid.toNat fun c =>
      { c with rxPsn := (c.rxPsn + 1) % 2 ^ 32, opBytes := c.opBytes + a.pkt.data.length, opOpen := !a.pkt.last, unacked := c.unacked + 1 }) a.pkt.cid.toNat
    exact {
      keeps := (onCtx_keeps (onCtx_keeps (.refl s) _ _ rfl) _ _ rfl).trans hsent.keeps
      rma := hsent.rma
      frames := hsent.frames
      rxPsn := by rw [hsent.field Ctx.rxPsn fun _ _ _ _ _ => rfl, ctxOf_onCtx_self, hself]
      recvUsed := by rw [hsent.field Ctx.recvUsed fun _ _ _ _ _ => rfl, ctxOf_onCtx_self, hself]
      acked := fun _ hgoes => (omfSent_sendAck (by rw [hself]; exact hgoes)).imp fun q hq => by rw [hself] at hq; exact hq }
  next hnone =>
    exact {
      keeps := onCtx_keeps (.refl s) _ _ rfl
      rma := rfl
      frames := .refl s
      rxPsn := by rw [hself]
      recvUsed := by rw [hself]
      acked := fun hack => absurd (by rw [hack, Bool.true_or]) hnone }

end Sys2Proof.Machine
end
section
/-! SUPPORT. What the target performs (R297 to R299, R304, R307): writes, reads, atomics and messages, and the refusals it answers. -/
set_option Elab.async false
namespace Sys2Proof.Machine

/-! ### What each operation code asks for -/

section
variable (a : Arrival) (cid : Nat) (s : State)

theorem handlePkt_write : handlePkt omWrite a cid s = request omWrite (doWrite a cid) a cid s := if_pos rfl

theorem handlePkt_writeImm : handlePkt omWriteImm a cid s = request omWriteImm (doWriteImm a cid) a cid s := by
  rw [handlePkt, if_neg (by decide), if_pos rfl]

theorem handlePkt_readReq : handlePkt omReadReq a cid s = request omReadReq (doReadReq a cid) a cid s := by
  rw [handlePkt, if_neg (by decide), if_neg (by decide), if_pos rfl]

theorem handlePkt_send : handlePkt omSend a cid s = request omSend (doSend a cid) a cid s := by
  rw [handlePkt, if_neg (by decide), if_neg (by decide), if_neg (by decide), if_pos rfl]

theorem handlePkt_fadd : handlePkt omFadd a cid s = request omFadd (doFadd a cid) a cid s := by
  rw [handlePkt, if_neg (by decide), if_neg (by decide), if_neg (by decide), if_neg (by decide), if_pos rfl]

theorem handlePkt_cswap : handlePkt omCswap a cid s = request omCswap (doCswap a cid) a cid s := by
  rw [handlePkt, if_neg (by decide), if_neg (by decide), if_neg (by decide), if_neg (by decide), if_neg (by decide), if_pos rfl]

end

section
variable {a : Arrival} {s u v t : State} {addr : Nat}

theorem Concluded.holds (ht : Concluded a v t) {bs : List Byte} (hv : Holds addr bs u v) : Holds addr bs u t := hv.keep ht.keeps rfl rfl

/-! ### Writes (R299, R304) -/

theorem doWrite_granted (h : Granted s a a.pkt.data.length addr (fun e => e.write) false true) :
    ∃ v, Stored addr a.pkt.data s v ∧ doWrite a a.pkt.cid.toNat s = .done v := by
  refine ⟨_, stored_target h.uncopied, ?_⟩
  rw [doWrite, h.entry]
  dsimp only
  rw [h.clean, targetAccess_granted h.path (.inl rfl)]

theorem rma_toFirmware (s : State) (cid : Nat) (bs : List Byte) : (toFirmware s cid bs).rma = { s.rma with fwIn := s.rma.fwIn ++ [(cid, bs)] } :=
  (irqCores_keeps (.refl _) netCores 14 (.self _)).rma.eq rfl

theorem ctxOf_toFirmware (s : State) (cid : Nat) (bs : List Byte) (j : Nat) : ctxOf (toFirmware s cid bs) j = ctxOf s j := by rw [ctxOf, rma_toFirmware, ctxOf]

/-- A WRITE_IMM of a connection whose messages go to firmware: its bytes are written, and the immediate is given to firmware with the last. -/
theorem doWriteImm_granted (h : Granted s a a.pkt.data.length addr (fun e => e.write) false true) (hdeliver : (ctxOf s a.pkt.cid.toNat).deliver = 2)
    (hlast : a.pkt.last = true) : ∃ v, Stored addr a.pkt.data s v ∧ doWriteImm a a.pkt.cid.toNat s = .done (toFirmware v a.pkt.cid.toNat (leBytes 8 a.pkt.imm.toNat)) := by
  obtain ⟨v, hv, hdone⟩ := doWrite_granted h
  refine ⟨v, hv, ?_⟩
  simp [doWriteImm, hdeliver, hdone, hlast]

/-- An authentic WRITE next in order, granted its bytes: they stand in memory, nothing beside them has changed, and the packet is acknowledged where it asks. -/
theorem processPkt_write (h : Authentic s a) (ho : InOrder s omWrite a) (hg : Granted s a a.pkt.data.length addr (fun e => e.write) false true) :
    ∃ u v, Readied a s u ∧ u.rma.cached = s.rma.cached ∧ Stored addr a.pkt.data u v ∧ Concluded a v (processPkt omWrite a s) := by
  obtain ⟨u, hu, hcached, ht⟩ := processPkt_inOrder ho (handlePkt_write a _) h
  obtain ⟨v, hv, hdone⟩ := doWrite_granted (hg.readied hu)
  exact ⟨u, v, hu, hcached, hv, by rw [ht, hdone]; exact concluded_done a v⟩

theorem Readied.rdByte_eq (hu : Readied a s u) (b : Nat) : rdByte u b = rdByte s b := hu.rest.congr (rdByte · b) fun _ _ => rfl

section
variable (ha : Arrives s a)
include ha

theorem gives_omfWrite (ho : InOrder s omWrite a) (hg : Granted s a a.pkt.data.length addr (fun e => e.write) false true) : Gives s (.omfWrite a) fun t =>
    rdBytes t addr a.pkt.data.length = a.pkt.data ∧ (ctxOf t a.pkt.cid.toNat).rxPsn = ((ctxOf s a.pkt.cid.toNat).rxPsn + 1) % 2 ^ 32
      ∧ (∀ b, b < addr ∨ addr + a.pkt.data.length ≤ b → rdByte t b = rdByte s b)
      ∧ (a.pkt.ackreq = true → (ctxOf s a.pkt.cid.toNat).stopped = false →
        OmfSent t a.pkt.cid.toNat omAck fun q => q.psn = BitVec.ofNat 32 (((ctxOf s a.pkt.cid.toNat).rxPsn + 1) % 2 ^ 32)) := by
  obtain ⟨u, hu, hrecv⟩ := receivePkt_inOrder ho (handlePkt_write a _) ha
  obtain ⟨v, hv, hdone⟩ := doWrite_granted (hg.readied hu)
  have ht := concluded_done a v
  have hpsn := (congrArg Ctx.rxPsn (hv.ctxOf_eq a.pkt.cid.toNat)).trans (hu.field Ctx.rxPsn fun _ _ _ _ _ _ _ => rfl)
  have hgoes := (congrArg Ctx.stopped (hv.ctxOf_eq a.pkt.cid.toNat)).trans (hu.field Ctx.stopped fun _ _ _ _ _ _ _ => rfl)
  refine ⟨_, congrArg Host.Outcome.next (hrecv.trans (by rw [hdone])), (ht.holds hv.holds).rdBytes, by rw [ht.rxPsn, hpsn],
    fun b hb => ((ht.holds hv.holds).rdByte_outside hb).trans (hu.rdByte_eq b), fun hack hstopped => ?_⟩
  rw [← hpsn]
  exact ht.acked hack (hgoes.trans hstopped)

theorem gives_omfWriteImm (ho : InOrder s omWriteImm a) (hg : Granted s a a.pkt.data.length addr (fun e => e.write) false true)
    (hdeliver : (ctxOf s a.pkt.cid.toNat).deliver = 2) (hlast : a.pkt.last = true) : Gives s (.omfWriteImm a) fun t =>
    rdBytes t addr a.pkt.data.length = a.pkt.data ∧ t.rma.fwIn = s.rma.fwIn ++ [(a.pkt.cid.toNat, leBytes 8 a.pkt.imm.toNat)]
      ∧ (ctxOf t a.pkt.cid.toNat).rxPsn = ((ctxOf s a.pkt.cid.toNat).rxPsn + 1) % 2 ^ 32 := by
  obtain ⟨u, hu, hrecv⟩ := receivePkt_inOrder ho (handlePkt_writeImm a _) ha
  obtain ⟨v, hv, hdone⟩ := doWriteImm_granted (hg.readied hu) ((hu.field Ctx.deliver fun _ _ _ _ _ _ _ => rfl).trans hdeliver) hlast
  have ht := concluded_done a (toFirmware v a.pkt.cid.toNat (leBytes 8 a.pkt.imm.toNat))
  have hheld := hv.holds.keep (toFirmware_keeps (.refl v) a.pkt.cid.toNat (leBytes 8 a.pkt.imm.toNat) (.self _)) rfl rfl
  refine ⟨_, congrArg Host.Outcome.next (hrecv.trans (by rw [hdone])), (ht.holds hheld).rdBytes, ?_, ?_⟩
  · rw [ht.rma, rma_toFirmware, hv.rma, hu.rma]
  · rw [ht.rxPsn, ctxOf_toFirmware, hv.ctxOf_eq, hu.field Ctx.rxPsn fun _ _ _ _ _ _ _ => rfl]

end

/-! ### Reads (R297, R304) -/

theorem sent_sendData (k : Nat) (s : State) (cid : Nat) (a : Arrival) (addr done n : Nat) : Sent cid s (sendData k s cid a addr done n) := by
  induction k generalizing s done with
  | zero => exact .refl s
  | succ k ih => exact .ite (sent_sendPkt ..) ((sent_sendPkt ..).trans (ih ..))

/-- The first response of a read, whatever follows it. -/
theorem omfSent_sendData {cid : Nat} (hgoes : (ctxOf s cid).stopped = false) (k : Nat) (a : Arrival) (addr n : Nat) :
    OmfSent (sendData (k + 1) s cid a addr 0 n) cid omReadResp fun q => q.psn = a.pkt.psn ∧ q.first = true ∧ q.roff = a.pkt.roff ∧ q.oplen = a.pkt.oplen
      ∧ q.data = rdBytes s addr (min (max 1 (ctxOf s cid).mss) n) ∧ q.last = decide (n ≤ max 1 (ctxOf s cid).mss) := by
  have hfirst := omfSent_sendPkt (op := omReadResp) (P := fun q => q.psn = a.pkt.psn ∧ q.first = true ∧ q.roff = a.pkt.roff ∧ q.oplen = a.pkt.oplen
      ∧ q.data = rdBytes s addr (min (max 1 (ctxOf s cid).mss) n) ∧ q.last = decide (n ≤ max 1 (ctxOf s cid).mss)) hgoes
    (p := { barePkt a.pkt.psn.toNat with
      first := (0 : Nat) == 0
      last := decide (n ≤ 0 + min (max 1 (ctxOf s cid).mss) (n - 0))
      rkey := a.pkt.rkey
      roff := a.pkt.roff + BitVec.ofNat 64 0
      oplen := a.pkt.oplen
      data := rdBytes s (addr + 0) (min (max 1 (ctxOf s cid).mss) (n - 0)) })
    ⟨BitVec.ofNat_toNat .., rfl, BitVec.add_zero _, rfl, rfl, by simp [stamped]⟩
  rw [sendData]
  dsimp only
  split
  · exact hfirst
  · exact hfirst.mono (sent_sendData ..).frames

theorem gives_omfReadReq (ha : Arrives s a) (ho : InOrder s omReadReq a) (hg : Granted s a a.pkt.oplen.toNat addr (fun e => e.read) false false)
    (hgoes : (ctxOf s a.pkt.cid.toNat).stopped = false) (hgood : pagesBad s addr a.pkt.oplen.toNat = false) : Gives s (.omfReadReq a) fun t => t.mem = s.mem
      ∧ OmfSent t a.pkt.cid.toNat omReadResp fun q => q.psn = a.pkt.psn ∧ q.first = true ∧ q.roff = a.pkt.roff ∧ q.oplen = a.pkt.oplen
        ∧ q.data = rdBytes s addr (min (max 1 (ctxOf s a.pkt.cid.toNat).mss) a.pkt.oplen.toNat) ∧ q.last = decide (a.pkt.oplen.toNat ≤ max 1 (ctxOf s a.pkt.cid.toNat).mss) := by
  obtain ⟨u, hu, hrecv⟩ := receivePkt_inOrder ho (handlePkt_readReq a _) ha
  have hgu := hg.readied hu
  have hdone : doReadReq a a.pkt.cid.toNat u = .done (sendData (a.pkt.oplen.toNat / 1024 + 2) u a.pkt.cid.toNat a addr 0 a.pkt.oplen.toNat) := by
    rw [doReadReq, hgu.entry]
    dsimp only
    rw [hgu.clean, targetAccess_granted hgu.path (.inr (by rw [hu.rest.pagesBad_eq, hgood]))]
  have hsent := sent_sendData (a.pkt.oplen.toNat / 1024 + 2) u a.pkt.cid.toNat a addr 0 a.pkt.oplen.toNat
  have ht := concluded_done a (sendData (a.pkt.oplen.toNat / 1024 + 2) u a.pkt.cid.toNat a addr 0 a.pkt.oplen.toNat)
  have hfirst := omfSent_sendData ((hu.field Ctx.stopped fun _ _ _ _ _ _ _ => rfl).trans hgoes) (a.pkt.oplen.toNat / 1024 + 1) a addr a.pkt.oplen.toNat
  rw [hu.field Ctx.mss fun _ _ _ _ _ _ _ => rfl, hu.rest.rdBytes_eq] at hfirst
  exact ⟨_, congrArg Host.Outcome.next (hrecv.trans (by rw [hdone])), ((ht.keeps.mem.eq rfl).trans (hsent.keeps.mem.eq rfl)).trans (hu.rest.congr State.mem fun _ _ => rfl),
    hfirst.mono ht.frames⟩

end

end Sys2Proof.Machine
end
section
/-! SUPPORT. What else the target performs (R298, R299, R307, R309, R312): atomics, messages and their records, and the refusals of requests. -/
set_option Elab.async false
namespace Sys2Proof.Machine

/-! ### Completion records (R312) -/

/-- The record stands in the ring, and the ring's index has passed it. -/
def recordWritten (s : State) (p : Nat) (r : List Byte) : State :=
  wr (ringWrite s p (64 * ringN s p + rdFld s (.rmaCqpi p) 15 0 % ringN s p * 32)
      (r ++ [BitVec.ofNat 8 (boolNat (xor Config.firstPhase (rdFld s (.rmaCqpi p) 15 0 / ringN s p % 2 == 1)))]))
    (.rmaCqpi p) (BitVec.ofNat 32 ((rdFld s (.rmaCqpi p) 15 0 + 1) % 65536))

theorem recordWritten_rma (s : State) (p : Nat) (r : List Byte) : (recordWritten s p r).rma = s.rma :=
  (ringWrite_keeps (.refl s) p (64 * ringN s p + rdFld s (.rmaCqpi p) 15 0 % ringN s p * 32) _ (.self _)).rma.eq rfl

theorem postRecord_eq (s : State) (p : Nat) (r : List Byte) : postRecord s p r =
    if !ringOn s p then s
    else if ringN s p ≤ (rdFld s (.rmaCqpi p) 15 0 + 65536 - rdFld s (.rmaCqci p) 15 0) % 65536 then onRma s fun x => { x with heldRecs := x.heldRecs ++ [(p, r)] }
    else signalFn (recordWritten s p r) (mapGet 0 s.rma.ringFn p) 2 := rfl

/-- Of the engine's state a record posted can touch the records held alone. -/
theorem postRecord_rma (s : State) (p : Nat) (r : List Byte) : (postRecord s p r).rma = { s.rma with heldRecs := (postRecord s p r).rma.heldRecs } := by
  rw [postRecord_eq]
  split
  · rfl
  split
  · rfl
  rw [(signalFn_keeps (.refl (recordWritten s p r)) (mapGet 0 s.rma.ringFn p) 2 (.self _)).rma.eq rfl, recordWritten_rma]

theorem ctxOf_postRecord (s : State) (p : Nat) (r : List Byte) (cid : Nat) : ctxOf (postRecord s p r) cid = ctxOf s cid := by rw [ctxOf, postRecord_rma, ctxOf]

/-- A ring with room takes the record at once. -/
theorem postRecord_room {s : State} {p : Nat} (r : List Byte) (hon : ringOn s p = true)
    (hroom : (rdFld s (.rmaCqpi p) 15 0 + 65536 - rdFld s (.rmaCqci p) 15 0) % 65536 < ringN s p) :
    rdFld (postRecord s p r) (.rmaCqpi p) 15 0 = (rdFld s (.rmaCqpi p) 15 0 + 1) % 65536 ∧ (postRecord s p r).rma = s.rma := by
  rw [postRecord_eq, hon, Bool.not_true, if_neg Bool.false_ne_true, if_neg (Nat.not_le.2 hroom)]
  have hsignal := signalFn_keeps (.refl (recordWritten s p r)) (mapGet 0 s.rma.ringFn p) 2 (.self _)
  refine ⟨?_, (hsignal.rma.eq rfl).trans (recordWritten_rma s p r)⟩
  rw [hsignal.rdFld_eq rfl, rdFld, recordWritten, rd_wr_self, fld_low_half]
  omega

/-- What a record may touch where its ring is in host memory: nothing of the device's own memory. -/
def hostRecordBits : Nat := 0x200000000004000000000000000000000000000000000100600

/-- Records of a ring in host memory leave the device's memory alone. -/
theorem postRecord_hostRing {s : State} {p : Nat} (r : List Byte) (h : bit (rd s (.rmaRctl p)) 30 = false) : Keeps hostRecordBits s (postRecord s p r) := by
  rw [postRecord_eq, recordWritten, ringWrite, h, if_neg Bool.false_ne_true]
  refine .ite (.refl s) (.ite (onRma_keeps (.refl s) _ rfl) ?_)
  exact signalFn_keeps (wr_keeps (hostWrite_keeps (.refl s) _ _ _ _ rfl) _ _ rfl) _ _ rfl

/-! ### Atomics (R298) -/

section
variable {a : Arrival} {s u t : State} {addr : Nat} {f : DWord → Option DWord}

/-- The memory after an atomic: with the new value of its word, where there is one. -/
def wordWritten (s : State) (addr : Nat) : Option DWord → State
  | some w => engineWrite s addr (leBytes 8 w.toNat)
  | none => s

/-- The word at an address after an atomic: the new value where there is one, and otherwise the old one. -/
theorem rdLe_wordWritten (h : ∀ r, regionOf s addr = some r → r < 12 → (pagesOf addr 8).any (cowHeld s r) = false) (w : Option DWord) :
    rdLe (wordWritten s addr w) addr 8 = (w.getD (BitVec.ofNat 64 (rdLe s addr 8))).toNat ∧ (wordWritten s addr w).rma = s.rma := by
  cases w with
  | none =>
    have hlt : rdLe s addr 8 < 2 ^ 64 := by simpa [rdLe] using leNat_lt (rdBytes s addr 8)
    exact ⟨(BitVec.toNat_ofNat _ _ ▸ Nat.mod_eq_of_lt hlt).symm, rfl⟩
  | some w =>
    have hstored : Stored addr (leBytes 8 w.toNat) s (engineWrite s addr (leBytes 8 w.toNat)) := stored_engineWrite (by rw [length_leBytes]; exact h)
    refine ⟨?_, hstored.rma⟩
    have hbytes := hstored.holds.rdBytes
    rw [length_leBytes] at hbytes
    exact (congrArg leNat hbytes).trans ((leNat_leBytes 8 w.toNat).trans (Nat.mod_eq_of_lt w.isLt))

theorem rdLe_keeps {F : Nat} (h : Keeps F s t) (hmem : F.testBit 2 = false) (hfresh : F.testBit 4 = false) (addr n : Nat) : rdLe t addr n = rdLe s addr n := by
  rw [rdLe, rdBytes_of_eq (h.mem.eq hmem) (h.fresh.eq hfresh), rdLe]

/-- A granted atomic leaves the new value, and answers the old one. -/
theorem doAtomic_granted (h : Granted s a 8 addr (fun e => e.atomic) true true) (hver : (ctxOf s a.pkt.cid.toNat).ver = 2)
    (hgoes : (ctxOf s a.pkt.cid.toNat).stopped = false) (hgood : pagesBad s addr 8 = false) : ∃ v, doAtomic a a.pkt.cid.toNat f s = .done v
      ∧ rdLe v addr 8 = ((f (BitVec.ofNat 64 (rdLe s addr 8))).getD (BitVec.ofNat 64 (rdLe s addr 8))).toNat
      ∧ OmfSent v a.pkt.cid.toNat omAtomicResp fun q => q.psn = a.pkt.psn ∧ q.imm = BitVec.ofNat 64 (rdLe s addr 8) := by
  obtain ⟨hword, hrma⟩ := rdLe_wordWritten h.uncopied (f (BitVec.ofNat 64 (rdLe s addr 8)))
  have hdone : doAtomic a a.pkt.cid.toNat f s = .done (sendAtomic (onCtx (wordWritten s addr (f (BitVec.ofNat 64 (rdLe s addr 8)))) a.pkt.cid.toNat fun c =>
      { c with atomics := ((a.pkt.psn.toNat, BitVec.ofNat 64 (rdLe s addr 8)) :: c.atomics).take 8 }) a.pkt.cid.toNat a.pkt.psn.toNat (BitVec.ofNat 64 (rdLe s addr 8))) := by
    rw [doAtomic, h.entry]
    dsimp only
    rw [hgood, if_neg Bool.false_ne_true, h.clean, targetAccess_granted h.path (.inl rfl)]
    rfl
  generalize wordWritten s addr (f (BitVec.ofNat 64 (rdLe s addr 8))) = v at hword hrma hdone
  have hctx : ctxOf v a.pkt.cid.toNat = ctxOf s a.pkt.cid.toNat := by rw [ctxOf, hrma, ctxOf]
  refine ⟨_, hdone, ?_, ?_⟩
  · rw [sendAtomic, rdLe_keeps (sent_sendPkt ..).keeps rfl rfl]
    exact hword
  · refine omfSent_sendPkt ?_ ⟨BitVec.ofNat_toNat .., ?_⟩
    · rw [ctxOf_onCtx_self, hctx]
      exact hgoes
    · rw [stamped, ctxOf_onCtx_self, hctx, hver]
      rfl

/-- An atomic next in order whose operation code stands for `f`. -/
theorem gives_atomic {code : Nat} {perform : State → ReqRes} (ha : Arrives s a) (ho : InOrder s code a) (hg : Granted s a 8 addr (fun e => e.atomic) true true)
    (hver : (ctxOf s a.pkt.cid.toNat).ver = 2) (hgoes : (ctxOf s a.pkt.cid.toNat).stopped = false) (hgood : pagesBad s addr 8 = false)
    (hcode : ∀ u, handlePkt code a a.pkt.cid.toNat u = request code perform a a.pkt.cid.toNat u)
    (hperform : ∀ u, (ctxOf u a.pkt.cid.toNat).ver = 2 → perform u = doAtomic a a.pkt.cid.toNat f u) :
    rdLe (receivePkt code a s) addr 8 = ((f (BitVec.ofNat 64 (rdLe s addr 8))).getD (BitVec.ofNat 64 (rdLe s addr 8))).toNat
      ∧ OmfSent (receivePkt code a s) a.pkt.cid.toNat omAtomicResp fun q => q.psn = a.pkt.psn ∧ q.imm = BitVec.ofNat 64 (rdLe s addr 8) := by
  obtain ⟨u, hu, hrecv⟩ := receivePkt_inOrder ho hcode ha
  have hveru := (hu.field Ctx.ver fun _ _ _ _ _ _ _ => rfl).trans hver
  obtain ⟨v, hdone, hword, hsent⟩ := doAtomic_granted (f := f) (hg.readied hu) hveru ((hu.field Ctx.stopped fun _ _ _ _ _ _ _ => rfl).trans hgoes)
    (by rw [hu.rest.pagesBad_eq, hgood])
  have hold : rdLe u addr 8 = rdLe s addr 8 := by rw [rdLe, hu.rest.rdBytes_eq, rdLe]
  rw [hold] at hword hsent
  rw [hrecv, hperform u hveru, hdone]
  have ht := concluded_done a v
  exact ⟨(rdLe_keeps ht.keeps rfl rfl addr 8).trans hword, hsent.mono ht.frames⟩

theorem immOf_ver2 {c : Ctx} (h : c.ver = 2) (a : Arrival) : immOf c a = a.pkt.imm := by rw [immOf, h]; rfl

section
variable (ha : Arrives s a) (hg : Granted s a 8 addr (fun e => e.atomic) true true) (hver : (ctxOf s a.pkt.cid.toNat).ver = 2)
  (hgoes : (ctxOf s a.pkt.cid.toNat).stopped = false) (hgood : pagesBad s addr 8 = false)
include ha hg hver hgoes hgood

theorem gives_omfFadd (ho : InOrder s omFadd a) : Gives s (.omfFadd a) fun t => rdLe t addr 8 = (rdLe s addr 8 + a.pkt.imm.toNat) % 2 ^ 64
    ∧ OmfSent t a.pkt.cid.toNat omAtomicResp fun q => q.psn = a.pkt.psn ∧ q.imm = BitVec.ofNat 64 (rdLe s addr 8) := by
  obtain ⟨hword, hsent⟩ := gives_atomic (f := fun old => some (old + a.pkt.imm)) ha ho hg hver hgoes hgood (handlePkt_fadd a _) fun u hu => by
    rw [doFadd, immOf_ver2 hu]
  refine ⟨_, rfl, hword.trans ?_, hsent⟩
  simp

theorem gives_omfCswap (ho : InOrder s omCswap a) (hlen : 8 ≤ a.pkt.data.length) : Gives s (.omfCswap a) fun t =>
    rdLe t addr 8 = (if BitVec.ofNat 64 (rdLe s addr 8) = a.pkt.imm then leNat (a.pkt.data.take 8) else rdLe s addr 8)
      ∧ OmfSent t a.pkt.cid.toNat omAtomicResp fun q => q.psn = a.pkt.psn ∧ q.imm = BitVec.ofNat 64 (rdLe s addr 8) := by
  obtain ⟨hword, hsent⟩ := gives_atomic (f := fun old => if old = a.pkt.imm then some (BitVec.ofNat 64 (leNat (a.pkt.data.take 8))) else none)
    ha ho hg hver hgoes hgood (handlePkt_cswap a _) fun u hu => by
      rw [doCswap, immOf_ver2 hu, if_neg (Nat.not_lt.2 hlen)]
  refine ⟨_, rfl, hword.trans ?_, hsent⟩
  have hlow : ∀ {bs : List Byte}, bs.length ≤ 8 → (BitVec.ofNat 64 (leNat bs)).toNat = leNat bs := fun {bs} hbs => by
    rw [BitVec.toNat_ofNat]
    exact Nat.mod_eq_of_lt ((leNat_lt bs).trans_le (Nat.pow_le_pow_right (by decide) hbs))
  split
  · exact hlow (by rw [List.length_take]; exact Nat.min_le_left ..)
  · exact hlow (by rw [length_rdBytes])

end

end

end Sys2Proof.Machine
end
section
/-! SUPPORT. Messages received (R299) and requests refused (R307, R309, R316): O47. -/
set_option Elab.async false
namespace Sys2Proof.Machine

/-! ### Messages (R299) -/

/-- A record of a ring in host memory leaves the device's memory alone. -/
theorem recvRecord_hostRing {s : State} {cid : Nat} (h : bit (rd s (.rmaRctl (ctxOf s cid).owner)) 30 = false) (bytes : Nat) (imm : DWord) (off : Nat) :
    Keeps hostRecordBits s (recvRecord s cid bytes imm off true) :=
  (onRma_keeps (.refl s) _ rfl).trans (postRecord_hostRing (s := onRma s _) _ h)

theorem ctxOf_recvRecord (s : State) (cid bytes : Nat) (imm : DWord) (off : Nat) (slot : Bool) (j : Nat) : ctxOf (recvRecord s cid bytes imm off slot) j = ctxOf s j := by
  rw [recvRecord, ctxOf_postRecord]
  split <;> rfl

section
variable {a : Arrival} {s u : State}

theorem doSend_firmware (h : (ctxOf s a.pkt.cid.toNat).deliver = 2) : doSend a a.pkt.cid.toNat s = .done (toFirmware s a.pkt.cid.toNat a.pkt.data) := by
  simp [doSend, h]

/-- The receive region's entry. -/
def recvEntry (s : State) (c : Ctx) : RegionEntry := mapGet {} s.rma.regions (c.recvKey.toNat % 2 ^ 18)

/-- Messages go to slots of a receive region whose key is the context's. -/
structure Receives (s : State) (c : Ctx) : Prop where
  deliver : c.deliver = 0
  owner : c.owner < 12
  valid : (recvEntry s c).valid = true
  tag : (recvEntry s c).tag = c.recvKey.toNat / 2 ^ 18

theorem doSend_noSlot (h : Receives s (ctxOf s a.pkt.cid.toNat))
    (hfull : (recvEntry s (ctxOf s a.pkt.cid.toNat)).len / max 1 (ctxOf s a.pkt.cid.toNat).mss ≤ (ctxOf s a.pkt.cid.toNat).recvUsed - (ctxOf s a.pkt.cid.toNat).recvFreed) :
    doSend a a.pkt.cid.toNat s = .nak s rsRnr := by
  obtain ⟨hdeliver, howner, hvalid, htag⟩ := h
  rw [doSend]
  dsimp only
  rw [if_neg (by rw [hdeliver]; decide), if_neg (by rw [hdeliver]; decide), if_neg (by omega), if_pos]
  rw [Bool.or_eq_true, decide_eq_true_iff]
  exact .inr hfull

/-- Where the next message goes. -/
def slotOffset (s : State) (c : Ctx) : Nat := c.recvUsed % ((recvEntry s c).len / max 1 c.mss) * c.mss

theorem doSend_slot (h : Receives s (ctxOf s a.pkt.cid.toNat))
    (hroom : (ctxOf s a.pkt.cid.toNat).recvUsed - (ctxOf s a.pkt.cid.toNat).recvFreed < (recvEntry s (ctxOf s a.pkt.cid.toNat)).len / max 1 (ctxOf s a.pkt.cid.toNat).mss)
    {addr : Nat} (haddr : addr = (recvEntry s (ctxOf s a.pkt.cid.toNat)).base + slotOffset s (ctxOf s a.pkt.cid.toNat))
    (hpath : engineMay s (engineFor s (ctxOf s a.pkt.cid.toNat).owner addr) addr a.pkt.data.length true = true) (hclean : a.ecc = .clean)
    (huncopied : ∀ r, regionOf s addr = some r → r < 12 → (pagesOf addr a.pkt.data.length).any (cowHeld s r) = false) :
    ∃ v, Stored addr a.pkt.data s v ∧ doSend a a.pkt.cid.toNat s = .done (recvRecord (onCtx v a.pkt.cid.toNat fun c => { c with recvUsed := c.recvUsed + 1 })
      a.pkt.cid.toNat a.pkt.data.length a.pkt.imm (slotOffset s (ctxOf s a.pkt.cid.toNat)) true) := by
  obtain ⟨hdeliver, howner, hvalid, htag⟩ := h
  refine ⟨_, stored_target huncopied, ?_⟩
  have hslots : max 1 ((recvEntry s (ctxOf s a.pkt.cid.toNat)).len / max 1 (ctxOf s a.pkt.cid.toNat).mss)
      = (recvEntry s (ctxOf s a.pkt.cid.toNat)).len / max 1 (ctxOf s a.pkt.cid.toNat).mss := Nat.max_eq_right (by omega)
  have hlive : ¬(!((recvEntry s (ctxOf s a.pkt.cid.toNat)).valid && (recvEntry s (ctxOf s a.pkt.cid.toNat)).tag == (ctxOf s a.pkt.cid.toNat).recvKey.toNat / 2 ^ 18)
      || decide ((recvEntry s (ctxOf s a.pkt.cid.toNat)).len / max 1 (ctxOf s a.pkt.cid.toNat).mss
        ≤ (ctxOf s a.pkt.cid.toNat).recvUsed - (ctxOf s a.pkt.cid.toNat).recvFreed)) = true := by
    rw [hvalid, htag, beq_self_eq_true, decide_eq_false (Nat.not_le.2 hroom)]
    decide
  rw [doSend]
  dsimp only
  rw [if_neg (by rw [hdeliver]; decide), if_neg (by rw [hdeliver]; decide), if_neg (by omega), ← recvEntry, if_neg hlive, hslots, ← slotOffset, ← haddr, hclean,
    targetAccess_granted (.inr hpath) (.inl rfl)]

theorem Readied.recvEntry_eq (hu : Readied a s u) : recvEntry u (ctxOf u a.pkt.cid.toNat) = recvEntry s (ctxOf s a.pkt.cid.toNat) := by
  have hregions : u.rma.regions = s.rma.regions := by rw [hu.rma]
  rw [recvEntry, hregions, hu.field Ctx.recvKey fun _ _ _ _ _ _ _ => rfl, recvEntry]

theorem Receives.readied (h : Receives s (ctxOf s a.pkt.cid.toNat)) (hu : Readied a s u) : Receives u (ctxOf u a.pkt.cid.toNat) where
  deliver := (hu.field Ctx.deliver fun _ _ _ _ _ _ _ => rfl).trans h.deliver
  owner := by rw [hu.field Ctx.owner fun _ _ _ _ _ _ _ => rfl]; exact h.owner
  valid := by rw [hu.recvEntry_eq]; exact h.valid
  tag := by rw [hu.recvEntry_eq, hu.field Ctx.recvKey fun _ _ _ _ _ _ _ => rfl]; exact h.tag

section
variable (ha : Arrives s a) (ho : InOrder s omSend a)
include ha ho

theorem gives_omfSend_firmware (hdeliver : (ctxOf s a.pkt.cid.toNat).deliver = 2) : Gives s (.omfSend a) fun t =>
    t.rma.fwIn = s.rma.fwIn ++ [(a.pkt.cid.toNat, a.pkt.data)] ∧ (ctxOf t a.pkt.cid.toNat).rxPsn = ((ctxOf s a.pkt.cid.toNat).rxPsn + 1) % 2 ^ 32 ∧ t.mem = s.mem := by
  obtain ⟨u, hu, hrecv⟩ := receivePkt_inOrder ho (handlePkt_send a _) ha
  have ht := concluded_done a (toFirmware u a.pkt.cid.toNat a.pkt.data)
  rw [← doSend_firmware ((hu.field Ctx.deliver fun _ _ _ _ _ _ _ => rfl).trans hdeliver), ← hrecv] at ht
  refine ⟨_, rfl, ?_, ?_, ?_⟩
  · rw [ht.rma, rma_toFirmware, hu.rma]
  · rw [ht.rxPsn, ctxOf_toFirmware, hu.field Ctx.rxPsn fun _ _ _ _ _ _ _ => rfl]
  · rw [ht.keeps.mem.eq rfl, (toFirmware_keeps (.refl u) a.pkt.cid.toNat a.pkt.data (.self _)).mem.eq rfl]
    exact hu.rest.congr State.mem fun _ _ => rfl

theorem gives_omfSend_slot (h : Receives s (ctxOf s a.pkt.cid.toNat))
    (hroom : (ctxOf s a.pkt.cid.toNat).recvUsed - (ctxOf s a.pkt.cid.toNat).recvFreed < (recvEntry s (ctxOf s a.pkt.cid.toNat)).len / max 1 (ctxOf s a.pkt.cid.toNat).mss)
    {addr : Nat} (haddr : addr = (recvEntry s (ctxOf s a.pkt.cid.toNat)).base + slotOffset s (ctxOf s a.pkt.cid.toNat))
    (hpath : engineMay s (engineFor s (ctxOf s a.pkt.cid.toNat).owner addr) addr a.pkt.data.length true = true) (hclean : a.ecc = .clean)
    (huncopied : ∀ r, regionOf s addr = some r → r < 12 → (pagesOf addr a.pkt.data.length).any (cowHeld s r) = false)
    (hhost : bit (rd s (.rmaRctl (ctxOf s a.pkt.cid.toNat).owner)) 30 = false) : Gives s (.omfSend a) fun t =>
    rdBytes t addr a.pkt.data.length = a.pkt.data ∧ (ctxOf t a.pkt.cid.toNat).recvUsed = (ctxOf s a.pkt.cid.toNat).recvUsed + 1 := by
  obtain ⟨u, hu, hrecv⟩ := receivePkt_inOrder ho (handlePkt_send a _) ha
  have howner := hu.field Ctx.owner fun _ _ _ _ _ _ _ => rfl
  have hmss := hu.field Ctx.mss fun _ _ _ _ _ _ _ => rfl
  have hused := hu.field Ctx.recvUsed fun _ _ _ _ _ _ _ => rfl
  obtain ⟨v, hv, hdone⟩ := doSend_slot (addr := addr) (h.readied hu)
    (by rw [hu.recvEntry_eq, hmss, hused, hu.field Ctx.recvFreed fun _ _ _ _ _ _ _ => rfl]; exact hroom)
    (by rw [slotOffset, hu.recvEntry_eq, hmss, hused]; exact haddr)
    (by rw [howner, hu.rest.engineFor_eq, hu.rest.engineMay_eq]; exact hpath) hclean
    (fun r hr => by rw [hu.rest.regionOf_eq] at hr; rw [hu.rest.cowHeld_eq]; exact huncopied r hr)
  rw [hdone] at hrecv
  have hrecord := recvRecord_hostRing (s := onCtx v a.pkt.cid.toNat fun c => { c with recvUsed := c.recvUsed + 1 }) (cid := a.pkt.cid.toNat) (by
    rw [ctxOf_onCtx_self, hv.ctxOf_eq, howner]
    exact (congrArg (bit · 30) ((hv.keeps.rd_eq rfl).trans (hu.rest.rd_eq _))).trans hhost) a.pkt.data.length a.pkt.imm (slotOffset u (ctxOf u a.pkt.cid.toNat))
  have hheld := (hv.holds.of_eq (u := onCtx v a.pkt.cid.toNat fun c => { c with recvUsed := c.recvUsed + 1 }) rfl rfl).keep hrecord rfl rfl
  have ht := concluded_done a (recvRecord (onCtx v a.pkt.cid.toNat fun c => { c with recvUsed := c.recvUsed + 1 }) a.pkt.cid.toNat a.pkt.data.length a.pkt.imm
    (slotOffset u (ctxOf u a.pkt.cid.toNat)) true)
  refine ⟨_, congrArg Host.Outcome.next hrecv, (ht.holds hheld).rdBytes, ?_⟩
  rw [ht.recvUsed, ctxOf_recvRecord, ctxOf_onCtx_self, hv.ctxOf_eq, hused]

end

/-! ### Refusals (R307) -/

/-- A request refused for another reason than RNR: the NAK has gone out, and the next packet is expected. -/
def nakked (s : State) (cid : Nat) (a : Arrival) (reason : Nat) : State :=
  onCtx (sendNak s cid (ctxOf s cid).opFirst reason) cid fun c => { c with rxPsn := (c.rxPsn + 1) % 2 ^ 32, opFailed := !a.pkt.last, opOpen := !a.pkt.last }

/-- An RNR sends the operation back to its start; another refusal passes the packet, and may be a violation.  No crossing's buffer is lost with an operation's first packet. -/
theorem concludeReq_nak {a : Arrival} {reason : Nat} (h : a.pkt.first = true ∨ reason = rsRnr) (cid : Nat) (s : State) : concludeReq cid a (.nak s reason)
    = if reason = rsRnr then onCtx (sendNak s cid (ctxOf s cid).opFirst reason) cid fun c => { c with rxPsn := c.opFirst, opOpen := false }
      else if isViolation reason then violation (nakked s cid a reason) cid a reason else nakked s cid a reason := by
  have hkept : ¬((ctxOf s cid).deliver = 1 ∧ a.pkt.first = false ∧ reason ≠ rsRnr) := fun ⟨_, hnext, hother⟩ =>
    h.elim (fun hfirst => by rw [hfirst] at hnext; exact Bool.noConfusion hnext) hother
  rw [concludeReq]
  cases rxDecl s (ctxOf s cid).owner a.pkt.imm with
  | none => rfl
  | some d =>
    dsimp only
    rw [if_neg hkept]
    rfl

theorem omfSent_sendNak {cid : Nat} (hgoes : (ctxOf s cid).stopped = false) (psn : Word) (reason : Nat) :
    OmfSent (sendNak s cid psn.toNat reason) cid omNak fun q => q.psn = psn ∧ q.oplen = BitVec.ofNat 32 reason :=
  omfSent_sendPkt hgoes ⟨BitVec.ofNat_toNat .., rfl⟩

theorem gives_omfSend_noSlot (ha : Arrives s a) (ho : InOrder s omSend a) (h : Receives s (ctxOf s a.pkt.cid.toNat))
    (hfull : (recvEntry s (ctxOf s a.pkt.cid.toNat)).len / max 1 (ctxOf s a.pkt.cid.toNat).mss ≤ (ctxOf s a.pkt.cid.toNat).recvUsed - (ctxOf s a.pkt.cid.toNat).recvFreed)
    (hfirst : a.pkt.first = true) (hgoes : (ctxOf s a.pkt.cid.toNat).stopped = false) : Gives s (.omfSend a) fun t =>
    t.mem = s.mem ∧ (ctxOf t a.pkt.cid.toNat).rxPsn = (ctxOf s a.pkt.cid.toNat).rxPsn
      ∧ OmfSent t a.pkt.cid.toNat omNak fun q => q.psn = a.pkt.psn ∧ q.oplen = BitVec.ofNat 32 rsRnr := by
  obtain ⟨u, hu, hrecv⟩ := receivePkt_inOrder ho (handlePkt_send a _) ha
  have hnak := doSend_noSlot (h.readied hu) (by
    rw [hu.recvEntry_eq, hu.field Ctx.mss fun _ _ _ _ _ _ _ => rfl, hu.field Ctx.recvUsed fun _ _ _ _ _ _ _ => rfl, hu.field Ctx.recvFreed fun _ _ _ _ _ _ _ => rfl]
    exact hfull)
  have hpsn := hu.opFirst hfirst
  rw [hnak, concludeReq_nak (.inr rfl), if_pos rfl, hpsn] at hrecv
  have hsent : Sent a.pkt.cid.toNat u (sendNak u a.pkt.cid.toNat a.pkt.psn.toNat rsRnr) := sent_sendPkt ..
  refine ⟨_, congrArg Host.Outcome.next hrecv, ?_, ?_, ?_⟩
  · exact (hsent.keeps.mem.eq rfl).trans (hu.rest.congr State.mem fun _ _ => rfl)
  · rw [ctxOf_onCtx_self, hsent.field Ctx.opFirst fun _ _ _ _ _ => rfl, hpsn, ho.next]
  · exact (omfSent_sendNak ((hu.field Ctx.stopped fun _ _ _ _ _ _ _ => rfl).trans hgoes) a.pkt.psn rsRnr).mono (.of_net rfl)

/-! ### Violations (R309) -/

theorem satNat_eq_min (n m : Nat) : satNat n m = min n m := rfl

/-- Since a violation was counted nothing has been written, sent or ended that undoes what it says of the context. -/
structure Noted (cid : Nat) (s t : State) : Prop where
  mem : t.mem = s.mem
  frames : KeepsFrames s t
  count : rd t (.rmaCnt cnViol) = rd s (.rmaCnt cnViol)
  viols : (ctxOf t cid).viols = (ctxOf s cid).viols
  ops : t.rma.ops = s.rma.ops
  waitOps : t.rma.waitOps = s.rma.waitOps

theorem Noted.trans {cid : Nat} {s t u : State} (h : Noted cid s t) (g : Noted cid t u) : Noted cid s u :=
  ⟨g.mem.trans h.mem, h.frames.trans g.frames, g.count.trans h.count, g.viols.trans h.viols, g.ops.trans h.ops, g.waitOps.trans h.waitOps⟩

theorem Sent.noted {cid : Nat} {s t : State} (h : Sent cid s t) : Noted cid s t where
  mem := h.keeps.mem.eq rfl
  frames := h.frames
  count := h.counts _ (by decide)
  viols := h.field Ctx.viols fun _ _ _ _ _ => rfl
  ops := by rw [h.rma]
  waitOps := by rw [h.rma]

theorem noted_onCtx (s : State) (cid : Nat) {f : Ctx → Ctx} (hf : ∀ c, (f c).viols = c.viols) : Noted cid s (onCtx s cid f) :=
  ⟨rfl, .refl s, rfl, by rw [ctxOf_onCtx_self, hf], rfl, rfl⟩

/-- A context without operations ends. -/
theorem endContext_idle {s : State} {cid : Nat} (hops : ∀ o ∈ s.rma.ops, o.cid ≠ cid) (hwaits : ∀ o ∈ s.rma.waitOps, o.cid ≠ cid) (st status : Nat) : endContext s cid st status
    = onCtx s cid fun c => { c with state := st, rekeying := false, nextKeys := false, oldOk := false, paused := false, unacked := 0 } := by
  have hnone : s.rma.ops.filter (fun o => o.cid == cid) = [] := List.filter_eq_nil_iff.2 fun o ho => by simp [hops o ho]
  have hnoWait : s.rma.waitOps.filter (fun o => o.cid == cid) = [] := List.filter_eq_nil_iff.2 fun o ho => by simp [hwaits o ho]
  have hkept : s.rma.waitOps.filter (fun o => o.cid != cid) = s.rma.waitOps := List.filter_eq_self.2 fun o ho => by simp [hwaits o ho]
  simp only [endContext, completeAll, onCtx, onRma, hnone, hnoWait, hkept, List.foldl_nil]

/-- The violation has been counted. -/
def violCounted (s : State) (cid : Nat) : State := count (onCtx s cid fun c => { c with viols := satNat (c.viols + 1) 255 }) (.rmaCnt cnViol) 1

/-- The violation has been counted, and recorded unless one was recorded in the last millisecond. -/
def violRecorded (s : State) (cid : Nat) (a : Arrival) (reason : Nat) : State :=
  if (match (ctxOf s cid).lastViol with | some t => decide (s.tick < t + 1000) | none => false) then violCounted s cid
  else recordEvent (onCtx (violCounted s cid) cid fun c => { c with lastViol := some s.tick }) 0x0801 (if (ctxOf s cid).owner < 12 then (ctxOf s cid).owner else moduleEvent) 2 islPacket
    cid a.pkt.rkey (reason + 256 + a.pkt.roff.toNat % 2 ^ 32 * 65536)

/-- The connection has been closed for its violations. -/
def violClosed (s : State) (cid plot : Nat) : State :=
  let t := sendPkt s cid omClose { barePkt (ctxOf s cid).txPsn with oplen := Config.closeReason 1 }
  recordEvent (endContext t cid cxClosed rsClosed) 0x0802 plot 2 islPacket cid (BitVec.ofNat 32 (ctxOf t cid).viols) 0

theorem violation_eq (s : State) (cid : Nat) (a : Arrival) (reason : Nat) : violation s cid a reason =
    if rdFld s .rmaCfg 31 24 = 0 ∨ (ctxOf (violRecorded s cid a reason) cid).viols < rdFld s .rmaCfg 31 24 then violRecorded s cid a reason
    else violClosed (violRecorded s cid a reason) cid (if (ctxOf s cid).owner < 12 then (ctxOf s cid).owner else moduleEvent) := rfl

theorem noted_violRecorded (s : State) (cid : Nat) (a : Arrival) (reason : Nat) : Noted cid (violCounted s cid) (violRecorded s cid a reason) := by
  unfold violRecorded
  generalize (match (ctxOf s cid).lastViol with | some t => decide (s.tick < t + 1000) | none => false) = quiet
  cases quiet with
  | true => exact (Sent.refl _).noted
  | false =>
    refine .trans ?_ (sent_recordEvent ..).noted
    exact noted_onCtx _ cid fun _ => rfl

theorem noted_violClosed {s : State} {cid : Nat} (hops : s.rma.ops = []) (hwaits : s.rma.waitOps = []) (plot : Nat) :
    Noted cid s (violClosed s cid plot) ∧ (ctxOf (violClosed s cid plot) cid).state = cxClosed := by
  rw [violClosed]
  have hsent := (sent_sendPkt s cid omClose { barePkt (ctxOf s cid).txPsn with oplen := Config.closeReason 1 }).noted
  generalize sendPkt s cid omClose { barePkt (ctxOf s cid).txPsn with oplen := Config.closeReason 1 } = t at hsent
  rw [endContext_idle (by simp [hsent.ops, hops]) (by simp [hsent.waitOps, hwaits])]
  constructor
  · refine .trans ?_ (sent_recordEvent ..).noted
    exact hsent.trans (noted_onCtx t cid fun _ => rfl)
  · rw [(sent_recordEvent cid ..).field Ctx.state fun _ _ _ _ _ => rfl, ctxOf_onCtx_self]

theorem ctxOf_violCounted (s : State) (cid : Nat) : ctxOf (violCounted s cid) cid = { ctxOf s cid with viols := satNat ((ctxOf s cid).viols + 1) 255 } :=
  ctxOf_onCtx_self s cid fun c => { c with viols := satNat (c.viols + 1) 255 }

/-- A violation on a context without operations: counted, and at the limit the connection is closed. -/
theorem violation_idle {s : State} (hops : s.rma.ops = []) (hwaits : s.rma.waitOps = []) (cid : Nat) (a : Arrival) (reason : Nat) :
    Noted cid (violCounted s cid) (violation s cid a reason)
      ∧ (rdFld s .rmaCfg 31 24 ≠ 0 → rdFld s .rmaCfg 31 24 ≤ satNat ((ctxOf s cid).viols + 1) 255 → (ctxOf (violation s cid a reason) cid).state = cxClosed) := by
  have hrecorded := noted_violRecorded s cid a reason
  have hviols : (ctxOf (violRecorded s cid a reason) cid).viols = satNat ((ctxOf s cid).viols + 1) 255 := by rw [hrecorded.viols, ctxOf_violCounted]
  obtain ⟨hclosed, hstate⟩ := noted_violClosed (cid := cid) (hrecorded.ops.trans hops) (hrecorded.waitOps.trans hwaits)
    (if (ctxOf s cid).owner < 12 then (ctxOf s cid).owner else moduleEvent)
  rw [violation_eq, hviols]
  split
  next hbelow => exact ⟨hrecorded, fun hlim hle => by omega⟩
  next => exact ⟨hrecorded.trans hclosed, fun _ _ => hstate⟩

/-! ### Block verbs (R316) -/

theorem handlePkt_blockVerb (code : Fin 4) (cid : Nat) (u : State) : handlePkt (0x30 + code.val) a cid u = request (0x30 + code.val) (fun s => .nak s rsBadOp) a cid u := by
  have hother : ∀ op < 0x30, 0x30 + code.val ≠ op := fun op hop => by omega
  rw [handlePkt]
  iterate 13 rw [if_neg (hother _ (by decide))]

/-- The first packet of an operation that its lengths or its code condemn is refused. -/
theorem request_condemned {code reason : Nat} (hnext : a.pkt.psn.toNat = (ctxOf s a.pkt.cid.toNat).rxPsn) (hfirst : a.pkt.first = true)
    (hfault : ∀ c, requestFault c code a = some reason) (perform : State → ReqRes) :
    request code perform a a.pkt.cid.toNat (authenticated s a) = concludeReq a.pkt.cid.toNat a (.nak (begun (authenticated s a) a) reason) := by
  have hctx : ctxOf (authenticated s a) a.pkt.cid.toNat = _ := ctxOf_onCtx_self s _ _
  have hpsn : a.pkt.psn.toNat = (ctxOf (authenticated s a) a.pkt.cid.toNat).rxPsn := by rw [hctx]; exact hnext
  rw [request]
  dsimp only
  rw [if_pos hpsn, hfirst, Bool.not_true, Bool.and_false, if_neg Bool.false_ne_true, hfault, begun, hfirst]

theorem requestFault_blockVerb (code : Fin 4) (c : Ctx) : requestFault c (0x30 + code.val) a = some rsBadOp :=
  if_pos (.inr (.inr (decide_eq_true (Nat.le_add_right ..))))

theorem gives_blockVerb (code : Fin 4) (ha : Arrives s a) (hnext : a.pkt.psn.toNat = (ctxOf s a.pkt.cid.toNat).rxPsn) (hfirst : a.pkt.first = true)
    (hgoes : (ctxOf s a.pkt.cid.toNat).stopped = false) (hops : s.rma.ops = []) (hwaits : s.rma.waitOps = []) : Gives s (.blockVerb code a) fun t =>
    OmfSent t a.pkt.cid.toNat omNak (fun q => q.psn = a.pkt.psn ∧ q.oplen = BitVec.ofNat 32 rsBadOp) ∧ rd t (.rmaCnt cnViol) = satAdd (rd s (.rmaCnt cnViol)) 1
      ∧ (ctxOf t a.pkt.cid.toNat).viols = min 255 ((ctxOf s a.pkt.cid.toNat).viols + 1) ∧ t.mem = s.mem
      ∧ (rdFld s .rmaCfg 31 24 ≠ 0 → rdFld s .rmaCfg 31 24 ≤ min 255 ((ctxOf s a.pkt.cid.toNat).viols + 1) → (ctxOf t a.pkt.cid.toNat).state = cxClosed) := by
  obtain ⟨u, hu, hrecv⟩ : ∃ u, Readied a s u ∧ receivePkt (0x30 + code.val) a s = concludeReq a.pkt.cid.toNat a (.nak u rsBadOp) :=
    ⟨_, (readied_begun (packetTaken s a) a).of_packetTaken, by rw [receivePkt_arrives ha, handlePkt_blockVerb,
      request_condemned (s := packetTaken s a) hnext hfirst (requestFault_blockVerb code)]⟩
  rw [concludeReq_nak (.inl hfirst), if_neg (by decide), if_pos (by decide), nakked, hu.opFirst hfirst] at hrecv
  have hsent : Sent a.pkt.cid.toNat u (sendNak u a.pkt.cid.toNat a.pkt.psn.toNat rsBadOp) := sent_sendPkt ..
  have hnak := omfSent_sendNak ((hu.field Ctx.stopped fun _ _ _ _ _ _ _ => rfl).trans hgoes) a.pkt.psn rsBadOp
  generalize sendNak u a.pkt.cid.toNat a.pkt.psn.toNat rsBadOp = v at hsent hnak hrecv
  have hviols := (hsent.field Ctx.viols fun _ _ _ _ _ => rfl).trans (hu.field Ctx.viols fun _ _ _ _ _ _ _ => rfl)
  generalize hw : (onCtx v a.pkt.cid.toNat fun c => { c with rxPsn := (c.rxPsn + 1) % 2 ^ 32, opFailed := !a.pkt.last, opOpen := !a.pkt.last }) = w at hrecv
  have hnoted : Noted a.pkt.cid.toNat v w := by rw [← hw]; exact noted_onCtx v _ fun _ => rfl
  have hfrom := hsent.noted.trans hnoted
  obtain ⟨hviol, hcloses⟩ := violation_idle (s := w) (hfrom.ops.trans (by rw [hu.rma]; exact hops)) (hfrom.waitOps.trans (by rw [hu.rma]; exact hwaits)) a.pkt.cid.toNat a rsBadOp
  have hcfg : rdFld w .rmaCfg 31 24 = rdFld s .rmaCfg 31 24 := by
    rw [rdFld, ← hw, rdFld]
    exact congrArg (fld · 31 24) ((hsent.keeps.rd_eq rfl).trans (hu.rest.rd_eq _))
  rw [hcfg, hnoted.viols, hviols, satNat_eq_min, Nat.min_comm] at hcloses
  refine ⟨_, congrArg Host.Outcome.next hrecv, hnak.mono (hnoted.frames.trans (.trans (.of_net rfl) hviol.frames)), ?_, ?_, ?_, hcloses⟩
  · rw [hviol.count, violCounted, count, rd_wr_self]
    exact congrArg (satAdd · 1) (hfrom.count.trans (hu.rest.rd_eq _))
  · rw [hviol.viols, ctxOf_violCounted, hnoted.viols, hviols, satNat_eq_min, Nat.min_comm]
  · exact hviol.mem.trans (hfrom.mem.trans (hu.rest.congr State.mem fun _ _ => rfl))

end

/-- Settles O47: a request next in order is performed in the state that receiving it leaves, and what the target answers is sent at its end. -/
theorem remoteRequests : Obligations.RemoteRequests := by
  unfold Obligations.RemoteRequests
  refine ⟨fun a addr s => ?performed, fun a s => ?message, fun a code s => ?verb⟩
  case performed =>
    intro cid c n ha
    exact ⟨gives_omfWrite ha, gives_omfWriteImm ha, gives_omfReadReq ha, fun ho hg hver hgoes hgood => gives_omfFadd ha hg hver hgoes hgood ho,
      fun ho hg hver hgoes hgood hlen => gives_omfCswap ha hg hver hgoes hgood ho hlen⟩
  case message =>
    intro cid c e ha ho
    exact ⟨gives_omfSend_firmware ha ho,
      fun hdeliver howner hvalid htag hroom hpath hclean huncopied hhost => gives_omfSend_slot ha ho ⟨hdeliver, howner, hvalid, htag⟩ hroom rfl hpath hclean huncopied hhost,
      fun hdeliver howner hvalid htag hfull hfirst hgoes => gives_omfSend_noSlot ha ho ⟨hdeliver, howner, hvalid, htag⟩ hfull hfirst hgoes⟩
  case verb =>
    intro cid c ha hnext hfirst hgoes hops hwaits
    exact gives_blockVerb code ha hnext hfirst hgoes hops hwaits

end Sys2Proof.Machine
end
section
/-! SUPPORT. Operations that end (R306, R307): what the engine's state keeps when a source is told, and contexts with nothing left to send. -/
set_option Elab.async false
namespace Sys2Proof.Machine

/-! ### A source told of its operation's end -/

/-- Of the engine's state the records held alone may differ, and nothing of the network's. -/
structure Told (s t : State) : Prop where
  rma : t.rma = { s.rma with heldRecs := t.rma.heldRecs }
  net : t.net = s.net

namespace Told
variable {s t u : State}

theorem refl (s : State) : Told s s := ⟨rfl, rfl⟩
theorem of_keeps {F : Nat} (h : Keeps F s t) (hrma : F.testBit 20 = false) (hnet : F.testBit 19 = false) : Told s t :=
  ⟨by rw [h.rma.eq hrma], h.net.eq hnet⟩
theorem trans (h : Told s t) (g : Told t u) : Told s u := ⟨g.rma.trans (congrArg (fun r : RmaState => { r with heldRecs := u.rma.heldRecs }) h.rma), g.net.trans h.net⟩
theorem ite {c : Prop} [Decidable c] (ht : Told s t) (hu : Told s u) : Told s (if c then t else u) := by split <;> assumption

theorem ctxs (h : Told s t) : t.rma.ctxs = s.rma.ctxs := by rw [h.rma]
theorem ops (h : Told s t) : t.rma.ops = s.rma.ops := by rw [h.rma]
theorem ringHeld (h : Told s t) : t.rma.ringHeld = s.rma.ringHeld := by rw [h.rma]
theorem ctxOf_eq (h : Told s t) (cid : Nat) : ctxOf t cid = ctxOf s cid := by rw [ctxOf, h.ctxs, ctxOf]

end Told

theorem told_postRecord (s : State) (p : Nat) (r : List Byte) : Told s (postRecord s p r) := ⟨postRecord_rma s p r, (postRecord_keeps (.refl s) p r (.self _)).net.eq rfl⟩

/-- A crossing that learns of an acknowledgement may judge its sender again; any other source is told, and no more. -/
theorem told_finishOp (s : State) {o : RmaOp} {status : Nat} (h : status ≠ rsOk ∨ plainSource o) (result : DWord) : Told s (finishOp s o status result) := by
  unfold finishOp
  refine .ite (.of_keeps (staleResult_keeps (.refl s) o.plot (.self _)) rfl rfl) ?_
  cases hsrc : o.src with
  | ring p wrid signal => exact .ite (.refl s) (told_postRecord ..)
  | storage n => exact .ite (.of_keeps (stgSettled_keeps (.refl s) n (.self _)) rfl rfl) (.of_keeps (stgEnd_keeps (.refl s) n _ _ (.self _)) rfl rfl)
  | firmware => exact .refl s
  | crossing p x inst =>
    rcases h with hother | hfirmware | ⟨_, _, _, hring⟩
    · dsimp only
      rw [if_neg hother]
      exact .refl s
    · exact absurd (hsrc.symm.trans hfirmware) (by simp)
    · exact absurd (hsrc.symm.trans hring) (by simp)

/-! ### Operations dropped -/

/-- Operations may have left the list, and their sources have been told. -/
structure Ends (s t : State) : Prop where
  rma : t.rma = { s.rma with ops := t.rma.ops, heldRecs := t.rma.heldRecs }
  net : t.net = s.net

theorem Ends.trans {s t u : State} (h : Ends s t) (g : Ends t u) : Ends s u :=
  ⟨g.rma.trans (congrArg (fun r : RmaState => { r with ops := u.rma.ops, heldRecs := u.rma.heldRecs }) h.rma), g.net.trans h.net⟩

theorem Told.ends {s t : State} (h : Told s t) : Ends s t := by
  have hops := h.ops
  refine ⟨?_, h.net⟩
  rw [h.rma]

theorem ends_completeOp (s : State) {o : RmaOp} {status : Nat} (h : status ≠ rsOk ∨ plainSource o) (result : DWord) :
    Ends s (completeOp s o status result) ∧ (completeOp s o status result).rma.ops = s.rma.ops.filter fun x => x.slot != o.slot := by
  have htold : Told (dropOp s o) (completeOp s o status result) := told_finishOp (dropOp s o) h result
  have hdrop : Ends s (dropOp s o) := ⟨rfl, rfl⟩
  exact ⟨hdrop.trans htold.ends, htold.ops⟩

/-- The one operation there is leaves an empty list. -/
theorem ops_completeOp_single {s : State} {o x : RmaOp} (hops : s.rma.ops = [x]) (hslot : x.slot = o.slot) {status : Nat} (h : status ≠ rsOk ∨ plainSource o) (result : DWord) :
    (completeOp s o status result).rma.ops = [] := by
  rw [(ends_completeOp s h result).2, hops]
  simp [hslot]

theorem ends_completed (status : Nat) (h : status ≠ rsOk) (l : List RmaOp) (s : State) :
    Ends s (l.foldl (fun s o => completeOp s o status 0) s) ∧
      ∀ x ∈ (l.foldl (fun s o => completeOp s o status 0) s).rma.ops, x ∈ s.rma.ops ∧ ∀ o ∈ l, x.slot ≠ o.slot := by
  induction l generalizing s with
  | nil => exact ⟨⟨rfl, rfl⟩, fun x hx => ⟨hx, fun o ho => absurd ho List.not_mem_nil⟩⟩
  | cons o rest ih =>
    obtain ⟨hends, hops⟩ := ends_completeOp s (o := o) (.inl h) 0
    obtain ⟨hrest, hleft⟩ := ih (completeOp s o status 0)
    refine ⟨hends.trans hrest, fun x hx => ?_⟩
    obtain ⟨hin, hout⟩ := hleft x hx
    rw [hops, List.mem_filter, bne_iff_ne] at hin
    exact ⟨hin.1, List.forall_mem_cons.2 ⟨hin.2, hout⟩⟩

theorem told_finished (status : Nat) (h : status ≠ rsOk) (l : List RmaOp) (s : State) : Told s (l.foldl (fun s o => finishOp s o status 0) s) := by
  induction l generalizing s with
  | nil => exact .refl s
  | cons o rest ih => exact (told_finishOp s (.inl h) 0).trans (ih _)

/-- A connection has left OPEN: its context stands in another state, no operation of it is left, and of the engine's state the records held alone differ besides. -/
structure EndedCtx (cid st : Nat) (s t : State) : Prop where
  rma : t.rma = { s.rma with ctxs := t.rma.ctxs, ops := t.rma.ops, waitOps := s.rma.waitOps.filter (fun o => o.cid != cid), heldRecs := t.rma.heldRecs }
  net : t.net = s.net
  ops : ∀ o ∈ t.rma.ops, o ∈ s.rma.ops ∧ o.cid ≠ cid
  ctx : ctxOf t cid = { ctxOf s cid with state := st, rekeying := false, nextKeys := false, oldOk := false, paused := false, unacked := 0 }

theorem endedCtx_endContext (s : State) (cid st : Nat) {status : Nat} (h : status ≠ rsOk) : EndedCtx cid st s (endContext s cid st status) := by
  rw [endContext, completeAll]
  have hctx := ctxOf_onCtx_self s cid fun c => { c with state := st, rekeying := false, nextKeys := false, oldOk := false, paused := false, unacked := 0 }
  have hrma : (onCtx s cid fun c => { c with state := st, rekeying := false, nextKeys := false, oldOk := false, paused := false, unacked := 0 }).rma
      = { s.rma with ctxs := (onCtx s cid fun c => { c with state := st, rekeying := false, nextKeys := false, oldOk := false, paused := false, unacked := 0 }).rma.ctxs } := rfl
  have hnet : (onCtx s cid fun c => { c with state := st, rekeying := false, nextKeys := false, oldOk := false, paused := false, unacked := 0 }).net = s.net := rfl
  generalize (onCtx s cid fun c => { c with state := st, rekeying := false, nextKeys := false, oldOk := false, paused := false, unacked := 0 }) = u at hctx hrma hnet
  obtain ⟨hends, hleft⟩ := ends_completed status h (u.rma.ops.filter fun o => o.cid == cid) (onRma u fun r => { r with waitOps := r.waitOps.filter fun o => o.cid != cid })
  have htold := told_finished status h (u.rma.waitOps.filter fun o => o.cid == cid) ((u.rma.ops.filter fun o => o.cid == cid).foldl (fun s o => completeOp s o status 0)
    (onRma u fun r => { r with waitOps := r.waitOps.filter fun o => o.cid != cid }))
  refine ⟨?_, htold.net.trans (hends.net.trans hnet), fun o ho => ?_, ?_⟩
  · have hbegin : (onRma u fun r => { r with waitOps := r.waitOps.filter fun o => o.cid != cid }).rma
        = { s.rma with ctxs := u.rma.ctxs, waitOps := s.rma.waitOps.filter fun o => o.cid != cid } := by
      rw [onRma, hrma]
    rw [(hends.trans htold.ends).rma, hbegin]
  · rw [htold.ops] at ho
    obtain ⟨hin, hout⟩ := hleft o ho
    refine ⟨?_, fun hcid => hout o (List.mem_filter.2 ⟨hin, beq_iff_eq.2 hcid⟩) rfl⟩
    have hops : u.rma.ops = s.rma.ops := by rw [hrma]
    exact hops ▸ hin
  · rw [htold.ctxOf_eq, ctxOf, hends.rma]
    exact hctx

/-! ### Nothing left to do -/

/-- Where no ring is held by a fence, ended operations start nothing. -/
theorem unfenceAll_none {s : State} (h : s.rma.ringHeld = []) : unfenceAll s = s := forAll_id fun p _ => by rw [unfence, h]; rfl

/-- A context without operations sends nothing. -/
theorem pumpCtx_none {s : State} {cid : Nat} (h : ∀ o ∈ s.rma.ops, o.cid ≠ cid) : pumpCtx s cid = s := by
  have hnone : pumpOne s cid = none := by
    have hfind : s.rma.ops.find? (fun o => o.cid == cid && !o.settling && decide (o.sent < opPackets (ctxOf s cid).mss o)) = none :=
      List.find?_eq_none.2 fun o ho => by simp [h o ho]
    rw [pumpOne]
    dsimp only
    rw [hfind]
    exact ite_self none
  have hany : ¬s.rma.ops.any (fun o => o.cid == cid) = true := by
    rw [List.any_eq_true]
    exact fun ⟨o, ho, hcid⟩ => h o ho (beq_iff_eq.1 hcid)
  rw [pumpCtx, if_neg hany]
  split
  · rw [pumpTurns, pump, hnone]
  · rfl

end Sys2Proof.Machine
end
section
/-! SUPPORT. What the initiator learns of its operations (R297 to R299, R301, R307): O48. -/
set_option Elab.async false
namespace Sys2Proof.Machine

/-! ### The state in which an answer is acted on -/

/-- Of the state and the context only what accepting a packet keeps has changed: cache and replay window. -/
structure Accepted (a : Arrival) (s u : State) : Prop where
  rest : EngineOnly s u
  rma : u.rma = { s.rma with ctxs := u.rma.ctxs, cached := u.rma.cached }
  ctx : ctxOf u a.pkt.cid.toNat = { ctxOf s a.pkt.cid.toNat with rxHi := (ctxOf u a.pkt.cid.toNat).rxHi, rxWin := (ctxOf u a.pkt.cid.toNat).rxWin }

section
variable {a : Arrival} {s u : State}

theorem Accepted.field {α : Type} (h : Accepted a s u) (p : Ctx → α) (hp : ∀ c hi win, p { c with rxHi := hi, rxWin := win } = p c) :
    p (ctxOf u a.pkt.cid.toNat) = p (ctxOf s a.pkt.cid.toNat) := (congrArg p h.ctx).trans (hp _ _ _)

theorem Accepted.ops (h : Accepted a s u) : u.rma.ops = s.rma.ops := by rw [h.rma]
theorem Accepted.ringHeld (h : Accepted a s u) : u.rma.ringHeld = s.rma.ringHeld := by rw [h.rma]

theorem accepted (s : State) (a : Arrival) : Accepted a s (authenticated (packetTaken s a) a) where
  rest := .onCtx ⟨_, _, rfl⟩ _ _
  rma := rfl
  ctx := by
    rw [authenticated, ctxOf_onCtx_self]
    rfl

/-- A packet that arrives is acted on in the state that accepting it leaves. -/
theorem receivePkt_accepted (h : Arrives s a) (code : Nat) : ∃ u, Accepted a s u ∧ receivePkt code a s = handlePkt code a a.pkt.cid.toNat u :=
  ⟨_, accepted s a, receivePkt_arrives h code⟩

theorem handlePkt_readResp (a : Arrival) (cid : Nat) (s : State) : handlePkt omReadResp a cid s = unfenceAll (rxReadResp a cid s) := by
  rw [handlePkt]
  iterate 6 rw [if_neg (by decide)]
  rw [if_pos rfl]

theorem handlePkt_atomicResp (a : Arrival) (cid : Nat) (s : State) : handlePkt omAtomicResp a cid s = unfenceAll (rxAtomicResp a cid s) := by
  rw [handlePkt]
  iterate 7 rw [if_neg (by decide)]
  rw [if_pos rfl]

theorem handlePkt_ack (a : Arrival) (cid : Nat) (s : State) : handlePkt omAck a cid s = rxAck a cid s := by
  rw [handlePkt]
  iterate 8 rw [if_neg (by decide)]
  rw [if_pos rfl]

theorem handlePkt_nak (a : Arrival) (cid : Nat) (s : State) : handlePkt omNak a cid s = rxNak a cid s := by
  rw [handlePkt]
  iterate 9 rw [if_neg (by decide)]
  rw [if_pos rfl]

end

/-! ### One operation outstanding -/

/-- One operation is outstanding, of a source that is told its end and no more, and no ring is held by a fence. -/
structure Alone (s : State) (o : RmaOp) (cid : Nat) : Prop where
  ops : s.rma.ops = [o]
  cid : o.cid = cid
  settling : o.settling = false
  plain : plainSource o
  ringHeld : s.rma.ringHeld = []

section
variable {a : Arrival} {s u t : State} {o : RmaOp} {cid : Nat}

theorem Alone.mine (h : Alone s o cid) : s.rma.ops.filter (fun o => o.cid == cid) = [o] := by simp [h.ops, h.cid]

theorem Alone.accepted (h : Alone s o a.pkt.cid.toNat) (hu : Accepted a s u) : Alone u o a.pkt.cid.toNat :=
  ⟨hu.ops.trans h.ops, h.cid, h.settling, h.plain, hu.ringHeld.trans h.ringHeld⟩

theorem ops_putOp_single {x : RmaOp} (hops : s.rma.ops = [o]) (hslot : x.slot = o.slot) : (putOp s x).rma.ops = [x] := by
  simp [putOp, onRma, hops, hslot]

theorem showDone_plain (h : plainSource o) (s : State) (bytes : Nat) : showDone s o bytes = s := by
  rcases h with hsrc | ⟨_, _, _, hsrc⟩ <;> rw [showDone, hsrc]

theorem ringHeld_completeOp {status : Nat} (h : status ≠ rsOk ∨ plainSource o) (result : DWord) : (completeOp s o status result).rma.ringHeld = s.rma.ringHeld := by
  rw [(ends_completeOp s h result).1.rma]

/-- Firmware is told nothing that touches memory. -/
theorem keeps_completeOp_firmware (h : o.src = .firmware) (status : Nat) (result : DWord) :
    Keeps 0x200000000000000000000000000000000000000000000100000 s (completeOp s o status result) := by
  rw [completeOp, finishOp, h]
  exact .ite (staleResult_keeps (onRma_keeps (.refl s) _ rfl) _ rfl) (onRma_keeps (.refl s) _ rfl)

/-! ### Responses (R297) -/

/-- The data of a response that is next in order for an operation, and may be written. -/
structure Fits (s : State) (o : RmaOp) (a : Arrival) : Prop where
  code : o.code = omReadReq
  psn : o.firstPsn = some a.pkt.psn.toNat
  within : o.got + a.pkt.data.length ≤ o.len
  next : a.pkt.roff.toNat = o.roff + o.got
  host : o.host = false
  some : 1 ≤ a.pkt.data.length
  current : o.plot < 12 → rdFld s (.pltGen o.plot) 15 0 = o.gen
  path : engineMay s (engineFor s o.plot (o.laddr + o.got)) (o.laddr + o.got) a.pkt.data.length true = true
  clean : a.ecc = .clean
  uncopied : ∀ r, regionOf s (o.laddr + o.got) = .some r → r < 12 → (pagesOf (o.laddr + o.got) a.pkt.data.length).any (cowHeld s r) = false

theorem Fits.accepted (h : Fits s o a) (hu : Accepted a s u) : Fits u o a where
  code := h.code
  psn := h.psn
  within := h.within
  next := h.next
  host := h.host
  some := h.some
  current hplot := (congrArg (fld · 15 0) (hu.rest.rd_eq _)).trans (h.current hplot)
  path := by rw [hu.rest.engineFor_eq, hu.rest.engineMay_eq]; exact h.path
  clean := h.clean
  uncopied r hr hlt := by
    rw [hu.rest.regionOf_eq] at hr
    rw [hu.rest.cowHeld_eq]
    exact h.uncopied r hr hlt

theorem putLocal_fits (h : Fits s o a) (hsettling : o.settling = false) :
    ∃ v, Stored (o.laddr + o.got) a.pkt.data s v ∧ putLocal s o a.pkt.data a.ecc = some v := by
  refine ⟨_, stored_engineWrite h.uncopied, ?_⟩
  have hsome : a.pkt.data.isEmpty = false := by
    have hlen := h.some
    rw [Bool.eq_false_iff, ne_eq, List.isEmpty_iff_length_eq_zero]
    omega
  have hclean : memEcc s (o.laddr + o.got) .clean = s := ite_self s
  simp [putLocal, hsettling, hsome, h.host, h.path, h.clean, hclean]

/-- A response in order: its bytes are written, and the operation has come so far. -/
theorem rxReadResp_fits (h : Alone s o cid) (hf : Fits s o a) : ∃ v, Holds (o.laddr + o.got) a.pkt.data s v
    ∧ v.rma.ops = [{ o with got := o.got + a.pkt.data.length, acked := 1 }] ∧ v.rma.ringHeld = []
    ∧ rxReadResp a cid s = if o.len ≤ o.got + a.pkt.data.length then completeOp v { o with got := o.got + a.pkt.data.length, acked := 1 } rsOk 0 else v := by
  obtain ⟨v, hv, hput⟩ := putLocal_fits hf h.settling
  have hops : v.rma.ops = [o] := by rw [hv.rma, h.ops]
  have hfind : s.rma.ops.find? (fun o => o.cid == cid && (o.code == omReadReq || o.code == 0x30) && o.firstPsn == some a.pkt.psn.toNat) = some o := by
    rw [h.ops]
    simp [h.cid, hf.code, hf.psn]
  have hcurrent : ¬(decide (o.plot < 12) && rdFld s (.pltGen o.plot) 15 0 != o.gen) = true := by
    rw [Bool.and_eq_true, decide_eq_true_iff, bne_iff_ne]
    exact fun ⟨hplot, hne⟩ => hne (hf.current hplot)
  refine ⟨putOp (onCtx v cid fun c => { c with retries := 0 }) { o with got := o.got + a.pkt.data.length, acked := 1 }, hv.holds.of_eq rfl rfl, ops_putOp_single hops rfl, ?_, ?_⟩
  · exact (congrArg RmaState.ringHeld hv.rma).trans h.ringHeld
  · have hsettled : settledOp { o with got := o.got + a.pkt.data.length, acked := 1 } = false := by rw [settledOp, h.settling, Bool.false_and]
    have hplain : plainSource { o with got := o.got + a.pkt.data.length, acked := 1 } := h.plain
    have hverb : o.code ≠ 0x30 := by rw [hf.code]; decide
    rw [rxReadResp, hfind]
    dsimp only
    rw [if_neg (Nat.not_lt.2 hf.within), if_neg hverb, if_neg (not_not_intro hf.next), if_neg hcurrent, hput]
    dsimp only
    rw [showDone_plain hplain, hsettled]
    simp only [Bool.false_eq_true, or_false]

section
variable (ha : Arrives s a) (h : Alone s o a.pkt.cid.toNat)
include ha h

theorem gives_omfReadResp_part (hf : Fits s o a) (hmore : o.got + a.pkt.data.length < o.len) : Gives s (.omfReadResp a) fun t =>
    rdBytes t (o.laddr + o.got) a.pkt.data.length = a.pkt.data ∧ t.rma.ops = [{ o with got := o.got + a.pkt.data.length, acked := 1 }] := by
  obtain ⟨u, hu, hrecv⟩ := receivePkt_accepted ha omReadResp
  obtain ⟨v, hv, hops, hrings, hread⟩ := rxReadResp_fits (h.accepted hu) (hf.accepted hu)
  rw [handlePkt_readResp, hread, if_neg (Nat.not_le.2 hmore), unfenceAll_none hrings] at hrecv
  exact ⟨v, congrArg Host.Outcome.next hrecv, hv.rdBytes, hops⟩

theorem gives_omfReadResp_last (hf : Fits s o a) (hall : o.got + a.pkt.data.length = o.len) : Gives s (.omfReadResp a) fun t =>
    t.rma.ops = [] ∧ (o.src = .firmware → rdBytes t (o.laddr + o.got) a.pkt.data.length = a.pkt.data) := by
  obtain ⟨u, hu, hrecv⟩ := receivePkt_accepted ha omReadResp
  obtain ⟨v, hv, hops, hrings, hread⟩ := rxReadResp_fits (h.accepted hu) (hf.accepted hu)
  have hplain : plainSource { o with got := o.got + a.pkt.data.length, acked := 1 } := h.plain
  have hrest := (ringHeld_completeOp (s := v) (status := rsOk) (.inr hplain) 0).trans hrings
  rw [handlePkt_readResp, hread, if_pos (Nat.le_of_eq hall.symm), unfenceAll_none hrest] at hrecv
  have hnone := ops_completeOp_single (o := { o with got := o.got + a.pkt.data.length, acked := 1 }) (status := rsOk) hops rfl (.inr hplain) 0
  exact ⟨_, congrArg Host.Outcome.next hrecv, hnone,
    fun hfirmware => (hv.keep (keeps_completeOp_firmware (o := { o with got := o.got + a.pkt.data.length, acked := 1 }) hfirmware rsOk 0) rfl rfl).rdBytes⟩

/-! ### Atomics answered (R298) -/

/-- The answer of an atomic ends it. -/
theorem receivePkt_atomicResp (hcode : o.code = omFadd ∨ o.code = omCswap) (hpsn : o.firstPsn = some a.pkt.psn.toNat) : ∃ u, Accepted a s u
    ∧ receivePkt omAtomicResp a s = completeOp (onCtx u a.pkt.cid.toNat fun c => { c with retries := 0 }) { o with got := 8, acked := 1 } rsOk a.pkt.imm := by
  obtain ⟨u, hu, hrecv⟩ := receivePkt_accepted ha omAtomicResp
  obtain ⟨hops, hcid, hsettling, hplain, hrings⟩ := h.accepted hu
  have hfind : u.rma.ops.find? (fun x => x.cid == a.pkt.cid.toNat && (x.code == omFadd || x.code == omCswap) && x.firstPsn == some a.pkt.psn.toNat) = some o := by
    rw [hops]
    rcases hcode with hcode | hcode <;> simp [hcid, hcode, hpsn]
  have hplain' : plainSource { o with got := 8, acked := 1 } := hplain
  rw [handlePkt_atomicResp, rxAtomicResp, hfind] at hrecv
  exact ⟨u, hu, hrecv.trans (unfenceAll_none ((ringHeld_completeOp (.inr hplain') _).trans hrings))⟩

theorem gives_omfAtomicResp (hcode : o.code = omFadd ∨ o.code = omCswap) (hpsn : o.firstPsn = some a.pkt.psn.toNat) :
    Gives s (.omfAtomicResp a) fun t => t.rma.ops = [] := by
  obtain ⟨u, hu, hrecv⟩ := receivePkt_atomicResp ha h hcode hpsn
  have hplain : plainSource { o with got := 8, acked := 1 } := h.plain
  have hops : (onCtx u a.pkt.cid.toNat fun c => { c with retries := 0 }).rma.ops = [o] := hu.ops.trans h.ops
  have hnone := ops_completeOp_single (o := { o with got := 8, acked := 1 }) (status := rsOk) hops rfl (.inr hplain) a.pkt.imm
  exact ⟨_, congrArg Host.Outcome.next hrecv, hnone⟩

end

/-- The end of a signalled operation of a ring that may still be told: its record is posted. -/
theorem finishOp_ring {p : Nat} {wrid : DWord} (hsrc : o.src = .ring p wrid true) (hcurrent : rdFld s (.pltGen o.plot) 15 0 = o.gen)
    (hlives : hgen s (mapGet 0 s.rma.ringFn p) = o.hgen) (hmute : o.mute = false) (status : Nat) (result : DWord) :
    finishOp s o status result = postRecord s p (cqRecord wrid status 0 o.cid (opBytes o) result 0) := by
  simp [finishOp, hsrc, hcurrent, hlives, hmute]

theorem gives_omfAtomicResp_ring (ha : Arrives s a) (h : Alone s o a.pkt.cid.toNat) {p : Nat} {wrid : DWord} (hsrc : o.src = .ring p wrid true) (hcode : o.code = omFadd)
    (hpsn : o.firstPsn = some a.pkt.psn.toNat) (hplot : o.plot = p) (hcurrent : rdFld s (.pltGen p) 15 0 = o.gen) (hlives : hgen s (mapGet 0 s.rma.ringFn p) = o.hgen)
    (hmute : o.mute = false) (hon : ringOn s p = true) (hroom : (rdFld s (.rmaCqpi p) 15 0 + 65536 - rdFld s (.rmaCqci p) 15 0) % 65536 < ringN s p) :
    Gives s (.omfAtomicResp a) fun t => rdFld t (.rmaCqpi p) 15 0 = (rdFld s (.rmaCqpi p) 15 0 + 1) % 65536 := by
  obtain ⟨u, hu, hrecv⟩ := receivePkt_atomicResp ha h (.inl hcode) hpsn
  refine ⟨_, congrArg Host.Outcome.next hrecv, ?_⟩
  generalize hw : dropOp (onCtx u a.pkt.cid.toNat fun c => { c with retries := 0 }) { o with got := 8, acked := 1 } = w
  have hrest : EngineOnly s w := by
    rw [← hw]
    exact (hu.rest.onCtx _ _).onRma _
  have hfn : w.rma.ringFn = s.rma.ringFn := by
    rw [← hw]
    exact (congrArg RmaState.ringFn hu.rma).trans rfl
  have hfields : ∀ r, rdFld w r 15 0 = rdFld s r 15 0 := fun r => congrArg (fld · 15 0) (hrest.rd_eq r)
  rw [completeOp, hw, finishOp_ring (p := p) (wrid := wrid) (by exact hsrc)]
  · rw [(postRecord_room _ ?_ ?_).1, hfields]
    · exact (congrArg (bit · 31) (hrest.rd_eq _)).trans hon
    · rw [hfields, hfields, ringN, rdFld.eq_def w, hrest.rd_eq]
      exact hroom
  · exact (hfields _).trans (by rw [hplot]; exact hcurrent)
  · rw [hfn, hgen, hrest.rd_eq]
    exact hlives
  · exact hmute

/-! ### Acknowledgements (R297) -/

theorem chargeSenders_alone (h : Alone s o cid) (waited : Nat) : chargeSenders s cid waited = s := by
  rw [chargeSenders, h.mine, List.foldl_cons, List.foldl_nil]
  rcases h.plain with hsrc | ⟨_, _, _, hsrc⟩ <;> rw [hsrc]

/-- An acknowledgement that covers a write whole completes it. -/
theorem ackUpTo_covers (h : Alone s o cid) {psn : Nat} (hcode : o.code = omWrite) (hall : opPackets (ctxOf s cid).mss o ≤ coveredBy o psn)
    (hmore : o.acked < coveredBy o psn) (hsane : psnBefore (ctxOf s cid).txPsn psn = false) : ackUpTo s cid psn
    = completeOp (putOp (onCtx s cid fun c => { c with retries := 0 }) { o with acked := coveredBy o psn }) { o with acked := coveredBy o psn } rsOk 0 := by
  have hanswered : answered o.code = false := by rw [hcode]; rfl
  have hlast : (settledOp { o with acked := coveredBy o psn } || (!answered o.code && !o.settling
      && decide (opPackets (ctxOf s cid).mss { o with acked := coveredBy o psn } ≤ coveredBy o psn))) = true := by
    rw [Bool.or_eq_true, Bool.and_eq_true, Bool.and_eq_true]
    exact .inr ⟨⟨congrArg not hanswered, congrArg not h.settling⟩, decide_eq_true hall⟩
  have hverb : o.code ≠ 0x31 := by rw [hcode]; decide
  rw [ackUpTo, hsane, if_neg Bool.false_ne_true, h.mine, List.foldl_cons, List.foldl_nil, ackOp,
    Nat.max_eq_right hmore.le]
  dsimp only
  rw [if_neg fun ⟨heq, _⟩ => hmore.ne' heq, if_neg hverb, if_pos hlast]

theorem gives_omfAck (ha : Arrives s a) (h : Alone s o a.pkt.cid.toNat) (hcode : o.code = omWrite)
    (hall : opPackets (ctxOf s a.pkt.cid.toNat).mss o ≤ coveredBy o a.pkt.psn.toNat) (hmore : o.acked < coveredBy o a.pkt.psn.toNat)
    (hsane : psnBefore (ctxOf s a.pkt.cid.toNat).txPsn a.pkt.psn.toNat = false) :
    Gives s (.omfAck a) fun t => t.rma.ops = [] ∧ (ctxOf t a.pkt.cid.toNat).retries = 0 := by
  obtain ⟨u, hu, hrecv⟩ := receivePkt_accepted ha omAck
  have halone := h.accepted hu
  rw [handlePkt_ack, rxAck, chargeSenders_alone halone, ackUpTo_covers halone hcode (by rw [hu.field Ctx.mss fun _ _ _ => rfl]; exact hall) hmore
    (by rw [hu.field Ctx.txPsn fun _ _ _ => rfl]; exact hsane)] at hrecv
  generalize hw : putOp (onCtx u a.pkt.cid.toNat fun c => { c with retries := 0 }) { o with acked := coveredBy o a.pkt.psn.toNat } = w at hrecv
  have hops : w.rma.ops = [{ o with acked := coveredBy o a.pkt.psn.toNat }] := by
    rw [← hw]
    exact ops_putOp_single (s := onCtx u a.pkt.cid.toNat fun c => { c with retries := 0 }) halone.ops rfl
  have hctx : (ctxOf w a.pkt.cid.toNat).retries = 0 := by
    rw [← hw]
    exact congrArg Ctx.retries (ctxOf_onCtx_self u a.pkt.cid.toNat fun c => { c with retries := 0 })
  have hrings : w.rma.ringHeld = [] := by
    rw [← hw]
    exact halone.ringHeld
  have hplain : plainSource { o with acked := coveredBy o a.pkt.psn.toNat } := halone.plain
  have hnone := ops_completeOp_single (status := rsOk) hops rfl (.inr hplain) 0
  obtain ⟨hends, -⟩ := ends_completeOp w (status := rsOk) (.inr hplain) 0
  generalize completeOp w { o with acked := coveredBy o a.pkt.psn.toNat } rsOk 0 = t at hrecv hnone hends
  rw [pumpCtx_none (by rw [hnone]; exact fun _ h => absurd h List.not_mem_nil), unfenceAll_none (by rw [hends.rma]; exact hrings)] at hrecv
  refine ⟨t, congrArg Host.Outcome.next hrecv, hnone, ?_⟩
  rw [ctxOf, hends.rma]
  exact hctx

/-! ### Refusals (R299, R307) -/

/-- The PSN that an operation starts at covers none of its packets. -/
theorem ackUpTo_start (h : Alone s o cid) {psn : Nat} (hpsn : o.firstPsn = some psn) : ackUpTo s cid psn = s := by
  have hnone : coveredBy o psn = 0 := by simp [coveredBy, hpsn]
  rw [ackUpTo]
  split
  · rfl
  · rw [h.mine, List.foldl_cons, List.foldl_nil, ackOp, hnone, Nat.max_eq_left (Nat.zero_le _)]
    dsimp only
    rw [if_pos ⟨rfl, by rw [settledOp, h.settling, Bool.false_and]⟩]

/-- The operation that a NAK names. -/
theorem rxNak_alone (h : Alone s o a.pkt.cid.toNat) (hpsn : o.firstPsn = some a.pkt.psn.toNat) :
    rxNak a a.pkt.cid.toNat s = nakOp a.pkt.cid.toNat s (some o) (a.pkt.oplen.toNat % 256) := by
  have hfind : s.rma.ops.find? (fun x => x.cid == a.pkt.cid.toNat && x.firstPsn == some a.pkt.psn.toNat) = some o := by
    rw [h.ops]
    simp [h.cid, hpsn]
  rw [rxNak, ackUpTo_start h hpsn, hfind]

theorem gives_omfNak_ends (ha : Arrives s a) (h : Alone s o a.pkt.cid.toNat) (hpsn : o.firstPsn = some a.pkt.psn.toNat) (hreason : a.pkt.oplen.toNat % 256 ≠ rsRnr) :
    Gives s (.omfNak a) fun t => t.rma.ops = [] := by
  obtain ⟨u, hu, hrecv⟩ := receivePkt_accepted ha omNak
  have halone := h.accepted hu
  rw [handlePkt_nak, rxNak_alone halone hpsn, nakOp, if_neg hreason] at hrecv
  dsimp only at hrecv
  generalize hw : (if isViolation (a.pkt.oplen.toNat % 256) then recordEvent u 0x0801
      (if (ctxOf u a.pkt.cid.toNat).owner < 12 then (ctxOf u a.pkt.cid.toNat).owner else moduleEvent) 2 islPacket a.pkt.cid.toNat o.rkey
      (a.pkt.oplen.toNat % 256 + o.roff % 2 ^ 32 * 65536) else u) = w at hrecv
  have htold : Told u w := by
    rw [← hw]
    exact .ite (.of_keeps (recordEvent_keeps (.refl u) _ _ _ _ _ _ _ (.self _)) rfl rfl) (.refl u)
  have hplain : plainSource { o with acked := o.sent } := halone.plain
  have hnone := ops_completeOp_single (o := { o with acked := o.sent }) (status := a.pkt.oplen.toNat % 256) (htold.ops.trans halone.ops) rfl (.inr hplain) 0
  obtain ⟨hends, -⟩ := ends_completeOp w (status := a.pkt.oplen.toNat % 256) (.inr hplain) 0
  generalize completeOp w { o with acked := o.sent } (a.pkt.oplen.toNat % 256) 0 = t at hrecv hnone hends
  rw [pumpCtx_none (by rw [hnone]; exact fun _ h => absurd h List.not_mem_nil), unfenceAll_none (by rw [hends.rma]; exact htold.ringHeld.trans halone.ringHeld)] at hrecv
  exact ⟨t, congrArg Host.Outcome.next hrecv, hnone⟩

theorem gives_omfNak_rnr (ha : Arrives s a) (h : Alone s o a.pkt.cid.toNat) (hpsn : o.firstPsn = some a.pkt.psn.toNat) (hreason : a.pkt.oplen.toNat % 256 = rsRnr) :
    Gives s (.omfNak a) fun t => t.rma.ops = [{ o with acked := 0 }] ∧ (ctxOf t a.pkt.cid.toNat).paused = true := by
  obtain ⟨u, hu, hrecv⟩ := receivePkt_accepted ha omNak
  have halone := h.accepted hu
  rw [handlePkt_nak, rxNak_alone halone hpsn, nakOp, if_pos hreason] at hrecv
  refine ⟨_, congrArg Host.Outcome.next hrecv, ops_putOp_single halone.ops rfl, ?_⟩
  rw [ctxOf_onCtx_self]

/-! ### Refusals in clear text (R301) -/

theorem exec_omfRnr (hlive : (ctxOf s a.pkt.cid.toNat).state ≠ cxFree) (htag : (ctxOf s a.pkt.cid.toNat).ctag = a.pkt.ctag.toNat) : exec (.omfRnr a) s = .next
    (if (ctxOf s a.pkt.cid.toNat).recent.any (fun e => e.1 == a.pkt.pctr.toNat && decide (s.tick ≤ e.2 + 2 * rtoUs s)) then
      onCtx { s with net := { s.net with toRma := s.net.toRma.drop 1 } } a.pkt.cid.toNat fun c => { c with paused := true }
    else { s with net := { s.net with toRma := s.net.toRma.drop 1 } }) := by
  have hknown : ¬((ctxOf s a.pkt.cid.toNat).state = cxFree ∨ (ctxOf s a.pkt.cid.toNat).ctag ≠ a.pkt.ctag.toNat) := fun h => h.elim hlive (absurd htag)
  exact congrArg Host.Outcome.next (if_neg hknown)

end

/-- Settles O48: an answer finds the one operation outstanding, and what that operation comes to follows from the packets it covers. -/
theorem remoteAnswers : Obligations.RemoteAnswers := by
  unfold Obligations.RemoteAnswers
  refine ⟨fun a o s => ?answers, fun a s => ?clearText⟩
  case answers =>
    intro cid c ha hops hcid hsettling hplain hrings
    have halone : Alone s o a.pkt.cid.toNat := ⟨hops, hcid, hsettling, hplain, hrings⟩
    refine ⟨fun hcode hpsn hwithin hnext hhost hsome hcurrent hpath hclean huncopied => ?response, gives_omfAtomicResp ha halone,
      fun p wrid hsrc hcode hpsn _ hplot hcurrent hlives hmute hon hroom => gives_omfAtomicResp_ring ha halone hsrc hcode hpsn hplot hcurrent hlives hmute hon hroom,
      gives_omfAck ha halone, fun hpsn => ⟨gives_omfNak_ends ha halone hpsn, gives_omfNak_rnr ha halone hpsn⟩⟩
    have hfits : Fits s o a := ⟨hcode, hpsn, hwithin, hnext, hhost, hsome, hcurrent, hpath, hclean, huncopied⟩
    exact ⟨gives_omfReadResp_part ha halone hfits, gives_omfReadResp_last ha halone hfits⟩
  case clearText =>
    intro cid c hlive htag
    refine ⟨fun hrecent => ⟨_, exec_omfRnr hlive htag, ?_⟩, fun hold => ⟨_, exec_omfRnr hlive htag, ?_⟩⟩
    · rw [if_pos hrecent]
      exact ⟨ctxOf_onCtx_self .., rfl⟩
    · rw [if_neg (by rw [hold]; exact Bool.false_ne_true)]

end Sys2Proof.Machine
end
section
/-! SUPPORT. Connections opened, given new keys, and closed (R291, R292, R295, R309): O49. -/
set_option Elab.async false
namespace Sys2Proof.Machine

/-! ### Messages about the engine -/

section
variable {s u : State} {m : Msg} {type : Nat}

theorem rma_takeRequest (s : State) (m : Msg) (type : Nat) : (takeRequest s m type).rma = s.rma := (takeRequest_keeps (.refl s) m type (.self _)).rma.eq rfl

theorem rma_respond (s : State) (m : Msg) (type status detail : Nat) (payload : List Byte) : (respond s m type status detail payload).rma = s.rma :=
  (respond_keeps (.refl s) m type status detail payload (.self _)).rma.eq rfl

theorem rma_answer (s : State) (o : Nat) (seq : Word) (version type status detail : Nat) (payload : List Byte) : (answer s o seq version type status detail payload).rma = s.rma :=
  (answer_keeps (.refl s) o seq version type status detail payload (.self _)).rma.eq rfl

theorem rma_irqCores (s : State) (cs : List Nat) (v : Nat) : (irqCores s cs v).rma = s.rma := (irqCores_keeps (.refl s) cs v (.self _)).rma.eq rfl

theorem ctxOf_of_rma {t : State} (h : t.rma = s.rma) (cid : Nat) : ctxOf t cid = ctxOf s cid := by rw [ctxOf, h, ctxOf]

theorem freeCtx_of_rma {t : State} (h : t.rma = s.rma) : freeCtx t = freeCtx s := by
  rw [freeCtx, funext fun i => congrArg (fun c : Ctx => c.state == cxFree) (ctxOf_of_rma h i), freeCtx]

theorem connKeyHeld_takeRequest (s : State) (m : Msg) (type : Nat) (keyId : Word) : connKeyHeld (takeRequest s m type) keyId = connKeyHeld s keyId := by
  rw [connKeyHeld, longKey, (takeRequest_keeps (.refl s) m type (.self _)).sec.eq rfl, connKeyHeld, longKey]

/-- A message that its own rule refuses is answered, and the engine's state is as it was. -/
theorem answered_refusal (h : takeRequest s m type = u) (htaken : Taken s m u) (answerType status : Nat) :
    Answered (respond u m answerType status 0 []) m answerType status ∧ (respond u m answerType status 0 []).rma = s.rma :=
  ⟨htaken.answered rfl .., by rw [rma_respond, ← h, rma_takeRequest]⟩

end

/-! ### Set-up packets (R292) -/

section
variable {s t : State} {cid : Nat}

/-- What a context's set-up packet says of it. -/
def openPkt (s : State) (cid : Nat) : OpenPkt :=
  { vmin := 1, vmax := 2, peerCid := BitVec.ofNat 16 cid, peerTag := BitVec.ofNat 16 (ctxOf s cid).ctag, nonce := (ctxOf s cid).nonce, keyId := BitVec.ofNat 32 (ctxOf s cid).keyId, mss := (ctxOf s cid).mss, macOk := true, addr := (ctxOf s cid).peerAddr, port := BitVec.ofNat 16 (ctxOf s cid).peerPort, ipv6 := (ctxOf s cid).ipv6 }

theorem setupSent_sendOpen (s : State) (cid op ver : Nat) : SetupSent (sendOpen s cid op ver) cid op ver fun q => q = openPkt s cid :=
  ⟨_, _, openPkt s cid, frameQueued_placeFrame s _ _, rfl, rfl⟩

theorem rma_sendOpen (s : State) (cid op ver : Nat) : (sendOpen s cid op ver).rma = s.rma := (placeFrame_keeps (.refl s) _ _ (.self _)).rma.eq rfl

theorem SetupSent.imp {op ver : Nat} {P Q : OpenPkt → Prop} (h : SetupSent t cid op ver P) (hPQ : ∀ q, P q → Q q) : SetupSent t cid op ver Q := by
  obtain ⟨k, f, q, hf, hbody, hq⟩ := h
  exact ⟨k, f, q, hf, hbody, hPQ q hq⟩

/-- A context that enters the cache, or finds no place in it, is as it was. -/
theorem ctxOf_cacheIn (s : State) (cid j : Nat) : ctxOf ((cacheIn s cid).getD s) j = ctxOf s j := by
  unfold cacheIn
  split
  · rfl
  split
  · rfl
  split <;> rfl

theorem ctxOf_newKeys (s : State) (cid : Nat) : ctxOf (newKeys s cid) cid = { ctxOf s cid with txKey := (omfKeys s cid 0).1, rxKey := (omfKeys s cid 0).2 } := ctxOf_onCtx_self ..

theorem ctxOf_allocCtx (s : State) (cid : Nat) (f : Ctx → Ctx) : ctxOf (allocCtx s cid f) cid = f { ctag := ((ctxOf s cid).ctag + 1) % 65536 } := ctxOf_onCtx_self ..

/-! ### Opening from this end (R291, R292) -/

/-- The state in which OPEN_REQ is sent. -/
def openingState (s : State) (cid : Nat) (f : Ctx → Ctx) : State :=
  let s1 := allocCtx (draw s) cid f
  let s2 := onCtx s1 cid fun c => { c with mss := mssFor s1 cid }
  (cacheIn s2 cid).getD s2

theorem ctxOf_openingState (s : State) (cid : Nat) (f : Ctx → Ctx) :
    ctxOf (openingState s cid f) cid = { f { ctag := ((ctxOf s cid).ctag + 1) % 65536 } with mss := mssFor (allocCtx (draw s) cid f) cid } := by
  rw [openingState, ctxOf_cacheIn, ctxOf_onCtx_self, ctxOf_allocCtx]
  rfl

section
variable {m : Msg} {addr : BitVec 128} {port : BitVec 16} {keyId recvKey : Word} {deliver : Fin 4} {hostStore ipv6 : Bool} (h : Admitted s m { type := 0x40, vf := true })
include h

theorem gives_rmaOpen (hkey : connKeyHeld s keyId = true) (hfree : freeCtx s = some cid) : Gives s (.rmaOpen m addr port keyId deliver recvKey hostStore ipv6) fun t =>
    (ctxOf t cid).state = cxConnecting ∧ (ctxOf t cid).ctag = ((ctxOf s cid).ctag + 1) % 65536 ∧ (ctxOf t cid).owner = msgOwner m ∧ (ctxOf t cid).peerAddr = addr
      ∧ (ctxOf t cid).deliver = deliver ∧ (ctxOf t cid).recvKey = recvKey
      ∧ SetupSent t cid omOpenReq 0 fun q => q.peerCid = BitVec.ofNat 16 cid ∧ q.peerTag = BitVec.ofNat 16 (((ctxOf s cid).ctag + 1) % 65536) ∧ q.keyId = keyId := by
  refine gives_served rfl h fun u hu _ => ?_
  have hrma : u.rma = s.rma := by rw [← hu, rma_takeRequest]
  rw [← hu, connKeyHeld_takeRequest, hkey, Bool.not_true, if_neg Bool.false_ne_true, hu, freeCtx_of_rma hrma, hfree]
  dsimp only
  rw [← openingState]
  have hctx := ctxOf_openingState u cid fun c => { c with
    initiator := true, nonce := freshNonce u, state := cxConnecting, owner := msgOwner m, peerAddr := addr, peerPort := port.toNat, keyId := keyId.toNat, deliver := deliver, recvKey := recvKey, hostStore := hostStore, ipv6 := ipv6, keySlot := cid, owed := some (m.owner.val, m.seq.toNat, m.version, 0x40) }
  generalize openingState u cid _ = v at hctx
  have hsetup := setupSent_sendOpen v cid omOpenReq 0
  rw [ctxOf_of_rma (rma_sendOpen v cid omOpenReq 0), hctx, ← ctxOf_of_rma hrma]
  refine ⟨rfl, rfl, rfl, rfl, rfl, rfl, hsetup.imp fun q hq => ?_⟩
  rw [hq, openPkt, hctx]
  exact ⟨rfl, rfl, BitVec.ofNat_toNat ..⟩

theorem gives_rmaOpen_noKey (hkey : connKeyHeld s keyId = false) : Gives s (.rmaOpen m addr port keyId deliver recvKey hostStore ipv6) fun t =>
    Answered t m 0x40 stRefused ∧ t.rma = s.rma := by
  refine gives_served rfl h fun u hu htaken => ?_
  have hkey' : connKeyHeld u keyId = false := by rw [← hu, connKeyHeld_takeRequest, hkey]
  rw [hkey', Bool.not_false, if_pos rfl]
  exact answered_refusal hu htaken ..

end

/-! ### Opening from the other end (R292) -/

/-- The state in which OPEN_ACK is sent: the context open at the agreed version, with the keys of its first epoch. -/
def acceptingState (s : State) (cid : Nat) (f : Ctx → Ctx) (mss : Nat) : State :=
  let s1 := allocCtx (draw s) cid f
  let s2 := newKeys (onCtx s1 cid fun c => { c with mss := min mss (mssFor s1 cid) }) cid
  irqCores ((cacheIn s2 cid).getD s2) netCores 16

/-- The context, its keys apart. -/
theorem ctxOf_acceptingState (s : State) (cid : Nat) (f : Ctx → Ctx) (mss : Nat) : ∃ tx rx, ctxOf (acceptingState s cid f mss) cid
    = { f { ctag := ((ctxOf s cid).ctag + 1) % 65536 } with mss := min mss (mssFor (allocCtx (draw s) cid f) cid), txKey := tx, rxKey := rx } := by
  rw [acceptingState, ctxOf_of_rma (rma_irqCores ..), ctxOf_cacheIn, ctxOf_newKeys, ctxOf_onCtx_self, ctxOf_allocCtx]
  exact ⟨_, _, rfl⟩

section
variable {q : OpenPkt} {plot : Fin 13}

theorem gives_openReq_forged (h : q.macOk = false) : Gives s (.openReq q plot) fun t => rd t (.rmaCnt cnAuthfail) = satAdd (rd s (.rmaCnt cnAuthfail)) 1 ∧ t.rma = s.rma := by
  refine ⟨_, congrArg Host.Outcome.next (if_pos (by rw [h]; rfl)), rd_wr_self .., rfl⟩

/-- What an OPEN_REQ that is accepted says of its context. -/
def responder (s : State) (q : OpenPkt) (plot : Fin 13) (cid : Nat) (c : Ctx) : Ctx :=
  { c with state := cxOpen, ver := min q.vmax.toNat 2, owner := plot, peerCid := q.peerCid.toNat, peerTag := q.peerTag.toNat, peerAddr := q.addr, peerPort := q.port.toNat, ipv6 := q.ipv6, keyId := q.keyId.toNat, nonce := freshNonce s, peerNonce := q.nonce, keySlot := cid }

theorem exec_openReq (hmac : q.macOk = true) (hkey : connKeyHeld s q.keyId = true) (hmin : q.vmin.toNat ≤ min q.vmax.toNat 2) (hmax : 1 ≤ q.vmax.toNat)
    (hfree : freeCtx s = some cid) : exec (.openReq q plot) s
    = .next (sendOpen (acceptingState s cid (responder s q plot cid) q.mss) cid omOpenAck (min q.vmax.toNat 2)) := by
  have hexec : exec (.openReq q plot) s = execOpenReq q plot s := rfl
  have hlawful : ¬(!q.macOk || !connKeyHeld s q.keyId) = true := by rw [hmac, hkey]; decide
  have hver : ¬(min q.vmax.toNat 2 < q.vmin.toNat ∨ min q.vmax.toNat 2 < 1) := by omega
  rw [hexec, execOpenReq, if_neg hlawful]
  dsimp only
  rw [if_neg hver, hfree]
  rfl

theorem gives_openReq (hmac : q.macOk = true) (hkey : connKeyHeld s q.keyId = true) (hfree : freeCtx s = some cid) (hmin : q.vmin.toNat ≤ min q.vmax.toNat 2) (hmax : 1 ≤ q.vmax.toNat) :
    Gives s (.openReq q plot) fun t => (ctxOf t cid).state = cxOpen ∧ (ctxOf t cid).ver = min q.vmax.toNat 2
      ∧ (ctxOf t cid).owner = plot ∧ (ctxOf t cid).peerCid = q.peerCid.toNat ∧ (ctxOf t cid).peerTag = q.peerTag.toNat ∧ (ctxOf t cid).mss ≤ q.mss
      ∧ (ctxOf t cid).ctag = ((ctxOf s cid).ctag + 1) % 65536
      ∧ SetupSent t cid omOpenAck (min q.vmax.toNat 2) fun p => p.peerCid = BitVec.ofNat 16 cid ∧ p.keyId = q.keyId := by
  refine ⟨_, exec_openReq hmac hkey hmin hmax hfree, ?_⟩
  obtain ⟨tx, rx, hctx⟩ := ctxOf_acceptingState s cid (responder s q plot cid) q.mss
  generalize acceptingState s cid (responder s q plot cid) q.mss = v at hctx
  have hsetup := setupSent_sendOpen v cid omOpenAck (min q.vmax.toNat 2)
  rw [ctxOf_of_rma (rma_sendOpen v cid omOpenAck _), hctx]
  refine ⟨rfl, rfl, rfl, rfl, rfl, Nat.min_le_left .., rfl, hsetup.imp fun p hp => ?_⟩
  rw [hp, openPkt, hctx]
  exact ⟨rfl, BitVec.ofNat_toNat ..⟩

theorem gives_openReq_noVersion (hmac : q.macOk = true) (hkey : connKeyHeld s q.keyId = true) (hnone : min q.vmax.toNat 2 < q.vmin.toNat) :
    Gives s (.openReq q plot) fun t => t.rma = s.rma ∧ OmfSent t 0 omClose fun p => p.cid = q.peerCid ∧ p.ctag = q.peerTag := by
  have hlawful : ¬(!q.macOk || !connKeyHeld s q.keyId) = true := by rw [hmac, hkey]; decide
  refine ⟨_, congrArg Host.Outcome.next ((if_neg hlawful).trans (if_pos (.inl hnone))), ?_⟩
  have hkeeps := irqCores_keeps (.refl (refuseOpen s q)) netCores 16 (.self _)
  have hsent : OmfSent (refuseOpen s q) 0 omClose fun p => p.cid = q.peerCid ∧ p.ctag = q.peerTag := omfSent_placeFrame s s _ 0 omClose ⟨rfl, rfl⟩
  refine ⟨?_, hsent.mono (.of_net (hkeeps.net.eq rfl))⟩
  rw [rma_irqCores]
  exact (placeFrame_keeps (.refl s) _ _ (.self _)).rma.eq rfl

end

/-! ### The set-up's end (R292) -/

section
variable {index ctag : BitVec 16} {ver : Byte} {q : OpenPkt} (hstate : (ctxOf s index.toNat).state = cxConnecting) (htag : (ctxOf s index.toNat).ctag = ctag.toNat)
include hstate htag

theorem gives_openAck_forged (hmac : q.macOk = false) : Gives s (.openAck index ctag ver q) fun t =>
    t.rma = s.rma ∧ rd t (.rmaCnt cnAuthfail) = satAdd (rd s (.rmaCnt cnAuthfail)) 1 := by
  have hknown : ¬((ctxOf s index.toNat).state ≠ cxConnecting ∨ (ctxOf s index.toNat).ctag ≠ ctag.toNat) := fun h => h.elim (absurd hstate) (absurd htag)
  exact ⟨_, congrArg Host.Outcome.next ((if_neg hknown).trans (if_pos (by rw [hmac]; rfl))), rfl, rd_wr_self ..⟩

/-- The context has opened at the version and the MSS agreed, with the keys of its first epoch. -/
def openedState (s : State) (i ver : Nat) (q : OpenPkt) : State :=
  newKeys (onCtx s i fun c => { c with state := cxOpen, ver := ver, peerCid := q.peerCid.toNat, peerTag := q.peerTag.toNat, mss := min c.mss q.mss, peerNonce := q.nonce, owed := none }) i

/-- The message that asked is answered, which leaves the engine's state alone. -/
theorem exec_openAck (hmac : q.macOk = true) : ∃ v, v.rma = (openedState s index.toNat ver.toNat q).rma ∧ exec (.openAck index ctag ver q) s = .next (irqCores v netCores 16) := by
  have hexec : exec (.openAck index ctag ver q) s = execOpenAck index ctag ver q s := rfl
  have hknown : ¬((ctxOf s index.toNat).state ≠ cxConnecting ∨ (ctxOf s index.toNat).ctag ≠ ctag.toNat) := fun h => h.elim (absurd hstate) (absurd htag)
  have hauthentic : ¬(!q.macOk) = true := by rw [hmac]; decide
  rw [hexec, execOpenAck]
  dsimp only
  rw [if_neg hknown, if_neg hauthentic, ← openedState]
  cases (ctxOf s index.toNat).owed with
  | none => exact ⟨_, rfl, rfl⟩
  | some e =>
    obtain ⟨o, seq, v, ty⟩ := e
    exact ⟨_, rma_answer .., rfl⟩

theorem gives_openAck (hmac : q.macOk = true) : Gives s (.openAck index ctag ver q) fun t =>
    let d := ctxOf t index.toNat
    d.state = cxOpen ∧ d.ver = ver.toNat ∧ d.peerCid = q.peerCid.toNat ∧ d.peerTag = q.peerTag.toNat ∧ d.mss = min (ctxOf s index.toNat).mss q.mss ∧ d.peerNonce = q.nonce
      ∧ d.nonce = (ctxOf s index.toNat).nonce ∧ d.owed = none ∧ d.ctag = (ctxOf s index.toNat).ctag ∧ d.owner = (ctxOf s index.toNat).owner := by
  obtain ⟨v, hv, hexec⟩ := exec_openAck (ver := ver) hstate htag hmac
  refine ⟨_, hexec, ?_⟩
  dsimp only
  rw [ctxOf_of_rma ((rma_irqCores v netCores 16).trans hv), openedState, ctxOf_newKeys, ctxOf_onCtx_self]
  exact ⟨rfl, rfl, rfl, rfl, rfl, rfl, rfl, rfl, rfl, rfl⟩

end

/-! ### Closed and rekeyed by the peer (R292, R295) -/

theorem handlePkt_close (a : Arrival) (cid : Nat) (s : State) : handlePkt omClose a cid s = rxClose a cid s := by
  rw [handlePkt]
  iterate 10 rw [if_neg (by decide)]
  rw [if_pos rfl]

theorem handlePkt_rekey (a : Arrival) (cid : Nat) (s : State) : handlePkt omRekey a cid s = rxRekey a cid s := by
  rw [handlePkt]
  iterate 11 rw [if_neg (by decide)]
  rw [if_pos rfl]

theorem handlePkt_rekeyAck (a : Arrival) (cid : Nat) (s : State) : handlePkt omRekeyAck a cid s = rxRekeyAck a cid s := by
  rw [handlePkt]
  iterate 12 rw [if_neg (by decide)]
  rw [if_pos rfl]

/-- What the next epoch's nonces and keys leave of the context. -/
theorem nextEpoch_field {α : Type} (s : State) (cid : Nat) (own peer : BitVec 128) (p : Ctx → α)
    (hp : ∀ c own peer next tx rx, p { c with nonce := own, peerNonce := peer, nextKeys := next, nextTx := tx, nextRx := rx } = p c) :
    p (ctxOf (nextEpoch s cid own peer) cid) = p (ctxOf s cid) := by
  rw [nextEpoch, ctxOf_onCtx_self, ctxOf_onCtx_self]
  exact hp (ctxOf s cid) _ _ _ _ _

theorem nextKeys_nextEpoch (s : State) (cid : Nat) (own peer : BitVec 128) : (ctxOf (nextEpoch s cid own peer) cid).nextKeys = true := by
  rw [nextEpoch, ctxOf_onCtx_self, ctxOf_onCtx_self]

theorem ctxOf_switchTx (s : State) (cid : Nat) : ctxOf (switchTx s cid) cid = { ctxOf s cid with
    txPhase := !(ctxOf s cid).txPhase, txCtr := 1, stopped := false, warned := false, epoch := (ctxOf s cid).epoch + 1, txKey := (ctxOf s cid).nextTx } :=
  ctxOf_onCtx_self s cid fun c => { c with txPhase := !c.txPhase, txCtr := 1, stopped := false, warned := false, epoch := c.epoch + 1, txKey := c.nextTx }

section
variable {a : Arrival} (ha : Arrives s a)
include ha

theorem gives_omfClose (hrings : s.rma.ringHeld = []) : Gives s (.omfClose a) fun t => (ctxOf t a.pkt.cid.toNat).state = cxClosed ∧ ∀ o ∈ t.rma.ops, o.cid ≠ a.pkt.cid.toNat := by
  obtain ⟨u, hu, hrecv⟩ := receivePkt_accepted ha omClose
  have hended := endedCtx_endContext u a.pkt.cid.toNat cxClosed (status := rsClosed) (by decide)
  rw [handlePkt_close, rxClose] at hrecv
  generalize endContext u a.pkt.cid.toNat cxClosed rsClosed = v at hended hrecv
  rw [unfenceAll_none (by rw [rma_irqCores, hended.rma]; exact hu.ringHeld.trans hrings)] at hrecv
  refine ⟨_, congrArg Host.Outcome.next hrecv, ?_, fun o ho => ?_⟩
  · rw [ctxOf_of_rma (rma_irqCores v netCores 16), hended.ctx]
  · rw [rma_irqCores] at ho
    exact (hended.ops o ho).2

section
variable (hidle : ∀ o ∈ s.rma.ops, o.cid ≠ a.pkt.cid.toNat)
include hidle

theorem gives_rekey (hgoes : (ctxOf s a.pkt.cid.toNat).stopped = false) : Gives s (.rekey a) fun t =>
    (ctxOf t a.pkt.cid.toNat).txPhase = !(ctxOf s a.pkt.cid.toNat).txPhase ∧ (ctxOf t a.pkt.cid.toNat).txCtr = 1
      ∧ (ctxOf t a.pkt.cid.toNat).epoch = (ctxOf s a.pkt.cid.toNat).epoch + 1 ∧ (ctxOf t a.pkt.cid.toNat).nextKeys = true
      ∧ (ctxOf t a.pkt.cid.toNat).txPsn = (ctxOf s a.pkt.cid.toNat).txPsn
      ∧ OmfSent t a.pkt.cid.toNat omRekeyAck fun q => q.kphase = (ctxOf s a.pkt.cid.toNat).txPhase ∧ q.pctr = BitVec.ofNat 64 (ctxOf s a.pkt.cid.toNat).txCtr := by
  obtain ⟨u, hu, hrecv⟩ := receivePkt_accepted ha omRekey
  rw [handlePkt_rekey, rxRekey] at hrecv
  dsimp only at hrecv
  have hops : (nextEpoch (draw u) a.pkt.cid.toNat (freshNonce u) (pktNonce a)).rma.ops = s.rma.ops := hu.ops
  have hphase := (nextEpoch_field (draw u) a.pkt.cid.toNat (freshNonce u) (pktNonce a) Ctx.txPhase fun _ _ _ _ _ _ => rfl).trans (hu.field Ctx.txPhase fun _ _ _ => rfl)
  have hctr := (nextEpoch_field (draw u) a.pkt.cid.toNat (freshNonce u) (pktNonce a) Ctx.txCtr fun _ _ _ _ _ _ => rfl).trans (hu.field Ctx.txCtr fun _ _ _ => rfl)
  have hepoch := (nextEpoch_field (draw u) a.pkt.cid.toNat (freshNonce u) (pktNonce a) Ctx.epoch fun _ _ _ _ _ _ => rfl).trans (hu.field Ctx.epoch fun _ _ _ => rfl)
  have hpsn := (nextEpoch_field (draw u) a.pkt.cid.toNat (freshNonce u) (pktNonce a) Ctx.txPsn fun _ _ _ _ _ _ => rfl).trans (hu.field Ctx.txPsn fun _ _ _ => rfl)
  have hstops := (nextEpoch_field (draw u) a.pkt.cid.toNat (freshNonce u) (pktNonce a) Ctx.stopped fun _ _ _ _ _ _ => rfl).trans ((hu.field Ctx.stopped fun _ _ _ => rfl).trans hgoes)
  have hnext := nextKeys_nextEpoch (draw u) a.pkt.cid.toNat (freshNonce u) (pktNonce a)
  generalize nextEpoch (draw u) a.pkt.cid.toNat (freshNonce u) (pktNonce a) = v at hops hphase hctr hepoch hpsn hstops hnext hrecv
  have hack := omfSent_sendPkt (op := omRekeyAck) (p := { barePkt (ctxOf u a.pkt.cid.toNat).rxPsn with data := leBytes 16 (freshNonce u).toNat })
    (P := fun q => q.kphase = (ctxOf s a.pkt.cid.toNat).txPhase ∧ q.pctr = BitVec.ofNat 64 (ctxOf s a.pkt.cid.toNat).txCtr) hstops ⟨hphase, congrArg (BitVec.ofNat 64) hctr⟩
  have hsent := sent_sendPkt v a.pkt.cid.toNat omRekeyAck { barePkt (ctxOf u a.pkt.cid.toNat).rxPsn with data := leBytes 16 (freshNonce u).toNat }
  generalize sendPkt v a.pkt.cid.toNat omRekeyAck { barePkt (ctxOf u a.pkt.cid.toNat).rxPsn with data := leBytes 16 (freshNonce u).toNat } = w at hack hsent hrecv
  have hkeeps := irqCores_keeps (.refl (switchTx w a.pkt.cid.toNat)) netCores 16 (.self _)
  have hrest : (irqCores (switchTx w a.pkt.cid.toNat) netCores 16).rma.ops = s.rma.ops := by
    rw [rma_irqCores]
    exact (congrArg RmaState.ops hsent.rma).trans hops
  rw [pumpCtx_none (by rw [hrest]; exact hidle)] at hrecv
  refine ⟨_, congrArg Host.Outcome.next hrecv, ?_⟩
  beta_reduce
  rw [ctxOf_of_rma (rma_irqCores (switchTx w a.pkt.cid.toNat) netCores 16), ctxOf_switchTx]
  refine ⟨?_, rfl, ?_, ?_, ?_, hack.mono (.trans (.of_net rfl) (.of_net (hkeeps.net.eq rfl)))⟩
  · exact congrArg not ((hsent.field Ctx.txPhase fun _ _ _ _ _ => rfl).trans hphase)
  · exact congrArg (· + 1) ((hsent.field Ctx.epoch fun _ _ _ _ _ => rfl).trans hepoch)
  · exact (hsent.field Ctx.nextKeys fun _ _ _ _ _ => rfl).trans hnext
  · exact (hsent.field Ctx.txPsn fun _ _ _ _ _ => rfl).trans hpsn

end

end

/-- The acknowledgement of a rekey: the sender has switched, and the message that asked is answered, which leaves the engine's state alone. -/
theorem rxRekeyAck_eq {u : State} (hrekeying : (ctxOf u cid).rekeying = true) (a : Arrival) : ∃ v,
    v.rma = (switchTx (nextEpoch (onCtx u cid fun c => { c with rekeying := false, owed := none }) cid (ctxOf u cid).nonce (pktNonce a)) cid).rma
      ∧ rxRekeyAck a cid u = pumpCtx (irqCores v netCores 16) cid := by
  rw [rxRekeyAck]
  dsimp only
  rw [hrekeying, Bool.not_true, if_neg Bool.false_ne_true]
  cases (ctxOf u cid).owed with
  | none => exact ⟨_, rfl, rfl⟩
  | some e =>
    obtain ⟨o, seq, v, ty⟩ := e
    exact ⟨_, rma_answer .., rfl⟩

theorem gives_rekeyAck {a : Arrival} (ha : Arrives s a) (hidle : ∀ o ∈ s.rma.ops, o.cid ≠ a.pkt.cid.toNat) (hrekeying : (ctxOf s a.pkt.cid.toNat).rekeying = true) :
    Gives s (.rekeyAck a) fun t => (ctxOf t a.pkt.cid.toNat).txPhase = !(ctxOf s a.pkt.cid.toNat).txPhase ∧ (ctxOf t a.pkt.cid.toNat).txCtr = 1
      ∧ (ctxOf t a.pkt.cid.toNat).epoch = (ctxOf s a.pkt.cid.toNat).epoch + 1 ∧ (ctxOf t a.pkt.cid.toNat).rekeying = false
      ∧ (ctxOf t a.pkt.cid.toNat).rxPhase = (ctxOf s a.pkt.cid.toNat).rxPhase ∧ (ctxOf t a.pkt.cid.toNat).txPsn = (ctxOf s a.pkt.cid.toNat).txPsn := by
  obtain ⟨u, hu, hrecv⟩ := receivePkt_accepted ha omRekeyAck
  obtain ⟨v, hv, hack⟩ := rxRekeyAck_eq ((hu.field Ctx.rekeying fun _ _ _ => rfl).trans hrekeying) a
  have hops : (irqCores v netCores 16).rma.ops = s.rma.ops := by
    rw [rma_irqCores, hv]
    exact hu.ops
  rw [handlePkt_rekeyAck, hack, pumpCtx_none (by rw [hops]; exact hidle)] at hrecv
  refine ⟨_, congrArg Host.Outcome.next hrecv, ?_⟩
  have hctx := ctxOf_onCtx_self u a.pkt.cid.toNat fun c => { c with rekeying := false, owed := none }
  beta_reduce
  rw [ctxOf_of_rma ((rma_irqCores v netCores 16).trans hv), ctxOf_switchTx]
  generalize (onCtx u a.pkt.cid.toNat fun c => { c with rekeying := false, owed := none }) = w at hctx
  refine ⟨congrArg not ?_, rfl, congrArg (· + 1) ?_, ?_, ?_, ?_⟩
  · rw [nextEpoch_field w _ _ _ Ctx.txPhase fun _ _ _ _ _ _ => rfl, hctx, hu.field Ctx.txPhase fun _ _ _ => rfl]
  · rw [nextEpoch_field w _ _ _ Ctx.epoch fun _ _ _ _ _ _ => rfl, hctx, hu.field Ctx.epoch fun _ _ _ => rfl]
  · rw [nextEpoch_field w _ _ _ Ctx.rekeying fun _ _ _ _ _ _ => rfl, hctx]
  · rw [nextEpoch_field w _ _ _ Ctx.rxPhase fun _ _ _ _ _ _ => rfl, hctx, hu.field Ctx.rxPhase fun _ _ _ => rfl]
  · rw [nextEpoch_field w _ _ _ Ctx.txPsn fun _ _ _ _ _ _ => rfl, hctx, hu.field Ctx.txPsn fun _ _ _ => rfl]

/-! ### Closed and rekeyed by a message (R291, R295) -/

section
variable {m : Msg} {dcid : Word}

theorem ctxOf_releaseCtx (s : State) (cid : Nat) : ctxOf (releaseCtx s cid) cid = { ctag := (ctxOf s cid).ctag } := ctxOf_onCtx_self s cid fun c => { ctag := c.ctag }

theorem gives_rmaClose (h : Admitted s m { type := 0x41, vf := true }) (hlive : (ctxOf s (dcid.toNat % 65536)).state ≠ cxFree)
    (htag : (ctxOf s (dcid.toNat % 65536)).ctag = dcid.toNat / 65536) (howns : ownsCtx m (ctxOf s (dcid.toNat % 65536)) = true)
    (hidle : ∀ o ∈ s.rma.ops ++ s.rma.waitOps, o.cid ≠ dcid.toNat % 65536) (hrings : s.rma.ringHeld = []) :
    Gives s (.rmaClose m dcid) fun t => (ctxOf t (dcid.toNat % 65536)).state = cxFree ∧ Answered t m 0x41 stOk := by
  refine gives_served rfl h fun u hu htaken => ?_
  generalize dcid.toNat % 65536 = i at hlive htag howns hidle ⊢
  have hrma : u.rma = s.rma := by rw [← hu, rma_takeRequest]
  have hctx := ctxOf_of_rma hrma i
  have hmine : ¬((ctxOf u i).state = cxFree ∨ (ctxOf u i).ctag ≠ dcid.toNat / 65536 ∨ ownsCtx m (ctxOf u i) = false) := by
    rw [hctx, htag, howns]
    simpa using hlive
  dsimp only
  rw [if_neg hmine]
  generalize hv : (if (ctxOf u i).state = cxOpen then sendPkt u i omClose { barePkt (ctxOf u i).txPsn with oplen := Config.closeReason 2 } else u) = v
  have hsent : Sent i u v := by
    rw [← hv]
    exact .ite (sent_sendPkt ..) (.refl u)
  have hsame : v.rma.ops = s.rma.ops ∧ v.rma.waitOps = s.rma.waitOps ∧ v.rma.ringHeld = s.rma.ringHeld := by
    rw [hsent.rma, hrma]
    exact ⟨rfl, rfl, rfl⟩
  obtain ⟨hops, hwaits, hheld⟩ := hsame
  rw [endContext_idle (by rw [hops]; exact fun o ho => hidle o (List.mem_append_left _ ho)) (by rw [hwaits]; exact fun o ho => hidle o (List.mem_append_right _ ho)),
    unfenceAll_none (by exact hheld.trans hrings)]
  have hboxes : v.fw.boxes = u.fw.boxes := congrArg FwState.boxes (hsent.keeps.fw.eq rfl)
  refine ⟨?_, htaken.answered (by exact hboxes) ..⟩
  rw [ctxOf_of_rma (rma_respond ..), ctxOf_releaseCtx]
  rfl

/-- A message that names a context that is FREE, has another tag or another owner is refused. -/
theorem gives_rmaClose_refused (h : Admitted s m { type := 0x41, vf := true })
    (hother : (ctxOf s (dcid.toNat % 65536)).state = cxFree ∨ (ctxOf s (dcid.toNat % 65536)).ctag ≠ dcid.toNat / 65536 ∨ ownsCtx m (ctxOf s (dcid.toNat % 65536)) = false) :
    Gives s (.rmaClose m dcid) fun t => Answered t m 0x41 stRefused ∧ t.rma = s.rma := by
  refine gives_served rfl h fun u hu htaken => ?_
  have hctx : ctxOf u (dcid.toNat % 65536) = ctxOf s (dcid.toNat % 65536) := ctxOf_of_rma (by rw [← hu, rma_takeRequest]) _
  dsimp only
  rw [hctx, if_pos hother]
  exact answered_refusal hu htaken ..

section
variable (h : Admitted s m { type := 0x42, vf := true }) (hopen : (ctxOf s (dcid.toNat % 65536)).state = cxOpen)
  (htag : (ctxOf s (dcid.toNat % 65536)).ctag = dcid.toNat / 65536) (howns : ownsCtx m (ctxOf s (dcid.toNat % 65536)) = true)
include h hopen htag howns

theorem gives_rmaRekey (hidle : (ctxOf s (dcid.toNat % 65536)).rekeying = false) (hgoes : (ctxOf s (dcid.toNat % 65536)).stopped = false) : Gives s (.rmaRekey m dcid) fun t =>
    (ctxOf t (dcid.toNat % 65536)).rekeying = true ∧ (ctxOf t (dcid.toNat % 65536)).txPhase = (ctxOf s (dcid.toNat % 65536)).txPhase
      ∧ OmfSent t (dcid.toNat % 65536) omRekey fun q => q.kphase = (ctxOf s (dcid.toNat % 65536)).txPhase ∧ q.pctr = BitVec.ofNat 64 (ctxOf s (dcid.toNat % 65536)).txCtr := by
  refine gives_served rfl h fun u hu _ => ?_
  generalize dcid.toNat % 65536 = i at hopen htag howns hidle hgoes ⊢
  have hctx : ctxOf u i = ctxOf s i := ctxOf_of_rma (by rw [← hu, rma_takeRequest]) i
  have hmine : ¬((ctxOf u i).state ≠ cxOpen ∨ (ctxOf u i).ctag ≠ dcid.toNat / 65536 ∨ ownsCtx m (ctxOf u i) = false) := by simp [hctx, htag, howns, hopen]
  dsimp only
  rw [if_neg hmine, hctx, hidle, if_neg Bool.false_ne_true]
  have hasked : ctxOf (onCtx (draw u) i fun c => { c with rekeying := true, nonce := freshNonce u, owed := some (m.owner.val, m.seq.toNat, m.version, 0x42) }) i
      = { ctxOf s i with rekeying := true, nonce := freshNonce u, owed := some (m.owner.val, m.seq.toNat, m.version, 0x42) } :=
    (ctxOf_onCtx_self ..).trans (congrArg (fun c : Ctx => { c with rekeying := true, nonce := freshNonce u, owed := some (m.owner.val, m.seq.toNat, m.version, 0x42) }) hctx)
  generalize (onCtx (draw u) i fun c => { c with rekeying := true, nonce := freshNonce u, owed := some (m.owner.val, m.seq.toNat, m.version, 0x42) }) = v at hasked
  have hsent := sent_sendPkt v i omRekey { barePkt (ctxOf s i).txPsn with data := leBytes 16 (freshNonce u).toNat }
  refine ⟨?_, ?_, omfSent_sendPkt (by rw [hasked]; exact hgoes) ?_⟩
  · rw [hsent.field Ctx.rekeying fun _ _ _ _ _ => rfl, hasked]
  · rw [hsent.field Ctx.txPhase fun _ _ _ _ _ => rfl, hasked]
  · rw [stamped, hasked]
    exact ⟨rfl, rfl⟩

theorem gives_rmaRekey_busy (hbusy : (ctxOf s (dcid.toNat % 65536)).rekeying = true) : Gives s (.rmaRekey m dcid) fun t => Answered t m 0x42 stBusy ∧ t.rma = s.rma := by
  refine gives_served rfl h fun u hu htaken => ?_
  have hctx : ctxOf u (dcid.toNat % 65536) = ctxOf s (dcid.toNat % 65536) := ctxOf_of_rma (by rw [← hu, rma_takeRequest]) _
  have hmine : ¬((ctxOf s (dcid.toNat % 65536)).state ≠ cxOpen ∨ (ctxOf s (dcid.toNat % 65536)).ctag ≠ dcid.toNat / 65536 ∨ ownsCtx m (ctxOf s (dcid.toNat % 65536)) = false) := by
    simp [htag, howns, hopen]
  dsimp only
  rw [hctx, if_neg hmine, hbusy, if_pos rfl]
  exact answered_refusal hu htaken ..

end

end

end

/-- Settles O49: a set-up, a rekey and a close each leave the context in the state that the packet they send or answer describes. -/
theorem remoteConnections : Obligations.RemoteConnections := by
  unfold Obligations.RemoteConnections
  refine ⟨fun m addr port keyId deliver recvKey hostStore ipv6 s h => ⟨fun cid => gives_rmaOpen h, gives_rmaOpen_noKey h⟩, fun q plot s => ⟨gives_openReq_forged, fun cid hmac hkey hfree =>
    ⟨gives_openReq hmac hkey hfree, gives_openReq_noVersion hmac hkey⟩⟩, fun cid ctag ver q s => ?ack, fun a s => ?peer, fun m dcid s => ?message⟩
  case ack =>
    intro c hstate htag
    exact ⟨gives_openAck hstate htag, gives_openAck_forged hstate htag⟩
  case peer =>
    intro cid c ha
    exact ⟨fun hrings _ _ => gives_omfClose ha hrings, gives_rekey ha, gives_rekeyAck ha⟩
  case message =>
    intro i c
    exact ⟨fun h => ⟨gives_rmaClose h, gives_rmaClose_refused h⟩, fun h hopen htag howns => ⟨gives_rmaRekey h hopen htag howns, gives_rmaRekey_busy h hopen htag howns⟩⟩

end Sys2Proof.Machine
end
section
/-! SUPPORT. Regions registered and revoked (R303, R305). -/
set_option Elab.async false
namespace Sys2Proof.Machine

/-! ### Answers posted -/

/-- A request that is owed an answer has it posted, with the payload given. -/
theorem posted_answer (s : State) {o : Nat} {seq : Word} (howed : (box s o).requests.any (fun r => r.seq == seq) = true) (version type status detail : Nat) (payload : List Byte) :
    ∃ r ∈ (box (answer s o seq version type status detail payload) o).posted ++ (box (answer s o seq version type status detail payload) o).held,
      r.seq = seq ∧ r.type = type ∧ r.status = status ∧ r.payload = payload := by
  unfold answer
  rw [howed, Bool.not_true, if_neg Bool.false_ne_true]
  exact ⟨_, mem_postMsg _ _ _, rfl, rfl, rfl, rfl⟩

/-! ### Region entries -/

theorem regionEnt_setRegion_self (s : State) (i : Nat) (e : RegionEntry) : regionEnt (setRegion s i e) i = e := by
  rw [regionEnt, setRegion, onRma, mapGet_mapInsert, if_pos rfl]

theorem regionEnt_of_rma {s t : State} (h : t.rma = s.rma) (i : Nat) : regionEnt t i = regionEnt s i := by rw [regionEnt, h, regionEnt]

theorem regionFits_of_regs {s t : State} (h : ∀ r : Reg, r.within 0x1000000000000000000000000004100 = false → rd t r = rd s r) (owner base len : Nat) :
    regionFits t owner base len = regionFits s owner base len := by
  have hctl : ∀ n, rd t (.lpxRgnctl n) = rd s (.lpxRgnctl n) := fun n => h _ rfl
  have hbase : ∀ n, regionBase t n = regionBase s n := fun n => by rw [regionBase, rdFld, h _ rfl, regionBase, rdFld]
  have hsize : ∀ n, regionSize t n = regionSize s n := fun n => by rw [regionSize, rdFld, h _ rfl, regionSize, rdFld]
  have hplot : ∀ p n, inPlot t p n = inPlot s p n := fun p n => by rw [inPlot, h _ rfl, inPlot]
  simp only [regionFits, hctl, hbase, hsize, hplot]

section
variable {s u : State} {m : Msg}

/-! ### Regions registered (R303) -/

section
variable {base len : Nat} {read write atomic : Bool} (h : Admitted s m { type := 0x43, vf := true })
include h

theorem gives_rmaReg_refused (hfits : regionFits s (msgOwner m) base len = false) : Gives s (.rmaReg m base len read write atomic) fun t =>
    Answered t m 0x43 stRefused ∧ t.rma = s.rma := by
  refine gives_served rfl h fun u hu htaken => ?_
  rw [regionFits_of_regs htaken.regs, hfits, Bool.not_false, if_pos rfl]
  exact answered_refusal hu htaken ..

/-- The lowest free entry is registered with its tag raised, and the answer carries its key. -/
theorem gives_rmaReg {i : Nat} (hfits : regionFits s (msgOwner m) base len = true)
    (hfree : (List.range 262144).find? (fun i => !(regionEnt s i).valid && (regionEnt s i).revoking.isNone) = some i) : Gives s (.rmaReg m base len read write atomic) fun t =>
    regionEnt t i = { tag := ((regionEnt s i).tag + 1) % 2 ^ 14, owner := msgOwner m, read := read, write := write, atomic := atomic, valid := true, base := base, len := len }
      ∧ ∃ r ∈ (box t m.owner).posted ++ (box t m.owner).held, r.seq = m.seq ∧ r.status = stOk ∧ r.payload = leBytes 4 (((regionEnt s i).tag + 1) % 2 ^ 14 * 2 ^ 18 + i) := by
  refine gives_served rfl h fun u hu htaken => ?_
  have hrma : u.rma = s.rma := by rw [← hu, rma_takeRequest]
  have hlt : i < 2 ^ 18 := List.mem_range.1 (List.mem_of_find?_eq_some hfree)
  have hfreeU : (List.range 262144).find? (fun i => !(regionEnt u i).valid && (regionEnt u i).revoking.isNone) = some i := by
    simp only [regionEnt_of_rma hrma]
    exact hfree
  rw [regionFits_of_regs htaken.regs, hfits, Bool.not_true, if_neg Bool.false_ne_true, hfreeU]
  dsimp only
  rw [regionEnt_of_rma hrma]
  generalize he : ({ tag := ((regionEnt s i).tag + 1) % 2 ^ 14, owner := msgOwner m, read := read, write := write, atomic := atomic, valid := true, base := base, len := len } : RegionEntry) = e
  have htag : e.tag = ((regionEnt s i).tag + 1) % 2 ^ 14 := by rw [← he]
  have hkey : (regionKey (setRegion u i e) i).toNat = ((regionEnt s i).tag + 1) % 2 ^ 14 * 2 ^ 18 + i := by
    rw [regionKey, regionEnt_setRegion_self, htag, BitVec.toNat_ofNat]
    exact Nat.mod_eq_of_lt (by omega)
  rw [hkey]
  obtain ⟨r, hr, hseq, -, hstatus, hpayload⟩ := posted_answer (setRegion u i e) htaken.owed m.version 0x43 stOk 0 (leBytes 4 (((regionEnt s i).tag + 1) % 2 ^ 14 * 2 ^ 18 + i))
  refine ⟨?_, r, hr, hseq, hstatus, hpayload⟩
  rw [regionEnt_of_rma (rma_respond ..), regionEnt_setRegion_self]

end

/-! ### Regions revoked (R305) -/

section
variable {key : Word} (h : Admitted s m { type := 0x44, vf := true })
include h

theorem gives_rmaRevoke (hvalid : (regionEnt s (key.toNat % 2 ^ 18)).valid = true) (htag : (regionEnt s (key.toNat % 2 ^ 18)).tag = key.toNat / 2 ^ 18)
    (hmine : 1 ≤ m.owner.val → m.owner.val ≤ 12 → (regionEnt s (key.toNat % 2 ^ 18)).owner + 1 = m.owner.val) (hnone : s.rma.revokeWait = [])
    (hroom : s.rma.revocations.length < 64) : Gives s (.rmaRevoke m key) fun t => t.net.stamp = s.net.stamp + 1
      ∧ regionEnt t (key.toNat % 2 ^ 18) = { regionEnt s (key.toNat % 2 ^ 18) with valid := false, revoking := some (s.net.stamp + 1) } := by
  refine gives_served rfl h fun u hu htaken => ?_
  generalize key.toNat % 2 ^ 18 = i at hvalid htag hmine ⊢
  have hrma : u.rma = s.rma := by rw [← hu, rma_takeRequest]
  have hnet : u.net = s.net := by rw [← hu]; exact (takeRequest_keeps (.refl s) m 0x44 (.self _)).net.eq rfl
  have hlawful : ¬(!(regionEnt s i).valid || (regionEnt s i).tag != key.toNat / 2 ^ 18
      || (decide (1 ≤ m.owner.val) && decide (m.owner.val ≤ 12) && (regionEnt s i).owner + 1 != m.owner.val) || u.rma.revokeWait.any (fun v => v.index == i)) = true := by
    rw [hvalid, htag, hrma, hnone]
    simpa using hmine
  dsimp only
  rw [regionEnt_of_rma hrma, if_neg hlawful, startRevoke, if_pos (by rw [hrma]; exact hroom), admitRevoke]
  dsimp only
  rw [regionEnt_setRegion_self]
  refine ⟨congrArg (·.stamp + 1) hnet, ?_⟩
  rw [regionEnt_of_rma (s := s) (by exact hrma), hnet]

theorem gives_rmaRevoke_refused (hother : (regionEnt s (key.toNat % 2 ^ 18)).valid = false ∨ (regionEnt s (key.toNat % 2 ^ 18)).tag ≠ key.toNat / 2 ^ 18) :
    Gives s (.rmaRevoke m key) fun t => Answered t m 0x44 stRefused ∧ t.rma = s.rma := by
  refine gives_served rfl h fun u hu htaken => ?_
  generalize key.toNat % 2 ^ 18 = i at hother ⊢
  have hent : regionEnt u i = regionEnt s i := regionEnt_of_rma (by rw [← hu, rma_takeRequest]) i
  dsimp only
  have hrefused : (!(regionEnt s i).valid || (regionEnt s i).tag != key.toNat / 2 ^ 18 || (decide (1 ≤ m.owner.val) && decide (m.owner.val ≤ 12) && (regionEnt s i).owner + 1 != m.owner.val)
      || u.rma.revokeWait.any (fun v => v.index == i)) = true := by
    rcases hother with hgone | htag
    · rw [hgone, Bool.not_false, Bool.true_or, Bool.true_or, Bool.true_or]
    · rw [bne_iff_ne.2 htag, Bool.or_true, Bool.true_or, Bool.true_or]
  rw [hent, if_pos hrefused]
  exact answered_refusal hu htaken ..

end

/-- The revocation has left the list, and its entry may be registered again. -/
def revokedState (s : State) (v : Revocation) : State :=
  setRegion (onRma s fun r => { r with revocations := r.revocations.filter fun x => x.index != v.index }) v.index { regionEnt s v.index with valid := false, revoking := none, revoked := true }

/-- With none waiting, a revocation ends with its answer. -/
theorem endRevoke_eq {v : Revocation} (hnone : s.rma.revokeWait = []) : endRevoke s v
    = match v.owed with | some (o, seq, ver) => answer (revokedState s v) o (BitVec.ofNat 32 seq) ver 0x44 stOk 0 [] | none => revokedState s v := by
  have hwait : (revokedState s v).rma.revokeWait = [] := hnone
  rw [endRevoke, ← revokedState]
  cases v.owed with
  | none =>
    dsimp only
    rw [hwait]
  | some e =>
    obtain ⟨o, seq, ver⟩ := e
    dsimp only
    rw [rma_answer, hwait]

theorem rma_endRevoke {v : Revocation} (hnone : s.rma.revokeWait = []) : (endRevoke s v).rma = (revokedState s v).rma := by
  rw [endRevoke_eq hnone]
  split
  · exact rma_answer ..
  · rfl

section
variable {index : BitVec 18} {v : Revocation} (hv : s.rma.revocations.find? (fun v => v.index == index.toNat) = some v)
include hv

theorem exec_revokeComplete : exec (.revokeComplete index) s = .next
    (if s.net.toRma.any (fun f => decide (f.stamp < v.stamp)) || s.rma.parked.any (fun q => q.arr.pkt.rkey == regionKey s v.index && decide (q.arr.stamp < v.stamp)) then s
     else endRevoke s v) := by
  have hexec : exec (.revokeComplete index) s = execRevokeComplete index s := rfl
  rw [hexec, execRevokeComplete, hv]

theorem gives_revokeComplete (hnone : s.rma.revokeWait = []) (hparked : s.rma.parked = []) (hframes : s.net.toRma = []) : Gives s (.revokeComplete index) fun t =>
    (regionEnt t index.toNat).valid = false ∧ (regionEnt t index.toNat).revoking = none ∧ (regionEnt t index.toNat).revoked = true
      ∧ t.rma.revocations.all (fun x => x.index != index.toNat) = true
      ∧ ∀ o seq ver, v.owed = some (o, seq, ver) → (box s o).requests.any (fun r => r.seq == BitVec.ofNat 32 seq) = true →
        ∃ r ∈ (box t o).posted ++ (box t o).held, r.seq = BitVec.ofNat 32 seq ∧ r.type = 0x44 ∧ r.status = stOk := by
  have hindex : v.index = index.toNat := by simpa using List.find?_some hv
  refine ⟨_, exec_revokeComplete hv, ?_⟩
  rw [hparked, hframes, List.any_nil, List.any_nil, Bool.or_self, if_neg Bool.false_ne_true]
  have hent : regionEnt (endRevoke s v) index.toNat = { regionEnt s index.toNat with valid := false, revoking := none, revoked := true } := by
    rw [regionEnt_of_rma (rma_endRevoke hnone), revokedState, hindex, regionEnt_setRegion_self]
  beta_reduce
  rw [hent, rma_endRevoke hnone]
  refine ⟨rfl, rfl, rfl, List.all_eq_true.2 fun x hx => ?_, fun o seq ver howed hasked => ?_⟩
  · have hx' : x ∈ s.rma.revocations.filter fun x => x.index != v.index := hx
    rw [hindex] at hx'
    exact (List.mem_filter.1 hx').2
  · rw [endRevoke_eq hnone, howed]
    obtain ⟨r, hr, hseq, htype, hstatus, -⟩ := posted_answer (revokedState s v) (o := o) hasked ver 0x44 stOk 0 []
    exact ⟨r, hr, hseq, htype, hstatus⟩

/-- A packet admitted before the revocation that is still parked holds it up. -/
theorem exec_revokeComplete_parked {q : Parked} (hq : q ∈ s.rma.parked) (hkey : q.arr.pkt.rkey = regionKey s v.index) (hstamp : q.arr.stamp < v.stamp) :
    exec (.revokeComplete index) s = .next s := by
  have hparked : s.rma.parked.any (fun q => q.arr.pkt.rkey == regionKey s v.index && decide (q.arr.stamp < v.stamp)) = true :=
    List.any_eq_true.2 ⟨q, hq, by rw [hkey, beq_self_eq_true, decide_eq_true hstamp]; rfl⟩
  rw [exec_revokeComplete hv, hparked, Bool.or_true, if_pos rfl]

end

end

end Sys2Proof.Machine
end
section
/-! SUPPORT. The operations of RMA_CMD on contexts and region entries (R300, R303, R311): O51. -/
set_option Elab.async false
namespace Sys2Proof.Machine

/-! ### Words of RMA_DATA -/

theorem leAt_leBytes (n v : Nat) (rest : List Byte) : leAt (leBytes n v ++ rest) 0 n = v % 256 ^ n := by
  rw [leAt, List.drop_zero, List.take_left' (length_leBytes n v), leNat_leBytes]

theorem leAt_skip {m off : Nat} (h : m ≤ off) (w : Nat) (rest : List Byte) (n : Nat) : leAt (leBytes m w ++ rest) off n = leAt rest (off - m) n := by
  rw [leAt, List.drop_append, List.drop_of_length_le (by rw [length_leBytes]; exact h), List.nil_append, length_leBytes, leAt]

theorem rd_putRmaData (s : State) {bs : List Byte} {k : Nat} (h : k < bs.length / 4) : rd (putRmaData s bs) (.rmaData k) = BitVec.ofNat 32 (leAt bs (4 * k) 4) := by
  refine forAll_each (P := fun k t => rd t (.rmaData k) = BitVec.ofNat 32 (leAt bs (4 * k) 4)) (fun s n => rd_wr_self ..) (fun s n m hn => ?_) _ s k (List.mem_range.2 h)
  by_cases hmn : m = n
  · subst hmn
    exact rd_wr_self ..
  · exact (rd_wr_ne s _ fun h => hmn (Reg.rmaData.inj h)).trans hn

theorem rma_putRmaData (s : State) (bs : List Byte) : (putRmaData s bs).rma = s.rma := (putRmaData_keeps (.refl s) bs (.self _)).rma.eq rfl

theorem drop_flatMap {α β : Type} {m : Nat} (f : α → List β) (hf : ∀ x, (f x).length = m) (l : List α) (k : Nat) : (l.flatMap f).drop (m * k) = (l.drop k).flatMap f := by
  induction l generalizing k with
  | nil => simp
  | cons x rest ih =>
    cases k with
    | zero => rfl
    | succ k =>
      have hskip : m * (k + 1) = (f x).length + m * k := by rw [hf, Nat.mul_succ, Nat.add_comm]
      rw [List.flatMap_cons, hskip, List.drop_append, List.drop_of_length_le (Nat.le_add_right ..), List.nil_append, Nat.add_sub_cancel_left, ih, List.drop_succ_cons]

/-- From a word on, the bytes of RMA_DATA are those of that word, and what follows. -/
theorem drop_rmaDataBytes (s : State) {k : Nat} (h : k < 64) : (rmaDataBytes s).drop (4 * k) = leBytes 4 (rd s (.rmaData k)).toNat ++ (rmaDataBytes s).drop (4 * (k + 1)) := by
  have hlen : ∀ k, (leBytes 4 (rd s (.rmaData k)).toNat).length = 4 := fun _ => length_leBytes ..
  rw [rmaDataBytes, drop_flatMap _ hlen, drop_flatMap _ hlen, List.drop_eq_getElem_cons (by simpa using h), List.flatMap_cons, List.getElem_range]

theorem leAt_rmaDataBytes (s : State) {k : Nat} (h : k < 64) : leAt (rmaDataBytes s) (4 * k) 4 = (rd s (.rmaData k)).toNat := by
  have hword := leAt_leBytes 4 (rd s (.rmaData k)).toNat ((rmaDataBytes s).drop (4 * (k + 1)))
  rw [← drop_rmaDataBytes s h, leAt, List.drop_zero] at hword
  exact hword.trans (Nat.mod_eq_of_lt (rd s (.rmaData k)).isLt)

theorem leNat_append (as bs : List Byte) : leNat (as ++ bs) = leNat as + 256 ^ as.length * leNat bs := by
  induction as with
  | nil => simp [leNat]
  | cons a rest ih =>
    rw [List.cons_append, leNat, ih, leNat, List.length_cons, Nat.pow_succ]
    ring

/-- Two words of RMA_DATA, the lower one first. -/
theorem leAt_rmaDataBytes_two (s : State) {k : Nat} (h : k + 1 < 64) : leAt (rmaDataBytes s) (4 * k) 8 = (rd s (.rmaData k)).toNat + (rd s (.rmaData (k + 1))).toNat * 2 ^ 32 := by
  have hhigh := leAt_rmaDataBytes s h
  have hlow : leNat (leBytes 4 (rd s (.rmaData k)).toNat) = (rd s (.rmaData k)).toNat := (leNat_leBytes ..).trans (Nat.mod_eq_of_lt (rd s (.rmaData k)).isLt)
  rw [leAt] at hhigh
  rw [leAt, drop_rmaDataBytes s (Nat.lt_of_succ_lt h), List.take_append, length_leBytes, List.take_of_length_le (by rw [length_leBytes]; decide), leNat_append, length_leBytes, hlow, hhigh, Nat.mul_comm]
  rfl

/-- A byte of a word of RMA_DATA. -/
theorem leAt_rmaDataBytes_byte (s : State) {k j : Nat} (h : k < 64) (hj : j < 4) : leAt (rmaDataBytes s) (4 * k + j) 1 = (rd s (.rmaData k)).toNat / 256 ^ j % 256 := by
  have hbyte : leAt (leBytes 4 (rd s (.rmaData k)).toNat ++ (rmaDataBytes s).drop (4 * (k + 1))) j 1 = (rd s (.rmaData k)).toNat / 256 ^ j % 256 := by
    interval_cases j <;> simp [leAt, leBytes, leNat, Nat.div_div_eq_div_mul]
  rw [← drop_rmaDataBytes s h, leAt, List.drop_drop] at hbyte
  exact hbyte

/-! ### A command's end (R311) -/

/-- RMA_CMD shows an operation and an index, and an error where there was one. -/
def Shows (t : State) (op i : Nat) (err : Bool) : Prop := rdFld t .rmaCmd 28 26 = op ∧ rdFld t .rmaCmd 17 0 = i ∧ (err = true → bit (rd t .rmaCmd) 29 = true)

theorem shows_rmaCmdDone (s : State) {op i : Nat} (hop : op < 8) (hi : i < 2 ^ 18) (ok : Bool) : Shows (rmaCmdDone s op i ok) op i (!ok) := by
  have hword : rd (rmaCmdDone s op i ok) .rmaCmd = BitVec.ofNat 32 ((if ok then rdFld s .rmaCmd 29 29 else 1) * 2 ^ 29 + op * 2 ^ 26 + i) :=
    ((irqCores_keeps (.refl _) netCores 19 (.self _)).rd_eq rfl).trans (rd_wr_self ..)
  have hlow : rdFld s .rmaCmd 29 29 < 2 := Nat.mod_lt _ (by decide)
  unfold Shows
  refine ⟨?_, ?_, fun herr => ?_⟩
  · rw [rdFld, hword, fld, BitVec.toNat_ofNat]
    split <;> omega
  · rw [rdFld, hword, fld, BitVec.toNat_ofNat]
    split <;> omega
  · have hfalse : ok = false := by simpa using herr
    rw [hword, hfalse, if_neg Bool.false_ne_true, bit, Nat.testBit_eq_decide_div_mod_eq, BitVec.toNat_ofNat, decide_eq_true_iff]
    omega

theorem rma_rmaCmdDone (s : State) (op i : Nat) (ok : Bool) : (rmaCmdDone s op i ok).rma = s.rma := rma_irqCores ..

theorem rd_rmaCmdDone (s : State) (op i k : Nat) (ok : Bool) : rd (rmaCmdDone s op i ok) (.rmaData k) = rd s (.rmaData k) :=
  (rmaCmdDone_keeps (.refl s) op i ok (.self _)).rd_eq rfl

section
variable {s : State} {m : Master} {op : Nat} {index : BitVec 18}

theorem rmaCmd_other (h : mayRmaCmd m = false) (ok : Bool) (f : State → State) : rmaCmd m op index s ok f = s := by rw [rmaCmd, h, Bool.not_false, if_pos rfl]

theorem rmaCmd_done (h : mayRmaCmd m = true) (f : State → State) : rmaCmd m op index s true f = rmaCmdDone (f s) op index.toNat true := by
  rw [rmaCmd, h, Bool.not_true, if_neg Bool.false_ne_true, if_pos rfl]

theorem rmaCmd_refused (h : mayRmaCmd m = true) (f : State → State) : rmaCmd m op index s false f = rmaCmdDone s op index.toNat false := by
  rw [rmaCmd, h, Bool.not_true, if_neg Bool.false_ne_true, if_neg Bool.false_ne_true]

/-- A command refused shows its error, and leaves the engine's state alone. -/
theorem refused_rmaCmd {c : Instr} {ok : Bool} {f : State → State} (hc : exec c s = .next (rmaCmd m op index s ok f)) (h : mayRmaCmd m = true) (hop : op < 8) (hok : ok = false) :
    Gives s c fun t => Shows t op index.toNat true ∧ t.rma = s.rma :=
  ⟨_, hc.trans (by rw [hok, rmaCmd_refused h]), shows_rmaCmdDone s hop index.isLt false, rma_rmaCmdDone ..⟩

/-- A command performed shows that, and what it has done. -/
theorem done_rmaCmd {c : Instr} {ok : Bool} {f : State → State} (hc : exec c s = .next (rmaCmd m op index s ok f)) (h : mayRmaCmd m = true) (hop : op < 8) (hok : ok = true)
    {P : State → Prop} (hp : ∀ t, Shows t op index.toNat false → t.rma = (f s).rma → (∀ k, rd t (.rmaData k) = rd (f s) (.rmaData k)) → P t) : Gives s c P :=
  ⟨_, hc.trans (by rw [hok, rmaCmd_done h]), hp _ (shows_rmaCmdDone _ hop index.isLt true) (rma_rmaCmdDone ..) fun k => rd_rmaCmdDone ..⟩

/-! ### Contexts read and written (Table RMA-5) -/

/-- The context's first 14 words. -/
def ctxHead (c : Ctx) : List Byte :=
  leBytes 1 c.state ++ leBytes 1 c.ver ++ leBytes 1 c.owner
    ++ leBytes 1 (boolNat (c.pinned || c.planned) + 2 * boolNat c.txPhase + 4 * boolNat c.rxPhase + 8 * boolNat c.ipv6 + 16 * boolNat c.hostStore)
    ++ leBytes 2 c.peerCid ++ leBytes 2 c.peerTag ++ leBytes 16 c.peerAddr.toNat ++ leBytes 2 c.peerPort ++ leBytes 2 c.mss ++ leBytes 1 c.deliver
    ++ leBytes 1 c.viols ++ leBytes 2 c.flow ++ leBytes 8 c.txCtr ++ leBytes 8 c.rxHi ++ leBytes 8 c.rxWin.toNat

theorem length_ctxHead (c : Ctx) : (ctxHead c).length = 56 := by simp only [ctxHead, List.length_append, length_leBytes]

theorem ctxBytes_eq (c : Ctx) : ctxBytes c
    = ctxHead c ++ leBytes 4 c.txPsn ++ leBytes 4 c.rxPsn ++ leBytes 4 c.recvKey.toNat ++ leBytes 2 c.keySlot ++ List.replicate 186 0 := by
  unfold ctxBytes ctxHead
  rfl

theorem ctxBytes_words (c : Ctx) : ctxBytes c = ctxHead c ++ (leBytes 4 c.txPsn ++ (leBytes 4 c.rxPsn ++ (leBytes 4 c.recvKey.toNat ++ (leBytes 2 c.keySlot ++ List.replicate 186 0)))) := by
  rw [ctxBytes_eq, List.append_assoc, List.append_assoc, List.append_assoc, List.append_assoc]

theorem leAt_prefix {head : List Byte} {k : Nat} (h : head.length = k) (rest : List Byte) (off n : Nat) : leAt (head ++ rest) (k + off) n = leAt rest off n := by
  rw [leAt, ← h, List.drop_append, List.drop_of_length_le (Nat.le_add_right ..), List.nil_append, Nat.add_sub_cancel_left, leAt]

theorem leAt_ctxBytes (c : Ctx) : leAt (ctxBytes c) 56 4 = c.txPsn % 256 ^ 4 ∧ leAt (ctxBytes c) 60 4 = c.rxPsn % 256 ^ 4 ∧ leAt (ctxBytes c) 64 4 = c.recvKey.toNat % 256 ^ 4 := by
  have hlen := length_ctxHead c
  rw [ctxBytes_words]
  refine ⟨(leAt_prefix hlen _ 0 4).trans (leAt_leBytes ..), (leAt_prefix hlen _ 4 4).trans ?_, (leAt_prefix hlen _ 8 4).trans ?_⟩
  · rw [leAt_skip (Nat.le_refl 4), Nat.sub_self, leAt_leBytes]
  · rw [leAt_skip (by decide : 4 ≤ 8), leAt_skip (Nat.le_refl 4), Nat.sub_self, leAt_leBytes]

/-- They are among the words that RMA_DATA shows. -/
theorem words_ctxBytes (c : Ctx) : 16 < (ctxBytes c).length / 4 := by
  rw [ctxBytes_words]
  simp only [List.length_append, length_leBytes, length_ctxHead, List.length_replicate]
  omega

theorem ofNat_mod_word (n : Nat) : BitVec.ofNat 32 (n % 256 ^ 4) = BitVec.ofNat 32 n := BitVec.eq_of_toNat_eq (by rw [BitVec.toNat_ofNat, BitVec.toNat_ofNat]; exact Nat.mod_mod ..)

/-- A fetch that starts, or fails at once, changes of the engine's state the fetches and what is parked. -/
theorem rma_fetchStart (s : State) (cid : Nat) : (fetchStart s cid).rma = { s.rma with fetching := (fetchStart s cid).rma.fetching, parked := (fetchStart s cid).rma.parked } := by
  unfold fetchStart fetchFail
  split
  · rfl
  · dsimp only
    split
    · rw [rma_irqCores]
      rfl
    · rfl

theorem boolNat_le (b : Bool) : boolNat b ≤ 1 := by cases b <;> decide

/-- Owner and flags of an entry, as the second word shows them. -/
theorem leAt_ownerWord (key owner flags : Nat) (hflags : flags < 256) (rest : List Byte) :
    leAt (leBytes 4 key ++ (leBytes 1 owner ++ (leBytes 1 flags ++ (leBytes 2 0 ++ rest)))) 4 4 = owner % 256 + 256 * flags := by
  rw [leAt_skip (Nat.le_refl 4), Nat.sub_self, leAt, List.drop_zero]
  simp [leBytes, leNat, Nat.mod_eq_of_lt hflags]

section
variable (h : mayRmaCmd m = true)
include h

theorem gives_rmaReadContext (hi : index.toNat < 65536) : Gives s (.rmaReadContext m index) fun t => Shows t 0 index.toNat false ∧ t.rma = s.rma
    ∧ rd t (.rmaData 14) = BitVec.ofNat 32 (ctxOf s index.toNat).txPsn ∧ rd t (.rmaData 15) = BitVec.ofNat 32 (ctxOf s index.toNat).rxPsn
    ∧ rd t (.rmaData 16) = (ctxOf s index.toNat).recvKey := by
  obtain ⟨htx, hrx, hkey⟩ := leAt_ctxBytes (ctxOf s index.toNat)
  have hlen := words_ctxBytes (ctxOf s index.toNat)
  refine done_rmaCmd (op := 0) rfl h (by decide) (decide_eq_true hi) fun t hshows hrma hdata => ⟨hshows, hrma.trans (rma_putRmaData ..), ?_, ?_, ?_⟩
  · rw [hdata, rd_putRmaData s (by omega), htx, ofNat_mod_word]
  · rw [hdata, rd_putRmaData s (by omega), hrx, ofNat_mod_word]
  · rw [hdata, rd_putRmaData s hlen, hkey, ofNat_mod_word, BitVec.ofNat_toNat, BitVec.setWidth_eq]

theorem gives_rmaWriteContext (hi : index.toNat < 65536) : Gives s (.rmaWriteContext m index) fun t => Shows t 1 index.toNat false
    ∧ (ctxOf t index.toNat).txPsn = (rd s (.rmaData 14)).toNat ∧ (ctxOf t index.toNat).rxPsn = (rd s (.rmaData 15)).toNat
    ∧ (ctxOf t index.toNat).recvKey = rd s (.rmaData 16) ∧ (ctxOf t index.toNat).keySlot = (ctxOf s index.toNat).keySlot
    ∧ (ctxOf t index.toNat).pinned = (ctxOf s index.toNat).pinned := by
  refine done_rmaCmd (op := 1) rfl h (by decide) (decide_eq_true hi) fun t hshows hrma _ => ⟨hshows, ?_⟩
  rw [ctxOf_of_rma hrma, ctxOf_onCtx_self]
  refine ⟨leAt_rmaDataBytes s (k := 14) (by decide), leAt_rmaDataBytes s (k := 15) (by decide), ?_, rfl, rfl⟩
  have hkey := leAt_rmaDataBytes s (k := 16) (by decide)
  rw [ctxFrom]
  dsimp only
  rw [hkey, BitVec.ofNat_toNat, BitVec.setWidth_eq]

/-! ### Contexts pinned (R300) -/

theorem gives_rmaPin (hi : index.toNat < 65536) (hroom : (ctxOf s index.toNat).pinned = true ∨ (ctxOf s index.toNat).planned = true ∨ pinnedCount s < 2048) :
    Gives s (.rmaPin m index) fun t => Shows t 4 index.toNat false ∧ (ctxOf t index.toNat).pinned = true := by
  have hok : (decide (index.toNat < 65536) && ((ctxOf s index.toNat).pinned || (ctxOf s index.toNat).planned || decide (pinnedCount s < 2048))) = true := by
    rw [decide_eq_true hi, Bool.true_and]
    rcases hroom with hroom | hroom | hroom <;> simp [hroom]
  refine done_rmaCmd (op := 4) rfl h (by decide) hok fun t hshows hrma _ => ⟨hshows, ?_⟩
  have hctxs : t.rma.ctxs = (onCtx s index.toNat fun c => { c with pinned := true }).rma.ctxs := by
    rw [hrma]
    split
    · rfl
    · rw [rma_fetchStart]
  rw [ctxOf, hctxs, ← ctxOf, ctxOf_onCtx_self]

theorem gives_rmaPin_full (hpinned : (ctxOf s index.toNat).pinned = false) (hplanned : (ctxOf s index.toNat).planned = false) (hfull : 2048 ≤ pinnedCount s) :
    Gives s (.rmaPin m index) fun t => Shows t 4 index.toNat true ∧ t.rma = s.rma :=
  refused_rmaCmd rfl h (by decide) (by rw [hpinned, hplanned, decide_eq_false (Nat.not_lt.2 hfull), Bool.or_self, Bool.or_self, Bool.and_false])

theorem gives_rmaUnpin (hi : index.toNat < 65536) : Gives s (.rmaUnpin m index) fun t => Shows t 5 index.toNat false
    ∧ ctxOf t index.toNat = { ctxOf s index.toNat with pinned := false } :=
  done_rmaCmd (op := 5) rfl h (by decide) (decide_eq_true hi) fun t hshows hrma _ => ⟨hshows, by rw [ctxOf_of_rma hrma, ctxOf_onCtx_self]⟩

/-! ### Region entries read and written (Table RMA-6) -/

theorem gives_rmaReadRegion : Gives s (.rmaReadRegion m index) fun t => Shows t 2 index.toNat false ∧ t.rma = s.rma ∧ rd t (.rmaData 0) = regionKey s index.toNat
    ∧ rdFld t (.rmaData 1) 7 0 = (regionEnt s index.toNat).owner % 256 ∧ bit (rd t (.rmaData 1)) 11 = (regionEnt s index.toNat).valid := by
  refine done_rmaCmd (op := 2) rfl h (by decide) rfl fun t hshows hrma hdata => ⟨hshows, hrma.trans (rma_putRmaData ..), ?_⟩
  have hlen : ∀ key owner flags base len, (leBytes 4 key ++ leBytes 1 owner ++ leBytes 1 flags ++ leBytes 2 0 ++ leBytes 8 base ++ leBytes 8 len ++ leBytes 8 0).length / 4 = 8 := by
    intros
    simp
  have hkey : rd t (.rmaData 0) = regionKey s index.toNat := by
    rw [hdata, rd_putRmaData s (by rw [hlen]; decide)]
    simp only [List.append_assoc, Nat.mul_zero, leAt_leBytes]
    rw [ofNat_mod_word, BitVec.ofNat_toNat, BitVec.setWidth_eq]
  have hread := boolNat_le (regionEnt s index.toNat).read
  have hwrite := boolNat_le (regionEnt s index.toNat).write
  have hatomic := boolNat_le (regionEnt s index.toNat).atomic
  have hvalid := boolNat_le (regionEnt s index.toNat).valid
  have hrevoking := boolNat_le (regionEnt s index.toNat).revoking.isSome
  have hword : (rd t (.rmaData 1)).toNat = (regionEnt s index.toNat).owner % 256 + 256 * (boolNat (regionEnt s index.toNat).read + 2 * boolNat (regionEnt s index.toNat).write
      + 4 * boolNat (regionEnt s index.toNat).atomic + 8 * boolNat (regionEnt s index.toNat).valid + 16 * boolNat (regionEnt s index.toNat).revoking.isSome) := by
    rw [hdata, rd_putRmaData s (by rw [hlen]; decide)]
    simp only [List.append_assoc, Nat.mul_one]
    rw [leAt_ownerWord _ _ _ (by omega), BitVec.toNat_ofNat]
    exact Nat.mod_eq_of_lt (by omega)
  refine ⟨hkey, ?_, ?_⟩
  · rw [rdFld, fld, hword]
    omega
  · have hbit : ((regionEnt s index.toNat).owner % 256 + 256 * (boolNat (regionEnt s index.toNat).read + 2 * boolNat (regionEnt s index.toNat).write
        + 4 * boolNat (regionEnt s index.toNat).atomic + 8 * boolNat (regionEnt s index.toNat).valid + 16 * boolNat (regionEnt s index.toNat).revoking.isSome)) / 2 ^ 11 % 2
        = boolNat (regionEnt s index.toNat).valid := by omega
    rw [bit, hword, Nat.testBit_eq_decide_div_mod_eq, hbit]
    cases (regionEnt s index.toNat).valid <;> rfl

end

/-! ### Region entries written (R303) -/

theorem fld_word (w : Word) : fld w 31 0 = w.toNat := by
  rw [fld, Nat.pow_zero, Nat.div_one]
  exact Nat.mod_eq_of_lt w.isLt

section
variable (s : State)

/-- Owner, base and length of the entry that RMA_DATA holds. -/
theorem leAt_owner : leAt (rmaDataBytes s) 4 1 = rdFld s (.rmaData 1) 7 0 :=
  (leAt_rmaDataBytes_byte s (k := 1) (j := 0) (by decide) (by decide)).trans rfl

theorem leAt_len : leAt (rmaDataBytes s) 16 8 = rdFld s (.rmaData 4) 31 0 + rdFld s (.rmaData 5) 31 0 * 2 ^ 32 := by
  rw [leAt_rmaDataBytes_two s (k := 4) (by decide), rdFld, rdFld, fld_word, fld_word]

theorem leAt_base : leAt (rmaDataBytes s) 8 8 % 2 ^ 40 = rdFld s (.rmaData 2) 31 0 + rdFld s (.rmaData 3) 31 0 % 256 * 2 ^ 32 := by
  have htwo : leAt (rmaDataBytes s) 8 8 = (rd s (.rmaData 2)).toNat + (rd s (.rmaData 3)).toNat * 2 ^ 32 := leAt_rmaDataBytes_two s (k := 2) (by decide)
  have hlow := (rd s (.rmaData 2)).isLt
  rw [htwo, rdFld, rdFld, fld_word, fld_word]
  omega

/-- The bits of the second byte of the second word: the permissions, and whether the entry is valid. -/
theorem testBit_flags {j : Nat} (h : j < 8) : (leAt (rmaDataBytes s) 5 1).testBit j = bit (rd s (.rmaData 1)) (8 + j) := by
  rw [leAt_rmaDataBytes_byte s (k := 1) (j := 1) (by decide) (by decide), bit]
  have hbyte : (rd s (.rmaData 1)).toNat / 256 ^ 1 % 256 = (rd s (.rmaData 1)).toNat / 2 ^ 8 % 2 ^ 8 := rfl
  rw [hbyte, Nat.testBit_mod_two_pow, decide_eq_true h, Bool.true_and, Nat.testBit_div_two_pow, Nat.add_comm]

end

section
variable (h : mayRmaCmd m = true) (hvalid : bit (rd s (.rmaData 1)) 11 = true)
include h hvalid

theorem gives_rmaWriteRegion (howner : rdFld s (.rmaData 1) 7 0 ≤ 12) (hfree : (regionEnt s index.toNat).revoking = none)
    (hfits : regionFits s (rdFld s (.rmaData 1) 7 0) (rdFld s (.rmaData 2) 31 0 + rdFld s (.rmaData 3) 31 0 % 256 * 2 ^ 32)
      (rdFld s (.rmaData 4) 31 0 + rdFld s (.rmaData 5) 31 0 * 2 ^ 32) = true) :
    Gives s (.rmaWriteRegion m index) fun t => Shows t 3 index.toNat false
      ∧ regionEnt t index.toNat = { tag := ((regionEnt s index.toNat).tag + 1) % 2 ^ 14, owner := rdFld s (.rmaData 1) 7 0, read := bit (rd s (.rmaData 1)) 8, write := bit (rd s (.rmaData 1)) 9, atomic := bit (rd s (.rmaData 1)) 10, valid := true, base := rdFld s (.rmaData 2) 31 0 + rdFld s (.rmaData 3) 31 0 % 256 * 2 ^ 32, len := rdFld s (.rmaData 4) 31 0 + rdFld s (.rmaData 5) 31 0 * 2 ^ 32 } := by
  have hflag : (leAt (rmaDataBytes s) 5 1).testBit 3 = true := (testBit_flags s (by decide)).trans hvalid
  refine done_rmaCmd (op := 3) rfl h (by decide) ?ok fun t hshows hrma _ => ⟨hshows, ?entry⟩
  case ok => rw [hfree, hflag, leAt_owner, leAt_base, leAt_len, hfits, decide_eq_true howner]; rfl
  case entry =>
    rw [regionEnt_of_rma hrma, regionEnt_setRegion_self, hflag, if_pos rfl, leAt_owner, leAt_base, leAt_len, testBit_flags s (by decide), testBit_flags s (by decide),
      testBit_flags s (by decide)]

theorem gives_rmaWriteRegion_refused (hfits : regionFits s (rdFld s (.rmaData 1) 7 0) (rdFld s (.rmaData 2) 31 0 + rdFld s (.rmaData 3) 31 0 % 256 * 2 ^ 32)
      (rdFld s (.rmaData 4) 31 0 + rdFld s (.rmaData 5) 31 0 * 2 ^ 32) = false) :
    Gives s (.rmaWriteRegion m index) fun t => Shows t 3 index.toNat true ∧ t.rma = s.rma := by
  have hflag : (leAt (rmaDataBytes s) 5 1).testBit 3 = true := (testBit_flags s (by decide)).trans hvalid
  refine refused_rmaCmd rfl h (by decide) ?_
  rw [hflag, leAt_owner, leAt_base, leAt_len, hfits, Bool.not_true, Bool.or_self, Bool.and_false]

end

end

/-- Settles O51: registrations and revocations set one entry and are answered; a command of RMA_CMD shows its operation, its index and its error beside what it has done. -/
theorem regionsRevocationsAndRmaCommands : Obligations.RegionsRevocationsAndRmaCommands := by
  unfold Obligations.RegionsRevocationsAndRmaCommands
  refine ⟨fun m base len read write atomic s h => ⟨fun i => gives_rmaReg h, gives_rmaReg_refused h⟩, fun m key s => ?revoke, fun index v s hv hnone => ?complete, fun m index s => ?cmd⟩
  case revoke =>
    intro i e h
    exact ⟨gives_rmaRevoke h, gives_rmaRevoke_refused h⟩
  case complete => exact ⟨gives_revokeComplete hv hnone, fun q hq => exec_revokeComplete_parked hv hq⟩
  case cmd =>
    intro i c shows
    refine ⟨fun hno cmd hcmd => ?other, fun h => ⟨fun hi => ⟨gives_rmaReadContext h hi, gives_rmaWriteContext h hi, gives_rmaPin h hi, gives_rmaPin_full h, gives_rmaUnpin h hi⟩,
      fun hi => ?beyond, gives_rmaReadRegion h, fun hvalid howner => ⟨gives_rmaWriteRegion h hvalid howner, gives_rmaWriteRegion_refused h hvalid⟩⟩⟩
    case other =>
      simp only [List.mem_cons, List.not_mem_nil, or_false] at hcmd
      rcases hcmd with rfl | rfl | rfl | rfl | rfl | rfl <;> exact congrArg Host.Outcome.next (rmaCmd_other hno _ _)
    case beyond =>
      have hbeyond : decide (index.toNat < 65536) = false := decide_eq_false (Nat.not_lt.2 hi)
      exact ⟨refused_rmaCmd rfl h (by decide) hbeyond, refused_rmaCmd rfl h (by decide) hbeyond, refused_rmaCmd rfl h (by decide) (by rw [hbeyond, Bool.false_and]),
        refused_rmaCmd rfl h (by decide) hbeyond⟩

end Sys2Proof.Machine
end
section
/-! SUPPORT. Timers of a connection (R294, R295, R297, R299): acknowledgements owed, packets sent again, and connections given up. -/
set_option Elab.async false
namespace Sys2Proof.Machine

section
variable {s t : State} {index : BitVec 16} {cid : Nat} {o : RmaOp}

/-! ### Acknowledgements owed (R297) -/

theorem gives_ackTimer (hopen : (ctxOf s index.toNat).state = cxOpen) (howed : 0 < (ctxOf s index.toNat).unacked) (hgoes : (ctxOf s index.toNat).stopped = false) :
    Gives s (.ackTimer index) fun t => (ctxOf t index.toNat).unacked = 0 ∧ OmfSent t index.toNat omAck fun q => q.psn = BitVec.ofNat 32 (ctxOf s index.toNat).rxPsn := by
  refine ⟨_, congrArg Host.Outcome.next (if_pos ⟨hopen, howed⟩), ?_, omfSent_sendAck hgoes⟩
  rw [(sent_sendAck s index.toNat).field Ctx.unacked fun _ _ _ _ _ => rfl, ctxOf_onCtx_self]

theorem exec_ackTimer_none (hnone : (ctxOf s index.toNat).unacked = 0) : exec (.ackTimer index) s = .next s :=
  congrArg Host.Outcome.next (if_neg fun h => by omega)

/-! ### Packets sent again (R297) -/

/-- The data of an operation's packets, where it has been read already. -/
theorem pktData_ready {bs : List Byte} (h : o.data = some bs) (s : State) (mss k : Nat) : ∃ bytes, pktData s mss o k = .ready bytes := by
  rw [pktData, h]
  dsimp only
  split
  · exact ⟨_, rfl⟩
  split
  · exact ⟨_, rfl⟩
  · exact ⟨_, rfl⟩

/-- One packet of an operation sent again, and counted. -/
def resendPkt (cid mss : Nat) (o : RmaOp) (r : State × Nat) (k : Nat) : State × Nat :=
  match pktData r.1 mss o k with
  | .ready bs => (sendPkt r.1 cid o.code (opPkt mss o k bs), r.2 + 1)
  | _ => r

theorem resendPkt_ready {cid mss k : Nat} {o : RmaOp} {r : State × Nat} {bs : List Byte} (h : pktData r.1 mss o k = .ready bs) :
    resendPkt cid mss o r k = (sendPkt r.1 cid o.code (opPkt mss o k bs), r.2 + 1) := by rw [resendPkt, h]

/-- Every packet of a list goes out again. -/
theorem sent_resendPkts {bs : List Byte} (hdata : o.data = some bs) (cid mss : Nat) (l : List Nat) (r : State × Nat) :
    Sent cid r.1 (l.foldl (resendPkt cid mss o) r).1 ∧ (l.foldl (resendPkt cid mss o) r).2 = r.2 + l.length := by
  induction l generalizing r with
  | nil => exact ⟨.refl _, rfl⟩
  | cons k rest ih =>
    obtain ⟨bytes, hready⟩ := pktData_ready hdata r.1 mss k
    rw [List.foldl_cons, resendPkt_ready hready]
    obtain ⟨hsent, hcount⟩ := ih (sendPkt r.1 cid o.code (opPkt mss o k bytes), r.2 + 1)
    exact ⟨(sent_sendPkt ..).trans hsent, by rw [hcount, List.length_cons]; omega⟩

/-- An operation whose packets are all requests sends those again that no acknowledgement covers. -/
theorem resendAll_alone (h : s.rma.ops = [o]) (hcid : o.cid = cid) (hsettling : o.settling = false) (hmore : o.acked < o.sent) (hcode : answered o.code = false)
    (hgoes : (ctxOf s cid).stopped = false) (hthawed : stopsFrozen s o = false) :
    resendAll s cid = ((List.range (o.sent - o.acked)).map (· + o.acked)).foldl (resendPkt cid (ctxOf s cid).mss o) (s, 0) := by
  have hmine : s.rma.ops.filter (fun o => o.cid == cid) = [o] := by simp [h, hcid]
  have hgo : ¬(o.settling || decide (o.sent = 0) || (ctxOf s cid).stopped || stopsFrozen s o) = true := by
    rw [hsettling, hgoes, hthawed, decide_eq_false (by omega)]
    decide
  have hrequest : ¬((o.code == omReadReq || o.code == 0x30) && decide (1 ≤ o.acked)) = true := by
    have hread : o.code ≠ omReadReq := fun h => by rw [h] at hcode; exact absurd hcode (by decide)
    have hverb : o.code ≠ 0x30 := fun h => by rw [h] at hcode; exact absurd hcode (by decide)
    simp [hread, hverb]
  rw [resendAll, hmine, List.foldl_cons, List.foldl_nil, resendOp]
  dsimp only
  rw [if_neg hgo, if_neg hrequest, hcode, if_neg Bool.false_ne_true]
  rfl

/-- Something sent has no answer yet: the timer counts. -/
theorem exec_retransmitTimeout (hops : s.rma.ops = [o]) (hcid : o.cid = index.toNat) (hmore : o.acked < o.sent) (hopen : (ctxOf s index.toNat).state = cxOpen)
    (hpaused : (ctxOf s index.toNat).paused = false) : exec (.retransmitTimeout index) s = .next
    (if retryMax s ≤ (ctxOf s index.toNat).retries then unfenceAll (endContext s index.toNat cxError rsTimeout)
     else count (resendAll (onCtx s index.toNat fun c => { c with retries := c.retries + 1 }) index.toNat).1 (.rmaCnt cnRetx)
      (resendAll (onCtx s index.toNat fun c => { c with retries := c.retries + 1 }) index.toNat).2) := by
  have hcounts : ¬((ctxOf s index.toNat).state ≠ cxOpen ∨ (ctxOf s index.toNat).paused = true ∨ outstanding s index.toNat = false) := by
    have hout : outstanding s index.toNat = true := by
      rw [outstanding, hops, List.any_cons, hcid, beq_self_eq_true, decide_eq_true (Nat.zero_lt_of_lt hmore), decide_eq_true hmore]
      rfl
    simp [hopen, hpaused, hout]
  exact congrArg Host.Outcome.next (if_neg hcounts)

section
variable (hops : s.rma.ops = [o]) (hcid : o.cid = index.toNat) (hsettling : o.settling = false) (hmore : o.acked < o.sent) (hcode : answered o.code = false)
  (hopen : (ctxOf s index.toNat).state = cxOpen) (hpaused : (ctxOf s index.toNat).paused = false)
include hops hcid hmore hopen hpaused

include hsettling hcode in
theorem gives_retransmitTimeout {bs : List Byte} (hretries : (ctxOf s index.toNat).retries < retryMax s) (hdata : o.data = some bs)
    (hgoes : (ctxOf s index.toNat).stopped = false) (hthawed : stopsFrozen s o = false) : Gives s (.retransmitTimeout index) fun t =>
    (ctxOf t index.toNat).retries = (ctxOf s index.toNat).retries + 1 ∧ rd t (.rmaCnt cnRetx) = satAdd (rd s (.rmaCnt cnRetx)) (o.sent - o.acked) ∧ t.rma.ops = [o] := by
  refine ⟨_, (exec_retransmitTimeout hops hcid hmore hopen hpaused).trans (congrArg Host.Outcome.next (if_neg (Nat.not_le.2 hretries))), ?_⟩
  have hctx := ctxOf_onCtx_self s index.toNat fun c => { c with retries := c.retries + 1 }
  have hstops : (ctxOf (onCtx s index.toNat fun c => { c with retries := c.retries + 1 }) index.toNat).stopped = false := by rw [hctx]; exact hgoes
  have hthawedU : stopsFrozen (onCtx s index.toNat fun c => { c with retries := c.retries + 1 }) o = false := hthawed
  have hopsU : (onCtx s index.toNat fun c => { c with retries := c.retries + 1 }).rma.ops = [o] := hops
  have hcountU : rd (onCtx s index.toNat fun c => { c with retries := c.retries + 1 }) (.rmaCnt cnRetx) = rd s (.rmaCnt cnRetx) := rfl
  beta_reduce
  generalize (onCtx s index.toNat fun c => { c with retries := c.retries + 1 }) = u at hctx hstops hthawedU hopsU hcountU
  obtain ⟨hsent, hcount⟩ := sent_resendPkts hdata index.toNat (ctxOf u index.toNat).mss ((List.range (o.sent - o.acked)).map (· + o.acked)) (u, 0)
  rw [← resendAll_alone hopsU hcid hsettling hmore hcode hstops hthawedU] at hsent hcount
  generalize resendAll u index.toNat = r at hsent hcount
  rw [List.length_map, List.length_range, Nat.zero_add] at hcount
  refine ⟨?_, ?_, ?_⟩
  · exact (hsent.field Ctx.retries fun _ _ _ _ _ => rfl).trans (congrArg Ctx.retries hctx)
  · rw [count, rd_wr_self, hcount, hsent.counts cnRetx (by decide), hcountU]
  · exact (congrArg RmaState.ops hsent.rma).trans hopsU

theorem gives_retransmitTimeout_last (hretries : retryMax s ≤ (ctxOf s index.toNat).retries) (hrings : s.rma.ringHeld = []) : Gives s (.retransmitTimeout index) fun t =>
    (ctxOf t index.toNat).state = cxError ∧ t.rma.ops = [] := by
  refine ⟨_, (exec_retransmitTimeout hops hcid hmore hopen hpaused).trans (congrArg Host.Outcome.next (if_pos hretries)), ?_⟩
  have hended := endedCtx_endContext s index.toNat cxError (status := rsTimeout) (by decide)
  rw [unfenceAll_none (by rw [hended.rma]; exact hrings)]
  refine ⟨by rw [hended.ctx], List.eq_nil_iff_forall_not_mem.2 fun x hx => ?_⟩
  obtain ⟨hin, hother⟩ := hended.ops x hx
  rw [hops, List.mem_singleton] at hin
  exact hother (hin ▸ hcid)

end

/-- A context all of whose packets have been formed sends none; if it is not cached, a fetch starts. -/
theorem pumpCtx_formed (h : ∀ o ∈ s.rma.ops, o.cid = cid → opPackets (ctxOf s cid).mss o ≤ o.sent) : (pumpCtx s cid).rma.ctxs = s.rma.ctxs ∧ (pumpCtx s cid).net = s.net := by
  have hnone : pumpOne s cid = none := by
    have hfind : s.rma.ops.find? (fun o => o.cid == cid && !o.settling && decide (o.sent < opPackets (ctxOf s cid).mss o)) = none :=
      List.find?_eq_none.2 fun o ho => by
        simp only [Bool.and_eq_true, beq_iff_eq, decide_eq_true_eq]
        exact fun ⟨⟨hcid, _⟩, hlt⟩ => absurd hlt (Nat.not_lt.2 (h o ho hcid))
    rw [pumpOne]
    dsimp only
    rw [hfind]
    exact ite_self none
  unfold pumpCtx
  split
  · rw [pumpTurns, pump, hnone]
    exact ⟨rfl, rfl⟩
  split
  · exact ⟨by rw [rma_fetchStart], (fetchStart_keeps (.refl s) cid (.self _)).net.eq rfl⟩
  · exact ⟨rfl, rfl⟩

/-- RNR_US after an RNR, a write of one packet goes out again. -/
theorem gives_rnrResend {bs : List Byte} {p : Nat} (hops : s.rma.ops = [o]) (hcid : o.cid = index.toNat) (hsettling : o.settling = false) (hacked : o.acked = 0)
    (hcode : o.code = omWrite) (hdata : o.data = some bs) (hpackets : opPackets (ctxOf s index.toNat).mss o = 1) (hsentOne : o.sent = 1) (hpsn : o.firstPsn = some p)
    (hpaused : (ctxOf s index.toNat).paused = true) (hgoes : (ctxOf s index.toNat).stopped = false) (hthawed : stopsFrozen s o = false) : Gives s (.rnrResend index) fun t =>
    (ctxOf t index.toNat).paused = false ∧ (ctxOf t index.toNat).retries = (ctxOf s index.toNat).retries
      ∧ OmfSent t index.toNat omWrite fun q => q.psn = BitVec.ofNat 32 (p % 2 ^ 32) ∧ q.pctr = BitVec.ofNat 64 (ctxOf s index.toNat).txCtr := by
  refine ⟨_, congrArg Host.Outcome.next (if_pos hpaused), ?_⟩
  have hctx := ctxOf_onCtx_self s index.toNat fun c => { c with paused := false }
  have hstops : (ctxOf (onCtx s index.toNat fun c => { c with paused := false }) index.toNat).stopped = false := by rw [hctx]; exact hgoes
  have hthawedU : stopsFrozen (onCtx s index.toNat fun c => { c with paused := false }) o = false := hthawed
  have hopsU : (onCtx s index.toNat fun c => { c with paused := false }).rma.ops = [o] := hops
  beta_reduce
  generalize (onCtx s index.toNat fun c => { c with paused := false }) = u at hctx hstops hthawedU hopsU
  rw [resendAll_alone hopsU hcid hsettling (by omega) (by rw [hcode]; rfl) hstops hthawedU, hacked, hsentOne]
  obtain ⟨bytes, hready⟩ := pktData_ready hdata u (ctxOf u index.toNat).mss 0
  have hone : ((List.range (1 - 0)).map (· + 0)).foldl (resendPkt index.toNat (ctxOf u index.toNat).mss o) (u, 0)
      = (sendPkt u index.toNat o.code (opPkt (ctxOf u index.toNat).mss o 0 bytes), 0 + 1) := resendPkt_ready (r := (u, 0)) hready
  rw [hone, hcode]
  have hsent := sent_sendPkt u index.toNat omWrite (opPkt (ctxOf u index.toNat).mss o 0 bytes)
  have hgone : OmfSent (sendPkt u index.toNat omWrite (opPkt (ctxOf u index.toNat).mss o 0 bytes)) index.toNat omWrite fun q =>
      q.psn = BitVec.ofNat 32 (p % 2 ^ 32) ∧ q.pctr = BitVec.ofNat 64 (ctxOf s index.toNat).txCtr := by
    refine omfSent_sendPkt hstops ⟨?_, ?_⟩
    · rw [opPkt, hpsn]
      rfl
    · rw [stamped, hctx]
  generalize sendPkt u index.toNat omWrite (opPkt (ctxOf u index.toNat).mss o 0 bytes) = v at hsent hgone
  have hopsV : v.rma.ops = [o] := by rw [hsent.rma]; exact hopsU
  obtain ⟨hctxs, hnet⟩ := pumpCtx_formed (s := v) (cid := index.toNat) fun x hx _ => by
    rw [hopsV, List.mem_singleton] at hx
    rw [hx, hsent.field Ctx.mss fun _ _ _ _ _ => rfl, hctx, hsentOne]
    exact Nat.le_of_eq hpackets
  have hkept : ctxOf (pumpCtx v index.toNat) index.toNat = ctxOf v index.toNat := by rw [ctxOf, hctxs, ctxOf]
  dsimp only
  rw [hkept]
  refine ⟨?_, ?_, hgone.mono (.of_net hnet)⟩
  · rw [hsent.field Ctx.paused fun _ _ _ _ _ => rfl, hctx]
  · rw [hsent.field Ctx.retries fun _ _ _ _ _ => rfl, hctx]

/-! ### Keys outlived (R294, R295) -/

theorem gives_rekeyTimeout (hrings : s.rma.ringHeld = []) (hstopped : (ctxOf s index.toNat).stopped = true) (hopen : (ctxOf s index.toNat).state = cxOpen) :
    Gives s (.rekeyTimeout index) fun t => (ctxOf t index.toNat).state = cxError ∧ ∀ o ∈ t.rma.ops, o.cid ≠ index.toNat := by
  refine ⟨_, congrArg Host.Outcome.next (if_pos ⟨hstopped, hopen⟩), ?_⟩
  have hended := endedCtx_endContext s index.toNat cxError (status := rsCounter) (by decide)
  rw [unfenceAll_none (by rw [hended.rma]; exact hrings)]
  exact ⟨by rw [hended.ctx], fun o ho => (hended.ops o ho).2⟩

theorem gives_kphaseWindowEnd (h : (ctxOf s index.toNat).oldOk = true) : Gives s (.kphaseWindowEnd index) fun t => ctxOf t index.toNat = { ctxOf s index.toNat with oldOk := false } :=
  ⟨_, congrArg Host.Outcome.next (if_pos h), ctxOf_onCtx_self ..⟩

end

end Sys2Proof.Machine
end
section
/-! SUPPORT. Context fetches, operation slots and rings (R300 to R302, R306, R312): O50. -/
set_option Elab.async false
namespace Sys2Proof.Machine

section
variable {s : State} {index : BitVec 16}

/-! ### Fetches (R300 to R302) -/

/-- A context fetched has entered the cache, and its frames leave parking. -/
def fetchedState (s : State) (cid : Nat) : State :=
  onRma s fun r => { r with cached := cid :: r.cached, fetching := r.fetching.filter (· ≠ cid), parked := r.parked.filter fun q => q.cid != cid }

theorem fetchDone_eq {cid : Nat} (hfetching : s.rma.fetching.contains cid = true) (hstore : (ctxOf s cid).hostStore = false ∨ fnLost s (backingFn (ctxOf s cid)) = false)
    (hnew : s.rma.cached.contains cid = false) (hroom : s.rma.cached.length < 4096) :
    fetchDone s cid = pumpCtx ((s.rma.parked.filter fun q => q.cid == cid).foldl (fun s q => processPkt q.code q.arr s) (fetchedState s cid)) cid := by
  have hcached : cacheIn s cid = some (onRma s fun r => { r with cached := cid :: r.cached }) := by
    rw [cacheIn, hnew, if_neg Bool.false_ne_true, if_pos hroom]
  have hlives : ¬((ctxOf s cid).hostStore && fnLost s (backingFn (ctxOf s cid))) = true := by rcases hstore with h | h <;> simp [h]
  rw [fetchDone, hfetching, Bool.not_true, if_neg Bool.false_ne_true, if_neg hlives, hcached]
  rfl

theorem gives_contextFetchDone {q : Parked} {addr : Nat} (hfetching : s.rma.fetching.contains index.toNat = true)
    (hstore : (ctxOf s index.toNat).hostStore = false ∨ fnLost s (backingFn (ctxOf s index.toNat)) = false) (hparked : s.rma.parked = [q]) (hcid : q.cid = index.toNat)
    (hcode : q.code = omWrite) (hnew : s.rma.cached.contains index.toNat = false) (hroom : s.rma.cached.length < 4096) (hops : s.rma.ops = [])
    (ha : Authentic s q.arr) (ho : InOrder s omWrite q.arr) (hg : Granted s q.arr q.arr.pkt.data.length addr (fun e => e.write) false true) :
    Gives s (.contextFetchDone index) fun t => t.rma.parked = [] ∧ t.rma.cached = index.toNat :: s.rma.cached ∧ t.rma.fetching = s.rma.fetching.filter (· ≠ index.toNat)
      ∧ rdBytes t addr q.arr.pkt.data.length = q.arr.pkt.data := by
  have hdone := fetchDone_eq hfetching hstore hnew hroom
  have hmine : (s.rma.parked.filter fun q => q.cid == index.toNat) = [q] := by simp [hparked, hcid]
  have hnone : (fetchedState s index.toNat).rma.parked = [] := by simp [fetchedState, onRma, hparked, hcid]
  rw [hmine, List.foldl_cons, List.foldl_nil, hcode] at hdone
  obtain ⟨u, v, hu, hcached, hv, ht⟩ := processPkt_write (s := fetchedState s index.toNat) (a := q.arr) ⟨ha.isOpen, ha.keyed, ha.unseen⟩ ⟨ho.next, ho.going, ho.lawful, ho.up⟩
    ⟨hg.entry, hg.path, hg.clean, hg.uncopied⟩
  generalize processPkt omWrite q.arr (fetchedState s index.toNat) = t at hdone ht
  have hrma : t.rma = { (fetchedState s index.toNat).rma with ctxs := t.rma.ctxs } := by rw [ht.rma, hv.rma, hu.rma, hcached]
  rw [pumpCtx_none (by rw [hrma]; exact fun o ho => absurd (hops ▸ ho : o ∈ []) List.not_mem_nil)] at hdone
  refine ⟨t, congrArg Host.Outcome.next hdone, ?_⟩
  beta_reduce
  rw [hrma]
  exact ⟨hnone, rfl, rfl, (ht.holds hv.holds).rdBytes⟩

theorem gives_contextFetchFail (hfetching : s.rma.fetching.contains index.toNat = true) : Gives s (.contextFetchFail index) fun t =>
    t.rma.parked = s.rma.parked.filter (fun q => q.cid != index.toNat) ∧ t.rma.fetching = s.rma.fetching.filter (· ≠ index.toNat)
      ∧ rd t (.rmaCnt cnFetchfail) = satAdd (rd s (.rmaCnt cnFetchfail)) 1 := by
  refine ⟨_, congrArg Host.Outcome.next (if_pos hfetching), ?_⟩
  beta_reduce
  rw [fetchFail, rma_irqCores, (irqCores_keeps (.refl _) netCores 17 (.self _)).rd_eq rfl]
  exact ⟨rfl, rfl, rd_wr_self ..⟩

/-- A fetch that starts is counted. -/
theorem rd_fetchStart {cid : Nat} (h : s.rma.fetching.contains cid = false) : rd (fetchStart s cid) (.rmaCnt cnMiss) = satAdd (rd s (.rmaCnt cnMiss)) 1 := by
  have hcounted : rd (count (onRma s fun r => { r with fetching := r.fetching ++ [cid] }) (.rmaCnt cnMiss) 1) (.rmaCnt cnMiss) = satAdd (rd s (.rmaCnt cnMiss)) 1 := rd_wr_self ..
  rw [fetchStart, h, if_neg Bool.false_ne_true]
  dsimp only
  split
  · rw [fetchFail, (irqCores_keeps (.refl _) netCores 17 (.self _)).rd_eq rfl, count, rd_wr_ne _ _ (fun h => absurd (Reg.rmaCnt.inj h) (by decide))]
    exact hcounted
  · exact hcounted

/-! ### Operations started (R306) -/

/-- An operation of a source other than a storage command, on a connection that is up and not cached, takes the lowest free slot and waits for its context. -/
theorem startOp_uncached {o : RmaOp} {k : Nat} (hup : ctxDown s o.cid = false) (hslot : freeSlot s = some k) (hplain : plainSource o) (hnew : s.rma.cached.contains o.cid = false) :
    startOp s o = fetchStart (onRma s fun r => { r with ops := r.ops ++ [{ o with slot := k }] }) o.cid := by
  have hany : (onRma s fun r => { r with ops := r.ops ++ [{ o with slot := k }] }).rma.ops.any (fun x => x.cid == o.cid) = true := by simp [onRma]
  have hwaits : (onRma s fun r => { r with ops := r.ops ++ [{ o with slot := k }] }).rma.cached.contains o.cid = false := hnew
  have hpump : pumpCtx (onRma s fun r => { r with ops := r.ops ++ [{ o with slot := k }] }) o.cid
      = fetchStart (onRma s fun r => { r with ops := r.ops ++ [{ o with slot := k }] }) o.cid := by
    rw [pumpCtx, hwaits, if_neg Bool.false_ne_true, if_pos hany]
  rw [startOp, hup, if_neg Bool.false_ne_true, hslot, ← hpump]
  rcases hplain with hsrc | ⟨_, _, _, hsrc⟩ <;> simp only [hsrc]

theorem gives_operationSlotGrant {o : RmaOp} {rest : List RmaOp} {k : Nat} (hwaits : s.rma.waitOps = o :: rest) (hslot : freeSlot s = some k) (hup : ctxDown s o.cid = false)
    (hsrc : o.src = .firmware) (hnew : s.rma.cached.contains o.cid = false) : Gives s .operationSlotGrant fun t =>
    t.rma.waitOps = rest ∧ t.rma.ops = s.rma.ops ++ [{ o with slot := k }]
      ∧ (s.rma.fetching.contains o.cid = false → rd t (.rmaCnt cnMiss) = satAdd (rd s (.rmaCnt cnMiss)) 1) := by
  have hexec : exec .operationSlotGrant s = .next (startOp (onRma s fun r => { r with waitOps := rest }) o) := by
    have hcode : exec .operationSlotGrant s = execOperationSlotGrant s := rfl
    rw [hcode, execOperationSlotGrant, hwaits, hslot]
    simp only [hsrc]
  refine ⟨_, hexec, ?_⟩
  beta_reduce
  rw [startOp_uncached (s := onRma s fun r => { r with waitOps := rest }) (k := k) hup hslot (.inl hsrc) hnew, rma_fetchStart]
  exact ⟨rfl, rfl, fun hidle => rd_fetchStart (s := onRma (onRma s fun r => { r with waitOps := rest }) fun r => { r with ops := r.ops ++ [{ o with slot := k }] }) hidle⟩

/-! ### Work requests (R306, R312) -/

variable {p : Fin 12}

/-- The engine takes no request of a ring that holds none. -/
theorem takeWork_empty {p : Nat} (h : rdFld s (.rmaWqpi p) 15 0 = rdFld s (.rmaWqci p) 15 0) (n : Nat) : takeWork n s p = s := by
  cases n with
  | zero => rfl
  | succ n =>
    rw [takeWork]
    dsimp only
    rw [h, beq_self_eq_true, Bool.or_true, Bool.true_or, Bool.true_or, Bool.true_or, if_pos rfl]

/-- Where the next work request stands in the plot's region. -/
def entryAddr (s : State) (p : Nat) : Nat := regionBase s p + ringBase s p + rdFld s (.rmaWqci p) 15 0 % ringN s p * 64

/-- A ring from which the engine may take a request. -/
structure RingReady (s : State) (p : Nat) : Prop where
  on : ringOn s p = true
  more : rdFld s (.rmaWqpi p) 15 0 ≠ rdFld s (.rmaWqci p) 15 0
  slotted : ringWaits s p = false
  unread : s.rma.ringReads.contains p = false
  unfenced : s.rma.ringHeld.any (fun e => e.1 == p) = false

theorem RingReady.goes {p : Nat} (h : RingReady s p) : ¬(!ringOn s p || rdFld s (.rmaWqpi p) 15 0 == rdFld s (.rmaWqci p) 15 0 || ringWaits s p || s.rma.ringReads.contains p
    || s.rma.ringHeld.any (fun e => e.1 == p)) = true := by
  rw [h.on, beq_false_of_ne h.more, h.slotted, h.unread, h.unfenced]
  decide

theorem takeWork_host (h : RingReady s p) (hhost : bit (rd s (.rmaRctl p)) 30 = false) (n : Nat) : takeWork (n + 1) s p
    = hostRead (onRma s fun r => { r with ringReads := r.ringReads ++ [p.val] }) (.ring p) (ringBase s p + rdFld s (.rmaWqci p) 15 0 % ringN s p * 64) 64 := by
  rw [takeWork]
  dsimp only
  rw [if_neg h.goes, hhost, if_neg Bool.false_ne_true]

theorem takeWork_device (h : RingReady s p) (hdevice : bit (rd s (.rmaRctl p)) 30 = true) (hmay : engineMay s (.plot p) (entryAddr s p) 64 false = true) (n : Nat) :
    takeWork (n + 1) s p = takeWork n (takeEntry s p (rdBytes s (entryAddr s p) 64)) p := by
  rw [entryAddr] at hmay ⊢
  rw [takeWork]
  dsimp only
  rw [if_neg h.goes, hdevice, if_pos rfl, dif_pos p.isLt, if_pos hmay]

/-- The ring's index has passed the request taken. -/
def entryPassed (s : State) (p : Nat) : State := wr s (.rmaWqci p) (BitVec.ofNat 32 ((rdFld s (.rmaWqci p) 15 0 + 1) % 65536))

/-- A request without a fence that passes its checks starts; one that fails them ends at once. -/
theorem takeEntry_unfenced {p : Nat} {e : List Byte} (h : leAt e 1 1 / 2 % 2 = 0) :
    ((workOp (entryPassed s p) p e).2 = none → takeEntry s p e = startOp (entryPassed s p) (workOp (entryPassed s p) p e).1)
      ∧ ∀ st, (workOp (entryPassed s p) p e).2 = some st → takeEntry s p e = finishOp (entryPassed s p) (workOp (entryPassed s p) p e).1 st 0 := by
  have hfree : ¬(leNat ((e.drop 1).take 1) / 2 % 2 = 1 ∧ ringFenced s p = true) := fun ⟨hfence, _⟩ => by
    rw [← leAt] at hfence
    omega
  rw [takeEntry, if_neg hfree, ← entryPassed]
  dsimp only
  generalize workOp (entryPassed s p) p e = r
  obtain ⟨o, st⟩ := r
  exact ⟨fun hnone => by dsimp only at hnone; rw [hnone], fun code hcode => by dsimp only at hcode; rw [hcode]⟩

/-- The checks that a work request passes (R306). -/
theorem workOp_good {p : Nat} {e : List Byte} (hcode : [1, 2, 3, 5, 6, 7].contains (leAt e 0 1) = true) (hopen : (ctxOf s (leAt e 2 2)).state = cxOpen)
    (howner : (ctxOf s (leAt e 2 2)).owner = p) (hlen : leAt e 24 4 ≤ 2 ^ 30) (hsend : leAt e 0 1 = omSend → leAt e 24 4 ≤ (ctxOf s (leAt e 2 2)).mss) : (workOp s p e).2 = none := by
  rw [workOp]
  dsimp only
  rw [hcode, Bool.not_true, if_neg Bool.false_ne_true, if_neg (fun h => h.elim (absurd hopen) (absurd howner)), if_neg]
  exact fun h => h.elim (fun h => by omega) fun ⟨hs, hlt⟩ => absurd (hsend hs) (Nat.not_le.2 hlt)

theorem workOp_badOp {p : Nat} {e : List Byte} (hcode : [1, 2, 3, 5, 6, 7].contains (leAt e 0 1) = false) : (workOp s p e).2 = some rsBadOp := by
  rw [workOp]
  dsimp only
  rw [hcode, Bool.not_false, if_pos rfl]

section
variable {m : Master} {i : BitVec 16}

/-- The ring's producer index has been written. -/
def wqpiWritten (s : State) (p : Nat) (i : BitVec 16) : State := wr s (.rmaWqpi p) (BitVec.ofNat 32 i.toNat)

theorem exec_workRequest (hmay : mayRing m p = true) : exec (.workRequest m p i) s = .next (takeWork (65535 + 1) (wqpiWritten s p i) p) :=
  congrArg Host.Outcome.next (if_pos hmay)

theorem rdFld_wqpiWritten (s : State) (p : Nat) (i : BitVec 16) : rdFld (wqpiWritten s p i) (.rmaWqpi p) 15 0 = i.toNat := by
  rw [rdFld, wqpiWritten, rd_wr_self, fld_low_half i.isLt]

theorem rd_wqpiWritten_ne (s : State) (p : Nat) (i : BitVec 16) {r : Reg} (h : .rmaWqpi p ≠ r) : rd (wqpiWritten s p i) r = rd s r := rd_wr_ne s _ h

theorem entryAddr_wqpiWritten (s : State) (p : Nat) (i : BitVec 16) : entryAddr (wqpiWritten s p i) p = entryAddr s p := by
  have hne : ∀ {r : Reg}, .rmaWqpi p ≠ r → rd (wqpiWritten s p i) r = rd s r := rd_wqpiWritten_ne s p i
  simp only [entryAddr, regionBase, ringBase, ringN, rdFld, hne, ne_eq, reduceCtorEq, not_false_eq_true]

theorem engineMay_wqpiWritten (s : State) (p : Nat) (i : BitVec 16) (q : Fin 12) (a n : Nat) (w : Bool) : engineMay (wqpiWritten s p i) (.plot q) a n w = engineMay s (.plot q) a n w := by
  have hne : ∀ {r : Reg}, .rmaWqpi p ≠ r → rd (wqpiWritten s p i) r = rd s r := rd_wqpiWritten_ne s p i
  have himage : imageOf (wqpiWritten s p i) q = imageOf s q := rfl
  simp only [engineMay, scratchPermits, scratchInside, scratchRefused, rgnGrants, inPlot, lpxPermits, lpxReserved, himage, regionOpen, regionFilling, ownsRegion, regionBase,
    regionSize, rdFld, hne, ne_eq, reduceCtorEq, not_false_eq_true]
  rfl

section
variable (hmay : mayRing m p = true) (hon : ringOn s p = true) (hnext : i.toNat = (rdFld s (.rmaWqci p) 15 0 + 1) % 65536) (hslotted : ringWaits s p = false)
  (hunread : s.rma.ringReads.contains p.val = false) (hunfenced : s.rma.ringHeld.any (fun e => e.1 == p.val) = false)
include hon hnext hslotted hunread hunfenced

theorem ringReady_wqpiWritten : RingReady (wqpiWritten s p i) p where
  on := by
    rw [ringOn, rd_wqpiWritten_ne s p i (by simp)]
    exact hon
  more := by
    have hlt : rdFld s (.rmaWqci p) 15 0 < 65536 := Nat.mod_lt _ (by decide)
    rw [rdFld_wqpiWritten, rdFld, rd_wqpiWritten_ne s p i (by simp), ← rdFld]
    omega
  slotted := hslotted
  unread := hunread
  unfenced := hunfenced

include hmay

theorem gives_workRequest_host (hhost : bit (rd s (.rmaRctl p)) 30 = false) : Gives s (.workRequest m p i) fun t =>
    rdFld t (.rmaWqpi p) 15 0 = i.toNat ∧ p.val ∈ t.rma.ringReads := by
  have hready := ringReady_wqpiWritten hon hnext hslotted hunread hunfenced
  refine ⟨_, (exec_workRequest hmay).trans (congrArg Host.Outcome.next (takeWork_host hready (by rw [rd_wqpiWritten_ne s p i (by simp)]; exact hhost) 65535)), ?_⟩
  have hkeeps := hostRead_keeps (.refl (onRma (wqpiWritten s p i) fun r => { r with ringReads := r.ringReads ++ [p.val] })) (.ring p)
    (ringBase (wqpiWritten s p i) p + rdFld (wqpiWritten s p i) (.rmaWqci p) 15 0 % ringN (wqpiWritten s p i) p * 64) 64 (.self _)
  beta_reduce
  rw [hkeeps.rdFld_eq rfl, hkeeps.rma.eq rfl]
  exact ⟨rdFld_wqpiWritten s p i, List.mem_append_right _ List.mem_cons_self⟩

/-- A request read from device memory is taken, and the ring is empty after it. -/
theorem exec_workRequest_device (hdevice : bit (rd s (.rmaRctl p)) 30 = true) (hread : engineMay s (.plot p) (entryAddr s p) 64 false = true) {t : State}
    (htaken : takeEntry (wqpiWritten s p i) p (rdBytes s (entryAddr s p) 64) = t) (hindices : rdFld t (.rmaWqpi p) 15 0 = rdFld t (.rmaWqci p) 15 0) :
    exec (.workRequest m p i) s = .next t := by
  have hready := ringReady_wqpiWritten hon hnext hslotted hunread hunfenced
  rw [exec_workRequest hmay, takeWork_device hready (by rw [rd_wqpiWritten_ne s p i (by simp)]; exact hdevice) (by rw [entryAddr_wqpiWritten, engineMay_wqpiWritten]; exact hread) 65535,
    entryAddr_wqpiWritten]
  have hbytes : rdBytes (wqpiWritten s p i) (entryAddr s p) 64 = rdBytes s (entryAddr s p) 64 := rdBytes_of_eq rfl rfl _ _
  rw [hbytes, htaken, takeWork_empty hindices]

end

/-- Both indices of the ring after the request. -/
theorem rdFld_entryPassed (hnext : i.toNat = (rdFld s (.rmaWqci p) 15 0 + 1) % 65536) : rdFld (entryPassed (wqpiWritten s p i) p) (.rmaWqpi p) 15 0 = i.toNat
    ∧ rdFld (entryPassed (wqpiWritten s p i) p) (.rmaWqci p) 15 0 = i.toNat := by
  constructor
  · rw [entryPassed, rdFld_wr_ne _ _ _ _ (by simp), rdFld_wqpiWritten]
  · rw [entryPassed, rdFld, rd_wr_self, fld_low_half (Nat.mod_lt _ (by decide)), rdFld, rd_wqpiWritten_ne s p i (by simp), ← rdFld, hnext]

theorem rd_entryPassed_ne (s : State) (p : Nat) (i : BitVec 16) {r : Reg} (hpi : .rmaWqpi p ≠ r) (hci : .rmaWqci p ≠ r) : rd (entryPassed (wqpiWritten s p i) p) r = rd s r := by
  rw [entryPassed, rd_wr_ne _ _ hci, rd_wqpiWritten_ne s p i hpi]

/-- A request without a fence that the engine may read, on a ring that may take it. -/
structure WorkRequested (m : Master) (p : Fin 12) (i : BitVec 16) (s : State) : Prop where
  may : mayRing m p = true
  on : ringOn s p = true
  next : i.toNat = (rdFld s (.rmaWqci p) 15 0 + 1) % 65536
  slotted : ringWaits s p = false
  unread : s.rma.ringReads.contains p.val = false
  unfenced : s.rma.ringHeld.any (fun e => e.1 == p.val) = false
  device : bit (rd s (.rmaRctl p)) 30 = true
  fenceless : leAt (rdBytes s (entryAddr s p) 64) 1 1 / 2 % 2 = 0
  readable : engineMay s (.plot p) (entryAddr s p) 64 false = true

theorem WorkRequested.exec (h : WorkRequested m p i s) {t : State} (htaken : takeEntry (wqpiWritten s p i) p (rdBytes s (entryAddr s p) 64) = t)
    (hindices : rdFld t (.rmaWqpi p) 15 0 = rdFld t (.rmaWqci p) 15 0) : exec (.workRequest m p i) s = .next t :=
  exec_workRequest_device h.may h.on h.next h.slotted h.unread h.unfenced h.device h.readable htaken hindices

/-- The operation of a good request waits in its slot for its context. -/
theorem gives_workRequest_starts {e : List Byte} (h : WorkRequested m p i s) (he : rdBytes s (entryAddr s p) 64 = e) {k : Nat} (hslot : freeSlot s = some k)
    (hcode : [1, 2, 3, 5, 6, 7].contains (leAt e 0 1) = true) (hopen : (ctxOf s (leAt e 2 2)).state = cxOpen) (howner : (ctxOf s (leAt e 2 2)).owner = p.val)
    (hlen : leAt e 24 4 ≤ 2 ^ 30) (hsend : leAt e 0 1 = omSend → leAt e 24 4 ≤ (ctxOf s (leAt e 2 2)).mss) (hnew : s.rma.cached.contains (leAt e 2 2) = false) :
    Gives s (.workRequest m p i) fun t => rdFld t (.rmaWqci p) 15 0 = i.toNat ∧ ∃ o, t.rma.ops = s.rma.ops ++ [o] ∧ o.slot = k ∧ o.code = leAt e 0 1
      ∧ o.cid = leAt e 2 2 ∧ o.rkey = BitVec.ofNat 32 (leAt e 4 4) ∧ o.roff = leAt e 8 8 ∧ o.laddr = leAt e 16 8 ∧ o.gen = rdFld s (.pltGen p) 15 0 := by
  obtain ⟨hpi, hci⟩ := rdFld_entryPassed h.next
  have hgen : rdFld (entryPassed (wqpiWritten s p i) p) (.pltGen p) 15 0 = rdFld s (.pltGen p) 15 0 :=
    congrArg (fld · 15 0) (rd_entryPassed_ne s p i (by simp) (by simp))
  have hrma : (entryPassed (wqpiWritten s p i) p).rma = s.rma := rfl
  have htaken := (takeEntry_unfenced (s := wqpiWritten s p i) (p := p) (e := e) (by rw [← he]; exact h.fenceless)).1
  generalize entryPassed (wqpiWritten s p i) p = x at hpi hci hgen hrma htaken
  have hctx : ∀ c, ctxOf x c = ctxOf s c := fun c => by rw [ctxOf, hrma, ctxOf]
  have hup : ctxDown x (workOp x p e).1.cid = false := by
    rw [ctxDown, hctx]
    exact Bool.and_eq_false_imp.2 fun hne => absurd hopen (bne_iff_ne.1 hne)
  have hslotX : freeSlot x = some k := by rw [freeSlot, hrma]; exact hslot
  have hstart := startOp_uncached (s := x) (o := (workOp x p e).1) (k := k) hup hslotX (.inr ⟨_, _, _, rfl⟩) (by rw [hrma]; exact hnew)
  have hgood : (workOp x p e).2 = none := workOp_good hcode (by rw [hctx]; exact hopen) (by rw [hctx]; exact howner) hlen (by rw [hctx]; exact hsend)
  have hkeeps := fetchStart_keeps (.refl (onRma x fun r => { r with ops := r.ops ++ [{ (workOp x p e).1 with slot := k }] })) (workOp x p e).1.cid (.self _)
  have hfetch := rma_fetchStart (onRma x fun r => { r with ops := r.ops ++ [{ (workOp x p e).1 with slot := k }] }) (workOp x p e).1.cid
  have hpiT := (hkeeps.rdFld_eq (r := .rmaWqpi p) (hi := 15) (lo := 0) rfl).trans hpi
  have hciT := (hkeeps.rdFld_eq (r := .rmaWqci p) (hi := 15) (lo := 0) rfl).trans hci
  refine ⟨_, h.exec (he.symm ▸ (htaken hgood).trans hstart) (hpiT.trans hciT.symm), hciT, { (workOp x p e).1 with slot := k }, ?_, rfl, rfl, rfl, rfl, rfl, rfl, hgen⟩
  rw [hfetch, ← hrma]
  rfl

/-- A failed operation of a ring in device memory: its record is posted whether or not it asked for one. -/
theorem finishOp_badOp {o : RmaOp} {p : Nat} {wrid : DWord} {signal : Bool} (hsrc : o.src = .ring p wrid signal) (hcurrent : rdFld s (.pltGen o.plot) 15 0 = o.gen)
    (hdevice : bit (rd s (.rmaRctl p)) 30 = true) (hmute : o.mute = false) : finishOp s o rsBadOp 0 = postRecord s p (cqRecord wrid rsBadOp 0 o.cid (opBytes o) 0 0) := by
  have hbad : (rsBadOp == rsOk) = false := rfl
  simp [finishOp, hsrc, hcurrent, hdevice, hmute, hbad]

/-- A request whose operation is none ends with BAD_OP, and its record follows. -/
theorem gives_workRequest_badOp {e : List Byte} (h : WorkRequested m p i s) (he : rdBytes s (entryAddr s p) 64 = e) (hcode : [1, 2, 3, 5, 6, 7].contains (leAt e 0 1) = false)
    (hroom : (rdFld s (.rmaCqpi p) 15 0 + 65536 - rdFld s (.rmaCqci p) 15 0) % 65536 < ringN s p) : Gives s (.workRequest m p i) fun t =>
    rdFld t (.rmaWqci p) 15 0 = i.toNat ∧ rdFld t (.rmaCqpi p) 15 0 = (rdFld s (.rmaCqpi p) 15 0 + 1) % 65536 ∧ t.rma.ops = s.rma.ops := by
  obtain ⟨hpi, hci⟩ := rdFld_entryPassed h.next
  have hkept : ∀ {r : Reg}, .rmaWqpi p ≠ r → .rmaWqci p ≠ r → rd (entryPassed (wqpiWritten s p i) p) r = rd s r := fun hpi hci => rd_entryPassed_ne s p i hpi hci
  have hrma : (entryPassed (wqpiWritten s p i) p).rma = s.rma := rfl
  have htaken := (takeEntry_unfenced (s := wqpiWritten s p i) (p := p) (e := e) (by rw [← he]; exact h.fenceless)).2
  generalize entryPassed (wqpiWritten s p i) p = x at hpi hci hkept hrma htaken
  have hend := finishOp_badOp (s := x) (o := (workOp x p e).1) rfl rfl (by rw [hkept (by simp) (by simp)]; exact h.device) rfl
  have hcqpi : rdFld x (.rmaCqpi p) 15 0 = rdFld s (.rmaCqpi p) 15 0 := congrArg (fld · 15 0) (hkept (by simp) (by simp))
  have hcqci : rdFld x (.rmaCqci p) 15 0 = rdFld s (.rmaCqci p) 15 0 := congrArg (fld · 15 0) (hkept (by simp) (by simp))
  have hsize : ringN x p = ringN s p := by rw [ringN, rdFld, hkept (by simp) (by simp), ← rdFld, ringN]
  have honX : ringOn x p = true := by rw [ringOn, hkept (by simp) (by simp)]; exact h.on
  have hposted := fun r => postRecord_room (s := x) (p := p) r honX (by rw [hcqpi, hcqci, hsize]; exact hroom)
  generalize cqRecord _ rsBadOp 0 _ _ 0 0 = rec at hend
  have hkeeps := postRecord_keeps (.refl x) p rec (.self _)
  have hpiT := (hkeeps.rdFld_eq (r := .rmaWqpi p) (hi := 15) (lo := 0) rfl).trans hpi
  have hciT := (hkeeps.rdFld_eq (r := .rmaWqci p) (hi := 15) (lo := 0) rfl).trans hci
  obtain ⟨hcount, hsame⟩ := hposted rec
  exact ⟨_, h.exec (he.symm ▸ (htaken _ (workOp_badOp hcode)).trans hend) (hpiT.trans hciT.symm), hciT, hcount.trans (by rw [hcqpi]), by rw [hsame, hrma]⟩

end

/-! ### Completion records read (R312) -/

section
variable {m : Master} {i : BitVec 16}

/-- The ring's consumer index of completions has been written. -/
def cqciWritten (s : State) (p : Nat) (i : BitVec 16) : State := wr s (.rmaCqci p) (BitVec.ofNat 32 i.toNat)

theorem rdFld_cqciWritten (s : State) (p : Nat) (i : BitVec 16) : rdFld (cqciWritten s p i) (.rmaCqci p) 15 0 = i.toNat := by
  rw [rdFld, cqciWritten, rd_wr_self, fld_low_half i.isLt]

theorem rd_cqciWritten_ne (s : State) (p : Nat) (i : BitVec 16) {r : Reg} (h : .rmaCqci p ≠ r) : rd (cqciWritten s p i) r = rd s r := rd_wr_ne s _ h

theorem exec_rmaCqci_denied (h : mayRing m p = false) : exec (.rmaCqci m p i) s = .next s := by
  have hcode : exec (.rmaCqci m p i) s = execRmaCqci m p i s := rfl
  rw [hcode, execRmaCqci, h]
  rfl

/-- Where no receive slot waits for its record to be read, the records held follow. -/
theorem exec_rmaCqci (hmay : mayRing m p = true) (hrecv : s.rma.recvRecs = []) : exec (.rmaCqci m p i) s = .next (drainRecs (65535 + 1) (cqciWritten s p i) p) := by
  have hcode : exec (.rmaCqci m p i) s = execRmaCqci m p i s := rfl
  have hnone : ∀ f : Nat × (Nat × Nat) → Bool, onRma s (fun r => { r with recvRecs := r.recvRecs.filter f }) = s := fun f => by
    rw [onRma, hrecv, List.filter_nil, ← hrecv]
  rw [hcode, execRmaCqci, hmay, hrecv]
  dsimp only [List.filter_nil, List.foldl_nil]
  rw [hnone, Bool.not_true, if_neg Bool.false_ne_true, cqciWritten]

theorem drainRecs_none {p : Nat} (h : s.rma.heldRecs = []) (n : Nat) : drainRecs n s p = s := by
  cases n with
  | zero => rfl
  | succ n => rw [drainRecs, h, List.find?_nil]

theorem gives_rmaCqci (hmay : mayRing m p = true) (hrecv : s.rma.recvRecs = []) (hheld : s.rma.heldRecs = []) : Gives s (.rmaCqci m p i) fun t =>
    rdFld t (.rmaCqci p) 15 0 = i.toNat ∧ t.rma = s.rma :=
  ⟨_, (exec_rmaCqci hmay hrecv).trans (congrArg Host.Outcome.next (drainRecs_none (s := cqciWritten s p i) hheld _)), rdFld_cqciWritten s p i, rfl⟩

theorem gives_rmaCqci_held {r : List Byte} (hmay : mayRing m p = true) (hrecv : s.rma.recvRecs = []) (hheld : s.rma.heldRecs = [(p.val, r)]) (hon : ringOn s p = true)
    (hroom : (rdFld s (.rmaCqpi p) 15 0 + 65536 - i.toNat) % 65536 < ringN s p) : Gives s (.rmaCqci m p i) fun t =>
    t.rma.heldRecs = [] ∧ rdFld t (.rmaCqpi p) 15 0 = (rdFld s (.rmaCqpi p) 15 0 + 1) % 65536 := by
  have hcqpi : rdFld (cqciWritten s p i) (.rmaCqpi p) 15 0 = rdFld s (.rmaCqpi p) 15 0 := congrArg (fld · 15 0) (rd_cqciWritten_ne s p i (by simp))
  have hsize : ringN (cqciWritten s p i) p = ringN s p := by rw [ringN, rdFld, rd_cqciWritten_ne s p i (by simp), ← rdFld, ringN]
  have honW : ringOn (cqciWritten s p i) p = true := by rw [ringOn, rd_cqciWritten_ne s p i (by simp)]; exact hon
  have hroomW : (rdFld (cqciWritten s p i) (.rmaCqpi p) 15 0 + 65536 - rdFld (cqciWritten s p i) (.rmaCqci p) 15 0) % 65536 < ringN (cqciWritten s p i) p := by
    rw [hcqpi, rdFld_cqciWritten, hsize]
    exact hroom
  have hheldW : (cqciWritten s p i).rma.heldRecs = [(p.val, r)] := hheld
  have hexec := exec_rmaCqci (i := i) hmay hrecv
  generalize cqciWritten s p i = x at hexec hcqpi honW hroomW hheldW
  obtain ⟨hcount, hsame⟩ := postRecord_room (s := onRma x fun y => { y with heldRecs := [] }) r honW hroomW
  have hnone : (postRecord (onRma x fun y => { y with heldRecs := [] }) p r).rma.heldRecs = [] := by rw [hsame]; rfl
  have hdrain : drainRecs (65535 + 1) x p = postRecord (onRma x fun y => { y with heldRecs := [] }) p r := by
    have hfind : [(p.val, r)].find? (fun e => e.1 == p.val) = some (p.val, r) := by simp
    have herase : [(p.val, r)].erase (p.val, r) = [] := by simp
    rw [drainRecs, hheldW, hfind]
    dsimp only
    rw [if_neg (Nat.not_le.2 hroomW), onRma, hheldW, herase, ← onRma.eq_def x fun y => { y with heldRecs := [] }]
    exact drainRecs_none hnone _
  exact ⟨_, hexec.trans (congrArg Host.Outcome.next hdrain), hnone, hcount.trans (by rw [← hcqpi]; rfl)⟩

end

end

/-- Settles O50: each timer ends or sends again what it counts for, a context fetched has its parked packets performed, and an operation started waits in its slot for its context. -/
theorem remoteTimersFetchesAndRings : Obligations.RemoteTimersFetchesAndRings := by
  unfold Obligations.RemoteTimersFetchesAndRings
  refine ⟨fun cid s => ?timers, fun cid s hfetching => ?fetches, fun m p index s => ?work, fun o rest k s hwaits hslot hup hsrc hnew => ?slots, fun m p index s => ?records⟩
  case timers =>
    intro i c
    refine ⟨gives_ackTimer, exec_ackTimer_none, fun o hops hcid hplain hsettling hmore hcode hopen hpaused hrings => ⟨?_, ?_⟩, ?_, ?_, gives_kphaseWindowEnd⟩
    · exact fun bs hretries hdata hgoes hthawed => gives_retransmitTimeout hops hcid hsettling hmore hcode hopen hpaused hretries hdata hgoes hthawed
    · exact fun hretries => gives_retransmitTimeout_last hops hcid hmore hopen hpaused hretries hrings
    · exact fun o bs p hops hcid hsettling hacked hcode hdata hpackets hsent hpsn hpaused hgoes hthawed =>
        gives_rnrResend hops hcid hsettling hacked hcode hdata hpackets hsent hpsn hpaused hgoes hthawed
    · exact fun _ _ hrings hstopped hopen => gives_rekeyTimeout hrings hstopped hopen
  case fetches =>
    refine ⟨fun q addr hstore hparked hcid _ hcode hnew hroom hops ha ho hg => ?_, gives_contextFetchFail hfetching⟩
    exact gives_contextFetchDone hfetching hstore hparked hcid hcode hnew hroom hops ha ho hg
  case work =>
    intro e hmay hon hnext hslotted hunread hunfenced
    refine ⟨gives_workRequest_host hmay hon hnext hslotted hunread hunfenced, fun hdevice hfenceless hread => ?_⟩
    have hrequest : WorkRequested m p index s := ⟨hmay, hon, hnext, hslotted, hunread, hunfenced, hdevice, hfenceless, hread⟩
    exact ⟨fun k hslot hcode hopen howner hlen hsend hnew => gives_workRequest_starts hrequest rfl hslot hcode hopen howner hlen hsend hnew,
      fun hcode hroom => gives_workRequest_badOp hrequest rfl hcode hroom⟩
  case slots => exact gives_operationSlotGrant hwaits hslot hup hsrc hnew
  case records =>
    exact ⟨exec_rmaCqci_denied, fun hmay hrecv => ⟨gives_rmaCqci hmay hrecv, fun r hheld hon hroom => gives_rmaCqci_held hmay hrecv hheld hon hroom⟩⟩

end Sys2Proof.Machine
end
